-- ==== Sys2Proof/Word.lean ====
section
/-! DEFINITION. The word and byte types of the part and nothing else: registers are 32 bits wide (R4), memory is
addressed by bytes, a DRAM line has 64 bytes. -/

namespace Sys2Proof

/-- A 32-bit register word (R4). -/
abbrev Word := BitVec 32

/-- A byte of memory. -/
abbrev Byte := BitVec 8

/-- A 64-byte line, byte 0 in the least significant bits. -/
abbrev Line := BitVec 512

end Sys2Proof
end

