-- ==== Sys2Proof/Machine/Maps.lean ====
section
/-! DEFINITION. Sparse maps by a natural key, as sorted lists of pairs that list nothing equal to the value an
unlisted key reads as. DRAM, the register words, the slab entries and the NAND records are held in them. -/

namespace Sys2Proof

/-- A sparse map from natural keys. -/
abbrev SMap (V : Type) := List (Nat × V)

/-- The value at a key; an unlisted key reads as `d`. -/
def SMap.get {V : Type} (d : V) (k : Nat) : SMap V → V
  | [] => d
  | (a, v) :: m => if a = k then v else SMap.get d k m

/-- A map without a key. -/
def SMap.erase {V : Type} (k : Nat) : SMap V → SMap V
  | [] => []
  | (a, v) :: m => if a = k then SMap.erase k m else (a, v) :: SMap.erase k m

/-- Put a pair in front of the first higher key. -/
def SMap.insert {V : Type} (k : Nat) (v : V) : SMap V → SMap V
  | [] => [(k, v)]
  | (a, w) :: m => if k < a then (k, v) :: (a, w) :: m else (a, w) :: SMap.insert k v m

/-- Set the value at a key; setting what an unlisted key reads as removes the entry. -/
def SMap.put {V : Type} [DecidableEq V] (d : V) (k : Nat) (v : V) (m : SMap V) : SMap V :=
  if v = d then m.erase k else (m.erase k).insert k v

/-- The canonical form: keys strictly rising, and no entry equal to what an unlisted key reads as. -/
def SMap.wf {V : Type} [DecidableEq V] (d : V) : SMap V → Bool
  | [] => true
  | [(_, v)] => decide (v ≠ d)
  | (a, v) :: (b, w) :: m => decide (a < b) && decide (v ≠ d) && SMap.wf d ((b, w) :: m)

/-- The canonical form where what an unlisted key reads as depends on the key (register words). -/
def SMap.wfBy {V : Type} [DecidableEq V] (d : Nat → V) : SMap V → Bool
  | [] => true
  | [(a, v)] => decide (v ≠ d a)
  | (a, v) :: (b, w) :: m => decide (a < b) && decide (v ≠ d a) && SMap.wfBy d ((b, w) :: m)

/-- The entries with a key in [lo, lo + n), rebased to 0. -/
def SMap.slice {V : Type} (lo n : Nat) (m : SMap V) : SMap V :=
  (m.filter (fun p => decide (lo ≤ p.1) && decide (p.1 < lo + n))).map (fun p => (p.1 - lo, p.2))

/-- Replace the entries with a key in [lo, lo + n) by those of a rebased map. -/
def SMap.paste {V : Type} (lo n : Nat) (sub m : SMap V) : SMap V :=
  m.filter (fun p => decide (p.1 < lo)) ++
    (sub.filter (fun p => decide (p.1 < n))).map (fun p => (p.1 + lo, p.2)) ++
    m.filter (fun p => decide (lo + n ≤ p.1))

end Sys2Proof
end

