-- ==== Sys2Proof/Machine/Operands.lean ====
section
/-! DEFINITION. What a command carries beyond plain numbers: who sends a register access, what a read of SRAM, DRAM or
NAND found, and the values that the part's inputs show when a measurement is taken. -/

namespace Sys2Proof

/-- Who accesses a register over the register map (R584): the Foreman cluster, or a host through BAR0. -/
inductive Sender where
  | foreman
  | host (port : Nat)
  deriving DecidableEq, Repr

/-- What reading a slab entry from the SRAM found (R122, R123). -/
inductive SramErr where
  /-- no error -/
  | none
  /-- a corrected error -/
  | corrected
  /-- an uncorrectable error in bits [31:0], or in bits [63:32], of the dirty mask -/
  | maskLo
  | maskHi
  /-- an uncorrectable error in the slab word, and the value it was read with -/
  | word (v : Word)
  deriving DecidableEq, Repr

/-- What a ledger update latches of the part's sensors, and how many setts of work the engines of each task class can start in
one period, which the manual does not give (R142, R164, R503). -/
structure LedgerIn where
  /-- the five on-die temperature readings in °C: hub, then channel dies 0 to 3 (R503) -/
  die : List Int
  /-- the cap of each class's demand, classes 1 to 7 in turn (R164) -/
  cap : List Nat
  deriving DecidableEq, Repr

/-- What one ADC scan samples (R462). -/
structure ScanIn where
  /-- the codes of S00 to S47 -/
  codes : List Nat
  /-- PG00 to PG31, one bit each -/
  pg : Nat
  /-- BENCH_SYNC and SEQ_UP -/
  sync : Bool
  up : Bool
  /-- PWR_LOSS_N has read high throughout the scan (R484) -/
  pwrOk : Bool
  /-- whether the gauge of PA, and of PB, answers (R133) -/
  gaugeA : Bool
  gaugeB : Bool
  deriving DecidableEq, Repr

/-- A gauge's answer (R126): Voltage in mV, Current in mA, RemainingCapacity, FullChargeCapacity and DesignCapacity in units of
10 mWh, Temperature in 0.1 K, BatteryStatus, CycleCount, DeviceChemistry (1 LIC, 2 LION, else another), and BatteryMode's
CAPACITY_MODE as read back. Design capacity, chemistry and mode are read at qualification only. -/
structure GaugeIn where
  mv : Nat
  ma : Int
  rc : Nat
  fcc : Nat
  dc : Nat
  temp : Nat
  status : Nat
  cycles : Nat
  chem : Nat
  mode : Bool
  deriving DecidableEq, Repr

/-- A record of a save whose program failed: the sett or the record's ordinal, the NAND channel of the page, and whether the
second try failed too (R200). -/
structure RecFail where
  which : Nat
  chan : Nat
  again : Bool
  deriving DecidableEq, Repr

/-- How the carve-out was written (R197, R200, R312). -/
structure CarveIn where
  /-- carve-out lines whose DRAM read was uncorrectable: channel, and line of the carve-out -/
  bad : List (Nat × Nat)
  /-- CARVE records whose program failed, by their place in the carve-out's order -/
  failed : List RecFail
  /-- CARVE records of which a page's two cipher results differed, and whether they did again on the next pair (R200) -/
  mismatch : List (Nat × Bool)
  deriving DecidableEq, Repr

/-- How the save walk went (R194, R195, R199, R200). -/
structure WalkIn where
  /-- lines whose DRAM read was uncorrectable: sett * 1,024 + line -/
  bad : List Nat
  /-- stripes issued when the walk stopped; it counts only once END reads ENERGY (R199) -/
  issued : Nat
  /-- DRAM channels whose supply failed, each with the place in the walk's order from which its setts were left (R200) -/
  dch : List (Nat × Nat)
  /-- NAND channels whose supply failed (R200) -/
  nch : List Nat
  /-- setts whose record met a program failure (R200) -/
  failed : List RecFail
  /-- setts of which a page's two cipher results differed, and whether they did again on the next pair (R200) -/
  mismatch : List (Nat × Bool)
  deriving DecidableEq, Repr

/-- What the reads of a rebuild found (R122, R258 to R265). -/
structure ResIn where
  /-- the page after the highest anchor was programmed on both channels and fails its tag on both (R261) -/
  anchorBad : Bool
  /-- a CARVE record of the save fails its checks (R263) -/
  carveBad : Bool
  /-- a MANIFEST record, or the MARK record, of the save fails its checks (R187, R261) -/
  manBad : Bool
  markBad : Bool
  /-- earlier saves a CARVE record of which fails its checks (R262) -/
  badSaves : List Nat
  /-- setts whose SAVE record fails its checks (R187, R266) -/
  badRecs : List Nat
  /-- slab entries with an SRAM error, and what their reads found (R122) -/
  sram : List (Nat × SramErr)
  deriving DecidableEq, Repr

/-- What reading one page through the retry ladder found (R221, R237 to R239). -/
structure PageTry where
  /-- its count of zero bits is that of an erased page (R221) -/
  erased : Bool
  /-- the read at which every codeword decoded: 0 the first, 1 to 6 a retry, 7 the soft decode; none: none of them -/
  rung : Option Nat
  /-- bits corrected in each codeword of the page -/
  cw : List Nat
  /-- errors in each direction at V1 to V7, or at S in the first place: flips up less flips down (R238) -/
  dir : List Int
  deriving DecidableEq, Repr

/-- What a read of a sett's pages from NAND gave after the retry ladder and the stripe rebuild (R239, R240, R269, R300). -/
inductive PageRead where
  /-- every page was read -/
  | ok
  /-- no copy of a page could be read -/
  | lost
  /-- what each page's own reads found, and where it needs a rebuild those of the stripe's other eight pages, by ascending channel -/
  | pages (tries : List (PageTry × List PageTry))
  deriving DecidableEq, Repr

/-- A NAND page read (R237 to R240). -/
structure NandRead where
  channel : Nat
  target : Nat
  block : Nat
  page : Nat
  /-- the page's own reads -/
  page0 : PageTry
  /-- where a rebuild is needed, the reads of the stripe's other eight pages, by ascending channel (R240) -/
  others : List PageTry
  /-- a read that a waiting requester needs (R241) -/
  demand : Bool
  deriving DecidableEq, Repr

/-- What an erase covers: a lode of a stripe group, or a single block of a die (R226). -/
inductive EraseOf where
  | lode (group num : Nat)
  | block (channel target num : Nat)
  deriving DecidableEq, Repr

/-- What a HELLO carries (R435, R438). -/
structure HelloIn where
  pairId : Nat
  role : Nat
  digest : BitVec 128
  epoch : BitVec 64
  solo : Bool
  chip : Nat
  /-- the sender's restore was FRESH (R453) -/
  fresh : Bool
  deriving DecidableEq, Repr

/-- The PEC byte of a write to TW0 (R548). -/
inductive PecIn where
  | absent | good | bad
  deriving DecidableEq, Repr

/-- How a controller port's transaction ended (R556, R560, R561). -/
inductive TwRes where
  | ok | nackAddr | nackData | pec
  deriving DecidableEq, Repr

/-- What training at boot and the straps' surroundings show to the boot ROM and the firmware (R566, R257). -/
structure BootIn where
  /-- DRAM ranks that fail training: channel * 4 + k (R310) -/
  deadRanks : List Nat
  /-- NAND channels that fail training (R252) -/
  deadNand : List Nat
  /-- lane pairs whose known-answer test fails at boot (R414) -/
  badPairs : List Nat
  /-- neither copy of the key store verifies (R419) -/
  noStore : Bool := false
  deriving DecidableEq, Repr

/-- Instructions of the test port (R610, R611). -/
inductive Tap where
  | bypass | idcode | sample | extest | clamp | highz | railset
  /-- any other instruction code -/
  | other
  deriving DecidableEq, Repr

end Sys2Proof
end

