-- ==== Sys2Proof/Syntax.lean ====
section
/-! DEFINITION. The commands the block takes, one constructor per row of the table of operations and events. -/

namespace Sys2Proof

/-- A command: a register access, a bus or link event, a pin event, or the end of one of the part's own operations. -/
inductive Instr where
  /-- A write to a register field that has no row of its own takes effect according to its access code, including
  sub-word, reserved, clamped and retention-island cases (R7). `who` writes `bytes` bytes at byte address `addr`;
  the bytes stand at the low end of `data`. -/
  | registerWrite (who : Sender) (addr bytes : Nat) (data : BitVec 64)
  /-- A host BAR0 access outside its permitted ranges completes without error, reads 0, and is counted in BED_DENY
  with its address (R587). A BAR0 access of the host of `port`: `bytes` bytes at byte address `addr`; a write gives
  the bytes at the low end of `data`. -/
  | deniedHostAccess (port addr : Nat) (write : Bool) (bytes : Nat := 4) (data : BitVec 64 := 0)
  /-- Writing 1 to BED_DENY.CLEAR sets the denied-access count to 0 (R589). -/
  | bedDenyClear
  /-- Writing 1 to BED_DROP.CLEAR sets the dropped-WO-write count to 0 (R589). -/
  | bedDropClear
  /-- Auxiliary 3.3 V or a pack appears with no power before, starting the Bedrock domain from Off with no shadow
  (R8). The strap levels sampled. -/
  | coldReset (bset baddr : Nat) (testen : Bool)
  /-- Auxiliary 3.3 V is absent and both packs are absent or spent, so the chip goes from Bedrock to Off (R500). -/
  | bedrockPowerLoss
  /-- A CXL.mem read looks up its sett and returns the newest looked-up data, poison, or waits for a parked write or
  a fetch (R393). `devs` has a bit per DRAM device whose bits of the line were found in error. -/
  | memRd (port tag dpa devs : Nat) (sram : SramErr)
  /-- A full-line CXL.mem write is accepted into the write buffer, looked up, admitted or parked, and completed
  after its dirty bit is set (R21). -/
  | memWr (port tag dpa : Nat) (data : Line) (poison : Bool) (sram : SramErr)
  /-- A partial CXL.mem write changes only its enabled bytes through read-modify-write and is admitted like a full
  write (R25). `mask` enables bytes; `devs` as in MEM_RD, for the read before the write. -/
  | memWrPtl (port tag dpa : Nat) (data : Line) (mask : BitVec 64) (devs : Nat) (sram : SramErr)
  /-- In its round-robin turn, ADM admits the head of a fresh queue while admission conditions hold, releasing later
  entries for the same sett (R156). `bad`: a fresh queue has an uncorrectable SRAM error. -/
  | parkedWriteAdmit (bad : Bool := false)
  /-- Write data held in a port write buffer crosses the seam and is written to DRAM with ECC, freeing its buffer
  entry (R21). The write of `port` that carries `tag`; `crc`: a command-parity or write-CRC retry failed twice;
  `bufErr`: the entry of the write buffer was uncorrectable. -/
  | dataWrittenToDram (port tag : Nat) (crc : Bool := false) (bufErr : Bool := false)
  /-- The oldest parked write's age passes WARN_AGE, setting ADM_FQp.OLD and raising the port's source (R175). -/
  | freshQueueAgeWarn (port : Nat)
  /-- A Global Persistent Flush Phase 1 request is answered at once, since there is no cache to write back (R33). -/
  | gpfPhase1 (port : Nat)
  /-- A Global Persistent Flush Phase 2 request drains the port's admitted writes into DRAM, then responds (R33). -/
  | gpfPhase2 (port : Nat)
  /-- A CXL Reset of a face looks up pending writes, discards parked and waiting writes, drains admitted ones, and
  resets link, IDE and mailbox state (R320). -/
  | cxlReset (face : Nat)
  /-- A port's link goes down; admitted writes are drained, parked and waiting writes are discarded, and the port
  retrains (R327). -/
  | linkDown (port : Nat)
  /-- A host port's link trains at the best permitted rate and width, and requests resume (R314). The rate and width
  codes that both ends reached; rate 0: training failed. -/
  | linkTrained (port rate width : Nat)
  /-- A port that failed to train retries every 32,768 ticks (R314). -/
  | linkTrainRetry (port : Nat)
  /-- PERST_N asserts on a port, holding its link in reset and handling its writes as for a link-down (R601). -/
  | perstAssert (port : Nat)
  /-- PERST_N releases, and the port's link trains once its island is ON (R601). -/
  | perstRelease (port : Nat)
  /-- The host programs a port's IDE keys with CXL IDE key-programming messages over an SPDM session (R325). `io`:
  the PCIe IDE selective stream whose keys are programmed; none for the CXL.mem stream. -/
  | ideKeyProgramming (port : Nat) (io : Option Nat := none)
  /-- An IDE integrity failure makes the stream insecure, drops unreleased flits and takes the link down (R326).
  `held`: requests that the skid buffer held. -/
  | ideIntegrityFailure (port : Nat) (held : Nat := 0)
  /-- Mailbox Identify returns the device identity for the face (R332). -/
  | identify (face : Nat)
  /-- Mailbox Background Operation Status reports the state of the face's background command (R332). -/
  | backgroundOperationStatus (face : Nat)
  /-- Mailbox Get Event Records returns records from one of the face's four event logs (R329). -/
  | getEventRecords (face log : Nat)
  /-- Mailbox Clear Event Records removes records from one of the face's event logs (R329). -/
  | clearEventRecords (face log : Nat) (all : Bool) (handles : List Nat)
  /-- Mailbox Get Event Interrupt Policy returns the face's MSI/MSI-X event policy (R332). -/
  | getEventInterruptPolicy (face : Nat)
  /-- Mailbox Set Event Interrupt Policy sets the face's MSI/MSI-X event policy (R332). One byte per log. -/
  | setEventInterruptPolicy (face : Nat) (policy : List Nat)
  /-- Mailbox Get FW Info reports slots, active and staged slot, and slot revisions (R575). -/
  | getFwInfo (face : Nat)
  /-- Mailbox Transfer FW stages and seals a firmware image into the slot that did not boot (R574). `action`: 0
  full, 1 initiate, 2 continue, 3 end, 4 abort; `offset` in bytes; `ok`: the Boot band erase and programs succeed;
  face 7: the CCI over TW0 (R550, R572); `ok36`: they succeed on N36. -/
  | transferFw (face action slot offset : Nat) (words : List Word) (ok : Bool) (ok36 : Bool := true)
  /-- Mailbox Activate FW online puts the sealed slot on trial, hands off state and reloads the cores with it
  (R576). The selector's program success on N00 and N36. -/
  | activateFwOnline (face slot : Nat) (ok0 ok36 : Bool)
  /-- Mailbox Activate FW for next cold reset writes the selector with TRIAL 1 and TRIES 0 (R576). The selector's
  program success on N00 and N36. -/
  | activateFwNextReset (face slot : Nat) (ok0 ok36 : Bool)
  /-- Mailbox Get Timestamp returns the device timestamp (R332). -/
  | getTimestamp (face : Nat)
  /-- Mailbox Set Timestamp sets the single device timestamp; the last set from any face wins (R332). -/
  | setTimestamp (face stamp : Nat)
  /-- Mailbox Get Supported Logs lists the Command Effects Log (R332). -/
  | getSupportedLogs (face : Nat)
  /-- Mailbox Get Log returns the Command Effects Log (R332). -/
  | getLog (face uuid offset len : Nat)
  /-- Mailbox Get Supported Features lists the face's features, including the vendor features (R332). -/
  | getSupportedFeatures (face : Nat)
  /-- Mailbox Get Feature returns a feature such as Job Limits or Media Key Status (R385). -/
  | getFeature (face feature : Nat)
  /-- Mailbox Set Feature changes a changeable feature and returns Unsupported for the fixed vendor features (R385).
  -/
  | setFeature (face feature : Nat) (value : List Nat)
  /-- Mailbox Identify Memory Device reports the face's capacities and limits from the Survey image (R318). -/
  | identifyMemoryDevice (face : Nat)
  /-- Mailbox Get Partition Info reports all capacity as persistent (R332). -/
  | getPartitionInfo (face : Nat)
  /-- Mailbox Set Partition Info returns Unsupported, since there is no partitioning (R317). -/
  | setPartitionInfo (face : Nat)
  /-- A standard or vendor opcode not served by the face returns Unsupported (R332). -/
  | mailboxUnsupported (face opcode : Nat)
  /-- Mailbox Get LSA returns bytes of the face's label storage area (R332). -/
  | getLsa (face offset len : Nat)
  /-- Mailbox Set LSA programs the label storage area in the health area on N00 and N36 before returning (R334). The
  programs' success on N00 and N36. -/
  | setLsa (face offset : Nat) (bytes : List Byte) (ok0 ok36 : Bool)
  /-- Mailbox Get Health Info reports health status, media status, life used, temperature, dirty shutdown count and
  error counts (R333). -/
  | getHealthInfo (face : Nat)
  /-- Mailbox Get Alert Configuration returns life-used and temperature alert thresholds (R332). -/
  | getAlertConfiguration (face : Nat)
  /-- Mailbox Set Alert Configuration sets life-used and temperature alert thresholds (R332). -/
  | setAlertConfiguration (face life hot cold : Nat)
  /-- Mailbox Get Shutdown State returns the value last stored by Set Shutdown State (R40). -/
  | getShutdownState (face : Nat)
  /-- Mailbox Set Shutdown State stores the face's shutdown state in the health area (R40). The programs' success on
  N00 and N36. -/
  | setShutdownState (face value : Nat) (ok0 ok36 : Bool)
  /-- Mailbox Get Poison List reports each valid poison-table record as a media error record (R37). -/
  | getPoisonList (face dpa lines : Nat)
  /-- Mailbox Inject Poison poisons a range, refused when it would hold a 65th injected range (R317). -/
  | injectPoison (face dpa : Nat)
  /-- Mailbox Clear Poison replaces poisoned lines and shrinks or splits the holding range (R38). -/
  | clearPoison (face dpa : Nat) (data : Line)
  /-- Mailbox Get Scan Media Capabilities reports scan capabilities for a range (R332). -/
  | getScanMediaCapabilities (face dpa lines : Nat)
  /-- Mailbox Scan Media reads every line of a range as a background operation and records the poison it finds
  (R332). `devs` by line number of the face, as in MEM_RD. -/
  | scanMedia (face dpa lines : Nat) (devs : SMap Nat)
  /-- Mailbox Get Scan Media Results returns the poison found by the last scan (R332). -/
  | getScanMediaResults (face : Nat)
  /-- Mailbox Sanitize cryptographically erases the face, zeroes its setts and erases lodes under the old keys
  (R332). -/
  | sanitize (face : Nat)
  /-- Mailbox Secure Erase zeroizes the face's key pair, generates a new key and makes every sett Zero (R427). -/
  | secureErase (face : Nat)
  /-- Mailbox Get DC Configuration reports the face's Dynamic Capacity region (R318). -/
  | getDcConfiguration (face : Nat)
  /-- Mailbox Get DC Extent List returns the face's granted extents (R332). -/
  | getDcExtentList (face : Nat)
  /-- The host's Add Dynamic Capacity Response accepts or rejects a pending extent (R323). `block` is the face block
  of the pending extent. -/
  | addDcResponse (face block : Nat) (accept : Bool)
  /-- Mailbox Release Dynamic Capacity sets RELQ, drains, zeroes and unowns each 256 MiB block, then returns (R324).
  -/
  | releaseDc (face block count : Nat)
  /-- Vendor Negotiate Features stores and applies REQUEST AND SUPPORTED as the face's feature word (R340). The
  programs' success on N00 and N36. -/
  | negotiateFeatures (face : Nat) (request : BitVec 128) (ok0 ok36 : Bool)
  /-- Vendor Heat Hint sets the HEAT of the slabs behind each listed face block (R343). Face block and HEAT of each
  entry. -/
  | heatHint (face : Nat) (hints : List (Nat × Nat))
  /-- Vendor Get Energy Telemetry returns ledger values read from one update (R344). -/
  | getEnergyTelemetry (face : Nat)
  /-- Vendor Request Pack Removal with CANCEL 0 requests or polls removal of a pack (R345). -/
  | requestPackRemoval (face pack : Nat)
  /-- Vendor Request Pack Removal with CANCEL 1 cancels a pending removal (R345). -/
  | cancelPackRemoval (face pack : Nat)
  /-- Vendor Transfer Survey Image with ACTION data writes a chunk into the staging buffer (R346). -/
  | transferSurveyData (face offset : Nat) (words : List Word)
  /-- Vendor Transfer Survey Image with ACTION VERIFY issues SVY VERIFY (R346). -/
  | transferSurveyVerify (face : Nat)
  /-- Vendor Transfer Survey Image with ACTION INSTALL issues SVY INSTALL as a background command (R346). -/
  | transferSurveyInstall (face : Nat)
  /-- Vendor Transfer Survey Image with ACTION LIVE_LOAD issues SVY LIVE_LOAD as a background command (R346). -/
  | transferSurveyLiveLoad (face : Nat)
  /-- Vendor Transfer Survey Image with ACTION CLEAR empties the staging buffer (R346). -/
  | transferSurveyClear (face : Nat)
  /-- Vendor Read Core Log returns committed records from SEQ upward, or the live aggregators (R347). -/
  | readCoreLog (face seq count : Nat)
  /-- Vendor Reset Rank State returns a REPLACED, RETIRED or DEAD rank to ACTIVE in the rank map while no face is
  open (R348). The program success of the rank map's page on N00 and N36. -/
  | resetRankState (face chan rank : Nat) (ok0 : Bool := true) (ok36 : Bool := true)
  /-- Configure Ring ENABLE checks the ring geometry, zeroes indices, initialises the CQ and enables the ring
  (R383). -/
  | configureRingEnable (face ring log2 vector imod sqBase cqBase : Nat)
  /-- Configure Ring DISABLE stops starting jobs, drains running jobs and disables the ring (R383). -/
  | configureRingDisable (face ring : Nat)
  /-- Configure Ring RESET aborts running jobs, discards queued descriptors and disables the ring with indices at 0
  (R383). -/
  | configureRingReset (face ring : Nat)
  /-- Configure Ring RESUME clears a FENCE or OVERRUN halt and re-enables the ring (R383). -/
  | configureRingResume (face ring : Nat)
  /-- Vendor Get Ring Status returns a ring's state, indices and counts (R384). -/
  | getRingStatus (face ring : Nat)
  /-- Vendor Load Transform Key loads a supplied or generated key into a free slot as a transform slot of the face
  (R429). -/
  | loadTransformKey (face : Nat) (generate : Bool) (key : BitVec 256)
  /-- Vendor Release Transform Key zeroizes one of the face's transform slots (R429). -/
  | releaseTransformKey (face slot : Nat)
  /-- Vendor Rotate Media Key runs the rotation of the face's media key and zeroizes the old slot (R404). -/
  | rotateMediaKey (face : Nat)
  /-- Vendor Get Twin Status returns GAL_STATUS, GAL_RSLV and the twin's serial number (R459). -/
  | getTwinStatus (face : Nat)
  /-- Vendor Twin Handover closes this sled's faces, fences the twin into single-sled mode and saves with SAVE_OFF
  (R456). -/
  | twinHandover (face : Nat)
  /-- FM API Get DC Region Configuration reports a face's Dynamic Capacity region (R323). -/
  | getDcRegionConfiguration (face : Nat)
  /-- FM API Get DC Region Extent Lists reports the extents of a face's region (R323). -/
  | getDcRegionExtentLists (face : Nat)
  /-- FM API add grants free pool blocks to a face, sets OWNER and HEAT 0, and posts an Add Capacity record (R323).
  `first`: the face block that the add names, if it names one. -/
  | initiateDynamicCapacityAdd (face blocks : Nat) (first : Option Nat)
  /-- FM API release signals a release to the face, and the release runs when the face responds (R324). -/
  | initiateDynamicCapacityRelease (face block count : Nat)
  /-- A pending extent unanswered for 60 s returns its slabs' OWNER to unowned (R323). -/
  | dcAddResponseTimeout (face block : Nat)
  /-- A write of SQ_TAIL to a ring's doorbell is latched, marks the ring pending, or halts it with OVERRUN (R356).
  `bad`: the ring's cached context or doorbell latch has an uncorrectable SRAM error. -/
  | sqTailDoorbell (port ring value : Nat) (bad : Bool := false)
  /-- A write of CQ_HEAD to a ring's doorbell is latched, or ignored and counted when out of range (R357). `bad`:
  the ring's cached context or doorbell latch has an uncorrectable SRAM error. -/
  | cqHeadDoorbell (port ring value : Nat) (bad : Bool := false)
  /-- A COPY job copies SRC lines to DST in ascending order, copying poison as poison (R364). `devs` are the devices
  in error by line of SRC; `desc` are the devices in error of its descriptor's line; `sram`: the SRAM errors that
  its accesses find, by slab. -/
  | jobCopy (ring : Nat) (devs : SMap Nat) (desc : Nat := 0) (sram : List (Nat × SramErr) := [])
  /-- A FILL job writes every DST line with the 64-bit pattern (R365). `desc` are the devices in error of its
  descriptor's line; `sram`: the SRAM errors that its accesses find, by slab. -/
  | jobFill (ring : Nat) (desc : Nat := 0) (sram : List (Nat × SramErr) := [])
  /-- A CHECKPOINT job hauls every Dirty sett of its range to the Stockpile in passes (R366). `desc` are the devices
  in error of its descriptor's line; `sram`: the SRAM errors that its accesses find, by slab. -/
  | jobCheckpoint (ring : Nat) (desc : Nat := 0) (sram : List (Nat × SramErr) := [])
  /-- A checkpoint pass ends once no sett of the range is in flight, and the job completes or runs another pass
  (R366). -/
  | checkpointPassEnd (ring tag : Nat)
  /-- A PIN job adds a pin record and sets PIN on every slab its range touches (R367). `desc` are the devices in
  error of its descriptor's line; `sram`: the SRAM errors that its accesses find, by slab. -/
  | jobPin (ring : Nat) (desc : Nat := 0) (sram : List (Nat × SramErr) := [])
  /-- A PIN job with ARG0 bit 0 removes the matching pin record and clears PIN where no other record covers (R367).
  `desc` are the devices in error of its descriptor's line; `sram`: the SRAM errors that its accesses find, by slab.
  -/
  | jobUnpin (ring : Nat) (desc : Nat := 0) (sram : List (Nat × SramErr) := [])
  /-- A PREFETCH_RESTORE job queues the range's Unrestored slabs for fetch and completes when all are Resident
  (R370). `desc` are the devices in error of its descriptor's line; `sram`: the SRAM errors that its accesses find,
  by slab. -/
  | jobPrefetchRestore (ring : Nat) (desc : Nat := 0) (sram : List (Nat × SramErr) := [])
  /-- A TRANSFORM job runs AES-256 in the chosen mode from SRC to DST under a transform slot (R368). `bad` are the
  lines on which the cores of a pair disagree; `devs` the devices in error by line of SRC; `desc` are the devices in
  error of its descriptor's line; `sram`: the SRAM errors that its accesses find, by slab. -/
  | jobTransform (ring : Nat) (bad : List Nat := []) (devs : SMap Nat := []) (desc : Nat := 0) (sram : List (Nat × SramErr) := [])
  /-- A VERIFY job compares SRC and DST line by line and ends at the first difference or poison (R369). `src` and
  `dst` are the devices in error by line of each range; `desc` are the devices in error of its descriptor's line;
  `sram`: the SRAM errors that its accesses find, by slab. -/
  | jobVerify (ring : Nat) (src : SMap Nat := []) (dst : SMap Nat := []) (desc : Nat := 0) (sram : List (Nat × SramErr) := [])
  /-- A ZERO_FACE job sets JOBL, zeroes every sett of the face, empties its poison table and pins, then disables its
  ring (R402). `desc` are the devices in error of its descriptor's line; `sram`: the SRAM errors that its accesses
  find, by slab. -/
  | jobZeroFace (ring : Nat) (desc : Nat := 0) (sram : List (Nat × SramErr) := [])
  /-- A ring's IMOD interval ends and its merged MSI-X interrupt is sent (R386). -/
  | ringInterruptCoalesceExpiry (ring : Nat)
  /-- SLB_CMD SET_HEAT sets a slab's HEAT to ARG0[7:0] (R120). Slab and arguments from SLB_CMD_IDX, SLB_CMD_ARG0 and
  SLB_CMD_ARG1. -/
  | slbSetHeat (sram : SramErr)
  /-- SLB_CMD SET_LOCK sets the permitted lock bits of a slab word (R120). Slab and arguments from SLB_CMD_IDX,
  SLB_CMD_ARG0 and SLB_CMD_ARG1. -/
  | slbSetLock (sram : SramErr)
  /-- SLB_CMD CLR_LOCK clears the permitted lock bits of a slab word (R120). Slab and arguments from SLB_CMD_IDX,
  SLB_CMD_ARG0 and SLB_CMD_ARG1. -/
  | slbClrLock (sram : SramErr)
  /-- SLB_CMD SET_RSTATE sets a slab's RSTATE before any face opens (R120). Slab and arguments from SLB_CMD_IDX,
  SLB_CMD_ARG0 and SLB_CMD_ARG1. -/
  | slbSetRstate (sram : SramErr)
  /-- SLB_CMD LOAD_MASK loads a slab's dirty mask and adjusts the dirty counts (R120). Slab and arguments from
  SLB_CMD_IDX, SLB_CMD_ARG0 and SLB_CMD_ARG1. -/
  | slbLoadMask (sram : SramErr)
  /-- SLB_CMD SET_OWNER changes a slab's OWNER under the grant and release conditions (R114). Slab and arguments
  from SLB_CMD_IDX, SLB_CMD_ARG0 and SLB_CMD_ARG1. -/
  | slbSetOwner (sram : SramErr)
  /-- A write of SLB_SNAP_IDX captures all 96 bits of one slab entry in one hub clock (R118). `sram`: the SRAM error
  that its access finds. -/
  | slbSnapshot (slab : Nat) (sram : SramErr := .none)
  /-- Writing 1 to SLB_ECC.CLEAR sets CE_COUNT to 0 (R123). -/
  | slbEccClear
  /-- At each tick multiple of PERIOD every bank sweeps its slabs, lowering non-zero HEAT by one (R112). `sram`: the
  SRAM errors that its accesses find, by slab. -/
  | heatDecaySweep (sram : List (Nat × SramErr) := [])
  /-- Every 32 ticks the ledger latches inputs, computes energy and the ceiling, and publishes C, T_A, T_V, T_H and
  H (R142). -/
  | ledgerUpdate (inp : LedgerIn)
  /-- After a pack becomes ABSENT or COLLAPSE-failed, the ledger runs one extra non-cadence update at the next tick
  (R143). -/
  | ledgerExtraUpdate
  /-- A margin change deferred by the one-second report interval is sent at its end with the current state (R161).
  -/
  | admissionReportIntervalEnd (face : Nat)
  /-- The ADC completes a scan of S00–S47 and samples PG, BENCH_SYNC and SEQ_UP at its end (R462). -/
  | adcScan (inp : ScanIn)
  /-- Every second the ledger reads a pack's gauge words over TW1 or TW2 and replaces E_base (R126). None: no valid
  answer. -/
  | gaugeRead (pack : Nat) (ans : Option GaugeIn)
  /-- No valid gauge reading for 60 s makes the pack FAILED with cause STALE (R133). -/
  | packStale (pack : Nat)
  /-- No gauge answer from a COUNTED pack for 10 s raises EV585 (R510). -/
  | packNoAnswer (pack : Nat)
  /-- Seven days without an ESR sample sets ESR_STALE and raises the pack's source (R131). -/
  | esrStale (pack : Nat)
  /-- Writing 1 to a REMOVE bit requests planned removal of a pack, or is refused under R148 (R147). -/
  | lgrRemoveRequest (pack : Nat)
  /-- Writing 0 to a REMOVE bit before the pack is pulled cancels the removal (R147). -/
  | lgrRemoveCancel (pack : Nat)
  /-- At each day boundary ADM records the spend, resets it, and flags an overspent day (R171). -/
  | wearDayBoundary
  /-- Every 8,192 ticks TW3 and TW4 read each named temperature sensor (R557). The 16-bit word read; none: the read
  failed. -/
  | sensorRead (port sensor : Nat) (raw : Option Nat)
  /-- A sensor with no valid reading for 2.0 s counts at half HEAT_SPAN and raises its source (R167). -/
  | sensorStale (port sensor : Nat)
  /-- The Haul engine selects an eligible Dirty sett, coldest first, and enters it in the in-flight table (R180).
  `sram`: the SRAM errors that its accesses find, by slab; `haul`: an SRAM error in the in-flight table or the HAUL
  block, 0 none, 1 correctable, 2 uncorrectable. -/
  | haulSelect (sram : List (Nat × SramErr) := []) (haul : Nat := 0)
  /-- A haul's DRAM read finishes; an all-zero sett goes to the map update and other setts go to the cipher (R183).
  `devs` by line of the sett, as in MEM_RD. -/
  | haulDramReadDone (sett : Nat) (devs : SMap Nat)
  /-- A sett that waited PAD_WAIT ticks without a partner is paired with a pad (R184). -/
  | haulPadWaitExpiry
  /-- A lane pair finishes a page and releases it only when both cores agree (R412). -/
  | cipherPageDone (sett pair : Nat) (agree : Bool)
  /-- A lane pair's known-answer test ends, returning it to service or taking it out (R413). -/
  | katComplete (pair : Nat) (pass : Bool)
  /-- A stripe's wordline program completes and each haul of it ends under R107 (R188). -/
  | stripeProgramDone (stripe : Nat)
  /-- A program fails; the block is marked BAD, its lode sealed, and both hauls of the stripe end early (R250). -/
  | stripeProgramFail (stripe channel : Nat)
  /-- A TLC wordline that waited 32 ticks for its stripes is filled with pad stripes (R213). -/
  | wordlinePadTimeout (group : Nat)
  /-- PFW_N asserts; the Haul engine starts no new Stockpile stripe (R182). -/
  | pfwAssert
  /-- PFW_N releases; the Haul engine starts stripes again (R182). -/
  | pfwRelease
  /-- A PFW_N assertion lasts beyond PFW_MAX and raises EV655 (R485). -/
  | pfwMaxExpiry
  /-- PWR_LOSS_N is qualified low and starts a save (R482). -/
  | pwrLoss
  /-- The input sense stays below INPUT_LOW for INPUT_COUNT scans and starts a save (R483). -/
  | inputRailLoss
  /-- HAUL_SAVE_CMD SAVE_PARK starts a save that ends in Parked (R203). -/
  | savePark
  /-- HAUL_SAVE_CMD SAVE_OFF starts a save that ends with bench-down (R203). -/
  | saveOff
  /-- Save step 2 drains all buffers into DRAM, settles in-flight hauls and latches D (R192). -/
  | saveDrain
  /-- Save step 3 powers ports down and copies every bank into its slab image in DRAM (R92). -/
  | saveSlabImage
  /-- Save step 4 waits for TLC programs, switches to pSLC, ends erases and programs the START anchor (R192). -/
  | savePslcSwitch
  /-- An anchor page has reported program success on N00 and then N36 and counts as written (R196). -/
  | anchorProgrammed (ok0 ok36 : Bool)
  /-- Save step 5 finishes writing the CARVE records and programs the META_DONE anchor (R192). -/
  | saveCarveDone (inp : CarveIn := ⟨[], [], []⟩)
  /-- The save walk has written a SAVE record for every Dirty sett in two passes (R194). -/
  | saveWalkEnd (inp : WalkIn)
  /-- Manifest records 0 to 36 are programmed, and the MARK record is programmed or withheld (R198). MANIFEST
  records whose program failed, by their ordinal; `miss`: records on which the cores of a pair disagree, and whether
  the next pair disagrees too. -/
  | saveManifestDone (failed : List RecFail) (miss : List (Nat × Bool) := [])
  /-- Save step 8 completes DRAM self-refresh entry (R192). -/
  | saveSelfRefreshDone
  /-- Save step 9 steps the benches down or ends in Parked or Hold, and the ledger sets LASTSAVE (R203). -/
  | saveEnd
  /-- PWR_LOSS_N and the input sense read good for RET_SCANS scans, counting as an on request and a power return
  (R484). -/
  | inputPowerGood
  /-- Under BSET 0b11, PG00 not qualified within 2.0 s raises EV618 once (R469). -/
  | pg00WaitExpiry
  /-- RES_CMD START runs the rebuild: anchors, case choice, carve-out, manifest, merge and metadata (R258). -/
  | resStart (inp : ResIn)
  /-- RES_CMD OPEN sets RSTATE, writes the OPEN anchor and opens the early-open faces (R258). -/
  | resOpen
  /-- RES_CMD WARM in Parked runs a warm resume (R275). -/
  | resWarm
  /-- A fetch writes one sett into DRAM by its state; when all 64 are written the slab is Resident (R268). `bad`:
  the fetch table has an uncorrectable SRAM error. -/
  | fetchSettWritten (slab : Nat) (page : PageRead) (bad : Bool := false)
  /-- Background fill takes a fetch entry for the next Unrestored slab of heat class L or above (R274). -/
  | backgroundFill
  /-- A read that waited RES_HOLD.TICKS is answered with poison and counted in RES_HOLDEXP (R271). -/
  | restoreHoldExpiry (port tag : Nat)
  /-- A refresh interval ends and the engine issues REFsb or REFab to a rank (R288). -/
  | dramRefresh (chan rank : Nat)
  /-- Every 32 ticks the engine reads MR4 of every die and sets the refresh interval (R288). `temps`: the band edge
  in °C that each die of the channel reports. -/
  | mr4Read (chan : Nat) (temps : List Int)
  /-- A channel idle for DCH_SR.IDLE ticks enters self-refresh (R290). `abort`: a request arrived before SRE was
  issued. -/
  | selfRefreshEntry (chan : Nat) (abort : Bool)
  /-- A request to a channel in self-refresh restarts the PHY clocks and issues SRX (R291). `late`: the request
  arrived during entry, at or after SRE. -/
  | selfRefreshExit (chan : Nat) (late : Bool)
  /-- A rank's DFE taps are retrained device by device after its period, temperature change or correction count
  (R295). `sensor`: the two-wire sensor by the rank, 0 to 31 on TW3 and 32 to 63 on TW4; `margins` holds for each
  device twelve trials, three for each tap, each with a bit per delay step from -8 to 8 that showed an error. -/
  | deviceRetrain (chan rank sensor : Nat) (margins : List (List Nat))
  /-- Patrol scrub reads or zero-writes the next sett of its channel (R297). -/
  | scrubStep (chan : Nat) (devs : SMap Nat)
  /-- A repair's Stockpile page arrives; the line is rewritten if the sett is unchanged, and the hold released
  (R300). `devs`: errors found in the read-back. -/
  | repairPageReady (sett line : Nat) (page : PageRead) (devs : Nat)
  /-- DCH_MIG_CTL START migrates a rank into a Slate spare through DISPLACE and COPY (R305). The program success of
  the rank map's page on N00 and N36. -/
  | migStart (chan : Nat) (ok0 : Bool := true) (ok36 : Bool := true)
  /-- DCH_MIG_CTL RETIRE retires a rank through HOME and RETIRE phases (R311). The program success of the rank map's
  page on N00 and N36. -/
  | migRetire (chan : Nat) (ok0 : Bool := true) (ok36 : Bool := true)
  /-- DCH_MIG_CTL ABORT stops a copy after the sett in progress and serves every slab from the source (R308). -/
  | migAbort (chan : Nat)
  /-- A migration copies one sett of the source rank to the destination under its per-period quota (R306). The
  program success of the rank map's page on N00 and N36. -/
  | migCopySett (devs : SMap Nat) (ok0 : Bool := true) (ok36 : Bool := true)
  /-- NCH_CTL.APPLY applies new interface timing once the engine's queue is idle, within 20 µs (R236). -/
  | nchApply (chan : Nat)
  /-- Writing 1 to NCH_CWMAX.CLEAR sets BITS to 0 (R254). -/
  | nchCwmaxClear (chan : Nat)
  /-- A page read is decoded through the retry ladder and stripe rebuild, and read-level offsets are tracked (R239).
  `patrol`: the read is a patrol read. -/
  | nandPageReadDone (inp : NandRead) (patrol : Bool := false)
  /-- The Stockpile manager writes an erase INTENT record to the intent journal for a lode or block (R226). -/
  | lodeEraseStart (what : EraseOf)
  /-- A journal page reports success on N00 and N36, and the erases it covers are issued (R226). -/
  | journalPageProgrammed (ok0 ok36 : Bool)
  /-- Every erase of an intent reports, and a DONE record is written (R226). Blocks whose erase failed: channel,
  target and plane of the slot. -/
  | eraseDone (what : EraseOf) (failed : List (Nat × Nat × Nat))
  /-- A die fails to answer three consecutive operations in time and is retired (R251). -/
  | dieNoAnswerTimeout (channel target : Nat)
  /-- NAND patrol reads one page of a sealed block and may flag its lode for refresh (R247). -/
  | nandPatrolRead (channel target block page : Nat)
  /-- Rework copies a valid sett's ciphertext to another lode and commits it with the map compare (R246). -/
  | reworkMove (sett : Nat)
  /-- Fold re-encrypts a Clean sett named in the Sump into the Stockpile and commits by compare (R246). -/
  | sumpFold (sett : Nat)
  /-- Rewrap re-encrypts a Clean sett of a KEYR slab under the current key and commits by compare (R246). -/
  | rewrap (sett : Nat)
  /-- CIP_CMD GENERATE draws a key into a slot, which becomes PARTNER or ACTIVE once stored (R421). -/
  | cipGenerate
  /-- CIP_CMD ACTIVATE makes a PARTNER slot ACTIVE and its partner PARTNER in one hub clock (R421). -/
  | cipActivate
  /-- CIP_CMD ZEROIZE clears a slot at once, ends its operations with KEY_LOST and purges it from the key store
  (R425). -/
  | cipZeroize
  /-- CIP_CMD ZEROIZE_PAIR clears both slots of a pair in one hub clock and purges them (R421). -/
  | cipZeroizePair
  /-- CIP_CMD LOAD_TX loads a supplied or DRBG key into an empty slot as a transform slot of a face (R421). -/
  | cipLoadTx
  /-- CIP_CMD RELEASE_TX zeroizes a transform slot (R421). -/
  | cipReleaseTx
  /-- CIP_CMD KAT runs the known-answer test on a pair and returns it to service if it passes (R421). -/
  | cipKat
  /-- A key-store page program on N00 and N36 completes or fails (R418). -/
  | keyStoreProgrammed (ok0 ok36 : Bool)
  /-- The erase of the block holding the earlier key-store pages completes (R425). -/
  | keyStorePurgeDone
  /-- A Gallery link trains and sends HELLO (R435). -/
  | galleryLinkTrained (link rate width : Nat)
  /-- A received HELLO is checked for PAIR_ID, ROLE and pair digest, and pairing or rejoin proceeds (R435). -/
  | hello (link : Nat) (h : HelloIn)
  /-- A received HEARTBEAT updates the twin's chip and margin state for the combined margin (R443). `replays`: flits
  that the link has replayed since its last HEARTBEAT. -/
  | heartbeat (link chip margin : Nat) (epoch : BitVec 64) (next : Nat) (replays : Nat := 0)
  /-- Each ledger period the sled sends HEARTBEAT on every up link (R445). -/
  | heartbeatSend
  /-- A received MIRROR write is looked up in stream order and acknowledged (R440). `devs` as in MEM_WR_PTL; `sram`:
  the SRAM errors that its accesses find, by slab; `bad`: a Gallery queue has an uncorrectable one. -/
  | mirror (seq face dpa : Nat) (data : Line) (mask : BitVec 64) (poison : Bool) (devs : Nat := 0) (sram : List (Nat × SramErr) := []) (bad : Bool := false)
  /-- The keeper receives a forwarded write, looks it up and sends ORDER (R440). `devs` as in MEM_WR_PTL; `sram`:
  the SRAM errors that its accesses find, by slab. -/
  | fwd (tag face dpa : Nat) (data : Line) (mask : BitVec 64) (poison : Bool) (devs : Nat := 0) (sram : List (Nat × SramErr) := [])
  /-- A received ORDER lets the sled look up its held write and acknowledge it (R440). -/
  | order (seq tag : Nat)
  /-- A received ACK completes writes whose mirroring it covers (R440). -/
  | ack (seq : Nat) (map : BitVec 512)
  /-- A received FENCE puts an Open or Restoring sled into single-sled mode at once (R447). -/
  | galleryFence (sub : Nat)
  /-- A received RECOVER_REQ answers a sett or line from DRAM, or LOST or UNAVAILABLE (R450). `devs` are the devices
  in error that its reads find, by line. -/
  | recoverReq (tag sub face addr : Nat) (devs : SMap Nat := [])
  /-- Received RECOVER_DATA is written as a Gallery write through admission (R450). -/
  | recoverData (tag sub offset : Nat) (lines : List Line)
  /-- A received resilver chunk, ZERO or LOST is written into the joiner's sett (R454). -/
  | rslvData (seq sub sett chunk : Nat) (lines : List Line)
  /-- A received SLAB_DONE clears RSLV on the slab at the joiner (R454). -/
  | rslvSlabDone (seq slab : Nat)
  /-- A received list of RSLV slabs sets RSLV on each at the survivor (R453). -/
  | rslvList (slabs : List Nat) (last : Bool)
  /-- A received pending-line list makes the keeper send its restored lines as LINE_DATA (R452). -/
  | lineList (lines : List (Nat × Nat)) (last : Bool)
  /-- Received LINE_DATA is written as a Gallery write and acknowledged (R452). -/
  | lineData (seq face dpa : Nat) (data : Line) (poison : Bool)
  /-- A received CTRL DC_ADD grants the chosen pool blocks on the twin, or refuses (R457). `first`: first face block
  of the extent. -/
  | ctrlDcAdd (seq face first : Nat) (pool : List Nat)
  /-- A received CTRL DC_RELEASE runs the release on the twin (R457). -/
  | ctrlDcRelease (seq face block count : Nat)
  /-- A received CTRL ZERO_FACE runs the face zeroing on the twin (R457). -/
  | ctrlZeroFace (seq face : Nat)
  /-- A received CTRL ERASE runs Secure Erase or Sanitize on the twin with its own keys (R457). -/
  | ctrlErase (seq face opcode : Nat)
  /-- A received CTRL LSA programs the label storage area on the twin (R457). -/
  | ctrlLsa (seq face offset : Nat) (bytes : List Byte) (ok0 ok36 : Bool)
  /-- A received CTRL SHUTDOWN_STATE stores the shutdown state on the twin (R457). -/
  | ctrlShutdownState (seq face value : Nat) (ok0 ok36 : Bool)
  /-- A received CTRL DONE lets the originating sled post the operation's return (R457). -/
  | ctrlDone (seq sub face : Nat) (ok : Bool)
  /-- The survivor reads a settled sett of an RSLV slab and sends it in its stream (R454). `devs` are the devices in
  error that its reads find, by line. -/
  | resilverSett (devs : SMap Nat := [])
  /-- A link with no valid flit for HB_MISS periods is declared down; losing the last link starts R446 (R445). -/
  | galleryLinkDown (link : Nat)
  /-- GRACE periods after losing the Gallery, a sled enters single-sled mode (R446). -/
  | galleryGraceExpiry
  /-- A restoring sled that waited JOIN_WAIT periods without a HELLO decides as R446 (R452). -/
  | joinWaitExpiry
  /-- A down Gallery link retrains every 32,768 ticks (R445). -/
  | galleryRetrain (link : Nat)
  /-- Writing the key to GAL_TAKEOVER makes a FENCED or DIVERGED sled serve alone (R460). -/
  | galTakeover (key : Word)
  /-- The sled reads its twin's status word on TW7 when R446 needs it or once a second with no link (R558). -/
  | twinStatusRead (word : Option Word) (absent : Bool)
  /-- The twin's TW7 command 0x20 is answered with this sled's twin status word (R558). -/
  | tw7StatusCommand
  /-- The twin pulls TW7 ALERT on a chip-state change and the sled reads its status word (R558). -/
  | tw7Alert (word : Option Word) (absent : Bool)
  /-- SEQ_CMD ON is an on request that starts power-up, is remembered or is refused (R478). -/
  | seqOn (bmc : Bool)
  /-- SEQ_CMD OFF is an off request that starts a save, steps down or is remembered (R479). -/
  | seqOff (bmc : Bool)
  /-- SEQ_CMD OFF_TIMED starts a delay of SEQ_OFFDLY.MS before an off request (R481). -/
  | seqOffTimed (bmc : Bool)
  /-- SEQ_CMD CLEAR at B0 ends the latch and clears SEQ_FIRST (R477). -/
  | seqClear (bmc : Bool)
  /-- SEQ_CMD PULSE asserts a reset pin for its PULSE time (R486). -/
  | seqPulse (pin : Nat)
  /-- The OFF_TIMED delay ends and an off request is made (R481). -/
  | offTimedExpiry
  /-- A bench's rails are enabled in order with STAGGER and must all qualify by TIMEOUT (R470). -/
  | benchStepUp
  /-- A bench's DELAY ends and the next bench starts, or SEQ_DN is driven high at TOP (R470). -/
  | benchDelayExpiry
  /-- STRETCH after a reset pin's bench is up, the pin is released (R470). -/
  | resetStretchExpiry (pin : Nat)
  /-- A rail not qualified by its bench's TIMEOUT fails with cause TIMEOUT (R475). -/
  | benchTimeout
  /-- A bench is stepped down: resets asserted, rails disabled in reverse order, discharge awaited (R471). -/
  | benchStepDown
  /-- A rail still charged when DISCH ends fails with cause DISCHARGE (R471). -/
  | dischargeTimeout (rail : Nat)
  /-- DN_WAIT after SEQ_DN falls, the first bench's step-down continues (R471). -/
  | dnWaitExpiry
  /-- BENCH_SYNC stays low SYNC_TIMEOUT after release: a hard sync fails, a soft one goes on (R472). -/
  | benchSyncTimeout
  /-- Under soft cascade, waiting UP_WAIT for SEQ_UP ends and power-up goes on (R473). -/
  | upWaitExpiry
  /-- SEQ_UP falls above B0: an off request under hard cascade, EV654 under soft (R473). -/
  | seqUpFall
  /-- MIN_OFF passes at B0 and a remembered on request starts power-up (R480). -/
  | minOffExpiry
  /-- A commanded or bus-stuck reset pulse ends and the pin is released (R486). -/
  | resetPulseEnd (pin : Nat)
  /-- No crystal edge for 64 µs; the tick is derived from the scan clock and EV674 raised (R490). -/
  | crystalFail
  /-- After 1,024 good crystal periods the tick returns to the crystal (R490). -/
  | crystalRecover
  /-- The reference clock fails; PLLs enter holdover, SerDes links go down and EV675 is raised (R492). -/
  | refclkFail
  /-- A PLL loses lock with the reference present and raises EV676 (R492). -/
  | pllLockLoss (pll : Nat)
  /-- An enable or disable request for an island runs at once or is queued one deep behind a transition (R496). -/
  | islandRequest (island : Nat) (on : Bool)
  /-- An AUTO island idle for IDLE ticks starts to stop (R495). -/
  | islandIdleExpiry (island : Nat)
  /-- An island reaches ON, then runs any queued stop (R494). -/
  | islandWakeDone (island : Nat)
  /-- An island finishes stopping and runs any queued power-up (R496). -/
  | islandStopDone (island : Nat)
  /-- An island not ON within four times its wake time sets FAULT and is treated as failed (R498). -/
  | islandWakeFault (island : Nat)
  /-- 2 µs after a window boundary FLT moves CUR into PREV for the class's sources (R512). -/
  | windowRollover (cls : Nat)
  /-- Every 32 ticks the checker reads the FLT map and threshold registers and enters Hold on a parity fault (R522).
  -/
  | parityCheck (bad : Bool)
  /-- FLT_CMD WARM_RESET requests a warm chip reset (R523). -/
  | fltWarmReset
  /-- FLT_CMD INJECT raises a source as if by its owner (R528). -/
  | fltInject (src : Nat)
  /-- Writing FLT_IRQQ_POP removes the head entry of the interrupt queue (R525). -/
  | fltIrqqPop
  /-- Writing 1 to FLT_FFC.VALID clears the first-fault record (R521). -/
  | fltFfcClear
  /-- A warm chip reset runs, deferred behind a Park save when Restoring or Open, leading to Waking (R502). -/
  | warmChipReset
  /-- The watchdog count reaches zero or gets a wrong kick, raising EV681 and acting under ACTION (R578). -/
  | watchdogExpiry
  /-- The boot ROM finishes reloading and verifying the slot and releases the cores (R579). -/
  | foremanCoresReleased
  /-- Writing the key to FWM_WDT_KICK restarts the watchdog count (R578). -/
  | fwmWdtKick (key : Word)
  /-- Writing FWM_ALIVE starts the watchdog's regular count and confirms a trial slot as ACTIVE (R571). -/
  | fwmAlive (key : Word) (ok0 ok36 : Bool)
  /-- FWM_CMD STAGE_OPEN erases the next block of the non-booted slot (R574). `ok` and `ok36`: the erase and
  programs succeed on N00 and N36. -/
  | fwmStageOpen (slot : Nat) (ok : Bool) (ok36 : Bool := true)
  /-- A write of FWM_STAGE_DATA stores a word, programming each page as it fills (R574). `ok` and `ok36`: the erase
  and programs succeed on N00 and N36. -/
  | fwmStageData (data : Word) (ok : Bool) (ok36 : Bool := true)
  /-- FWM_CMD STAGE_SEAL programs the last page, checks the image and programs the seal page (R574). `ok` and
  `ok36`: the erase and programs succeed on N00 and N36. -/
  | fwmStageSeal (slot : Nat) (ok : Bool) (ok36 : Bool := true)
  /-- FWM_CMD SELECT_NEXT writes the boot selector to try the sealed slot (R576). -/
  | fwmSelectNext (slot : Nat) (ok0 ok36 : Bool)
  /-- FWM_CMD ACTIVATE_NOW holds the cores in reset and has the boot ROM load the slot on trial (R576). -/
  | fwmActivateNow
  /-- FWM_CMD ABORT ends a staging transfer and leaves the slot unsealed (R582). -/
  | fwmAbort
  /-- FWM_CMD BLOW blows one more rollback fuse bit when the booted copy and slot allow it (R581). -/
  | fwmBlow
  /-- After the hub base is powered the boot ROM loads the Survey image, unwraps keys, and verifies and releases a
  firmware slot (R566). -/
  | bootRomStart (inp : BootIn)
  /-- SVY_CMD VERIFY checks the staged image against R75 (R78). -/
  | svyVerify
  /-- SVY_CMD INSTALL verifies the image and programs it into the non-booted copy on N00 and N36 (R78). -/
  | svyInstall
  /-- SVY_CMD LIVE_LOAD installs the image and later applies its live sections (R81). -/
  | svyLiveLoad
  /-- SVY_CMD CLEAR empties the staging buffer and resets SVY_STAGE_ADDR (R78). -/
  | svyClear
  /-- A read or write of SVY_STAGE_DATA accesses the staging word at ADDR and advances ADDR (R86). -/
  | svyStageData (write : Bool) (data : Word)
  /-- The Boot band copy is erased, programmed and read back, and INSTALL ends or LIVE_LOAD awaits its tick (R81).
  -/
  | surveyInstallProgrammed (ok0 ok36 : Bool)
  /-- At the next tick multiple of 32 all live sections are replaced at once and the shadow refreshed (R81). -/
  | liveLoadApply
  /-- CLG_CMD COMMIT_CADENCE copies the aggregators to staging and commits HIST, EVENT and pending records (R538).
  -/
  | clgCommitCadence
  /-- CLG_CMD COMMIT_PENDING commits only the pending records (R538). -/
  | clgCommitPending
  /-- CADENCE minutes of operating time pass and CLG_STATUS.REQ sets (R538). -/
  | clgCadenceDue
  /-- A Core log page program completes, CLG_SEQ advances and staging is discarded (R538). -/
  | clgPageProgrammed (ok0 ok36 : Bool)
  /-- Writing CLG_CUR fetches a record into CLG_WIN or selects the live aggregator (R541). -/
  | clgCurFetch (seq : Nat)
  /-- The cursor fetch ends with READY, GONE or NOT_YET (R541). `bad`: neither copy of the record is valid. -/
  | clgFetchDone (bad : Bool := false)
  /-- A TW0 block write with code 0x0F delivers one MCTP packet to the Foreman cluster, or is NACKed (R550). -/
  | tw0Mctp (bytes : List Byte) (pec : PecIn)
  /-- A TW0 REG_ADDR write sets the register address (R548). -/
  | tw0RegAddr (addr : Nat) (pec : PecIn)
  /-- A TW0 REG_DATA write writes a permitted register and advances REG_ADDR (R549). -/
  | tw0RegDataWrite (data : Word) (pec : PecIn)
  /-- A TW0 REG_DATA read returns a permitted register and advances REG_ADDR (R549). -/
  | tw0RegDataRead
  /-- A TW0 ALERT block read returns TWB_ALRT_CAUSE (R548). -/
  | tw0AlertRead
  /-- A TW0 write with an unknown command code is NACKed and raises EV659 (R548). -/
  | tw0UnknownCommand (code : Nat)
  /-- The BMC reads the Alert Response Address and TW0 arbitrates with its address, releasing SMBALERT# if it wins
  (R554). -/
  | tw0AraRead (won : Bool)
  /-- A cause still set REARM ms after its last alert asserts SMBALERT# again (R554). -/
  | smbalertRearm
  /-- After 32 ticks with no transaction TW0 sleeps with only its address comparator awake (R551). -/
  | tw0Sleep
  /-- SCL low for 35 ms makes TW0 release SDA and reset its engine (R552). -/
  | tw0SclTimeout
  /-- Writing TWB_XFER.GO queues a firmware transfer on a controller port (R555). -/
  | twbGo (port : Nat)
  /-- A controller port transaction ends with its RESULT (R556). -/
  | twTransactionDone (port : Nat) (res : TwRes) (bytes : List Byte)
  /-- 1 ms after an address NACK the transaction is tried again, up to twice (R556). -/
  | twAddrNackRetry (port : Nat)
  /-- SCL held low 25 ms in a byte or 35 ms in all ends the transaction with TIMEOUT (R560). -/
  | twStretchTimeout (port : Nat)
  /-- A port losing arbitration stops, retries up to 8 times, or answers as target (R561). -/
  | arbitrationLost (port : Nat) (own : Bool)
  /-- A low SDA before START runs clock-pulse recovery rounds, and a stuck bus pulses mapped resets (R559). -/
  | busStuckRecovery (port rounds : Nat) (freed : Bool)
  /-- A still-stuck bus repeats the pulse and recovery every 32,768 ticks (R559). -/
  | busStuckRetry (port rounds : Nat) (freed : Bool)
  /-- A target asserts its ALERT line, starting an extra read of every sensor on the port (R557). The address the
  alert read returned; none: no answer. -/
  | twAlertInput (port : Nat) (addr : Option Nat)
  /-- An IEEE 1149.1 instruction is loaded on the test port, or BYPASS when TESTEN was 0 (R610). -/
  | tapInstruction (ins : Tap)
  /-- The test-state RAILSET instruction brings up the named rails one per bench (R611). -/
  | railset (rails : Nat)
  /-- All power, auxiliary and packs alike, is cut without warning in any chip state, so the chip goes to Off with
  nothing after the cut (R36). -/
  | allPowerCut
  /-- A die-to-die seam SM0–SM3 exhausts its link-level retries and raises EV690 to EV693, whose default escalation
  is Hold (R510). -/
  | seamRetryExhausted (seam : Nat)
  /-- A Foreman core takes an exception that its firmware does not handle, raising EV680, which by default traps and
  then resets the cluster (R510). -/
  | foremanException (core : Nat)
  /-- The DRBG fails its health test, CIP_STATUS.DRBG_OK clears and EV696 is raised (R510). -/
  | drbgHealthFail
  /-- The 100 MHz reference clock returns after a failure, ending holdover so that the SerDes PLLs can relock and
  the links can train again (R492). -/
  | referenceClockReturn
  /-- RESUME_MIN passes after an erase was resumed, and a demand read waiting for that die may now suspend the erase
  again (R241). -/
  | resumeMinExpiry (channel target : Nat)
  /-- A bank whose row has been open and idle for OPEN_MAX × 4 ns has that row closed by the channel engine (R287).
  -/
  | rowIdleClose (chan rank bank : Nat)
  /-- A DRAM rank stops answering commands at run time, is declared dead and raises EV(6c + 2), with Hold as the
  default reaction (R310). -/
  | rankStopsAnswering (chan rank : Nat)
  /-- A host sends a CMA/SPDM 1.2 request over DOE, for example to authenticate the device or to set up the secure
  session that IDE key programming needs (R325). `session`: the exchange sets up a secure session; `cdat`: the
  handle of a CDAT entry that a Table Access request asks for. -/
  | spdmRequest (port code : Nat) (session : Bool) (cdat : Option Nat := none)
  deriving DecidableEq, Repr

end Sys2Proof
end

