-- ==== Sys2Proof/Decode.lean ====
section
/-! DEFINITION. Words of the table of operations and events: no row of the table has an encoding in bits, so no word spells a
command. -/

namespace Sys2Proof

/-- The command that a word spells: none. The block is driven by register accesses, bus and link events, pins and its own
operations; the table gives none of its rows any bits. -/
def decodeTableWord (_nbits _w : Nat) : Option Instr := none

end Sys2Proof
end

