-- ==== Sys2Proof/Machine/Codeword.lean ====
section
/-! DEFINITION. The Reed-Solomon codeword of a DRAM line, its poison pattern, and the decoder's ten hypotheses (R282 to R284).
The order of the symbols as coefficients and the byte of the line that is a symbol are DESIGN CHOICE 142. -/

namespace Sys2Proof.Machine

/-! ### GF(2⁸) with x⁸ + x⁴ + x³ + x² + 1 -/

def rsfDouble (a : Nat) : Nat := if a < 128 then 2 * a else Nat.xor (2 * a % 256) 0x1D

def rsfMul (a b : Nat) : Nat :=
  (List.range 8).foldl (fun r i => if b / 2 ^ (7 - i) % 2 = 1 then Nat.xor (rsfDouble r) a else rsfDouble r) 0

/-- α^n, α = 2. -/
def rsfExp (n : Nat) : Nat := (List.range (n % 255)).foldl (fun r _ => rsfDouble r) 1

/-- The inverse, a^254. -/
def rsfInv (a : Nat) : Nat :=
  let sq (x : Nat) : Nat := rsfMul x x
  let a2 := sq a
  let a4 := sq a2
  let a8 := sq a4
  let a16 := sq a8
  let a32 := sq a16
  let a64 := sq a32
  rsfMul a2 (rsfMul a4 (rsfMul a8 (rsfMul a16 (rsfMul a32 (rsfMul a64 (sq a64))))))

/-- The value of a polynomial, its coefficients from the highest down. -/
def rsfEval (l : List Nat) (x : Nat) : Nat := l.foldl (fun r c => Nat.xor (rsfMul r x) c) 0

/-- The product of polynomials given from the lowest coefficient up. -/
def rsfPolyMul (a b : List Nat) : List Nat :=
  (List.range (a.length + b.length - 1)).map (fun i =>
    (List.range (i + 1)).foldl (fun r j => Nat.xor r (rsfMul (a.getD j 0) (b.getD (i - j) 0))) 0)

/-! ### The codeword (R282, R284) -/

/-- The generator, from the lowest coefficient up: roots α⁰ to α¹⁵. -/
def rsGen : List Nat := (List.range 16).foldl (fun g i => rsfPolyMul g [rsfExp i, 1]) [1]

/-- The 16 check symbols of 64 data symbols: the remainder of their polynomial times x¹⁶. -/
def rsCheck (data : List Nat) : List Nat :=
  data.foldl (fun (r : List Nat) c =>
    let f := Nat.xor (r.headD 0) c
    List.zipWith (fun x g => Nat.xor x (rsfMul f g)) (r.tail ++ [0]) (rsGen.take 16).reverse) (List.replicate 16 0)

/-- The data symbols of a line: symbol 8d + j is byte 8d + j, which device Dd carries. -/
def lineSymbols (d : Line) : List Nat := (List.range 64).map (fun i => (d.extractLsb' (i * 8) 8).toNat)

/-- The 80 symbols that the ten devices hold for a line; poison is zero data whose check symbols are each XORed with 0xA5. -/
def lineCodeword (d : Line) (poison : Bool) : List Nat :=
  if poison then List.replicate 64 0 ++ (rsCheck (List.replicate 64 0)).map (fun c => Nat.xor c 0xA5)
  else lineSymbols d ++ rsCheck (lineSymbols d)

/-! ### The decoder (R282, R283) -/

def rsSyndromes (w : List Nat) : List Nat := (List.range 16).map (fun i => rsfEval w (rsfExp i))

/-- The locators of device d's symbols: symbol n is the coefficient of x^(79 − n). -/
def rsLocators (d : Nat) : List Nat := (List.range 8).map (fun j => rsfExp (79 - (8 * d + j)))

/-- The polynomial whose roots are the inverse locators, from the lowest coefficient up. -/
def rsErasure (d : Nat) : List Nat := (rsLocators d).foldl (fun g x => rsfPolyMul g [1, x]) [1]

/-- Hypothesis d: with the device's 8 symbols erased, the remaining syndrome is zero. -/
def rsPasses (s : List Nat) (d : Nat) : Bool := ((rsfPolyMul s (rsErasure d)).drop 8).take 8 |>.all (fun t => t == 0)

/-- The word with the erased symbols of device d filled in (Forney). -/
def rsFill (w s : List Nat) (d : Nat) : List Nat :=
  let lam := rsErasure d
  let om := ((rsfPolyMul s lam).take 8).reverse
  let der := ((List.range 8).map (fun i => if i % 2 = 0 then lam.getD (i + 1) 0 else 0)).reverse
  let fix := (rsLocators d).map (fun x => rsfMul x (rsfMul (rsfEval om (rsfInv x)) (rsfInv (rsfEval der (rsfInv x)))))
  List.zipWith (fun c i => if i / 8 = d then Nat.xor c (fix.getD (i % 8) 0) else c) w (List.range 80)

/-- The four outcomes of a read (R283). -/
inductive RsOutcome where
  | clean | corrected (dev : Nat) (word : List Nat) | poison | uncorrectable
  deriving DecidableEq, Repr

/-- Zero syndrome, or the one hypothesis that passes; else the same test against the poison pattern (R282 to R284). -/
def rsDecode (w : List Nat) : RsOutcome :=
  let s := rsSyndromes w
  if s.all (fun x => x == 0) then .clean
  else match (List.range 10).find? (rsPasses s) with
    | some d => .corrected d (rsFill w s d)
    | none =>
      let p := rsSyndromes (List.zipWith Nat.xor w (lineCodeword 0 true))
      if p.all (fun x => x == 0) || (List.range 10).any (rsPasses p) then .poison else .uncorrectable

end Sys2Proof.Machine
end

