-- ==== Sys2Proof/Config.lean ====
section
/-! DEFINITION. What the manual leaves open: opaque constants with no body, so that nothing can be proved of their
values, and the CRC-32 of which the manual gives only the name. -/

namespace Sys2Proof

/-- The n-th draw of an open value, as a number below 2^w once it is reduced by its user (entry 3). -/
opaque Config.freeNat : Nat → Nat

/-- The n-th draw of a 256-bit key from the DRBG (R416; entry 3). -/
opaque Config.freeKey : Nat → BitVec 256

/-- What a division by zero gives in the ledger, by dividend (entry 4). -/
opaque Config.divByZero : Nat → Nat

/-- CRC-32 as the manual names it (R79, R435; entry 5). -/
opaque Config.crc32 : List Byte → Word

/-- Parity byte i of the 528 of an LDPC codeword, by its 4,120 information bytes: the code itself is not given (R221; entry 5). -/
opaque Config.ldpcByte : List Byte → Nat → Byte

/-- Offset in BAR0 of the HDM decoder's control register (R332; entry 6). -/
opaque Config.hdmControl : Nat

/-- The level of a two-wire pin (port * 2 + 0 SDA, 1 SCL) while a transfer or a recovery runs, and of an ALERT line (16 + port), by pin
and tick (R563; entry 43). -/
opaque Config.pinLevel : Nat → Nat → BitVec 1

/-- Scan-clock cycles counted in the 32 ticks before a tick (R506; entry 43). -/
opaque Config.rcCount : Nat → BitVec 16

/-- Carve-out line that holds a block's entry of the block information table, as channel * 2^20 + line, by block key (R91, R230; entry
138). -/
opaque Config.bitLine : Nat → Nat

/-- A byte of the carve-out whose place the manual does not lay out, as a save's records hold it, by save number, channel and offset
(R91; entry 138). -/
opaque Config.carveByte : Nat → Nat → Nat → Byte

end Sys2Proof
end

