-- ==== Sys2Proof/Machine/Aes.lean ====
section
/-! DEFINITION. AES-256 (FIPS 197) with the modes of it that the manual names: CMAC (SP 800-38B) over images and anchors, and
the counter blocks and the hash of GCM (SP 800-38D). Byte i of a key or a block is its bits [8i+7:8i], as it lies in memory. -/

namespace Sys2Proof.Machine

/-! ### The field GF(2^8) and the S-box -/

/-- Multiplication by x in the field of AES. -/
def gfDouble (b : Byte) : Byte := (b <<< 1) ^^^ (if b.msb then 0x1b else 0)

/-- Multiplication in the field of AES: the multiples of `b` that the bits of `a` pick. -/
def gfMul (a b : Byte) : Byte :=
  ((List.range 8).foldl (fun (r : Byte × Byte) i => (if a.getLsbD i then r.1 ^^^ r.2 else r.1, gfDouble r.2)) (0, b)).1

/-- The S-box of FIPS 197, rows 0 to 7. -/
def sboxLow : List Nat :=
  [0x63, 0x7c, 0x77, 0x7b, 0xf2, 0x6b, 0x6f, 0xc5, 0x30, 0x01, 0x67, 0x2b, 0xfe, 0xd7, 0xab, 0x76] ++
  [0xca, 0x82, 0xc9, 0x7d, 0xfa, 0x59, 0x47, 0xf0, 0xad, 0xd4, 0xa2, 0xaf, 0x9c, 0xa4, 0x72, 0xc0] ++
  [0xb7, 0xfd, 0x93, 0x26, 0x36, 0x3f, 0xf7, 0xcc, 0x34, 0xa5, 0xe5, 0xf1, 0x71, 0xd8, 0x31, 0x15] ++
  [0x04, 0xc7, 0x23, 0xc3, 0x18, 0x96, 0x05, 0x9a, 0x07, 0x12, 0x80, 0xe2, 0xeb, 0x27, 0xb2, 0x75] ++
  [0x09, 0x83, 0x2c, 0x1a, 0x1b, 0x6e, 0x5a, 0xa0, 0x52, 0x3b, 0xd6, 0xb3, 0x29, 0xe3, 0x2f, 0x84] ++
  [0x53, 0xd1, 0x00, 0xed, 0x20, 0xfc, 0xb1, 0x5b, 0x6a, 0xcb, 0xbe, 0x39, 0x4a, 0x4c, 0x58, 0xcf] ++
  [0xd0, 0xef, 0xaa, 0xfb, 0x43, 0x4d, 0x33, 0x85, 0x45, 0xf9, 0x02, 0x7f, 0x50, 0x3c, 0x9f, 0xa8] ++
  [0x51, 0xa3, 0x40, 0x8f, 0x92, 0x9d, 0x38, 0xf5, 0xbc, 0xb6, 0xda, 0x21, 0x10, 0xff, 0xf3, 0xd2]

/-- The S-box of FIPS 197, rows 8 to 15. -/
def sboxHigh : List Nat :=
  [0xcd, 0x0c, 0x13, 0xec, 0x5f, 0x97, 0x44, 0x17, 0xc4, 0xa7, 0x7e, 0x3d, 0x64, 0x5d, 0x19, 0x73] ++
  [0x60, 0x81, 0x4f, 0xdc, 0x22, 0x2a, 0x90, 0x88, 0x46, 0xee, 0xb8, 0x14, 0xde, 0x5e, 0x0b, 0xdb] ++
  [0xe0, 0x32, 0x3a, 0x0a, 0x49, 0x06, 0x24, 0x5c, 0xc2, 0xd3, 0xac, 0x62, 0x91, 0x95, 0xe4, 0x79] ++
  [0xe7, 0xc8, 0x37, 0x6d, 0x8d, 0xd5, 0x4e, 0xa9, 0x6c, 0x56, 0xf4, 0xea, 0x65, 0x7a, 0xae, 0x08] ++
  [0xba, 0x78, 0x25, 0x2e, 0x1c, 0xa6, 0xb4, 0xc6, 0xe8, 0xdd, 0x74, 0x1f, 0x4b, 0xbd, 0x8b, 0x8a] ++
  [0x70, 0x3e, 0xb5, 0x66, 0x48, 0x03, 0xf6, 0x0e, 0x61, 0x35, 0x57, 0xb9, 0x86, 0xc1, 0x1d, 0x9e] ++
  [0xe1, 0xf8, 0x98, 0x11, 0x69, 0xd9, 0x8e, 0x94, 0x9b, 0x1e, 0x87, 0xe9, 0xce, 0x55, 0x28, 0xdf] ++
  [0x8c, 0xa1, 0x89, 0x0d, 0xbf, 0xe6, 0x42, 0x68, 0x41, 0x99, 0x2d, 0x0f, 0xb0, 0x54, 0xbb, 0x16]

/-- A byte through the S-box. -/
def subByte (b : Byte) : Byte :=
  BitVec.ofNat 8 (if b.toNat < 128 then sboxLow.getD b.toNat 0 else sboxHigh.getD (b.toNat - 128) 0)

/-- A byte through the inverse S-box. -/
def unsubByte (b : Byte) : Byte :=
  match sboxLow.findIdx? (fun x => x == b.toNat) with
  | some i => BitVec.ofNat 8 i
  | none => BitVec.ofNat 8 (128 + (sboxHigh.findIdx? (fun x => x == b.toNat)).getD 0)

/-! ### Bytes of keys and blocks -/

/-- The first `n` bytes of a bit vector, lowest first. -/
def bytesOf (n : Nat) (x : BitVec w) : List Byte := (List.range n).map (fun i => x.extractLsb' (8 * i) 8)

/-- Sixteen bytes as a block. -/
def blockOf (l : List Byte) : BitVec 128 := BitVec.ofNat 128 (l.foldr (fun b n => b.toNat + 256 * n) 0)

/-- A block as the big-endian number that the standards' counters and fields use. -/
def beNat (x : BitVec 128) : Nat := (bytesOf 16 x).foldl (fun n b => 256 * n + b.toNat) 0

/-- The block of a big-endian number. -/
def beBlock (n : Nat) : BitVec 128 := blockOf ((bytesOf 16 (BitVec.ofNat 128 n)).reverse)

/-- Byte by byte exclusive or. -/
def xorBytes (a b : List Byte) : List Byte := List.zipWith (fun x y => x ^^^ y) a b

/-! ### AES-256 (FIPS 197) -/

/-- The round constant of key-schedule word 8n. -/
def rcon (n : Nat) : Byte := (List.range (n - 1)).foldl (fun b _ => gfDouble b) 1

/-- Word i of the key schedule from the words before it, newest first. -/
def nextWord (i : Nat) (ws : List (List Byte)) : List Byte :=
  let t := ws.getD 0 []
  let t :=
    if i % 8 = 0 then xorBytes ((t.drop 1 ++ t.take 1).map subByte) [rcon (i / 8), 0, 0, 0]
    else if i % 8 = 4 then t.map subByte else t
  xorBytes (ws.getD 7 []) t

/-- The fifteen round keys of a 256-bit key. -/
def roundKeys (key : BitVec 256) : List (List Byte) :=
  let k := bytesOf 32 key
  let first := ((List.range 8).map (fun i => (k.drop (4 * i)).take 4)).reverse
  let ws := ((List.range 52).foldl (fun ws i => nextWord (8 + i) ws :: ws) first).reverse
  (List.range 15).map (fun r => ((ws.drop (4 * r)).take 4).flatten)

/-- ShiftRows, by `d` places to the left in row 1: row r of column c comes from column c + d r. -/
def shiftRows (d : Nat) (x : List Byte) : List Byte :=
  (List.range 16).map (fun i => x.getD (i % 4 + 4 * ((i / 4 + d * (i % 4)) % 4)) 0)

/-- MixColumns with the first row of its matrix. -/
def mixColumns (row : List Byte) (x : List Byte) : List Byte :=
  (List.range 16).map (fun i =>
    (List.range 4).foldl (fun a j => a ^^^ gfMul (row.getD ((j + 4 - i % 4) % 4) 0) (x.getD (i / 4 * 4 + j) 0)) 0)

/-- AES-256 of one block under its round keys. -/
def aesRounds (rk : List (List Byte)) (x : List Byte) : List Byte :=
  let y := (List.range 13).foldl (fun x r =>
    xorBytes (mixColumns [2, 3, 1, 1] (shiftRows 1 (x.map subByte))) (rk.getD (r + 1) [])) (xorBytes x (rk.getD 0 []))
  xorBytes (shiftRows 1 (y.map subByte)) (rk.getD 14 [])

/-- The inverse cipher of one block under its round keys. -/
def aesUnrounds (rk : List (List Byte)) (x : List Byte) : List Byte :=
  let y := (List.range 13).foldl (fun x r =>
    mixColumns [14, 11, 13, 9] (xorBytes ((shiftRows 3 x).map unsubByte) (rk.getD (13 - r) []))) (xorBytes x (rk.getD 14 []))
  xorBytes ((shiftRows 3 y).map unsubByte) (rk.getD 0 [])

/-- AES-256 encryption of one block (R368). -/
def aesEnc (key : BitVec 256) (x : BitVec 128) : BitVec 128 := blockOf (aesRounds (roundKeys key) (bytesOf 16 x))

/-- AES-256 decryption of one block (R368). -/
def aesDec (key : BitVec 256) (x : BitVec 128) : BitVec 128 := blockOf (aesUnrounds (roundKeys key) (bytesOf 16 x))

/-! ### CMAC (SP 800-38B; R57, R75, R79, R435, R568) -/

/-- Doubling of a subkey: the block as a big-endian number. -/
def cmacDouble (x : BitVec 128) : BitVec 128 :=
  let n := beNat x
  beBlock (if n < 2 ^ 127 then 2 * n else (2 * n % 2 ^ 128) ^^^ 0x87)

/-- The blocks of a message through the chain; the last one, padded where it is short, is masked with a subkey. -/
def cmacChain (rk : List (List Byte)) (k1 k2 : List Byte) : Nat → List Byte → List Byte → List Byte
  | 0, c, _ => c
  | n + 1, c, m =>
    let b := m.take 16
    let rest := m.drop 16
    if rest.isEmpty then
      let b := if b.length = 16 then xorBytes b k1 else xorBytes (b ++ 0x80 :: List.replicate (15 - b.length) 0) k2
      aesRounds rk (xorBytes c b)
    else cmacChain rk k1 k2 n (aesRounds rk (xorBytes c b)) rest

/-- AES-CMAC of a byte string. -/
def cmac (key : BitVec 256) (m : List Byte) : BitVec 128 :=
  let rk := roundKeys key
  let zero := List.replicate 16 (0 : Byte)
  let k1 := cmacDouble (blockOf (aesRounds rk zero))
  blockOf (cmacChain rk (bytesOf 16 k1) (bytesOf 16 (cmacDouble k1)) (m.length + 1) zero m)

/-! ### GCM (SP 800-38D; R185, R368) -/

/-- The product of the GCM hash: bit 0 of the field is the most significant bit of byte 0. -/
def ghashMul (x y : BitVec 128) : BitVec 128 :=
  let a := beNat x
  let r := (List.range 128).foldl (fun (r : Nat × Nat) i =>
    (if a / 2 ^ (127 - i) % 2 = 1 then r.1 ^^^ r.2 else r.1,
     if r.2 % 2 = 1 then r.2 / 2 ^^^ (0xe1 * 2 ^ 120) else r.2 / 2)) (0, beNat y)
  beBlock r.1

/-- The counter block n of a 96-bit IV: the IV in bytes 0 to 11, the counter big-endian in bytes 12 to 15. -/
def gcmBlock (iv : BitVec 128) (n : Nat) : BitVec 128 :=
  blockOf (bytesOf 12 iv ++ (bytesOf 4 (BitVec.ofNat 32 n)).reverse)

/-- The block of lengths that closes the hash, in bits, each a 64-bit big-endian number. -/
def gcmLengths (aad data : Nat) : BitVec 128 := beBlock (8 * aad * 2 ^ 64 + 8 * data)

/-- A counter block incremented modulo 2^128 as SP 800-38A counts, n times. -/
def ctrBlock (iv : BitVec 128) (n : Nat) : BitVec 128 := beBlock (beNat iv + n)

end Sys2Proof.Machine
end

