-- ==== Sys2Proof/Machine/Regs.lean ====
section
/-! DEFINITION. The registers of the part as its register tables give them (R583, R593 and the table of each block):
one named field per table line, with the address of its word, its lowest bit and its width; and per block the rows
(offset, access code, reset value, range) from which reset values and the effect of a plain write follow (R6, R7, R629). -/

namespace Sys2Proof.Machine

/-- A register field: the byte address of its 32-bit word, its lowest bit and its width (R4, R5). -/
structure Fld where
  addr : Nat
  lo : Nat
  width : Nat
  deriving DecidableEq, Repr

/-- The access codes of R7. A field whose only code is LIVE ignores writes. -/
inductive Acc where
  | ro | rw | w1c | wo | rws | rwl | live
  deriving DecidableEq, Repr

/-- What a write does with a value outside the field's range (R629): any value is stored, it is clamped to the range,
or a code that names no value leaves the field as it was. -/
inductive Lim where
  | any
  | clamp (lo hi : Nat)
  | enum (lo hi : Nat)
  | names (codes : List Nat)
  deriving DecidableEq, Repr

/-- One line of a register table. `off` is the offset in the block (or in the block's instance), `stride` and `count`
repeat the register. -/
structure FRow where
  off : Nat
  stride : Nat
  count : Nat
  lo : Nat
  width : Nat
  acc : Acc
  reset : Nat
  lim : Lim
  deriving DecidableEq, Repr

/-! BED registers. -/

def BED_ID.PART : Fld := ⟨0x0, 0, 16⟩
def BED_ID.STEP : Fld := ⟨0x0, 16, 8⟩
def BED_ID.FAMILY : Fld := ⟨0x0, 24, 8⟩
def BED_SN_LO.SERIAL : Fld := ⟨0x4, 0, 32⟩
def BED_SN_HI.SERIAL : Fld := ⟨0x8, 0, 28⟩
def BED_REV.MAP : Fld := ⟨0xc, 0, 8⟩
def BED_REV.SVY_MAJOR : Fld := ⟨0xc, 8, 8⟩
def BED_FWVER.VERSION : Fld := ⟨0x10, 0, 32⟩
def BED_SVYGEN.GENERATION : Fld := ⟨0x14, 0, 32⟩
def BED_SHAPE.PROFILE : Fld := ⟨0x18, 0, 2⟩
def BED_SHAPE.FACES : Fld := ⟨0x18, 8, 6⟩
def BED_SHAPE.TWIN : Fld := ⟨0x18, 16, 1⟩
def BED_SHAPE.ROLE : Fld := ⟨0x18, 17, 1⟩
def BED_STATE.CHIP : Fld := ⟨0x20, 0, 3⟩
def BED_STATE.MARGIN : Fld := ⟨0x20, 4, 2⟩
def BED_STATE.OPEN : Fld := ⟨0x20, 8, 6⟩
def BED_STATE.VOLATILE : Fld := ⟨0x20, 16, 6⟩
def BED_STATE.SINGLE : Fld := ⟨0x20, 24, 1⟩
def BED_STATE.HOME : Fld := ⟨0x20, 25, 1⟩
def BED_STATE.ERR : Fld := ⟨0x20, 26, 1⟩
def BED_TICK_LO.TICK : Fld := ⟨0x24, 0, 32⟩
def BED_TICK_HI.TICK : Fld := ⟨0x28, 0, 16⟩
def BED_FACE.FACE : Fld := ⟨0x30, 0, 3⟩
def BED_FSEL.FACE : Fld := ⟨0x34, 0, 3⟩
def BED_FSUP.SUPPORTED (i : Nat) : Fld := ⟨0x40 + i * 4, 0, 32⟩
def BED_FEN.ENABLED (i : Nat) : Fld := ⟨0x50 + i * 4, 0, 32⟩
def BED_FNEG.COUNT : Fld := ⟨0x60, 0, 16⟩
def BED_FNEG.STORED : Fld := ⟨0x60, 16, 1⟩
def BED_DENY.COUNT : Fld := ⟨0x70, 0, 16⟩
def BED_DENY.FACE : Fld := ⟨0x70, 16, 3⟩
def BED_DENY.CLEAR : Fld := ⟨0x70, 31, 1⟩
def BED_DENY_ADDR.ADDR : Fld := ⟨0x74, 2, 24⟩
def BED_DENY_ADDR.WRITE : Fld := ⟨0x74, 31, 1⟩
def BED_DROP.COUNT : Fld := ⟨0x78, 0, 16⟩
def BED_DROP.CLEAR : Fld := ⟨0x78, 31, 1⟩
def BED_DROP_ADDR.ADDR : Fld := ⟨0x7c, 2, 24⟩

/-- The lines of the BED register table. -/
def bedRows : List FRow :=
  [⟨0x0, 4, 1, 0, 16, .ro, 13938, .any⟩,
   ⟨0x0, 4, 1, 16, 8, .ro, 0, .any⟩,
   ⟨0x0, 4, 1, 24, 8, .ro, 65, .any⟩,
   ⟨0x4, 4, 1, 0, 32, .ro, 0, .any⟩,
   ⟨0x8, 4, 1, 0, 28, .ro, 0, .any⟩,
   ⟨0xc, 4, 1, 0, 8, .ro, 1, .any⟩,
   ⟨0xc, 4, 1, 8, 8, .ro, 1, .any⟩,
   ⟨0x10, 4, 1, 0, 32, .ro, 0, .any⟩,
   ⟨0x14, 4, 1, 0, 32, .ro, 0, .any⟩,
   ⟨0x18, 4, 1, 0, 2, .ro, 0, .any⟩,
   ⟨0x18, 4, 1, 8, 6, .ro, 0, .any⟩,
   ⟨0x18, 4, 1, 16, 1, .ro, 0, .any⟩,
   ⟨0x18, 4, 1, 17, 1, .ro, 0, .any⟩,
   ⟨0x20, 4, 1, 0, 3, .live, 1, .any⟩,
   ⟨0x20, 4, 1, 4, 2, .live, 3, .any⟩,
   ⟨0x20, 4, 1, 8, 6, .live, 0, .any⟩,
   ⟨0x20, 4, 1, 16, 6, .live, 0, .any⟩,
   ⟨0x20, 4, 1, 24, 1, .live, 0, .any⟩,
   ⟨0x20, 4, 1, 25, 1, .live, 0, .any⟩,
   ⟨0x20, 4, 1, 26, 1, .live, 0, .any⟩,
   ⟨0x24, 4, 1, 0, 32, .live, 0, .any⟩,
   ⟨0x28, 4, 1, 0, 16, .live, 0, .any⟩,
   ⟨0x30, 4, 1, 0, 3, .ro, 7, .any⟩,
   ⟨0x34, 4, 1, 0, 3, .rw, 0, .any⟩,
   ⟨0x40, 4, 4, 0, 32, .ro, 0, .any⟩,
   ⟨0x50, 4, 4, 0, 32, .ro, 0, .any⟩,
   ⟨0x60, 4, 1, 0, 16, .live, 0, .any⟩,
   ⟨0x60, 4, 1, 16, 1, .live, 0, .any⟩,
   ⟨0x70, 4, 1, 0, 16, .live, 0, .any⟩,
   ⟨0x70, 4, 1, 16, 3, .ro, 0, .any⟩,
   ⟨0x70, 4, 1, 31, 1, .wo, 0, .any⟩,
   ⟨0x74, 4, 1, 2, 24, .ro, 0, .any⟩,
   ⟨0x74, 4, 1, 31, 1, .ro, 0, .any⟩,
   ⟨0x78, 4, 1, 0, 16, .live, 0, .any⟩,
   ⟨0x78, 4, 1, 31, 1, .wo, 0, .any⟩,
   ⟨0x7c, 4, 1, 2, 24, .ro, 0, .any⟩]

/-! SVY registers. -/

def SVY_STATUS.STATE : Fld := ⟨0x10000, 0, 3⟩
def SVY_STATUS.RESULT : Fld := ⟨0x10000, 8, 4⟩
def SVY_STATUS.BOOTED_COPY : Fld := ⟨0x10000, 16, 1⟩
def SVY_STATUS.A_VALID : Fld := ⟨0x10000, 17, 1⟩
def SVY_STATUS.B_VALID : Fld := ⟨0x10000, 18, 1⟩
def SVY_GEN.GENERATION : Fld := ⟨0x10004, 0, 32⟩
def SVY_SHAPE.PROFILE : Fld := ⟨0x10008, 0, 2⟩
def SVY_SHAPE.WAYS : Fld := ⟨0x10008, 8, 6⟩
def SVY_SHAPE.IG : Fld := ⟨0x10008, 16, 2⟩
def SVY_FMT.MINOR : Fld := ⟨0x1000c, 0, 8⟩
def SVY_FMT.MAJOR : Fld := ⟨0x1000c, 8, 8⟩
def SVY_STAGE_ADDR.ADDR : Fld := ⟨0x10010, 2, 17⟩
def SVY_STAGE_DATA.DATA : Fld := ⟨0x10014, 0, 32⟩
def SVY_CMD.CMD : Fld := ⟨0x10018, 0, 3⟩
def SVY_LIVE.COUNT : Fld := ⟨0x1001c, 0, 16⟩
def SVY_LIVE.TICK : Fld := ⟨0x1001c, 16, 16⟩
def SVY_SDIG.DIGEST (i : Nat) : Fld := ⟨0x10020 + i * 4, 0, 32⟩
def SVY_FLOOR.BLOWN : Fld := ⟨0x10030, 0, 7⟩

/-- The lines of the SVY register table. -/
def svyRows : List FRow :=
  [⟨0x0, 4, 1, 0, 3, .live, 0, .any⟩,
   ⟨0x0, 4, 1, 8, 4, .ro, 0, .any⟩,
   ⟨0x0, 4, 1, 16, 1, .ro, 0, .any⟩,
   ⟨0x0, 4, 1, 17, 1, .ro, 0, .any⟩,
   ⟨0x0, 4, 1, 18, 1, .ro, 0, .any⟩,
   ⟨0x4, 4, 1, 0, 32, .ro, 0, .any⟩,
   ⟨0x8, 4, 1, 0, 2, .ro, 0, .any⟩,
   ⟨0x8, 4, 1, 8, 6, .ro, 0, .any⟩,
   ⟨0x8, 4, 1, 16, 2, .ro, 0, .any⟩,
   ⟨0xc, 4, 1, 0, 8, .ro, 0, .any⟩,
   ⟨0xc, 4, 1, 8, 8, .ro, 0, .any⟩,
   ⟨0x10, 4, 1, 2, 17, .rw, 0, .any⟩,
   ⟨0x14, 4, 1, 0, 32, .rw, 0, .any⟩,
   ⟨0x18, 4, 1, 0, 3, .wo, 0, .any⟩,
   ⟨0x1c, 4, 1, 0, 16, .ro, 0, .any⟩,
   ⟨0x1c, 4, 1, 16, 16, .ro, 0, .any⟩,
   ⟨0x20, 4, 4, 0, 32, .ro, 0, .any⟩,
   ⟨0x30, 4, 1, 0, 7, .ro, 0, .any⟩]

/-! FLT registers. -/

def FLT_STATUS.HOLD : Fld := ⟨0x20000, 0, 1⟩
def FLT_STATUS.ERR_N : Fld := ⟨0x20000, 1, 1⟩
def FLT_STATUS.PARITY : Fld := ⟨0x20000, 2, 1⟩
def FLT_STATUS.IRQQ_OVF : Fld := ⟨0x20000, 3, 1⟩
def FLT_STATUS.IRQQ_COUNT : Fld := ⟨0x20000, 8, 9⟩
def FLT_FFC.SOURCE : Fld := ⟨0x20004, 0, 10⟩
def FLT_FFC.ACTION : Fld := ⟨0x20004, 10, 3⟩
def FLT_FFC.ESC : Fld := ⟨0x20004, 13, 1⟩
def FLT_FFC.QUAL : Fld := ⟨0x20004, 14, 1⟩
def FLT_FFC.SAME_CYCLE : Fld := ⟨0x20004, 15, 1⟩
def FLT_FFC.CHIP : Fld := ⟨0x20004, 16, 3⟩
def FLT_FFC.MAXRANK : Fld := ⟨0x20004, 20, 3⟩
def FLT_FFC.VALID : Fld := ⟨0x20004, 31, 1⟩
def FLT_FFC_TLO.TICK : Fld := ⟨0x20008, 0, 32⟩
def FLT_FFC_THI.TICK : Fld := ⟨0x2000c, 0, 16⟩
def FLT_FFC_THI.MORE : Fld := ⟨0x2000c, 16, 16⟩
def FLT_ERR.PIN : Fld := ⟨0x20010, 0, 1⟩
def FLT_CFG.RSTLIM : Fld := ⟨0x20014, 0, 4⟩
def FLT_CFG.CAPT_IRQ : Fld := ⟨0x20014, 4, 1⟩
def FLT_RSTCNT.COUNT : Fld := ⟨0x20018, 0, 8⟩
def FLT_CMD.OP : Fld := ⟨0x2001c, 0, 2⟩
def FLT_CMD.SOURCE : Fld := ⟨0x2001c, 16, 10⟩
def FLT_IRQQ.SOURCE : Fld := ⟨0x20020, 0, 10⟩
def FLT_IRQQ.ACTION : Fld := ⟨0x20020, 10, 3⟩
def FLT_IRQQ.VALID : Fld := ⟨0x20020, 31, 1⟩
def FLT_IRQQ_POP.POP : Fld := ⟨0x20024, 0, 1⟩
def FLT_EVS.STATUS : Fld := ⟨0x20028, 0, 24⟩
def FLT_WIN.TICKS (w : Nat) : Fld := ⟨0x20040 + w * 4, 0, 32⟩
def FLT_MAP.ENTRY_LO (i : Nat) : Fld := ⟨0x20400 + i * 4, 0, 16⟩
def FLT_MAP.ENTRY_HI (i : Nat) : Fld := ⟨0x20400 + i * 4, 16, 16⟩
def FLT_THR.BYTES (i : Nat) : Fld := ⟨0x21000 + i * 4, 0, 32⟩
def FLT_CNT.CUR (e : Nat) : Fld := ⟨0x22000 + e * 4, 0, 16⟩
def FLT_CNT.PREV (e : Nat) : Fld := ⟨0x22000 + e * 4, 16, 16⟩
def FLT_TOT.TOTAL (e : Nat) : Fld := ⟨0x23000 + e * 4, 0, 32⟩

/-- The lines of the FLT register table. -/
def fltRows : List FRow :=
  [⟨0x0, 4, 1, 0, 1, .live, 0, .any⟩,
   ⟨0x0, 4, 1, 1, 1, .live, 0, .any⟩,
   ⟨0x0, 4, 1, 2, 1, .ro, 0, .any⟩,
   ⟨0x0, 4, 1, 3, 1, .w1c, 0, .any⟩,
   ⟨0x0, 4, 1, 8, 9, .live, 0, .any⟩,
   ⟨0x4, 4, 1, 0, 10, .ro, 0, .any⟩,
   ⟨0x4, 4, 1, 10, 3, .ro, 0, .any⟩,
   ⟨0x4, 4, 1, 13, 1, .ro, 0, .any⟩,
   ⟨0x4, 4, 1, 14, 1, .ro, 0, .any⟩,
   ⟨0x4, 4, 1, 15, 1, .ro, 0, .any⟩,
   ⟨0x4, 4, 1, 16, 3, .ro, 0, .any⟩,
   ⟨0x4, 4, 1, 20, 3, .ro, 0, .any⟩,
   ⟨0x4, 4, 1, 31, 1, .w1c, 0, .any⟩,
   ⟨0x8, 4, 1, 0, 32, .ro, 0, .any⟩,
   ⟨0xc, 4, 1, 0, 16, .ro, 0, .any⟩,
   ⟨0xc, 4, 1, 16, 16, .ro, 0, .any⟩,
   ⟨0x10, 4, 1, 0, 1, .w1c, 0, .any⟩,
   ⟨0x14, 4, 1, 0, 4, .rw, 3, .any⟩,
   ⟨0x14, 4, 1, 4, 1, .rw, 1, .any⟩,
   ⟨0x18, 4, 1, 0, 8, .rws, 0, .any⟩,
   ⟨0x1c, 4, 1, 0, 2, .wo, 0, .any⟩,
   ⟨0x1c, 4, 1, 16, 10, .wo, 0, .any⟩,
   ⟨0x20, 4, 1, 0, 10, .live, 0, .any⟩,
   ⟨0x20, 4, 1, 10, 3, .live, 0, .any⟩,
   ⟨0x20, 4, 1, 31, 1, .live, 0, .any⟩,
   ⟨0x24, 4, 1, 0, 1, .wo, 0, .any⟩,
   ⟨0x28, 4, 1, 0, 24, .w1c, 0, .any⟩,
   ⟨0x40, 4, 8, 0, 32, .ro, 0, .any⟩,
   ⟨0x400, 4, 352, 0, 3, .rwl, 0, (.enum 0 6)⟩,
   ⟨0x400, 4, 352, 3, 3, .rwl, 0, (.enum 0 6)⟩,
   ⟨0x400, 4, 352, 6, 1, .rwl, 0, .any⟩,
   ⟨0x400, 4, 352, 16, 3, .rwl, 0, (.enum 0 6)⟩,
   ⟨0x400, 4, 352, 19, 3, .rwl, 0, (.enum 0 6)⟩,
   ⟨0x400, 4, 352, 22, 1, .rwl, 0, .any⟩,
   ⟨0x1000, 4, 176, 0, 32, .ro, 0, .any⟩,
   ⟨0x2000, 4, 704, 0, 16, .live, 0, .any⟩,
   ⟨0x2000, 4, 704, 16, 16, .live, 0, .any⟩,
   ⟨0x3000, 4, 704, 0, 32, .live, 0, .any⟩]

/-! CLG registers. -/

def CLG_STATUS.READY : Fld := ⟨0x30000, 0, 1⟩
def CLG_STATUS.BUSY : Fld := ⟨0x30000, 1, 1⟩
def CLG_STATUS.REQ : Fld := ⟨0x30000, 2, 1⟩
def CLG_STATUS.FIRST_FULL : Fld := ⟨0x30000, 3, 1⟩
def CLG_STATUS.RESULT : Fld := ⟨0x30000, 4, 4⟩
def CLG_CFG.CADENCE : Fld := ⟨0x30004, 0, 11⟩
def CLG_CFG.ENABLE : Fld := ⟨0x30004, 16, 1⟩
def CLG_CMD.OP : Fld := ⟨0x30008, 0, 2⟩
def CLG_SEQ.SEQ : Fld := ⟨0x3000c, 0, 32⟩
def CLG_OLDEST.SEQ : Fld := ⟨0x30010, 0, 32⟩
def CLG_FIRSTN.RECORDS : Fld := ⟨0x30014, 0, 13⟩
def CLG_HOURS.HOURS : Fld := ⟨0x30018, 0, 24⟩
def CLG_SECS.SECONDS : Fld := ⟨0x3001c, 0, 12⟩
def CLG_PCYC.COUNT : Fld := ⟨0x30020, 0, 32⟩
def CLG_PEND.RECORDS : Fld := ⟨0x30024, 0, 8⟩
def CLG_FAILS.COPY : Fld := ⟨0x30028, 0, 8⟩
def CLG_FAILS.MERGES : Fld := ⟨0x30028, 8, 8⟩
def CLG_FAILS.DROPS : Fld := ⟨0x30028, 16, 8⟩
def CLG_CUR.SEQ : Fld := ⟨0x30030, 0, 32⟩
def CLG_LIVESEL.AGG : Fld := ⟨0x30034, 0, 6⟩
def CLG_CUR_STATUS.STATE : Fld := ⟨0x30038, 0, 2⟩
def CLG_HCFG.K (f : Nat) : Fld := ⟨0x30080 + f * 4, 0, 4⟩
def CLG_HCFG.EN (f : Nat) : Fld := ⟨0x30080 + f * 4, 8, 1⟩
def CLG_WIN.WORD (i : Nat) : Fld := ⟨0x30100 + i * 4, 0, 32⟩

/-- The lines of the CLG register table. -/
def clgRows : List FRow :=
  [⟨0x0, 4, 1, 0, 1, .live, 0, .any⟩,
   ⟨0x0, 4, 1, 1, 1, .live, 0, .any⟩,
   ⟨0x0, 4, 1, 2, 1, .w1c, 0, .any⟩,
   ⟨0x0, 4, 1, 3, 1, .ro, 0, .any⟩,
   ⟨0x0, 4, 1, 4, 4, .ro, 0, .any⟩,
   ⟨0x4, 4, 1, 0, 11, .rw, 15, (.clamp 0 1440)⟩,
   ⟨0x4, 4, 1, 16, 1, .rw, 1, .any⟩,
   ⟨0x8, 4, 1, 0, 2, .wo, 0, .any⟩,
   ⟨0xc, 4, 1, 0, 32, .live, 0, .any⟩,
   ⟨0x10, 4, 1, 0, 32, .live, 0, .any⟩,
   ⟨0x14, 4, 1, 0, 13, .ro, 0, .any⟩,
   ⟨0x18, 4, 1, 0, 24, .live, 0, .any⟩,
   ⟨0x1c, 4, 1, 0, 12, .live, 0, .any⟩,
   ⟨0x20, 4, 1, 0, 32, .live, 0, .any⟩,
   ⟨0x24, 4, 1, 0, 8, .live, 0, .any⟩,
   ⟨0x28, 4, 1, 0, 8, .live, 0, .any⟩,
   ⟨0x28, 4, 1, 8, 8, .live, 0, .any⟩,
   ⟨0x28, 4, 1, 16, 8, .live, 0, .any⟩,
   ⟨0x30, 4, 1, 0, 32, .rw, 0, .any⟩,
   ⟨0x34, 4, 1, 0, 6, .rw, 0, (.enum 0 33)⟩,
   ⟨0x38, 4, 1, 0, 2, .live, 0, .any⟩,
   ⟨0x80, 4, 32, 0, 4, .rw, 0, .any⟩,
   ⟨0x80, 4, 32, 8, 1, .rw, 1, .any⟩,
   ⟨0x100, 4, 64, 0, 32, .ro, 0, .any⟩]

/-! SEQ registers. -/

def SEQ_STATUS.LEVEL : Fld := ⟨0x40000, 0, 4⟩
def SEQ_STATUS.TOP : Fld := ⟨0x40000, 4, 4⟩
def SEQ_STATUS.PHASE : Fld := ⟨0x40000, 8, 3⟩
def SEQ_STATUS.ON_PEND : Fld := ⟨0x40000, 11, 1⟩
def SEQ_STATUS.OFF_HELD : Fld := ⟨0x40000, 12, 1⟩
def SEQ_STATUS.SYNC_WAIT : Fld := ⟨0x40000, 13, 1⟩
def SEQ_STATUS.CASC_WAIT : Fld := ⟨0x40000, 14, 1⟩
def SEQ_STATUS.INPUT_GOOD : Fld := ⟨0x40000, 15, 1⟩
def SEQ_STATUS.PWR_LOSS : Fld := ⟨0x40000, 16, 1⟩
def SEQ_STATUS.PFW : Fld := ⟨0x40000, 17, 1⟩
def SEQ_STATUS.SEQ_UP : Fld := ⟨0x40000, 18, 1⟩
def SEQ_STATUS.SEQ_DN : Fld := ⟨0x40000, 19, 1⟩
def SEQ_STATUS.SYNC_LINE : Fld := ⟨0x40000, 20, 1⟩
def SEQ_CMD.OP : Fld := ⟨0x40004, 0, 3⟩
def SEQ_CMD.RST : Fld := ⟨0x40004, 8, 4⟩
def SEQ_CMD_STATUS.RESULT : Fld := ⟨0x40008, 0, 4⟩
def SEQ_OFFDLY.MS : Fld := ⟨0x4000c, 0, 16⟩
def SEQ_OFFDLY.LEFT : Fld := ⟨0x4000c, 16, 16⟩
def SEQ_EN.RAILS : Fld := ⟨0x40010, 0, 32⟩
def SEQ_GOOD.RAILS : Fld := ⟨0x40014, 0, 32⟩
def SEQ_PG.RAW : Fld := ⟨0x40018, 0, 32⟩
def SEQ_FAILED.RAILS : Fld := ⟨0x4001c, 0, 32⟩
def SEQ_FIRST.RAIL : Fld := ⟨0x40020, 0, 6⟩
def SEQ_FIRST.CAUSE : Fld := ⟨0x40020, 8, 4⟩
def SEQ_FIRST.BENCH : Fld := ⟨0x40020, 12, 4⟩
def SEQ_FIRST.PHASE : Fld := ⟨0x40020, 16, 3⟩
def SEQ_FIRST.VALID : Fld := ⟨0x40020, 31, 1⟩
def SEQ_FIRST_TLO.TICK : Fld := ⟨0x40024, 0, 32⟩
def SEQ_FIRST_THI.TICK : Fld := ⟨0x40028, 0, 16⟩
def SEQ_FIRST_THI.CODE : Fld := ⟨0x40028, 16, 12⟩
def SEQ_FAIL_MORE.COUNT : Fld := ⟨0x4002c, 0, 16⟩
def SEQ_INPUT.CODE : Fld := ⟨0x40030, 0, 12⟩
def SEQ_INPUT.LOSSES : Fld := ⟨0x40030, 16, 16⟩
def SEQ_PFW.ASSERTS : Fld := ⟨0x40034, 0, 16⟩
def SEQ_PFW.LONGEST : Fld := ⟨0x40034, 16, 16⟩
def SEQ_STRAP.BSET : Fld := ⟨0x40038, 0, 2⟩
def SEQ_STRAP.SHADOW : Fld := ⟨0x40038, 4, 1⟩
def SEQ_SCAN.COUNT : Fld := ⟨0x4003c, 0, 32⟩
def SEQ_RST.ASSERTED : Fld := ⟨0x40040, 0, 16⟩
def SEQ_ADC.CODE (i : Nat) : Fld := ⟨0x40100 + i * 4, 0, 12⟩
def SEQ_EVS0.STATUS : Fld := ⟨0x40044, 0, 32⟩
def SEQ_EVS1.STATUS : Fld := ⟨0x40048, 0, 32⟩
def SEQ_EVS2.STATUS : Fld := ⟨0x4004c, 0, 8⟩

/-- The lines of the SEQ register table, part 1. -/
def seqRowsPart1 : List FRow :=
  [⟨0x0, 4, 1, 0, 4, .live, 0, .any⟩,
   ⟨0x0, 4, 1, 4, 4, .ro, 0, .any⟩,
   ⟨0x0, 4, 1, 8, 3, .live, 0, .any⟩,
   ⟨0x0, 4, 1, 11, 1, .live, 0, .any⟩,
   ⟨0x0, 4, 1, 12, 1, .live, 0, .any⟩,
   ⟨0x0, 4, 1, 13, 1, .live, 0, .any⟩,
   ⟨0x0, 4, 1, 14, 1, .live, 0, .any⟩,
   ⟨0x0, 4, 1, 15, 1, .live, 0, .any⟩,
   ⟨0x0, 4, 1, 16, 1, .live, 0, .any⟩,
   ⟨0x0, 4, 1, 17, 1, .live, 0, .any⟩,
   ⟨0x0, 4, 1, 18, 1, .live, 0, .any⟩,
   ⟨0x0, 4, 1, 19, 1, .live, 0, .any⟩,
   ⟨0x0, 4, 1, 20, 1, .live, 0, .any⟩,
   ⟨0x4, 4, 1, 0, 3, .wo, 0, .any⟩,
   ⟨0x4, 4, 1, 8, 4, .wo, 0, .any⟩,
   ⟨0x8, 4, 1, 0, 4, .ro, 0, .any⟩,
   ⟨0xc, 4, 1, 0, 16, .rw, 0, .any⟩,
   ⟨0xc, 4, 1, 16, 16, .live, 0, .any⟩,
   ⟨0x10, 4, 1, 0, 32, .live, 0, .any⟩,
   ⟨0x14, 4, 1, 0, 32, .live, 0, .any⟩,
   ⟨0x18, 4, 1, 0, 32, .live, 0, .any⟩,
   ⟨0x1c, 4, 1, 0, 32, .w1c, 0, .any⟩,
   ⟨0x20, 4, 1, 0, 6, .rws, 0, .any⟩,
   ⟨0x20, 4, 1, 8, 4, .rws, 0, (.enum 1 7)⟩,
   ⟨0x20, 4, 1, 12, 4, .rws, 0, .any⟩,
   ⟨0x20, 4, 1, 16, 3, .rws, 0, (.enum 0 5)⟩,
   ⟨0x20, 4, 1, 31, 1, .rws, 0, .any⟩,
   ⟨0x24, 4, 1, 0, 32, .rws, 0, .any⟩,
   ⟨0x28, 4, 1, 0, 16, .rws, 0, .any⟩,
   ⟨0x28, 4, 1, 16, 12, .rws, 0, .any⟩,
   ⟨0x2c, 4, 1, 0, 16, .rws, 0, .any⟩,
   ⟨0x30, 4, 1, 0, 12, .live, 0, .any⟩,
   ⟨0x30, 4, 1, 16, 16, .live, 0, .any⟩,
   ⟨0x34, 4, 1, 0, 16, .live, 0, .any⟩,
   ⟨0x34, 4, 1, 16, 16, .live, 0, .any⟩,
   ⟨0x38, 4, 1, 0, 2, .ro, 0, .any⟩,
   ⟨0x38, 4, 1, 4, 1, .live, 0, .any⟩,
   ⟨0x3c, 4, 1, 0, 32, .live, 0, .any⟩,
   ⟨0x40, 4, 1, 0, 16, .live, 0, .any⟩,
   ⟨0x100, 4, 48, 0, 12, .live, 0, .any⟩]
/-- The lines of the SEQ register table, part 2. -/
def seqRowsPart2 : List FRow :=
  [⟨0x44, 4, 1, 0, 32, .w1c, 0, .any⟩,
   ⟨0x48, 4, 1, 0, 32, .w1c, 0, .any⟩,
   ⟨0x4c, 4, 1, 0, 8, .w1c, 0, .any⟩]
/-- The lines of the SEQ register table. -/
def seqRows : List FRow := seqRowsPart1 ++ seqRowsPart2

/-! TWB registers. -/

def TWB_STATUS.STATE (t : Nat) : Fld := ⟨0x50000 + t * 0x1000, 0, 3⟩
def TWB_STATUS.SDA (t : Nat) : Fld := ⟨0x50000 + t * 0x1000, 3, 1⟩
def TWB_STATUS.SCL (t : Nat) : Fld := ⟨0x50000 + t * 0x1000, 4, 1⟩
def TWB_STATUS.ALERT (t : Nat) : Fld := ⟨0x50000 + t * 0x1000, 5, 1⟩
def TWB_STATUS.ROUNDS (t : Nat) : Fld := ⟨0x50000 + t * 0x1000, 8, 2⟩
def TWB_CFG.RATE (t : Nat) : Fld := ⟨0x50004 + t * 0x1000, 0, 2⟩
def TWB_CFG.PEC (t : Nat) : Fld := ⟨0x50004 + t * 0x1000, 2, 1⟩
def TWB_XFER.ADDR (t : Nat) : Fld := ⟨0x50008 + t * 0x1000, 0, 7⟩
def TWB_XFER.WLEN (t : Nat) : Fld := ⟨0x50008 + t * 0x1000, 8, 8⟩
def TWB_XFER.RLEN (t : Nat) : Fld := ⟨0x50008 + t * 0x1000, 16, 8⟩
def TWB_XFER.PEC (t : Nat) : Fld := ⟨0x50008 + t * 0x1000, 24, 1⟩
def TWB_XFER.GO (t : Nat) : Fld := ⟨0x50008 + t * 0x1000, 31, 1⟩
def TWB_XSTAT.BUSY (t : Nat) : Fld := ⟨0x5000c + t * 0x1000, 0, 1⟩
def TWB_XSTAT.RESULT (t : Nat) : Fld := ⟨0x5000c + t * 0x1000, 4, 4⟩
def TWB_CNT.NACKS (t : Nat) : Fld := ⟨0x50010 + t * 0x1000, 0, 16⟩
def TWB_CNT.ARBLOST (t : Nat) : Fld := ⟨0x50010 + t * 0x1000, 16, 16⟩
def TWB_CNT2.TIMEOUTS (t : Nat) : Fld := ⟨0x50014 + t * 0x1000, 0, 16⟩
def TWB_CNT2.RECOVERS (t : Nat) : Fld := ⟨0x50014 + t * 0x1000, 16, 16⟩
def TWB_ARA.ADDR (t : Nat) : Fld := ⟨0x50018 + t * 0x1000, 0, 7⟩
def TWB_ARA.VALID (t : Nat) : Fld := ⟨0x50018 + t * 0x1000, 7, 1⟩
def TWB_WBUF.DATA (t i : Nat) : Fld := ⟨0x50100 + t * 0x1000 + i * 4, 0, 32⟩
def TWB_RBUF.DATA (t i : Nat) : Fld := ⟨0x50200 + t * 0x1000 + i * 4, 0, 32⟩
def TWB_EVS.STATUS (t : Nat) : Fld := ⟨0x50ffc + t * 0x1000, 0, 2⟩

/-- The lines of the TWB register table. -/
def twbRows : List FRow :=
  [⟨0x0, 4, 1, 0, 3, .live, 0, .any⟩,
   ⟨0x0, 4, 1, 3, 1, .live, 0, .any⟩,
   ⟨0x0, 4, 1, 4, 1, .live, 0, .any⟩,
   ⟨0x0, 4, 1, 5, 1, .live, 0, .any⟩,
   ⟨0x0, 4, 1, 8, 2, .live, 0, .any⟩,
   ⟨0x4, 4, 1, 0, 2, .rwl, 0, (.enum 0 2)⟩,
   ⟨0x4, 4, 1, 2, 1, .rwl, 0, .any⟩,
   ⟨0x8, 4, 1, 0, 7, .rw, 0, .any⟩,
   ⟨0x8, 4, 1, 8, 8, .rw, 0, .any⟩,
   ⟨0x8, 4, 1, 16, 8, .rw, 0, .any⟩,
   ⟨0x8, 4, 1, 24, 1, .rw, 0, .any⟩,
   ⟨0x8, 4, 1, 31, 1, .wo, 0, .any⟩,
   ⟨0xc, 4, 1, 0, 1, .live, 0, .any⟩,
   ⟨0xc, 4, 1, 4, 4, .ro, 0, .any⟩,
   ⟨0x10, 4, 1, 0, 16, .live, 0, .any⟩,
   ⟨0x10, 4, 1, 16, 16, .live, 0, .any⟩,
   ⟨0x14, 4, 1, 0, 16, .live, 0, .any⟩,
   ⟨0x14, 4, 1, 16, 16, .live, 0, .any⟩,
   ⟨0x18, 4, 1, 0, 7, .ro, 0, .any⟩,
   ⟨0x18, 4, 1, 7, 1, .ro, 0, .any⟩,
   ⟨0x100, 4, 64, 0, 32, .rw, 0, .any⟩,
   ⟨0x200, 4, 64, 0, 32, .ro, 0, .any⟩,
   ⟨0xffc, 4, 1, 0, 2, .w1c, 0, .any⟩]

/-! TWBZERO registers. -/

def TWB_T0.ADDR : Fld := ⟨0x50040, 0, 7⟩
def TWB_T0.PEC_FAIL : Fld := ⟨0x50040, 8, 8⟩
def TWB_T0.REFUSED : Fld := ⟨0x50040, 16, 16⟩
def TWB_REGADDR.ADDR : Fld := ⟨0x50044, 2, 24⟩
def TWB_BMC.MGMT_SEL : Fld := ⟨0x50048, 0, 3⟩
def TWB_ALRT_CAUSE.CAUSE : Fld := ⟨0x5004c, 0, 7⟩
def TWB_ALRT_CAUSE.TOP : Fld := ⟨0x5004c, 8, 3⟩
def TWB_ALRT_EN.EN : Fld := ⟨0x50050, 0, 7⟩
def TWB_ALRT_CTL.REARM : Fld := ⟨0x50054, 0, 16⟩

/-- The lines of the TWBZERO register table. -/
def twbzeroRows : List FRow :=
  [⟨0x40, 4, 1, 0, 7, .ro, 0, .any⟩,
   ⟨0x40, 4, 1, 8, 8, .live, 0, .any⟩,
   ⟨0x40, 4, 1, 16, 16, .live, 0, .any⟩,
   ⟨0x44, 4, 1, 2, 24, .live, 0, .any⟩,
   ⟨0x48, 4, 1, 0, 3, .rws, 7, (.names [0, 1, 2, 3, 4, 5, 7])⟩,
   ⟨0x4c, 4, 1, 0, 7, .w1c, 0, .any⟩,
   ⟨0x4c, 4, 1, 8, 3, .live, 7, .any⟩,
   ⟨0x50, 4, 1, 0, 7, .rws, 127, .any⟩,
   ⟨0x54, 4, 1, 0, 16, .rw, 100, (.clamp 1 65535)⟩]

/-! TWBSENS registers. -/

def TWB_SENS.TEMP (t i : Nat) : Fld := ⟨0x50040 + t * 0x1000 + i * 4, 0, 11⟩
def TWB_SENS.STALE (t i : Nat) : Fld := ⟨0x50040 + t * 0x1000 + i * 4, 14, 1⟩
def TWB_SENS.VALID (t i : Nat) : Fld := ⟨0x50040 + t * 0x1000 + i * 4, 15, 1⟩
def TWB_SENS.ADDR (t i : Nat) : Fld := ⟨0x50040 + t * 0x1000 + i * 4, 16, 7⟩

/-- The lines of the TWBSENS register table. -/
def twbsensRows : List FRow :=
  [⟨0x40, 4, 32, 0, 11, .live, 0, .any⟩,
   ⟨0x40, 4, 32, 14, 1, .live, 0, .any⟩,
   ⟨0x40, 4, 32, 15, 1, .live, 0, .any⟩,
   ⟨0x40, 4, 32, 16, 7, .ro, 0, .any⟩]

/-! TWBSEVEN registers. -/

def TWB_TWIN.WORD : Fld := ⟨0x57040, 0, 32⟩

/-- The lines of the TWBSEVEN register table. -/
def twbsevenRows : List FRow :=
  [⟨0x40, 4, 1, 0, 32, .live, 0, .any⟩]

/-! CLK registers. -/

def CLK_STATUS.XTAL_OK : Fld := ⟨0x60000, 0, 1⟩
def CLK_STATUS.TICK_RC : Fld := ⟨0x60000, 1, 1⟩
def CLK_STATUS.REF_OK : Fld := ⟨0x60000, 2, 1⟩
def CLK_STATUS.HOLDOVER : Fld := ⟨0x60000, 3, 1⟩
def CLK_STATUS.HUB_LOCK : Fld := ⟨0x60000, 4, 1⟩
def CLK_STATUS.FMN_LOCK : Fld := ⟨0x60000, 5, 1⟩
def CLK_STATUS.THERM : Fld := ⟨0x60000, 8, 2⟩
def CLK_TICK_LO.TICK : Fld := ⟨0x60004, 0, 32⟩
def CLK_TICK_HI.TICK : Fld := ⟨0x60008, 0, 16⟩
def CLK_RCCAL.COUNT : Fld := ⟨0x6000c, 0, 16⟩
def CLK_THERM.TJ_WARN : Fld := ⟨0x60010, 0, 8⟩
def CLK_THERM.TJ_THROT : Fld := ⟨0x60010, 8, 8⟩
def CLK_THERM.TJ_TRIP : Fld := ⟨0x60010, 16, 8⟩
def CLK_THERM.HYST : Fld := ⟨0x60010, 24, 8⟩
def CLK_TJ.HOTTEST : Fld := ⟨0x60014, 0, 8⟩
def CLK_TJ.DIE : Fld := ⟨0x60014, 8, 3⟩
def CLK_TJ.PEAK : Fld := ⟨0x60014, 16, 8⟩
def CLK_THCNT.THROTTLES : Fld := ⟨0x60018, 0, 16⟩
def CLK_THCNT.TRIPS : Fld := ⟨0x60018, 16, 16⟩
def CLK_ISLSUM.ON : Fld := ⟨0x6001c, 0, 8⟩
def CLK_ISLSUM.MOVING : Fld := ⟨0x6001c, 8, 8⟩
def CLK_ISL.STATE (i : Nat) : Fld := ⟨0x60100 + i * 4, 0, 3⟩
def CLK_ISL.MODE (i : Nat) : Fld := ⟨0x60100 + i * 4, 4, 2⟩
def CLK_ISL.PENDING (i : Nat) : Fld := ⟨0x60100 + i * 4, 6, 1⟩
def CLK_ISL.FAULT (i : Nat) : Fld := ⟨0x60100 + i * 4, 7, 1⟩
def CLK_ISL.IDLE (i : Nat) : Fld := ⟨0x60100 + i * 4, 8, 8⟩
def CLK_ISL.WAKES (i : Nat) : Fld := ⟨0x60100 + i * 4, 16, 16⟩
def CLK_EVS.STATUS : Fld := ⟨0x60020, 0, 6⟩

/-- The lines of the CLK register table. -/
def clkRows : List FRow :=
  [⟨0x0, 4, 1, 0, 1, .live, 0, .any⟩,
   ⟨0x0, 4, 1, 1, 1, .live, 0, .any⟩,
   ⟨0x0, 4, 1, 2, 1, .live, 0, .any⟩,
   ⟨0x0, 4, 1, 3, 1, .live, 0, .any⟩,
   ⟨0x0, 4, 1, 4, 1, .live, 0, .any⟩,
   ⟨0x0, 4, 1, 5, 1, .live, 0, .any⟩,
   ⟨0x0, 4, 1, 8, 2, .live, 0, .any⟩,
   ⟨0x4, 4, 1, 0, 32, .live, 0, .any⟩,
   ⟨0x8, 4, 1, 0, 16, .live, 0, .any⟩,
   ⟨0xc, 4, 1, 0, 16, .live, 0, .any⟩,
   ⟨0x10, 4, 1, 0, 8, .rw, 100, .any⟩,
   ⟨0x10, 4, 1, 8, 8, .rw, 105, .any⟩,
   ⟨0x10, 4, 1, 16, 8, .rw, 112, .any⟩,
   ⟨0x10, 4, 1, 24, 8, .rw, 3, (.clamp 1 15)⟩,
   ⟨0x14, 4, 1, 0, 8, .live, 0, .any⟩,
   ⟨0x14, 4, 1, 8, 3, .live, 0, .any⟩,
   ⟨0x14, 4, 1, 16, 8, .rws, 0, .any⟩,
   ⟨0x18, 4, 1, 0, 16, .rws, 0, .any⟩,
   ⟨0x18, 4, 1, 16, 16, .rws, 0, .any⟩,
   ⟨0x1c, 4, 1, 0, 8, .live, 0, .any⟩,
   ⟨0x1c, 4, 1, 8, 8, .live, 0, .any⟩,
   ⟨0x100, 4, 132, 0, 3, .live, 0, .any⟩,
   ⟨0x100, 4, 132, 4, 2, .rw, 0, (.enum 0 2)⟩,
   ⟨0x100, 4, 132, 6, 1, .live, 0, .any⟩,
   ⟨0x100, 4, 132, 7, 1, .w1c, 0, .any⟩,
   ⟨0x100, 4, 132, 8, 8, .rw, 32, (.clamp 1 255)⟩,
   ⟨0x100, 4, 132, 16, 16, .live, 0, .any⟩,
   ⟨0x20, 4, 1, 0, 6, .w1c, 0, .any⟩]

/-! FWM registers. -/

def FWM_STATUS.STAGE : Fld := ⟨0x70000, 0, 3⟩
def FWM_STATUS.BOOTED : Fld := ⟨0x70000, 4, 1⟩
def FWM_STATUS.A_VALID : Fld := ⟨0x70000, 5, 1⟩
def FWM_STATUS.B_VALID : Fld := ⟨0x70000, 6, 1⟩
def FWM_STATUS.TRIAL : Fld := ⟨0x70000, 7, 1⟩
def FWM_STATUS.NOFW : Fld := ⟨0x70000, 8, 1⟩
def FWM_STATUS.NOSVY : Fld := ⟨0x70000, 9, 1⟩
def FWM_STATUS.ACTIVATING : Fld := ⟨0x70000, 10, 1⟩
def FWM_ALIVE.KEY : Fld := ⟨0x70004, 0, 32⟩
def FWM_WDT_CFG.PERIOD : Fld := ⟨0x70008, 0, 16⟩
def FWM_WDT_CFG.ACTION : Fld := ⟨0x70008, 16, 2⟩
def FWM_WDT_KICK.KEY : Fld := ⟨0x7000c, 0, 32⟩
def FWM_WDT_STAT.LEFT : Fld := ⟨0x70010, 0, 16⟩
def FWM_WDT_STAT.EXPIRIES : Fld := ⟨0x70010, 16, 16⟩
def FWM_CMD.OP : Fld := ⟨0x70014, 0, 3⟩
def FWM_CMD.SLOT : Fld := ⟨0x70014, 8, 1⟩
def FWM_CMD_STATUS.BUSY : Fld := ⟨0x70018, 0, 1⟩
def FWM_CMD_STATUS.RESULT : Fld := ⟨0x70018, 4, 4⟩
def FWM_STAGE_ADDR.ADDR : Fld := ⟨0x7001c, 2, 20⟩
def FWM_STAGE_DATA.DATA : Fld := ⟨0x70020, 0, 32⟩
def FWM_VER_A.VERSION : Fld := ⟨0x70024, 0, 32⟩
def FWM_VER_B.VERSION : Fld := ⟨0x70028, 0, 32⟩
def FWM_EPOCH.EPOCH_A : Fld := ⟨0x7002c, 0, 7⟩
def FWM_EPOCH.EPOCH_B : Fld := ⟨0x7002c, 8, 7⟩
def FWM_EPOCH.BLOWN : Fld := ⟨0x7002c, 16, 7⟩
def FWM_RESETS.FOREMAN : Fld := ⟨0x70030, 0, 16⟩
def FWM_BOOT_T.TICKS : Fld := ⟨0x70034, 0, 32⟩

/-- The lines of the FWM register table. -/
def fwmRows : List FRow :=
  [⟨0x0, 4, 1, 0, 3, .live, 0, .any⟩,
   ⟨0x0, 4, 1, 4, 1, .ro, 0, .any⟩,
   ⟨0x0, 4, 1, 5, 1, .ro, 0, .any⟩,
   ⟨0x0, 4, 1, 6, 1, .ro, 0, .any⟩,
   ⟨0x0, 4, 1, 7, 1, .live, 0, .any⟩,
   ⟨0x0, 4, 1, 8, 1, .ro, 0, .any⟩,
   ⟨0x0, 4, 1, 9, 1, .ro, 0, .any⟩,
   ⟨0x0, 4, 1, 10, 1, .live, 0, .any⟩,
   ⟨0x4, 4, 1, 0, 32, .wo, 0, .any⟩,
   ⟨0x8, 4, 1, 0, 16, .rw, 32768, .any⟩,
   ⟨0x8, 4, 1, 16, 2, .rw, 1, (.enum 0 2)⟩,
   ⟨0xc, 4, 1, 0, 32, .wo, 0, .any⟩,
   ⟨0x10, 4, 1, 0, 16, .live, 0, .any⟩,
   ⟨0x10, 4, 1, 16, 16, .rws, 0, .any⟩,
   ⟨0x14, 4, 1, 0, 3, .wo, 0, .any⟩,
   ⟨0x14, 4, 1, 8, 1, .wo, 0, .any⟩,
   ⟨0x18, 4, 1, 0, 1, .live, 0, .any⟩,
   ⟨0x18, 4, 1, 4, 4, .ro, 0, .any⟩,
   ⟨0x1c, 4, 1, 2, 20, .rw, 0, .any⟩,
   ⟨0x20, 4, 1, 0, 32, .wo, 0, .any⟩,
   ⟨0x24, 4, 1, 0, 32, .ro, 0, .any⟩,
   ⟨0x28, 4, 1, 0, 32, .ro, 0, .any⟩,
   ⟨0x2c, 4, 1, 0, 7, .ro, 0, .any⟩,
   ⟨0x2c, 4, 1, 8, 7, .ro, 0, .any⟩,
   ⟨0x2c, 4, 1, 16, 7, .ro, 0, .any⟩,
   ⟨0x30, 4, 1, 0, 16, .rws, 0, .any⟩,
   ⟨0x34, 4, 1, 0, 32, .ro, 0, .any⟩]

/-! LGR registers. -/

def LGR_STATUS.MARGIN : Fld := ⟨0x80000, 0, 2⟩
def LGR_STATUS.OVERHANG : Fld := ⟨0x80000, 2, 1⟩
def LGR_STATUS.SUMP_BOUND : Fld := ⟨0x80000, 3, 1⟩
def LGR_STATUS.NOPARAM : Fld := ⟨0x80000, 4, 1⟩
def LGR_STATUS.EXITING : Fld := ⟨0x80000, 5, 1⟩
def LGR_CEIL.SETTS : Fld := ⟨0x80004, 0, 28⟩
def LGR_NE.SETTS : Fld := ⟨0x80008, 0, 28⟩
def LGR_SUMP.FREE : Fld := ⟨0x8000c, 0, 28⟩
def LGR_EUSE.JOULES : Fld := ⟨0x80010, 0, 24⟩
def LGR_TA.SETTS : Fld := ⟨0x80014, 0, 28⟩
def LGR_TV.SETTS : Fld := ⟨0x80018, 0, 28⟩
def LGR_TH.SETTS : Fld := ⟨0x8001c, 0, 28⟩
def LGR_HYS.SETTS : Fld := ⟨0x80020, 0, 28⟩
def LGR_UPD.COUNT : Fld := ⟨0x80024, 0, 32⟩
def LGR_EXCESS.SETTS : Fld := ⟨0x80028, 0, 28⟩
def LGR_PACK_CTL.REMOVE_A : Fld := ⟨0x8002c, 0, 1⟩
def LGR_PACK_CTL.REMOVE_B : Fld := ⟨0x8002c, 1, 1⟩
def LGR_PACK_CTL.RESULT : Fld := ⟨0x8002c, 8, 2⟩
def LGR_LASTSAVE_N.SETTS : Fld := ⟨0x80030, 0, 28⟩
def LGR_LASTSAVE_E.JOULES : Fld := ⟨0x80034, 0, 24⟩
def LGR_LASTSAVE_X.OVERCOST : Fld := ⟨0x80038, 0, 1⟩
def LGR_PSTAT.STATE (k : Nat) : Fld := ⟨0x80040 + k * 16, 0, 3⟩
def LGR_PSTAT.CAUSE (k : Nat) : Fld := ⟨0x80040 + k * 16, 4, 4⟩
def LGR_PSTAT.ESR_STALE (k : Nat) : Fld := ⟨0x80040 + k * 16, 8, 1⟩
def LGR_PSTAT.SOH_WARN (k : Nat) : Fld := ⟨0x80040 + k * 16, 9, 1⟩
def LGR_PSTAT.COLD (k : Nat) : Fld := ⟨0x80040 + k * 16, 10, 1⟩
def LGR_PENG.JOULES (k : Nat) : Fld := ⟨0x80044 + k * 16, 0, 24⟩
def LGR_PHLT.SOH (k : Nat) : Fld := ⟨0x80048 + k * 16, 0, 16⟩
def LGR_PHLT.ESR (k : Nat) : Fld := ⟨0x80048 + k * 16, 16, 16⟩
def LGR_PTMP.TEMP (k : Nat) : Fld := ⟨0x8004c + k * 16, 0, 8⟩
def LGR_PTMP.CYCLES (k : Nat) : Fld := ⟨0x8004c + k * 16, 16, 16⟩
def LGR_EVS.STATUS : Fld := ⟨0x80060, 0, 10⟩

/-- The lines of the LGR register table. -/
def lgrRows : List FRow :=
  [⟨0x0, 4, 1, 0, 2, .live, 3, .any⟩,
   ⟨0x0, 4, 1, 2, 1, .live, 0, .any⟩,
   ⟨0x0, 4, 1, 3, 1, .live, 0, .any⟩,
   ⟨0x0, 4, 1, 4, 1, .live, 1, .any⟩,
   ⟨0x0, 4, 1, 5, 1, .live, 0, .any⟩,
   ⟨0x4, 4, 1, 0, 28, .live, 0, .any⟩,
   ⟨0x8, 4, 1, 0, 28, .live, 0, .any⟩,
   ⟨0xc, 4, 1, 0, 28, .live, 0, .any⟩,
   ⟨0x10, 4, 1, 0, 24, .live, 0, .any⟩,
   ⟨0x14, 4, 1, 0, 28, .live, 0, .any⟩,
   ⟨0x18, 4, 1, 0, 28, .live, 0, .any⟩,
   ⟨0x1c, 4, 1, 0, 28, .live, 0, .any⟩,
   ⟨0x20, 4, 1, 0, 28, .live, 0, .any⟩,
   ⟨0x24, 4, 1, 0, 32, .live, 0, .any⟩,
   ⟨0x28, 4, 1, 0, 28, .live, 0, .any⟩,
   ⟨0x2c, 4, 1, 0, 1, .rw, 0, .any⟩,
   ⟨0x2c, 4, 1, 1, 1, .rw, 0, .any⟩,
   ⟨0x2c, 4, 1, 8, 2, .ro, 0, .any⟩,
   ⟨0x30, 4, 1, 0, 28, .ro, 0, .any⟩,
   ⟨0x34, 4, 1, 0, 24, .ro, 0, .any⟩,
   ⟨0x38, 4, 1, 0, 1, .w1c, 0, .any⟩,
   ⟨0x40, 16, 2, 0, 3, .live, 0, .any⟩,
   ⟨0x40, 16, 2, 4, 4, .ro, 0, .any⟩,
   ⟨0x40, 16, 2, 8, 1, .live, 0, .any⟩,
   ⟨0x40, 16, 2, 9, 1, .live, 0, .any⟩,
   ⟨0x40, 16, 2, 10, 1, .live, 0, .any⟩,
   ⟨0x44, 16, 2, 0, 24, .live, 0, .any⟩,
   ⟨0x48, 16, 2, 0, 16, .live, 0, .any⟩,
   ⟨0x48, 16, 2, 16, 16, .live, 0, .any⟩,
   ⟨0x4c, 16, 2, 0, 8, .live, 0, .any⟩,
   ⟨0x4c, 16, 2, 16, 16, .live, 0, .any⟩,
   ⟨0x60, 4, 1, 0, 10, .w1c, 0, .any⟩]

/-! ADM registers. -/

def ADM_STATUS.MARGIN : Fld := ⟨0x90000, 0, 2⟩
def ADM_STATUS.PARKING : Fld := ⟨0x90000, 2, 1⟩
def ADM_STATUS.HELD : Fld := ⟨0x90000, 3, 6⟩
def ADM_STATUS.HOT : Fld := ⟨0x90000, 9, 1⟩
def ADM_STATUS.WEAR_OVER : Fld := ⟨0x90000, 10, 1⟩
def ADM_STATUS.OVERDRAW : Fld := ⟨0x90000, 11, 1⟩
def ADM_DIRTY.SETTS : Fld := ⟨0x90004, 0, 28⟩
def ADM_FQCFG.LOW_WATER : Fld := ⟨0x90008, 0, 9⟩
def ADM_FQCFG.WARN_AGE : Fld := ⟨0x90008, 16, 16⟩
def ADM_ADMITS.COUNT : Fld := ⟨0x9000c, 0, 32⟩
def ADM_FQ.COUNT (p : Nat) : Fld := ⟨0x90010 + p * 4, 0, 10⟩
def ADM_FQ.OLD (p : Nat) : Fld := ⟨0x90010 + p * 4, 10, 1⟩
def ADM_FQ.AGE (p : Nat) : Fld := ⟨0x90010 + p * 4, 16, 16⟩
def ADM_JFQ.COUNT : Fld := ⟨0x90028, 0, 7⟩
def ADM_THERM.HEADROOM : Fld := ⟨0x90030, 0, 8⟩
def ADM_THERM.LIMITER : Fld := ⟨0x90030, 8, 8⟩
def ADM_THERM.FH : Fld := ⟨0x90030, 16, 16⟩
def ADM_POOL.UNITS : Fld := ⟨0x90034, 0, 16⟩
def ADM_CLS.GRANT (k : Nat) : Fld := ⟨0x90040 + (k - 1) * 4, 0, 16⟩
def ADM_CLS.BUCKET (k : Nat) : Fld := ⟨0x90040 + (k - 1) * 4, 16, 16⟩
def ADM_WEAR_BUD.MIB : Fld := ⟨0x90060, 0, 32⟩
def ADM_WEAR_SPENT.MIB : Fld := ⟨0x90064, 0, 32⟩
def ADM_WEAR_ALLOW.MIB : Fld := ⟨0x90068, 0, 32⟩
def ADM_WEAR_HAUL.MIB : Fld := ⟨0x9006c, 0, 32⟩
def ADM_WEAR_LAST.MIB : Fld := ⟨0x90070, 0, 32⟩
def ADM_WEAR_DAYS.OVERDAYS : Fld := ⟨0x90074, 0, 16⟩
def ADM_WEAR_DAYS.DAY : Fld := ⟨0x90074, 16, 16⟩
def ADM_SCH.WORD (i : Nat) : Fld := ⟨0x90080 + i * 4, 0, 32⟩

/-- The lines of the ADM register table. -/
def admRows : List FRow :=
  [⟨0x0, 4, 1, 0, 2, .live, 3, .any⟩,
   ⟨0x0, 4, 1, 2, 1, .live, 0, .any⟩,
   ⟨0x0, 4, 1, 3, 6, .live, 0, .any⟩,
   ⟨0x0, 4, 1, 9, 1, .live, 0, .any⟩,
   ⟨0x0, 4, 1, 10, 1, .live, 0, .any⟩,
   ⟨0x0, 4, 1, 11, 1, .live, 0, .any⟩,
   ⟨0x4, 4, 1, 0, 28, .live, 0, .any⟩,
   ⟨0x8, 4, 1, 0, 9, .rw, 448, .any⟩,
   ⟨0x8, 4, 1, 16, 16, .rw, 32768, .any⟩,
   ⟨0xc, 4, 1, 0, 32, .live, 0, .any⟩,
   ⟨0x10, 4, 6, 0, 10, .live, 0, .any⟩,
   ⟨0x10, 4, 6, 10, 1, .w1c, 0, .any⟩,
   ⟨0x10, 4, 6, 16, 16, .live, 0, .any⟩,
   ⟨0x28, 4, 1, 0, 7, .live, 0, .any⟩,
   ⟨0x30, 4, 1, 0, 8, .live, 0, .any⟩,
   ⟨0x30, 4, 1, 8, 8, .live, 0, .any⟩,
   ⟨0x30, 4, 1, 16, 16, .live, 0, .any⟩,
   ⟨0x34, 4, 1, 0, 16, .live, 0, .any⟩,
   ⟨0x40, 4, 7, 0, 16, .live, 0, .any⟩,
   ⟨0x40, 4, 7, 16, 16, .live, 0, .any⟩,
   ⟨0x60, 4, 1, 0, 32, .ro, 0, .any⟩,
   ⟨0x64, 4, 1, 0, 32, .live, 0, .any⟩,
   ⟨0x68, 4, 1, 0, 32, .live, 0, .any⟩,
   ⟨0x6c, 4, 1, 0, 32, .live, 0, .any⟩,
   ⟨0x70, 4, 1, 0, 32, .ro, 0, .any⟩,
   ⟨0x74, 4, 1, 0, 16, .ro, 0, .any⟩,
   ⟨0x74, 4, 1, 16, 16, .ro, 0, .any⟩,
   ⟨0x80, 4, 6, 0, 32, .ro, 0, .any⟩]

/-! CIP registers. -/

def CIP_STATUS.INSERVICE : Fld := ⟨0xa0000, 0, 4⟩
def CIP_STATUS.SHORT : Fld := ⟨0xa0000, 4, 1⟩
def CIP_STATUS.STORE_BUSY : Fld := ⟨0xa0000, 5, 1⟩
def CIP_STATUS.DRBG_OK : Fld := ⟨0xa0000, 6, 1⟩
def CIP_OUT.OUT : Fld := ⟨0xa0004, 0, 12⟩
def CIP_CFG.CNT_WARN_LOG2 : Fld := ⟨0xa0008, 0, 6⟩
def CIP_CFG.TX_PER_FACE : Fld := ⟨0xa0008, 8, 4⟩
def CIP_ACTIVE.SEL : Fld := ⟨0xa000c, 0, 32⟩
def CIP_CMD_SLOT.SLOT : Fld := ⟨0xa0010, 0, 6⟩
def CIP_CMD_SLOT.FACE : Fld := ⟨0xa0010, 8, 3⟩
def CIP_CMD_SLOT.GEN : Fld := ⟨0xa0010, 12, 1⟩
def CIP_CMD.OP : Fld := ⟨0xa0014, 0, 4⟩
def CIP_CMD_STATUS.BUSY : Fld := ⟨0xa0018, 0, 1⟩
def CIP_CMD_STATUS.RESULT : Fld := ⟨0xa0018, 4, 4⟩
def CIP_KEYIN.KEY (i : Nat) : Fld := ⟨0xa0020 + i * 4, 0, 32⟩
def CIP_EPOCH_LO.EPOCH : Fld := ⟨0xa0040, 0, 32⟩
def CIP_EPOCH_HI.EPOCH : Fld := ⟨0xa0044, 0, 16⟩
def CIP_PAIR.STATE (q : Nat) : Fld := ⟨0xa0100 + q * 4, 0, 2⟩
def CIP_PAIR.MISMATCH (q : Nat) : Fld := ⟨0xa0100 + q * 4, 8, 8⟩
def CIP_PAIR.KATFAIL (q : Nat) : Fld := ⟨0xa0100 + q * 4, 16, 8⟩
def CIP_SLST.STATE (k : Nat) : Fld := ⟨0xa0400 + k * 32, 0, 3⟩
def CIP_SLST.FACE (k : Nat) : Fld := ⟨0xa0400 + k * 32, 4, 3⟩
def CIP_SLST.STORED (k : Nat) : Fld := ⟨0xa0400 + k * 32, 7, 1⟩
def CIP_SLST.WARN (k : Nat) : Fld := ⟨0xa0400 + k * 32, 8, 1⟩
def CIP_SLST.LIMIT (k : Nat) : Fld := ⟨0xa0400 + k * 32, 9, 1⟩
def CIP_SLST.REFS (k : Nat) : Fld := ⟨0xa0400 + k * 32, 16, 16⟩
def CIP_SLEP_LO.EPOCH (k : Nat) : Fld := ⟨0xa0404 + k * 32, 0, 32⟩
def CIP_SLEP_HI.EPOCH (k : Nat) : Fld := ⟨0xa0408 + k * 32, 0, 16⟩
def CIP_SLCT_LO.COUNTER (k : Nat) : Fld := ⟨0xa040c + k * 32, 0, 32⟩
def CIP_SLCT_HI.COUNTER (k : Nat) : Fld := ⟨0xa0410 + k * 32, 0, 16⟩
def CIP_EVS.STATUS : Fld := ⟨0xa0048, 0, 12⟩

/-- The lines of the CIP register table. -/
def cipRows : List FRow :=
  [⟨0x0, 4, 1, 0, 4, .live, 0, .any⟩,
   ⟨0x0, 4, 1, 4, 1, .live, 0, .any⟩,
   ⟨0x0, 4, 1, 5, 1, .live, 0, .any⟩,
   ⟨0x0, 4, 1, 6, 1, .live, 0, .any⟩,
   ⟨0x4, 4, 1, 0, 12, .live, 0, .any⟩,
   ⟨0x8, 4, 1, 0, 6, .rw, 46, (.clamp 40 47)⟩,
   ⟨0x8, 4, 1, 8, 4, .rw, 8, .any⟩,
   ⟨0xc, 4, 1, 0, 32, .live, 0, .any⟩,
   ⟨0x10, 4, 1, 0, 6, .rw, 0, .any⟩,
   ⟨0x10, 4, 1, 8, 3, .rw, 0, .any⟩,
   ⟨0x10, 4, 1, 12, 1, .rw, 0, .any⟩,
   ⟨0x14, 4, 1, 0, 4, .wo, 0, .any⟩,
   ⟨0x18, 4, 1, 0, 1, .live, 0, .any⟩,
   ⟨0x18, 4, 1, 4, 4, .ro, 0, .any⟩,
   ⟨0x20, 4, 8, 0, 32, .wo, 0, .any⟩,
   ⟨0x40, 4, 1, 0, 32, .live, 0, .any⟩,
   ⟨0x44, 4, 1, 0, 16, .live, 0, .any⟩,
   ⟨0x100, 4, 12, 0, 2, .live, 0, .any⟩,
   ⟨0x100, 4, 12, 8, 8, .live, 0, .any⟩,
   ⟨0x100, 4, 12, 16, 8, .live, 0, .any⟩,
   ⟨0x400, 32, 64, 0, 3, .live, 0, .any⟩,
   ⟨0x400, 32, 64, 4, 3, .ro, 0, .any⟩,
   ⟨0x400, 32, 64, 7, 1, .live, 0, .any⟩,
   ⟨0x400, 32, 64, 8, 1, .live, 0, .any⟩,
   ⟨0x400, 32, 64, 9, 1, .live, 0, .any⟩,
   ⟨0x400, 32, 64, 16, 16, .live, 0, .any⟩,
   ⟨0x404, 32, 64, 0, 32, .ro, 0, .any⟩,
   ⟨0x408, 32, 64, 0, 16, .ro, 0, .any⟩,
   ⟨0x40c, 32, 64, 0, 32, .live, 0, .any⟩,
   ⟨0x410, 32, 64, 0, 16, .live, 0, .any⟩,
   ⟨0x48, 4, 1, 0, 12, .w1c, 0, .any⟩]

/-! GAL registers. -/

def GAL_STATUS.MODE : Fld := ⟨0xb0000, 0, 3⟩
def GAL_STATUS.ROLE : Fld := ⟨0xb0000, 3, 1⟩
def GAL_STATUS.LINKS : Fld := ⟨0xb0000, 4, 2⟩
def GAL_STATUS.SOLO : Fld := ⟨0xb0000, 6, 1⟩
def GAL_STATUS.DIVERGED : Fld := ⟨0xb0000, 7, 1⟩
def GAL_STATUS.CAUSE : Fld := ⟨0xb0000, 8, 4⟩
def GAL_CTL.RSLV_EN : Fld := ⟨0xb0004, 0, 1⟩
def GAL_TAKEOVER.KEY : Fld := ⟨0xb0008, 0, 32⟩
def GAL_LINK.STATE (l : Nat) : Fld := ⟨0xb0010 + l * 4, 0, 3⟩
def GAL_LINK.RATE (l : Nat) : Fld := ⟨0xb0010 + l * 4, 4, 3⟩
def GAL_LINK.WIDTH (l : Nat) : Fld := ⟨0xb0010 + l * 4, 8, 2⟩
def GAL_LINK.REPLAYS (l : Nat) : Fld := ⟨0xb0010 + l * 4, 16, 16⟩
def GAL_TXSEQ.SEQ : Fld := ⟨0xb0018, 0, 32⟩
def GAL_ACKSEQ.SEQ : Fld := ⟨0xb001c, 0, 32⟩
def GAL_RXSEQ.SEQ : Fld := ⟨0xb0020, 0, 32⟩
def GAL_WINDOW.MSGS : Fld := ⟨0xb0024, 0, 17⟩
def GAL_GQ.COUNT : Fld := ⟨0xb0028, 0, 10⟩
def GAL_GQ.HELD : Fld := ⟨0xb0028, 16, 1⟩
def GAL_EPOCH_LO.EPOCH : Fld := ⟨0xb002c, 0, 32⟩
def GAL_EPOCH_HI.EPOCH : Fld := ⟨0xb0030, 0, 32⟩
def GAL_PEER.CHIP : Fld := ⟨0xb0034, 0, 3⟩
def GAL_PEER.MARGIN : Fld := ⟨0xb0034, 4, 2⟩
def GAL_PEER.AGE : Fld := ⟨0xb0034, 16, 16⟩
def GAL_RSLV.SLABS : Fld := ⟨0xb0038, 0, 22⟩
def GAL_RSLV.KIND : Fld := ⟨0xb0038, 28, 2⟩
def GAL_RSLV_DONE.SLABS : Fld := ⟨0xb003c, 0, 22⟩
def GAL_RSLV_RATE.SETTS : Fld := ⟨0xb0040, 0, 12⟩
def GAL_RECOVER.OK : Fld := ⟨0xb0044, 0, 16⟩
def GAL_RECOVER.FAIL : Fld := ⟨0xb0044, 16, 16⟩
def GAL_CNT_MIRROR.COUNT : Fld := ⟨0xb0048, 0, 32⟩
def GAL_CNT_FWD.COUNT : Fld := ⟨0xb004c, 0, 32⟩
def GAL_EVS.STATUS : Fld := ⟨0xb0050, 0, 12⟩

/-- The lines of the GAL register table. -/
def galRows : List FRow :=
  [⟨0x0, 4, 1, 0, 3, .live, 0, .any⟩,
   ⟨0x0, 4, 1, 3, 1, .ro, 0, .any⟩,
   ⟨0x0, 4, 1, 4, 2, .live, 0, .any⟩,
   ⟨0x0, 4, 1, 6, 1, .live, 0, .any⟩,
   ⟨0x0, 4, 1, 7, 1, .live, 0, .any⟩,
   ⟨0x0, 4, 1, 8, 4, .ro, 0, .any⟩,
   ⟨0x4, 4, 1, 0, 1, .rw, 1, .any⟩,
   ⟨0x8, 4, 1, 0, 32, .wo, 0, .any⟩,
   ⟨0x10, 4, 2, 0, 3, .live, 0, .any⟩,
   ⟨0x10, 4, 2, 4, 3, .live, 0, .any⟩,
   ⟨0x10, 4, 2, 8, 2, .live, 0, .any⟩,
   ⟨0x10, 4, 2, 16, 16, .live, 0, .any⟩,
   ⟨0x18, 4, 1, 0, 32, .live, 0, .any⟩,
   ⟨0x1c, 4, 1, 0, 32, .live, 0, .any⟩,
   ⟨0x20, 4, 1, 0, 32, .live, 0, .any⟩,
   ⟨0x24, 4, 1, 0, 17, .live, 0, .any⟩,
   ⟨0x28, 4, 1, 0, 10, .live, 0, .any⟩,
   ⟨0x28, 4, 1, 16, 1, .live, 0, .any⟩,
   ⟨0x2c, 4, 1, 0, 32, .live, 0, .any⟩,
   ⟨0x30, 4, 1, 0, 32, .live, 0, .any⟩,
   ⟨0x34, 4, 1, 0, 3, .live, 0, .any⟩,
   ⟨0x34, 4, 1, 4, 2, .live, 0, .any⟩,
   ⟨0x34, 4, 1, 16, 16, .live, 0, .any⟩,
   ⟨0x38, 4, 1, 0, 22, .live, 0, .any⟩,
   ⟨0x38, 4, 1, 28, 2, .live, 0, .any⟩,
   ⟨0x3c, 4, 1, 0, 22, .live, 0, .any⟩,
   ⟨0x40, 4, 1, 0, 12, .rw, 763, .any⟩,
   ⟨0x44, 4, 1, 0, 16, .live, 0, .any⟩,
   ⟨0x44, 4, 1, 16, 16, .live, 0, .any⟩,
   ⟨0x48, 4, 1, 0, 32, .live, 0, .any⟩,
   ⟨0x4c, 4, 1, 0, 32, .live, 0, .any⟩,
   ⟨0x50, 4, 1, 0, 12, .w1c, 0, .any⟩]

/-! RES registers. -/

def RES_STATUS.PHASE : Fld := ⟨0xc0000, 0, 3⟩
def RES_STATUS.CASE : Fld := ⟨0xc0000, 4, 3⟩
def RES_STATUS.SCAN : Fld := ⟨0xc0000, 7, 1⟩
def RES_STATUS.OPEN : Fld := ⟨0xc0000, 8, 6⟩
def RES_STATUS.HOME : Fld := ⟨0xc0000, 14, 1⟩
def RES_CMD.OP : Fld := ⟨0xc0004, 0, 2⟩
def RES_CMD_STATUS.BUSY : Fld := ⟨0xc0008, 0, 1⟩
def RES_CMD_STATUS.RESULT : Fld := ⟨0xc0008, 4, 4⟩
def RES_SEQ.SEQ : Fld := ⟨0xc000c, 0, 32⟩
def RES_HOLD.TICKS : Fld := ⟨0xc0010, 0, 16⟩
def RES_WAIT.HIGH : Fld := ⟨0xc0014, 0, 12⟩
def RES_WAIT.LOW : Fld := ⟨0xc0014, 16, 12⟩
def RES_CTL.BG_EN : Fld := ⟨0xc0018, 0, 1⟩
def RES_CTL.LEVEL : Fld := ⟨0xc0018, 8, 5⟩
def RES_UNREST.SLABS : Fld := ⟨0xc001c, 0, 22⟩
def RES_FETCHING.SLABS : Fld := ⟨0xc0020, 0, 11⟩
def RES_FILLED.SETTS : Fld := ⟨0xc0024, 0, 28⟩
def RES_DEMAND.COUNT : Fld := ⟨0xc0028, 0, 32⟩
def RES_HOLDEXP.COUNT : Fld := ⟨0xc002c, 0, 32⟩
def RES_LOST.SETTS : Fld := ⟨0xc0030, 0, 28⟩
def RES_FLOST.SETTS : Fld := ⟨0xc0034, 0, 28⟩
def RES_DEVIATE.COUNT : Fld := ⟨0xc0038, 0, 16⟩
def RES_T_OPEN.TICKS : Fld := ⟨0xc003c, 0, 32⟩
def RES_T_HOME.TICKS : Fld := ⟨0xc0040, 0, 32⟩
def RES_FWAIT.WRITES (p : Nat) : Fld := ⟨0xc0044 + p * 4, 0, 12⟩
def RES_FWAIT.AGE (p : Nat) : Fld := ⟨0xc0044 + p * 4, 16, 16⟩

/-- The lines of the RES register table. -/
def resRows : List FRow :=
  [⟨0x0, 4, 1, 0, 3, .live, 0, .any⟩,
   ⟨0x0, 4, 1, 4, 3, .ro, 0, .any⟩,
   ⟨0x0, 4, 1, 7, 1, .live, 0, .any⟩,
   ⟨0x0, 4, 1, 8, 6, .live, 0, .any⟩,
   ⟨0x0, 4, 1, 14, 1, .live, 0, .any⟩,
   ⟨0x4, 4, 1, 0, 2, .wo, 0, .any⟩,
   ⟨0x8, 4, 1, 0, 1, .live, 0, .any⟩,
   ⟨0x8, 4, 1, 4, 4, .ro, 0, .any⟩,
   ⟨0xc, 4, 1, 0, 32, .ro, 0, .any⟩,
   ⟨0x10, 4, 1, 0, 16, .rw, 328, .any⟩,
   ⟨0x14, 4, 1, 0, 12, .rw, 1024, (.clamp 1 4095)⟩,
   ⟨0x14, 4, 1, 16, 12, .rw, 768, .any⟩,
   ⟨0x18, 4, 1, 0, 1, .rw, 1, .any⟩,
   ⟨0x18, 4, 1, 8, 5, .live, 31, .any⟩,
   ⟨0x1c, 4, 1, 0, 22, .live, 0, .any⟩,
   ⟨0x20, 4, 1, 0, 11, .live, 0, .any⟩,
   ⟨0x24, 4, 1, 0, 28, .live, 0, .any⟩,
   ⟨0x28, 4, 1, 0, 32, .live, 0, .any⟩,
   ⟨0x2c, 4, 1, 0, 32, .live, 0, .any⟩,
   ⟨0x30, 4, 1, 0, 28, .ro, 0, .any⟩,
   ⟨0x34, 4, 1, 0, 28, .live, 0, .any⟩,
   ⟨0x38, 4, 1, 0, 16, .ro, 0, .any⟩,
   ⟨0x3c, 4, 1, 0, 32, .ro, 0, .any⟩,
   ⟨0x40, 4, 1, 0, 32, .ro, 0, .any⟩,
   ⟨0x44, 4, 6, 0, 12, .live, 0, .any⟩,
   ⟨0x44, 4, 6, 16, 16, .live, 0, .any⟩]

/-! HAUL registers. -/

def HAUL_STATUS.MODE : Fld := ⟨0xd0000, 0, 3⟩
def HAUL_STATUS.LCLASS : Fld := ⟨0xd0000, 3, 5⟩
def HAUL_STATUS.SUMP_DEST : Fld := ⟨0xd0000, 8, 1⟩
def HAUL_STATUS.PFW_HOLD : Fld := ⟨0xd0000, 9, 1⟩
def HAUL_CTL.ENABLE : Fld := ⟨0xd0004, 0, 1⟩
def HAUL_CTL.STOCK_ONLY : Fld := ⟨0xd0004, 1, 1⟩
def HAUL_PI_KP.KP : Fld := ⟨0xd0008, 0, 16⟩
def HAUL_PI_KI.KI : Fld := ⟨0xd000c, 0, 16⟩
def HAUL_RATE_MAX.SETTS : Fld := ⟨0xd0010, 0, 12⟩
def HAUL_RATE_OVH.SETTS : Fld := ⟨0xd0014, 0, 12⟩
def HAUL_RATE.QUOTA : Fld := ⟨0xd0018, 0, 16⟩
def HAUL_RATE.DONE : Fld := ⟨0xd0018, 16, 16⟩
def HAUL_PI_INT.INT : Fld := ⟨0xd001c, 0, 28⟩
def HAUL_ERR.ERR : Fld := ⟨0xd0020, 0, 29⟩
def HAUL_CNT_STK.COUNT : Fld := ⟨0xd0024, 0, 32⟩
def HAUL_CNT_SUMP.COUNT : Fld := ⟨0xd0028, 0, 32⟩
def HAUL_CNT_ZERO.COUNT : Fld := ⟨0xd002c, 0, 32⟩
def HAUL_CNT_REWR.COUNT : Fld := ⟨0xd0030, 0, 32⟩
def HAUL_CNT_ABORT.COUNT : Fld := ⟨0xd0034, 0, 32⟩
def HAUL_CNT_PAD.COUNT : Fld := ⟨0xd0038, 0, 32⟩
def HAUL_SAVE_CMD.OP : Fld := ⟨0xd0040, 0, 2⟩
def HAUL_SAVE_CFG.TAIL : Fld := ⟨0xd0044, 0, 16⟩
def HAUL_SAVE_CFG.PAD_WAIT : Fld := ⟨0xd0044, 16, 8⟩
def HAUL_SAVE_STAT.STEP : Fld := ⟨0xd0048, 0, 4⟩
def HAUL_SAVE_STAT.TRIGGER : Fld := ⟨0xd0048, 4, 4⟩
def HAUL_SAVE_STAT.END : Fld := ⟨0xd0048, 8, 4⟩
def HAUL_SAVE_STAT.RESUMED : Fld := ⟨0xd0048, 12, 1⟩
def HAUL_SAVE_STAT.RETRIG : Fld := ⟨0xd0048, 16, 8⟩
def HAUL_SAVE_SEQ.SEQ : Fld := ⟨0xd004c, 0, 32⟩
def HAUL_SAVE_DIRTY.SETTS : Fld := ⟨0xd0050, 0, 28⟩
def HAUL_SAVE_DONE.SETTS : Fld := ⟨0xd0054, 0, 28⟩
def HAUL_SAVE_MISS.SETTS : Fld := ⟨0xd0058, 0, 28⟩
def HAUL_SAVE_TIME.TICKS : Fld := ⟨0xd005c, 0, 32⟩
def HAUL_SAVE_DCH_LO.LOST : Fld := ⟨0xd0060, 0, 32⟩
def HAUL_SAVE_DCH_HI.LOST : Fld := ⟨0xd0064, 0, 4⟩
def HAUL_SAVE_NCH0.LOST : Fld := ⟨0xd0068, 0, 32⟩
def HAUL_SAVE_NCH1.LOST : Fld := ⟨0xd006c, 0, 32⟩
def HAUL_SAVE_NCH2.LOST : Fld := ⟨0xd0070, 0, 8⟩

/-- The lines of the HAUL register table. -/
def haulRows : List FRow :=
  [⟨0x0, 4, 1, 0, 3, .live, 0, .any⟩,
   ⟨0x0, 4, 1, 3, 5, .live, 0, .any⟩,
   ⟨0x0, 4, 1, 8, 1, .live, 0, .any⟩,
   ⟨0x0, 4, 1, 9, 1, .live, 0, .any⟩,
   ⟨0x4, 4, 1, 0, 1, .rw, 1, .any⟩,
   ⟨0x4, 4, 1, 1, 1, .rw, 0, .any⟩,
   ⟨0x8, 4, 1, 0, 16, .rw, 125, .any⟩,
   ⟨0xc, 4, 1, 0, 16, .rw, 4, .any⟩,
   ⟨0x10, 4, 1, 0, 12, .rw, 763, .any⟩,
   ⟨0x14, 4, 1, 0, 12, .rw, 2289, .any⟩,
   ⟨0x18, 4, 1, 0, 16, .live, 0, .any⟩,
   ⟨0x18, 4, 1, 16, 16, .live, 0, .any⟩,
   ⟨0x1c, 4, 1, 0, 28, .live, 0, .any⟩,
   ⟨0x20, 4, 1, 0, 29, .live, 0, .any⟩,
   ⟨0x24, 4, 1, 0, 32, .live, 0, .any⟩,
   ⟨0x28, 4, 1, 0, 32, .live, 0, .any⟩,
   ⟨0x2c, 4, 1, 0, 32, .live, 0, .any⟩,
   ⟨0x30, 4, 1, 0, 32, .live, 0, .any⟩,
   ⟨0x34, 4, 1, 0, 32, .live, 0, .any⟩,
   ⟨0x38, 4, 1, 0, 32, .live, 0, .any⟩,
   ⟨0x40, 4, 1, 0, 2, .wo, 0, .any⟩,
   ⟨0x44, 4, 1, 0, 16, .rw, 150, .any⟩,
   ⟨0x44, 4, 1, 16, 8, .rw, 32, (.clamp 1 255)⟩,
   ⟨0x48, 4, 1, 0, 4, .live, 0, .any⟩,
   ⟨0x48, 4, 1, 4, 4, .ro, 0, .any⟩,
   ⟨0x48, 4, 1, 8, 4, .ro, 0, .any⟩,
   ⟨0x48, 4, 1, 12, 1, .ro, 0, .any⟩,
   ⟨0x48, 4, 1, 16, 8, .ro, 0, .any⟩,
   ⟨0x4c, 4, 1, 0, 32, .ro, 0, .any⟩,
   ⟨0x50, 4, 1, 0, 28, .ro, 0, .any⟩,
   ⟨0x54, 4, 1, 0, 28, .live, 0, .any⟩,
   ⟨0x58, 4, 1, 0, 28, .ro, 0, .any⟩,
   ⟨0x5c, 4, 1, 0, 32, .ro, 0, .any⟩,
   ⟨0x60, 4, 1, 0, 32, .ro, 0, .any⟩,
   ⟨0x64, 4, 1, 0, 4, .ro, 0, .any⟩,
   ⟨0x68, 4, 1, 0, 32, .ro, 0, .any⟩,
   ⟨0x6c, 4, 1, 0, 32, .ro, 0, .any⟩,
   ⟨0x70, 4, 1, 0, 8, .ro, 0, .any⟩]

/-! HPT registers. -/

def HPT_STATUS.ISLAND (p : Nat) : Fld := ⟨0x100000 + p * 0x10000, 0, 3⟩
def HPT_STATUS.LINK_UP (p : Nat) : Fld := ⟨0x100000 + p * 0x10000, 3, 1⟩
def HPT_STATUS.RATE (p : Nat) : Fld := ⟨0x100000 + p * 0x10000, 4, 3⟩
def HPT_STATUS.WIDTH (p : Nat) : Fld := ⟨0x100000 + p * 0x10000, 8, 2⟩
def HPT_STATUS.L0P (p : Nat) : Fld := ⟨0x100000 + p * 0x10000, 10, 1⟩
def HPT_STATUS.OPEN (p : Nat) : Fld := ⟨0x100000 + p * 0x10000, 11, 1⟩
def HPT_STATUS.FENCED (p : Nat) : Fld := ⟨0x100000 + p * 0x10000, 12, 1⟩
def HPT_STATUS.DEVLOAD (p : Nat) : Fld := ⟨0x100000 + p * 0x10000, 13, 2⟩
def HPT_CFG.ENABLE (p : Nat) : Fld := ⟨0x100004 + p * 0x10000, 0, 1⟩
def HPT_CFG.MGMT (p : Nat) : Fld := ⟨0x100004 + p * 0x10000, 1, 1⟩
def HPT_CFG.IDE_REQ (p : Nat) : Fld := ⟨0x100004 + p * 0x10000, 2, 1⟩
def HPT_CFG.L0P_EN (p : Nat) : Fld := ⟨0x100004 + p * 0x10000, 3, 1⟩
def HPT_CFG.MAXRATE (p : Nat) : Fld := ⟨0x100004 + p * 0x10000, 4, 2⟩
def HPT_CFG.X4_ONLY (p : Nat) : Fld := ⟨0x100004 + p * 0x10000, 6, 1⟩
def HPT_WBUF.ENTRIES (p : Nat) : Fld := ⟨0x100008 + p * 0x10000, 0, 13⟩
def HPT_WBUF.PEAK (p : Nat) : Fld := ⟨0x100008 + p * 0x10000, 16, 13⟩
def HPT_CNT_RD.COUNT (p : Nat) : Fld := ⟨0x100010 + p * 0x10000, 0, 32⟩
def HPT_CNT_WR.COUNT (p : Nat) : Fld := ⟨0x100014 + p * 0x10000, 0, 32⟩
def HPT_CNT_FRESH.COUNT (p : Nat) : Fld := ⟨0x100018 + p * 0x10000, 0, 32⟩
def HPT_OOR.COUNT (p : Nat) : Fld := ⟨0x10001c + p * 0x10000, 0, 16⟩
def HPT_OOR_DPA_LO.DPA (p : Nat) : Fld := ⟨0x100020 + p * 0x10000, 0, 32⟩
def HPT_OOR_DPA_HI.DPA (p : Nat) : Fld := ⟨0x100024 + p * 0x10000, 0, 20⟩
def HPT_IDE.STATE (p : Nat) : Fld := ⟨0x100028 + p * 0x10000, 0, 2⟩
def HPT_IDE.MODE (p : Nat) : Fld := ⟨0x100028 + p * 0x10000, 2, 1⟩
def HPT_IDE.FAILS (p : Nat) : Fld := ⟨0x100028 + p * 0x10000, 16, 8⟩
def HPT_LINK.RETRAINS (p : Nat) : Fld := ⟨0x10002c + p * 0x10000, 0, 16⟩
def HPT_LINK.DOWNS (p : Nat) : Fld := ⟨0x10002c + p * 0x10000, 16, 16⟩
def HPT_DISCARD.PARKED (p : Nat) : Fld := ⟨0x100030 + p * 0x10000, 0, 16⟩
def HPT_DISCARD.WAITING (p : Nat) : Fld := ⟨0x100030 + p * 0x10000, 16, 16⟩
def HPT_FEAT.ENABLED (p i : Nat) : Fld := ⟨0x100040 + p * 0x10000 + i * 4, 0, 32⟩
def HPT_FSUP.SUPPORTED (p i : Nat) : Fld := ⟨0x100050 + p * 0x10000 + i * 4, 0, 32⟩
def HPT_EVLOG.INFO (p : Nat) : Fld := ⟨0x100060 + p * 0x10000, 0, 9⟩
def HPT_EVLOG.WARN (p : Nat) : Fld := ⟨0x100060 + p * 0x10000, 16, 9⟩
def HPT_EVOVF.OVF (p : Nat) : Fld := ⟨0x100064 + p * 0x10000, 0, 4⟩
def HPT_EVLOG2.FAIL (p : Nat) : Fld := ⟨0x100068 + p * 0x10000, 0, 9⟩
def HPT_EVLOG2.FATAL (p : Nat) : Fld := ⟨0x100068 + p * 0x10000, 16, 9⟩
def HPT_DC.GRANTED (p : Nat) : Fld := ⟨0x100070 + p * 0x10000, 0, 16⟩
def HPT_DC.EXTENTS (p : Nat) : Fld := ⟨0x100070 + p * 0x10000, 16, 10⟩
def HPT_CAP.STATIC (p : Nat) : Fld := ⟨0x100074 + p * 0x10000, 0, 16⟩
def HPT_CAP.DC_MAX (p : Nat) : Fld := ⟨0x100074 + p * 0x10000, 16, 16⟩
def HPT_EVS.STATUS (p : Nat) : Fld := ⟨0x100078 + p * 0x10000, 0, 8⟩

/-- The lines of the HPT register table, part 1. -/
def hptRowsPart1 : List FRow :=
  [⟨0x0, 4, 1, 0, 3, .live, 0, .any⟩,
   ⟨0x0, 4, 1, 3, 1, .live, 0, .any⟩,
   ⟨0x0, 4, 1, 4, 3, .live, 0, .any⟩,
   ⟨0x0, 4, 1, 8, 2, .live, 0, .any⟩,
   ⟨0x0, 4, 1, 10, 1, .live, 0, .any⟩,
   ⟨0x0, 4, 1, 11, 1, .live, 0, .any⟩,
   ⟨0x0, 4, 1, 12, 1, .live, 0, .any⟩,
   ⟨0x0, 4, 1, 13, 2, .live, 0, .any⟩,
   ⟨0x4, 4, 1, 0, 1, .rw, 0, .any⟩,
   ⟨0x4, 4, 1, 1, 1, .rw, 0, .any⟩,
   ⟨0x4, 4, 1, 2, 1, .rw, 0, .any⟩,
   ⟨0x4, 4, 1, 3, 1, .rw, 1, .any⟩,
   ⟨0x4, 4, 1, 4, 2, .rw, 3, (.enum 1 3)⟩,
   ⟨0x4, 4, 1, 6, 1, .rw, 0, .any⟩,
   ⟨0x8, 4, 1, 0, 13, .live, 0, .any⟩,
   ⟨0x8, 4, 1, 16, 13, .live, 0, .any⟩,
   ⟨0x10, 4, 1, 0, 32, .live, 0, .any⟩,
   ⟨0x14, 4, 1, 0, 32, .live, 0, .any⟩,
   ⟨0x18, 4, 1, 0, 32, .live, 0, .any⟩,
   ⟨0x1c, 4, 1, 0, 16, .live, 0, .any⟩,
   ⟨0x20, 4, 1, 0, 32, .ro, 0, .any⟩,
   ⟨0x24, 4, 1, 0, 20, .ro, 0, .any⟩,
   ⟨0x28, 4, 1, 0, 2, .live, 0, .any⟩,
   ⟨0x28, 4, 1, 2, 1, .rw, 0, .any⟩,
   ⟨0x28, 4, 1, 16, 8, .live, 0, .any⟩,
   ⟨0x2c, 4, 1, 0, 16, .live, 0, .any⟩,
   ⟨0x2c, 4, 1, 16, 16, .live, 0, .any⟩,
   ⟨0x30, 4, 1, 0, 16, .live, 0, .any⟩,
   ⟨0x30, 4, 1, 16, 16, .live, 0, .any⟩,
   ⟨0x40, 4, 4, 0, 32, .ro, 0, .any⟩,
   ⟨0x50, 4, 4, 0, 32, .ro, 0, .any⟩,
   ⟨0x60, 4, 1, 0, 9, .live, 0, .any⟩,
   ⟨0x60, 4, 1, 16, 9, .live, 0, .any⟩,
   ⟨0x64, 4, 1, 0, 4, .w1c, 0, .any⟩,
   ⟨0x68, 4, 1, 0, 9, .live, 0, .any⟩,
   ⟨0x68, 4, 1, 16, 9, .live, 0, .any⟩,
   ⟨0x70, 4, 1, 0, 16, .live, 0, .any⟩,
   ⟨0x70, 4, 1, 16, 10, .live, 0, .any⟩,
   ⟨0x74, 4, 1, 0, 16, .ro, 0, .any⟩,
   ⟨0x74, 4, 1, 16, 16, .ro, 0, .any⟩]
/-- The lines of the HPT register table, part 2. -/
def hptRowsPart2 : List FRow :=
  [⟨0x78, 4, 1, 0, 8, .w1c, 0, .any⟩]
/-- The lines of the HPT register table. -/
def hptRows : List FRow := hptRowsPart1 ++ hptRowsPart2

/-! DCH registers. -/

def DCH_STATUS.STATE (c : Nat) : Fld := ⟨0x200000 + c * 0x4000, 0, 3⟩
def DCH_STATUS.REFRATE (c : Nat) : Fld := ⟨0x200000 + c * 0x4000, 4, 2⟩
def DCH_STATUS.EQ_BUSY (c : Nat) : Fld := ⟨0x200000 + c * 0x4000, 6, 1⟩
def DCH_STATUS.SCRUB_BUSY (c : Nat) : Fld := ⟨0x200000 + c * 0x4000, 7, 1⟩
def DCH_PRED.MODE (c : Nat) : Fld := ⟨0x200004 + c * 0x4000, 0, 2⟩
def DCH_PRED.OPEN_MAX (c : Nat) : Fld := ⟨0x200004 + c * 0x4000, 8, 8⟩
def DCH_PRED_HIT.COUNT (c : Nat) : Fld := ⟨0x200008 + c * 0x4000, 0, 32⟩
def DCH_PRED_MISS.COUNT (c : Nat) : Fld := ⟨0x20000c + c * 0x4000, 0, 32⟩
def DCH_REF.MODE (c : Nat) : Fld := ⟨0x200010 + c * 0x4000, 0, 1⟩
def DCH_REF.MAXTEMP (c : Nat) : Fld := ⟨0x200010 + c * 0x4000, 8, 8⟩
def DCH_SR.EN (c : Nat) : Fld := ⟨0x200014 + c * 0x4000, 0, 1⟩
def DCH_SR.IDLE (c : Nat) : Fld := ⟨0x200014 + c * 0x4000, 8, 8⟩
def DCH_SR_CNT.ENTRIES (c : Nat) : Fld := ⟨0x200018 + c * 0x4000, 0, 16⟩
def DCH_SR_CNT.ABORTS (c : Nat) : Fld := ⟨0x200018 + c * 0x4000, 16, 16⟩
def DCH_SR_LATE.COUNT (c : Nat) : Fld := ⟨0x20001c + c * 0x4000, 0, 16⟩
def DCH_EQ.EN (c : Nat) : Fld := ⟨0x200020 + c * 0x4000, 0, 1⟩
def DCH_EQ.TDELTA (c : Nat) : Fld := ⟨0x200020 + c * 0x4000, 8, 8⟩
def DCH_EQ.PERIOD (c : Nat) : Fld := ⟨0x200020 + c * 0x4000, 16, 16⟩
def DCH_EQ2.EQ_MIN (c : Nat) : Fld := ⟨0x200024 + c * 0x4000, 0, 8⟩
def DCH_EQ2.HYST (c : Nat) : Fld := ⟨0x200024 + c * 0x4000, 8, 8⟩
def DCH_EQ2.EQ_CE (c : Nat) : Fld := ⟨0x200024 + c * 0x4000, 16, 8⟩
def DCH_EQ_STAT.RUNS (c : Nat) : Fld := ⟨0x200028 + c * 0x4000, 0, 16⟩
def DCH_EQ_STAT.FAILS (c : Nat) : Fld := ⟨0x200028 + c * 0x4000, 16, 8⟩
def DCH_EQ_STAT.MARGIN (c : Nat) : Fld := ⟨0x200028 + c * 0x4000, 24, 8⟩
def DCH_SCRUB.EN (c : Nat) : Fld := ⟨0x20002c + c * 0x4000, 0, 1⟩
def DCH_SCRUB.HOURS (c : Nat) : Fld := ⟨0x20002c + c * 0x4000, 8, 8⟩
def DCH_SCRUB_PTR.LINE (c : Nat) : Fld := ⟨0x200030 + c * 0x4000, 0, 32⟩
def DCH_SCRUB_PASS.COUNT (c : Nat) : Fld := ⟨0x200034 + c * 0x4000, 0, 32⟩
def DCH_RNKS.STATE (c k : Nat) : Fld := ⟨0x200040 + c * 0x4000 + k * 16, 0, 4⟩
def DCH_RNKS.WORSTDEV (c k : Nat) : Fld := ⟨0x200040 + c * 0x4000 + k * 16, 4, 4⟩
def DCH_RNKS.CE_OVER (c k : Nat) : Fld := ⟨0x200040 + c * 0x4000 + k * 16, 8, 1⟩
def DCH_RNKS.DEV_OVER (c k : Nat) : Fld := ⟨0x200040 + c * 0x4000 + k * 16, 9, 1⟩
def DCH_RNKS.UE_OVER (c k : Nat) : Fld := ⟨0x200040 + c * 0x4000 + k * 16, 10, 1⟩
def DCH_RNKS.BY_CHAN (c k : Nat) : Fld := ⟨0x200040 + c * 0x4000 + k * 16, 16, 6⟩
def DCH_RNKS.BY_RANK (c k : Nat) : Fld := ⟨0x200040 + c * 0x4000 + k * 16, 22, 2⟩
def DCH_RCE.WIN (c k : Nat) : Fld := ⟨0x200044 + c * 0x4000 + k * 16, 0, 16⟩
def DCH_RCE.DEVWIN (c k : Nat) : Fld := ⟨0x200044 + c * 0x4000 + k * 16, 16, 16⟩
def DCH_RUE.WIN (c k : Nat) : Fld := ⟨0x200048 + c * 0x4000 + k * 16, 0, 16⟩
def DCH_RUE.TOTAL (c k : Nat) : Fld := ⟨0x200048 + c * 0x4000 + k * 16, 16, 16⟩
def DCH_RCT.TOTAL (c k : Nat) : Fld := ⟨0x20004c + c * 0x4000 + k * 16, 0, 32⟩
def DCH_MIG_CTL.OP (c : Nat) : Fld := ⟨0x200080 + c * 0x4000, 0, 2⟩
def DCH_MIG_CTL.RANK (c : Nat) : Fld := ⟨0x200080 + c * 0x4000, 4, 2⟩
def DCH_MIG_CTL.RESULT (c : Nat) : Fld := ⟨0x200080 + c * 0x4000, 8, 4⟩
def DCH_MIG_CTL.PHASE (c : Nat) : Fld := ⟨0x200080 + c * 0x4000, 12, 3⟩
def DCH_MIG_DST.CHANNEL (c : Nat) : Fld := ⟨0x200084 + c * 0x4000, 0, 6⟩
def DCH_MIG_DST.RANK (c : Nat) : Fld := ⟨0x200084 + c * 0x4000, 8, 2⟩
def DCH_MIG_PTR.SLAB (c : Nat) : Fld := ⟨0x200088 + c * 0x4000, 0, 16⟩
def DCH_MIG_PTR.SETT (c : Nat) : Fld := ⟨0x200088 + c * 0x4000, 16, 6⟩
def DCH_MIG_RATE.SETTS (c : Nat) : Fld := ⟨0x20008c + c * 0x4000, 0, 12⟩
def DCH_MIG_RATE.SLABS (c : Nat) : Fld := ⟨0x20008c + c * 0x4000, 16, 16⟩
def DCH_CRD.SLAB (c i : Nat) : Fld := ⟨0x2000c0 + c * 0x4000 + i * 4, 0, 22⟩
def DCH_CRD.VALID (c i : Nat) : Fld := ⟨0x2000c0 + c * 0x4000 + i * 4, 31, 1⟩
def DCH_UE_LINE.LINE (c : Nat) : Fld := ⟨0x200100 + c * 0x4000, 0, 32⟩
def DCH_UE_INFO.CASE (c : Nat) : Fld := ⟨0x200104 + c * 0x4000, 0, 4⟩
def DCH_UE_INFO.RANK (c : Nat) : Fld := ⟨0x200104 + c * 0x4000, 8, 4⟩
def DCH_REPAIR.OK (c : Nat) : Fld := ⟨0x200108 + c * 0x4000, 0, 16⟩
def DCH_REPAIR.FAIL (c : Nat) : Fld := ⟨0x200108 + c * 0x4000, 16, 16⟩
def DCH_REPAIR_HARD.COUNT (c : Nat) : Fld := ⟨0x20010c + c * 0x4000, 0, 16⟩
def DCH_EVS.STATUS (c : Nat) : Fld := ⟨0x200110 + c * 0x4000, 0, 6⟩

/-- The lines of the DCH register table, part 1. -/
def dchRowsPart1 : List FRow :=
  [⟨0x0, 4, 1, 0, 3, .live, 0, .any⟩,
   ⟨0x0, 4, 1, 4, 2, .live, 0, .any⟩,
   ⟨0x0, 4, 1, 6, 1, .live, 0, .any⟩,
   ⟨0x0, 4, 1, 7, 1, .live, 0, .any⟩,
   ⟨0x4, 4, 1, 0, 2, .rw, 0, (.enum 0 2)⟩,
   ⟨0x4, 4, 1, 8, 8, .rw, 64, (.clamp 1 255)⟩,
   ⟨0x8, 4, 1, 0, 32, .live, 0, .any⟩,
   ⟨0xc, 4, 1, 0, 32, .live, 0, .any⟩,
   ⟨0x10, 4, 1, 0, 1, .rw, 1, .any⟩,
   ⟨0x10, 4, 1, 8, 8, .live, 0, .any⟩,
   ⟨0x14, 4, 1, 0, 1, .rw, 1, .any⟩,
   ⟨0x14, 4, 1, 8, 8, .rw, 4, (.clamp 1 255)⟩,
   ⟨0x18, 4, 1, 0, 16, .live, 0, .any⟩,
   ⟨0x18, 4, 1, 16, 16, .live, 0, .any⟩,
   ⟨0x1c, 4, 1, 0, 16, .live, 0, .any⟩,
   ⟨0x20, 4, 1, 0, 1, .rw, 1, .any⟩,
   ⟨0x20, 4, 1, 8, 8, .rw, 4, (.clamp 1 255)⟩,
   ⟨0x20, 4, 1, 16, 16, .rw, 8192, (.clamp 1 65535)⟩,
   ⟨0x24, 4, 1, 0, 8, .rw, 3, .any⟩,
   ⟨0x24, 4, 1, 8, 8, .rw, 1, .any⟩,
   ⟨0x24, 4, 1, 16, 8, .rw, 16, .any⟩,
   ⟨0x28, 4, 1, 0, 16, .live, 0, .any⟩,
   ⟨0x28, 4, 1, 16, 8, .live, 0, .any⟩,
   ⟨0x28, 4, 1, 24, 8, .live, 0, .any⟩,
   ⟨0x2c, 4, 1, 0, 1, .rw, 1, .any⟩,
   ⟨0x2c, 4, 1, 8, 8, .rw, 24, (.clamp 1 255)⟩,
   ⟨0x30, 4, 1, 0, 32, .live, 0, .any⟩,
   ⟨0x34, 4, 1, 0, 32, .live, 0, .any⟩,
   ⟨0x40, 16, 4, 0, 4, .live, 0, .any⟩,
   ⟨0x40, 16, 4, 4, 4, .live, 0, .any⟩,
   ⟨0x40, 16, 4, 8, 1, .w1c, 0, .any⟩,
   ⟨0x40, 16, 4, 9, 1, .w1c, 0, .any⟩,
   ⟨0x40, 16, 4, 10, 1, .w1c, 0, .any⟩,
   ⟨0x40, 16, 4, 16, 6, .ro, 0, .any⟩,
   ⟨0x40, 16, 4, 22, 2, .ro, 0, .any⟩,
   ⟨0x44, 16, 4, 0, 16, .live, 0, .any⟩,
   ⟨0x44, 16, 4, 16, 16, .live, 0, .any⟩,
   ⟨0x48, 16, 4, 0, 16, .live, 0, .any⟩,
   ⟨0x48, 16, 4, 16, 16, .live, 0, .any⟩,
   ⟨0x4c, 16, 4, 0, 32, .live, 0, .any⟩]
/-- The lines of the DCH register table, part 2. -/
def dchRowsPart2 : List FRow :=
  [⟨0x80, 4, 1, 0, 2, .wo, 0, .any⟩,
   ⟨0x80, 4, 1, 4, 2, .rw, 0, .any⟩,
   ⟨0x80, 4, 1, 8, 4, .ro, 0, .any⟩,
   ⟨0x80, 4, 1, 12, 3, .live, 0, .any⟩,
   ⟨0x84, 4, 1, 0, 6, .rw, 0, (.clamp 32 35)⟩,
   ⟨0x84, 4, 1, 8, 2, .rw, 0, .any⟩,
   ⟨0x88, 4, 1, 0, 16, .live, 0, .any⟩,
   ⟨0x88, 4, 1, 16, 6, .live, 0, .any⟩,
   ⟨0x8c, 4, 1, 0, 12, .rw, 256, .any⟩,
   ⟨0x8c, 4, 1, 16, 16, .live, 0, .any⟩,
   ⟨0xc0, 4, 16, 0, 22, .ro, 0, .any⟩,
   ⟨0xc0, 4, 16, 31, 1, .ro, 0, .any⟩,
   ⟨0x100, 4, 1, 0, 32, .ro, 0, .any⟩,
   ⟨0x104, 4, 1, 0, 4, .ro, 0, .any⟩,
   ⟨0x104, 4, 1, 8, 4, .ro, 0, .any⟩,
   ⟨0x108, 4, 1, 0, 16, .live, 0, .any⟩,
   ⟨0x108, 4, 1, 16, 16, .live, 0, .any⟩,
   ⟨0x10c, 4, 1, 0, 16, .live, 0, .any⟩,
   ⟨0x110, 4, 1, 0, 6, .w1c, 0, .any⟩]
/-- The lines of the DCH register table. -/
def dchRows : List FRow := dchRowsPart1 ++ dchRowsPart2

/-! NCH registers. -/

def NCH_STATUS.STATE (n : Nat) : Fld := ⟨0x300000 + n * 0x2000, 0, 3⟩
def NCH_STATUS.TGT_LIVE (n : Nat) : Fld := ⟨0x300000 + n * 0x2000, 4, 8⟩
def NCH_STATUS.TGT_RETIRED (n : Nat) : Fld := ⟨0x300000 + n * 0x2000, 12, 8⟩
def NCH_STATUS.PSLC (n : Nat) : Fld := ⟨0x300000 + n * 0x2000, 20, 1⟩
def NCH_STATUS.SUSPENDED (n : Nat) : Fld := ⟨0x300000 + n * 0x2000, 21, 1⟩
def NCH_STATUS.WP_VIOL (n : Nat) : Fld := ⟨0x300000 + n * 0x2000, 22, 1⟩
def NCH_IFCFG.RATE (n : Nat) : Fld := ⟨0x300004 + n * 0x2000, 0, 3⟩
def NCH_IFCFG.VCCQ (n : Nat) : Fld := ⟨0x300004 + n * 0x2000, 3, 2⟩
def NCH_IFCFG.RL (n : Nat) : Fld := ⟨0x300004 + n * 0x2000, 8, 5⟩
def NCH_IFCFG.RPRE (n : Nat) : Fld := ⟨0x300004 + n * 0x2000, 13, 3⟩
def NCH_IFCFG.WPRE (n : Nat) : Fld := ⟨0x300004 + n * 0x2000, 16, 3⟩
def NCH_CTL.APPLY (n : Nat) : Fld := ⟨0x300008 + n * 0x2000, 0, 1⟩
def NCH_CTL.SUSP_EN (n : Nat) : Fld := ⟨0x300008 + n * 0x2000, 1, 1⟩
def NCH_CTL.SUSP_MAX (n : Nat) : Fld := ⟨0x300008 + n * 0x2000, 8, 4⟩
def NCH_CTL.RESUME_MIN (n : Nat) : Fld := ⟨0x300008 + n * 0x2000, 16, 8⟩
def NCH_RLV.STEP_THR (n : Nat) : Fld := ⟨0x30000c + n * 0x2000, 0, 10⟩
def NCH_RLV.RETRY_MAX (n : Nat) : Fld := ⟨0x30000c + n * 0x2000, 12, 3⟩
def NCH_RLV.SOFT_EN (n : Nat) : Fld := ⟨0x30000c + n * 0x2000, 15, 1⟩
def NCH_RLV.TRACK_EN (n : Nat) : Fld := ⟨0x30000c + n * 0x2000, 16, 1⟩
def NCH_RLV.SOFT_DELTA (n : Nat) : Fld := ⟨0x30000c + n * 0x2000, 20, 3⟩
def NCH_CNT_CW.COUNT (n : Nat) : Fld := ⟨0x300010 + n * 0x2000, 0, 32⟩
def NCH_CNT_BITS.COUNT (n : Nat) : Fld := ⟨0x300014 + n * 0x2000, 0, 32⟩
def NCH_CNT_RETRY.RETRY (n : Nat) : Fld := ⟨0x300018 + n * 0x2000, 0, 16⟩
def NCH_CNT_RETRY.SOFT (n : Nat) : Fld := ⟨0x300018 + n * 0x2000, 16, 16⟩
def NCH_CNT_REBUILD.PAGES (n : Nat) : Fld := ⟨0x30001c + n * 0x2000, 0, 16⟩
def NCH_CNT_REBUILD.UNREAD (n : Nat) : Fld := ⟨0x30001c + n * 0x2000, 16, 16⟩
def NCH_CNT_FAIL.PROG (n : Nat) : Fld := ⟨0x300020 + n * 0x2000, 0, 16⟩
def NCH_CNT_FAIL.ERASE (n : Nat) : Fld := ⟨0x300020 + n * 0x2000, 16, 16⟩
def NCH_CNT_SUSP.COUNT (n : Nat) : Fld := ⟨0x300024 + n * 0x2000, 0, 32⟩
def NCH_CWMAX.BITS (n : Nat) : Fld := ⟨0x300028 + n * 0x2000, 0, 16⟩
def NCH_CWMAX.CLEAR (n : Nat) : Fld := ⟨0x300028 + n * 0x2000, 31, 1⟩
def NCH_WPLO.FIRST (n w : Nat) : Fld := ⟨0x300800 + n * 0x2000 + w * 8, 0, 16⟩
def NCH_WPLO.LAST (n w : Nat) : Fld := ⟨0x300800 + n * 0x2000 + w * 8, 16, 16⟩
def NCH_WPHI.TARGET (n w : Nat) : Fld := ⟨0x300804 + n * 0x2000 + w * 8, 0, 3⟩
def NCH_WPHI.MODE (n w : Nat) : Fld := ⟨0x300804 + n * 0x2000 + w * 8, 4, 2⟩
def NCH_WPHI.VALID (n w : Nat) : Fld := ⟨0x300804 + n * 0x2000 + w * 8, 31, 1⟩
def NCH_EVS.STATUS (n : Nat) : Fld := ⟨0x300030 + n * 0x2000, 0, 4⟩

/-- The lines of the NCH register table. -/
def nchRows : List FRow :=
  [⟨0x0, 4, 1, 0, 3, .live, 0, .any⟩,
   ⟨0x0, 4, 1, 4, 8, .live, 0, .any⟩,
   ⟨0x0, 4, 1, 12, 8, .ro, 0, .any⟩,
   ⟨0x0, 4, 1, 20, 1, .live, 0, .any⟩,
   ⟨0x0, 4, 1, 21, 1, .live, 0, .any⟩,
   ⟨0x0, 4, 1, 22, 1, .w1c, 0, .any⟩,
   ⟨0x4, 4, 1, 0, 3, .rw, 0, (.enum 0 4)⟩,
   ⟨0x4, 4, 1, 3, 2, .rwl, 0, (.enum 0 1)⟩,
   ⟨0x4, 4, 1, 8, 5, .rw, 4, .any⟩,
   ⟨0x4, 4, 1, 13, 3, .rw, 2, .any⟩,
   ⟨0x4, 4, 1, 16, 3, .rw, 2, .any⟩,
   ⟨0x8, 4, 1, 0, 1, .wo, 0, .any⟩,
   ⟨0x8, 4, 1, 1, 1, .rw, 1, .any⟩,
   ⟨0x8, 4, 1, 8, 4, .rw, 8, .any⟩,
   ⟨0x8, 4, 1, 16, 8, .rw, 50, .any⟩,
   ⟨0xc, 4, 1, 0, 10, .rw, 512, .any⟩,
   ⟨0xc, 4, 1, 12, 3, .rw, 6, (.clamp 0 6)⟩,
   ⟨0xc, 4, 1, 15, 1, .rw, 1, .any⟩,
   ⟨0xc, 4, 1, 16, 1, .rw, 1, .any⟩,
   ⟨0xc, 4, 1, 20, 3, .rw, 3, .any⟩,
   ⟨0x10, 4, 1, 0, 32, .live, 0, .any⟩,
   ⟨0x14, 4, 1, 0, 32, .live, 0, .any⟩,
   ⟨0x18, 4, 1, 0, 16, .live, 0, .any⟩,
   ⟨0x18, 4, 1, 16, 16, .live, 0, .any⟩,
   ⟨0x1c, 4, 1, 0, 16, .live, 0, .any⟩,
   ⟨0x1c, 4, 1, 16, 16, .live, 0, .any⟩,
   ⟨0x20, 4, 1, 0, 16, .live, 0, .any⟩,
   ⟨0x20, 4, 1, 16, 16, .live, 0, .any⟩,
   ⟨0x24, 4, 1, 0, 32, .live, 0, .any⟩,
   ⟨0x28, 4, 1, 0, 16, .live, 0, .any⟩,
   ⟨0x28, 4, 1, 31, 1, .wo, 0, .any⟩,
   ⟨0x800, 8, 256, 0, 16, .rwl, 0, .any⟩,
   ⟨0x800, 8, 256, 16, 16, .rwl, 0, .any⟩,
   ⟨0x804, 8, 256, 0, 3, .rwl, 0, .any⟩,
   ⟨0x804, 8, 256, 4, 2, .rwl, 0, .any⟩,
   ⟨0x804, 8, 256, 31, 1, .rwl, 0, .any⟩,
   ⟨0x30, 4, 1, 0, 4, .w1c, 0, .any⟩]

/-! STK registers. -/

def STK_STATUS.READY : Fld := ⟨0x400000, 0, 1⟩
def STK_STATUS.REBUILT : Fld := ⟨0x400000, 1, 1⟩
def STK_STATUS.FOLDING : Fld := ⟨0x400000, 2, 1⟩
def STK_STATUS.REWORKING : Fld := ⟨0x400000, 3, 1⟩
def STK_STATUS.DEGRADED : Fld := ⟨0x400000, 4, 8⟩
def STK_SUMP_FREE.RECORDS : Fld := ⟨0x400004, 0, 28⟩
def STK_CFG.WL_GAP : Fld := ⟨0x400008, 0, 8⟩
def STK_CFG.RD_MAX : Fld := ⟨0x400008, 8, 8⟩
def STK_CFG.REFRESH_THR : Fld := ⟨0x400008, 16, 12⟩
def STK_CFG.PATROL_DAYS : Fld := ⟨0x400008, 28, 4⟩
def STK_DIE_BAD.MAX : Fld := ⟨0x40000c, 0, 16⟩
def STK_JRNL.PAGE : Fld := ⟨0x400010, 0, 16⟩
def STK_JRNL.PENDING : Fld := ⟨0x400010, 16, 16⟩
def STK_UNSETTLED.COUNT : Fld := ⟨0x400014, 0, 16⟩
def STK_BIW_SEL.CHANNEL : Fld := ⟨0x400018, 0, 7⟩
def STK_BIW_SEL.TARGET : Fld := ⟨0x400018, 8, 3⟩
def STK_ERASE_MAX.ERASES : Fld := ⟨0x40001c, 0, 24⟩
def STK_ERASE_MEAN.ERASES : Fld := ⟨0x400020, 0, 24⟩
def STK_GRPA.STATE (g : Nat) : Fld := ⟨0x400040 + g * 16, 0, 2⟩
def STK_GRPA.FREE_LODES (g : Nat) : Fld := ⟨0x400040 + g * 16, 4, 12⟩
def STK_GRPA.SPARE_MIN (g : Nat) : Fld := ⟨0x400040 + g * 16, 16, 16⟩
def STK_GRPB.SUMP_HEAD (g : Nat) : Fld := ⟨0x400044 + g * 16, 0, 27⟩
def STK_GRPC.SUMP_TAIL (g : Nat) : Fld := ⟨0x400048 + g * 16, 0, 27⟩
def STK_GRPD.VALID (g : Nat) : Fld := ⟨0x40004c + g * 16, 0, 28⟩

/-- The lines of the STK register table. -/
def stkRows : List FRow :=
  [⟨0x0, 4, 1, 0, 1, .live, 0, .any⟩,
   ⟨0x0, 4, 1, 1, 1, .ro, 0, .any⟩,
   ⟨0x0, 4, 1, 2, 1, .live, 0, .any⟩,
   ⟨0x0, 4, 1, 3, 1, .live, 0, .any⟩,
   ⟨0x0, 4, 1, 4, 8, .ro, 0, .any⟩,
   ⟨0x4, 4, 1, 0, 28, .live, 0, .any⟩,
   ⟨0x8, 4, 1, 0, 8, .rw, 20, .any⟩,
   ⟨0x8, 4, 1, 8, 8, .rw, 10, .any⟩,
   ⟨0x8, 4, 1, 16, 12, .rw, 200, .any⟩,
   ⟨0x8, 4, 1, 28, 4, .rw, 7, (.clamp 1 15)⟩,
   ⟨0xc, 4, 1, 0, 16, .rw, 248, .any⟩,
   ⟨0x10, 4, 1, 0, 16, .live, 0, .any⟩,
   ⟨0x10, 4, 1, 16, 16, .live, 0, .any⟩,
   ⟨0x14, 4, 1, 0, 16, .ro, 0, .any⟩,
   ⟨0x18, 4, 1, 0, 7, .rw, 0, .any⟩,
   ⟨0x18, 4, 1, 8, 3, .rw, 0, .any⟩,
   ⟨0x1c, 4, 1, 0, 24, .live, 0, .any⟩,
   ⟨0x20, 4, 1, 0, 24, .live, 0, .any⟩,
   ⟨0x40, 16, 8, 0, 2, .live, 0, .any⟩,
   ⟨0x40, 16, 8, 4, 12, .live, 0, .any⟩,
   ⟨0x40, 16, 8, 16, 16, .live, 0, .any⟩,
   ⟨0x44, 16, 8, 0, 27, .live, 0, .any⟩,
   ⟨0x48, 16, 8, 0, 27, .live, 0, .any⟩,
   ⟨0x4c, 16, 8, 0, 28, .live, 0, .any⟩]

/-! SLB registers. -/

def SLB_STATUS.READY : Fld := ⟨0x800000, 0, 1⟩
def SLB_STATUS.SWEEP : Fld := ⟨0x800000, 1, 1⟩
def SLB_ECC.CE_COUNT : Fld := ⟨0x800004, 0, 16⟩
def SLB_ECC.UE_SEEN : Fld := ⟨0x800004, 30, 1⟩
def SLB_ECC.CLEAR : Fld := ⟨0x800004, 31, 1⟩
def SLB_HEATCFG.PERIOD : Fld := ⟨0x800008, 0, 16⟩
def SLB_HEATCFG.ENABLE : Fld := ⟨0x800008, 16, 1⟩
def SLB_IFT.COUNT : Fld := ⟨0x80000c, 0, 14⟩
def SLB_SNAP_IDX.INDEX : Fld := ⟨0x800010, 0, 22⟩
def SLB_SNAP_IDX.VALID : Fld := ⟨0x800010, 31, 1⟩
def SLB_SNAP0.MASK_LO : Fld := ⟨0x800014, 0, 32⟩
def SLB_SNAP1.MASK_HI : Fld := ⟨0x800018, 0, 32⟩
def SLB_SNAP2.WORD : Fld := ⟨0x80001c, 0, 32⟩
def SLB_SNAP3.DIRTY : Fld := ⟨0x800020, 0, 7⟩
def SLB_SNAP3.IN_HAUL : Fld := ⟨0x800020, 8, 7⟩
def SLB_WBASE.BASE : Fld := ⟨0x800024, 0, 4⟩
def SLB_UE_IDX.INDEX : Fld := ⟨0x800028, 0, 22⟩
def SLB_CMD_IDX.INDEX : Fld := ⟨0x800030, 0, 22⟩
def SLB_CMD_ARG0.ARG : Fld := ⟨0x800034, 0, 32⟩
def SLB_CMD_ARG1.ARG : Fld := ⟨0x800038, 0, 32⟩
def SLB_CMD.OP : Fld := ⟨0x80003c, 0, 4⟩
def SLB_CMD_STATUS.BUSY : Fld := ⟨0x800040, 0, 1⟩
def SLB_CMD_STATUS.RESULT : Fld := ⟨0x800040, 4, 4⟩
def SLB_FDIRTY.SETTS (f : Nat) : Fld := ⟨0x800050 + f * 4, 0, 28⟩

/-- The lines of the SLB register table. -/
def slbRows : List FRow :=
  [⟨0x0, 4, 1, 0, 1, .ro, 0, .any⟩,
   ⟨0x0, 4, 1, 1, 1, .live, 0, .any⟩,
   ⟨0x4, 4, 1, 0, 16, .ro, 0, .any⟩,
   ⟨0x4, 4, 1, 30, 1, .w1c, 0, .any⟩,
   ⟨0x4, 4, 1, 31, 1, .wo, 0, .any⟩,
   ⟨0x8, 4, 1, 0, 16, .rw, 32768, .any⟩,
   ⟨0x8, 4, 1, 16, 1, .rw, 1, .any⟩,
   ⟨0xc, 4, 1, 0, 14, .live, 0, .any⟩,
   ⟨0x10, 4, 1, 0, 22, .rw, 0, .any⟩,
   ⟨0x10, 4, 1, 31, 1, .live, 0, .any⟩,
   ⟨0x14, 4, 1, 0, 32, .ro, 0, .any⟩,
   ⟨0x18, 4, 1, 0, 32, .ro, 0, .any⟩,
   ⟨0x1c, 4, 1, 0, 32, .ro, 0, .any⟩,
   ⟨0x20, 4, 1, 0, 7, .ro, 0, .any⟩,
   ⟨0x20, 4, 1, 8, 7, .ro, 0, .any⟩,
   ⟨0x24, 4, 1, 0, 4, .rw, 0, .any⟩,
   ⟨0x28, 4, 1, 0, 22, .ro, 0, .any⟩,
   ⟨0x30, 4, 1, 0, 22, .rw, 0, .any⟩,
   ⟨0x34, 4, 1, 0, 32, .rw, 0, .any⟩,
   ⟨0x38, 4, 1, 0, 32, .rw, 0, .any⟩,
   ⟨0x3c, 4, 1, 0, 4, .wo, 0, .any⟩,
   ⟨0x40, 4, 1, 0, 1, .live, 0, .any⟩,
   ⟨0x40, 4, 1, 4, 4, .ro, 0, .any⟩,
   ⟨0x50, 4, 6, 0, 28, .live, 0, .any⟩]

/-! JOB registers. -/

def JOB_STATUS.ISLAND : Fld := ⟨0x1200000, 0, 3⟩
def JOB_STATUS.FENCED : Fld := ⟨0x1200000, 3, 1⟩
def JOB_CFG.ENABLE : Fld := ⟨0x1200004, 0, 1⟩
def JOB_CFG.MAX_RUN : Fld := ⟨0x1200004, 8, 3⟩
def JOB_CACHE.USED : Fld := ⟨0x1200008, 0, 14⟩
def JOB_CACHE.BUSY : Fld := ⟨0x1200008, 16, 14⟩
def JOB_CACHE_MISS.COUNT : Fld := ⟨0x120000c, 0, 32⟩
def JOB_PEND.RINGS : Fld := ⟨0x1200010, 0, 19⟩
def JOB_RUN.JOBS : Fld := ⟨0x1200014, 0, 10⟩
def JOB_DONE.COUNT : Fld := ⟨0x1200018, 0, 32⟩
def JOB_ERR.COUNT : Fld := ⟨0x120001c, 0, 32⟩
def JOB_PINCFG.MAX_SLABS : Fld := ⟨0x1200020, 0, 22⟩
def JOB_PINNED.SLABS : Fld := ⟨0x1200024, 0, 22⟩
def JOB_PINREC.USED : Fld := ⟨0x1200028, 0, 13⟩
def JOB_CKPT.PASSES : Fld := ⟨0x120002c, 0, 4⟩
def JOB_WBASE.BASE : Fld := ⟨0x1200030, 0, 5⟩
def JOB_DB_IGN.COUNT : Fld := ⟨0x1200034, 0, 32⟩
def JOB_LASTERR.RING : Fld := ⟨0x1200038, 0, 18⟩
def JOB_LASTERR.STATUS : Fld := ⟨0x1200038, 24, 8⟩
def JOB_FACE.ENABLED (f : Nat) : Fld := ⟨0x1200040 + f * 4, 0, 19⟩

/-- The lines of the JOB register table. -/
def jobRows : List FRow :=
  [⟨0x0, 4, 1, 0, 3, .live, 0, .any⟩,
   ⟨0x0, 4, 1, 3, 1, .live, 0, .any⟩,
   ⟨0x4, 4, 1, 0, 1, .rw, 0, .any⟩,
   ⟨0x4, 4, 1, 8, 3, .rw, 4, (.clamp 0 4)⟩,
   ⟨0x8, 4, 1, 0, 14, .live, 0, .any⟩,
   ⟨0x8, 4, 1, 16, 14, .live, 0, .any⟩,
   ⟨0xc, 4, 1, 0, 32, .live, 0, .any⟩,
   ⟨0x10, 4, 1, 0, 19, .live, 0, .any⟩,
   ⟨0x14, 4, 1, 0, 10, .live, 0, .any⟩,
   ⟨0x18, 4, 1, 0, 32, .live, 0, .any⟩,
   ⟨0x1c, 4, 1, 0, 32, .live, 0, .any⟩,
   ⟨0x20, 4, 1, 0, 22, .rw, 65536, .any⟩,
   ⟨0x24, 4, 1, 0, 22, .live, 0, .any⟩,
   ⟨0x28, 4, 1, 0, 13, .live, 0, .any⟩,
   ⟨0x2c, 4, 1, 0, 4, .rw, 3, .any⟩,
   ⟨0x30, 4, 1, 0, 5, .rw, 0, .any⟩,
   ⟨0x34, 4, 1, 0, 32, .live, 0, .any⟩,
   ⟨0x38, 4, 1, 0, 18, .ro, 0, .any⟩,
   ⟨0x38, 4, 1, 24, 8, .ro, 0, .any⟩,
   ⟨0x40, 4, 6, 0, 19, .live, 0, .any⟩]

/-- The sampling shift K that CLG_HCFGf holds after a cold reset (R536). -/
def clgResetK : List Nat :=
  [4, 4, 4, 4, 4, 4, 4, 4, 4, 4, 4, 4, 0, 0, 4, 0, 0, 0, 0, 8, 0, 0, 0, 0, 4, 0, 0, 0, 0, 0, 0, 6]

/-- The block (or block instance) an address lies in: the offset in it and its register rows (R583). -/
def rowsAt (addr : Nat) : Nat × List FRow :=
  let off := addr % 0x10000
  match addr / 0x10000 with
  | 0x0 => (off, bedRows)
  | 0x1 => (off, svyRows)
  | 0x2 => (off, fltRows)
  | 0x3 => (off, clgRows)
  | 0x4 => (off, seqRows)
  | 0x5 =>
    let t := off / 0x1000
    (off % 0x1000,
      if t = 0 then twbRows ++ twbzeroRows
      else if t = 3 ∨ t = 4 then twbRows ++ twbsensRows
      else if t = 7 then twbRows ++ twbsevenRows
      else if t < 8 then twbRows else [])
  | 0x6 => (off, clkRows)
  | 0x7 => (off, fwmRows)
  | 0x8 => (off, lgrRows)
  | 0x9 => (off, admRows)
  | 0xA => (off, cipRows)
  | 0xB => (off, galRows)
  | 0xC => (off, resRows)
  | 0xD => (off, haulRows)
  | _ =>
    if 0x100000 ≤ addr ∧ addr < 0x160000 then (off, hptRows)
    else if 0x200000 ≤ addr ∧ addr < 0x290000 then ((addr - 0x200000) % 0x4000, dchRows)
    else if 0x300000 ≤ addr ∧ addr < 0x390000 then ((addr - 0x300000) % 0x2000, nchRows)
    else if 0x400000 ≤ addr ∧ addr < 0x800000 then (addr - 0x400000, stkRows)
    else if 0x800000 ≤ addr ∧ addr < 0x1000000 then (addr - 0x800000, slbRows)
    else if 0x1200000 ≤ addr ∧ addr < 0x1400000 then (addr - 0x1200000, jobRows)
    else (addr, [])

/-- Does a row describe a field of the word at this offset? -/
def FRow.covers (r : FRow) (off : Nat) : Bool :=
  decide (r.off ≤ off) && decide ((off - r.off) % r.stride = 0) && decide ((off - r.off) / r.stride < r.count)

/-- The fields of the word at an address; none where no register lies (R583). -/
def fieldsAt (addr : Nat) : List FRow :=
  let p := rowsAt addr
  p.2.filter (fun r => r.covers p.1)

/-- The mask of a field inside its word. -/
def FRow.mask (r : FRow) : Nat := (2 ^ r.width - 1) * 2 ^ r.lo

/-- The value a register word holds after a cold reset: its fields' Reset columns (R9), the sampling shifts of
R536 and the idle rules of R494 for the registers whose Reset column points there. -/
def regReset (addr : Nat) : Word :=
  let base := (fieldsAt addr).foldl (fun w r => w + (r.reset % 2 ^ r.width) * 2 ^ r.lo) 0
  let extra :=
    if 0x30080 ≤ addr ∧ addr ≤ 0x300FC then (clgResetK.getD ((addr - 0x30080) / 4) 0) % 16
    else 0
  BitVec.ofNat 32 (base + extra)

end Sys2Proof.Machine
end

