-- ==== Sys2Proof/Machine/State.lean ====
section
/-! DEFINITION. The state of the block as plain data, block by block, and the state after a cold reset. Every field's
line cites the rule that gives it and its reset value. Registers stand in one map of words; what a register
table shows of richer state is computed from that state where the register is read. -/

namespace Sys2Proof.Machine

/-! ### Common pieces -/

/-- The chip states of R499. -/
inductive Chip where
  | off | bedrock | waking | restoring | opened | save | parked | hold
  deriving DecidableEq, Repr

/-- The code of a chip state (R499). -/
def Chip.code : Chip → Nat
  | .off => 0 | .bedrock => 1 | .waking => 2 | .restoring => 3 | .opened => 4 | .save => 5 | .parked => 6 | .hold => 7

/-- The margin states of R139, in order of severity. -/
inductive Margin where
  | pearl | amber | vermilion | sable
  deriving DecidableEq, Repr

/-- The code of a margin state (LGR_STATUS.MARGIN). -/
def Margin.code : Margin → Nat
  | .pearl => 0 | .amber => 1 | .vermilion => 2 | .sable => 3

/-- What is burnt into the die: fuses of the part and of its provisioning. -/
structure Fuse where
  /-- silicon stepping, BED_ID.STEP, 8 bits (R589; reset: the spec gives no value, 0) -/
  step : Nat
  /-- serial number, 60 bits (R589, R318; reset: the spec gives no value, 0) -/
  serial : Nat
  /-- blown bits of the 64-bit rollback fuse field, 0 to 64 (R75, R581; reset: the spec gives no value, 0) -/
  blown : Nat
  /-- the fused provisioning key, 256 bits (R75; reset: the spec gives no value, 0) -/
  provKey : BitVec 256
  /-- the fused device key under which the key store is wrapped, 256 bits (R418; reset: the spec gives no value, 0) -/
  devKey : BitVec 256
  deriving DecidableEq, Repr

/-! ### Register map (chapter 22) -/

/-- BED state that no register shows. -/
structure BedSt where
  /-- feature words stored for each face since the cold reset, BED_FNEG.COUNT, 16 bits, wraps (R589, R591; reset 0) -/
  fneg : SMap Nat
  /-- the chip is to be reset in this hub clock: 0 no, 1 by a warm chip reset, 2 because the hub base powers up (R6, R500,
  R566; reset 0) -/
  chipReset : Nat
  deriving DecidableEq, Repr

/-- No feature word stored. -/
def BedSt.reset : BedSt := ⟨[], 0⟩

/-! ### Survey loader (chapter 03) -/

/-- The Survey loader and the running image. -/
structure SvySt where
  /-- words of the running image's section bodies, keyed type * 2^20 + byte offset; absent words read 0 (R61, R84;
  reset: no image). While the hub is unpowered this is the Bedrock shadow (R17). -/
  run : SMap Word
  /-- section types present in the running image (R61; reset: none) -/
  has : List Nat
  /-- a Survey image has loaded since the last chip reset: RWL fields are locked (R7, R77; reset 0) -/
  loaded : Bool
  /-- the Bedrock shadow is valid, SEQ_STRAP.SHADOW (R17; reset 0) -/
  shadow : Bool
  /-- the 512 KiB staging buffer, words by byte offset (R78; reset: empty) -/
  staging : SMap Word
  /-- the four Boot band instances (A on N00, A on N36, B on N00, B on N36), words keyed instance * 2^20 + byte
  offset; an erased or never written word reads 0 (R74; NAND contents: empty) -/
  inst : SMap Word
  /-- the command that runs is a LIVE_LOAD (R81; reset 0) -/
  live : Bool
  /-- the command that runs: 1 VERIFY, 2 INSTALL, 3 LIVE_LOAD; 0 none (R78, R80; reset 0) -/
  cmd : Nat
  /-- the staged image as the running command took it: what it verifies is what it installs (R81, R83; reset: none) -/
  taken : SMap Word
  /-- the mailbox place that waits for a VERIFY, plus 1; 0 for none (R346; reset 0) -/
  face : Nat
  /-- the pair digest of the running image (R435; reset 0) -/
  pairDig : BitVec 128
  deriving DecidableEq, Repr

/-- No image, nothing staged. -/
def SvySt.reset : SvySt := ⟨[], [], false, false, [], [], false, 0, [], 0, 0⟩

/-! ### Slab State Array and location map (chapter 04) -/

/-- One 96-bit slab entry: dirty mask and slab word (R93, R94). -/
structure SlabE where
  mask : BitVec 64
  word : Word
  deriving DecidableEq, Repr

/-- An entry of the in-flight haul table (R104, R125). -/
structure Haul where
  /-- sett index, 28 bits -/
  sett : Nat
  /-- rewritten bit REWR (R105) -/
  rewr : Bool
  /-- destination: the Sump band instead of the Stockpile -/
  sump : Bool
  /-- key slot under which the pages are encrypted -/
  key : Nat
  /-- 0 DRAM read, 1 cipher, 2 NAND program, 3 map update -/
  stage : Nat
  /-- tick of insertion, for AGE -/
  since : Nat
  /-- location entry the haul writes, 0 before stage 3 (R108) -/
  newloc : Nat
  /-- the sett's bytes as the DRAM read found them, by offset in the sett (R183) -/
  data : SMap Byte
  /-- the sett's poisoned lines as the DRAM read found them (R31) -/
  poison : BitVec 1024
  /-- pages of the sett that the cipher has finished, 0 to 4 (R185) -/
  pages : Nat
  /-- tick at which the sett's pages were ready and it began to wait for a partner (R184) -/
  ready : Nat
  /-- epoch and counter of each page that the cipher has finished, and the key's value at their encryption (R185, R422) -/
  ivs : List (Nat × Nat)
  keyVal : BitVec 256
  /-- the haul belongs to a CHECKPOINT job (R366) -/
  ckpt : Bool
  /-- number of the stripe that carries its pages, plus 1; 0 before stage 2 (R184, R189) -/
  stripe : Nat
  deriving DecidableEq, Repr

/-- The slab table, the in-flight haul table, and the location maps of the carve-outs. -/
structure SlbSt where
  /-- slab entries that differ from their base entry, by slab index (R93; reset: none) -/
  slabs : SMap SlabE
  /-- the hub base has power and every bank has cleared its entries to zero with OWNER 0b111 (R121; reset 0) -/
  ready : Bool
  /-- the Survey load has set OWNER of every slab (R70, R90; reset 0) -/
  owned : Bool
  /-- RSTATE of the host-visible slabs that are not listed (R97, R258; reset 0) -/
  baseR : Nat
  /-- Dynamic Capacity grants: pool block to face, 7 unowned (R114, R323; reset: none) -/
  grants : SMap Nat
  /-- the in-flight haul table, at most 8,192 entries (R104; reset: empty) -/
  ift : List Haul
  /-- location map entries by sett index, an unlisted one reads Zero (R108, R110; reset: all Zero) -/
  lmap : SMap Word
  /-- the slab images that the last save left in the carve-outs (R92; reset: none) -/
  image : SMap SlabE
  deriving DecidableEq, Repr

/-- The array before the hub base has power. -/
def SlbSt.reset : SlbSt := ⟨[], false, false, 0, [], [], [], []⟩

/-! ### Energy ledger (chapter 05) -/

/-- What the ledger keeps of one pack beside LGR_PSTAT, LGR_PENG, LGR_PHLT and LGR_PTMP. -/
structure Pack where
  /-- E_base in joules, as the last gauge reading or update gave it (R128; reset 0) -/
  ebase : Nat
  /-- E_pack in joules as the last update gave it, 0 for a pack that is not counted (R132; reset 0) -/
  energy : Nat
  /-- gauge RemainingCapacity, FullChargeCapacity and DesignCapacity, 10 mWh units (R126; reset 0) -/
  rc : Nat
  fcc : Nat
  dc : Nat
  /-- DeviceChemistry as read at qualification: 1 LIC, 2 LION (R126, R133; reset 0) -/
  chem : Nat
  /-- last gauge Current in mA (R126; reset 0) -/
  ma : Int
  /-- last gauge Voltage in mV (R126, R133; reset 0) -/
  gaugeMv : Nat
  /-- gauge temperature in whole °C (R130; reset 0) -/
  temp : Int
  /-- energy debited since the last gauge reading, in products of an ADC voltage code and a current code above
  2,048, each worth 614,400 / 2^24 µJ (R127, R129; reset 0) -/
  debit : Nat
  /-- energy that left the pack since the save's trigger, same unit (R137; reset 0) -/
  saveDebit : Nat
  /-- consecutive scans at or above 1.0 V (R146; reset 0) -/
  hiScans : Nat
  /-- consecutive scans below 1.0 V (R133; reset 0) -/
  loScans : Nat
  /-- consecutive valid gauge readings while QUALIFYING (R146; reset 0) -/
  valid : Nat
  /-- the last scan's voltage and current codes (R131; reset: none) -/
  last : Option (Nat × Nat)
  /-- up to eight ESR samples, newest first, in 0.1 mΩ (R131; reset: none) -/
  esr : List Nat
  /-- tick of the last ESR sample (R131; reset 0) -/
  esrTick : Nat
  /-- tick of the last valid gauge reading (R133; reset 0) -/
  gaugeTick : Nat
  deriving DecidableEq, Repr

/-- An absent pack of which nothing is known. -/
def Pack.reset : Pack := ⟨0, 0, 0, 0, 0, 0, 0, 0, 0, 0, 0, 0, 0, 0, none, [], 0, 0⟩

/-- Ledger state that no register shows. -/
structure LgrSt where
  /-- PA (R126) -/
  packA : Pack
  /-- PB (R126) -/
  packB : Pack
  /-- consecutive cadence updates with N_E at least 2 while Sable (R139; reset 0) -/
  sableCnt : Nat
  /-- an extra update is due at the next tick (R143; reset 0) -/
  extra : Bool
  deriving DecidableEq, Repr

/-- No packs known. -/
def LgrSt.reset : LgrSt := ⟨Pack.reset, Pack.reset, 0, false⟩

/-! ### Admission and the scheduler (chapter 06) -/

/-- A job's write that waits in the Job engine's queue (R158): its sett and line. -/
structure Parked where
  sett : Nat
  line : Nat
  /-- the ring whose job writes it -/
  ring : Nat
  /-- index of the job's descriptor -/
  idx : Nat
  data : Line
  mask : BitVec 64
  poison : Bool
  /-- it waits for the twin's ORDER, not for admission (R409, R440) -/
  twin : Bool
  deriving DecidableEq, Repr

/-- ADM state that no register shows. Port fresh queues stand in the ports' write buffers. -/
structure AdmSt where
  /-- the requester last served, 0 to 7: H0 to H5, Gallery, Job engine (R156; reset 7) -/
  rr : Nat
  /-- the Job engine's queue, at most 64 (R158; reset: empty) -/
  jobq : List Parked
  /-- raw bytes of NAND programs charged today, all classes (R169; reset 0) -/
  wear : Nat
  /-- raw bytes charged to class 1 today (R169; reset 0) -/
  wearHaul : Nat
  /-- raw bytes charged today as the last refill saw them (R536 family 28; reset 0) -/
  wearMark : Nat
  /-- wear-budget day whose spend is counted (R170, R172; reset 0) -/
  day : Nat
  /-- tick of the last admission report to each face, plus 1; 0 for none (R161; reset: none) -/
  repTick : SMap Nat
  /-- faces with a margin change deferred by the one-second report interval (R161; reset: none) -/
  repDue : SMap Bool
  /-- code of the margin state that admission reports were last compared with (R161, R443; reset 3) -/
  repMargin : Nat
  deriving DecidableEq, Repr

/-- Empty queues, nothing spent. -/
def AdmSt.reset : AdmSt := ⟨7, [], 0, 0, 0, 0, [], [], 3⟩

/-! ### Core log records and aggregators (chapter 19) -/

/-- An entry of the event aggregator (R537). -/
structure TallyE where
  src : Nat
  count : Nat
  tick : Nat
  rank : Nat
  deriving DecidableEq, Repr

/-- The body of a Core log record (R534, R536, R537). -/
inductive LogBody where
  /-- forty 40-bit bins, MIN and MAX (none when no value was taken), K, LOG, BASE and STEP -/
  | hist (bins : List Nat) (min max : Option Int) (k log base step : Nat)
  /-- TOTAL, OTHERS and the entries, with the sources counted in OTHERS -/
  | event (total : Nat) (others : List Nat) (entries : List TallyE)
  /-- the eight words of EXTREMES; none where no value was seen -/
  | extremes (words : List (Option Int))
  /-- words of the registers that a RAIL, SAVE, BOOT, PACK or WEAR record copies -/
  | words (ws : List Nat)
  deriving DecidableEq, Repr

/-- A Core log record (R533). -/
structure LogRec where
  typ : Nat
  family : Nat
  merged : Bool
  seq : Nat
  hours : Nat
  secs : Nat
  chip : Nat
  span : Nat
  pcyc : Nat
  tick : Nat
  body : LogBody
  deriving DecidableEq, Repr

/-- A live aggregator or a staging copy of it: 0 to 31 family, 32 EVENT, 33 EXTREMES (R535, R541). -/
structure Agg where
  idx : Nat
  body : LogBody
  /-- operating second from which it covers time (R533 SPAN), and the span merged back into it (R539) -/
  since : Nat
  merged : Option Nat
  deriving DecidableEq, Repr

/-! ### Haul engine and save sequencer (chapter 07) -/

/-- A sett record in NAND, or a pad: what its four pages, their descriptors and stamps carry (R186, R187, R222). -/
structure Rec where
  /-- 1 HAUL, 2 OVERHANG, 3 SAVE, 7 PAD -/
  typ : Nat
  sett : Nat
  seq : Nat
  /-- key slot, and epoch and counter of each page (R185) -/
  key : Nat
  ivs : List (Nat × Nat)
  /-- PSEQ of its stripe (R222) -/
  pseq : Nat
  /-- the key value the pages were encrypted under: they decrypt while the slot holds it (R425, R428) -/
  keyVal : BitVec 256
  /-- plain bytes by offset in the sett, and poisoned lines -/
  data : SMap Byte
  poison : BitVec 1024
  deriving DecidableEq, Repr

/-- A stripe on its way to NAND: one or two setts, or pads (R184, R188). -/
structure Stripe where
  /-- number of the stripe, in order of forming -/
  id : Nat
  /-- pSLC stripe of the Sump band instead of a TLC stripe of the Stockpile -/
  sump : Bool
  group : Nat
  /-- stripe number within the group's Stockpile, or record number of its first half within the Sump band (R108) -/
  num : Nat
  /-- sett of the first half, and of the second; none for a pad -/
  a : Option Nat
  b : Option Nat
  /-- task class that issued it (R163, R169) -/
  cls : Nat
  /-- what it carries: 0 hauls, 1 rework, 2 fold, 3 rewrap, 4 pads only, or a move that a fence has stopped (R253) -/
  kind : Nat
  /-- for a move, the location entries it replaces (R107) -/
  oldA : Word
  oldB : Word
  /-- the records that its pages carry (R186) -/
  recA : Option Rec
  recB : Option Rec
  deriving DecidableEq, Repr

/-- An anchor page on N00 and N36 (R196). -/
structure Anchor where
  seq : Nat
  /-- 1 OPEN, 2 START, 3 META_DONE -/
  phase : Nat
  trig : Nat
  tick : Nat
  /-- first Sump record number this save may write, per group -/
  sumpStart : List Nat
  /-- faces Volatile at the fence -/
  vol : Nat
  /-- the copies on N00 and on N36 have reported program success -/
  ok0 : Bool
  ok36 : Bool
  /-- epoch and counter of the IV under the device metadata key, and that key's value (R185, R196) -/
  iv : Nat × Nat
  keyVal : BitVec 256
  /-- page of the anchor area, counted from its first block's first (R196, R216) -/
  page : Nat
  /-- its other copy reads ERASED: that one was never programmed, or its block has been erased since (R221, R261) -/
  blank : Bool := false
  deriving DecidableEq, Repr

/-- Haul engine state that no register shows. -/
structure HaulSt where
  /-- per bank, the slab its selector sweep continues from (R180; reset 0) -/
  ptr : SMap Nat
  /-- per bank, entries its sweep covered in this period (R179; reset 0) -/
  cover : SMap Nat
  /-- bank whose turn is next (R180; reset 0) -/
  bank : Nat
  /-- setts started in this period (R179; reset 0) -/
  started : Nat
  /-- hauls finished in this period (R178; reset 0) -/
  done : Nat
  /-- a selection of this period found no eligible sett of class L or below (R179; reset 0) -/
  short : Bool
  /-- some bank's sweep reached half of its entries before the quota filled (R179; reset 0) -/
  half : Bool
  /-- setts waiting for a partner, Stockpile and Sump, in selection order (R184; reset: none) -/
  waitStk : List Nat
  waitSump : List Nat
  /-- the next group to take a stripe (R184; reset 0) -/
  group : Nat
  /-- stripes formed and not ended (reset: none) -/
  stripes : List Stripe
  /-- number of the next stripe (reset 0) -/
  nextStripe : Nat
  /-- PFW_N is asserted, and since which tick (R182, R485; reset 0) -/
  pfw : Bool
  pfwTick : Nat
  deriving DecidableEq, Repr

/-- Nothing selected. -/
def HaulSt.reset : HaulSt := ⟨[], [], 0, 0, 0, false, false, [], [], 0, [], 0, false, 0⟩

/-- A ring's context (R376, R390). An unlisted ring is DISABLED. -/
structure Ring where
  /-- 0 DISABLED, 1 ENABLED, 2 DRAINING, 3 HALTED -/
  st : Nat
  /-- 0 none, 1 OVERRUN, 2 SQ_POISON, 3 CQ_RANGE, 4 FENCE, 5 CONTEXT -/
  err : Nat
  log2 : Nat
  vector : Nat
  imod : Nat
  /-- the four 16-bit indices; SQ_TAIL and CQ_HEAD are the doorbell latches (R355, R356) -/
  sqHead : Nat
  sqTail : Nat
  cqTail : Nat
  cqHead : Nat
  sqBase : Nat
  cqBase : Nat
  /-- completions written, and errors (R384) -/
  done : Nat
  errors : Nat
  /-- bit of the pending map (R377) -/
  pend : Bool
  /-- a merged interrupt waits for the IMOD interval to end, and an interval runs (R386) -/
  irqDue : Bool
  irqRun : Bool
  deriving DecidableEq, Repr

/-- A DISABLED ring. -/
def Ring.fresh : Ring := ⟨0, 0, 0, 0, 0, 0, 0, 0, 0, 0, 0, 0, 0, false, false, false⟩

/-- The ring contexts as step 2 of a save writes them into the carve-outs, doorbell latches included (R376, R378). -/
structure RingCopy where
  /-- contexts by ring number, and whether unlisted ones read ERR CONTEXT (R381) -/
  rings : SMap Ring
  lost : Bool
  /-- what their words show beside: the owner of each block of 1,024 rings, jobs running, contexts in the cache (R390) -/
  owners : List Nat
  running : SMap Nat
  cached : List Nat
  deriving DecidableEq, Repr

/-- No ring configured. -/
def RingCopy.reset : RingCopy := ⟨[], false, [], [], []⟩

/-- Save sequencer state that no register shows. -/
structure SaveSt where
  /-- the save was started by SAVE_OFF, not SAVE_PARK (R203; reset 0) -/
  off : Bool
  /-- the save is the short save of R191 (reset 0) -/
  short : Bool
  /-- tick count at the trigger and when the walk ended (R197; reset 0) -/
  trigTick : Nat
  walkTick : Nat
  /-- the walk has ended (R194; reset 0) -/
  walked : Bool
  /-- a save-critical rail failed: a latched shutdown follows step 8 (R200; reset 0) -/
  railCut : Bool
  /-- input power has returned during the save (R201; reset 0) -/
  powerBack : Bool
  /-- faces that were Volatile at the fence (R194; reset 0) -/
  vol : Nat
  /-- per group, the first Sump record this save may write (R196; reset: none) -/
  sumpStart : List Nat
  /-- per group, first and last SAVE record number plus 1, 0 for none (R197; reset: none) -/
  first : SMap Nat
  last : SMap Nat
  /-- per group, the first CARVE record number (R197; reset: none) -/
  carve : List Nat
  /-- PAD records written by the walk (R197; reset 0) -/
  pads : Nat
  /-- Dirty setts per face as latched at step 2 (R197; reset: none) -/
  fdirty : List Nat
  /-- the anchor being programmed, with its copies' success so far (R196; reset: none) -/
  anchor : Option Anchor
  /-- number of the open session; a save takes it as its save number (R196; reset 0) -/
  session : Nat
  /-- an OPEN anchor being programmed opens this set of faces when written (R196, R276; reset: none) -/
  openAfter : Nat
  /-- the save's benches step down: the ledger's figures wait for B0 (R137; reset 0) -/
  down : Bool
  /-- the energy that had left the packs when step 8 ended, in the packs' unit (R137; reset: none) -/
  spent : Option Nat
  /-- lodes of the Sump band that hold records of this save, group and lode (R276; reset: none) -/
  lodes : List (Nat × Nat)
  /-- Core log aggregators as step 3 wrote them, and staging with the numbers of its records (R535, R540; reset: none) -/
  aggs : List Agg
  staging : List Agg
  numbers : List Nat
  /-- ring contexts as step 2 wrote them (R378; reset: none) -/
  ctx : RingCopy
  deriving DecidableEq, Repr

/-- No save has run. -/
def SaveSt.reset : SaveSt :=
  ⟨false, false, 0, 0, false, false, false, 0, [], [], [], [], 0, [], none, 0, 0, false, none, [], [], [], [], RingCopy.reset⟩

/-! ### NAND channels and the Stockpile (chapter 08) -/

/-- A lode of a stripe group (R210, R225): its `units` are the blocks of one plane and target, one on each channel. -/
structure Lode where
  /-- 0 FREE, 1 OPEN, 2 SEALED, 3 RECLAIM, 4 ERASING -/
  st : Nat
  /-- stripes written since its last erase -/
  used : Nat
  /-- erases of the lode's blocks (R226) -/
  erases : Nat
  /-- PSEQ and tick of its first stripe since the last erase (R230) -/
  pseq : Nat
  tick : Nat
  /-- sealed early by a program failure, or touching a retired die (R245 kind 1) -/
  early : Bool
  /-- flagged for refresh (R247) -/
  refresh : Bool
  /-- of each unit that has taken a stripe, in order of unit: PSEQ of the first one, and the tick plus 1 of its program, 0 before (R211,
  R230) -/
  units : List (Nat × Nat)
  deriving DecidableEq, Repr

/-- A FREE lode never used. -/
def Lode.fresh : Lode := ⟨0, 0, 0, 0, 0, false, false, []⟩

/-- What one block's BIT entry holds beyond what its lode gives (R224, R230). -/
structure Blk where
  /-- 0: as its lode and band give; else 1 + the state code of R230; 1, ERASED, in a lode that is not FREE -/
  st : Nat
  cause : Nat
  /-- erases beyond those of its lode -/
  erases : Nat
  /-- page reads since the first program -/
  reads : Nat
  /-- read-level offsets V1 to V7, then S -/
  lv : List Int
  cwmax : Nat
  retries : Nat
  /-- slot this block replaces plus 1, 0 for none, and the lode of that slot -/
  slot : Nat
  slotLode : Nat
  /-- erases of that lode when the block took the slot -/
  slotBase : Nat
  /-- last programmed as pSLC, and PSEQ and tick of its first stripe, as they stood when the block left its lode's course or was
  erased (R230) -/
  pslc : Bool
  pseq : Nat
  tick : Nat
  deriving DecidableEq, Repr

/-- A block of which nothing beyond its lode is recorded. -/
def Blk.fresh : Blk := ⟨0, 0, 0, 0, [0, 0, 0, 0, 0, 0, 0, 0], 0, 0, 0, 0, 0, false, 0, 0⟩

/-- An erase that is journalled or to be journalled (R226, R227). -/
structure Intent where
  /-- a whole lode of `group`, or one block of `channel` and `target` -/
  lode : Bool
  group : Nat
  channel : Nat
  target : Nat
  num : Nat
  /-- 0 its INTENT record waits, 1 the erases are issued, 2 its DONE record waits -/
  st : Nat
  deriving DecidableEq, Repr

/-- A record of the intent journal (R227). -/
structure JRec where
  typ : Nat
  group : Nat
  channel : Nat
  target : Nat
  num : Nat
  slot : Nat
  erases : Nat
  jseq : Nat
  deriving DecidableEq, Repr

/-- A page of the intent journal: its place in the area, its sequence number and its records (R216, R226). -/
structure JPage where
  page : Nat
  jseq : Nat
  recs : List JRec
  deriving DecidableEq, Repr

/-- An erase running on a die, for suspension (R241). -/
structure DieErase where
  busy : Bool
  suspended : Bool
  /-- suspends of this erase so far -/
  count : Nat
  /-- tick of the last resume, plus 1; 0 before the first -/
  resumed : Nat
  /-- reads that wait for the die, in order of arrival, each with whether it is patrol's -/
  queued : List (NandRead × Bool)
  deriving DecidableEq, Repr

/-- No erase runs on the die. -/
def DieErase.idle : DieErase := ⟨false, false, 0, 0, []⟩

/-- The Stockpile manager and the NAND itself. -/
structure StkSt where
  /-- sett records by location entry value (R108); none listed: nothing readable there (NAND contents: none) -/
  recs : SMap (Option Rec)
  /-- lodes by group * 8,192 + lode number; an unlisted lode is FREE and never used (R225) -/
  lodes : SMap Lode
  /-- block entries by (channel * 8 + target) * 32,768 + die block (R230) -/
  blks : SMap Blk
  /-- remaps: (group * 8,192 + lode) * 1,024 + slot, to target * 32,768 + spare die block + 1 (R227) -/
  remaps : SMap Nat
  /-- fallow lodes broken up, per group (R215; reset 0) -/
  broken : SMap Nat
  /-- program sequence number per group (R222; NAND contents: 0) -/
  pseq : SMap Nat
  /-- next Sump record to write, per group, STK_GRPB.SUMP_HEAD (R219; NAND contents: 0) -/
  head : SMap Nat
  /-- the open Stockpile lode per group plus 1, 0 for none (R249; reset: none) -/
  openLode : SMap Nat
  /-- tick since which a wordline of a lode waits for stripes, plus 1, by group * 8,192 + lode (R213; reset 0) -/
  wlWait : SMap Nat
  /-- intents in progress (R226; reset: none) -/
  intents : List Intent
  /-- journal records waiting to be written (R226; reset: none) -/
  jpend : List JRec
  /-- journal pages on NAND, newest first (R226, R227; NAND contents: none) -/
  jrnl : List JPage
  /-- journal sequence number (R226; NAND contents: 0) -/
  jseq : Nat
  /-- the next journal page, counted from the area's first block's first (R216, R255; NAND contents: 0) -/
  jpage : Nat
  /-- journal sequence number that the block information table last saved is raised to (R217, R229; NAND contents: 0) -/
  jsaved : Nat
  /-- erases running, by channel * 8 + target (R241; reset: none) -/
  dies : SMap DieErase
  /-- consecutive unanswered operations, by channel * 8 + target (R251; reset 0) -/
  silent : SMap Nat
  /-- accumulators of the eight most recently read blocks per channel, by channel: block key and a(V1..V7, S)
  (R238; reset: none) -/
  accs : SMap (List (Nat × List Int))
  /-- interface timing in force per channel: NCH_IFCFG as last applied (R236; reset 0) -/
  applied : SMap Word
  /-- a fold and a rework is running (R255; reset 0) -/
  folding : Bool
  reworking : Bool
  /-- groups DEGRADED since the last chip reset (R252; reset 0) -/
  degraded : Nat
  /-- Boot band blocks that have failed, as copy * 64 + block; copy 0 on N00, 1 on N36 (R217; NAND contents: none) -/
  bootBad : List Nat
  /-- boot spares in use: copy * 64 + block of an area, to the spare's block number (R217; NAND contents: none) -/
  bootMap : SMap Nat
  /-- the health area's block that takes pages now, 0 or 1 (R216, R425; NAND contents: 0) -/
  hblock : Nat
  /-- Core log pages programmed, as places in the area, and the blocks of the first area once it is frozen, 0 before (R216, R531, R532;
  NAND contents: 0) -/
  lpage : Nat
  lfix : Nat
  /-- anchors on NAND, newest first (R196; NAND contents: none) -/
  anchors : List Anchor
  /-- the next page of the anchor area (R196, R216; NAND contents: 0) -/
  apage : Nat
  /-- patrol: the period it is in, blocks read in it, and its reads that are on their way, as channel, target, block (R247, R248;
  reset: none) -/
  patrolWin : Nat
  patrolled : List Nat
  patrolRead : List (Nat × Nat × Nat)
  deriving DecidableEq, Repr

/-- NAND that holds nothing. -/
def StkSt.reset : StkSt :=
  ⟨[], [], [], [], [], [], [], [], [], [], [], [], 0, 0, 0, [], [], [], [], false, false, 0, [], [], 0, 0, 0, [], 0, 0, [], []⟩

/-! ### Restore (chapter 09) -/

/-- An entry of the fetch table (R267, R268). -/
structure Fetch where
  slab : Nat
  /-- 0 background fill, 1 demand, 2 prefetch job -/
  why : Nat
  /-- the sett a host waits for, written first -/
  want : Nat
  /-- setts already written -/
  done : BitVec 64
  deriving DecidableEq, Repr

/-- Restore state that no register shows. -/
structure ResSt where
  /-- the fetch table, at most 1,024 entries (R267; reset: empty) -/
  fetch : List Fetch
  /-- the demand queue: port and sett index in arrival order; port 6 is the Gallery, 7 the Job engine (R270; reset: empty) -/
  demand : List (Nat × Nat)
  /-- the port served last from the demand queue (R270; reset 7) -/
  lastPort : Nat
  /-- slabs queued by PREFETCH_RESTORE jobs (R274, R370; reset: empty) -/
  prefetch : List Nat
  /-- per bank, the slab background fill looks at next, and the bank whose turn it is (R274; reset 0) -/
  bgPtr : SMap Nat
  bgBank : Nat
  /-- step 5 of the rebuild has ended: OPEN is accepted (R258; reset 0) -/
  rebuilt : Bool
  /-- step 6 of the rebuild has set RSTATE (R258, R267; reset 0) -/
  filling : Bool
  /-- tick of the power return or reset that led to this restore (R257, R278; reset 0) -/
  trigTick : Nat
  /-- faces whose dirty shutdown count has incremented in this restore (R39; reset 0) -/
  counted : Nat
  /-- faces with a Memory Module record to post before they open (R41; reset 0) -/
  memRec : Nat
  /-- tick of the last restore-hold record to each face, plus 1 (R271; reset: none) -/
  holdRec : SMap Nat
  /-- setts made Lost by the merge or the scan that step 5 has not reported yet (R37, R54; reset: none) -/
  newLost : List Nat
  /-- DRAM and NAND are trained in this Waking (R257; reset 0) -/
  trained : Bool
  /-- no media key could be recovered at this boot (R419; reset 0) -/
  noKeys : Bool
  /-- the OPEN anchor of this restore or warm resume has been formed (R196, R276; reset 0) -/
  anchored : Bool
  /-- tick at which the scan of R262 ends; 0 while none runs (reset 0) -/
  scanTick : Nat
  deriving DecidableEq, Repr

/-- No restore runs. -/
def ResSt.reset : ResSt := ⟨[], [], 7, [], [], 0, false, false, 0, 0, 0, [], [], false, false, false, 0⟩

/-! ### DRAM channels (chapter 10) -/

/-- One DRAM bank of one die: its open row and its page predictor (R285, R286). -/
structure Bank where
  /-- the open row plus 1, 0 when closed -/
  row : Nat
  /-- the row of the last request plus 1, 0 before the first -/
  lastRow : Nat
  /-- the four-bit history -/
  hist : Nat
  /-- the sixteen two-bit counters, P[0] first -/
  p : List Nat
  deriving DecidableEq, Repr

/-- A bank when its island powers up. -/
def Bank.fresh : Bank := ⟨0, 0, 0, [0, 0, 0, 0, 0, 0, 0, 0, 0, 0, 0, 0, 0, 0, 0, 0]⟩

/-- A repair that holds a line of a Clean sett, or of a partial write's sett (R300, R302). -/
structure Repair where
  sett : Nat
  line : Nat
  /-- location entry it reads -/
  entry : Word
  /-- the fresh flag of R298 -/
  fresh : Bool
  /-- the page could not be read and the twin was asked for the line (R300) -/
  twin : Bool
  /-- devices found in error, so that a hard fault shows again at the read-back (R301) -/
  devs : Nat
  /-- its demand read has been queued for the die (R241, R300 step 2) -/
  asked : Bool
  /-- transaction type of the access that found the line (R330) -/
  who : Nat
  deriving DecidableEq, Repr

/-- The migration or retirement that is running; there is at most one in the part (R305). -/
structure Mig where
  chan : Nat
  rank : Nat
  dstChan : Nat
  dstRank : Nat
  /-- home rank of displaced carve-out slabs: channel and k (R306) -/
  homeChan : Nat
  homeRank : Nat
  /-- a retirement instead of a migration -/
  retire : Bool
  /-- setts copied in this period (R306) -/
  quota : Nat
  /-- a save has fenced: the copy waits (R308) -/
  paused : Bool
  deriving DecidableEq, Repr

/-- A retrain that runs: the rank, the taps that the last completed retrain left, and the smallest margin so far (R294 to R296). -/
structure EqRun where
  chan : Nat
  rank : Nat
  taps : SMap Int
  margin : Nat
  deriving DecidableEq, Repr

/-- DRAM contents and channel-engine state that no register shows. -/
structure DchSt where
  /-- DRAM bytes by slab index * 4 MiB + offset; an unlisted byte reads 0 (R87; DESIGN CHOICE: no reset value) -/
  mem : List Host.Cell
  /-- lines holding the poison pattern, by sett index (R284) -/
  poison : SMap (BitVec 1024)
  /-- banks by ((channel * 4 + k) * 16 + chip ID) * 32 + bank group * 4 + bank (R285) -/
  banks : SMap Bank
  /-- repairs holding lines, oldest first (R300; reset: none) -/
  repairs : List Repair
  /-- lines whose read-back failed after a repair: sett * 1,024 + line (R301; reset: none) -/
  hard : SMap Bool
  /-- corrections per device in this window, by (channel * 4 + k) * 16 + device (R303; reset 0) -/
  devCe : SMap Nat
  /-- corrections per device since the rank's last retrain, same key (R294; reset 0) -/
  eqCe : SMap Nat
  /-- tick of the rank's last retrain, by channel * 4 + k (R294; reset 0) -/
  eqTick : SMap Nat
  /-- the rank's temperature at its last retrain, 0.25 °C, same key; none since boot (R294; reset: none) -/
  eqTemp : SMap (Option Int)
  /-- readings of the sensors of TW3, then TW4, when the ranks were trained at boot (R294; reset: none) -/
  bootTemps : List Int
  /-- DFE taps of each device, by ((channel * 4 + k) * 16 + device) * 4 + tap (R295; reset 0) -/
  taps : SMap Int
  /-- consecutive uncorrectable reads per rank, by channel * 4 + k (R310; reset 0) -/
  ueRun : SMap Nat
  /-- refreshes postponed and pulled in per rank, same key (R289; reset 0) -/
  late : SMap Nat
  early : SMap Nat
  /-- the bank whose refresh is next per rank with REFsb, same key (R288; reset 0) -/
  refBank : SMap Nat
  /-- lines corrected in this ledger period, all channels (R536 family 21; reset 0) -/
  periodCe : Nat
  /-- index of the DRAM counting window (R303; reset 0) -/
  win : Nat
  /-- the limits in force in that window: WINDOW, CE_RANK, CE_DEV, UE_RANK and DEAD_RUN (R82, R303; reset: the defaults
  of R303) -/
  limits : List Nat
  /-- the running migration or retirement (R305; reset: none) -/
  mig : Option Mig
  /-- NV rank map in the health area, by channel * 4 + k: rank state code plus 1, serving channel, serving k; 0 for
  nothing recorded (R309; NAND contents: empty) -/
  rankMap : SMap Nat
  /-- NV homes of displaced carve-out slabs, by channel * 16 + n: slab index plus 1 (R309; NAND contents: empty) -/
  crdMap : SMap Nat
  /-- DCH_PRED, DCH_REF, DCH_SR, DCH_EQ, DCH_EQ2 and DCH_SCRUB as they are in force, by address; unlisted: the reset value (R313;
  reset: the reset values) -/
  inForce : SMap Word
  /-- channels one of whose writes waits for the next refresh interval (R313; reset: none) -/
  cfgNew : List Nat
  /-- tick after the last request, by channel (R290; reset 0) -/
  lastReq : SMap Nat
  /-- the limit of one activate per bank every 1 µs is on, by channel (R288; reset 0) -/
  actLimit : SMap Bool
  /-- the rank is in self-refresh for good, by channel * 4 + k (R306, R311; reset 0) -/
  rankSr : SMap Bool
  /-- retrains that run (R294 to R296; reset: none) -/
  eqRun : List EqRun
  /-- tick at which the running scrub pass began, by channel (R297; reset 0) -/
  scrubTick : SMap Nat
  /-- counts of the window before, by (channel * 4 + k) * 16 + device, 14 for the rank's corrections and 15 for its uncorrectable
  lines (R303, R513; reset 0) -/
  prev : SMap Nat
  /-- lines corrected since the cold reset, by channel * 4 + k, which do not wrap (R333; reset 0) -/
  ceTotal : SMap Nat
  deriving DecidableEq, Repr

/-- DRAM that holds nothing. -/
def DchSt.reset : DchSt :=
  ⟨[], [], [], [], [], [], [], [], [], [], [], [], [], [], [], 0, 0, [3600, 4096, 256, 16, 64], none, [], [], [], [], [], [], [], [], [], [], []⟩

/-! ### Host ports and faces (chapter 11) -/

/-- Where an access of a port stands (R155, R157, R272, R299, R403, R440). -/
inductive Wait where
  /-- a write that has been looked up, and drains to DRAM (R21) -/
  | admitted
  /-- parked in the port's fresh queue (R154) -/
  | parked
  /-- waits in the write buffer to enter the full fresh queue (R157) -/
  | queueFull
  /-- waits for its sett to be fetched (R270, R272) -/
  | fetch
  /-- held by JOBL (R403) -/
  | held
  /-- waits for a repair that holds the line (R299) -/
  | repair
  /-- held for the twin's ORDER (R440) -/
  | twin
  /-- its data is in DRAM, and its completion waits for the twin's acceptance (R440) -/
  | drained
  deriving DecidableEq, Repr

/-- A write in a port's write buffer (R21, R316). -/
structure WEnt where
  tag : Nat
  dpa : Nat
  sett : Nat
  line : Nat
  data : Line
  /-- bytes enabled; all ones for a full line (R25) -/
  mask : BitVec 64
  /-- the write carries poison (R31) -/
  poison : Bool
  wait : Wait
  /-- the completion has been sent -/
  done : Bool
  /-- its own admission made the sett Dirty: the fresh flag of R298 -/
  fresh : Bool
  /-- tick of arrival, or of the wait -/
  since : Nat
  /-- Gallery sequence number that the write is mirrored under, plus 1 (R440) -/
  seq : Nat
  /-- devices that the line's read finds in error when a partial write is merged (R283, R298) -/
  devs : Nat
  /-- its place among the port's accesses in arrival order (R299) -/
  arr : Nat := 0
  deriving DecidableEq, Repr

/-- A read that waits (R155, R270, R299). -/
structure REnt where
  tag : Nat
  dpa : Nat
  sett : Nat
  line : Nat
  wait : Wait
  since : Nat
  /-- its place among the port's accesses in arrival order (R299) -/
  arr : Nat
  deriving DecidableEq, Repr

/-- What an event record says (R330, R331). -/
inductive EvBody where
  | generalMedia (dpa tx : Nat)
  | dramRank (chan rank : Nat)
  | dirtyShutdown (count : Nat)
  | health (sable : Bool)
  | lifeUsed (percent : Nat)
  | dcAdd (block count : Nat)
  | dcRelease (block count : Nat)
  | vendor (kind margin dirty ceil aux tick : Nat)
  deriving DecidableEq, Repr

/-- A record of an event log. -/
structure EvRec where
  handle : Nat
  body : EvBody
  deriving DecidableEq, Repr

/-- One of a face's four event logs (R329). -/
structure EvLog where
  recs : List EvRec
  next : Nat
  overflow : Nat
  deriving DecidableEq, Repr

/-- An empty log. -/
def EvLog.reset : EvLog := ⟨[], 0, 0⟩

/-- A Dynamic Capacity extent of a face (R323). -/
structure Extent where
  /-- first face block, and the pool blocks behind it in order -/
  block : Nat
  pool : List Nat
  accepted : Bool
  /-- tick at which its Add Capacity record was posted -/
  since : Nat
  deriving DecidableEq, Repr

/-- A range record of a poison table (R335): first line number of the face, lines, and whether it was injected. -/
structure PoisonRec where
  line : Nat
  lines : Nat
  injected : Bool
  deriving DecidableEq, Repr

/-- A cryptographic erase of a face that runs (R332, R427). -/
structure Erase where
  /-- opcode of Secure Erase or Sanitize -/
  op : Nat
  /-- 1 the new key is to be generated, 2 its store program is awaited, 3 every sett is Zero -/
  step : Nat
  /-- it runs for the twin, which waits for CTRL DONE (R457) -/
  twin : Bool
  deriving DecidableEq, Repr

/-- A release of a face's blocks between its steps 2 and 3 (R324). -/
structure Release where
  block : Nat
  count : Nat
  /-- the pool blocks behind them -/
  pool : List Nat
  /-- asked for by the twin (R457) -/
  twin : Bool
  deriving DecidableEq, Repr

/-- A port and its face. The shown state stands in the HPT registers. -/
structure Port where
  /-- the write buffer in arrival order, at most 4,096 (R316; reset: empty) -/
  wbuf : List WEnt
  /-- reads that wait, in arrival order (R155, R270; reset: none) -/
  reads : List REnt
  /-- RwD credits are withheld for the full fresh queue (R157), and for writes that wait for fetches (R272; reset 0) -/
  creditQ : Bool
  creditF : Bool
  /-- the link is held in reset by PERST_N (R601; reset 0) -/
  perst : Bool
  /-- the SPDM session over DOE is set up (R325; reset 0) -/
  spdm : Bool
  /-- IDE keys are programmed (R325; reset 0) -/
  ideKeys : Bool
  /-- the HDM decoder is committed (R332; reset 0) -/
  hdm : Bool
  /-- the face was open at the fence and reopens at a warm resume (R275; reset 0) -/
  wasOpen : Bool
  /-- the four event logs: Informational, Warning, Failure, Fatal (R329; reset: empty) -/
  logs : List EvLog
  /-- event interrupt policy, one byte per log (R332; reset 0) -/
  evPolicy : List Nat
  /-- opcode of a background command, its percentage and return code; none when idle (R332; reset: none) -/
  bg : Option Nat
  bgLast : Nat
  bgRet : Nat
  /-- the last scan's results: first line and length of each poisoned run, and whether it covered the whole capacity
  (R332, R38; reset: none) -/
  scan : List (Nat × Nat)
  /-- first line and length of a Scan Media that waits for its range to be home (R332, R270; reset: none) -/
  scanWait : Option (Nat × Nat)
  /-- alert configuration: life used, over- and under-temperature thresholds (R332; reset 0) -/
  alert : List Nat
  /-- extents granted or pending, in order of face block (R323; reset: none) -/
  extents : List Extent
  /-- the poison table, at most 65,536 records (R37, R335; reset: empty) -/
  poison : List PoisonRec
  /-- Poison List Overflow flag and its timestamp (R38; reset 0) -/
  poisonOvf : Bool
  poisonOvfTick : Nat
  /-- tick of the last raise of the outside-capacity source, plus 1 (R321; reset 0) -/
  oorTick : Nat
  /-- setts made Lost in this restore, for KIND 7 records (R331; reset 0) -/
  lost : Nat
  /-- reads answered at the hold limit since the last RESTORE_HOLD record (R331; reset 0) -/
  holds : Nat
  /-- a Sanitize or Secure Erase that has not ended; the face stays closed if a save has interrupted it (R332, R427; reset:
  none) -/
  erasing : Option Erase
  /-- the last multiple of 10 % of life used that was reported (R330; reset 0) -/
  lifeSeen : Nat
  /-- accesses that have arrived (R299; reset 0) -/
  arrivals : Nat
  /-- a Phase 2 flush waits for admitted writes to reach DRAM (R33; reset 0) -/
  gpf : Bool
  /-- RwD credits that are held back (R157, R272, R316; reset 0) -/
  owed : Nat
  /-- IDE selective streams of CXL.io whose keys are programmed (R325; reset: none) -/
  ioStreams : List Nat
  /-- vendor status of the last background command (R336, R346; reset 0) -/
  bgVend : Nat
  /-- releases that run (R324; reset: none) -/
  rels : List Release
  deriving DecidableEq, Repr

/-- A port with nothing buffered, logged or granted. -/
def Port.reset : Port :=
  ⟨[], [], false, false, false, false, false, false, false, [EvLog.reset, EvLog.reset, EvLog.reset, EvLog.reset],
   [0, 0, 0, 0], none, 0, 0, [], none, [0, 0, 0], [], [], false, 0, 0, 0, 0, none, 0, 0, false, 0, [], 0, []⟩

/-- What the health area of the Boot band holds for a face (R334). -/
structure NvFace where
  /-- dirty shutdown count, 32 bits -/
  dirty : Nat
  /-- shutdown state last stored, 8 bits -/
  shutdown : Nat
  /-- negotiated feature word, 128 bits -/
  feat : BitVec 128
  /-- label storage area, bytes by offset -/
  lsa : SMap Byte
  deriving DecidableEq, Repr

/-- A health area item never written. -/
def NvFace.fresh : NvFace := ⟨0, 0, 0, []⟩

/-! ### Job rings (chapter 12) -/

/-- A job that has started and not completed (R360). -/
structure Job where
  ring : Nat
  idx : Nat
  op : Nat
  tag : Nat
  notify : Bool
  len : Nat
  src : Nat
  dst : Nat
  arg0 : Nat
  arg1 : Nat
  iv : BitVec 128
  /-- lines processed -/
  pos : Nat
  /-- poisoned lines, or setts the first pass found Dirty -/
  aux : Nat
  /-- passes done (R366); for other jobs, 64 KiB pieces paid for (R375) -/
  pass : Nat
  /-- a write of it is parked (R158) -/
  parked : Bool
  /-- chaining value of a TRANSFORM: the last cipher block, counter, or GCM hash state -/
  chain : BitVec 128
  hash : BitVec 128
  /-- Gallery sequence number of its last mirrored write, plus 1 (R409) -/
  seq : Nat
  /-- STATUS, DONE and AUX of a job that has ended and whose completion is not yet written (R372) -/
  fin : Option (Nat × Nat × Nat)
  /-- the slabs that a ZERO_FACE takes, in ascending face DPA, as the face owned them when it began (R371, R402) -/
  slabs : List Nat
  deriving DecidableEq, Repr

/-- A pin record, with the slabs that it has pinned and the face still owns (R367). -/
structure Pin where
  face : Nat
  src : Nat
  len : Nat
  slabs : List Nat
  deriving DecidableEq, Repr

/-- An ENABLE whose completion ring is still being written (R361, R383). -/
structure RingInit where
  ring : Nat
  face : Nat
  log2 : Nat
  vector : Nat
  imod : Nat
  sq : Nat
  cq : Nat
  /-- the line of the completion ring that comes next, and whether its write is parked (R354) -/
  pos : Nat
  parked : Bool
  deriving DecidableEq, Repr

/-- Job engine state that no register shows. -/
structure JobSt where
  /-- contexts by ring number (R376; reset: all DISABLED) -/
  rings : SMap Ring
  /-- rings whose contexts are cached, most recently used first, at most 8,192 (R377; reset: none) -/
  cache : List Nat
  /-- jobs that have started and not completed (reset: none) -/
  jobs : List Job
  /-- pin records, at most 4,096 (R367; reset: none) -/
  pins : List Pin
  /-- every unlisted context was reset by a restore: its ERR reads CONTEXT (R381; reset 0) -/
  lost : Bool
  /-- faces whose rings a fence has stopped: they halt when the face next opens (R380; reset: none) -/
  fenceDue : Nat
  /-- rings whose completion rings are being written before they are ENABLED (R361; reset: none) -/
  inits : List RingInit
  deriving DecidableEq, Repr

/-- No ring configured. -/
def JobSt.reset : JobSt := ⟨[], [], [], [], false, 0, []⟩

/-! ### Cipher and keys (chapter 14) -/

/-- A slot as the key store holds it (R418). -/
structure Stored where
  /-- 1 ACTIVE, 2 PARTNER -/
  st : Nat
  key : BitVec 256
  deriving DecidableEq, Repr

/-- A CIP command that waits for its key-store program (R421). -/
structure CipCmd where
  op : Nat
  slot : Nat
  key : BitVec 256
  /-- the mailbox face that waits for it, plus 1; 0 for the register command -/
  face : Nat
  deriving DecidableEq, Repr

/-- Cipher state that no register shows. -/
structure CipSt where
  /-- the key in each slot (R420; reset 0) -/
  keys : SMap (BitVec 256)
  /-- the transform key being written through CIP_KEYIN0-7 (R432; reset 0) -/
  keyin : SMap Word
  /-- the key store on NAND: slots stored (R418; NAND contents: none) -/
  store : SMap (Option Stored)
  /-- a copy of the key store verifies, on N00 or N36 (R419; NAND contents: no) -/
  storeOk : Bool
  /-- the epoch ceiling the store holds (R422; NAND contents: 0) -/
  ceiling : Nat
  /-- sequence number of the newest key-store page (R418; NAND contents: 0) -/
  storeSeq : Nat
  /-- the command that waits for its program (reset: none) -/
  cmd : Option CipCmd
  /-- slots whose purge from the key store is pending; it survives power loss (R425; NAND contents: none) -/
  purge : List Nat
  /-- those of them that the newest page still holds; they are in no slot after power loss (R425; NAND contents: none) -/
  stale : List Nat
  /-- faces whose erase is pending, recorded in the health area (R428; NAND contents: none) -/
  erasePend : Nat
  /-- those of them whose erase is a Sanitize (R332; NAND contents: none) -/
  eraseSan : Nat
  /-- faces whose rotation runs, by its place: 1 a key is to be generated, 2 being stored, 3 the switch is to be made, 4 being
  stored, 5 hauls under the old slot end, 6 rewrap; under 6 the rotation of the metadata pair, where 5 and 6 wait for two saves to be
  released and with 7 the former slot is zeroized (R404, R424; it outlasts a save, R429; reset: none) -/
  rotate : SMap Nat
  /-- window index plus 1 of each pair's last mismatch (R413; reset 0) -/
  misWin : SMap Nat
  /-- the pair the next page goes to (R414; reset 0) -/
  next : Nat
  /-- tests running: pairs whose CIP_CMD KAT result is awaited -/
  kat : SMap Bool
  deriving DecidableEq, Repr

/-- No keys. -/
def CipSt.reset : CipSt := ⟨[], [], [], false, 0, 0, none, [], [], 0, 0, [], [], 0, []⟩

/-! ### Twin pair (chapter 15) -/

/-- What an ordered message does at its receiver, kept while it is unacknowledged (R438, R441). -/
inductive GalMsg where
  /-- MIRROR of a line write (face, DPA, sett) -/
  | mirror (face dpa sett : Nat)
  /-- ORDER of the FWD with this tag -/
  | order (tag dpa sett : Nat)
  /-- a resilver chunk or whole-sett answer of a sett -/
  | rslv (sett : Nat)
  /-- SLAB_DONE of a slab -/
  | slabDone (slab : Nat)
  /-- LINE_DATA of a line -/
  | lineData (face dpa sett : Nat)
  /-- CTRL with its SUB and face -/
  | ctrl (sub face : Nat)
  deriving DecidableEq, Repr

/-- An ordered message of this sled's stream that the twin has not acknowledged (R441). -/
structure GalOut where
  seq : Nat
  msg : GalMsg
  deriving DecidableEq, Repr

/-- A write that waits at this sled for its lookup: one of the twin's stream, a FWD, or a line that the twin supplied (R441,
R442, R450). -/
structure GalIn where
  /-- stream SEQ, or for a FWD its tag -/
  seq : Nat
  /-- 0 MIRROR or LINE_DATA, 1 ORDER of a held write, 2 FWD, 3 line of a resilver chunk, 4 line of RECOVER_DATA, 5 a resilvered
  sett that is Zero, 6 one that is Lost -/
  kind : Nat
  face : Nat
  sett : Nat
  line : Nat
  data : Line
  mask : BitVec 64
  poison : Bool
  /-- for an ORDER, the port and tag of the held write; port 7 for a job's -/
  port : Nat
  wtag : Nat
  /-- for a partial write, the devices in error that its read finds (R298) -/
  devs : Nat := 0
  deriving DecidableEq, Repr

/-- A FWD that this sled sent: its tag, and the port and tag of the held write (R440). -/
structure GalFwd where
  tag : Nat
  port : Nat
  wtag : Nat
  deriving DecidableEq, Repr

/-- A RECOVER_REQ of this sled that waits (R450): for a sett, or for a line of it. -/
structure GalAsk where
  tag : Nat
  sett : Nat
  /-- line plus 1, 0 for a whole sett -/
  line : Nat
  /-- chunks of 1 KiB received -/
  got : Nat
  deriving DecidableEq, Repr

/-- A RECOVER_REQ of the twin that waits until its slab is home here (R450). -/
structure GalReq where
  tag : Nat
  sett : Nat
  /-- line plus 1, 0 for a whole sett -/
  line : Nat
  deriving DecidableEq, Repr

/-- An operation that waits for the twin's CTRL DONE (R457): its SUB, face and, for a mailbox return, its opcode. -/
structure GalCtl where
  sub : Nat
  face : Nat
  opcode : Nat
  /-- blocks or setts the reply needs -/
  args : List Nat
  deriving DecidableEq, Repr

/-- Gallery state that no register shows. MODE, SOLO, the links and the stream counters stand in the GAL registers. -/
structure GalSt where
  /-- pair epoch and join epoch, in the health area (R448; NAND contents: 0) -/
  epoch : BitVec 64
  joinEpoch : BitVec 64
  /-- the twin has sent FENCE before the links went down (R446; reset 0) -/
  peerFenced : Bool
  /-- ordered messages of this stream that the twin has not acknowledged, oldest first (R441; reset: none) -/
  sent : List GalOut
  /-- writes that wait here for their lookup, in order (R442; reset: none) -/
  held : List GalIn
  /-- FWDs whose ORDER has not arrived, oldest first (R440; reset: none) -/
  fwds : List GalFwd
  /-- tag of the next FWD, 16 bits (R438; reset 0) -/
  nextTag : Nat
  /-- the pending-line list: face and face DPA (R451; reset: none) -/
  lines : List (Nat × Nat)
  /-- the list the twin sends (R452; reset: none) -/
  peerLines : List (Nat × Nat)
  /-- the exchange of R452: 0 none, 1 lists and lines, 2 recovery of Lost setts (reset 0) -/
  joinStep : Nat
  /-- the twin's LINE_LIST, and its RSLV_LIST, are complete (R452, R453; reset 0) -/
  listGot : Bool
  rslvGot : Bool
  /-- lines whose LINE_DATA the twin is to send (R452; reset: none) -/
  lineWait : List (Nat × Nat)
  /-- requests to the twin that wait (R450; reset: none) -/
  asks : List GalAsk
  /-- tag of the next RECOVER_REQ (R450; reset 0) -/
  nextAsk : Nat
  /-- requests of the twin that wait here (R450; reset: none) -/
  reqs : List GalReq
  /-- operations that wait for CTRL DONE (R457; reset: none) -/
  ctls : List GalCtl
  /-- slab and sett the resilver reads next; slab 2^22 when none is left (R454; reset 0) -/
  rslvSlab : Nat
  rslvSett : Nat
  /-- setts sent in this period (R454; reset 0) -/
  rslvQuota : Nat
  /-- GAL_TAKEOVER has kept this sled's image against a DIVERGED twin's (R453; reset 0) -/
  kept : Bool
  /-- pair epoch that the twin last gave (R438; reset 0) -/
  peerEpoch : BitVec 64
  /-- ledger periods for which the Gallery queue has withheld credits (R461; reset 0) -/
  fullFor : Nat
  /-- per link, the number of the counting window plus 1 of its last replay, and the flits replayed in it (R461; reset: none) -/
  replays : SMap (Nat × Nat)
  /-- tick of the last valid flit per link (R445; reset 0) -/
  lastFlit : List Nat
  /-- tick of the last HEARTBEAT, plus 1; 0 for none (R460 GAL_PEER.AGE; reset 0) -/
  lastBeat : Nat
  /-- GRACE runs since this tick, plus 1; 0 for not running (R446; reset 0) -/
  graceAt : Nat
  /-- what the twin status word showed since the loss: 0 nothing read, 1 a state other than Open or Restoring,
  2 Open or Restoring, 3 no answer and twin absent, 4 no answer and twin present (R446; reset 0) -/
  seen : Nat
  /-- JOIN_WAIT runs since this tick, plus 1; 0 for not running (R452; reset 0) -/
  joinAt : Nat
  /-- HELLO exchanged on each link (R435; reset 0) -/
  hello : List Bool
  /-- step of a Twin Handover, 0 for none: 1 buffers drain, 2 the window empties, 3 the save runs (R456; reset 0) -/
  handover : Nat
  /-- faces whose ZERO_FACE runs here for the twin (R402, R457; reset: none) -/
  zeroing : List Nat
  deriving DecidableEq, Repr

/-- No twin known. -/
def GalSt.reset : GalSt where
  epoch := 0
  joinEpoch := 0
  peerFenced := false
  sent := []
  held := []
  fwds := []
  nextTag := 0
  lines := []
  peerLines := []
  joinStep := 0
  listGot := false
  rslvGot := false
  lineWait := []
  asks := []
  nextAsk := 0
  reqs := []
  ctls := []
  rslvSlab := 0
  rslvSett := 0
  rslvQuota := 0
  kept := false
  peerEpoch := 0
  fullFor := 0
  replays := []
  lastFlit := [0, 0]
  lastBeat := 0
  graceAt := 0
  seen := 0
  joinAt := 0
  hello := [false, false]
  handover := 0
  zeroing := []

/-! ### Sequencer (chapter 16) -/

/-- Where the step of a bench stands (R470, R471). -/
inductive SeqStep where
  /-- no bench is being stepped -/
  | idle
  /-- power-up: waiting for SEQ_UP before B1 (R473) -/
  | cascade
  /-- power-up: the bench's step may start (R470 step 1 has passed) -/
  | ready (bench : Nat)
  /-- power-up: the bench's rails are enabled, not all qualified (R470 steps 2 to 4); bench 0 stands for the boot rails
  of R469 -/
  | qualifying (bench : Nat)
  /-- power-up: the bench is up, BENCH_SYNC released and sampled low (R472) -/
  | syncing (bench : Nat)
  /-- power-up: DELAY runs (R470 step 7) -/
  | delaying (bench : Nat)
  /-- step-down: DN_WAIT of the first bench runs (R471 step 1) -/
  | dnWait (bench : Nat)
  /-- step-down: the bench's resets and rails are next (R471 steps 2 and 3) -/
  | down (bench : Nat)
  /-- step-down: rails that are not discharged (R471 step 4) -/
  | discharging (bench : Nat) (rails : List Nat)
  deriving DecidableEq, Repr

/-- Sequencer state that no register shows. -/
structure SeqSt where
  /-- the step in progress (R470, R471; reset: none) -/
  stage : SeqStep
  /-- rails in the order in which they were enabled (R471; reset: none) -/
  order : List Nat
  /-- per rail: consecutive good scans, and consecutive not-good scans (R475; reset 0) -/
  good : SMap Nat
  bad : SMap Nat
  /-- per rail: consecutive readings below and above the window (R474; reset 0) -/
  low : SMap Nat
  high : SMap Nat
  /-- per rail: glitches of the current and of the previous counting window (R475; reset 0) -/
  glitch : SMap Nat
  glitchPrev : SMap Nat
  /-- index of the glitch window (R475; reset 0) -/
  glitchWin : Nat
  /-- some rail has failed with cause DISCHARGE in this step-down, which ends latched (R471; reset 0) -/
  latchAfter : Bool
  /-- tick at which the level last reached B0, plus 1; 0 before (R480; reset 0) -/
  offTick : Nat
  /-- MIN_OFF has passed since (R480; reset 1: none to wait for after a cold reset) -/
  minOff : Bool
  /-- an OFF_TIMED delay runs (R481; reset 0) -/
  timed : Bool
  /-- an off request is remembered during a save (R480; reset 0) -/
  offPend : Bool
  /-- the bench-down in progress is not to start DN_WAIT (R477; reset 0) -/
  noDnWait : Bool
  /-- consecutive scans with the input good, and below INPUT_LOW (R483, R484; reset 0) -/
  inGood : Nat
  inLow : Nat
  /-- PWR_LOSS_N is low (R482; reset 0) -/
  pwrLow : Bool
  /-- tick of the PFW_N assertion (R485; reset 0) -/
  pfwTick : Nat
  /-- EV655 has been raised for this assertion (R485; reset 0) -/
  pfwLate : Bool
  /-- reset pins whose STRETCH runs (R470; reset: none) -/
  stretch : Nat
  /-- reset pins that a pulse holds (R486; reset: none) -/
  pulse : Nat
  /-- EV618 for the PG00 wait has been raised (R469; reset 0) -/
  pg00Told : Bool
  /-- consecutive good and not-good scans of PG00 under BSET 0b11 (R469; reset 0) -/
  pg00Good : Nat
  pg00Bad : Nat
  /-- the boot supplies on PG00 have qualified (R469; reset 0) -/
  pg00Ok : Bool
  /-- ADC scans since a hard failure deferred its shutdown: a latched shutdown follows the save (R477, R200; reset 0) -/
  latchSave : Bool
  /-- pins BENCH_SYNC driven low by this device (R472; reset 0) -/
  syncDrive : Bool
  /-- the present run below INPUT_LOW has been qualified as a loss (R483; reset 0) -/
  lowTold : Bool
  /-- tick at which the OFF_TIMED delay began (R481; reset 0) -/
  timedTick : Nat
  deriving DecidableEq, Repr

/-- At B0 with nothing requested. -/
def SeqSt.reset : SeqSt :=
  ⟨.idle, [], [], [], [], [], [], [], 0, false, 0, true, false, false, false, 0, 0, false, 0, false, 0, 0, false, 0, 0,
   false, false, false, false, 0⟩

/-! ### Clocks and islands (chapter 17) -/

/-- Island and thermal state that no register shows. The shown state stands in CLK_STATUS and CLK_ISLn. -/
structure ClkSt where
  /-- RESTARTING islands whose power-up is already running (R493, R496; reset: none) -/
  rising : SMap Bool
  /-- the hottest reading was at TJ_TRIP in the last ledger update (R503; reset 0) -/
  tripSeen : Bool
  /-- the reference clock has failed and not returned (R492; reset 0) -/
  refFail : Bool
  deriving DecidableEq, Repr

/-- All islands OFF, nothing hot. -/
def ClkSt.reset : ClkSt := ⟨[], false, false⟩

/-! ### Faults and reactions (chapter 18) -/

/-- A raise on its way to FLT: source, tick stamp and qualifier (R508). -/
structure Raise where
  src : Nat
  tick : Nat
  qual : Bool
  deriving DecidableEq, Repr

/-- Why a warm chip reset is pending (R502, R520). -/
inductive RstWhy where
  | creset | command | watchdog
  deriving DecidableEq, Repr

/-- FLT state that no register shows. -/
structure FltSt where
  /-- raises of this hub clock that FLT has not processed yet (R508, R519; reset: none) -/
  raised : List Raise
  /-- the interrupt queue, at most 256 entries of source and action code (R525; reset: empty) -/
  irqq : List (Nat × Nat)
  /-- index of the window each window class is counting, 0 to 7 (R512; reset 0) -/
  win : SMap Nat
  /-- sources that have escalated on their count in the current window (R516; reset: none) -/
  esc : SMap Bool
  /-- threshold bytes that take force at the next boundary, per source: value + 1, or 0 for none (R513; reset: none) -/
  thrNew : SMap Nat
  /-- window lengths that take force at the next boundary, per class, 0 for none (R513; reset: none) -/
  winNew : SMap Nat
  /-- a warm chip reset waits for a save to end, or for its command (R502; reset: none) -/
  rst : Option RstWhy
  /-- block resets that are carried out when the save ends, by source (R518; reset: none) -/
  later : List Nat
  /-- a Hold demand arrived during a save that ends in Hold (R523; reset 0) -/
  holdAfter : Bool
  deriving DecidableEq, Repr

/-- Nothing raised, queued or pending. -/
def FltSt.reset : FltSt := ⟨[], [], [], [], [], [], none, [], false⟩

/-! ### Core log (chapter 19) -/

/-- Core log state that no register shows. The hours, the power-cycle count and the shown state stand in the CLG
registers. -/
structure ClgSt where
  /-- live aggregators that hold something, by number (R535, R536, R537; reset: all empty) -/
  live : List Agg
  /-- staging: the aggregators that the running commit took (R538; reset: none) -/
  staging : List Agg
  /-- records that the running commit is programming, numbered (R538; reset: none) -/
  forming : List LogRec
  /-- the commit's program has been issued: 0 no commit, 1 forming, 2 first try, 3 second try (R538, R539; reset 0) -/
  phase : Nat
  /-- records waiting for a commit, oldest first (R534; reset: none) -/
  pend : List LogRec
  /-- records held in the Bedrock domain while the hub base is unpowered, at most 8 (R534; reset: none) -/
  held : List LogRec
  /-- committed records on NAND by number, both areas (R531; NAND contents: none) -/
  log : SMap (Option LogRec)
  /-- the record in the window, and the number being fetched (R541; reset: none) -/
  win : Option LogRec
  fetch : Option Nat
  /-- the day of the last EXTREMES record, plus 1 (R534; reset 0) -/
  extDay : Nat
  /-- the RAIL record of SEQ_FIRST has been logged (R534; reset 0) -/
  railLogged : Bool
  /-- the BOOT record of this boot has been formed (R534; reset 0) -/
  bootLogged : Bool
  /-- FLT_FFC, its tick words as they stood at Waking (R534; reset 0) -/
  ffcAtWaking : List Nat
  /-- ticks of operating time not yet counted as a second (R529; reset 0) -/
  subSec : Nat
  /-- time and power-cycle count have resumed from the log since the cold reset (R529; reset 0) -/
  resumed : Bool
  deriving DecidableEq, Repr

/-- Nothing logged. -/
def ClgSt.reset : ClgSt := ⟨[], [], [], 0, [], [], [], none, none, 0, false, false, [0, 0, 0], 0, false⟩

/-! ### Two-wire ports (chapter 20) -/

/-- The firmware transfer of a port, or for TW0 the MCTP packet that it sends (R550, R555 to R561). -/
structure TwXact where
  /-- address NACKs so far (R556), and arbitration losses so far (R561) -/
  nacks : Nat
  losses : Nat
  /-- it waits for its 1 ms retry (R556) -/
  waiting : Bool
  deriving DecidableEq, Repr

/-- What one port keeps beside its registers. -/
structure TwPort where
  /-- the firmware transfer that is queued or running (R555; reset: none) -/
  cur : Option TwXact
  /-- EV(658 + 2t) has been raised since the bus last recovered (R559; reset 0) -/
  told : Bool
  /-- timeouts in a row with no valid START between them, TW0 (R552; reset 0) -/
  timeouts : Nat
  deriving DecidableEq, Repr

/-- A quiet port. -/
def TwPort.reset : TwPort := ⟨none, false, 0⟩

/-- Two-wire state that no register shows. -/
structure TwbSt where
  /-- TW0 to TW7, by number (R544; reset: quiet) -/
  ports : SMap TwPort
  /-- SMBALERT# is asserted (R553; reset 0) -/
  alert : Bool
  /-- tick of the last alert, plus 1; 0 before the first (R554; reset 0) -/
  alertTick : Nat
  /-- MCTP packets in the cluster's receive buffer, at most 16 (R550; reset 0) -/
  mctp : Nat
  /-- tick of the last valid reading plus 1, by port * 32 + n (R167; reset 0) -/
  sensTick : SMap Nat
  deriving DecidableEq, Repr

/-- Quiet ports. -/
def TwbSt.reset : TwbSt := ⟨[], false, 0, 0, []⟩

/-! ### Firmware slots and the Foreman cluster (chapter 21) -/

/-- What a firmware slot of the Boot band holds: the image of its newest block, and the block being staged (R568, R569). -/
structure FwSlot where
  /-- words of the image by byte offset; an erased word reads 0 -/
  image : SMap Word
  /-- the seal page is programmed (R569) -/
  sealed : Bool
  /-- the tag copy of the seal page matches the image's tag at sealing (R569) -/
  tag : BitVec 128
  /-- words of the block being staged (R574) -/
  next : SMap Word
  /-- the block of the slot that takes the next image, in rotation, 0 to 5 (R569; NAND contents: 0) -/
  blk : Nat
  deriving DecidableEq, Repr

/-- An empty slot. -/
def FwSlot.fresh : FwSlot := ⟨[], false, 0, [], 0⟩

/-- Firmware state that no register shows. -/
structure FwmSt where
  /-- slots A and B (R569; NAND contents: empty) -/
  slotA : FwSlot
  slotB : FwSlot
  /-- the boot selector: ACTIVE, TRIAL and TRIES (R570; NAND contents: 0) -/
  active : Nat
  trial : Bool
  tries : Nat
  /-- the slot that is open for staging (R574; reset: none) -/
  staging : Option Nat
  /-- the byte offset at which the next Transfer FW part must start, and the face whose transfer is in progress, plus 1
  (R574; reset 0) -/
  xfer : Nat
  xferFace : Nat
  /-- the cores run firmware; false while they are held in reset (R576, R579; reset 0) -/
  running : Bool
  /-- FWM_ALIVE was written since the release (R571; reset 0) -/
  alive : Bool
  /-- the slot that ran before an online activation (R577; reset 0) -/
  prev : Nat
  /-- the hand-off block is written (R576; reset 0) -/
  handoff : Bool
  /-- the boot ROM is in recovery (R572; reset 0) -/
  recovery : Bool
  /-- ROLLBACK_EPOCH of the Survey copy that booted (R581; reset 0) -/
  svyEpoch : Nat
  /-- open mailbox commands without a posted return: face and opcode (R579; reset: none) -/
  openCmds : List (Nat × Nat)
  /-- mailbox commands that wait with their busy bit set for an activation to end, each with its face (R576; reset: none) -/
  waiting : List (Nat × Instr)
  /-- tick of step 1 of R566 (R582 FWM_BOOT_T; reset 0) -/
  bootTick : Nat
  deriving DecidableEq, Repr

/-- Empty slots. -/
def FwmSt.reset : FwmSt := ⟨FwSlot.fresh, FwSlot.fresh, 0, false, 0, none, 0, 0, false, false, 0, false, false, 0, [], [], 0⟩

/-! ### Pins and the test port (chapter 23) -/

/-- Pins and straps that no register shows. -/
structure PinSt where
  /-- the TESTEN strap at cold reset (R603, R611; reset 0) -/
  testen : Bool
  /-- the auxiliary 3.3 V supply or a pack bus is present (R16; reset 1: the Bedrock domain has power) -/
  power : Bool
  /-- the TAP instruction loaded (R610; reset: BYPASS) -/
  tap : Tap
  /-- the rails RAILSET names (R611; reset 0) -/
  railset : Nat
  /-- ERR_N is asserted (R524; reset 0) -/
  err : Bool
  deriving DecidableEq, Repr

/-- All pins at rest. -/
def PinSt.reset : PinSt := ⟨false, true, .bypass, 0, false⟩

/-! ### What a save leaves on NAND (chapter 07) -/

/-- The carve-out copy that a save's CARVE records hold (R91, R195): the carve-outs' contents at the save. -/
structure Carve where
  /-- save number the records carry (R196; NAND contents) -/
  seq : Nat
  /-- the location maps (R108) -/
  lmap : SMap Word
  /-- the slab images (R92) -/
  image : SMap SlabE
  /-- what the Block Information Table holds per block, its remaps, and the journal sequence number that it is raised to (R227, R229,
  R230) -/
  blks : SMap Blk
  remaps : SMap Nat
  jseq : Nat
  /-- the poison tables of the six faces, and each one's overflow flag with its timestamp (R38, R335; DEDUCED 149) -/
  poison : List (List PoisonRec)
  ovf : List (Bool × Nat)
  /-- ring contexts and doorbell latches (R376, R378) -/
  ctx : RingCopy
  /-- the pending-line list: face and face DPA of each line (R451) -/
  lines : List (Nat × Nat)
  /-- the Core log aggregators and the staging still held (R535) -/
  aggs : List Agg
  staging : List Agg
  numbers : List Nat
  /-- lines whose DRAM read was uncorrectable, as channel and line of the carve-out: poison in the records (R186, R312) -/
  bad : List (Nat × Nat)
  /-- carve-out slabs that a dead rank took with it, as channel and slab of the carve-out: all their lines are poison (R310, R312) -/
  dead : List (Nat × Nat)
  /-- a record could not be programmed (R200) -/
  dropped : Bool
  deriving DecidableEq, Repr

/-- Manifest records 0 to 36 of a save, in one structure (R197). -/
structure Manifest where
  seq : Nat
  trig : Nat
  tickTrig : Nat
  tickEnd : Nat
  /-- Dirty setts at step 2 and records written (R197) -/
  dirty : Nat
  records : Nat
  pads : Nat
  /-- END code the walk ended with (R197) -/
  endCode : Nat
  vol : Nat
  /-- per group: first and last SAVE record number, and first CARVE record number (R197) -/
  first : SMap Nat
  last : SMap Nat
  carve : List Nat
  fdirty : List Nat
  /-- HEAT of the slabs, by slab index (R197; restore order) -/
  heat : SMap Nat
  deriving DecidableEq, Repr

/-- A run of CARVE, MANIFEST or MARK records, two to a stripe, the groups in turn (R186, R195, R197). -/
structure MetaRun where
  /-- 4 CARVE, 5 MANIFEST, 6 MARK -/
  typ : Nat
  /-- ordinal of its first record, and how many records it has -/
  first : Nat
  count : Nat
  /-- the groups in turn, with the first record number and PSEQ in each -/
  groups : List (Nat × Nat × Nat)
  /-- key slot, its value, and epoch and counter of the first page; each page takes the next counter (R185) -/
  key : Nat
  keyVal : BitVec 256
  epoch : Nat
  ctr : Nat
  deriving DecidableEq, Repr

/-- One save as NAND holds it (R195 to R198). -/
structure SaveSet where
  seq : Nat
  carve : Option Carve
  /-- where its CARVE, MANIFEST and MARK records lie (R186, R195) -/
  runs : List MetaRun
  manifest : Option Manifest
  /-- the MARK record is programmed (R198) -/
  mark : Bool
  /-- its records are released (R276) -/
  released : Bool
  /-- lodes of the Sump band that hold its records, group and lode -/
  lodes : List (Nat × Nat)
  deriving DecidableEq, Repr

/-! ### What the block sends -/

/-- Return codes of the mailbox, as the manual names them (R332, and the commands' own rules). -/
inductive Ret where
  | success | backgroundStarted | invalidInput | unsupported | internalError | retryRequired | busy
  | mediaDisabled | fwTransferInProgress | fwTransferOutOfOrder | fwVerificationFailed | invalidSlot
  | fwRolledBack | invalidHandle | invalidPhysicalAddress | injectPoisonLimit | permanentMediaFailure | aborted
  | invalidLog | busyOther | resourcesExhausted | invalidExtentList
  deriving DecidableEq, Repr

/-- A Gallery message as sent (R437, R438). -/
structure GalTx where
  typ : Nat
  face : Nat
  sub : Nat
  seq : Nat
  addr : Nat
  /-- payload lines, and payload words of the messages whose payload is not line data -/
  lines : List Line
  words : List Nat
  /-- byte enables of a PARTIAL message -/
  mask : BitVec 64
  deriving DecidableEq, Repr

/-- What an observer outside the part sees it do. -/
inductive Out where
  /-- completion of a write (R21) -/
  | cmp (port tag : Nat)
  /-- data of a read, or its answer with poison (R393) -/
  | data (port tag : Nat) (line : Line)
  | poisoned (port tag : Nat)
  /-- DevLoad of the NDR or DRS that goes out with it: 0 Light, 1 Optimal, 2 Moderate, 3 Severe (R317, R319) -/
  | devLoad (port tag load : Nat)
  /-- a CDAT entry over DOE Table Access: its number, and a word for its contents, which CXL 3.1 lays out (R317) -/
  | cdat (port entry word : Nat)
  /-- response to a Global Persistent Flush phase (R33) -/
  | gpf (port phase : Nat) (err : Bool)
  /-- return of a mailbox command: return code, and the output fields in the manual's order (R332, R336) -/
  | reply (face opcode : Nat) (ret : Ret) (payload : List Nat)
  /-- answer to an FM API command of the BMC about a face (R323) -/
  | fm (face : Nat) (ret : Ret) (payload : List Nat)
  /-- event interrupt of a face for one of its logs (R329, R332) -/
  | eventIrq (face log : Nat)
  /-- MSI-X of a ring or mailbox vector (R386) -/
  | msix (face vector : Nat)
  /-- a Gallery message on a link, or on every up link (R437) -/
  | gal (msg : GalTx)
  /-- bytes a controller port puts on its bus: port, address, bytes written, bytes to read (R555) -/
  | tw (port addr : Nat) (bytes : List Nat) (rlen : Nat)
  /-- TW0 answers a read with these bytes, or NACKs (R548) -/
  | tw0 (bytes : List Nat)
  | tw0Nack
  /-- TW7 answers the twin with its status word (R558) -/
  | tw7 (word : Nat)
  /-- TW7 pulls its ALERT line for 1 ms (R558) -/
  | tw7Alert
  /-- a word read from a register by its reader (R86, R610) -/
  | regData (word : Word)
  /-- what a host's read of its BAR0 returns (R4, R587) -/
  | barData (port : Nat) (value : BitVec 64)
  /-- an SPDM response over DOE (R325) -/
  | spdm (port code : Nat)
  /-- the TAP's instruction took effect as this one (R611) -/
  | tap (ins : Tap)
  deriving DecidableEq, Repr

/-- The state of the block: everything the manual gives it, the waiting commands, and the model's own record of
what it has sent and of how many free values it has drawn. -/
structure State where
  /-- register words by byte address; an unlisted word reads its reset value (R6, R583) -/
  regs : SMap Word
  /-- the tick count, 48 bits (R489; reset 0) -/
  tick : Nat
  /-- chip state (R499; reset: Bedrock, where the cold reset of R8 leaves it) -/
  chip : Chip
  /-- margin state (R139, R144; reset Sable) -/
  margin : Margin
  /-- device timestamp: the value last set, and the tick at which it was set (R332; reset 0) -/
  stamp : Nat
  stampTick : Nat
  fuse : Fuse
  bed : BedSt
  svy : SvySt
  slb : SlbSt
  lgr : LgrSt
  adm : AdmSt
  haul : HaulSt
  save : SaveSt
  stk : StkSt
  /-- saves on NAND, newest first (R195 to R198; NAND contents: none) -/
  saves : List SaveSet
  res : ResSt
  dch : DchSt
  /-- host ports H0 to H5 and their faces, by number (R314; reset: Port.reset) -/
  ports : SMap Port
  /-- per face, what the health area holds (R334; NAND contents: never written) -/
  nv : SMap NvFace
  job : JobSt
  cip : CipSt
  gal : GalSt
  seq : SeqSt
  clk : ClkSt
  flt : FltSt
  clg : ClgSt
  twb : TwbSt
  fwm : FwmSt
  pin : PinSt
  /-- the commands that wait, first in, first out (model's own queue; reset: empty) -/
  pending : List Instr
  /-- what the block has sent, newest first (model's own record; reset: nothing) -/
  out : List Out
  /-- how many free values have been drawn (model's own counter; reset 0, DESIGN CHOICE 2) -/
  free : Nat
  deriving DecidableEq, Repr

/-- Why a run stops with a fault. -/
inductive Fault where
  /-- The command's bytes or operand address something that the manual says does not exist, and gives no effect for.
  Raised by no meaning of this model so far; safe. -/
  | absent
  deriving DecidableEq, Repr

/-- Why a command is refused. -/
inductive Refusal where
  /-- Raised by the dispatch table for a command that has no meaning yet. Safe: the run stops. -/
  | notModelled (mnemonic : String)
  /-- Raised by a command whose effect the manual leaves to a part it does not describe. Safe: the run stops. -/
  | notDescribed (mnemonic : String)
  deriving DecidableEq, Repr

/-- The block right after a cold reset (R8): every field at the value the manual states, and where it states none at
the value that the assumption log names. -/
def State.reset : State where
  regs := []
  tick := 0
  chip := .bedrock
  margin := .sable
  stamp := 0
  stampTick := 0
  fuse := ⟨0, 0, 0, 0, 0⟩
  bed := BedSt.reset
  svy := SvySt.reset
  slb := SlbSt.reset
  lgr := LgrSt.reset
  adm := AdmSt.reset
  haul := HaulSt.reset
  save := SaveSt.reset
  stk := StkSt.reset
  saves := []
  res := ResSt.reset
  dch := DchSt.reset
  ports := []
  nv := []
  job := JobSt.reset
  cip := CipSt.reset
  gal := GalSt.reset
  seq := SeqSt.reset
  clk := ClkSt.reset
  flt := FltSt.reset
  clg := ClgSt.reset
  twb := TwbSt.reset
  fwm := FwmSt.reset
  pin := PinSt.reset
  pending := []
  out := []
  free := 0

end Sys2Proof.Machine
end

