-- ==== Sys2Proof/Machine/Ops.lean ====
section
/-! DEFINITION. The named operations over the state that every meaning is written in: fields of register words, fields of
the Survey image, free values, what is sent, raises, addresses, slab entries, dirty bits, DRAM contents. -/

namespace Sys2Proof.Machine

/-! ### Bit fields and register words -/

/-- Bits [lo + width − 1 : lo] of a number (R5). -/
def bitsOf (lo width w : Nat) : Nat := w / 2 ^ lo % 2 ^ width

/-- A number below 2^32 with bits [lo + width − 1 : lo] replaced. -/
def withBits (lo width v w : Nat) : Nat := w % 2 ^ lo + v % 2 ^ width * 2 ^ lo + w / 2 ^ (lo + width) * 2 ^ (lo + width)

/-- Is a bit set? -/
def bitAt (i w : Nat) : Bool := decide (w / 2 ^ i % 2 = 1)

/-- A number with one bit set or cleared. -/
def withBit (i : Nat) (b : Bool) (w : Nat) : Nat := withBits i 1 (if b then 1 else 0) w

/-- The number of bits set among the lowest n. -/
def popCount (n w : Nat) : Nat := ((List.range n).filter (fun i => bitAt i w)).length

/-- The lowest set bit at or above `from_` and below n. -/
def lowestBit (from_ n w : Nat) : Option Nat := ((List.range n).filter (fun i => decide (from_ ≤ i) && bitAt i w)).head?

/-- A register word as it is held. -/
def State.word (s : State) (a : Nat) : Word := SMap.get (regReset a) a s.regs

/-- Hold another value in a register word. -/
def State.setWord (s : State) (a : Nat) (w : Word) : State := { s with regs := SMap.put (regReset a) a w s.regs }

/-- The value of a register field as it is held. -/
def State.rd (s : State) (f : Fld) : Nat := bitsOf f.lo f.width (s.word f.addr).toNat

/-- Hold another value in a register field; higher bits of the value are dropped. -/
def State.wr (s : State) (f : Fld) (v : Nat) : State :=
  s.setWord f.addr (BitVec.ofNat 32 (withBits f.lo f.width v (s.word f.addr).toNat))

/-- A one-bit field as a truth value. -/
def State.on (s : State) (f : Fld) : Bool := decide (s.rd f ≠ 0)

/-- Write a one-bit field. -/
def State.wrB (s : State) (f : Fld) (b : Bool) : State := s.wr f (if b then 1 else 0)

/-- Add to a field that saturates at its highest value. -/
def State.addSat (s : State) (f : Fld) (n : Nat) : State := s.wr f (min (s.rd f + n) (2 ^ f.width - 1))

/-- Add to a field that wraps. -/
def State.addWrap (s : State) (f : Fld) (n : Nat) : State := s.wr f (s.rd f + n)

/-- A field read as a two's complement number. -/
def State.rdInt (s : State) (f : Fld) : Int :=
  let v := s.rd f
  if v < 2 ^ (f.width - 1) then v else (v : Int) - 2 ^ f.width

/-- Write a field as a two's complement number. -/
def State.wrInt (s : State) (f : Fld) (v : Int) : State := s.wr f (v % 2 ^ f.width).toNat

/-- Set a bit of a field. -/
def State.setBit (s : State) (f : Fld) (i : Nat) (b : Bool) : State := s.wr f (withBit i b (s.rd f))

/-! ### The Survey image -/

/-- A field of a Survey section body: section type, byte offset of its word, lowest bit and width (R59, R61). -/
structure SFld where
  sec : Nat
  off : Nat
  lo : Nat
  width : Nat
  deriving DecidableEq, Repr

/-- A word of a section body in a set of loaded sections. -/
def svWord (m : SMap Word) (sec off : Nat) : Nat := (SMap.get (0 : Word) (sec * 0x100000 + off / 4 * 4) m).toNat

/-- A field in a set of loaded sections. -/
def svField (m : SMap Word) (f : SFld) : Nat := bitsOf f.lo f.width (svWord m f.sec f.off)

/-- A field of the running image (R61). -/
def State.sv (s : State) (f : SFld) : Nat := svField s.svy.run f

/-- A one-bit field of the running image. -/
def State.svOn (s : State) (f : SFld) : Bool := decide (s.sv f ≠ 0)

/-- A byte of a section body. -/
def svByte (m : SMap Word) (sec off : Nat) : Nat := bitsOf (off % 4 * 8) 8 (svWord m sec off)

/-- Does the running image hold a section? -/
def State.hasSec (s : State) (sec : Nat) : Bool := s.svy.has.contains sec

def PROFILE.PROFILE : SFld := ⟨0x10, 0, 0, 2⟩
def PROFILE.SPEED : SFld := ⟨0x10, 0, 2, 2⟩
def PROFILE.TWO_RANK : SFld := ⟨0x10, 0, 4, 1⟩
def PROFILE.DENSITY : SFld := ⟨0x10, 0, 8, 4⟩
def PROFILE.STACK : SFld := ⟨0x10, 0, 12, 2⟩
def PROFILE.PRESENT_LO : SFld := ⟨0x10, 4, 0, 32⟩
def PROFILE.PRESENT_HI : SFld := ⟨0x10, 8, 0, 4⟩
def INTERLEAVE.WAYS : SFld := ⟨0x11, 0, 0, 6⟩
def INTERLEAVE.IG : SFld := ⟨0x11, 0, 8, 2⟩
def FACES.ENABLE (f : Nat) : SFld := ⟨0x12, f * 16, 0, 1⟩
def FACES.SABLE_POLICY (f : Nat) : SFld := ⟨0x12, f * 16, 1, 1⟩
def FACES.KEY_PAIR (f : Nat) : SFld := ⟨0x12, f * 16, 8, 5⟩
def FACES.STATIC_BASE (f : Nat) : SFld := ⟨0x12, f * 16 + 4, 0, 16⟩
def FACES.STATIC_BLOCKS (f : Nat) : SFld := ⟨0x12, f * 16 + 4, 16, 16⟩
def FACES.DC_BASE (f : Nat) : SFld := ⟨0x12, f * 16 + 8, 0, 16⟩
def FACES.DC_MAX (f : Nat) : SFld := ⟨0x12, f * 16 + 8, 16, 16⟩

/-- The channel at a position of the interleave list (R66). -/
def State.wayChan (s : State) (p : Nat) : Nat := svByte s.svy.run 0x11 (4 + p)

/-- A channel is present (R65). -/
def State.chanPresent (s : State) (c : Nat) : Bool :=
  if c < 32 then bitAt c (s.sv PROFILE.PRESENT_LO) else bitAt (c - 32) (s.sv PROFILE.PRESENT_HI)

/-- The position of a channel in the interleave list, if it is listed (R66). -/
def State.chanWay (s : State) (c : Nat) : Option Nat :=
  ((List.range (s.sv INTERLEAVE.WAYS)).filter (fun p => decide (s.wayChan p = c))).head?

/-! ### Free values and what is sent -/

/-- Draw the next free value: nothing is known of it but that it lies below n (entry 3). -/
def State.draw (s : State) (n : Nat) : Nat × State := (Config.freeNat s.free % n, { s with free := s.free + 1 })

/-- Draw a key from the DRBG (R416; entry 3). -/
def State.drawKey (s : State) : BitVec 256 × State := (Config.freeKey s.free, { s with free := s.free + 1 })

/-- Record what the block sends. -/
def State.send (s : State) (o : Out) : State := { s with out := o :: s.out }

/-- A port by number. -/
def State.port (s : State) (p : Nat) : Port := SMap.get Port.reset p s.ports

/-- Replace a port. -/
def State.setPort (s : State) (p : Nat) (q : Port) : State := { s with ports := SMap.put Port.reset p q s.ports }

/-- The health area's items of a face (R334). -/
def State.nvFace (s : State) (f : Nat) : NvFace := SMap.get NvFace.fresh f s.nv

/-- Replace the health area's items of a face. -/
def State.setNv (s : State) (f : Nat) (q : NvFace) : State := { s with nv := SMap.put NvFace.fresh f q s.nv }

/-! ### Raises -/

/-- The status bit of an event source (R509). -/
def evsBit (src : Nat) : Fld × Nat :=
  if src < 216 then (DCH_EVS.STATUS (src / 6), src % 6)
  else if src < 504 then (NCH_EVS.STATUS ((src - 216) / 4), (src - 216) % 4)
  else if src < 552 then (HPT_EVS.STATUS ((src - 504) / 8), (src - 504) % 8)
  else if src < 564 then (GAL_EVS.STATUS, src - 552)
  else if src < 576 then (CIP_EVS.STATUS, src - 564)
  else if src < 586 then (LGR_EVS.STATUS, src - 576)
  else if src < 618 then (SEQ_EVS0.STATUS, src - 586)
  else if src < 650 then (SEQ_EVS1.STATUS, src - 618)
  else if src < 658 then (SEQ_EVS2.STATUS, src - 650)
  else if src < 674 then (TWB_EVS.STATUS ((src - 658) / 2), (src - 658) % 2)
  else if src < 680 then (CLK_EVS.STATUS, src - 674)
  else (FLT_EVS.STATUS, src - 680)

/-- A block detects a source's condition: the status bit sets and a raise with the tick goes to FLT (R508). -/
def State.raiseQ (s : State) (src : Nat) (qual : Bool) : State :=
  let b := evsBit src
  let s := s.setBit b.1 b.2 true
  { s with flt := { s.flt with raised := s.flt.raised ++ [⟨src, s.tick, qual⟩] } }

/-- A raise with qualifier 0. -/
def State.raise (s : State) (src : Nat) : State := s.raiseQ src false

/-- Do something to the state when a condition holds. -/
def State.when (s : State) (b : Bool) (f : State → State) : State := if b then f s else s

/-- Do something to the state for each entry of a list, in order. -/
def State.forEach {A : Type} (s : State) (l : List A) (f : State → A → State) : State := l.foldl f s

/-- Raise when a condition holds. -/
def State.raiseIf (s : State) (b : Bool) (src : Nat) : State := if b then s.raise src else s

/-! ### Addresses -/

/-- The channel of a slab, of a sett (R87, R88). -/
def slabChan (i : Nat) : Nat := i / 65536
def settChan (k : Nat) : Nat := k / 4194304
def settSlab (k : Nat) : Nat := k / 64

/-- A slab of a carve-out (R90). -/
def slabCarve (i : Nat) : Bool := decide (65520 ≤ i % 65536)

/-- A host-visible slab: a non-carve-out slab of a listed channel (R70). -/
def State.visible (s : State) (i : Nat) : Bool := (s.chanWay (slabChan i)).isSome && !slabCarve i

/-- The pool block of a host-visible slab (R67). -/
def State.slabBlock (s : State) (i : Nat) : Option Nat :=
  if slabCarve i then none
  else (s.chanWay (slabChan i)).map (fun p => (i % 65536 * s.sv INTERLEAVE.WAYS + p) / 64)

/-- The k-th slab of a pool block (R67). -/
def State.blockSlab (s : State) (b k : Nat) : Nat :=
  let n := b * 64 + k
  let w := s.sv INTERLEAVE.WAYS
  s.wayChan (n % w) * 65536 + n / w

/-- The 64 slabs of a pool block. -/
def State.blockSlabs (s : State) (b : Nat) : List Nat := (List.range 64).map (s.blockSlab b)

/-- The pool block behind a block of a face's DPA space: static range, or an accepted extent (R69, R323). -/
def State.faceBlock (s : State) (f fb : Nat) : Option Nat :=
  if s.svOn (FACES.ENABLE f) then
    if fb < s.sv (FACES.STATIC_BLOCKS f) then some (s.sv (FACES.STATIC_BASE f) + fb)
    else
      match (s.port f).extents.find? (fun e => e.accepted && decide (e.block ≤ fb) && decide (fb < e.block + e.pool.length)) with
      | some e => e.pool[fb - e.block]?
      | none => none
  else none

/-- The DYNCAP section (R61). -/
def secDyncap : Nat := 0x13

/-- Blocks of Dynamic Capacity that a face may hold; none without a DYNCAP section (R63, R69). -/
def State.dcMax (s : State) (f : Nat) : Nat := if s.hasSec secDyncap then s.sv (FACES.DC_MAX f) else 0

/-- The granularity of the interleave in bytes (R66). -/
def State.igBytes (s : State) : Nat := 256 * 4 ^ s.sv INTERLEAVE.IG

/-- The slab and the offset in it that a face DPA maps to (R67, R69). -/
def State.mapDpa (s : State) (f dpa : Nat) : Option (Nat × Nat) :=
  match s.faceBlock f (dpa / 0x10000000) with
  | none => none
  | some b =>
    let x := dpa % 0x10000000
    let ig := s.igBytes
    let u := x / ig
    some (s.blockSlab b (u % 64), u / 64 * ig + x % ig)

/-- The sett index and line of a face DPA. -/
def State.mapLine (s : State) (f dpa : Nat) : Option (Nat × Nat) :=
  (s.mapDpa f dpa).map (fun p => (p.1 * 64 + p.2 / 65536, p.2 % 65536 / 64))

/-- The face DPA of a line of a sett, for a slab in a face's space; the inverse of R67. -/
def State.unmapLine (s : State) (f sett line : Nat) : Option Nat :=
  let slab := settSlab sett
  match s.slabBlock slab, s.chanWay (slabChan slab) with
  | some b, some p =>
    let n := slab % 65536 * s.sv INTERLEAVE.WAYS + p
    let off := sett % 64 * 65536 + line * 64
    let ig := s.igBytes
    let x := (off / ig * 64 + n % 64) * ig + off % ig
    if s.sv (FACES.STATIC_BASE f) ≤ b ∧ b < s.sv (FACES.STATIC_BASE f) + s.sv (FACES.STATIC_BLOCKS f) then
      some ((b - s.sv (FACES.STATIC_BASE f)) * 0x10000000 + x)
    else
      ((s.port f).extents.find? (fun e => e.accepted && e.pool.contains b)).map
        (fun e => (e.block + e.pool.findIdx (fun q => q == b)) * 0x10000000 + x)
  | _, _ => none

/-! ### Slab entries -/

/-- The face that the Survey image and the grants give a slab: 0 to 5, 6 device, 7 unowned (R70, R90, R114). -/
def State.surveyOwner (s : State) (i : Nat) : Nat :=
  if slabCarve i then 6
  else match s.slabBlock i with
    | none => if s.chanPresent (slabChan i) then 6 else 7
    | some b =>
      match (List.range 6).find? (fun f => s.svOn (FACES.ENABLE f) && decide (s.sv (FACES.STATIC_BASE f) ≤ b)
          && decide (b < s.sv (FACES.STATIC_BASE f) + s.sv (FACES.STATIC_BLOCKS f))) with
      | some f => f
      | none => SMap.get 7 b s.slb.grants

/-- The entry of a slab that is not listed: cleared, with OWNER and RSTATE as the load and the restore set them
(R121, R70, R258). -/
def State.slabBase (s : State) (i : Nat) : SlabE :=
  if !s.slb.ready then ⟨0, 0⟩
  else if !s.slb.owned then ⟨0, 7⟩
  else ⟨0, BitVec.ofNat 32 (s.surveyOwner i + (if s.visible i then s.slb.baseR * 8 else 0))⟩

/-- A slab entry (R93). -/
def State.slab (s : State) (i : Nat) : SlabE := SMap.get (s.slabBase i) i s.slb.slabs

/-- Replace a slab entry. -/
def State.setSlab (s : State) (i : Nat) (e : SlabE) : State :=
  { s with slb := { s.slb with slabs := SMap.put (s.slabBase i) i e s.slb.slabs } }

/-- The fields of the slab word (R94). -/
def SlabE.owner (e : SlabE) : Nat := bitsOf 0 3 e.word.toNat
def SlabE.rstate (e : SlabE) : Nat := bitsOf 3 2 e.word.toNat
def SlabE.heat (e : SlabE) : Nat := bitsOf 5 8 e.word.toNat
def SlabE.mig (e : SlabE) : Bool := bitAt 13 e.word.toNat
def SlabE.pin (e : SlabE) : Bool := bitAt 14 e.word.toNat
def SlabE.jobl (e : SlabE) : Bool := bitAt 15 e.word.toNat
def SlabE.relq (e : SlabE) : Bool := bitAt 16 e.word.toNat
def SlabE.rslv (e : SlabE) : Bool := bitAt 17 e.word.toNat
def SlabE.keyr (e : SlabE) : Bool := bitAt 18 e.word.toNat
def SlabE.retire (e : SlabE) : Bool := bitAt 19 e.word.toNat

/-- A slab entry with a field of its word replaced. -/
def SlabE.setField (e : SlabE) (lo width v : Nat) : SlabE :=
  { e with word := BitVec.ofNat 32 (withBits lo width v e.word.toNat) }

def State.setOwner (s : State) (i v : Nat) : State := s.setSlab i ((s.slab i).setField 0 3 v)
def State.setRstate (s : State) (i v : Nat) : State := s.setSlab i ((s.slab i).setField 3 2 v)
def State.setHeat (s : State) (i v : Nat) : State := s.setSlab i ((s.slab i).setField 5 8 v)

/-- Set or clear bit b of a slab word (13 MIG to 19 RETIRE). -/
def State.setLock (s : State) (i b : Nat) (v : Bool) : State :=
  s.setSlab i ((s.slab i).setField b 1 (if v then 1 else 0))

/-! ### Dirty bits, the in-flight haul table and the location map -/

/-- The dirty bit of a sett (R93). -/
def State.dirty (s : State) (k : Nat) : Bool := (s.slab (settSlab k)).mask.getLsbD (k % 64)

/-- Add to and take from the dirty counts of ADM and of the owner face (R103). -/
def State.countDirty (s : State) (slab n : Nat) (up : Bool) : State :=
  let adj (v : Nat) : Nat := if up then v + n else v - n
  let s := s.wr ADM_DIRTY.SETTS (adj (s.rd ADM_DIRTY.SETTS))
  let f := (s.slab slab).owner
  if f < 6 then s.wr (SLB_FDIRTY.SETTS f) (adj (s.rd (SLB_FDIRTY.SETTS f))) else s

/-- Replace the dirty mask of a slab; the counts follow (R103). -/
def State.setMask (s : State) (i : Nat) (m : BitVec 64) : State :=
  let old := popCount 64 (s.slab i).mask.toNat
  let new := popCount 64 m.toNat
  let s := s.setSlab i { s.slab i with mask := m }
  if old ≤ new then s.countDirty i (new - old) true else s.countDirty i (old - new) false

/-- Set the dirty bit of a sett (R101, R103). -/
def State.setDirty (s : State) (k : Nat) : State :=
  let i := settSlab k
  if s.dirty k then s else s.setMask i ((s.slab i).mask ||| BitVec.ofNat 64 (2 ^ (k % 64)))

/-- Clear the dirty bit of a sett (R101, R103). -/
def State.clearDirty (s : State) (k : Nat) : State :=
  let i := settSlab k
  if s.dirty k then s.setMask i ((s.slab i).mask &&& ~~~ (BitVec.ofNat 64 (2 ^ (k % 64)))) else s

/-- The location map entry of a sett; carve-out setts read Zero (R91, R108). -/
def State.loc (s : State) (k : Nat) : Word := if slabCarve (settSlab k) then 0 else SMap.get 0 k s.slb.lmap

/-- Write a location map entry. -/
def State.setLoc (s : State) (k : Nat) (w : Word) : State :=
  { s with slb := { s.slb with lmap := SMap.put 0 k w s.slb.lmap } }

/-- KIND of a location entry: 0 Zero, 1 Stockpile, 2 Sump, 3 Lost (R108). -/
def locKind (w : Word) : Nat := bitsOf 30 2 w.toNat
/-- The Lost entry (R108). -/
def locLost : Word := 0xFFFFFFFF
/-- A Stockpile entry: group, stripe number, half (R108). -/
def locStk (g n h : Nat) : Word := BitVec.ofNat 32 (0x40000000 + g * 0x8000000 + n * 2 + h)
/-- A Sump entry: group, record number (R108). -/
def locSump (g r : Nat) : Word := BitVec.ofNat 32 (0x80000000 + g * 0x8000000 + r)

/-- The four sett states (R98). -/
inductive SettState where
  | zero | clean | dirty | lost
  deriving DecidableEq, Repr

/-- The state of a sett (R98). -/
def State.settState (s : State) (k : Nat) : SettState :=
  if s.dirty k then .dirty
  else match locKind (s.loc k) with
    | 0 => .zero | 3 => .lost | _ => .clean

/-- The in-flight haul table's entry for a sett (R104). -/
def State.haulOf (s : State) (k : Nat) : Option Haul := s.slb.ift.find? (fun h => h.sett == k)

/-- Set REWR on the entry of a sett, where it has one (R105). -/
def State.setRewr (s : State) (k : Nat) : State :=
  { s with slb := { s.slb with ift := s.slb.ift.map (fun h => if h.sett = k then { h with rewr := true } else h) } }

/-- Change the entry of a sett. -/
def State.mapHaul (s : State) (k : Nat) (f : Haul → Haul) : State :=
  { s with slb := { s.slb with ift := s.slb.ift.map (fun h => if h.sett = k then f h else h) } }

/-- The entry of a sett leaves the table. -/
def State.dropHaul (s : State) (k : Nat) : State :=
  { s with slb := { s.slb with ift := s.slb.ift.filter (fun h => h.sett != k) } }

/-- The context that an unlisted ring has: DISABLED, with ERR CONTEXT once a restore has reset every context (R376, R381). -/
def State.ringBase (s : State) : Ring := if s.job.lost then { Ring.fresh with err := 5 } else Ring.fresh

/-- The context of a ring (R376). -/
def State.ring (s : State) (r : Nat) : Ring := SMap.get s.ringBase r s.job.rings

/-- Replace the context of a ring. -/
def State.setRing (s : State) (r : Nat) (c : Ring) : State :=
  { s with job := { s.job with rings := SMap.put s.ringBase r c s.job.rings } }

/-! ### DRAM contents -/

/-- The address of a byte of a sett in the DRAM contents. -/
def settByte (k off : Nat) : Nat := k * 65536 + off

/-- A byte of DRAM; one that nothing has written reads 0 (entry 7). -/
def State.byte (s : State) (a : Nat) : Byte := SMap.get 0 a s.dch.mem

/-- Write a byte of DRAM. -/
def putByte (m : List Host.Cell) (a : Nat) (b : Byte) : List Host.Cell := SMap.put 0 a b m

/-- The canonical form of the DRAM contents: rising addresses, no zero byte listed. -/
def Memory.wf (m : List Host.Cell) : Bool := SMap.wf (0 : Byte) m

/-- The bytes of a line, as one number with the lowest address in the lowest byte. -/
def lineOfMem (m : List Host.Cell) (a : Nat) : Line :=
  BitVec.ofNat 512 ((List.range 64).foldr (fun i acc => acc * 256 + (SMap.get (0 : Byte) (a + i) m).toNat) 0)

/-- Write the bytes of a line that the mask enables. -/
def putLine (m : List Host.Cell) (a : Nat) (d : Line) (mask : BitVec 64) : List Host.Cell :=
  (List.range 64).foldl (fun m i => if mask.getLsbD i then putByte m (a + i) (d.extractLsb' (i * 8) 8) else m) m

/-- All bytes enabled (R25). -/
def fullMask : BitVec 64 := BitVec.allOnes 64

/-- A line of a sett as DRAM holds it. -/
def State.lineAt (s : State) (k l : Nat) : Line := lineOfMem s.dch.mem (settByte k (l * 64))

/-- Does a line of a sett hold the poison pattern (R284)? -/
def State.poisoned (s : State) (k l : Nat) : Bool := (SMap.get (0 : BitVec 1024) k s.dch.poison).getLsbD l

/-- Mark or unmark a line as poisoned. -/
def State.setPoison (s : State) (k l : Nat) (b : Bool) : State :=
  let p := SMap.get (0 : BitVec 1024) k s.dch.poison
  let m := BitVec.ofNat 1024 (2 ^ l)
  let q := if b then p ||| m else p &&& ~~~ m
  { s with dch := { s.dch with poison := SMap.put 0 k q s.dch.poison } }

/-- Write bytes of a line into DRAM. A full write ends the line's poison; a partial one leaves it (R31). -/
def State.writeLine (s : State) (k l : Nat) (d : Line) (mask : BitVec 64) : State :=
  let s := { s with dch := { s.dch with mem := putLine s.dch.mem (settByte k (l * 64)) d mask } }
  if mask = fullMask then s.setPoison k l false else s

/-- A haul that has already read the sett would leave a copy without this poison: it ends with REWR, so that the sett is hauled
again (R31, R105; DEDUCED 112). -/
def State.poisonInHaul (s : State) (k : Nat) : State := s.mapHaul k (fun h => { h with rewr := h.rewr || decide (1 ≤ h.stage) })

/-- Write a line with the poison pattern (R284). -/
def State.writePoison (s : State) (k l : Nat) : State :=
  (({ s with dch := { s.dch with mem := putLine s.dch.mem (settByte k (l * 64)) 0 fullMask } }).setPoison k l true).poisonInHaul k

/-- The bytes of a sett by offset, and its poisoned lines. -/
def State.settData (s : State) (k : Nat) : SMap Byte := SMap.slice (settByte k 0) 65536 s.dch.mem
def State.settPoison (s : State) (k : Nat) : BitVec 1024 := SMap.get 0 k s.dch.poison

/-- Replace a sett's bytes and poison. -/
def State.setSett (s : State) (k : Nat) (d : SMap Byte) (p : BitVec 1024) : State :=
  { s with dch := { s.dch with
      mem := SMap.paste (settByte k 0) 65536 d s.dch.mem, poison := SMap.put 0 k p s.dch.poison } }

/-- Write a sett with zeros (R102). -/
def State.zeroDram (s : State) (k : Nat) : State := s.setSett k [] 0

/-- Write a sett with the poison pattern on every line (R100). -/
def State.poisonDram (s : State) (k : Nat) : State := s.setSett k [] (BitVec.allOnes 1024)

end Sys2Proof.Machine
end

