-- ==== Sys2Proof/Machine/PortBase.lean ====
section
/-! DEFINITION. What a face is told and keeps: its feature word, its event logs and vendor records, its poison table
and accesses outside its capacity (chapters 02 and 11). -/

namespace Sys2Proof.Machine

/-! ### Feature word and policy -/

/-- Bits of the feature word (R339). -/
def featEarlyOpen : Nat := 0
def featRings : Nat := 1
def featHeat : Nat := 2
def featTwin : Nat := 3
def featEnergy : Nat := 4
def featAdmission : Nat := 5
def featVolatile : Nat := 6

/-- The faces of the part. -/
def faces : List Nat := [0, 1, 2, 3, 4, 5]

/-- A face is enabled in the running image (R68). -/
def State.faceOn (s : State) (f : Nat) : Bool := decide (f < 6) && s.svOn (FACES.ENABLE f)

/-- A face has negotiated a feature (R340). -/
def State.feature (s : State) (f bit : Nat) : Bool := (s.nvFace f).feat.getLsbD bit

/-- The face's policy in Sable is Volatile: the image chooses it and the driver negotiated the notice (R44). -/
def State.volatilePolicy (s : State) (f : Nat) : Bool :=
  s.faceOn f && s.svOn (FACES.SABLE_POLICY f) && s.feature f featVolatile

/-- The face is Volatile now (R44, R47, BED_STATE.VOLATILE). -/
def State.volatileNow (s : State) (f : Nat) : Bool := bitAt f (s.rd BED_STATE.VOLATILE)

/-- The face is open (R260, HPT_STATUS.OPEN). -/
def State.faceOpen (s : State) (f : Nat) : Bool := s.on (HPT_STATUS.OPEN f)

/-- Some face is open. -/
def State.anyOpen (s : State) : Bool := faces.any s.faceOpen

/-! ### Event logs -/

/-- The four logs of a face (R329). -/
def logInfo : Nat := 0
def logWarn : Nat := 1
def logFail : Nat := 2
def logFatal : Nat := 3

/-- Change a log of a face. -/
def State.setLog (s : State) (f log : Nat) (l : EvLog) : State :=
  let q := s.port f
  s.setPort f { q with logs := q.logs.set log l }

/-- Post an event record to a face: when the log is full the new record is counted as overflow (R329). -/
def State.postEvent (s : State) (f log : Nat) (b : EvBody) : State :=
  let q := s.port f
  let l := q.logs.getD log EvLog.reset
  if l.recs.length < 256 then
    let s := s.setLog f log { l with recs := l.recs ++ [⟨l.next, b⟩], next := (l.next + 1) % 65536 }
    if q.evPolicy.getD log 0 % 4 = 1 then s.send (.eventIrq f log) else s
  else
    let s := s.setLog f log { l with overflow := min (l.overflow + 1) 65535 }
    (s.setBit (HPT_EVOVF.OVF f) log true).raise (511 + 8 * f)

/-- Post to every face that a condition picks. -/
def State.postFaces (s : State) (p : Nat → Bool) (log : Nat) (b : State → Nat → EvBody) : State :=
  (faces.filter p).foldl (fun s f => s.postEvent f log (b s f)) s

/-- The body of a vendor record as it is formed (R331). -/
def State.vendor (s : State) (f kind aux : Nat) : EvBody :=
  .vendor kind s.margin.code (s.rd (SLB_FDIRTY.SETTS f)) (s.rd LGR_CEIL.SETTS) aux s.tick

/-- The log of a vendor record, and the feature that a face must have negotiated for it (R331). -/
def vendorLog (kind : Nat) : Nat :=
  match kind with
  | 2 => logFail | 4 => logWarn | 5 => logWarn | 7 => logWarn | _ => logInfo
def vendorFeature (kind : Nat) : Option Nat :=
  match kind with
  | 1 => some featAdmission | 2 => some featVolatile | 3 => some featVolatile | 4 => some featEarlyOpen
  | 5 => some featTwin | 6 => some featTwin | _ => none

/-- Send a vendor record of a kind to a face, if the face asked for it (R331, R340). -/
def State.postVendor (s : State) (f kind aux : Nat) : State :=
  let ok := match vendorFeature kind with
    | some b => s.feature f b
    | none => true
  if ok then s.postEvent f (vendorLog kind) (s.vendor f kind aux) else s

/-- Send a vendor record to every enabled face that asked for it. -/
def State.postVendorAll (s : State) (kind aux : Nat) : State :=
  (faces.filter s.faceOn).foldl (fun s f => s.postVendor f kind aux) s

/-! ### Poison tables -/

/-- The device timestamp: nanoseconds since it was set, added to the value set; 0 while it has not been set (R332). -/
def State.stampNow (s : State) : Nat :=
  if s.stamp = 0 ∧ s.stampTick = 0 then 0 else s.stamp + (s.tick - s.stampTick) * 1000000000 / 32768

/-- Do two ranges overlap or adjoin? -/
def rangesTouch (a n b m : Nat) : Bool := decide (a ≤ b + m) && decide (b ≤ a + n)

/-- A table with poisoned lines added: an adjoining or overlapping range of the same source grows, and takes in what it then touches;
else a record is used (R37, R38). -/
def addRange (l : List PoisonRec) (line n : Nat) (inj : Bool) : List PoisonRec :=
  let mine (r : PoisonRec) : Bool := (r.injected == inj) && rangesTouch r.line r.lines line n
  let hit := l.filter mine
  let lo := hit.foldl (fun m r => min m r.line) line
  let hi := hit.foldl (fun m r => max m (r.line + r.lines)) (line + n)
  l.filter (fun r => !mine r) ++ [⟨lo, hi - lo, inj⟩]

/-- Add a run of poisoned lines to a face's table. A full table keeps what it holds: a run that would need one more record is not recorded
and sets the overflow flag, with the device timestamp (R37, R38). -/
def State.addPoison (s : State) (f line n : Nat) (inj : Bool) : State :=
  let q := s.port f
  let l := addRange q.poison line n inj
  if l.length ≤ 65536 then s.setPort f { q with poison := l }
  else s.setPort f { q with poisonOvf := true, poisonOvfTick := s.stampNow }

/-- Lines, by face DPA, as runs: those that meet are one (R37). -/
def linesToRuns (dpas : List Nat) : List PoisonRec := dpas.foldl (fun t dpa => addRange t (dpa / 64) 1 false) []

/-- Poisoned lines of a face are reported together, each run as one record (R37, R38). -/
def State.reportLines (s : State) (f : Nat) (dpas : List Nat) : State :=
  s.forEach (linesToRuns dpas) (fun s r => s.addPoison f r.line r.lines false)

/-- Take one line out of a record: the range shrinks, vanishes or splits in two (R38). -/
def splitPoison (r : PoisonRec) (line : Nat) : List PoisonRec :=
  (if r.line < line then [⟨r.line, line - r.line, r.injected⟩] else []) ++
  (if line + 1 < r.line + r.lines then [⟨line + 1, r.line + r.lines - (line + 1), r.injected⟩] else [])

/-- A line stops being poison: it leaves the face's table, unless a split needs a record that the full table cannot
give (R38). -/
def State.delPoison (s : State) (f line : Nat) : State :=
  let q := s.port f
  let holds (r : PoisonRec) : Bool := decide (r.line ≤ line) && decide (line < r.line + r.lines)
  let upd := q.poison.flatMap (fun r => if holds r then splitPoison r line else [r])
  if q.poison.any holds then
    if upd.length ≤ 65536 then s.setPort f { q with poison := upd } else s
  else s

/-- Transaction types of a General Media record, as CXL 3.1 numbers them: host read, host write, host scan media, media scrub, and media
management for what the device reads for itself (R330; PRESUMED 172). -/
def txHostRead : Nat := 1
def txHostWrite : Nat := 2
def txScanMedia : Nat := 3
def txScrub : Nat := 5
def txInternal : Nat := 6

/-- A line of a sett that a face owns has become poison: the poison-list record (R37), and with `media`, its transaction type, the General
Media record of a line poisoned at run time (R330). -/
def State.reportPoison (s : State) (k l : Nat) (media : Option Nat) : State :=
  let f := (s.slab (settSlab k)).owner
  if f < 6 then
    match s.unmapLine f k l with
    | some dpa =>
      let s := s.addPoison f (dpa / 64) 1 false
      match media with
      | some t => s.postEvent f logFail (.generalMedia dpa t)
      | none => s
    | none => s
  else s

/-- Lost setts of a face are reported together: runs that meet are one record (R37). -/
def State.reportAllLost (s : State) (f : Nat) (ks : List Nat) : State :=
  s.reportLines f (ks.flatMap (fun k => (List.range 1024).filterMap (fun l => s.unmapLine f k l)))

/-- Every line of a Lost sett is reported (R37, R101). -/
def State.reportLost (s : State) (k : Nat) : State :=
  let f := (s.slab (settSlab k)).owner
  s.when (decide (f < 6)) (fun s => s.reportAllLost f [k])

/-- Does a face's table hold a line? -/
def Port.listed (q : Port) (line : Nat) : Bool := q.poison.any (fun r => decide (r.line ≤ line) && decide (line < r.line + r.lines))

/-- Poisoned lines that a record brings home are reported, as far as the table that came home does not hold them (R30, R31, R37). -/
def State.reportRecord (s : State) (k : Nat) (p : BitVec 1024) : State :=
  let f := (s.slab (settSlab k)).owner
  if f < 6 then
    s.reportLines f ((((List.range 1024).filter (fun l => p.getLsbD l)).filterMap (fun l => s.unmapLine f k l)).filter
      (fun dpa => !(s.port f).listed (dpa / 64)))
  else s

/-- A line of a sett holds data again: it leaves the owner's table (R38). -/
def State.clearPoisonOf (s : State) (k l : Nat) : State :=
  let f := (s.slab (settSlab k)).owner
  if f < 6 then
    match s.unmapLine f k l with
    | some dpa => s.delPoison f (dpa / 64)
    | none => s
  else s

/-- A full or partial write of data reaches DRAM: the line's poison ends with a full write (R31, R38). -/
def State.storeLine (s : State) (k l : Nat) (d : Line) (mask : BitVec 64) (poison : Bool) : State :=
  if poison then (s.writePoison k l).reportPoison k l none
  else
    let s := if mask = fullMask ∧ s.poisoned k l then s.clearPoisonOf k l else s
    let s := { s with dch := { s.dch with
      hard := if mask = fullMask then SMap.put false (k * 1024 + l) false s.dch.hard else s.dch.hard } }
    s.writeLine k l d mask

/-! ### Accesses outside the capacity -/

/-- Count an access outside a face's capacity; its source is raised at most once every 32,768 ticks (R321). -/
def State.outOfCapacity (s : State) (f dpa : Nat) : State :=
  let s := s.addSat (HPT_OOR.COUNT f) 1
  let s := s.wr (HPT_OOR_DPA_LO.DPA f) (dpa % 4294967296)
  let s := s.wr (HPT_OOR_DPA_HI.DPA f) (dpa / 4294967296)
  let q := s.port f
  if q.oorTick = 0 ∨ q.oorTick + 32767 ≤ s.tick then
    (s.setPort f { q with oorTick := s.tick + 1 }).raise (506 + 8 * f)
  else s

/-- The sett and line behind a face DPA, if the access lies inside the face's capacity: mapped, owned by the face, RELQ
and RETIRE clear (R115, R321). -/
def State.access (s : State) (f dpa : Nat) : Option (Nat × Nat) :=
  match s.mapLine f dpa with
  | none => none
  | some (k, l) =>
    let e := s.slab (settSlab k)
    if e.owner = f ∧ !e.relq ∧ !e.retire then some (k, l) else none

end Sys2Proof.Machine
end

