-- ==== Sys2Proof/Machine/DramOps.lean ====
section
/-! DEFINITION. DRAM accesses: where a line lies, the page predictor of its bank, error counting per rank, and what an
uncorrectable line leads to (chapter 10). -/

namespace Sys2Proof.Machine

/-! ### Limits of the THRESHOLDS section's DRAM block (R303) -/

def secThresholds : Nat := 0x41

/-- A field of the DRAM block, or its default when the section is absent (R63, R303). -/
def State.dramLimit (s : State) (off lo width dflt : Nat) : Nat :=
  if s.hasSec secThresholds then svField s.svy.run ⟨secThresholds, off, lo, width⟩ else dflt

/-- The limits that the running image gives (R303). -/
def State.imgLimits (s : State) : List Nat :=
  [s.dramLimit 0x3C0 0 16 3600, s.dramLimit 0x3C0 16 16 4096, s.dramLimit 0x3C4 0 16 256, s.dramLimit 0x3C4 16 16 16,
    s.dramLimit 0x3C8 0 16 64]

/-- The limits in force: a live load's wait for the next window (R82, R303). -/
def State.dramWindow (s : State) : Nat := Nat.max 1 (s.dch.limits.getD 0 3600) * 32768
def State.ceRank (s : State) : Nat := s.dch.limits.getD 1 4096
def State.ceDev (s : State) : Nat := s.dch.limits.getD 2 256
def State.ueRank (s : State) : Nat := s.dch.limits.getD 3 16
def State.deadRun (s : State) : Nat := s.dch.limits.getD 4 64

/-- The counts of the window that ends, kept beside those of the new one (R303, R513). -/
def State.windowCounts (s : State) : SMap Nat :=
  let m := s.dch.devCe.foldl (fun m p => SMap.put 0 p.1 p.2 m) []
  (List.range 144).foldl (fun m i =>
    SMap.put 0 (i * 16 + 14) (s.rd (DCH_RCE.WIN (i / 4) (i % 4))) (SMap.put 0 (i * 16 + 15) (s.rd (DCH_RUE.WIN (i / 4) (i % 4))) m)) m

/-- Each rank's counts of the running window are 0. -/
def State.zeroCounts (s : State) : State :=
  let s := s.forEach (List.range 144) (fun s i =>
    ((s.wr (DCH_RCE.WIN (i / 4) (i % 4)) 0).wr (DCH_RCE.DEVWIN (i / 4) (i % 4)) 0).wr (DCH_RUE.WIN (i / 4) (i % 4)) 0)
  { s with dch := { s.dch with devCe := [] } }

/-- A window of the DRAM counts begins: each rank's counts are 0, those of the window before are kept unless a whole window passed
between, and the limits that the image gives take force (R82, R303, R512). -/
def State.dramRoll (s : State) : State :=
  if s.dch.win < s.tick / s.dramWindow then
    let old := if s.dch.win + 1 = s.tick / s.dramWindow then s.windowCounts else []
    let s := { s.zeroCounts with dch := { s.zeroCounts.dch with prev := old, limits := s.imgLimits } }
    { s with dch := { s.dch with win := s.tick / s.dramWindow } }
  else s

/-- A load at a chip reset: what is due rolls; the limits stand at once, and counts of a window of another length or number are gone
(R303, R512). -/
def State.dramLoad (s : State) : State :=
  let s := s.dramRoll
  let w := Nat.max 1 (s.imgLimits.getD 0 3600) * 32768
  let s := if w = s.dramWindow then s else { s.zeroCounts with dch := { s.zeroCounts.dch with prev := [] } }
  { s with dch := { s.dch with limits := s.imgLimits, win := s.tick / w } }

/-- The threshold byte in force of a source (R511). -/
def State.thrByte (s : State) (src : Nat) : Nat := bitsOf (src % 4 * 8) 8 (s.rd (FLT_THR.BYTES (src / 4)))

/-- What a count of a rank takes from the window before: nothing, or PREV where the source is in paired mode (R303, R513; DEDUCED
143). -/
def State.prevCount (s : State) (src key : Nat) : Nat := if bitAt 7 (s.thrByte src) then SMap.get 0 key s.dch.prev else 0

/-! ### Channel registers in force (R313) -/

/-- Offsets of DCH_PRED, DCH_REF, DCH_SR, DCH_EQ, DCH_EQ2 and DCH_SCRUB. -/
def dchCfg : List Nat := [0x4, 0x10, 0x14, 0x20, 0x24, 0x2C]

/-- A field of these as the engine uses it. -/
def State.inForce (s : State) (f : Fld) : Nat := bitsOf f.lo f.width (SMap.get (regReset f.addr) f.addr s.dch.inForce).toNat

/-- The next refresh interval of a channel: what was written takes effect. -/
def State.cfgTake (s : State) (c : Nat) : State :=
  if s.dch.cfgNew.contains c then
    let m := dchCfg.foldl (fun m o =>
      let a := 0x200000 + c * 0x4000 + o
      SMap.put (regReset a) a (s.word a) m) s.dch.inForce
    { s with dch := { s.dch with inForce := m, cfgNew := s.dch.cfgNew.filter (fun x => x != c) } }
  else s

/-- A write has reached one of a channel's registers. -/
def State.cfgWritten (s : State) (a : Nat) : State :=
  let c := (a - 0x200000) / 0x4000
  if 0x200000 ≤ a ∧ c < 36 ∧ dchCfg.contains ((a - 0x200000) % 0x4000) ∧ !s.dch.cfgNew.contains c then
    { s with dch := { s.dch with cfgNew := s.dch.cfgNew ++ [c] } }
  else s

/-! ### Where a line lies -/

/-- Rank states (DCH_RNKSk.STATE). -/
def rkAbsent : Nat := 0
def rkActive : Nat := 1
def rkSpareFree : Nat := 2
def rkSpareHome : Nat := 3
def rkSource : Nat := 4
def rkDest : Nat := 5
def rkReplaced : Nat := 6
def rkRetired : Nat := 7
def rkDead : Nat := 8

/-- The rank index k of a slab in its channel (R279, R281). -/
def State.slabRank (s : State) (slab : Nat) : Nat :=
  let j := slab % 65536
  2 * (j % 2) + (if s.svOn PROFILE.TWO_RANK then j / 2 % 2 else 0)

/-- The slab whose place in DRAM holds a slab's data: a displaced carve-out slab lies in its home (R306, R311, R313). -/
def State.homeOf (s : State) (slab : Nat) : Nat :=
  let c := slabChan slab
  let n := slab % 65536 - 65520
  if slabCarve slab && s.on (DCH_CRD.VALID c n) then s.rd (DCH_CRD.SLAB c n) else slab

/-- The rank that serves a slab: its own, or the one a migration put in its place (R306, R307). -/
def State.servingRank (s : State) (slab : Nat) : Nat × Nat :=
  let h := s.homeOf slab
  let c := slabChan h
  let k := s.slabRank h
  if s.rd (DCH_RNKS.STATE c k) = rkReplaced then (s.rd (DCH_RNKS.BY_CHAN c k), s.rd (DCH_RNKS.BY_RANK c k)) else (c, k)

/-- Slabs of retired ranks and the homes of displaced carve-out slabs, as the rank map names them (R309 to R311). -/
def State.retiredSlabs (s : State) : List Nat :=
  let homes := (s.dch.crdMap.map (fun p => p.2 - 1)).filter (fun i => s.visible i)
  let ranks := (s.dch.rankMap.filter (fun p => p.2 % 16 == rkRetired + 1)).map (fun p => p.1)
  homes ++ ranks.flatMap (fun r =>
    ((List.range 65520).map (fun j => r / 4 * 65536 + j)).filter (fun i => s.visible i && s.slabRank i == r % 4))

/-- The rank that serves a slab is dead (R310). -/
def State.onDead (s : State) (slab : Nat) : Bool := let r := s.servingRank slab; s.rd (DCH_RNKS.STATE r.1 r.2) == rkDead

/-- The rank that a read of a sett is directed to: while a migration copies, the destination serves the setts already copied;
one that is uncorrectable there is read again from the source (R307). -/
def State.readRank (s : State) (sett : Nat) (bad : Bool) : Nat × Nat :=
  let slab := settSlab sett
  let r := s.servingRank slab
  match s.dch.mig with
  | some m =>
    let j := slab % 65536
    let p := s.rd (DCH_MIG_PTR.SLAB m.chan)
    let copied := decide (j < p) || (j == p && decide (sett % 64 < s.rd (DCH_MIG_PTR.SETT m.chan)))
    if r = (m.chan, m.rank) ∧ !m.retire ∧ copied ∧ !bad then (m.dstChan, m.dstRank) else r
  | none => r

/-- Key of a rank in the maps kept per rank. -/
def rankKey (c k : Nat) : Nat := c * 4 + k

/-- The ranks that a write to a sett goes to: while a migration copies, both for the setts already copied (R307). -/
def State.writeRanks (s : State) (sett : Nat) : List (Nat × Nat) := [s.readRank sett true, s.readRank sett false].dedup

/-- The bank key and the row of a line on a rank (R281, R285). -/
def State.bankRow (s : State) (r : Nat × Nat) (sett line : Nat) : Nat × Nat :=
  let slab := s.homeOf (settSlab sett)
  let off := sett % 64 * 65536 + line * 64
  let hi := slab % 65536 / 2
  let hi := if s.svOn PROFILE.TWO_RANK then hi / 2 else hi
  let st := 2 ^ s.sv PROFILE.STACK
  (((rankKey r.1 r.2 * 16 + hi % st) * 32) + off / 64 % 8 * 4 + off / 65536 % 4, hi / st * 16 + off / 262144 % 16)

/-- A bank's open row and predictor. -/
def State.bank (s : State) (key : Nat) : Bank := SMap.get Bank.fresh key s.dch.banks
def State.setBank (s : State) (key : Nat) (b : Bank) : State :=
  { s with dch := { s.dch with banks := SMap.put Bank.fresh key b s.dch.banks } }

/-- The predictor after the outcome of a request is known (R286). -/
def Bank.learn (b : Bank) (row : Nat) : Bank :=
  let o := if b.lastRow = row + 1 then 1 else 0
  let v := b.p.getD b.hist 0
  { b with
    p := b.p.set b.hist (if o = 1 then min (v + 1) 3 else v - 1)
    hist := (b.hist * 2 + o) % 16
    lastRow := row + 1 }

/-- A bank serves a column command: it finds its row open, or closes another one first; then the page mode says whether the row
stays open. Modes 1 and 2 use no predictor (R285 to R287). The result: the bank, hits, misses. -/
def Bank.serve (b : Bank) (mode row : Nat) : Bank × Nat × Nat :=
  let hit := if b.row = row + 1 then 1 else 0
  let miss := if b.row ≠ row + 1 ∧ b.row ≠ 0 then 1 else 0
  let b := if mode = 1 ∨ mode = 2 then { b with lastRow := row + 1 } else b.learn row
  let keep := match mode with
    | 1 => true
    | 2 => false
    | _ => decide (2 ≤ b.p.getD b.hist 0)
  ({ b with row := if keep then row + 1 else 0 }, hit, miss)

/-- Column commands to one row, one after another. -/
def Bank.serveAll (b : Bank) (mode row : Nat) : Nat → Bank × Nat × Nat
  | 0 => (b, 0, 0)
  | n + 1 =>
    let x := b.serve mode row
    let y := x.1.serveAll mode row n
    (y.1, x.2.1 + y.2.1, x.2.2 + y.2.2)

/-- The state of a channel that is awake: READY, or SPARE where no rank is in use (R313). -/
def State.awakeState (s : State) (c : Nat) : Nat :=
  if [0, 1, 2, 3].any (fun k => [1, 3, 4, 5].contains (s.rd (DCH_RNKS.STATE c k))) then 2 else 4

/-- A channel leaves self-refresh, if it is there. -/
def State.chanUp (s : State) (c : Nat) : State :=
  if s.rd (DCH_STATUS.STATE c) = 3 then s.wr (DCH_STATUS.STATE c) (s.awakeState c) else s

/-- Any request to a channel ends its self-refresh: the clocks restart and SRX is issued (R290, R291). -/
def State.wakeChan (s : State) (c : Nat) : State :=
  let s := { s with dch := { s.dch with lastReq := SMap.put 0 c (s.tick + 1) s.dch.lastReq } }
  s.chanUp c

/-- Close the open rows of a rank that meet a condition on the bank within its die (R287). -/
def State.closeRows (s : State) (c k : Nat) (p : Nat → Bool) : State :=
  s.forEach (s.dch.banks.filter (fun b => b.1 / 512 == rankKey c k && p (b.1 % 32)))
    (fun s b => s.setBank b.1 { s.bank b.1 with row := 0 })

/-- A channel enters self-refresh: every bank is precharged, then SRE (R287, R290, R291). -/
def State.chanSleep (s : State) (c : Nat) : State :=
  let s := s.forEach [0, 1, 2, 3] (fun s k => s.closeRows c k (fun _ => true))
  (s.wr (DCH_STATUS.STATE c) 3).addSat (DCH_SR_CNT.ENTRIES c) 1

/-- Every channel that runs enters self-refresh without the idle wait (R192 step 8, R290). -/
def State.dramSleep (s : State) : State :=
  s.forEach ((List.range 36).filter (fun c => [1, 2, 4, 5].contains (s.rd (DCH_STATUS.STATE c)))) (fun s c => s.chanSleep c)

/-- Column commands to a line on a rank, with the serving channel's page mode and counters (R285 to R287). -/
def State.columnOn (s : State) (sett line n : Nat) (r : Nat × Nat) : State :=
  let s := s.wakeChan r.1
  let br := s.bankRow r sett line
  let x := (s.bank br.1).serveAll (s.inForce (DCH_PRED.MODE r.1)) br.2 n
  ((s.addWrap (DCH_PRED_HIT.COUNT r.1) x.2.1).addWrap (DCH_PRED_MISS.COUNT r.1) x.2.2).setBank br.1 x.1

/-- The column command of a read of a line. -/
def State.column (s : State) (sett line : Nat) : State := s.columnOn sett line 1 (s.readRank sett false)

/-- The column commands of a write of a line. -/
def State.columnWr (s : State) (sett line : Nat) : State := s.forEach (s.writeRanks sett) (fun s r => s.columnOn sett line 1 r)

/-- The column commands of a write of a whole sett: 128 lines in each bank group (R281). -/
def State.columnSett (s : State) (sett : Nat) : State :=
  s.forEach (s.writeRanks sett) (fun s r => s.forEach (List.range 8) (fun s g => s.columnOn sett g 128 r))

/-- A line that failed its read-back is written whole, or every line of a sett: it need not fail again (R301). -/
def State.clearHard (s : State) (p : Nat → Bool) : State :=
  { s with dch := { s.dch with hard := s.dch.hard.filter (fun x => !p x.1) } }
def State.wholeLine (s : State) (k l : Nat) : State := (s.columnWr k l).clearHard (fun x => x == k * 1024 + l)
def State.wholeSett (s : State) (k : Nat) : State := (s.columnSett k).clearHard (fun x => x / 1024 == k)

/-- The channel engine writes zeros, or the poison pattern, over a line or a sett; or a sett's contents. -/
def State.engineZeroLine (s : State) (k l : Nat) : State := (s.wholeLine k l).writeLine k l 0 fullMask
def State.enginePoison (s : State) (k l : Nat) : State := (s.wholeLine k l).writePoison k l
def State.engineZero (s : State) (k : Nat) : State := (s.wholeSett k).zeroDram k
def State.enginePoisonSett (s : State) (k : Nat) : State := (s.wholeSett k).poisonDram k
def State.engineSett (s : State) (k : Nat) (d : SMap Byte) (p : BitVec 1024) : State := (s.wholeSett k).setSett k d p

/-! ### Counting errors per rank -/

/-- A face owns slabs on a rank (R330). -/
def State.faceOnRank (s : State) (f c k : Nat) : Bool :=
  let onBlock (b : Nat) : Bool := (s.blockSlabs b).any (fun i => decide (slabChan i = c) && decide (s.slabRank i = k))
  (List.range (s.sv (FACES.STATIC_BLOCKS f))).any (fun b => onBlock (s.sv (FACES.STATIC_BASE f) + b)) ||
  (s.port f).extents.any (fun e => e.accepted && e.pool.any onBlock)

/-- A DRAM record to each face whose slabs lie on a rank that is migrated, retired or found dead (R330). -/
def State.dramRecords (s : State) (c k : Nat) : State :=
  s.postFaces (fun f => s.faceOn f && s.faceOnRank f c k) logWarn (fun _ _ => .dramRank c k)

/-- Source and destination as they were before the migration; a dead one stays dead. -/
def State.endMig (s : State) (m : Mig) : State :=
  s.when (s.rd (DCH_RNKS.STATE m.chan m.rank) == 4) (fun s => s.wr (DCH_RNKS.STATE m.chan m.rank) 1)
    |>.when (s.rd (DCH_RNKS.STATE m.dstChan m.dstRank) == 5) (fun s => s.wr (DCH_RNKS.STATE m.dstChan m.dstRank) 2)

/-- A migration whose source or destination dies makes no COMMIT (R308). -/
def State.dropMig (s : State) (c k : Nat) : State :=
  match s.dch.mig with
  | some m =>
    if (m.chan = c ∧ m.rank = k) ∨ (m.dstChan = c ∧ m.dstRank = k) then
      let s := (s.setLock (m.chan * 65536 + s.rd (DCH_MIG_PTR.SLAB m.chan)) 13 false).wr (DCH_MIG_CTL.PHASE m.chan) 0
      let s := s.endMig m
      { s with dch := { s.dch with mig := none } }
    else s
  | none => s

/-- A rank is found dead at run time; a migration that it belongs to ends (R308, R310). -/
def State.rankDead (s : State) (c k : Nat) : State :=
  (((s.dropMig c k).wr (DCH_RNKS.STATE c k) 8).raise (6 * c + 2)).dramRecords c k

/-- The count that has just gone up by one reaches its limit for the first time in the window (R303, R513, R516). -/
def State.crosses (s : State) (src key cur limit : Nat) : Bool :=
  let p := s.prevCount src key
  decide ((if p < limit then p else 0) + cur = limit)

/-- Count a correction on a device of a rank (R283, R303, R304). -/
def State.countCorrected (s : State) (c k dev : Nat) : State :=
  let s := s.dramRoll
  let key := rankKey c k * 16 + dev
  let n := SMap.get 0 key s.dch.devCe + 1
  let e := SMap.get 0 key s.dch.eqCe + 1
  let s := { s with dch := { s.dch with
    devCe := SMap.put 0 key n s.dch.devCe, eqCe := SMap.put 0 key e s.dch.eqCe
    ueRun := SMap.put 0 (rankKey c k) 0 s.dch.ueRun, periodCe := s.dch.periodCe + 1
    ceTotal := SMap.put 0 (rankKey c k) (SMap.get 0 (rankKey c k) s.dch.ceTotal + 1) s.dch.ceTotal } }
  let s := s.addSat (DCH_RCE.WIN c k) 1
  let s := s.addWrap (DCH_RCT.TOTAL c k) 1
  let s := if s.rd (DCH_RCE.DEVWIN c k) < n then
      (s.wr (DCH_RCE.DEVWIN c k) (min n 65535)).wr (DCH_RNKS.WORSTDEV c k) dev else s
  let cur := s.rd (DCH_RCE.WIN c k)
  let cr := s.crosses (6 * c) (rankKey c k * 16 + 14) cur s.ceRank
  let cd := s.crosses (6 * c) key n s.ceDev
  let s := if cr then s.wr (DCH_RNKS.CE_OVER c k) 1 else s
  let s := if cd then s.wr (DCH_RNKS.DEV_OVER c k) 1 else s
  s.raiseIf (cr || cd) (6 * c)

/-- A read of a rank that was not uncorrectable ends a run of uncorrectable ones (R310). -/
def State.endUeRun (s : State) (c k : Nat) : State :=
  { s with dch := { s.dch with ueRun := SMap.put 0 (rankKey c k) 0 s.dch.ueRun } }

/-- Record where the last uncorrectable line of a channel lay (R298, DCH_UE_LINE, DCH_UE_INFO). -/
def State.noteUe (s : State) (c k sett line case_ : Nat) : State :=
  s |>.wr (DCH_UE_LINE.LINE c) (sett % 4194304 * 1024 + line)
    |>.wr (DCH_UE_INFO.CASE c) case_ |>.wr (DCH_UE_INFO.RANK c) k |>.raiseQ (6 * c + 1) (case_ == 4)

/-- The consecutive uncorrectable reads of a rank so far (R310). -/
def State.ueRunOf (s : State) (c k : Nat) : Nat := SMap.get 0 (rankKey c k) s.dch.ueRun

/-- Count an uncorrectable line of a rank; a long run of them makes the rank dead (R298, R303, R304, R310). -/
def State.countUncorrected (s : State) (c k sett line case_ : Nat) : State :=
  let s := s.dramRoll
  let run := s.ueRunOf c k + 1
  let full := s.crosses (6 * c + 1) (rankKey c k * 16 + 15) (s.rd (DCH_RUE.WIN c k) + 1) s.ueRank
  let s := { s with dch := { s.dch with ueRun := SMap.put 0 (rankKey c k) run s.dch.ueRun } }
  s |>.addSat (DCH_RUE.WIN c k) 1 |>.addSat (DCH_RUE.TOTAL c k) 1 |>.noteUe c k sett line case_
    |>.when full (fun s => (s.wr (DCH_RNKS.UE_OVER c k) 1).raise (6 * c + 1))
    |>.when (run == s.deadRun) (fun s => s.rankDead c k)

/-! ### Reading a line -/

/-- What the requester of a read gets (R283, R298). -/
inductive LineRes where
  | data (d : Line)
  | poison
  /-- the line is held for a repair (R299, R300) -/
  | repair
  deriving DecidableEq, Repr

/-- A repair that holds a line (R299). -/
def State.repairOf (s : State) (k l : Nat) : Option Repair :=
  s.dch.repairs.find? (fun r => (r.sett == k) && (r.line == l))

/-- A repair is over; the accesses that waited for its line go on (R299). -/
def State.dropRepair (s : State) (k l : Nat) : State :=
  { s with dch := { s.dch with repairs := s.dch.repairs.filter (fun r => !(r.sett == k && r.line == l)) } }

/-- A save abandons a repair: under the fresh flag the line is written with poison and reported, else it stays as it is (R302). -/
def State.abandonRepair (s : State) (r : Repair) : State :=
  let s := s.dropRepair r.sett r.line
  if r.fresh then (s.enginePoison r.sett r.line).reportPoison r.sett r.line (some r.who) else s

/-- The first device of an error mask. -/
def firstDev (devs : Nat) : Nat := (lowestBit 0 10 devs).getD 0

/-- An uncorrectable line of a host-visible sett in this state: zeros, a repair from flash, or poison (R298). -/
def State.uncorrectable (s : State) (k l devs : Nat) (st : SettState) (fresh : Bool) (who : Nat) : State × LineRes :=
  match st with
  | .zero => ((s.engineZeroLine k l).column k l, .data 0)
  | .clean =>
    if (s.repairOf k l).isSome then (s, .repair)
    else ({ s with dch := { s.dch with repairs := s.dch.repairs ++ [⟨k, l, s.loc k, fresh, false, devs, false, who⟩] } }, .repair)
  | .dirty => ((s.enginePoison k l).reportPoison k l (some who), .poison)
  | .lost => (s.enginePoison k l, .poison)

/-- The region of a carve-out line: the row of R298 it belongs to (R91). -/
def carveCase (slab off : Nat) : Nat :=
  let o := (slab % 65536 - 65520) * 4194304 + off
  if o < 0x1000000 then 4 else if o < 0x1100000 then 7 else if o < 0x2000000 then 6
  else if o < 0x2100000 then 8 else if o < 0x21C0000 then 5 else 9

/-- The code of R298's row for a sett state. -/
def caseOf : SettState → Nat
  | .zero => 0 | .clean => 1 | .dirty => 2 | .lost => 3

/-- Rings whose contexts a carve-out line of a channel holds (R376). -/
def lineRings (c o : Nat) : List Nat :=
  if 0x1000000 ≤ o ∧ o < 0x10E4000 then [c + 36 * ((o - 0x1000000) / 128)].filter (fun r => decide (r < 262144)) else []

/-- Blocks whose entries lie in carve-out lines that a condition picks lose what only their entries tell: read counts, read levels and
error history; erases, remaps and states stand as NAND and the journal give them (R229, R298; entry 138). -/
def State.loseBlks (s : State) (p : Nat → Bool) : State :=
  let f (x : Nat × Blk) : Nat × Blk :=
    if p (Config.bitLine x.1) then (x.1, { x.2 with reads := 0, lv := Blk.fresh.lv, cwmax := 0, retries := 0 }) else x
  { s with stk := { s.stk with blks := (s.stk.blks.map f).filter (fun x => x.2 != Blk.fresh) } }

/-- What an uncorrectable carve-out line leads to beside its counting: a poison table sets its face's overflow and loses the records it
held, rings are reset, and block entries are rebuilt (R298). -/
def State.carveLoss (s : State) (slab off : Nat) : State :=
  let o := (slab % 65536 - 65520) * 4194304 + off
  let c := slabChan slab
  if 0x2000000 ≤ o ∧ o < 0x2100000 then
    let i := (o - 0x2000000) / 64 * 4
    let q := s.port c
    s.when (decide (c < 6)) (fun s =>
      s.setPort c { q with poison := q.poison.take i ++ q.poison.drop (i + 4), poisonOvf := true, poisonOvfTick := s.stampNow })
  else if 0x1100000 ≤ o ∧ o < 0x2000000 then s.loseBlks (fun x => x == c * 1048576 + o / 64)
  else s.forEach (lineRings c o) (fun s r => s.setRing r { Ring.fresh with err := 5 })

/-- The sett may be used: its slab is Resident, or its fetch has written it (R267). -/
def State.settHome (s : State) (k : Nat) : Bool :=
  let i := settSlab k
  match (s.slab i).rstate with
  | 0 => true
  | 2 => s.res.fetch.any (fun f => f.slab == i && f.done.getLsbD (k % 64))
  | _ => false

/-- An uncorrectable line is counted and handled by what it belongs to (R298). -/
def State.badLine (s : State) (k l devs : Nat) (r : Nat × Nat) (st : SettState) (fresh : Bool) (who : Nat) : State × LineRes :=
  let slab := settSlab k
  if slabCarve slab then
    let off := k % 64 * 65536 + l * 64
    let s := s.countUncorrected r.1 r.2 k l (carveCase slab off)
    (s.carveLoss slab off, .poison)
  else
    let s := s.countUncorrected r.1 r.2 k l (caseOf st)
    if (s.slab slab).retire then (s.enginePoison k l, .poison)
    else s.uncorrectable k l devs st fresh who

/-- The devices in error that a read found: bits 9 to 0 of the operand, and of a second read from a migration's source bits 19 to 10. A
dead rank answers no read (R307, R310). -/
def State.devsAt (s : State) (r : Nat × Nat) (k l devs : Nat) : Nat :=
  if s.rd (DCH_RNKS.STATE r.1 r.2) = rkDead || SMap.get false (k * 1024 + l) s.dch.hard then 0x3FF else devs % 1024

/-- The rank that a sett is read from answers: it is not DEAD (R307, R310). -/
def State.rankAnswers (s : State) (k : Nat) : Bool :=
  let r := s.readRank k false
  s.rd (DCH_RNKS.STATE r.1 r.2) != rkDead

/-- What the engine makes of a line on a rank (R283): one device in error is corrected, and two or more are found uncorrectable, as
`rsDecode` finds of the line's codeword (R282). POISON returns poison and counts nothing; a corrected line is counted and
written back. An uncorrectable line of a sett that its fetch has not yet written is left alone (R407). -/
def State.readOn (s : State) (r : Nat × Nat) (k l devs : Nat) (st : SettState) (fresh : Bool) (who : Nat) : State × LineRes :=
  let n := popCount 10 (s.devsAt r k l devs)
  if n < 2 then
    if s.poisoned k l then (s.endUeRun r.1 r.2, .poison)
    else if n = 1 then ((s.countCorrected r.1 r.2 (firstDev (devs % 1024))).columnWr k l, .data (s.lineAt k l))
    else (s.endUeRun r.1 r.2, .data (s.lineAt k l))
  else if !s.settHome k then (s, .data (s.lineAt k l))
  else s.badLine k l devs r st fresh who

/-- A line read by its channel engine (R283): `devs` names the devices in error, `st` the sett's state for R298. A line whose
read-back failed after a repair fails again (R301). What a migration's destination cannot give is read from the source (R307). `who` is the
transaction type (R330). -/
def State.readAs (s : State) (k l devs : Nat) (st : SettState) (fresh : Bool) (who : Nat := txInternal) : State × LineRes :=
  let r := s.readRank k false
  let src := s.readRank k true
  let s := s.column k l
  if r ≠ src ∧ 2 ≤ popCount 10 (s.devsAt r k l devs) then (s.columnOn k l 1 src).readOn src k l (devs / 1024) st fresh who
  else s.readOn r k l devs st fresh who

/-- A line read for a requester other than a partial write. -/
def State.readLine (s : State) (k l devs : Nat) (who : Nat := txInternal) : State × LineRes := s.readAs k l devs (s.settState k) false who

/-- A line written by its channel engine: the access reaches the bank like any column command. -/
def State.engineWrite (s : State) (k l : Nat) (d : Line) (mask : BitVec 64) (poison : Bool) : State :=
  (s.columnWr k l).storeLine k l d mask poison

end Sys2Proof.Machine
end

