-- ==== Sys2Proof/Machine/GalBase.lean ====
section
/-! DEFINITION. Sending on the Gallery and marking slabs for resilver: what every write lookup of a pair needs
(chapter 15). -/

namespace Sys2Proof.Machine

def secTwin : Nat := 0x38
def TWIN.ROLE : SFld := ⟨secTwin, 0, 0, 1⟩
def TWIN.GL_EN (l : Nat) : SFld := ⟨secTwin, 0, 1 + l, 1⟩
def TWIN.AUTO_TAKEOVER : SFld := ⟨secTwin, 0, 3, 1⟩
def TWIN.PAIR_ID : SFld := ⟨secTwin, 4, 0, 32⟩
def TWIN.HB_MISS : SFld := ⟨secTwin, 8, 0, 8⟩
def TWIN.GRACE : SFld := ⟨secTwin, 8, 8, 8⟩
def TWIN.JOIN_WAIT : SFld := ⟨secTwin, 8, 16, 16⟩
def TWIN.RSLV_RATE : SFld := ⟨secTwin, 12, 0, 12⟩

/-- Codes of GAL_STATUS.MODE (R460). -/
def modeAlone : Nat := 0
def modeJoining : Nat := 1
def modePaired : Nat := 2
def modeSingle : Nat := 3
def modeFenced : Nat := 4
def modeRslvSrc : Nat := 5
def modeRslvDst : Nat := 6
def modeLeft : Nat := 7

def State.galMode (s : State) : Nat := s.rd GAL_STATUS.MODE

/-- Writes of this sled are mirrored: the sled is paired, or is the survivor of a resilver (R440, R454). -/
def State.mirrors (s : State) : Bool := s.galMode == modePaired || s.galMode == modeRslvSrc

/-- Some Gallery link is up and has passed its HELLO: it carries messages (R435). -/
def State.galUp (s : State) : Bool := [0, 1].any (fun l => bitAt l (s.rd GAL_STATUS.LINKS) && s.gal.hello.getD l false)

/-- This sled keeps a pool block: its role's half of the blocks, or every block when it serves alone or resilvers the
twin (R439, R454). -/
def State.keeps (s : State) (b : Nat) : Bool :=
  if s.galMode == modePaired then b % 2 == s.sv TWIN.ROLE else true

/-- This sled keeps the block of a slab. -/
def State.keepsSlab (s : State) (i : Nat) : Bool := s.keeps ((s.slabBlock i).getD 0)

/-- Send an unordered message (R438). -/
def State.galSend (s : State) (typ face sub seq addr : Nat) (lines : List Line) (words : List Nat) (mask : BitVec 64) :
    State := s.send (.gal ⟨typ, face, sub, seq, addr, lines, words, mask⟩)

/-- The window of this sled's stream has a place (R441). -/
def State.galRoom (s : State) : Bool := decide (s.gal.sent.length < 65536)

/-- Send an ordered message: it takes the next SEQ and stays in the window until it is acknowledged (R441). -/
def State.galOrdered (s : State) (m : GalMsg) (typ face sub addr : Nat) (lines : List Line) (words : List Nat)
    (mask : BitVec 64) : State :=
  let seq := s.rd GAL_TXSEQ.SEQ
  let s := { s with gal := { s.gal with sent := s.gal.sent ++ [GalOut.mk seq m] } }
  (s.galSend typ face sub seq addr lines words mask).addWrap GAL_TXSEQ.SEQ 1

/-- The SEQ that the next ordered message takes. -/
def State.galNext (s : State) : Nat := s.rd GAL_TXSEQ.SEQ

/-- Acknowledge the twin's stream: every message below GAL_RXSEQ is looked up but those that wait here (R438). -/
def State.galAck (s : State) : State :=
  let next := s.rd GAL_RXSEQ.SEQ
  let held := s.gal.held.filter (fun h => h.kind != 2 && h.kind != 4)
  let first := match held with
    | [] => next
    | h :: _ => h.seq
  let cum := (first + 4294967295) % 4294967296
  let word (w : Nat) : Nat := (List.range 32).foldl (fun a i =>
    let q := (first + w * 32 + i) % 4294967296
    if (next + 4294967296 - q) % 4294967296 = 0 ∨ 2147483648 ≤ (next + 4294967296 - q) % 4294967296 then a
    else if held.any (fun h => h.seq == q) then a else a + 2 ^ i) 0
  s.galSend 6 0 0 cum 0 [] ((List.range 16).map word) 0

/-- Set RSLV on a slab; GAL_RSLV counts the slabs that carry it (R95, R448). -/
def State.setRslv (s : State) (i : Nat) : State :=
  if (s.slab i).rslv then s else (s.setLock i 17 true).wr GAL_RSLV.SLABS (s.rd GAL_RSLV.SLABS + 1)

/-- Clear RSLV on a slab. -/
def State.clrRslv (s : State) (i : Nat) : State :=
  if (s.slab i).rslv then (s.setLock i 17 false).wr GAL_RSLV.SLABS (s.rd GAL_RSLV.SLABS - 1) else s

/-- A lookup, zeroing or release that changes a sett of a sled in single-sled mode marks the slab (R448 step 4). -/
def State.touch (s : State) (k : Nat) : State := if s.galMode = modeSingle then s.setRslv (settSlab k) else s

end Sys2Proof.Machine
end

