-- ==== Sys2Proof/Machine/SlabOps.lean ====
section
/-! DEFINITION. Bank operations that more than one family uses: SRAM errors, heat, sett transitions, and the fetch
promotion of slabs that are not home (chapters 04 and 09). -/

namespace Sys2Proof.Machine

/-- What an access's read of a slab entry finds in the SRAM (R122, R123). An uncorrectable mask word turns all ones; an
uncorrectable slab word stays as it was read, its reserved bits 0, with RETIRE and RELQ set. -/
def State.sramErr (s : State) (i : Nat) (e : SramErr) : State :=
  let ue (s : State) : State := ((s.wr SLB_ECC.UE_SEEN 1).wr SLB_UE_IDX.INDEX i).raise 684
  match e with
  | .none => s
  | .corrected =>
    let n := s.rd SLB_ECC.CE_COUNT + 1
    (s.addSat SLB_ECC.CE_COUNT 1).raiseIf (n % 1024 == 0 && decide (n < 65536)) 685
  | .maskLo => ue (s.setMask i ((s.slab i).mask ||| 0xFFFFFFFF))
  | .maskHi => ue (s.setMask i ((s.slab i).mask ||| 0xFFFFFFFF00000000))
  | .word v =>
    let s := s.setSlab i { s.slab i with word := v &&& 0xFFFFF }
    ue ((s.setLock i 19 true).setLock i 16 true)

/-- A host or Gallery access may raise the slab's HEAT by one, with a chance of 1 in 2^⌊HEAT / 8⌋ (R111; the draw is a
free value, entry 3). -/
def State.raiseHeat (s : State) (i : Nat) : State :=
  if s.on SLB_HEATCFG.ENABLE then
    let h := (s.slab i).heat
    let d := s.draw (2 ^ (h / 8))
    if d.1 = 0 then d.2.setHeat i (min (h + 1) 255) else d.2
  else s

/-- Every sett of the slab is Zero and none is in the in-flight table (R114). -/
def State.slabZero (s : State) (i : Nat) : Bool :=
  (List.range 64).all (fun n => decide (s.settState (i * 64 + n) = .zero)) && !s.slb.ift.any (fun h => settSlab h.sett == i)

/-! ### Fetch table and demand queue (R267, R270) -/

/-- A slab takes a fetch-table entry and becomes Fetching (R267). -/
def State.takeFetch (s : State) (i why want : Nat) : State :=
  let s := s.setRstate i 2
  { s with res := { s.res with fetch := s.res.fetch ++ [Fetch.mk i why want 0] } }
    |>.addSat RES_FETCHING.SLABS 1 |>.wr RES_UNREST.SLABS (s.rd RES_UNREST.SLABS - 1)

/-- The entry of the demand queue that is served next: in arrival order, ports taken round-robin after the one served
last (R270). -/
def State.nextDemand (s : State) : Option (Nat × Nat) :=
  ((List.range 8).map (fun i => (s.res.lastPort + 1 + i) % 8)).findSome? (fun p => s.res.demand.find? (fun d => d.1 == p))

/-- Serve the demand queue while the fetch table has room (R267, R270). -/
def State.serveDemand (s : State) : Nat → State
  | 0 => s
  | n + 1 =>
    if s.res.fetch.length < 1024 then
      match s.nextDemand with
      | none => s
      | some d =>
        let s := { s with res := { s.res with lastPort := d.1, demand := s.res.demand.erase d } }
        let s := if (s.slab (settSlab d.2)).rstate = 1 then s.takeFetch (settSlab d.2) 1 d.2 else s
        s.serveDemand n
    else s

/-- A host access promotes a slab: it joins the demand queue, or its running fetch becomes a demand fetch (R270, R277). -/
def State.promote (s : State) (port k : Nat) : State :=
  let i := settSlab k
  match (s.slab i).rstate with
  | 1 =>
    if s.res.demand.any (fun d => settSlab d.2 == i) then s
    else
      let s := { s with res := { s.res with demand := s.res.demand ++ [(port, k)] } }
      (s.addWrap RES_DEMAND.COUNT 1).serveDemand 8
  | 2 => { s with res := { s.res with fetch := s.res.fetch.map (fun f =>
      if f.slab = i ∧ f.why ≠ 1 then { f with why := 1, want := k } else f) } }
  | _ => s

end Sys2Proof.Machine
end

