-- ==== Sys2Proof/Machine/JobOps.lean ====
section
/-! DEFINITION. Rings, their owners and interrupts, and what a written completion leads to (chapter 12). -/

namespace Sys2Proof.Machine

def secRings : Nat := 0x14

/-- Ring states (R379). -/
def rgDisabled : Nat := 0
def rgEnabled : Nat := 1
def rgDraining : Nat := 2
def rgHalted : Nat := 3

/-- The face that the RINGS section gives a ring (R71, R353). -/
def State.ringFace (s : State) (r : Nat) : Option Nat :=
  let b := svByte s.svy.run secRings (r / 1024)
  if r < 262144 ∧ bitAt 7 b then some (b % 8) else none

/-- Entries of a ring (R354). -/
def Ring.size (c : Ring) : Nat := 2 ^ c.log2

/-- Jobs of a ring that have started and not completed, in index order. -/
def State.ringJobs (s : State) (r : Nat) : List Job := s.job.jobs.filter (fun j => j.ring == r)

/-- A word of a context, with its owner face, its running jobs and whether it is cached (R390). -/
def Ring.ctxWord (c : Ring) (face running : Nat) (cached : Bool) (i : Nat) : Nat :=
  match i with
  | 0 => c.st % 8 + c.err % 256 * 256 + c.log2 % 16 * 2 ^ 16 + face % 8 * 2 ^ 20 + c.vector % 64 * 2 ^ 24
  | 1 => c.sqHead % 65536 + c.sqTail % 65536 * 65536
  | 2 => c.cqTail % 65536 + c.cqHead % 65536 * 65536
  | 3 => c.sqBase % 2 ^ 32
  | 4 => c.sqBase / 2 ^ 32 % 2 ^ 32
  | 5 => c.cqBase % 2 ^ 32
  | 6 => c.cqBase / 2 ^ 32 % 2 ^ 32
  | 7 => running % 8 + c.imod % 256 * 256 + cached.toNat * 2 ^ 16
  | 8 => c.done % 2 ^ 32
  | 9 => c.errors % 2 ^ 32
  | _ => 0

/-- What step 2 of a save writes of the rings into the carve-outs (R378). -/
def State.ringCopy (s : State) : RingCopy :=
  { rings := s.job.rings
    lost := s.job.lost
    owners := (List.range 256).map (fun b => (s.ringFace (b * 1024)).getD 7)
    running := s.job.jobs.foldl (fun m j => SMap.put 0 j.ring (SMap.get 0 j.ring m + 1) m) []
    cached := s.job.cache }

/-- The context of a ring in a copy, and a word of it. -/
def RingCopy.base (x : RingCopy) : Ring := if x.lost then { Ring.fresh with err := 5 } else Ring.fresh
def RingCopy.ring (x : RingCopy) (r : Nat) : Ring := SMap.get x.base r x.rings
def RingCopy.word (x : RingCopy) (r i : Nat) : Nat :=
  (x.ring r).ctxWord (x.owners.getD (r / 1024) 7) (SMap.get 0 r x.running) (x.cached.contains r) i

/-- Rings of a copy whose contexts are lost: reset, with ERR CONTEXT (R298, R381). -/
def RingCopy.lose (x : RingCopy) (l : List Nat) : RingCopy :=
  { x with rings := l.foldl (fun m r => SMap.put x.base r { Ring.fresh with err := 5 } m) x.rings }

/-- A context whose ring is DISABLED: indices at 0, latches cleared (R383, R387). -/
def Ring.disabled (c : Ring) : Ring :=
  { c with
    st := rgDisabled
    err := 0
    sqHead := 0
    sqTail := 0
    cqTail := 0
    cqHead := 0
    pend := false
    irqDue := false
    irqRun := false }

/-- A ring becomes DISABLED; a DISABLE that waits for it returns (R383). -/
def State.disableRing (s : State) (r : Nat) : State :=
  let f := (s.ringFace r).getD 7
  let draining := (s.ring r).st == rgDraining
  let s := s.setRing r (s.ring r).disabled
  if draining ∧ (s.port f).bg = some 0xC100 ∧ s.fwm.openCmds.contains (f, 0xC100) then
    let s := s.setPort f { s.port f with bg := none, bgLast := 0xC100, bgRet := 0 }
    let s := { s with fwm := { s.fwm with openCmds := s.fwm.openCmds.erase (f, 0xC100) } }
    s.send (.reply f 0xC100 .success [0, rgDisabled])
  else s

/-- A completion with NOTIFY asks for the ring's interrupt; within IMOD of the last one it is merged (R386). -/
def State.notifyRing (s : State) (r : Nat) : State :=
  let c := s.ring r
  match s.ringFace r with
  | none => s
  | some f =>
    if c.st ≠ rgEnabled ∨ c.vector = 0 then s
    else if c.imod = 0 then s.send (.msix f c.vector)
    else if c.irqRun then s.setRing r { c with irqDue := true }
    else (s.setRing r { c with irqRun := true }).send (.msix f c.vector)

/-- RING_INTERRUPT_COALESCE_EXPIRY (R386). -/
def State.doCoalesce (s : State) (r : Nat) : State :=
  let c := s.ring r
  if c.irqRun then
    if c.irqDue then
      let s := s.setRing r { c with irqDue := false }
      match s.ringFace r with
      | some f => s.send (.msix f c.vector)
      | none => s
    else s.setRing r { c with irqRun := false }
  else s

/-- The counts that a completion moves (R384, R388). -/
def State.countCompletion (s : State) (r st : Nat) : State :=
  let c := s.ring r
  let bad := decide (st ≠ 0)
  let s := s.setRing r { c with
    cqTail := (c.cqTail + 1) % 65536
    done := (c.done + 1) % 4294967296
    errors := if bad then (c.errors + 1) % 4294967296 else c.errors }
  (s.addWrap JOB_DONE.COUNT 1).when bad (fun s =>
    ((s.addWrap JOB_ERR.COUNT 1).wr JOB_LASTERR.RING r).wr JOB_LASTERR.STATUS st)

/-- The completion of a job stands in its CQ slot: the job is over (R361, R372, R383, R386, R402). -/
def State.jobOver (s : State) (j : Job) (st : Nat) : State :=
  let s := { s with job := { s.job with jobs := s.job.jobs.filter (fun x => !(x.ring == j.ring && x.idx == j.idx)) } }
  let s := (s.countCompletion j.ring st).when j.notify (fun s => s.notifyRing j.ring)
  if j.op = 8 ∧ st = 0 then s.disableRing j.ring
  else if (s.ring j.ring).st = rgDraining ∧ (s.ringJobs j.ring).isEmpty then s.disableRing j.ring
  else s

/-- The ring number under which the Job engine parks a line of a ring's fresh completion ring. -/
def initRing (r : Nat) : Nat := 262144 + r

/-- A write of a job, or of a fresh completion ring, has been made: the job goes on with its next line, or its completion is written
(R158, R361). -/
def State.jobWrote (s : State) (r idx : Nat) : State :=
  let wrote (x : RingInit) : RingInit := if initRing x.ring = r then { x with parked := false, pos := x.pos + 1 } else x
  let s := { s with job := { s.job with inits := s.job.inits.map wrote } }
  match s.job.jobs.find? (fun j => j.ring == r && j.idx == idx) with
  | none => s
  | some j =>
    match j.fin with
    | some x => s.jobOver j x.1
    | none =>
      let upd (w : Job) : Job := if w.ring = r ∧ w.idx = idx then { w with parked := false, pos := w.pos + 1 } else w
      { s with job := { s.job with jobs := s.job.jobs.map upd } }

/-- Parked writes of the Job engine have gone without effect: their jobs, and their fresh completion rings, go on (R158, R361). -/
def State.freeJobs (s : State) (l : List Parked) : State :=
  let job (j : Job) : Job := if l.any (fun p => p.ring == j.ring && p.idx == j.idx) then { j with parked := false } else j
  let init (x : RingInit) : RingInit := if l.any (fun p => p.ring == initRing x.ring) then { x with parked := false } else x
  { s with job := { s.job with jobs := s.job.jobs.map job, inits := s.job.inits.map init } }

/-- Slabs with PIN set (JOB_PINNED). -/
def State.pinned (s : State) : Nat := (s.slb.slabs.filter (fun p => p.2.pin)).length

/-- A slab leaves its face: it is in no pin record (R324, R367). -/
def State.unpinSlab (s : State) (i : Nat) : State :=
  { s with job := { s.job with pins := s.job.pins.map (fun p => { p with slabs := p.slabs.filter (fun x => x != i) }) } }

end Sys2Proof.Machine
end

