-- ==== Sys2Proof/Machine/PortOps.lean ====
section
/-! DEFINITION. Write lookups, admission and parking, and what is answered to a host (chapters 02, 06, 09, 11, 13, 15). -/

namespace Sys2Proof.Machine

/-! ### A port's buffer and queue -/

/-- The write of a port that carries a tag. -/
def State.write? (s : State) (p tag : Nat) : Option WEnt := (s.port p).wbuf.find? (fun e => e.tag == tag)

/-- Replace the write that carries the entry's tag. -/
def State.setWrite (s : State) (p : Nat) (e : WEnt) : State :=
  let q := s.port p
  s.setPort p { q with wbuf := q.wbuf.map (fun x => if x.tag = e.tag then e else x) }

/-- Take the write that carries a tag out of the buffer. -/
def State.dropWrite (s : State) (p tag : Nat) : State :=
  let q := s.port p
  s.setPort p { q with wbuf := q.wbuf.filter (fun x => x.tag != tag) }

/-- Entries of a port's fresh queue (R155, ADM_FQp.COUNT). -/
def State.fqCount (s : State) (p : Nat) : Nat := ((s.port p).wbuf.filter (fun e => e.wait == .parked)).length

/-- Writes of a port that wait for fetches (R272, RES_FWAITp). -/
def State.fetchWaits (s : State) (p : Nat) : Nat := ((s.port p).wbuf.filter (fun e => e.wait == .fetch)).length

/-- A port withholds RwD credits (R157, R272, R403). -/
def State.credHeld (s : State) (p : Nat) : Bool :=
  let q := s.port p
  q.creditQ || q.creditF || decide (4096 ≤ q.wbuf.length)

/-- DevLoad of a port (R319). -/
def State.devLoad (s : State) (p : Nat) : Nat :=
  let n := (s.port p).wbuf.length
  if s.credHeld p then 3 else if 0 < s.fqCount p ∨ 3072 ≤ n then 2 else if 1024 ≤ n then 1 else 0

/-- CXL.mem credits that a port advertises, of each kind: M2S Req and M2S RwD (R316). -/
def portCredits : Nat := 1024

/-- Start or stop withholding RwD credits: at a full fresh queue until LOW_WATER, and at RES_WAIT.HIGH writes waiting for
fetches until RES_WAIT.LOW; the start raises the port's source, and with the end the credits that were held back return (R157, R272, R316,
R352). -/
def State.updCredits (s : State) (p : Nat) : State :=
  let was := s.credHeld p
  let q := s.port p
  let n := s.fqCount p
  let w := s.fetchWaits p
  let cq := if q.creditQ then decide (s.rd ADM_FQCFG.LOW_WATER < n) else decide (512 ≤ n)
  let cf := if q.creditF then decide (s.rd RES_WAIT.LOW < w) else decide (s.rd RES_WAIT.HIGH ≤ w)
  let s := s.setPort p { q with creditQ := cq, creditF := cf }
  let s := if s.credHeld p then s else s.setPort p { s.port p with owed := 0 }
  let s := s.setBit ADM_STATUS.HELD p (s.credHeld p)
  s.raiseIf (s.credHeld p && !was) (508 + 8 * p)

/-! ### Completion -/

/-- Tags of a line change that a mailbox command makes through the port: this number plus its opcode (a host's tags have 16
bits). Inject Poison and Clear Poison are looked up and admitted like a full write (R31, R24; DEDUCED 21). -/
def mailTag : Nat := 65536

/-- A line change of the mailbox has passed its lookup: the table follows it, and the command returns (R37, R38, R335, R400). -/
def State.mailDone (s : State) (p op dpa : Nat) : State :=
  let s := if op = 0x4301 then s.addPoison p (dpa / 64) 1 true else s.delPoison p (dpa / 64)
  if s.fwm.openCmds.contains (p, op) then
    ({ s with fwm := { s.fwm with openCmds := s.fwm.openCmds.erase (p, op) } }).send (.reply p op .success [])
  else s

/-- Complete a write to its host (R21, R23); one whose data is in DRAM already leaves the buffer. -/
def State.complete (s : State) (p tag : Nat) : State :=
  match s.write? p tag with
  | none => s
  | some e =>
    if e.done then s
    else
      let s := if e.wait = .drained then s.dropWrite p tag else s.setWrite p { e with done := true }
      if mailTag ≤ tag then s.mailDone p (tag - mailTag) e.dpa
      else
        let s := if (s.port p).perst || !s.on (HPT_STATUS.LINK_UP p) then s else (s.send (.cmp p tag)).send (.devLoad p tag (s.devLoad p))
        s.addWrap (HPT_CNT_WR.COUNT p) 1

/-- The sett's state before a write's own admission, which the read of a partial write under the fresh flag acts on (R298). -/
def State.stateBefore (s : State) (e : WEnt) : SettState :=
  if e.fresh then (match locKind (s.loc e.sett) with
    | 0 => .zero
    | 3 => .lost
    | _ => .clean)
  else s.settState e.sett

/-- The data of a looked-up write is in DRAM: its entry is free once it has completed (R21). -/
def State.wroteDram (s : State) (p : Nat) (e : WEnt) : State :=
  let s := if e.poison && decide (mailTag ≤ e.tag) then s.enginePoison e.sett e.line
    else s.engineWrite e.sett e.line e.data e.mask e.poison
  if e.done then s.dropWrite p e.tag else s.setWrite p { e with wait := .drained }

/-- Drain one looked-up write into DRAM. A partial write reads the line first; where a repair holds the line the write waits, but a save
abandons the repair at once, and the write merges into the line as it is then (R21, R31, R298, R302). -/
def State.drainWrite (s : State) (p : Nat) (e : WEnt) : State :=
  if (s.repairOf e.sett e.line).isSome then s
  else if e.mask = fullMask ∨ e.poison then s.wroteDram p e
  else
    let r := s.readAs e.sett e.line e.devs (s.stateBefore e) e.fresh txHostWrite
    match r.2 with
    | .repair =>
      if s.chip = .save then ((r.1.repairOf e.sett e.line).elim r.1 r.1.abandonRepair).wroteDram p e
      else r.1.setWrite p { e with devs := 0 }
    | _ => r.1.wroteDram p e

/-- Looked-up writes of a port to a sett, in lookup order. -/
def State.pendingTo (s : State) (p k : Nat) : List WEnt :=
  (s.port p).wbuf.filter (fun e => e.wait == .admitted && e.sett == k)

/-- Drain every looked-up write to a sett, in any port, as an operation that needs the sett settled waits for it
(R392), or as a write looked up later must follow it (R395). -/
def State.settle (s : State) (k : Nat) : State :=
  s.forEach faces (fun s p => s.forEach (s.pendingTo p k) (fun s e => s.drainWrite p e))

/-! ### Admission -/

/-- The worse of two margin states. -/
def Margin.worse (a b : Margin) : Margin := if a.code < b.code then b else a

/-- A margin state by its code. -/
def Margin.ofCode (n : Nat) : Margin :=
  match n with
  | 0 => .pearl | 1 => .amber | 2 => .vermilion | _ => .sable

/-- The margin state that admission uses: in a pair the worse of both sleds' (R443). -/
def State.admMargin (s : State) : Margin :=
  if s.galMode = modePaired then s.margin.worse (Margin.ofCode (s.rd GAL_PEER.MARGIN)) else s.margin

/-- The second condition of R154 for a write of a face (R140, R45). -/
def State.admits (s : State) (f : Nat) : Bool :=
  match s.admMargin with
  | .pearl => decide (s.rd ADM_DIRTY.SETTS < s.rd LGR_TV.SETTS)
  | .amber => decide (s.rd ADM_DIRTY.SETTS < s.rd LGR_TV.SETTS)
  | .vermilion => false
  | .sable => s.margin == .sable && s.volatileNow f

/-- A write lookup passes: REWR sets where the sett is being hauled, a fresh sett turns Dirty, and a sled in single-sled
mode marks the slab (R105, R153, R448). -/
def State.lookedUp (s : State) (k : Nat) : State := ((s.setRewr k).setDirty k).touch k

/-- The write of a port has passed its lookup: it will drain to DRAM, is mirrored where the pair runs, and else completes
(R21, R440). -/
def State.passWrite (s : State) (p : Nat) (e : WEnt) : State :=
  let fresh := !s.dirty e.sett
  let s := if fresh then (s.addWrap ADM_ADMITS.COUNT 1).addWrap (HPT_CNT_FRESH.COUNT p) 1 else s
  let s := s.lookedUp e.sett
  if s.mirrors then
    let e := { e with wait := .admitted, fresh := e.fresh || fresh, seq := s.galNext + 1 }
    ((s.setWrite p e).galOrdered (.mirror p e.dpa e.sett) 3 p (if e.poison then 1 else 0) e.dpa [e.data] [] e.mask).addWrap
      GAL_CNT_MIRROR.COUNT 1
  else (s.setWrite p { e with wait := .admitted, fresh := e.fresh || fresh }).complete p e.tag

/-- The other sled keeps the block: the write is held and forwarded with a tag (R440). -/
def State.forwardWrite (s : State) (p : Nat) (e : WEnt) : State :=
  let t := s.gal.nextTag
  let s := { s with gal := { s.gal with nextTag := (t + 1) % 65536, fwds := s.gal.fwds ++ [GalFwd.mk t p e.tag] } }
  let s := s.setWrite p { e with wait := .twin }
  (s.galSend 4 p (if e.poison then 1 else 0) t e.dpa [e.data] [] e.mask).addWrap GAL_CNT_FWD.COUNT 1

/-- A write that may go ahead: looked up here by the keeper, forwarded by the other sled, or left waiting while the
stream's window is full (R440, R441). -/
def State.goWrite (s : State) (p : Nat) (e : WEnt) : State :=
  if s.mirrors && !s.galRoom then s.setWrite p { e with wait := .queueFull }
  else if s.mirrors && !s.keepsSlab (settSlab e.sett) then s.forwardWrite p e
  else s.passWrite p e

/-- A job's write passes its lookup: it is made, and in a pair mirrored; the job remembers its place in the stream (R105, R158,
R409, R440). -/
def State.jobRelease (s : State) (j : Parked) : State :=
  let s := ((s.settle j.sett).lookedUp j.sett).engineWrite j.sett j.line j.data j.mask j.poison
  let f := (s.slab (settSlab j.sett)).owner
  let dpa := (s.unmapLine f j.sett j.line).getD 0
  let q := s.galNext + 1
  let note (w : Job) : Job := if w.ring = j.ring ∧ w.idx = j.idx then { w with seq := q } else w
  let s := if s.mirrors then
      let s := { s with job := { s.job with jobs := s.job.jobs.map note } }
      (s.galOrdered (.mirror f dpa j.sett) 3 f (if j.poison then 1 else 0) dpa [j.data] [] j.mask).addWrap GAL_CNT_MIRROR.COUNT 1
    else s
  s.jobWrote j.ring j.idx

/-- Every write parked for a sett that has turned Dirty is released, each port's in arrival order; job writes parked for
it are written (R156, R158). -/
def State.releaseParked (s : State) (k : Nat) : State :=
  let s := s.forEach faces (fun s p =>
    s.forEach ((s.port p).wbuf.filter (fun e => e.wait == .parked && e.sett == k)) (fun s e => s.goWrite p e))
  let js := s.adm.jobq.filter (fun j => j.sett == k && !j.twin)
  let s := { s with adm := { s.adm with jobq := s.adm.jobq.filter (fun j => !(j.sett == k && !j.twin)) } }
  s.forEach js (fun s j => s.jobRelease j)

/-- Turn a sett Dirty by a path other than a port's own admission, and release what is parked for it (R101, R156). -/
def State.makeDirty (s : State) (k : Nat) : State :=
  if s.dirty k then s else (s.setDirty k).releaseParked k

/-- An access finds an SRAM error: entries parked for setts that a bad mask word turns Dirty are released (R122, R156). -/
def State.sramHit (s : State) (i : Nat) (e : SramErr) : State :=
  let t := s.sramErr i e
  let release : State := t.forEach (((List.range 64).map (fun b => i * 64 + b)).filter (fun k => !s.dirty k && t.dirty k)) (fun s k => s.releaseParked k)
  match e with
  | .maskLo => release
  | .maskHi => release
  | _ => t

/-- Slab entries of the array (R118, R120). -/
def slabCount : Nat := 2359296

/-- The SRAM errors that a command's accesses find, by slab (R122). -/
def State.sramAll (s : State) (l : List (Nat × SramErr)) : State := s.forEach l (fun s x => s.when (decide (x.1 < slabCount)) (fun s => s.sramHit x.1 x.2))

/-- Park a write at the tail of its port's fresh queue; a full queue leaves it waiting in the buffer (R154, R157). One that waited for
something else before keeps its place in arrival order, ahead of entries that were parked meanwhile (R155; DESIGN CHOICE 160). -/
def State.parkWrite (s : State) (p : Nat) (e : WEnt) : State :=
  s.setWrite p { e with wait := if s.fqCount p < 512 then .parked else .queueFull, since := s.tick }

/-- An earlier write of the port to the same line that is parked or waits for the queue (R155, R396). -/
def State.lineBlocked (s : State) (p : Nat) (e : WEnt) : Bool :=
  ((s.port p).wbuf.takeWhile (fun x => x.tag != e.tag)).any (fun x =>
    (x.wait == .parked || x.wait == .queueFull) && x.sett == e.sett && x.line == e.line)

/-- Look up a write of a port (R115, R153, R154, R272, R299, R321, R403). `first` is the lookup at arrival, which may raise
the slab's HEAT. -/
def State.lookupRaw (s : State) (p tag : Nat) (first : Bool) : State :=
  match s.write? p tag with
  | none => s
  | some e =>
    match s.access p e.dpa with
    | none => ((s.outOfCapacity p e.dpa).complete p tag).dropWrite p tag
    | some (k, l) =>
      let e := { e with sett := k, line := l }
      let s := if first then s.raiseHeat (settSlab k) else s
      if !s.settHome k then (s.setWrite p { e with wait := .fetch }).promote p k
      else if (s.slab (settSlab k)).jobl then s.setWrite p { e with wait := .held }
      else if (s.repairOf k l).isSome then s.setWrite p { e with wait := .repair }
      else if s.lineBlocked p e then s.parkWrite p e
      else if s.dirty k then s.goWrite p e
      else if s.fqCount p = 0 ∧ s.admits p then
        let s := s.goWrite p e
        if s.dirty k then s.releaseParked k else s
      else s.parkWrite p e

/-- The write of a port waits for admission or a fetch. -/
def State.writeStalled (s : State) (p tag : Nat) : Bool :=
  (s.write? p tag).any (fun e => e.wait == .parked || e.wait == .fetch || (e.wait == .queueFull && !s.dirty e.sett))

/-- Count the writes of a port that are discarded (HPT_DISCARD). -/
def State.countDiscard (s : State) (p : Nat) (es : List WEnt) : State :=
  s |>.addSat (HPT_DISCARD.PARKED p) (es.filter (fun e => e.wait == .parked || e.wait == .queueFull)).length
    |>.addSat (HPT_DISCARD.WAITING p) (es.filter (fun e => e.wait == .fetch)).length

/-- Look up a write of a port. One whose link is gone, so that it is never completed, is discarded where it would be parked or wait for a
fetch (R320, R327). -/
def State.lookupWrite (s : State) (p tag : Nat) (first : Bool) : State :=
  let t := s.lookupRaw p tag first
  let lost := (s.write? p tag).any (fun e => e.done)
  if lost && t.writeStalled p tag then (t.countDiscard p (t.write? p tag).toList).dropWrite p tag else t

/-- Writes that wait for the full queue enter it in arrival order as entries free (R157). -/
def State.enterQueue (s : State) (p : Nat) : State :=
  s.forEach ((s.port p).wbuf.filter (fun e => e.wait == .queueFull)) (fun s e =>
    if s.fqCount p < 512 then s.lookupWrite p e.tag false else s)

/-! ### Reads -/

/-- A write to the line that arrived before a read and that this sled has not looked up: the read waits for it (R155, R272, R299,
R444). -/
def State.readBlock (s : State) (p k l arr : Nat) : Option Wait :=
  match (s.port p).wbuf.filter (fun e => e.sett == k && e.line == l && decide (e.arr < arr)
      && (e.wait == .parked || e.wait == .queueFull || e.wait == .twin || e.wait == .fetch)) with
  | [] => if s.gal.held.any (fun h => h.face == p && h.sett == k && h.line == l) then some .twin else none
  | e :: _ => some e.wait

/-- Lay the bytes of a looked-up write over a line. -/
def overlay (d : Line) (e : WEnt) : Line :=
  BitVec.ofNat 512 ((List.range 64).foldr (fun i acc =>
    acc * 256 + (if e.mask.getLsbD i then (e.data.extractLsb' (i * 8) 8).toNat else (d.extractLsb' (i * 8) 8).toNat)) 0)

/-- Lay looked-up writes over what DRAM gave: a full write replaces all before it, a partial one leaves poison (R31,
R393). -/
def overlayAll (r : LineRes) (es : List WEnt) : LineRes :=
  es.foldl (fun r e =>
    if e.poison then .poison
    else if e.mask = fullMask then .data e.data
    else match r with
      | .data d => .data (overlay d e)
      | x => x) r

/-- What a read of a line returns: the data of every write looked up before it, DRAM where none covers it (R393). -/
def State.lineValue (s : State) (p k l devs : Nat) : State × LineRes :=
  let es := (s.pendingTo p k).filter (fun e => e.line == l)
  if es.any (fun e => e.mask == fullMask) then (s, overlayAll (.data 0) es)
  else
    let r := s.readLine k l devs txHostRead
    (r.1, overlayAll r.2 es)

/-- Answer a read, with the port's DevLoad (R317, R321, R393). -/
def State.answer (s : State) (p tag : Nat) (r : LineRes) : State :=
  let s := s.addWrap (HPT_CNT_RD.COUNT p) 1
  let s := match r with
    | .data d => s.send (.data p tag d)
    | .poison => s.send (.poisoned p tag)
    | .repair => s.send (.poisoned p tag)
  s.send (.devLoad p tag (s.devLoad p))

/-- A read waits (R155, R270, R299). -/
def State.waitRead (s : State) (p : Nat) (r : REnt) (w : Wait) : State :=
  let q := s.port p
  s.setPort p { q with reads := q.reads ++ [{ r with wait := w }] }

/-- Look up a read of a port. `first` is the lookup at arrival, which may raise the slab's HEAT. -/
def State.tryRead (s : State) (p : Nat) (r : REnt) (devs : Nat) (first : Bool) : State :=
  match s.access p r.dpa with
  | none => (s.outOfCapacity p r.dpa).answer p r.tag .poison
  | some (k, l) =>
    let r := { r with sett := k, line := l }
    let s := if first then s.raiseHeat (settSlab k) else s
    if !s.settHome k then (s.waitRead p r .fetch).promote p k
    else
      match s.readBlock p k l r.arr with
      | some w => s.waitRead p r w
      | none =>
        if (s.repairOf k l).isSome then s.waitRead p r .repair
        else
          let x := s.lineValue p k l devs
          match x.2 with
          | .repair => x.1.waitRead p r .repair
          | v => x.1.answer p r.tag v

/-- A read arrives and is looked up. -/
def State.lookupRead (s : State) (p tag dpa devs : Nat) : State :=
  let q := s.port p
  let r : REnt :=
    { tag := tag
      dpa := dpa
      sett := 0
      line := 0
      wait := .fetch
      since := s.tick
      arr := q.arrivals }
  (s.setPort p { q with arrivals := q.arrivals + 1 }).tryRead p r devs true

/-- Look again at a waiting read. One that waits for a repair's line is looked at once the repair is over; what DRAM then gives has no
new error (entry 8). -/
def State.retryRead (s : State) (p : Nat) (r : REnt) : State :=
  let waits := match s.access p r.dpa with
    | none => false
    | some (k, l) => !s.settHome k || (s.readBlock p k l r.arr).isSome || (s.repairOf k l).isSome
  if waits then s
  else
    let q := s.port p
    (s.setPort p { q with reads := q.reads.filter (fun x => x.arr != r.arr) }).tryRead p r 0 false

/-- Put an access into a list in arrival order. -/
def byArrival (x : Nat × (REnt ⊕ Nat)) : List (Nat × (REnt ⊕ Nat)) → List (Nat × (REnt ⊕ Nat))
  | [] => [x]
  | y :: l => if x.1 ≤ y.1 then x :: y :: l else y :: byArrival x l

/-- What waits at a port for something other than admission: reads, and writes by their tag, in arrival order (R299). -/
def State.waitingAt (s : State) (p : Nat) : List (Nat × (REnt ⊕ Nat)) :=
  let q := s.port p
  let w := q.wbuf.filter (fun e => e.wait == .fetch || e.wait == .held || e.wait == .repair)
  let a : List (Nat × (REnt ⊕ Nat)) := w.map (fun e => (e.arr, .inr e.tag))
  let b : List (Nat × (REnt ⊕ Nat)) := q.reads.map (fun r => (r.arr, .inl r))
  (a ++ b).foldr byArrival []

/-- Look again at everything that waits at a port, in arrival order, and at its credits; reads that waited for a parked write are looked
at behind the queue. -/
def State.retryPort (s : State) (p : Nat) : State :=
  let s := s.forEach (s.waitingAt p) (fun s x => match x.2 with
    | .inl r => s.retryRead p r
    | .inr tag => s.lookupWrite p tag false)
  let s := s.enterQueue p
  (s.forEach (s.port p).reads (fun s r => s.retryRead p r)).updCredits p

/-- Look again at everything that waits at any port. -/
def State.retryPorts (s : State) : State := s.forEach faces (fun s p => s.retryPort p)

/-! ### Discarding (R27, R156, R273, R320, R327) -/

/-- Discard the writes of a port that have not been looked up and meet a condition. A mailbox command whose line change goes
with them posts no return. -/
def State.discard (s : State) (p : Nat) (pick : WEnt → Bool) : State :=
  let q := s.port p
  let gone := q.wbuf.filter (fun e => pick e && e.wait != .admitted)
  let cmds := s.fwm.openCmds.filter (fun c => !(c.1 == p && gone.any (fun e => e.tag == mailTag + c.2)))
  let s := { s with fwm := { s.fwm with openCmds := cmds } }
  (s.countDiscard p gone).setPort p
    { s.port p with wbuf := q.wbuf.filter (fun e => !(pick e && e.wait != .admitted)) }

/-- Drain every looked-up write of a port (R33, R327). -/
def State.drainPort (s : State) (p : Nat) : State :=
  s.forEach ((s.port p).wbuf.filter (fun e => e.wait == .admitted)) (fun s e => s.drainWrite p e)

/-- Writes that wait for neither admission nor a fetch are looked up once more, now that their link is gone: what a full buffer, a lock or a
repair of the line has kept is admitted where it can be (R153, R320, R327). -/
def State.lateLookups (s : State) (p : Nat) : State :=
  let q := s.port p
  let late (e : WEnt) : Bool := e.wait == .queueFull || e.wait == .held || e.wait == .repair
  let s := s.setPort p { q with wbuf := q.wbuf.map (fun e => if late e then { e with done := true } else e) }
  s.forEach (q.wbuf.filter late) (fun s e => s.lookupWrite p e.tag false)

/-- The port's link is lost: reads are forgotten, looked-up writes drain, and those parked or waiting for a fetch are discarded (R327). A
write that waits for the twin's ORDER, for a lock or for a repair of its line stays, and is never completed (R327, R440). -/
def State.dropLink (s : State) (p : Nat) : State :=
  let s := (s.discard p (fun e => e.wait == .parked || e.wait == .fetch)).lateLookups p
  let s := s.drainPort p
  let q := s.port p
  let w := (q.wbuf.filter (fun e => e.wait != .drained)).map (fun e => { e with done := true })
  (s.setPort p { q with reads := [], wbuf := w, gpf := false, owed := 0 }).updCredits p

end Sys2Proof.Machine
end

