-- ==== Sys2Proof/Machine/ClgBase.lean ====
section
/-! DEFINITION. What feeds the Core log: samples of the histogram families, extremes, event tallies, and records that
hardware forms (chapter 19). -/

namespace Sys2Proof.Machine

/-- The chip is in a state from Waking to Hold (R15, R500). -/
def State.powered (s : State) : Bool := s.chip != .off && s.chip != .bedrock

/-- The hub base has power and its boot has begun: every chip state but Off and Bedrock, once the benches have brought its rails
up (R16, R500, R566 step 2). -/
def State.hubOn (s : State) : Bool := s.powered && s.slb.ready

/-- Aggregators collect (R535). -/
def State.clgCollects (s : State) : Bool := s.on CLG_CFG.ENABLE && s.hubOn

/-- LOG, BASE and STEP of a family (R536). -/
def histShape (f : Nat) : Nat × Nat × Nat :=
  if f < 12 then (1, 64, 0)
  else match f with
    | 12 => (0, 0, 1) | 13 => (1, 1, 0) | 14 => (1, 16, 0) | 15 => (1, 1, 0) | 16 => (0, 0, 400)
    | 17 => (0, 0, 3) | 18 => (0, 0, 3) | 19 => (1, 1, 0) | 20 => (1, 16, 0) | 21 => (1, 1, 0)
    | 22 => (1, 1, 0) | 23 => (1, 16, 0) | 24 => (1, 256, 0) | 28 => (1, 1, 0)
    | 29 => (0, 0, 10) | 30 => (0, 0, 10) | 31 => (0, 0, 103) | _ => (0, 0, 1)

/-- The bin of a value (R536). -/
def histBin (f : Nat) (v : Int) : Nat :=
  let sh := histShape f
  let n := v.toNat
  if sh.1 = 1 then
    if n < sh.2.1 then 0 else min (Nat.log2 (n / sh.2.1) + 1) 39
  else min ((n - sh.2.1) / sh.2.2) 39

/-- An empty aggregator: 0 to 31 a family, 32 EVENT, 33 EXTREMES (R536, R537, R534). -/
def Agg.empty (idx k now : Nat) : Agg :=
  { idx := idx
    body := if idx = 32 then .event 0 [] [] else if idx = 33 then .extremes (List.replicate 8 none)
      else .hist (List.replicate 40 0) none none k (histShape idx).1 (histShape idx).2.1 (histShape idx).2.2
    since := now
    merged := none }

/-- Operating time in seconds (R529). -/
def State.opSeconds (s : State) : Nat := s.rd CLG_HOURS.HOURS * 3600 + s.rd CLG_SECS.SECONDS

/-- The live aggregator of a number. -/
def State.agg (s : State) (idx : Nat) : Agg :=
  (s.clg.live.find? (fun a => a.idx == idx)).getD (Agg.empty idx (if idx < 32 then s.rd (CLG_HCFG.K idx) else 0) s.opSeconds)

/-- Replace a live aggregator. -/
def State.setAgg (s : State) (a : Agg) : State :=
  { s with clg := { s.clg with live := s.clg.live.filter (fun x => x.idx != a.idx) ++ [a] } }

/-- The smaller, and the larger, of a value and what has been seen. -/
def optMin (o : Option Int) (v : Int) : Option Int := match o with
  | none => some v
  | some w => some (if v < w then v else w)
def optMax (o : Option Int) (v : Int) : Option Int := match o with
  | none => some v
  | some w => some (if w < v then v else w)

/-- Add a counted value to a histogram body; bins saturate at 2^40 − 1 (R536). -/
def LogBody.addValue (b : LogBody) (f : Nat) (v : Int) (counted : Bool) : LogBody :=
  match b with
  | .hist bins mn mx k l base st =>
    let i := histBin f v
    .hist (if counted then bins.set i (min (bins.getD i 0 + 1) 1099511627775) else bins) (optMin mn v) (optMax mx v) k l base st
  | x => x

/-- Take a value of a family: it is counted with a chance of 1 in 2^K (R536; the draw is a free value, entry 3). -/
def State.sample (s : State) (f : Nat) (v : Int) : State :=
  if s.clgCollects && s.on (CLG_HCFG.EN f) then
    let k := s.rd (CLG_HCFG.K f)
    let d := if k = 0 then (0, s) else s.draw (2 ^ k)
    let a := d.2.agg f
    d.2.setAgg { a with body := a.body.addValue f v (d.1 == 0) }
  else s

/-- Take a value into EXTREMES: word i keeps the highest, or for the two pack voltages and the ceiling the lowest value
(R534). -/
def State.extreme (s : State) (i : Nat) (v : Int) : State :=
  if s.clgCollects then
    let a := s.agg 33
    match a.body with
    | .extremes ws =>
      let o := ws.getD i none
      s.setAgg { a with body := .extremes (ws.set i (if i = 2 ∨ i = 3 ∨ i = 7 then optMin o v else optMax o v)) }
    | _ => s
  else s

/-- Take a raise into the event aggregator, with the rank of the action taken (R525, R537). -/
def State.tally (s : State) (src tick rank : Nat) : State :=
  if s.clgCollects then
    let a := s.agg 32
    match a.body with
    | .event total others es =>
      let b : LogBody :=
        if es.any (fun e => e.src == src) then
          .event (total + 1) others (es.map (fun e =>
            if e.src = src then { e with count := min (e.count + 1) 65535, rank := Nat.max e.rank rank } else e))
        else if es.length < 16 then .event (total + 1) others (es ++ [{ src := src, count := 1, tick := tick, rank := rank }])
        else .event (total + 1) (if others.contains src then others else others ++ [src]) es
      s.setAgg { a with body := b }
    | _ => s
  else s

/-- Hardware forms a record of types 3 to 8; while the hub base is unpowered up to eight wait in the Bedrock domain
(R534). -/
def State.formRec (s : State) (typ family : Nat) (ws : List Nat) : State :=
  let r : LogRec :=
    { typ := typ
      family := family
      merged := false
      seq := 0
      hours := 0
      secs := 0
      chip := s.chip.code
      span := 0
      pcyc := 0
      tick := s.tick
      body := .words ws }
  if s.hubOn then { s with clg := { s.clg with pend := s.clg.pend ++ [r] } }
  else if s.clg.held.length < 8 then { s with clg := { s.clg with held := s.clg.held ++ [r] } }
  else ({ s with clg := { s.clg with held := s.clg.held.drop 1 ++ [r] } }).addSat CLG_FAILS.DROPS 1

/-- A cause of the BMC alert sets; SMBALERT# is asserted while an enabled cause is set (R553, R554). -/
def State.alert (s : State) (c : Nat) : State :=
  let was := bitAt c (s.rd TWB_ALRT_CAUSE.CAUSE)
  let s := s.setBit TWB_ALRT_CAUSE.CAUSE c true
  if bitAt c (s.rd TWB_ALRT_EN.EN) && !was then { s with twb := { s.twb with alert := true, alertTick := s.tick + 1 } } else s

/-! ### Merging staging back (R539) -/

/-- Two event bodies as one: counts add with saturation, the earlier first raise stays, sources beyond sixteen count in
OTHERS. `old` came first. -/
def mergeEvent (t1 : Nat) (o1 : List Nat) (e1 : List TallyE) (t2 : Nat) (o2 : List Nat) (e2 : List TallyE) : LogBody :=
  let both := e1.map (fun e => match e2.find? (fun x => x.src == e.src) with
    | some x => { e with count := min (e.count + x.count) 65535, rank := Nat.max e.rank x.rank }
    | none => e)
  let new := e2.filter (fun x => !e1.any (fun e => e.src == x.src))
  let es := both ++ new
  let o := (o1 ++ o2 ++ (es.drop 16).map (fun e => e.src)).dedup.filter (fun x => !(es.take 16).any (fun e => e.src == x))
  .event (t1 + t2) o (es.take 16)

/-- The smaller, and the larger, of two values that may be absent. -/
def joinMin (a b : Option Int) : Option Int := match b with
  | none => a
  | some v => optMin a v
def joinMax (a b : Option Int) : Option Int := match b with
  | none => a
  | some v => optMax a v

/-- An older body merged with a newer one (R539). -/
def LogBody.merge (old new : LogBody) : LogBody :=
  match old, new with
  | .hist b1 mn1 mx1 k l ba st, .hist b2 mn2 mx2 _ _ _ _ =>
    .hist ((List.range 40).map (fun i => min (b1.getD i 0 + b2.getD i 0) 1099511627775)) (joinMin mn1 mn2) (joinMax mx1 mx2)
      k l ba st
  | .event t1 o1 e1, .event t2 o2 e2 => mergeEvent t1 o1 e1 t2 o2 e2
  | .extremes w1, .extremes w2 =>
    .extremes ((List.range 8).map (fun i =>
      if i = 2 ∨ i = 3 ∨ i = 7 then joinMin (w1.getD i none) (w2.getD i none) else joinMax (w1.getD i none) (w2.getD i none)))
  | x, _ => x

/-- Put an older aggregator back under the live one of its number; the next commit of it says how long a span was merged
(R539). -/
def State.mergeBack (s : State) (a : Agg) : State :=
  let l := s.agg a.idx
  s.setAgg { l with body := a.body.merge l.body, since := a.since, merged := some (l.since - a.since + a.merged.getD 0) }

/-- Staging goes back into the live aggregators and the commit is over: its records stay pending and its numbers are used
again (R539). -/
def State.mergeStaging (s : State) : State :=
  let st := s.clg.staging
  let s := s.forEach st (fun s a => s.mergeBack a)
  ({ s with clg := { s.clg with staging := [], forming := [], phase := 0 } }).wr CLG_STATUS.BUSY 0

end Sys2Proof.Machine
end

