-- ==== Sys2Proof/Machine/Flags.lean ====
section
/-! DEFINITION. Status that follows from other state: the phase codes of the sequencer, ERR_N and the flags that copy it, and the
chip state as other blocks show it (chapters 16 to 18). -/

namespace Sys2Proof.Machine

def phaseIdle : Nat := 0
def phaseBootset : Nat := 1
def phaseUp : Nat := 2
def phaseDown : Nat := 3
def phaseLatching : Nat := 4
def phaseLatched : Nat := 5

def State.seqPhase (s : State) : Nat := s.rd SEQ_STATUS.PHASE

/-- The sequencer latches or is latched. -/
def State.latchedOrLatching (s : State) : Bool := s.seqPhase == phaseLatching || s.seqPhase == phaseLatched

/-- ERR_N as R524 gives it. -/
def State.errN (s : State) : Bool := s.chip == Chip.hold || s.latchedOrLatching || s.on FLT_ERR.PIN

/-- Bring the pins and status bits that follow from other state up to date (R524, BED_STATE, FLT_STATUS). -/
def State.updErr (s : State) : State :=
  let e := s.errN
  let was := s.pin.err
  ({ s with pin := { s.pin with err := e } }).wrB FLT_STATUS.ERR_N e
    |>.wrB BED_STATE.ERR e |>.wrB FLT_STATUS.HOLD (s.chip == Chip.hold) |>.when (e && !was) (fun s => s.alert 0)

/-- The sled has a twin on TW7: a Survey image with a TWIN section has loaded (R546, R558). -/
def State.hasTw7 (s : State) : Bool := s.svy.shadow && s.hasSec 0x38

/-- The chip state changes, as the BED block reports it; TW7 pulls its ALERT line (R499, R558). A move to Waking is a chip reset,
and the hub base waits for its boot (R500, R566). -/
def State.setChip (s : State) (c : Chip) : State :=
  let stop := c == .waking || c == .bedrock || c == .off
  let how := if c = .waking then (if s.chip = .bedrock then 2 else 1) else s.bed.chipReset
  let t := { s with slb := { s.slb with ready := s.slb.ready && !stop }, bed := { s.bed with chipReset := how } }
  let t := if c = .waking then { t with fwm := { t.fwm with bootTick := s.tick } } else t
  (({ t with chip := c }).wr BED_STATE.CHIP c.code).when (s.chip != c && s.hasTw7) (fun s => s.send .tw7Alert)

/-! ### SRAM errors outside the Slab State Array (R510) -/

/-- An SRAM error in the in-flight haul table or the HAUL block: 1 correctable, 2 uncorrectable (R510). -/
def State.haulErr (s : State) (e : Nat) : State := if s.hubOn && e != 0 then s.raiseQ 686 (e == 2) else s

/-- An uncorrectable SRAM error in the fetch table, a fresh queue or a Gallery queue (R510). -/
def State.hubErr (s : State) (bad : Bool) : State := if s.hubOn && bad then s.raise 688 else s

end Sys2Proof.Machine
end

