-- ==== Sys2Proof/Machine/SeqOps.lean ====
section
/-! DEFINITION. The sequencer's shared operations: the bench table, stepping down, requests, and the latched shutdown
(chapter 16). -/

namespace Sys2Proof.Machine

/-! ### The BENCHES section (R464 to R467) -/

def secBenches : Nat := 0x30

def BENCHES.TOP : SFld := ⟨secBenches, 0, 0, 4⟩
def BENCHES.Q : SFld := ⟨secBenches, 0, 8, 4⟩
def BENCHES.DROP : SFld := ⟨secBenches, 0, 12, 4⟩
def BENCHES.GLITCH_N : SFld := ⟨secBenches, 0, 16, 4⟩
def BENCHES.PAIRED : SFld := ⟨secBenches, 0, 20, 1⟩
def BENCHES.GLITCH_WIN : SFld := ⟨secBenches, 4, 0, 16⟩
def BENCHES.MIN_OFF : SFld := ⟨secBenches, 4, 16, 16⟩
def BENCHES.INPUT_SENSE : SFld := ⟨secBenches, 8, 0, 6⟩
def BENCHES.INPUT_EN : SFld := ⟨secBenches, 8, 7, 1⟩
def BENCHES.INPUT_LOW : SFld := ⟨secBenches, 8, 8, 12⟩
def BENCHES.INPUT_HIGH : SFld := ⟨secBenches, 8, 20, 12⟩
def BENCHES.INPUT_COUNT : SFld := ⟨secBenches, 12, 0, 4⟩
def BENCHES.RET_SCANS : SFld := ⟨secBenches, 12, 16, 16⟩
def BENCHES.SYNC_TIMEOUT : SFld := ⟨secBenches, 16, 0, 16⟩
def BENCHES.UP_WAIT : SFld := ⟨secBenches, 16, 16, 16⟩
def BENCHES.CASCADE : SFld := ⟨secBenches, 20, 0, 2⟩
def BENCHES.DN_WAIT : SFld := ⟨secBenches, 20, 8, 8⟩
def BENCHES.PFW_MAX : SFld := ⟨secBenches, 20, 16, 16⟩
def BENCHES.RAILS (b : Nat) : SFld := ⟨secBenches, 0x20 + b * 8, 0, 32⟩
def BENCHES.DELAY (b : Nat) : SFld := ⟨secBenches, 0x24 + b * 8, 8, 8⟩
def BENCHES.SYNC (b : Nat) : SFld := ⟨secBenches, 0x24 + b * 8, 16, 2⟩
def BENCHES.SENSE (n : Nat) : SFld := ⟨secBenches, 0xA0 + n * 4, 0, 6⟩
def BENCHES.SAVE_CRIT (n : Nat) : SFld := ⟨secBenches, 0xA0 + n * 4, 6, 1⟩
def BENCHES.PG_NONE (n : Nat) : SFld := ⟨secBenches, 0xA0 + n * 4, 7, 1⟩
def BENCHES.LOW (n : Nat) : SFld := ⟨secBenches, 0xA0 + n * 4, 16, 8⟩
def BENCHES.HIGH (n : Nat) : SFld := ⟨secBenches, 0xA0 + n * 4, 24, 8⟩
def BENCHES.RST_BENCH (r : Nat) : SFld := ⟨secBenches, 0x120 + r * 4, 0, 4⟩
def BENCHES.RST_EN (r : Nat) : SFld := ⟨secBenches, 0x120 + r * 4, 4, 1⟩
def BENCHES.RST_CHIPRST (r : Nat) : SFld := ⟨secBenches, 0x120 + r * 4, 5, 1⟩
def BENCHES.RST_TW_EN (r : Nat) : SFld := ⟨secBenches, 0x120 + r * 4, 6, 1⟩
def BENCHES.RST_TW (r : Nat) : SFld := ⟨secBenches, 0x120 + r * 4, 8, 3⟩

/-- The Bedrock shadow holds a bench table (R17). -/
def State.benchTable (s : State) : Bool := s.svy.shadow

/-- Scans to qualify; 4 before a table is in force (R464, R475). -/
def State.seqQ (s : State) : Nat := if s.benchTable then s.sv BENCHES.Q else 4
/-- Scans to fail; 2 before a table is in force. -/
def State.seqDrop (s : State) : Nat := if s.benchTable then s.sv BENCHES.DROP else 2

/-- The bits set in a 32-bit number, lowest first. -/
def bitList (n w : Nat) : List Nat := (List.range n).filter (fun i => bitAt i w)

/-- Rails of a bench. -/
def State.benchRails (s : State) (b : Nat) : List Nat := bitList 32 (s.sv (BENCHES.RAILS b))

/-- Boot rails that the straps choose (R469). -/
def bootRails (bset : Nat) : List Nat :=
  match bset with
  | 0 => List.range 4
  | 1 => List.range 6
  | 2 => List.range 8
  | _ => []

/-- Enable, or disable, a rail. -/
def State.enable (s : State) (n : Nat) : State :=
  ({ s with seq := { s.seq with order := s.seq.order ++ [n], good := SMap.put 0 n 0 s.seq.good } }).setBit SEQ_EN.RAILS n true

def State.disable (s : State) (n : Nat) : State :=
  ({ s with seq := { s.seq with order := s.seq.order.filter (fun x => x != n), good := SMap.put 0 n 0 s.seq.good
                                bad := SMap.put 0 n 0 s.seq.bad } }
    |>.setBit SEQ_EN.RAILS n false).setBit SEQ_GOOD.RAILS n false

/-- The sense code of a rail at the last scan; none without a sense input. -/
def State.railCode (s : State) (n : Nat) : Option Nat :=
  if s.benchTable && decide (n < 32) && decide (s.sv (BENCHES.SENSE n) < 48) then some (s.rd (SEQ_ADC.CODE (s.sv (BENCHES.SENSE n)))) else none

/-! ### Stepping down (R471) -/

/-- The step-down goes on with a bench: DN_WAIT comes before the first one of R471, unless the shutdown is latched. -/
def State.nextDown (s : State) (b : Nat) (first : Bool) : State :=
  let wait := first && !s.seq.noDnWait && s.benchTable && s.sv BENCHES.DN_WAIT != 0
  { s with seq := { s.seq with stage := if wait then .dnWait b else .down b } }

/-- The bench that a power-up is bringing up above the level, if one has enabled rails (R480). -/
def State.benchInProgress (s : State) : Option Nat :=
  match s.seq.stage with
  | .qualifying b => some b
  | _ => none

/-- The benches begin to step down to B0: the bench in progress is aborted first; SEQ_DN goes low (R471, R480). -/
def State.beginDown (s : State) (latching noWait : Bool) : State :=
  let b := s.benchInProgress
  let lvl := s.rd SEQ_STATUS.LEVEL
  let s := s |>.wr SEQ_STATUS.PHASE (if latching then phaseLatching else phaseDown)
    |>.wr SEQ_STATUS.SEQ_DN 0 |>.wr SEQ_STATUS.SYNC_WAIT 0 |>.wr SEQ_STATUS.CASC_WAIT 0
  let s := { s with seq := { s.seq with noDnWait := noWait, syncDrive := false } }
  match b with
  | some b => { s with seq := { s.seq with stage := .down b } }
  | none => s.nextDown lvl true

/-- Power-up starts from B0: the hub base is to wake (R470, R478, R500). -/
def State.beginUp (s : State) : State :=
  let casc := s.benchTable && s.sv BENCHES.CASCADE != 0
  let wait := casc && !s.on SEQ_STATUS.SEQ_UP
  let s := s |>.wr SEQ_STATUS.PHASE phaseUp |>.wr SEQ_STATUS.ON_PEND 0 |>.wrB SEQ_STATUS.CASC_WAIT wait
  let s := { s with seq := { s.seq with stage := if wait then .cascade else .ready 1, latchAfter := false } }
  s.setChip .waking

/-- B0 is reached: the latch takes hold, the hub base is without power, and a remembered on request waits for MIN_OFF
(R471, R477, R480, R500). What the hub loses is cleared when it next powers up. -/
def State.reachB0 (s : State) : State :=
  let latch := s.seqPhase == phaseLatching || s.seq.latchAfter
  let s := { s with seq := { s.seq with stage := .idle, offTick := s.tick + 1, minOff := false, latchAfter := false, noDnWait := false } }
  let s := s |>.wr SEQ_STATUS.LEVEL 0 |>.wr SEQ_STATUS.PHASE (if latch then phaseLatched else phaseIdle)
  let s := if latch then s.wr SEQ_STATUS.ON_PEND 0 else s
  (s.setChip .bedrock).updErr

/-! ### Latched shutdown (R477) -/

/-- A latched shutdown begins. -/
def State.latchedShutdown (s : State) : State :=
  if s.latchedOrLatching then s
  else
    let s := { s with seq := { s.seq with offPend := false, latchSave := false } }
    (((s.wr SEQ_STATUS.ON_PEND 0).beginDown true true).raise 650).updErr.alert 1

/-- The causes of SEQ_FIRST.CAUSE (R488). -/
def causeTimeout : Nat := 1
def causeDrop : Nat := 2
def causeChatter : Nat := 3
def causeLow : Nat := 4
def causeHigh : Nat := 5
def causeDischarge : Nat := 6
def causeSync : Nat := 7

/-- The bench being stepped, or the level when none is (R476). -/
def State.steppedBench (s : State) : Nat :=
  match s.seq.stage with
  | .ready b => b
  | .qualifying b => b
  | .syncing b => b
  | .delaying b => b
  | .dnWait b => b
  | .down b => b
  | .discharging b _ => b
  | _ => s.rd SEQ_STATUS.LEVEL

/-- Record a failure in SEQ_FIRST, or count it (R476); the Core log takes a RAIL record of the first (R534). -/
def State.noteFailure (s : State) (rail cause : Nat) : State :=
  if s.on SEQ_FIRST.VALID then s.addSat SEQ_FAIL_MORE.COUNT 1
  else
    let code := (s.railCode rail).getD 0
    let s := s |>.wr SEQ_FIRST.RAIL rail |>.wr SEQ_FIRST.CAUSE cause |>.wr SEQ_FIRST.BENCH s.steppedBench
      |>.wr SEQ_FIRST.PHASE s.seqPhase |>.wr SEQ_FIRST.VALID 1
    s |>.wr SEQ_FIRST_TLO.TICK (s.tick % 4294967296) |>.wr SEQ_FIRST_THI.TICK (s.tick / 4294967296)
      |>.wr SEQ_FIRST_THI.CODE code

/-- The source of a rail's cause (R487). -/
def railSource (rail cause : Nat) : Nat :=
  if cause = causeLow ∨ cause = causeHigh ∨ cause = causeDischarge then 586 + rail else 618 + rail

end Sys2Proof.Machine
end

