-- ==== Sys2Proof/Machine/SaveOps.lean ====
section
/-! DEFINITION. The save's trigger and its fence, the step numbers of HAUL_SAVE_STAT, and what ends with the fence
(chapters 02, 07, 11 to 15, 19). -/

namespace Sys2Proof.Machine

/-- Triggers of a save (HAUL_SAVE_STAT.TRIGGER). -/
def trigPwr : Nat := 1
def trigRail : Nat := 2
def trigHold : Nat := 3
def trigCmd : Nat := 4

/-- END codes of HAUL_SAVE_STAT. -/
def endEnergy : Nat := 1
def endRail : Nat := 2
def endSumpFull : Nat := 3
def endDropped : Nat := 4
def endShort : Nat := 5
def endManifest : Nat := 6

/-- The newest anchor on NAND that counts as written (R196, R261). -/
def State.newestAnchor (s : State) : Option Anchor := (s.stk.anchors.find? (fun a => a.ok0 && a.ok36))

/-- No face has opened since the last save: the newest anchor is not an OPEN one (R191). -/
def State.noFaceSince (s : State) : Bool :=
  match s.newestAnchor with
  | none => true
  | some a => a.phase != 1

/-- The host ports are fenced: parked writes go, with the writes behind them and those that wait for fetches or for JOBL;
reads are never answered; open mailbox commands are abandoned; open faces close and are remembered (R27, R192 step 1, R273,
R349, R401). -/
def State.fencePort (s : State) (p : Nat) : State :=
  let blocked := (s.port p).wbuf.filter (fun e =>
    e.wait == .parked || e.wait == .fetch || e.wait == .held || (e.wait == .queueFull && s.lineBlocked p e))
  let s := s.discard p (fun e => blocked.any (fun x => x.tag == e.tag))
  let was := s.faceOpen p
  let q := s.port p
  let s := { s with fwm := { s.fwm with
      openCmds := s.fwm.openCmds.filter (fun c => c.1 != p)
      waiting := s.fwm.waiting.filter (fun c => c.1 != p) } }
  let q := { q with reads := [], wasOpen := q.wasOpen || was, creditQ := false, creditF := false, bg := none, scanWait := none, gpf := false, owed := 0, rels := [] }
  (s.setPort p q)
    |>.wr (HPT_STATUS.FENCED p) 1 |>.wr (HPT_STATUS.OPEN p) 0 |>.setBit BED_STATE.OPEN p false |>.setBit RES_STATUS.OPEN p false
    |>.setBit ADM_STATUS.HELD p false

/-- A write accepted before the fence and not yet looked up drains at step 2 if its sett is Dirty and JOBL does not hold it (R401). -/
def State.drains (s : State) (k : Nat) : Bool := s.dirty k && !(s.slab (settSlab k)).jobl

/-- The Job engine is fenced: jobs stop where they are; of their writes that were never looked up those to Dirty setts drain at step 2,
the others are discarded (R380, R401). -/
def State.fenceJobs (s : State) : State :=
  let js := s.job.jobs.map (fun j => { j with parked := false })
  let s := { s with adm := { s.adm with jobq := s.adm.jobq.filter (fun j => s.drains j.sett) } }
  let s := { s with job := { s.job with jobs := js, fenceDue := 63, inits := [] } }
  s.wr JOB_STATUS.FENCED 1

/-- The pending-line list: a line for each write message of either stream that is not fully acknowledged (R451). -/
def State.pendingLines (s : State) : List (Nat × Nat) :=
  (s.gal.sent.filterMap (fun o => match o.msg with
    | .mirror f dpa _ => some (f, dpa)
    | .order _ dpa k => some ((s.slab (settSlab k)).owner, dpa)
    | .lineData f dpa _ => some (f, dpa)
    | _ => none)
  ++ s.gal.held.filterMap (fun h => (s.unmapLine h.face h.sett h.line).map (fun d => (h.face, d)))).take 131072

/-- A sled fences its Gallery links: FENCE goes out on every up link; writes of the twin's stream that wait are discarded, but for
those that drain at step 2, and requests to the twin end (R401, R447, R450). -/
def State.fenceGallery (s : State) (sub : Nat) : State :=
  let sub := if s.gal.handover = 3 then 3 else sub
  let s := if s.galUp then s.galSend 7 0 sub 0 0 [] [] 0 else s
  let l := if s.hasSec secTwin then s.pendingLines else []
  let s := { s with gal := { s.gal with lines := l } }
  let left := s.gal.held.filter (fun h => (h.kind == 0 || h.kind == 2 || h.kind == 3) && s.drains h.sett)
  { s with gal := { s.gal with held := left, asks := [], reqs := [], zeroing := [], handover := if s.gal.handover = 3 then 3 else 0 } }

/-- Repairs are abandoned: under the fresh flag the line is written with poison and reported, else it stays as it is
(R302). -/
def State.fenceRepairs (s : State) : State :=
  s.forEach s.dch.repairs (fun s r => s.abandonRepair r)

/-- Retrains stop at once: the last completed tap set stands again (R296). -/
def State.fenceTrains (s : State) : State :=
  match s.dch.eqRun with
  | [] => s
  | r :: l =>
    let s := { s with dch := { s.dch with taps := r.taps, eqRun := [] } }
    s.forEach (r :: l) (fun s r => s.wr (DCH_STATUS.EQ_BUSY r.chan) 0)

/-- A CIP command that draws a key is abandoned, its slots as they were (R421, R431). -/
def State.fenceCip (s : State) : State :=
  match s.cip.cmd with
  | some c =>
    if c.op = 1 ∨ c.op = 5 then
      ({ s with cip := { s.cip with cmd := none } }) |>.wr CIP_CMD_STATUS.BUSY 0 |>.wr CIP_CMD_STATUS.RESULT 6
        |>.wrB CIP_STATUS.STORE_BUSY (!s.cip.purge.isEmpty)
    else s
  | none => s

/-- The HAUL_SAVE registers when a save starts (R190, R205). -/
def State.saveRegs (s : State) (trig : Nat) (short : Bool) : State :=
  s |>.wr HAUL_SAVE_STAT.TRIGGER trig |>.wr HAUL_SAVE_STAT.STEP 2
    |>.wr HAUL_SAVE_STAT.END (if short then endShort else 0) |>.wr HAUL_SAVE_STAT.RESUMED 0
    |>.wr HAUL_SAVE_STAT.RETRIG 0 |>.alert 2

/-- The registers of a full save's records start at 0 (R205). -/
def State.saveCounts (s : State) : State :=
  s |>.wr HAUL_SAVE_SEQ.SEQ s.save.session |>.wr HAUL_SAVE_DONE.SETTS 0 |>.wr HAUL_SAVE_MISS.SETTS 0
    |>.wr HAUL_SAVE_TIME.TICKS 0 |>.wr HAUL_SAVE_DCH_LO.LOST 0 |>.wr HAUL_SAVE_DCH_HI.LOST 0
    |>.wr HAUL_SAVE_NCH0.LOST 0 |>.wr HAUL_SAVE_NCH1.LOST 0 |>.wr HAUL_SAVE_NCH2.LOST 0

/-- What the sequencer of the save starts from. -/
def SaveSt.start (v : SaveSt) (off short : Bool) (tick vol : Nat) : SaveSt :=
  { SaveSt.reset with
    off := off
    short := short
    trigTick := tick
    vol := vol
    session := v.session
    sumpStart := v.sumpStart }

/-- Replace the sequencer's state. -/
def State.setSave (s : State) (v : SaveSt) : State := { s with save := v }

/-- Energy of the save is counted from its trigger (R137). -/
def State.saveEnergy (s : State) : State :=
  let a := { s.lgr.packA with saveDebit := 0 }
  let b := { s.lgr.packB with saveDebit := 0 }
  { s with lgr := { s.lgr with packA := a, packB := b } }

/-- A stripe of a move that a fence stops: nothing that it copied is named by the map (R253). -/
def Stripe.stopped (x : Stripe) : Stripe := if x.kind = 0 then x else { x with kind := 4, a := none, b := none }

/-- A migration pauses, and rework, folds and rewraps stop (R308, R253). -/
def State.fenceMoves (s : State) : State :=
  let m := s.dch.mig.map (fun m => { m with paused := true })
  let s := { s with dch := { s.dch with mig := m } }
  let s := { s with haul := { s.haul with stripes := s.haul.stripes.map Stripe.stopped } }
  { s with stk := { s.stk with folding := false, reworking := false } }

/-- A scan that runs stops with the restore that it belongs to (R262, R277). -/
def State.fenceScan (s : State) : State :=
  ({ s with res := { s.res with scanTick := 0 } }) |>.wr RES_STATUS.SCAN 0 |>.wr RES_CMD_STATUS.BUSY 0

/-- A Survey command that a save meets ends: with ABORTED while it verifies or the Boot band is written, whose torn copy is not valid,
and with STATE when it waits for its tick; at that tick itself it is applied (R82, R510). -/
def State.fenceSvy (s : State) : State :=
  let st := s.rd SVY_STATUS.STATE
  if st = 0 then s
  else if st = 3 ∧ s.tick % 32 = 0 ∧ s.rd HAUL_SAVE_STAT.TRIGGER ≠ trigHold then { s with svy := { s.svy with cmd := 4 } }
  else
    let quiet := s.svy.cmd == 1
    let s := { s with svy := { s.svy with live := false, cmd := 0, taken := [], face := 0 } }
    let s := { s with fwm := { s.fwm with openCmds := s.fwm.openCmds.filter (fun c => c.2 != 0xC030) } }
    ((s.wr SVY_STATUS.STATE 0).wr SVY_STATUS.RESULT (if st = 3 then 11 else 12)).raiseIf (!quiet) 683

/-- Step 1 of a save (R190 to R192): the chip state, the fences, and what the save keeps of its trigger. -/
def State.saveFence (s : State) (trig : Nat) (off : Bool) : State :=
  let short := s.noFaceSince
  let v := s.save.start off short s.tick (s.rd BED_STATE.VOLATILE)
  (((s.setChip .save).saveRegs trig short).when (!short) State.saveCounts)
    |>.setSave v |>.saveEnergy |>.forEach faces (fun s p => s.fencePort p) |>.fenceJobs
    |>.fenceGallery (if trig = trigHold then 2 else 1) |>.fenceRepairs |>.fenceTrains |>.fenceCip
    |>.when (s.clg.phase == 1) State.mergeStaging |>.fenceMoves |>.fenceScan |>.fenceSvy

/-- Input power is lost, or an off request acts, where no save is to run: benches that are up step down (R480, R500). -/
def State.stepDownFor (s : State) (abort : Bool) : State :=
  let ph := s.seqPhase
  if ph = phaseUp ∨ ph = phaseBootset then (s.raiseIf abort 651).beginDown false false
  else if ph = phaseIdle ∧ 0 < s.rd SEQ_STATUS.LEVEL then s.beginDown false false
  else s

/-- A save trigger (R190, R191, R500, R501, R505). -/
def State.saveTrigger (s : State) (trig : Nat) (off : Bool) : State :=
  match s.chip with
  | .save => s.addSat HAUL_SAVE_STAT.RETRIG 1
  | .restoring => s.saveFence trig off
  | .opened => s.saveFence trig off
  | .parked => s.saveFence trig off
  | .waking => if trig = trigPwr ∨ trig = trigRail then (s.wr SEQ_STATUS.ON_PEND 0).stepDownFor true else s
  | .hold => if trig = trigPwr ∨ trig = trigRail then s.stepDownFor false else s
  | _ => if trig = trigPwr ∨ trig = trigRail then (s.wr SEQ_STATUS.ON_PEND 0).stepDownFor true else s

/-! ### Hold (R523) -/

/-- Hold is reached: DRAM is in self-refresh, the ports are fenced, ERR_N is asserted (R500, R523, R524). -/
def State.inHold (s : State) : State :=
  let s := (s.setChip .hold).dramSleep
  ((s.wr FLT_ERR.PIN 1).alert 0).updErr

/-- A demand for Hold, by the chip state at that moment (R523). -/
def State.enterHold (s : State) : State :=
  match s.chip with
  | .restoring => s.saveFence trigHold false |>.wr FLT_ERR.PIN 1 |>.updErr
  | .opened => s.saveFence trigHold false |>.wr FLT_ERR.PIN 1 |>.updErr
  | .save =>
    let t := s.rd HAUL_SAVE_STAT.TRIGGER
    let s := if t = trigHold ∨ t = trigCmd then { s with flt := { s.flt with holdAfter := true } } else s
    ((s.addSat HAUL_SAVE_STAT.RETRIG 1).wr FLT_ERR.PIN 1).updErr
  | .waking => s.inHold
  | .parked => s.inHold
  | .bedrock => (s.wr FLT_ERR.PIN 1).updErr
  | .hold => s
  | .off => s

/-! ### Rail failures (R476, R477, R200) -/

/-- The figures of a save that is cut before its walk has ended: the setts not reached, and its time so far (R205). -/
def State.cutCounts (s : State) : State :=
  let d := if s.rd HAUL_SAVE_STAT.STEP < 3 then s.rd ADM_DIRTY.SETTS else s.rd HAUL_SAVE_DIRTY.SETTS
  (s.wr HAUL_SAVE_MISS.SETTS (d - s.rd HAUL_SAVE_DONE.SETTS)).wr HAUL_SAVE_TIME.TICKS (s.tick - s.save.trigTick)

/-- A save-critical rail fails in a save: steps 1 to 7 stop at once, with END RAIL; a latched shutdown follows step 8 (R200). -/
def State.railCutSave (s : State) : State :=
  let s := { s with save := { s.save with railCut := true } }
  if s.rd HAUL_SAVE_STAT.STEP < 8 then
    let s := s.when (!s.save.short && !s.save.walked) State.cutCounts
    (({ s with save := { s.save with anchor := none } }).wr HAUL_SAVE_STAT.END endRail).wr HAUL_SAVE_STAT.STEP 8
  else s

/-- What a failed rail leads to (R477). -/
def State.railConsequence (s : State) (crit : Bool) : State :=
  match s.chip with
  | .save =>
    if crit then s.railCutSave
    else { s with seq := { s.seq with latchSave := true } }
  | .restoring => if crit then s.latchedShutdown else ({ s with seq := { s.seq with latchSave := true } }).enterHold
  | .opened => if crit then s.latchedShutdown else ({ s with seq := { s.seq with latchSave := true } }).enterHold
  | _ => s.latchedShutdown

/-- A rail fails with the causes it meets in one scan: each raises its source; one failure is recorded (R476). -/
def State.railFail (s : State) (rail : Nat) (causes : List Nat) : State :=
  match causes with
  | [] => s
  | c :: cs =>
    let first := cs.foldl Nat.min c
    let s := (s.noteFailure rail first).setBit SEQ_FAILED.RAILS rail true
    let srcs := (causes.map (railSource rail)).dedup
    let s := s.forEach srcs (fun s e => s.raise e)
    if first = causeDischarge then { s with seq := { s.seq with latchAfter := true } }
    else s.railConsequence (s.svOn (BENCHES.SAVE_CRIT rail))

end Sys2Proof.Machine
end

