-- ==== Sys2Proof/Machine/AdmOps.lean ====
section
/-! DEFINITION. What ADM and the ledger decide in every hub clock: the margin state, OVERHANG, SAFE and REMOVING, and what
the faces are told of a change (R139, R145, R147, R161, R44 to R47). -/

namespace Sys2Proof.Machine

/-! ### The margin state (R139) -/

/-- The dirty count and the published values that R139 compares. -/
structure MarginIn where
  d : Nat
  ne : Nat
  ta : Nat
  tv : Nat
  h : Nat
  /-- consecutive cadence updates with N_E at least 2 -/
  count : Nat
  deriving DecidableEq, Repr

/-- The state that D gives against T_A and T_V with no hysteresis. -/
def MarginIn.plain (i : MarginIn) : Margin := if i.tv ≤ i.d then .vermilion else if i.ta < i.d then .amber else .pearl

/-- The rows of R139 in order, each taken at most once in a hub clock (entry 9). -/
def MarginIn.next (i : MarginIn) (m : Margin) : Margin :=
  if i.ne < 2 then .sable
  else
    let m := if m = .sable then (if 1024 ≤ i.count then i.plain else .sable) else m
    let m := if m = .pearl ∧ i.ta < i.d then .amber else m
    let m := if (m = .pearl ∨ m = .amber) ∧ i.tv ≤ i.d then .vermilion else m
    let m := if m = .vermilion ∧ i.d + i.h ≤ i.tv then .amber else m
    if m = .amber ∧ i.d + i.h ≤ i.ta then .pearl else m

/-- The inputs as they stand. -/
def State.marginIn (s : State) : MarginIn :=
  { d := s.rd ADM_DIRTY.SETTS
    ne := s.rd LGR_NE.SETTS
    ta := s.rd LGR_TA.SETTS
    tv := s.rd LGR_TV.SETTS
    h := s.rd LGR_HYS.SETTS
    count := s.lgr.sableCnt }

/-- Entry to Sable: Volatile faces turn Volatile and are told so, Stall faces get a health record (R44, R45, R330). -/
def State.enterSable (s : State) : State :=
  let s := s.forEach (faces.filter s.volatilePolicy) (fun s f => (s.setBit BED_STATE.VOLATILE f true).postVendor f 2 0)
  (s.postFaces (fun f => s.faceOn f && !s.volatilePolicy f) logWarn (fun _ _ => .health true)).alert 4

/-- Sable ends: Stall faces get a health record (R45, R330). -/
def State.leaveSable (s : State) : State :=
  (s.postFaces (fun f => s.faceOn f && !s.volatilePolicy f) logWarn (fun _ _ => .health false)).alert 4

/-- The margin state reaches Pearl: Volatile faces are persistent again (R47). -/
def State.enterPearl (s : State) : State :=
  s.forEach (faces.filter s.volatileNow) (fun s f => (s.setBit BED_STATE.VOLATILE f false).postVendor f 3 0)

/-- Hold another margin state, with its three register copies. -/
def State.setMargin (s : State) (m : Margin) : State :=
  { s with margin := m } |>.wr LGR_STATUS.MARGIN m.code |>.wr ADM_STATUS.MARGIN m.code |>.wr BED_STATE.MARGIN m.code

/-- The margin state changes: EV580, and what the faces are told (R139, R510). -/
def State.changeMargin (s : State) (m : Margin) : State :=
  let was := s.margin
  if m = was then s
  else
    ((s.setMargin m).raiseQ 580 (m == .sable))
      |>.when (m == .sable) State.enterSable |>.when (was == .sable) State.leaveSable
      |>.when (m == .pearl) State.enterPearl

/-! ### Admission reports (R161) -/

/-- Send a face its admission report, with the combined margin state (R331, R443). -/
def State.reportMargin (s : State) (f : Nat) : State :=
  let b := EvBody.vendor 1 s.admMargin.code (s.rd (SLB_FDIRTY.SETTS f)) (s.rd LGR_CEIL.SETTS) 0 s.tick
  let s := s.postEvent f logInfo b
  { s with adm := { s.adm with
      repTick := SMap.put 0 f (s.tick + 1) s.adm.repTick, repDue := SMap.put false f false s.adm.repDue } }

/-- A face that takes admission reports sees a change: it is sent, or waits for the end of its one-second interval. -/
def State.reportChange (s : State) (f : Nat) : State :=
  if s.faceOn f && s.feature f featAdmission then
    let last := SMap.get 0 f s.adm.repTick
    if last = 0 ∨ last + 32767 ≤ s.tick then s.reportMargin f
    else { s with adm := { s.adm with repDue := SMap.put false f true s.adm.repDue } }
  else s

/-- Report a change of the combined margin state to the faces. -/
def State.reportMargins (s : State) : State :=
  let c := s.admMargin.code
  if c = s.adm.repMargin then s
  else ({ s with adm := { s.adm with repMargin := c } }).forEach faces (fun s f => s.reportChange f)

/-! ### OVERHANG and pack removal (R145, R147) -/

/-- A removal is pending. -/
def State.removalPending (s : State) : Bool := s.on LGR_PACK_CTL.REMOVE_A || s.on LGR_PACK_CTL.REMOVE_B

/-- OVERHANG as R145 gives it. -/
def State.overhang (s : State) : Bool :=
  decide (s.rd LGR_CEIL.SETTS < s.rd ADM_DIRTY.SETTS) ||
  (s.removalPending && decide (s.rd LGR_TV.SETTS < s.rd ADM_DIRTY.SETTS))

/-- Bring OVERHANG up to date; its setting raises EV581. -/
def State.updOverhang (s : State) : State :=
  let o := s.overhang
  (s.wrB LGR_STATUS.OVERHANG o).raiseIf (o && !s.on LGR_STATUS.OVERHANG) 581

/-- Pack states (LGR_PSTAT.STATE). -/
def pkAbsent : Nat := 0
def pkQualifying : Nat := 1
def pkCounted : Nat := 2
def pkRemoving : Nat := 3
def pkSafe : Nat := 4
def pkFailed : Nat := 5

/-- The Core log's PACK record of a pack (R534). -/
def State.packRecord (s : State) (k : Nat) : State :=
  s.formRec 7 k [(s.word (LGR_PSTAT.STATE k).addr).toNat, (s.word (LGR_PENG.JOULES k).addr).toNat,
    (s.word (LGR_PHLT.SOH k).addr).toNat, (s.word (LGR_PTMP.TEMP k).addr).toNat]

/-- A pack's state changes: its source is raised, the BMC is alerted and the Core log takes a record (R510, R534, R553). -/
def State.setPack (s : State) (k st : Nat) : State :=
  if s.rd (LGR_PSTAT.STATE k) = st then s else (((s.wr (LGR_PSTAT.STATE k) st).raise (576 + 2 * k)).alert 3).packRecord k

/-- SAFE while D is at or below T_V and the margin state is not Sable, else REMOVING (R147 step 3). -/
def State.updRemoval (s : State) (k : Nat) : State :=
  let st := s.rd (LGR_PSTAT.STATE k)
  if st = pkRemoving ∨ st = pkSafe then
    s.setPack k (if s.rd ADM_DIRTY.SETTS ≤ s.rd LGR_TV.SETTS ∧ s.margin ≠ .sable then pkSafe else pkRemoving)
  else s

/-- What ADM and the ledger evaluate in a hub clock (R139, R145, R147, R161). -/
def State.admClock (s : State) : State :=
  let s := ((s.changeMargin (s.marginIn.next s.margin)).updOverhang).forEach [0, 1] (fun s k => s.updRemoval k)
  (s.reportMargins).extreme 4 (s.rd ADM_DIRTY.SETTS)

end Sys2Proof.Machine
end

