-- ==== Sys2Proof/Machine/StkOps.lean ====
section
/-! DEFINITION. The Stockpile manager's shared operations: geometry, stripes and records, spare blocks, failures, and
erases (chapter 08). -/

namespace Sys2Proof.Machine

/-! ### The NAND, BANDS and STRIPES sections (R208 to R214) -/

def secNand : Nat := 0x20
def secBands : Nat := 0x21
def secStripes : Nat := 0x23

def NAND.WORDLINES : SFld := ⟨secNand, 4, 0, 16⟩
def NAND.PLANES : SFld := ⟨secNand, 4, 16, 4⟩
def NAND.RATE : SFld := ⟨secNand, 4, 24, 3⟩
def NAND.VCCQ : SFld := ⟨secNand, 4, 28, 2⟩
def NAND.BLOCKS_PER_PLANE : SFld := ⟨secNand, 8, 0, 16⟩
def NAND.DIE_GBIT : SFld := ⟨secNand, 8, 16, 16⟩
def NAND.ERS_SUSP : SFld := ⟨secNand, 12, 0, 8⟩
def NAND.TARGETS (n : Nat) : SFld := ⟨secNand, 16 + n * 8, 0, 8⟩
def BANDS.SPARE_LODES (g : Nat) : SFld := ⟨secBands, g * 16, 0, 16⟩
def BANDS.SUMP_LODES (g : Nat) : SFld := ⟨secBands, g * 16, 16, 16⟩
def BANDS.STOCK_LODES (g : Nat) : SFld := ⟨secBands, g * 16 + 4, 0, 16⟩
def BANDS.FREE_LOW (g : Nat) : SFld := ⟨secBands, g * 16 + 4, 16, 16⟩
def BANDS.FREE_TARGET (g : Nat) : SFld := ⟨secBands, g * 16 + 8, 0, 16⟩
def BANDS.SPARE_LOW (g : Nat) : SFld := ⟨secBands, g * 16 + 8, 16, 16⟩
def STRIPES.ENABLE (g : Nat) : SFld := ⟨secStripes, 0, g, 1⟩
def STRIPES.STEP (g : Nat) : SFld := ⟨secStripes, 4, 4 * g, 4⟩

/-- The stripe groups. -/
def groups : List Nat := [0, 1, 2, 3, 4, 5, 6, 7]

/-- A group is enabled; all are where the section is absent (R63, R212). -/
def State.groupOn (s : State) (g : Nat) : Bool := if s.hasSec secStripes then s.svOn (STRIPES.ENABLE g) else true

/-- The rotation step of a group (R63, R212). -/
def State.groupStep (s : State) (g : Nat) : Nat := if s.hasSec secStripes then s.sv (STRIPES.STEP g) else 1

/-- Targets fitted on a channel, lowest first (R209). -/
def State.targets (s : State) (n : Nat) : List Nat := bitList 8 (s.sv (NAND.TARGETS n))

/-- Fitted targets per channel of a group. -/
def State.groupT (s : State) (g : Nat) : Nat := (s.targets (9 * g)).length

/-- Stripes of a pSLC lode, S′, and of a TLC lode, S (R211). -/
def State.sumpS (s : State) (g : Nat) : Nat := s.sv NAND.WORDLINES * s.sv NAND.PLANES * s.groupT g
def State.stockS (s : State) (g : Nat) : Nat := 3 * s.sumpS g

/-- First Sump, Stockpile and fallow lode of a group (R215). -/
def State.sumpBase (s : State) (g : Nat) : Nat := s.sv (BANDS.SPARE_LODES g)
def State.stockBase (s : State) (g : Nat) : Nat := s.sumpBase g + s.sv (BANDS.SUMP_LODES g)
def State.fallowBase (s : State) (g : Nat) : Nat := s.stockBase g + s.sv (BANDS.STOCK_LODES g)

/-- Records of a group's Sump band. -/
def State.sumpRecords (s : State) (g : Nat) : Nat := s.sv (BANDS.SUMP_LODES g) * 2 * s.sumpS g

/-- The channel of data position d, or of the parity page (d = 8), of stripe j (R212). -/
def State.stripeChan (s : State) (g j d : Nat) : Nat :=
  let p := j * s.groupStep g % 9
  9 * g + (if d = 8 then p else (p + 1 + d) % 9)

/-- Units of a lode: its planes and fitted targets (R210, R211). -/
def State.lodeUnits (s : State) (g : Nat) : Nat := s.sv NAND.PLANES * s.groupT g

/-- Plane and target of stripe j of a TLC or pSLC lode (R211). -/
def State.stripePlace (s : State) (g j : Nat) (tlc : Bool) : Nat × Nat :=
  let u := if tlc then j / 3 else j
  let p := s.sv NAND.PLANES
  (u % p, (s.targets (9 * g)).getD (u / p % s.groupT g) 0)

/-- Page of stripe j within its blocks: three pages to a TLC wordline (R211). -/
def State.stripePage (s : State) (g j : Nat) (tlc : Bool) : Nat :=
  if tlc then 3 * (j / 3 / s.lodeUnits g) + j % 3 else j / s.lodeUnits g

/-- The stripe of a lode that has a page on a plane and target (R211). -/
def State.pageStripe (s : State) (g p t page : Nat) (tlc : Bool) : Nat :=
  let u := (s.targets (9 * g)).idxOf t * s.sv NAND.PLANES + p
  if tlc then 3 * (page / 3 * s.lodeUnits g + u) + page % 3 else page * s.lodeUnits g + u

/-! ### Lodes -/

def lodeFree : Nat := 0
def lodeOpen : Nat := 1
def lodeSealed : Nat := 2
def lodeReclaim : Nat := 3
def lodeErasing : Nat := 4

def lodeKey (g n : Nat) : Nat := g * 8192 + n

def State.lode (s : State) (g n : Nat) : Lode := SMap.get Lode.fresh (lodeKey g n) s.stk.lodes
def State.setLode (s : State) (g n : Nat) (l : Lode) : State :=
  { s with stk := { s.stk with lodes := SMap.put Lode.fresh (lodeKey g n) l s.stk.lodes } }

/-- A lode lies in the Sump band, in the Stockpile (R215). -/
def State.isSump (s : State) (g n : Nat) : Bool := decide (s.sumpBase g ≤ n) && decide (n < s.stockBase g)
def State.isStock (s : State) (g n : Nat) : Bool := decide (s.stockBase g ≤ n) && decide (n < s.fallowBase g)

/-- A group takes stripes: it is enabled and not DEGRADED (R252). -/
def State.groupTakes (s : State) (g : Nat) : Bool := s.groupOn g && !bitAt g s.stk.degraded

/-- An erased lode: FREE (R225). -/
def State.lodeErasedNow (s : State) (g n : Nat) : Bool := (s.lode g n).st == lodeFree

/-- The Stockpile lodes of a group, by number (R215). -/
def State.stockLodes (s : State) (g : Nat) : List Nat := (List.range (s.sv (BANDS.STOCK_LODES g))).map (fun i => s.stockBase g + i)

/-- Erased Stockpile lodes of a group, whether or not they may be opened yet (R214, R255). -/
def State.erasedLodes (s : State) (g : Nat) : Nat := ((s.stockLodes g).filter (s.lodeErasedNow g)).length

/-- A FREE lode may be opened: the DONE record of its last erase is on NAND (R225, R228; DESIGN CHOICE 122). -/
def State.lodeReady (s : State) (g n : Nat) : Bool :=
  s.lodeErasedNow g n && !s.stk.intents.any (fun i => i.lode && i.group == g && i.num == n)

/-- The Stockpile lodes of a group that may be opened. -/
def State.freeLodes (s : State) (g : Nat) : List Nat := (s.stockLodes g).filter (s.lodeReady g)

/-! ### Blocks -/

def blkKey (n t b : Nat) : Nat := (n * 8 + t) * 32768 + b

def State.blk (s : State) (n t b : Nat) : Blk := SMap.get Blk.fresh (blkKey n t b) s.stk.blks
def State.setBlk (s : State) (n t b : Nat) (e : Blk) : State :=
  { s with stk := { s.stk with blks := SMap.put Blk.fresh (blkKey n t b) e s.stk.blks } }

/-- The group of a NAND channel. -/
def chanGroup (n : Nat) : Nat := n / 9

/-- Die blocks of a die. -/
def State.dieBlocks (s : State) : Nat := s.sv NAND.PLANES * s.sv NAND.BLOCKS_PER_PLANE

/-- A die block lies in the Boot band (R215). -/
def bootBlock (n t b : Nat) : Bool := (n == 0 || n == 36) && t == 0 && decide (b < 64)

/-- Fallow lodes of a group that are broken up lie at its top (R215). -/
def State.brokenUp (s : State) (g n : Nat) : Bool :=
  decide (s.fallowBase g ≤ n) && decide (s.sv NAND.BLOCKS_PER_PLANE ≤ n + SMap.get 0 g s.stk.broken)

/-- A block belongs to the spare pool of its channel (R215). -/
def State.inSparePool (s : State) (n t b : Nat) : Bool :=
  let k := b / s.sv NAND.PLANES
  !bootBlock n t b && (decide (k < s.sumpBase (chanGroup n)) || s.brokenUp (chanGroup n) k)

/-- The key of a lode slot, and the SLOT number of R227. -/
def slotNum (n t p : Nat) : Nat := n % 9 * 64 + t * 4 + p
def slotKey (n lode t p : Nat) : Nat := lodeKey (chanGroup n) lode * 1024 + slotNum n t p

/-- The block that fills a lode slot: its own, or the spare that a REMAP gave it (target, die block). -/
def State.slotBlock (s : State) (n lode t p : Nat) : Nat × Nat :=
  match SMap.get 0 (slotKey n lode t p) s.stk.remaps with
  | 0 => (t, lode * s.sv NAND.PLANES + p)
  | v + 1 => (v / 32768, v % 32768)

/-- The slots of a lode, as (channel, target, plane). -/
def State.slotsOf (s : State) (g : Nat) : List (Nat × Nat × Nat) :=
  ((List.range 9).map (fun i => 9 * g + i)).flatMap (fun c => (s.targets c).flatMap (fun t =>
    (List.range (s.sv NAND.PLANES)).map (fun p => (c, t, p))))

/-- The blocks that fill a lode's slots, as (channel, target, die block) (R210, R227). -/
def State.lodeSlots (s : State) (g n : Nat) : List (Nat × Nat × Nat) :=
  (s.slotsOf g).map (fun x => (x.1, s.slotBlock x.1 n x.2.1 x.2.2))

/-- The lode that a block serves: its own, or that of the slot it replaces. -/
def State.blockLode (s : State) (n t b : Nat) : Nat :=
  let e := s.blk n t b
  if e.slot = 0 then b / Nat.max 1 (s.sv NAND.PLANES) else e.slotLode

/-- Target and plane of the slot that a block fills. -/
def State.blockSlot (s : State) (n t b : Nat) : Nat × Nat :=
  let e := s.blk n t b
  if e.slot = 0 then (t, b % Nat.max 1 (s.sv NAND.PLANES)) else ((e.slot - 1) % 64 / 4, (e.slot - 1) % 4)

/-- The block serves a lode: it fills a slot, its own or one that a REMAP gave it; a BAD one does until it is replaced (R227, R230,
R250). -/
def State.blockServes (s : State) (n t b : Nat) : Bool :=
  let k := b / Nat.max 1 (s.sv NAND.PLANES)
  let w := s.blockSlot n t b
  ((s.blk n t b).slot != 0 || (!bootBlock n t b && !s.inSparePool n t b && decide (k < s.fallowBase (chanGroup n))))
    && s.slotBlock n (s.blockLode n t b) w.1 w.2 == (t, b)

/-- Whether a block was last programmed as pSLC, with PSEQ and tick of its first stripe since its last erase (R230). -/
def State.blkFirst (s : State) (n t b : Nat) : Bool × Nat × Nat :=
  let e := s.blk n t b
  let g := chanGroup n
  let w := s.blockSlot n t b
  if e.st ≠ 0 then (e.pslc, e.pseq, e.tick)
  else if bootBlock n t b then (true, 0, 0)
  else if s.blockServes n t b then
    match (s.lode g (s.blockLode n t b)).units[(s.targets (9 * g)).idxOf w.1 * s.sv NAND.PLANES + w.2]? with
    | some u => (s.isSump g (s.blockLode n t b), u.1, u.2 - 1)
    | none => (e.pslc, 0, 0)
  else (e.pslc, 0, 0)

/-- A block leaves the course of its lode: 4 ERASING alone, 5 UNSETTLED, 6 BAD; what words 2 to 4 show stands (R224, R230). -/
def State.setBlkSt (s : State) (n t b st cause : Nat) : State :=
  let f := s.blkFirst n t b
  s.setBlk n t b { s.blk n t b with
    st := st
    cause := cause
    pslc := f.1
    pseq := f.2.1
    tick := f.2.2 }

/-- Mark a block BAD with its cause (R230). -/
def State.markBad (s : State) (n t b cause : Nat) : State := s.setBlkSt n t b 6 cause

/-- A block whose erase was never confirmed; a BAD one stays BAD (R224, R228). -/
def State.unsettle (s : State) (n t b : Nat) : State :=
  if (s.blk n t b).st = 6 then s else s.setBlkSt n t b 5 0

/-- The INTENT record of a lode's erase is on NAND (R224, R226). -/
def State.intentStands (s : State) (g n : Nat) : Bool := s.stk.intents.any (fun i => i.lode && i.group == g && i.num == n && i.st == 1)

/-- STATE of a block (R224, R225, R230): ERASING from its lode's journalled intent on, unless it is BAD. -/
def State.blockState (s : State) (n t b : Nat) : Nat :=
  let e := s.blk n t b
  let g := chanGroup n
  let l := s.blockLode n t b
  if s.blockServes n t b && (s.lode g l).st == lodeErasing && s.intentStands g l && e.st != 6 then 3
  else if e.st ≠ 0 then e.st - 1
  else if bootBlock n t b then 7
  else if s.inSparePool n t b && e.slot == 0 then 0
  else if decide (s.fallowBase g ≤ b / Nat.max 1 (s.sv NAND.PLANES)) && e.slot == 0 then 6
  else match (s.lode g l).st with
    | 0 => 0 | 1 => 1 | _ => 2

/-- Erases of a block: its own, and those of the lode whose slot it fills, since it took it (R226, R230). -/
def State.blockErases (s : State) (n t b : Nat) : Nat :=
  let e := s.blk n t b
  e.erases + (if s.blockServes n t b then (s.lode (chanGroup n) (s.blockLode n t b)).erases - e.slotBase else 0)

/-- Erases of all blocks in a lode's slots: lodes of a group have as many slots, so these compare as the means do (R249). -/
def State.lodeTotal (s : State) (g n : Nat) : Nat := ((s.lodeSlots g n).map (fun b => s.blockErases b.1 b.2.1 b.2.2)).sum

/-- The FREE lode that is opened next: lowest mean erase count, then lowest number (R249). -/
def State.bestFree (s : State) (g : Nat) : Option Nat :=
  (((s.freeLodes g).map (fun n => (s.lodeTotal g n, n))).foldl (fun b x => match b with
    | none => some x
    | some m => if x.1 < m.1 then some x else some m) none).map (fun x => x.2)

/-- A spare block of a channel is free: in the pool, not recorded as anything but ERASED, and serving no slot. -/
def State.spareFree (s : State) (n t b : Nat) : Bool :=
  s.inSparePool n t b && (s.blk n t b).st == 0 && (s.blk n t b).slot == 0

/-- The free spare blocks of a channel, those of a plane first, as (target, die block). -/
def State.spares (s : State) (n plane : Nat) : List (Nat × Nat) :=
  let all := (s.targets n).flatMap (fun t => ((List.range s.dieBlocks).filter (s.spareFree n t)).map (fun b => (t, b)))
  all.filter (fun x => x.2 % s.sv NAND.PLANES == plane) ++ all.filter (fun x => x.2 % s.sv NAND.PLANES != plane)

/-- How many free spare blocks a channel has: its pool without the Boot band and the blocks that are in use or out of service. -/
def State.spareCount (s : State) (n : Nat) : Nat :=
  let t := (s.targets n).length
  let low := s.sumpBase (chanGroup n) * s.sv NAND.PLANES
  let boot := if (n = 0 ∨ n = 36) ∧ (s.targets n).contains 0 then min 64 low else 0
  let used := (s.stk.blks.filter (fun p => p.1 / 262144 == n && (p.2.st != 0 || p.2.slot != 0)
    && s.inSparePool n (p.1 / 32768 % 8) (p.1 % 32768))).length
  t * (low + SMap.get 0 (chanGroup n) s.stk.broken * s.sv NAND.PLANES) - boot - used

/-- A journal record waits to be written (R226). -/
def State.journal (s : State) (r : JRec) : State := { s with stk := { s.stk with jpend := s.stk.jpend ++ [r] } }

/-- The lode and stripe number within it of a stripe taken: Stockpile stripe number, or first Sump record. -/
def State.stripeLode (s : State) (g num : Nat) (sump : Bool) : Nat × Nat :=
  if sump then (s.sumpBase g + num / (2 * s.sumpS g), num % (2 * s.sumpS g) / 2)
  else (s.stockBase g + num / s.stockS g, num % s.stockS g)

/-- A stripe's program is complete: a pSLC page stands alone, a TLC wordline needs its three stripes (R213). -/
def State.programmed (s : State) (st : Stripe) : Bool :=
  if st.sump then true
  else
    let q := s.stripeLode st.group st.num false
    decide (q.2 / 3 * 3 + 3 ≤ (s.lode st.group q.1).used)

/-- A stripe on its way to a lode holds it. -/
def State.lodeBusy (s : State) (g n : Nat) : Bool :=
  s.haul.stripes.any (fun x => x.group == g && (s.stripeLode g x.num x.sump).1 == n)

/-- A lode whose last stripe has been taken is SEALED once no stripe of it is on its way any more (R225). -/
def State.sealFull (s : State) (g n : Nat) : State :=
  let full := if s.isSump g n then s.sumpS g else s.stockS g
  s.when ((s.lode g n).st == lodeOpen && decide (full ≤ (s.lode g n).used) && !s.lodeBusy g n)
    (fun s => s.setLode g n { s.lode g n with st := lodeSealed })

/-! ### Hauls -/

/-- A haul ends early: its entry leaves the table, its sett still Dirty (R189). -/
def State.abortHaul (s : State) (k : Nat) : State :=
  let s := s.addWrap HAUL_CNT_ABORT.COUNT 1
  let s := s.dropHaul k
  { s with haul := { s.haul with
      waitStk := s.haul.waitStk.filter (fun x => x != k)
      waitSump := s.haul.waitSump.filter (fun x => x != k) } }

/-- A stripe that cannot be programmed: the hauls it carried end early, a move's pages become stale (R188, R189, R246). -/
def State.dropStripe (s : State) (st : Stripe) : State :=
  let s := { s with haul := { s.haul with stripes := s.haul.stripes.filter (fun x => x.id != st.id) } }
  if st.kind = 0 then
    s.forEach (st.a.toList ++ st.b.toList) (fun s k => if (s.haulOf k).any (fun h => h.stripe == st.id + 1) then s.abortHaul k else s)
  else s

/-! ### Groups and dies that fail (R245, R250 to R252) -/

/-- Lodes with stripes on a group become rework sources of kind 1, also those that are OPEN (R245, R251, R252). -/
def State.sealGroup (s : State) (g : Nat) : State :=
  { s with stk := { s.stk with lodes := s.stk.lodes.map (fun p =>
      if p.1 / 8192 = g ∧ s.isStock g (p.1 % 8192) ∧ (p.2.st = lodeSealed ∨ p.2.st = lodeOpen ∨ p.2.st = lodeReclaim)
      then (p.1, { p.2 with early := true }) else p) } }

/-- A group that takes no new stripe: its OPEN Stockpile lodes are SEALED, and stripes of a wordline that will not fill end (R189, R213,
R252). -/
def State.closeGroup (s : State) (g : Nat) : State :=
  let shut (p : Nat × Lode) : Nat × Lode :=
    if p.1 / 8192 = g ∧ s.isStock g (p.1 % 8192) ∧ p.2.st = lodeOpen then (p.1, { p.2 with st := lodeSealed }) else p
  let s := { s with stk := { s.stk with lodes := s.stk.lodes.map shut, openLode := SMap.put 0 g 0 s.stk.openLode } }
  s.forEach (s.haul.stripes.filter (fun x => x.group == g && !s.programmed x)) (fun s x => s.dropStripe x)

/-- A group turns DEGRADED until the next chip reset; its source EV699 is raised, and its lodes become rework sources
(R252, R510). -/
def State.degrade (s : State) (g : Nat) : State :=
  if bitAt g s.stk.degraded then s
  else
    let s := { s with stk := { s.stk with degraded := withBit g true s.stk.degraded } }
    ((((s.wr STK_STATUS.DEGRADED s.stk.degraded).wr (STK_GRPA.STATE g) 1).raise 699).sealGroup g).closeGroup g

/-- A fallow lode of a group is still whole. -/
def State.fallowLeft (s : State) (g : Nat) : Bool :=
  decide (s.fallowBase g + SMap.get 0 g s.stk.broken < s.sv NAND.BLOCKS_PER_PLANE)

/-- The highest-numbered fallow lode is broken up (R215). -/
def State.breakOne (s : State) (g : Nat) : State :=
  { s with stk := { s.stk with broken := SMap.put 0 g (SMap.get 0 g s.stk.broken + 1) s.stk.broken } }

/-- A channel that is not lost has fallen below SPARE_LOW spare blocks (R215). -/
def State.spareShort (s : State) (g : Nat) : Bool :=
  (List.range 9).any (fun d => s.rd (NCH_STATUS.STATE (9 * g + d)) != 4 && decide (s.spareCount (9 * g + d) < s.sv (BANDS.SPARE_LOW g)))

/-- Fallow lodes are broken up while a channel of the group has too few spare blocks (R215). -/
def State.breakUp (s : State) (g : Nat) : Nat → State
  | 0 => s
  | n + 1 => if s.fallowLeft g && s.spareShort g then (s.breakOne g).breakUp g n else s

/-- Spare blocks of a group are kept above SPARE_LOW while fallow lodes are left (R215). -/
def State.keepSpares (s : State) (g : Nat) : State := s.breakUp g (s.sv NAND.BLOCKS_PER_PLANE)

/-- The block that fills a slot leaves it: its erase count stands from then on (R226, R230). -/
def State.leaveSlot (s : State) (n lode t p : Nat) : State :=
  let x := s.slotBlock n lode t p
  let e := s.blk n x.1 x.2
  s.setBlk n x.1 x.2 { e with
    erases := s.blockErases n x.1 x.2
    slot := 0
    slotLode := 0
    slotBase := 0 }

/-- A spare block takes a slot under a REMAP record (R227). -/
def State.useSpare (s : State) (n lode t p t' b : Nat) : State :=
  let s := s.leaveSlot n lode t p
  let e := s.blk n t' b
  let s := s.setBlk n t' b { e with slot := slotNum n t p + 1, slotLode := lode, slotBase := (s.lode (chanGroup n) lode).erases }
  let s := { s with stk := { s.stk with remaps := SMap.put 0 (slotKey n lode t p) (t' * 32768 + b + 1) s.stk.remaps } }
  s.journal
    { typ := 5
      group := chanGroup n
      channel := n
      target := t'
      num := b
      slot := slotNum n t p
      erases := 0
      jseq := 0 }

/-- A lode slot gets a spare block on its channel, of the same plane first; a fallow lode is broken up where there is none, and
with none of these left the group is DEGRADED (R215, R227, R250, R252). -/
def State.remapSlot (s : State) (n lode t p : Nat) : State :=
  let g := chanGroup n
  let s := if (s.spares n p).isEmpty ∧ s.fallowLeft g then s.breakOne g else s
  match s.spares n p with
  | [] => s.degrade g
  | x :: _ => (s.useSpare n lode t p x.1 x.2).keepSpares g

/-- Slots of a lode whose block is BAD get a spare block (R250, R251). -/
def State.remapBad (s : State) (g lode : Nat) : State :=
  s.forEach (s.slotsOf g) (fun s x =>
    let b := s.slotBlock x.1 lode x.2.1 x.2.2
    s.when ((s.blk x.1 b.1 b.2).st == 6) (fun s => s.remapSlot x.1 lode x.2.1 x.2.2))

/-- BAD blocks of a die. -/
def State.badCount (s : State) (n t : Nat) : Nat :=
  (s.stk.blks.filter (fun p => decide (blkKey n t 0 ≤ p.1) && decide (p.1 < blkKey n t 32768) && p.2.st == 6)).length

/-- A channel is LOST: every target is gone, or it failed training (R252). -/
def State.chanLost (s : State) (n : Nat) : State :=
  ((s.wr (NCH_STATUS.STATE n) 4).raiseQ (219 + 4 * n) true).degrade (chanGroup n)

/-- A die is retired (R251). -/
def State.retireDie (s : State) (n t : Nat) : State :=
  if bitAt t (s.rd (NCH_STATUS.TGT_RETIRED n)) then s
  else
    let s := (s.setBit (NCH_STATUS.TGT_RETIRED n) t true).setBit (NCH_STATUS.TGT_LIVE n) t false
    let s := s.forEach ((List.range s.dieBlocks).filter (fun b => !bootBlock n t b)) (fun s b => s.markBad n t b 5)
    let s := s.sealGroup (chanGroup n)
    if s.rd (NCH_STATUS.TGT_LIVE n) = 0 then s.chanLost n
    else ((if s.rd (NCH_STATUS.STATE n) = 2 then s.wr (NCH_STATUS.STATE n) 3 else s).raise (219 + 4 * n)).keepSpares (chanGroup n)

/-- A die with too many BAD blocks is retired (R251). -/
def State.checkDie (s : State) (n t : Nat) : State := if s.rd STK_DIE_BAD.MAX < s.badCount n t then s.retireDie n t else s

/-- An operation on a die was answered: the run of unanswered ones ends (R251). -/
def State.dieAnswers (s : State) (n t : Nat) : State :=
  { s with stk := { s.stk with silent := SMap.put 0 (n * 8 + t) 0 s.stk.silent } }

/-! ### Write-protect sectors (R231 to R233) -/

/-- How strict a mode is: READ_ONLY, BOOTW, NO_ERASE, OPEN (R232). -/
def wpRank (m : Nat) : Nat := match m with
  | 0 => 0 | 1 => 1 | 3 => 2 | _ => 3

/-- Sectors in force on a channel. -/
def State.wpSectors (s : State) (n : Nat) : List Nat :=
  let base := 0x300000 + 0x2000 * n + 0x800
  (s.regs.filter (fun p => decide (base ≤ p.1) && decide (p.1 < base + 0x800) && p.1 % 8 == 4 && p.2.msb)).map (fun p => (p.1 - base) / 8)

/-- The mode that a channel's sectors give a block: the strictest of those that cover it (R232). -/
def State.wpMode (s : State) (n t b : Nat) : Nat :=
  (s.wpSectors n).foldl (fun m w =>
    if s.on (NCH_WPHI.VALID n w) && s.rd (NCH_WPHI.TARGET n w) == t && decide (s.rd (NCH_WPLO.FIRST n w) ≤ b)
        && decide (b ≤ s.rd (NCH_WPLO.LAST n w)) && decide (wpRank m < wpRank (s.rd (NCH_WPHI.MODE n w)))
    then s.rd (NCH_WPHI.MODE n w) else m) 0

/-- Whether the sectors let a block take a program, and an erase; `boot` for the Boot band writer (R232). -/
def State.mayProgram (s : State) (n t b : Nat) (boot : Bool) : Bool := decide (wpRank (s.wpMode n t b) ≤ if boot then 2 else 1)
def State.mayEraseBlock (s : State) (n t b : Nat) (boot : Bool) : Bool :=
  let m := s.wpMode n t b
  m == 0 || (boot && m == 3)

/-- An operation that a sector forbids is refused (R233). -/
def State.wpRefuse (s : State) (n : Nat) : State := (s.wr (NCH_STATUS.WP_VIOL n) 1).raise (218 + 4 * n)

/-! ### Taking stripes -/

/-- The Stockpile lode that takes the group's next stripe, open or to be opened. -/
def State.stockLode (s : State) (g : Nat) : Option Nat :=
  match SMap.get 0 g s.stk.openLode with
  | 0 => s.bestFree g
  | n + 1 => some n

/-- The Sump lode and stripe that the head names (R218). -/
def State.sumpPlace (s : State) (g : Nat) : Nat × Nat :=
  let h := SMap.get 0 g s.stk.head
  (s.sumpBase g + h / (2 * s.sumpS g), h % (2 * s.sumpS g) / 2)

/-- The head's lode can take its next stripe: it is erased, or open up to here. -/
def State.sumpRoom (s : State) (g : Nat) : Bool :=
  let p := s.sumpPlace g
  let l := s.lode g p.1
  decide (0 < s.sumpRecords g) && (s.lodeReady g p.1 || (l.st == lodeOpen && l.used == p.2))

/-- The group of a location entry, and its stripe number (Stockpile) or record (Sump). -/
def locGroup (w : Word) : Nat := bitsOf 27 3 w.toNat
def locNum (w : Word) : Nat := if locKind w = 2 then bitsOf 0 27 w.toNat else bitsOf 1 26 w.toNat

/-- The lode that a location entry names (R218). -/
def State.locLode (s : State) (w : Word) : Nat × Nat :=
  let g := locGroup w
  (g, if locKind w = 2 then s.sumpBase g + locNum w / (2 * s.sumpS g) else s.stockBase g + locNum w / s.stockS g)

/-- Valid records of a lode: map entries that name it (R244). -/
def State.validCount (s : State) (g n : Nat) : Nat :=
  (s.slb.lmap.filter (fun p => (locKind p.2 == 1 || locKind p.2 == 2) && s.locLode p.2 == (g, n))).length

/-- A save that is not released holds a lode: its records are still needed (R219, R276). -/
def State.saveHolds (s : State) (g n : Nat) : Bool := s.saves.any (fun v => !v.released && v.lodes.contains (g, n))

/-- A lode holds a record that is still needed (R219). -/
def State.lodeNeeded (s : State) (g n : Nat) : Bool := s.validCount g n != 0 || s.saveHolds g n

/-- Erased Sump lodes in ring order behind the head's lode, up to the first one that holds a record still needed (R219). -/
def State.sumpFreeRun (s : State) (g : Nat) : Nat :=
  let n := s.sv (BANDS.SUMP_LODES g)
  let cur := (s.sumpPlace g).1 - s.sumpBase g
  let ring := (List.range (n - 1)).map (fun i => s.sumpBase g + (cur + 1 + i) % n)
  ((ring.takeWhile (fun l => !s.lodeNeeded g l)).filter (s.lodeReady g)).length

/-- Free Sump records of a group before the reserve (R219). -/
def State.groupSumpFree (s : State) (g : Nat) : Nat :=
  if s.groupTakes g && s.sumpRoom g then 2 * (s.sumpS g - (s.sumpPlace g).2) + s.sumpFreeRun g * 2 * s.sumpS g else 0

/-- SUMP_FREE as the Stockpile manager reports it, net of the reserve of R135. -/
def State.sumpFree (s : State) : Nat := (groups.map s.groupSumpFree).sum - 40960

/-- A group can take a stripe for a destination (R180): `sump` the Sump band, else the Stockpile. Outside a save a Sump
stripe leaves the reserve untouched. -/
def State.canTake (s : State) (g : Nat) (sump : Bool) : Bool :=
  s.groupTakes g && (if sump then s.sumpRoom g && decide (2 ≤ s.sumpFree)
    else SMap.get 0 g s.stk.openLode != 0 || !(s.freeLodes g).isEmpty)

/-- The next group in turn that can take a stripe (R184). -/
def State.nextGroup (s : State) (sump : Bool) : Option Nat :=
  ((List.range 8).map (fun i => (s.haul.group + i) % 8)).find? (fun g => s.canTake g sump)

/-- PSEQ of the group's next stripe (R222). -/
def State.nextPseq (s : State) (g : Nat) : Nat := SMap.get 0 g s.stk.pseq

/-- A lode after m stripes more: it opens with its first stripe; `step` stripes fill a wordline of a unit, and `done` is the tick plus 1 of
their program, 0 while it is awaited (R211, R222, R225, R230). -/
def Lode.take (l : Lode) (m units step pseq tick done : Nat) : Lode :=
  let fresh := (List.range (min units ((l.used + m + step - 1) / step))).drop l.units.length
  { l with
    used := l.used + m
    pseq := if l.used = 0 then pseq else l.pseq
    tick := if l.used = 0 then tick else l.tick
    st := if l.st = lodeFree then lodeOpen else l.st
    units := l.units ++ fresh.map (fun u => ((pseq + (u * step - l.used)) % 4294967296, done)) }

/-- Stripes are written into a lode; before a FREE lode is opened its BAD slots are remapped; PSEQ advances (R222, R225, R251). `done` as
in Lode.take. -/
def State.lodeTake (s : State) (g n m : Nat) (sump : Bool) (done : Nat) : State :=
  let s := s.when ((s.lode g n).used == 0) (fun s => s.remapBad g n)
  let l := (s.lode g n).take m (s.lodeUnits g) (if sump then 1 else 3) (s.nextPseq g) s.tick done
  let s := s.setLode g n l
  { s with stk := { s.stk with pseq := SMap.put 0 g ((s.nextPseq g + m) % 4294967296) s.stk.pseq } }

/-- The first program of a stripe's unit since its lode's erase sets the tick that its blocks show (R230). -/
def State.unitDone (s : State) (g num : Nat) (sump : Bool) : State :=
  let q := s.stripeLode g num sump
  let l := s.lode g q.1
  let u := if sump then q.2 else q.2 / 3
  match l.units[u]? with
  | some (p, 0) => s.setLode g q.1 { l with units := l.units.set u (p, s.tick + 1) }
  | _ => s

/-- Take the next stripe of a given Stockpile lode: its number within the Stockpile (R218). -/
def State.takeIn (s : State) (g n : Nat) : Nat × State :=
  let full := s.stockS g
  let j := (s.lode g n).used
  let t := s.lodeTake g n 1 false 0
  let o := SMap.get 0 g t.stk.openLode
  let o := if o = n + 1 ∧ j + 1 = full then 0 else o
  ((n - s.stockBase g) * full + j, { t with stk := { t.stk with openLode := SMap.put 0 g o t.stk.openLode } })

/-- Take the next Stockpile stripe of a group: the open lode's, or that of the lode opened for it (R218, R249). -/
def State.takeStock (s : State) (g : Nat) : Option (Nat × State) :=
  match s.stockLode g with
  | none => none
  | some n => some (({ s with stk := { s.stk with openLode := SMap.put 0 g (n + 1) s.stk.openLode } }).takeIn g n)

/-- Take the next Sump stripe of a group: its first record number; the head passes both records (R219). `done` as in Lode.take. -/
def State.takeSump (s : State) (g done : Nat) : Nat × State :=
  let h := SMap.get 0 g s.stk.head
  let p := s.sumpPlace g
  let t := s.lodeTake g p.1 1 true done
  let n := s.sumpRecords g
  (h, { t with stk := { t.stk with head := SMap.put 0 g (if h + 2 < n then h + 2 else 0) t.stk.head } })

/-- The blocks that take a stripe's nine pages, as (channel, target, die block) (R211, R212). -/
def State.stripeBlocks (s : State) (g num : Nat) (sump : Bool) : List (Nat × Nat × Nat) :=
  let q := s.stripeLode g num sump
  let pl := s.stripePlace g q.2 (!sump)
  (List.range 9).map (fun d =>
    let n := s.stripeChan g q.2 d
    (n, s.slotBlock n q.1 pl.2 pl.1))

/-- The location entry of a half of a stripe (R108). -/
def stripeLoc (g num half : Nat) (sump : Bool) : Word := if sump then locSump g (num + half) else locStk g num half

/-- A sett record in NAND at a location entry. -/
def State.recAt (s : State) (w : Word) : Option Rec := SMap.get none w.toNat s.stk.recs
def State.putRec (s : State) (w : Word) (r : Rec) : State :=
  { s with stk := { s.stk with recs := SMap.put none w.toNat (some r) s.stk.recs } }

/-- A page is read from a block unless the block's last erase was never confirmed, also while it is erased afresh (R228). -/
def State.blkReadable (s : State) (n t b : Nat) : Bool := (s.blk n t b).st != 5 && (s.blk n t b).st != 4

/-! ### Program failures -/

/-- A program of a stripe failed on a channel: the block is BAD with CAUSE 2, and its lode is SEALED at once (R250). -/
def State.programFailed (s : State) (g num : Nat) (sump : Bool) (n : Nat) : State :=
  let q := s.stripeLode g num sump
  let pl := s.stripePlace g q.2 (!sump)
  let b := s.slotBlock n q.1 pl.2 pl.1
  let s := (s.markBad n b.1 b.2 2).addSat (NCH_CNT_FAIL.PROG n) 1
  let s := s.setLode g q.1 { s.lode g q.1 with st := lodeSealed, early := true }
  let s := if !sump && SMap.get 0 g s.stk.openLode = q.1 + 1 then
      { s with stk := { s.stk with openLode := SMap.put 0 g 0 s.stk.openLode } } else s
  let h := (q.1 - s.sumpBase g + 1) * 2 * s.sumpS g % s.sumpRecords g
  let s := if sump && (s.sumpPlace g).1 = q.1 then { s with stk := { s.stk with head := SMap.put 0 g h s.stk.head } } else s
  (s.raise (217 + 4 * n)).checkDie n b.1

/-! ### Single blocks (R226, R227) -/

/-- Add an intent and its journal record. -/
def State.addIntent (s : State) (i : Intent) (r : JRec) : State :=
  ({ s with stk := { s.stk with intents := s.stk.intents ++ [i] } }).journal r

/-- A journal record of an erase. -/
def JRec.erase (typ : Nat) (i : Intent) (erases : Nat) : JRec :=
  { typ := typ
    group := i.group
    channel := i.channel
    target := i.target
    num := i.num
    slot := 0
    erases := erases
    jseq := 0 }

/-- The intent of a lode, and of a block. -/
def intentLode (g n : Nat) : Intent :=
  { lode := true
    group := g
    channel := 0
    target := 0
    num := n
    st := 0 }
def intentBlock (c t b : Nat) : Intent :=
  { lode := false
    group := chanGroup c
    channel := c
    target := t
    num := b
    st := 0 }

/-- A block that may be erased alone: UNSETTLED, or in the spare pool or a fallow lode, and not being erased (R224, R226). -/
def State.loneBlock (s : State) (c t b : Nat) : Bool :=
  let v := s.blockState c t b
  decide (c < 72) && decide (b < s.dieBlocks) && (v == 4 || ((v == 0 || v == 6) && (s.blk c t b).slot == 0 && !s.blockServes c t b))
    && !s.stk.intents.any (fun i => !i.lode && i.channel == c && i.target == t && i.num == b)

/-- The INTENT record of a single block's erase; it gives the erase count with this erase (R226, R227). -/
def State.eraseBlock (s : State) (c t b : Nat) : State :=
  if s.loneBlock c t b then
    s.addIntent (intentBlock c t b) (JRec.erase 3 (intentBlock c t b) (s.blockErases c t b + 1))
  else s

/-! ### The Boot band (R215 to R217) -/

/-- First block and number of blocks of an area of the Boot band: 0, 1 Survey copies A, B; 2, 3 firmware slots A, B; 4 anchors;
5 intent journal; 6 Core log; 7 health; 8 boot spares (R216). -/
def bootArea (a : Nat) : Nat × Nat :=
  match a with
  | 0 => (0, 2) | 1 => (2, 2) | 2 => (4, 6) | 3 => (10, 6) | 4 => (16, 4) | 5 => (20, 20) | 6 => (40, 16) | 7 => (56, 2) | _ => (58, 6)

def bootAnchors : Nat := 4
def bootJournal : Nat := 5
def bootLog : Nat := 6
def bootHealth : Nat := 7

/-- The channel of a copy of the Boot band: N00 or N36. -/
def bootChan (copy : Nat) : Nat := 36 * copy

/-- The die block that serves a block of an area in a copy: its own, or the boot spare that replaced it (R217). -/
def State.bootAt (s : State) (copy b : Nat) : Nat :=
  match SMap.get 0 (copy * 64 + b) s.stk.bootMap with
  | 0 => b
  | v => v

/-- The lowest free boot spare of a copy. -/
def State.bootSpare (s : State) (copy : Nat) : Option Nat :=
  ((List.range 6).map (fun i => 58 + i)).find? (fun v => !s.stk.bootBad.contains (copy * 64 + v)
    && !s.stk.bootMap.any (fun p => p.1 / 64 == copy && p.2 == v))

/-- A Boot band block fails a program or an erase: the channel counts and raises it, and the lowest free boot spare of the copy takes its
place (R217, R254, R510). -/
def State.bootFail (s : State) (copy b : Nat) : State :=
  let s := (s.addSat (NCH_CNT_FAIL.PROG (bootChan copy)) 1).raise (217 + 4 * bootChan copy)
  let s := { s with stk := { s.stk with bootBad := (s.stk.bootBad ++ [copy * 64 + s.bootAt copy b]).dedup } }
  match s.bootSpare copy with
  | none => s
  | some v => { s with stk := { s.stk with bootMap := SMap.put 0 (copy * 64 + b) v s.stk.bootMap } }

/-- Pages of a Boot band block: one per wordline, in pSLC (R216). -/
def State.bootPages (s : State) : Nat := Nat.max 1 (s.sv NAND.WORDLINES)

/-- The block of an area in which one of its pages lies, the area's blocks in rotation (R217). -/
def State.bootPageBlock (s : State) (area page : Nat) : Nat :=
  (bootArea area).1 + page / s.bootPages % (bootArea area).2

/-- The page after a page of an area, in rotation. -/
def State.bootPageNext (s : State) (area page : Nat) : Nat := (page + 1) % ((bootArea area).2 * s.bootPages)

/-- The Boot band writer erases a block of an area on a copy: not where its sectors forbid it (R216, R217, R232, R233). -/
def State.bootErase (s : State) (copy b : Nat) : Bool × State :=
  if s.mayEraseBlock (bootChan copy) 0 (s.bootAt copy b) true then (true, s) else (false, s.wpRefuse (bootChan copy))

/-- Target 0 of N00 and of N36 takes programs: it holds no suspended erase (R242; DEDUCED 141). -/
def State.bootFree (s : State) : Bool :=
  !(SMap.get DieErase.idle 0 s.stk.dies).suspended && !(SMap.get DieErase.idle 288 s.stk.dies).suspended

/-- A program of a block of an area succeeds on a copy: its sectors let the Boot band writer in, and the part reports success: false
where the program, or the erase before it, failed (R216, R217, R232). -/
def State.bootWrote (s : State) (copy b : Nat) (ok : Bool) : Bool := ok && s.mayProgram (bootChan copy) 0 (s.bootAt copy b) true

/-- The Boot band writer programs a block of an area on copies, with the part's reports: a sector refuses it, or a failed block is
replaced (R216, R217, R233). -/
def State.bootProgram (s : State) (b : Nat) (l : List (Nat × Bool)) : State :=
  s.forEach l (fun s x =>
    if !s.mayProgram (bootChan x.1) 0 (s.bootAt x.1 b) true then s.wpRefuse (bootChan x.1)
    else s.when (!x.2) (fun s => s.bootFail x.1 b))

/-- Both copies of a block of an area are programmed: whether one of them stands, and the state after (R216, R217, R334). -/
def State.bootBoth (s : State) (b : Nat) (ok0 ok36 : Bool) : Bool × State :=
  (s.bootWrote 0 b ok0 || s.bootWrote 1 b ok36, s.bootProgram b [(0, ok0), (1, ok36)])

/-- A page of the health area is programmed (R216, R334). -/
def State.healthProgram (s : State) (ok0 ok36 : Bool) : Bool × State :=
  s.bootBoth ((bootArea bootHealth).1 + s.stk.hblock) ok0 ok36

/-- The Core log's block that takes the next page: from the area's first block up, then in rotation behind the frozen first area
(R531, R532). -/
def State.logBlock (s : State) : Nat :=
  let k := s.stk.lpage / s.bootPages
  let n := (bootArea bootLog).2
  (bootArea bootLog).1 + (if k < n then k else s.stk.lfix + (k - s.stk.lfix) % Nat.max 1 (n - s.stk.lfix))

/-- Core log pages have been programmed, 64 records to a page (R532). -/
def State.logPages (s : State) (records : Nat) : State :=
  { s with stk := { s.stk with lpage := s.stk.lpage + (records + 63) / 64 } }

/-- The first area is frozen: later records go to blocks of their own (R531). -/
def State.logFreeze (s : State) : State :=
  if s.stk.lfix = 0 then
    let k := (s.stk.lpage + s.bootPages - 1) / s.bootPages
    { s with stk := { s.stk with lfix := k, lpage := k * s.bootPages } }
  else s

/-! ### Wear (R168 to R171) -/

def secScheduler : Nat := 0x42

/-- A field of the SCHEDULER section, or its default (R173). -/
def State.sched (s : State) (off lo width dflt : Nat) : Nat :=
  if s.hasSec secScheduler then svField s.svy.run ⟨secScheduler, off, lo, width⟩ else dflt

/-- Raw bytes that a stripe program charges: 128 KiB of data times 9/8, three times as much in pSLC (R169). -/
def stripeWear (sump : Bool) : Nat := if sump then 442368 else 147456

/-- Charge a stripe program to a class; the registers show whole MiB rounded up (R169, R171). -/
def State.charge (s : State) (cls : Nat) (sump : Bool) : State :=
  let w := s.adm.wear + stripeWear sump
  let h := if cls = 1 then s.adm.wearHaul + stripeWear sump else s.adm.wearHaul
  let s := { s with adm := { s.adm with wear := w, wearHaul := h } }
  let mib (x : Nat) : Nat := (x + 1048575) / 1048576
  let s := (s.wr ADM_WEAR_SPENT.MIB (mib w)).wr ADM_WEAR_HAUL.MIB (mib h)
  s.when (decide (s.rd ADM_WEAR_BUD.MIB ≤ mib w)) (fun s => s.wr ADM_STATUS.WEAR_OVER 1)

end Sys2Proof.Machine
end

