-- ==== Sys2Proof/Machine/ReadFx.lean ====
section
/-! DEFINITION. Reads of NAND pages: the retry ladder, the stripe rebuild, erase suspends, and the pages of a record (chapter 08). -/

namespace Sys2Proof.Machine

/-! ### Page reads (R221, R237 to R240, R247) -/

/-- The block is pSLC now: a Sump lode's, or one of the Boot band (R211, R216). -/
def State.blkPslc (s : State) (n t b : Nat) : Bool := s.isSump (chanGroup n) (s.blockLode n t b) || bootBlock n t b

/-- The read levels that a page uses, by their place in LV: V1 first, S last (R238). -/
def State.pageLevels (s : State) (n t b page : Nat) : List Nat :=
  if s.blkPslc n t b then [7]
  else match page % 3 with
    | 0 => [0, 4]
    | 1 => [1, 3, 5]
    | _ => [2, 6]

/-- An offset moved by a number of steps, within its limits (R238). -/
def stepOff (v d : Int) : Int := if v + d < -32 then -32 else if 31 < v + d then 31 else v + d

/-- The accumulators of a block on its channel; 0 for a block outside the eight most recent (R238). -/
def State.accOf (s : State) (n key : Nat) : List Int :=
  (((SMap.get [] n s.stk.accs).find? (fun x => x.1 == key)).map (fun x => x.2)).getD (List.replicate 8 0)

/-- Keep a block's accumulators as the most recently read ones. -/
def State.putAcc (s : State) (n key : Nat) (a : List Int) : State :=
  let l := (key, a) :: (SMap.get [] n s.stk.accs).filter (fun x => x.1 != key)
  { s with stk := { s.stk with accs := SMap.put [] n (l.take 8) s.stk.accs } }

/-- One level's accumulator and offset after a read: the two tests follow one another (R238). -/
def trackLevel (thr : Int) (a off flips : Int) : Int × Int :=
  let x := if thr ≤ a + flips then (0, stepOff off 1) else (a + flips, off)
  if x.1 ≤ -thr then (0, stepOff x.2 (-1)) else x

/-- Offsets follow the errors of a page read (R238). -/
def State.trackRead (s : State) (n t b page : Nat) (dir : List Int) : State :=
  if s.on (NCH_RLV.TRACK_EN n) then
    let key := blkKey n t b
    let e := s.blk n t b
    let thr : Int := s.rd (NCH_RLV.STEP_THR n)
    let r := (s.pageLevels n t b page).foldl (fun (x : List Int × List Int) v =>
      let y := trackLevel thr (x.1.getD v 0) (x.2.getD v 0) (dir.getD (if v = 7 then 0 else v) 0)
      (x.1.set v y.1, x.2.set v y.2)) (s.accOf n key, e.lv)
    (s.putAcc n key r.1).setBlk n t b { e with lv := r.2 }
  else s

/-- The steps of the retry ladder (R239). -/
def retryStep (r : Nat) : Int := ([0, 1, -1, 2, -2, 4, -4] : List Int).getD r 0

/-- A page decodes on a channel's ladder up to step 2: within RETRY_MAX retries, or by the soft decode where SOFT_EN permits it (R239). -/
def State.decodes (s : State) (n : Nat) (p : PageTry) : Bool :=
  !p.erased && (match p.rung with
    | some r => decide (r ≤ s.rd (NCH_RLV.RETRY_MAX n)) || s.on (NCH_RLV.SOFT_EN n)
    | none => false)

/-- The retries of a page's ladder are counted; one that decodes writes its offsets into the table (R237, R239). -/
def State.climb (s : State) (n t b page : Nat) (rung : Option Nat) : State :=
  let mx := s.rd (NCH_RLV.RETRY_MAX n)
  let used := min (rung.getD mx) mx
  let soft := s.on (NCH_RLV.SOFT_EN n) && decide (mx < rung.getD 7)
  let e := s.blk n t b
  let lv := match rung with
    | some r =>
      if 0 < r ∧ r ≤ mx then (s.pageLevels n t b page).foldl (fun l v => l.set v (stepOff (l.getD v 0) (retryStep r))) e.lv else e.lv
    | none => e.lv
  let s := s.setBlk n t b { e with lv := lv, retries := min (e.retries + used) 65535 }
  (s.addSat (NCH_CNT_RETRY.RETRY n) used).addSat (NCH_CNT_RETRY.SOFT n) soft.toNat

/-- The counts of decoded codewords (R237, R536). -/
def State.countCw (s : State) (n t b : Nat) (cw : List Nat) : State :=
  let top := cw.foldl Nat.max 0
  let e := s.blk n t b
  let s := s.setBlk n t b { e with cwmax := Nat.max e.cwmax (min top 65535) }
  let s := s |>.addWrap (NCH_CNT_CW.COUNT n) cw.length |>.addWrap (NCH_CNT_BITS.COUNT n) cw.sum
    |>.when (decide (s.rd (NCH_CWMAX.BITS n) < top)) (fun s => s.wr (NCH_CWMAX.BITS n) (min top 65535))
  s.forEach cw (fun s x => s.sample 19 x)

/-- A lode is flagged for refresh (R247). -/
def State.flagRefresh (s : State) (n t b : Nat) (cw : List Nat) : State :=
  let l := s.blockLode n t b
  let hot := decide (s.rd STK_CFG.REFRESH_THR < cw.foldl Nat.max 0)
  let worn := decide (s.rd STK_CFG.RD_MAX * 10000 ≤ (s.blk n t b).reads)
  if (hot || worn) && s.blockServes n t b then s.setLode (chanGroup n) l { s.lode (chanGroup n) l with refresh := true } else s

/-- A page of a block is sensed and decoded; an erased page is reported ERASED before any decoding (R221, R237 to R239, R247, R251). -/
def State.sense (s : State) (n t b page : Nat) (p : PageTry) : State :=
  let e := s.blk n t b
  let s := (s.setBlk n t b { e with reads := e.reads + 1 }).dieAnswers n t
  let s := if p.erased then s else (s.countCw n t b p.cw).climb n t b page p.rung
  (s.trackRead n t b page (if p.erased then [] else p.dir)).flagRefresh n t b (if p.erased then [] else p.cw)

/-- A block's pages can be read: its channel and die are there, and it is not UNSETTLED (R228, R251, R252). -/
def State.canRead (s : State) (n t b : Nat) : Bool :=
  s.rd (NCH_STATUS.STATE n) != 4 && !bitAt t (s.rd (NCH_STATUS.TGT_RETIRED n)) && s.blkReadable n t b

/-- The other eight pages of a page's stripe, as (channel, target, die block): the same slot and page on the group's other channels
(R211, R212, R240). -/
def State.stripeMates (s : State) (n t b : Nat) : List (Nat × Nat × Nat) :=
  let w := s.blockSlot n t b
  (((List.range 9).map (fun i => 9 * chanGroup n + i)).filter (fun c => c != n)).map (fun c =>
    (c, s.slotBlock c (s.blockLode n t b) w.1 w.2))

/-- The stripe unit reads the other eight pages, each through the ladder up to step 2; it rebuilds the page if all of them decode
(R240). -/
def State.rebuildPage (s : State) (inp : NandRead) : Bool × State :=
  if s.blockServes inp.channel inp.target inp.block then
    let l := (s.stripeMates inp.channel inp.target inp.block).zipIdx.map (fun x =>
      (x.1, inp.others.getD x.2 ⟨false, none, [], []⟩))
    (l.all (fun x => s.canRead x.1.1 x.1.2.1 x.1.2.2 && s.decodes x.1.1 x.2),
      s.forEach (l.filter (fun x => s.canRead x.1.1 x.1.2.1 x.1.2.2)) (fun s x => s.sense x.1.1 x.1.2.1 x.1.2.2 inp.page x.2))
  else (false, s)

/-- A patrol read of a block ends (R248). -/
def State.patrolEnds (s : State) (n t b : Nat) : State :=
  { s with stk := { s.stk with patrolRead := s.stk.patrolRead.erase (n, t, b) } }

/-- A page read: the page's own ladder, then the stripe rebuild; a page of a retired die or a lost channel is rebuilt at once, and
nothing is read from an UNSETTLED block (R221, R228, R239, R240, R251, R510). The result: whether the page's bytes are had. -/
def State.readPage (s : State) (inp : NandRead) : Bool × State :=
  let n := inp.channel
  let own := s.canRead n inp.target inp.block
  if !s.blkReadable n inp.target inp.block then (false, s)
  else
    let t := s.when own (fun s => s.sense n inp.target inp.block inp.page inp.page0)
    if own && s.decodes n inp.page0 then (true, t)
    else if own && inp.page0.erased then (false, t)
    else
      let r := t.rebuildPage inp
      if r.1 then (true, r.2.addSat (NCH_CNT_REBUILD.PAGES n) 1)
      else (false, (r.2.addSat (NCH_CNT_REBUILD.UNREAD n) 1).raiseQ (216 + 4 * n) inp.demand)

/-- A page read of any requester; patrol's ends the hold that it has on the lode (R248). -/
def State.pageRead (s : State) (inp : NandRead) (patrol : Bool) : State :=
  ((s.when patrol (fun s => s.patrolEnds inp.channel inp.target inp.block)).readPage inp).2

/-! ### Reads of a die that erases (R241, R242) -/

/-- Erase of a die. -/
def dieKey (n t : Nat) : Nat := n * 8 + t
def State.die (s : State) (n t : Nat) : DieErase := SMap.get DieErase.idle (dieKey n t) s.stk.dies
def State.setDie (s : State) (n t : Nat) (d : DieErase) : State :=
  { s with stk := { s.stk with dies := SMap.put DieErase.idle (dieKey n t) d s.stk.dies } }

/-- The four conditions of R241, but for the wait for RESUME_MIN. -/
def State.maySuspend (s : State) (n : Nat) (d : DieErase) : Bool :=
  s.sv NAND.ERS_SUSP != 0 && s.on (NCH_CTL.SUSP_EN n) && decide (d.count < s.rd (NCH_CTL.SUSP_MAX n))

/-- RESUME_MIN has passed: it counts in units of 10 µs (R241). -/
def State.resumeOver (s : State) (n : Nat) (d : DieErase) : Bool :=
  d.resumed == 0 || decide (s.rd (NCH_CTL.RESUME_MIN n) * 32768 ≤ (s.tick + 1 - d.resumed) * 100000)

/-- An erase is suspended; every demand read queued for the die is served within the suspension (R241). -/
def State.suspend (s : State) (n t : Nat) : State :=
  let d := s.die n t
  let s := s.setDie n t { d with suspended := true, count := d.count + 1, queued := d.queued.filter (fun r => !r.1.demand) }
  ((s.wr (NCH_STATUS.SUSPENDED n) 1).addWrap (NCH_CNT_SUSP.COUNT n) 1).forEach (d.queued.filter (fun r => r.1.demand))
    (fun s r => s.pageRead r.1 r.2)

/-! ### The pages of a record (R13, R240, R269, R300) -/

/-- The four pages that hold the record a location entry names, as (channel, target, die block, page) (R211, R212, R218). -/
def State.pagesAt (s : State) (w : Word) : List (Nat × Nat × Nat × Nat) :=
  let g := locGroup w
  let sump := locKind w == 2
  let half := if sump then locNum w % 2 else w.toNat % 2
  let q := s.stripeLode g (locNum w) sump
  (((s.stripeBlocks g (locNum w) sump).drop (half * 4)).take 4).map (fun b => (b.1, b.2.1, b.2.2, s.stripePage g q.2 (!sump)))

/-- Reads of pages, one after another: whether all of them were had (R239, R240). -/
def State.readPages (s : State) (demand : Bool) : List ((Nat × Nat × Nat × Nat) × (PageTry × List PageTry)) → Bool × State
  | [] => (true, s)
  | x :: l =>
    let r := s.readPage ⟨x.1.1, x.1.2.1, x.1.2.2.1, x.1.2.2.2, x.2.1, x.2.2, demand⟩
    let y := r.2.readPages demand l
    (r.1 && y.1, y.2)

/-- The dies of pages that erase now, without a suspension. -/
def State.erasingDies (s : State) (l : List (Nat × Nat × Nat × Nat)) : List (Nat × Nat) :=
  ((l.map (fun x => (x.1, x.2.1))).dedup).filter (fun x => (s.die x.1 x.2).busy && !(s.die x.1 x.2).suspended)

/-- Reads of pages: demand reads suspend the erases of their dies, all other reads wait for them, and so do demand reads of a die that may
not be suspended (R241, R242). None: the reads wait. -/
def State.fetchPages (s : State) (l : List (Nat × Nat × Nat × Nat)) (tries : List (PageTry × List PageTry)) (demand : Bool) : Option (Bool × State) :=
  let dies := s.erasingDies l
  let may (x : Nat × Nat) : Bool := let d := s.die x.1 x.2; s.maySuspend x.1 d && s.resumeOver x.1 d
  if dies.isEmpty || (demand && dies.all may) then
    some ((s.forEach dies (fun s x => s.suspend x.1 x.2)).readPages demand
      (l.zipIdx.map (fun x => (x.1, tries.getD x.2 (⟨false, none, [], []⟩, [])))))
  else none

/-- What a requester finds of the pages of a record: the sender's word for it, or each page's reads (R13, R239, R240). -/
def State.findPages (s : State) (l : List (Nat × Nat × Nat × Nat)) (page : PageRead) (demand : Bool) : Option (Bool × State) :=
  match page with
  | .ok => some (true, s)
  | .lost => some (false, s)
  | .pages tries => s.fetchPages l tries demand

end Sys2Proof.Machine
end

