-- ==== Sys2Proof/Machine/LedgerFx.lean ====
section
/-! DEFINITION. What the ledger's and the scheduler's events do: pack readings, the update, the token refill, the rate
controller, wear and thermal limits (chapters 05, 06, 07, 17). -/

namespace Sys2Proof.Machine

/-! ### The LEDGER section (R72) -/

def secLedger : Nat := 0x40
def LEDGER.CHEM (k : Nat) : SFld := ⟨secLedger, 0, 8 * k, 8⟩
def LEDGER.EBOL (k : Nat) : SFld := ⟨secLedger, 4 + 4 * k, 0, 32⟩
def LEDGER.E_SETT : SFld := ⟨secLedger, 0x0C, 0, 32⟩
def LEDGER.E_FIXED : SFld := ⟨secLedger, 0x10, 0, 32⟩
def LEDGER.DERATE : SFld := ⟨secLedger, 0x14, 0, 16⟩
def LEDGER.PEARL_MAX : SFld := ⟨secLedger, 0x18, 0, 16⟩
def LEDGER.VERM_MIN : SFld := ⟨secLedger, 0x18, 16, 16⟩
def LEDGER.HAUL_TARGET : SFld := ⟨secLedger, 0x1C, 0, 16⟩
def LEDGER.HYST : SFld := ⟨secLedger, 0x1C, 16, 16⟩
def LEDGER.T_COLD : SFld := ⟨secLedger, 0x20, 0, 8⟩
def LEDGER.COLD_DERATE : SFld := ⟨secLedger, 0x20, 16, 16⟩
def LEDGER.SOH_MIN : SFld := ⟨secLedger, 0x24, 0, 16⟩
def LEDGER.ESR_MAX : SFld := ⟨secLedger, 0x24, 16, 16⟩

/-- The ledger has its parameters: the Bedrock shadow holds them (R17, R144). -/
def State.ledgerParams (s : State) : Bool := s.svy.shadow

/-! ### Packs -/

def State.pack (s : State) (k : Nat) : Pack := if k = 0 then s.lgr.packA else s.lgr.packB
def State.putPack (s : State) (k : Nat) (p : Pack) : State :=
  if k = 0 then { s with lgr := { s.lgr with packA := p } } else { s with lgr := { s.lgr with packB := p } }

/-- The removal request of a pack. -/
def removeBit (k : Nat) : Fld := if k = 0 then LGR_PACK_CTL.REMOVE_A else LGR_PACK_CTL.REMOVE_B

/-- A quotient, or an open value where the divisor is 0 (entry 4). -/
def quot (a b : Nat) : Nat := if b = 0 then Config.divByZero a else a / b

/-- A signed byte of the Survey image. -/
def sByte (v : Nat) : Int := if v < 128 then v else (v : Int) - 256

/-- The temperature factor of R130 in 65,536ths, exactly 65,536 for 1. -/
def State.factorT (s : State) (t : Int) : Nat :=
  let c := sByte (s.sv LEDGER.T_COLD)
  let d := s.sv LEDGER.COLD_DERATE
  if t ≤ c then d else if c + 10 ≤ t then 65536 else d + (65536 - d) * (t - c).toNat / 10

/-- The impedance factor of R131 in 65,536ths; ESR in 0.1 mΩ. -/
def State.factorZ (s : State) (esr : Nat) : Nat :=
  let m := s.sv LEDGER.ESR_MAX * 10
  if 2 * esr ≤ m then 65536 else 65536 * (3 * m - 2 * esr) / (2 * m)

/-- Apply a factor: the fraction of a joule is dropped, a factor of 1 skipped (R132). -/
def applyFactor (e f : Nat) : Nat := if f = 65536 then e else e * f / 65536

/-- Whole joules, rounded up, of a sum of scans: each unit is 614,400 / 2^24 µJ (R127, R129). -/
def joulesUp (d : Nat) : Nat := (d * 614400 + 16777216 * 1000000 - 1) / (16777216 * 1000000)

/-- Whole joules of a sum of scans, rounded down. -/
def joules (d : Nat) : Nat := d * 614400 / (16777216 * 1000000)

/-- E_base of a pack from its last readings and EBOL as it stands (R128). -/
def State.baseEnergy (s : State) (k : Nat) : Nat :=
  let p := s.pack k
  let e := s.sv (LEDGER.EBOL k)
  min (quot (e * p.rc) p.dc) e

/-- E_pack of a counted pack (R132). -/
def State.packEnergy (s : State) (k : Nat) : Nat :=
  let p := s.pack k
  applyFactor (applyFactor (s.baseEnergy k) (s.factorT p.temp)) (s.factorZ (s.rd (LGR_PHLT.ESR k))) - joulesUp p.debit

/-- When a pack leaves COUNTED, a removal of the other one is cancelled (R148). -/
def State.cancelOther (s : State) (k : Nat) : State :=
  if s.on (removeBit (1 - k)) then (s.wr (removeBit (1 - k)) 0).wr LGR_PACK_CTL.RESULT 2 else s

/-- A pack becomes FAILED with a cause (R133, R510). -/
def State.failPack (s : State) (k cause : Nat) : State :=
  (((s.wr (LGR_PSTAT.CAUSE k) cause).setPack k pkFailed).raiseQ (577 + 2 * k) true).cancelOther k

/-- An extra ledger update is due at the next tick (R143). -/
def State.wantExtra (s : State) : State := { s with lgr := { s.lgr with extra := true } }

/-- A pack becomes ABSENT: pulled while not SAFE it raises its source; its request ends; an extra update is due (R133, R143,
R147, R149; what its readings show: DESIGN CHOICE 131). -/
def State.losePack (s : State) (k : Nat) : State :=
  let st := s.rd (LGR_PSTAT.STATE k)
  let p := s.pack k
  ((((s.wr (LGR_PSTAT.CAUSE k) 0).setPack k pkAbsent).putPack k { Pack.reset with saveDebit := p.saveDebit }).wr (removeBit k) 0)
    |>.wr (LGR_PSTAT.ESR_STALE k) 0 |>.wr (LGR_PSTAT.SOH_WARN k) 0 |>.wr (LGR_PHLT.ESR k) 0
    |>.when (st != pkSafe) (fun s => s.raiseQ (577 + 2 * k) true) |>.cancelOther k
    |>.wantExtra

/-- The pack is fitted and not FAILED. -/
def State.packLive (s : State) (k : Nat) : Bool :=
  let st := s.rd (LGR_PSTAT.STATE k)
  st != pkAbsent && st != pkFailed

/-- A pack whose ESR lies above ESR_MAX fails (R133). -/
def State.checkEsr (s : State) (k : Nat) : State :=
  if s.packLive k && s.ledgerParams && decide (s.sv LEDGER.ESR_MAX * 10 < s.rd (LGR_PHLT.ESR k)) then s.failPack k 6 else s

/-- Voltage counts of a scan: 1.0 V is code 64 (R127, R133, R146). -/
def State.scanVolts (s : State) (k v : Nat) : State :=
  let p := s.pack k
  s.putPack k { p with
    hiScans := if 64 ≤ v then min (p.hiScans + 1) 8 else 0
    loScans := if 64 ≤ v then 0 else min (p.loScans + 1) 8 }

/-- The energy that a scan shows leaving a pack; charge adds nothing (R129, R137). -/
def State.scanDebit (s : State) (k v i : Nat) : State :=
  let p := s.pack k
  let e := v * (i - 2048)
  s.putPack k { p with debit := p.debit + e, saveDebit := p.saveDebit + e }

/-- The ESR sample that two scans give, in 0.1 mΩ, rounded down (R131; DESIGN CHOICE 155): 0.5 A is 21 codes. -/
def esrSample (v0 i0 v i : Nat) : Option Nat :=
  let dv := (v - v0) + (v0 - v)
  let di := (i - i0) + (i0 - i)
  if 21 ≤ di then some (6400 * dv / di) else none

/-- Take the ESR sample of a scan (R131, R536); ESR holds the largest value of its field where the value exceeds it, and is compared as
it is held (DESIGN CHOICE 159). -/
def State.scanEsr (s : State) (k v i : Nat) : State :=
  let p := s.pack k
  let t := p.last.bind (fun x => esrSample x.1 x.2 v i)
  let s := s.putPack k { p with last := some (v, i) }
  match t with
  | none => s
  | some e =>
    let l := (e :: p.esr).take 8
    let s := s.putPack k { s.pack k with esr := l, esrTick := s.tick }
    ((s.wr (LGR_PHLT.ESR k) (min (l.foldl Nat.max 0) 65535)).wr (LGR_PSTAT.ESR_STALE k) 0).sample (29 + k) e |>.checkEsr k

/-- A pack begins to qualify, or fails at once where the image names no chemistry for it (R133, R146). -/
def State.beginQualify (s : State) (k : Nat) : State :=
  let p := s.pack k
  let s := (s.putPack k { p with valid := 0, gaugeTick := s.tick }).setPack k pkQualifying
  let s := s.wr (LGR_PSTAT.ESR_STALE k) 1
  if s.ledgerParams && s.sv (LEDGER.CHEM k) = 0 then s.failPack k 1 else s

/-- What an ADC scan tells of a pack (R129, R131, R133, R143, R146). -/
def State.scanPack (s : State) (k v i : Nat) (answers : Bool) : State :=
  let s := s.scanVolts k v
  let p := s.pack k
  if s.rd (LGR_PSTAT.STATE k) = pkAbsent then
    if p.hiScans = 8 then (s.beginQualify k).scanEsr k v i else s
  else if p.loScans = 8 then s.losePack k
  else if v * 125 < 4 * p.gaugeMv ∧ !answers then s.losePack k
  else
    let s := ((s.scanDebit k v i).scanEsr k v i).extreme (2 + k) (v * 125 / 8)
    if v * 125 < 4 * p.gaugeMv ∧ s.packLive k then
      (s.failPack k 9).wantExtra
    else s

/-- Temperature of a gauge in whole °C, rounded down (R130). -/
def gaugeCelsius (t : Nat) : Int := ((t : Int) * 10 - 27315) / 100

/-- The pack qualifies (R146). -/
def State.qualifying (s : State) (k : Nat) : Bool := decide (s.rd (LGR_PSTAT.STATE k) = pkQualifying)

/-- The registers and the base energy that a gauge reading gives; design capacity and chemistry are those of qualification (R126,
R128, R129). -/
def State.takeGauge (s : State) (k : Nat) (g : GaugeIn) : State :=
  let p := s.pack k
  let q := s.qualifying k
  let dc := if q then g.dc else p.dc
  let s := s.putPack k { p with
    rc := g.rc
    fcc := g.fcc
    dc := dc
    chem := if q then g.chem else p.chem
    ma := g.ma
    gaugeMv := g.mv
    temp := gaugeCelsius g.temp
    debit := 0
    gaugeTick := s.tick }
  let s := s.putPack k { s.pack k with ebase := s.baseEnergy k }
  s |>.wr (LGR_PHLT.SOH k) (min (quot (g.fcc * 65536) dc) 65535) |>.wrInt (LGR_PTMP.TEMP k) (gaugeCelsius g.temp)
    |>.wr (LGR_PTMP.CYCLES k) g.cycles

/-- The cause for which a pack's chemistry fails it: the image names none for it, or another than the one that was read (R133). -/
def State.chemCause (s : State) (k : Nat) (read : Bool) : Option Nat :=
  if s.sv (LEDGER.CHEM k) = 0 then some 1
  else if read ∧ (s.pack k).chem ≠ s.sv (LEDGER.CHEM k) then some 2
  else none

/-- The cause for which a gauge reading fails a pack, if any; of several, the first in the table's order with ESR apart (R133;
DESIGN CHOICE 117). -/
def State.gaugeCause (s : State) (k : Nat) (g : GaugeIn) : Option Nat :=
  let p := s.pack k
  if s.chemCause k true ≠ none then s.chemCause k true
  else if s.qualifying k ∧ !g.mode then some 3
  else if bitAt 11 g.status then some 4
  else if bitAt 12 g.status then some 5
  else if p.fcc * 65536 < s.sv LEDGER.SOH_MIN * p.dc then some 7
  else none

/-- The state of health is below SOH_MIN + 0.05 (R133). -/
def State.sohLow (s : State) (k : Nat) : Bool :=
  decide (20 * 65536 * (s.pack k).fcc < (s.pack k).dc * (20 * s.sv LEDGER.SOH_MIN + 65536))

/-- SOH_WARN follows the state of health; its setting raises the pack's source (R133, R510). -/
def State.sohWarn (s : State) (k : Nat) : State :=
  let w := s.sohLow k
  (s.wrB (LGR_PSTAT.SOH_WARN k) w).raiseIf (w && !s.on (LGR_PSTAT.SOH_WARN k)) (577 + 2 * k)

/-- A valid reading while qualifying; after ten the pack is COUNTED (R146). -/
def State.countValid (s : State) (k : Nat) : State :=
  if s.rd (LGR_PSTAT.STATE k) = pkQualifying then
    let p := s.pack k
    let s := s.putPack k { p with valid := p.valid + 1 }
    if 10 ≤ p.valid + 1 then s.setPack k pkCounted else s
  else s

/-- GAUGE_READ (R126, R128, R129, R133, R146, R150). -/
def State.doGaugeRead (s : State) (k : Nat) (ans : Option GaugeIn) : State :=
  if !s.ledgerParams || s.rd (LGR_PSTAT.STATE k) = pkAbsent then s
  else match ans with
    | none =>
      let p := s.pack k
      (s.putPack k { p with valid := 0 }).raise (659 + 2 * (1 + k))
    | some g =>
      let s := (s.takeGauge k g).sohWarn k
      if !s.packLive k then s
      else match s.gaugeCause k g with
        | some c => s.failPack k c
        | none => s.countValid k

/-- PACK_STALE (R133). -/
def State.doPackStale (s : State) (k : Nat) : State :=
  if s.packLive k ∧ (s.pack k).gaugeTick + 60 * 32768 ≤ s.tick then s.failPack k 8 else s

/-- PACK_NO_ANSWER (R510). -/
def State.doPackNoAnswer (s : State) (k : Nat) : State :=
  if s.rd (LGR_PSTAT.STATE k) = pkCounted ∧ (s.pack k).gaugeTick + 10 * 32768 ≤ s.tick then s.raise 585 else s

/-- ESR_STALE (R131). -/
def State.doEsrStale (s : State) (k : Nat) : State :=
  let p := s.pack k
  if !p.esr.isEmpty ∧ p.esrTick + 604800 * 32768 ≤ s.tick ∧ !s.on (LGR_PSTAT.ESR_STALE k) then
    (s.wr (LGR_PSTAT.ESR_STALE k) 1).raise (577 + 2 * k)
  else s

/-- LGR_REMOVE_REQUEST (R147, R148). -/
def State.doRemoveRequest (s : State) (k : Nat) : State :=
  if s.rd (LGR_PSTAT.STATE (1 - k)) ≠ pkCounted ∨ s.on (removeBit (1 - k)) then s.wr LGR_PACK_CTL.RESULT 1
  else (s.wr (removeBit k) 1).wr LGR_PACK_CTL.RESULT 0

/-- LGR_REMOVE_CANCEL (R147); RESULT then reads OK (DESIGN CHOICE 115). -/
def State.doRemoveCancel (s : State) (k : Nat) : State :=
  if s.on (removeBit k) then (s.wr (removeBit k) 0).wr LGR_PACK_CTL.RESULT 0 else s

/-- A write of LGR_PACK_CTL: bits that turn 1 are requests, PA's before PB's, judged by what is pending when the write arrives; then
bits that turn 0 are cancels. A refused request leaves RESULT REFUSED (R147, R148; DESIGN CHOICE 116). -/
def State.packWrite (s : State) (v : Nat) : State :=
  let new := [0, 1].filter (fun k => bitAt k v && !s.on (removeBit k))
  let old := [0, 1].filter (fun k => !bitAt k v && s.on (removeBit k))
  let ask (a : State × Bool) (k : Nat) : State × Bool :=
    let t := a.1.doRemoveRequest k
    (t, a.2 || !t.on (removeBit k))
  let r := new.foldl ask (s, false)
  (r.1.forEach old (fun s k => s.doRemoveCancel k)).when r.2 (fun s => s.wr LGR_PACK_CTL.RESULT 1)

/-! ### The update (R134, R138, R142) -/

/-- Requested packs stop counting, and packs whose request has ended count again, from the update (R147, R148). A request for a pack
that is not COUNTED is held and has no effect until the pack is (DESIGN CHOICE 156). -/
def State.updateRemoval (s : State) (k : Nat) : State :=
  let st := s.rd (LGR_PSTAT.STATE k)
  if st = pkCounted ∧ s.on (removeBit k) then s.setPack k pkRemoving
  else if (st = pkRemoving ∨ st = pkSafe) ∧ !s.on (removeBit k) then s.setPack k pkCounted
  else s

/-- A pack is held against the values that this update takes up: its chemistry and its state of health as they were last read, then its
ESR (R82, R133, R142). -/
def State.checkPack (s : State) (k : Nat) : State :=
  if !s.ledgerParams then s
  else
    let s := s.sohWarn k
    let read := !s.qualifying k || decide (0 < (s.pack k).valid)
    let c := if (s.chemCause k read).isSome then s.chemCause k read
      else if (s.pack k).fcc * 65536 < s.sv LEDGER.SOH_MIN * (s.pack k).dc then some 7 else none
    match c with
    | some c => if s.packLive k then s.failPack k c else s
    | none => s.checkEsr k

/-- E_pack as the update publishes it; a pack that is not counted is 0 J (R132, R133). PENG.JOULES, like ESR, holds the largest value of
its field where the value exceeds it (DESIGN CHOICE 159). -/
def State.updatePack (s : State) (k : Nat) : State :=
  let s := (s.updateRemoval k).checkPack k
  let e := if s.rd (LGR_PSTAT.STATE k) = pkCounted then s.packEnergy k else 0
  let s := s.putPack k { s.pack k with ebase := s.baseEnergy k, energy := e }
  (s.wr (LGR_PENG.JOULES k) (min e 16777215)).wrB (LGR_PSTAT.COLD k) (s.factorT (s.pack k).temp != 65536)

/-- A cipher pair counts as in service: it is neither out, testing, nor switched OFF; a switch to OFF during a save applies when
the save ends (R413, R414, R495, R505). -/
def State.pairServes (s : State) (p : Nat) : Bool :=
  (s.rd (CIP_PAIR.STATE p) == 0 || s.rd (CIP_PAIR.STATE p) == 1) && !bitAt p (s.rd CIP_OUT.OUT)
    && (s.rd (CLK_ISL.MODE (116 + p)) != 2 || (s.chip == Chip.save && s.rd (CLK_ISL.STATE (116 + p)) != 0))

/-- Pairs in service (R414, R415). -/
def State.pairsIn (s : State) : Nat := ((List.range 12).filter s.pairServes).length

/-- E_SETT, scaled while fewer than seven pairs serve (R415). -/
def State.eSett (s : State) : Nat :=
  let n := s.pairsIn
  let e := s.sv LEDGER.E_SETT
  if 7 ≤ n then e else if n = 0 then Config.divByZero (e * 7) else (e * 7 + n - 1) / n

/-- N_E of R134. -/
def State.energySetts (s : State) (use : Nat) : Nat := quot (use * 1000000000 - s.sv LEDGER.E_FIXED * 1000000) s.eSett

/-- The largest ceiling (R134). -/
def ceilMax : Nat := 268435455

/-- A fraction of the ceiling (R138). -/
def frac (c f : Nat) : Nat := c * f / 65536

/-- SUMP_FREE as the Stockpile manager reports it; what it last reported while it is not READY (R134; DESIGN CHOICE 118). -/
def State.sumpReport (s : State) : Nat := if s.on STK_STATUS.READY then s.sumpFree else s.rd LGR_SUMP.FREE

/-- C and the thresholds are published (R134, R138); LGR_EUSE holds the largest value of its field where E_use exceeds it (DESIGN
CHOICE 158). -/
def State.publish (s : State) (avail : Nat) : State :=
  let use := avail * s.sv LEDGER.DERATE / 65536
  let ne := s.energySetts use
  let sump := s.sumpReport
  let c := min (min ne sump) ceilMax
  let bound := decide (sump ≤ ne ∧ sump ≤ ceilMax)
  s |>.wr LGR_EUSE.JOULES (min use 16777215) |>.wr LGR_NE.SETTS (min ne ceilMax) |>.wr LGR_SUMP.FREE (min sump ceilMax)
    |>.wr LGR_CEIL.SETTS c
    |>.raiseIf (bound && !s.on LGR_STATUS.SUMP_BOUND) 583 |>.wrB LGR_STATUS.SUMP_BOUND bound
    |>.wr LGR_TA.SETTS (frac c (s.sv LEDGER.PEARL_MAX)) |>.wr LGR_TV.SETTS (frac c (s.sv LEDGER.VERM_MIN))
    |>.wr LGR_TH.SETTS (frac c (s.sv LEDGER.HAUL_TARGET)) |>.wr LGR_HYS.SETTS (frac c (s.sv LEDGER.HYST))
    |>.wr LGR_STATUS.NOPARAM 0

/-- The count of R139 toward the end of Sable: cadence updates with N_E at least 2. -/
def State.countSable (s : State) (cadence : Bool) : State :=
  let n := s.lgr.sableCnt
  let n := if s.rd LGR_NE.SETTS < 2 ∨ s.margin ≠ .sable then 0 else if cadence then min (n + 1) 1024 else n
  ({ s with lgr := { s.lgr with sableCnt := n } }).wrB LGR_STATUS.EXITING (decide (0 < n ∧ n < 1024))

/-- E_avail (R134). -/
def State.eAvail (s : State) : Nat := s.lgr.packA.energy + s.lgr.packB.energy

/-- Steps 1 to 4 of an update (R142). -/
def State.ledgerStep (s : State) (cadence : Bool) : State :=
  let s := if s.ledgerParams then
      let s := (s.updatePack 0).updatePack 1
      (s.publish s.eAvail).countSable cadence
    else s
  s.addWrap LGR_UPD.COUNT 1

/-- The walk stops for energy while input power is not good (R199). -/
def State.walkEnergy (s : State) : State :=
  if s.chip = .save ∧ s.rd HAUL_SAVE_STAT.STEP = 6 ∧ !s.on SEQ_STATUS.INPUT_GOOD ∧ s.eAvail ≤ s.rd HAUL_SAVE_CFG.TAIL then
    s.wr HAUL_SAVE_STAT.END endEnergy
  else s

/-! ### Thermal limits (R503) -/

/-- The hottest die and which one it is; the lowest number among equals. -/
def hottest (die : List Int) : Int × Nat :=
  (List.zip die (List.range die.length)).foldl (fun b x => if b.1 < x.1 then x else b) (die.headD 0, 0)

/-- The level of R503 that a reading gives, coming from a level. -/
def thermLevel (cur : Nat) (t warn throt hyst : Int) : Nat :=
  let w := if 1 ≤ cur then decide (warn - hyst < t) else decide (warn ≤ t)
  let h := if 2 ≤ cur then decide (throt - hyst < t) else decide (throt ≤ t)
  if cur = 3 then 3 else if h then 2 else if w then 1 else 0

/-- Step 1 of the update reads the on-die sensors (R503). -/
def State.thermal (s : State) (die : List Int) : State :=
  let h := hottest die
  let cur := s.rd CLK_STATUS.THERM
  let lv := thermLevel cur h.1 (s.rd CLK_THERM.TJ_WARN) (s.rd CLK_THERM.TJ_THROT) (s.rd CLK_THERM.HYST)
  let hot := decide ((min (s.rd CLK_THERM.TJ_TRIP) 115 : Nat) ≤ h.1)
  let trip := hot && s.clk.tripSeen && decide (cur ≠ 3)
  let s := s |>.wrInt CLK_TJ.HOTTEST h.1 |>.wr CLK_TJ.DIE h.2
    |>.when (decide (s.rdInt CLK_TJ.PEAK < h.1)) (fun s => s.wrInt CLK_TJ.PEAK h.1)
  let s := { s with clk := { s.clk with tripSeen := hot } }
  (s.wr CLK_STATUS.THERM (if trip then 3 else lv))
    |>.raiseIf (decide (cur = 0 ∧ 1 ≤ lv)) 678
    |>.when (decide (cur < 2) && decide (lv = 2)) (fun s => (s.addSat CLK_THCNT.THROTTLES 1).raise 679)
    |>.when trip (fun s => ((s.addSat CLK_THCNT.TRIPS 1).raise 679).enterHold)

/-! ### Heat and the refill (R164, R167, R170) -/

def State.heatFull (s : State) : Nat := s.sched 8 0 16 10240
def State.dramLimitT (s : State) : Nat := s.sched 0x0C 0 8 85
def State.dieLimitT (s : State) : Nat := s.sched 0x0C 8 8 100
def State.heatSpan (s : State) : Nat := s.sched 0x0C 16 8 10

/-- The weight of a class, 3 to 7 (R173). -/
def State.weight (s : State) (k : Nat) : Nat :=
  match k with
  | 3 => s.sched 0 0 8 96 | 4 => s.sched 0 8 8 64 | 5 => s.sched 0 16 8 64 | 6 => s.sched 0 24 8 96 | _ => s.sched 4 0 8 16

/-- The headroom that a two-wire sensor gives, with its LIMITER code; none for a sensor that is not listed (R167, R175). A listed one
counts with the TEMP of its register, which reads 0 before its first reading (DESIGN CHOICE 161). -/
def State.sensorRoom (s : State) (t n : Nat) : Option (Int × Nat) :=
  let code := (if t = 3 then 16 else 48) + n
  if s.on (TWB_SENS.STALE t n) then some (((s.heatSpan / 2 : Nat) : Int), code)
  else if s.on (TWB_SENS.VALID t n) then some ((((s.dramLimitT : Nat) : Int) * 4 - s.rdInt (TWB_SENS.TEMP t n)) / 4, code)
  else none

/-- The smallest headroom and the sensor that sets it (R167, R175). -/
def State.headroom (s : State) (die : List Int) : Int × Nat :=
  let d := (List.zip die (List.range die.length)).map (fun x => (((s.dieLimitT : Nat) : Int) - x.1, x.2))
  let w := [3, 4].flatMap (fun t => (List.range 32).filterMap (s.sensorRoom t))
  match d ++ w with
  | [] => (((s.heatSpan : Nat) : Int), 0)
  | x :: l => l.foldl (fun b y => if y.1 < b.1 then y else b) x

/-- f_H in 65,536ths (R167). -/
def State.factorH (s : State) (room : Int) : Nat :=
  if room ≤ 0 then 0 else if ((s.heatSpan : Nat) : Int) ≤ room then 65536 else 65536 * room.toNat / s.heatSpan

/-- ADM reads its temperatures (R167, R175). -/
def State.heat (s : State) (die : List Int) : State :=
  let r := s.headroom die
  let f := s.factorH r.1
  s |>.wrInt ADM_THERM.HEADROOM r.1 |>.wr ADM_THERM.LIMITER r.2 |>.wr ADM_THERM.FH (min f 65535)
    |>.wrB ADM_STATUS.HOT (decide (f < 65536))

/-- One day, in ticks (R170). -/
def dayTicks : Nat := 2831155200

/-- The allowance of R170 in MiB. -/
def State.wearAllow (s : State) : Nat :=
  let bud := s.rd ADM_WEAR_BUD.MIB
  min bud (bud * (s.tick % dayTicks) / dayTicks + bud * s.sched 0x14 0 16 16384 / 65536)

/-- Cost of a sett in a class (R163). -/
def classCost (k : Nat) : Nat := if k = 7 then 1 else 2

/-- The grant of one class and its new bucket (R164, R166; DESIGN CHOICE 167). -/
def grantOf (want pool : Nat) (bucket : Int) : Nat × Int :=
  let g := min want pool
  (g, if bucket < 0 then bucket + g else (g : Int) + min bucket g)

/-- Setts of work that wait for the task classes (R163, R164): Sump fold, rework that class 1 does, rework and rewrap that class 6
does, restore, jobs and how much of theirs draws wear, migration and resilver, and the most that each class's engines can start in
one period. -/
structure Queued where
  fold : Nat
  rework1 : Nat
  rework6 : Nat
  restore : Nat
  jobs : Nat
  wear3 : Nat
  moves : Nat
  cap : List Nat
  deriving DecidableEq, Repr

/-- Nothing waits. -/
def Queued.none : Queued := ⟨0, 0, 0, 0, 0, 0, 0, []⟩

/-- A rate field in which 0 acts as 1 (R206). -/
def State.rate (s : State) (f : Fld) : Nat := Nat.max (s.rd f) 1

/-- demand(k): work queued, capped at what the engines can start; fold is class 1 work while SUMP_BOUND reads 1, and is capped at
HAUL_RATE_MAX; patrol and scrub always have work (R163, R164, R246). -/
def State.demandOf (s : State) (q : Queued) (k : Nat) : Nat :=
  let fold := min q.fold (s.rate HAUL_RATE_MAX.SETTS)
  let bound := s.on LGR_STATUS.SUMP_BOUND
  let cap := q.cap.getD (k - 1) 0
  match k with
  | 1 => s.rd HAUL_RATE.QUOTA + (min (q.rework1 + (if bound then fold else 0)) cap)
  | 2 => min q.restore cap
  | 3 => min q.jobs cap
  | 4 => min q.moves cap
  | 5 => min (if bound then 0 else fold) cap
  | 6 => min q.rework6 cap
  | _ => cap

/-- What a class may have at most in this refill (R164, R170): class 3's part that draws wear, and all of classes 5 and 6,
wait while the allowance is spent. -/
def State.wantOf (s : State) (q : Queued) (k : Nat) : Nat :=
  let spent := decide (s.wearAllow ≤ s.rd ADM_WEAR_SPENT.MIB)
  let d := s.demandOf q k
  let d := if k = 3 ∧ spent then min (q.jobs - q.wear3) (q.cap.getD 2 0) else d
  let w := d * classCost k
  let w := if 3 ≤ k then min w (s.heatFull * s.weight k / 256) else w
  if (k = 5 ∨ k = 6) ∧ spent then 0 else w

/-- WEAR_OVER sets when the spend reaches BUD, and stands until the day ends (R171). -/
def State.wearOver (s : State) : State :=
  s.when (decide (s.rd ADM_WEAR_BUD.MIB ≤ s.rd ADM_WEAR_SPENT.MIB)) (fun s => s.wr ADM_STATUS.WEAR_OVER 1)

/-- The refill (R164). -/
def State.refill (s : State) (die : List Int) (q : Queued) : State :=
  let f := s.factorH (s.headroom die).1
  let pool := s.heatFull * f / 65536
  let s := ((s.wr ADM_POOL.UNITS pool).wr ADM_WEAR_ALLOW.MIB s.wearAllow).wearOver
  let r := [1, 2, 3, 4, 5, 6, 7].foldl (fun (a : State × Nat) k =>
    let g := grantOf (a.1.wantOf q k) a.2 (a.1.rdInt (ADM_CLS.BUCKET k))
    ((a.1.wr (ADM_CLS.GRANT k) g.1).wrInt (ADM_CLS.BUCKET k) g.2, a.2 - g.1)) (s, pool)
  let w := s.adm.wear - s.adm.wearMark
  let s := { r.1 with adm := { r.1.adm with wearMark := r.1.adm.wear } }
  (s.sample 27 (40 * f / 65536 : Nat)).sample 28 ((w + 1048575) / 1048576 : Nat)

/-- Bring OVERDRAW up to date (R165). -/
def State.updOverdraw (s : State) : State :=
  s.wrB ADM_STATUS.OVERDRAW ([1, 2, 3, 4, 5, 6, 7].any (fun k => decide (s.rdInt (ADM_CLS.BUCKET k) < 0)))

/-- A class's bucket pays for setts; `always` work may drive it negative, down to −HEAT_FULL (R165). -/
def State.canPay (s : State) (k n : Nat) (always : Bool) : Bool :=
  always || decide ((n * classCost k : Nat) ≤ s.rdInt (ADM_CLS.BUCKET k))
def State.pay (s : State) (k n : Nat) : State :=
  let b := s.rdInt (ADM_CLS.BUCKET k) - (n * classCost k : Nat)
  (s.wrInt (ADM_CLS.BUCKET k) (if b < -(s.heatFull : Int) then -(s.heatFull : Int) else b)).updOverdraw

/-! ### The rate controller (R177 to R179) -/

/-- Hauls go at the overhang rate (R145, R178, R46). -/
def State.overRate (s : State) : Bool := s.on LGR_STATUS.OVERHANG || s.margin == .sable

/-- The integrator after a period, in 65,536ths (R177). -/
def nextInt (i e ki maxRate : Int) : Int :=
  if !(decide (maxRate * 65536 ≤ i) && decide (0 < e)) && !(decide (i ≤ 0) && decide (e < 0)) then
    let j := i + ki * e / 256
    if j < 0 then 0 else if maxRate * 65536 < j then maxRate * 65536 else j
  else i

/-- A number held between 0 and a bound. -/
def clampTo (m v : Int) : Nat := if v < 0 then 0 else if m < v then m.toNat else v.toNat

/-- The selection class L at the end of a period (R179). -/
def State.nextL (s : State) : Nat :=
  let l := s.rd HAUL_STATUS.LCLASS
  let full := decide (s.rd HAUL_RATE.QUOTA ≤ s.haul.started)
  if !full && s.haul.short then min (l + 1) 31
  else if full && !s.haul.half && !s.overRate then l - 1
  else l

/-- The step of the rate controller after a cadence update (R177, R178). -/
def State.rateStep (s : State) : State :=
  let e : Int := (s.rd ADM_DIRTY.SETTS : Int) - s.rd LGR_TH.SETTS
  let m := s.rate HAUL_RATE_MAX.SETTS
  let p := (s.rd HAUL_PI_KP.KP : Int) * e / 65536
  let i := nextInt (s.rd HAUL_PI_INT.INT) e (s.rd HAUL_PI_KI.KI) m
  let o := s.rate HAUL_RATE_OVH.SETTS
  let cap := s.on HAUL_CTL.STOCK_ONLY || s.on LGR_STATUS.SUMP_BOUND
  let ov := s.overRate
  let quota := if ov then (if cap then min o m else o) else clampTo m (p + i / 65536)
  let l := s.nextL
  let d := s.haul.done
  let s := { s with haul := { s.haul with started := 0, done := 0, short := false, half := false, cover := [] } }
  s |>.wrInt HAUL_ERR.ERR e |>.when (!ov) (fun s => s.wr HAUL_PI_INT.INT i.toNat) |>.wr HAUL_STATUS.LCLASS l
    |>.wr HAUL_RATE.QUOTA quota |>.wr HAUL_RATE.DONE d |>.sample 13 quota

/-- What a cadence update feeds into the Core log (R534, R536). -/
def State.ledgerLog (s : State) (die : List Int) : State :=
  let n := s.dch.periodCe
  let s := { s with dch := { s.dch with periodCe := 0 } }
  s |>.sample 12 (quot (40 * s.rd ADM_DIRTY.SETTS) (s.rd LGR_CEIL.SETTS) : Nat) |>.sample 16 s.eAvail
    |>.sample 17 (hottest die).1 |>.sample 21 n |>.extreme 0 (hottest die).1 |>.extreme 7 (s.rd LGR_CEIL.SETTS)

/-- A cadence update (R142): the thermal check, steps 1 to 4, then for the hub base the rate controller and the refill. -/
def State.doLedgerUpdate (s : State) (die : List Int) (q : Queued) : State :=
  let s := ((s.thermal die).ledgerStep true).walkEnergy
  let s := if s.hubOn then (((s.heat die).rateStep).refill die q).updOverdraw else s
  let m := s.dch.mig.map (fun m => { m with quota := 0 })
  let s := { s with dch := { s.dch with mig := m } }
  let s := { s with gal := { s.gal with rslvQuota := 0 } }
  s.ledgerLog die

/-- LEDGER_EXTRA_UPDATE (R143). -/
def State.doLedgerExtra (s : State) : State :=
  if s.lgr.extra then
    let s := { s with lgr := { s.lgr with extra := false } }
    (s.ledgerStep false).walkEnergy
  else s

/-- WEAR_DAY_BOUNDARY (R171, R534): the Core log takes a wear record at each boundary (DESIGN CHOICE 119). -/
def State.doWearDay (s : State) : State :=
  let day := s.tick / dayTicks
  let spent := s.rd ADM_WEAR_SPENT.MIB
  let big := decide (s.rd ADM_WEAR_BUD.MIB < spent)
  let haul := s.rd ADM_WEAR_HAUL.MIB
  let s := { s with adm := { s.adm with wear := 0, wearHaul := 0, wearMark := 0, day := day } }
  let s := s |>.wr ADM_WEAR_LAST.MIB spent |>.wr ADM_WEAR_SPENT.MIB 0 |>.wr ADM_WEAR_HAUL.MIB 0
    |>.wr ADM_STATUS.WEAR_OVER 0 |>.when big (fun s => s.addSat ADM_WEAR_DAYS.OVERDAYS 1) |>.wr ADM_WEAR_DAYS.DAY day
    |>.raiseIf big 584
  s.formRec 8 0 [(s.word ADM_WEAR_DAYS.DAY.addr).toNat, spent, s.rd ADM_WEAR_BUD.MIB, haul]

/-! ### Admission -/

/-- The eight requesters in turn after the one served last (R156): 0 to 5 the ports, 6 the Gallery, 7 the Job engine. -/
def State.turns (s : State) : List Nat := (List.range 8).map (fun i => (s.adm.rr + 1 + i) % 8)

/-- The write at the head of a port's fresh queue. -/
def State.fqHead (s : State) (p : Nat) : Option WEnt := (s.port p).wbuf.find? (fun e => e.wait == .parked)

/-- A held message is about a whole resilvered sett. -/
def GalIn.whole (h : GalIn) : Bool := decide (5 ≤ h.kind)

/-- A write that waits at the Gallery may be looked up: its sett is home or holds data, no lock, repair or earlier write to the line
stands before it (R272, R299, R403, R441). A whole sett waits until its entry has left the in-flight table (R102). -/
def State.galReady (s : State) (h : GalIn) : Bool :=
  let before := s.gal.held.takeWhile (fun x => x != h)
  if h.whole then (s.haulOf h.sett).isNone && !before.any (fun x => x.sett == h.sett)
  else
    (h.kind == 3 || s.settHome h.sett || s.dirty h.sett) && !(s.slab (settSlab h.sett)).jobl
      && (h.kind != 2 || s.galRoom) && (h.kind == 4 || (s.repairOf h.sett h.line).isNone)
      && !before.any (fun x => x.sett == h.sett && (x.line == h.line || x.whole))

/-- The sett that a requester's head waits for, with the face whose policy decides (R154). -/
def State.headOf (s : State) (r : Nat) : Option (Nat × Nat) :=
  if r < 6 then (s.fqHead r).map (fun e => (e.sett, r))
  else if r = 6 then (s.gal.held.find? (fun h => s.galReady h && !h.whole && !s.dirty h.sett)).map (fun h => (h.sett, h.face))
  else (s.adm.jobq.find? (fun j => !j.twin)).map (fun j => (j.sett, (s.slab (settSlab j.sett)).owner))

/-- ADMISSION_REPORT_INTERVAL_END (R161). -/
def State.doReportEnd (s : State) (f : Nat) : State :=
  if SMap.get false f s.adm.repDue ∧ SMap.get 0 f s.adm.repTick + 32767 ≤ s.tick then s.reportMargin f else s

/-- AGE of a port's oldest parked write, the one that has waited longest (R175). -/
def State.fqAge (s : State) (p : Nat) : Nat :=
  ((s.port p).wbuf.filter (fun e => e.wait == .parked)).foldl (fun m e => Nat.max m (min (s.tick - e.since) 65535)) 0

/-- FRESH_QUEUE_AGE_WARN (R175, R352). -/
def State.doAgeWarn (s : State) (p : Nat) : State :=
  if (s.fqHead p).isSome ∧ s.rd ADM_FQCFG.WARN_AGE < s.fqAge p ∧ !s.on (ADM_FQ.OLD p) then
    (s.wr (ADM_FQ.OLD p) 1).raise (507 + 8 * p)
  else s

end Sys2Proof.Machine
end

