-- ==== Sys2Proof/Machine/CipOps.lean ====
section
/-! DEFINITION. Key slots, epochs and counters, and the lane pairs that encrypt pages (chapter 14). -/

namespace Sys2Proof.Machine

/-! ### Counting windows of event sources (R511, R512) -/

/-- The window class of a source. -/
def State.srcClass (s : State) (src : Nat) : Nat := bitsOf 4 3 (s.thrByte src)

/-- The number of the window of a source in which the present tick lies. -/
def State.srcWindow (s : State) (src : Nat) : Nat := s.tick / Nat.max 1 (s.rd (FLT_WIN.TICKS (s.srcClass src)))

/-! ### Slots (R420 to R423) -/

def slEmpty : Nat := 0
def slActive : Nat := 1
def slPartner : Nat := 2
def slTransform : Nat := 3

def State.slotState (s : State) (k : Nat) : Nat := s.rd (CIP_SLST.STATE k)

/-- The key that a slot holds. -/
def State.slotKey (s : State) (k : Nat) : BitVec 256 := SMap.get 0 k s.cip.keys

/-- The active slot of a key pair. -/
def State.activeSlot (s : State) (pair : Nat) : Option Nat :=
  [2 * pair, 2 * pair + 1].find? (fun k => s.slotState k == slActive)

/-- The active slot under which a sett is encrypted: that of its owner's pair (R116, R185). -/
def State.settSlot (s : State) (k : Nat) : Option Nat :=
  let f := (s.slab (settSlab k)).owner
  if f < 6 then s.activeSlot (s.sv (FACES.KEY_PAIR f)) else none

/-- The face that an enabled face's pair gives a slot, else 7 (CIP_SLST.FACE). -/
def State.slotFace (s : State) (k : Nat) : Nat :=
  ((faces.filter s.faceOn).find? (fun f => s.sv (FACES.KEY_PAIR f) == k / 2)).getD 7

/-- A 48-bit number held in two words. -/
def State.rd48 (s : State) (lo hi : Fld) : Nat := s.rd hi * 4294967296 + s.rd lo
def State.wr48 (s : State) (lo hi : Fld) (v : Nat) : State := (s.wr lo (v % 4294967296)).wr hi (v / 4294967296)

def State.slotEpoch (s : State) (k : Nat) : Nat := s.rd48 (CIP_SLEP_LO.EPOCH k) (CIP_SLEP_HI.EPOCH k)
def State.slotCtr (s : State) (k : Nat) : Nat := s.rd48 (CIP_SLCT_LO.COUNTER k) (CIP_SLCT_HI.COUNTER k)

/-- A slot gets the next value of the epoch register and its counter restarts; a ceiling 1,024 higher is stored before the
register reaches the stored one (R422). -/
def State.newEpoch (s : State) (k : Nat) : State :=
  let e := s.rd48 CIP_EPOCH_LO.EPOCH CIP_EPOCH_HI.EPOCH
  let s := s |>.wr48 (CIP_SLEP_LO.EPOCH k) (CIP_SLEP_HI.EPOCH k) e |>.wr48 (CIP_SLCT_LO.COUNTER k) (CIP_SLCT_HI.COUNTER k) 0
    |>.wr48 CIP_EPOCH_LO.EPOCH CIP_EPOCH_HI.EPOCH (e + 1) |>.wr (CIP_SLST.WARN k) 0 |>.wr (CIP_SLST.LIMIT k) 0
  if s.cip.ceiling ≤ e + 1 then
    { s with cip := { s.cip with ceiling := s.cip.ceiling + 1024, storeSeq := s.cip.storeSeq + 1 } }
  else s

/-- The count at which LIMIT sets, and the last one that encrypts (R423). -/
def ctrLimit : Nat := 2 ^ 48 - 2 ^ 32
def ctrEnd : Nat := 2 ^ 48 - 1

/-- A slot may encrypt a page; past LIMIT only the save's (R423). -/
def State.mayEncrypt (s : State) (k : Nat) (save : Bool) : Bool :=
  decide (s.slotCtr k < ctrEnd) && (save || !s.on (CIP_SLST.LIMIT k))

/-- A pair encrypts a page: the counter advances, and WARN or LIMIT may set (R422, R423). -/
def State.countPage (s : State) (k pair : Nat) : State :=
  let c := s.slotCtr k + 1
  let warn := decide (2 ^ s.rd CIP_CFG.CNT_WARN_LOG2 ≤ c) && !s.on (CIP_SLST.WARN k)
  s |>.wr48 (CIP_SLCT_LO.COUNTER k) (CIP_SLCT_HI.COUNTER k) c
    |>.when warn (fun s => (s.wr (CIP_SLST.WARN k) 1).raise (564 + pair))
    |>.when (decide (ctrLimit ≤ c)) (fun s => s.wr (CIP_SLST.LIMIT k) 1)

/-! ### Lane pairs (R412 to R415) -/

def pairOff : Nat := 0
def pairIn : Nat := 1
def pairTesting : Nat := 2
def pairOut : Nat := 3

/-- The counts that follow from the pairs' states; with no pair in service the chip enters Hold (R415). -/
def State.updPairs (s : State) : State :=
  let n := s.pairsIn
  ((s.wr CIP_STATUS.INSERVICE n).wrB CIP_STATUS.SHORT (decide (n < 7))).when (n == 0) State.enterHold

/-- A pair's state changes; the counts that follow from it are brought up to date. -/
def State.setPair (s : State) (p st : Nat) : State :=
  let s := (s.wr (CIP_PAIR.STATE p) st).setBit CIP_OUT.OUT p (st == pairOut)
  s.updPairs

/-- A pair begins the known-answer test (R413, R518). -/
def State.testPair (s : State) (p : Nat) : State :=
  if s.rd (CIP_PAIR.STATE p) = pairTesting then s else s.setPair p pairTesting

/-- The two cores of a pair disagree: the operation is discarded and the pair runs its test; `kat` says that a mismatch
asked for it (R413). -/
def State.mismatch (s : State) (p : Nat) : State :=
  let s := s.testPair p
  { s with cip := { s.cip with kat := SMap.put false p true s.cip.kat } }

/-- A second mismatch within one counting window of the pair's source (R413). -/
def State.secondMismatch (s : State) (p : Nat) : Bool := SMap.get 0 p s.cip.misWin == s.srcWindow (564 + p) + 1

/-- A test ends: it returns the pair to service or takes it out until chip reset; after a mismatch the pair's source is
raised (R413). -/
def State.katEnd (s : State) (p : Nat) (pass : Bool) : State :=
  let mis := SMap.get false p s.cip.kat
  let out := !pass || (mis && s.secondMismatch p)
  let s := s |>.when (!pass) (fun s => s.addSat (CIP_PAIR.KATFAIL p) 1)
    |>.when (mis && pass) (fun s => s.addSat (CIP_PAIR.MISMATCH p) 1) |>.raiseIf (mis || !pass) (564 + p)
  let w := s.srcWindow (564 + p) + 1
  let m := if mis then SMap.put 0 p w s.cip.misWin else s.cip.misWin
  let s := { s with cip := { s.cip with kat := SMap.put false p false s.cip.kat, misWin := m } }
  s.setPair p (if out then pairOut else pairIn)

/-- References of a slot: pages of hauls at a lane pair and not yet released (R420, CIP_SLST.REFS). -/
def State.slotRefs (s : State) (k : Nat) : Nat :=
  ((s.slb.ift.filter (fun h => h.stage == 1 && h.key == k)).map (fun h => 4 - h.pages)).sum

/-- Work is queued for a pair: its island in AUTO wakes (R495). -/
def State.wakePair (s : State) (p : Nat) : State :=
  if s.rd (CLK_ISL.MODE (116 + p)) = 0 ∧ s.rd (CLK_ISL.STATE (116 + p)) = 0 ∧ !s.on (CLK_ISL.FAULT (116 + p)) then
    s.wr (CLK_ISL.STATE (116 + p)) 1
  else s

/-- The pair that takes the next page, round-robin over the pairs in service (R414). -/
def State.nextPair (s : State) : Nat × State :=
  let p := (((List.range 12).map (fun i => (s.cip.next + i) % 12)).find? s.pairServes).getD 0
  let s := s.wakePair p
  (p, { s with cip := { s.cip with next := (p + 1) % 12 } })

/-- Encrypt pages under a slot: their IVs, epoch and counter (R185, R414). -/
def State.encPages (s : State) (slot n : Nat) : List (Nat × Nat) × State :=
  (List.range n).foldl (fun (x : List (Nat × Nat) × State) _ =>
    let iv := (x.2.slotEpoch slot, x.2.slotCtr slot)
    let p := x.2.nextPair
    (x.1 ++ [iv], p.2.countPage slot p.1)) ([], s)

/-- Many pages at once under a slot, as encPages counts them: the counter advances by their number (R185, R422, R423). -/
def State.countPages (s : State) (k n : Nat) : State :=
  if n = 0 then s
  else
    let c := s.slotCtr k + (n - 1)
    (s.wr48 (CIP_SLCT_LO.COUNTER k) (CIP_SLCT_HI.COUNTER k) c).countPage k s.nextPair.1

/-- The active slot of the device metadata pair (R185, R416). -/
def State.metaSlot (s : State) : Option Nat := s.activeSlot 31

/-- A pad's record: four pages of zeros under the device metadata key (R184, R185, R213). -/
def State.padRec (s : State) : Option Rec × State :=
  match s.metaSlot with
  | none => (none, s)
  | some k =>
    let e := s.encPages k 4
    let r : Rec :=
      { typ := 7
        sett := 0
        seq := s.save.session
        key := k
        ivs := e.1
        pseq := 0
        keyVal := s.slotKey k
        data := []
        poison := 0 }
    (some r, e.2)

/-! ### The key store (R418, R420 to R422) -/

/-- The other slot of a slot's pair. -/
def pairMate (k : Nat) : Nat := if k % 2 = 0 then k + 1 else k - 1

/-- A slot's state, and the face that its pair or its loan gives it. -/
def State.setSlot (s : State) (k st face : Nat) : State := (s.wr (CIP_SLST.STATE k) st).wr (CIP_SLST.FACE k) face

/-- Hold a key in a slot. -/
def State.putKey (s : State) (k : Nat) (key : BitVec 256) : State := { s with cip := { s.cip with keys := SMap.put 0 k key s.cip.keys } }

/-- A key-store page holds every media and metadata slot as it stands, without the slots that are purged (R418, R425). -/
def State.storePage (s : State) : State :=
  let entry (k : Nat) : Option Stored :=
    let st := s.slotState k
    if st = slActive ∨ st = slPartner then some (Stored.mk st (s.slotKey k)) else none
  let m := (List.range 64).foldl (fun m k => SMap.put none k (entry k) m) []
  let s := { s with cip := { s.cip with store := m, stale := [], storeOk := true, storeSeq := s.cip.storeSeq + 1 } }
  s.forEach (List.range 64) (fun s k => s.wrB (CIP_SLST.STORED k) (entry k).isSome)

/-- STORE_BUSY: a key-store program or purge is pending. -/
def State.updStore (s : State) : State :=
  let b := match s.cip.cmd with
    | some c => c.op == 1 || c.op == 2
    | none => false
  s.wrB CIP_STATUS.STORE_BUSY (b || !s.cip.purge.isEmpty)

/-- A command ends with a result. -/
def State.cipDone (s : State) (r : Nat) : State :=
  let s := ({ s with cip := { s.cip with cmd := none } }) |>.wr CIP_CMD_STATUS.BUSY 0 |>.wr CIP_CMD_STATUS.RESULT r
  s.updStore.raiseIf (r == 5) 695

/-- GENERATE or ACTIVATE takes its effect once the key store records it (R421, R422). -/
def State.cipApply (s : State) (c : CipCmd) : State :=
  let k := c.slot
  let mate := pairMate k
  if c.op = 1 then
    let st := if s.slotState mate = slEmpty then slActive else slPartner
    ((s.putKey k c.key).setSlot k st (s.slotFace k)).newEpoch k
  else
    let s := if s.slotState mate = slActive then s.wr (CIP_SLST.STATE mate) slPartner else s
    (s.wr (CIP_SLST.STATE k) slActive).newEpoch k

/-- The place of a rotation whose command has been stored (R404). -/
def State.rotateNext (s : State) (c : CipCmd) : State :=
  if c.face = 0 then s
  else
    let f := c.face - 1
    let at_ := SMap.get 0 f s.cip.rotate
    let n := if at_ = 2 then (if s.slotState c.slot = slActive then 5 else 3) else if at_ = 4 then 5 else at_
    { s with cip := { s.cip with rotate := SMap.put 0 f n s.cip.rotate } }

/-- The store program of the command that waits has succeeded on a copy. -/
def State.cipStored (s : State) : State :=
  match s.cip.cmd with
  | some c => if c.op = 1 ∨ c.op = 2 then (((s.cipApply c).rotateNext c).storePage).cipDone 0 else s
  | none => s

/-- An ACTIVATE that waits at the fence completes before the save switches to pSLC (R431). -/
def State.finishActivate (s : State) : State :=
  match s.cip.cmd with
  | some c => if c.op = 2 then s.cipStored else s
  | none => s

end Sys2Proof.Machine
end

