-- ==== Sys2Proof/Machine/HaulFx.lean ====
section
/-! DEFINITION. What the Haul engine's events do: selection, reads, pages, stripes and their ends, and PFW_N (chapters 07,
08, 14). -/

namespace Sys2Proof.Machine

/-! ### Selection (R96, R176, R179 to R181) -/

/-- The Haul engine selects setts (R176). -/
def State.haulRuns (s : State) : Bool :=
  (s.chip == Chip.opened || (s.chip == Chip.restoring && s.anyOpen)) && s.on HAUL_CTL.ENABLE

/-- New hauls go to the Sump band (R181). -/
def State.sumpDest (s : State) : Bool := s.overRate && !s.on LGR_STATUS.SUMP_BOUND && !s.on HAUL_CTL.STOCK_ONLY

/-- A slab whose setts may be selected now: Resident, neither released nor retired, not pinned in Pearl or Amber, and its
owner's pair has an ACTIVE slot (R96, R426). -/
def State.slabEligible (s : State) (i : Nat) : Bool :=
  let e := s.slab i
  e.rstate == 0 && !e.relq && !e.retire && (!e.pin || s.margin == Margin.vermilion || s.margin == Margin.sable)
    && (s.settSlot (i * 64)).isSome

/-- The lowest eligible sett of a slab (R96, R180). -/
def State.eligibleSett (s : State) (i : Nat) : Option Nat :=
  if s.slabEligible i then
    ((List.range 64).map (fun b => i * 64 + b)).find? (fun k => s.dirty k && (s.haulOf k).isNone)
  else none

/-- Slabs of a bank with a Dirty sett, in the order of its sweep. -/
def State.sweepOrder (s : State) (c : Nat) : List Nat :=
  let l := (s.slb.slabs.filter (fun p => slabChan p.1 == c && p.2.mask != 0)).map (fun p => p.1)
  let q := SMap.get 0 c s.haul.ptr
  l.filter (fun i => decide (q ≤ i % 65536)) ++ l.filter (fun i => decide (i % 65536 < q))

/-- What the sweep of a bank finds next: the sett, if any, and the entries it passes (R180). -/
def State.sweep (s : State) (c l : Nat) : Option Nat × Nat :=
  let q := SMap.get 0 c s.haul.ptr
  match ((s.sweepOrder c).filter (fun i => decide ((s.slab i).heat / 8 ≤ l))).findSome? s.eligibleSett with
  | none => (none, 65536)
  | some k => (some k, (settSlab k % 65536 + 65536 - q) % 65536)

/-- A bank's sweep passes entries; half a sweep within a period holds L where it is (R179). -/
def State.swept (s : State) (c n : Nat) (at_ : Option Nat) : State :=
  let t := min (SMap.get 0 c s.haul.cover + n) 65536
  let ptr := match at_ with
    | some i => SMap.put 0 c (i % 65536) s.haul.ptr
    | none => s.haul.ptr
  { s with haul := { s.haul with
      cover := SMap.put 0 c t s.haul.cover
      half := s.haul.half || decide (32768 ≤ t)
      ptr := ptr } }

/-- A port write buffer, the Gallery or the Job engine holds data for the sett that has not reached DRAM (R106). -/
def State.inTransit (s : State) (k : Nat) : Bool :=
  faces.any (fun p => (s.port p).wbuf.any (fun e => e.sett == k && e.wait != .drained))
    || s.gal.held.any (fun h => h.sett == k) || s.adm.jobq.any (fun j => j.sett == k)

/-- Insert a sett in the in-flight table (R104, R106). -/
def State.insertHaul (s : State) (k : Nat) (sump ckpt : Bool) : State :=
  let h : Haul :=
    { sett := k
      rewr := s.inTransit k
      sump := sump
      key := (s.settSlot k).getD 0
      stage := 0
      since := s.tick
      newloc := 0
      data := []
      poison := 0
      pages := 0
      ready := 0
      ivs := []
      keyVal := 0
      ckpt := ckpt
      stripe := 0 }
  { s with slb := { s.slb with ift := s.slb.ift ++ [h] } }

/-- Try the banks in turn for one sett of class L or below. -/
def State.selectFrom (s : State) (sump : Bool) (l : Nat) : List Nat → State
  | [] => { s with haul := { s.haul with short := true } }
  | c :: cs =>
    let r := s.sweep c l
    let s := s.swept c r.2 (r.1.map settSlab)
    match r.1 with
    | none => s.selectFrom sump l cs
    | some k =>
      let s := (s.insertHaul k sump false).pay 1 1
      { s with haul := { s.haul with bank := (c + 1) % 36, started := s.haul.started + 1 } }

/-- HAUL_SELECT (R176, R178 to R181, R165). -/
def State.doHaulSelect (s : State) : State :=
  let sump := s.sumpDest
  if s.haulRuns && decide (s.haul.started < s.rd HAUL_RATE.QUOTA) && decide (s.slb.ift.length < 8192)
      && s.canPay 1 1 s.overRate && groups.any (fun g => s.canTake g sump) then
    s.selectFrom sump (s.rd HAUL_STATUS.LCLASS) ((List.range 36).map (fun i => (s.haul.bank + i) % 36))
  else s

/-! ### Ends of hauls (R107, R188) -/

/-- The map update of a haul begins: STAGE reads 3 and NEWLOC the entry that it writes. It takes effect with the next tick, or at
step 2 of a save (R107, R125, R193; DESIGN CHOICE 113). -/
def State.beginMap (s : State) (k : Nat) (w : Word) : State := s.mapHaul k (fun h => { h with stage := 3, newloc := w.toNat })

/-- The count of a haul's end, by what its copy is. -/
def Haul.cnt (h : Haul) : Fld :=
  if h.newloc = 0 then HAUL_CNT_ZERO.COUNT else if h.sump then HAUL_CNT_SUMP.COUNT else HAUL_CNT_STK.COUNT

/-- A haul ends: the map entry is written, then the dirty bit clears if REWR is 0 and the entry leaves the table (R107). -/
def State.endHaul (s : State) (h : Haul) : State :=
  let s := (s.setLoc h.sett (BitVec.ofNat 32 h.newloc)).when (!h.rewr) (fun s => s.clearDirty h.sett)
  let s := (s.dropHaul h.sett).addWrap h.cnt 1
  let s := if h.rewr then s.addWrap HAUL_CNT_REWR.COUNT 1 else s
  { s with haul := { s.haul with done := s.haul.done + 1 } }

/-- Hauls whose map update has begun end (R107). -/
def State.endMaps (s : State) : State := s.forEach (s.slb.ift.filter (fun h => h.stage == 3)) (fun s h => s.endHaul h)

/-- Hauls of slabs that have gained RELQ or RETIRE end early, whatever set the bit (R122, R189). -/
def State.guardHauls (s : State) : State :=
  s.forEach (s.slb.ift.filter (fun h => (s.slab (settSlab h.sett)).relq || (s.slab (settSlab h.sett)).retire)) (fun s h => s.abortHaul h.sett)

/-- Read every line of a sett that is being hauled (R183, R298). -/
def State.readSett (s : State) (k : Nat) (devs : SMap Nat) : State :=
  s.forEach (List.range 1024) (fun s l => (s.readLine k l (SMap.get 0 l devs)).1)

/-- The slab gained RELQ or RETIRE: hauls of its setts end early (R189). -/
def State.abortSlab (s : State) (i : Nat) : State :=
  s.forEach (s.slb.ift.filter (fun h => settSlab h.sett == i)) (fun s h => s.abortHaul h.sett)

/-- What a haul's read has found goes to the cipher under the active slot (R183, R185). -/
def State.toCipher (s : State) (k slot : Nat) : State :=
  let d := s.settData k
  let p := s.settPoison k
  s.mapHaul k (fun h => { h with
    stage := 1
    key := slot
    keyVal := s.slotKey slot
    data := d
    poison := p })

/-- HAUL_DRAM_READ_DONE (R180, R183, R189, R423): the read waits behind a repair that holds a line of the sett (R99, R299). -/
def State.doHaulRead (s : State) (k : Nat) (devs : SMap Nat) : State :=
  match s.haulOf k with
  | none => s
  | some h =>
    if h.stage ≠ 0 ∨ s.dch.repairs.any (fun r => r.sett == k) then s
    else
      let s := s.readSett k devs
      if (s.settData k).isEmpty && s.settPoison k == 0 then s.beginMap k 0
      else if !groups.any (fun g => s.canTake g h.sump) then s.abortHaul k
      else match s.settSlot k with
        | none => s.abortHaul k
        | some slot => if s.mayEncrypt slot false then s.toCipher k slot else s.abortHaul k

/-! ### Stripes (R184, R213) -/

/-- Note whether a wordline of a lode waits for stripes, at stripe `j` of the lode (R213). -/
def State.noteWordline (s : State) (g n j : Nat) : State :=
  let k := lodeKey g n
  let t := if j % 3 = 2 then 0 else if j % 3 = 0 then s.tick + 1 else SMap.get 0 k s.stk.wlWait
  { s with stk := { s.stk with wlWait := SMap.put 0 k t s.stk.wlWait } }

/-- A stripe that has taken its place is issued, its pages stamped with its PSEQ, and its program is charged; a channel whose sectors
forbid the program refuses it, and nothing is issued (R169, R184, R222, R233). -/
def State.issueAt (s : State) (num g : Nat) (sump : Bool) (cls kind : Nat) (a b : Option Nat) (oldA oldB : Word)
    (recA recB : Option Rec) : State :=
  let q := (s.nextPseq g + 4294967295) % 4294967296
  let id := s.haul.nextStripe
  let s := { s with haul := { s.haul with nextStripe := id + 1 } }
  match (s.stripeBlocks g num sump).filter (fun x => !s.mayProgram x.1 x.2.1 x.2.2 false) with
  | x :: l =>
    let n := (s.stripeLode g num sump).1
    (s.forEach (x :: l) (fun s x => s.wpRefuse x.1)).sealFull g n
  | [] =>
    let st : Stripe :=
      { id := id
        sump := sump
        group := g
        num := num
        a := a
        b := b
        cls := cls
        kind := kind
        oldA := oldA
        oldB := oldB
        recA := recA.map (fun r => { r with pseq := q })
        recB := recB.map (fun r => { r with pseq := q }) }
    let s := { s with haul := { s.haul with stripes := s.haul.stripes ++ [st] } }
    let s := if sump then s else s.noteWordline g (s.stripeLode g num false).1 (num % s.stockS g)
    s.charge cls sump

/-- Issue a stripe to a group at its next place; nothing is issued where taking it has left the group DEGRADED (R184, R218, R219,
R252). -/
def State.issue (s : State) (g : Nat) (sump : Bool) (cls kind : Nat) (a b : Option Nat) (oldA oldB : Word)
    (recA recB : Option Rec) : State :=
  match (if sump then some (s.takeSump g 0) else s.takeStock g) with
  | none => s
  | some (num, s) => if s.groupTakes g then s.issueAt num g sump cls kind a b oldA oldB recA recB else s

/-- The next stripe of a group is not refused: the sectors allow a program of each of the nine blocks of its place (R211, R233). -/
def State.mayIssue (s : State) (g : Nat) (sump : Bool) : Bool :=
  match (if sump then some (s.takeSump g 0) else s.takeStock g) with
  | none => false
  | some (num, t) => t.groupTakes g && (t.stripeBlocks g num sump).all (fun x => t.mayProgram x.1 x.2.1 x.2.2 false)

/-- A stripe has been issued and has not ended. -/
def State.issued (s : State) (id : Nat) : Bool := s.haul.stripes.any (fun x => x.id == id)

/-- The record that a haul's pages form (R186). -/
def State.haulRec (s : State) (h : Haul) : Rec :=
  { typ := if h.sump then 2 else 1
    sett := h.sett
    seq := s.save.session
    key := h.key
    ivs := h.ivs
    pseq := 0
    keyVal := h.keyVal
    data := h.data
    poison := h.poison }

/-- A setts' pair, or a sett and a pad, forms a stripe in the next group in turn; with no group, or where the stripe is refused, the
hauls end early (R180, R184, R189). A stripe of one CHECKPOINT haul and one other is charged to class 1 (R169; DESIGN CHOICE 163). -/
def State.formStripe (s : State) (a : Haul) (b : Option Haul) : State :=
  let ks := a.sett :: (b.map (fun h => h.sett)).toList
  match s.nextGroup a.sump with
  | none => s.forEach ks (fun s k => s.abortHaul k)
  | some g =>
    let s := { s with haul := { s.haul with group := (g + 1) % 8 } }
    let pad := match b with
      | none => (s.addWrap HAUL_CNT_PAD.COUNT 1).padRec
      | some h => (some (s.haulRec h), s)
    let cls := if a.ckpt && (b.map (fun h => h.ckpt)).getD true then 3 else 1
    let id := s.haul.nextStripe
    let s := pad.2.issue g a.sump cls 0 (some a.sett) (b.map (fun h => h.sett)) 0 0 (some (s.haulRec a)) pad.1
    if s.issued id then s.forEach ks (fun s k => s.mapHaul k (fun h => { h with stage := 2, stripe := id + 1 }))
    else s.forEach ks (fun s k => s.abortHaul k)

/-- The setts that wait for a partner, for one destination. -/
def State.waiting (s : State) (sump : Bool) : List Nat := if sump then s.haul.waitSump else s.haul.waitStk
def State.setWaiting (s : State) (sump : Bool) (l : List Nat) : State :=
  if sump then { s with haul := { s.haul with waitSump := l } } else { s with haul := { s.haul with waitStk := l } }

/-- Stripes of a destination may start: PFW_N holds those of the Stockpile (R182). -/
def State.stripesStart (s : State) (sump : Bool) : Bool := sump || !s.haul.pfw

/-- Pair waiting setts in selection order while two wait (R184). -/
def State.pairUp (s : State) (sump : Bool) : Nat → State
  | 0 => s
  | n + 1 =>
    if s.stripesStart sump then
      match s.waiting sump with
      | a :: b :: l =>
        let s := s.setWaiting sump l
        match s.haulOf a, s.haulOf b with
        | some x, some y => (s.formStripe x (some y)).pairUp sump n
        | _, _ => s.pairUp sump n
      | _ => s
    else s

/-- The sett's pages are ready: it waits for a partner. -/
def State.pagesReady (s : State) (k : Nat) (sump : Bool) : State :=
  let s := s.mapHaul k (fun h => { h with ready := s.tick })
  let order := s.slb.ift.map (fun h => h.sett)
  let l := k :: s.waiting sump
  (s.setWaiting sump (order.filter (fun x => l.contains x))).pairUp sump 1

/-- A page of a haul is released by its pair (R185, R412, R423). -/
def State.pageOk (s : State) (h : Haul) (pair : Nat) : State :=
  let iv := (s.slotEpoch h.key, s.slotCtr h.key)
  let s := s.countPage h.key pair
  let n := h.pages + 1
  let s := s.mapHaul h.sett (fun h => { h with
    pages := n
    ivs := h.ivs ++ [iv] })
  if n = 4 then s.pagesReady h.sett h.sump else s

/-- CIPHER_PAGE_DONE (R189, R412, R413, R423). -/
def State.doPageDone (s : State) (k pair : Nat) (agree : Bool) : State :=
  match s.haulOf k with
  | none => s
  | some h =>
    if h.stage ≠ 1 ∨ 4 ≤ h.pages ∨ 12 ≤ pair ∨ !s.pairServes pair then s
    else if !agree then (s.abortHaul k).mismatch pair
    else if !s.mayEncrypt h.key false then s.abortHaul k
    else s.pageOk h pair

/-- HAUL_PAD_WAIT_EXPIRY (R184): a sett that has waited PAD_WAIT ticks for a partner is paired with a pad. -/
def State.padOne (s : State) (sump : Bool) : State :=
  match s.waiting sump with
  | [k] =>
    match s.haulOf k with
    | some h =>
      if s.stripesStart sump && decide (h.ready + Nat.max 1 (s.rd HAUL_SAVE_CFG.PAD_WAIT) ≤ s.tick) then
        (s.setWaiting sump []).formStripe h none
      else s
    | none => s.setWaiting sump []
  | _ => s
def State.doPadWait (s : State) : State := (s.padOne false).padOne true

/-- Stockpile lodes of a group in which a wordline waits for stripes: the open one, or one that was sealed early (R213, R250). -/
def State.waitLodes (s : State) (g : Nat) : List Nat :=
  ((s.haul.stripes.filter (fun x => x.group == g && !x.sump)).map (fun x => (s.stripeLode g x.num false).1)).dedup.filter
    (fun n => (s.lode g n).used % 3 != 0)

/-- Fill a wordline of a lode that waits for stripes with pad stripes, in a group that takes stripes (R213, R252). They are charged to
class 1, whichever class opened the wordline (R169; DESIGN CHOICE 164). -/
def State.padLode (s : State) (g l : Nat) : Nat → State
  | 0 => s
  | n + 1 =>
    if (s.lode g l).used % 3 = 0 || !s.groupTakes g then s
    else
      let a := s.padRec
      let b := a.2.padRec
      let t := b.2.takeIn g l
      ((t.2.issueAt t.1 g false 1 4 none none 0 0 a.1 b.1).addWrap HAUL_CNT_PAD.COUNT 2).padLode g l n

/-- Wordlines of a group that wait for stripes are filled with pads (R213). -/
def State.padWordline (s : State) (g : Nat) : State := s.forEach (s.waitLodes g) (fun s l => s.padLode g l 2)

/-- WORDLINE_PAD_TIMEOUT (R213): the wordlines of a group that have waited 32 ticks. -/
def State.doWordlinePad (s : State) (g : Nat) : State :=
  let due (n : Nat) : Bool := let t := SMap.get 0 (lodeKey g n) s.stk.wlWait; t != 0 && decide (t + 31 ≤ s.tick)
  s.forEach ((s.waitLodes g).filter due) (fun s l => s.padLode g l 2)

/-! ### Ends of stripes (R107, R188, R246, R250) -/

/-- A moved copy takes the place of the old one if the entry still names it and the sett is not Dirty (R107, R246). -/
def State.endMove (s : State) (k : Nat) (old w : Word) : State :=
  if s.loc k = old ∧ !s.dirty k then s.setLoc k w else s

/-- One half of a stripe ends; a sett that was selected again since belongs to another stripe (R107, R188, R189). -/
def State.endHalf (s : State) (st : Stripe) (k : Nat) (half : Nat) (old : Word) : State :=
  let w := stripeLoc st.group st.num half st.sump
  if st.kind = 0 then
    if (s.haulOf k).any (fun h => h.stage == 2 && h.stripe == st.id + 1) then s.beginMap k w else s
  else if st.kind = 4 then s
  else s.endMove k old w

/-- What the pages of a stripe carry is on NAND, whatever has become of its hauls; its blocks show the tick of their first program, and a
lode whose last stripe this is, is SEALED (R186, R188, R189, R225, R230). -/
def State.putStripe (s : State) (st : Stripe) : State :=
  let put (s : State) (half : Nat) (r : Option Rec) : State :=
    match r with
    | none => s
    | some r => s.putRec (stripeLoc st.group st.num half st.sump) r
  let s := (put (put s 0 st.recA) 1 st.recB).unitDone st.group st.num st.sump
  { s with haul := { s.haul with stripes := s.haul.stripes.filter (fun x => x.id != st.id) } }.sealFull st.group
    (s.stripeLode st.group st.num st.sump).1

/-- The dies of a stripe have answered a program (R251). -/
def State.stripeAnswers (s : State) (st : Stripe) : State :=
  s.forEach (s.stripeBlocks st.group st.num st.sump) (fun s x => s.dieAnswers x.1 x.2.1)

/-- Folds and reworks that run (R255). -/
def State.updMoves (s : State) : State :=
  { s with stk := { s.stk with
      folding := s.haul.stripes.any (fun x => x.kind == 2)
      reworking := s.haul.stripes.any (fun x => x.kind == 1) } }

/-- No die of a stripe holds an erase suspended: it takes no program meanwhile (R242). -/
def State.diesFree (s : State) (st : Stripe) : Bool :=
  (s.stripeBlocks st.group st.num st.sump).all (fun x => !(SMap.get DieErase.idle (x.1 * 8 + x.2.1) s.stk.dies).suspended)

/-- STRIPE_PROGRAM_DONE (R107, R188, R242, R251). -/
def State.doStripeDone (s : State) (id : Nat) : State :=
  match s.haul.stripes.find? (fun x => x.id == id) with
  | none => s
  | some st =>
    if s.programmed st && s.diesFree st then
      let s := (s.stripeAnswers st).putStripe st
      let s := match st.a with
        | some k => s.endHalf st k 0 st.oldA
        | none => s
      (match st.b with
        | some k => s.endHalf st k 1 st.oldB
        | none => s).updMoves
    else s

/-- Stripes on their way that share the program of a stripe: those of its TLC wordline (R213). -/
def State.sameProgram (s : State) (st x : Stripe) : Bool :=
  x.group == st.group && x.sump == st.sump && (x.num == st.num ||
    (!st.sump && (s.stripeLode st.group st.num false).1 == (s.stripeLode x.group x.num false).1
      && (s.stripeLode st.group st.num false).2 / 3 == (s.stripeLode x.group x.num false).2 / 3))

/-- STRIPE_PROGRAM_FAIL (R189, R250, R251): the page on a channel of the stripe's group failed. -/
def State.doStripeFail (s : State) (id chan : Nat) : State :=
  match s.haul.stripes.find? (fun x => x.id == id) with
  | none => s
  | some st =>
    if chanGroup chan = st.group then
      let l := s.haul.stripes.filter (s.sameProgram st)
      (((s.stripeAnswers st).programFailed st.group st.num st.sump chan).forEach l (fun s x => s.dropStripe x)).updMoves
    else s

/-! ### PFW_N (R182, R213, R485) -/

/-- PFW_ASSERT. -/
def State.doPfwAssert (s : State) : State :=
  if s.haul.pfw then s
  else
    let s := { s with haul := { s.haul with pfw := true, pfwTick := s.tick } }
    let s := { s with seq := { s.seq with pfwTick := s.tick, pfwLate := false } }
    let s := (s.wr SEQ_STATUS.PFW 1).addSat SEQ_PFW.ASSERTS 1
    s.when s.hubOn (fun s => (s.wr HAUL_STATUS.PFW_HOLD 1).forEach groups (fun s g => s.padWordline g))

/-- PFW_RELEASE. -/
def State.doPfwRelease (s : State) : State :=
  if s.haul.pfw then
    let d := (s.tick - s.haul.pfwTick) * 1000 / 32768
    let s := { s with haul := { s.haul with pfw := false } }
    let s := (s.wr SEQ_STATUS.PFW 0).wr HAUL_STATUS.PFW_HOLD 0
    (s.when (decide (s.rd SEQ_PFW.LONGEST < d)) (fun s => s.wr SEQ_PFW.LONGEST (min d 65535))).when s.hubOn
      (fun s => s.pairUp false s.haul.waitStk.length)
  else s

/-- PFW_MAX_EXPIRY (R485): raised once per assertion. -/
def State.doPfwMax (s : State) : State :=
  if s.haul.pfw && !s.seq.pfwLate && s.benchTable
      && decide (s.seq.pfwTick + (s.sv BENCHES.PFW_MAX * 32768 + 999) / 1000 ≤ s.tick) then
    ({ s with seq := { s.seq with pfwLate := true } }).raise 655
  else s

end Sys2Proof.Machine
end

