-- ==== Sys2Proof/Machine/MergeOps.lean ====
section
/-! DEFINITION. What the merge unit works with: the order of the walk, the predicted places of a save's records, the valid ones among
them, and the deviations that it counts (chapters 07, 09). -/

namespace Sys2Proof.Machine

/-! ### The order of the walk (R48, R194, R264) -/

/-- Take the heads of the lists in turn, a list with none left passing (R264). -/
def roundRobin : Nat → List (List Nat) → List Nat
  | 0, _ => []
  | n + 1, ls =>
    let hs := ls.filterMap (fun l => l.head?)
    if hs.isEmpty then [] else hs ++ roundRobin n (ls.map (fun l => l.drop 1))

/-- The Dirty setts of the slab images that a condition on the slab picks, in the order of the walk: one sett from each bank
in turn, C00 first (R194, R264). -/
def walkPass (image : SMap SlabE) (pick : SlabE → Bool) : List Nat :=
  let l := image.filter (fun p => p.2.mask != 0 && pick p.2)
  let banks := (List.range 36).map (fun c =>
    (l.filter (fun p => slabChan p.1 == c)).flatMap (fun p => ((List.range 64).filter (fun b => p.2.mask.getLsbD b)).map (fun b => p.1 * 64 + b)))
  roundRobin (banks.foldl (fun m b => Nat.max m b.length) 0) banks

/-- The whole walk: first the faces that were not Volatile at the fence, with slabs whose word the SRAM has spoilt, whatever OWNER they
read, then the Volatile ones (R48, R122, R194). -/
def walkOrder (image : SMap SlabE) (vol : Nat) : List Nat :=
  walkPass image (fun e => !bitAt e.owner vol) ++ walkPass image (fun e => bitAt e.owner vol)

/-! ### Valid records (R187, R266) -/

/-- A record decrypts: its slot still holds the key it was written under (R187, R425). -/
def State.decrypts (s : State) (r : Rec) : Bool := s.slotKey r.key == r.keyVal && s.slotState r.key != slEmpty

/-- A record is a valid SAVE record of a save: `bad` names setts whose record fails its checks (R187). -/
def State.validSave (s : State) (seq : Nat) (bad : List Nat) (r : Rec) : Bool :=
  r.typ == 3 && r.seq == seq && s.decrypts r && !bad.contains r.sett

/-- The valid SAVE records of a save: location entry and sett (R187, R266). -/
def State.saveRecs (s : State) (seq : Nat) (bad : List Nat) : List (Nat × Nat) :=
  s.stk.recs.filterMap (fun p => match p.2 with
    | some r => if s.validSave seq bad r then some (p.1, r.sett) else none
    | none => none)

/-! ### Predicted places (R264, R265) -/

/-- Where the records of a group part from the prediction: each realignment counts one; `none` stands for an invalid record. -/
def deviations : Nat → List Nat → List (Option Nat) → Nat
  | 0, _, _ => 0
  | _, [], [] => 0
  | _, _ :: _, [] => 1
  | _, [], _ :: _ => 1
  | n + 1, e :: es, a :: as =>
    if a = some e then deviations n es as
    else match as.dropWhile (fun x => x.isNone) with
      | some v :: _ =>
        match a with
        | some w => if es.contains w then 1 + deviations n ((e :: es).dropWhile (fun x => x != w)) (a :: as) else 1 + deviations n (e :: es) as
        | none => if es.contains v then 1 + deviations n (es.dropWhile (fun x => x != v)) (as.dropWhile (fun x => x.isNone)) else 1 + deviations n es as
      | _ => 1

/-- The record after the last one of a run in each of its groups (R194, R264). -/
def State.runEnds (s : State) (x : MetaRun) : List (Nat × Nat) :=
  let k := x.groups.length
  let n := (x.count + 1) / 2
  (List.zip x.groups (List.range k)).filterMap (fun g =>
    let stripes := n / k + (if g.2 < n % k then 1 else 0)
    let odd := if x.count % 2 = 1 ∧ (n - 1) % k = g.2 then 1 else 0
    if stripes = 0 then none else some (g.1.1, (g.1.2.1 + 2 * stripes - odd) % Nat.max 1 (s.sumpRecords g.1.1)))

/-- How far record r of a group lies behind its record sg in the ring. -/
def State.ringFrom (s : State) (g sg r : Nat) : Nat :=
  let n := Nat.max 1 (s.sumpRecords g)
  (r + n - sg % n) % n

/-- The groups that took the save's Sump records at the fence, each with s_g, the record after its last CARVE record: one that was
written again lies behind the others (R200, R264). -/
def State.mergeGroups (s : State) (v : SaveSet) : List (Nat × Nat) :=
  match v.runs.filter (fun x => x.typ == 4) with
  | [] => []
  | x :: xs =>
    let again := xs.flatMap s.runEnds
    (List.zip x.groups (s.runEnds x)).map (fun p =>
      let g := p.1.1
      (g, ((again.filter (fun y => y.1 == g)).map (fun y => y.2)).foldl (fun m r =>
        if s.ringFrom g p.1.2.1 m < s.ringFrom g p.1.2.1 r then r else m) p.2.2))

/-- The place of sett w of the order: group G[(w ÷ 2) mod |G|], record s_g + 2 × ((w ÷ 2) ÷ |G|) + w mod 2, in the group's ring
(R219, R264). -/
def State.predictedPlace (s : State) (gs : List (Nat × Nat)) (w : Nat) : Nat × Nat :=
  let g := gs.getD (w / 2 % gs.length) (0, 0)
  (g.1, (g.2 + 2 * (w / 2 / gs.length) + w % 2) % Nat.max 1 (s.sumpRecords g.1))

/-- The setts predicted for a group, in record order from its s_g (R264). -/
def State.predicted (s : State) (gs : List (Nat × Nat)) (order : List Nat) (g : Nat) : List Nat :=
  ((List.zip order (List.range order.length)).filter (fun x => (s.predictedPlace gs x.2).1 == g)).map (fun x => x.1)

/-- Records of a group's Sump band that are programmed, by their distance from s_g, in ring order (R219, R265). -/
def State.groupPlaces (s : State) (g sg : Nat) : List Nat :=
  let here := (s.stk.recs.filter (fun p => locKind (BitVec.ofNat 32 p.1) == 2 && locGroup (BitVec.ofNat 32 p.1) == g)).map (fun p => locNum (BitVec.ofNat 32 p.1))
  (here.filter (fun r => decide (sg ≤ r)) ++ here.filter (fun r => decide (r < sg))).map (s.ringFrom g sg)

/-- How many records of a group there are from s_g on, as FIRST and LAST of the manifest give them, or in case CUT up to the last that is
programmed (R197, R265). -/
def State.groupCount (s : State) (m : Option Manifest) (g sg : Nat) : Nat :=
  match m with
  | some m => if SMap.get 0 g m.last = 0 then 0 else s.ringFrom g sg (SMap.get 0 g m.last - 1) + 1
  | none => (s.groupPlaces g sg).foldl (fun n r => if r = n then n + 1 else n) 0

/-- The records of a group from s_g on: the sett of a valid one (R187, R265). -/
def State.groupRecs (s : State) (seq : Nat) (m : Option Manifest) (g sg : Nat) (bad : List Nat) : List (Option Nat) :=
  (List.range (s.groupCount m g sg)).map (fun i =>
    match s.recAt (locSump g ((sg + i) % Nat.max 1 (s.sumpRecords g))) with
    | some r => if s.validSave seq bad r then some r.sett else none
    | none => none)

/-- The deviations of one group (R265): the first and the last predicted record are read and the group's count, where the manifest
gives it, is compared; a prediction that agrees in all three stands. In case CUT it ends with the last programmed record. -/
def groupDeviations (p : List Nat) (a : List (Option Nat)) (count : Option Nat) : Nat :=
  let a := if (p.length % 2 == 1) && a.length == p.length + 1 && a.getLast? == some none then a.dropLast else a
  let p := if count.isSome then p else p.take a.length
  if count.getD p.length = p.length ∧ p.length = a.length ∧ p.head?.map some = a.head? ∧ p.getLast?.map some = a.getLast? then 0
  else deviations (p.length + a.length + 1) p a

/-- A group's count of SAVE records, from FIRST to LAST (R197). -/
def State.manifestCount (s : State) (m : Manifest) (g : Nat) : Nat :=
  if SMap.get 0 g m.last = 0 then 0 else s.ringFrom g (SMap.get 0 g m.first - 1) (SMap.get 0 g m.last - 1) + 1

/-- Count the deviations of every group that took the save's records (R265). -/
def State.countDeviations (s : State) (v : SaveSet) (image : SMap SlabE) (vol : Nat) (bad : List Nat) (whole : Bool) : State :=
  let gs := s.mergeGroups v
  let order := walkOrder image vol
  let m := if whole then v.manifest else none
  let d := (gs.map (fun x => groupDeviations (s.predicted gs order x.1) (s.groupRecs v.seq m x.1 x.2 bad) (m.map (fun m => s.manifestCount m x.1)))).sum
  s.wr RES_DEVIATE.COUNT (min d 65535)

end Sys2Proof.Machine
end

