-- ==== Sys2Proof/Machine/FaceOps.lean ====
section
/-! DEFINITION. Islands as chip states force them, anchors, opening and closing faces, the merge of a save, and the warm
resume (chapters 07, 09, 11, 17). -/

namespace Sys2Proof.Machine

/-! ### Islands (R493 to R497) -/

def islOff : Nat := 0
def islWaking : Nat := 1
def islOn : Nat := 2
def islStopping : Nat := 3
def islRestarting : Nat := 4

def islDram (c : Nat) : Nat := c
def islNand (n : Nat) : Nat := 36 + n
def islPort (p : Nat) : Nat := 108 + p
def islGal (l : Nat) : Nat := 114 + l
def islPair (p : Nat) : Nat := 116 + p
def islHaul : Nat := 128
def islRes : Nat := 129
def islJob : Nat := 130
def islFmn : Nat := 131

def State.isl (s : State) (n : Nat) : Nat := s.rd (CLK_ISL.STATE n)

/-- An island's state, with its copies in HPT_STATUS and JOB_STATUS; power-ups are counted (R493, R506). -/
def State.setIsl (s : State) (n st : Nat) : State :=
  let up := decide (st = islOn ∧ s.isl n ≠ islOn)
  let s := s.wr (CLK_ISL.STATE n) st |>.when up (fun s => s.addSat (CLK_ISL.WAKES n) 1)
  if 108 ≤ n ∧ n < 114 then s.wr (HPT_STATUS.ISLAND (n - 108)) st
  else if n = islJob then s.wr JOB_STATUS.ISLAND st else s

/-- A chip-state change puts an island where it belongs at once; a queued request is over (R497, R499). -/
def State.force (s : State) (n : Nat) (on : Bool) : State :=
  let s := { s with clk := { s.clk with rising := SMap.put false n false s.clk.rising } }
  (s.setIsl n (if on then islOn else islOff)).wr (CLK_ISL.PENDING n) 0

/-- Whether an island is requested on (R494, R495); one in AUTO only while it has work. -/
def State.islWanted (s : State) (n : Nat) : Bool :=
  if n < 36 then s.chanPresent n
  else if n < 108 then s.groupOn (chanGroup (n - 36))
  else if n < 114 then s.faceOn (n - 108) && s.on (HPT_CFG.ENABLE (n - 108))
  else if n < 116 then s.hasSec secTwin && s.svOn (TWIN.GL_EN (n - 114))
  else if n = islJob then s.on JOB_CFG.ENABLE
  else if n = islHaul ∨ n = islFmn then true
  else s.rd (CLK_ISL.MODE n) == 1

/-- Ports that are requested on power up, with the Gallery links (R275, R494). -/
def State.portsUp (s : State) : State :=
  let s := s.forEach [108, 109, 110, 111, 112, 113, 114, 115] (fun s n => s.when (s.islWanted n) (fun s => s.force n true))
  s.forEach [0, 1] (fun s l => s.when (s.isl (islGal l) == islOn && s.rd (GAL_LINK.STATE l) == 0) (fun s => s.wr (GAL_LINK.STATE l) 1))

/-- A port's link is gone with its island. -/
def State.portOff (s : State) (p : Nat) : State :=
  (s.force (islPort p) false) |>.wr (HPT_STATUS.LINK_UP p) 0 |>.wr (HPT_STATUS.RATE p) 0 |>.wr (HPT_STATUS.WIDTH p) 0
    |>.wr (HPT_STATUS.L0P p) 0

/-- A Gallery link is gone with its island. -/
def State.galOff (s : State) (l : Nat) : State :=
  (s.force (islGal l) false) |>.wr (GAL_LINK.STATE l) 0 |>.setBit GAL_STATUS.LINKS l false

/-- Host port and Gallery islands power down (R192 step 3, R497). -/
def State.portsDown (s : State) : State :=
  (s.forEach faces (fun s p => s.portOff p)).forEach [0, 1] (fun s l => s.galOff l)

/-- Present DRAM channels, NAND channels of enabled groups and cipher pairs in service are ON (R497). -/
def State.coreIslands (s : State) (on : Bool) : State :=
  let nand := (List.range 72).map islNand
  let pairs := ((List.range 12).filter s.pairServes).map islPair
  s.forEach ((nand ++ pairs).filter (fun n => !on || decide (108 ≤ n) || s.islWanted n)) (fun s n => s.force n on)

/-! ### Anchors (R196) -/

/-- The anchor in write order after which the next one goes: its SEQ (R196). -/
def State.session (s : State) : Nat := s.save.session

/-- The next Sump record of each group. -/
def State.heads (s : State) : List Nat := groups.map (fun g => SMap.get 0 g s.stk.head)

/-- An anchor page is formed, with its tag under the device metadata key, and goes to N00 (R185, R196). -/
def State.beginAnchor (s : State) (phase : Nat) : State :=
  let k := s.metaSlot.getD 62
  let e := if s.metaSlot.isSome then s.encPages k 1 else ([], s)
  let a : Anchor :=
    { seq := if phase = 1 then s.save.session + 1 else s.save.session
      phase := phase
      trig := if phase = 1 then 0 else s.rd HAUL_SAVE_STAT.TRIGGER
      tick := s.tick
      sumpStart := if phase = 1 then List.replicate 8 0 else s.save.sumpStart
      vol := if phase = 1 then 0 else s.save.vol
      ok0 := false
      ok36 := false
      iv := e.1.headD (0, 0)
      keyVal := s.slotKey k
      page := 0 }
  let s := e.2
  { s with save := { s.save with anchor := some a } }

/-- An OPEN anchor is on its way: no face opens before it is written (R196). -/
def State.openPending (s : State) : Bool :=
  match s.save.anchor with
  | some a => a.phase == 1
  | none => false

/-! ### Opening faces (R41, R260, R403) -/

/-- The Gallery keeps this sled's faces closed: it joins, is fenced, has left, or is being resilvered (R446, R452, R454). -/
def State.galCloses (s : State) : Bool :=
  s.galMode == modeJoining || s.galMode == modeFenced || s.galMode == modeRslvDst || s.galMode == modeLeft || s.gal.joinStep != 0

/-- JOBL clears on every slab of a face before it opens (R403). -/
def State.clearJobl (s : State) (f : Nat) : State :=
  s.forEach (s.slb.slabs.filter (fun p => p.2.jobl && p.2.owner == f)) (fun s p => s.setLock p.1 15 false)

/-- The records that come before a face opens after its count rose (R41, R331). -/
def State.postMemRec (s : State) (f : Nat) : State :=
  if bitAt f s.res.memRec then
    let s := { s with res := { s.res with memRec := withBit f false s.res.memRec } }
    (s.postEvent f logWarn (.dirtyShutdown (s.nvFace f).dirty)).postVendor f 7 (s.port f).lost
  else s

/-- A face of Volatile policy that opens while the margin state is Sable is Volatile, and is told so (R45, R53). -/
def State.volatileOpen (s : State) (f : Nat) : State :=
  s.when (s.margin == Margin.sable && s.volatilePolicy f && !s.volatileNow f) (fun s =>
    (s.setBit BED_STATE.VOLATILE f true).postVendor f 2 0)

/-- A face opens (R260), unless the pair keeps it closed or an erase of it has not ended (R332); then it opens later. -/
def State.openFace (s : State) (f : Nat) : State :=
  if !s.faceOn f || s.faceOpen f then s
  else if s.galCloses || (s.port f).erasing.isSome then s.setPort f { s.port f with wasOpen := true }
  else
    let first := !s.anyOpen && decide (s.rd RES_T_OPEN.TICKS = 0)
    let s := (((s.postMemRec f).volatileOpen f).clearJobl f).setPort f { s.port f with wasOpen := false }
    s |>.wr (HPT_STATUS.OPEN f) 1 |>.wr (HPT_STATUS.FENCED f) 0 |>.setBit BED_STATE.OPEN f true
      |>.setBit RES_STATUS.OPEN f true |>.when first (fun s => s.wr RES_T_OPEN.TICKS (s.tick - s.res.trigTick))

/-- A face closes (R260). -/
def State.closeFace (s : State) (f : Nat) : State :=
  s |>.wr (HPT_STATUS.OPEN f) 0 |>.setBit BED_STATE.OPEN f false |>.setBit RES_STATUS.OPEN f false

/-- Faces of a set open, except those that wait for their links (R275 step 6). -/
def State.openSet (s : State) (m : Nat) : State :=
  s.forEach (faces.filter (fun f => bitAt f m)) (fun s f =>
    s.when (!(s.port f).wasOpen || s.on (HPT_STATUS.LINK_UP f)) (fun s => s.openFace f))

/-- The set of enabled faces. -/
def State.enabledSet (s : State) : Nat := faces.foldl (fun m f => if s.faceOn f then m + 2 ^ f else m) 0

/-- Faces of a set open behind the OPEN anchor of this restore or warm resume: it is formed where it is not, and while it is being
written the faces wait for it (R196, R276). Faces that the Gallery keeps closed wait without it. -/
def State.openVia (s : State) (m : Nat) : State :=
  if s.galCloses || (s.res.anchored && !s.openPending) then s.openSet m
  else
    let s := if s.openPending then s else s.beginAnchor 1
    let s := { s with res := { s.res with anchored := true } }
    { s with save := { s.save with openAfter := s.save.openAfter ||| m } }

/-! ### The image is home (R276) -/

/-- The Core log's BOOT record (R534). -/
def State.bootRecord (s : State) : State :=
  if s.clg.bootLogged then s
  else
    let w (f : Fld) : Nat := (s.word f.addr).toNat
    let s := s.formRec 6 0 ([w SVY_STATUS.STATE, w SVY_GEN.GENERATION, s.rd FWM_STATUS.BOOTED, w RES_STATUS.PHASE,
      w RES_T_OPEN.TICKS, w RES_T_HOME.TICKS, w RES_LOST.SETTS, w RES_FLOST.SETTS, w RES_DEVIATE.COUNT, w STK_UNSETTLED.COUNT]
      ++ s.clg.ffcAtWaking)
    { s with clg := { s.clg with bootLogged := true } }

/-- A save has been released since the metadata pair's switch: after the second one the former metadata slot is zeroized (R424). -/
def State.metaReleased (s : State) : State :=
  match SMap.get 0 6 s.cip.rotate with
  | 5 => { s with cip := { s.cip with rotate := SMap.put 0 6 6 s.cip.rotate } }
  | 6 => { s with cip := { s.cip with rotate := SMap.put 0 6 7 s.cip.rotate } }
  | _ => s

/-- The records of every save on NAND are released (R276). -/
def State.releaseSaves (s : State) : State :=
  let t : State := { s with saves := s.saves.map (fun v => { v with released := true }) }
  t.when (s.saves.any (fun v => !v.released)) State.metaReleased

/-- When no slab is Unrestored or Fetching, the chip is Open and the remaining faces open (R276). -/
def State.checkHome (s : State) : State :=
  if s.chip == Chip.restoring && s.res.filling && s.rd RES_UNREST.SLABS == 0 && s.rd RES_FETCHING.SLABS == 0 then
    let s := { s with res := { s.res with filling := false } }
    let s := (s.setChip .opened) |>.wr RES_STATUS.HOME 1 |>.wr RES_STATUS.PHASE 6 |>.wr BED_STATE.HOME 1
      |>.wr RES_T_HOME.TICKS (s.tick - s.res.trigTick)
    let s := (s.raiseIf (decide (0 < s.rd RES_LOST.SETTS + s.rd RES_FLOST.SETTS)) 698).bootRecord.releaseSaves
    s.openVia s.enabledSet
  else s

/-! ### Releases that a save has fenced (R324) -/

/-- Extents of a face without a pool block. -/
def dropPool (x : Nat) (e : Extent) : List Extent :=
  if !e.pool.contains x then [e]
  else
    let i := e.pool.idxOf x
    (if 0 < i then [{ e with pool := e.pool.take i }] else []) ++
      (if i + 1 < e.pool.length then [{ e with block := e.block + i + 1, pool := e.pool.drop (i + 1) }] else [])

/-- A slab whose image has RELQ, and not RETIRE, was under release: every sett of it is Zero, it is unowned and its block granted to none
(R122, R324). -/
def State.finishRelease (s : State) (i : Nat) : State :=
  let s := s.forEach ((List.range 64).map (fun b => i * 64 + b)) (fun s k => ((s.engineZero k).clearDirty k).setLoc k 0)
  let s := ((((s.setLock i 14 false).setLock i 18 false).setOwner i 7).setLock i 16 false)
  match s.slabBlock i with
  | none => s
  | some x =>
    if SMap.get 7 x s.slb.grants = 7 then s
    else
      let s := { s with slb := { s.slb with grants := SMap.put 7 x 7 s.slb.grants } }
      s.forEach faces (fun s f => s.setPort f { s.port f with extents := (s.port f).extents.flatMap (dropPool x) })

/-- Releases of slabs whose image has RELQ are finished before a face opens (R324). -/
def State.finishReleases (s : State) : State :=
  s.forEach ((s.slb.slabs.filter (fun p => p.2.relq && !p.2.retire)).map (fun p => p.1)) (fun s i => s.finishRelease i)

/-! ### Merging a save's records at a warm resume (R275) -/

/-- A warm resume's merge: the records are placed, and setts with a valid SAVE record turn Clean (R264, R265, R275). -/
def State.mergeWarm (s : State) (seq : Nat) : State :=
  let s := match s.saves.find? (fun v => v.seq == seq) with
    | some v => s.countDeviations v s.slb.image s.save.vol [] false
    | none => s
  s.forEach (s.saveRecs seq []) (fun s p => s.when (s.dirty p.2) (fun s => (s.setLoc p.2 (BitVec.ofNat 32 p.1)).clearDirty p.2))

/-! ### The end of a save (R137, R203) -/

/-- The energy that left both packs from the trigger to the end of the save: the end of bench-down, or else of step 8 (R137). -/
def State.saveDebit (s : State) : Nat :=
  let d := s.lgr.packA.saveDebit + s.lgr.packB.saveDebit
  if s.save.down then d else s.save.spent.getD d

/-- The ledger's figures of a save; OVERCOST sets when a complete one exceeds its modelled cost (R137). The energy is rounded down, to
whole joules to be shown and to whole nanojoules to be compared (DESIGN CHOICE 157). -/
def State.lastSave (s : State) : State :=
  let d := s.saveDebit
  let n := if s.save.short then 0 else s.rd HAUL_SAVE_DONE.SETTS
  let big := decide (s.rd HAUL_SAVE_STAT.END = 0) && decide (s.sv LEDGER.E_FIXED * 1000000 + n * s.sv LEDGER.E_SETT
    < d * 614400 * 1000 / 16777216)
  let s := (s.wr LGR_LASTSAVE_N.SETTS n).wr LGR_LASTSAVE_E.JOULES (min (joules d) 16777215)
  s.when big (fun s => (s.wr LGR_LASTSAVE_X.OVERCOST 1).raise 582)

/-- The Core log's SAVE record (R534). -/
def State.saveRecord (s : State) : State :=
  let w (f : Fld) : Nat := (s.word f.addr).toNat
  s.formRec 5 0 [w HAUL_SAVE_STAT.STEP, w HAUL_SAVE_SEQ.SEQ, w HAUL_SAVE_DIRTY.SETTS, w HAUL_SAVE_DONE.SETTS,
    w HAUL_SAVE_MISS.SETTS, w HAUL_SAVE_TIME.TICKS, w HAUL_SAVE_DCH_LO.LOST, w HAUL_SAVE_DCH_HI.LOST, w HAUL_SAVE_NCH0.LOST,
    w HAUL_SAVE_NCH1.LOST, w HAUL_SAVE_NCH2.LOST, w LGR_LASTSAVE_N.SETTS, w LGR_LASTSAVE_E.JOULES,
    w LGR_LASTSAVE_X.OVERCOST]

/-- A save is over: the step reads 0, EV697 is raised for an END other than 0, and the Core log takes its record (R137, R510,
R534). -/
def State.saveOver (s : State) : State :=
  let s := (s.wr HAUL_SAVE_STAT.STEP 0).lastSave
  let s := { s with save := { s.save with down := false, anchor := none } }
  (s.raiseIf (s.rd HAUL_SAVE_STAT.END != 0) 697).saveRecord

/-! ### Warm resume (R202, R275) -/

/-- DRAM leaves self-refresh. -/
def State.dramWake (s : State) : State :=
  s.forEach (List.range 36) (fun s c => s.chanUp c)

/-- NAND engines leave pSLC. -/
def State.pslc (s : State) (on : Bool) : State :=
  s.forEach ((List.range 72).filter (fun n => !on || s.groupOn (chanGroup n))) (fun s n => s.wrB (NCH_STATUS.PSLC n) on)

/-- Jobs go on; a migration goes on (R308, R380). -/
def State.unfence (s : State) : State :=
  let m := s.dch.mig.map (fun m => { m with paused := false })
  let s := { s with dch := { s.dch with mig := m } }
  s.wr JOB_STATUS.FENCED 0

/-- The set of faces that were open before the fence (R275). -/
def State.wasOpenSet (s : State) : Nat := faces.foldl (fun m f => if (s.port f).wasOpen then m + 2 ^ f else m) 0

/-- After a warm resume a sled that was paired, or was being resilvered, waits for its twin as at a restore, and a survivor serves
alone again (R452, R455; DEDUCED 23). -/
def State.galResume (s : State) : State :=
  let m := s.galMode
  let s := { s with gal := { s.gal with hello := [false, false], sent := [], fwds := [], joinStep := 0 } }
  if m = modePaired ∨ m = modeRslvDst ∨ m = modeJoining then
    ({ s with gal := { s.gal with joinAt := s.tick + 1 } }).wr GAL_STATUS.MODE modeJoining
  else if m = modeRslvSrc then s.wr GAL_STATUS.MODE modeSingle
  else s

/-- Steps 5 and 6 of a warm resume: the OPEN anchor, and behind it the port islands and the faces that were open; with no face to open
the islands power up at once, and the anchor comes with the first face (R196, R275). -/
def State.resumeOpen (s : State) : State :=
  let s := { s with res := { s.res with anchored := false } }
  if s.wasOpenSet = 0 ∨ s.galCloses then s.portsUp else s.openVia s.wasOpenSet

/-- A warm resume (R275). -/
def State.warmResume (s : State) : State :=
  let s := s.galResume
  let seq := s.save.session
  let home := s.rd RES_UNREST.SLABS == 0 && s.rd RES_FETCHING.SLABS == 0
  let s := (((s.dramWake.mergeWarm seq).finishReleases).pslc false).coreIslands true
  let s := s.setChip (if home then .opened else .restoring)
  let s := s |>.wr RES_STATUS.CASE 5 |>.wr RES_STATUS.PHASE (if home then 6 else 5) |>.wr HAUL_SAVE_STAT.RESUMED 1
  let s := { s with res := { s.res with filling := !home } }
  s.resumeOpen.unfence

end Sys2Proof.Machine
end

