-- ==== Sys2Proof/Machine/SaveFx.lean ====
section
/-! DEFINITION. The save after its trigger: drain, slab images, anchors, carve-out, walk, manifest, self-refresh and end
(chapter 07). -/

namespace Sys2Proof.Machine

/-- The step of R192 that runs. -/
def State.saveStep (s : State) : Nat := s.rd HAUL_SAVE_STAT.STEP

/-- A save is in a step. -/
def State.inStep (s : State) (n : Nat) : Bool := s.chip == Chip.save && s.saveStep == n

/-! ### Commands and step 2 -/

/-- HAUL_SAVE_CMD (R190, R203, R204): the register is reached while the hub base has power. -/
def State.doSaveCmd (s : State) (off : Bool) : State := if s.hubOn then s.saveTrigger trigCmd off else s

/-- Writes of a port that were accepted and not looked up: those to Dirty setts drain, the others are discarded (R401). -/
def State.drainLate (s : State) (p : Nat) : State :=
  s.forEach (s.port p).wbuf (fun s e =>
    if e.wait == .admitted || s.dirty e.sett then s.drainWrite p e else s.discard p (fun x => x.tag == e.tag))

/-- In-flight hauls whose map update has begun finish; the others leave the table with their dirty bits set, and the programs of
their stripes run to their end (R193). -/
def State.settleHauls (s : State) : State :=
  let s := s.endMaps
  s.forEach s.slb.ift (fun s h => s.abortHaul h.sett)

/-- Writes of the Gallery and of jobs that the fence kept are looked up: those to Dirty setts are made, the others discarded (R192,
R401). -/
def State.drainQueues (s : State) : State :=
  let make (s : State) (k l : Nat) (d : Line) (m : BitVec 64) (p : Bool) : State :=
    if s.dirty k then ((s.settle k).setRewr k).engineWrite k l d m p else s
  let s := s.forEach s.gal.held (fun s h => make s h.sett h.line h.data h.mask h.poison)
  let s := s.forEach s.adm.jobq (fun s j => make s j.sett j.line j.data j.mask j.poison)
  let s := { s with gal := { s.gal with held := [] } }
  { s with adm := { s.adm with jobq := [] } }

/-- SAVE_DRAIN: step 2 (R192, R193, R378, R401). -/
def State.doSaveDrain (s : State) : State :=
  if s.inStep 2 then
    let s := (s.forEach faces (fun s p => s.drainLate p)).drainQueues.settleHauls
    let s := { s with save := { s.save with fdirty := faces.map (fun f => s.rd (SLB_FDIRTY.SETTS f)), ctx := s.ringCopy } }
    (s.wr HAUL_SAVE_DIRTY.SETTS (s.rd ADM_DIRTY.SETTS)).wr HAUL_SAVE_STAT.STEP (if s.save.short then 8 else 3)
  else s

/-- SAVE_SLAB_IMAGE: step 3 (R92, R192, R535). -/
def State.doSlabImage (s : State) : State :=
  if s.inStep 3 then
    let s := { s with slb := { s.slb with image := s.slb.slabs } }
    let s := { s with save := { s.save with
        aggs := s.clg.live
        staging := s.clg.staging
        numbers := s.clg.forming.map LogRec.seq } }
    s.portsDown.wr HAUL_SAVE_STAT.STEP 4
  else s

/-! ### Step 4 -/

/-- A wordline that waits is filled with pads, which a save does not charge (R169, R213). -/
def State.padFree (s : State) (g : Nat) : State :=
  let a := s.adm
  let t := s.padWordline g
  { t with adm := a } |>.wr ADM_WEAR_SPENT.MIB (s.rd ADM_WEAR_SPENT.MIB) |>.wr ADM_WEAR_HAUL.MIB (s.rd ADM_WEAR_HAUL.MIB)
    |>.wr ADM_STATUS.WEAR_OVER (s.rd ADM_STATUS.WEAR_OVER)

/-- Running and suspended erases end with Reset: their blocks are UNSETTLED and want a new intent (R243). -/
def State.endErases (s : State) : State :=
  let l := s.stk.intents.filter (fun i => i.st == 1)
  let s := s.forEach l (fun s i =>
    if i.lode then
      let s := s.forEach (s.lodeSlots i.group i.num) (fun s b => s.unsettle b.1 b.2.1 b.2.2)
      s.setLode i.group i.num { s.lode i.group i.num with st := lodeReclaim }
    else s.unsettle i.channel i.target i.num)
  let s := { s with stk := { s.stk with intents := s.stk.intents.filter (fun i => i.st != 1), dies := [], patrolRead := [] } }
  s.forEach (List.range 72) (fun s n => s.wr (NCH_STATUS.SUSPENDED n) 0)

/-- SAVE_PSLC_SWITCH: step 4 (R192, R196, R213, R243): programs in flight finish, erases end, the engines switch to pSLC, and
the START anchor is programmed. -/
def State.doPslcSwitch (s : State) : State :=
  if s.inStep 4 && s.save.anchor.isNone && s.clg.phase == 0 then
    let s := s.finishActivate.forEach groups (fun s g => s.padFree g)
    let s := (s.forEach s.haul.stripes (fun s st => s.putStripe st)).updMoves
    let s := (s.endErases.coreIslands true).pslc true
    let s := { s with save := { s.save with sumpStart := s.heads } }
    s.beginAnchor 2
  else s

/-! ### Anchors (R196) -/

/-- What follows a written anchor. -/
def State.anchorDone (s : State) (a : Anchor) : State :=
  let s := { s with save := { s.save with anchor := none } }
  match a.phase with
  | 1 =>
    let m := s.save.openAfter
    let s := { s with save := { s.save with session := a.seq, openAfter := 0 } }
    (s.when (s.rd RES_STATUS.CASE == 5) State.portsUp).openSet m
  | 2 => s.when (s.inStep 4) (fun s => s.wr HAUL_SAVE_STAT.STEP 5)
  | _ => s.when (s.inStep 5) (fun s => s.wr HAUL_SAVE_STAT.STEP 6)

/-- The page of the anchor area that is programmed next: a block is not erased for it while it holds the anchor with the highest SEQ; the
area then goes on with the block behind (R196, R217). -/
def State.anchorPage (s : State) : Nat :=
  let p := s.stk.apage
  let held := s.newestAnchor.any (fun a => s.bootPageBlock bootAnchors a.page == s.bootPageBlock bootAnchors p)
  if p % s.bootPages = 0 ∧ held then (p + s.bootPages) % ((bootArea bootAnchors).2 * s.bootPages) else p

/-- With the first page of a block the block is erased on a copy, and that copy of its anchors is gone: whether the copy may be programmed
(R217, R232, R233). -/
def State.anchorErase (s : State) (copy p : Nat) : Bool × State :=
  let b := s.bootPageBlock bootAnchors p
  if p % s.bootPages ≠ 0 then (true, s)
  else
    let e := s.bootErase copy b
    let lose (a : Anchor) : Anchor :=
      if s.bootPageBlock bootAnchors a.page = b then (if copy = 0 then { a with ok0 := false, blank := true } else { a with ok36 := false, blank := true }) else a
    if e.1 then (true, { s with stk := { s.stk with anchors := (s.stk.anchors.map lose).filter (fun a => a.ok0 || a.ok36) } }) else e

/-- ANCHOR_PROGRAMMED (R196, R242): N00 first, then N36; the anchor counts as written when both have reported success, and one
that has not is programmed again in the next free page. A failure is one of the program, or of the erase before it (R217). -/
def State.doAnchor (s : State) (ok0 ok36 : Bool) : State :=
  match s.save.anchor with
  | none => s
  | some a =>
    if !s.bootFree then s
    else
      let p := s.anchorPage
      let b := s.bootPageBlock bootAnchors p
      let e0 := s.anchorErase 0 p
      let w0 := e0.1 && e0.2.bootWrote 0 b ok0
      let s := e0.2.when e0.1 (fun s => s.bootProgram b [(0, ok0)])
      let e36 := if w0 then s.anchorErase 1 p else (false, s)
      let w36 := e36.1 && e36.2.bootWrote 1 b ok36
      let s := e36.2.when e36.1 (fun s => s.bootProgram b [(1, ok36)])
      let c := { a with ok0 := w0, ok36 := w36, page := p, blank := !(e36.1 && e36.2.bootWrote 1 b true) }
      let s := { s with stk := { s.stk with apage := s.bootPageNext bootAnchors p } }
      let s := if w0 then { s with stk := { s.stk with anchors := c :: s.stk.anchors } } else s
      if w36 then s.anchorDone c else s

/-! ### Step 5: the carve-out (R91, R195, R197) -/

/-- Write n stripes into a group's Sump band, lode by lode: the lodes that they fill. -/
def State.fillSump (s : State) (g : Nat) : Nat → Nat → List (Nat × Nat) → State × List (Nat × Nat)
  | 0, _, acc => (s, acc)
  | fuel + 1, n, acc =>
    if n = 0 ∨ !s.sumpRoom g then (s, acc)
    else
      let p := s.sumpPlace g
      let m := min n (s.sumpS g - p.2)
      let s := (s.lodeTake g p.1 m true (s.tick + 1)).sealFull g p.1
      let h := SMap.get 0 g s.stk.head + 2 * m
      let s := { s with stk := { s.stk with head := SMap.put 0 g (if h < s.sumpRecords g then h else 0) s.stk.head } }
      s.fillSump g fuel (n - m) (acc ++ [(g, p.1)])

/-- The groups that take the save's records. -/
def State.saveGroups (s : State) : List Nat := groups.filter (fun g => s.groupTakes g && s.sumpRoom g)

/-- Write a number of stripes, the groups in turn (R194). -/
def State.spread (s : State) (gs : List Nat) (n : Nat) : State :=
  let k := gs.length
  let r := (List.zip gs (List.range k)).foldl (fun (a : State × List (Nat × Nat)) x =>
    let m := n / k + (if x.2 < n % k then 1 else 0)
    let t := a.1.fillSump x.1 8192 m []
    (t.1, a.2 ++ t.2)) (s, s.save.lodes)
  { r.1 with save := { r.1.save with lodes := r.2.dedup } }

/-- Where a run of CARVE, MANIFEST or MARK records begins in the groups, and under which IVs (R185, R186). -/
def State.metaRun (s : State) (typ first count : Nat) (gs : List Nat) : MetaRun :=
  let k := s.metaSlot.getD 62
  { typ := typ
    first := first
    count := count
    groups := gs.map (fun g => (g, SMap.get 0 g s.stk.head, s.nextPseq g))
    key := k
    keyVal := s.slotKey k
    epoch := s.slotEpoch k
    ctr := s.slotCtr k }

/-- The group and record number of the i-th record of a run, two to a stripe, the groups in turn (R194, R219). -/
def State.runPlace (s : State) (r : MetaRun) (i : Nat) : Nat × Nat :=
  let k := Nat.max 1 r.groups.length
  let g := r.groups.getD (i / 2 % k) (0, 0, 0)
  (g.1, (g.2.1 + 2 * (i / 2 / k) + i % 2) % Nat.max 1 (s.sumpRecords g.1))

/-- PSEQ of the stripe that holds the i-th record of a run (R222). -/
def MetaRun.pseqOf (r : MetaRun) (i : Nat) : Nat :=
  let k := Nat.max 1 r.groups.length
  ((r.groups.getD (i / 2 % k) (0, 0, 0)).2.2 + i / 2 / k) % 4294967296

/-- A run of an odd number of records ends with a pad (R184). -/
def State.padRun (s : State) (r : MetaRun) : State :=
  if r.count % 2 = 0 then s
  else
    let q := s.runPlace r r.count
    let p := s.padRec
    match p.1 with
    | none => p.2
    | some x => p.2.putRec (locSump q.1 q.2) { x with pseq := r.pseqOf r.count }

/-- Write a run of records in groups, two to a stripe; their pages are encrypted under the device metadata key (R185, R194, R197). -/
def State.writeRun (s : State) (typ first count : Nat) (gs : List Nat) : MetaRun × State :=
  let r := s.metaRun typ first count gs
  let s := s.spread gs ((count + 1) / 2)
  let s := match s.metaSlot with
    | some k => s.countPages k (4 * count)
    | none => s
  (r, s.padRun r)

/-- Records of a run whose program failed: each is written again once, in a group's next free record; the run that this makes, and
whether one failed twice (R200, R250; DESIGN CHOICE 121). -/
def State.retryRun (s : State) (r : MetaRun) (failed : List RecFail) : State × List MetaRun × Bool :=
  failed.foldl (fun (x : State × List MetaRun × Bool) f =>
    if f.which < r.first ∨ r.first + r.count ≤ f.which then x
    else
      let p := x.1.runPlace r (f.which - r.first)
      let s := x.1.programFailed p.1 p.2 true f.chan
      let w := s.writeRun r.typ f.which 1 (if s.groupTakes p.1 && s.sumpRoom p.1 then [p.1] else s.saveGroups.take 1)
      if f.again then
        let q := w.2.runPlace w.1 0
        (w.2.programFailed q.1 q.2 true f.chan, x.2.1, true)
      else (w.2, x.2.1 ++ [w.1], x.2.2)) (s, [], false)

/-- The sett and line of a carve-out line (R91, R109). -/
def carveLine (c l : Nat) : Nat × Nat := (c * 4194304 + 4193280 + l / 1024, l % 1024)

/-- Carve-out slabs, as channel and slab of the carve-out, that lie on a dead rank (R91, R310). -/
def State.deadCarve (s : State) : List (Nat × Nat) :=
  ((List.range 36).flatMap (fun c => (List.range 16).map (fun n => (c, n)))).filter (fun (x : Nat × Nat) => s.onDead (x.1 * 65536 + 65520 + x.2))

/-- A line of a channel's carve-out was poison when its record read it (R312). -/
def Carve.lostLine (c : Carve) (ch l : Nat) : Bool := c.bad.contains (ch, l) || c.dead.contains (ch, l / 65536)

/-- The slab-image entry of a slab, or part of it, is unknown (R91, R312). -/
def Carve.lostEntry (c : Carve) (i : Nat) : Bool :=
  let o := 0x2100000 + i % 65536 * 12
  c.lostLine (slabChan i) (o / 64) || c.lostLine (slabChan i) ((o + 11) / 64)

/-- The location map entry of a sett, or its slab-image entry, is unknown (R312). -/
def Carve.isUnknown (c : Carve) (k : Nat) : Bool := c.lostLine (settChan k) (k % 4194304 / 16) || c.lostEntry (settSlab k)

/-- Rings whose contexts, or saved latches, lie in lost lines (R298, R378, R381; entry 138). -/
def Carve.lostRings (c : Carve) : List Nat :=
  let bad := c.bad.flatMap (fun (x : Nat × Nat) =>
    let o := x.2 * 64
    if 0x10E4000 ≤ o ∧ o < 0x1100000 then (List.range 16).map (fun i => x.1 + 36 * ((o - 0x10E4000) / 4 + i)) else lineRings x.1 o)
  let dead := (c.dead.filter (fun x => x.2 == 4)).flatMap (fun (x : Nat × Nat) => (List.range 7282).map (fun i => x.1 + 36 * i))
  (bad ++ dead).filter (fun r => decide (r < 262144))

/-- What a restore knows of the carve-outs: entries in lost lines are dropped, and rings in them are reset (R298, R312). -/
def Carve.known (c : Carve) : Carve :=
  { c with
    lmap := c.lmap.filter (fun p => !c.isUnknown p.1)
    image := c.image.filter (fun p => !c.lostEntry p.1)
    ctx := c.ctx.lose c.lostRings }

/-- The carve-outs' contents as the CARVE records hold them (R91, R195, R312, R335, R376, R451, R535). -/
def State.carveOf (s : State) (bad : List (Nat × Nat)) (dropped : Bool) : Carve :=
  { seq := s.save.session
    lmap := s.slb.lmap
    image := s.slb.image
    blks := s.stk.blks
    remaps := s.stk.remaps
    jseq := s.stk.jseq
    poison := faces.map (fun f => (s.port f).poison)
    ovf := faces.map (fun f => ((s.port f).poisonOvf, (s.port f).poisonOvfTick))
    ctx := s.save.ctx
    lines := s.gal.lines
    aggs := s.save.aggs
    staging := s.save.staging
    numbers := s.save.numbers
    bad := bad
    dead := s.deadCarve
    dropped := dropped }

/-- The lines of the carve-outs that the save's read finds uncorrectable: those that the sender names, and all of a dead rank's slabs. They
are taken from the last back, so that what stands before a lost record keeps its place (R298, R310). -/
def State.carveBad (s : State) (bad : List (Nat × Nat)) : List (Nat × Nat) :=
  let dead := s.deadCarve
  (dead.flatMap (fun (x : Nat × Nat) => (List.range 65536).map (fun l => (x.1, x.2 * 65536 + l))) ++
    bad.filter (fun x => !dead.contains (x.1, x.2 / 65536))).reverse

/-- Setts of all carve-outs (R91). -/
def carveSetts : Nat := 36864

/-- Where a pair's results differ the page is computed again on the next pair, once; `again`: those differ too (R200, R413). -/
def State.pairDiffers (s : State) (again : Bool) : State :=
  let p := s.nextPair
  let s := p.2.mismatch p.1
  if again then
    let q := s.nextPair
    q.2.mismatch q.1
  else s

/-- SAVE_CARVE_DONE: step 5 (R192, R200): the carve-out's lines are read, 36,864 CARVE records are written, then the META_DONE
anchor. -/
def State.doCarveDone (s : State) (inp : CarveIn) : State :=
  if s.inStep 5 && s.save.anchor.isNone then
    let s := s.forEach (s.carveBad inp.bad) (fun s x => (s.readLine (carveLine x.1 x.2).1 (carveLine x.1 x.2).2 3).1)
    let s := { s with save := { s.save with carve := s.heads } }
    let miss := inp.mismatch.filter (fun x => decide (x.1 < carveSetts))
    let s := s.forEach miss (fun s x => s.pairDiffers x.2)
    let w := s.writeRun 4 0 carveSetts s.saveGroups
    let f := w.2.retryRun w.1 inp.failed
    let s := f.1
    let v : SaveSet :=
      { seq := s.save.session
        carve := some (s.carveOf inp.bad (f.2.2 || miss.any (fun x => x.2)))
        runs := w.1 :: f.2.1
        manifest := none
        mark := false
        released := false
        lodes := s.save.lodes }
    let s := { s with stk := { s.stk with jsaved := s.stk.jseq } }
    ({ s with saves := v :: s.saves }).beginAnchor 3
  else s

/-! ### Step 6: the walk (R194, R195, R200, R264) -/

/-- A record of a sett encrypted from DRAM under a slot (R185, R186, R246). -/
def State.settRec (s : State) (typ k slot : Nat) : Rec × State :=
  let e := s.encPages slot 4
  let r : Rec :=
    { typ := typ
      sett := k
      seq := s.save.session
      key := slot
      ivs := e.1
      pseq := 0
      keyVal := s.slotKey slot
      data := s.settData k
      poison := s.settPoison k }
  (r, e.2)

/-- Note a SAVE record's number in its group (R197). -/
def State.noteSaveRec (s : State) (g r : Nat) : State :=
  let f := if SMap.get 0 g s.save.first = 0 then SMap.put 0 g (r + 1) s.save.first else s.save.first
  { s with save := { s.save with first := f, last := SMap.put 0 g (r + 1) s.save.last } }

/-- A SAVE record is programmed at a record number, with its stripe's PSEQ (R195, R197, R222). -/
def State.putSaveRec (s : State) (g n : Nat) (r : Rec) : State :=
  let q := (s.nextPseq g + 4294967295) % 4294967296
  ((s.putRec (locSump g n) { r with pseq := q }).noteSaveRec g n).addWrap HAUL_SAVE_DONE.SETTS 1

/-- A pad fills the half of a stripe of the walk (R184, R194). -/
def State.putPad (s : State) (g n : Nat) : State :=
  let q := (s.nextPseq g + 4294967295) % 4294967296
  let p := s.padRec
  let s := { p.2 with save := { p.2.save with pads := p.2.save.pads + 1 } }
  match p.1 with
  | none => s
  | some r => s.putRec (locSump g n) { r with pseq := q }

/-- The next group in turn with a free Sump record. -/
def State.nextSaveGroup (s : State) : Option Nat :=
  ((List.range 8).map (fun i => (s.haul.group + i) % 8)).find? (fun g => s.groupTakes g && s.sumpRoom g)

/-- Take a stripe of a group for the save (R195). -/
def State.takeSave (s : State) (g : Nat) : Nat × State :=
  let lode := (s.sumpPlace g).1
  let t := s.takeSump g (s.tick + 1)
  let s := t.2.sealFull g lode
  (t.1, { s with save := { s.save with lodes := (s.save.lodes ++ [(g, lode)]).dedup } })

/-- A record whose program failed is written again whole at the group's next free record, with a pad beside it, once; after a second
failure, or with no free record, the sett is dropped (R200, R250; DESIGN CHOICE 121). -/
def State.rewriteSave (s : State) (g n : Nat) (r : Rec) (f : RecFail) : State :=
  let s := s.programFailed g n true f.chan
  let h := if s.groupTakes g && s.sumpRoom g then some g else s.nextSaveGroup
  match h with
  | none => s
  | some h =>
    let t := s.takeSave h
    let s := t.2.putPad h (t.1 + 1)
    if f.again then s.programFailed h t.1 true f.chan else s.putSaveRec h t.1 r

/-- Write one sett's record at a record number (R185, R194, R195, R200). -/
def State.writeSaveRec (s : State) (failed : List RecFail) (k g n : Nat) : State :=
  match s.settSlot k with
  | none => s
  | some slot =>
    let r := s.settRec 3 k slot
    match failed.find? (fun f => f.which == k) with
    | none => r.2.putSaveRec g n r.1
    | some f => r.2.rewriteSave g n r.1 f

/-- One stripe of the walk: two setts, or a sett and a pad (R194). -/
def State.walkStripe (s : State) (failed : List RecFail) (g a : Nat) (b : Option Nat) : State :=
  let s := { s with haul := { s.haul with group := (g + 1) % 8 } }
  let t := s.takeSave g
  let s := match b with
    | none => t.2.putPad g (t.1 + 1)
    | some _ => t.2
  let s := s.writeSaveRec failed a g t.1
  match b with
  | none => s
  | some k => s.writeSaveRec failed k g (t.1 + 1)

/-- The walk over the setts it writes; when no group has a free record it stops with SUMP_FULL (R200). -/
def State.walk (s : State) (failed : List RecFail) : List Nat → State
  | [] => s
  | [a] =>
    match s.nextSaveGroup with
    | none => s.wr HAUL_SAVE_STAT.END endSumpFull
    | some g => s.walkStripe failed g a none
  | a :: b :: l =>
    match s.nextSaveGroup with
    | none => s.wr HAUL_SAVE_STAT.END endSumpFull
    | some g => (s.walkStripe failed g a (some b)).walk failed l

/-- A sett that the walk can write: its face's pair has an ACTIVE slot that still encrypts (R200, R423, R426). -/
def State.walkable (s : State) (k : Nat) : Bool :=
  match s.settSlot k with
  | none => false
  | some slot => s.mayEncrypt slot true

/-- Set the bits of channels whose supply failed during the walk (R200). -/
def State.walkLost (s : State) (inp : WalkIn) : State :=
  let s := s.forEach inp.dch (fun s x =>
    if x.1 < 32 then s.setBit HAUL_SAVE_DCH_LO.LOST x.1 true else s.setBit HAUL_SAVE_DCH_HI.LOST (x.1 - 32) true)
  s.forEach inp.nch (fun s n => if n < 32 then s.setBit HAUL_SAVE_NCH0.LOST n true
    else if n < 64 then s.setBit HAUL_SAVE_NCH1.LOST (n - 32) true else s.setBit HAUL_SAVE_NCH2.LOST (n - 64) true)

/-- The setts that the walk reads, in its order: those of a DRAM channel whose supply fails are left from then on (R194, R200). -/
def State.walkReads (s : State) (inp : WalkIn) : List Nat :=
  let order := walkOrder s.slb.image s.save.vol
  ((List.zip order (List.range order.length)).filter (fun x =>
    !inp.dch.any (fun d => d.1 == settChan x.1 && decide (d.2 ≤ x.2)))).map (fun x => x.1)

/-- The pairs' results that differ in the walk (R200, R413). -/
def State.walkMismatch (s : State) (inp : WalkIn) (todo : List Nat) : State :=
  s.forEach (inp.mismatch.filter (fun x => todo.contains x.1)) (fun s x => s.pairDiffers x.2)

/-- The setts that the walk writes: not those whose page was miscomputed twice, nor those without a slot; once END reads ENERGY, only
the stripes already issued (R199, R200). -/
def State.walkWrites (s : State) (inp : WalkIn) (todo : List Nat) : List Nat :=
  let l := todo.filter (fun k => s.walkable k && !inp.mismatch.contains (k, true))
  if s.rd HAUL_SAVE_STAT.END = endEnergy then l.take (2 * inp.issued) else l

/-- Lines that the walk reads and finds uncorrectable: those that the sender names, and every line of a sett of a dead rank (R298, R310). -/
def State.walkBad (s : State) (inp : WalkIn) (todo : List Nat) : List Nat :=
  let dead (k : Nat) : Bool := s.onDead (settSlab k)
  inp.bad.filter (fun x => todo.contains (x / 1024) && !dead (x / 1024)) ++
    (todo.filter dead).flatMap (fun k => (List.range 1024).map (fun l => k * 1024 + l))

/-- SAVE_WALK_END: step 6 (R194, R195, R199, R200, R298). -/
def State.doWalkEnd (s : State) (inp : WalkIn) : State :=
  if s.inStep 6 then
    let todo := s.walkReads inp
    let s := s.walkLost inp
    let s := s.forEach (s.walkBad inp todo) (fun s x => (s.readLine (x / 1024) (x % 1024) 3).1)
    let s := ({ s with haul := { s.haul with group := 0 } }).walkMismatch inp todo
    let s := s.walk inp.failed (s.walkWrites inp todo)
    let s := { s with save := { s.save with walked := true, walkTick := s.tick } }
    s |>.wr HAUL_SAVE_MISS.SETTS (s.rd HAUL_SAVE_DIRTY.SETTS - s.rd HAUL_SAVE_DONE.SETTS)
      |>.wr HAUL_SAVE_TIME.TICKS (s.tick - s.save.trigTick)
      |>.wr HAUL_SAVE_STAT.STEP (if s.rd HAUL_SAVE_STAT.END = endEnergy then 8 else 7)
  else s

/-! ### Steps 7 to 9 -/

/-- HEAT of the slabs as the images hold it (R197). -/
def imageHeat (image : SMap SlabE) : SMap Nat := (image.filter (fun p => p.2.heat != 0)).map (fun p => (p.1, p.2.heat))

/-- The manifest of the save (R197). -/
def State.manifestOf (s : State) : Manifest :=
  { seq := s.save.session
    trig := s.rd HAUL_SAVE_STAT.TRIGGER
    tickTrig := s.save.trigTick
    tickEnd := s.save.walkTick
    dirty := s.rd HAUL_SAVE_DIRTY.SETTS
    records := s.rd HAUL_SAVE_DONE.SETTS
    pads := s.save.pads
    endCode := s.rd HAUL_SAVE_STAT.END
    vol := s.save.vol
    first := s.save.first
    last := s.save.last
    carve := s.save.carve
    fdirty := s.save.fdirty
    heat := imageHeat s.slb.image }

/-- Keep the manifest with its save on NAND. -/
def State.putManifest (s : State) (mark whole : Bool) (runs : List MetaRun) : State :=
  let m := if whole then some s.manifestOf else none
  { s with saves := s.saves.map (fun v =>
      if v.seq = s.save.session then { v with manifest := m, mark := mark, lodes := s.save.lodes, runs := v.runs ++ runs } else v) }

/-- Input power is back and nothing asks for another end than a warm resume: no short save, no rail failure, no off request and no
demand of Hold that came during the save (R200, R201, R480, R523; DEDUCED 99). -/
def State.resumes (s : State) : Bool :=
  s.save.powerBack && !s.save.short && !s.save.railCut && !s.seq.offPend && !s.seq.latchSave && !s.flt.holdAfter

/-- A save whose walk and manifest are over goes on to step 8, or resumes where input power is back (R201). -/
def State.afterManifest (s : State) : State :=
  if s.resumes then s.saveOver.warmResume else s.wr HAUL_SAVE_STAT.STEP 8

/-- Records 0 to 36 of the manifest, and where all of them stand and no sett was dropped the MARK record (R197, R198, R200): the runs,
whether a record of 0 to 36 could not be programmed, and whether the mark stands. A record that was miscomputed twice stands no more than
one whose program failed twice. -/
def State.writeManifest (s : State) (failed : List RecFail) (miss : List (Nat × Bool)) : State × List MetaRun × Bool × Bool :=
  let s := s.forEach (miss.filter (fun x => decide (x.1 < 37))) (fun s x => s.pairDiffers x.2)
  let w := s.writeRun 5 0 37 s.saveGroups
  let f := w.2.retryRun w.1 (failed.filter (fun x => decide (x.which < 37)))
  let all := s.rd HAUL_SAVE_DONE.SETTS == s.rd HAUL_SAVE_DIRTY.SETTS
  let lost := f.2.2 || miss.any (fun x => x.2 && decide (x.1 < 37))
  if lost || !all then (f.1, w.1 :: f.2.1, lost, false)
  else
    let t := f.1.forEach (miss.filter (fun x => x.1 == 37)) (fun s x => s.pairDiffers x.2)
    if miss.contains (37, true) then (t, w.1 :: f.2.1, false, false)
    else
      let m := t.writeRun 6 37 1 (t.saveGroups.take 1)
      let g := m.2.retryRun m.1 failed
      (g.1, (w.1 :: f.2.1) ++ (m.1 :: g.2.1), false, !g.2.2)

/-- SAVE_MANIFEST_DONE: step 7 (R197, R198, R200): `failed` names the records of 0 to 37 whose program failed, `miss` those of which a
page's two cipher results differed, and whether they did again on the next pair. -/
def State.doManifest (s : State) (failed : List RecFail) (miss : List (Nat × Bool)) : State :=
  if s.inStep 7 then
    let all := s.rd HAUL_SAVE_DONE.SETTS == s.rd HAUL_SAVE_DIRTY.SETTS
    let m := s.writeManifest failed miss
    let lost := m.2.2.1
    let s := m.1
    let e := s.rd HAUL_SAVE_STAT.END
    let s := if e ≠ 0 then s else if !all then s.wr HAUL_SAVE_STAT.END endDropped
      else if lost then s.wr HAUL_SAVE_STAT.END endManifest else s
    let s := s.putManifest m.2.2.2 (!lost) m.2.1
    (s.when m.2.2.2 (fun s => s.wr HAUL_SAVE_TIME.TICKS (s.tick - s.save.trigTick))).afterManifest
  else s

/-- SAVE_SELF_REFRESH_DONE: step 8 (R192, R201). A short save's power return waits for its end. -/
def State.doSelfRefreshDone (s : State) : State :=
  if s.inStep 8 then
    let s := s.dramSleep
    let d := s.lgr.packA.saveDebit + s.lgr.packB.saveDebit
    let s := { s with save := { s.save with spent := some d } }
    if s.resumes then s.saveOver.warmResume else s.wr HAUL_SAVE_STAT.STEP 9
  else s

/-- NAND engines and cipher pairs power down with the port islands in Parked and Hold (R499). -/
def State.parkIslands (s : State) : State := (s.coreIslands false).portsDown

/-- Whether the save ends with the benches stepping down (R203, R480). -/
def State.endsDown (s : State) : Bool :=
  let t := s.rd HAUL_SAVE_STAT.TRIGGER
  t == trigPwr || t == trigRail || (t == trigCmd && (s.save.off || s.seq.offPend))

/-- The save ends in Hold; an off request remembered meanwhile then steps the benches down (R203, R480, R500, R523). -/
def State.endInHold (s : State) : State :=
  let off := s.seq.offPend
  let s := { s with seq := { s.seq with offPend := false } }
  let s := { s with flt := { s.flt with holdAfter := false } }
  (s.saveOver.parkIslands.inHold).when off (fun s => s.beginDown false false)

/-- Input power that came back during a short save counts as an on request once the benches step down: it is remembered one deep, unless
only an explicit ON may start the sled (R201, R478, R480). -/
def State.rememberOn (s : State) : State :=
  if s.save.short && s.save.powerBack && !s.on SEQ_STATUS.OFF_HELD && !s.on SEQ_STATUS.ON_PEND then (s.wr SEQ_STATUS.ON_PEND 1).raise 652
  else s

/-- SAVE_END: step 9 (R137, R200, R203, R480). -/
def State.doSaveEnd (s : State) : State :=
  if s.inStep 9 then
    if s.save.railCut || s.seq.latchSave then
      ({ s with save := { s.save with down := true } }).latchedShutdown
    else if s.endsDown then
      let s := { s with seq := { s.seq with offPend := false } }
      (({ s with save := { s.save with down := true } }).beginDown false false).rememberOn
    else if s.rd HAUL_SAVE_STAT.TRIGGER = trigHold ∨ s.flt.holdAfter then s.endInHold
    else (s.saveOver.parkIslands).setChip .parked
  else s

/-- The hub base has no power: its islands are OFF and its clocks stand, DRAM has lost its contents, and the Foreman cluster has
stopped (R87, R491, R499). -/
def State.hubDown (s : State) : State :=
  let s := s.portsDown
  let s := s.forEach (List.range 132) (fun s n => s.when (s.isl n != islOff) (fun s => s.force n false))
  let s := s.forEach (List.range 36) (fun s c => s.wr (DCH_STATUS.STATE c) 0)
  let s := s.forEach (List.range 72) (fun s n => s.wr (NCH_STATUS.STATE n) 0)
  let s := { s with dch := { s.dch with mem := [], poison := [] } }
  let s := { s with fwm := { s.fwm with running := false, alive := false, recovery := false, openCmds := [], waiting := [] } }
  let s := { s with clg := { s.clg with pend := [] } }
  s |>.wr CLK_STATUS.HUB_LOCK 0 |>.wr CLK_STATUS.FMN_LOCK 0 |>.wr CLK_STATUS.HOLDOVER 0 |>.wr FWM_WDT_STAT.LEFT 0

/-- B0 is reached: a save whose benches stepped down is over (R137, R203). -/
def State.reachBottom (s : State) : State :=
  let down := s.save.down
  let s := { s with flt := { s.flt with rst := none, holdAfter := false } }
  s.reachB0.hubDown.when down (fun s => s.saveOver)

end Sys2Proof.Machine
end

