-- ==== Sys2Proof/Machine/ResFx.lean ====
section
/-! DEFINITION. What the Restore block's commands and fetches do (chapter 09, with chapters 02 and 14). -/

namespace Sys2Proof.Machine

/-! ### Asking the twin (R450) -/

/-- A request to the twin for a whole sett, or with `line` = l + 1 for one line of it. -/
def State.askTwin (s : State) (k line : Nat) : State :=
  let f := (s.slab (settSlab k)).owner
  let t := s.gal.nextAsk
  let a : GalAsk :=
    { tag := t
      sett := k
      line := line
      got := 0 }
  let s := { s with gal := { s.gal with nextAsk := (t + 1) % 4294967296, asks := s.gal.asks ++ [a] } }
  if line = 0 then s.galSend 8 f 0 t k [] [] 0
  else s.galSend 8 f 1 t ((s.unmapLine f k (line - 1)).getD 0) [] [] 0

/-- The twin can be asked: the sleds are paired and a link is up (R448, R450). -/
def State.canAsk (s : State) : Bool := s.galMode == modePaired && s.galUp

/-- A request for a sett, or for a line of it, waits. -/
def State.asked (s : State) (k line : Nat) : Bool := s.gal.asks.any (fun a => a.sett == k && a.line == line)

/-! ### RES_CMD START (R258, R261 to R266) -/

/-- START is accepted: in Waking after training, or again after the watchdog has reset the Foreman cluster (R277, R278). -/
def State.startOk (s : State) : Bool :=
  (s.chip == Chip.waking && s.res.trained) || (s.chip == Chip.restoring && !s.res.rebuilt && !s.res.filling)

/-- The registers of a restore start at their reset values. -/
def State.resRegs (s : State) : State :=
  s |>.wr RES_STATUS.PHASE 1 |>.wr RES_STATUS.OPEN 0 |>.wr RES_STATUS.HOME 0 |>.wr BED_STATE.HOME 0 |>.wr RES_SEQ.SEQ 0
    |>.wr RES_UNREST.SLABS 0 |>.wr RES_FETCHING.SLABS 0 |>.wr RES_FILLED.SETTS 0 |>.wr RES_LOST.SETTS 0
    |>.wr RES_FLOST.SETTS 0 |>.wr RES_DEVIATE.COUNT 0 |>.wr RES_T_OPEN.TICKS 0 |>.wr RES_T_HOME.TICKS 0
    |>.wr RES_CTL.LEVEL 31 |>.wr RES_CMD_STATUS.RESULT 0 |>.wr RES_CMD_STATUS.BUSY 1 |>.wr RES_STATUS.SCAN 0

/-- What the merge works on starts empty: masks, slab words, maps and dirty counts (R121, R277). -/
def State.resClear (s : State) : State :=
  let s := { s with slb := { s.slb with slabs := [], ift := [], lmap := [], baseR := 0 } }
  let r := { ResSt.reset with trigTick := s.res.trigTick, trained := s.res.trained, noKeys := s.res.noKeys }
  let s := ({ s with res := r }).wr ADM_DIRTY.SETTS 0
  s.forEach faces (fun s f => (s.wr (SLB_FDIRTY.SETTS f) 0).setPort f { s.port f with lost := 0, holds := 0, poison := [], poisonOvf := false, poisonOvfTick := 0 })

/-- A CARVE record of a save is not there: none was written, or one could not be programmed (R200, R263). -/
def SaveSet.carveLost (v : SaveSet) : Bool :=
  match v.carve with
  | none => true
  | some c => c.dropped

/-- The anchor with the highest SEQ that the merge unit takes: it ignores a page whose other copy reads ERASED (R261). -/
def State.homeAnchor (s : State) : Option Anchor := s.stk.anchors.find? (fun a => !a.blank)

/-- The case of R261, with R187, R263 and R419: 0 FRESH, 1 COMPLETE, 2 CUT, 3 NO_META, 4 NO_SAVE. -/
def State.resCase (s : State) (inp : ResIn) : Nat :=
  if inp.anchorBad then 3
  else match s.homeAnchor with
    | none => 0
    | some a =>
      if s.res.noKeys || a.phase == 1 then 4
      else if a.phase == 2 then 3
      else match s.saves.find? (fun v => v.seq == a.seq) with
        | none => 3
        | some v =>
          if inp.carveBad || v.carveLost then 3
          else if v.mark && v.manifest.isSome && !inp.manBad && !inp.markBad then 1 else 2

/-- A CARVE record failed although the anchor said that the carve-out was complete (R263). -/
def State.carveFail (s : State) (inp : ResIn) : Bool :=
  !inp.anchorBad && !s.res.noKeys && (match s.homeAnchor with
    | some a => a.phase == 3 && (inp.carveBad || (s.saves.find? (fun v => v.seq == a.seq)).any SaveSet.carveLost)
    | none => false)

/-- Aggregators come back from the carve-out; staging only where its records are not valid in the log (R535, R540). -/
def State.loadAggs (s : State) (c : Carve) : State :=
  let valid := !c.numbers.isEmpty && c.numbers.all (fun n => (SMap.get none n s.clg.log).isSome)
  let join (s : State) (a : Agg) : State :=
    let l := s.agg a.idx
    s.setAgg { l with body := a.body.merge l.body, since := a.since, merged := a.merged }
  (s.forEach c.aggs join).when (!valid) (fun s => s.forEach c.staging (fun s a => s.mergeBack a))

/-- The poison tables come back, with their overflow flags (R38, R335; DEDUCED 149). -/
def State.loadPoison (s : State) (c : Carve) : State :=
  s.forEach faces (fun s f =>
    let o := c.ovf.getD f (false, 0)
    s.setPort f { s.port f with poison := c.poison.getD f [], poisonOvf := o.1, poisonOvfTick := o.2 })

/-- Block entries as the saved table holds them; states, erases and remaps stand as NAND and the journal give them (R229). -/
def mergeBlk (old new : Blk) : Blk :=
  { new with reads := old.reads, lv := old.lv, cwmax := old.cwmax, retries := old.retries }

/-- The saved Block Information Table is laid under what the journal says (R229). -/
def State.loadBlks (s : State) (old : SMap Blk) : State :=
  let keys := (s.stk.blks.map (fun p => p.1) ++ old.map (fun p => p.1)).dedup
  let m := keys.foldl (fun m k =>
    SMap.put Blk.fresh k (mergeBlk (SMap.get Blk.fresh k old) (SMap.get Blk.fresh k s.stk.blks)) m) []
  { s with stk := { s.stk with blks := m } }

/-- Records of the intent journal on NAND that are newer than a sequence number, oldest first (R226). -/
def State.journalAfter (s : State) (n : Nat) : List JRec := (s.stk.jrnl.reverse.filter (fun p => decide (n < p.jseq))).flatMap (fun p => p.recs)

/-- The REMAP record of a spare block (R227). -/
def JRec.remaps (r : JRec) (n t b slot : Nat) : Bool := r.typ == 5 && r.channel == n && r.target == t && r.num == b && r.slot == slot

/-- A remap is known after a restore: the saved table holds it, or a journal record that is newer (R229). -/
def remapKnown (saved : SMap Nat) (recs : List JRec) (p : Nat × Nat) : Bool :=
  let slot := p.1 % 1024
  SMap.get 0 p.1 saved == p.2
    || recs.any (fun r => r.remaps (9 * (p.1 / 8388608) + slot / 64) ((p.2 - 1) / 32768) ((p.2 - 1) % 32768) slot)

/-- Remaps that neither the saved table nor the journal holds are gone: the spare block serves no slot (R229). -/
def State.loadRemaps (s : State) (saved : SMap Nat) (recs : List JRec) : State :=
  let gone := s.stk.remaps.filter (fun p => !remapKnown saved recs p)
  let s := s.forEach gone (fun s (p : Nat × Nat) => s.leaveSlot (9 * (p.1 / 8388608) + p.1 % 1024 / 64) (p.1 / 1024 % 8192) (p.1 % 64 / 4) (p.1 % 4))
  { s with stk := { s.stk with remaps := s.stk.remaps.filter (remapKnown saved recs) } }

/-- INTENT records of a lode before the first record that a condition picks. -/
def intentsUpTo (recs : List JRec) (g n : Nat) (p : JRec → Bool) : Nat :=
  ((recs.takeWhile (fun r => !p r)).filter (fun r => r.typ == 1 && r.group == g && r.num == n)).length

/-- A block's entry as the whole journal gives its erase count: its last record's, else those of the lode's INTENT records while it filled
its slot (R227, R229). -/
def State.journalBlk (s : State) (recs : List JRec) (key : Nat) (e : Blk) : Blk :=
  let n := key / 262144
  let t := key / 32768 % 8
  let b := key % 32768
  let own := ((recs.reverse.find? (fun r => (r.typ == 3 || r.typ == 4) && r.channel == n && r.target == t && r.num == b)).map (fun r => r.erases)).getD 0
  let p := Nat.max 1 (s.sv NAND.PLANES)
  if e.slot = 0 then { e with erases := if s.blockServes n t b then own else Nat.max own (intentsUpTo recs (chanGroup n) (b / p)
    (fun r => r.typ == 5 && r.channel == n && r.slot == slotNum n t (b % p) && (s.blk n r.target r.num).slotLode == b / p)) }
  else { e with erases := own, slotBase := intentsUpTo recs (chanGroup n) e.slotLode (fun r => r.remaps n t b (e.slot - 1)) }

/-- A lode's state as the stamps of its pages give it (R222, R229). -/
def Lode.stamped (l : Lode) : Lode :=
  { l with
    st := if l.used = 0 then l.st else if l.st = lodeReclaim then lodeSealed else l.st
    refresh := false }

/-- The table is rebuilt: erase counts and remaps from the whole journal, states from the lode stamps; BAD stays BAD (R224, R229; DEDUCED
165). -/
def State.rebuildBit (s : State) : State :=
  let recs := s.journalAfter 0
  let s := s.loadRemaps [] recs
  let s := { s with stk := { s.stk with blks := (s.stk.blks.map (fun (p : Nat × Blk) => (p.1, s.journalBlk recs p.1 p.2))).filter (fun (p : Nat × Blk) => p.2 != Blk.fresh) } }
  let count (p : Nat × Lode) : Nat × Lode :=
    (p.1, { p.2.stamped with erases := intentsUpTo recs (p.1 / 8192) (p.1 % 8192) (fun _ => false) })
  { s with stk := { s.stk with lodes := (s.stk.lodes.map count).filter (fun (p : Nat × Lode) => p.2 != Lode.fresh) } }

/-- A slab's entry as the image and the manifest give it: no mask yet, RSTATE Resident until step 6, OWNER as the Survey load
and the grants set it, HEAT from the manifest, PIN clear (R113, R121, R197, R367). -/
def State.loadSlab (s : State) (i : Nat) (e : SlabE) (heat : Nat) : State :=
  let w := (((e.setField 3 2 0).setField 5 8 heat).setField 0 3 (s.slab i).owner).setField 14 1 0
  s.setSlab i ⟨0, w.word⟩

/-- A sett becomes Lost in the merge or the scan (R35, R36, R266). -/
def State.loseAtMerge (s : State) (k : Nat) : State :=
  let s := (s.setLoc k locLost).addSat RES_LOST.SETTS 1
  { s with res := { s.res with newLost := s.res.newLost ++ [k] } }

/-- Map entries of KIND 0b11 with another value than that of Lost are invalid: their setts are Lost (R108). -/
def State.loseInvalid (s : State) : State :=
  s.forEach (s.slb.lmap.filter (fun p => locKind p.2 == 3 && p.2 != locLost && s.visible (settSlab p.1))) (fun s p => s.loseAtMerge p.1)

/-- Step 2 and 3 of the rebuild: the carve-outs and HEAT (R258). -/
def State.loadCarve (s : State) (c : Carve) (m : Option Manifest) : State :=
  let s := { s with slb := { s.slb with lmap := c.lmap, image := c.image } }
  let s := ((s.loadPoison c).loadBlks c.blks).loadRemaps c.remaps (s.journalAfter c.jseq)
  let s := { s with job := { s.job with rings := c.ctx.rings, pins := [], cache := [], jobs := [], lost := c.ctx.lost, fenceDue := 63 } }
  let s := ({ s with gal := { s.gal with lines := c.lines } }).loadAggs c
  let h := (m.map (fun m => m.heat)).getD []
  (s.forEach c.image (fun s p => s.loadSlab p.1 p.2 (SMap.get 0 p.1 h))).loseInvalid

/-- Dirty setts that a slab image shows. -/
def imageDirty (image : SMap SlabE) : List Nat :=
  image.flatMap (fun p => ((List.range 64).filter (fun b => p.2.mask.getLsbD b)).map (fun b => p.1 * 64 + b))

/-- Setts that a valid HAUL or OVERHANG record names (R187, R312). -/
def State.hauled (s : State) (bad : List Nat) : List Nat :=
  s.stk.recs.filterMap (fun p => match p.2 with
    | some r => if (r.typ == 1 || r.typ == 2) && s.decrypts r && !bad.contains r.sett then some r.sett else none
    | none => none)

/-- Setts whose map entry or slab-image entry is unknown: Clean from the save's record, else Lost where a haul's record names them, else
Zero (R312). -/
def State.mergeUnknown (s : State) (c : Carve) (recs : List (Nat × Nat)) (hauled : List Nat) : State :=
  let lost (k : Nat) : Bool := c.isUnknown k && s.visible (settSlab k)
  let s := s.forEach (recs.reverse.filter (fun p => lost p.2)) (fun s p => s.setLoc p.2 (BitVec.ofNat 32 p.1))
  s.forEach (hauled.dedup.filter (fun k => lost k && !recs.any (fun p => p.2 == k))) (fun s k => s.loseAtMerge k)

/-- Step 4: the merge (R266, R312). -/
def State.merge (s : State) (seq : Nat) (c : Carve) (bad : List Nat) : State :=
  let recs := s.saveRecs seq bad
  let s := s.forEach ((imageDirty c.image).filter (fun k => s.visible (settSlab k) && !c.isUnknown k)) (fun s k =>
    match recs.find? (fun p => p.2 == k) with
    | some p => s.setLoc k (BitVec.ofNat 32 p.1)
    | none => s.loseAtMerge k)
  if c.bad.isEmpty && c.dead.isEmpty then s else s.mergeUnknown c recs (s.hauled bad)

/-! ### The cases -/

/-- The registers of the last save, recovered from its anchor and manifest (R205). -/
def State.recoverSave (s : State) (a : Anchor) (m : Option Manifest) : State :=
  let s := (s.wr HAUL_SAVE_STAT.TRIGGER a.trig).wr HAUL_SAVE_SEQ.SEQ a.seq
  match m with
  | none => s
  | some m =>
    s |>.wr HAUL_SAVE_DIRTY.SETTS m.dirty |>.wr HAUL_SAVE_DONE.SETTS m.records
      |>.wr HAUL_SAVE_MISS.SETTS (m.dirty - m.records) |>.wr HAUL_SAVE_TIME.TICKS (m.tickEnd - m.tickTrig)
      |>.wr HAUL_SAVE_STAT.END m.endCode

/-- COMPLETE and CUT: the save comes home (R261, R266). -/
def State.bringHome (s : State) (a : Anchor) (v : SaveSet) (saved : Carve) (inp : ResIn) : State :=
  let c := saved.known
  let m := if inp.manBad then none else v.manifest
  let whole := m.isSome && !inp.markBad && v.mark
  let s := (s.loadCarve c m).recoverSave a m
  let s := (s.merge a.seq c inp.badRecs).countDeviations v c.image a.vol inp.badRecs whole
  ({ s with save := { s.save with session := a.seq } }).wr RES_SEQ.SEQ a.seq

/-- Setts with a valid HAUL, OVERHANG or SAVE record anywhere on NAND; where no key can be recovered the descriptor alone tells
(R262, R419). -/
def State.scanSetts (s : State) (bad : List Nat) : List Nat :=
  (s.stk.recs.filterMap (fun p => match p.2 with
    | some r => if decide (r.typ < 4) && (s.res.noKeys || s.decrypts r) && !bad.contains r.sett && s.visible (settSlab r.sett) then some r.sett else none
    | none => none)).dedup

/-- The scan runs until a tick that the manual does not fix: its length goes with the stripes that are programmed (R262; entry 3). -/
def State.beginScan (s : State) : State :=
  let d := s.draw (2 ^ 22)
  ({ d.2 with res := { d.2.res with scanTick := s.tick + 1 + d.1 } }).wr RES_STATUS.SCAN 1

/-- Blocks of the spare pool and of fallow lodes that do not read ERASED are erased when the table is rebuilt (R229). -/
def State.eraseSpares (s : State) : State :=
  s.forEach (s.stk.blks.filter (fun p => p.2.st == 5 && p.2.slot == 0)) (fun s p =>
    let c := p.1 / 262144
    let t := p.1 / 32768 % 8
    let b := p.1 % 32768
    s.when (!s.blockServes c t b) (fun s => s.eraseBlock c t b))

/-- NO_META and NO_SAVE (R36, R229, R262, R381, R510, R535): the poison tables are those of the newest save before the one that the
anchor names, whose CARVE records are all valid; where the newest anchor cannot be read behind a START anchor, it was that save's. -/
def State.scanHome (s : State) (seq : Nat) (inp : ResIn) : State :=
  let own (v : SaveSet) : Bool := v.seq == seq || (inp.anchorBad && s.homeAnchor.any (fun a => a.phase == 2 && a.seq == v.seq))
  let bad (v : SaveSet) : Bool := v.carveLost || inp.badSaves.contains v.seq || own v
  let s := match (s.saves.filter (fun v => !bad v)).findSome? (fun v => v.carve) with
    | some c => s.loadPoison c
    | none => s
  let s := { s with job := { s.job with rings := [], pins := [], cache := [], jobs := [], lost := true } }
  let s := ((s.loadBlks []).rebuildBit.wr STK_STATUS.REBUILT 1).eraseSpares
  let s := { s with clg := { s.clg with live := [] } }
  let s := { s with save := { s.save with session := seq } }
  ((s.forEach (s.scanSetts inp.badRecs) (fun s k => s.loseAtMerge k)).raise 699 |>.raise 698).beginScan

/-- Carry out a case. -/
def State.runCase (s : State) (c : Nat) (inp : ResIn) : State :=
  let a := s.homeAnchor
  let v := a.bind (fun a => s.saves.find? (fun v => v.seq == a.seq))
  match c, a, v.bind (fun v => v.carve.map (fun k => (v, k))) with
  | 0, _, _ => { s with save := { s.save with session := 0 } }
  | 1, some a, some x => s.bringHome a x.1 x.2 inp
  | 2, some a, some x => s.bringHome a x.1 x.2 inp
  | _, some a, _ => (s.recoverSave a none).scanHome (if inp.anchorBad then a.seq + 1 else a.seq) inp
  | _, none, _ => s.scanHome 1 inp

/-! ### Step 5 (R37, R39, R41, R428) -/

/-- Extents in the order of their face blocks. -/
def placeExtent (e : Extent) : List Extent → List Extent
  | [] => [e]
  | x :: l => if e.block ≤ x.block then e :: x :: l else x :: placeExtent e l

/-- The slabs of a face in ascending face DPA: its static blocks, then its extents by face block (R67, R69, R371). -/
def State.faceSlabs (s : State) (f : Nat) : List Nat :=
  ((List.range (s.sv (FACES.STATIC_BLOCKS f))).flatMap (fun b => s.blockSlabs (s.sv (FACES.STATIC_BASE f) + b))) ++
  (((s.port f).extents.foldr placeExtent []).flatMap (fun e => e.pool.flatMap s.blockSlabs))

/-- A pending erase of a face that a restore finds: every sett of it is Zero, nothing of it is reported, and the face opens once
its key is new (R332, R428). -/
def State.finishErase (s : State) (f : Nat) : State :=
  let mine (k : Nat) : Bool := s.surveyOwner (settSlab k) == f
  let s := { s with slb := { s.slb with lmap := s.slb.lmap.filter (fun p => !mine p.1) } }
  let s := { s with res := { s.res with newLost := s.res.newLost.filter (fun k => !mine k) } }
  let op := if bitAt f s.cip.eraseSan then 0x4400 else 0x4401
  s.setPort f { s.port f with poison := [], erasing := some (Erase.mk op 1 false) }

/-- A face's dirty shutdown count rises, once per restore (R39, R41). -/
def State.countShutdown (s : State) (f : Nat) : State :=
  if bitAt f s.res.counted then s
  else
    let n := s.nvFace f
    let s := s.setNv f { n with dirty := (n.dirty + 1) % 4294967296 }
    { s with res := { s.res with counted := withBit f true s.res.counted, memRec := withBit f true s.res.memRec } }

/-- The setts of a face that this rebuild has made Lost. -/
def State.lostOf (s : State) (f : Nat) : List Nat := s.res.newLost.filter (fun k => s.surveyOwner (settSlab k) == f)

/-- Step 5 for one face: poison-list records and the count (R37, R39). -/
def State.reportFace (s : State) (r36 : Bool) (f : Nat) : State :=
  let l := s.lostOf f
  let erased := bitAt f s.cip.erasePend
  let s := s.when (!l.isEmpty) (fun s => s.reportAllLost f l)
  let s := s.setPort f { s.port f with lost := l.length }
  s.when (!erased && (r36 || !l.isEmpty)) (fun s => s.countShutdown f)

/-- Step 5 ends: Lost setts are reported, and OPEN is accepted (R258). -/
def State.rebuildEnd (s : State) : State :=
  let c := s.rd RES_STATUS.CASE
  let s := s.forEach (faces.filter s.faceOn) (fun s f => s.reportFace (c == 3 || c == 4) f)
  let s := { s with res := { s.res with newLost := [], rebuilt := true } }
  s.wr RES_CMD_STATUS.BUSY 0

/-- A sled with a TWIN section waits for its twin's HELLO at step 5 (R452). -/
def State.startJoin (s : State) : State :=
  ({ s with gal := { s.gal with joinAt := s.tick + 1 } }).wr GAL_STATUS.MODE modeJoining

/-- A sett of a retired slab is Lost; where it was not yet, step 5 reports it (R37, R39, R101). -/
def State.retireAtMerge (s : State) (k : Nat) : State :=
  if s.settState k = .lost then s.poisonDram k
  else
    let s := ((s.clearDirty k).setLoc k locLost).poisonDram k
    { s with res := { s.res with newLost := s.res.newLost ++ [k] } }

/-- After the merge the slabs of retired ranks and the homes of displaced carve-out slabs carry RETIRE (R95, R309 to R311). -/
def State.applyRetired (s : State) : State :=
  s.forEach s.retiredSlabs (fun s i =>
    (s.setLock i 19 true).forEach ((List.range 64).map (fun b => i * 64 + b)) (fun s k => s.retireAtMerge k))

/-- Step 5 begins once steps 1 to 4 have ended: in a pair the twin is awaited (R54, R258, R452). -/
def State.rebuildTail (s : State) : State := if s.hasSec secTwin then s.startJoin else s.rebuildEnd

/-- PHASE follows the steps; steps 1 to 4 that have reached their end, or a scan that has, let the rebuild go on (R258, R262, R278). -/
def State.scanTock (s : State) : State :=
  if s.chip == Chip.restoring && s.res.scanTick != 0 then
    if s.res.scanTick ≤ s.tick then
      (({ s with res := { s.res with scanTick := 0 } }) |>.wr RES_STATUS.SCAN 0 |>.wr RES_STATUS.PHASE 4).rebuildTail
    else s.wr RES_STATUS.PHASE 3
  else s

/-- Steps 2 to 4 take a tick each as PHASE shows them; FRESH skips them (R258, R261; DESIGN CHOICE 166). -/
def State.beginPhases (s : State) (c : Nat) : State :=
  if s.res.scanTick != 0 then s.wr RES_STATUS.PHASE 3
  else if c = 0 then s.wr RES_STATUS.PHASE 4
  else ({ s with res := { s.res with scanTick := s.tick + 2 } }).wr RES_STATUS.PHASE 2

/-- Steps 1 to 4 of the rebuild and the start of step 5; with step 2 the block information table is loaded (R255, R258). -/
def State.rebuild (s : State) (inp : ResIn) : State :=
  let c := s.resCase inp
  let cf := s.carveFail inp
  let s := (s.resRegs.resClear.setChip .restoring).wr RES_STATUS.CASE c
  let s := ((s.runCase c inp).when cf (fun s => s.wr RES_CMD_STATUS.RESULT 3)).wr STK_STATUS.READY 1
  let s := s.forEach (faces.filter (fun f => bitAt f s.cip.erasePend)) (fun s f => s.finishErase f)
  let s := s.finishReleases
  let s := (s.forEach inp.sram (fun s p => s.sramErr p.1 p.2)).applyRetired
  let s := s.beginPhases c
  if s.res.scanTick = 0 then s.rebuildTail else s

/-- RES_START (R258, R277, R278). -/
def State.doResStart (s : State) (inp : ResIn) : State :=
  if !s.hubOn then s
  else if s.on RES_CMD_STATUS.BUSY then s.wr RES_CMD_STATUS.RESULT 1
  else if s.startOk then s.rebuild inp
  else s.wr RES_CMD_STATUS.RESULT 2

/-! ### RES_CMD OPEN (R258 step 6, R196, R267) -/

/-- Host-visible slabs of the machine: the non-carve-out slabs of the listed channels (R70). -/
def State.visibleCount (s : State) : Nat := s.sv INTERLEAVE.WAYS * 65520

/-- RSTATE is set: every host-visible slab Unrestored, device slabs Resident (R267). -/
def State.setUnrestored (s : State) : State :=
  let l := (s.slb.slabs.map (fun p => (p.1, p.2))).filter (fun p => s.visible p.1)
  let s := { s with slb := { s.slb with slabs := s.slb.slabs.filter (fun p => !s.visible p.1), baseR := 1 } }
  (s.forEach l (fun s p => s.setSlab p.1 (p.2.setField 3 2 1))).wr RES_UNREST.SLABS s.visibleCount

/-- The set of enabled faces that negotiated early open (R258). -/
def State.earlySet (s : State) : Nat :=
  faces.foldl (fun m f => if s.faceOn f && s.feature f featEarlyOpen then m + 2 ^ f else m) 0

/-- RES_OPEN (R258, R260, R276, R494). -/
def State.doResOpen (s : State) : State :=
  if !s.hubOn then s
  else if s.on RES_CMD_STATUS.BUSY then s.wr RES_CMD_STATUS.RESULT 1
  else if s.chip == Chip.restoring && s.res.rebuilt && !s.res.filling then
    let s := s.setUnrestored
    let s := { s with res := { s.res with filling := true, rebuilt := false } }
    let s := s |>.wr RES_STATUS.PHASE 5 |>.wr RES_CTL.LEVEL 31 |>.wr RES_CMD_STATUS.RESULT 0
    let m := s.earlySet
    (s.when (m != 0) (fun s => s.openVia m)).portsUp.unfence.checkHome
  else s.wr RES_CMD_STATUS.RESULT 2

/-- RES_WARM (R275, R278). -/
def State.doResWarm (s : State) : State :=
  if !s.hubOn then s
  else if s.chip == Chip.parked then (s.wr RES_CMD_STATUS.RESULT 0).warmResume
  else s.wr RES_CMD_STATUS.RESULT 2

/-! ### Fetches (R268, R269, R277) -/

/-- A sett of a fetch has been written into DRAM. -/
def State.fetchDone (s : State) (slab k : Nat) : State :=
  let mark (f : Fetch) : Fetch := if f.slab = slab then { f with done := f.done ||| BitVec.ofNat 64 (2 ^ (k % 64)) } else f
  let s := { s with res := { s.res with fetch := s.res.fetch.map mark } }
  s.addSat RES_FILLED.SETTS 1

/-- Reads that a fetch has ended the wait of go into EXTREMES (R534). -/
def State.noteHolds (s : State) : State :=
  s.forEach faces (fun s p => s.forEach ((s.port p).reads.filter (fun r => r.wait == .fetch && s.settHome r.sett)) (fun s r =>
    s.extreme 6 (s.tick - r.since : Nat)))

/-- A slab whose 64 setts are written is Resident; accesses that wait are looked at again, and the image may be home (R267,
R270, R272, R276). -/
def State.fetchEnd (s : State) (slab : Nat) : State :=
  let full := s.res.fetch.any (fun f => f.slab == slab && f.done == BitVec.allOnes 64)
  let s := if full then
      let s := { s with res := { s.res with fetch := s.res.fetch.filter (fun f => f.slab != slab) } }
      ((s.setRstate slab 0).wr RES_FETCHING.SLABS (s.rd RES_FETCHING.SLABS - 1)).serveDemand 8
    else s
  s.noteHolds.retryPorts.checkHome

/-- The sett that a fetch writes next: the one that a host waits for first, then in ascending order; a sett that the twin was
asked for waits for its answer (R268, R269). -/
def State.fetchNext (s : State) (f : Fetch) : Option Nat :=
  let free (k : Nat) : Bool := !f.done.getLsbD (k % 64) && !s.asked k 0
  if f.why = 1 ∧ settSlab f.want = f.slab ∧ free f.want then some f.want
  else ((List.range 64).map (fun b => f.slab * 64 + b)).find? free

/-- A fetched Clean sett is Lost: written as poison, reported, and counted for its face once per restore (R269). -/
def State.fetchLost (s : State) (k : Nat) : State :=
  let f := (s.slab (settSlab k)).owner
  let s := (((s.setLoc k locLost).enginePoisonSett k).addSat RES_FLOST.SETTS 1).reportLost k
  if f < 6 ∧ !bitAt f s.res.counted then
    let s := (s.setPort f { s.port f with lost := (s.port f).lost + 1 }).countShutdown f
    if s.faceOpen f then s.postMemRec f else s
  else s.when (decide (f < 6)) (fun s => s.setPort f { s.port f with lost := (s.port f).lost + 1 })

/-- The record of a Clean sett cannot be had: the erase of its face makes it Zero, the twin is asked, or it is Lost (R269, R277,
R428). -/
def State.fetchFails (s : State) (slab k : Nat) (keyLost : Bool) : State :=
  let f := (s.slab slab).owner
  if keyLost && bitAt f s.cip.erasePend then (((s.setLoc k 0).engineZero k).fetchDone slab k).fetchEnd slab
  else if s.canAsk then s.askTwin k 0
  else ((s.fetchLost k).fetchDone slab k).fetchEnd slab

/-- The record of a Clean sett is read, and its sett written; where its pages wait for a die that erases nothing happens yet (R240, R241,
R268, R269). -/
def State.fetchRec (s : State) (slab k : Nat) (r : Rec) (w : Word) (page : PageRead) (demand : Bool) : State :=
  match s.findPages (s.pagesAt w) page demand with
  | none => s
  | some (true, s) => (((s.engineSett k r.data r.poison).reportRecord k r.poison).fetchDone slab k).fetchEnd slab
  | some (false, s) => s.fetchFails slab k false

/-- Write one sett of a fetch by its state; one that a Gallery write has made Dirty is in DRAM already (R268, R452). -/
def State.fetchOne (s : State) (slab k : Nat) (page : PageRead) (demand : Bool) : State :=
  let w := s.loc k
  if s.dirty k then (s.fetchDone slab k).fetchEnd slab
  else if locKind w = 0 then ((s.engineZero k).fetchDone slab k).fetchEnd slab
  else if locKind w = 3 then ((s.enginePoisonSett k).fetchDone slab k).fetchEnd slab
  else match s.recAt w with
    | none => s.fetchFails slab k false
    | some r =>
      if !s.decrypts r then s.fetchFails slab k true
      else s.fetchRec slab k r w page demand

/-- FETCH_SETT_WRITTEN (R163, R165, R268, R269): each sett is class 2 work, which a demand promotion may do on a short bucket. -/
def State.doFetchSett (s : State) (slab : Nat) (page : PageRead) : State :=
  if s.chip == Chip.restoring then
    match s.res.fetch.find? (fun f => f.slab == slab) with
    | none => s
    | some f =>
      match s.fetchNext f with
      | none => s
      | some k => if s.canPay 2 1 (decide (f.why = 1)) then (s.pay 2 1).fetchOne slab k page (f.why == 1) else s
  else s

/-! ### Background fill (R163, R270, R274) -/

/-- A slab that background fill may take at a level: Unrestored, owned and of that heat class or above; after level 0 the
unowned ones. -/
def State.fillable (s : State) (i l : Nat) (owned : Bool) : Bool :=
  let e := s.slab i
  e.rstate == 1 && (if owned then e.owner != 7 && decide (l ≤ e.heat / 8) else e.owner == 7)

/-- The next slab of a bank at or after the sweep's place that may be filled. -/
def State.fillBank (s : State) (c l : Nat) (owned : Bool) : Option Nat :=
  let from_ := SMap.get 0 c s.res.bgPtr
  ((List.range (65520 - from_)).map (fun j => c * 65536 + from_ + j)).find? (fun i => s.fillable i l owned)

/-- One sweep of the banks in turn: the slab taken, or none when every bank's sweep has ended. -/
def State.fillPick (s : State) (l : Nat) (owned : Bool) : Option Nat :=
  (((List.range 36).map (fun i => (s.res.bgBank + i) % 36)).filter (fun c => (s.chanWay c).isSome)).findSome?
    (fun c => s.fillBank c l owned)

/-- A fill takes a slab, and the sweep goes on behind it in the next bank. -/
def State.fillTake (s : State) (i : Nat) : State :=
  let s := s.takeFetch i 0 0
  { s with res := { s.res with
      bgPtr := SMap.put 0 (slabChan i) (i % 65536 + 1) s.res.bgPtr, bgBank := (slabChan i + 1) % 36 } }

/-- The level falls after a full sweep that finds nothing; each level has its own sweep (R274). -/
def State.fillFrom (s : State) : Nat → State
  | 0 => s
  | n + 1 =>
    let l := s.rd RES_CTL.LEVEL
    match s.fillPick l true with
    | some i => s.fillTake i
    | none =>
      let fresh := s.res.bgPtr.isEmpty
      let s := { s with res := { s.res with bgPtr := [] } }
      if !fresh then s.fillFrom n
      else if l = 0 then
        match s.fillPick 0 false with
        | some i => s.fillTake i
        | none => s
      else (s.wr RES_CTL.LEVEL (l - 1)).fillFrom n

/-- BACKGROUND_FILL (R163, R270, R274, R370): slabs of PREFETCH_RESTORE jobs go before the sweep. -/
def State.doBackgroundFill (s : State) : State :=
  if s.chip == Chip.restoring && s.res.filling && decide (s.res.fetch.length + 64 ≤ 1024) then
    if !s.canPay 2 1 false then s
    else match s.res.prefetch.filter (fun i => (s.slab i).rstate == 1) with
    | i :: l =>
      let s := { s with res := { s.res with prefetch := l } }
      s.takeFetch i 2 (i * 64)
    | [] => if s.on RES_CTL.BG_EN then s.fillFrom 66 else s
  else s

/-! ### The hold limit (R271) -/

/-- The vendor record of the hold limit, at most once a second per face (R271, R331). -/
def State.holdRecord (s : State) (f : Nat) : State :=
  let t := SMap.get 0 f s.res.holdRec
  let n := (s.port f).holds + 1
  if s.feature f featEarlyOpen ∧ (t = 0 ∨ t + 32767 ≤ s.tick) then
    let s := { s with res := { s.res with holdRec := SMap.put 0 f (s.tick + 1) s.res.holdRec } }
    (s.setPort f { s.port f with holds := 0 }).postVendor f 4 n
  else s.setPort f { s.port f with holds := n }

/-- RESTORE_HOLD_EXPIRY (R271). -/
def State.doHoldExpiry (s : State) (p tag : Nat) : State :=
  let lim := s.rd RES_HOLD.TICKS
  match (s.port p).reads.find? (fun r => r.tag == tag && r.wait == .fetch) with
  | none => s
  | some r =>
    if lim ≠ 0 ∧ r.since + lim ≤ s.tick then
      let q := s.port p
      let s := s.setPort p { q with reads := q.reads.filter (fun x => x.tag != tag) }
      (((s.extreme 6 (s.tick - r.since : Nat)).answer p tag .poison).addWrap RES_HOLDEXP.COUNT 1).holdRecord p
    else s

end Sys2Proof.Machine
end

