-- ==== Sys2Proof/Machine/SeqFx.lean ====
section
/-! DEFINITION. What the sequencer's events and commands do: the ADC scan, benches up and down, requests, the input supply and
resets (chapter 16). -/

namespace Sys2Proof.Machine

/-! ### Bench and reset pins -/

/-- Ticks that a number of milliseconds takes, rounded up. -/
def msTicks (ms : Nat) : Nat := (ms * 32768 + 999) / 1000

/-- The sixteen reset pins. -/
def rstPins : List Nat := List.range 16

/-- Assert or release a reset pin (SEQ_RST). -/
def State.pinAssert (s : State) (r : Nat) (b : Bool) : State := s.setBit SEQ_RST.ASSERTED r b

/-- A bench is up: the STRETCH of each reset entry that names it starts (R470 step 6). -/
def State.startStretch (s : State) (b : Nat) : State :=
  let m := rstPins.foldl (fun m r => if s.svOn (BENCHES.RST_EN r) && s.sv (BENCHES.RST_BENCH r) == b then withBit r true m else m) s.seq.stretch
  { s with seq := { s.seq with stretch := m } }

/-- Step 2 of R471: every reset entry that names this bench or a higher one is asserted. -/
def State.assertFrom (s : State) (b : Nat) : State :=
  s.forEach (rstPins.filter (fun r => s.svOn (BENCHES.RST_EN r) && decide (b ≤ s.sv (BENCHES.RST_BENCH r)))) (fun s r =>
    ({ s with seq := { s.seq with stretch := withBit r false s.seq.stretch, pulse := withBit r false s.seq.pulse } }).pinAssert r true)

/-- Where a power-up stands after a bench is up and in step: DELAY runs (R470 step 7). -/
def State.setStage (s : State) (st : SeqStep) : State := { s with seq := { s.seq with stage := st } }

/-- BENCH_UP: the level rises, SYNC is released, and STRETCH and DELAY start (R470 steps 5 to 7, R472). -/
def State.benchUp (s : State) (b : Nat) : State :=
  let sync := s.sv (BENCHES.SYNC b) != 0
  let s := ((s.wr SEQ_STATUS.LEVEL b).startStretch b).wrB SEQ_STATUS.SYNC_WAIT sync
  let s := { s with seq := { s.seq with syncDrive := false } }
  s.setStage (if sync then .syncing b else .delaying b)

/-- A bench whose step may start takes part in BENCH_SYNC and enables its rails in ascending order (R470 steps 1 to 3). -/
def State.doBenchStepUp (s : State) : State :=
  match s.seq.stage with
  | .ready b =>
    let s := { s with seq := { s.seq with syncDrive := s.sv (BENCHES.SYNC b) != 0 } }
    (s.forEach ((s.benchRails b).filter (fun n => !bitAt n (s.rd SEQ_EN.RAILS))) (fun s n => s.enable n)).setStage (.qualifying b)
  | _ => s

/-- The highest bench such that it and every lower one have all rails qualified. -/
def State.qualifiedTo (s : State) : Nat :=
  let ok (b : Nat) : Bool := (s.benchRails b).all (fun n => bitAt n (s.rd SEQ_GOOD.RAILS))
  (((List.range (s.sv BENCHES.TOP)).map (fun i => i + 1)).takeWhile ok).length

/-- The power-up is over at TOP: SEQ_DN is driven high (R470 step 7). -/
def State.atTop (s : State) : State := ((s.wr SEQ_STATUS.SEQ_DN 1).wr SEQ_STATUS.PHASE phaseIdle).setStage .idle

/-- BENCH_DELAY_EXPIRY (R470). -/
def State.doBenchDelay (s : State) : State :=
  match s.seq.stage with
  | .delaying b => if b < s.sv BENCHES.TOP then s.setStage (.ready (b + 1)) else s.atTop
  | _ => s

/-- The sequencer takes up the table of a Survey load after the boot rails: it continues from the lowest bench whose rails are
not all qualified; rails that are on stay on, and pins of benches above the level are asserted (R469, R486). -/
def State.takeTable (s : State) : State :=
  let s := s.wr SEQ_STATUS.TOP (s.sv BENCHES.TOP)
  let s := s.forEach ((s.benchRails 0).filter (fun n => !bitAt n (s.rd SEQ_EN.RAILS))) (fun s n => s.enable n)
  if s.seqPhase = phaseBootset then
    let l := s.qualifiedTo
    let s := (s.wr SEQ_STATUS.LEVEL l).wr SEQ_STATUS.PHASE phaseUp
    let s := s.forEach (rstPins.filter (fun r => s.svOn (BENCHES.RST_EN r))) (fun s r => s.pinAssert r true)
    let s := s.forEach (List.range (l + 1)) (fun s b => s.startStretch b)
    if l = s.sv BENCHES.TOP then s.atTop else s.setStage (.ready (l + 1))
  else s

/-- RESET_STRETCH_EXPIRY (R470 step 6). -/
def State.doStretchEnd (s : State) (r : Nat) : State :=
  if r < 16 ∧ bitAt r s.seq.stretch then
    let s := { s with seq := { s.seq with stretch := withBit r false s.seq.stretch } }
    s.when (!bitAt r s.seq.pulse) (fun s => s.pinAssert r false)
  else s

/-- A pulse of a reset pin in use whose bench is up (R486). -/
def State.pulsePin (s : State) (r : Nat) : State :=
  if s.benchTable && decide (r < 16) && s.svOn (BENCHES.RST_EN r) && decide (s.sv (BENCHES.RST_BENCH r) ≤ s.rd SEQ_STATUS.LEVEL)
      && !s.latchedOrLatching then
    ({ s with seq := { s.seq with pulse := withBit r true s.seq.pulse } }).pinAssert r true
  else s

/-- RESET_PULSE_END (R486). -/
def State.doPulseEnd (s : State) (r : Nat) : State :=
  if r < 16 ∧ bitAt r s.seq.pulse then
    let s := { s with seq := { s.seq with pulse := withBit r false s.seq.pulse } }
    s.when (!bitAt r s.seq.stretch) (fun s => s.pinAssert r false)
  else s

/-! ### Stepping down (R471) -/

/-- In the test state, a rail that RAILSET no longer names comes down, one at a time in descending order (R611). -/
def State.testDown (s : State) : Option Nat :=
  let keep := bootRails (s.rd SEQ_STRAP.BSET) ++ bitList 32 s.pin.railset
  if s.pin.testen then ((bitList 32 (s.rd SEQ_EN.RAILS)).filter (fun n => !keep.contains n)).reverse.head? else none

/-- Rails that come up before a table is in force: the boot rails, and in the test state those that RAILSET names (R469, R611). -/
def State.earlyRails (s : State) : List Nat :=
  let l := bootRails (s.rd SEQ_STRAP.BSET)
  if s.pin.testen then l ++ (bitList 32 s.pin.railset).filter (fun n => !l.contains n) else l

/-- The stage that stands for the step-down of one RAILSET rail. -/
def testStage : Nat := 64

/-- The boot rails come up one at a time; once all have qualified the boot ROM may run (R469). The rails of RAILSET follow, after
those that it no longer names have come down (R611). -/
def State.bootNext (s : State) : State :=
  match s.testDown with
  | some n => (s.disable n).setStage (.discharging testStage [n])
  | none =>
    match s.earlyRails.find? (fun n => !bitAt n (s.rd SEQ_GOOD.RAILS)) with
    | none => if s.rd SEQ_STRAP.BSET = 3 ∧ !s.seq.pg00Ok then s else s.setStage .idle
    | some n => (if bitAt n (s.rd SEQ_EN.RAILS) then s else s.enable n).setStage (.qualifying 0)

/-- A bench is down: the next one follows, and B0 ends the step-down. -/
def State.benchDown (s : State) (b : Nat) : State :=
  if b = testStage then s.bootNext
  else if b ≤ 1 then s.reachBottom
  else
    let s := s.when (decide (b ≤ s.rd SEQ_STATUS.LEVEL)) (fun s => s.wr SEQ_STATUS.LEVEL (b - 1))
    s.setStage (.down (b - 1))

/-- Enabled rails that a step of a bench disables, latest first: those of this bench and of any higher one. Before a table is in
force they are the boot rails. B0 is never stepped down. -/
def State.railsDown (s : State) (b : Nat) : List Nat :=
  let keep (n : Nat) : Bool := s.benchTable && ((List.range (Nat.max b 1)).any (fun j => (s.benchRails j).contains n))
  (s.seq.order.filter (fun n => !keep n)).reverse

/-- BENCH_STEP_DOWN (R471 steps 1 to 3). -/
def State.doBenchStepDown (s : State) : State :=
  match s.seq.stage with
  | .down b =>
    let s := (s.wr SEQ_STATUS.SEQ_DN 0).when s.benchTable (fun s => s.assertFrom (Nat.max b 1))
    let l := s.railsDown b
    let s := s.forEach l (fun s n => s.disable n)
    if l.isEmpty then s.benchDown b else s.setStage (.discharging b l)
  | _ => s

/-- DN_WAIT_EXPIRY (R471 step 1). -/
def State.doDnWait (s : State) : State :=
  match s.seq.stage with
  | .dnWait b => s.setStage (.down b)
  | _ => s

/-- Rails of a step-down that are discharged leave it (R471 step 4). -/
def State.dropCharged (s : State) (p : Nat → Bool) : State :=
  match s.seq.stage with
  | .discharging b l =>
    let l := l.filter (fun n => !p n)
    if l.isEmpty then s.benchDown b else s.setStage (.discharging b l)
  | _ => s

/-- A rail is discharged: its sense reads below 4 × LOW codes, or with no sense its PG has read not good for Q scans (R471). -/
def State.discharged (s : State) (n : Nat) : Bool :=
  match s.railCode n with
  | some c => decide (c < 4 * s.sv (BENCHES.LOW n))
  | none => decide (s.seqQ ≤ SMap.get 0 n s.seq.bad)

/-- DISCHARGE_TIMEOUT (R471): the step-down goes on, and ends latched. -/
def State.doDischargeTimeout (s : State) (n : Nat) : State :=
  match s.seq.stage with
  | .discharging _ l => if l.contains n then (s.railFail n [causeDischarge]).dropCharged (fun x => x == n) else s
  | _ => s

/-! ### Power-up failures -/

/-- BENCH_TIMEOUT (R469, R475): each rail that is not qualified fails; the lowest is recorded. -/
def State.doBenchTimeout (s : State) : State :=
  match s.seq.stage with
  | .qualifying b =>
    let l := (if b = 0 then s.seq.order else s.benchRails b).filter (fun n => !bitAt n (s.rd SEQ_GOOD.RAILS))
    s.forEach l (fun s n => s.railFail n [causeTimeout])
  | _ => s

/-- BENCH_SYNC_TIMEOUT (R472). -/
def State.doSyncTimeout (s : State) : State :=
  match s.seq.stage with
  | .syncing b =>
    if s.on SEQ_STATUS.SYNC_LINE then s
    else if s.sv (BENCHES.SYNC b) = 1 then ((s.noteFailure 63 causeSync).wr SEQ_STATUS.SYNC_WAIT 0).railConsequence false
    else ((s.raise 653).wr SEQ_STATUS.SYNC_WAIT 0).setStage (.delaying b)
  | _ => s

/-- UP_WAIT_EXPIRY (R473). -/
def State.doUpWait (s : State) : State :=
  if s.seq.stage = .cascade ∧ s.sv BENCHES.CASCADE = 2 then ((s.raise 654).wr SEQ_STATUS.CASC_WAIT 0).setStage (.ready 1) else s

/-! ### Requests (R478 to R481) -/

/-- RESULT codes of SEQ_CMD_STATUS. -/
def seqOk : Nat := 0
def seqPending : Nat := 1
def seqSaving : Nat := 2
def seqLatched : Nat := 3
def seqState : Nat := 4
def seqNoEffect : Nat := 5

/-- The sequencer steps down, alone or in step 9 of a save. -/
def State.steppingDown (s : State) : Bool :=
  s.seqPhase == phaseDown || (s.chip == Chip.save && s.rd HAUL_SAVE_STAT.STEP == 9 && s.endsDown)

/-- The boot rails are enabled after a cold reset: the first one, the others each after the one before has qualified (R469). -/
def State.beginBoot (s : State) : State :=
  let s := ((s.wr SEQ_STATUS.PHASE phaseBootset).wr SEQ_STATUS.ON_PEND 0).setStage (.qualifying 0)
  match (bootRails (s.rd SEQ_STRAP.BSET)).head? with
  | none => s.setChip .waking
  | some n => (s.enable n).setChip .waking

/-- Power-up starts from B0: from the shadow, or with no shadow from the boot rails, which need good input power (R17, R469). -/
def State.startUp (s : State) : State :=
  let s := { s with res := { s.res with trigTick := s.tick } }
  if s.benchTable then s.beginUp
  else if s.on SEQ_STATUS.INPUT_GOOD then s.beginBoot
  else s.wr SEQ_STATUS.ON_PEND 1

/-- An on request: the state after it and its RESULT (R478, R480). -/
def State.onRequest (s : State) : State × Nat :=
  let s := if s.seq.timed then ({ s with seq := { s.seq with timed := false } }).wr SEQ_OFFDLY.LEFT 0 else s
  if s.latchedOrLatching then (s, seqLatched)
  else if s.steppingDown then
    if s.on SEQ_STATUS.ON_PEND then (s, seqPending) else ((s.wr SEQ_STATUS.ON_PEND 1).raise 652, seqPending)
  else if s.chip = .save then
    if s.seq.offPend then ({ s with seq := { s.seq with offPend := false } }, seqOk) else (s, seqNoEffect)
  else if s.chip = .bedrock ∧ s.seqPhase = phaseIdle then
    if s.seq.minOff then
      let t := s.startUp
      (t, if t.chip = .bedrock then seqPending else seqOk)
    else (s.wr SEQ_STATUS.ON_PEND 1, seqPending)
  else (s, seqNoEffect)

/-- An off request: the state after it and its RESULT (R479, R480, R500). -/
def State.offRequest (s : State) : State × Nat :=
  match s.chip with
  | .restoring => (s.saveTrigger trigCmd true, seqSaving)
  | .opened => (s.saveTrigger trigCmd true, seqSaving)
  | .save =>
    if s.rd HAUL_SAVE_STAT.STEP = 9 then (s.wr SEQ_STATUS.ON_PEND 0, seqNoEffect)
    else ({ s with seq := { s.seq with offPend := true } }, seqSaving)
  | .parked => if s.steppingDown then (s, seqNoEffect) else (s.saveTrigger trigCmd true, seqOk)
  | .hold => if s.steppingDown || s.latchedOrLatching then (s.wr SEQ_STATUS.ON_PEND 0, seqNoEffect) else (s.stepDownFor false, seqOk)
  | .waking => if s.steppingDown || s.latchedOrLatching then (s.wr SEQ_STATUS.ON_PEND 0, seqNoEffect) else (s.stepDownFor true, seqOk)
  | _ => (s.wr SEQ_STATUS.ON_PEND 0, seqNoEffect)

/-- SEQ registers are reached by the BMC always, and by the Foreman cluster while the hub base has power. -/
def State.seqReach (s : State) (bmc : Bool) : Bool := bmc || s.hubOn

/-- SEQ_ON (R478, R480). -/
def State.doSeqOn (s : State) (bmc : Bool) : State :=
  if s.seqReach bmc then
    let r := (s.wr SEQ_STATUS.OFF_HELD 0).onRequest
    r.1.wr SEQ_CMD_STATUS.RESULT r.2
  else s

/-- SEQ_OFF (R478, R479). -/
def State.doSeqOff (s : State) (bmc : Bool) : State :=
  if s.seqReach bmc then
    let r := (s.wr SEQ_STATUS.OFF_HELD 1).offRequest
    r.1.wr SEQ_CMD_STATUS.RESULT r.2
  else s

/-- SEQ_OFF_TIMED (R481). -/
def State.doSeqOffTimed (s : State) (bmc : Bool) : State :=
  if s.seqReach bmc then
    let s := { s with seq := { s.seq with timed := true, timedTick := s.tick } }
    (s.wr SEQ_OFFDLY.LEFT (s.rd SEQ_OFFDLY.MS)).wr SEQ_CMD_STATUS.RESULT seqOk
  else s

/-- OFF_TIMED_EXPIRY (R481). -/
def State.doOffTimedEnd (s : State) : State :=
  if s.seq.timed ∧ s.seq.timedTick + msTicks (s.rd SEQ_OFFDLY.MS) ≤ s.tick then
    let s := ({ s with seq := { s.seq with timed := false } }).wr SEQ_OFFDLY.LEFT 0
    let r := (s.wr SEQ_STATUS.OFF_HELD 1).offRequest
    r.1.wr SEQ_CMD_STATUS.RESULT r.2
  else s

/-- SEQ_CLEAR (R477, R488): at B0 the latch ends and the first-failure record is free again. -/
def State.doSeqClear (s : State) (bmc : Bool) : State :=
  if !s.seqReach bmc then s
  else if s.chip = .bedrock ∧ s.seq.stage = .idle then
    let s := s.when (s.seqPhase == phaseLatched) (fun s => s.wr SEQ_STATUS.PHASE phaseIdle)
    let s := { s with clg := { s.clg with railLogged := false } }
    (s |>.setWord SEQ_FIRST.RAIL.addr 0 |>.setWord SEQ_FIRST_TLO.TICK.addr 0 |>.setWord SEQ_FIRST_THI.TICK.addr 0
      |>.wr SEQ_CMD_STATUS.RESULT seqOk).updErr
  else s.wr SEQ_CMD_STATUS.RESULT seqState

/-- SEQ_PULSE (R486): a pulse of a pin whose bench is down changes nothing. -/
def State.doSeqPulse (s : State) (r : Nat) : State := (s.pulsePin r).wr SEQ_CMD_STATUS.RESULT seqOk

/-- SEQ_UP_FALL (R473). -/
def State.doSeqUpFall (s : State) : State :=
  let s := s.wr SEQ_STATUS.SEQ_UP 0
  if s.benchTable ∧ 0 < s.rd SEQ_STATUS.LEVEL then
    match s.sv BENCHES.CASCADE with
    | 1 => s.offRequest.1
    | 2 => s.raise 654
    | _ => s
  else s

/-- MIN_OFF in ms: the default before a table is in force (R464). -/
def State.minOffMs (s : State) : Nat := if s.benchTable then s.sv BENCHES.MIN_OFF else 100

/-- MIN_OFF_EXPIRY (R480). -/
def State.doMinOff (s : State) : State :=
  if s.chip = .bedrock ∧ !s.seq.minOff ∧ s.seq.offTick + msTicks s.minOffMs ≤ s.tick + 1 then
    let s := { s with seq := { s.seq with minOff := true } }
    s.when (s.on SEQ_STATUS.ON_PEND && s.seqPhase == phaseIdle) State.startUp
  else s

/-! ### The input supply (R482 to R484) -/

/-- The scans for which input power must read good (R484). -/
def State.retScans (s : State) : Nat := if s.benchTable then s.sv BENCHES.RET_SCANS else 512

/-- PWR_LOSS (R482, R190). -/
def State.doPwrLoss (s : State) : State :=
  let s := { s with seq := { s.seq with inGood := 0, pwrLow := true } }
  ((s.wr SEQ_STATUS.PWR_LOSS 1).wr SEQ_STATUS.INPUT_GOOD 0).saveTrigger trigPwr false

/-- INPUT_RAIL_LOSS (R483, R190). -/
def State.doInputLoss (s : State) : State :=
  if s.benchTable && s.svOn BENCHES.INPUT_EN && decide (s.sv BENCHES.INPUT_COUNT ≤ s.seq.inLow) && !s.seq.lowTold then
    let s := { s with seq := { s.seq with inGood := 0, lowTold := true } }
    (((s.wr SEQ_STATUS.INPUT_GOOD 0).addSat SEQ_INPUT.LOSSES 1).raise 656).saveTrigger trigRail false
  else s

/-- INPUT_POWER_GOOD (R201, R469, R478, R484). -/
def State.doInputGood (s : State) : State :=
  if s.retScans ≤ s.seq.inGood ∧ !s.on SEQ_STATUS.INPUT_GOOD then
    let s := (s.wr SEQ_STATUS.INPUT_GOOD 1).raise 657
    let s := if s.chip = .save then { s with save := { s.save with powerBack := true } } else s
    if s.on SEQ_STATUS.OFF_HELD then s
    else s.onRequest.1
  else s

/-- PG00_WAIT_EXPIRY (R469). -/
def State.doPg00Wait (s : State) : State :=
  if s.rd SEQ_STRAP.BSET = 3 ∧ s.seqPhase = phaseBootset ∧ !s.seq.pg00Ok ∧ !s.seq.pg00Told then
    ({ s with seq := { s.seq with pg00Told := true } }).raise 618
  else s

/-! ### The ADC scan (R462, R474, R475) -/

/-- What a scan shows in the registers; the chip itself pulls BENCH_SYNC low while it takes part in a bench's step (R472). -/
def State.scanRegs (s : State) (inp : ScanIn) : State :=
  let s := s.forEach (List.range 48) (fun s i => s.wr (SEQ_ADC.CODE i) (inp.codes.getD i 0))
  s |>.wr SEQ_PG.RAW inp.pg |>.wrB SEQ_STATUS.SYNC_LINE (inp.sync && !s.seq.syncDrive) |>.wrB SEQ_STATUS.SEQ_UP inp.up |>.addWrap SEQ_SCAN.COUNT 1
    |>.when s.benchTable (fun s => s.wr SEQ_INPUT.CODE (inp.codes.getD (s.sv BENCHES.INPUT_SENSE) 0))
    |>.when inp.pwrOk (fun s => s.wr SEQ_STATUS.PWR_LOSS 0)

/-- The counts of scans with good, and with low, input (R483, R484). -/
def State.scanInput (s : State) (inp : ScanIn) : State :=
  let sense := s.benchTable && s.svOn BENCHES.INPUT_EN
  let c := inp.codes.getD (s.sv BENCHES.INPUT_SENSE) 0
  let good := inp.pwrOk && (!sense || decide (s.sv BENCHES.INPUT_HIGH ≤ c))
  let low := sense && decide (c < s.sv BENCHES.INPUT_LOW)
  let s := { s with seq := { s.seq with
      inGood := if good then min (s.seq.inGood + 1) 65535 else 0
      inLow := if low then min (s.seq.inLow + 1) 15 else 0
      lowTold := s.seq.lowTold && low
      pwrLow := !inp.pwrOk } }
  let s := s.when sense (fun s => s.sample 31 c)
  s.when (!good) (fun s => s.wr SEQ_STATUS.INPUT_GOOD 0)

/-- A sense code lies in a rail's window (R474). -/
def State.inWindow (s : State) (n c : Nat) : Bool :=
  decide (s.sv (BENCHES.LOW n) * 16 ≤ c) && decide (c ≤ s.sv (BENCHES.HIGH n) * 16 + 15)

/-- A rail reads good: its PG, or with PG_NONE its window (R475). -/
def State.railGood (s : State) (n pg : Nat) : Bool :=
  if s.benchTable && s.svOn (BENCHES.PG_NONE n) then
    match s.railCode n with
    | some c => s.inWindow n c
    | none => false
  else bitAt n pg

/-- Consecutive readings of a rail: good, not good, below and above the window; and its glitches (R474, R475). -/
def State.railCounts (s : State) (n : Nat) (good : Bool) : State :=
  let g := SMap.get 0 n s.seq.good
  let b := SMap.get 0 n s.seq.bad
  let gl := SMap.get 0 n s.seq.glitch
  let glitch := good && decide (0 < b) && decide (b < s.seqDrop) && bitAt n (s.rd SEQ_GOOD.RAILS)
  let lo := match s.railCode n with
    | some c => decide (c < s.sv (BENCHES.LOW n) * 16)
    | none => false
  let hi := match s.railCode n with
    | some c => decide (s.sv (BENCHES.HIGH n) * 16 + 15 < c)
    | none => false
  { s with seq := { s.seq with
      good := SMap.put 0 n (if good then min (g + 1) 16 else 0) s.seq.good
      bad := SMap.put 0 n (if good then 0 else min (b + 1) 17) s.seq.bad
      glitch := SMap.put 0 n (if glitch then gl + 1 else gl) s.seq.glitch
      low := SMap.put 0 n (if lo then min (SMap.get 0 n s.seq.low + 1) 17 else 0) s.seq.low
      high := SMap.put 0 n (if hi then min (SMap.get 0 n s.seq.high + 1) 17 else 0) s.seq.high } }

/-- Glitches that count against GLITCH_N: with PAIRED those of the previous window too (R475, R516). -/
def State.glitches (s : State) (n : Nat) : Nat :=
  SMap.get 0 n s.seq.glitch + (if s.benchTable && s.svOn BENCHES.PAIRED then SMap.get 0 n s.seq.glitchPrev else 0)

/-- GLITCH_N; 3 before a table is in force (R464). -/
def State.glitchN (s : State) : Nat := if s.benchTable then s.sv BENCHES.GLITCH_N else 3

/-- The causes for which a qualified rail fails in a scan (R474, R475). The window counts only outside sequencing. -/
def State.railCauses (s : State) (n : Nat) (glitched : Bool) : List Nat :=
  let d := s.seqDrop
  (if SMap.get 0 n s.seq.bad = d then [causeDrop] else []) ++
  (if glitched && decide (s.glitchN ≤ s.glitches n) then [causeChatter] else []) ++
  (if s.seq.stage = .idle ∧ SMap.get 0 n s.seq.low = d then [causeLow] else []) ++
  (if s.seq.stage = .idle ∧ SMap.get 0 n s.seq.high = d then [causeHigh] else [])

/-- One enabled rail in a scan: it qualifies, or fails (R474 to R477). -/
def State.scanRail (s : State) (n pg : Nat) : State :=
  let before := SMap.get 0 n s.seq.glitch
  let s := s.railCounts n (s.railGood n pg)
  if bitAt n (s.rd SEQ_GOOD.RAILS) then
    let l := s.railCauses n (SMap.get 0 n s.seq.glitch != before)
    if l.isEmpty then s else s.railFail n l
  else if s.seqQ ≤ SMap.get 0 n s.seq.good then s.setBit SEQ_GOOD.RAILS n true
  else s

/-- A rail that was disabled: its PG counts toward its discharge (R471). -/
def State.scanOff (s : State) (n pg : Nat) : State :=
  let b := SMap.get 0 n s.seq.bad
  { s with seq := { s.seq with bad := SMap.put 0 n (if bitAt n pg then 0 else min (b + 1) 17) s.seq.bad } }

/-- PG00 under BSET 0b11: the boot supplies (R469). -/
def State.scanPg00 (s : State) (pg : Nat) : State :=
  if s.rd SEQ_STRAP.BSET = 3 then
    let good := bitAt 0 pg
    let s := { s with seq := { s.seq with
        pg00Good := if good then min (s.seq.pg00Good + 1) 16 else 0
        pg00Bad := if good then 0 else min (s.seq.pg00Bad + 1) 17 } }
    if s.seq.pg00Ok then (if s.seq.pg00Bad = s.seqDrop then s.railFail 0 [causeDrop] else s)
    else if s.seqQ ≤ s.seq.pg00Good then { s with seq := { s.seq with pg00Ok := true } }
    else s
  else s

/-- The glitch window of a scan: counts move into the previous window at each boundary (R475). -/
def State.glitchRoll (s : State) : State :=
  let w := s.tick / Nat.max 1 (if s.benchTable then s.sv BENCHES.GLITCH_WIN else 32768)
  if w = s.seq.glitchWin then s
  else
    let prev := if w = s.seq.glitchWin + 1 then s.seq.glitch else []
    { s with seq := { s.seq with glitchWin := w, glitch := [], glitchPrev := prev } }

/-- What the end of a scan means for the step in progress (R470 to R473). -/
def State.scanStage (s : State) : State :=
  match s.seq.stage with
  | .cascade => if s.on SEQ_STATUS.SEQ_UP then (s.wr SEQ_STATUS.CASC_WAIT 0).setStage (.ready 1) else s
  | .qualifying b =>
    if b = 0 then s.bootNext
    else if (s.benchRails b).all (fun n => bitAt n (s.rd SEQ_GOOD.RAILS)) then s.benchUp b else s
  | .syncing b => if s.on SEQ_STATUS.SYNC_LINE then (s.wr SEQ_STATUS.SYNC_WAIT 0).setStage (.delaying b) else s
  | .discharging _ _ => s.dropCharged s.discharged
  | _ => s

/-- ADC_SCAN (R127, R129, R131, R133, R146, R462, R471 to R476, R483, R484). -/
def State.doAdcScan (s : State) (inp : ScanIn) : State :=
  let s := ((((s.scanRegs inp).scanInput inp).glitchRoll).scanPg00 inp.pg)
  let en := bitList 32 (s.rd SEQ_EN.RAILS)
  let s := s.forEach en (fun s n => s.scanRail n inp.pg)
  let s := match s.seq.stage with
    | .discharging _ l => s.forEach (l.filter (fun n => !en.contains n)) (fun s n => s.scanOff n inp.pg)
    | _ => s
  let s := s.scanStage
  (s.scanPack 0 (inp.codes.getD 40 0) (inp.codes.getD 41 0) inp.gaugeA).scanPack 1 (inp.codes.getD 42 0) (inp.codes.getD 43 0) inp.gaugeB

/-! ### Chip reset pins (R467, R480) -/

/-- A warm chip reset asserts the CHIPRST pins whose bench is up and releases them STRETCH after it (R480). -/
def State.chipRstPins (s : State) : State :=
  s.forEach (rstPins.filter (fun r => s.svOn (BENCHES.RST_EN r) && s.svOn (BENCHES.RST_CHIPRST r)
      && decide (s.sv (BENCHES.RST_BENCH r) ≤ s.rd SEQ_STATUS.LEVEL))) (fun s r =>
    ({ s with seq := { s.seq with stretch := withBit r true s.seq.stretch } }).pinAssert r true)

end Sys2Proof.Machine
end

