-- ==== Sys2Proof/Machine/StkFx.lean ====
section
/-! DEFINITION. What the Stockpile's and the NAND channels' events do: page reads, erases and their journal, patrol, and the
moves of rework, fold and rewrap (chapter 08). -/

namespace Sys2Proof.Machine

/-! ### Interface (R236, R254) -/

/-- NCH_APPLY (R236). -/
def State.doNchApply (s : State) (n : Nat) : State :=
  if s.hubOn && decide (n < 72) then
    { s with stk := { s.stk with applied := SMap.put 0 n (s.word (NCH_IFCFG.RATE n).addr) s.stk.applied } }
  else s

/-- NCH_CWMAX_CLEAR (R254). -/
def State.doCwmaxClear (s : State) (n : Nat) : State :=
  if s.hubOn && decide (n < 72) then s.wr (NCH_CWMAX.BITS n) 0 else s

/-! ### Reads of a die that erases (R241, R242) -/

/-- Suspended erases are resumed after the last queued demand read: with the next tick (R241; DESIGN CHOICE 123). -/
def State.resumeErases (s : State) : State :=
  let up (p : Nat × DieErase) : Nat × DieErase :=
    if p.2.suspended then (p.1, { p.2 with suspended := false, resumed := s.tick + 1 }) else p
  let ns := ((s.stk.dies.filter (fun p => p.2.suspended)).map (fun p => p.1 / 8)).dedup
  { s with stk := { s.stk with dies := s.stk.dies.map up } }.forEach ns (fun s n => s.wr (NCH_STATUS.SUSPENDED n) 0)

/-- NAND_PAGE_READ_DONE (R237 to R242, R247): a demand read of a die that erases suspends the erase, or waits for it; other reads
wait. -/
def State.doNandRead (s : State) (inp : NandRead) (patrol : Bool) : State :=
  if s.hubOn && decide (inp.channel < 72) then
    let d := s.die inp.channel inp.target
    if !d.busy || (d.suspended && inp.demand) then s.pageRead inp patrol
    else
      let s := s.setDie inp.channel inp.target { d with queued := d.queued ++ [(inp, patrol)] }
      s.when (inp.demand && s.maySuspend inp.channel d && s.resumeOver inp.channel d) (fun s => s.suspend inp.channel inp.target)
  else s

/-- RESUME_MIN_EXPIRY (R241). -/
def State.doResumeMin (s : State) (n t : Nat) : State :=
  let d := s.die n t
  if d.busy && !d.suspended && d.queued.any (fun r => r.1.demand) && s.maySuspend n d && s.resumeOver n d then s.suspend n t else s

/-! ### Patrol (R247) -/

/-- SEALED blocks, as they count for the patrol. -/
def State.sealedBlocks (s : State) : Nat :=
  (s.stk.lodes.map (fun p => ((s.lodeSlots (p.1 / 8192) (p.1 % 8192)).filter (fun x => s.blockState x.1 x.2.1 x.2.2 == 2)).length)).sum

/-- Ticks of a patrol period. -/
def State.patrolTicks (s : State) : Nat := Nat.max 1 (s.rd STK_CFG.PATROL_DAYS) * 2831155200

/-- A block's patrol read is due: it has not been read in this period, and reads are spread evenly over it (R247). -/
def State.patrolDue (s : State) (n t b : Nat) : Bool :=
  let p := s.patrolTicks
  s.stk.patrolWin != s.tick / p ||
    (!s.stk.patrolled.contains (blkKey n t b) && decide (s.stk.patrolled.length * p ≤ s.sealedBlocks * (s.tick % p)))

/-- NAND_PATROL_READ (R165, R247, R248): patrol issues the read of one page of a SEALED block as class 7 work; it holds the lode until
it completes. -/
def State.doPatrol (s : State) (n t b page : Nat) : State :=
  let pages := if s.blkPslc n t b then s.sv NAND.WORDLINES else 3 * s.sv NAND.WORDLINES
  if s.hubOn && decide (n < 72) && s.blockState n t b == 2 && s.blockServes n t b && decide (page < pages) && s.patrolDue n t b
      && s.canPay 7 1 false then
    let w := s.tick / s.patrolTicks
    let l := if s.stk.patrolWin = w then s.stk.patrolled else []
    { s.pay 7 1 with stk := { s.stk with
        patrolWin := w
        patrolled := blkKey n t b :: l
        patrolRead := s.stk.patrolRead ++ [(n, t, b)] } }
  else s

/-- DIE_NO_ANSWER_TIMEOUT (R251). -/
def State.doDieSilent (s : State) (n t : Nat) : State :=
  if s.hubOn && decide (n < 72) && (s.targets n).contains t then
    let c := SMap.get 0 (dieKey n t) s.stk.silent + 1
    let s := { s with stk := { s.stk with silent := SMap.put 0 (dieKey n t) c s.stk.silent } }
    s.when (c == 3) (fun s => s.retireDie n t)
  else s

/-! ### Erases (R226 to R228, R248, R250) -/

/-- A read of a lode is queued or running: a repair's, a patrol's, or one that waits for a die (R248). -/
def State.lodeRead (s : State) (g n : Nat) : Bool :=
  let mine (c t b : Nat) : Bool := chanGroup c == g && s.blockLode c t b == n
  s.dch.repairs.any (fun r => !r.twin && (locKind r.entry == 1 || locKind r.entry == 2) && s.locLode r.entry == (g, n))
    || s.stk.patrolRead.any (fun x => mine x.1 x.2.1 x.2.2)
    || s.stk.dies.any (fun p => p.2.queued.any (fun r => mine r.1.channel r.1.target r.1.block))

/-- A lode may be erased (R219, R225, R248). -/
def State.mayErase (s : State) (g n : Nat) : Bool :=
  let l := s.lode g n
  (s.isSump g n || s.isStock g n) && (l.st == lodeSealed || l.st == lodeReclaim) && !s.lodeNeeded g n
    && !s.lodeRead g n && !s.lodeBusy g n

/-- LODE_ERASE_START (R226, R228): the INTENT record waits for its journal page. -/
def State.doEraseStart (s : State) (w : EraseOf) : State :=
  if !s.hubOn then s
  else match w with
    | .lode g n =>
      if s.mayErase g n then
        (s.setLode g n { s.lode g n with st := lodeErasing }).addIntent (intentLode g n) (JRec.erase 1 (intentLode g n) 0)
      else s
    | .block c t b => s.eraseBlock c t b

/-- The blocks that an intent's erases act on. -/
def State.intentBlocks (s : State) (i : Intent) : List (Nat × Nat × Nat) :=
  if i.lode then s.lodeSlots i.group i.num else [(i.channel, i.target, i.num)]

/-- The erases of an intent are issued: the erase counts of its blocks, but for BAD ones, rise, and the dies are busy; a channel whose sectors forbid the erase refuses it
(R224, R226, R233). -/
def State.issueErase (s : State) (i : Intent) : State :=
  let bad := if i.lode then (s.lodeSlots i.group i.num).filter (fun b => (s.blk b.1 b.2.1 b.2.2).st == 6) else []
  let s := s.forEach bad (fun s b => s.setBlk b.1 b.2.1 b.2.2 { s.blk b.1 b.2.1 b.2.2 with slotBase := (s.blk b.1 b.2.1 b.2.2).slotBase + 1 })
  let s := if i.lode then s.setLode i.group i.num { s.lode i.group i.num with erases := (s.lode i.group i.num).erases + 1 }
    else
      let e := s.blk i.channel i.target i.num
      (s.setBlk i.channel i.target i.num { e with erases := e.erases + 1 }).setBlkSt i.channel i.target i.num 4 0
  s.forEach (s.intentBlocks i) (fun s b =>
    if s.mayEraseBlock b.1 b.2.1 b.2.2 false then
      s.when (!(s.die b.1 b.2.1).busy) (fun s => s.setDie b.1 b.2.1 { s.die b.1 b.2.1 with busy := true })
    else s.wpRefuse b.1)

/-- The journal's next page lies in a block that takes it: one that is open, or one that holds no page newer than the block information
table last saved and may be erased (R217). -/
def State.journalRoom (s : State) : Bool :=
  s.stk.jpage % s.bootPages != 0 || !s.stk.jrnl.any (fun x =>
    s.bootPageBlock bootJournal x.page == s.bootPageBlock bootJournal s.stk.jpage && decide (s.stk.jsaved < x.jseq))

/-- Journal pages that stand once the next page's block is erased for it. -/
def State.journalKept (s : State) : List JPage :=
  s.stk.jrnl.filter (fun x => s.stk.jpage % s.bootPages != 0
    || s.bootPageBlock bootJournal x.page != s.bootPageBlock bootJournal s.stk.jpage)

/-- The journal page with every waiting record is on NAND: the erases whose INTENT it holds are issued (R226, R227). -/
def State.journalWritten (s : State) : State :=
  let n := s.stk.jseq + 1
  let page : JPage :=
    { page := s.stk.jpage
      jseq := n
      recs := s.stk.jpend.map (fun r => { r with jseq := n }) }
  let go := s.stk.intents.filter (fun i => i.st == 0)
  let upd (i : Intent) : Intent := if i.st = 0 then { i with st := 1 } else i
  let left := (s.stk.intents.filter (fun i => i.st != 2)).map upd
  let s := { s with stk := { s.stk with
      jseq := n
      jpage := s.bootPageNext bootJournal s.stk.jpage
      jpend := []
      jrnl := page :: s.journalKept
      intents := left } }
  s.forEach go (fun s i => s.issueErase i)

/-- JOURNAL_PAGE_PROGRAMMED (R216, R217, R226, R227, R242): a page that either channel failed is written again, on a boot spare where its
block failed. -/
def State.doJournal (s : State) (ok0 ok36 : Bool) : State :=
  if s.hubOn && !s.stk.jpend.isEmpty && s.journalRoom && s.bootFree then
    let b := s.bootPageBlock bootJournal s.stk.jpage
    let t := s.bootProgram b [(0, ok0), (1, ok36)]
    t.when (s.bootWrote 0 b ok0 && s.bootWrote 1 b ok36) State.journalWritten
  else s

/-- A block has been erased: words 2 to 7 of its entry start again (R230). -/
def State.blockErased (s : State) (c t b : Nat) : State :=
  let e := s.blk c t b
  s.setBlk c t b { Blk.fresh with
    erases := e.erases
    slot := e.slot
    slotLode := e.slotLode
    slotBase := e.slotBase
    pslc := (s.blkFirst c t b).1 }

/-- The erase of a block failed: it is BAD, and a spare takes its slot; a lone spare leaves its channel's pool (R215, R250). -/
def State.blockFailed (s : State) (c t b : Nat) (slot : Option (Nat × Nat × Nat)) : State :=
  let s := ((s.markBad c t b 3).addSat (NCH_CNT_FAIL.ERASE c) 1).raise (217 + 4 * c)
  (match slot with
    | some x => s.remapSlot c x.1 x.2.1 x.2.2
    | none => s.keepSpares (chanGroup c)).checkDie c t

/-- One block of an erase reports (R226, R233, R250): a BAD block stays BAD and its slot goes to a spare; a refused erase is never
confirmed (DESIGN CHOICE 124). -/
def State.blockReports (s : State) (c t b : Nat) (slot : Option (Nat × Nat × Nat)) (failed : Bool) : State :=
  let s := s.dieAnswers c t
  if (s.blk c t b).st = 6 then match slot with
    | some x => s.remapSlot c x.1 x.2.1 x.2.2
    | none => s
  else if !s.mayEraseBlock c t b false then s.unsettle c t b
  else if failed then s.blockFailed c t b slot
  else s.blockErased c t b

/-- The records of a lode are gone, and those of saves with it (R248, R276). -/
def State.clearLode (s : State) (g n : Nat) : State :=
  let gone (w : Nat) : Bool := s.locLode (BitVec.ofNat 32 w) == (g, n)
  let s := { s with stk := { s.stk with recs := s.stk.recs.filter (fun p => !gone p.1) } }
  { s with saves := s.saves.filter (fun v => !v.lodes.contains (g, n)) }

/-- Every erase of a lode has reported: it is FREE when every slot holds an ERASED block; else those that are ERASED show it (R224 to R226,
R250). -/
def State.lodeErased (s : State) (g n : Nat) (failed : List (Nat × Nat × Nat)) : State :=
  let s := (s.clearLode g n).forEach (s.slotsOf g) (fun s x =>
    let b := s.slotBlock x.1 n x.2.1 x.2.2
    s.blockReports x.1 b.1 b.2 (some (n, x.2)) (failed.contains x))
  let whole := (s.lodeSlots g n).all (fun b => (s.blk b.1 b.2.1 b.2.2).st == 0)
  let s := s.when (!whole) (fun s => s.forEach ((s.lodeSlots g n).filter (fun b => (s.blk b.1 b.2.1 b.2.2).st == 0)) (fun s b =>
    s.setBlk b.1 b.2.1 b.2.2 { s.blk b.1 b.2.1 b.2.2 with st := 1 }))
  s.setLode g n { Lode.fresh with erases := (s.lode g n).erases, st := if whole then lodeFree else lodeReclaim }

/-- Dies that an erase has left are idle unless another erase is issued on them; the reads that waited are served (R241). -/
def State.freeDies (s : State) (l : List (Nat × Nat × Nat)) : State :=
  let own := (s.stk.intents.filter (fun i => i.st == 1)).flatMap s.intentBlocks
  let gone := (l.map (fun b => (b.1, b.2.1))).dedup.filter (fun x => !own.any (fun b => b.1 == x.1 && b.2.1 == x.2))
  s.forEach gone (fun s x =>
    let q := (s.die x.1 x.2).queued
    (s.setDie x.1 x.2 DieErase.idle).forEach q (fun s r => s.pageRead r.1 r.2))

/-- The intent of an erase that is issued. -/
def State.intentOf (s : State) (w : EraseOf) : Option Intent :=
  s.stk.intents.find? (fun i => i.st == 1 && (match w with
    | .lode g n => i.lode && i.group == g && i.num == n
    | .block c t b => !i.lode && i.channel == c && i.target == t && i.num == b))

/-- ERASE_DONE (R225, R226, R242, R250): every erase of the intent has reported, none of them suspended; a DONE record is to be
written. -/
def State.doEraseDone (s : State) (w : EraseOf) (failed : List (Nat × Nat × Nat)) : State :=
  match s.intentOf w with
  | none => s
  | some i =>
    let l := s.intentBlocks i
    if !s.hubOn || l.any (fun b => (s.die b.1 b.2.1).suspended) then s
    else
      let s := if i.lode then s.lodeErased i.group i.num failed
        else s.blockReports i.channel i.target i.num none (!failed.isEmpty)
      let upd (x : Intent) : Intent := if x = i then { x with st := 2 } else x
      let s := { s with stk := { s.stk with intents := s.stk.intents.map upd } }
      (s.journal (if i.lode then JRec.erase 2 i 0 else JRec.erase 4 i (s.blockErases i.channel i.target i.num))).freeDies l

/-! ### Rework, fold and rewrap (R245, R246, R249, R253) -/

/-- The Stockpile manager moves setts (R253): not during a save, in Parked or in Hold. -/
def State.movesRun (s : State) : Bool := s.chip == Chip.restoring || s.chip == Chip.opened

/-- SEALED or RECLAIM Stockpile lodes of a group, by number. -/
def State.reworkable (s : State) (g : Nat) : List Nat :=
  (s.stockLodes g).filter (fun n =>
    ((s.lode g n).st == lodeSealed || (s.lode g n).st == lodeReclaim) && decide (0 < s.validCount g n))

/-- PSEQ a comes before PSEQ b, modulo 2^32 (R222). -/
def pseqBefore (a b : Nat) : Bool := decide (0 < (b + 4294967296 - a) % 4294967296 ∧ (b + 4294967296 - a) % 4294967296 < 2147483648)

/-- One lode comes before another as a rework source (R245). -/
def State.betterSource (s : State) (g n m : Nat) : Bool :=
  let a := s.lode g n
  let b := s.lode g m
  let ka := if a.early then 1 else if a.refresh then 2 else 3
  let kb := if b.early then 1 else if b.refresh then 2 else 3
  if ka != kb then decide (ka < kb)
  else if ka = 3 && s.validCount g n != s.validCount g m then decide (s.validCount g n < s.validCount g m)
  else pseqBefore a.pseq b.pseq

/-- The source that R245 chooses; a lode already in RECLAIM goes on. -/
def State.reworkSource (s : State) (g : Nat) : Option Nat :=
  let l := s.reworkable g
  match l.find? (fun n => (s.lode g n).st == lodeReclaim) with
  | some n => some n
  | none => l.foldl (fun b n => match b with
    | none => some n
    | some m => if s.betterSource g n m then some n else some m) none

/-- The gap between the highest and the lowest lode mean of a group is too wide: the SEALED lode with the lowest mean, which goes on in
RECLAIM (R249). -/
def State.wearSource (s : State) (g : Nat) : Option Nat :=
  let all := (s.stockLodes g).map (fun n => (s.lodeTotal g n, n))
  let hi := all.foldl (fun m x => Nat.max m x.1) 0
  let lo := all.foldl (fun m x => Nat.min m x.1) hi
  if s.rd STK_CFG.WL_GAP * 10 * (s.slotsOf g).length < hi - lo then
    ((all.filter (fun x => (s.reworkable g).contains x.2)).foldl (fun b x => match b with
      | none => some x
      | some m => if x.1 < m.1 then some x else some m) none).map (fun x => x.2)
  else none

/-- The class in which a group reworks now, if it does (R245). -/
def State.reworkClass (s : State) (g : Nat) : Option Nat :=
  let free := s.erasedLodes g
  let waits := (s.reworkable g).any (fun n => (s.lode g n).early || (s.lode g n).refresh)
  if free < s.sv (BANDS.FREE_LOW g) then some 1
  else if free < s.sv (BANDS.FREE_TARGET g) ∨ waits then some 6
  else none

/-- The lodes that rework takes setts from now, each with its class: the source of R245, and that of R249. -/
def State.reworkNow (s : State) (g : Nat) : List (Nat × Nat) :=
  let first := match s.reworkClass g with
    | some c => ((s.reworkSource g).map (fun n => (n, c))).toList
    | none => []
  first ++ (((s.wearSource g).toList.filter (fun n => !first.any (fun x => x.1 == n))).map (fun n => (n, 6)))

/-- Where a moved stripe goes: the same group, or another one when that is DEGRADED (R246, R252). -/
def State.moveGroup (s : State) (g : Nat) : Option Nat :=
  if s.canTake g false then some g else if bitAt g s.stk.degraded then s.nextGroup false else none

/-- Another sett that a predicate allows to share a stripe. -/
def State.partner (s : State) (k : Nat) (p : Nat → Bool) : Option Nat :=
  (s.slb.lmap.find? (fun x => x.1 != k && p x.1)).map (fun x => x.1)

/-- A sett is being moved already. -/
def State.moving (s : State) (k : Nat) : Bool := s.haul.stripes.any (fun x => x.kind != 0 && (x.a == some k || x.b == some k))

/-- A SEALED lode turns RECLAIM when it is chosen as a source (R225). -/
def State.reclaim (s : State) (w : Word) : State :=
  let q := s.locLode w
  s.when ((s.lode q.1 q.2).st == lodeSealed) (fun s => s.setLode q.1 q.2 { s.lode q.1 q.2 with st := lodeReclaim })

/-- Issue the stripe of a move of one or two setts; the source of rework or fold turns RECLAIM (R225, R246). -/
def State.issueMove (s : State) (g cls kind k : Nat) (r : Rec) (j : Option (Nat × Rec)) : State :=
  let ks := k :: (j.map (fun x => x.1)).toList
  let s := s.when (kind != 3) (fun s => s.forEach ks (fun s x => s.reclaim (s.loc x)))
  let pad := match j with
    | some x => (some x.2, s)
    | none => s.padRec
  ((pad.2.pay cls ks.length).issue g false cls kind (some k) (j.map (fun x => x.1)) (s.loc k)
    ((j.map (fun x => s.loc x.1)).getD 0) (some r) pad.1).updMoves

/-- REWORK_MOVE (R165, R245, R246, R249, R253): the ciphertext of a valid sett goes to another lode. -/
def State.doRework (s : State) (k : Nat) : State :=
  let w := s.loc k
  let q := s.locLode w
  if s.movesRun && locKind w == 1 && !s.moving k then
    match (s.reworkNow q.1).find? (fun x => x.1 == q.2), s.recAt w, s.moveGroup q.1 with
    | some (_, c), some r, some g =>
      let ok (n : Nat) : Bool := s.canPay c n (decide (c = 1) && s.overRate)
      if ok 1 then
        let j := (s.partner k (fun x => locKind (s.loc x) == 1 && s.locLode (s.loc x) == q && !s.moving x && ok 2)).bind
          (fun x => (s.recAt (s.loc x)).map (fun y => (x, y)))
        s.issueMove g c 1 k r j
      else s
    | _, _, _ => s
  else s

/-- A Clean sett of a Resident slab whose map entry names a copy (R246). -/
def State.movable (s : State) (k : Nat) : Bool :=
  (s.slab (settSlab k)).rstate == 0 && !s.dirty k && (locKind (s.loc k) == 1 || locKind (s.loc k) == 2) && !s.moving k
    && s.visible (settSlab k)

/-- Move a sett from DRAM under its pair's active key, with another one that may share the stripe. -/
def State.moveDram (s : State) (cls kind k : Nat) (ok : Nat → Bool) : State :=
  let may (slot n : Nat) : Bool := s.mayEncrypt slot false && s.canPay cls n (decide (cls = 1) && s.overRate)
  match s.settSlot k, s.nextGroup false with
  | some slot, some g =>
    if may slot 1 ∧ s.pairsIn ≠ 0 then
      let j := (s.partner k (fun x => ok x && s.settSlot x == some slot)).filter (fun _ => may slot 2)
      let s := { s with haul := { s.haul with group := (g + 1) % 8 } }
      let r := s.settRec 1 k slot
      match j with
      | none => r.2.issueMove g cls kind k r.1 none
      | some x =>
        let y := r.2.settRec 1 x slot
        y.2.issueMove g cls kind k r.1 (some (x, y.1))
    else s
  | _, _ => s

/-- A sett that fold may take: Clean, Resident, named in the Sump (R246). -/
def State.foldable (s : State) (k : Nat) : Bool := s.movable k && locKind (s.loc k) == 2

/-- SUMP_FOLD (R163, R246). -/
def State.doFold (s : State) (k : Nat) : State :=
  if s.movesRun && s.foldable k then s.moveDram (if s.on LGR_STATUS.SUMP_BOUND then 1 else 5) 2 k s.foldable else s

/-- A sett that rewrap may take: of a KEYR slab, with a copy under another slot than the active one (R246, R404). -/
def State.wrappable (s : State) (k : Nat) : Bool :=
  s.movable k && (s.slab (settSlab k)).keyr &&
    (match s.recAt (s.loc k), s.settSlot k with
      | some r, some slot => r.key != slot || r.keyVal != s.slotKey slot
      | _, _ => false)

/-- REWRAP (R163, R246, R404). -/
def State.doRewrap (s : State) (k : Nat) : State := if s.movesRun && s.wrappable k then s.moveDram 6 3 k s.wrappable else s

/-! ### What a reset or a power-up finds (R228, R229, R242) -/

/-- Erases whose DONE record is not on NAND leave UNSETTLED blocks behind; STK_UNSETTLED counts them (R228). -/
def State.settleErases (s : State) : State :=
  let l := s.stk.intents.filter (fun i => i.st == 2)
  let s := s.forEach l (fun s i => s.forEach (s.intentBlocks i) (fun s b => s.unsettle b.1 b.2.1 b.2.2))
  let s := s.forEach ((l ++ s.stk.intents.filter (fun i => i.st == 0)).filter (fun i => i.lode)) (fun s i =>
    s.setLode i.group i.num { s.lode i.group i.num with st := lodeReclaim })
  let s := s.endErases
  let s := { s with stk := { s.stk with intents := [], jpend := [] } }
  let s := s.forEach s.stk.lodes (fun s p => s.sealFull (p.1 / 8192) (p.1 % 8192))
  s.wr STK_UNSETTLED.COUNT (min (s.stk.blks.filter (fun p => p.2.st == 5)).length 65535)

end Sys2Proof.Machine
end

