-- ==== Sys2Proof/Machine/DramFx.lean ====
section
/-! DEFINITION. What a DRAM channel engine's events do: refresh, temperature, self-refresh, retraining, scrub, repair,
migration and retirement of ranks (chapter 10). -/

namespace Sys2Proof.Machine

/-! ### Ranks and channels -/

def State.rank (s : State) (c k : Nat) : Nat := s.rd (DCH_RNKS.STATE c k)

/-- A rank that carries accesses. -/
def State.rankLive (s : State) (c k : Nat) : Bool :=
  let r := s.rank c k
  decide (c < 36) && decide (k < 4) && decide (rkActive ≤ r) && decide (r ≤ rkDest)

/-- The channel runs and is not in self-refresh. -/
def State.chanAwake (s : State) (c : Nat) : Bool := s.rd (DCH_STATUS.STATE c) == 2 || s.rd (DCH_STATUS.STATE c) == 4

/-- The chip works in the background: the image comes home or is home. -/
def State.working (s : State) : Bool := s.chip == Chip.restoring || s.chip == Chip.opened

/-- Requests that wait for a rank: data in a port's write buffer that has not reached its channel engine. -/
def State.rankQueued (s : State) (c k : Nat) : Bool :=
  faces.any (fun p => (s.port p).wbuf.any (fun e => e.wait == .admitted && s.servingRank (settSlab e.sett) == (c, k)))

/-! ### Refresh (R288, R289) -/

/-- One refresh command: REFab of the rank, or REFsb of one bank in each bank group. The rows it meets are closed first (R287,
R288). -/
def State.refreshOne (s : State) (c k : Nat) : State :=
  if s.inForce (DCH_REF.MODE c) = 0 then s.closeRows c k (fun _ => true)
  else
    let b := SMap.get 0 (rankKey c k) s.dch.refBank
    let s := s.closeRows c k (fun x => x % 4 == b)
    { s with dch := { s.dch with refBank := SMap.put 0 (rankKey c k) ((b + 1) % 4) s.dch.refBank } }

def State.setLate (s : State) (c k n : Nat) : State :=
  { s with dch := { s.dch with late := SMap.put 0 (rankKey c k) n s.dch.late } }
def State.setEarly (s : State) (c k n : Nat) : State :=
  { s with dch := { s.dch with early := SMap.put 0 (rankKey c k) n s.dch.early } }

/-- DRAM_REFRESH: an interval ends, and what was written to the channel's registers takes effect (R313). With requests queued the engine may postpone up to 4 refreshes, with none it may pull in up
to 4; whether it does is its own choice, a free value (R288, R289, entry 3). -/
def State.doRefresh (s : State) (c k : Nat) : State :=
  let s := s.when (decide (c < 36)) (fun s => s.cfgTake c)
  if s.rankLive c k && s.chanAwake c then
    let late := SMap.get 0 (rankKey c k) s.dch.late
    let early := SMap.get 0 (rankKey c k) s.dch.early
    let d := s.draw 2
    let s := d.2
    if s.rankQueued c k then
      if 0 < early then s.setEarly c k (early - 1)
      else if late < 4 ∧ d.1 = 1 then s.setLate c k (late + 1)
      else ((s.forEach (List.range (late + 1)) (fun s _ => s.refreshOne c k)).setLate c k 0)
    else
      let s := (s.forEach (List.range late) (fun s _ => s.refreshOne c k)).setLate c k 0
      if d.1 = 1 ∧ early < 4 then ((s.refreshOne c k).refreshOne c k).setEarly c k (early + 1)
      else if 0 < early then s.setEarly c k (early - 1)
      else s.refreshOne c k
  else s

/-- REFRATE that the hottest reading gives (R288). -/
def refRate (t : Int) : Nat := if 95 < t then 2 else if 85 < t then 1 else 0

/-- MR4_READ (R288, R304): `temps` are the band edges that the dies of the channel report. The activate limit begins above 95 °C and
ends at 93 °C. -/
def State.doMr4 (s : State) (c : Nat) (temps : List Int) : State :=
  match temps with
  | [] => s
  | t :: ts =>
    if s.chanAwake c && decide (c < 36) then
      let m := ts.foldl (fun a b => if a < b then b else a) t
      let old := s.rd (DCH_STATUS.REFRATE c)
      let r := refRate m
      let lim := decide (95 < m) || (SMap.get false c s.dch.actLimit && decide (93 < m))
      let s := { s with dch := { s.dch with actLimit := SMap.put false c lim s.dch.actLimit } }
      ((s.wr (DCH_STATUS.REFRATE c) r).wrInt (DCH_REF.MAXTEMP c) m).raiseIf (r != old && r != 0) (6 * c + 4)
    else s

/-- ROW_IDLE_CLOSE (R287): a bank has been idle for OPEN_MAX; MODE 1 keeps every row open. -/
def State.doRowIdle (s : State) (c k b : Nat) : State :=
  if s.inForce (DCH_PRED.MODE c) = 1 then s
  else
    let key := rankKey c k * 512 + b % 512
    s.setBank key { s.bank key with row := 0 }

/-! ### Self-refresh (R290 to R292) -/

/-- Requests are queued for a channel. -/
def State.chanQueued (s : State) (c : Nat) : Bool :=
  [0, 1, 2, 3].any (fun k => s.rankQueued c k) || s.dch.repairs.any (fun r => settChan r.sett == c)
    || (s.dch.mig.map (fun m => (m.chan == c || m.dstChan == c) && !m.paused)).getD false

/-- SELF_REFRESH_ENTRY: no request has been queued for DCH_SR.IDLE ticks (R287, R290 to R292; a channel with no request yet counts from
tick 0); `abort` says that a request arrived before SRE was issued. -/
def State.doSrEntry (s : State) (c : Nat) (abort : Bool) : State :=
  if decide (c < 36) && s.chanAwake c && s.inForce (DCH_SR.EN c) == 1 && !s.on (DCH_STATUS.EQ_BUSY c)
      && decide (SMap.get 0 c s.dch.lastReq + s.inForce (DCH_SR.IDLE c) ≤ s.tick + 1)
      && !s.on (DCH_STATUS.SCRUB_BUSY c) && !s.chanQueued c && [0, 1, 2, 3].all (fun k => SMap.get 0 (rankKey c k) s.dch.late == 0) then
    if abort then s.addSat (DCH_SR_CNT.ABORTS c) 1
    else s.chanSleep c
  else s

/-- SELF_REFRESH_EXIT (R290 to R292): `late` says that the request arrived during entry, at or after SRE. -/
def State.doSrExit (s : State) (c : Nat) (late : Bool) : State :=
  if s.rd (DCH_STATUS.STATE c) = 3 ∧ s.chip ≠ .parked ∧ s.chip ≠ .hold ∧ s.chip ≠ .save then
    (s.chanUp c).when late (fun s => s.addSat (DCH_SR_LATE.COUNT c) 1)
  else s

/-! ### Retraining (R294 to R296) -/

/-- The last reading, in 0.25 °C, of the two-wire sensor that lies by a rank: 0 to 31 on TW3, 32 to 63 on TW4. Which one does is not
stated (DESIGN CHOICE 144). -/
def State.rankTemp (s : State) (sensor : Nat) : Int := s.rdInt (TWB_SENS.TEMP (3 + sensor / 32 % 2) (sensor % 32))

/-- The rank's temperature when it was last trained: at its last retrain, or at boot (R294). -/
def State.lastTemp (s : State) (c k sensor : Nat) : Int :=
  (SMap.get none (rankKey c k) s.dch.eqTemp).getD (s.dch.bootTemps.getD (sensor % 64) 0)

/-- A retrain of the rank is due: its period, its temperature, or one device's corrections (R294). -/
def State.retrainDue (s : State) (c k sensor : Nat) : Bool :=
  let key := rankKey c k
  let dt := s.rankTemp sensor - s.lastTemp c k sensor
  decide (SMap.get 0 key s.dch.eqTick + s.inForce (DCH_EQ.PERIOD c) ≤ s.tick)
  || decide (4 * s.inForce (DCH_EQ.TDELTA c) ≤ dt.natAbs)
  || (List.range 10).any (fun d => decide (s.inForce (DCH_EQ2.EQ_CE c) ≤ SMap.get 0 (key * 16 + d) s.dch.eqCe))

/-- margin(d) from what the trials show: bit j + 8 of the operand says that at delay step j, from −8 to 8, some held line read back
with an error in device d; the width is that of the steps around 0 that are all clean (R295; DESIGN CHOICE 145). -/
def marginOf (errs : Nat) : Nat :=
  let clean (w : Nat) : Bool := (List.range (2 * w + 1)).all (fun i => !bitAt (8 - w + i) errs)
  (((List.range 9).reverse.find? clean).map (fun w => 2 * w + 1)).getD 0

/-- One tap of one device: the value and the margin that the trials leave (R295). -/
def tryTap (best : Int) (m up down hyst : Nat) : Int × Nat :=
  let a := if m + hyst ≤ up then (best + 1, up) else (best, m)
  if a.2 + hyst ≤ down then (best - 1, down) else a

/-- The margin that a measurement of a tap gave: 0 before the trials, 1 at best + 1, 2 at best − 1. -/
def marginAt (ms : List Nat) (tap i : Nat) : Nat := marginOf (ms.getD (tap * 3 + i) 0)

/-- Retrain one device; the result is its best margin. -/
def State.retrainDevice (s : State) (c k d : Nat) (ms : List Nat) : State × Nat :=
  [0, 1, 2, 3].foldl (fun (a : State × Nat) t =>
    let key := (rankKey c k * 16 + d) * 4 + t
    let r := tryTap (SMap.get 0 key a.1.dch.taps) (marginAt ms t 0) (marginAt ms t 1) (marginAt ms t 2) (a.1.inForce (DCH_EQ2.HYST c))
    ({ a.1 with dch := { a.1.dch with taps := SMap.put 0 key r.1 a.1.dch.taps } }, r.2)) (s, 0)

/-- A device that the retrain leaves below EQ_MIN is counted and raised (R296). -/
def State.checkMargin (s : State) (c m : Nat) : State :=
  s.when (decide (m < s.inForce (DCH_EQ2.EQ_MIN c))) (fun s => (s.addSat (DCH_EQ_STAT.FAILS c) 1).raise (6 * c + 3))

/-- What a retrain starts anew: its period, its temperature and the corrections per device (R294). -/
def State.retrained (s : State) (c k : Nat) (temp : Int) : State :=
  let key := rankKey c k
  let ce := (List.range 10).foldl (fun m d => SMap.put 0 (key * 16 + d) 0 m) s.dch.eqCe
  { s with dch := { s.dch with
      eqCe := ce
      eqTick := SMap.put 0 key s.tick s.dch.eqTick
      eqTemp := SMap.put none key (some temp) s.dch.eqTemp } }

/-- DEVICE_RETRAIN (R294 to R296): the trials run, each line they hold written with its own data, so no line changes. `margins` holds,
per device D0 to D9, what each margin measurement showed. The retrain is over with the next tick (DESIGN CHOICE 146). -/
def State.doRetrain (s : State) (c k sensor : Nat) (margins : List (List Nat)) : State :=
  if s.working && s.inForce (DCH_EQ.EN c) == 1 && s.rankLive c k && s.retrainDue c k sensor && !s.on (DCH_STATUS.EQ_BUSY c) then
    let old := s.dch.taps
    let s := ((s.wakeChan c).closeRows c k (fun _ => true)).wr (DCH_STATUS.EQ_BUSY c) 1
    let r := (List.range 10).foldl (fun (a : State × Nat) d =>
      let x := a.1.retrainDevice c k d (margins.getD d [])
      (x.1.checkMargin c x.2, min a.2 x.2)) (s, 255)
    let t := r.1.retrained c k (s.rankTemp sensor)
    { t with dch := { t.dch with eqRun := t.dch.eqRun ++ [⟨c, k, old, r.2⟩] } }
  else s

/-- Retrains that ran are complete: their taps stand, and they are counted (R296). -/
def State.endRetrains (s : State) : State :=
  let l := s.dch.eqRun
  let s := { s with dch := { s.dch with eqRun := [] } }
  s.forEach l (fun s r => ((s.addSat (DCH_EQ_STAT.RUNS r.chan) 1).wr (DCH_EQ_STAT.MARGIN r.chan) r.margin).wr (DCH_STATUS.EQ_BUSY r.chan) 0)

/-! ### Scrub (R297, R407) -/

/-- Scrub reads each line of a sett. -/
def State.scrubSett (s : State) (k : Nat) (devs : SMap Nat) : State :=
  s.forEach (List.range 1024) (fun s l => (s.readLine k l (SMap.get 0 l devs) txScrub).1)

/-- The slab of a rank at a place within it, the inverse of the rank's share of its channel's slabs (R281). -/
def State.slabOf (s : State) (c k place : Nat) : Nat :=
  c * 65536 + (if s.svOn PROFILE.TWO_RANK then place * 4 + k % 2 * 2 + k / 2 else place * 2 + k / 2)

/-- The slabs of a rank before a slab of it. -/
def State.rankPlace (s : State) (slab : Nat) : Nat := slab % 65536 / (if s.svOn PROFILE.TWO_RANK then 4 else 2)

/-- The slab whose data a slab's place in DRAM holds: where its rank serves a REPLACED one, the slab at the same place there (R297,
R306). -/
def State.heldSlab (s : State) (slab : Nat) : Nat :=
  let c := slabChan slab
  let k := s.slabRank slab
  match ((List.range 144).find? (fun i => s.rank (i / 4) (i % 4) == rkReplaced && s.rd (DCH_RNKS.BY_CHAN (i / 4) (i % 4)) == c
      && s.rd (DCH_RNKS.BY_RANK (i / 4) (i % 4)) == k)) with
  | some i => s.slabOf (i / 4) (i % 4) (s.rankPlace slab)
  | none => slab

/-- Lines of a sett that an engine's operation holds (R299). -/
def State.settHeld (s : State) (k : Nat) : Bool := s.dch.repairs.any (fun r => r.sett == k)

/-- The sett that scrub meets at a sett's address. -/
def State.scrubTarget (s : State) (k : Nat) : Nat := s.heldSlab (settSlab k) * 64 + k % 64

/-- Scrub treats a sett by the state of the rank it lies on; a spare rank's own carve-out slabs are read, not zeroed. Where a migration
has copied the sett, the source's line is read beside the destination's (R297, R308). -/
def State.scrubOne (s : State) (k : Nat) (devs : SMap Nat) : State :=
  let slab := settSlab k
  let r := s.rank (slabChan slab) (s.slabRank slab)
  if r = rkSpareFree ∧ !slabCarve slab then ((s.engineZero k).scrubSett k devs)
  else if (s.slab slab).rstate = 0 then
    let src := s.readRank k true
    let t := s.scrubSett k devs
    t.when (src != s.readRank k false) (fun t =>
      t.forEach (List.range 1024) (fun t l => ((t.columnOn k l 1 src).readOn src k l (SMap.get 0 l devs / 1024) (t.settState k) false txScrub).1))
  else s

/-- The next sett of a pass is due: a pass of the channel's 4,194,304 setts takes DCH_SCRUB.HOURS hours (R297; DESIGN CHOICE 147). -/
def State.scrubDue (s : State) (c : Nat) : Bool :=
  let n := s.rd (DCH_SCRUB_PTR.LINE c) / 1024
  decide (n * (s.inForce (DCH_SCRUB.HOURS c) * 117964800) ≤ (s.tick - SMap.get 0 c s.dch.scrubTick) * 4194304)

/-- The pointer goes on by one sett; past the channel's end a pass is complete, and the next begins. -/
def State.scrubOn (s : State) (c : Nat) : State :=
  let n := s.rd (DCH_SCRUB_PTR.LINE c) / 1024 + 1
  if n = 4194304 then
    let s := { s with dch := { s.dch with scrubTick := SMap.put 0 c s.tick s.dch.scrubTick } }
    (s.wr (DCH_SCRUB_PTR.LINE c) 0).addWrap (DCH_SCRUB_PASS.COUNT c) 1
  else s.wr (DCH_SCRUB_PTR.LINE c) (n * 1024)

/-- SCRUB_STEP (R163, R297): `devs` names the devices in error, by line of the sett. A line that a repair holds makes the step wait
(R299). Scrub holds the channel until the next tick (DESIGN CHOICE 146). -/
def State.doScrub (s : State) (c : Nat) (devs : SMap Nat) : State :=
  let at_ := c * 4194304 + s.rd (DCH_SCRUB_PTR.LINE c) / 1024
  let k := s.scrubTarget at_
  if s.working && s.inForce (DCH_SCRUB.EN c) == 1 && decide (c < 36) && s.scrubDue c && !s.settHeld k && s.canPay 7 1 false then
    let r := s.rank c (s.slabRank (settSlab at_))
    let skip := decide (r = rkAbsent) || decide (rkReplaced ≤ r)
    (if skip then s else (((s.wakeChan c).pay 7 1).scrubOne k devs).wr (DCH_STATUS.SCRUB_BUSY c) 1).scrubOn c
  else s

/-- With the tick channels have gone through a refresh interval, and what held them is over; a channel that trained or restarted is
ready (R313; DESIGN CHOICE 146). -/
def State.dchTick (s : State) : State :=
  let s := s.endRetrains.forEach s.dch.cfgNew (fun s c => s.cfgTake c)
  s.forEach (List.range 36) (fun s c =>
    let st := s.rd (DCH_STATUS.STATE c)
    let s := s.when (s.on (DCH_STATUS.SCRUB_BUSY c)) (fun s => s.wr (DCH_STATUS.SCRUB_BUSY c) 0)
    s.when (st == 1 || st == 5) (fun s => s.wr (DCH_STATUS.STATE c) (s.awakeState c)))

/-! ### Repair from flash (R300 to R302) -/

/-- Forget or note that a line still fails after its repair (R301). -/
def State.setHard (s : State) (k l : Nat) (b : Bool) : State :=
  { s with dch := { s.dch with hard := SMap.put false (k * 1024 + l) b s.dch.hard } }

/-- The repaired line is in place and read back: partial writes that waited merge into it, then the other accesses go on; with the
read-back uncorrectable the line fails again at its next read (R300 steps 5 and 6, R301, R302). -/
def State.repaired (s : State) (k l devs : Nat) : State :=
  let c := settChan k
  let s := ((s.setHard k l false).dropRepair k l).addSat (DCH_REPAIR.OK c) 1
  let s := s.forEach faces (fun s p => s.forEach ((s.pendingTo p k).filter (fun e => e.line == l)) (fun s e => s.drainWrite p e))
  let s := s.retryPorts
  s.when (decide (2 ≤ popCount 10 devs)) (fun s => (s.setHard k l true).addSat (DCH_REPAIR_HARD.COUNT c) 1)

/-- The page that a repair reads: that of data position HALF × 4 + line ÷ 256 of the stripe that its entry names (R300). -/
def State.repairPage (s : State) (r : Repair) : Option (Nat × Nat × Nat) :=
  let sump := locKind r.entry == 2
  if locKind r.entry = 1 ∨ sump then
    let half := if sump then locNum r.entry % 2 else bitsOf 0 1 r.entry.toNat
    (s.stripeBlocks (locGroup r.entry) (locNum r.entry) sump)[half * 4 + r.line / 256]?
  else none

/-- The demand read of a repair waits for a die that erases (R241, R302). -/
def State.repairWaits (s : State) (r : Repair) : Bool :=
  !r.asked && (s.repairPage r).any (fun p => (s.die p.1 p.2.1).busy && !(s.die p.1 p.2.1).suspended)

/-- The demand read of a repair is queued for its die: an erase that runs there is suspended where R241 lets it be (R241, R300 step 2,
R302). -/
def State.askPage (s : State) (r : Repair) : State :=
  match s.repairPage r with
  | none => s
  | some p =>
    let d := s.die p.1 p.2.1
    let s := if s.repairWaits r ∧ s.maySuspend p.1 d ∧ s.resumeOver p.1 d then s.suspend p.1 p.2.1 else s
    if s.repairWaits r then s
    else
      let mark (x : Repair) : Repair := if x.sett = r.sett ∧ x.line = r.line then { x with asked := true } else x
      { s with dch := { s.dch with repairs := s.dch.repairs.map mark } }

/-- Repairs in the hub clock: each whose demand read is not on its way asks for it. -/
def State.repairClock (s : State) : State :=
  s.when s.working (fun s => s.forEach (s.dch.repairs.filter (fun r => !r.asked && !r.twin)) (fun s r => s.askPage r))

/-- Repaired data from flash or from the twin goes into the line. -/
def State.repairWrite (s : State) (k l : Nat) (d : Line) (poison : Bool) (devs : Nat) : State :=
  let s := if poison then s.enginePoison k l else (s.wholeLine k l).writeLine k l d fullMask
  (s.column k l).repaired k l devs

/-- No copy of the line can be had: it is poison, and its sett turns Dirty (R300, R101, R37). -/
def State.repairFails (s : State) (k l : Nat) : State :=
  let s := ((s.enginePoison k l).reportPoison k l (some (((s.repairOf k l).map (fun r => r.who)).getD txInternal))).addSat (DCH_REPAIR.FAIL (settChan k)) 1
  ((s.dropRepair k l).makeDirty k).retryPorts

/-- The copy on NAND cannot be used: the twin is asked, or the repair has failed (R300, R450). -/
def State.repairElse (s : State) (r : Repair) : State :=
  if s.canAsk then
    let mark (x : Repair) : Repair := if x.sett = r.sett ∧ x.line = r.line then { x with twin := true } else x
    ({ s with dch := { s.dch with repairs := s.dch.repairs.map mark } }).askTwin r.sett (r.line + 1)
  else s.repairFails r.sett r.line

/-- Step 5 of R300: whether the sett still stands as the repair found it; a fresh repair asks only for its entry. -/
def State.repairHolds (s : State) (r : Repair) : Bool :=
  s.loc r.sett == r.entry && (r.fresh || s.settState r.sett == .clean)

/-- The sett is Clean under another entry: the repair starts again with it. -/
def State.repairAgain (s : State) (r : Repair) : State :=
  let mark (x : Repair) : Repair := if x.sett = r.sett ∧ x.line = r.line then { x with entry := s.loc r.sett, twin := false, asked := false } else x
  { s with dch := { s.dch with repairs := s.dch.repairs.map mark } }

/-- The sett has changed: the repaired data is dropped, and the line is handled as its new state gives (R300, R298). -/
def State.repairChanged (s : State) (r : Repair) : State :=
  let s := s.dropRepair r.sett r.line
  (match s.settState r.sett with
    | .zero => s.engineZeroLine r.sett r.line
    | .lost => s.enginePoison r.sett r.line
    | _ => (s.enginePoison r.sett r.line).reportPoison r.sett r.line (some r.who)).column r.sett r.line |>.retryPorts

/-- Step 5 with data in hand. -/
def State.repairStep (s : State) (r : Repair) (d : Line) (poison : Bool) (devs : Nat) : State :=
  if s.repairHolds r then s.repairWrite r.sett r.line d poison devs
  else if s.settState r.sett = .clean then s.repairAgain r
  else s.repairChanged r

/-- A line of a record (R186). -/
def Rec.line (r : Rec) (l : Nat) : Line := lineOfMem r.data (l * 64)

/-- REPAIR_PAGE_READY (R300 to R302): `devs` are the devices in error in the read-back. -/
def State.doRepair (s : State) (k l : Nat) (page : PageRead) (devs : Nat) : State :=
  match s.repairOf k l with
  | none => s
  | some r =>
    let e := s.slab (settSlab k)
    if !s.working then s
    else if e.relq || e.retire then (s.dropRepair k l).retryPorts
    else if r.twin || s.repairWaits r then s
    else match s.recAt r.entry with
      | none => s.repairElse r
      | some x =>
        match s.findPages ((s.pagesAt r.entry).drop (l / 256) |>.take 1) page true with
        | none => s
        | some (had, s) => if had ∧ s.decrypts x then s.repairStep r (x.line l) (x.poison.getLsbD l) devs else s.repairElse r

/-! ### The rank map (R309) -/

/-- Record a rank's state, and the rank that serves it, in the health area. -/
def State.mapRank (s : State) (c k st byC byK : Nat) : State :=
  { s with dch := { s.dch with rankMap := SMap.put 0 (rankKey c k) (st + 1 + byC * 16 + byK * 1024) s.dch.rankMap } }

/-- A page of the rank map is programmed in the health area, on N00 and N36: what it records stands where one copy does (R216, R309). -/
def State.mapWrite (s : State) (ok : Bool × Bool) (f : State → State) : Bool × State :=
  let p := s.healthProgram ok.1 ok.2
  (p.1, if p.1 then f p.2 else p.2)

/-- A rank enters self-refresh for good, or leaves it (R306, R311). -/
def State.setRankSr (s : State) (c k : Nat) (b : Bool) : State :=
  { s with dch := { s.dch with rankSr := SMap.put false (rankKey c k) b s.dch.rankSr } }

/-- STATE of a channel that is awake follows its ranks (R313). -/
def State.chanUse (s : State) (c : Nat) : State :=
  s.when (s.rd (DCH_STATUS.STATE c) == 2 || s.rd (DCH_STATUS.STATE c) == 4) (fun s => s.wr (DCH_STATUS.STATE c) (s.awakeState c))

/-- A slab is copied into its place: the column commands of the writes (R306, R311). -/
def State.copyColumns (s : State) (slab : Nat) : State :=
  s.forEach (List.range 64) (fun s b => s.columnSett (slab * 64 + b))

/-- A carve-out slab n of a channel has a new home (R306, R311, R313). -/
def State.setCrd (s : State) (c n slab : Nat) : State :=
  let s := (s.wr (DCH_CRD.SLAB c n) slab).wr (DCH_CRD.VALID c n) 1
  { s with dch := { s.dch with crdMap := SMap.put 0 (c * 16 + n) (slab + 1) s.dch.crdMap } }

/-- A phase of a migration or retirement begins; the channel's source is raised (R304). -/
def State.phase (s : State) (c n : Nat) : State := (s.wr (DCH_MIG_CTL.PHASE c) n).raise (6 * c + 5)

/-- Carve-out slabs that lie on a rank: those of its channel that were not displaced, and those displaced to it. -/
def State.carveOn (s : State) (c k : Nat) : List (Nat × Nat) :=
  ((List.range 36).flatMap (fun d => (List.range 16).map (fun n => (d, n)))).filter (fun x =>
    let h := s.homeOf (x.1 * 65536 + 65520 + x.2)
    decide (s.chanPresent x.1) && slabChan h == c && s.slabRank h == k)

/-- A slab that serves as a carve-out's home. -/
def State.isHome (s : State) (i : Nat) : Bool := s.dch.crdMap.any (fun p => p.2 == i + 1)

/-- The slabs of a rank that hold no carve-out, highest first. -/
def State.rankSlabsDown (s : State) (c k : Nat) : List Nat :=
  (((List.range 65520).reverse).map (fun j => c * 65536 + j)).filter (fun i => s.slabRank i == k)

/-! ### Migration (R305 to R308) -/

/-- Ranks of C32 to C35 in a state, highest-numbered first, by channel and then k. -/
def State.spareRanks (s : State) (st : Nat) : List (Nat × Nat) :=
  ((List.range 16).reverse.map (fun i => (32 + i / 4, i % 4))).filter (fun x => s.rank x.1 x.2 == st)

/-- The home of displaced carve-out slabs once a destination is taken: the SPARE_HOME rank, or the highest-numbered other
SPARE_FREE rank (R305, R306). -/
def State.homeRank (s : State) (dc dk : Nat) : Option (Nat × Nat) :=
  (s.spareRanks rkSpareHome ++ (s.spareRanks rkSpareFree).filter (fun x => x != (dc, dk))).head?

/-- The result of START (R305). -/
def State.startResult (s : State) (c k dc dk : Nat) : Nat :=
  if s.dch.mig.isSome then 1
  else if s.sv PROFILE.PROFILE ≠ 1 ∨ s.chip ≠ .opened then 2
  else if s.rank c k ≠ rkActive then 4
  else if dc < 32 ∨ 35 < dc ∨ s.rank dc dk ≠ rkSpareFree then 5
  else if (s.homeRank dc dk).isNone then 3
  else 0

/-- DISPLACE: the carve-out slabs that lie on the destination go to the home rank (R306). -/
def State.displace (s : State) (dc dk hc hk : Nat) : State :=
  let on_ := s.carveOn dc dk
  let free := (s.rankSlabsDown hc hk).filter (fun i => !s.isHome i)
  let s := s.when (s.rank hc hk == rkSpareFree) (fun s => (s.wr (DCH_RNKS.STATE hc hk) rkSpareHome).mapRank hc hk rkSpareHome 0 0)
  (s.forEach (List.zip on_ free) (fun s x => (s.setCrd x.1.1 x.1.2 x.2).copyColumns (x.1.1 * 65536 + 65520 + x.1.2))).chanUse hc

/-- The next slab of a rank at or above a slab number of its channel, carve-out slabs included. -/
def State.nextOfRank (s : State) (c k j : Nat) : Option Nat :=
  ((List.range (65536 - j)).map (fun i => j + i)).find? (fun j => s.slabRank (c * 65536 + j) == k)

/-- DISPLACE ends with its record in the rank map, and COPY begins at the rank's first slab; with no copy of the record the phase stays
(R306, R309). -/
def State.displaceMig (s : State) (m : Mig) (ok : Bool × Bool) : State :=
  let d := s.mapWrite ok (fun s => s.displace m.dstChan m.dstRank m.homeChan m.homeRank)
  d.2.when d.1 (fun s => (s.phase m.chan 2)
    |>.wr (DCH_MIG_PTR.SLAB m.chan) ((s.nextOfRank m.chan m.rank 0).getD 0) |>.wr (DCH_MIG_PTR.SETT m.chan) 0
    |>.wr (DCH_MIG_RATE.SLABS m.chan) 0)

/-- START is accepted: DISPLACE begins. -/
def State.startMig (s : State) (c k dc dk : Nat) (h : Nat × Nat) (ok : Bool × Bool) : State :=
  let m : Mig :=
    { chan := c
      rank := k
      dstChan := dc
      dstRank := dk
      homeChan := h.1
      homeRank := h.2
      retire := false
      quota := 0
      paused := false }
  let s := { s with dch := { s.dch with mig := some m } }
  let s := (s.wr (DCH_RNKS.STATE c k) rkSource).wr (DCH_RNKS.STATE dc dk) rkDest
  ((s.wakeChan dc).phase c 1).displaceMig m ok

/-- MIG_START on a channel: RANK and DCH_MIG_DST name source and destination (R305, R306, R313). -/
def State.doMigStart (s : State) (c : Nat) (ok : Bool × Bool) : State :=
  if s.hubOn && decide (c < 36) then
    let k := s.rd (DCH_MIG_CTL.RANK c)
    let dc := s.rd (DCH_MIG_DST.CHANNEL c)
    let dk := s.rd (DCH_MIG_DST.RANK c)
    let r := s.startResult c k dc dk
    let s' := s.wr (DCH_MIG_CTL.RESULT c) r
    if r = 0 then
      match s.homeRank dc dk with
      | some h => s'.startMig c k dc dk h ok
      | none => s'
    else s'
  else s

/-- The ranks read as the rank map has them: the destination serves the source (R306). -/
def State.migDone (s : State) (m : Mig) : State :=
  let s := s |>.wr (DCH_RNKS.BY_CHAN m.chan m.rank) m.dstChan |>.wr (DCH_RNKS.BY_RANK m.chan m.rank) m.dstRank
    |>.wr (DCH_RNKS.STATE m.chan m.rank) rkReplaced |>.wr (DCH_RNKS.STATE m.dstChan m.dstRank) rkActive
  let s := ({ s with dch := { s.dch with mig := none } }).setRankSr m.chan m.rank true
  let s := (s.chanUse m.chan).chanUse m.dstChan
  (s.phase m.chan 6).dramRecords m.chan m.rank

/-- COMMIT and DONE: the rank map records the source as REPLACED, only then the ranks read so, and the source stays in self-refresh; with
no copy of the record the phase stays (R306, R309, R330). -/
def State.commitMig (s : State) (m : Mig) (ok : Bool × Bool) : State :=
  let p := s.mapWrite ok (fun s =>
    (s.mapRank m.chan m.rank rkReplaced m.dstChan m.dstRank).mapRank m.dstChan m.dstRank rkActive 0 0)
  if p.1 then p.2.migDone m else p.2

/-- The copy of a sett has ended: the pointer goes on, MIG clears behind the last sett of a slab, and COMMIT follows the last
slab (R306). -/
def State.migOn (s : State) (m : Mig) (ok : Bool × Bool) : State :=
  let j := s.rd (DCH_MIG_PTR.SLAB m.chan)
  let t := s.rd (DCH_MIG_PTR.SETT m.chan)
  if t < 63 then s.wr (DCH_MIG_PTR.SETT m.chan) (t + 1)
  else
    let s := (s.setLock (m.chan * 65536 + j) 13 false).addSat (DCH_MIG_RATE.SLABS m.chan) 1
    match s.nextOfRank m.chan m.rank (j + 1) with
    | some n => (s.wr (DCH_MIG_PTR.SLAB m.chan) n).wr (DCH_MIG_PTR.SETT m.chan) 0
    | none => (s.phase m.chan 3).commitMig m ok

/-- The sett under copy is read from the source and written to the destination. A line that a repair holds is waited for; a source or
destination that has died ends the migration (R299, R306 to R308). -/
def State.migSett (s : State) (m : Mig) (k : Nat) (devs : SMap Nat) (ok : Bool × Bool) : State :=
  let t := s.scrubSett k devs
  if t.settHeld k || t.dch.mig.isNone then t
  else (t.forEach (List.range 8) (fun t g => t.columnOn k g 128 (m.dstChan, m.dstRank))).migOn m ok

/-- MIG_COPY_SETT (R163, R306 to R308): `devs` by line of the sett read; `ok`: the program success of a rank map page that falls due. -/
def State.doMigCopy (s : State) (devs : SMap Nat) (ok : Bool × Bool) : State :=
  match s.dch.mig with
  | none => s
  | some m =>
    let run := s.working && !m.retire && !m.paused && s.rank m.chan m.rank == rkSource
    let ph := s.rd (DCH_MIG_CTL.PHASE m.chan)
    if run && ph == 1 then s.displaceMig m ok
    else if run && ph == 3 then s.commitMig m ok
    else if run && !s.settHeld ((m.chan * 65536 + s.rd (DCH_MIG_PTR.SLAB m.chan)) * 64 + s.rd (DCH_MIG_PTR.SETT m.chan))
        && decide (m.quota < Nat.max 1 (s.rd (DCH_MIG_RATE.SETTS m.chan))) && s.canPay 4 1 false then
      let slab := m.chan * 65536 + s.rd (DCH_MIG_PTR.SLAB m.chan)
      let k := slab * 64 + s.rd (DCH_MIG_PTR.SETT m.chan)
      let m := { m with quota := m.quota + 1 }
      let s := ({ s with dch := { s.dch with mig := some m } }).pay 4 1
      let s := (s.wakeChan m.dstChan).setLock slab 13 true
      s.migSett m k devs ok
    else s

/-- MIG_ABORT on a channel: MIG clears and the source serves every slab; DISPLACE stands (R308). -/
def State.doMigAbort (s : State) (c : Nat) : State :=
  match s.dch.mig with
  | none => s
  | some m =>
    if m.chan = c ∧ !m.retire ∧ s.hubOn then
      let s := s.setLock (c * 65536 + s.rd (DCH_MIG_PTR.SLAB c)) 13 false
      let s := { s with dch := { s.dch with mig := none } }
      (s.endMig m).wr (DCH_MIG_CTL.RESULT c) 0 |>.phase c 0
    else s

/-! ### Retirement (R311) -/

/-- A sett of a slab that a rank retirement takes becomes Lost and is reported (R101, R37). -/
def State.retireSett (s : State) (k : Nat) : State :=
  if s.settState k = .lost then s.poisonDram k
  else (((s.clearDirty k).setLoc k locLost).poisonDram k).reportLost k

/-- A rank retirement sets RETIRE on a slab, also where it stands already: its hauls end, its repairs drop, and its setts become
Lost (R101, R122, R189, R302). -/
def State.retireSlab (s : State) (i : Nat) : State :=
  let s := (s.setLock i 19 true).abortSlab i
  let s := { s with dch := { s.dch with repairs := s.dch.repairs.filter (fun r => settSlab r.sett != i) } }
  s.forEach ((List.range 64).map (fun b => i * 64 + b)) (fun s k => s.retireSett k)

/-- Host-visible slabs of a channel's surviving ranks, highest first, that may become homes. -/
def State.homesOf (s : State) (c x k : Nat) : List Nat :=
  (((List.range 65520).reverse).map (fun j => x * 65536 + j)).filter (fun i =>
    s.visible i && !(s.slab i).retire && s.rank x (s.slabRank i) == rkActive && !(x == c && s.slabRank i == k) && !s.isHome i)

/-- Those of one surviving rank: of the one whose slab is highest (R311; DESIGN CHOICE 148). -/
def State.homeSlabs (s : State) (c x k : Nat) : List Nat :=
  let l := s.homesOf c x k
  match l with
  | [] => []
  | i :: _ => l.filter (fun j => s.slabRank j == s.slabRank i)

/-- The channel whose slabs become homes: the rank's own, or else the lowest-numbered one that has a surviving rank. -/
def State.homeChan (s : State) (c k : Nat) : Nat :=
  ((c :: List.range 36).find? (fun x => !(s.homeSlabs c x k).isEmpty)).getD c

/-- Carve-out slabs go to their home slabs: the copy's writes, and the homes in the rank map (R309, R311). -/
def State.takeHomes (s : State) (l : List ((Nat × Nat) × Nat)) : State :=
  s.forEach l (fun s x => (s.setCrd x.1.1 x.1.2 x.2).copyColumns (x.1.1 * 65536 + 65520 + x.1.2))

/-- HOME and RETIRE of a rank, and what follows (R309, R311, R330); `ok`: the program success of the rank map's pages. -/
def State.retireRank (s : State) (c k : Nat) (ok : Bool × Bool) : State :=
  let s := s.phase c 4
  let l := List.zip (s.carveOn c k) (s.homeSlabs c (s.homeChan c k) k)
  let s := ((s.forEach l (fun s x => s.retireSlab x.2)).mapWrite ok (fun s => s.takeHomes l)).2
  let s := s.phase c 5
  let mine := ((List.range 65520).map (fun j => c * 65536 + j)).filter (fun i => s.visible i && s.slabRank i == k)
  let s := s.forEach mine (fun s i => s.retireSlab i)
  let s := ((s.wr (DCH_RNKS.STATE c k) rkRetired).mapWrite ok (fun s => s.mapRank c k rkRetired 0 0)).2
  let s := (s.setRankSr c k true).chanUse c
  ((s.phase c 6).dramRecords c k).retryPorts

/-- MIG_RETIRE on a channel (R311, R313). -/
def State.doMigRetire (s : State) (c : Nat) (ok : Bool × Bool) : State :=
  if s.hubOn && decide (c < 36) then
    let k := s.rd (DCH_MIG_CTL.RANK c)
    if s.dch.mig.isSome then s.wr (DCH_MIG_CTL.RESULT c) 1
    else if s.rank c k = rkActive ∨ s.rank c k = rkDead then (s.wr (DCH_MIG_CTL.RESULT c) 0).retireRank c k ok
    else s.wr (DCH_MIG_CTL.RESULT c) 4
  else s

/-! ### Dead ranks (R310) -/

/-- RANK_STOPS_ANSWERING (R310). -/
def State.doRankSilent (s : State) (c k : Nat) : State :=
  if s.rankLive c k && s.hubOn then s.rankDead c k else s

/-- A rank found dead at boot, whose training has failed: in Slate a spare takes its place with no copy, else it is retired (R304, R305,
R309, R310). -/
def State.bootDead (s : State) (c k : Nat) : State :=
  let s := ((s.wr (DCH_RNKS.STATE c k) rkDead).raise (6 * c + 3)).mapWrite (true, true) (fun s => s.mapRank c k rkDead 0 0) |>.2
  let dst := (s.spareRanks rkSpareFree).reverse.find? (fun d => (s.homeRank d.1 d.2).isSome)
  match decide (s.sv PROFILE.PROFILE = 1) && decide (c < 32), dst with
  | true, some d =>
    match s.homeRank d.1 d.2 with
    | some h =>
      let s := (s.mapWrite (true, true) (fun s =>
        ((s.displace d.1 d.2 h.1 h.2).mapRank c k rkReplaced d.1 d.2).mapRank d.1 d.2 rkActive 0 0)).2
      (s |>.wr (DCH_RNKS.BY_CHAN c k) d.1 |>.wr (DCH_RNKS.BY_RANK c k) d.2
        |>.wr (DCH_RNKS.STATE c k) rkReplaced |>.wr (DCH_RNKS.STATE d.1 d.2) rkActive).setRankSr c k true
    | none => s
  | _, _ =>
    let l := List.zip (s.carveOn c k) (s.homeSlabs c (s.homeChan c k) k)
    let s := (s.mapWrite (true, true) (fun s => (s.takeHomes l).mapRank c k rkRetired 0 0)).2
    (s.wr (DCH_RNKS.STATE c k) rkRetired).setRankSr c k true

end Sys2Proof.Machine
end

