-- ==== Sys2Proof/Machine/HostFx.lean ====
section
/-! DEFINITION. What a host port's link and its memory accesses do (chapters 02, 06, 11, 13, 23). -/

namespace Sys2Proof.Machine

/-! ### The link (R314, R315, R326, R327, R601) -/

/-- The port's link carries requests. -/
def State.linkUp (s : State) (p : Nat) : Bool := s.on (HPT_STATUS.LINK_UP p)

/-- The port may take CXL.mem requests: its face is open, no fence stands, and IDE is secure where it is asked for (R260, R326). -/
def State.memOk (s : State) (p : Nat) : Bool :=
  decide (p < 6) && s.linkUp p && s.faceOpen p && !s.on (HPT_STATUS.FENCED p) && !(s.port p).perst
    && (!s.on (HPT_CFG.IDE_REQ p) || s.rd (HPT_IDE.STATE p) == 2)

/-- The shown link falls to none. -/
def State.linkOff (s : State) (p : Nat) : State :=
  s |>.wr (HPT_STATUS.LINK_UP p) 0 |>.wr (HPT_STATUS.RATE p) 0 |>.wr (HPT_STATUS.WIDTH p) 0 |>.wr (HPT_STATUS.L0P p) 0

/-- A link goes down (R327, R352). -/
def State.linkDown (s : State) (p : Nat) : State :=
  if s.linkUp p then (((s.linkOff p).dropLink p).addSat (HPT_LINK.DOWNS p) 1).raise (504 + 8 * p) else s

/-- LINK_DOWN. -/
def State.doLinkDown (s : State) (p : Nat) : State := if p < 6 then s.linkDown p else s

/-- The port's island is ON and its link may train (R494, R601). -/
def State.mayTrain (s : State) (p : Nat) : Bool :=
  decide (p < 6) && s.faceOn p && s.rd (HPT_STATUS.ISLAND p) == islOn && !s.linkUp p && !(s.port p).perst
    && (s.chip == Chip.restoring || s.chip == Chip.opened)

/-- The face waits for its link to open: after a warm resume or a CXL Reset (R275, R320). -/
def State.reopen (s : State) (p : Nat) : State :=
  if (s.port p).wasOpen then s.openVia (2 ^ p) else s

/-- A link has trained at a rate and width that HPT_CFG allows (R314). -/
def State.trained (s : State) (p rate width : Nat) : State :=
  let r := Nat.max 1 (min rate (s.rd (HPT_CFG.MAXRATE p)))
  let w := if s.on (HPT_CFG.X4_ONLY p) then 1 else Nat.max 1 (min width 2)
  ((s |>.wr (HPT_STATUS.LINK_UP p) 1 |>.wr (HPT_STATUS.RATE p) r |>.wr (HPT_STATUS.WIDTH p) w).addSat (HPT_LINK.RETRAINS p) 1).reopen p

/-- LINK_TRAINED: rate 0 says that neither limit could be reached (R314, R352). -/
def State.doLinkTrained (s : State) (p rate width : Nat) : State :=
  if s.mayTrain p then (if rate = 0 ∨ width = 0 then s.raise (504 + 8 * p) else s.trained p rate width) else s

/-- LINK_TRAIN_RETRY: a retry reaches neither limit (R314, R352). -/
def State.doTrainRetry (s : State) (p : Nat) : State := s.raiseIf (s.mayTrain p) (504 + 8 * p)

/-- PERST_ASSERT: during a save only the pin is noted; PERST_N of a disabled face is ignored (R601, R614). -/
def State.doPerstAssert (s : State) (p : Nat) : State :=
  if s.faceOn p then
    let s := s.linkDown p
    s.setPort p { s.port p with perst := true }
  else s

/-- PERST_RELEASE: the link then trains (R601). -/
def State.doPerstRelease (s : State) (p : Nat) : State :=
  if s.faceOn p then s.setPort p { s.port p with perst := false } else s

/-! ### IDE (R325, R326) -/

/-- SPDM_REQUEST: the device answers; `session` says that the exchange sets up a secure session. DOE also serves Table Access: `cdat` asks
for an entry of the CDAT, whose contents are CXL 3.1's (R317, R325; DESIGN CHOICE 171). -/
def State.doSpdm (s : State) (p code : Nat) (session : Bool) (cdat : Option Nat) : State :=
  if decide (p < 6) && s.linkUp p then
    match cdat with
    | some n => let d := s.draw (2 ^ 32); d.2.send (.cdat p n d.1)
    | none =>
    let s := s.send (.spdm p code)
    if session then
      (s.setPort p { s.port p with spdm := true }).when (s.rd (HPT_IDE.STATE p) != 2) (fun s => s.wr (HPT_IDE.STATE p) 1)
    else s
  else s

/-- IDE_KEY_PROGRAMMING: with a session the keys are taken: those of the CXL.cachemem stream, which is then secure, or of `io`, a selective
stream of CXL.io (R325). -/
def State.doIdeKeys (s : State) (p : Nat) (io : Option Nat) : State :=
  if decide (p < 6) && s.linkUp p && (s.port p).spdm then
    match io with
    | some n => s.setPort p { s.port p with ioStreams := (n :: (s.port p).ioStreams).dedup }
    | none => (s.setPort p { s.port p with ideKeys := true }).wr (HPT_IDE.STATE p) 2
  else s

/-- Writes of a flit that is not verified yet stand in the write buffer in skid mode, and are never admitted; in containment mode they do
not reach it (R326, HPT_WBUF). -/
def State.skidPeak (s : State) (p held : Nat) : State :=
  if s.on (HPT_IDE.MODE p) then
    s.wr (HPT_WBUF.PEAK p) (Nat.max (s.rd (HPT_WBUF.PEAK p)) (min ((s.port p).wbuf.length + held) 4096))
  else s

/-- IDE_INTEGRITY_FAILURE; `held` is how many writes the failed flits carried (R326). -/
def State.doIdeFail (s : State) (p held : Nat) : State :=
  if decide (p < 6) && s.linkUp p && s.rd (HPT_IDE.STATE p) == 2 then
    let s := s.skidPeak p held
    (((s.wr (HPT_IDE.STATE p) 3).addSat (HPT_IDE.FAILS p) 1).raise (505 + 8 * p)).linkDown p
  else s

/-! ### Memory accesses -/

/-- The slab that an access looks up, for what the SRAM shows of its entry (R122). -/
def State.lookupSlab (s : State) (p dpa : Nat) (e : SramErr) : State :=
  match s.mapLine p dpa with
  | some (k, _) => s.sramHit (settSlab k) e
  | none => s

/-- MEM_RD (R393, R270, R298, R321): `devs` are the devices of the line found in error, should DRAM be read. -/
def State.doMemRd (s : State) (p tag dpa devs : Nat) (e : SramErr) : State :=
  if s.memOk p then (s.lookupSlab p dpa e).lookupRead p tag (dpa / 64 * 64) devs else s

/-- Highest use of the write buffer (HPT_WBUF.PEAK). -/
def State.notePeak (s : State) (p : Nat) : State :=
  s.wr (HPT_WBUF.PEAK p) (Nat.max (s.rd (HPT_WBUF.PEAK p)) (s.port p).wbuf.length)

/-- A write is accepted into the write buffer and looked up; its credit returns with it unless RwD credits are withheld. A host whose
credits are all held back has none to send another with (R21, R153, R157, R272, R316; DESIGN CHOICE 170). -/
def State.acceptWrite (s : State) (p tag dpa : Nat) (data : Line) (mask : BitVec 64) (poison : Bool) (devs : Nat) (e : SramErr) :
    State :=
  if s.memOk p && decide ((s.port p).wbuf.length < 4096) && (s.write? p tag).isNone && decide ((s.port p).owed < portCredits) then
    let w : WEnt :=
      { tag := tag
        dpa := dpa / 64 * 64
        sett := 0
        line := 0
        data := data
        mask := mask
        poison := poison
        wait := .queueFull
        done := false
        fresh := false
        since := s.tick
        seq := 0
        devs := devs
        arr := (s.port p).arrivals }
    let s := s.lookupSlab p dpa e
    let q := s.port p
    let s := (s.setPort p { q with wbuf := q.wbuf ++ [w], arrivals := q.arrivals + 1, owed := q.owed + 1 }).notePeak p
    (s.lookupWrite p tag true).updCredits p
  else s

/-- MEM_WR (R21, R153, R154, R321). -/
def State.doMemWr (s : State) (p tag dpa : Nat) (data : Line) (poison : Bool) (e : SramErr) : State :=
  s.acceptWrite p tag dpa data fullMask poison 0 e

/-- MEM_WR_PTL (R25, R31, R298): `devs` are the devices in error when the line is read for the merge. -/
def State.doMemWrPtl (s : State) (p tag dpa : Nat) (data : Line) (mask : BitVec 64) (devs : Nat) (e : SramErr) : State :=
  s.acceptWrite p tag dpa data mask false devs e

/-- An entry of the write buffer that cannot be corrected is written as poison (R352). -/
def State.poisonEntry (s : State) (p tag : Nat) : State :=
  match s.write? p tag with
  | none => s
  | some e => if e.wait = .admitted then (s.setWrite p { e with poison := true }).raise (510 + 8 * p) else s

/-- A port at 64 GT/s x8 goes to x4 under L0p and back while HPT_CFG.L0P_EN reads 1; when it does, the manual leaves open: a free value
(R315; DESIGN CHOICE 169). -/
def State.l0pPort (s : State) (p : Nat) : State :=
  if s.linkUp p && s.rd (HPT_STATUS.RATE p) == 3 && (s.rd (HPT_STATUS.WIDTH p) == 2 || s.on (HPT_STATUS.L0P p)) then
    if s.on (HPT_CFG.L0P_EN p) then
      let d := s.draw 2
      (d.2.wr (HPT_STATUS.L0P p) d.1).wr (HPT_STATUS.WIDTH p) (2 - d.1)
    else (s.wr (HPT_STATUS.L0P p) 0).wr (HPT_STATUS.WIDTH p) 2
  else s

/-- DATA_WRITTEN_TO_DRAM (R21, R299, R304, R352, R395): writes to the line that were looked up before it reach DRAM first. `crc`: a
command-parity or write-CRC retry failed twice; `bufErr`: the entry of the write buffer was uncorrectable. -/
def State.doDataWritten (s : State) (p tag : Nat) (crc bufErr : Bool) : State :=
  let s := s.when bufErr (fun s => s.poisonEntry p tag)
  match s.write? p tag with
  | none => s
  | some e =>
    if e.wait = .admitted then
      let before := ((s.port p).wbuf.takeWhile (fun x => x.tag != tag)).filter (fun x =>
        x.wait == .admitted && x.sett == e.sett && x.line == e.line)
      let s := ((s.forEach (before ++ [e]) (fun s x => s.drainWrite p x)).enterQueue p).updCredits p
      s.raiseIf crc (6 * (s.servingRank (settSlab e.sett)).1 + 3)
    else s

/-! ### Global Persistent Flush and CXL Reset (R33, R320) -/

/-- The port answers protocol requests: it is neither fenced nor without a link. -/
def State.portAnswers (s : State) (p : Nat) : Bool := decide (p < 6) && s.linkUp p && !s.on (HPT_STATUS.FENCED p) && s.working

/-- What the CXL DVSECs of a port declare: the duration in µs and the active power in mW of GPF Phase 2, and Memory_Active (R32,
R260). -/
structure CxlDvsec where
  gpfMicros : Nat
  gpfMilliwatts : Nat
  memActive : Bool
  deriving DecidableEq, Repr

/-- The DVSEC values of a port: Memory_Active changes in the hub clock in which its face opens or closes (R32, R260). -/
def State.dvsec (s : State) (p : Nat) : CxlDvsec :=
  { gpfMicros := 20
    gpfMilliwatts := 0
    memActive := s.faceOpen p }

/-- GPF_PHASE1. -/
def State.doGpf1 (s : State) (p : Nat) : State := if s.portAnswers p then s.send (.gpf p 1 false) else s

/-- A Phase 2 flush of a port goes on: admitted writes drain, and the port responds once none is left that waits for a repair (R33). -/
def State.gpfPort (s : State) (p : Nat) : State :=
  if (s.port p).gpf && s.portAnswers p then
    let s := s.drainPort p
    if (s.port p).wbuf.any (fun e => e.wait == .admitted) then s
    else (s.setPort p { s.port p with gpf := false }).send (.gpf p 2 false)
  else s

/-- GPF_PHASE2: admitted writes drain, then the port responds. -/
def State.doGpf2 (s : State) (p : Nat) : State :=
  if s.portAnswers p then (s.setPort p { s.port p with gpf := true }).gpfPort p else s

/-- Link, IDE and mailbox state of a port as CXL Reset leaves them. -/
def Port.cxlReset (q : Port) : Port :=
  { q with
    spdm := false
    ideKeys := false
    ioStreams := []
    hdm := false
    bg := none
    scanWait := none
    bgLast := 0
    bgRet := 0
    evPolicy := [0, 0, 0, 0] }

/-- CXL_RESET: the face closes and reopens when its link trains again (R320). -/
def State.doCxlReset (s : State) (f : Nat) : State :=
  if s.portAnswers f then
    let was := s.faceOpen f
    let s := (s.linkOff f).dropLink f
    let s := s.setPort f (s.port f).cxlReset
    let s := { s with fwm := { s.fwm with
        openCmds := s.fwm.openCmds.filter (fun c => c.1 != f)
        waiting := s.fwm.waiting.filter (fun c => c.1 != f) } }
    let s := (s.wr (HPT_IDE.STATE f) 0).closeFace f
    s.setPort f { s.port f with wasOpen := (s.port f).wasOpen || was }
  else s

end Sys2Proof.Machine
end

