-- ==== Sys2Proof/Machine/MailOps.lean ====
section
/-! DEFINITION. The mailbox of a face: when it serves a command, and its returns (R332, R336 to R338, R349). -/

namespace Sys2Proof.Machine

/-- A mailbox command of a face can come, open or not: its link carries CXL.io, and no save or Hold stands (R19, R260, R332, R349). -/
def State.mailCan (s : State) (f : Nat) : Bool := s.faceOn f && s.linkUp f && !(s.port f).perst && s.working

/-- The mailbox of a face is served: the firmware runs, and no activation goes on (R19, R576). -/
def State.mailOk (s : State) (f : Nat) : Bool := s.mailCan f && s.fwm.running && !s.on FWM_STATUS.ACTIVATING

/-- A mailbox command: during an activation it waits with its busy bit set (R576 steps 3 to 5). -/
def State.mailHold (s : State) (f : Nat) (i : Instr) (k : State → State) : State :=
  if s.mailCan f && s.on FWM_STATUS.ACTIVATING then { s with fwm := { s.fwm with waiting := s.fwm.waiting ++ [(f, i)] } } else k s

/-- The activation is over: commands that waited come to the queue (R576 step 5; DESIGN CHOICE 178). -/
def State.mailServe (s : State) : State :=
  if s.hubOn && s.fwm.running && !s.on FWM_STATUS.ACTIVATING then
    { s with pending := s.pending ++ s.fwm.waiting.map (fun c => c.2), fwm := { s.fwm with waiting := [] } }
  else s

/-- A foreground command of the face runs; one command at a time (R317, R349). An ENABLE runs until its completion ring is written. -/
def State.mailBusy (s : State) (f : Nat) : Bool :=
  s.fwm.openCmds.any (fun c => c.1 == f && (s.port f).bg != some c.2)
    || (s.fwm.openCmds.contains (f, 0xC100) && s.job.inits.any (fun x => x.face == f))

/-- Post the return of a command; Internal Error raises the port's source (R352). -/
def State.reply (s : State) (f op : Nat) (r : Ret) (out : List Nat) : State :=
  (s.send (.reply f op r out)).raiseIf (r == .internalError && decide (f < 6)) (509 + 8 * f)

/-- A vendor command ends with Success and its vendor status before the other output (R336). -/
def State.vreply (s : State) (f op st : Nat) (out : List Nat) : State := s.reply f op .success (st :: out)

/-- Serve a command of a face. -/
def State.mail (s : State) (f op : Nat) (k : State → State) : State :=
  if s.mailOk f then (if s.mailBusy f then s.reply f op .busy [] else k s) else s

/-- A command that needs a negotiated feature (R338, R340). -/
def State.mailFeat (s : State) (f op bit : Nat) (k : State → State) : State :=
  s.mail f op (fun s => if s.feature f bit then k s else s.reply f op .unsupported [])

/-- The BMC's place in a command's face operand: the MCTP-based CCI over TW0 (R550, R572). -/
def cciFace : Nat := 7

/-- A command that recovery serves over the CCI (R572). -/
def State.mailRec (s : State) (f op : Nat) (k : State → State) : State :=
  if f = cciFace then (if s.fwm.recovery && s.hubOn then k s else s) else s.mail f op k

/-- A command marked MGMT; the BMC sends the MGMT vendor commands over the CCI (R337, R550). -/
def State.mailMgmt (s : State) (f op : Nat) (k : State → State) : State :=
  if f = cciFace then
    (if s.hubOn && (s.fwm.recovery && (op == 0x0200 || op == 0x0201 || op == 0x0202 || op == 0xC030) || s.fwm.running && decide (0xC000 ≤ op))
      then k s else s)
  else s.mail f op (fun s => if s.on (HPT_CFG.MGMT f) then k s else s.reply f op .unsupported [])

/-- A background command has begun: its return is posted and the face's background place is taken (R317). -/
def State.bgStart (s : State) (f op : Nat) : State :=
  (s.setPort f { s.port f with bg := some op }).reply f op .backgroundStarted []

/-- The background command of a face ends with a return code, 0 Success, and a vendor status. -/
def State.bgEndWith (s : State) (f op ret vend : Nat) : State :=
  s.setPort f { s.port f with bg := none, bgLast := op, bgRet := ret, bgVend := vend }

/-- The background command of a face ends with a return code (0 Success). -/
def State.bgEnd (s : State) (f op ret : Nat) : State := s.bgEndWith f op ret 0

/-- A background command runs in one step: started, carried out and ended. While another runs it returns Busy. -/
def State.background (s : State) (f op : Nat) (k : State → State) : State :=
  if (s.port f).bg.isSome then s.reply f op .busy []
  else (k (s.bgStart f op)).bgEnd f op 0

/-- A command whose return comes later. -/
def State.openCmd (s : State) (f op : Nat) : State :=
  { s with fwm := { s.fwm with openCmds := s.fwm.openCmds ++ [(f, op)] } }

/-- A command that was open is returned. -/
def State.closeCmd (s : State) (f op : Nat) : State :=
  { s with fwm := { s.fwm with openCmds := s.fwm.openCmds.erase (f, op) } }

/-! ### Making setts Zero (R101, R102) -/

/-- A sett not in the in-flight table is made Zero: zeros in DRAM before its dirty bit clears and its entry reads Zero; a sled
in single-sled mode marks the slab (R102, R448). -/
def State.makeZero (s : State) (k : Nat) : State := (((s.engineZero k).clearDirty k).setLoc k 0).touch k

/-- An operation ends on both sleds where a pair runs: CTRL goes to the twin (R457). -/
def State.ctrlSend (s : State) (sub f opcode : Nat) (args : List Nat) : State :=
  let c : GalCtl :=
    { sub := sub
      face := f
      opcode := opcode
      args := args }
  let s := { s with gal := { s.gal with ctls := s.gal.ctls ++ [c] } }
  s.galOrdered (.ctrl sub f) 14 f sub (args.headD 0) [] args 0

/-- An operation of a face waits for the twin. -/
def State.ctrlWaits (s : State) (sub f : Nat) : Bool := s.gal.ctls.any (fun c => c.sub == sub && c.face == f)

/-- Operations go to the twin: the sleds are paired, or this sled resilvers the twin (R457, R454). -/
def State.twoSleds (s : State) : Bool := s.mirrors

end Sys2Proof.Machine
end

