-- ==== Sys2Proof/Machine/JobFx.lean ====
section
/-! DEFINITION. Job rings: doorbells, descriptors, the eight jobs, completions, fences and ring configuration (chapters 12
and 13). -/

namespace Sys2Proof.Machine

/-! ### A job's accesses (R354, R370, R391, R403) -/

/-- What a job's read gives. -/
inductive JobRead where
  | data (d : Line)
  | poison
  | wait
  | outside
  deriving DecidableEq, Repr

/-- What a job's write comes to. -/
inductive JobPut where
  | done
  | parked
  | wait
  | outside
  deriving DecidableEq, Repr

/-- A job meets a sett not yet written: its slab is promoted at the prefetch level (R370). -/
def State.jobPromote (s : State) (k : Nat) : State :=
  let i := settSlab k
  if (s.slab i).rstate = 1 ∧ !s.res.prefetch.contains i then
    { s with res := { s.res with prefetch := s.res.prefetch ++ [i] } }
  else s

/-- A job reads a line of its face (R354, R358, R393, R399). -/
def State.jobRead (s : State) (f dpa devs : Nat) : State × JobRead :=
  match s.access f dpa with
  | none => (s, .outside)
  | some (k, l) =>
    if !s.settHome k then (s.jobPromote k, .wait)
    else if (s.repairOf k l).isSome then (s, .wait)
    else
      let r := s.lineValue f k l devs
      (r.1, match r.2 with
        | .data d => .data d
        | .poison => .poison
        | .repair => .wait)

/-- The job's number in a forwarded write's tag entry. -/
def jobTag (j : Job) : Nat := j.ring * 65536 + j.idx

/-- The other sled keeps the block: the job's write is forwarded and waits for ORDER (R409, R440). -/
def State.jobForward (s : State) (j : Job) (f dpa k l : Nat) (d : Line) (mask : BitVec 64) (poison : Bool) : State × Job × JobPut :=
  let t := s.gal.nextTag
  let p : Parked :=
    { sett := k
      line := l
      ring := j.ring
      idx := j.idx
      data := d
      mask := mask
      poison := poison
      twin := true }
  let s := { s with gal := { s.gal with nextTag := (t + 1) % 65536, fwds := s.gal.fwds ++ [GalFwd.mk t 7 (jobTag j)] } }
  let s := { s with adm := { s.adm with jobq := s.adm.jobq ++ [p] } }
  let s := (s.galSend 4 f (if poison then 1 else 0) t dpa [d] [] mask).addWrap GAL_CNT_FWD.COUNT 1
  (s, { j with parked := true }, .parked)

/-- A job's write is admitted or needs no admission: it is made, and mirrored where the pair runs (R21, R158, R409). -/
def State.jobPass (s : State) (j : Job) (f dpa k l : Nat) (d : Line) (mask : BitVec 64) (poison : Bool) : State × Job × JobPut :=
  let fresh := !s.dirty k
  let s := s.when fresh (fun s => s.addWrap ADM_ADMITS.COUNT 1)
  let s := ((s.settle k).lookedUp k).engineWrite k l d mask poison
  let q := s.galNext + 1
  let s := if s.mirrors then
      (s.galOrdered (.mirror f dpa k) 3 f (if poison then 1 else 0) dpa [d] [] mask).addWrap GAL_CNT_MIRROR.COUNT 1 else s
  let j := if s.mirrors then { j with seq := q } else j
  (s.when fresh (fun s => s.releaseParked k), j, .done)

/-- Job writes parked for admission. -/
def State.jobParked (s : State) : Nat := (s.adm.jobq.filter (fun p => !p.twin)).length

/-- A job writes a line of its face through the checks and the admission of a host write (R158, R370, R391, R403). -/
def State.jobPut (s : State) (j : Job) (f dpa : Nat) (d : Line) (mask : BitVec 64) (poison : Bool) : State × Job × JobPut :=
  match s.access f dpa with
  | none => (s, j, .outside)
  | some (k, l) =>
    if !s.settHome k then (s.jobPromote k, j, .wait)
    else if (s.slab (settSlab k)).jobl || (s.repairOf k l).isSome || (s.mirrors && !s.galRoom) then (s, j, .wait)
    else if s.mirrors && !s.keepsSlab (settSlab k) then s.jobForward j f dpa k l d mask poison
    else if s.dirty k || (s.jobParked == 0 && s.admits f) then s.jobPass j f dpa k l d mask poison
    else if s.jobParked < 64 then
      let p : Parked :=
        { sett := k
          line := l
          ring := j.ring
          idx := j.idx
          data := d
          mask := mask
          poison := poison
          twin := false }
      ({ s with adm := { s.adm with jobq := s.adm.jobq ++ [p] } }, { j with parked := true }, .parked)
    else (s, j, .wait)

/-! ### Descriptors (R360, R363) -/

/-- Does a byte range meet another? -/
def meets (a n b m : Nat) : Bool := decide (a < b + m) && decide (b < a + n)

/-- The ranges that a job reads or only touches, and those that it writes, in bytes; the tag line of a GCM job counts among the
written ones (R363, R372). -/
def Job.reads (j : Job) : List (Nat × Nat) :=
  if j.op = 2 ∨ j.op = 8 then [] else [(j.src, j.len * 64)]
def Job.gcm (j : Job) : Bool := j.op == 6 && bitsOf 0 2 j.arg0 == 3
def Job.writes (j : Job) : List (Nat × Nat) :=
  (if j.op = 1 ∨ j.op = 2 ∨ j.op = 6 then [(j.dst, j.len * 64)] else []) ++ (if j.gcm then [(j.arg1, 64)] else [])
/-- VERIFY reads its DST range. -/
def Job.reads2 (j : Job) : List (Nat × Nat) := j.reads ++ (if j.op = 7 then [(j.dst, j.len * 64)] else [])

/-- The DST range of an operation that has one, the tag line of a GCM job, and the ranges of a job: its SRC and its DST (R363, R372). -/
def Job.dsts (j : Job) : List (Nat × Nat) := if j.op = 1 ∨ j.op = 2 ∨ j.op = 6 ∨ j.op = 7 then [(j.dst, j.len * 64)] else []
def Job.tagLine (j : Job) : List (Nat × Nat) := if j.gcm then [(j.arg1, 64)] else []
def Job.ranges (j : Job) : List (Nat × Nat) := j.reads ++ j.dsts

/-- Some range of one list meets some range of another. -/
def anyMeets (a b : List (Nat × Nat)) : Bool := a.any (fun x => b.any (fun y => meets x.1 x.2 y.1 y.2))

/-- A job must wait for an earlier running one: a range of it overlaps that one's DST range or tag line, or its DST range a range of that
one (R372). -/
def Job.after (j e : Job) : Bool := anyMeets j.ranges (e.dsts ++ e.tagLine) || anyMeets j.dsts e.ranges

/-- A descriptor's fields as a job (R360). -/
def jobOf (r i : Nat) (d : Line) : Job :=
  let w := d.toNat
  { ring := r
    idx := i
    op := bitsOf 0 8 w
    tag := bitsOf 16 16 w
    notify := bitAt 9 w
    len := bitsOf 32 32 w
    src := bitsOf 64 64 w
    dst := bitsOf 128 64 w
    arg0 := bitsOf 192 64 w
    arg1 := bitsOf 256 64 w
    iv := BitVec.ofNat 128 (bitsOf 320 128 w)
    pos := 0
    aux := 0
    pass := 0
    parked := false
    chain := BitVec.ofNat 128 (bitsOf 320 128 w)
    hash := 0
    seq := 0
    fin := none
    slabs := [] }

/-- Reserved bits of a descriptor are 0 (R360). -/
def descReserved (d : Line) : Bool := bitsOf 10 6 d.toNat == 0 && bitsOf 448 64 d.toNat == 0

/-- The start value of ZERO_FACE (R363). -/
def zeroFaceKey : Nat := 0x5A45524F

/-- The fields that an operation uses hold what it allows, and those that it does not use are 0 (R360, R363, R368). -/
def Job.fieldsOk (j : Job) : Bool :=
  let al := j.src % 64 == 0 && j.dst % 64 == 0
  let ln := decide (1 ≤ j.len)
  let no1 := j.arg1 == 0 && j.iv == 0
  match j.op with
  | 1 => al && ln && j.arg0 == 0 && no1
  | 2 => al && ln && j.src == 0 && no1
  | 3 => al && ln && j.dst == 0 && j.arg0 == 0 && no1
  | 4 => al && ln && j.dst == 0 && decide (j.arg0 < 2) && no1
  | 5 => al && ln && j.dst == 0 && j.arg0 == 0 && no1
  | 6 => al && ln && bitsOf 3 5 j.arg0 == 0 && decide (j.arg0 < 16384) &&
      (if j.gcm then decide (j.len < 1073741824) && j.arg1 % 64 == 0 && decide (j.iv.toNat < 2 ^ 96) else j.arg1 == 0)
  | 7 => al && ln && j.arg0 == 0 && no1
  | 8 => j.src == 0 && j.dst == 0 && j.len == 0 && j.arg0 == zeroFaceKey && no1
  | _ => false

/-- Its ranges keep clear of the ring's own SQ and CQ, and SRC and DST of a COPY or TRANSFORM of each other (R363). -/
def Job.rangesOk (j : Job) (c : Ring) : Bool :=
  let own := [(c.sqBase, c.size * 64), (c.cqBase, c.size * 16)]
  !anyMeets (j.reads2 ++ j.writes) own && !((j.op == 1 || j.op == 6) && meets j.src (j.len * 64) j.dst (j.len * 64))

/-- Rings of a face that are not DISABLED (JOB_FACEf, R402). -/
def State.liveRings (s : State) (f : Nat) : List Nat :=
  (s.job.rings.filter (fun p => p.2.st != rgDisabled && s.ringFace p.1 == some f)).map (fun p => p.1)

/-- A descriptor that ends with INVALID (R362, R363, R402). -/
def State.jobInvalid (s : State) (j : Job) (d : Line) (f : Nat) : Bool :=
  !descReserved d || !j.fieldsOk || !j.rangesOk (s.ring j.ring) || (j.op == 8 && (s.liveRings f).any (fun r => r != j.ring))

/-! ### Starting a job (R359, R372, R376, R377, R379) -/

/-- A ring has work pending: it is ENABLED and a descriptor is queued (R377, R379). -/
def Ring.work (c : Ring) : Bool := c.st == rgEnabled && c.sqHead != c.sqTail

/-- A busy ring keeps its cached context (R377). -/
def State.ringBusy (s : State) (r : Nat) : Bool := (s.ring r).pend || !(s.ringJobs r).isEmpty

/-- A ring that is used comes to the front of the cache (R377). -/
def State.cacheRing (s : State) (r : Nat) : State :=
  { s with job := { s.job with cache := r :: s.job.cache.filter (fun x => x != r) } }

/-- The context of a pending ring is fetched. A full cache writes back the least recently used context of an idle ring first; where every
cached ring is busy, the ring waits (R377, JOB_CACHE_MISS). -/
def State.fetchRing (s : State) (r : Nat) : State :=
  let fetched (s : State) : State := (s.cacheRing r).addWrap JOB_CACHE_MISS.COUNT 1
  if s.job.cache.contains r then s
  else if s.job.cache.length < 8192 then fetched s
  else match s.job.cache.reverse.find? (fun x => !s.ringBusy x) with
    | some x => fetched { s with job := { s.job with cache := s.job.cache.filter (fun y => y != x) } }
    | none => s

/-- The pending map: a cached ring without work leaves it, and the context of a pending ring is fetched (R377). Of several the lowest
ring number goes first (DESIGN CHOICE 174). -/
def State.pendClock (s : State) : State :=
  let l := (s.job.rings.filter (fun p => p.2.pend)).map (fun p => p.1)
  if s.isl islJob == islOn && !s.on JOB_STATUS.FENCED then
    s.forEach l (fun s r =>
      let s := s.fetchRing r
      s.when (s.job.cache.contains r && !(s.ring r).work) (fun s => s.setRing r { s.ring r with pend := false }))
  else s

/-- A ring halts (R379). -/
def State.haltRing (s : State) (r err : Nat) : State :=
  s.setRing r { s.ring r with st := rgHalted, err := err }

/-- The Job engine runs jobs of a ring: its island is on, no fence stands, and the face is open (R380, R499). -/
def State.jobsRun (s : State) (r : Nat) : Bool :=
  match s.ringFace r with
  | none => false
  | some f => s.working && s.isl islJob == islOn && !s.on JOB_STATUS.FENCED && s.faceOpen f && s.feature f featRings

/-- The ring may start its next descriptor: its context is cached, one is queued, the completion ring has a slot, and fewer than MAX_RUN jobs run, none
of them with a parked write (R158, R359, R372, R377). -/
def State.mayStart (s : State) (r : Nat) : Bool :=
  let c := s.ring r
  let js := s.ringJobs r
  s.job.cache.contains r && c.work && decide ((c.cqTail + 65536 - c.cqHead) % 65536 + js.length < c.size)
    && decide (js.length < Nat.max 1 (s.rd JOB_CFG.MAX_RUN)) && !js.any (fun j => j.parked)

/-- The face DPA of the descriptor, and of the completion, with an index (R355). -/
def Ring.sqAddr (c : Ring) (i : Nat) : Nat := c.sqBase + i % c.size * 64
def Ring.cqAddr (c : Ring) (i : Nat) : Nat := c.cqBase + i % c.size * 16

/-- A job is taken from the ring. -/
def State.takeJob (s : State) (j : Job) : State :=
  let s := s.cacheRing j.ring
  let c := s.ring j.ring
  let h := (c.sqHead + 1) % 65536
  let s := s.setRing j.ring { c with sqHead := h, pend := h != c.sqTail }
  { s with job := { s.job with jobs := s.job.jobs ++ [j] } }

/-- Start the next descriptor of a ring if it is one that `sel` picks; descriptors with an unknown OP end with INVALID whichever
command finds them (R363). `devs` are the devices in error that the descriptor's read finds (R298). -/
def State.startJob (s : State) (r f devs : Nat) (sel : Job → Bool) : State × Option Job :=
  let c := s.ring r
  if !s.mayStart r then (s, none)
  else if (s.access f (c.cqAddr c.sqHead)).isNone then (s.haltRing r 3, none)
  else
    let x := s.jobRead f (c.sqAddr c.sqHead) devs
    match x.2 with
    | .wait => (x.1, none)
    | .poison => (x.1.haltRing r 2, none)
    | .outside => (x.1.haltRing r 2, none)
    | .data d =>
      let j := jobOf r c.sqHead d
      let unknown := j.op == 0 || decide (8 < j.op)
      if !(unknown || sel j) then (x.1, none)
      else if !(s.ringJobs r).isEmpty && (bitAt 8 d.toNat || (s.ringJobs r).any (fun e => j.after e)) then (x.1, none)
      else
        let j := if x.1.jobInvalid j d f then { j with fin := some (1, 0, 0) } else j
        (x.1.takeJob j, some j)

/-! ### Running a job -/

/-- What one piece of a job comes to. -/
inductive JobStep where
  | go
  | wait
  /-- STATUS, DONE and AUX of its completion -/
  | stop (st done aux : Nat)
  deriving DecidableEq, Repr

/-- Run pieces of a job until it waits or ends. -/
def jobLoop (piece : State → Job → State × Job × JobStep) : Nat → State → Job → State × Job × JobStep
  | 0, s, j => (s, j, .wait)
  | n + 1, s, j =>
    let r := piece s j
    match r.2.2 with
    | .go => jobLoop piece n r.1 r.2.1
    | _ => r

/-- Another ring has a job that is ready to run (R375). -/
def State.othersReady (s : State) (r : Nat) : Bool := s.job.jobs.any (fun j => j.ring != r && j.fin.isNone && !j.parked)

/-- The pieces of a turn: all that are left, or one sett of the job's range where another ring has a job ready to run, so that the bucket
is shared among them (R375). -/
def State.turn (s : State) (j : Job) (all sett : Nat) : Nat := if s.othersReady j.ring then sett else all

/-- Lines of a job's range up to the next 64 KiB of it. -/
def Job.settLeft (j : Job) : Nat := 1024 - j.pos % 1024

/-- Pay for the 64 KiB piece that a job has reached (R375). -/
def payPiece (s : State) (j : Job) (pieces : Nat) : Option (State × Job) :=
  if pieces < j.pass then some (s, j)
  else if s.canPay 3 1 false then some (s.pay 3 1, { j with pass := pieces + 1 })
  else none

/-- A job's entry takes the place of the one with its ring and index. -/
def State.setJob (s : State) (j : Job) : State :=
  { s with job := { s.job with jobs := s.job.jobs.map (fun x => if x.ring = j.ring ∧ x.idx = j.idx then j else x) } }

/-- What a job's run has come to is noted. -/
def State.endRun (r : State × Job × JobStep) : State :=
  match r.2.2 with
  | .stop st d a => r.1.setJob { r.2.1 with fin := some (st, d, a) }
  | _ => r.1.setJob r.2.1

/-- Go on with the ring's running job that `sel` picks, or start its next one; a ring whose job has a parked write issues nothing
more (R158, R372, R375). -/
def State.jobRow (s : State) (r desc : Nat) (sel : Job → Bool) (run : Nat → State → Job → State × Job × JobStep) : State :=
  match s.ringFace r with
  | none => s
  | some f =>
    if !s.jobsRun r || (s.ringJobs r).any (fun j => j.parked) then s
    else match (s.ringJobs r).find? (fun j => sel j && j.fin.isNone) with
      | some j => State.endRun (run f s j)
      | none =>
        let x := s.startJob r f desc sel
        match x.2 with
        | some j => if j.fin.isSome then x.1 else State.endRun (run f x.1 j)
        | none => x.1

/-- After a write of line `pos`: the outcome as a step; `lines` is DONE for a range that has left the capacity. -/
def putStep (r : State × Job × JobPut) (old : Job) : State × Job × JobStep :=
  match r.2.2 with
  | .done => (r.1, { r.2.1 with pos := r.2.1.pos + 1 }, .go)
  | .parked => (r.1, r.2.1, .wait)
  | .wait => (r.1, old, .wait)
  | .outside => (r.1, old, .stop 2 old.pos 0)

/-! ### COPY, FILL and VERIFY (R364, R365, R369) -/

/-- The end of a job that writes lines. -/
def lineEnd (j : Job) : JobStep := if j.aux = 0 then .stop 0 j.len 0 else .stop 3 j.len j.aux

def copyPiece (f : Nat) (devs : SMap Nat) (s : State) (j : Job) : State × Job × JobStep :=
  if j.len ≤ j.pos then (s, j, lineEnd j)
  else match payPiece s j (j.pos / 1024) with
    | none => (s, j, .wait)
    | some (s, j) =>
      let r := s.jobRead f (j.src + j.pos * 64) (SMap.get 0 j.pos devs)
      match r.2 with
      | .wait => (r.1, j, .wait)
      | .outside => (r.1, j, .stop 2 j.pos 0)
      | .poison => putStep (r.1.jobPut { j with aux := j.aux + 1 } f (j.dst + j.pos * 64) 0 fullMask true) j
      | .data d => putStep (r.1.jobPut j f (j.dst + j.pos * 64) d fullMask false) j

/-- JOB_COPY: `devs` are the devices in error, by line of the range, `desc` those of the descriptor's line. -/
def State.doJobCopy (s : State) (r : Nat) (devs : SMap Nat) (desc : Nat) : State :=
  s.jobRow r desc (fun j => j.op == 1) (fun f s j => jobLoop (copyPiece f devs) (s.turn j (j.len + 1) j.settLeft) s j)

/-- Eight copies of the pattern. -/
def fillLine (p : Nat) : Line := BitVec.ofNat 512 ((List.range 8).foldl (fun a _ => a * 2 ^ 64 + p % 2 ^ 64) 0)

def fillPiece (f : Nat) (s : State) (j : Job) : State × Job × JobStep :=
  if j.len ≤ j.pos then (s, j, lineEnd j)
  else match payPiece s j (j.pos / 1024) with
    | none => (s, j, .wait)
    | some (s, j) => putStep (s.jobPut j f (j.dst + j.pos * 64) (fillLine j.arg0) fullMask false) j

/-- JOB_FILL. -/
def State.doJobFill (s : State) (r desc : Nat) : State :=
  s.jobRow r desc (fun j => j.op == 2) (fun f s j => jobLoop (fillPiece f) (s.turn j (j.len + 1) j.settLeft) s j)

/-- VERIFY of one line: outside, waiting, poison, different, or equal. -/
def verifyLine (a b : JobRead) (j : Job) : JobStep :=
  match a, b with
  | .outside, _ => .stop 2 j.pos 0
  | _, .outside => .stop 2 j.pos 0
  | .wait, _ => .wait
  | _, .wait => .wait
  | .poison, _ => .stop 3 j.pos 1
  | _, .poison => .stop 3 j.pos 1
  | .data x, .data y => if x = y then .go else .stop 4 j.pos 0

def verifyPiece (f : Nat) (src dst : SMap Nat) (s : State) (j : Job) : State × Job × JobStep :=
  if j.len ≤ j.pos then (s, j, .stop 0 j.len 0)
  else match payPiece s j (j.pos / 1024) with
    | none => (s, j, .wait)
    | some (s, j) =>
      let a := s.jobRead f (j.src + j.pos * 64) (SMap.get 0 j.pos src)
      let b := a.1.jobRead f (j.dst + j.pos * 64) (SMap.get 0 j.pos dst)
      match verifyLine a.2 b.2 j with
      | .go => (b.1, { j with pos := j.pos + 1 }, .go)
      | x => (b.1, j, x)

/-- JOB_VERIFY: `src` and `dst` are the devices in error, by line of each range. -/
def State.doJobVerify (s : State) (r : Nat) (src dst : SMap Nat) (desc : Nat) : State :=
  s.jobRow r desc (fun j => j.op == 7) (fun f s j => jobLoop (verifyPiece f src dst) (s.turn j (j.len + 1) j.settLeft) s j)

/-! ### TRANSFORM (R368) -/

def Job.mode (j : Job) : Nat := bitsOf 0 2 j.arg0
def Job.decrypts (j : Job) : Bool := bitAt 2 j.arg0
def Job.slot (j : Job) : Nat := bitsOf 8 6 j.arg0

/-- One block through a mode: output, chaining value and hash (R368). -/
def cryptBlock (key : BitVec 256) (j : Job) (n : Nat) (x : BitVec 128) : BitVec 128 × Job :=
  match j.mode with
  | 0 =>
    if j.decrypts then (aesDec key x ^^^ j.chain, { j with chain := x })
    else
      let y := aesEnc key (x ^^^ j.chain)
      (y, { j with chain := y })
  | 1 =>
    let y := x ^^^ aesEnc key j.chain
    (y, { j with chain := if j.decrypts then x else y })
  | 2 => (x ^^^ aesEnc key (ctrBlock j.iv n), j)
  | _ =>
    let y := x ^^^ aesEnc key (gcmBlock j.iv (n + 2))
    let c := if j.decrypts then x else y
    (y, { j with hash := ghashMul (aesEnc key 0) (j.hash ^^^ c) })

/-- The four blocks of a line, lowest address first. -/
def cryptLine (key : BitVec 256) (j : Job) (d : Line) : Line × Job :=
  let r := [0, 1, 2, 3].foldl (fun (a : Nat × Job) i =>
    let x := cryptBlock key a.2 (j.pos * 4 + i) (d.extractLsb' (128 * i) 128)
    (a.1 + x.1.toNat * 2 ^ (128 * i), x.2)) (0, j)
  (BitVec.ofNat 512 r.1, r.2)

/-- The GCM tag of what has been hashed (R368). -/
def gcmTag (key : BitVec 256) (j : Job) : BitVec 128 :=
  let lens := gcmLengths 0 (j.len * 64)
  aesEnc key (gcmBlock j.iv 1) ^^^ ghashMul (aesEnc key 0) (j.hash ^^^ lens)

/-- Behind the last line of a GCM job: the tag is written, or compared; a tag that fails turns every line written into poison. -/
def gcmEnd (f : Nat) (key : BitVec 256) (s : State) (j : Job) : State × Job × JobStep :=
  if j.pos = j.len then
    if j.decrypts then
      let r := s.jobRead f j.arg1 0
      match r.2 with
      | .wait => (r.1, j, .wait)
      | .outside => (r.1, j, .stop 2 j.pos 0)
      | .poison => (r.1, j, .stop 3 j.pos 1)
      | .data d => if d.extractLsb' 0 128 = gcmTag key j then (r.1, j, .stop 0 j.len 0) else (r.1, { j with pos := j.pos + 1 }, .go)
    else
      match putStep (s.jobPut j f j.arg1 (BitVec.ofNat 512 (gcmTag key j).toNat) fullMask false) j with
      | (s, j, x) => (s, j, x)
  else if j.decrypts then
    let i := j.pos - j.len - 1
    if i < j.len then putStep (s.jobPut j f (j.dst + i * 64) 0 fullMask true) j else (s, j, .stop 7 j.len 0)
  else (s, j, .stop 0 j.len 0)

/-- The slot is a transform slot of the face (R368, R420). -/
def State.txSlot (s : State) (k f : Nat) : Bool := s.slotState k == slTransform && s.rd (CIP_SLST.FACE k) == f

/-- One line of a TRANSFORM. A line of `bad` is one whose two results differ: the pair that computed it runs its test, nothing is released,
and the line is computed again on the next pair (R412, R413; DEDUCED 151). With no pair in service the job waits. -/
def cryptPiece (f : Nat) (devs : SMap Nat) (bad : List Nat) (s : State) (j : Job) : State × Job × JobStep :=
  let key := s.slotKey j.slot
  if !s.txSlot j.slot f then (s, j, .stop 5 0 0)
  else if j.len ≤ j.pos then (if j.gcm then gcmEnd f key s j else (s, j, .stop 0 j.len 0))
  else if !(List.range 12).any s.pairServes then (s, j, .wait)
  else match payPiece s j (j.pos / 1024) with
    | none => (s, j, .wait)
    | some (s, j) =>
      let r := s.jobRead f (j.src + j.pos * 64) (SMap.get 0 j.pos devs)
      match r.2 with
      | .wait => (r.1, j, .wait)
      | .outside => (r.1, j, .stop 2 j.pos 0)
      | .poison => (r.1, j, .stop 3 j.pos 1)
      | .data d =>
        let x := cryptLine key j d
        if bad.contains j.pos then (r.1.pairDiffers false, j, .wait)
        else putStep (r.1.jobPut x.2 f (j.dst + j.pos * 64) x.1 fullMask false) j

/-- JOB_TRANSFORM: `bad` are the lines on which the cores of a pair disagree, `devs` the devices in error by line. -/
def State.doJobTransform (s : State) (r : Nat) (bad : List Nat) (devs : SMap Nat) (desc : Nat) : State :=
  s.jobRow r desc (fun j => j.op == 6) (fun f s j => jobLoop (cryptPiece f devs bad) (s.turn j (2 * j.len + 3) j.settLeft) s j)

/-- A zeroized slot ends the TRANSFORM jobs that use it with KEY_LOST (R387, R429). -/
def State.keyLostJobs (s : State) (k : Nat) : State :=
  let upd (j : Job) : Job := if j.op = 6 ∧ j.slot = k ∧ j.fin.isNone then { j with fin := some (6, min j.pos j.len, 0), parked := false } else j
  let gone := (s.job.jobs.filter (fun j => j.op == 6 && j.slot == k && j.fin.isNone)).map (fun j => (j.ring, j.idx))
  let s := { s with adm := { s.adm with jobq := s.adm.jobq.filter (fun p => !gone.contains (p.ring, p.idx)) } }
  { s with job := { s.job with jobs := s.job.jobs.map upd } }

/-! ### Ranges of setts and slabs -/

/-- The places of a range at steps of the interleave granule: sett and line, or none outside the capacity. -/
def State.rangeMap (s : State) (f dpa lines : Nat) : List (Option (Nat × Nat)) :=
  let ig := s.igBytes
  let n := (dpa % ig + lines * 64 + ig - 1) / ig
  (List.range n).map (fun i => s.access f (if i = 0 then dpa else dpa / ig * ig + i * ig))

/-- Setts that a range touches, in ascending face DPA; `none` stands for a part outside the capacity. -/
def State.rangeSetts (s : State) (f dpa lines : Nat) : List (Option Nat) :=
  ((s.rangeMap f dpa lines).map (fun x => x.map (fun y => y.1))).dedup

/-- Slabs that a range touches. -/
def State.rangeSlabs (s : State) (f dpa lines : Nat) : List Nat :=
  ((s.rangeMap f dpa lines).filterMap (fun x => x.map (fun y => settSlab y.1))).dedup

/-- Lines of a range before the first one outside the capacity; none: the whole range lies inside (R362). -/
def State.rangeStop (s : State) (f dpa lines : Nat) : Option Nat :=
  let m := s.rangeMap f dpa lines
  if m.all (fun x => x.isSome) then none
  else
    let ig := s.igBytes
    let i := m.findIdx (fun x => x.isNone)
    some (if i = 0 then 0 else (dpa / ig * ig + i * ig - dpa) / 64)

/-! ### CHECKPOINT (R366) -/

/-- Wear is granted to CHECKPOINT hauls (R170, R375). -/
def State.ckptWear (s : State) : Bool := decide (s.rd ADM_WEAR_SPENT.MIB < s.wearAllow)

/-- One sett of a pass. Each 64 KiB of the range is paid for once, with the setts of the first pass (R375; DEDUCED 152). -/
def ckptPiece (f : Nat) (s : State) (j : Job) : State × Job × JobStep :=
  let l := s.rangeSetts f j.src j.len
  match l[j.pos]? with
  | none => (s, j, .wait)
  | some none => (s, j, .stop 2 ((s.rangeStop f j.src j.len).getD 0) 0)
  | some (some k) =>
    let next := { j with pos := j.pos + 1, aux := if j.pass = 0 ∧ s.dirty k then j.aux + 1 else j.aux }
    let due : Bool := j.pass == 0 && decide (j.pos * 1024 < j.len)
    let paid (s : State) : State := s.when due (fun s => s.pay 3 1)
    if due && !s.canPay 3 1 false then (s, j, .wait)
    else if s.dirty k && (s.haulOf k).isNone then
      if (s.slab (settSlab k)).rstate ≠ 0 then (s.jobPromote k, j, .wait)
      else if (s.settSlot k).isNone then (s, j, .wait)
      else if s.ckptWear && decide (s.slb.ift.length < 8192) then ((paid s).insertHaul k false true, next, .go)
      else (s, j, .wait)
    else (paid s, next, .go)

/-- JOB_CHECKPOINT: the setts of a pass are entered; the pass ends with CHECKPOINT_PASS_END. -/
def State.doJobCheckpoint (s : State) (r desc : Nat) : State :=
  s.jobRow r desc (fun j => j.op == 3) (fun f s j => jobLoop (ckptPiece f) (s.turn j ((s.rangeSetts f j.src j.len).length + 1) 1) s j)

/-- Dirty setts among a list. -/
def State.dirtyOf (s : State) (l : List Nat) : Nat := (l.filter (fun k => s.dirty k)).length

/-- CHECKPOINT_PASS_END. -/
def State.doPassEnd (s : State) (r tag : Nat) : State :=
  match s.ringFace r, (s.ringJobs r).find? (fun j => j.op == 3 && j.tag == tag && j.fin.isNone) with
  | some f, some j =>
    let l := (s.rangeSetts f j.src j.len).filterMap id
    if !s.jobsRun r || decide (j.pos < l.length) || l.any (fun k => (s.haulOf k).isSome) then s
    else
      let n := s.dirtyOf l
      if n = 0 then s.setJob { j with fin := some (0, j.len, j.aux), pass := j.pass + 1 }
      else if Nat.max 1 (s.rd JOB_CKPT.PASSES) ≤ j.pass + 1 then s.setJob { j with fin := some (12, j.len, n), pass := j.pass + 1 }
      else s.setJob { j with pos := 0, pass := j.pass + 1 }
  | _, _ => s

/-! ### PIN (R367) -/

/-- The pin records become these; PIN clears on each slab of a record that has gone which no other record covers (R367). -/
def State.setPins (s : State) (l : List Pin) : State :=
  let held := l.flatMap (fun p => p.slabs)
  let free := (s.job.pins.flatMap (fun p => p.slabs)).filter (fun i => !held.contains i)
  ({ s with job := { s.job with pins := l } }).forEach free (fun s i => s.setLock i 14 false)

/-- Remove pin records (R367). -/
def State.dropPins (s : State) (gone : Pin → Bool) : State := s.setPins (s.job.pins.filter (fun p => !gone p))

/-- PIN of a range. -/
def pinRun (f : Nat) (s : State) (j : Job) : State × Job × JobStep :=
  match s.rangeStop f j.src j.len with
  | some n => (s, j, .stop 2 n 0)
  | none =>
    let l := s.rangeSlabs f j.src j.len
    let new := l.filter (fun i => !(s.slab i).pin)
    if s.rd JOB_PINCFG.MAX_SLABS < s.pinned + new.length ∨ 4096 ≤ s.job.pins.length then (s, j, .stop 10 0 0)
    else
      let s := { s with job := { s.job with pins := s.job.pins ++ [Pin.mk f j.src j.len l] } }
      (s.forEach l (fun s i => s.setLock i 14 true), j, .stop 0 j.len 0)

/-- A pin record of a face and a range. -/
def Pin.names (p : Pin) (f src len : Nat) : Bool := p.face == f && p.src == src && p.len == len

/-- UNPIN of a range: one record is removed. -/
def unpinRun (f : Nat) (s : State) (j : Job) : State × Job × JobStep :=
  match s.job.pins.findIdx? (fun p => p.names f j.src j.len) with
  | none => (s, j, .stop 11 0 0)
  | some n => (s.setPins (s.job.pins.eraseIdx n), j, .stop 0 j.len 0)

/-- JOB_PIN and JOB_UNPIN. -/
def State.doJobPin (s : State) (r desc : Nat) : State := s.jobRow r desc (fun j => j.op == 4 && !bitAt 0 j.arg0) pinRun
def State.doJobUnpin (s : State) (r desc : Nat) : State := s.jobRow r desc (fun j => j.op == 4 && bitAt 0 j.arg0) unpinRun

/-! ### PREFETCH_RESTORE (R370) -/

def prefetchRun (f : Nat) (s : State) (j : Job) : State × Job × JobStep :=
  match s.rangeStop f j.src j.len with
  | some n => (s, j, .stop 2 n 0)
  | none =>
    let l := s.rangeSlabs f j.src j.len
    let s := s.forEach l (fun s i => s.jobPromote (i * 64))
    if l.all (fun i => (s.slab i).rstate == 0) then (s, j, .stop 0 j.len 0) else (s, j, .wait)

/-- JOB_PREFETCH_RESTORE. -/
def State.doJobPrefetch (s : State) (r desc : Nat) : State := s.jobRow r desc (fun j => j.op == 5) prefetchRun

/-! ### ZERO_FACE (R371, R402, R403) -/

/-- The slabs that a face owns, in ascending face DPA. -/
def State.ownSlabs (s : State) (f : Nat) : List Nat := (s.faceSlabs f).filter (fun i => (s.slab i).owner == f)

/-- Zeroing of the i-th sett of the face's slabs; a slab that has been released meanwhile is passed over (R402). -/
def zeroPiece (f : Nat) (s : State) (j : Job) : State × Job × JobStep :=
  match j.slabs[j.pos / 64]? with
  | none => (s, j, .wait)
  | some i =>
    let k := i * 64 + j.pos % 64
    if (s.slab i).owner ≠ f then (s, { j with pos := (j.pos / 64 + 1) * 64 }, .go)
    else if (s.slab i).rstate ≠ 0 then (s.jobPromote k, j, .wait)
    else if (s.haulOf k).isSome || !s.canPay 3 1 false then (s, j, .wait)
    else ((((s.pay 3 1).settle k).makeZero k), { j with pos := j.pos + 1 }, .go)

/-- Behind the last slab: the poison table, the pins and JOBL (R371). -/
def State.zeroFaceEnd (s : State) (f : Nat) : State :=
  let s := s.setPort f { s.port f with poison := [] }
  ((s.dropPins (fun p => p.face == f)).clearJobl f).retryPorts

/-- JOBL on every slab of the face, and the twin's part, when the job begins. -/
def State.zeroFaceBegin (s : State) (f : Nat) : State :=
  let s := s.forEach (s.ownSlabs f) (fun s i => s.setLock i 15 true)
  if s.twoSleds then s.ctrlSend 3 f 0 [] else s

def zeroRun (f : Nat) (s : State) (j : Job) : State × Job × JobStep :=
  let j := if j.pass = 0 then { j with slabs := s.ownSlabs f } else j
  let s := s.when (j.pass == 0) (fun s => s.zeroFaceBegin f)
  let j := { j with pass := 1 }
  let n := j.slabs.length * 64
  let r := jobLoop (zeroPiece f) (s.turn j (n + 1) 1) s j
  if n ≤ r.2.1.pos ∧ !r.1.ctrlWaits 3 f then (r.1.zeroFaceEnd f, r.2.1, .stop 0 0 0) else r

/-- JOB_ZERO_FACE. -/
def State.doJobZeroFace (s : State) (r desc : Nat) : State := s.jobRow r desc (fun j => j.op == 8) zeroRun

/-! ### Completions (R361, R372, R374, R380) -/

/-- The line that holds a completion, and the bytes of it. -/
def cqEntry (j : Job) (x : Nat × Nat × Nat) (addr : Nat) : Line × BitVec 64 :=
  let v := j.idx + x.1 * 2 ^ 16 + j.op * 2 ^ 24 + j.tag * 2 ^ 32 + x.2.1 % 4294967296 * 2 ^ 64 + x.2.2 % 4294967296 * 2 ^ 96
  let o := addr % 64
  (BitVec.ofNat 512 (v * 2 ^ (o * 8)), BitVec.ofNat 64 (0xFFFF * 2 ^ o))

/-- The twin has accepted the job's last mirrored write (R409). -/
def State.jobAcked (s : State) (j : Job) : Bool :=
  j.seq == 0 || !s.gal.sent.any (fun o => o.seq + 1 == j.seq)

/-- OP, TAG and NOTIFY of a job that a fence stopped come from its descriptor; none while that must be fetched (R380). -/
def State.refresh (s : State) (f : Nat) (j : Job) (st : Nat) : State × Option Job :=
  if st = 9 then
    let r := s.jobRead f ((s.ring j.ring).sqAddr j.idx) 0
    match r.2 with
    | .data d =>
      let x := jobOf j.ring j.idx d
      (r.1, some { j with op := x.op, tag := x.tag })
    | .wait => (r.1, none)
    | _ => (r.1, some j)
  else (s, some j)

/-- Write the completion of the ring's first job, if it has ended. The flag says that the next one may follow. -/
def State.flushOne (s : State) (r f : Nat) : State × Bool :=
  match (s.ringJobs r).head? with
  | none => (s, false)
  | some j =>
    match j.fin with
    | none => (s, false)
    | some x =>
      if (s.ringJobs r).any (fun i => i.parked) || (x.1 == 0 && !s.jobAcked j) then (s, false)
      else
        let y := s.refresh f j x.1
        match y.2 with
        | none => (y.1, false)
        | some j =>
          let a := (s.ring r).cqAddr j.idx
          let e := cqEntry j x a
          let w := (y.1.setJob j).jobPut j f (a / 64 * 64) e.1 e.2 false
          match w.2.2 with
          | .done => ((w.1.setJob w.2.1).jobOver w.2.1 x.1, true)
          | .parked => (w.1.setJob w.2.1, false)
          | .wait => (w.1, false)
          | .outside =>
            let s := { w.1 with job := { w.1.job with jobs := w.1.job.jobs.filter (fun z => !(z.ring == r && z.idx == j.idx)) } }
            (s.haltRing r 3, true)

/-- Completions of a ring in index order. -/
def State.flushRing (s : State) (r f : Nat) : Nat → State
  | 0 => s
  | n + 1 =>
    let x := s.flushOne r f
    if x.2 then x.1.flushRing r f n else x.1

/-- A ring that a fence stopped halts, and a FENCED completion is due for each job that had started and not completed (R380). -/
def State.fenceRing (s : State) (r : Nat) : State :=
  let c := s.ring r
  if c.st = rgEnabled ∨ c.st = rgDraining then
    let n := (c.sqHead + 65536 - c.cqTail) % 65536
    let mk (i : Nat) : Job := { jobOf r ((c.cqTail + i) % 65536) 0 with fin := some (9, 0, 0) }
    let js := s.job.jobs.filter (fun j => j.ring != r) ++ (List.range n).map mk
    ({ s with job := { s.job with jobs := js } }).setRing r { c with st := rgHalted, err := 4, irqDue := false, irqRun := false }
  else s

/-- Rings of a face that has opened after a fence. -/
def State.fenceFace (s : State) (f : Nat) : State :=
  let l := s.liveRings f
  let s := { s with job := { s.job with fenceDue := withBit f false s.job.fenceDue } }
  s.forEach l (fun s r => s.fenceRing r)

/-- An uncorrectable SRAM error in a ring's cached context or doorbell latch: its jobs are gone without a completion, and the ring is
DISABLED with its context reset and ERR CONTEXT (R381, R510). -/
def State.ringErr (s : State) (r : Nat) (bad : Bool) : State :=
  if bad && s.hubOn && decide (r < 262144) then
    let s := s.disableRing r
    let s := { s with
      adm := { s.adm with jobq := s.adm.jobq.filter (fun p => p.ring != r && p.ring != initRing r) }
      job := { s.job with
        jobs := s.job.jobs.filter (fun j => j.ring != r)
        inits := s.job.inits.filter (fun x => x.ring != r) } }
    (s.setRing r { Ring.fresh with err := 5 }).raise 687
  else s

/-! ### Doorbells (R353, R356, R357, R377) -/

/-- A doorbell of a port reaches the ring: the block is valid, the port's face owns it and has JOB_RINGS, and the ring is not
DISABLED (R353, R356). -/
def State.bellOk (s : State) (p r : Nat) : Bool :=
  s.ringFace r == some p && s.feature p featRings && (s.ring r).st != rgDisabled

/-- SQ_TAIL_DOORBELL. -/
def State.doSqTail (s : State) (p r v : Nat) : State :=
  if !s.hubOn || !s.linkUp p then s
  else if s.bellOk p r then
    let c := s.ring r
    let s := s.setRing r { c with sqTail := v % 65536, pend := true }
    s.when (c.st == rgEnabled && decide (c.size < (v + 65536 - c.sqHead) % 65536)) (fun s => s.haltRing r 1)
  else s.addWrap JOB_DB_IGN.COUNT 1

/-- CQ_HEAD_DOORBELL: a value beyond CQ_TAIL, or more than 2^n behind it, is ignored and counted (R357). -/
def State.doCqHead (s : State) (p r v : Nat) : State :=
  if !s.hubOn || !s.linkUp p then s
  else if s.bellOk p r then
    let c := s.ring r
    if c.size < (c.cqTail + 65536 - v % 65536) % 65536 then s.setRing r { c with errors := (c.errors + 1) % 4294967296 }
    else s.setRing r { c with cqHead := v % 65536, pend := true }
  else s.addWrap JOB_DB_IGN.COUNT 1

/-! ### Configure Ring and Get Ring Status (R382 to R384) -/

/-- A Configure Ring action of the owner face; vendor status and STATE are returned. -/
def State.ringCmd (s : State) (f op r : Nat) (k : State → State) : State :=
  s.mailFeat f op featRings (fun s => if s.ringFace r = some f then k s else s.vreply f op 1 [(s.ring r).st])

/-- A whole byte range lies inside the face's capacity. -/
def State.inFace (s : State) (f a n : Nat) : Bool := (s.rangeStop f a ((n + 63) / 64)).isNone

/-- The checks of ENABLE: vendor status (R354, R383). -/
def State.enableStatus (s : State) (f r log2 vector sq cq : Nat) : Nat :=
  let n := 2 ^ log2
  if (s.ring r).st ≠ rgDisabled then 2
  else if log2 < 4 ∨ 15 < log2 then 4
  else if sq % 4096 ≠ 0 ∨ cq % 4096 ≠ 0 ∨ !s.inFace f sq (n * 64) ∨ !s.inFace f cq (n * 16) ∨ meets sq (n * 64) cq (n * 16) then 3
  else if vector ≠ 0 ∧ (vector < 4 ∨ 63 < vector) then 5
  else 0

/-- The CQ as ENABLE leaves it: slot i reads SEQ = (i − 2^n) mod 65,536 and STATUS 0xFF (R361). Four slots make a line. -/
def cqInitLine (n i : Nat) : Line :=
  BitVec.ofNat 512 (((List.range 4).map (fun q => ((i * 4 + q + 65536 - n) % 65536 + 0xFF * 2 ^ 16) * 2 ^ (128 * q))).sum)

/-- The face's open ENABLE returns with a vendor status and the ring's state (R383). -/
def State.enableReply (s : State) (f st state : Nat) : State :=
  if s.fwm.openCmds.contains (f, 0xC100) then (s.closeCmd f 0xC100).vreply f 0xC100 st [state] else s

/-- An ENABLE no longer waits. -/
def State.dropInit (s : State) (r : Nat) : State :=
  { s with job := { s.job with inits := s.job.inits.filter (fun x => x.ring != r) } }

/-- The lines of the fresh CQ are written as job writes, which park like any (R354, R361); behind the last the ring is ENABLED and the
command returns. A line that has left the capacity ends it with RANGE. -/
def State.initRun (x : RingInit) : Nat → State → State
  | 0, s => s
  | n + 1, s =>
    if 2 ^ x.log2 / 4 ≤ x.pos then
      let c := { (s.ring x.ring).disabled with
        st := rgEnabled
        log2 := x.log2
        vector := x.vector
        imod := x.imod
        sqBase := x.sq
        cqBase := x.cq }
      ((s.dropInit x.ring).setRing x.ring c).enableReply x.face 0 rgEnabled
    else
      let keep (s : State) (y : RingInit) : State := { s with job := { s.job with inits := s.job.inits.map (fun z => if z.ring = x.ring then y else z) } }
      let w := s.jobPut (jobOf (initRing x.ring) x.pos 0) x.face (x.cq + x.pos * 64) (cqInitLine (2 ^ x.log2) x.pos) fullMask false
      match w.2.2 with
      | .done => State.initRun { x with pos := x.pos + 1 } n (keep w.1 { x with pos := x.pos + 1 })
      | .parked => keep w.1 { x with parked := true }
      | .wait => w.1
      | .outside => (w.1.dropInit x.ring).enableReply x.face 3 rgDisabled

/-- An ENABLE goes on. -/
def State.initClock (s : State) (x : RingInit) : State := State.initRun x (2 ^ x.log2 / 4 - x.pos + 1) s

/-- CONFIGURE_RING_ENABLE. -/
def State.doRingEnable (s : State) (f r log2 vector imod sq cq : Nat) : State :=
  s.ringCmd f 0xC100 r (fun s =>
    let st := s.enableStatus f r log2 vector sq cq
    if st = 0 then
      let x : RingInit :=
        { ring := r
          face := f
          log2 := log2
          vector := vector
          imod := imod % 256
          sq := sq
          cq := cq
          pos := 0
          parked := false }
      (({ s with job := { s.job with inits := s.job.inits ++ [x] } }).openCmd f 0xC100).initClock x
    else s.vreply f 0xC100 st [(s.ring r).st])

/-- What the Job engine does in a hub clock: fenced rings of faces that have opened halt, and completions that are due are written
(R361, R372, R377, R380). -/
def State.jobClock (s : State) : State :=
  let s := s.forEach (faces.filter (fun f => s.faceOpen f && bitAt f s.job.fenceDue)) (fun s f => s.fenceFace f)
  let due := ((s.job.jobs.filter (fun j => j.fin.isSome)).map (fun j => j.ring)).dedup
  let s := s.forEach due (fun s r =>
    match s.ringFace r with
    | some f => s.when (s.faceOpen f && !s.on JOB_STATUS.FENCED) (fun s => s.flushRing r f (s.ringJobs r).length)
    | none => s)
  let s := s.forEach s.job.inits (fun s x => s.when (s.faceOpen x.face && !s.on JOB_STATUS.FENCED && !x.parked) (fun s => s.initClock x))
  s.pendClock

/-- CONFIGURE_RING_DISABLE: a ring with running jobs drains first, and the return is posted when it is DISABLED (R382, R383). -/
def State.doRingDisable (s : State) (f r : Nat) : State :=
  s.ringCmd f 0xC100 r (fun s =>
    let c := s.ring r
    if c.st = rgEnabled ∨ c.st = rgHalted then
      if (s.ringJobs r).isEmpty then (s.disableRing r).vreply f 0xC100 0 [rgDisabled]
      else if (s.port f).bg.isSome then s.reply f 0xC100 .busy []
      else ((s.bgStart f 0xC100).openCmd f 0xC100).setRing r { c with st := rgDraining }
    else s.vreply f 0xC100 2 [c.st])

/-- Lines that a job has processed: a CHECKPOINT those of the setts that its pass has taken (R362; DEDUCED 175). -/
def State.linesDone (s : State) (j : Job) : Nat :=
  match j.op, s.ringFace j.ring with
  | 3, some f =>
    let taken := (s.rangeSetts f j.src j.len).take j.pos
    let ig := s.igBytes
    let m := s.rangeMap f j.src j.len
    let lines (i : Nat) : Nat :=
      (if i = 0 then min (ig - j.src % ig) (j.len * 64) else min ig (j.src + j.len * 64 - (j.src / ig * ig + i * ig))) / 64
    ((List.range m.length).map (fun i => if taken.contains ((m.getD i none).map (fun y => y.1)) then lines i else 0)).sum
  | _, _ => min j.pos j.len

/-- Running jobs of a ring end with ABORTED. -/
def State.abortJobs (s : State) (r : Nat) : State :=
  let gone (p : Parked) : Bool := p.ring == r
  let s := { s with adm := { s.adm with jobq := s.adm.jobq.filter (fun p => !gone p) } }
  let upd (j : Job) : Job := if j.ring = r ∧ j.fin.isNone then { j with fin := some (8, s.linesDone j, 0), parked := false }
    else if j.ring = r then { j with parked := false } else j
  { s with job := { s.job with jobs := s.job.jobs.map upd } }

/-- A ring is reset: running jobs end with ABORTED and their completions are written, then it is DISABLED (R383, R387). -/
def State.resetRing (s : State) (f r : Nat) : State :=
  let s := (s.abortJobs r).flushRing r f (s.ringJobs r).length
  let s := { s with job := { s.job with jobs := s.job.jobs.filter (fun j => j.ring != r) } }
  s.disableRing r

/-- CONFIGURE_RING_RESET. -/
def State.doRingReset (s : State) (f r : Nat) : State :=
  s.ringCmd f 0xC100 r (fun s => (s.resetRing f r).vreply f 0xC100 0 [rgDisabled])

/-- CONFIGURE_RING_RESUME: HALTED with ERR FENCE or OVERRUN (R383). A latched SQ_TAIL that queues more than the ring holds halts it again
with OVERRUN, as its doorbell would have (R355, R357; DEDUCED 150). -/
def State.doRingResume (s : State) (f r : Nat) : State :=
  s.ringCmd f 0xC100 r (fun s =>
    let c := s.ring r
    if c.st = rgHalted ∧ (c.err = 4 ∨ c.err = 1) then
      let t := if c.err = 1 then c.sqHead else c.sqTail
      let s := s.setRing r { c with st := rgEnabled, err := 0, sqTail := t, pend := t != c.sqHead }
      let s := s.when (decide (c.size < (t + 65536 - c.sqHead) % 65536)) (fun s => s.haltRing r 1)
      s.vreply f 0xC100 0 [(s.ring r).st]
    else s.vreply f 0xC100 2 [c.st])

/-- GET_RING_STATUS (R384). -/
def State.doRingStatus (s : State) (f r : Nat) : State :=
  s.mailFeat f 0xC101 featRings (fun s =>
    let c := s.ring r
    if s.ringFace r = some f then
      s.vreply f 0xC101 0 [c.st, c.err, c.sqHead, c.sqTail, c.cqTail, c.cqHead, (s.ringJobs r).length, c.done, c.errors]
    else s.vreply f 0xC101 1 [])

/-- A CXL Reset of a face ends its jobs with ABORTED and makes its rings DISABLED; pins are kept (R387). -/
def State.resetRings (s : State) (f : Nat) : State :=
  let mine := s.job.inits.filter (fun x => x.face == f)
  let s := s.forEach mine (fun s x => s.dropInit x.ring)
  let s := { s with adm := { s.adm with jobq := s.adm.jobq.filter (fun p => !mine.any (fun x => p.ring == initRing x.ring)) } }
  s.forEach (s.liveRings f) (fun s r => s.resetRing f r)

/-- CXL_RESET with the face's rings (R320, R387). -/
def State.doFaceReset (s : State) (f : Nat) : State :=
  if s.portAnswers f then (s.resetRings f).doCxlReset f else s

end Sys2Proof.Machine
end

