-- ==== Sys2Proof/Machine/MailFx.lean ====
section
/-! DEFINITION. The commands of a face's mailbox that act on the face, its events, poison, capacity and features, and the
BMC's FM API (chapters 02, 11, 12). Opcodes are those of R332 and R338. -/

namespace Sys2Proof.Machine

/-! ### Identity, logs and time (R332, R318, R329) -/

/-- The serial number of a face's head: the part's in bits 59:0, the face in bits 63:60 (R318). -/
def State.faceSerial (s : State) (f : Nat) : Nat := s.fuse.serial % 2 ^ 60 + f * 2 ^ 60

/-- IDENTIFY. -/
def State.doIdentify (s : State) (f : Nat) : State := s.mailRec f 0x0001 (fun s => s.reply f 0x0001 .success [s.faceSerial f])

/-- BACKGROUND_OPERATION_STATUS: opcode, percentage, return code and vendor status; how far a running command has come is a free value
(entry 3). -/
def State.doBgStatus (s : State) (f : Nat) : State :=
  s.mail f 0x0002 (fun s =>
    let q := s.port f
    match q.bg with
    | some op =>
      let d := s.draw 100
      d.2.reply f 0x0002 .success [op, d.1, 0, 0]
    | none => s.reply f 0x0002 .success [q.bgLast, if q.bgLast = 0 then 0 else 100, q.bgRet, q.bgVend])

/-- The identifier of a vendor record (R331). -/
def vendorUuid : Nat := 0x4a563672adb14e0c9d525c3e9a10f7b4

/-- The record-specific data of a vendor record: the 32-bit words from offset 0x30 to the end of its 128 bytes (R331). -/
def vendorWords (f kind margin dirty ceil aux tick : Nat) : List Nat :=
  [kind % 256 + f % 8 * 2 ^ 8 + margin % 4 * 2 ^ 16, dirty % 2 ^ 28, ceil % 2 ^ 28, aux % 2 ^ 32, tick % 2 ^ 32, tick / 2 ^ 32 % 2 ^ 16]
    ++ List.replicate 14 0

/-- A record of a face as a mailbox reply shows it: its kind, then its fields in the manual's order, and of a vendor record its
identifier, its length in bytes and its data (R330, R331). -/
def EvBody.words (f : Nat) : EvBody → List Nat
  | .generalMedia dpa t => [1, dpa, t]
  | .dramRank c r => [2, c, r]
  | .dirtyShutdown n => [3, n]
  | .health b => [4, if b then 1 else 0]
  | .lifeUsed n => [5, n]
  | .dcAdd b n => [6, b, n]
  | .dcRelease b n => [7, b, n]
  | .vendor k m d c a t => [8, vendorUuid, 128] ++ vendorWords f k m d c a t

/-- GET_EVENT_RECORDS: overflow count, records, and each record behind its handle. -/
def State.doGetEvents (s : State) (f log : Nat) : State :=
  s.mail f 0x0100 (fun s =>
    match (s.port f).logs[log]? with
    | none => s.reply f 0x0100 .invalidInput []
    | some l => s.reply f 0x0100 .success
        ([l.overflow, l.recs.length] ++ l.recs.flatMap (fun r => r.handle :: r.body.words f)))

/-- CLEAR_EVENT_RECORDS: all records, or the oldest ones by handle and in order; the log's overflow count starts again. -/
def State.doClearEvents (s : State) (f log : Nat) (all : Bool) (handles : List Nat) : State :=
  s.mail f 0x0101 (fun s =>
    match (s.port f).logs[log]? with
    | none => s.reply f 0x0101 .invalidInput []
    | some l =>
      if all then (s.setLog f log { l with recs := [], overflow := 0 }).reply f 0x0101 .success []
      else if handles = (l.recs.take handles.length).map (fun r => r.handle) then
        (s.setLog f log { l with recs := l.recs.drop handles.length, overflow := 0 }).reply f 0x0101 .success []
      else s.reply f 0x0101 .invalidHandle [])

/-- GET_EVENT_INTERRUPT_POLICY. -/
def State.doGetPolicy (s : State) (f : Nat) : State := s.mail f 0x0102 (fun s => s.reply f 0x0102 .success (s.port f).evPolicy)

/-- SET_EVENT_INTERRUPT_POLICY: none or MSI/MSI-X for each log (R332). -/
def State.doSetPolicy (s : State) (f : Nat) (policy : List Nat) : State :=
  s.mail f 0x0103 (fun s =>
    if policy.length = 4 ∧ policy.all (fun p => decide (p % 4 < 2)) = true then
      (s.setPort f { s.port f with evPolicy := policy }).reply f 0x0103 .success []
    else s.reply f 0x0103 .invalidInput [])

/-- GET_TIMESTAMP. -/
def State.doGetStamp (s : State) (f : Nat) : State := s.mail f 0x0300 (fun s => s.reply f 0x0300 .success [s.stampNow])

/-- SET_TIMESTAMP: one for the device; the last from any face wins. -/
def State.doSetStamp (s : State) (f stamp : Nat) : State :=
  s.mail f 0x0301 (fun s => ({ s with stamp := stamp % 2 ^ 64, stampTick := s.tick }).reply f 0x0301 .success [])

/-- Identifier of the Command Effects Log, as CXL 3.1 names it. -/
def celUuid : Nat := 0x0da9c0b5bf414b788f7996b1623b3f17

/-- Opcodes that a mailbox serves (R332, R338, and the chapters that R336 names). -/
def celOpcodes : List Nat :=
  [0x0001, 0x0002, 0x0100, 0x0101, 0x0102, 0x0103, 0x0200, 0x0201, 0x0202, 0x0300, 0x0301, 0x0400, 0x0401, 0x0500, 0x0501,
   0x0502, 0x4000, 0x4100, 0x4102, 0x4103, 0x4200, 0x4201, 0x4202, 0x4203, 0x4204, 0x4300, 0x4301, 0x4302, 0x4303, 0x4304,
   0x4305, 0x4400, 0x4401, 0x4800, 0x4801, 0x4802, 0x4803] ++
  [0xC000, 0xC010, 0xC020, 0xC021, 0xC030, 0xC040, 0xC050, 0xC100, 0xC101, 0xC200, 0xC201, 0xC300, 0xC301, 0xC302]

/-- GET_SUPPORTED_LOGS: one log, its identifier and its size of 4 bytes for each opcode. -/
def State.doGetLogs (s : State) (f : Nat) : State :=
  s.mail f 0x0400 (fun s => s.reply f 0x0400 .success [1, celUuid, 4 * celOpcodes.length])

/-- Entries of the Command Effects Log: an opcode, and its effects, which the manual does not give: free values (entry 3). -/
def State.celEntries (s : State) : List Nat → State × List Nat
  | [] => (s, [])
  | op :: l =>
    let d := s.draw 65536
    let r := d.2.celEntries l
    (r.1, op :: d.1 :: r.2)

/-- GET_LOG: whole entries of the Command Effects Log. -/
def State.doGetLog (s : State) (f uuid offset len : Nat) : State :=
  s.mail f 0x0401 (fun s =>
    if uuid ≠ celUuid then s.reply f 0x0401 .invalidLog []
    else if 4 * celOpcodes.length < offset + len ∨ offset % 4 ≠ 0 ∨ len % 4 ≠ 0 then s.reply f 0x0401 .invalidInput []
    else
      let r := s.celEntries ((celOpcodes.drop (offset / 4)).take (len / 4))
      r.1.reply f 0x0401 .success r.2)

/-! ### Features (R385, R430) -/

def featJobLimits : Nat := 0x4a5636720c104b6ea1f37d2e90b5c4a1
def featKeyStatus : Nat := 0x4a563672c3a04f218b6d19e7a04c5d2e

/-- Ring blocks of a face (R71). -/
def State.ringBlocks (s : State) (f : Nat) : List Nat :=
  (List.range 256).filter (fun b => s.hasSec secRings && decide (s.ringFace (b * 1024) = some f))

/-- Job Limits of a face (R385). -/
def State.jobLimits (s : State) (f : Nat) : List Nat :=
  let bs := s.ringBlocks f
  [1024 * bs.length, 0x01FE, 15, s.rd JOB_CFG.MAX_RUN, s.rd JOB_PINCFG.MAX_SLABS - s.pinned,
    4096 - s.job.pins.length, (bs.map (fun b => 2 ^ b)).sum]

/-- Media Key Status of a face (R430). -/
def State.keyStatus (s : State) (f : Nat) : List Nat :=
  let k := (s.activeSlot (s.sv (FACES.KEY_PAIR f))).getD 0
  let rot := decide (SMap.get 0 f s.cip.rotate ≠ 0) || (s.faceSlabs f).any (fun i => (s.slab i).keyr)
  let tx := ((List.range 64).filter (fun n => s.slotState n == slTransform && s.rd (CIP_SLST.FACE n) == f)).map (fun n => 2 ^ n)
  [k, s.rd (CIP_SLST.WARN k), if rot then 1 else 0, s.slotEpoch k, s.slotCtr k, tx.sum]

/-- GET_SUPPORTED_FEATURES: identifier, size and whether it can be changed, for each. -/
def State.doGetFeatures (s : State) (f : Nat) : State :=
  s.mail f 0x0500 (fun s => s.reply f 0x0500 .success [2, featJobLimits, 64, 0, featKeyStatus, 32, 0])

/-- GET_FEATURE. -/
def State.doGetFeature (s : State) (f id : Nat) : State :=
  s.mail f 0x0501 (fun s =>
    if id = featJobLimits then s.reply f 0x0501 .success (s.jobLimits f)
    else if id = featKeyStatus then s.reply f 0x0501 .success (s.keyStatus f)
    else s.reply f 0x0501 .unsupported [])

/-- SET_FEATURE: neither feature is changeable (R385, R430). -/
def State.doSetFeature (s : State) (f : Nat) : State := s.mail f 0x0502 (fun s => s.reply f 0x0502 .unsupported [])

/-! ### Capacity and labels (R317, R318, R334) -/

def blockBytes : Nat := 0x10000000

/-- Bytes of a face's static range (R318). -/
def State.staticBytes (s : State) (f : Nat) : Nat := s.sv (FACES.STATIC_BLOCKS f) * blockBytes

/-- IDENTIFY_MEMORY_DEVICE: total and persistent-only capacity, partition alignment, poison list maximum, inject limit, LSA
size. -/
def State.doIdentifyMem (s : State) (f : Nat) : State :=
  s.mail f 0x4000 (fun s => s.reply f 0x4000 .success [s.staticBytes f, s.staticBytes f, 0, 65536, 64, 131072])

/-- GET_PARTITION_INFO: active volatile and persistent, next volatile and persistent. -/
def State.doGetPartition (s : State) (f : Nat) : State :=
  s.mail f 0x4100 (fun s => s.reply f 0x4100 .success [0, s.staticBytes f, 0, 0])

/-- A command that the face does not serve (R317, R332, R336). -/
def State.doUnsupported (s : State) (f op : Nat) : State := s.mail f op (fun s => s.reply f op .unsupported [])

/-- MAILBOX_UNSUPPORTED, for opcodes that no other row serves. -/
def State.doOther (s : State) (f op : Nat) : State := if celOpcodes.contains op then s else s.doUnsupported f op

/-- GET_LSA. -/
def State.doGetLsa (s : State) (f offset len : Nat) : State :=
  s.mail f 0x4102 (fun s =>
    if 131072 < offset + len then s.reply f 0x4102 .invalidInput []
    else s.reply f 0x4102 .success
      ((List.range len).map (fun i => (SMap.get (0 : Byte) (offset + i) (s.nvFace f).lsa).toNat)))

/-- Bytes of the label storage area are programmed, as one change (R334). -/
def State.putLsa (s : State) (f offset : Nat) (bytes : List Byte) : State :=
  let n := s.nvFace f
  s.setNv f { n with lsa := ((List.range bytes.length).zip bytes).foldl (fun m p => SMap.put 0 (offset + p.1) p.2 m) n.lsa }

/-- An item of the health area has been stored on this sled: in a pair the twin stores it too before the return (R334, R457). -/
def State.storedReply (s : State) (f op sub : Nat) (args : List Nat) : State :=
  if s.twoSleds then (s.ctrlSend sub f op args).openCmd f op else s.reply f op .success []

/-- SET_LSA: with neither copy programmed it ends with Internal Error. -/
def State.doSetLsa (s : State) (f offset : Nat) (bytes : List Byte) (ok0 ok36 : Bool) : State :=
  s.mail f 0x4103 (fun s =>
    if 131072 < offset + bytes.length then s.reply f 0x4103 .invalidInput []
    else if !(s.healthProgram ok0 ok36).1 then (s.healthProgram ok0 ok36).2.reply f 0x4103 .internalError []
    else ((s.healthProgram ok0 ok36).2.putLsa f offset bytes).storedReply f 0x4103 5 (offset :: bytes.map BitVec.toNat))

/-- GET_SHUTDOWN_STATE. -/
def State.doGetShutdown (s : State) (f : Nat) : State := s.mail f 0x4203 (fun s => s.reply f 0x4203 .success [(s.nvFace f).shutdown])

/-- The stored shutdown state of a face (R40). -/
def State.putShutdown (s : State) (f v : Nat) : State := s.setNv f { s.nvFace f with shutdown := v % 256 }

/-- SET_SHUTDOWN_STATE. -/
def State.doSetShutdown (s : State) (f v : Nat) (ok0 ok36 : Bool) : State :=
  s.mail f 0x4204 (fun s =>
    let p := s.healthProgram ok0 ok36
    if !p.1 then p.2.reply f 0x4204 .internalError []
    else (p.2.putShutdown f v).storedReply f 0x4204 6 [v % 256])

/-! ### Health and alerts (R333) -/

/-- Fitted blocks of the enabled groups of which more is recorded than their lode tells: channel, target, die block. -/
def State.keptBlks (s : State) : List (Nat × Nat × Nat) :=
  (s.stk.blks.map (fun p => (p.1 / 262144, p.1 / 32768 % 8, p.1 % 32768))).filter (fun b =>
    s.groupOn (chanGroup b.1) && (s.targets b.1).contains b.2.1 && decide (b.2.2 < s.dieBlocks))

/-- The blocks that serve a lode erased at least once; each lode has its own. -/
def State.erasedSlots (s : State) : List (Nat × Nat × Nat) :=
  (s.stk.lodes.filter (fun p => p.2.erases != 0 && s.groupOn (p.1 / 8192))).flatMap (fun p =>
    (s.lodeSlots (p.1 / 8192) (p.1 % 8192)).filter (fun b => s.blockServes b.1 b.2.1 b.2.2))

/-- A block is not BAD. -/
def State.blkGood (s : State) (b : Nat × Nat × Nat) : Bool := (s.blk b.1 b.2.1 b.2.2).st != 6

/-- Blocks of the enabled groups that are not BAD, and the erases of them all: those each block counts itself and those of the lode it
serves (R226, R255). -/
def State.goodBlocks (s : State) : Nat :=
  (((List.range 72).filter (fun n => s.groupOn (chanGroup n))).map (fun n => (s.targets n).length * s.dieBlocks)).sum
    - (s.keptBlks.filter (fun b => !s.blkGood b)).length
def State.goodErases (s : State) : Nat :=
  ((s.keptBlks.filter s.blkGood).map (fun b => (s.blk b.1 b.2.1 b.2.2).erases)).sum
    + ((s.erasedSlots.filter s.blkGood).map (fun b => s.blockErases b.1 b.2.1 b.2.2 - (s.blk b.1 b.2.1 b.2.2).erases)).sum

/-- STK_ERASE_MEAN and STK_ERASE_MAX: the mean is over blocks not BAD, the maximum over all (R255). -/
def State.eraseMean (s : State) : Nat := if s.goodBlocks = 0 then 0 else s.goodErases / s.goodBlocks
def State.eraseMax (s : State) : Nat := ((s.keptBlks ++ s.erasedSlots).map (fun b => s.blockErases b.1 b.2.1 b.2.2)).foldl Nat.max 0

/-- Rated program and erase cycles (R168, R173). -/
def State.peRated (s : State) : Nat := s.sched 0x10 0 16 3000

/-- Life used in percent (R333). -/
def State.lifeUsed (s : State) : Nat :=
  let r := s.peRated
  if r = 0 then min 100 (Config.divByZero (s.eraseMean * 100)) else min 100 ((s.eraseMean * 100 + r - 1) / r)

/-- Some rank of the part is in a state. -/
def State.anyRank (s : State) (st : Nat) : Bool := (List.range 144).any (fun i => s.rank (i / 4) (i % 4) == st)

/-- Health status: bit 0 maintenance needed, 1 performance degraded, 2 replacement needed (R333). -/
def State.healthBits (s : State) (f : Nat) : Nat :=
  let packs := [0, 1]
  let maint := packs.any (fun k => s.on (LGR_PSTAT.SOH_WARN k)) || s.anyRank rkReplaced
  let perf := decide (s.stk.degraded ≠ 0) || s.rd (HPT_STATUS.RATE f) != 3 || s.rd (HPT_STATUS.WIDTH f) != 2
  let repl := packs.any (fun k => s.rd (LGR_PSTAT.STATE k) == pkFailed) || s.anyRank rkDead
    || (List.range 72).any (fun n => s.rd (NCH_STATUS.STATE n) == 4)
  (if maint then 1 else 0) + (if perf then 2 else 0) + (if repl then 4 else 0)

/-- Media status: 0 normal, 1 not ready, 2 write persistency lost (R333). -/
def State.mediaStatus (s : State) (f : Nat) : Nat :=
  if !s.faceOpen f then 1 else if s.volatileNow f || s.margin == Margin.sable then 2 else 0

/-- Corrections on the ranks that hold slabs of a face, and pages that were rebuilt (R333). -/
def State.volatileErrs (s : State) (f : Nat) : Nat :=
  min (((List.range 144).filter (fun i => s.faceOnRank f (i / 4) (i % 4))).map (fun i => SMap.get 0 i s.dch.ceTotal)).sum
    4294967295
def State.persistErrs (s : State) : Nat :=
  min ((List.range 72).map (fun n => s.rd (NCH_CNT_REBUILD.PAGES n))).sum 4294967295

/-- GET_HEALTH_INFO: the fields of R333 in its order, and the stored shutdown state (R40). -/
def State.doHealth (s : State) (f : Nat) : State :=
  s.mail f 0x4200 (fun s => s.reply f 0x4200 .success
    [s.healthBits f, s.mediaStatus f, s.lifeUsed, s.rd CLK_TJ.HOTTEST, (s.nvFace f).dirty, s.volatileErrs f, s.persistErrs,
      (s.nvFace f).shutdown])

/-- Life used has crossed a multiple of 10 %: every face is told (R330). -/
def State.lifeCheck (s : State) : State :=
  let n := s.lifeUsed / 10
  s.forEach (faces.filter (fun f => s.faceOn f && decide ((s.port f).lifeSeen < n))) (fun s f =>
    (s.setPort f { s.port f with lifeSeen := n }).postEvent f logInfo (.lifeUsed s.lifeUsed))

/-- GET_ALERT_CONFIGURATION. -/
def State.doGetAlert (s : State) (f : Nat) : State := s.mail f 0x4201 (fun s => s.reply f 0x4201 .success (s.port f).alert)

/-- SET_ALERT_CONFIGURATION. -/
def State.doSetAlert (s : State) (f life hot cold : Nat) : State :=
  s.mail f 0x4202 (fun s => (s.setPort f { s.port f with alert := [life, hot, cold] }).reply f 0x4202 .success [])

/-! ### Poison (R37, R38, R317) -/

/-- Face blocks that a range of lines touches. -/
def rangeBlocks (line lines : Nat) : List Nat :=
  (List.range ((line % 4194304 + lines + 4194303) / 4194304)).map (fun i => line / 4194304 + i)

/-- A range lies inside the face's capacity (R321). -/
def State.inCapacity (s : State) (f line lines : Nat) : Bool :=
  decide (0 < lines) && (rangeBlocks line lines).all (fun b => (s.faceBlock f b).isSome)

/-- GET_POISON_LIST: overflow flag and its time, and the records that meet the range: DPA, lines and source (R37, R335). -/
def State.doPoisonList (s : State) (f dpa lines : Nat) : State :=
  s.mail f 0x4300 (fun s =>
    if !s.inCapacity f (dpa / 64) lines then s.reply f 0x4300 .invalidPhysicalAddress []
    else
      let q := s.port f
      let rs := q.poison.filter (fun r => decide (r.line < dpa / 64 + lines) && decide (dpa / 64 < r.line + r.lines))
      s.reply f 0x4300 .success ([if q.poisonOvf then 1 else 0, q.poisonOvfTick, rs.length] ++
        rs.flatMap (fun r => [r.line * 64, r.lines, if r.injected then 3 else 1])))

/-- A line change that the mailbox makes through the port: it is looked up and admitted as a full write (DEDUCED 21). -/
def State.mailWrite (s : State) (f op dpa : Nat) (data : Line) (poison : Bool) : State :=
  let w : WEnt :=
    { tag := mailTag + op
      dpa := dpa / 64 * 64
      sett := 0
      line := 0
      data := data
      mask := fullMask
      poison := poison
      wait := .queueFull
      done := false
      fresh := false
      since := s.tick
      seq := 0
      devs := 0
      arr := (s.port f).arrivals }
  let q := s.port f
  let s := ((s.setPort f { q with wbuf := q.wbuf ++ [w], arrivals := q.arrivals + 1 }).notePeak f).openCmd f op
  (s.lookupWrite f w.tag false).updCredits f

/-- An injected range more would be held than R317 allows. -/
def State.injectFull (s : State) (f line : Nat) : Bool :=
  let inj := (s.port f).poison.filter (fun r => r.injected)
  decide (64 ≤ inj.length) && !inj.any (fun r => rangesTouch r.line r.lines line 1)

/-- INJECT_POISON. -/
def State.doInject (s : State) (f dpa : Nat) : State :=
  s.mail f 0x4301 (fun s =>
    if (s.access f dpa).isNone then s.reply f 0x4301 .invalidPhysicalAddress []
    else if s.injectFull f (dpa / 64) then s.reply f 0x4301 .invalidInput []
    else s.mailWrite f 0x4301 dpa 0 true)

/-- CLEAR_POISON: the line takes the data given (R31, R38). -/
def State.doClearPoison (s : State) (f dpa : Nat) (data : Line) : State :=
  s.mail f 0x4302 (fun s =>
    if (s.access f dpa).isNone then s.reply f 0x4302 .invalidPhysicalAddress []
    else s.mailWrite f 0x4302 dpa data false)

/-- GET_SCAN_MEDIA_CAPABILITIES: how long a scan takes is a free value (entry 3). -/
def State.doScanCaps (s : State) (f dpa lines : Nat) : State :=
  s.mail f 0x4303 (fun s =>
    if s.inCapacity f (dpa / 64) lines then
      let d := s.draw 4294967296
      d.2.reply f 0x4303 .success [d.1]
    else s.reply f 0x4303 .invalidPhysicalAddress [])

/-- A line of a scan's result: it grows the run before it, or starts one. -/
def scanAdd (runs : List (Nat × Nat)) (line : Nat) : List (Nat × Nat) :=
  match runs with
  | (a, n) :: rest => if a + n = line then (a, n + 1) :: rest else (line, 1) :: runs
  | [] => [(line, 1)]

/-- A scan reads one line of the face through its channel engine (R283, R332). -/
def State.scanLine (s : State) (f line devs : Nat) (runs : List (Nat × Nat)) : State × List (Nat × Nat) :=
  match s.access f (line * 64) with
  | none => (s, runs)
  | some (k, l) =>
    let r := (s.settle k).readLine k l devs txScanMedia
    match r.2 with
    | .poison => (r.1.addPoison f line 1 false, scanAdd runs line)
    | _ => (r.1, runs)

/-- The lines of a scan in order. -/
def State.scanLines (s : State) (f line : Nat) (devs : SMap Nat) : Nat → List (Nat × Nat) → State × List (Nat × Nat)
  | 0, runs => (s, runs)
  | n + 1, runs =>
    let r := s.scanLine f line (SMap.get 0 line devs) runs
    r.1.scanLines f (line + 1) devs n r.2

/-- Face blocks of the face's capacity: its static range and accepted extents. -/
def State.capBlocks (s : State) (f : Nat) : List Nat :=
  List.range (s.sv (FACES.STATIC_BLOCKS f)) ++
    ((s.port f).extents.filter (fun e => e.accepted)).flatMap (fun e => (List.range e.pool.length).map (fun i => e.block + i))

/-- The poison flag clears after a scan over the whole capacity whose every range the table holds (R38). -/
def State.scanEnd (s : State) (f line lines : Nat) (runs : List (Nat × Nat)) : State :=
  let q := s.port f
  let held (r : Nat × Nat) : Bool := q.poison.any (fun p => decide (p.line ≤ r.1) && decide (r.1 + r.2 ≤ p.line + p.lines))
  let whole := (s.capBlocks f).all (fun b => decide (line ≤ b * 4194304) && decide ((b + 1) * 4194304 ≤ line + lines))
  let clear := whole && runs.all held
  let s := s.setPort f { q with scan := runs.reverse, scanWait := none, poisonOvf := q.poisonOvf && !clear }
  s.bgEnd f 0x4304 0

/-- Slabs behind a range of lines of a face. -/
def State.scanSlabs (s : State) (f line lines : Nat) : List Nat :=
  (rangeBlocks line lines).flatMap (fun b => match s.faceBlock f b with
    | some x => s.blockSlabs x
    | none => [])

/-- A scan runs once every slab of its range is home; until then it promotes them (R267, R270). -/
def State.scanRun (s : State) (f line lines : Nat) (devs : SMap Nat) : State :=
  let away := (s.scanSlabs f line lines).filter (fun i => (s.slab i).rstate != 0)
  if away.isEmpty then
    let r := s.scanLines f line devs lines []
    r.1.scanEnd f line lines r.2
  else (s.setPort f { s.port f with scanWait := some (line, lines) }).forEach away (fun s i => s.promote f (i * 64))

/-- SCAN_MEDIA, a background command (R332). -/
def State.doScan (s : State) (f dpa lines : Nat) (devs : SMap Nat) : State :=
  s.mail f 0x4304 (fun s =>
    if !s.inCapacity f (dpa / 64) lines then s.reply f 0x4304 .invalidPhysicalAddress []
    else if (s.port f).bg.isSome then s.reply f 0x4304 .busy []
    else (s.bgStart f 0x4304).scanRun f (dpa / 64) lines devs)

/-- Scans that wait for their range go on. -/
def State.scanClock (s : State) : State :=
  s.forEach faces (fun s f => match (s.port f).scanWait with
    | some (a, n) =>
      if (s.scanSlabs f a n).all (fun i => (s.slab i).rstate == 0) then s.scanRun f a n [] else s
    | none => s)

/-- GET_SCAN_MEDIA_RESULTS: the poisoned runs of the last scan. -/
def State.doScanResults (s : State) (f : Nat) : State :=
  s.mail f 0x4305 (fun s =>
    let l := (s.port f).scan
    s.reply f 0x4305 .success (l.length :: l.flatMap (fun r => [r.1 * 64, r.2])))

/-! ### Dynamic Capacity (R322 to R324) -/

def DYNCAP.COUNT : SFld := ⟨0x13, 0, 0, 16⟩
def DYNCAP.FIRST (i : Nat) : SFld := ⟨0x13, 8 + 4 * i, 0, 16⟩
def DYNCAP.BLOCKS (i : Nat) : SFld := ⟨0x13, 8 + 4 * i, 16, 16⟩

/-- Pool blocks of the Dynamic Capacity pool, lowest first (R322). -/
def State.dcPool (s : State) : List Nat :=
  let runs := (List.range (s.sv DYNCAP.COUNT)).flatMap (fun i =>
    (List.range (s.sv (DYNCAP.BLOCKS i))).map (fun j => s.sv (DYNCAP.FIRST i) + j))
  if s.hasSec 0x13 then (List.range 65536).filter (fun b => runs.contains b) else []

/-- Pool blocks that an add which waits for the twin has chosen. -/
def State.dcReserved (s : State) : List Nat := (s.gal.ctls.filter (fun c => c.sub == 1)).flatMap (fun c => c.args.drop 1)

/-- Pool blocks that no face holds (R323). -/
def State.dcFree (s : State) : List Nat :=
  s.dcPool.filter (fun b => SMap.get 7 b s.slb.grants == 7 && !s.dcReserved.contains b)

/-- The condition of R114 on a block's slabs: every sett Zero and none in flight. -/
def State.blockZero (s : State) (b : Nat) : Bool :=
  (s.blockSlabs b).all (fun i => (List.range 64).all (fun j =>
    s.settState (i * 64 + j) == SettState.zero && (s.haulOf (i * 64 + j)).isNone))

/-- A pool block is given to a face, or back (7): OWNER of its slabs, and HEAT 0 with a grant (R113, R114, R323). -/
def State.giveBlock (s : State) (b f : Nat) : State :=
  let s := { s with slb := { s.slb with grants := SMap.put 7 b f s.slb.grants } }
  s.forEach (s.blockSlabs b) (fun s i => (s.setOwner i f).when (f != 7) (fun s => s.setHeat i 0))

/-- Face blocks that a face's extents, and adds that wait for the twin, cover. -/
def State.dcTaken (s : State) (f : Nat) : List Nat :=
  (s.port f).extents.flatMap (fun e => (List.range e.pool.length).map (fun i => e.block + i)) ++
  (s.gal.ctls.filter (fun c => c.sub == 1 && c.face == f)).flatMap (fun c =>
    (List.range (c.args.length - 1)).map (fun i => c.args.headD 0 + i))

/-- Places in the face's region where an extent fits. -/
def State.dcPlaces (s : State) (f n : Nat) : List Nat :=
  let taken := s.dcTaken f
  ((List.range (s.dcMax f + 1 - n)).map (fun i => s.sv (FACES.DC_BASE f) + i)).filter (fun b =>
    (List.range n).all (fun j => !taken.contains (b + j)))

/-- The place of an add: the one it names, or one of those that fit, which the manual does not choose (free value, entry 3). -/
def State.dcPlace (s : State) (f n : Nat) (first : Option Nat) : State × Option Nat :=
  let places := s.dcPlaces f n
  match first with
  | some b => (s, if places.contains b then some b else none)
  | none => if places.isEmpty then (s, none) else
      let d := s.draw places.length
      (d.2, places[d.1]?)

/-- An add grants its pool blocks and tells the face (R323 steps 2 and 3). -/
def State.grantExtent (s : State) (f first : Nat) (pool : List Nat) : State :=
  let s := s.forEach pool (fun s b => s.giveBlock b f)
  let e : Extent :=
    { block := first
      pool := pool
      accepted := false
      since := s.tick }
  let q := s.port f
  (s.setPort f { q with extents := q.extents ++ [e] }).postEvent f logInfo (.dcAdd first pool.length)

/-- The BMC's FM API is served (R323). -/
def State.fmApi (s : State) (f : Nat) (k : State → State) : State :=
  if s.hubOn && s.fwm.running then (if s.faceOn f then k s else s.send (.fm f .invalidInput [])) else s

/-- GET_DC_CONFIGURATION: regions, base, length, block size, and 1 for non-volatile (R318). -/
def State.dcConfig (s : State) (f : Nat) : List Nat :=
  [1, s.sv (FACES.DC_BASE f) * blockBytes, s.dcMax f * blockBytes, blockBytes, 1]
def State.doDcConfig (s : State) (f : Nat) : State := s.mail f 0x4800 (fun s => s.reply f 0x4800 .success (s.dcConfig f))
/-- GET_DC_REGION_CONFIGURATION. -/
def State.doFmConfig (s : State) (f : Nat) : State := s.fmApi f (fun s => s.send (.fm f .success (s.dcConfig f)))

/-- Accepted extents of a face: DPA and length (R323). -/
def State.dcExtents (s : State) (f : Nat) : List Nat :=
  let l := (s.port f).extents.filter (fun e => e.accepted)
  l.length :: l.flatMap (fun e => [e.block * blockBytes, e.pool.length * blockBytes])
/-- GET_DC_EXTENT_LIST. -/
def State.doDcExtents (s : State) (f : Nat) : State := s.mail f 0x4801 (fun s => s.reply f 0x4801 .success (s.dcExtents f))
/-- GET_DC_REGION_EXTENT_LISTS. -/
def State.doFmExtents (s : State) (f : Nat) : State := s.fmApi f (fun s => s.send (.fm f .success (s.dcExtents f)))

/-- INITIATE_DYNAMIC_CAPACITY_ADD (R323, R457). -/
def State.doDcAdd (s : State) (f n : Nat) (first : Option Nat) : State :=
  s.fmApi f (fun s =>
    let p := s.dcPlace f n first
    let pool := s.dcFree.take n
    match p.2 with
    | some b =>
      if n = 0 ∨ pool.length < n ∨ 512 ≤ (s.port f).extents.length ∨ !pool.all s.blockZero then p.1.send (.fm f .invalidInput [])
      else if s.twoSleds then p.1.ctrlSend 1 f 0 (b :: pool)
      else (p.1.grantExtent f b pool).send (.fm f .success [b])
    | none => p.1.send (.fm f .invalidInput []))

/-- A face's blocks [b, b + n) all lie in accepted extents (R324). -/
def State.dcHolds (s : State) (f b n : Nat) : Bool :=
  decide (0 < n) && (List.range n).all (fun i => (s.port f).extents.any (fun e =>
    e.accepted && decide (e.block ≤ b + i) && decide (b + i < e.block + e.pool.length)))

/-- INITIATE_DYNAMIC_CAPACITY_RELEASE: the face is told, and its response runs the release (R324). -/
def State.doFmRelease (s : State) (f b n : Nat) : State :=
  s.fmApi f (fun s =>
    if s.dcHolds f b n then (s.postEvent f logInfo (.dcRelease b n)).send (.fm f .success [])
    else s.send (.fm f .invalidInput []))

/-- A pending extent goes back: OWNER is unowned again (R323 step 5). -/
def State.dropPending (s : State) (f b : Nat) : State :=
  match (s.port f).extents.find? (fun e => e.block == b && !e.accepted) with
  | none => s
  | some e =>
    let s := s.forEach e.pool (fun s x => s.giveBlock x 7)
    s.setPort f { s.port f with extents := (s.port f).extents.filter (fun x => !(x.block == b && !x.accepted)) }

/-- DC_ADD_RESPONSE_TIMEOUT. -/
def State.doDcTimeout (s : State) (f b : Nat) : State := if s.hubOn then s.dropPending f b else s

/-- ADD_DC_RESPONSE: the extent is accessible from now, or its slabs are unowned again. -/
def State.doDcResponse (s : State) (f b : Nat) (accept : Bool) : State :=
  s.mail f 0x4802 (fun s =>
    if !(s.port f).extents.any (fun e => e.block == b && !e.accepted) then s.reply f 0x4802 .invalidExtentList []
    else if accept then
      let upd (e : Extent) : Extent := if e.block = b then { e with accepted := true } else e
      (s.setPort f { s.port f with extents := (s.port f).extents.map upd }).reply f 0x4802 .success []
    else (s.dropPending f b).reply f 0x4802 .success [])

/-- What waits for a slab under release goes: parked and waiting writes of ports and of the Gallery, reads that wait, hauls,
repairs and fetches (R277, R324 steps 1 and 2). -/
def State.clearWork (s : State) (i : Nat) : State :=
  let here (k : Nat) : Bool := settSlab k == i
  let s := s.forEach faces (fun s p => s.discard p (fun e => here e.sett && e.wait != .twin))
  let s := s.forEach ((List.range 64).map (fun b => i * 64 + b)) (fun s k => s.settle k)
  let s := s.abortSlab i
  let s := { s with dch := { s.dch with repairs := s.dch.repairs.filter (fun r => !here r.sett) } }
  let jobs := s.adm.jobq.filter (fun j => here j.sett)
  let s := { s with adm := { s.adm with jobq := s.adm.jobq.filter (fun j => !here j.sett) } }
  let s := s.freeJobs jobs
  { s with gal := { s.gal with held := s.gal.held.filter (fun h => !here h.sett), asks := s.gal.asks.filter (fun a => !here a.sett) } }

/-- A slab under release is Resident: its fetch stops (R277). -/
def State.stopFetch (s : State) (i : Nat) : State :=
  match (s.slab i).rstate with
  | 0 => s
  | r =>
    let n := RES_FETCHING.SLABS
    let s := if r = 2 then s.wr n (s.rd n - 1) else s.wr RES_UNREST.SLABS (s.rd RES_UNREST.SLABS - 1)
    let s := { s with res := { s.res with
      fetch := s.res.fetch.filter (fun x => x.slab != i)
      demand := s.res.demand.filter (fun d => settSlab d.2 != i)
      prefetch := s.res.prefetch.filter (fun x => x != i) } }
    s.setRstate i 0

/-- Steps 1 and 2 of the release of one slab (R324). -/
def State.releaseBegin (s : State) (i : Nat) : State := ((s.setLock i 16 true).clearWork i).stopFetch i

/-- Steps 3 and 4 of the release of one slab, to unowned (R324, R408). -/
def State.releaseSlab (s : State) (i : Nat) : State :=
  let s := s.forEach ((List.range 64).map (fun b => i * 64 + b)) (fun s k => s.makeZero k)
  let s := s.clrRslv i
  let s := s.unpinSlab i
  (((s.setLock i 14 false).setLock i 18 false).setOwner i 7).setLock i 16 false

/-- An extent without a run of face blocks: what is left of it. -/
def cutExtent (b n : Nat) (e : Extent) : List Extent :=
  let keep (lo hi : Nat) : List Extent :=
    if lo < hi then [{ e with block := lo, pool := (e.pool.drop (lo - e.block)).take (hi - lo) }] else []
  let endE := e.block + e.pool.length
  if !e.accepted ∨ b + n ≤ e.block ∨ endE ≤ b then [e] else keep e.block b ++ keep (b + n) endE

/-- Steps 3 and 4 of a release (R324). -/
def State.releaseEnd (s : State) (f : Nat) (r : Release) : State :=
  let s := s.forEach r.pool (fun s x =>
    let s := s.forEach (s.blockSlabs x) (fun s i => s.releaseSlab i)
    s.giveBlock x 7)
  let q := s.port f
  let s := s.setPort f { q with extents := q.extents.flatMap (cutExtent r.block r.count), rels := q.rels.filter (fun x => x != r) }
  let s := if s.gal.held.isEmpty && s.galUp then s.galAck else s
  s.retryPorts.checkHome

/-- A release of a run of face blocks begins: steps 1 and 2 (R324). -/
def State.releaseStart (s : State) (f b n : Nat) (twin : Bool) : State :=
  let pool := (List.range n).filterMap (fun i => s.faceBlock f (b + i))
  let s := s.forEach (pool.flatMap s.blockSlabs) (fun s i => s.releaseBegin i)
  s.setPort f { s.port f with rels := (s.port f).rels ++ [⟨b, n, pool, twin⟩] }

/-- Some slab of the blocks is under release already (R408). -/
def State.releasing (s : State) (f b n : Nat) : Bool :=
  (List.range n).any (fun i => match s.faceBlock f (b + i) with
    | some x => (s.blockSlabs x).any (fun i => (s.slab i).relq)
    | none => false)

/-- RELEASE_DC: the return is posted after step 4 (R324, R457). -/
def State.doReleaseDc (s : State) (f b n : Nat) : State :=
  s.mail f 0x4803 (fun s =>
    if !s.dcHolds f b n || s.releasing f b n then s.reply f 0x4803 .invalidInput []
    else
      let s := if s.twoSleds then s.ctrlSend 2 f 0x4803 [b, n] else s
      (s.releaseStart f b n false).openCmd f 0x4803)

/-- A release of this sled has reached step 4: its return is posted once the twin has too (R324, R457). -/
def State.releaseReply (s : State) (f : Nat) (r : Release) : State :=
  if r.twin then s.galOrdered (.ctrl 7 f) 14 f 7 2 [] [1] 0
  else if s.ctrlWaits 2 f || !s.fwm.openCmds.contains (f, 0x4803) then s
  else (s.closeCmd f 0x4803).reply f 0x4803 .success []

/-- Releases reach step 4 with the next tick (R324; DESIGN CHOICE 173). -/
def State.releaseTick (s : State) : State :=
  s.forEach faces (fun s f => s.forEach (s.port f).rels (fun s r => (s.releaseEnd f r).releaseReply f r))

/-! ### Negotiate Features (R339 to R342) -/

/-- The feature word that the device supports for a face (R339). -/
def State.supported (s : State) (f : Nat) : BitVec 128 :=
  let b (i : Nat) (p : Bool) : Nat := if p then 2 ^ i else 0
  BitVec.ofNat 128 (b 0 true + b 1 (!(s.ringBlocks f).isEmpty) + b 2 true + b 3 (s.hasSec secTwin) + b 4 true + b 5 true +
    b 6 (s.svOn (FACES.SABLE_POLICY f)))

/-- Some ring of a face is enabled. -/
def State.ringsLive (s : State) (f : Nat) : Bool :=
  s.job.rings.any (fun p => p.2.st != rgDisabled && decide (s.ringFace p.1 = some f))

/-- What takes effect with a new feature word (R44, R341). -/
def State.newFeatures (s : State) (f : Nat) (old : BitVec 128) : State :=
  let on (b : Nat) : Bool := s.feature f b && !old.getLsbD b
  let s := s.when (on featAdmission) (fun s => s.reportMargin f)
  s.when (on featVolatile && s.volatilePolicy f && s.margin == Margin.sable) (fun s =>
    (s.setBit BED_STATE.VOLATILE f true).postVendor f 2 0)

/-- NEGOTIATE_FEATURES. -/
def State.doNegotiate (s : State) (f : Nat) (request : BitVec 128) (ok0 ok36 : Bool) : State :=
  s.mail f 0xC000 (fun s =>
    let sup := s.supported f
    let en := request &&& sup
    let old := (s.nvFace f).feat
    let drops (b : Nat) : Bool := old.getLsbD b && !en.getLsbD b
    if (drops featRings && s.ringsLive f) || (drops featVolatile && s.volatileNow f) then s.reply f 0xC000 .busy []
    else if !(s.healthProgram ok0 ok36).1 then (s.healthProgram ok0 ok36).2.reply f 0xC000 .internalError []
    else
      let s := (s.healthProgram ok0 ok36).2
      let s := (s.setNv f { s.nvFace f with feat := en }).newFeatures f old
      let s := { s with bed := { s.bed with fneg := SMap.put 0 f ((SMap.get 0 f s.bed.fneg + 1) % 65536) s.bed.fneg } }
      s.vreply f 0xC000 0 [sup.toNat, en.toNat, 1])

/-! ### Other vendor commands (R343 to R345, R348) -/

/-- A face block lies inside the face's capacity as an access sees it (R321). -/
def State.blockIn (s : State) (f b : Nat) : Option Nat :=
  match s.faceBlock f b with
  | some x => if (s.blockSlabs x).all (fun i => (s.slab i).owner == f && !(s.slab i).relq && !(s.slab i).retire) then some x else none
  | none => none

/-- HEAT_HINT. -/
def State.doHeatHint (s : State) (f : Nat) (hints : List (Nat × Nat)) : State :=
  s.mailFeat f 0xC010 featHeat (fun s =>
    if hints.isEmpty ∨ 2047 < hints.length then s.reply f 0xC010 .invalidInput []
    else
      let ok := (hints.filter (fun h => (s.blockIn f h.1).isSome)).length
      let s := s.forEach hints (fun s h => match s.blockIn f h.1 with
        | some x => s.forEach (s.blockSlabs x) (fun s i => s.setHeat i (h.2 % 256))
        | none => s)
      s.vreply f 0xC010 0 [ok, hints.length - ok])

/-- GET_ENERGY_TELEMETRY. -/
def State.doTelemetry (s : State) (f : Nat) : State :=
  s.mailFeat f 0xC020 featEnergy (fun s => s.vreply f 0xC020 0
    [s.margin.code, s.rd LGR_STATUS.OVERHANG, if s.volatileNow f then 1 else 0, s.rd ADM_DIRTY.SETTS, s.rd LGR_CEIL.SETTS,
      s.rd LGR_TV.SETTS, s.rd (SLB_FDIRTY.SETTS f), s.rd (LGR_PSTAT.STATE 0), s.rd (LGR_PENG.JOULES 0),
      s.rd (LGR_PSTAT.STATE 1), s.rd (LGR_PENG.JOULES 1), s.rd LGR_UPD.COUNT])

/-- What both forms of Request Pack Removal answer. -/
def State.packReply (s : State) (f k : Nat) : State :=
  s.vreply f 0xC021 0 [s.rd LGR_PACK_CTL.RESULT, s.rd (LGR_PSTAT.STATE k)]

/-- REQUEST_PACK_REMOVAL: a request, or a poll that changes nothing. -/
def State.doPackRequest (s : State) (f pack : Nat) : State :=
  let k := pack % 2
  s.mailMgmt f 0xC021 (fun s => (s.when (!s.on (removeBit k)) (fun s => s.doRemoveRequest k)).packReply f k)

/-- CANCEL_PACK_REMOVAL. -/
def State.doPackCancel (s : State) (f pack : Nat) : State :=
  s.mailMgmt f 0xC021 (fun s => (s.doRemoveCancel (pack % 2)).packReply f (pack % 2))

/-- RESET_RANK_STATE (R348). -/
def State.doResetRank (s : State) (f c k : Nat) (ok : Bool × Bool) : State :=
  s.mailMgmt f 0xC050 (fun s =>
    let st := s.rank c k
    if s.anyOpen then s.reply f 0xC050 .busy []
    else if 36 ≤ c ∨ 4 ≤ k ∨ st = rkAbsent then s.vreply f 0xC050 2 []
    else if st = rkActive then s.vreply f 0xC050 1 []
    else if st = rkReplaced ∨ st = rkRetired ∨ st = rkDead then
      let p := s.mapWrite ok (fun s => (s.wr (DCH_RNKS.STATE c k) rkActive).mapRank c k rkActive 0 0)
      if p.1 then ((p.2.setRankSr c k false).chanUse c).vreply f 0xC050 0 [] else p.2.reply f 0xC050 .internalError []
    else s.reply f 0xC050 .invalidInput [])

end Sys2Proof.Machine
end

