-- ==== Sys2Proof/Machine/CipFx.lean ====
section
/-! DEFINITION. CIP commands, the key store's programs, transform keys, rotation of a media key, and cryptographic erase
(chapters 11, 13, 14). -/

namespace Sys2Proof.Machine

/-! ### Slot commands (R421) -/

/-- Results of a CIP command. -/
def cipBusy : Nat := 1
def cipKeyBusy : Nat := 2
def cipState : Nat := 3
def cipLimit : Nat := 4

/-- A command of the Foreman cluster: while another runs it ends with BUSY and disturbs nothing; else it works on the slot that
CIP_CMD_SLOT names. -/
def State.cipCmd (s : State) (k : State → Nat → State) : State :=
  if s.hubOn then
    if s.on CIP_CMD_STATUS.BUSY then s.wr CIP_CMD_STATUS.RESULT cipBusy else k s (s.rd CIP_CMD_SLOT.SLOT)
  else s

/-- A command ends at once. -/
def State.cipResult (s : State) (r : Nat) : State := s.wr CIP_CMD_STATUS.RESULT r

/-- A command begins whose effect waits for the key store, or for a test. -/
def State.cipBegin (s : State) (op slot : Nat) (key : BitVec 256) (face : Nat) : State :=
  (({ s with cip := { s.cip with cmd := some (CipCmd.mk op slot key face) } }).wr CIP_CMD_STATUS.BUSY 1).updStore

/-- Why a GENERATE into a slot is refused; 0: it is not (R421). -/
def State.genRefused (s : State) (k : Nat) : Nat :=
  if s.slotState k = slActive ∨ s.slotState k = slTransform then cipState
  else if s.slotRefs k ≠ 0 then cipKeyBusy else 0

/-- A key is drawn for a slot, and the store is programmed with it. -/
def State.generate (s : State) (k face : Nat) : State :=
  let d := s.drawKey
  d.2.cipBegin 1 k d.1 face

/-- CIP_GENERATE. -/
def State.doGenerate (s : State) : State :=
  s.cipCmd (fun s k => if s.genRefused k = 0 then s.generate k 0 else s.cipResult (s.genRefused k))

/-- CIP_ACTIVATE. -/
def State.doActivate (s : State) : State :=
  s.cipCmd (fun s k => if s.slotState k = slPartner then s.cipBegin 2 k 0 0 else s.cipResult cipState)

/-- A slot is cleared in one hub clock: operations that reference it end with KEY_LOST, and what the store holds of it is to be
purged (R189, R425, R426). -/
def State.clearSlot (s : State) (k : Nat) : State :=
  let hauls := s.slb.ift.filter (fun h => h.key == k && !(h.stage == 3 && h.newloc == 0))
  let stored := s.on (CIP_SLST.STORED k)
  let s := ((s.putKey k 0).setSlot k slEmpty (s.slotFace k)) |>.wr (CIP_SLST.WARN k) 0 |>.wr (CIP_SLST.LIMIT k) 0
  let s := s.when stored (fun s => { s with cip := { s.cip with
    purge := (k :: s.cip.purge).dedup
    stale := (k :: s.cip.stale).dedup } })
  ((s.forEach hauls (fun s h => s.abortHaul h.sett)).keyLostJobs k).updStore

/-- CIP_ZEROIZE. -/
def State.doZeroize (s : State) : State :=
  s.cipCmd (fun s k => if s.slotState k = slActive then s.cipResult cipState else (s.clearSlot k).cipResult 0)

/-- Both slots of a pair are cleared. -/
def State.clearPair (s : State) (k : Nat) : State := (s.clearSlot k).clearSlot (pairMate k)

/-- CIP_ZEROIZE_PAIR. -/
def State.doZeroizePair (s : State) : State :=
  s.cipCmd (fun s k => if k / 2 = 31 then s.cipResult cipState else (s.clearPair k).cipResult 0)

/-- A slot may be lent to a face: it is EMPTY and outside every enabled face's pair and pair 31 (R421). -/
def State.slotFree (s : State) (k : Nat) : Bool :=
  s.slotState k == slEmpty && k / 2 != 31 && !faces.any (fun f => s.faceOn f && s.sv (FACES.KEY_PAIR f) == k / 2)

/-- Transform slots that a face holds. -/
def State.txCount (s : State) (f : Nat) : Nat :=
  ((List.range 64).filter (fun k => s.slotState k == slTransform && s.rd (CIP_SLST.FACE k) == f)).length

/-- A transform key goes into a slot for a face. -/
def State.lendSlot (s : State) (k f : Nat) (key : BitVec 256) : State := (s.putKey k key).setSlot k slTransform f

/-- The key written through CIP_KEYIN0 to 7, CIP_KEYIN0 lowest. -/
def State.keyIn (s : State) : BitVec 256 :=
  BitVec.ofNat 256 ((List.range 8).foldr (fun i a => a * 4294967296 + (SMap.get (0 : Word) i s.cip.keyin).toNat) 0)

/-- CIP_LOAD_TX: CIP_KEYIN0 to 7 are clear after it. -/
def State.doLoadTx (s : State) : State :=
  s.cipCmd (fun s k =>
    let f := s.rd CIP_CMD_SLOT.FACE
    let key := s.keyIn
    let s := { s with cip := { s.cip with keyin := [] } }
    if !s.slotFree k then s.cipResult cipState
    else if s.rd CIP_CFG.TX_PER_FACE ≤ s.txCount f then s.cipResult cipLimit
    else
      let d := if s.on CIP_CMD_SLOT.GEN then s.drawKey else (key, s)
      (d.2.lendSlot k f d.1).cipResult 0)

/-- CIP_RELEASE_TX. -/
def State.doReleaseTx (s : State) : State :=
  s.cipCmd (fun s k => if s.slotState k = slTransform then (s.clearSlot k).cipResult 0 else s.cipResult cipState)

/-- CIP_KAT: a pair without power cannot be tested and ends with STATE too (DEDUCED 22). -/
def State.doKat (s : State) : State :=
  s.cipCmd (fun s k =>
    let p := k % 12
    if s.rd (CIP_PAIR.STATE p) = pairTesting ∨ s.rd (CIP_PAIR.STATE p) = pairOff then s.cipResult cipState
    else (s.testPair p).cipBegin 7 p 0 0)

/-- KAT_COMPLETE (R413). -/
def State.doKatComplete (s : State) (p : Nat) (pass : Bool) : State :=
  if s.hubOn && s.rd (CIP_PAIR.STATE p) == pairTesting then
    let s := s.katEnd p pass
    match s.cip.cmd with
    | some c => if c.op = 7 ∧ c.slot = p then s.cipDone 0 else s
    | none => s
  else s

/-- The block is not beyond step 4 of a save, where key-store work stops (R431). -/
def State.storeRuns (s : State) : Bool :=
  s.hubOn && (s.chip != Chip.save || decide (s.rd HAUL_SAVE_STAT.STEP ≤ 4))

/-- KEY_STORE_PROGRAMMED: a page on N00 and N36. With a copy written, the command that waits takes effect and the slots to be purged
are no longer in the newest page; with none, a command that waits for the store ends with STORE_FAIL (R418, R421, R425). -/
def State.doStoreProgrammed (s : State) (ok0 ok36 : Bool) : State :=
  if s.storeRuns && s.bootFree && (s.cip.cmd.any (fun c => c.op == 1 || c.op == 2) || !s.cip.purge.isEmpty) then
    let other := if s.cip.purge.isEmpty then s.stk.hblock else 1 - s.stk.hblock
    let p := s.bootBoth ((bootArea bootHealth).1 + other) ok0 ok36
    let s := p.2
    if p.1 then
      let was := s.cip.storeSeq
      let s := s.cipStored
      (if s.cip.storeSeq = was then s.storePage else s).updStore
    else if s.cip.cmd.any (fun c => c.op == 1 || c.op == 2) then s.cipDone 5
    else s.raise 695
  else s

/-- KEY_STORE_PURGE_DONE: the block with the earlier pages is erased on both copies, unless a sector forbids it; the newest page holds no
slot of the list (R233, R425). -/
def State.doPurgeDone (s : State) : State :=
  if s.storeRuns && !s.cip.purge.isEmpty && s.cip.stale.isEmpty then
    let e := s.bootErase 0 ((bootArea bootHealth).1 + s.stk.hblock)
    let f := e.2.bootErase 1 ((bootArea bootHealth).1 + s.stk.hblock)
    let s := f.2
    if !(e.1 && f.1) then s
    else ({ s with cip := { s.cip with purge := [] }, stk := { s.stk with hblock := 1 - s.stk.hblock } }).updStore
  else s

/-- DRBG_HEALTH_FAIL (R510). -/
def State.doDrbgFail (s : State) : State := if s.hubOn then (s.wr CIP_STATUS.DRBG_OK 0).raise 696 else s

/-! ### Transform keys of a face (R429) -/

/-- LOAD_TRANSFORM_KEY: which free slot is taken the manual does not say (free value, entry 3). -/
def State.doLoadKey (s : State) (f : Nat) (gen : Bool) (key : BitVec 256) : State :=
  s.mailFeat f 0xC300 featRings (fun s =>
    let free := (List.range 64).filter s.slotFree
    if s.rd CIP_CFG.TX_PER_FACE ≤ s.txCount f then s.vreply f 0xC300 1 []
    else if free.isEmpty then s.vreply f 0xC300 2 []
    else
      let d := s.draw free.length
      let k := free.getD d.1 0
      let e := if gen then d.2.drawKey else (key, d.2)
      (e.2.lendSlot k f e.1).vreply f 0xC300 0 [k])

/-- RELEASE_TRANSFORM_KEY. -/
def State.doReleaseKey (s : State) (f k : Nat) : State :=
  s.mailFeat f 0xC301 featRings (fun s =>
    if s.txSlot k f then (s.clearSlot k).vreply f 0xC301 0 [] else s.vreply f 0xC301 3 [])

/-! ### Rotation of a media key (R404, R429) -/

/-- Some slab that a face owns has KEYR. -/
def State.anyKeyr (s : State) (f : Nat) : Bool := s.slb.slabs.any (fun p => p.2.keyr && p.2.owner == f)

def State.setRotate (s : State) (f n : Nat) : State := { s with cip := { s.cip with rotate := SMap.put 0 f n s.cip.rotate } }

/-- ROTATE_MEDIA_KEY, a background command. -/
def State.doRotate (s : State) (f : Nat) : State :=
  s.mail f 0xC302 (fun s =>
    if s.anyKeyr f then s.vreply f 0xC302 4 []
    else if s.cip.rotate.any (fun p => decide (p.1 < 6)) then s.vreply f 0xC302 5 []
    else if (s.port f).bg.isSome then s.reply f 0xC302 .busy []
    else (s.bgStart f 0xC302).setRotate f 1)

/-- The pair that a rotation is of: a face's, or under 6 the metadata pair. -/
def State.rotatePair (s : State) (f : Nat) : Nat := if f = 6 then 31 else s.sv (FACES.KEY_PAIR f)

/-- The slot that a rotation writes: the partner of the active slot, or the pair's first slot if none is active. -/
def State.rotateSlot (s : State) (f : Nat) : Nat :=
  match s.activeSlot (s.rotatePair f) with
  | some k => pairMate k
  | none => 2 * s.rotatePair f

/-- A slab still holds a Clean sett whose copy is under a slot (R404 step 4). -/
def State.slabUnder (s : State) (i k : Nat) : Bool :=
  (List.range 64).any (fun j => s.settState (i * 64 + j) == SettState.clean &&
    (s.recAt (s.loc (i * 64 + j))).any (fun r => r.key == k))

/-- The old slot has no copies left: it is zeroized and the command is over. -/
def State.rotateEnd (s : State) (f : Nat) : State :=
  let act := (s.activeSlot (s.sv (FACES.KEY_PAIR f))).getD 0
  let s := (s.clearSlot (pairMate act)).setRotate f 0
  if (s.port f).bg = some 0xC302 then (s.bgEnd f 0xC302 0).vreply f 0xC302 0 [act] else s

/-- Hauls under the old slot have ended: KEYR is set on every slab of the face; and rewrap clears it, slab by slab (R404 steps 3 to 5). -/
def State.rewrapMove (s : State) (f k : Nat) : State :=
  if SMap.get 0 f s.cip.rotate = 5 then
    if s.slb.ift.any (fun h => decide (h.stage ≠ 0) && h.key == k) then s
    else (s.forEach (s.ownSlabs f) (fun s i => s.setLock i 18 true)).setRotate f 6
  else
    let done := s.slb.slabs.filter (fun p => p.2.keyr && p.2.owner == f && !s.slabUnder p.1 k)
    let s := s.forEach done (fun s p => s.setLock p.1 18 false)
    if s.anyKeyr f then s else s.rotateEnd f

/-- One move of a rotation. A command that a fence abandoned is issued again (R429, R431). The metadata pair's waits in 5 and 6 for
saves to be released, and in 7 its former slot is zeroized (R424). -/
def State.rotateMove (s : State) (f : Nat) : State :=
  let k := s.rotateSlot f
  let idle := !s.on CIP_CMD_STATUS.BUSY
  match SMap.get 0 f s.cip.rotate with
  | 1 => if idle && s.genRefused k == 0 then (s.generate k (f + 1)).setRotate f 2 else s
  | 2 => if s.cip.cmd.isNone then s.setRotate f 1 else s
  | 3 => if idle then (s.cipBegin 2 k 0 (f + 1)).setRotate f 4 else s
  | 4 => if s.cip.cmd.isNone then s.setRotate f 3 else s
  | 5 => if f = 6 then s else s.rewrapMove f k
  | 6 => if f = 6 then s else s.rewrapMove f k
  | 7 => (s.clearSlot k).setRotate f 0
  | _ => s

/-- The firmware begins a rotation on WARN of an ACTIVE slot of an open face, while it may be commanded (R404, R424). -/
def State.warnRotate (s : State) : State :=
  s.forEach (faces.filter s.faceOpen) (fun s f =>
    let warn := (s.activeSlot (s.rotatePair f)).any (fun k => s.on (CIP_SLST.WARN k))
    s.when (warn && !s.anyKeyr f && !s.cip.rotate.any (fun p => decide (p.1 < 6))) (fun s => s.setRotate f 1))

/-- On WARN of K62 or K63 the metadata partner is generated and activated; the saves taken before are all released then (R424; entry 177). -/
def State.warnMeta (s : State) : State :=
  let home := s.saves.all (fun v => v.released)
  let warn := s.metaSlot.any (fun k => s.on (CIP_SLST.WARN k))
  let s := s.when (warn && home && SMap.get 0 6 s.cip.rotate == 0) (fun s => s.setRotate 6 1)
  s.when home (fun s => s.rotateMove 6)

/-- Rotations of open faces go on, and those that WARN asks for begin. -/
def State.rotateClock (s : State) : State :=
  if s.working then
    (s.warnRotate.forEach (s.cip.rotate.filter (fun p => s.faceOpen p.1)) (fun s p => s.rotateMove p.1)).warnMeta
  else s

/-! ### Cryptographic erase (R332, R427, R428) -/

/-- A sett of the face is in the in-flight table: making the face's setts Zero waits until its entry leaves (R102). -/
def State.faceHauls (s : State) (f : Nat) : Bool := s.slb.ift.any (fun h => (s.slab (settSlab h.sett)).owner == f)

/-- Every sett of a face is made Zero; what waits for its slabs' fetches is looked at again (R101, R102). -/
def State.zeroSetts (s : State) (f : Nat) : State :=
  let s := s.forEach (s.ownSlabs f) (fun s i =>
    let s := (s.forEach ((List.range 64).map (fun b => i * 64 + b)) (fun s k => s.settle k)).stopFetch i
    let s := { s with dch := { s.dch with repairs := s.dch.repairs.filter (fun r => settSlab r.sett != i) } }
    s.forEach ((List.range 64).map (fun b => i * 64 + b)) (fun s k => s.makeZero k))
  (s.setPort f { s.port f with poison := [] }).retryPorts.checkHome

/-- Steps 1 and 2 begin: both keys of the face's pair are cleared, the erase is recorded, and a key is to be generated. -/
def State.eraseBegin (s : State) (f op : Nat) (twin : Bool) : State :=
  let s := s.clearPair (2 * s.sv (FACES.KEY_PAIR f))
  let s := { s with cip := { s.cip with
    erasePend := withBit f true s.cip.erasePend
    eraseSan := withBit f (op == 0x4400) s.cip.eraseSan } }
  s.setPort f { s.port f with erasing := some (Erase.mk op 1 twin) }

/-- Secure Erase and Sanitize are refused with Busy while the face's HDM decoder is committed. -/
def State.eraseCmd (s : State) (f op : Nat) (k : State → State) : State :=
  s.mail f op (fun s =>
    if (s.port f).hdm || (s.port f).erasing.isSome then s.reply f op .busy []
    else
      let s := if s.twoSleds then s.ctrlSend 4 f op [op] else s
      (k s).eraseBegin f op false)

/-- SECURE_ERASE: the return waits for the erase. -/
def State.doSecureErase (s : State) (f : Nat) : State := s.eraseCmd f 0x4401 (fun s => s.openCmd f 0x4401)

/-- SANITIZE, a background command. -/
def State.doSanitize (s : State) (f : Nat) : State :=
  if (s.port f).bg.isSome then s.mail f 0x4400 (fun s => s.reply f 0x4400 .busy []) else s.eraseCmd f 0x4400 (fun s => s.bgStart f 0x4400)

/-- A record lies under a key that a pair's slots no longer hold. -/
def State.oldRec (s : State) (pair : Nat) (r : Rec) : Bool := r.key / 2 == pair && s.slotKey r.key != r.keyVal

/-- Lodes that hold a page under the old keys of a face's pair. -/
def State.oldLodes (s : State) (f : Nat) : List (Nat × Nat) :=
  let p := s.sv (FACES.KEY_PAIR f)
  ((s.stk.recs.filter (fun x => x.2.any (s.oldRec p))).map (fun x => s.locLode (BitVec.ofNat 32 x.1))).dedup

/-- Sanitize forces rework of the lodes it must erase: they are sealed and count as sources of the first kind (R245, R332). -/
def State.forceLodes (s : State) (f : Nat) : State :=
  s.forEach (s.oldLodes f) (fun s x =>
    let l := s.lode x.1 x.2
    let s := if l.st = lodeOpen then { s with stk := { s.stk with
      openLode := if SMap.get 0 x.1 s.stk.openLode = x.2 + 1 then SMap.put 0 x.1 0 s.stk.openLode else s.stk.openLode } } else s
    s.setLode x.1 x.2 { l with st := if l.st = lodeOpen then lodeSealed else l.st, early := true })

/-- The erase of a face is over: its return is posted, a face that waited for it opens, and the twin is told (R332, R457). -/
def State.eraseEnd (s : State) (f : Nat) (e : Erase) : State :=
  let s := s.setPort f { s.port f with erasing := none }
  let s := { s with cip := { s.cip with
    erasePend := withBit f false s.cip.erasePend, eraseSan := withBit f false s.cip.eraseSan } }
  let s := if e.twin then s.galOrdered (.ctrl 7 f) 14 f 7 4 [] [1] 0 else s
  let s := if e.op = 0x4400 ∧ !e.twin then s.bgEnd f 0x4400 0
    else if s.fwm.openCmds.contains (f, e.op) then (s.closeCmd f e.op).reply f e.op .success [] else s
  if (s.port f).wasOpen then s.openVia (2 ^ f) else s

/-- One move of an erase. -/
def State.eraseMove (s : State) (f : Nat) (e : Erase) : State :=
  let pair := s.sv (FACES.KEY_PAIR f)
  let put (s : State) (n : Nat) : State := s.setPort f { s.port f with erasing := some { e with step := n } }
  match e.step with
  | 1 =>
    if (s.activeSlot pair).isSome then put s 2
    else if !s.on CIP_CMD_STATUS.BUSY && s.genRefused (2 * pair) == 0 then put (s.generate (2 * pair) 0) 2 else s
  | 2 =>
    if (s.activeSlot pair).isSome then
      if s.faceHauls f then s
      else
      let s := (put s 3).zeroSetts f
      if e.op = 0x4400 then s.forceLodes f else s
    else if s.cip.cmd.isNone then put s 1
    else s
  | _ => if s.ctrlWaits 4 f || (e.op == 0x4400 && !(s.oldLodes f).isEmpty) then s else s.eraseEnd f e

/-- Erases go on, also those that a save interrupted (R332). -/
def State.eraseClock (s : State) : State :=
  if s.chip == Chip.waking || s.working then
    s.forEach faces (fun s f => match (s.port f).erasing with
      | some e => s.eraseMove f e
      | none => s)
  else s

end Sys2Proof.Machine
end

