-- ==== Sys2Proof/Machine/GalFx.lean ====
section
/-! DEFINITION. The Gallery: links, mirrored writes, parked writes' admission, recovery, joining, resilver, loss of the twin,
and operations that run on both sleds (chapters 06, 13, 15). -/

namespace Sys2Proof.Machine

/-! ### Writes that wait for their lookup (R440 to R442) -/

/-- The Gallery exchanges messages: a link carries them and no save or Hold stands (R435, R447). -/
def State.galTakes (s : State) : Bool := s.galUp && s.working

/-- Sleds that mirror or are mirrored to (R440, R454). -/
def State.galPairs (s : State) : Bool := s.mirrors || s.galMode == modeRslvDst

/-- A restore before RES_CMD OPEN: no sett is in DRAM yet (R258). -/
def State.preOpen (s : State) : Bool := s.chip == Chip.restoring && decide (s.rd RES_STATUS.PHASE < 5)

/-- The lines of a sett as its state gives them: in DRAM, zeros, poison, or the record that its entry names (R268). -/
def State.imageLine (s : State) (k l : Nat) : LineRes :=
  if s.dirty k then (if s.poisoned k l then .poison else .data (s.lineAt k l))
  else match locKind (s.loc k) with
    | 0 => .data 0
    | 3 => .poison
    | _ => match s.recAt (s.loc k) with
      | some r => if s.decrypts r && !r.poison.getLsbD l then .data (r.line l) else .poison
      | none => .poison

/-- A Gallery write before OPEN finds its sett brought into DRAM by its state (R268, R452; DEDUCED 24). -/
def State.bringSett (s : State) (k : Nat) : State :=
  if s.dirty k then s
  else match locKind (s.loc k) with
    | 0 => s.engineZero k
    | 3 => s.enginePoisonSett k
    | _ => match s.recAt (s.loc k) with
      | some r => if s.decrypts r then s.engineSett k r.data r.poison else s.enginePoisonSett k
      | none => s.enginePoisonSett k

/-- The write leaves the queue. -/
def State.dropHeld (s : State) (h : GalIn) : State := { s with gal := { s.gal with held := s.gal.held.filter (fun x => x != h) } }

/-- Messages of the twin's stream that wait here (R442). -/
def State.galQueue (s : State) : Nat :=
  (((s.gal.held.filter (fun h => h.kind != 2 && h.kind != 4)).map (fun h => h.seq)).dedup).length

/-- A full Gallery queue withholds the stream's credits (R442). -/
def State.galFull (s : State) : Bool := decide (512 ≤ s.galQueue)

/-- A write of the twin passes its lookup; mirrored writes set REWR as host writes do (R105, R440, R442). -/
def State.galLook (s : State) (h : GalIn) : State :=
  let k := h.sett
  let fresh := !s.dirty k
  let s := s.when (s.preOpen && h.kind != 3) (fun s => s.bringSett k)
  ((s.settle k).when fresh (fun s => s.addWrap ADM_ADMITS.COUNT 1)).lookedUp k

/-- A write of the twin passes its lookup and is made in DRAM (R440). -/
def State.galStore (s : State) (h : GalIn) : State :=
  let fresh := !s.dirty h.sett
  ((s.galLook h).engineWrite h.sett h.line h.data h.mask h.poison).when fresh (fun s => s.releaseParked h.sett)

/-- The read before a partial write of the twin; `true`: it has begun a repair, which the write waits for in its place (R298). -/
def State.galRead (s : State) (h : GalIn) : State × Bool :=
  if (h.kind = 0 ∨ h.kind = 2) ∧ h.mask ≠ fullMask ∧ !h.poison ∧ !s.preOpen then
    let fresh := !s.dirty h.sett
    let r := (s.galLook h).readAs h.sett h.line h.devs (s.settState h.sett) fresh txHostWrite
    match r.2 with
    | .repair =>
      let wait (x : GalIn) : GalIn := if x = h then { h with devs := 0 } else x
      let t := { r.1 with gal := { r.1.gal with held := r.1.gal.held.map wait } }
      (t.when fresh (fun s => s.releaseParked h.sett), true)
    | _ => (r.1.when fresh (fun s => s.releaseParked h.sett), false)
  else (s, false)

/-- An ORDER lets this sled look up the write that it holds (R440). -/
def State.orderStore (s : State) (h : GalIn) : State :=
  let k := h.sett
  let fresh := !s.dirty k
  let count (s : State) : State := s.when fresh (fun s => s.addWrap ADM_ADMITS.COUNT 1)
  if h.port < 7 then
    match s.write? h.port h.wtag with
    | none => s
    | some e =>
      let s := ((count s).when fresh (fun s => s.addWrap (HPT_CNT_FRESH.COUNT h.port) 1)).lookedUp k
      ((s.setWrite h.port { e with wait := .admitted, fresh := e.fresh || fresh }).complete h.port h.wtag).when fresh
        (fun s => s.releaseParked k)
  else
    match s.adm.jobq.find? (fun j => j.twin && j.ring * 65536 + j.idx == h.wtag) with
    | none => s
    | some j =>
      let s := { s with adm := { s.adm with jobq := s.adm.jobq.filter (fun x => x != j) } }
      let s := (((count s).settle k).lookedUp k).engineWrite k j.line j.data j.mask j.poison
      (s.jobWrote j.ring j.idx).when fresh (fun s => s.releaseParked k)

/-- A resilvered sett that the survivor holds as Zero or Lost (R454). -/
def State.rslvWhole (s : State) (k : Nat) (zero : Bool) : State :=
  let s := s.settle k
  if zero then s.makeZero k
  else
    let f := (s.slab (settSlab k)).owner
    let s := (((s.clearDirty k).setLoc k locLost).enginePoisonSett k).reportLost k
    if f < 6 then s.countShutdown f else s

/-- A waiting message is looked up: an ORDER answers a FWD, a supplied line ends the repair that waits for it (R440, R450). -/
def State.applyHeld (s : State) (h : GalIn) : State :=
  let r := s.galRead h
  if r.2 then r.1
  else
  let s := r.1.dropHeld h
  match h.kind with
  | 1 => s.orderStore h
  | 2 =>
    let dpa := (s.unmapLine h.face h.sett h.line).getD 0
    (s.galStore h).galOrdered (.order h.seq dpa h.sett) 5 h.face 0 h.seq [] [] 0
  | 4 => ((s.galStore h).dropRepair h.sett h.line).retryPorts
  | 5 => s.rslvWhole h.sett true
  | 6 => s.rslvWhole h.sett false
  | _ => s.galStore h

/-- Writes that wait for admission at the Gallery. -/
def State.galFresh (s : State) : List GalIn := s.gal.held.filter (fun h => s.galReady h && !h.whole && !s.dirty h.sett)

/-- A write arrives, and may raise the slab's HEAT as a host's does: it is looked up at once where R154 admits it, else it waits
(R111, R440, R442). -/
def State.galEnter (s : State) (h : GalIn) : State :=
  let s := s.when (h.kind == 0 || h.kind == 2) (fun s => s.raiseHeat (settSlab h.sett))
  let none_ := s.galFresh.isEmpty
  let s := { s with gal := { s.gal with held := s.gal.held ++ [h] } }
  if s.galReady h then (if h.whole || s.dirty h.sett || (none_ && s.admits h.face) then s.applyHeld h else s)
  else if s.settHome h.sett || s.dirty h.sett || decide (3 ≤ h.kind) then s
  else s.promote 6 h.sett

/-- A line write of the twin to a face DPA; one that this sled's map does not hold is dropped. `devs` are the devices in error that the
read before a partial write finds. -/
def State.galLine (s : State) (seq kind f dpa : Nat) (data : Line) (mask : BitVec 64) (poison : Bool) (devs : Nat) : State :=
  match s.mapLine f dpa with
  | none => if kind = 2 then s.galOrdered (.order seq dpa 0) 5 f 0 seq [] [] 0 else s
  | some (k, l) => s.galEnter
      { seq := seq
        kind := kind
        face := f
        sett := k
        line := l
        data := data
        mask := mask
        poison := poison
        port := 7
        wtag := 0
        devs := devs }

/-- Writes that wait at the Gallery for anything but admission go on when they may. -/
def State.retryHeld (s : State) : State :=
  s.forEach s.gal.held (fun s h =>
    if s.gal.held.contains h && s.galReady h && (h.whole || s.dirty h.sett) then s.applyHeld h else s)

/-- An ordered message is taken in SEQ order, and what is looked up is acknowledged (R438, R441). -/
def State.ordered (s : State) (seq : Nat) (k : State → State) : State :=
  if s.galTakes && s.galPairs && seq == s.rd GAL_RXSEQ.SEQ && !s.galFull then (k (s.addWrap GAL_RXSEQ.SEQ 1)).galAck else s

/-- MIRROR: `devs` are the devices in error that the read before a partial write finds (R298). -/
def State.doMirror (s : State) (seq f dpa : Nat) (data : Line) (mask : BitVec 64) (poison : Bool) (devs : Nat) : State :=
  s.ordered seq (fun s => s.galLine seq 0 f dpa data mask poison devs)

/-- FWD: the keeper looks the write up and orders it. -/
def State.doFwd (s : State) (tag f dpa : Nat) (data : Line) (mask : BitVec 64) (poison : Bool) (devs : Nat) : State :=
  if s.galTakes && s.mirrors then s.galLine tag 2 f dpa data mask poison devs else s

/-- The write or the job's write that a FWD of this sled stands for. -/
def State.heldOrder (s : State) (seq : Nat) (x : GalFwd) : Option GalIn :=
  let mk (f k l : Nat) (p : Bool) : GalIn :=
    { seq := seq
      kind := 1
      face := f
      sett := k
      line := l
      data := 0
      mask := 0
      poison := p
      port := x.port
      wtag := x.wtag }
  if x.port < 7 then (s.write? x.port x.wtag).map (fun e => mk x.port e.sett e.line e.poison)
  else (s.adm.jobq.find? (fun j => j.twin && j.ring * 65536 + j.idx == x.wtag)).map (fun j =>
    mk (s.slab (settSlab j.sett)).owner j.sett j.line j.poison)

/-- ORDER. -/
def State.doOrder (s : State) (seq tag : Nat) : State :=
  s.ordered seq (fun s =>
    match s.gal.fwds.find? (fun x => x.tag == tag) with
    | none => s
    | some x =>
      let h := s.heldOrder seq x
      let s := { s with gal := { s.gal with fwds := s.gal.fwds.filter (fun y => y.tag != tag) } }
      match h with
      | some h => s.galEnter h
      | none => s)

/-- A message of this sled's stream is looked up at the twin: its write completes, its slab is level (R440, R454). -/
def State.acked (s : State) (o : GalOut) : State :=
  let s := s.forEach faces (fun s p =>
    s.forEach ((s.port p).wbuf.filter (fun e => e.seq == o.seq + 1 && !e.done)) (fun s e => s.complete p e.tag))
  match o.msg with
  | .slabDone i => (s.clrRslv i).wr GAL_RSLV_DONE.SLABS (s.rd GAL_RSLV_DONE.SLABS + 1)
  | _ => s

/-- A SEQ lies at or before another one (R441). -/
def seqUpTo (q top : Nat) : Bool := decide ((top + 4294967296 - q) % 4294967296 < 2147483648)

/-- An ACK covers a SEQ (R438). -/
def ackCovers (top : Nat) (map : BitVec 512) (q : Nat) : Bool :=
  seqUpTo q top || (decide ((q + 4294967295 - top) % 4294967296 < 512) && map.getLsbD ((q + 4294967295 - top) % 4294967296))

/-- ACK. -/
def State.doAck (s : State) (top : Nat) (map : BitVec 512) : State :=
  if s.galTakes && s.galPairs then
    let hit := s.gal.sent.filter (fun o => ackCovers top map o.seq)
    let s := { s with gal := { s.gal with sent := s.gal.sent.filter (fun o => !ackCovers top map o.seq) } }
    ((s.wr GAL_ACKSEQ.SEQ top).forEach hit (fun s o => s.acked o)).retryPorts
  else s

/-! ### PARKED_WRITE_ADMIT (R156) -/

/-- A parked write of a port is looked up in its turn; a lookup that now finds a fetch, a lock or a repair waits for that. -/
def State.admitPort (s : State) (p : Nat) (e : WEnt) : State :=
  let wait : Nat := s.tick - e.since
  let s := (s.sample 15 wait).extreme 5 wait
  let s := match s.access p e.dpa with
    | none => ((s.outOfCapacity p e.dpa).complete p e.tag).dropWrite p e.tag
    | some (k, l) =>
      if s.settHome k && !(s.slab (settSlab k)).jobl && (s.repairOf k l).isNone then
        let s := s.goWrite p { e with sett := k, line := l }
        if s.dirty k then s.releaseParked k else s
      else s.lookupWrite p e.tag false
  (s.enterQueue p).updCredits p

/-- A parked write of a job is made. -/
def State.admitJob (s : State) (j : Parked) : State :=
  let s := { s with adm := { s.adm with jobq := s.adm.jobq.filter (fun x => x != j) } }
  let fresh := !s.dirty j.sett
  ((s.when fresh (fun s => s.addWrap ADM_ADMITS.COUNT 1)).jobRelease j).when fresh (fun s => s.releaseParked j.sett)

/-- The head of a requester's queue may be admitted now. -/
def State.headAdmits (s : State) (r : Nat) : Bool :=
  match s.headOf r with
  | some h => s.dirty h.1 || s.admits h.2
  | none => false

/-- PARKED_WRITE_ADMIT: the first requester in turn whose head may be admitted (R154, R156). -/
def State.doParkedAdmit (s : State) : State :=
  if s.working then
    match s.turns.find? s.headAdmits with
    | none => s
    | some r =>
      let s := { s with adm := { s.adm with rr := r } }
      if r < 6 then (match s.fqHead r with
        | some e => s.admitPort r e
        | none => s)
      else if r = 6 then (match s.galFresh with
        | h :: _ => let s := s.applyHeld h; if s.galUp then s.galAck else s
        | [] => s)
      else match s.adm.jobq.find? (fun j => !j.twin) with
        | some j => s.admitJob j
        | none => s
  else s

/-! ### Single-sled mode, and a fence of this sled (R446 to R448, R455, R458) -/

/-- The slabs that messages of either stream name which are not fully acknowledged (R448 step 2). -/
def State.unackedSlabs (s : State) : List Nat :=
  s.gal.sent.filterMap (fun o => match o.msg with
    | .mirror _ _ k => some (settSlab k)
    | .order _ _ k => some (settSlab k)
    | .rslv k => some (settSlab k)
    | .slabDone i => some i
    | .lineData _ _ k => some (settSlab k)
    | .ctrl _ _ => none)
  ++ s.gal.held.map (fun h => settSlab h.sett)

/-- Neither stream has anything in it. -/
def State.clearStreams (s : State) : State :=
  { s with gal := { s.gal with sent := [], held := [], fwds := [], asks := [], reqs := [], lineWait := [], joinStep := 0 } }

/-- A request to the twin ends without data: the single-sled rule of what asked for it applies (R450). -/
def State.askFails (s : State) (a : GalAsk) : State :=
  let s := ({ s with gal := { s.gal with asks := s.gal.asks.filter (fun x => x.tag != a.tag) } }).addSat GAL_RECOVER.FAIL 1
  let s := s.raise 563
  if a.line ≠ 0 then (if (s.repairOf a.sett (a.line - 1)).isSome then s.repairFails a.sett (a.line - 1) else s)
  else if s.res.fetch.any (fun f => f.slab == settSlab a.sett) then
    ((s.fetchLost a.sett).fetchDone (settSlab a.sett) a.sett).fetchEnd (settSlab a.sett)
  else s

/-- An operation of a pair is done on both sleds, or alone: its return is posted (R457, R458). -/
def State.ctlEnd (s : State) (c : GalCtl) (ok : Bool) : State :=
  let s := { s with gal := { s.gal with ctls := s.gal.ctls.filter (fun x => x != c) } }
  let ret (s : State) (r : Ret) : State :=
    if s.fwm.openCmds.contains (c.face, c.opcode) then (s.closeCmd c.face c.opcode).reply c.face c.opcode r [] else s
  match c.sub with
  | 1 =>
    if ok then (s.grantExtent c.face (c.args.headD 0) (c.args.drop 1)).send (.fm c.face .success [c.args.headD 0])
    else s.send (.fm c.face .invalidInput [])
  | 2 => if (s.port c.face).rels.isEmpty then ret s .success else s
  | 5 => ret s (if ok then .success else .internalError)
  | 6 => ret s (if ok then .success else .internalError)
  | _ => s

/-- Faces that wait for it open, once the restore has come that far (R258, R276). -/
def State.openWaiting (s : State) : State :=
  if (s.chip == Chip.opened || (s.chip == Chip.restoring && s.res.filling)) && s.wasOpenSet != 0 then s.openVia s.wasOpenSet else s

/-- A restore that waited at step 5 for its twin goes on (R258, R452). -/
def State.endWait (s : State) : State :=
  if s.chip == Chip.restoring && !s.res.rebuilt && !s.res.filling && s.res.scanTick == 0 && s.on RES_CMD_STATUS.BUSY then s.rebuildEnd else s

/-- Held writes are looked up here, and writes that waited for the twin complete (R448 step 3). -/
def State.aloneWrites (s : State) (fwds : List GalFwd) : State :=
  let s := s.forEach fwds (fun s x => match s.heldOrder 0 x with
    | some h => s.orderStore h
    | none => s)
  s.forEach faces (fun s p => s.forEach ((s.port p).wbuf.filter (fun e => e.seq != 0 && !e.done)) (fun s e => s.complete p e.tag))

/-- Codes of GAL_STATUS.CAUSE (R460). -/
def causeFence : Nat := 1
def causeTwinState : Nat := 2
def causeAbsent : Nat := 3
def causePartition : Nat := 4
def causeHandover : Nat := 5
def causeJoin : Nat := 6

/-- The sled serves alone from here: marks, waiting writes, operations and requests (R448, R455). -/
def State.goAlone (s : State) : State :=
  let marks := s.unackedSlabs ++ (if s.galMode = modeJoining ∨ s.gal.joinStep ≠ 0 then
    s.gal.lines.filterMap (fun x => (s.mapLine x.1 x.2).map (fun y => settSlab y.1)) else [])
  let fwds := s.gal.fwds
  let asks := s.gal.asks
  let s := ((s.forEach marks (fun s i => s.setRslv i)).clearStreams).wr GAL_STATUS.MODE modeSingle
  let s := { s with gal := { s.gal with graceAt := 0, joinAt := 0, lines := [] } }
  let s := (s.aloneWrites fwds).forEach s.gal.ctls (fun s c => s.ctlEnd c true)
  (s.forEach asks (fun s a => s.askFails a)).wr GAL_RSLV.KIND 0

/-- Entry to single-sled mode (R448). -/
def State.enterSingle (s : State) (cause : Nat) : State :=
  let s := { s with gal := { s.gal with joinEpoch := s.gal.epoch, epoch := s.gal.epoch + 1 } }
  let s := (s.goAlone) |>.wr GAL_STATUS.SOLO 1 |>.wr GAL_STATUS.CAUSE cause |>.raise 560
  (s.postVendorAll 5 0).endWait.openWaiting.retryPorts

/-- A face of a FENCED or handed-over sled closes; writes that are not looked up never complete (R260, R446). -/
def State.galFencePort (s : State) (p : Nat) : State :=
  let was := s.faceOpen p
  let s := ((s.discard p (fun _ => true)).drainPort p).closeFace p
  let q := s.port p
  let w := q.wbuf.map (fun e => { e with done := true })
  (s.setPort p { q with wbuf := w, reads := [], wasOpen := q.wasOpen || was }).updCredits p

/-- The sled fences its ports (R446): what was under way in either stream is marked for the rejoin. -/
def State.galFence (s : State) : State :=
  let jobs := s.adm.jobq.filter (fun j => j.twin)
  let s := (s.forEach s.unackedSlabs (fun s i => s.setRslv i)).forEach faces (fun s p => s.galFencePort p)
  let s := { s with adm := { s.adm with jobq := s.adm.jobq.filter (fun j => !j.twin) } }
  let s := s.freeJobs jobs
  let asks := s.gal.asks
  let s := (s.clearStreams.forEach asks (fun s a => s.askFails a)).wr GAL_STATUS.MODE modeFenced
  s.wr GAL_RSLV.KIND 0

/-- Twin A (R434). -/
def State.twinA (s : State) : Bool := s.sv TWIN.ROLE == 0

/-- What the row of R446 for the twin's status makes the sled do, while it decides; `s.gal.seen` names the row. -/
def State.lossDecide (s : State) : State :=
  if s.gal.graceAt = 0 then s
  else
    let join := s.gal.joinAt ≠ 0 ∨ s.galMode = modeJoining
    let fence (s : State) : State := (({ s with gal := { s.gal with graceAt := 0 } }).galFence).raise 561
    match s.gal.seen with
    | 1 => s.enterSingle (if join then causeJoin else causeTwinState)
    | 2 => if s.twinA then s else fence s
    | 3 => if s.twinA || s.svOn TWIN.AUTO_TAKEOVER then s else fence s
    | 4 => if s.twinA then s else fence s
    | _ => s

/-- The resilver is over or broken off (R454, R455). -/
def State.rslvStop (s : State) : State := (s.wr GAL_RSLV.KIND 0).raise 562

/-- The last Gallery link is lost (R446, R455). -/
def State.galLost (s : State) : State :=
  let s := { s with gal := { s.gal with seen := 0 } }
  if !s.working then s
  else if s.galMode = modePaired then
    let s := { s with gal := { s.gal with graceAt := s.tick + 1 } }
    if s.twinA then s else s.galFence
  else if s.galMode = modeRslvSrc then s.rslvStop.goAlone.retryPorts
  else if s.galMode = modeRslvDst then (s.rslvStop.galFence).raise 561
  else s

/-- GALLERY_LINK_DOWN: no valid flit for HB_MISS periods (R445). -/
def State.doGalDown (s : State) (l : Nat) : State :=
  let st := s.rd (GAL_LINK.STATE l)
  if decide (l < 2) && s.hubOn && (st == 2 || st == 4 || st == 5) then
    let was := s.galUp
    let s := (s.wr (GAL_LINK.STATE l) 3) |>.wr (GAL_LINK.RATE l) 0 |>.wr (GAL_LINK.WIDTH l) 0 |>.setBit GAL_STATUS.LINKS l false
    let s := ({ s with gal := { s.gal with hello := s.gal.hello.set l false } }).raise (552 + 4 * l)
    if was && !s.galUp then s.galLost else s
  else s

/-- GALLERY_GRACE_EXPIRY (R446). -/
def State.doGrace (s : State) : State :=
  if s.working && s.gal.graceAt != 0 && !s.galUp then
    let cause := if s.galMode = modeJoining then causeJoin else if s.gal.seen = 3 then causeAbsent else causePartition
    if s.twinA then s.enterSingle cause
    else if s.gal.seen = 3 ∧ s.svOn TWIN.AUTO_TAKEOVER then s.enterSingle cause
    else s
  else s

/-- JOIN_WAIT_EXPIRY: no HELLO has come; the sled decides as R446 sets out (R452). -/
def State.doJoinWait (s : State) : State :=
  if s.galMode == modeJoining && s.gal.joinAt != 0 then
    ({ s with gal := { s.gal with joinAt := 0, graceAt := s.tick + 1 } }).lossDecide
  else s

/-- The twin status word has been read, or not answered (R446, R558). -/
def State.twinSeen (s : State) (word : Option Word) (absent : Bool) : State :=
  let none_ : State := { s with gal := { s.gal with seen := if absent then 3 else 4 } }
  match word with
  | none => none_.lossDecide
  | some w =>
    if bitsOf 16 16 w.toNat ≠ s.sv TWIN.PAIR_ID % 65536 then none_.lossDecide
    else
      let c := bitsOf 0 3 w.toNat
      let s := s.when (!s.galUp) (fun s => (s.wr GAL_PEER.CHIP c).wr GAL_PEER.MARGIN (bitsOf 4 2 w.toNat))
      ({ s with gal := { s.gal with seen := if c = 3 ∨ c = 4 then 2 else 1 } }).lossDecide

/-- GALLERY_FENCE (R447, R455): a sled in Save, Hold or Parked ignores it. -/
def State.doGalFence (s : State) (sub : Nat) : State :=
  if s.galTakes then
    if s.galMode = modePaired then
      ({ s with gal := { s.gal with peerFenced := true } }).enterSingle (if sub = 3 then causeHandover else causeFence)
    else if s.galMode = modeRslvSrc then s.rslvStop.goAlone.retryPorts
    else if s.galMode = modeRslvDst then (s.rslvStop.galFence).raise 561
    else s
  else s

/-- GAL_TAKEOVER: a FENCED or DIVERGED sled serves alone (R453, R460). -/
def State.doTakeover (s : State) (key : Word) : State :=
  if s.hubOn && key == 0x54414B45 && (s.galMode == modeFenced || s.on GAL_STATUS.DIVERGED) then
    let div := s.on GAL_STATUS.DIVERGED
    let s := (s.wr GAL_STATUS.DIVERGED 0).forEach [0, 1] (fun s l => s.when (s.rd (GAL_LINK.STATE l) == 5) (fun s => s.wr (GAL_LINK.STATE l) 1))
    let s := { s with gal := { s.gal with kept := div } }
    s.enterSingle (if s.gal.seen = 3 then causeAbsent else causePartition)
  else s

/-! ### Links and HELLO (R435, R445, R453) -/

/-- GALLERY_RETRAIN: a down link trains again. -/
def State.doGalRetrain (s : State) (l : Nat) : State :=
  if decide (l < 2) && s.isl (islGal l) == islOn && s.rd (GAL_LINK.STATE l) == 3 then s.wr (GAL_LINK.STATE l) 1 else s

/-- GALLERY_LINK_TRAINED: the sled sends HELLO; rate 0 says that the link failed to train (R435, R461). -/
def State.doGalTrained (s : State) (l rate width : Nat) : State :=
  if decide (l < 2) && s.isl (islGal l) == islOn && s.hasSec secTwin && s.svOn (TWIN.GL_EN l)
      && (s.rd (GAL_LINK.STATE l) == 0 || s.rd (GAL_LINK.STATE l) == 1) then
    if rate = 0 ∨ width = 0 then (s.wr (GAL_LINK.STATE l) 3).raise (553 + 4 * l)
    else
      let s := (s.wr (GAL_LINK.STATE l) 2) |>.wr (GAL_LINK.RATE l) (min rate 3) |>.wr (GAL_LINK.WIDTH l) (min width 2)
        |>.setBit GAL_STATUS.LINKS l true
      let s := { s with gal := { s.gal with hello := s.gal.hello.set l false, lastFlit := s.gal.lastFlit.set l s.tick } }
      s.galSend 1 0 0 0 0 [] [s.sv TWIN.PAIR_ID, s.sv TWIN.ROLE, s.svy.pairDig.toNat, s.gal.epoch.toNat,
        s.rd GAL_STATUS.SOLO, s.chip.code] 0
  else s

/-- A joined pair's streams start anew; writes that wait for the twin are sent again (R440, R458; DEDUCED 25). -/
def State.restartStreams (s : State) : State :=
  let ws := faces.flatMap (fun p => ((s.port p).wbuf.filter (fun e => e.seq != 0 && !e.done)).map (fun e => (p, e)))
  let fw := s.gal.fwds
  let s := s.clearStreams |>.wr GAL_TXSEQ.SEQ 0 |>.wr GAL_RXSEQ.SEQ 0 |>.wr GAL_ACKSEQ.SEQ 4294967295
  let s := { s with gal := { s.gal with
    graceAt := 0
    joinAt := 0
    peerFenced := false
    peerLines := []
    listGot := false
    rslvGot := false
    fwds := fw } }
  let s := s.forEach ws (fun s x =>
    let e := { x.2 with seq := s.galNext + 1 }
    (s.setWrite x.1 e).galOrdered (.mirror x.1 e.dpa e.sett) 3 x.1 (if e.poison then 1 else 0) e.dpa [e.data] [] e.mask)
  s.forEach (fw.filter (fun x => decide (x.port < 7))) (fun s x => match s.write? x.port x.wtag with
    | some e => s.galSend 4 x.port (if e.poison then 1 else 0) x.tag e.dpa [e.data] [] e.mask
    | none => s)

/-- The slabs that this sled has marked, and those that hold a Lost sett (R453). -/
def State.rslvSlabs (s : State) (lost : Bool) : List Nat :=
  let marked := (s.slb.slabs.filter (fun p => p.2.rslv)).map (fun p => p.1)
  let l := if lost then (s.slb.lmap.filter (fun p => locKind p.2 == 3)).map (fun p => settSlab p.1) else []
  (marked ++ l).dedup

/-- Send a list in messages of n entries, SUB 1 on the last. -/
def State.sendList (s : State) (typ n : Nat) (l : List Nat) : Nat → State
  | 0 => s
  | k + 1 =>
    if l.length ≤ n then s.galSend typ 0 1 0 0 [] l 0
    else (s.galSend typ 0 0 0 0 [] (l.take n) 0).sendList typ n (l.drop n) k

def State.sendRslvList (s : State) (l : List Nat) : State := s.sendList 11 256 l (l.length / 256 + 1)
def State.sendLineList (s : State) : State :=
  let l := s.gal.lines.flatMap (fun x => [x.1, x.2])
  s.sendList 12 128 l (l.length / 128 + 1)

/-- This sled is the survivor: the kind of resilver, and its start (R453, R454). -/
def State.beginSource (s : State) (kind : Nat) : State :=
  let vis := (List.range (36 * 65536)).filter s.visible
  let s := if kind = 2 then s.forEach vis (fun s i => s.setRslv i) else s
  let s := (s.restartStreams) |>.wr GAL_STATUS.MODE modeRslvSrc |>.wr GAL_RSLV.KIND kind |>.wr GAL_RSLV_DONE.SLABS 0
  let s := { s with gal := { s.gal with rslvSlab := 0, rslvSett := 0, rslvGot := kind == 2, kept := false } }
  (s.raise 562).endWait.openWaiting

/-- This sled is the joiner: it names its slabs, and all of them in a full resilver (R453); Lost setts of its restore come back with
the resilver (R54). -/
def State.beginJoiner (s : State) (full : Bool) : State :=
  let own := s.gal.lines.filterMap (fun x => (s.mapLine x.1 x.2).map (fun y => settSlab y.1))
  let s := s.forEach own (fun s i => s.setRslv i)
  let l := s.rslvSlabs true
  let vis := (List.range (36 * 65536)).filter s.visible
  let s := s.forEach (if full then vis else l) (fun s i => s.setRslv i)
  let s := (s.restartStreams.forEach faces (fun s p => s.when (s.faceOpen p) (fun s => s.galFencePort p)))
    |>.wr GAL_STATUS.MODE modeRslvDst |>.wr GAL_RSLV.KIND (if full then 2 else 1) |>.wr GAL_STATUS.SOLO 0 |>.wr GAL_STATUS.DIVERGED 0
  let s := { s with res := { s.res with newLost := [] }, gal := { s.gal with lines := [] } }
  (((s.sendRslvList l).raise 562).endWait)

/-- Both sleds come from the same epoch: they exchange their lists (R452, R458). -/
def State.beginExchange (s : State) : State :=
  let s := s.restartStreams |>.wr GAL_STATUS.MODE modePaired |>.wr GAL_RSLV.KIND 3
  let s := { s with gal := { s.gal with joinStep := 1 } }
  (s.sendLineList).sendRslvList (s.rslvSlabs false)

/-- Both sleds have served alone: the links are held until GAL_TAKEOVER (R453). -/
def State.diverge (s : State) : State :=
  let up := [0, 1].filter (fun l => s.rd (GAL_LINK.STATE l) == 2)
  let s := (s.wr GAL_STATUS.DIVERGED 1).forEach up (fun s l =>
    ((s.wr (GAL_LINK.STATE l) 5).setBit GAL_STATUS.LINKS l false).raise (553 + 4 * l))
  { s with gal := { s.gal with hello := [false, false] } }

/-- What the first HELLO of a link-up decides (R452, R453; where neither sled has served alone and the epochs differ the higher one
is the survivor's, DEDUCED 26). -/
def State.helloDecide (s : State) (h : HelloIn) : State :=
  let solo := s.on GAL_STATUS.SOLO
  let full := h.fresh || h.epoch != s.gal.joinEpoch
  let src (s : State) : State := s.beginSource (if full then 2 else 1)
  let dst (s : State) : State := s.beginJoiner (s.rd RES_STATUS.CASE == 0 || h.epoch != s.gal.epoch + 1)
  if solo && h.solo then (if s.gal.kept then s.beginSource 2 else if s.on GAL_STATUS.DIVERGED then dst s else s.diverge)
  else if solo then src s
  else if h.solo then dst s
  else if h.epoch = s.gal.epoch then s.beginExchange
  else if h.epoch < s.gal.epoch then src s
  else dst s

/-- HELLO on a link that has trained (R435). -/
def State.doHello (s : State) (l : Nat) (h : HelloIn) : State :=
  if decide (l < 2) && s.working && s.rd (GAL_LINK.STATE l) == 2 && !s.gal.hello.getD l false then
    if h.pairId ≠ s.sv TWIN.PAIR_ID ∨ h.role ≠ 1 - s.sv TWIN.ROLE ∨ h.digest ≠ s.svy.pairDig then
      ((s.wr (GAL_LINK.STATE l) 4).setBit GAL_STATUS.LINKS l false).raise (553 + 4 * l)
    else
      let first := !s.galUp
      let s := { s with gal := { s.gal with
        hello := s.gal.hello.set l true, lastFlit := s.gal.lastFlit.set l s.tick, peerEpoch := h.epoch } }
      let s := s.wr GAL_PEER.CHIP h.chip
      if first && s.galMode != modeLeft then s.helloDecide h else s
  else s

/-- A link has replayed flits: the 1,024th of one counting window of its source is told (R436, R461). -/
def State.noteReplays (s : State) (l n : Nat) : State :=
  if s.hubOn && decide (l < 2) && n != 0 then
    let w := s.srcWindow (554 + 4 * l) + 1
    let was := SMap.get (0, 0) l s.gal.replays
    let c := if was.1 = w then was.2 else 0
    let s := { s with gal := { s.gal with replays := SMap.put (0, 0) l (w, c + n) s.gal.replays } }
    (s.addSat (GAL_LINK.REPLAYS l) n).raiseIf (decide (c < 1024) && decide (1024 ≤ c + n)) (554 + 4 * l)
  else s

/-- HEARTBEAT (R443, R445): the twin's chip and margin state. -/
def State.doHeartbeat (s : State) (l chip margin : Nat) (epoch : BitVec 64) : State :=
  if decide (l < 2) && s.gal.hello.getD l false && s.rd (GAL_LINK.STATE l) == 2 then
    let s := { s with gal := { s.gal with
      lastFlit := s.gal.lastFlit.set l s.tick, lastBeat := s.tick + 1, peerEpoch := epoch } }
    (s.wr GAL_PEER.CHIP chip).wr GAL_PEER.MARGIN margin
  else s

/-- HEARTBEAT_SEND: once per ledger period on every up link; credits that stay withheld are told (R445, R461). -/
def State.doHeartbeatSend (s : State) : State :=
  if s.galUp then
    let n := if s.galFull then s.gal.fullFor + 1 else 0
    let s := { s with gal := { s.gal with fullFor := n } }
    let s := s.when (n != 0 && n == s.sv TWIN.HB_MISS) (fun s =>
      s.forEach [0, 1] (fun s l => s.raiseIf (s.gal.hello.getD l false) (555 + 4 * l)))
    s.galSend 2 0 0 0 0 [] [s.chip.code, s.margin.code, s.gal.epoch.toNat, s.galNext] 0
  else s

/-! ### Lists and lines at a join (R451 to R453) -/

/-- Both lists are in: the keeper of each line sends it as restored (R452). -/
def State.exchangeLines (s : State) : State :=
  let all := (s.gal.lines ++ s.gal.peerLines).dedup
  let keepsIt (x : Nat × Nat) : Bool := match s.faceBlock x.1 (x.2 / 0x10000000) with
    | some b => s.keeps b
    | none => true
  let s := { s with gal := { s.gal with lineWait := all.filter (fun x => !keepsIt x), listGot := true } }
  s.forEach (all.filter keepsIt) (fun s x => match s.mapLine x.1 x.2 with
    | some (k, l) => match s.imageLine k l with
      | .data d => s.galOrdered (.lineData x.1 x.2 k) 13 x.1 0 x.2 [d] [] 0
      | _ => s.galOrdered (.lineData x.1 x.2 k) 13 x.1 1 x.2 [] [] 0
    | none => s)

/-- LINE_LIST. -/
def State.doLineList (s : State) (lines : List (Nat × Nat)) (last : Bool) : State :=
  if s.galTakes && s.gal.joinStep == 1 && !s.gal.listGot then
    let s := { s with gal := { s.gal with peerLines := s.gal.peerLines ++ lines } }
    if last then s.exchangeLines else s
  else s

/-- LINE_DATA (R452), and a poisoned line of a resilvered sett. -/
def State.doLineData (s : State) (seq f dpa : Nat) (data : Line) (poison : Bool) : State :=
  s.ordered seq (fun s =>
    let s := { s with gal := { s.gal with lineWait := s.gal.lineWait.filter (fun x => x != (f, dpa)) } }
    s.galLine seq 0 f dpa data fullMask poison 0)

/-- A pair whose resilver, or whose exchange, is over (R452, R454). -/
def State.pairUp_ (s : State) : State := (s.wr GAL_STATUS.MODE modePaired).wr GAL_RSLV.KIND 0

/-- The exchange ends: slabs that either sled has marked are resilvered from twin A, and faces open (R452, R458). -/
def State.endExchange (s : State) : State :=
  let s := { s with gal := { s.gal with joinStep := 0, lines := [], peerLines := [] } }
  if s.rd GAL_RSLV.SLABS = 0 then s.pairUp_.endWait.openWaiting
  else if s.twinA then
    let s := (s.wr GAL_STATUS.MODE modeRslvSrc) |>.wr GAL_RSLV.KIND 1 |>.wr GAL_RSLV_DONE.SLABS 0
    (({ s with gal := { s.gal with rslvSlab := 0, rslvSett := 0 } }).raise 562).endWait.openWaiting
  else ((s.wr GAL_STATUS.MODE modeRslvDst).wr GAL_RSLV.KIND 1 |>.raise 562).endWait

/-- One move of the exchange: lines first, then the Lost setts that the twin may hold (R54, R452). -/
def State.exchangeClock (s : State) : State :=
  let idle := s.gal.lineWait.isEmpty && s.gal.held.isEmpty &&
    !s.gal.sent.any (fun o => match o.msg with
      | .lineData _ _ _ => true
      | _ => false)
  if s.gal.joinStep = 1 ∧ s.gal.listGot ∧ s.gal.rslvGot ∧ idle then
    let l := s.res.newLost
    ({ s with gal := { s.gal with joinStep := 2 } }).forEach l (fun s k => s.askTwin k 0)
  else if s.gal.joinStep = 2 ∧ s.gal.asks.isEmpty ∧ s.gal.held.isEmpty then s.endExchange
  else s

/-! ### Borrowing from the twin (R450) -/

/-- The answer without data: SUB 1 LOST, 2 UNAVAILABLE. -/
def State.recoverNo (s : State) (tag sub : Nat) : State := s.galSend 9 0 sub tag 0 [] [] 0

/-- Lines of a sett as they stand, or none where one of them cannot be given; `devs` are the devices in error by line. -/
def State.settLines (s : State) (k : Nat) (devs : SMap Nat) : State × Option (List Line) :=
  (List.range 1024).foldl (fun a l =>
    let r := if a.1.preOpen then (a.1, a.1.imageLine k l) else (a.1.settle k).readLine k l (SMap.get 0 l devs)
    match a.2, r.2 with
    | some ls, .data d => (r.1, some (ls ++ [d]))
    | _, _ => (r.1, none)) (s, some [])

/-- Send a sett's lines in chunks of 1 KiB. -/
def State.sendChunks (s : State) (tag : Nat) (ls : List Line) : State :=
  s.forEach (List.range ((ls.length + 15) / 16)) (fun s i => s.galSend 9 0 0 tag (i * 1024) ((ls.drop (16 * i)).take 16) [] 0)

/-- Repairs of the lines that a request names. -/
def State.reqRepairs (s : State) (r : GalReq) : List Repair :=
  s.dch.repairs.filter (fun x => x.sett == r.sett && (r.line == 0 || r.line == x.line + 1))

/-- A request whose line is under repair waits for the repaired data (R298); where that repair itself waits for the twin, the answer is
UNAVAILABLE. -/
def State.recoverWait (s : State) (r : GalReq) : State :=
  if (s.reqRepairs r).any (fun x => x.twin) then s.recoverNo r.tag 2
  else { s with gal := { s.gal with reqs := s.gal.reqs ++ [r] } }

/-- Answer a request whose sett is at hand (R450; a sett that holds a poisoned line is answered LOST, DEDUCED 27); `devs` are the devices
in error that its reads find, by line. -/
def State.recoverAnswer (s : State) (r : GalReq) (devs : SMap Nat) : State :=
  if r.line = 0 then
    if locKind (s.loc r.sett) = 3 ∧ !s.dirty r.sett then s.recoverNo r.tag 1
    else
      let x := s.settLines r.sett devs
      match x.2 with
      | some ls => x.1.sendChunks r.tag ls
      | none => if (x.1.reqRepairs r).isEmpty then x.1.recoverNo r.tag 1 else x.1.recoverWait r
  else
    let l := r.line - 1
    let x := if s.preOpen then (s, s.imageLine r.sett l) else (s.settle r.sett).readLine r.sett l (SMap.get 0 l devs)
    match x.2 with
    | .data d => x.1.galSend 9 0 0 r.tag 0 [d] [] 0
    | .poison => x.1.recoverNo r.tag 1
    | .repair => x.1.recoverWait r

/-- RECOVER_REQ: UNAVAILABLE while the face is not open, but not while the pair restores together (R450, R452; DEDUCED 28). `devs` are
the devices in error that the reads find, by line. -/
def State.doRecoverReq (s : State) (tag sub f addr : Nat) (devs : SMap Nat) : State :=
  if s.galTakes && s.galPairs then
    let at_ := if sub = 1 then (s.mapLine f addr).map (fun p => (p.1, p.2 + 1)) else some (addr, 0)
    match at_ with
    | none => s.recoverNo tag 2
    | some (k, l) =>
      let o := (s.slab (settSlab k)).owner
      let r : GalReq := GalReq.mk tag k l
      if s.gal.joinStep ≠ 0 then s.recoverAnswer r devs
      else if !s.faceOpen o then s.recoverNo tag 2
      else if s.settHome k then s.recoverAnswer r devs
      else ({ s with gal := { s.gal with reqs := s.gal.reqs ++ [r] } }).promote 6 k
  else s

/-- A request may be answered: its sett is home and none of its lines waits for a repair, or the repair waits for the twin. -/
def State.reqReady (s : State) (r : GalReq) : Bool :=
  s.settHome r.sett && ((s.reqRepairs r).isEmpty || (s.reqRepairs r).any (fun x => x.twin))

/-- Requests whose sett has come home, and whose lines are repaired, are answered. -/
def State.reqClock (s : State) : State :=
  let ready := s.gal.reqs.filter s.reqReady
  if ready.isEmpty then s
  else
    let s := { s with gal := { s.gal with reqs := s.gal.reqs.filter (fun r => !s.reqReady r) } }
    s.forEach ready (fun s r => s.recoverAnswer r [])

/-- RECOVER_DATA: supplied lines are written as Gallery writes through admission (R450). -/
def State.doRecoverData (s : State) (tag sub offset : Nat) (lines : List Line) : State :=
  if s.galTakes then
    match s.gal.asks.find? (fun a => a.tag == tag) with
    | none => s
    | some a =>
      if sub ≠ 0 then s.askFails a
      else
        let f := (s.slab (settSlab a.sett)).owner
        let upd (x : GalAsk) : GalAsk := if x.tag = tag then { x with got := x.got + 1 } else x
        let first := if a.line = 0 then offset / 64 else a.line - 1
        let s := { s with gal := { s.gal with asks := s.gal.asks.map upd } }
        let ls := if a.line = 0 then lines else lines.take 1
        s.forEach ((List.range ls.length).zip ls) (fun s x => s.galEnter
          { seq := tag
            kind := if a.line = 0 then 3 else 4
            face := f
            sett := a.sett
            line := first + x.1
            data := x.2
            mask := fullMask
            poison := false
            port := 7
            wtag := 0 })
  else s

/-- A request is over once its data is in DRAM: the fetch, the repair or the restore goes on (R54, R269, R300). -/
def State.askDone (s : State) (a : GalAsk) : State :=
  let s := ({ s with gal := { s.gal with asks := s.gal.asks.filter (fun x => x.tag != a.tag) } }).addSat GAL_RECOVER.OK 1
  if a.line ≠ 0 then s
  else if s.res.newLost.contains a.sett then
    ({ s with res := { s.res with newLost := s.res.newLost.filter (fun k => k != a.sett) } }).wr RES_LOST.SETTS (s.rd RES_LOST.SETTS - 1)
  else if s.res.fetch.any (fun f => f.slab == settSlab a.sett) then (s.fetchDone (settSlab a.sett) a.sett).fetchEnd (settSlab a.sett)
  else s

def State.askClock (s : State) : State :=
  s.forEach (s.gal.asks.filter (fun a => decide ((if a.line = 0 then 64 else 1) ≤ a.got))) (fun s a =>
    if s.gal.held.any (fun h => (h.kind == 3 || h.kind == 4) && h.seq == a.tag && h.sett == a.sett) then s else s.askDone a)

/-! ### Resilver (R453, R454) -/

/-- RSLV_LIST: the survivor marks the slabs; at the joiner an empty last list says that no slab is left (R453, R454; DEDUCED 29). -/
def State.rslvDone (s : State) : State :=
  let s := (s.pairUp_) |>.wr GAL_STATUS.SOLO 0 |>.raise 562
  ((s.postVendorAll 6 0).openWaiting).retryPorts

def State.doRslvList (s : State) (slabs : List Nat) (last : Bool) : State :=
  if s.galTakes then
    if s.galMode = modeRslvDst then
      if slabs.isEmpty && last && s.rd GAL_RSLV.SLABS == 0 then
        ({ s with gal := { s.gal with epoch := s.gal.peerEpoch } }).rslvDone
      else s
    else if s.galMode = modeRslvSrc ∨ s.gal.joinStep = 1 then
      let s := s.forEach slabs (fun s i => s.setRslv i)
      if last then { s with gal := { s.gal with rslvGot := true } } else s
    else s
  else s

/-- The next slab to resilver, in ascending order. -/
def State.nextRslv (s : State) : Option Nat :=
  ((s.slb.slabs.filter (fun p => p.2.rslv && decide (s.gal.rslvSlab ≤ p.1))).map (fun p => p.1)).head?

/-- One sett goes into the stream: ZERO, LOST, or 64 chunks and its poisoned lines (R454). -/
def State.sendSett (s : State) (k : Nat) : State :=
  match s.settState k with
  | .zero => s.galOrdered (.rslv k) 10 0 1 k [] [] 0
  | .lost => s.galOrdered (.rslv k) 10 0 2 k [] [] 0
  | _ =>
    let s := s.forEach (List.range 64) (fun s i =>
      s.galOrdered (.rslv k) 10 0 0 (k + i * 2 ^ 32) ((List.range 16).map (fun j => s.lineAt k (i * 16 + j))) [] 0)
    let f := (s.slab (settSlab k)).owner
    s.forEach ((List.range 1024).filter (fun l => s.poisoned k l)) (fun s l => match s.unmapLine f k l with
      | some dpa => s.galOrdered (.lineData f dpa k) 13 f 1 dpa [] [] 0
      | none => s)

/-- A sett has been sent; after its slab's last one goes SLAB_DONE. -/
def State.sentSett (s : State) (i : Nat) : State :=
  let b := s.gal.rslvSett
  if b < 63 then { s with gal := { s.gal with rslvSlab := i, rslvSett := b + 1 } }
  else ({ s with gal := { s.gal with rslvSlab := i + 1, rslvSett := 0 } }).galOrdered (.slabDone i) 10 0 3 i [] [] 0

/-- RESILVER_SETT: class 4 work, at most GAL_RSLV_RATE setts in a period; a slab that is not Resident is fetched first (R163,
R454). `devs` are the devices in error that the reads find, by line (R298). -/
def State.doResilver (s : State) (devs : SMap Nat) : State :=
  let rate := Nat.max 1 (s.rd GAL_RSLV_RATE.SETTS)
  if s.galTakes && s.galMode == modeRslvSrc && s.on GAL_CTL.RSLV_EN && decide (s.gal.rslvQuota < rate)
      && decide (s.gal.sent.length + 1100 ≤ 65536) && s.canPay 4 1 false then
    match s.nextRslv with
    | none => { s with gal := { s.gal with rslvSlab := 0, rslvSett := 0 } }
    | some i =>
      let s := if i = s.gal.rslvSlab then s else { s with gal := { s.gal with rslvSlab := i, rslvSett := 0 } }
      let k := i * 64 + s.gal.rslvSett
      if !s.settHome k then s.promote 6 k
      else
        let s := ((s.pay 4 1).settle k).when (s.settState k == .dirty || s.settState k == .clean) (fun s =>
          s.forEach (List.range 1024) (fun s l => (s.readLine k l (SMap.get 0 l devs)).1))
        if s.dch.repairs.any (fun r => r.sett == k) then s
        else
          let s := { s with gal := { s.gal with rslvQuota := s.gal.rslvQuota + 1 } }
          (s.sendSett k).sentSett i
  else s

/-- The survivor's resilver ends when no slab is marked (R454). -/
def State.rslvClock (s : State) : State :=
  if s.galTakes && s.galMode == modeRslvSrc && s.gal.rslvGot && s.rd GAL_RSLV.SLABS == 0 && s.gal.sent.isEmpty then
    ((s.sendRslvList []).raise 560).rslvDone
  else s

/-- A chunk or a whole-sett message of the resilver at the joiner (R454). -/
def State.rslvSettIn (s : State) (seq sub k chunk : Nat) (lines : List Line) : State :=
  let f := (s.slab (settSlab k)).owner
  if sub = 0 then
    s.forEach ((List.range 16).zip lines) (fun s x => s.galEnter
      { seq := seq
        kind := 3
        face := f
        sett := k
        line := chunk * 16 + x.1
        data := x.2
        mask := fullMask
        poison := false
        port := 7
        wtag := 0 })
  else s.galEnter
    { seq := seq
      kind := if sub = 1 then 5 else 6
      face := f
      sett := k
      line := 0
      data := 0
      mask := 0
      poison := false
      port := 7
      wtag := 0 }

/-- RSLV_DATA with SUB 0, 1 or 2. -/
def State.doRslvData (s : State) (seq sub k chunk : Nat) (lines : List Line) : State :=
  if s.galMode = modeRslvDst then s.ordered seq (fun s => s.rslvSettIn seq sub k chunk lines) else s

/-- RSLV_DATA with SLAB_DONE. -/
def State.doSlabDone (s : State) (seq i : Nat) : State :=
  if s.galMode = modeRslvDst then s.ordered seq (fun s => (s.clrRslv i).wr GAL_RSLV_DONE.SLABS (s.rd GAL_RSLV_DONE.SLABS + 1)) else s

/-! ### Operations on both sleds (R457) -/

/-- The twin's part is over: CTRL DONE. -/
def State.ctrlReply (s : State) (sub f : Nat) (ok : Bool) : State :=
  s.galOrdered (.ctrl 7 f) 14 f 7 sub [] [if ok then 1 else 0] 0

/-- CTRL DC_ADD. -/
def State.doCtrlAdd (s : State) (seq f first : Nat) (pool : List Nat) : State :=
  s.ordered seq (fun s =>
    let ok := decide ((s.port f).extents.length < 512) && pool.all (fun b => s.dcFree.contains b && s.blockZero b)
      && (s.dcPlaces f pool.length).contains first
    (s.when ok (fun s => s.grantExtent f first pool)).ctrlReply 1 f ok)

/-- CTRL DC_RELEASE: answered once step 4 is reached. -/
def State.doCtrlRelease (s : State) (seq f b n : Nat) : State :=
  s.ordered seq (fun s =>
    if s.dcHolds f b n then s.releaseStart f b n true else s.ctrlReply 2 f false)

/-- CTRL ZERO_FACE: this sled runs R402 for the face, and answers at its end. -/
def State.doCtrlZero (s : State) (seq f : Nat) : State :=
  s.ordered seq (fun s =>
    let s := s.forEach (s.ownSlabs f) (fun s i => s.setLock i 15 true)
    { s with gal := { s.gal with zeroing := (f :: s.gal.zeroing).dedup } })

/-- One round of a ZERO_FACE that runs for the twin: each sett that is home and not in flight is made Zero, the others are waited
for; behind the last one come the table, the pins and JOBL (R101, R102, R371, R402). -/
def State.zeroTwin (s : State) (f : Nat) : State :=
  let s := s.forEach (s.ownSlabs f) (fun s i =>
    if (s.slab i).rstate ≠ 0 then s.jobPromote (i * 64)
    else s.forEach (((List.range 64).map (fun b => i * 64 + b)).filter (fun k => s.settState k != .zero && (s.haulOf k).isNone))
      (fun s k => (s.settle k).makeZero k))
  if (s.ownSlabs f).all s.slabZero then
    let s := { s with gal := { s.gal with zeroing := s.gal.zeroing.filter (fun x => x != f) } }
    (s.zeroFaceEnd f).ctrlReply 3 f true
  else s

/-- CTRL ERASE: this sled erases with its own keys; CTRL DONE follows at its end (R427). -/
def State.doCtrlErase (s : State) (seq f op : Nat) : State :=
  s.ordered seq (fun s => if (s.port f).erasing.isSome then s.ctrlReply 4 f true else s.eraseBegin f op true)

/-- CTRL LSA. -/
def State.doCtrlLsa (s : State) (seq f offset : Nat) (bytes : List Byte) (ok0 ok36 : Bool) : State :=
  s.ordered seq (fun s =>
    let p := s.healthProgram ok0 ok36
    (p.2.when p.1 (fun s => s.putLsa f offset bytes)).ctrlReply 5 f p.1)

/-- CTRL SHUTDOWN_STATE. -/
def State.doCtrlShutdown (s : State) (seq f v : Nat) (ok0 ok36 : Bool) : State :=
  s.ordered seq (fun s =>
    let p := s.healthProgram ok0 ok36
    (p.2.when p.1 (fun s => s.putShutdown f v)).ctrlReply 6 f p.1)

/-- CTRL DONE. -/
def State.doCtrlDone (s : State) (seq sub f : Nat) (ok : Bool) : State :=
  s.ordered seq (fun s => match s.gal.ctls.find? (fun c => c.sub == sub && c.face == f) with
    | some c => s.ctlEnd c ok
    | none => s)

/-! ### Vendor commands (R456, R459) -/

/-- GET_TWIN_STATUS: no message carries the twin's serial number, so it is a free value (entry 3). -/
def State.doTwinStatus (s : State) (f : Nat) : State :=
  s.mailFeat f 0xC200 featTwin (fun s =>
    let d := s.draw (2 ^ 60)
    let role := if s.hasSec secTwin then s.sv TWIN.ROLE else 0
    d.2.vreply f 0xC200 0 [withBits GAL_STATUS.ROLE.lo GAL_STATUS.ROLE.width role (s.word GAL_STATUS.MODE.addr).toNat,
      (s.word GAL_RSLV.SLABS.addr).toNat, d.1])

/-- TWIN_HANDOVER: step 1 closes the faces (R456). -/
def State.doHandover (s : State) (f : Nat) : State :=
  s.mailMgmt f 0xC201 (fun s =>
    if s.galMode = modeRslvSrc ∨ s.galMode = modeRslvDst ∨ s.gal.joinStep ≠ 0 then s.vreply f 0xC201 2 []
    else if s.galMode ≠ modePaired then s.vreply f 0xC201 1 []
    else if s.rd GAL_PEER.CHIP ≠ 4 ∨ s.admMargin = .sable ∨ !s.galUp then s.vreply f 0xC201 3 []
    else if (s.port f).bg.isSome then s.reply f 0xC201 .busy []
    else
      let s := (s.setPort f { s.port f with bg := some 0xC201 }).reply f 0xC201 .backgroundStarted [0]
      ({ s with gal := { s.gal with handover := 1 } }).forEach faces (fun s p => s.closeFace p))

/-- Steps 2 to 5 of a handover (R456). -/
def State.handoverClock (s : State) : State :=
  match s.gal.handover with
  | 1 =>
    if faces.all (fun p => (s.port p).wbuf.isEmpty) && s.gal.fwds.isEmpty then { s with gal := { s.gal with handover := 2 } } else s
  | 2 => if s.gal.sent.isEmpty then ({ s with gal := { s.gal with handover := 3 } }).saveTrigger trigCmd true else s
  | 3 => if s.chip == Chip.bedrock then ({ s with gal := { s.gal with handover := 0 } }).wr GAL_STATUS.MODE modeLeft else s
  | _ => s

/-- What the Gallery moves on in a hub clock. -/
def State.galClock (s : State) : State :=
  if s.working then
    let s := s.when (!s.gal.held.isEmpty) (fun s =>
      let s := s.retryHeld
      if s.galUp && s.galPairs && s.gal.held.isEmpty then s.galAck else s)
    (s.reqClock.askClock.exchangeClock.rslvClock).forEach s.gal.zeroing (fun s f => s.zeroTwin f)
  else s

end Sys2Proof.Machine
end

