-- ==== Sys2Proof/Machine/ClkFx.lean ====
section
/-! DEFINITION. Clocks and islands: what a failing clock does, and how an island wakes and stops (chapter 17). -/

namespace Sys2Proof.Machine

/-! ### Clocks (R490, R492) -/

/-- CRYSTAL_FAIL: the tick is derived from the scan clock (R490). -/
def State.doCrystalFail (s : State) : State :=
  if s.chip != .off && !s.on CLK_STATUS.TICK_RC then (s.wr CLK_STATUS.TICK_RC 1).raise 674 else s

/-- CRYSTAL_RECOVER (R490). -/
def State.doCrystalRecover (s : State) : State := s.wr CLK_STATUS.TICK_RC 0

/-- Every port and Gallery link goes down (R327, R445). -/
def State.allLinksDown (s : State) : State :=
  (s.forEach faces (fun s p => s.linkDown p)).forEach [0, 1] (fun s l => s.doGalDown l)

/-- REFCLK_FAIL: the PLLs hold over, and every link goes down (R492). -/
def State.doRefFail (s : State) : State :=
  if !s.clk.refFail && s.chip != .off then
    let s := { s with clk := { s.clk with refFail := true } }
    ((s.wr CLK_STATUS.REF_OK 0).when s.hubOn (fun s => s.wr CLK_STATUS.HOLDOVER 1)).allLinksDown.raise 675
  else s

/-- REFERENCE_CLOCK_RETURN: holdover ends; the links can train again (R492). -/
def State.doRefReturn (s : State) : State :=
  if s.chip = .off then s
  else (({ s with clk := { s.clk with refFail := false } }).wr CLK_STATUS.REF_OK 1).wr CLK_STATUS.HOLDOVER 0

/-- What a lost lock does beside its event: the PLLs are numbered in the order of R491, HUB 0, FMN 1, ports 2 to 7, Gallery
links 8 and 9, then the DRAM and the NAND PLL of each channel die (DESIGN CHOICE 30). -/
def State.lockLost (s : State) (pll : Nat) : State :=
  if pll = 0 then s.wr CLK_STATUS.HUB_LOCK 0
  else if pll = 1 then s.wr CLK_STATUS.FMN_LOCK 0
  else if pll < 8 then s.linkDown (pll - 2)
  else if pll < 10 then s.doGalDown (pll - 8)
  else s

/-- PLL_LOCK_LOSS with the reference clock present (R492). -/
def State.doLockLoss (s : State) (pll : Nat) : State :=
  if s.on CLK_STATUS.REF_OK && s.hubOn && decide (pll < 18) then (s.lockLost pll).raise 676 else s

/-! ### Islands in transition (R494 to R498) -/

def State.rising (s : State) (n : Nat) : Bool := SMap.get false n s.clk.rising
def State.setRising (s : State) (n : Nat) (b : Bool) : State :=
  { s with clk := { s.clk with rising := SMap.put false n b s.clk.rising } }

/-- The power-up of an island is running (R493). -/
def State.powering (s : State) (n : Nat) : Bool := s.isl n == islWaking || (s.isl n == islRestarting && s.rising n)

/-- A stop begins: a link drains first (R327, R445). -/
def State.beginStop (s : State) (n : Nat) : State :=
  let s := (s.setIsl n islStopping).wr (CLK_ISL.PENDING n) 0
  if 108 ≤ n ∧ n < 114 then s.linkDown (n - 108) else if 114 ≤ n ∧ n < 116 then s.doGalDown (n - 114) else s

/-- An enable meets an island (R496). -/
def State.islEnable (s : State) (n : Nat) : State :=
  if s.powering n then s.wr (CLK_ISL.PENDING n) 0
  else if s.isl n = islOff then (if s.on (CLK_ISL.FAULT n) then s else s.setIsl n islWaking)
  else if s.isl n = islStopping then (s.setIsl n islRestarting).wr (CLK_ISL.PENDING n) 1
  else s

/-- A disable meets an island (R496). -/
def State.islDisable (s : State) (n : Nat) : State :=
  if s.powering n then s.wr (CLK_ISL.PENDING n) 1
  else if s.isl n = islOn then s.beginStop n
  else if s.isl n = islRestarting then (s.setIsl n islStopping).wr (CLK_ISL.PENDING n) 0
  else s

/-- Serving chip states, in which links may run (R499). -/
def State.serving (s : State) : Bool := s.chip == .restoring || s.chip == .opened

/-- The Restore block has work queued (R495). -/
def State.resWork (s : State) : Bool := s.chip == .restoring || !s.res.fetch.isEmpty

/-- What an island's requester asks for now; none in AUTO and where the chip state decides alone (R494, R495, R497, R505). -/
def State.islAsked (s : State) (n : Nat) : Option Bool :=
  if s.chip = .save then (if 116 ≤ n ∧ n < 128 ∧ s.pairServes (n - 116) then some true else none)
  else if n < 108 then none
  else if n < 116 then (if s.serving && !(s.rd RES_STATUS.CASE == 5 && s.openPending) then some (s.islWanted n) else none)
  else if n = islJob then (if s.hubOn then some (s.islWanted n) else none)
  else if n < 128 ∧ !(s.serving || s.chip == .waking) then none
  else if n = islHaul ∨ n = islFmn ∨ 131 < n ∨ !s.hubOn then none
  else match s.rd (CLK_ISL.MODE n) with
    | 1 => some true
    | 2 => some false
    | _ => if n = islRes ∧ s.resWork then some true else none

/-- An island meets what is asked of it (R496). -/
def State.islSettle (s : State) (n : Nat) : State :=
  match s.islAsked n with
  | some true => s.islEnable n
  | some false => s.islDisable n
  | none => s

/-- A pair that is switched OFF is out of service and reads 0; a pair that a test took out stays out until chip reset (R413,
R495). -/
def State.pairMode (s : State) (p : Nat) : State :=
  let off := s.rd (CLK_ISL.MODE (islPair p)) == 2
  let st := s.rd (CIP_PAIR.STATE p)
  if off && st != pairOff && s.chip != .save then s.wr (CIP_PAIR.STATE p) pairOff
  else if !off && st == pairOff && bitAt p (s.rd CIP_OUT.OUT) then s.wr (CIP_PAIR.STATE p) pairOut
  else s

/-- The requests of this hub clock reach the islands; in Hold the NAND engines and pairs are OFF (R496, R499). -/
def State.islClock (s : State) : State :=
  if s.hubOn then
    let s := s.forEach (List.range 12) (fun s p => s.pairMode p)
    let s := s.when (s.rd CIP_STATUS.INSERVICE != s.pairsIn) State.updPairs
    let s := s.forEach (List.range' 108 23) (fun s n => s.islSettle n)
    s.when (s.chip == .hold && (List.range 72).any (fun n => s.isl (islNand n) == islOn)) State.parkIslands
  else s

/-! ### The commands -/

/-- ISLAND_REQUEST: the island's requester of R494 asks: HPT_CFG.ENABLE of an enabled face, JOB_CFG.ENABLE, or the MODE of a
cipher pair or Restore, where work that is queued for an island in AUTO wakes it and leaves MODE as it is. Islands that the
chip state or a Survey section asks for have no such request (R494 to R496; DEDUCED 31). -/
def State.doIslandRequest (s : State) (n : Nat) (on : Bool) : State :=
  if !s.hubOn then s
  else if 108 ≤ n ∧ n < 114 then (if s.faceOn (n - 108) then s.wrB (HPT_CFG.ENABLE (n - 108)) on else s)
  else if n = islJob then s.wrB JOB_CFG.ENABLE on
  else if (116 ≤ n ∧ n < 128) ∨ n = islRes then
    if !on then s.wr (CLK_ISL.MODE n) 2
    else if s.rd (CLK_ISL.MODE n) = 2 then s.wr (CLK_ISL.MODE n) 1
    else if s.chip = .save ∨ (n < 128 ∧ !(s.serving || s.chip == .waking)) then s
    else s.islEnable n
  else s

/-- The island is in AUTO and nothing holds it on (R495, R497). -/
def State.islIdle (s : State) (n : Nat) : Bool :=
  ((decide (116 ≤ n) && decide (n < 128) && s.rd (CIP_PAIR.STATE (n - 116)) != pairTesting) || (n == islRes && !s.resWork))
    && s.rd (CLK_ISL.MODE n) == 0 && s.isl n == islOn && s.chip != .save

/-- ISLAND_IDLE_EXPIRY (R495). -/
def State.doIslandIdle (s : State) (n : Nat) : State := if s.islIdle n then s.beginStop n else s

/-- What an island that has come up takes up: a pair has passed its test, a Gallery link trains (R413, R494). -/
def State.islUp (s : State) (n : Nat) : State :=
  if 116 ≤ n ∧ n < 128 then
    (if bitAt (n - 116) (s.rd CIP_OUT.OUT) || s.rd (CLK_ISL.MODE n) == 2 then s else s.setPair (n - 116) pairIn)
  else if 114 ≤ n ∧ n < 116 then s.wr (GAL_LINK.STATE (n - 114)) 1
  else s

/-- ISLAND_WAKE_DONE: the island is ON, then a queued stop runs (R494, R496). -/
def State.doWakeDone (s : State) (n : Nat) : State :=
  if s.powering n && decide (n < 132) then
    let p := s.on (CLK_ISL.PENDING n)
    let s := (((s.setIsl n islOn).wr (CLK_ISL.PENDING n) 0).setRising n false).islUp n
    s.when p (fun s => s.beginStop n)
  else s

/-- What goes with an island's power: a pair in AUTO that is OFF reads 0, and a link is gone (R495). -/
def State.islDown (s : State) (n : Nat) : State :=
  if 108 ≤ n ∧ n < 114 then s.portOff (n - 108)
  else if 114 ≤ n ∧ n < 116 then s.galOff (n - 114)
  else
    let s := (s.setIsl n islOff).wr (CLK_ISL.PENDING n) 0
    if 116 ≤ n ∧ n < 128 ∧ s.rd (CIP_PAIR.STATE (n - 116)) = pairIn then s.wr (CIP_PAIR.STATE (n - 116)) pairOff else s

/-- ISLAND_STOP_DONE: the island is OFF, or its queued power-up begins (R496). -/
def State.doStopDone (s : State) (n : Nat) : State :=
  if 132 ≤ n then s
  else if s.isl n = islStopping then s.islDown n
  else if s.isl n = islRestarting ∧ !s.rising n then (s.setRising n true).wr (CLK_ISL.PENDING n) 0
  else s

/-- A DRAM channel, NAND channel or cipher pair that does not come up counts as failed (R298, R310, R413, R498). -/
def State.islFailed (s : State) (n : Nat) : State :=
  if n < 36 then (s.wr (DCH_STATUS.STATE n) 6).forEach [0, 1, 2, 3] (fun s k => s.when (s.rankLive n k) (fun s => s.bootDead n k))
  else if n < 108 then s.chanLost (n - 36)
  else if 116 ≤ n ∧ n < 128 then s.setPair (n - 116) pairOut
  else s

/-- ISLAND_WAKE_FAULT (R498). An island that the chip state has just forced ON may turn out not to have come up, while the chip
is Waking (DEDUCED 32). -/
def State.doWakeFault (s : State) (n : Nat) : State :=
  if decide (n < 132) && (s.powering n || (s.chip == .waking && decide (n < 108) && s.isl n == islOn)) then
    let s := (((s.setIsl n islOff).wr (CLK_ISL.PENDING n) 0).setRising n false).wr (CLK_ISL.FAULT n) 1
    (s.islFailed n).raise 677
  else s

end Sys2Proof.Machine
end

