-- ==== Sys2Proof/Machine/ClgFx.lean ====
section
/-! DEFINITION. The Core log: commits, the cursor, and the command that reads it (chapter 19, R347). -/

namespace Sys2Proof.Machine

/-! ### A record as words (R533 to R537) -/

/-- A number cut into n words, least significant first. -/
def cutWords : Nat → Nat → List Nat
  | 0, _ => []
  | n + 1, v => v % 4294967296 :: cutWords n (v / 4294967296)

/-- A signed value as a word. -/
def intWord (v : Int) : Nat := (v % 4294967296).toNat

/-- The bins as one number of 40 bits each, bin 0 lowest (R536). -/
def packBins : List Nat → Nat
  | [] => 0
  | b :: bs => b + packBins bs * 1099511627776

/-- Fill to n words with zeros; the reserved bits. -/
def padTo (n : Nat) (l : List Nat) : List Nat := (l ++ List.replicate (n - l.length) 0).take n

/-- The body, words 8 to 61 (R534, R536, R537). A place for a value that was never seen reads as a value left open, by
`z` (entry 3). -/
def LogBody.words54 (b : LogBody) (z : Nat) : List Nat :=
  let v (i : Nat) (o : Option Int) : Nat := match o with
    | some x => intWord x
    | none => Config.freeNat (z + i) % 4294967296
  match b with
  | .hist bins mn mx k l base st => padTo 54 (cutWords 50 (packBins bins) ++ [v 0 mn, v 1 mx, k + l * 256, base + st * 65536])
  | .event total others es => padTo 54 ([total % 4294967296, others.length] ++ es.flatMap (fun e =>
      [e.src + e.count * 65536, e.tick % 4294967296, e.tick / 4294967296 % 65536 + e.rank * 65536]))
  | .extremes ws => padTo 54 ((List.range 8).map (fun i => v i (ws.getD i none)))
  | .words ws => padTo 54 ws

/-- The bytes of words, least significant first. -/
def wordsBytes (ws : List Nat) : List Byte :=
  ws.flatMap (fun w => [BitVec.ofNat 8 w, BitVec.ofNat 8 (w / 256), BitVec.ofNat 8 (w / 65536), BitVec.ofNat 8 (w / 16777216)])

/-- The 64 words of a record; a live aggregator shows MARK 0 (R533, R541). -/
def LogRec.words64 (r : LogRec) (z : Nat) (live : Bool) : List Nat :=
  let head := [r.typ + r.family * 256 + 65536 + (if 4096 < r.seq then 16777216 else 0) + (if r.merged then 33554432 else 0),
    r.seq, r.hours, r.secs + r.chip * 4096 + r.span * 65536, r.pcyc, r.tick % 4294967296, r.tick / 4294967296 % 65536, 0]
  let ws := head ++ r.body.words54 z
  ws ++ [(Config.crc32 (wordsBytes ws)).toNat, if live then 0 else 0x434F5245]

/-! ### Commits (R538, R539) -/

/-- A record takes its header at commit. -/
def State.stampRec (s : State) (r : LogRec) (seq span : Nat) (merged : Bool) : LogRec :=
  { r with
    seq := seq
    hours := s.rd CLG_HOURS.HOURS
    secs := s.rd CLG_SECS.SECONDS
    chip := s.chip.code
    pcyc := s.rd CLG_PCYC.COUNT
    tick := s.tick
    span := min span 65535
    merged := merged }

/-- An aggregator as a record. -/
def State.aggRec (s : State) (a : Agg) (seq : Nat) : LogRec :=
  let r : LogRec :=
    { typ := if a.idx < 32 then 1 else if a.idx = 32 then 2 else 3
      family := if a.idx < 32 then a.idx else 0
      merged := false
      seq := 0
      hours := 0
      secs := 0
      chip := 0
      span := 0
      pcyc := 0
      tick := 0
      body := a.body }
  s.stampRec r seq (s.opSeconds - a.since) a.merged.isSome

/-- Some source was raised since the last EVENT record (R534). -/
def State.anyTally (s : State) : Bool := match (s.agg 32).body with
  | .event total _ _ => decide (0 < total)
  | _ => false

/-- The aggregators that a cadence commit takes, in record order (R534). -/
def State.cadenceAggs (s : State) : List Agg :=
  let h := ((List.range 32).filter (fun f => s.on (CLG_HCFG.EN f))).map s.agg
  let e := if s.anyTally then [s.agg 32] else []
  let x := if s.clg.extDay = s.rd ADM_WEAR_DAYS.DAY + 1 then [] else [s.agg 33]
  h ++ e ++ x

/-- Where a value was never seen, the record holds a value left open (entry 3). -/
def State.fillBody (s : State) (b : LogBody) : LogBody × State :=
  let v (i : Nat) (o : Option Int) : Option Int := match o with
    | some x => some x
    | none => some (Config.freeNat (s.free + i) % 4294967296 : Nat)
  match b with
  | .hist bins mn mx k l base st => (.hist bins (v 0 mn) (v 1 mx) k l base st, { s with free := s.free + 2 })
  | .extremes ws => (.extremes ((List.range 8).map (fun i => v i (ws.getD i none))), { s with free := s.free + 8 })
  | x => (x, s)

/-- Form records from staging and the pending records, numbered on from CLG_SEQ; pages are one program (DEDUCED 33). -/
def State.formAll (s : State) : State :=
  let n := s.rd CLG_SEQ.SEQ
  let s := s.forEach (s.clg.staging) (fun s a =>
    let q := s.fillBody a.body
    { q.2 with clg := { q.2.clg with
        forming := q.2.clg.forming ++ [q.2.aggRec { a with body := q.1 } (n + 1 + q.2.clg.forming.length)] } })
  s.forEach (s.clg.pend) (fun s r =>
    { s with clg := { s.clg with forming := s.clg.forming ++ [s.stampRec r (n + 1 + s.clg.forming.length) 0 false] } })

/-- A commit begins: the aggregators it takes are copied to staging and reset (R538 step 1). -/
def State.commit (s : State) (aggs : List Agg) (cadence : Bool) : State :=
  if s.clg.phase ≠ 0 then s.wr CLG_STATUS.RESULT 1
  else if !s.on CLG_STATUS.READY || s.chip == .save then s.wr CLG_STATUS.RESULT 3
  else
    let live := s.clg.live.filter (fun a => !aggs.any (fun b => b.idx == a.idx))
    let fresh := aggs.map (fun a => Agg.empty a.idx (if a.idx < 32 then s.rd (CLG_HCFG.K a.idx) else 0) s.opSeconds)
    let s := { s with clg := { s.clg with staging := aggs, live := live ++ fresh, forming := [], phase := 1 } }
    let s := s.formAll
    ((s.wr CLG_STATUS.BUSY 1).wr CLG_STATUS.RESULT 0).when cadence (fun s =>
      { s.wr CLG_STATUS.REQ 0 with clg := { s.clg with extDay := s.rd ADM_WEAR_DAYS.DAY + 1 } })

/-- CLG_COMMIT_CADENCE and CLG_COMMIT_PENDING (R538). -/
def State.doCommitCadence (s : State) : State := if s.hubOn then s.commit s.cadenceAggs true else s
def State.doCommitPending (s : State) : State := if s.hubOn then s.commit [] false else s

/-- CADENCE minutes of operating time are full: the count of operating time is a multiple of them, 0 taken as 1 (R538, R543; DESIGN
CHOICE 179). -/
def State.cadenceDue (s : State) : Bool := s.opSeconds != 0 && s.opSeconds % (60 * Nat.max 1 (s.rd CLG_CFG.CADENCE)) == 0

/-- CLG_CADENCE_DUE (R538). -/
def State.doCadenceDue (s : State) : State := if s.hubOn && s.cadenceDue then s.wr CLG_STATUS.REQ 1 else s

/-- The program of a commit is issued 20 µs after it began: by the next tick (R538, R540; DEDUCED 33). -/
def State.issueCommit (s : State) : State :=
  if s.clg.phase = 1 then { s with clg := { s.clg with phase := 2 } } else s

/-- A record is readable by its number (R531). -/
def readable (newest n : Nat) : Bool := decide (1 ≤ n) && decide (n ≤ newest) && (decide (n ≤ 4096) || decide (newest < n + 8192))

/-- The registers that follow from the newest number (R531, R543). -/
def State.logNumbers (s : State) (n : Nat) : State :=
  s |>.wr CLG_SEQ.SEQ n |>.wr CLG_FIRSTN.RECORDS (min n 4096) |>.wrB CLG_STATUS.FIRST_FULL (decide (4096 ≤ n))
    |>.wr CLG_OLDEST.SEQ (if n ≤ 4096 then 0 else Nat.max 4097 (n - 8191))

/-- The commit stands: its records are on NAND and staging is discarded (R531, R538). -/
def State.commitDone (s : State) : State :=
  let f := s.clg.forming
  let p := (f.filter (fun r => decide (4 ≤ r.typ))).length
  let n := s.rd CLG_SEQ.SEQ + f.length
  let log := f.foldl (fun m r => SMap.put none r.seq (some r) m) s.clg.log
  let log := log.filter (fun e => readable n e.1 || s.clg.fetch == some e.1)
  let s := { s with clg := { s.clg with log := log, forming := [], staging := [], phase := 0, pend := s.clg.pend.drop p } }
  ((s.logNumbers n).wr CLG_STATUS.BUSY 0).when (decide (4096 ≤ n)) State.logFreeze

/-- Both tries failed: staging merges back, and the numbers are used again (R539). -/
def State.commitFailed (s : State) : State :=
  ((s.mergeStaging.addSat CLG_FAILS.MERGES 1).wr CLG_STATUS.RESULT 2).raise 694

/-- CLG_PAGE_PROGRAMMED: the programs on N00 and N36 end (R217, R538, R539). -/
def State.doCommitProgrammed (s : State) (ok0 ok36 : Bool) : State :=
  if s.clg.phase = 0 || !s.bootFree then s
  else
    let w0 := s.bootWrote 0 s.logBlock ok0
    let w36 := s.bootWrote 1 s.logBlock ok36
    let s := (s.bootBoth s.logBlock ok0 ok36).2.logPages s.clg.forming.length
    let s := s.when (w0 != w36) (fun s => s.addSat CLG_FAILS.COPY 1)
    if w0 || w36 then s.commitDone
    else if s.clg.phase < 3 then { s with clg := { s.clg with phase := 3 } }
    else s.commitFailed

/-! ### The cursor (R540, R541) -/

/-- The number that selects LIVE. -/
def liveSeq : Nat := 4294967295

/-- CLG_CUR_FETCH (R541). -/
def State.doCurFetch (s : State) (seq : Nat) : State :=
  if s.hubOn then
    let n := seq % 4294967296
    let s := { s.wr CLG_CUR.SEQ n with clg := { s.clg with win := none, fetch := none } }
    if n = liveSeq then s.wr CLG_CUR_STATUS.STATE 0
    else if s.rd CLG_SEQ.SEQ < n then s.wr CLG_CUR_STATUS.STATE 3
    else if readable (s.rd CLG_SEQ.SEQ) n then
      ({ s with clg := { s.clg with fetch := some n } }).wr CLG_CUR_STATUS.STATE 1
    else s.wr CLG_CUR_STATUS.STATE 2
  else s

/-- CLG_FETCH_DONE: the window holds the record, or 0 where neither copy is valid (`bad`; R532, R541). -/
def State.doFetchDone (s : State) (bad : Bool) : State :=
  match s.clg.fetch with
  | none => s
  | some n =>
    let r := if bad then none else SMap.get none n s.clg.log
    ({ s with clg := { s.clg with win := r, fetch := none } }).wr CLG_CUR_STATUS.STATE (if r.isSome then 0 else 2)

/-- The words that the window shows (R541). -/
def State.clgWindow (s : State) : List Nat :=
  if s.rd CLG_CUR.SEQ = liveSeq then
    let i := s.rd CLG_LIVESEL.AGG
    if i < 34 then (s.aggRec (s.agg i) 0).words64 s.free true else List.replicate 64 0
  else match s.clg.win with
    | some r => r.words64 s.free false
    | none => List.replicate 64 0

/-! ### READ_CORE_LOG (R347, R542) -/

/-- The committed records from a number on. -/
def State.logFrom (s : State) (seq count : Nat) : List LogRec :=
  ((s.clg.log.filter (fun e => decide (seq ≤ e.1) && readable (s.rd CLG_SEQ.SEQ) e.1)).filterMap (fun e => e.2)).take count

/-- Read Core Log, opcode C040h. A COUNT that is not 1 to 60 is invalid input (DEDUCED 34); where no readable number lies at or
above SEQ the first number is a value left open (entry 3). -/
def State.doReadLog (s : State) (f seq count : Nat) : State :=
  s.mailMgmt f 0xC040 (fun s =>
    if seq = liveSeq then
      let rs := (List.range 34).map (fun i => (s.aggRec (s.agg i) 0).words64 (s.free + 16 * i) true)
      ({ s with free := s.free + 544 }).vreply f 0xC040 0 ([34, 0, s.rd CLG_SEQ.SEQ] ++ rs.flatten)
    else if count < 1 ∨ 60 < count then s.reply f 0xC040 .invalidInput []
    else
      let rs := s.logFrom seq count
      let first := match rs with
        | r :: _ => (r.seq, s)
        | [] => s.draw 4294967296
      first.2.vreply f 0xC040 0 ([rs.length, first.1, s.rd CLG_SEQ.SEQ] ++ (rs.flatMap (fun r => r.words64 s.free false))))

/-! ### Operating time (R529) -/

/-- One tick of operating time. -/
def State.clgTick (s : State) : State :=
  if s.powered then
    let n := s.clg.subSec + 1
    if n < 32768 then { s with clg := { s.clg with subSec := n } }
    else
      let s := { s with clg := { s.clg with subSec := 0 } }
      let t := s.rd CLG_SECS.SECONDS + 1
      if t < 3600 then s.wr CLG_SECS.SECONDS t else (s.wr CLG_SECS.SECONDS 0).addWrap CLG_HOURS.HOURS 1
  else s

/-- At the first scan after a cold reset time and count go on from the newest valid record; the moves to Waking since the cold
reset come on top of the record's count (R529). -/
def State.clgCold (s : State) : State :=
  if s.clg.resumed then s
  else
    let s := { s with clg := { s.clg with resumed := true } }
    match (s.clg.log.filterMap (fun e => e.2)).reverse.head? with
    | some r => s |>.wr CLG_HOURS.HOURS r.hours |>.wr CLG_SECS.SECONDS r.secs |>.wr CLG_PCYC.COUNT (r.pcyc + s.rd CLG_PCYC.COUNT)
    | none => s

/-- At Waking both areas are scanned, and records held meanwhile pass on (R529, R534, R543). -/
def State.clgWake (s : State) : State :=
  let s := s.clgCold.wr CLG_STATUS.READY 1
  let n := ((s.clg.log.filterMap (fun e => e.2)).map LogRec.seq).foldl Nat.max 0
  let s := { s with clg := { s.clg with
    live := []
    staging := []
    forming := []
    phase := 0
    pend := s.clg.pend ++ s.clg.held
    held := []
    win := none
    fetch := none
    bootLogged := false } }
  (s.logNumbers n).wr CLG_STATUS.BUSY 0

end Sys2Proof.Machine
end

