-- ==== Sys2Proof/Machine/TwFx.lean ====
section
/-! DEFINITION. The two-wire ports as controllers, the sensors, and the twin sideband (chapter 20). -/

namespace Sys2Proof.Machine

/-! ### The TWOWIRE section (R545, R546, R557) -/

def secTwowire : Nat := 0x31
def TWOWIRE.RATE (t : Nat) : SFld := ⟨secTwowire, 4 * (t - 1), 0, 2⟩
def TWOWIRE.PEC (t : Nat) : SFld := ⟨secTwowire, 4 * (t - 1), 2, 1⟩
def TWOWIRE.PEC_REQ : SFld := ⟨secTwowire, 0x1C, 0, 1⟩
def TWOWIRE.BMC_ADDR : SFld := ⟨secTwowire, 0x1C, 8, 7⟩

/-- PEC_REQ, 1 by default (R545). -/
def State.pecReq (s : State) : Bool := !s.hasSec secTwowire || s.svOn TWOWIRE.PEC_REQ

/-- The BMC's address for MCTP (R545). -/
def State.bmcAddr (s : State) : Nat := if s.hasSec secTwowire then s.sv TWOWIRE.BMC_ADDR else 0x10

/-- The addresses of the temperature sensors of TW3 or TW4, ascending (R545, R557). -/
def State.sensAddrs (s : State) (t : Nat) : List Nat :=
  if s.hasSec secTwowire then
    (List.range 128).filter (fun a => bitAt (a % 8) (svByte s.svy.run secTwowire (0x20 + 0x10 * (t - 3) + a / 8)))
  else []

def State.tw (s : State) (t : Nat) : TwPort := SMap.get TwPort.reset t s.twb.ports
def State.setTw (s : State) (t : Nat) (p : TwPort) : State :=
  { s with twb := { s.twb with ports := SMap.put TwPort.reset t p s.twb.ports } }

def twIdle : Nat := 1
def twBusy : Nat := 2
def twStuck : Nat := 4
def twSleep : Nat := 5

/-- A Survey load sets the ports' rates, PEC and sensors; TW1 to TW7 start (R545, R546, R557). -/
def State.twLoad (s : State) : State :=
  let s := s.forEach [1, 2, 3, 4, 5, 6, 7] (fun s t =>
    (s.when (s.hasSec secTwowire) (fun s => (s.wr (TWB_CFG.RATE t) (s.sv (TWOWIRE.RATE t))).wr (TWB_CFG.PEC t) (s.sv (TWOWIRE.PEC t))))
      |>.when (s.rd (TWB_STATUS.STATE t) == 0) (fun s => s.wr (TWB_STATUS.STATE t) twIdle))
  s.forEach [3, 4] (fun s t => s.forEach (List.zip (s.sensAddrs t) (List.range 32)) (fun s x =>
    (s.wr (TWB_SENS.VALID t x.2) 1).wr (TWB_SENS.ADDR t x.2) x.1))

/-- TW1 to TW7 may start traffic; TW0 may send whenever it has power (R546, R550). -/
def State.twLive (s : State) (t : Nat) : Bool := s.chip != .off && (t == 0 || (decide (t < 8) && s.svy.shadow))

/-! ### Firmware transfers (R555, R556, R560, R561) -/

/-- The bytes of TWB_WBUF that a transfer writes. -/
def State.wbytes (s : State) (t n : Nat) : List Nat :=
  (List.range n).map (fun i => bitsOf (i % 4 * 8) 8 (s.rd (TWB_WBUF.DATA t (i / 4))))

/-- The transfer goes out on the bus; TW0 sends to the BMC's address (R550, R555). -/
def State.twStart (s : State) (t : Nat) : State :=
  let a := if t = 0 then s.bmcAddr else s.rd (TWB_XFER.ADDR t)
  (s.wr (TWB_STATUS.STATE t) twBusy).send (.tw t a (s.wbytes t (s.rd (TWB_XFER.WLEN t))) (s.rd (TWB_XFER.RLEN t)))

/-- TWB_GO: a GO while BUSY ends with BUSY; a stuck bus carries nothing (R559, R563). -/
def State.doTwGo (s : State) (t : Nat) : State :=
  if s.twLive t && s.hubOn then
    if s.on (TWB_XSTAT.BUSY t) then s.wr (TWB_XSTAT.RESULT t) 7
    else if s.rd (TWB_STATUS.STATE t) = twStuck then s.wr (TWB_XSTAT.RESULT t) 5
    else ((s.setTw t { s.tw t with cur := some ⟨0, 0, false⟩ }).wr (TWB_XSTAT.BUSY t) 1).twStart t
  else s

/-- The transfer of a port is over. -/
def State.twEnd (s : State) (t res : Nat) : State :=
  let s := (s.setTw t { s.tw t with cur := none }).wr (TWB_XSTAT.BUSY t) 0
  (s.wr (TWB_XSTAT.RESULT t) res).when (s.rd (TWB_STATUS.STATE t) == twBusy) (fun s => s.wr (TWB_STATUS.STATE t) twIdle)

/-- Bytes read stand in TWB_RBUF, byte 0 lowest (R563). -/
def State.putRbuf (s : State) (t : Nat) (bytes : List Byte) : State :=
  s.forEach (List.zip bytes (List.range 255)) (fun s x =>
    s.wr ⟨(TWB_RBUF.DATA t (x.2 / 4)).addr, x.2 % 4 * 8, 8⟩ x.1.toNat)

/-- TW_TRANSACTION_DONE: an address NACK is tried again up to two more times; a failure counts in TWB_CNT; a PEC is checked where the
transfer asks for it (R556, R563). -/
def State.doTwDone (s : State) (t : Nat) (res : TwRes) (bytes : List Byte) : State :=
  match (s.tw t).cur with
  | none => s
  | some x =>
    if x.waiting then s
    else match if res = .pec ∧ !s.on (TWB_XFER.PEC t) then TwRes.ok else res with
      | .ok => (s.putRbuf t (bytes.take (s.rd (TWB_XFER.RLEN t)))).twEnd t 0
      | .nackAddr =>
        if x.nacks < 2 then s.setTw t { s.tw t with cur := some { x with nacks := x.nacks + 1, waiting := true } }
        else (s.addSat (TWB_CNT.NACKS t) 1).twEnd t 1
      | .nackData => (s.addSat (TWB_CNT.NACKS t) 1).twEnd t 2
      | .pec => (s.addSat (TWB_CNT.NACKS t) 1).twEnd t 6

/-- TW_ADDR_NACK_RETRY (R556). -/
def State.doTwRetry (s : State) (t : Nat) : State :=
  match (s.tw t).cur with
  | some x => if x.waiting then (s.setTw t { s.tw t with cur := some { x with waiting := false } }).twStart t else s
  | none => s

/-- TW_STRETCH_TIMEOUT (R560). -/
def State.doTwTimeout (s : State) (t : Nat) : State :=
  match (s.tw t).cur with
  | some x => if x.waiting then s else (s.addSat (TWB_CNT2.TIMEOUTS t) 1).twEnd t 4
  | none => s

/-! ### The twin sideband (R446, R558) -/

/-- This sled's twin status word (R558). -/
def State.twinWord (s : State) : Nat :=
  s.chip.code + s.margin.code * 16 + s.rd GAL_STATUS.MODE % 8 * 256 + s.rd GAL_STATUS.SOLO * 2048 + s.sv TWIN.ROLE * 4096
    + s.sv TWIN.PAIR_ID % 65536 * 65536

/-- TW7_STATUS_COMMAND: the sled answers command 0x20. -/
def State.doTw7Status (s : State) : State := if s.chip != .off && s.hasTw7 then s.send (.tw7 s.twinWord) else s

/-- TWIN_STATUS_READ: the word, or no answer, which is failed hardware traffic (R556, R558). -/
def State.doTwinRead (s : State) (word : Option Word) (absent : Bool) : State :=
  if s.chip != .off && s.hasTw7 then
    let s := match word with
      | some w => s.wr TWB_TWIN.WORD w.toNat
      | none => (s.addSat (TWB_CNT.NACKS 7) 1).raise 673
    s.when s.hubOn (fun s => s.twinSeen word absent)
  else s

/-- ARBITRATION_LOST: the transfer is tried again up to 8 times; a TW7 port that lost to its own address answers as a target
(R561). -/
def State.doArbLost (s : State) (t : Nat) (own : Bool) : State :=
  if s.twLive t then
    let s := (s.addSat (TWB_CNT.ARBLOST t) 1).when (own && t == 7) State.doTw7Status
    match (s.tw t).cur with
    | none => s
    | some x =>
      if 8 ≤ x.losses then s.twEnd t 3
      else
        let s := s.setTw t { s.tw t with cur := some { x with losses := x.losses + 1 } }
        if x.waiting then s else s.twStart t
  else s

/-! ### A stuck bus (R559) -/

/-- Every reset pin whose entry names this port is pulsed (R467, R559). -/
def State.twPulse (s : State) (t : Nat) : State :=
  s.forEach ((List.range 16).filter (fun r => s.benchTable && s.svOn (BENCHES.RST_TW_EN r) && s.sv (BENCHES.RST_TW r) == t))
    (fun s r => s.pulsePin r)

/-- Rounds have been run and the bus is free, or stuck. -/
def State.twRounds (s : State) (t rounds : Nat) (freed : Bool) : State :=
  let s := (s.wr (TWB_STATUS.ROUNDS t) (min rounds 3)).addSat (TWB_CNT2.RECOVERS t) 1
  if freed then
    (s.setTw t { s.tw t with told := false }).wr (TWB_STATUS.STATE t) (if (s.tw t).cur.isSome then twBusy else twIdle)
  else
    let s := (s.raiseIf (!(s.tw t).told) (658 + 2 * t)).when (s.tw t).cur.isSome (fun s => s.twEnd t 5)
    ((s.setTw t { s.tw t with told := true }).wr (TWB_STATUS.STATE t) twStuck).twPulse t

/-- BUS_STUCK_RECOVERY (R559); TW0 never recovers a bus (R552). -/
def State.doStuck (s : State) (t rounds : Nat) (freed : Bool) : State :=
  if s.twLive t && t != 0 then s.twRounds t rounds freed else s

/-- BUS_STUCK_RETRY (R559). -/
def State.doStuckRetry (s : State) (t rounds : Nat) (freed : Bool) : State :=
  if s.twLive t && s.rd (TWB_STATUS.STATE t) == twStuck then s.twRounds t rounds freed else s

/-- A block reset of a port: the recovery rounds, then its mapped pins are pulsed (R518). What the rounds find is an input of
BUS_STUCK_RECOVERY, so the reset itself shows RECOVER until then (DEDUCED 35). -/
def State.twReset (s : State) (t : Nat) : State :=
  if s.twLive t && t != 0 then (s.wr (TWB_STATUS.STATE t) 3).twPulse t else s

/-- TW_ALERT_INPUT: the alert read returns an address; on TW3 and TW4 every sensor is then read, each by its own SENSOR_READ (R557,
R562). -/
def State.doTwAlert (s : State) (t : Nat) (addr : Option Nat) : State :=
  if s.twLive t && t != 0 then
    match addr with
    | some a => (s.wr (TWB_ARA.ADDR t) a).wr (TWB_ARA.VALID t) 1
    | none => s.wr (TWB_ARA.VALID t) 0
  else s

/-! ### Sensors (R167, R536, R557) -/

/-- SENSOR_READ: bits 12 to 2 of the word are the temperature, signed, in quarters of a degree. -/
def State.doSensorRead (s : State) (t n : Nat) (raw : Option Nat) : State :=
  if (t = 3 ∨ t = 4) ∧ n < 32 ∧ s.twLive t ∧ s.on (TWB_SENS.VALID t n) then
    match raw with
    | none => (s.addSat (TWB_CNT.NACKS t) 1).raise (659 + 2 * t)
    | some w =>
      let s := { s with twb := { s.twb with sensTick := SMap.put 0 (t * 32 + n) (s.tick + 1) s.twb.sensTick } }
      let s := (s.wr (TWB_SENS.TEMP t n) (bitsOf 2 11 w)).wr (TWB_SENS.STALE t n) 0
      let v := s.rdInt (TWB_SENS.TEMP t n)
      (s.sample 18 (v / 4)).extreme 1 v
  else s

/-- SENSOR_STALE: no valid reading for 2.0 s (R167). -/
def State.doSensorStale (s : State) (t n : Nat) : State :=
  if (t = 3 ∨ t = 4) ∧ n < 32 ∧ s.on (TWB_SENS.VALID t n) ∧ !s.on (TWB_SENS.STALE t n)
      ∧ SMap.get 0 (t * 32 + n) s.twb.sensTick + 65536 ≤ s.tick + 1 then
    (s.wr (TWB_SENS.STALE t n) 1).raise (659 + 2 * t)
  else s

end Sys2Proof.Machine
end

