-- ==== Sys2Proof/Machine/FwmFx.lean ====
section
/-! DEFINITION. Firmware slots, the watchdog, and the reset of the Foreman cluster (chapter 21). -/

namespace Sys2Proof.Machine

/-! ### A slot's image (R568, R569) -/

/-- The word of an image at a byte offset. -/
def imgWord (m : SMap Word) (off : Nat) : Nat := (SMap.get (0 : Word) (off / 4 * 4) m).toNat

/-- Bytes of an image. -/
def imgBytes (m : SMap Word) (lo n : Nat) : List Byte :=
  (List.range n).map (fun i => BitVec.ofNat 8 (imgWord m (lo + i) / 2 ^ ((lo + i) % 4 * 8)))

/-- Sixteen bytes as a number, least significant first. -/
def imgTag (m : SMap Word) (off : Nat) : BitVec 128 :=
  BitVec.ofNat 128 (imgWord m off + imgWord m (off + 4) * 2 ^ 32 + imgWord m (off + 8) * 2 ^ 64 + imgWord m (off + 12) * 2 ^ 96)

def fwLen (m : SMap Word) : Nat := imgWord m 0x0C
def fwEpoch (m : SMap Word) : Nat := bitsOf 8 7 (imgWord m 0x14)

/-- A pair that holds the path to the provisioning key is in service (R414). -/
def State.provOk (s : State) : Bool := s.pairServes 0 || s.pairServes 6

/-- The CMAC under the provisioning key over the first bytes of an image equals the tag behind them (R75, R568). -/
def State.tagOk (s : State) (m : SMap Word) (len : Nat) : Bool :=
  s.provOk && cmac s.fuse.provKey (imgBytes m 0 (len - 16)) == imgTag m (len - 16)

/-- The header checks of an image (R568, R569). -/
def State.fwHeader (s : State) (m : SMap Word) : Bool :=
  imgWord m 0 == 0x464D5752 && imgWord m 4 == 0x3672 && decide (fwLen m % 16 = 0) && decide (80 ≤ fwLen m)
    && decide (fwLen m ≤ 4194304) && decide (imgWord m 0x10 < fwLen m) && decide (bitsOf 0 8 (imgWord m 0x14) ≤ s.fuse.step)
    && decide (fwEpoch m ≤ 64)

def fwOk : Nat := 0
def fwBusy : Nat := 1
def fwState : Nat := 2
def fwBad : Nat := 3
def fwRollback : Nat := 4
def fwOrphan : Nat := 5
def fwProg : Nat := 6
def fwFallback : Nat := 7

/-- The check of an image: OK, BAD_IMAGE or ROLLBACK (R569, R574). -/
def State.fwCheck (s : State) (m : SMap Word) : Nat :=
  if !s.fwHeader m then fwBad
  else if fwEpoch m < s.fuse.blown then fwRollback
  else if !s.tagOk m (fwLen m) then fwBad
  else fwOk

def State.fwSlot (s : State) (k : Nat) : FwSlot := if k = 0 then s.fwm.slotA else s.fwm.slotB
def State.setFwSlot (s : State) (k : Nat) (q : FwSlot) : State :=
  { s with fwm := if k = 0 then { s.fwm with slotA := q } else { s.fwm with slotB := q } }

/-- A slot is valid (R569). -/
def State.slotValid (s : State) (k : Nat) : Bool :=
  let q := s.fwSlot k
  q.sealed && s.fwCheck q.image == fwOk && q.tag == imgTag q.image (fwLen q.image - 16)

/-- VERSION and ROLLBACK_EPOCH of both slots as the registers show them (R582). -/
def State.updSlots (s : State) : State :=
  let v (k : Nat) : Nat := if s.slotValid k then imgWord (s.fwSlot k).image 8 else 0
  let e (k : Nat) : Nat := if s.slotValid k then fwEpoch (s.fwSlot k).image else 0
  s |>.wr FWM_VER_A.VERSION (v 0) |>.wr FWM_VER_B.VERSION (v 1) |>.wr FWM_EPOCH.EPOCH_A (e 0) |>.wr FWM_EPOCH.EPOCH_B (e 1)

/-- The result of an FWM command. -/
def State.fwRes (s : State) (r : Nat) : State := s.wr FWM_CMD_STATUS.RESULT r

/-! ### Choosing a slot (R570) -/

def State.setSelector (s : State) (active : Nat) (trial : Bool) (tries : Nat) : State :=
  { s with fwm := { s.fwm with active := active, trial := trial, tries := tries } }

/-- The slot that boots, with the selector and EV682 as R570 gives them. -/
def State.chooseSlot (s : State) : Option Nat × State :=
  let a := s.fwm.active
  let o := 1 - a
  if s.fwm.trial ∧ s.fwm.tries < 2 ∧ s.slotValid o then (some o, s.setSelector a true (s.fwm.tries + 1))
  else if s.fwm.trial then
    let s := (s.setSelector a false s.fwm.tries).raise 682
    (if s.slotValid a then some a else if s.slotValid o then some o else none, s)
  else if s.slotValid a then (some a, s)
  else if s.slotValid o then (some o, (s.setSelector o false s.fwm.tries).raise 682)
  else (none, s)

/-- Recovery: the boot ROM stays in Waking and serves the CCI alone (R572). -/
def State.enterRecovery (s : State) (noSvy noFw : Bool) : State :=
  let s := { s with fwm := { s.fwm with recovery := true, running := false } }
  s |>.wr FWM_STATUS.STAGE 4 |>.wrB FWM_STATUS.NOSVY noSvy |>.wrB FWM_STATUS.NOFW noFw |>.wr BED_FWVER.VERSION 0
    |>.raise (if noSvy then 683 else 682)

/-- The watchdog counts down again from PERIOD (R578, R582). -/
def State.kickDog (s : State) : State := s.wr FWM_WDT_STAT.LEFT (Nat.max 1 (s.rd FWM_WDT_CFG.PERIOD))

/-- The cores are released at the entry of a slot (R566 step 5, R571, R576). -/
def State.releaseCores (s : State) (k : Nat) : State :=
  let s := { s with fwm := { s.fwm with running := true, alive := false, recovery := false } }
  (s |>.wr FWM_STATUS.BOOTED k |>.wr FWM_STATUS.STAGE 3 |>.wrB FWM_STATUS.TRIAL (s.fwm.trial && k != s.fwm.active)
    |>.wr BED_FWVER.VERSION (imgWord (s.fwSlot k).image 8)).kickDog

/-- The boot ROM chooses, loads and releases a slot, or enters recovery (R570, R572). -/
def State.bootFirmware (s : State) : State :=
  let s := (s.wrB FWM_STATUS.A_VALID (s.slotValid 0)).wrB FWM_STATUS.B_VALID (s.slotValid 1) |>.updSlots
  match s.chooseSlot with
  | (some k, s) => (s.wr FWM_STATUS.NOFW 0).releaseCores k
  | (none, s) => s.enterRecovery false true

/-! ### The reset of the cluster (R577, R579) -/

/-- Every mailbox command without a posted return ends with Internal Error (R579). -/
def State.endOpenCmds (s : State) : State :=
  let l := s.fwm.openCmds
  let s := { s with fwm := { s.fwm with openCmds := [] } }
  s.forEach l (fun s c => s.reply c.1 c.2 .internalError [])

/-- The cores are held in reset. -/
def State.holdCores (s : State) : State :=
  let s := { s with fwm := { s.fwm with running := false, alive := false } }
  let s := { s with twb := { s.twb with mctp := 0 } }
  s.wr FWM_STATUS.STAGE 2

/-- A staging transfer ends and leaves the slot unsealed (R580, R582). -/
def State.endStaging (s : State) : State :=
  { s with fwm := { s.fwm with staging := none, xfer := 0, xferFace := 0 } }

/-- With the Foreman cluster a rebuild stops whose faces have not begun to open: START is awaited again (R277). -/
def State.stopRebuild (s : State) : State :=
  if s.chip == Chip.restoring && !s.res.filling then
    ({ s with res := { s.res with rebuilt := false, scanTick := 0 } }) |>.wr RES_CMD_STATUS.BUSY 0 |>.wr RES_STATUS.SCAN 0
  else s

/-- The Foreman cluster is reset (R277, R579). -/
def State.foremanReset (s : State) : State :=
  if s.hubOn && !s.fwm.recovery then ((s.endOpenCmds.holdCores).endStaging.stopRebuild).addSat FWM_RESETS.FOREMAN 1 else s

/-- Post the return of an online activation that is still open (R349, R576, R577). -/
def State.postActivate (s : State) (r : Ret) : State :=
  let l := s.fwm.openCmds.filter (fun c => c.2 == 0x0202)
  let s := { s with fwm := { s.fwm with openCmds := s.fwm.openCmds.filter (fun c => c.2 != 0x0202) } }
  s.forEach l (fun s c => s.reply c.1 c.2 r [])

/-- The watchdog expired before the new firmware was alive: the slot that ran before is loaded again (R577). -/
def State.fallBack (s : State) : State :=
  let s := ((s.setSelector s.fwm.active false s.fwm.tries).postActivate .fwRolledBack).fwRes fwFallback
  let s := (s.wr FWM_STATUS.ACTIVATING 0).wr FWM_STATUS.BOOTED s.fwm.prev
  (s.endOpenCmds.holdCores.stopRebuild).addSat FWM_RESETS.FOREMAN 1

/-- FOREMAN_CORES_RELEASED: the slot has been loaded and verified again (R576, R579); one that no longer verifies is chosen
anew under R570 (DEDUCED 36). -/
def State.doCoresReleased (s : State) : State :=
  if s.hubOn && !s.fwm.running && !s.fwm.recovery && s.rd FWM_STATUS.STAGE == 2 then
    let k := if s.on FWM_STATUS.ACTIVATING then 1 - s.fwm.prev else s.rd FWM_STATUS.BOOTED
    if s.slotValid k then s.releaseCores k else s.raise 682 |>.bootFirmware
  else s

/-! ### The watchdog (R571, R578) -/

/-- What the watchdog asks of the chip: a warm chip reset is left to `chip`. -/
def State.dogExpires (s : State) (chip : State → State) : State :=
  let s := ((s.addSat FWM_WDT_STAT.EXPIRIES 1).raise 681).kickDog
  if s.on FWM_STATUS.ACTIVATING then s.fallBack
  else match s.rd FWM_WDT_CFG.ACTION with
    | 0 => s
    | 2 => chip s
    | _ => s.foremanReset

/-- FWM_ALIVE: the regular count starts; a slot on trial becomes ACTIVE, where the selector's program succeeds on N00 or N36
(R334, R571, R576). -/
def State.doAlive (s : State) (key : Word) (ok0 ok36 : Bool) : State :=
  if s.hubOn && s.fwm.running && key == 0x414C4956 then
    let s := ({ s with fwm := { s.fwm with alive := true } }).kickDog
    let p := s.healthProgram ok0 ok36
    let s := s.when (s.on FWM_STATUS.TRIAL) (fun _ => p.2)
    let s := if s.on FWM_STATUS.TRIAL && p.1 then
        (s.setSelector (s.rd FWM_STATUS.BOOTED) false 0).wr FWM_STATUS.TRIAL 0
      else s
    if s.on FWM_STATUS.ACTIVATING then (s.wr FWM_STATUS.ACTIVATING 0).postActivate .success else s
  else s

/-- One tick of the watchdog (R578). -/
def State.dogTick (s : State) : State :=
  if s.fwm.running then s.wr FWM_WDT_STAT.LEFT (s.rd FWM_WDT_STAT.LEFT - 1) else s

/-! ### Staging (R574, R582) -/

/-- The slot that may be written: the one that did not boot; in recovery neither has (R572, R574). -/
def State.stageable (s : State) (k : Nat) : Bool :=
  decide (k < 2) && s.hubOn && (s.fwm.recovery && s.on FWM_STATUS.NOFW || k != s.rd FWM_STATUS.BOOTED)

/-- The Boot band block that a slot's image is staged into (R569). -/
def State.fwBlock (s : State) (k : Nat) : Nat := (bootArea (2 + k)).1 + (s.fwSlot k).blk

/-- The Boot band writer erases or programs a slot's block on both copies: whether it was done; a copy that fails goes on on a boot spare
(R217, R232; DEDUCED 137). -/
def State.fwProgram (s : State) (k : Nat) (ok : Bool × Bool) : Bool × State :=
  (s.bootWrote 0 (s.fwBlock k) ok.1 && s.bootWrote 1 (s.fwBlock k) ok.2, (s.bootBoth (s.fwBlock k) ok.1 ok.2).2)

/-- FWM_STAGE_OPEN: the slot's next block is erased. -/
def State.doStageOpen (s : State) (k : Nat) (ok : Bool × Bool) : State :=
  if !s.hubOn then s
  else if !s.stageable k || s.on FWM_STATUS.ACTIVATING then s.fwRes fwState
  else
    let s := (s.setFwSlot k { s.fwSlot k with sealed := false, next := [] }).updSlots
    let p := s.fwProgram k ok
    let s := p.2
    if p.1 then (({ s with fwm := { s.fwm with staging := some k } }).wr FWM_STAGE_ADDR.ADDR 0).fwRes fwOk
    else s.endStaging.fwRes fwProg

/-- A word is staged; a page that fills is programmed, and a failure ends the transfer (R574). -/
def State.stageWord (s : State) (w : Word) (ok : Bool × Bool) : State :=
  let a := s.rd FWM_STAGE_ADDR.ADDR
  let s := s.wr FWM_STAGE_ADDR.ADDR (a + 1)
  match s.fwm.staging with
  | none => s
  | some k =>
    let q := s.fwSlot k
    let s := s.setFwSlot k { q with next := SMap.put 0 (a * 4) w q.next }
    if a % 4096 = 4095 then (if (s.fwProgram k ok).1 then s else (s.fwProgram k ok).2.endStaging.fwRes fwProg) else s

/-- FWM_STAGE_DATA. -/
def State.doStageData (s : State) (w : Word) (ok : Bool × Bool) : State := if s.hubOn then s.stageWord w ok else s

/-- FWM_STAGE_SEAL: the image is checked, and only then sealed. -/
def State.doStageSeal (s : State) (k : Nat) (ok : Bool × Bool) : State :=
  if !s.hubOn then s
  else if s.fwm.staging ≠ some k then s.fwRes fwState
  else
    let m := (s.fwSlot k).next
    let r := s.fwCheck m
    let s := s.endStaging
    if r ≠ fwOk then s.fwRes r
    else if !(s.fwProgram k ok).1 then (s.fwProgram k ok).2.fwRes fwProg
    else
      let q : FwSlot :=
        { image := m
          sealed := true
          tag := imgTag m (fwLen m - 16)
          next := []
          blk := ((s.fwSlot k).blk + 1) % 6 }
      ((s.setFwSlot k q).updSlots).fwRes fwOk

/-- FWM_ABORT; with no transfer open it ends with STATE (DEDUCED 37). -/
def State.doFwAbort (s : State) : State :=
  if !s.hubOn then s else if s.fwm.staging.isSome then s.endStaging.fwRes fwOk else s.fwRes fwState

/-- FWM_SELECT_NEXT: the selector puts the other slot on trial (R576). -/
def State.doSelectNext (s : State) (k : Nat) (ok0 ok36 : Bool) : State :=
  if !s.hubOn then s
  else if !s.stageable k || s.fwm.staging == some k then s.fwRes fwState
  else if !s.slotValid k then s.fwRes fwBad
  else
    let p := s.healthProgram ok0 ok36
    if p.1 then (p.2.setSelector (1 - k) true 0).fwRes fwOk else p.2.fwRes fwProg

/-- FWM_ACTIVATE_NOW: the cores are held in reset and the slot on trial is loaded (R576). -/
def State.doActivateNow (s : State) : State :=
  if !s.hubOn then s
  else if !s.fwm.running || s.on FWM_STATUS.ACTIVATING || !s.fwm.trial || !s.slotValid (1 - s.rd FWM_STATUS.BOOTED) then s.fwRes fwState
  else
    let s := { s with fwm := { s.fwm with prev := s.rd FWM_STATUS.BOOTED, handoff := true } }
    (s.holdCores.wr FWM_STATUS.ACTIVATING 1).fwRes fwOk

/-- FWM_BLOW: one more fuse bit; STATE is checked before ORPHAN (R581; DEDUCED 38). -/
def State.doBlow (s : State) : State :=
  if !s.hubOn then s
  else if s.chip ≠ .opened then s.fwRes fwState
  else if s.fwm.svyEpoch ≤ s.fuse.blown ∨ fwEpoch (s.fwSlot (s.rd FWM_STATUS.BOOTED)).image ≤ s.fuse.blown then s.fwRes fwOrphan
  else
    let n := s.fuse.blown + 1
    let s := { s with fuse := { s.fuse with blown := n } }
    s.fwRes fwOk

/-! ### Firmware by mailbox (R574 to R576) -/

/-- GET_FW_INFO (R575). -/
def State.doFwInfo (s : State) (f : Nat) : State :=
  s.mailMgmt f 0x0200 (fun s =>
    let rev (k : Nat) : List Nat :=
      [0, 1, 2, 3].map (fun i => if s.slotValid k then imgWord (s.fwSlot k).image (0x18 + 4 * i) else 0)
    let run := if s.fwm.recovery then 0 else s.rd FWM_STATUS.BOOTED + 1
    let staged := if s.fwm.trial then 2 - s.fwm.active else 0
    s.reply f 0x0200 .success ([2, run, staged, 1] ++ rev 0 ++ rev 1))

/-- The end of a Transfer FW part by its RESULT: the return over the CCI, and on a port the end of the background command that it is, with
CXL's code of the return (R317; PRESUMED 172). -/
def State.partReply (s : State) (f : Nat) : State :=
  let r := s.rd FWM_CMD_STATUS.RESULT
  if f = cciFace then
    s.reply f 0x0201 (if r = fwOk then .success else if r = fwBad ∨ r = fwRollback then .invalidInput else .internalError) []
  else
    let c := if r = fwOk then 0 else if r = fwBad ∨ r = fwRollback then 2 else 4
    (s.bgEnd f 0x0201 c).raiseIf (c == 4 && decide (f < 6)) (509 + 8 * f)

/-- A Transfer FW part that programs the Boot band runs in the background of a port (R317). -/
def State.partStart (s : State) (f : Nat) : State := if f = cciFace then s else s.bgStart f 0x0201

/-- The words of a part go through FWM_STAGE_DATA. -/
def State.putPart (s : State) (f : Nat) (ws : List Word) (ok : Bool × Bool) : State :=
  let s := s.forEach ws (fun s w => s.stageWord w ok)
  if s.fwm.staging.isNone then s
  else { s with fwm := { s.fwm with xfer := s.fwm.xfer + 4 * ws.length, xferFace := f + 1 } }

/-- The first part: the slot's next block is erased. -/
def State.partOpen (s : State) (f slot offset : Nat) (ws : List Word) (ok : Bool × Bool) (last : Bool) : State :=
  if s.fwm.xferFace ≠ 0 ∨ s.on FWM_STATUS.ACTIVATING then s.reply f 0x0201 .busy []
  else if slot < 1 ∨ 2 < slot ∨ !s.stageable (slot - 1) then s.reply f 0x0201 .invalidSlot []
  else if offset ≠ 0 then s.reply f 0x0201 .invalidInput []
  else
    let s := ((s.partStart f).doStageOpen (slot - 1) ok).when (ok.1 && ok.2) (fun s => s.putPart f ws ok)
    (s.when (last && ok.1 && ok.2) (fun s => s.doStageSeal (slot - 1) ok)).partReply f

/-- A later part must go on where the last one ended. -/
def State.partNext (s : State) (f offset : Nat) (ws : List Word) (ok : Bool × Bool) (last : Bool) : State :=
  match s.fwm.staging with
  | some k =>
    if s.fwm.xferFace ≠ f + 1 then s.reply f 0x0201 .busy []
    else if offset ≠ s.fwm.xfer then s.reply f 0x0201 .invalidInput []
    else (((s.partStart f).putPart f ws ok).when (last && ok.1 && ok.2) (fun s => s.doStageSeal k ok)).partReply f
  | none => s.reply f 0x0201 .invalidInput []

/-- TRANSFER_FW. -/
def State.doTransferFw (s : State) (f action slot offset : Nat) (ws : List Word) (ok : Bool × Bool) : State :=
  s.mailMgmt f 0x0201 (fun s =>
    if f != cciFace && (s.port f).bg.isSome then s.reply f 0x0201 .busy [] else
    match action with
    | 0 => s.partOpen f slot offset ws ok true
    | 1 => s.partOpen f slot offset ws ok false
    | 2 => s.partNext f offset ws ok false
    | 3 => s.partNext f offset ws ok true
    | 4 => (s.when (s.fwm.xferFace == f + 1) State.endStaging).reply f 0x0201 .success []
    | _ => s.reply f 0x0201 .invalidInput [])

/-- ACTIVATE_FW: `reset` leaves recovery with a warm chip reset (R572). -/
def State.activateFw (s : State) (f slot : Nat) (ok0 ok36 online : Bool) (reset : State → State) : State :=
  s.mailMgmt f 0x0202 (fun s =>
    if s.fwm.xferFace ≠ 0 ∨ s.on FWM_STATUS.ACTIVATING then s.reply f 0x0202 .busy []
    else if slot < 1 ∨ 2 < slot ∨ !s.stageable (slot - 1) || !s.slotValid (slot - 1) then s.reply f 0x0202 .invalidSlot []
    else
      let s := s.doSelectNext (slot - 1) ok0 ok36
      if s.rd FWM_CMD_STATUS.RESULT = fwProg then s.reply f 0x0202 .internalError []
      else if s.fwm.recovery then reset (s.reply f 0x0202 .success [])
      else if online then (s.openCmd f 0x0202).doActivateNow
      else s.reply f 0x0202 .success [])

end Sys2Proof.Machine
end

