-- ==== Sys2Proof/Machine/FltFx.lean ====
section
/-! DEFINITION. The FLT block: counting windows, the map, what each action does, first-fault capture and the interrupt
queue (chapter 18). -/

namespace Sys2Proof.Machine

/-! ### Defaults and loads (R511, R526) -/

/-- The window lengths when THRESHOLDS is absent (R511). -/
def winDefault : List Nat := [32768, 327680, 1966080, 117964800, 2831155200, 8192, 1024, 32]

/-- A threshold byte: THR_LOG2, WIN, PAIRED (R511). -/
def thrOf (log win paired : Nat) : Nat := log + win * 16 + paired * 128

/-- The default threshold byte of a source (R526). "Never" leaves the window class open; class 0 is taken (DEDUCED 39). -/
def thrDefault (src : Nat) : Nat :=
  if src < 216 then (if src % 6 = 3 then thrOf 2 2 0 else thrOf 15 0 0)
  else if src < 504 then
    match (src - 216) % 4 with
    | 0 => thrOf 3 0 1
    | 2 => thrOf 2 3 0
    | _ => thrOf 15 0 0
  else if src < 552 then (if (src - 504) % 8 = 6 then thrOf 2 2 0 else thrOf 15 0 0)
  else if 658 ≤ src ∧ src < 674 then thrOf 2 2 0
  else if 690 ≤ src ∧ src < 694 then thrOf 4 0 1
  else match src with
    | 680 => thrOf 1 1 0
    | 681 => thrOf 3 3 0
    | 684 => thrOf 2 3 0
    | 687 => thrOf 2 3 0
    | 688 => thrOf 2 3 0
    | _ => thrOf 15 0 0

/-- The threshold byte and window length that an image gives (R511). -/
def State.imgThr (s : State) (src : Nat) : Nat := if s.hasSec 0x41 then svByte s.svy.run 0x41 src else thrDefault src
def State.imgWin (s : State) (w : Nat) : Nat :=
  if s.hasSec 0x41 then svField s.svy.run ⟨0x41, 0x2C0 + 4 * w, 0, 32⟩ else winDefault.getD w 32

/-- A load at a chip reset: map without its reserved bits (R514), thresholds and windows stand at once, and parity is computed
anew (R513, R522). -/
def State.fltLoad (s : State) : State :=
  let s := s.forEach (List.range 352) (fun s i => s.setWord (FLT_MAP.ENTRY_LO i).addr (BitVec.ofNat 32 (Nat.land (svWord s.svy.run 0x50 (4 * i)) 0x007F007F)))
  let thr4 (s : State) (i : Nat) : Nat :=
    s.imgThr (4 * i) + s.imgThr (4 * i + 1) * 256 + s.imgThr (4 * i + 2) * 65536 + s.imgThr (4 * i + 3) * 16777216
  let s := s.forEach (List.range 176) (fun s i => s.wr (FLT_THR.BYTES i) (thr4 s i))
  let s := s.forEach (List.range 8) (fun s w => s.wr (FLT_WIN.TICKS w) (s.imgWin w))
  let win := (List.range 8).map (fun w => (w, s.tick / Nat.max 1 (s.imgWin w)))
  let m := win.foldl (fun m p => SMap.put 0 p.1 p.2 m) s.flt.win
  ({ s with flt := { s.flt with win := m, thrNew := [], winNew := [] } }).wr FLT_STATUS.PARITY 0

/-- A live load: thresholds and lengths that change wait for the next boundary of their window (R513). -/
def State.fltLive (s : State) : State :=
  let t := (List.range 704).filter (fun src => s.imgThr src != s.thrByte src)
  let w := (List.range 8).filter (fun w => s.imgWin w != s.rd (FLT_WIN.TICKS w))
  let tm := t.foldl (fun m src => SMap.put 0 src (s.imgThr src + 1) m) []
  let wm := w.foldl (fun m c => SMap.put 0 c (s.imgWin c) m) []
  { s with flt := { s.flt with thrNew := tm, winNew := wm } }

/-! ### Windows (R512, R513) -/

/-- Sources that hold a count. -/
def State.counted (s : State) : List Nat :=
  ((s.regs.filter (fun p => decide (0x22000 ≤ p.1) && decide (p.1 < 0x22000 + 2816))).map (fun p => (p.1 - 0x22000) / 4))

/-- A class begins window k: CUR moves into PREV, or PREV is 0 where whole windows passed; what a live load changed takes
force (R512, R513, R520). -/
def State.rollTo (s : State) (cls k : Nat) : State :=
  let next := decide (k = SMap.get 0 cls s.flt.win + 1)
  let l := s.counted.filter (fun src => s.srcClass src == cls)
  let s := s.forEach l (fun s src => (s.wr (FLT_CNT.PREV src) (if next then s.rd (FLT_CNT.CUR src) else 0)).wr (FLT_CNT.CUR src) 0)
  let esc := s.flt.esc.filter (fun p => s.srcClass p.1 != cls)
  let mine := s.flt.thrNew.filter (fun p => s.srcClass p.1 == cls)
  let rest := s.flt.thrNew.filter (fun p => s.srcClass p.1 != cls)
  let w := SMap.get 0 cls s.flt.winNew
  let s := s.forEach mine (fun s p => s.wr ⟨(FLT_THR.BYTES (p.1 / 4)).addr, p.1 % 4 * 8, 8⟩ (p.2 - 1))
  let s := s.when (w != 0) (fun s => s.wr (FLT_WIN.TICKS cls) w)
  let k := if w = 0 then k else s.tick / w
  let s := { s with flt := { s.flt with
      esc := esc
      thrNew := rest
      winNew := SMap.put 0 cls 0 s.flt.winNew
      win := SMap.put 0 cls k s.flt.win } }
  s.when (cls == 3) (fun s => s.wr FLT_RSTCNT.COUNT 0)

/-- The number of the window of a class in which the present tick lies. -/
def State.clsWindow (s : State) (cls : Nat) : Nat := s.tick / Nat.max 1 (s.rd (FLT_WIN.TICKS cls))

/-- A class whose window has ended rolls over. -/
def State.rollDue (s : State) (cls : Nat) : State :=
  if SMap.get 0 cls s.flt.win < s.clsWindow cls then s.rollTo cls (s.clsWindow cls) else s

/-- WINDOW_ROLLOVER: of one of the eight classes, or (8) of the DRAM counts (R303, R512). -/
def State.doRollover (s : State) (cls : Nat) : State :=
  if s.chip = .off then s
  else if cls < 8 then s.rollDue cls
  else if cls = 8 ∧ s.hubOn then s.dramRoll
  else s

/-! ### One raise (R513, R514, R516, R525) -/

/-- A raise with the action it takes. -/
structure React where
  src : Nat
  act : Nat
  esc : Bool
  qual : Bool
  tick : Nat
  deriving DecidableEq, Repr

def actIrq : Nat := 1
def actTrap : Nat := 2
def actBreset : Nat := 3
def actHold : Nat := 4
def actCreset : Nat := 5
def actErr : Nat := 6

/-- The rank of an action code (R514). -/
def actRank (a : Nat) : Nat := if a < 4 then a else 4

/-- The map's entry of a source (R514). -/
def State.mapEntry (s : State) (src : Nat) : Nat := bitsOf (src % 2 * 16) 16 (s.word (FLT_MAP.ENTRY_LO (src / 2)).addr).toNat

/-- The raise reaches its threshold for the first time in the window (R513, R516). -/
def State.escalates (s : State) (src : Nat) : Bool :=
  let b := s.thrByte src
  let thr := 2 ^ bitsOf 0 4 b
  let paired := bitAt 7 b
  let cur := s.rd (FLT_CNT.CUR src)
  let prev := s.rd (FLT_CNT.PREV src)
  bitsOf 0 4 b != 15 && !SMap.get false src s.flt.esc &&
    (if paired && decide (prev < thr) then decide (thr ≤ cur + prev) else decide (thr ≤ cur))

/-- The reset count has reached its limit, and no request waits that a further one would join (R520). -/
def State.rstSpent (s : State) : Bool :=
  s.flt.rst != some .creset && decide (Nat.max 1 (s.rd FLT_CFG.RSTLIM) ≤ s.rd FLT_RSTCNT.COUNT)

/-- A raise is counted, and takes ACTION or ESC (R512, R516, R520, R522). -/
def State.takeRaise (s : State) (r : Raise) : React × State :=
  let s := s.rollDue (s.srcClass r.src)
  let s := (s.addWrap (FLT_TOT.TOTAL r.src) 1).addSat (FLT_CNT.CUR r.src) 1
  let e := s.escalates r.src
  let s := s.when e (fun s => { s with flt := { s.flt with esc := SMap.put false r.src true s.flt.esc } })
  let m := s.mapEntry r.src
  let esc := e || (bitAt 6 m && r.qual)
  let a := if r.src = 689 then actHold else if esc then bitsOf 3 3 m else bitsOf 0 3 m
  let a := if a = actCreset ∧ s.rstSpent then actHold else a
  ({ src := r.src
     act := a
     esc := esc && r.src != 689
     qual := r.qual
     tick := r.tick }, s.tally r.src r.tick (actRank a))

/-! ### Capture (R521) -/

/-- One raise is captured ahead of another: EV689 first, then the higher rank, then the lower source. -/
def React.before (a b : React) : Bool :=
  a.src == 689 || (b.src != 689 && (decide (actRank b.act < actRank a.act) || (actRank a.act == actRank b.act && decide (a.src < b.src))))

/-- First-fault capture of one hub clock's raises. -/
def State.capture (s : State) (rs : List React) : State :=
  let lim := if s.on FLT_CFG.CAPT_IRQ then 1 else 2
  let q := rs.filter (fun r => decide (lim ≤ actRank r.act))
  match q with
  | [] => s
  | x :: l =>
    let b := l.foldl (fun b y => if y.before b then y else b) x
    let top := q.foldl (fun m y => Nat.max m (actRank y.act)) 0
    if s.on FLT_FFC.VALID then
      (s.addSat FLT_FFC_THI.MORE q.length).wr FLT_FFC.MAXRANK (Nat.max top (s.rd FLT_FFC.MAXRANK))
    else
      ((s |>.wr FLT_FFC.SOURCE b.src |>.wr FLT_FFC.ACTION b.act |>.wrB FLT_FFC.ESC b.esc |>.wrB FLT_FFC.QUAL b.qual
        |>.wrB FLT_FFC.SAME_CYCLE (decide (1 < q.length))).wr FLT_FFC.CHIP s.chip.code
        |>.wr FLT_FFC.MAXRANK top |>.wr FLT_FFC_TLO.TICK b.tick |>.wr FLT_FFC_THI.TICK (b.tick / 4294967296)
        |>.wr FLT_FFC_THI.MORE 0 |>.wr FLT_FFC.VALID 1).alert 5

/-- FLT_FFC_CLEAR. -/
def State.doFfcClear (s : State) : State :=
  if s.on FLT_FFC.VALID then
    s |>.setWord FLT_FFC.VALID.addr 0 |>.setWord FLT_FFC_TLO.TICK.addr 0 |>.setWord FLT_FFC_THI.TICK.addr 0
  else s

/-! ### Block resets (R518) -/

/-- A NAND channel engine is reset: programs in flight fail, erases in flight leave their blocks UNSETTLED. -/
def State.nchReset (s : State) (n : Nat) : State :=
  let g := chanGroup n
  let ids := (s.haul.stripes.filter (fun x => x.group == g && s.programmed x)).map Stripe.id
  let s := s.forEach ids (fun s i => s.doStripeFail i n)
  let mine (i : Intent) : Bool := i.st == 1 && (if i.lode then i.group == g else i.channel == n)
  let l := s.stk.intents.filter mine
  let s := s.forEach l (fun s i =>
    (s.forEach ((s.intentBlocks i).filter (fun b => b.1 == n)) (fun s b => s.unsettle b.1 b.2.1 b.2.2)).when i.lode (fun s =>
      s.setLode i.group i.num { s.lode i.group i.num with st := lodeReclaim }))
  let s := { s with stk := { s.stk with intents := s.stk.intents.filter (fun i => !mine i) } }
  ((s.freeDies (l.flatMap s.intentBlocks)).wr (NCH_STATUS.SUSPENDED n) 0).when (s.rd (NCH_STATUS.STATE n) == 2 || s.rd (NCH_STATUS.STATE n) == 3)
    (fun s => s.wr (NCH_STATUS.STATE n) 5)

/-- A DRAM channel engine is reset: it puts the channel into self-refresh, resets itself, and restarts from retention until the next
tick; no line changes (R518; DESIGN CHOICE 146). -/
def State.dchReset (s : State) (c : Nat) : State :=
  let s := s.forEach [0, 1, 2, 3] (fun s k => s.closeRows c k (fun _ => true))
  s.when ([2, 3, 4].contains (s.rd (DCH_STATUS.STATE c)) && (s.serving || s.chip == .waking)) (fun s => s.wr (DCH_STATUS.STATE c) 5)

/-- A source's block reset waits for the end of a save, or is moot in it (R518). -/
def brLater (src : Nat) : Bool := decide (src < 504) || (decide (564 ≤ src) && decide (src < 576))

/-- Carry out the block reset of a source. -/
def State.blockReset (s : State) (src : Nat) : State :=
  if src < 216 then s.dchReset (src / 6)
  else if src < 504 then s.nchReset ((src - 216) / 4)
  else if src < 552 then s.doLinkDown ((src - 504) / 8)
  else if src < 560 then (s.doGalDown ((src - 552) / 4)).doGalRetrain ((src - 552) / 4)
  else if src < 564 then s
  else if src < 576 then s.testPair (src - 564)
  else if 658 ≤ src ∧ src < 674 then s.twReset ((src - 658) / 2)
  else if src = 680 ∨ src = 681 then s.foremanReset
  else s

/-- A block reset of a source's block runs (R527). -/
def State.brBusy (s : State) (src : Nat) : Bool :=
  if src < 216 then s.rd (DCH_STATUS.STATE (src / 6)) == 5
  else if src < 504 then s.rd (NCH_STATUS.STATE ((src - 216) / 4)) == 5
  else if 564 ≤ src ∧ src < 576 then s.rd (CIP_PAIR.STATE (src - 564)) == pairTesting
  else decide (658 ≤ src) && decide (src < 674) && s.rd (TWB_STATUS.STATE ((src - 658) / 2)) == 3

/-- A block reset waits. -/
def State.brWait (s : State) (src : Nat) : State :=
  { s with flt := { s.flt with later := if s.flt.later.contains src then s.flt.later else s.flt.later ++ [src] } }

/-- BRESET: it waits for a save's end, and for a reset of the block that runs (R518, R527). -/
def State.breset (s : State) (src : Nat) : State :=
  if s.chip = .save then
    if brLater src then s.brWait src
    else if src < 564 then s
    else if s.brBusy src then s.brWait src else s.blockReset src
  else if s.hubOn ∨ 576 ≤ src then (if s.brBusy src then s.brWait src else s.blockReset src)
  else s

/-- Block resets that waited for the end of a save, or of another reset of their block (R518, R527). -/
def State.laterClock (s : State) : State :=
  if s.flt.later.isEmpty then s
  else
    let waits (t : State) (src : Nat) : Bool := t.brBusy src || (t.chip == .save && brLater src)
    let l := s.flt.later.filter (fun src => s.hubOn || decide (576 ≤ src))
    ({ s with flt := { s.flt with later := [] } }).forEach l (fun t src => if waits t src then t.brWait src else t.blockReset src)

/-! ### Chip-level actions and the queue (R502, R517, R519, R520, R525) -/

/-- A warm chip reset is asked for: in Restoring and Open a save as SAVE_PARK runs first; while one waits, a further request
joins it (R502, R520). -/
def State.askReset (s : State) (why : RstWhy) : State :=
  if !s.powered then s
  else
    let s := if s.flt.rst.isSome then s else { s with flt := { s.flt with rst := some why } }
    if s.serving then s.saveTrigger trigCmd false else s

/-- The chip-level action of one hub clock. -/
def State.chipAction (s : State) (rs : List React) : State :=
  let has (a : Nat) : Bool := rs.any (fun r => r.act == a)
  if has actHold then s.enterHold
  else if has actCreset then s.askReset .creset
  else if has actErr then (s.wr FLT_ERR.PIN 1).updErr
  else s

/-- A raise enters the interrupt queue. -/
def State.queueIrq (s : State) (r : React) : State :=
  if r.act = actIrq ∨ r.act = actTrap then
    if s.flt.irqq.length < 256 then { s with flt := { s.flt with irqq := s.flt.irqq ++ [(r.src, r.act)] } }
    else s.wr FLT_STATUS.IRQQ_OVF 1
  else s

/-- What the raises of one hub clock do together (R519, R527). -/
def State.act (s : State) (rs : List React) : State :=
  if s.chip = .hold then s
  else
    let hold := rs.any (fun r => r.act == actHold)
    let s := (s.chipAction rs).forEach rs State.queueIrq
    if hold then s else s.forEach (rs.filter (fun r => r.act == actBreset)) (fun s r => s.breset r.src)

/-- Count every raise of a hub clock, in order. -/
def State.takeAll : List Raise → State → List React × State
  | [], s => ([], s)
  | r :: l, s =>
    let q := s.takeRaise r
    let z := State.takeAll l q.2
    (q.1 :: z.1, z.2)

/-- The raises that wait are counted, captured and acted on. -/
def State.fltPass (s : State) : State :=
  if s.flt.raised.isEmpty then s
  else
    let q := State.takeAll s.flt.raised { s with flt := { s.flt with raised := [] } }
    (q.2.capture q.1).act q.1

/-- FLT's part of a hub clock; what an action raises itself follows within the clock. -/
def State.fltClock (s : State) : State := s.fltPass.fltPass.fltPass.fltPass

/-! ### The commands -/

/-- PARITY_CHECK (R522). -/
def State.doParity (s : State) (bad : Bool) : State :=
  if bad && s.chip != .off then (s.wr FLT_STATUS.PARITY 1).raise 689 else s

/-- FLT_WARM_RESET (R502, R523): the BMC's write comes through TW0 and acts alike. -/
def State.doFltReset (s : State) : State := s.askReset .command

/-- FLT_INJECT (R528); the BMC's INJECT never gets here (R549). -/
def State.doInjectRaise (s : State) (src : Nat) : State := if s.chip != .off && decide (src < 704) then s.raise src else s

/-- FLT_IRQQ_POP. -/
def State.doIrqPop (s : State) : State := { s with flt := { s.flt with irqq := s.flt.irqq.drop 1 } }

/-- SEAM_RETRY_EXHAUSTED (R510). -/
def State.doSeam (s : State) (seam : Nat) : State := if s.hubOn && decide (seam < 4) then s.raise (690 + seam) else s

/-- FOREMAN_EXCEPTION (R510): the map's BRESET is the cluster's reset (R518). -/
def State.doException (s : State) : State := if s.hubOn && s.fwm.running then s.raise 680 else s

/-- WATCHDOG_EXPIRY: the count has reached 0 (R578). -/
def State.doWatchdog (s : State) : State :=
  if s.hubOn && s.fwm.running && s.rd FWM_WDT_STAT.LEFT == 0 then s.dogExpires (fun s => s.askReset .watchdog) else s

/-- FWM_WDT_KICK: another value counts as an expiry (R578). -/
def State.doKick (s : State) (key : Word) : State :=
  if s.hubOn && s.fwm.running then
    (if key == 0x4B49434B then s.kickDog else s.dogExpires (fun s => s.askReset .watchdog))
  else s

/-- ACTIVATE_FW_ONLINE and ACTIVATE_FW_NEXT_RESET (R572, R576). -/
def State.doActivateFw (s : State) (f slot : Nat) (ok0 ok36 online : Bool) : State :=
  s.activateFw f slot ok0 ok36 online (fun s => s.askReset .command)

end Sys2Proof.Machine
end

