-- ==== Sys2Proof/Machine/SvyChk.lean ====
section
/-! DEFINITION. How an image of the Survey is read and checked (R57 to R75, R84, R627, and the loader's conditions of the
chapters that R627 names). -/

namespace Sys2Proof.Machine

/-! ### The image's parts (R57 to R59) -/

/-- A section of an image: its header, and where its body lies. -/
structure Sec where
  typ : Nat
  ver : Nat
  live : Bool
  inst : Nat
  off : Nat
  len : Nat
  deriving DecidableEq, Repr

def svyOk : Nat := 0
def svyMagic : Nat := 1
def svyPart : Nat := 2
def svyVersion : Nat := 3
def svyLength : Nat := 4
def svyTag : Nat := 5
def svySection : Nat := 6
def svyCross : Nat := 7
def svyRollback : Nat := 8
def svyStruct : Nat := 9
def svyBusy : Nat := 10
def svyState : Nat := 11
def svyAborted : Nat := 12
def svyInstallFail : Nat := 13

def imgLen (m : SMap Word) : Nat := imgWord m 8
def imgCount (m : SMap Word) : Nat := bitsOf 0 16 (imgWord m 0x0C)
def imgGen (m : SMap Word) : Nat := imgWord m 0x10
def imgEpoch (m : SMap Word) : Nat := bitsOf 8 7 (imgWord m 0x18)

/-- The section whose header lies at an offset. -/
def secAt (m : SMap Word) (o : Nat) : Sec :=
  { typ := bitsOf 0 16 (imgWord m o)
    ver := bitsOf 16 8 (imgWord m o)
    live := bitAt 24 (imgWord m o)
    inst := bitsOf 0 16 (imgWord m (o + 8))
    off := o + 16
    len := imgWord m (o + 4) }

/-- The sections from an offset on, as far as their headers lie before the trailer. -/
def walkSecs (m : SMap Word) (limit : Nat) : Nat → Nat → List Sec
  | 0, _ => []
  | n + 1, o => if o + 16 ≤ limit then secAt m o :: walkSecs m limit n (o + 16 + (secAt m o).len) else []

/-- The sections of an image. -/
def imgSecs (m : SMap Word) : List Sec := walkSecs m (imgLen m - 16) (imgCount m) 64

/-- Body length that this loader knows for a type, and whether the type is live (R61). -/
def knownSec (t : Nat) : Option (Nat × Bool) :=
  match t with
  | 0x10 => some (16, false) | 0x11 => some (48, false) | 0x12 => some (96, false) | 0x13 => some (8, false)
  | 0x14 => some (256, false) | 0x20 => some (592, false) | 0x21 => some (128, false) | 0x22 => some (0, false)
  | 0x23 => some (32, false) | 0x30 => some (416, false) | 0x31 => some (64, false) | 0x38 => some (32, false)
  | 0x40 => some (48, true) | 0x41 => some (1024, true) | 0x42 => some (64, true) | 0x50 => some (1408, false)
  | _ => none

/-- The types that must be present (R61). -/
def requiredSecs : List Nat := [0x10, 0x11, 0x12, 0x14, 0x20, 0x21, 0x30, 0x31, 0x40, 0x50]

/-- Body bytes of a section that the loader takes; those of a later version beyond the known length are ignored (R84). -/
def Sec.taken (x : Sec) : Nat :=
  if x.typ = 0x13 ∨ x.typ = 0x22 then x.len
  else match knownSec x.typ with
    | some k => k.1
    | none => 0

/-- The bodies as the running image keeps them, keyed by type and offset. -/
def imgBodies (m : SMap Word) : SMap Word :=
  ((imgSecs m).filter (fun x => (knownSec x.typ).isSome)).flatMap (fun x =>
    ((m.filter (fun p => decide (x.off ≤ p.1) && decide (p.1 < x.off + x.taken))).map (fun p => (x.typ * 0x100000 + (p.1 - x.off), p.2))))

/-- The types present that the loader knows. -/
def imgHas (m : SMap Word) : List Nat := ((imgSecs m).filter (fun x => (knownSec x.typ).isSome)).map Sec.typ

/-- Bytes of sections, headers included, in order. -/
def secBytes (m : SMap Word) (p : Sec → Bool) : List Byte :=
  ((imgSecs m).filter p).flatMap (fun x => imgBytes m (x.off - 16) (16 + x.len))

/-- The structural digest (R79). -/
def State.structDigest (s : State) (m : SMap Word) : BitVec 128 := cmac s.fuse.provKey (secBytes m (fun x => !x.live))

/-- The pair digest (R435). -/
def State.pairDigest (s : State) (m : SMap Word) : BitVec 128 :=
  cmac s.fuse.provKey (secBytes m (fun x => decide (0x10 ≤ x.typ) && decide (x.typ ≤ 0x14)))

/-! ### Checks of the frame (R627 orders 1 to 4) -/

/-- Every LENGTH and the count agree with TOTAL_LEN (R57, R59). -/
def lengthsOk (m : SMap Word) : Bool :=
  let l := imgSecs m
  let n := imgLen m
  decide (n ≤ 524288) && decide (n % 16 = 0) && decide (1 ≤ imgCount m) && decide (imgCount m ≤ 64) && l.length == imgCount m
    && l.all (fun x => decide (x.len % 8 = 0) && decide (x.off + x.len + 16 ≤ n))
    && (match l.getLast? with
      | some x => decide (x.off + x.len + 16 = n)
      | none => false)

/-- No body is shorter than the loader knows for its VERSION (R84; longer ones: DESIGN CHOICE 109); DYNCAP and WPROT have
as many entries as fit (R61). -/
def bodiesOk (m : SMap Word) : Bool :=
  (imgSecs m).all (fun x => match knownSec x.typ with
    | some k => decide (k.1 ≤ x.len) && (x.typ != 0x22 || decide (x.len ≤ 8 * 18432))
    | none => true)

/-- DYNCAP's body holds the entries that its COUNT names: a body is read only once the tag has verified (R61, R75, R627; DEDUCED 168). -/
def dyncapFits (m : SMap Word) : Bool :=
  (imgSecs m).all (fun x => x.typ != 0x13 || decide (8 + 4 * bitsOf 0 16 (imgWord m x.off) ≤ x.len))

/-! ### Checks of one section (R627 order 7) -/

/-- Order, class and presence of the types (R60 to R62). -/
def typesOk (m : SMap Word) : Bool :=
  let l := imgSecs m
  let ts := l.map Sec.typ
  (List.zip ts (ts.drop 1)).all (fun p => decide (p.1 < p.2)) &&
  l.all (fun x => match knownSec x.typ with
    | some k => x.live == k.2 && x.inst == 0
    | none => decide (32768 ≤ x.typ)) &&
  requiredSecs.all (fun t => ts.contains t)

/-- A number lies in a range. -/
def within (lo hi v : Nat) : Bool := decide (lo ≤ v) && decide (v ≤ hi)

/-- PROFILE (R65, R280). -/
def State.profileOk (t : State) : Bool :=
  decide (t.sv PROFILE.PROFILE ≤ 1) && decide (t.sv PROFILE.SPEED ≤ 2) &&
  [(7, 1, 0), (7, 2, 0), (6, 0, 1), (6, 1, 1)].contains (t.sv PROFILE.DENSITY, t.sv PROFILE.STACK, t.sv PROFILE.TWO_RANK)

/-- The channels that the interleave lists. -/
def State.listed (t : State) : List Nat := (List.range (t.sv INTERLEAVE.WAYS)).map t.wayChan

/-- INTERLEAVE (R66). -/
def State.interleaveOk (t : State) : Bool :=
  let w := t.sv INTERLEAVE.WAYS
  within 4 36 w && decide (w % 4 = 0) && decide (t.sv INTERLEAVE.IG ≤ 2) && t.listed.all (fun c => decide (c < 36)) &&
  decide t.listed.Nodup && (List.range' w (36 - w)).all (fun p => t.wayChan p == 255)

/-- The faces that an image enables. -/
def State.onFaces (t : State) : List Nat := faces.filter (fun f => t.svOn (FACES.ENABLE f))

/-- FACES (R68, R69, R417). -/
def State.facesOk (t : State) : Bool :=
  faces.all (fun f => decide (t.sv (FACES.STATIC_BLOCKS f) ≤ 36855) && decide (t.sv (FACES.STATIC_BLOCKS f) ≤ t.sv (FACES.DC_BASE f))) &&
  decide (t.onFaces.map (fun f => t.sv (FACES.KEY_PAIR f))).Nodup && t.onFaces.all (fun f => t.sv (FACES.KEY_PAIR f) != 31)

/-- DYNCAP (R322). -/
def State.dyncapOk (t : State) : Bool :=
  !t.hasSec 0x13 || (within 1 64 (t.sv DYNCAP.COUNT) && (List.range (t.sv DYNCAP.COUNT)).all (fun i => t.svOn (DYNCAP.BLOCKS i)))

/-- The byte of a ring block (R71). -/
def State.ringByte (t : State) (i : Nat) : Nat := svByte t.svy.run 0x14 i

/-- RINGS (R71). -/
def State.ringsOk (t : State) : Bool := (List.range 256).all (fun i => !bitAt 7 (t.ringByte i) || decide (t.ringByte i % 8 ≤ 5))

/-- NAND (R208). -/
def State.nandOk (t : State) : Bool :=
  t.sv ⟨secNand, 0, 0, 16⟩ == 16384 && decide (2208 ≤ t.sv ⟨secNand, 0, 16, 16⟩) && within 64 2048 (t.sv NAND.WORDLINES) &&
  [1, 2, 4].contains (t.sv NAND.PLANES) && decide (t.sv NAND.RATE ≤ 4) && decide (t.sv NAND.VCCQ ≤ 1) &&
  within 16 8191 (t.sv NAND.BLOCKS_PER_PLANE)

/-- BANDS, as far as one section can say (R214). -/
def State.bandsOk (t : State) : Bool :=
  groups.all (fun g => decide (16 ≤ t.sv (BANDS.SPARE_LODES g)) && decide (3 ≤ t.sv (BANDS.SUMP_LODES g)) &&
    decide (t.sv (BANDS.FREE_LOW g) < t.sv (BANDS.FREE_TARGET g)))

/-- Field of WPROT entry i. -/
def wpField (t : State) (i off lo width : Nat) : Nat := svField t.svy.run ⟨0x22, 8 * i + off, lo, width⟩

/-- WPROT (R231). -/
def State.wprotOk (t : State) (n : Nat) : Bool :=
  (List.range n).all (fun i =>
    decide (wpField t i 0 0 7 < 72) && decide (wpField t i 4 0 16 ≤ wpField t i 4 16 16) &&
    !(wpField t i 0 8 8 == 0 && (wpField t i 0 0 7 == 0 || wpField t i 0 0 7 == 36)))

/-- STRIPES (R212). -/
def State.stripesOk (t : State) : Bool :=
  !t.hasSec secStripes || (groups.all (fun g => [1, 2, 4, 5, 7, 8].contains (t.sv (STRIPES.STEP g))) &&
    decide (2 ≤ (groups.filter (fun g => t.svOn (STRIPES.ENABLE g))).length))

/-- TWOWIRE (R546). -/
def State.twowireOk (t : State) : Bool :=
  [1, 2, 3, 4, 5, 6, 7].all (fun p => t.sv (TWOWIRE.RATE p) != 3) &&
  [3, 4].all (fun p => decide ((t.sensAddrs p).length ≤ 32) && (t.sensAddrs p).all (fun a => within 8 0x77 a))

/-- TWIN (R434). -/
def State.twinOk (t : State) : Bool :=
  !t.hasSec secTwin || (t.sv TWIN.PAIR_ID != 0 && (t.svOn (TWIN.GL_EN 0) || t.svOn (TWIN.GL_EN 1)) && within 2 32 (t.sv TWIN.HB_MISS)
    && within 2 32 (t.sv TWIN.GRACE) && within 1 4095 (t.sv TWIN.RSLV_RATE))

/-- LEDGER (R73). -/
def State.ledgerOk (t : State) : Bool :=
  decide (t.sv LEDGER.HAUL_TARGET < t.sv LEDGER.PEARL_MAX) && decide (t.sv LEDGER.PEARL_MAX < t.sv LEDGER.VERM_MIN) &&
  within 1 62259 (t.sv LEDGER.DERATE) && t.svOn LEDGER.E_SETT &&
  [0, 1].all (fun k => decide (t.sv (LEDGER.CHEM k) ≤ 2) && (t.sv (LEDGER.CHEM k) == 0 || t.svOn (LEDGER.EBOL k)))

/-- THRESHOLDS (R511). -/
def State.thresholdsOk (t : State) : Bool := !t.hasSec 0x41 || (List.range 8).all (fun w => within 32 2831155200 (t.imgWin w))

/-- SCHEDULER (R173, R174). -/
def State.schedulerOk (t : State) : Bool :=
  !t.hasSec secScheduler || (decide (1 ≤ t.sched 4 0 8 16) && within 2048 16383 (t.sched 8 0 16 10240) && decide (t.sched 0x0C 8 8 100 ≤ 105)
    && within 1 40 (t.sched 0x0C 16 8 10) && decide (1 ≤ t.sched 0x10 0 16 3000) && within 1 20 (t.sched 0x10 16 8 5))

/-- A source's block accepts a block reset (R518). -/
def hasBreset (src : Nat) : Bool :=
  decide (src < 560) || within 564 575 src || within 658 673 src || src == 680 || src == 681

/-- REACTION (R515). -/
def State.reactionOk (t : State) : Bool :=
  (List.range 704).all (fun e =>
    let m := bitsOf (e % 2 * 16) 16 (svWord t.svy.run 0x50 (e / 2 * 4))
    let a := bitsOf 0 3 m
    let b := bitsOf 3 3 m
    a != 7 && b != 7 && decide (actRank a ≤ actRank b) && ((a != actBreset && b != actBreset) || hasBreset e))

/-! BENCHES (R463 to R468). -/

/-- Rails that some bench names, with their bench. -/
def State.benchPairs (t : State) : List (Nat × Nat) :=
  (List.range 16).flatMap (fun b => ((List.range 32).filter (fun n => bitAt n (t.sv (BENCHES.RAILS b)))).map (fun n => (b, n)))

/-- Field of a bench entry beside RAILS. -/
def benchField (t : State) (b lo width : Nat) : Nat := svField t.svy.run ⟨secBenches, 0x24 + b * 8, lo, width⟩

/-- The header of BENCHES (R464). -/
def State.benchHeadOk (t : State) : Bool :=
  within 1 15 (t.sv BENCHES.TOP) && within 1 15 (t.sv BENCHES.Q) && within 2 15 (t.sv BENCHES.DROP) && within 1 15 (t.sv BENCHES.GLITCH_N) &&
  decide (t.sv BENCHES.INPUT_SENSE ≤ 47) && decide (t.sv BENCHES.INPUT_LOW < t.sv BENCHES.INPUT_HIGH) &&
  within 1 15 (t.sv BENCHES.INPUT_COUNT) && decide (16 ≤ t.sv BENCHES.RET_SCANS) && decide (t.sv BENCHES.CASCADE ≤ 2)

/-- A rail that a bench names (R463, R466, R468). -/
def State.railOk (t : State) (n : Nat) : Bool :=
  let i := t.sv (BENCHES.SENSE n)
  (decide (i ≤ 47) || i == 63) && !within 40 43 i && i != t.sv BENCHES.INPUT_SENSE && !(t.svOn (BENCHES.PG_NONE n) && i == 63) &&
  decide (t.sv (BENCHES.LOW n) < t.sv (BENCHES.HIGH n)) && decide (1 ≤ svField t.svy.run ⟨secBenches, 0xA0 + n * 4, 8, 8⟩)

/-- BENCHES, as far as the section alone can say (R75, R463 to R468; which entries are checked: DESIGN CHOICE 127). -/
def State.benchesOk (t : State) : Bool :=
  let ps := t.benchPairs
  let rails := ps.map (fun p => p.2)
  let senses := (rails.map (fun n => t.sv (BENCHES.SENSE n))).filter (fun i => i != 63)
  t.benchHeadOk && decide rails.Nodup && ps.all (fun p => decide (p.1 ≤ t.sv BENCHES.TOP)) && rails.all t.railOk && decide senses.Nodup &&
  (List.range 16).all (fun b => t.sv (BENCHES.RAILS b) == 0 || (decide (1 ≤ benchField t b 0 8) && decide (benchField t b 16 2 ≤ 2))) &&
  rstPins.all (fun r => !t.svOn (BENCHES.RST_EN r) ||
    (decide (1 ≤ svField t.svy.run ⟨secBenches, 0x120 + r * 4, 16, 8⟩) && decide (1 ≤ svField t.svy.run ⟨secBenches, 0x120 + r * 4, 24, 8⟩)))

/-- Every check of order 7 (R627). -/
def State.sectionsOk (t : State) (m : SMap Word) : Bool :=
  let n := (((imgSecs m).find? (fun x => x.typ == 0x22)).map (fun x => x.len / 8)).getD 0
  typesOk m && dyncapFits m && t.profileOk && t.interleaveOk && t.facesOk && t.dyncapOk && t.ringsOk && t.nandOk && t.bandsOk && t.wprotOk n && t.stripesOk
    && t.benchesOk && t.twowireOk && t.twinOk && t.ledgerOk && t.thresholdsOk && t.schedulerOk && t.reactionOk

/-! ### Checks across sections (R627 order 8) -/

/-- Present channels are listed; Slate keeps its spares out (R66). -/
def State.channelsOk (t : State) : Bool :=
  t.listed.all t.chanPresent && (t.sv PROFILE.PROFILE != 1 ||
    [32, 33, 34, 35].all (fun c => t.chanPresent c && !t.listed.contains c))

/-- The block ranges that static faces and the DYNCAP pool take: first and count (R69). -/
def State.blockRanges (t : State) : List (Nat × Nat) :=
  t.onFaces.map (fun f => (t.sv (FACES.STATIC_BASE f), t.sv (FACES.STATIC_BLOCKS f))) ++
  (if t.hasSec 0x13 then (List.range (t.sv DYNCAP.COUNT)).map (fun i => (t.sv (DYNCAP.FIRST i), t.sv (DYNCAP.BLOCKS i))) else [])

/-- No range of a list overlaps a later one. -/
def noOverlap : List (Nat × Nat) → Bool
  | [] => true
  | r :: l => l.all (fun x => decide (r.1 + r.2 ≤ x.1) || decide (x.1 + x.2 ≤ r.1) || r.2 == 0 || x.2 == 0) && noOverlap l

/-- Ranges lie in the pool and are disjoint (R69; an empty range beyond the pool: DESIGN CHOICE 126). -/
def State.rangesOk (t : State) : Bool :=
  let pool := t.sv INTERLEAVE.WAYS * 65520 / 64
  t.blockRanges.all (fun r => decide (r.1 + r.2 ≤ pool)) && noOverlap t.blockRanges

/-- The channels of every enabled group carry the same targets (R207). -/
def State.groupsOk (t : State) : Bool :=
  groups.all (fun g => !t.groupOn g || (List.range 9).all (fun i => t.sv (NAND.TARGETS (9 * g + i)) == t.sv (NAND.TARGETS (9 * g))))

/-- The bands fit their groups and the pool (R109, R214). -/
def State.bandsFit (t : State) : Bool :=
  groups.all (fun g => decide (t.fallowBase g ≤ t.sv NAND.BLOCKS_PER_PLANE) &&
    decide (t.sv (BANDS.STOCK_LODES g) * t.stockS g ≤ 67108864) && decide (t.sumpRecords g ≤ 134217728)) &&
  decide (11 * (t.sv INTERLEAVE.WAYS * 65520 * 64) ≤
    10 * ((groups.filter t.groupOn).map (fun g => 2 * (t.sv (BANDS.STOCK_LODES g) * t.stockS g))).sum)

/-- The strap-selected boot rails come first (R468, R469). -/
def State.bootRailsOk (t : State) : Bool :=
  let b := bootRails (t.rd SEQ_STRAP.BSET)
  let order := t.benchPairs.map (fun p => p.2)
  if t.rd SEQ_STRAP.BSET = 3 then !order.contains 0
  else decide (b.length ≤ order.length) && (order.take b.length).all (fun n => b.contains n)

/-- TW7's addresses when a twin is configured (R546). -/
def State.tw7Ok (t : State) : Bool :=
  let own := svField t.svy.run ⟨secTwowire, 24, 16, 7⟩
  let tgt := svField t.svy.run ⟨secTwowire, 24, 8, 7⟩
  !t.hasSec secTwin || (own != 0 && tgt != 0 && own != tgt)

/-- Every check of order 8 (R627). -/
def State.crossOk (t : State) : Bool :=
  t.channelsOk && t.rangesOk && (List.range 256).all (fun i => !bitAt 7 (t.ringByte i) || t.svOn (FACES.ENABLE (t.ringByte i % 8)))
    && t.groupsOk && t.bandsFit && t.bootRailsOk && t.tw7Ok

/-! ### The whole check (R627) -/

/-- The state as it would be with an image's sections running; only its Survey is looked at. -/
def State.withImage (s : State) (m : SMap Word) : State :=
  { s with svy := { s.svy with run := imgBodies m, has := imgHas m } }

/-- The first check that fails, or OK. -/
def State.svyCheck (s : State) (m : SMap Word) : Nat :=
  if imgWord m 0 ≠ 0x53565949 then svyMagic
  else if imgWord m 0x14 ≠ 0x3672 ∨ s.fuse.step < bitsOf 0 8 (imgWord m 0x18) then svyPart
  else if bitsOf 8 8 (imgWord m 4) ≠ 1 ∨ bitsOf 16 16 (imgWord m 4) ≠ 64 ∨ (imgSecs m).any (fun x => x.ver == 0) then svyVersion
  else if !lengthsOk m || !bodiesOk m then svyLength
  else if !s.tagOk m (imgLen m) then svyTag
  else if imgEpoch m < s.fuse.blown then svyRollback
  else if !(s.withImage m).sectionsOk m || imgGen m == 0 || decide (64 < imgEpoch m) then svySection
  else if !(s.withImage m).crossOk then svyCross
  else svyOk

end Sys2Proof.Machine
end

