-- ==== Sys2Proof/Machine/SvyFx.lean ====
section
/-! DEFINITION. The Survey loader: staging, installing, loading at boot, and live loads (chapter 03, R346). -/

namespace Sys2Proof.Machine

/-! ### Instances and copies (R74, R76) -/

/-- The image in an instance: 0 A on N00, 1 A on N36, 2 B on N00, 3 B on N36. -/
def State.instImg (s : State) (i : Nat) : SMap Word := SMap.slice (i * 0x100000) 0x100000 s.svy.inst

/-- Replace what an instance holds. -/
def State.setInst (s : State) (i : Nat) (m : SMap Word) : State :=
  { s with svy := { s.svy with inst := SMap.paste (i * 0x100000) 0x100000 m s.svy.inst } }

/-- The image of a copy: its first instance that is valid (R74). -/
def State.copyImg (s : State) (c : Nat) : Option (SMap Word) :=
  if s.svyCheck (s.instImg (2 * c)) = svyOk then some (s.instImg (2 * c))
  else if s.svyCheck (s.instImg (2 * c + 1)) = svyOk then some (s.instImg (2 * c + 1))
  else none

/-- The copy that boots (R76). -/
def State.bootCopy (s : State) : Option (Nat × SMap Word) :=
  match s.copyImg 0, s.copyImg 1 with
  | some a, some b => if imgGen a < imgGen b then some (1, b) else some (0, a)
  | some a, none => some (0, a)
  | none, some b => some (1, b)
  | none, none => none

/-! ### What a load sets (R64, R70, R77, R231, R233) -/

/-- A write-protect sector. -/
def State.setSector (s : State) (n w tgt first last mode : Nat) : State :=
  s |>.wr (NCH_WPLO.FIRST n w) first |>.wr (NCH_WPLO.LAST n w) last |>.wr (NCH_WPHI.TARGET n w) tgt |>.wr (NCH_WPHI.MODE n w) mode
    |>.wr (NCH_WPHI.VALID n w) 1

/-- No sector is set. -/
def State.clearSectors (s : State) : State :=
  { s with regs := s.regs.filter (fun p => !(decide (0x300000 ≤ p.1) && decide (p.1 < 0x390000) && decide (0x800 ≤ (p.1 - 0x300000) % 0x2000)
      && decide ((p.1 - 0x300000) % 0x2000 < 0x1000))) }

/-- A block that a sector does not leave OPEN is BAD with CAUSE 6, and the slot it would fill goes to a spare (R233). -/
def State.closeBlock (s : State) (n t b : Nat) : State :=
  if bootBlock n t b || (s.blk n t b).st == 6 then s
  else
    let w := s.blockSlot n t b
    let k := s.blockLode n t b
    let fills := s.groupOn (chanGroup n) && s.blockServes n t b
    (s.markBad n t b 6).when fills (fun s => s.remapSlot n k w.1 w.2)

/-- The sectors of WPROT and of R64. -/
def State.loadSectors (s : State) (entries : Nat) : State :=
  let s := s.clearSectors
  let s := s.forEach (List.range entries) (fun s i =>
    s.setSector (wpField s i 0 0 7) (wpField s i 0 8 8) (wpField s i 0 16 3) (wpField s i 4 0 16) (wpField s i 4 16 16) (wpField s i 0 20 2))
  let s := (s.setSector 0 0 0 0 63 3).setSector 36 0 0 0 63 3
  s.forEach ((List.range entries).filter (fun i => wpField s i 0 20 2 != 0)) (fun s i =>
    let n := wpField s i 0 0 7
    let t := wpField s i 0 16 3
    let first := wpField s i 4 0 16
    s.when ((s.targets n).contains t) (fun s =>
      s.forEach (List.range' first (min (wpField s i 4 16 16 + 1) s.dieBlocks - first)) (fun s b => s.closeBlock n t b))) |>
    (fun s => s.forEach (groups.filter s.groupOn) (fun s g => s.keepSpares g))

/-- The number of WPROT entries. -/
def wpCount (m : SMap Word) : Nat := (((imgSecs m).find? (fun x => x.typ == 0x22)).map (fun x => x.len / 8)).getD 0

/-- The registers that show a running image (R86, R589). -/
def State.showImage (s : State) (m : SMap Word) (copy : Nat) : State :=
  let d := (s.structDigest m).toNat
  let s := s |>.wr SVY_STATUS.BOOTED_COPY copy |>.wr SVY_GEN.GENERATION (imgGen m) |>.wr SVY_SHAPE.PROFILE (s.sv PROFILE.PROFILE)
    |>.wr SVY_SHAPE.WAYS (s.sv INTERLEAVE.WAYS) |>.wr SVY_SHAPE.IG (s.sv INTERLEAVE.IG) |>.wr SVY_FMT.MINOR (bitsOf 0 8 (imgWord m 4))
    |>.wr SVY_FMT.MAJOR (bitsOf 8 8 (imgWord m 4)) |>.wr SVY_LIVE.COUNT 0
  let s := s.forEach [0, 1, 2, 3] (fun s i => s.wr (SVY_SDIG.DIGEST i) (d / 2 ^ (32 * i)))
  s |>.wr BED_SVYGEN.GENERATION (imgGen m) |>.wr BED_SHAPE.PROFILE (s.sv PROFILE.PROFILE) |>.wr BED_SHAPE.FACES s.enabledSet
    |>.wrB BED_SHAPE.TWIN (s.hasSec secTwin) |>.wr BED_SHAPE.ROLE (if s.hasSec secTwin then s.sv TWIN.ROLE else 0)

/-- The daily wear budget in MiB, from the dies fitted on the channels of enabled groups (R168). -/
def State.wearBudget (s : State) : Nat :=
  let dies := (((List.range 72).filter (fun n => s.groupOn (chanGroup n))).map (fun n => (s.targets n).length)).sum
  let gbit := if s.hasSec secNand then s.sv NAND.DIE_GBIT else 1000
  s.peRated * (dies * gbit * 125000000) / (s.sched 0x10 16 8 5 * 365 * 1048576)

/-- Word i of the SCHEDULER body as applied (R173, R175). -/
def State.schWord (s : State) (i : Nat) : Nat :=
  match i with
  | 0 => s.weight 3 + s.weight 4 * 2 ^ 8 + s.weight 5 * 2 ^ 16 + s.weight 6 * 2 ^ 24
  | 1 => s.weight 7
  | 2 => s.heatFull
  | 3 => s.dramLimitT + s.dieLimitT * 2 ^ 8 + s.heatSpan * 2 ^ 16
  | 4 => s.peRated + s.sched 0x10 16 8 5 * 2 ^ 16
  | _ => s.sched 0x14 0 16 16384

/-- ADM shows the budget and the scheduler's values as a load applies them (R168, R175); of a BUD above 32 bits its low 32 bits are held
and used (DESIGN CHOICE 162). -/
def State.schLoad (s : State) : State :=
  (s.wr ADM_WEAR_BUD.MIB s.wearBudget).forEach (List.range 6) (fun s i => s.wr (ADM_SCH.WORD i) (s.schWord i))

/-- Without a DYNCAP section no face has Dynamic Capacity: no grant and no extent stands (R63). -/
def State.dropDyncap (s : State) : State :=
  if s.hasSec secDyncap then s
  else ({ s with slb := { s.slb with grants := [] } }).forEach faces (fun s f => s.setPort f { s.port f with extents := [] })

/-- An image loads at a chip reset: it runs, the shadow is refreshed, and RWL fields lock (R70, R77). -/
def State.svyLoad (s : State) (m : SMap Word) (copy : Nat) : State :=
  let s := s.withImage m
  let s := { s with svy := { s.svy with loaded := true, shadow := true, live := false, pairDig := s.pairDigest m } }
  let s := { s with fwm := { s.fwm with svyEpoch := imgEpoch m } }
  let s := { s.dropDyncap with slb := { s.dropDyncap.slb with owned := true } }
  let s := (((s.showImage m copy).wr SEQ_STRAP.SHADOW 1).wr LGR_STATUS.NOPARAM 0).fltLoad.dramLoad
  let s := s.forEach faces (fun s f => s.wrB (HPT_CFG.ENABLE f) (s.svOn (FACES.ENABLE f)))
  let s := s.forEach (List.range 72) (fun s n => s.wr (NCH_IFCFG.VCCQ n) (s.sv NAND.VCCQ))
  let s := s.when (s.hasSec secTwin) (fun s => s.wr GAL_RSLV_RATE.SETTS (s.sv TWIN.RSLV_RATE))
  ((s.loadSectors (wpCount m)).twLoad).schLoad

/-- The codes of the instances that the boot ROM reads, in the order in which it reads them: the second instance of a copy only
where the first is rejected (R74, R627). -/
def State.bootCodes (s : State) : List Nat :=
  let c (i : Nat) : Nat := s.svyCheck (s.instImg i)
  let copy (k : Nat) : List Nat := if c (2 * k) = svyOk then [svyOk] else [c (2 * k), c (2 * k + 1)]
  copy 0 ++ copy 1

/-- RESULT after the boot ROM has read the copies: the check that the instance rejected last failed, or OK (R627; DESIGN
CHOICE 110 where several are rejected). -/
def State.bootResult (s : State) : Nat := (s.bootCodes.filter (fun r => r != svyOk)).getLastD svyOk

/-- The boot ROM reads the copies and loads one; a copy that fails is reported, and so is the check that failed (R76, R510, R627). -/
def State.bootSurvey (s : State) : Option Nat × State :=
  let a := (s.copyImg 0).isSome
  let b := (s.copyImg 1).isSome
  let c := s.bootCopy
  let s := ((s.wrB SVY_STATUS.A_VALID a).wrB SVY_STATUS.B_VALID b).wr SVY_STATUS.RESULT s.bootResult |>.raiseIf (!a || !b) 683
  match c with
  | some c => (some c.1, s.svyLoad c.2 c.1)
  | none => (none, s)

/-! ### Commands (R78 to R83, R573, R627) -/

/-- A command ends, with the mailbox command that asked for it; INSTALL and LIVE_LOAD report a failure (R346, R510). -/
def State.svyEnd (s : State) (res : Nat) (report : Bool) : State :=
  let s := ((s.wr SVY_STATUS.STATE 0).wr SVY_STATUS.RESULT res).raiseIf (report && res != svyOk) 683
  let f := s.svy.face - 1
  let told := s.svy.face != 0 && s.fwm.openCmds.contains (f, 0xC030)
  let s := { s with svy := { s.svy with live := false, cmd := 0, taken := [], face := 0 } }
  let s := s.when told (fun s => (s.closeCmd f 0xC030).vreply f 0xC030 0 [res % 16])
  s.forEach (faces.filter (fun f => (s.port f).bg == some 0xC030)) (fun s f => s.bgEndWith f 0xC030 0 (res % 16))

/-- A command begins: STATE reads VERIFYING, and the staged image is taken (R81 step 1). -/
def State.svyBegin (s : State) (cmd : Nat) : State :=
  ({ s with svy := { s.svy with cmd := cmd, live := cmd == 3, taken := s.svy.staging } }).wr SVY_STATUS.STATE 1

/-- SVY_VERIFY (R78). -/
def State.doSvyVerify (s : State) : State :=
  if !s.hubOn then s
  else if s.rd SVY_STATUS.STATE ≠ 0 then s.wr SVY_STATUS.RESULT svyBusy
  else s.svyBegin 1

/-- No copy has booted: recovery for want of a Survey (R572, R573). -/
def State.noSurvey (s : State) : Bool := s.fwm.recovery && s.on FWM_STATUS.NOSVY

/-- What the image taken must pass beyond R75 (R78, R79, R573). -/
def State.mayInstall (s : State) (live : Bool) : Nat :=
  let m := s.svy.taken
  let r := s.svyCheck m
  if r ≠ svyOk then r
  else if !s.noSurvey ∧ imgGen m ≤ s.rd SVY_GEN.GENERATION then svyRollback
  else if live ∧ (List.range 4).any (fun i => s.rd (SVY_SDIG.DIGEST i) != (s.structDigest m).toNat / 2 ^ (32 * i) % 2 ^ 32) then svyStruct
  else svyOk

/-- The instances that an installation writes: those of the copy that did not boot; with none booted all four (R78, R573). -/
def State.targetInsts (s : State) : List Nat :=
  if s.noSurvey then [0, 1, 2, 3] else if s.rd SVY_STATUS.BOOTED_COPY = 0 then [2, 3] else [0, 1]

/-- SVY_INSTALL and SVY_LIVE_LOAD: the command begins; LIVE_LOAD only in Restoring and Open (R78, R80). -/
def State.svyInstall (s : State) (live : Bool) : State :=
  if !s.hubOn then s
  else if s.rd SVY_STATUS.STATE ≠ 0 then (s.wr SVY_STATUS.RESULT svyBusy).raise 683
  else if live ∧ !s.serving then (s.wr SVY_STATUS.RESULT svyState).raise 683
  else s.svyBegin (if live then 3 else 2)

/-- The image taken has been checked: a VERIFY ends, an INSTALL or LIVE_LOAD that fails ends, and one that passes erases the copy
that was not booted, where its sectors let the Boot band writer in (R78, R81 steps 2 and 3, R232). -/
def State.svyVerified (s : State) : State :=
  if s.svy.cmd = 1 then s.svyEnd (s.svyCheck s.svy.taken) false
  else
    let r := s.mayInstall s.svy.live
    if r ≠ svyOk then s.svyEnd r true
    else (s.forEach s.targetInsts (fun s i =>
      let e := s.bootErase (i % 2) (bootArea (i / 2)).1
      if e.1 then s.setInst i [] else e.2)).wr SVY_STATUS.STATE 2

/-- The check of R81 step 2 takes less than a tick or two: it ends with the next tick (DESIGN CHOICE 111). -/
def State.svyTick (s : State) : State := s.when (s.hubOn && s.rd SVY_STATUS.STATE == 1) State.svyVerified

def State.doSvyInstall (s : State) : State := s.svyInstall false
def State.doSvyLive (s : State) : State := s.svyInstall true

/-- SVY_CLEAR (R78, R82). -/
def State.doSvyClear (s : State) : State :=
  if !s.hubOn then s
  else if s.rd SVY_STATUS.STATE ≠ 0 then s.wr SVY_STATUS.RESULT svyBusy
  else (({ s with svy := { s.svy with staging := [] } }).wr SVY_STAGE_ADDR.ADDR 0).wr SVY_STATUS.RESULT svyOk

/-- SVY_STAGE_DATA: the word at ADDR is written or read, and ADDR advances (R86). -/
def State.doStageSvy (s : State) (write : Bool) (w : Word) : State :=
  if !s.hubOn then s
  else
    let a := s.rd SVY_STAGE_ADDR.ADDR
    let s := s.wr SVY_STAGE_ADDR.ADDR (a + 1)
    if write then { s with svy := { s.svy with staging := SMap.put 0 (a * 4) w s.svy.staging } }
    else s.send (.regData (SMap.get 0 (a * 4) s.svy.staging))

/-- SURVEY_INSTALL_PROGRAMMED: the copy has been programmed and read back (R81); one copy that fails fails the command. The image
installed is the one that was verified (R81, R83). -/
def State.doInstalled (s : State) (ok0 ok36 : Bool) (reset : State → State) : State :=
  if s.rd SVY_STATUS.STATE ≠ 2 || !s.bootFree then s
  else
    let m := s.svy.taken.filter (fun p => decide (p.1 < imgLen s.svy.taken))
    let wrote (i : Nat) : Bool := s.bootWrote (i % 2) (bootArea (i / 2)).1 (if i % 2 = 0 then ok0 else ok36)
    let all := s.targetInsts.all wrote
    let may (i : Nat) : Bool := s.mayProgram (bootChan (i % 2)) 0 (s.bootAt (i % 2) (bootArea (i / 2)).1) true
    let s := s.forEach s.targetInsts (fun s i =>
      (s.bootProgram (bootArea (i / 2)).1 [(i % 2, if i % 2 = 0 then ok0 else ok36)]).when (may i) (fun s => s.setInst i (if wrote i then m else [])))
    if !all then s.svyEnd svyInstallFail true
    else if s.svy.live then s.wr SVY_STATUS.STATE 3
    else (s.svyEnd svyOk false).when s.fwm.recovery reset

/-- The live types (R61). -/
def liveSecs : List Nat := [0x40, 0x41, 0x42]

/-- A live load may be applied: in Restoring and Open, and while a save walks (R80, R204). -/
def State.mayApply (s : State) : Bool := s.serving || (s.chip == .save && s.rd HAUL_SAVE_STAT.STEP == 6)

/-- The live sections are replaced at once; windows that have ended by then roll before, so that new thresholds wait for the windows
behind this tick's (R81, R82). -/
def State.applyLive (s : State) : State :=
    let s := ((List.range 8).foldl State.rollDue s).dramRoll
    let m := s.instImg (if s.rd SVY_STATUS.BOOTED_COPY = 0 then 2 else 0)
    let isLive (k : Nat) : Bool := liveSecs.contains (k / 0x100000)
    let old := s.svy.run.filter (fun p => !isLive p.1)
    let new := (imgBodies m).filter (fun p => isLive p.1)
    let run := old.filter (fun p => decide (p.1 < 0x4000000)) ++ new ++ old.filter (fun p => decide (0x4000000 ≤ p.1))
    let has := s.svy.has.filter (fun t => !liveSecs.contains t) ++ (imgHas m).filter (fun t => liveSecs.contains t)
    let s := ({ s with svy := { s.svy with run := run, has := has } }).fltLive.schLoad
    let s := s |>.wr SVY_GEN.GENERATION (imgGen m) |>.wr BED_SVYGEN.GENERATION (imgGen m)
      |>.wr SVY_FMT.MINOR (bitsOf 0 8 (imgWord m 4)) |>.wr SVY_FMT.MAJOR (bitsOf 8 8 (imgWord m 4)) |>.addSat SVY_LIVE.COUNT 1 |>.wr SVY_LIVE.TICK (s.tick / 32)
    s.svyEnd svyOk false

/-- LIVE_LOAD_APPLY: at a tick that is a multiple of 32 all live sections are replaced at once (R81, R82, R204). -/
def State.doLiveApply (s : State) : State :=
  if s.rd SVY_STATUS.STATE = 3 ∧ s.tick % 32 = 0 ∧ s.mayApply then s.applyLive else s

/-- A save that starts at the step-4 tick of a LIVE_LOAD lets its sections be applied first (R82). -/
def State.svyClock (s : State) : State := s.when (s.svy.cmd == 4) State.applyLive

/-! ### Transfer Survey Image (R346) -/

/-- TRANSFER_SURVEY_DATA. -/
def State.doSurveyData (s : State) (f offset : Nat) (ws : List Word) : State :=
  s.mailMgmt f 0xC030 (fun s =>
    if offset % 4 ≠ 0 ∨ 4 * ws.length > 16368 ∨ 524288 < offset + 4 * ws.length then s.reply f 0xC030 .invalidInput []
    else
      let s := (s.wr SVY_STAGE_ADDR.ADDR (offset / 4)).forEach ws (fun s w => s.doStageSvy true w)
      s.vreply f 0xC030 0 [s.rd SVY_STATUS.RESULT])

/-- TRANSFER_SURVEY_VERIFY: its return gives the RESULT and is posted when the check has ended. -/
def State.doSurveyVerify (s : State) (f : Nat) : State :=
  s.mailMgmt f 0xC030 (fun s =>
    if s.rd SVY_STATUS.STATE ≠ 0 then s.doSvyVerify.vreply f 0xC030 0 [svyBusy]
    else
      let s := (s.openCmd f 0xC030).doSvyVerify
      { s with svy := { s.svy with face := f + 1 } })

/-- TRANSFER_SURVEY_CLEAR. -/
def State.doSurveyClear (s : State) (f : Nat) : State :=
  s.mailMgmt f 0xC030 (fun s =>
    let s := s.doSvyClear
    s.vreply f 0xC030 0 [s.rd SVY_STATUS.RESULT])

/-- INSTALL and LIVE_LOAD run in the background of a face until STATE is IDLE again; over the CCI only the start is answered
(DEDUCED 41). -/
def State.surveyRun (s : State) (f : Nat) (live : Bool) : State :=
  s.mailMgmt f 0xC030 (fun s =>
    if f = cciFace then (s.svyInstall live).reply f 0xC030 .backgroundStarted []
    else if (s.port f).bg.isSome then s.reply f 0xC030 .busy []
    else
      let busy := s.rd SVY_STATUS.STATE != 0
      let s := (s.bgStart f 0xC030).svyInstall live
      s.when ((busy || s.rd SVY_STATUS.STATE == 0) && (s.port f).bg == some 0xC030) (fun s => s.bgEndWith f 0xC030 0 (if busy then svyBusy else s.rd SVY_STATUS.RESULT)))

def State.doSurveyInstall (s : State) (f : Nat) : State := s.surveyRun f false
def State.doSurveyLive (s : State) (f : Nat) : State := s.surveyRun f true

end Sys2Proof.Machine
end

