-- ==== Sys2Proof/Machine/SlbFx.lean ====
section
/-! DEFINITION. The commands of the Slab State Array, its snapshot and its sweeps (chapter 04). -/

namespace Sys2Proof.Machine

/-- The end of an SLB command. -/
def State.slbRes (s : State) (r : Nat) : State := s.wr SLB_CMD_STATUS.RESULT r

def slbOk : Nat := 0
def slbBusy : Nat := 1
def slbState : Nat := 2
def slbCond : Nat := 3
def slbRange : Nat := 4

/-- A command acts on the slab in SLB_CMD_IDX; its read of the entry may find an SRAM error. While BUSY reads 1 the command before
it runs, and another one ends with BUSY, which RESULT then reads in place of the first one's (R119, R120, R122; DESIGN CHOICE 153). Before
READY a command is dropped with no RESULT (DESIGN CHOICE 154). -/
def State.slbCmd (s : State) (e : SramErr) (k : State → Nat → State) : State :=
  if !s.hubOn || !s.slb.ready then s
  else if s.on SLB_CMD_STATUS.BUSY then s.slbRes slbBusy
  else
    let i := s.rd SLB_CMD_IDX.INDEX
    (if slabCount ≤ i then s.slbRes slbRange else k (s.sramHit i e) i).wr SLB_CMD_STATUS.BUSY 1

/-- The bank's turn for a command, and a sweep, last for a time that the manual bounds but does not fix: whether it is done in a
given hub clock is a free value (R112, R119; DESIGN CHOICE 114). -/
def State.slbClock (s : State) : State :=
  let done (s : State) (f : Fld) : State :=
    if s.on f then
      let d := s.draw 2
      if d.1 = 0 then d.2.wr f 0 else d.2
    else s
  done (done s SLB_CMD_STATUS.BUSY) SLB_STATUS.SWEEP

/-- SLB_SET_HEAT (R113). -/
def State.doSetHeat (s : State) (e : SramErr) : State :=
  s.slbCmd e (fun s i => (s.setHeat i (s.rd SLB_CMD_ARG0.ARG % 256)).slbRes slbOk)

/-- SLB_SET_LOCK and SLB_CLR_LOCK: bits 13 to 19 of the argument; PIN and JOBL are not theirs, and MIG is not while a migration
or retirement runs. -/
def State.slbLock (s : State) (e : SramErr) (v : Bool) : State :=
  s.slbCmd e (fun s i =>
    let a := s.rd SLB_CMD_ARG0.ARG
    if bitAt 14 a || bitAt 15 a then s.slbRes slbRange
    else if bitAt 13 a && s.dch.mig.isSome then s.slbRes slbState
    else (s.forEach ([13, 16, 17, 18, 19].filter (fun b => bitAt b a)) (fun s b => s.setLock i b v)).slbRes slbOk)

def State.doSetLock (s : State) (e : SramErr) : State := s.slbLock e true
def State.doClrLock (s : State) (e : SramErr) : State := s.slbLock e false

/-- The chip is Waking, or Restoring with no face open (R120). -/
def State.slbFree (s : State) : Bool := s.chip == .waking || (s.chip == .restoring && !s.anyOpen)

/-- RSTATE changes with the counts of chapter 09; a slab that is no longer Fetching leaves the fetch table. -/
def State.moveRstate (s : State) (i v : Nat) : State :=
  let old := (s.slab i).rstate
  let s := s.when (s.visible i) (fun s =>
    let s := if old = 1 then s.wr RES_UNREST.SLABS (s.rd RES_UNREST.SLABS - 1)
      else if old = 2 then s.wr RES_FETCHING.SLABS (s.rd RES_FETCHING.SLABS - 1) else s
    if v = 1 then s.addSat RES_UNREST.SLABS 1 else if v = 2 then s.addSat RES_FETCHING.SLABS 1 else s)
  let s := if old = 2 ∧ v ≠ 2 then { s with res := { s.res with fetch := s.res.fetch.filter (fun f => f.slab != i) } } else s
  s.setRstate i v

/-- SLB_SET_RSTATE. -/
def State.doSetRstate (s : State) (e : SramErr) : State :=
  s.slbCmd e (fun s i =>
    let v := bitsOf 3 2 (s.rd SLB_CMD_ARG0.ARG)
    if v = 3 then s.slbRes slbRange
    else if !s.slbFree then s.slbRes slbState
    else ((s.moveRstate i v).slbRes slbOk).checkHome)

/-- SLB_LOAD_MASK (R103). -/
def State.doLoadMask (s : State) (e : SramErr) : State :=
  s.slbCmd e (fun s i =>
    if !s.slbFree then s.slbRes slbState
    else (s.setMask i (BitVec.ofNat 64 (s.rd SLB_CMD_ARG0.ARG + s.rd SLB_CMD_ARG1.ARG * 4294967296))).slbRes slbOk)

/-- The slab lies in the Dynamic Capacity pool (R322). -/
def State.inPool (s : State) (i : Nat) : Bool :=
  match s.slabBlock i with
  | none => false
  | some b => s.dcPool.contains b

/-- SLB_SET_OWNER (R114; slabs and faces that it does not name: DESIGN CHOICE 129). -/
def State.doSetOwner (s : State) (e : SramErr) : State :=
  s.slbCmd e (fun s i =>
    let v := s.rd SLB_CMD_ARG0.ARG % 8
    let o := (s.slab i).owner
    if v = o then s.slbRes slbOk
    else if s.inPool i && s.slabZero i && ((o == 7 && decide (v < 6) && s.faceOn v) || (decide (o < 6) && v == 7)) then
      (s.setOwner i v).slbRes slbOk
    else s.slbRes slbCond)

/-- SLB_SNAPSHOT: all 96 bits of an entry in one hub clock (R118, R123). -/
def State.doSnapshot (s : State) (idx : Nat) : State :=
  if !s.hubOn then s
  else
    let i := idx % 4194304
    let e := if slabCount ≤ i then SlabE.mk 0 0 else s.slab i
    let s := (s.wr SLB_SNAP_IDX.INDEX i).wr SLB_SNAP_IDX.VALID 1
    let n := if slabCount ≤ i then 0 else (s.slb.ift.filter (fun h => settSlab h.sett == i)).length
    s |>.wr SLB_SNAP0.MASK_LO e.mask.toNat |>.wr SLB_SNAP1.MASK_HI (e.mask.toNat / 4294967296) |>.wr SLB_SNAP2.WORD e.word.toNat
      |>.wr SLB_SNAP3.DIRTY (popCount 64 e.mask.toNat) |>.wr SLB_SNAP3.IN_HAUL n

/-- SLB_ECC_CLEAR. -/
def State.doEccClear (s : State) : State := if s.hubOn then s.wr SLB_ECC.CE_COUNT 0 else s

/-- HEAT_DECAY_SWEEP: at a tick that is a multiple of PERIOD a sweep runs, and the HEAT of every slab that is not cold falls by one
(R112). -/
def State.doSweep (s : State) : State :=
  if s.hubOn && s.slb.ready && s.on SLB_HEATCFG.ENABLE && decide (s.tick % Nat.max 1 (s.rd SLB_HEATCFG.PERIOD) = 0) then
    (s.forEach (s.slb.slabs.filter (fun p => decide (0 < p.2.heat))) (fun s p => s.setHeat p.1 (p.2.heat - 1))).wr SLB_STATUS.SWEEP 1
  else s

end Sys2Proof.Machine
end

