-- ==== Sys2Proof/Machine/RegView.lean ====
section
/-! DEFINITION. What a register shows where it is not simply what was stored: views of richer state, block by block, and
the value a read of a word returns (R4, R7, R583, R590). -/

namespace Sys2Proof.Machine

/-- Replace a field in a word when the word is the field's. -/
def Fld.show (f : Fld) (v a w : Nat) : Nat := if f.addr = a then withBits f.lo f.width v w else w

def b2n (b : Bool) : Nat := if b then 1 else 0

/-- Fields shown by a list of views. -/
def showAll (l : List (Fld × Nat)) (a w : Nat) : Nat := l.foldl (fun w x => x.1.show x.2 a w) w

/-! ### The Bedrock blocks -/

/-- The face that the per-face BED registers show: the host's own, else the one BED_FSEL names (R590). -/
def State.bedFace (s : State) (face : Option Nat) : Nat := face.getD (s.rd BED_FSEL.FACE)

/-- Word i of a feature word; faces 6 and 7 show zeros (R589). -/
def featWord (f i : Nat) (w : BitVec 128) : Nat := if f < 6 then w.toNat / 2 ^ (32 * i) % 2 ^ 32 else 0

def State.viewBed (s : State) (face : Option Nat) (a w : Nat) : Nat :=
  let f := s.bedFace face
  let feat := (s.nvFace f).feat
  showAll ([
    (BED_ID.STEP, s.fuse.step), (BED_SN_LO.SERIAL, s.fuse.serial), (BED_SN_HI.SERIAL, s.fuse.serial / 2 ^ 32),
    (BED_STATE.SINGLE, b2n (s.galMode == modeSingle)), (BED_TICK_LO.TICK, s.tick), (BED_TICK_HI.TICK, s.tick / 2 ^ 32),
    (BED_FACE.FACE, face.getD 7),
    (BED_FNEG.COUNT, if f < 6 then SMap.get 0 f s.bed.fneg else 0), (BED_FNEG.STORED, b2n (decide (f < 6) && feat != 0))] ++
    [0, 1, 2, 3].flatMap (fun i => [(BED_FSUP.SUPPORTED i, featWord f i (s.supported f)), (BED_FEN.ENABLED i, featWord f i feat)])) a w

/-- SVY: the fuses, and the staging word that the data register holds (R86). -/
def State.viewSvy (s : State) (a w : Nat) : Nat :=
  showAll [(SVY_FLOOR.BLOWN, s.fuse.blown),
    (SVY_STAGE_DATA.DATA, (SMap.get 0 (s.rd SVY_STAGE_ADDR.ADDR * 4) s.svy.staging).toNat)] a w

/-- FLT: the interrupt queue (R525, R528). -/
def State.viewFlt (s : State) (a w : Nat) : Nat :=
  let h := s.flt.irqq.headD (0, 0)
  showAll [(FLT_STATUS.IRQQ_COUNT, s.flt.irqq.length), (FLT_IRQQ.SOURCE, h.1), (FLT_IRQQ.ACTION, h.2),
    (FLT_IRQQ.VALID, b2n (!s.flt.irqq.isEmpty))] a w

/-- CLG: the records waiting, and the window (R541, R543). -/
def State.viewClg (s : State) (a w : Nat) : Nat :=
  if 0x30100 ≤ a ∧ a ≤ 0x301FC then s.clgWindow.getD ((a - 0x30100) / 4) 0
  else CLG_PEND.RECORDS.show (min s.clg.pend.length 255) a w

/-- SEQ: every reset pin reads asserted before a table is in force (R469); what is left of an OFF_TIMED delay (R481). -/
def State.viewSeq (s : State) (a w : Nat) : Nat :=
  let left := if s.seq.timed then s.rd SEQ_OFFDLY.MS - (s.tick - s.seq.timedTick) * 1000 / 32768 else 0
  let w := SEQ_OFFDLY.LEFT.show left a w
  if s.benchTable then w else SEQ_RST.ASSERTED.show 0xFFFF a w

/-- TWB: the levels of the pins, which idle high, and the causes (R546, R554, R563). -/
def State.viewTwb (s : State) (a w : Nat) : Nat :=
  let t := (a - 0x50000) / 0x1000
  let st := s.rd (TWB_STATUS.STATE t)
  let lvl (pin : Nat) : Nat :=
    if st = 0 then 0 else if st = twIdle ∨ st = twSleep then 1 else (Config.pinLevel (t * 2 + pin) s.tick).toNat
  let w := showAll [(TWB_STATUS.SDA t, lvl 0), (TWB_STATUS.SCL t, lvl 1)] a w
  if t = 0 then
    showAll [(TWB_STATUS.ALERT 0, b2n s.twb.alert),
      (TWB_ALRT_CAUSE.TOP, (lowestBit 0 7 (s.rd TWB_ALRT_CAUSE.CAUSE)).getD 7)] a w
  else showAll [(TWB_STATUS.ALERT t, if st = 0 then 0 else (Config.pinLevel (16 + t) s.tick).toNat)] a w

/-- How many islands are in one of some states. -/
def State.islCount (s : State) (p : Nat → Bool) : Nat := ((List.range 132).filter (fun n => p (s.isl n))).length

/-- CLK: the tick, what runs of the clocks, and the count of the islands; the scan clock's own count is a measurement
(R489, R490, R506). -/
def State.viewClk (s : State) (a w : Nat) : Nat :=
  if a = CLK_ISLSUM.ON.addr then
    showAll [(CLK_ISLSUM.ON, s.islCount (· == islOn)),
      (CLK_ISLSUM.MOVING, s.islCount (fun x => x == islWaking || x == islStopping || x == islRestarting))] a w
  else
    showAll [(CLK_STATUS.XTAL_OK, b2n (decide (0 < s.tick) && !s.on CLK_STATUS.TICK_RC)), (CLK_TICK_LO.TICK, s.tick),
      (CLK_TICK_HI.TICK, s.tick / 2 ^ 32),
      (CLK_RCCAL.COUNT, if s.tick < 32 then 0 else (Config.rcCount s.tick).toNat)] a w

/-- LGR: the excess of the dirty count over the ceiling (R151). -/
def State.viewLgr (s : State) (a w : Nat) : Nat := LGR_EXCESS.SETTS.show (s.rd ADM_DIRTY.SETTS - s.rd LGR_CEIL.SETTS) a w

/-! ### Admission, cipher, Gallery, restore and haul -/

/-- The ticks that the oldest of some waiting accesses has waited; saturates (R175, R278). -/
def State.oldest (s : State) (since : List Nat) : Nat := min 65535 ((since.map (fun t => s.tick - t)).foldl Nat.max 0)

/-- Entries of the Job engine's queue that wait for admission; a write that waits for the twin is none of them (R158, R175). -/
def State.jobWaiting (s : State) : Nat := (s.adm.jobq.filter (fun j => !j.twin)).length

def State.viewAdm (s : State) (a w : Nat) : Nat :=
  let since (p : Nat) : List Nat := ((s.port p).wbuf.filter (fun e => e.wait == .parked)).map (fun e => e.since)
  showAll ([
    (ADM_STATUS.PARKING, b2n (decide (0 < s.jobWaiting) || faces.any (fun p => decide (0 < s.fqCount p)))),
    (ADM_JFQ.COUNT, s.jobWaiting), (ADM_WEAR_ALLOW.MIB, s.wearAllow)] ++
    faces.flatMap (fun p => [(ADM_FQ.COUNT p, s.fqCount p), (ADM_FQ.AGE p, s.oldest (since p))])) a w

def State.viewCip (s : State) (a w : Nat) : Nat :=
  if a = CIP_ACTIVE.SEL.addr then
    CIP_ACTIVE.SEL.show ((List.range 32).foldl (fun m p => withBit p (s.slotState (2 * p + 1) == slActive) m) 0) a w
  else if 0xA0400 ≤ a ∧ a < 0xA0C00 ∧ (a - 0xA0400) % 0x20 = 0 then
    let k := (a - 0xA0400) / 0x20
    (CIP_SLST.REFS k).show (min 65535 (s.slotRefs k)) a w
  else w

def State.viewGal (s : State) (a w : Nat) : Nat :=
  showAll [(GAL_STATUS.ROLE, if s.hasSec secTwin then s.sv TWIN.ROLE else 0), (GAL_WINDOW.MSGS, s.gal.sent.length),
    (GAL_GQ.COUNT, min 512 s.galQueue), (GAL_GQ.HELD, b2n s.galFull),
    (GAL_EPOCH_LO.EPOCH, s.gal.epoch.toNat), (GAL_EPOCH_HI.EPOCH, s.gal.epoch.toNat / 2 ^ 32),
    (GAL_PEER.AGE, if s.gal.lastBeat = 0 then 65535 else min 65535 (s.tick - (s.gal.lastBeat - 1)))] a w

def State.viewRes (s : State) (a w : Nat) : Nat :=
  let since (p : Nat) : List Nat :=
    ((s.port p).wbuf.filter (fun e => e.wait == .fetch)).map (fun e => e.since) ++
      ((s.port p).reads.filter (fun e => e.wait == .fetch)).map (fun e => e.since)
  showAll (faces.flatMap (fun p => [(RES_FWAIT.WRITES p, s.fetchWaits p), (RES_FWAIT.AGE p, s.oldest (since p))])) a w

/-- HAUL_STATUS.MODE: save, stopped by ENABLE, overhang, haul or idle (R176, R205). -/
def State.haulMode (s : State) : Nat :=
  if s.chip = .save then 3
  else if !s.on HAUL_CTL.ENABLE then 4
  else if s.on LGR_STATUS.OVERHANG then 2
  else if s.slb.ift.isEmpty then 0 else 1

def State.viewHaul (s : State) (a w : Nat) : Nat :=
  showAll [(HAUL_STATUS.MODE, s.haulMode), (HAUL_STATUS.SUMP_DEST, b2n (s.hubOn && s.sumpDest))] a w

/-! ### Host ports -/

def State.logLen (s : State) (p l : Nat) : Nat := ((s.port p).logs.getD l EvLog.reset).recs.length

def State.viewHpt (s : State) (a w : Nat) : Nat :=
  let p := (a - 0x100000) / 0x10000
  let q := s.port p
  let granted := ((q.extents.filter (fun e => e.accepted)).map (fun e => e.pool.length)).sum
  showAll ([
    (HPT_STATUS.DEVLOAD p, s.devLoad p), (HPT_WBUF.ENTRIES p, q.wbuf.length),
    (HPT_EVLOG.INFO p, s.logLen p 0), (HPT_EVLOG.WARN p, s.logLen p 1), (HPT_EVLOG2.FAIL p, s.logLen p 2),
    (HPT_EVLOG2.FATAL p, s.logLen p 3), (HPT_DC.GRANTED p, granted), (HPT_DC.EXTENTS p, q.extents.length),
    (HPT_CAP.STATIC p, s.sv (FACES.STATIC_BLOCKS p)), (HPT_CAP.DC_MAX p, s.dcMax p)] ++
    [0, 1, 2, 3].flatMap (fun i => [(HPT_FEAT.ENABLED p i, featWord p i (s.nvFace p).feat),
      (HPT_FSUP.SUPPORTED p i, featWord p i (s.supported p))])) a w

/-! ### Stockpile -/

/-- Spare blocks on a group's poorest channel (R255). -/
def State.spareMin (s : State) (g : Nat) : Nat := ((List.range 9).map (fun d => s.spareCount (9 * g + d))).foldl Nat.min 65535

/-- Sump records of a group that are still needed: those a map entry names, and those of a save not released (R219, R276). -/
def State.sumpNeeded (s : State) (g : Nat) : List Nat :=
  (s.slb.lmap.filter (fun p => locKind p.2 == 2 && locGroup p.2 == g)).map (fun p => locNum p.2) ++
  (s.saves.filter (fun v => !v.released)).flatMap (fun v => v.runs.flatMap (fun r =>
    (((List.range r.count).map (fun i => s.runPlace r i)).filter (fun (x : Nat × Nat) => x.1 == g)).map (fun x => x.2)))

/-- The oldest Sump record still needed: the first in ring order from the head; the head when none is (R219, R255). -/
def State.sumpTail (s : State) (g : Nat) : Nat :=
  let h := SMap.get 0 g s.stk.head
  let n := s.sumpRecords g
  if n = 0 then 0
  else
    let ds := (s.sumpNeeded g).map (fun r => (r + n - h) % n)
    match ds with
    | [] => h
    | d :: ds => (h + ds.foldl Nat.min d) % n

/-- Valid setts in a group's Stockpile (R255). -/
def State.stockValid (s : State) (g : Nat) : Nat :=
  (s.slb.lmap.filter (fun p => locKind p.2 == 1 && locGroup p.2 == g)).length

/-- A byte of a signed offset. -/
def offByte (v : Int) : Nat := (v % 256).toNat

/-- A word of a block's BIT entry (R230). -/
def State.bitWord (s : State) (n t b i : Nat) : Nat :=
  let e := s.blk n t b
  let f := s.blkFirst n t b
  let lv (j : Nat) : Nat := offByte (e.lv.getD j 0)
  match i with
  | 0 => s.blockState n t b + e.cause % 16 * 16 + b2n f.1 * 256
      + (if s.blockServes n t b then s.blockLode n t b % 65536 else 65535) * 65536
  | 1 => s.blockErases n t b % 2 ^ 24
  | 2 => f.2.1 % 2 ^ 32
  | 3 => f.2.2 % 2 ^ 32
  | 4 => f.2.2 / 2 ^ 32 % 65536 + min 65535 (e.reads / 1000) * 65536
  | 5 => lv 0 + lv 1 * 2 ^ 8 + lv 2 * 2 ^ 16 + lv 3 * 2 ^ 24
  | 6 => lv 4 + lv 5 * 2 ^ 8 + lv 6 * 2 ^ 16 + lv 7 * 2 ^ 24
  | 7 => min 65535 e.cwmax + min 65535 e.retries * 65536
  | 8 => if e.slot = 0 then 0x3FF else (e.slot - 1) % 1024
  | _ => 0

def State.viewStk (s : State) (a w : Nat) : Nat :=
  if 0x480000 ≤ a ∧ a < 0x680000 then
    let b := (a - 0x480000) / 64
    if b < s.dieBlocks then s.bitWord (s.rd STK_BIW_SEL.CHANNEL) (s.rd STK_BIW_SEL.TARGET) b ((a - 0x480000) % 64 / 4) else 0
  else if a = STK_ERASE_MAX.ERASES.addr then STK_ERASE_MAX.ERASES.show s.eraseMax a w
  else if a = STK_ERASE_MEAN.ERASES.addr then STK_ERASE_MEAN.ERASES.show s.eraseMean a w
  else if a = STK_SUMP_FREE.RECORDS.addr then STK_SUMP_FREE.RECORDS.show s.sumpFree a w
  else if 0x400040 ≤ a ∧ a < 0x4000C0 then
    let g := (a - 0x400040) / 16
    match (a - 0x400040) % 16 / 4 with
    | 0 => showAll [(STK_GRPA.FREE_LODES g, s.erasedLodes g), (STK_GRPA.SPARE_MIN g, s.spareMin g),
        (STK_GRPA.STATE g, if !s.groupOn g then 2 else b2n (bitAt g s.stk.degraded))] a w
    | 1 => (STK_GRPB.SUMP_HEAD g).show (SMap.get 0 g s.stk.head) a w
    | 2 => (STK_GRPC.SUMP_TAIL g).show (s.sumpTail g) a w
    | _ => (STK_GRPD.VALID g).show (s.stockValid g) a w
  else
    showAll [(STK_STATUS.FOLDING, b2n s.stk.folding), (STK_STATUS.REWORKING, b2n s.stk.reworking),
      (STK_JRNL.PAGE, s.stk.jpage % 65536),
      (STK_JRNL.PENDING, min 65535 s.stk.jpend.length)] a w

/-! ### Slab table and job windows -/

/-- A word of the in-flight window (R125; which slot shows an entry: DESIGN CHOICE 128). -/
def State.iftWord (s : State) (k i : Nat) : Nat :=
  match s.slb.ift[k]? with
  | none => 0
  | some h =>
    match i with
    | 0 => h.sett % 2 ^ 28 + b2n h.rewr * 2 ^ 28 + b2n h.sump * 2 ^ 29 + 2 ^ 31
    | 1 => h.key % 64 + h.stage % 4 * 256 + min 65535 (s.tick - h.since) * 65536
    | 2 => h.newloc % 2 ^ 32
    | _ => 0

/-- A word of the slab window (R117). -/
def State.slabWinWord (s : State) (a : Nat) : Nat :=
  let k := min 8 (s.rd SLB_WBASE.BASE) * 262144 + (a - 0xC00000) / 16
  match (a - 0xC00000) % 16 / 4 with
  | 0 => (s.slab k).mask.toNat % 2 ^ 32
  | 1 => (s.slab k).mask.toNat / 2 ^ 32
  | 2 => (s.slab k).word.toNat
  | _ => 0

def State.viewSlb (s : State) (a w : Nat) : Nat :=
  if 0x810000 ≤ a ∧ a < 0x830000 then s.iftWord ((a - 0x810000) / 16) ((a - 0x810000) % 16 / 4)
  else if 0xC00000 ≤ a ∧ a < 0x1000000 then s.slabWinWord a
  else showAll [(SLB_STATUS.READY, b2n s.slb.ready), (SLB_IFT.COUNT, s.slb.ift.length)] a w

/-- A word of a ring's context (R390). -/
def State.ctxWord (s : State) (r i : Nat) : Nat :=
  (s.ring r).ctxWord ((s.ringFace r).getD 7) (s.ringJobs r).length (s.job.cache.contains r) i

def State.viewJob (s : State) (a w : Nat) : Nat :=
  if a < 0x1200000 then
    let c := s.ring ((a - 0x1000000) / 8)
    if a % 8 = 0 then c.sqTail % 65536 else c.cqHead % 65536
  else if 0x1300000 ≤ a then
    s.ctxWord (s.rd JOB_WBASE.BASE * 8192 + (a - 0x1300000) / 128) ((a - 0x1300000) % 128 / 4)
  else
    showAll ([
      (JOB_CACHE.USED, s.job.cache.length), (JOB_CACHE.BUSY, (s.job.cache.filter s.ringBusy).length),
      (JOB_PEND.RINGS, (s.job.rings.filter (fun p => p.2.pend)).length), (JOB_RUN.JOBS, s.job.jobs.length),
      (JOB_PINNED.SLABS, s.pinned), (JOB_PINREC.USED, s.job.pins.length)] ++
      faces.map (fun f => (JOB_FACE.ENABLED f,
        (s.job.rings.filter (fun p => p.2.st != rgDisabled && decide (s.ringFace p.1 = some f))).length))) a w

/-! ### Reads -/

/-- The word at an address as a reader sees it: a host on its face, or none for the cluster and the BMC (R583, R590). -/
def State.regRead (s : State) (face : Option Nat) (a : Nat) : Word :=
  let a := a / 4 * 4
  let w := (s.word a).toNat
  BitVec.ofNat 32 (match a / 0x10000 with
    | 0 => s.viewBed face a w
    | 1 => s.viewSvy a w
    | 2 => s.viewFlt a w
    | 3 => s.viewClg a w
    | 4 => s.viewSeq a w
    | 5 => s.viewTwb a w
    | 6 => s.viewClk a w
    | 7 => FWM_EPOCH.BLOWN.show s.fuse.blown a w
    | 8 => s.viewLgr a w
    | 9 => s.viewAdm a w
    | 0xA => s.viewCip a w
    | 0xB => s.viewGal a w
    | 0xC => s.viewRes a w
    | 0xD => s.viewHaul a w
    | _ =>
      if 0x100000 ≤ a ∧ a < 0x160000 then s.viewHpt a w
      else if 0x400000 ≤ a ∧ a < 0x800000 then s.viewStk a w
      else if 0x800000 ≤ a ∧ a < 0x1000000 then s.viewSlb a w
      else if 0x1000000 ≤ a ∧ a < 0x1400000 then s.viewJob a w
      else w)

/-- A read of HPT_WBUF restarts PEAK from ENTRIES (R351). -/
def State.peakRead (s : State) (a : Nat) : State :=
  match faces.find? (fun p => (HPT_WBUF.PEAK p).addr == a / 4 * 4) with
  | some p => s.wr (HPT_WBUF.PEAK p) (s.port p).wbuf.length
  | none => s

/-- A read of `n` bytes, 4 or fewer: the bytes of the word that holds the addressed byte, from that byte upward, at the low end of
the result; bytes beyond the word read 0 (R4). -/
def State.readBytes (s : State) (face : Option Nat) (a n : Nat) : Nat :=
  (s.regRead face a).toNat / 2 ^ (8 * (a % 4)) % 2 ^ (8 * n)

end Sys2Proof.Machine
end

