-- ==== Sys2Proof/Machine/RegFx.lean ====
section
/-! DEFINITION. Writes of registers: the access codes, ranges and islands that they meet, the writes that start something, and
what a host may reach (R4, R7, R583 to R588, R628, R629). -/

namespace Sys2Proof.Machine

/-! ### Plain fields (R7, R629) -/

/-- The value that a write stores in a field (R629). -/
def Lim.apply (l : Lim) (old v : Nat) : Nat :=
  match l with
  | .any => v
  | .clamp lo hi => Nat.max lo (Nat.min hi v)
  | .enum lo hi => if lo ≤ v ∧ v ≤ hi then v else old
  | .names l => if l.contains v then v else old

/-- A write of a word meets one field of it (R7). -/
def State.writeField (s : State) (a v : Nat) (r : FRow) : State :=
  let f : Fld := ⟨a, r.lo, r.width⟩
  let x := bitsOf r.lo r.width v
  match r.acc with
  | .rw => s.wr f (r.lim.apply (s.rd f) x)
  | .rws => s.wr f (r.lim.apply (s.rd f) x)
  | .rwl => if s.svy.loaded then s else s.wr f (r.lim.apply (s.rd f) x)
  | .w1c => s.wr f (s.rd f - Nat.land (s.rd f) x)
  | .ro => s
  | .wo => s
  | .live => s

/-- The island of a CLK_ISL word. -/
def islOfAddr (a : Nat) : Option Nat := if 0x60100 ≤ a ∧ a < 0x60310 then some ((a - 0x60100) / 4) else none

/-- The fields of a word that a write can meet: MODE only of cipher pairs and Restore (R495). -/
def writable (a : Nat) : List FRow :=
  match islOfAddr a with
  | some n => (fieldsAt a).filter (fun r => r.lo != 4 || (decide (116 ≤ n) && decide (n < 128)) || n == islRes)
  | none => fieldsAt a

/-- A write of RES_WAIT that does not leave LOW below HIGH is ignored (R278, R629). -/
def breaksWait (a v : Nat) : Bool :=
  a == RES_WAIT.HIGH.addr && decide (Nat.max 1 (bitsOf 0 12 v) ≤ bitsOf 16 12 v)

/-- A write of HPT_CFG.ENABLE for a disabled face is ignored (R351). -/
def State.enableShut (s : State) (a : Nat) (r : FRow) : Bool :=
  r.lo == 0 && faces.any (fun f => (HPT_CFG.ENABLE f).addr == a && !s.faceOn f)

/-- The plain effect of a write on a word's fields. -/
def State.writePlain (s : State) (a v : Nat) : State :=
  if breaksWait a v then s else s.forEach ((writable a).filter (fun r => !s.enableShut a r)) (fun s r => s.writeField a v r)

/-! ### Islands (R588) -/

/-- The islands in whose retention cells a register lies. -/
def islandsOf (a : Nat) : List Nat :=
  if 0x100000 ≤ a ∧ a < 0x160000 then [islPort ((a - 0x100000) / 0x10000)]
  else if 0x200000 ≤ a ∧ a < 0x290000 then [islDram ((a - 0x200000) / 0x4000)]
  else if 0x300000 ≤ a ∧ a < 0x390000 then [islNand ((a - 0x300000) / 0x2000)]
  else match a / 0x10000 with
    | 0xB => [114, 115]
    | 0xC => [islRes]
    | 0xD => [islHaul]
    | _ => if 0x1200000 ≤ a ∧ a < 0x1400000 then [islJob] else []

/-- A write-only field of this word takes effect: its island is ON, or it lies outside the islands. The Gallery block runs while
either link's island does, and Restore in AUTO wakes for the command (R495, R588; DEDUCED 42). -/
def State.woLive (s : State) (a : Nat) : Bool :=
  let l := islandsOf a
  l.isEmpty || l.any (fun n => s.isl n == islOn)
    || (l == [islRes] && s.hubOn && s.isl islRes == islOff && s.rd (CLK_ISL.MODE islRes) != 2)

/-- A write of a write-only field is carried out, or dropped and counted (R588). -/
def State.woGate (s : State) (a : Nat) (k : State → State) : State :=
  if s.woLive a then k s
  else if s.chip = .off then s
  else (s.addSat BED_DROP.COUNT 1).wr BED_DROP_ADDR.ADDR (a / 4)

/-! ### Writes that start something -/

/-- SMBALERT# is released when no enabled cause is left (R553). -/
def State.updAlert (s : State) : State :=
  if Nat.land (s.rd TWB_ALRT_CAUSE.CAUSE) (s.rd TWB_ALRT_EN.EN) = 0 then { s with twb := { s.twb with alert := false } } else s

/-- FLT_ERR.PIN is cleared, except in Hold (R524). -/
def State.clearPin (s : State) (v : Nat) : State :=
  if bitAt 0 v && s.chip != .hold then (s.wr FLT_ERR.PIN 0).updErr else s

/-- A command code of a word: SEQ_CMD, by the cluster or the BMC (R488). -/
def State.seqCmd (s : State) (v : Nat) (bmc : Bool) : State :=
  match bitsOf 0 3 v with
  | 1 => s.doSeqOn bmc
  | 2 => s.doSeqOff bmc
  | 3 => s.doSeqOffTimed bmc
  | 4 => s.doSeqClear bmc
  | 5 => s.doSeqPulse (bitsOf 8 4 v)
  | _ => s

/-- FLT_CMD: an INJECT of the BMC is ignored (R528, R549). -/
def State.fltCmd (s : State) (v : Nat) (bmc : Bool) : State :=
  match bitsOf 0 2 v with
  | 1 => s.doFltReset
  | 2 => if bmc then s else s.doInjectRaise (bitsOf 16 10 v)
  | _ => s

def State.slbCmdWord (s : State) (v : Nat) : State :=
  match bitsOf 0 4 v with
  | 1 => s.doSetHeat .none
  | 2 => s.doSetLock .none
  | 3 => s.doClrLock .none
  | 4 => s.doSetRstate .none
  | 5 => s.doLoadMask .none
  | 6 => s.doSetOwner .none
  | _ => s

def State.cipCmdWord (s : State) (v : Nat) : State :=
  match bitsOf 0 4 v with
  | 1 => s.doGenerate
  | 2 => s.doActivate
  | 3 => s.doZeroize
  | 4 => s.doZeroizePair
  | 5 => s.doLoadTx
  | 6 => s.doReleaseTx
  | 7 => s.doKat
  | _ => s

def State.svyCmd (s : State) (v : Nat) : State :=
  match bitsOf 0 3 v with
  | 1 => s.doSvyVerify
  | 2 => s.doSvyInstall
  | 3 => s.doSvyLive
  | 4 => s.doSvyClear
  | _ => s

def State.migCmd (s : State) (c v : Nat) : State :=
  match bitsOf 0 2 v with
  | 1 => s.doMigStart c (true, true)
  | 2 => s.doMigRetire c (true, true)
  | 3 => s.doMigAbort c
  | _ => s

def State.resCmd (s : State) (v : Nat) : State :=
  match bitsOf 0 2 v with
  | 2 => s.doResOpen
  | 3 => s.doResWarm
  | _ => s

def State.saveCmd (s : State) (v : Nat) : State :=
  match bitsOf 0 2 v with
  | 1 => s.doSaveCmd false
  | 2 => s.doSaveCmd true
  | _ => s

def State.clgCmd (s : State) (v : Nat) : State :=
  match bitsOf 0 2 v with
  | 1 => s.doCommitCadence
  | 2 => s.doCommitPending
  | _ => s

def State.fwmCmd (s : State) (v : Nat) : State :=
  match bitsOf 0 3 v with
  | 4 => s.doActivateNow
  | 5 => s.doFwAbort
  | 6 => s.doBlow
  | _ => s

/-- What a write of a word starts in the Bedrock blocks. -/
def State.startLow (s : State) (a v : Nat) (bmc : Bool) : State :=
  if a = BED_DENY.CLEAR.addr then s.when (bitAt 31 v) (fun s => s.wr BED_DENY.COUNT 0)
  else if a = BED_DROP.CLEAR.addr then s.when (bitAt 31 v) (fun s => s.wr BED_DROP.COUNT 0)
  else if a = SVY_STAGE_DATA.DATA.addr then s.doStageSvy true (BitVec.ofNat 32 v)
  else if a = SVY_CMD.CMD.addr then s.svyCmd v
  else if a = FLT_FFC.VALID.addr then s.when (bitAt 31 v) State.doFfcClear
  else if a = FLT_ERR.PIN.addr then s.clearPin v
  else if a = FLT_CMD.OP.addr then s.fltCmd v bmc
  else if a = FLT_IRQQ_POP.POP.addr then s.when (bitAt 0 v) State.doIrqPop
  else if a = CLG_CMD.OP.addr then s.clgCmd v
  else if a = CLG_CUR.SEQ.addr then s.doCurFetch v
  else if a = SEQ_CMD.OP.addr then s.seqCmd v bmc
  else if 0x50000 ≤ a ∧ a < 0x58000 ∧ a % 0x1000 = 8 then s.when (bitAt 31 v) (fun s => s.doTwGo ((a - 0x50000) / 0x1000))
  else if a = TWB_ALRT_CAUSE.CAUSE.addr ∨ a = TWB_ALRT_EN.EN.addr then s.updAlert
  else if a = FWM_CMD.OP.addr then s.fwmCmd v
  else if a = FWM_WDT_KICK.KEY.addr then s.doKick (BitVec.ofNat 32 v)
  else if a = LGR_PACK_CTL.REMOVE_A.addr then s.packWrite v
  else s

/-- What a write of a word starts in the blocks of the hub and of the islands. -/
def State.startHigh (s : State) (a v : Nat) : State :=
  if a = ADM_FQCFG.LOW_WATER.addr ∨ a = RES_WAIT.HIGH.addr then s.forEach faces (fun s p => s.updCredits p)
  else if a = CIP_CMD.OP.addr then s.cipCmdWord v
  else if 0xA0020 ≤ a ∧ a < 0xA0040 then
    { s with cip := { s.cip with keyin := SMap.put 0 ((a - 0xA0020) / 4) (BitVec.ofNat 32 v) s.cip.keyin } }
  else if a = GAL_TAKEOVER.KEY.addr then s.woGate a (fun s => s.doTakeover (BitVec.ofNat 32 v))
  else if a = RES_CMD.OP.addr then s.woGate a (fun s => s.resCmd v)
  else if a = HAUL_SAVE_CMD.OP.addr then s.woGate a (fun s => s.saveCmd v)
  else if a = SLB_ECC.CLEAR.addr then s.when (bitAt 31 v) State.doEccClear
  else if a = SLB_SNAP_IDX.INDEX.addr then s.doSnapshot v
  else if a = SLB_CMD.OP.addr then s.slbCmdWord v
  else if 0x200000 ≤ a ∧ a < 0x290000 ∧ (a - 0x200000) % 0x4000 = 0x80 then
    s.woGate a (fun s => s.migCmd ((a - 0x200000) / 0x4000) v)
  else if 0x300000 ≤ a ∧ a < 0x390000 ∧ (a - 0x300000) % 0x2000 = 8 then
    s.woGate a (fun s => s.when (bitAt 0 v) (fun s => s.doNchApply ((a - 0x300000) / 0x2000)))
  else if 0x300000 ≤ a ∧ a < 0x390000 ∧ (a - 0x300000) % 0x2000 = 0x28 then
    s.woGate a (fun s => s.when (bitAt 31 v) (fun s => s.doCwmaxClear ((a - 0x300000) / 0x2000)))
  else if 0x1000000 ≤ a ∧ a < 0x1200000 then s.addWrap JOB_DB_IGN.COUNT 1
  else s

/-- Words whose whole effect is what the write starts. -/
def startOnly (a : Nat) : Bool :=
  a == SVY_STAGE_DATA.DATA.addr || a == FLT_FFC.VALID.addr || a == FLT_ERR.PIN.addr || a == LGR_PACK_CTL.REMOVE_A.addr
    || a == SLB_SNAP_IDX.INDEX.addr || a == CLG_CUR.SEQ.addr

/-- An aligned 32-bit write by the Foreman cluster or the BMC (R4, R7). The fields of the word take effect by their access codes
even where its command field names no operation, so that DCH_MIG_CTL.RANK is stored (R628; DESIGN CHOICE 108). -/
def State.regWrite (s : State) (a v : Nat) (bmc : Bool) : State :=
  let s := if startOnly a then s else (s.writePlain a v).cfgWritten a
  if a < 0x90000 then s.startLow a v bmc else s.startHigh a v

/-! ### Hosts (R586, R587) -/

/-- A denied access counts, with its face and address (R587). -/
def State.deny (s : State) (p a : Nat) (write : Bool) : State :=
  s.addSat BED_DENY.COUNT 1 |>.wr BED_DENY.FACE p |>.wr BED_DENY_ADDR.ADDR (a / 4) |>.wrB BED_DENY_ADDR.WRITE write

/-- An address that a host reaches on its face, doorbells apart (R586). -/
def hostReach (p a : Nat) : Bool :=
  decide (a < 0x70) || (decide (0x100000 + p * 0x10000 ≤ a) && decide (a < 0x110000 + p * 0x10000))

def isDoorbell (a : Nat) : Bool := decide (0x1000000 ≤ a) && decide (a < 0x1200000)

/-- BAR0 of a face answers while its port's link is up (R585). -/
def State.barLive (s : State) (p a : Nat) : Bool := decide (p < 6) && s.on (HPT_STATUS.LINK_UP p) && decide (a < 0x4000000)

/-- An aligned 32-bit write by a host: a doorbell, the commit of its HDM decoder, or nothing (R356, R586; entry 6). -/
def State.hostWrite (s : State) (p a v : Nat) : State :=
  if isDoorbell a then
    (if a % 8 = 0 then s.doSqTail p ((a - 0x1000000) / 8) (v % 65536) else s.doCqHead p ((a - 0x1000000) / 8) (v % 65536))
  else if hostReach p a then
    (if a = 0x100000 + p * 0x10000 + Config.hdmControl ∧ 0x1000 ≤ Config.hdmControl then s.setPort p { s.port p with hdm := bitAt 9 v } else s)
  else s.deny p a true

/-- One access of a write of 4 bytes or fewer: sub-word and unaligned writes are ignored, but a host's is still denied where
it is denied (R4, R587). -/
def State.writeOne (s : State) (who : Sender) (a bytes v : Nat) : State :=
  let whole := bytes == 4 && a % 4 == 0
  match who with
  | .foreman => if whole && s.hubOn then s.regWrite a v false else s
  | .host p =>
    if !s.barLive p a then s
    else if whole then s.hostWrite p a v
    else if hostReach p a || isDoorbell a then s else s.deny p a true

/-- REGISTER_WRITE: a 64-bit write is two 32-bit writes, the lower address first (R4). -/
def State.doRegisterWrite (s : State) (who : Sender) (a bytes : Nat) (data : BitVec 64) : State :=
  let v := data.toNat
  if bytes = 8 then (s.writeOne who a 4 (v % 2 ^ 32)).writeOne who (a + 4) 4 (v / 2 ^ 32)
  else if bytes = 0 ∨ 8 < bytes then s
  else s.writeOne who a bytes (v % 2 ^ 32)

/-- A host may read this address: its own ranges, and the doorbells of its rings (R353, R586). -/
def State.hostReads (s : State) (p a : Nat) : Bool :=
  hostReach p a || (isDoorbell a && s.ringFace ((a - 0x1000000) / 8) == some p && s.feature p featRings)

/-- An address in a region of a port block that CXL 3.1 lays out: component, device-status and mailbox registers, and the payload (R350). -/
def cxlRegion (p a : Nat) : Bool :=
  let o := a - (0x100000 + p * 0x10000)
  decide (0x100000 + p * 0x10000 ≤ a) && (decide (0x1000 ≤ o ∧ o < 0x2000) || decide (0x8000 ≤ o ∧ o < 0xC820))

/-- One read of 4 bytes or fewer by a host: what its ranges give, or 0 and a count where the read is denied (R4, R587). What the regions of
CXL 3.1 hold the manual does not say: free values (R350; DESIGN CHOICE 171). -/
def State.hostRead (s : State) (p a bytes : Nat) : State × Nat :=
  if !s.hostReads p a then (s.deny p a false, 0)
  else if cxlRegion p a then
    let d := s.draw (2 ^ (8 * bytes))
    (d.2, d.1)
  else (s.peakRead a, s.readBytes (some p) a bytes)

/-- DENIED_HOST_ACCESS: a BAR0 access of a host. A read of 8 bytes is two of 4, the lower address first (R4); a denied read
returns 0 (R587), and a refused doorbell write counts in JOB_DB_IGN. -/
def State.doDeniedHostAccess (s : State) (p a : Nat) (write : Bool) (bytes : Nat) (data : BitVec 64) : State :=
  if !s.barLive p a ∨ bytes = 0 ∨ 8 < bytes then s
  else if write then s.doRegisterWrite (.host p) a bytes data
  else if bytes = 8 then
    let lo := s.hostRead p a 4
    let hi := lo.1.hostRead p (a + 4) 4
    hi.1.send (.barData p (BitVec.ofNat 64 (lo.2 + hi.2 * 2 ^ 32)))
  else
    let r := s.hostRead p a (min bytes 4)
    r.1.send (.barData p (BitVec.ofNat 64 r.2))

/-- BED_DENY_CLEAR and BED_DROP_CLEAR (R589). -/
def State.doBedDenyClear (s : State) : State := if s.chip = .off then s else s.wr BED_DENY.COUNT 0
def State.doBedDropClear (s : State) : State := if s.chip = .off then s else s.wr BED_DROP.COUNT 0

end Sys2Proof.Machine
end

