-- ==== Sys2Proof/Machine/Tw0Fx.lean ====
section
/-! DEFINITION. TW0 as the BMC's target: command codes, register access, MCTP packets and alerts (R547 to R554). -/

namespace Sys2Proof.Machine

/-- TW0 has power (R598). -/
def State.tw0Live (s : State) : Bool := s.chip != .off

/-- A valid START reached TW0: it is awake, or asleep again at once in Bedrock, and no timeout stands (R551, R552). -/
def State.tw0Start (s : State) : State :=
  (s.setTw 0 { s.tw 0 with timeouts := 0 }).wr (TWB_STATUS.STATE 0) (if (s.tw 0).cur.isSome then twBusy else if s.chip = .bedrock then twSleep else twIdle)

/-- A write without a valid PEC is refused while PEC_REQ is 1 (R548). -/
def State.pecRefused (s : State) (pec : PecIn) : Bool := s.pecReq && pec != .good

def State.pecFail (s : State) : State := (s.addSat TWB_T0.PEC_FAIL 1).raise 659

/-- A TW0 write command: its effect, unless its PEC fails. -/
def State.tw0Write (s : State) (pec : PecIn) (k : State → State) : State :=
  if !s.tw0Live then s else if s.pecRefused pec then s.tw0Start.pecFail else k s.tw0Start

/-- The cluster takes MCTP packets: it runs firmware, or the boot ROM is in recovery (R550, R572). -/
def State.mctpTakes (s : State) : Bool := s.hubOn && (s.fwm.running || s.fwm.recovery) && decide (s.twb.mctp < 16)

/-- TW0_MCTP: one packet, or a NACK of the command byte (R548, R550). What the packet's message asks for is a command of its own. -/
def State.doTw0Mctp (s : State) (_bytes : List Byte) (pec : PecIn) : State :=
  if !s.tw0Live then s
  else if !s.mctpTakes then s.tw0Start.send .tw0Nack
  else s.tw0Write pec (fun s => { s with twb := { s.twb with mctp := s.twb.mctp + 1 } })

/-- TW0_REG_ADDR: a multiple of 4 (R548); the two lowest bits are not held (DEDUCED 44). -/
def State.doTw0RegAddr (s : State) (a : Nat) (pec : PecIn) : State := s.tw0Write pec (fun s => s.wr TWB_REGADDR.ADDR (a / 4))

def State.regAddr (s : State) : Nat := s.rd TWB_REGADDR.ADDR * 4
def State.nextAddr (s : State) : State := s.addWrap TWB_REGADDR.ADDR 1

/-- Registers that the BMC reads and writes by their access codes (R549). -/
def bmcWrites (a : Nat) : Bool :=
  [0x40000, 0x40004, 0x40008, 0x4000C, 0x4001C, 0x40020, 0x40024, 0x40028, 0x4002C, 0x40030,
    0x20000, 0x20004, 0x20008, 0x2000C, 0x20010, 0x2001C].contains a ||
    (decide (0x50000 ≤ a) && decide (a < 0x51000) && !(fieldsAt a).isEmpty)

/-- Registers that the BMC only reads (R549). -/
def bmcReads (a : Nat) : Bool :=
  bmcWrites a || (decide (a < 0x80) && !(fieldsAt a).isEmpty) ||
    [0x80000, 0x80004, 0x80040, 0x80044, 0x80050, 0x80054].contains a

/-- TW0_REG_DATA_WRITE (R548, R549). A write to a register that the table gives only for reading is refused too (DEDUCED 44). -/
def State.doTw0RegDataWrite (s : State) (data : Word) (pec : PecIn) : State :=
  s.tw0Write pec (fun s =>
    let a := s.regAddr
    let s := s.nextAddr
    if bmcWrites a then s.regWrite a data.toNat true else s.addSat TWB_T0.REFUSED 1)

/-- The four bytes of a word, lowest first. -/
def wordBytes (w : Word) : List Nat := [0, 1, 2, 3].map (fun i => bitsOf (8 * i) 8 w.toNat)

/-- TW0_REG_DATA_READ (R548, R549). -/
def State.doTw0RegDataRead (s : State) : State :=
  if !s.tw0Live then s
  else
    let s := s.tw0Start
    let a := s.regAddr
    let w := if bmcReads a then s.regRead none a else 0
    ((s.when (bmcReads a) (fun s => s.peakRead a)).nextAddr.when (!bmcReads a) (fun s => s.addSat TWB_T0.REFUSED 1)).send (.tw0 (wordBytes w))

/-- TW0_ALERT_READ (R548, R554). -/
def State.doTw0AlertRead (s : State) : State :=
  if s.tw0Live then s.tw0Start.send (.tw0 (wordBytes (s.regRead none TWB_ALRT_CAUSE.CAUSE.addr))) else s

/-- TW0_UNKNOWN_COMMAND (R548). -/
def State.doTw0UnknownCommand (s : State) (code : Nat) : State :=
  if s.tw0Live && !([0x0F, 0x10, 0x11, 0x12].contains code) then (s.tw0Start.send .tw0Nack).raise 659 else s

/-- TW0_ARA_READ: a part that asserts SMBALERT# takes part in the arbitration; the winner gives its address and releases the
line (R554). -/
def State.doTw0AraRead (s : State) (won : Bool) : State :=
  if s.tw0Live && s.twb.alert && won then
    ({ s.tw0Start with twb := { s.tw0Start.twb with alert := false } }).send (.tw0 [s.rd TWB_T0.ADDR * 2])
  else s

/-- SMBALERT_REARM: REARM ms after the last alert an enabled cause that is still set asserts the line again (R554). -/
def State.doSmbalertRearm (s : State) : State :=
  if s.tw0Live && Nat.land (s.rd TWB_ALRT_CAUSE.CAUSE) (s.rd TWB_ALRT_EN.EN) != 0
      && decide (s.twb.alertTick + s.rd TWB_ALRT_CTL.REARM * 32768 / 1000 ≤ s.tick + 1) then
    { s with twb := { s.twb with alert := true, alertTick := s.tick + 1 } }
  else s

/-- TW0_SLEEP (R551). -/
def State.doTw0Sleep (s : State) : State := if s.tw0Live && (s.tw 0).cur.isNone then s.wr (TWB_STATUS.STATE 0) twSleep else s

/-- TW0_SCL_TIMEOUT: three in a row with no valid START between them raise EV658 (R552). -/
def State.doTw0SclTimeout (s : State) : State :=
  if s.tw0Live then
    let n := (s.tw 0).timeouts + 1
    let s := (s.addSat (TWB_CNT2.TIMEOUTS 0) 1).wr (TWB_STATUS.STATE 0) twIdle
    (s.setTw 0 { s.tw 0 with timeouts := if n = 3 then 0 else n }).raiseIf (n == 3) 658
  else s

end Sys2Proof.Machine
end

