-- ==== Sys2Proof/Machine/BootFx.lean ====
section
/-! DEFINITION. Cold reset, loss of power, warm chip reset, and the boot ROM (chapters 01, 17, 21). -/

namespace Sys2Proof.Machine

/-! ### What a chip reset does (R6, R9, R77, R121, R500) -/

/-- A register word after a chip reset: its RW and RWL fields read their reset values; all other fields keep theirs, which only
a cold reset clears (R6, R9; DEDUCED 45). -/
def chipResetWord (a : Nat) (w : Word) : Word :=
  let m := ((fieldsAt a).filter (fun r => r.acc == .rw || r.acc == .rwl)).foldl (fun m r => Nat.lor m r.mask) 0
  let k := BitVec.ofNat 32 m
  (w &&& ~~~k) ||| (regReset a &&& k)

/-- A field keeps its value through an update of the state. -/
def State.keeping (s t : State) (f : Fld) : State := t.wr f (s.rd f)

/-- Registers at a chip reset. A removal request, the length of an OFF_TIMED delay that runs, and the transfer of a two-wire port
that is running stand (R147, R481, R546). -/
def State.resetRegs (s : State) : State :=
  let t := s.forEach s.regs (fun t p => t.setWord p.1 (chipResetWord p.1 p.2))
  let t := ((s.keeping t LGR_PACK_CTL.REMOVE_A) |> (fun t => s.keeping t LGR_PACK_CTL.REMOVE_B))
  let t := t.when s.seq.timed (fun t => s.keeping t SEQ_OFFDLY.MS)
  t.forEach ((List.range 8).filter (fun n => (s.tw n).cur.isSome)) (fun t n =>
    let t := t.setWord (TWB_XFER.ADDR n).addr (s.word (TWB_XFER.ADDR n).addr)
    t.forEach (List.range 64) (fun t i => t.setWord (TWB_WBUF.DATA n i).addr (s.word (TWB_WBUF.DATA n i).addr)))

/-- Status fields that show work of the hub base which a reset ends. -/
def wakeFlds : List Fld :=
  [SVY_STATUS.STATE, SVY_LIVE.COUNT, SLB_STATUS.READY, SLB_STATUS.SWEEP, SLB_SNAP_IDX.VALID, SLB_CMD_STATUS.BUSY, ADM_DIRTY.SETTS, HAUL_SAVE_STAT.STEP,
   STK_STATUS.READY, STK_STATUS.REBUILT, STK_STATUS.DEGRADED, RES_STATUS.PHASE, RES_STATUS.SCAN, RES_STATUS.OPEN, RES_STATUS.HOME,
   RES_CMD_STATUS.BUSY, RES_UNREST.SLABS, RES_FETCHING.SLABS, JOB_STATUS.FENCED, CIP_CMD_STATUS.BUSY, CIP_STATUS.STORE_BUSY,
   CLG_STATUS.READY, CLG_STATUS.BUSY, CLG_STATUS.REQ, CLG_CUR_STATUS.STATE, FWM_STATUS.STAGE, FWM_STATUS.ACTIVATING, FWM_STATUS.NOFW,
   FWM_STATUS.NOSVY, FWM_CMD_STATUS.BUSY, BED_STATE.OPEN, BED_STATE.HOME, BED_STATE.VOLATILE, BED_FWVER.VERSION,
   CIP_OUT.OUT, CIP_STATUS.INSERVICE]

/-- Those of the faces, channels and pairs. -/
def wakeList : List Fld :=
  faces.flatMap (fun f => [HPT_STATUS.OPEN f, HPT_STATUS.FENCED f, SLB_FDIRTY.SETTS f]) ++
  (List.range 36).flatMap (fun c => [DCH_STATUS.EQ_BUSY c, DCH_STATUS.SCRUB_BUSY c, DCH_MIG_CTL.PHASE c]) ++
  (List.range 72).flatMap (fun n => [NCH_STATUS.PSLC n, NCH_STATUS.SUSPENDED n]) ++
  (List.range 12).map (fun p => CIP_PAIR.STATE p) ++ (List.range 132).map (fun n => CLK_ISL.FAULT n) ++
  (List.range 64).flatMap (fun k => [CIP_SLST.STATE k, CIP_SLST.FACE k, CIP_SLST.WARN k, CIP_SLST.LIMIT k])

/-- A face's port after a reset: nothing buffered, logged or configured; what stands is its pin, the share of life it last
reported, and its extents, which belong to the pool's grants (R114, R323, R329). -/
def Port.chipReset (q : Port) : Port :=
  { Port.reset with perst := q.perst, lifeSeen := q.lifeSeen, extents := q.extents }

/-- DRAM channel engines start afresh; the rank map stands on NAND, and the counts since the cold reset and of the windows go on (R303,
R309, R333). -/
def DchSt.chipReset (d : DchSt) : DchSt :=
  { DchSt.reset with
    mem := d.mem
    poison := d.poison
    devCe := d.devCe
    win := d.win
    limits := d.limits
    prev := d.prev
    ceTotal := d.ceTotal
    rankMap := d.rankMap
    crdMap := d.crdMap }

/-- Keys are gone from their slots; what NAND holds stands, with rotations and erases that go on later (R419, R425, R428, R429). -/
def CipSt.chipReset (c : CipSt) : CipSt :=
  { CipSt.reset with
    store := c.store
    storeOk := c.storeOk
    ceiling := c.ceiling
    storeSeq := c.storeSeq
    purge := c.purge
    stale := c.stale
    erasePend := c.erasePend
    eraseSan := c.eraseSan
    rotate := c.rotate }

/-- The twin is to be met again; the epochs stand in the health area (R448, R452). -/
def GalSt.chipReset (g : GalSt) : GalSt :=
  { GalSt.reset with
    epoch := g.epoch
    joinEpoch := g.joinEpoch }

/-- The Stockpile manager after a reset: what stands on NAND, and what is settled at boot from it (R225, R228, R252). -/
def StkSt.chipReset (k : StkSt) : StkSt :=
  { k with
    wlWait := []
    dies := []
    silent := []
    accs := []
    applied := []
    folding := false
    reworking := false
    degraded := 0
    patrolRead := [] }

/-- The blocks of the hub die start afresh: every slab entry reads zero with OWNER 0b111, and nothing is in flight (R121). -/
def State.hubFresh (s : State) : State :=
  let s := s.forEach faces (fun s p => s.setPort p (s.port p).chipReset)
  let s := { s with slb := { SlbSt.reset with grants := s.slb.grants, image := s.slb.image, lmap := s.slb.lmap } }
  let s := { s with svy := { s.svy with loaded := false, staging := [], live := false, cmd := 0, taken := [], face := 0 } }
  let s := { s with adm := { s.adm with rr := 7, jobq := [], repTick := [], repDue := [], repMargin := 3 } }
  let h := { HaulSt.reset with pfw := s.haul.pfw, pfwTick := s.haul.pfwTick, nextStripe := s.haul.nextStripe }
  let s := ({ s with haul := h, save := SaveSt.reset, job := JobSt.reset }).wrB HAUL_STATUS.PFW_HOLD h.pfw
  let s := { s with res := { ResSt.reset with trigTick := s.fwm.bootTick } }
  let s := { s with dch := s.dch.chipReset, cip := s.cip.chipReset, gal := s.gal.chipReset, stk := s.stk.chipReset }
  let s := { s with clk := { ClkSt.reset with refFail := s.clk.refFail } }
  { s with fwm := { s.fwm with staging := none, xfer := 0, xferFace := 0, running := false, alive := false, handoff := false, recovery := false, openCmds := [], waiting := [] } }

/-- The hub base had no power: a power cycle is counted, ADM's day starts with a spend of 0, the rate controller's integrator starts
at 0, and a running count of a second is kept (R172, R177, R529). -/
def State.powerUp (s : State) : State :=
  let s := s.addWrap CLG_PCYC.COUNT 1
  let day := s.tick / dayTicks
  let s := { s with adm := { s.adm with wear := 0, wearHaul := 0, wearMark := 0, day := day } }
  let s := s |>.wr ADM_WEAR_SPENT.MIB 0 |>.wr ADM_WEAR_HAUL.MIB 0 |>.wr ADM_STATUS.WEAR_OVER 0 |>.wr ADM_WEAR_DAYS.DAY day
    |>.wr ADM_WEAR_ALLOW.MIB s.wearAllow |>.wr HAUL_PI_INT.INT 0
  { s with clg := { s.clg with live := [], staging := [], forming := [], phase := 0 } }

/-- The sled of a TWIN section is to join its twin; without one it is alone (R435, R452). -/
def State.galWake (s : State) : State :=
  (s.forEach [0, 1] (fun s l => s.galOff l)).wr GAL_STATUS.MODE (if s.hasSec secTwin then modeJoining else modeAlone)

/-- What the Bedrock domain takes from its shadow: the reaction map and the two-wire ports (R17, R546). -/
def State.shadowLoad (s : State) : State := if s.svy.shadow then s.fltLoad.twLoad else s

/-- The chip is reset on its way to Waking (R77, R121, R500, R566). -/
def State.chipReset (s : State) : State :=
  let how := s.bed.chipReset
  let s := { s with bed := { s.bed with chipReset := 0 } }
  let s := s.when (how == 2) State.powerUp
  let s := s.resetRegs
  let s := s.forEach (wakeFlds ++ wakeList) (fun s f => s.wr f 0)
  let s := s.portsDown.hubFresh
  let s := s.forEach (List.range 132) (fun s n => s.when (s.isl n != islOff) (fun s => s.force n false))
  let w (f : Fld) : Nat := (s.word f.addr).toNat
  let s := { s with clg := { s.clg with ffcAtWaking := [w FLT_FFC.SOURCE, w FLT_FFC_TLO.TICK, w FLT_FFC_THI.TICK] } }
  (s.galWake.shadowLoad).wr BED_STATE.CHIP s.chip.code

/-- A warm chip reset that waits is carried out in Waking, Parked or Hold; FLT_RSTCNT counts those that CRESET asked for (R480,
R500, R502, R520). -/
def State.rstClock (s : State) : State :=
  match s.flt.rst with
  | none => s
  | some why =>
    if s.chip == .waking || s.chip == .parked || s.chip == .hold then
      let s := { s with flt := { s.flt with rst := none } }
      let s := s.when (why == .creset) (fun s => s.addSat FLT_RSTCNT.COUNT 1)
      (s.chipRstPins.setChip .waking).updErr
    else s

/-- The reset of this hub clock, if there is one. -/
def State.resetClock (s : State) : State :=
  let s := s.rstClock
  s.when (s.bed.chipReset != 0) State.chipReset

/-- WARM_CHIP_RESET (R502). -/
def State.doWarmReset (s : State) : State := s.askReset .command

/-! ### The boot ROM (R566 to R572) -/

/-- The supplies that the boot ROM needs have qualified (R469, R566). -/
def State.bootPower (s : State) : Bool :=
  if s.rd SEQ_STRAP.BSET = 3 then s.seq.pg00Ok else (bootRails (s.rd SEQ_STRAP.BSET)).all (fun n => bitAt n (s.rd SEQ_GOOD.RAILS))

/-- The hub base comes up: the array is ready, its clocks run, the pairs have passed their test, and the islands that are always ON
are ON (R121, R413, R491, R494). -/
def State.hubUp (s : State) (bad : List Nat) : State :=
  let s := { s with slb := { s.slb with ready := true } }
  let s := s |>.wr SLB_STATUS.READY 1 |>.wrB CLK_STATUS.REF_OK (!s.clk.refFail) |>.wr CLK_STATUS.HUB_LOCK 1 |>.wr CLK_STATUS.FMN_LOCK 1
    |>.wr CIP_STATUS.DRBG_OK 1
  let s := s.forEach (List.range 12) (fun s p => if bad.contains p
    then ((s.wr (CIP_PAIR.STATE p) pairOut).setBit CIP_OUT.OUT p true).raise (564 + p)
    else (s.force (islPair p) true).wr (CIP_PAIR.STATE p) pairIn)
  ((s.force islHaul true).force islFmn true).updPairs

/-- The RAIL record of a failure that has not been logged (R534). -/
def State.railRecord (s : State) : State :=
  if s.on SEQ_FIRST.VALID && !s.clg.railLogged then
    let w (f : Fld) : Nat := (s.word f.addr).toNat
    let s := { s with clg := { s.clg with railLogged := true } }
    s.formRec 4 0 [w SEQ_FIRST.RAIL, w SEQ_FIRST_TLO.TICK, w SEQ_FIRST_THI.TICK, w SEQ_FAIL_MORE.COUNT, w SEQ_FAILED.RAILS, w SEQ_PG.RAW]
  else s

/-- Every stored slot returns to its state with a new epoch; a purge that power loss had cut short is finished, so a slot cleared before
it stays clear (R419, R422, R425). `bad`: neither copy of the key store verifies. -/
def State.unwrapKeys (s : State) (bad : Bool) : State :=
  let s := s.wr48 CIP_EPOCH_LO.EPOCH CIP_EPOCH_HI.EPOCH s.cip.ceiling
  if s.cip.storeOk && !bad then
    let l := (s.cip.store.filter (fun p => !s.cip.stale.contains p.1)).filterMap (fun p => p.2.map (fun e => (p.1, e)))
    let s := s.forEach l (fun s p => (((s.putKey p.1 p.2.key).setSlot p.1 p.2.st (s.slotFace p.1)).newEpoch p.1).wr (CIP_SLST.STORED p.1) 1)
    let s := s.when (!s.cip.stale.isEmpty) State.storePage
    let b := if s.cip.purge.isEmpty then s.stk.hblock else 1 - s.stk.hblock
    { s with cip := { s.cip with purge := [] }, stk := { s.stk with hblock := b } }
  else { s with res := { s.res with noKeys := true } }

/-- The ranks of a channel that the PROFILE section gives it (R65, R279). -/
def State.ranksOf (s : State) (c : Nat) : List Nat :=
  if s.chanPresent c then (if s.svOn PROFILE.TWO_RANK then [0, 1, 2, 3] else [0, 2]) else []

/-- A rank's state at boot, from the rank map, or from its channel's use (R309, R313): in Slate the ranks of C32 to C35 are spares. -/
def State.bootRank (s : State) (c k : Nat) : State :=
  let m := SMap.get 0 (rankKey c k) s.dch.rankMap
  let st := if m = 0 then (if s.sv PROFILE.PROFILE = 1 ∧ 32 ≤ c then rkSpareFree else rkActive) else m % 16 - 1
  (s |>.wr (DCH_RNKS.STATE c k) st |>.wr (DCH_RNKS.BY_CHAN c k) (m / 16 % 64) |>.wr (DCH_RNKS.BY_RANK c k) (m / 1024)).setRankSr c k
    (st == rkReplaced || st == rkRetired)

/-- The ranks are trained: their periods and temperatures count from here (R294). -/
def State.trainBase (s : State) : State :=
  let now := (List.range 144).foldl (fun m i => SMap.put 0 i s.tick m) []
  { s with dch := { s.dch with
      eqTick := now
      eqTemp := []
      bootTemps := (List.range 64).map s.rankTemp } }

/-- The DRAM channels train: present ones read TRAINING until the next tick, and FAILED where no rank is left (R294, R309, R310, R313;
DESIGN CHOICE 146). -/
def State.bootDram (s : State) (dead : List Nat) : State :=
  let s := s.forEach (List.range 36) (fun s c => s.forEach [0, 1, 2, 3] (fun s k =>
    if (s.ranksOf c).contains k then s.bootRank c k else s.wr (DCH_RNKS.STATE c k) rkAbsent))
  let s := s.forEach (List.range 36) (fun s c => s.when (s.chanPresent c) (fun s => s.force (islDram c) true))
  let s := s.forEach s.dch.crdMap (fun s p => if p.2 = 0 then s else
    (s.wr (DCH_CRD.SLAB (p.1 / 16) (p.1 % 16)) (p.2 - 1)).wr (DCH_CRD.VALID (p.1 / 16) (p.1 % 16)) 1)
  let s := s.forEach (dead.filter (fun i => s.rankLive (i / 4) (i % 4))) (fun s i => s.bootDead (i / 4) (i % 4))
  s.forEach (List.range 36) (fun s c =>
    let has (st : Nat) : Bool := (s.ranksOf c).any (fun k => s.rank c k == st)
    let st := if !s.chanPresent c then 0 else if has rkActive || has rkSpareHome || has rkSpareFree then 1 else 6
    s.wr (DCH_STATUS.STATE c) st)

/-- RL, RPRE and WPRE that the boot firmware loads, by rate and VCCQ (R235); in SDR mode 0 they keep their reset values. -/
def nandTiming (rate vccq : Nat) : Nat × Nat × Nat :=
  match rate, vccq with
  | 1, 0 => (4, 2, 2)
  | 2, 0 => (6, 2, 2)
  | 3, 0 => (8, 3, 2)
  | 4, 0 => (10, 3, 2)
  | 1, 1 => (6, 2, 2)
  | 2, 1 => (8, 3, 2)
  | 3, 1 => (10, 3, 3)
  | 4, 1 => (12, 4, 3)
  | _, _ => (4, 2, 2)

/-- Dies whose blocks are BAD with CAUSE 5 are retired ones, and the NAND channels of enabled groups train; they are READY with the next
tick (R234, R235, R251, R252; DESIGN CHOICE 120). -/
def State.bootNand (s : State) (dead : List Nat) : State :=
  let s := s.forEach (s.stk.blks.filter (fun p => p.2.st == 6 && p.2.cause == 5)) (fun s p =>
    s.setBit (NCH_STATUS.TGT_RETIRED (p.1 / 262144)) (p.1 / 32768 % 8) true)
  let s := s.forEach ((List.range 72).filter (fun n => s.groupOn (chanGroup n))) (fun s n =>
    let live := s.sv (NAND.TARGETS n) - Nat.land (s.sv (NAND.TARGETS n)) (s.rd (NCH_STATUS.TGT_RETIRED n))
    let v := nandTiming (s.sv NAND.RATE) (s.sv NAND.VCCQ)
    let s := (s.force (islNand n) true).wr (NCH_IFCFG.RATE n) (s.sv NAND.RATE)
      |>.wr (NCH_IFCFG.RL n) v.1 |>.wr (NCH_IFCFG.RPRE n) v.2.1 |>.wr (NCH_IFCFG.WPRE n) v.2.2
    let s := { s with stk := { s.stk with applied := SMap.put 0 n (s.word (NCH_IFCFG.RATE n).addr) s.stk.applied } }
    let st := if live = 0 then 4 else 1
    (s.wr (NCH_STATUS.TGT_LIVE n) live).wr (NCH_STATUS.STATE n) st)
  s.forEach ((List.range 72).filter (fun n => s.groupOn (chanGroup n) && (dead.contains n || s.rd (NCH_STATUS.STATE n) == 4)))
    (fun s n => s.chanLost n)

/-- The firmware gives MGMT to the port that the BMC directs, else to that of the lowest-numbered enabled face (R337). -/
def State.giveMgmt (s : State) : State :=
  let sel := s.rd TWB_BMC.MGMT_SEL
  let p := if sel < 6 then some sel else (faces.filter s.faceOn).head?
  match p with
  | some p => s.wr (HPT_CFG.MGMT p) 1
  | none => s

/-- A Survey image has loaded: the bench table is taken up, keys are unwrapped, DRAM and NAND are trained, and a firmware slot is
released (R257, R469, R566 steps 4 and 5). -/
def State.bootImage (s : State) (inp : BootIn) : State :=
  let s := s.takeTable.wr FWM_STATUS.STAGE 2
  let s := ((s.bootNand inp.deadNand).bootDram inp.deadRanks).trainBase
  let s := s.settleErases.unwrapKeys inp.noStore
  let s := s.galWake.bootFirmware
  let s := s.when (!s.fwm.recovery) (fun s => ({ s with res := { s.res with trained := true } }).giveMgmt)
  s.wr FWM_BOOT_T.TICKS (s.tick - s.fwm.bootTick)

/-- BOOT_ROM_START; with neither lane pair 0 nor 6 in service no copy's tag verifies (R76, R77, R414, R566 to R572, R611). -/
def State.doBootRom (s : State) (inp : BootIn) : State :=
  if s.chip == .waking && !s.slb.ready && !s.pin.testen && s.bootPower then
    let s := ((s.hubUp inp.badPairs).clgWake).railRecord
    let r := (s.wr FWM_STATUS.STAGE 1).bootSurvey
    match r.1 with
    | some _ => r.2.bootImage inp
    | none => r.2.enterRecovery true false
  else s

/-! ### New keys (R419) -/

/-- A restore that finds no key generates new ones for the pairs of the enabled faces and for the device's pair. -/
def State.newKeys (s : State) : State :=
  let pairs := ((faces.filter s.faceOn).map (fun f => s.sv (FACES.KEY_PAIR f)) ++ [31]).dedup
  let pairs := pairs.filter (fun p => s.slotState (2 * p) == slEmpty && s.slotState (2 * p + 1) == slEmpty)
  (s.forEach pairs (fun s p =>
    let d := s.drawKey
    ((d.2.putKey (2 * p) d.1).setSlot (2 * p) slActive (s.slotFace (2 * p))).newEpoch (2 * p))).storePage

/-- RES_START with what the rank map and the key store ask for (R258, R309, R419). -/
def State.doRestoreBegin (s : State) (inp : ResIn) : State :=
  let ok := s.hubOn && s.startOk
  (s.doResStart inp).when (ok && s.res.noKeys) State.newKeys

/-! ### Power (R8, R16, R36, R500) -/

/-- What NAND and the fuses hold outlives every loss of power; the model's own queue, record and counter stand too. -/
def State.nandOnly (s : State) : State :=
  let r := State.reset
  { r with
    fuse := s.fuse
    svy := { r.svy with inst := s.svy.inst }
    slb := { r.slb with grants := s.slb.grants }
    stk := { s.stk.chipReset with intents := s.stk.intents, jpend := [], patrolWin := 0, patrolled := [] }
    saves := s.saves
    dch := { r.dch with rankMap := s.dch.rankMap, crdMap := s.dch.crdMap }
    ports := (faces.map (fun f => (f, { Port.reset with extents := (s.port f).extents }))).foldl (fun m p => SMap.put Port.reset p.1 p.2 m) []
    nv := s.nv
    cip := s.cip.chipReset
    gal := s.gal.chipReset
    clg := { r.clg with log := s.clg.log }
    fwm := { r.fwm with slotA := s.fwm.slotA, slotB := s.fwm.slotB, active := s.fwm.active, trial := s.fwm.trial, tries := s.fwm.tries }
    pending := s.pending
    out := s.out
    free := s.free }

/-- Off: nothing but NAND and the fuses holds anything (R16, R500). -/
def State.powerOff (s : State) : State :=
  let solo := s.rd GAL_STATUS.SOLO
  let t := s.nandOnly.wr GAL_STATUS.SOLO solo
  { t with chip := .off, pin := { t.pin with power := false } }

/-- ALL_POWER_CUT (R36). -/
def State.doPowerCut (s : State) : State := s.powerOff

/-- BEDROCK_POWER_LOSS (R500). -/
def State.doBedrockLoss (s : State) : State := if s.chip = .bedrock then s.powerOff else s

/-- COLD_RESET: the Bedrock domain starts from no power and samples its straps (R8, R500, R547, R603). -/
def State.doColdReset (s : State) (bset baddr : Nat) (testen : Bool) : State :=
  if s.chip = .off then
    let t := s.powerOff
    let t := { t with chip := .bedrock, pin := { t.pin with testen := testen, power := true } }
    t |>.wr BED_STATE.CHIP Chip.bedrock.code |>.wr SEQ_STRAP.BSET (bset % 4) |>.wr TWB_T0.ADDR (0x58 + baddr % 4)
  else s

end Sys2Proof.Machine
end

