-- ==== Sys2Proof/Machine/PinFx.lean ====
section
/-! DEFINITION. The test port and the test state (chapter 23). -/

namespace Sys2Proof.Machine

/-- The instruction that takes effect: outside the test state all but BYPASS, IDCODE and SAMPLE/PRELOAD load BYPASS; an unknown
code loads BYPASS (R610, R611). -/
def State.tapLoads (s : State) (ins : Tap) : Tap :=
  match ins with
  | .idcode => .idcode
  | .sample => .sample
  | .extest => if s.pin.testen then .extest else .bypass
  | .clamp => if s.pin.testen then .clamp else .bypass
  | .highz => if s.pin.testen then .highz else .bypass
  | .railset => if s.pin.testen then .railset else .bypass
  | _ => .bypass

/-- The IDCODE register (R610). -/
def State.idcode (s : State) : Word := BitVec.ofNat 32 (0x03672B47 + s.fuse.step % 16 * 2 ^ 28)

/-- TAP_INSTRUCTION: the port answers in every state but Off; IDCODE shifts out the code (R610, R611). -/
def State.doTap (s : State) (ins : Tap) : State :=
  if s.chip = .off then s
  else
    let l := s.tapLoads ins
    let s := ({ s with pin := { s.pin with tap := l } }).send (.tap l)
    s.when (l == .idcode) (fun s => s.send (.regData s.idcode))

/-- The sequencer is at rest in the test state: the boot rails and those named before are up. -/
def State.testRests (s : State) : Bool := s.chip == .waking && s.seqPhase == phaseBootset && s.seq.stage == .idle

/-- RAILSET with its data register: in the test state the rails it no longer names come down and those it names come up, one at a
time (R611); otherwise BYPASS is loaded. A set named while rails move is taken up when they rest. -/
def State.doRailset (s : State) (rails : Nat) : State :=
  let s := s.doTap .railset
  if s.chip != .off && s.pin.testen then
    let s := { s with pin := { s.pin with railset := rails % 2 ^ 32 } }
    s.when s.testRests State.bootNext
  else s

end Sys2Proof.Machine
end

