-- ==== Sys2Proof/Machine/SchedFx.lean ====
section
/-! DEFINITION. The work that waits for the task classes, and the cadence update that grants them tokens (chapters 05 and 06). -/

namespace Sys2Proof.Machine

/-- Setts that fold could move: Clean ones named in the Sump band (R246). -/
def State.foldQueue (s : State) : Nat := (s.slb.lmap.filter (fun p => locKind p.2 == 2 && s.foldable p.1)).length

/-- Valid setts of the lodes that rework takes as sources in a class (R245, R249). -/
def State.reworkQueue (s : State) (cls : Nat) : Nat :=
  (groups.map (fun g => (((s.reworkNow g).filter (fun x => x.2 == cls)).map (fun x => s.validCount g x.1)).sum)).sum

/-- Setts that rewrap could move (R246, R404). -/
def State.rewrapQueue (s : State) : Nat := (s.slb.lmap.filter (fun p => s.wrappable p.1)).length

/-- Setts that a restore has still to fetch: those of Unrestored slabs, and what running fetches have not written (R163, R267). -/
def State.restoreQueue (s : State) : Nat :=
  if s.chip = .restoring then
    64 * s.rd RES_UNREST.SLABS + (s.res.fetch.map (fun f => 64 - popCount 64 f.done.toNat)).sum
  else 0

/-- 64 KiB pieces that a job has still to process (R375). -/
def Job.left (j : Job) : Nat :=
  if j.fin.isSome ∨ j.op = 4 ∨ j.op = 5 then 0
  else if j.op = 3 then (j.len + 1023) / 1024 - j.pos
  else (j.len + 1023) / 1024 - (j.pos + 1023) / 1024

def State.jobQueue (s : State) (p : Job → Bool) : Nat := ((s.job.jobs.filter p).map Job.left).sum

/-- Setts that a migration and a resilver may copy in a period (R306, R454). -/
def State.moveQueue (s : State) : Nat :=
  (match s.dch.mig with
    | some m => if m.retire || m.paused then 0 else Nat.max 1 (s.rd (DCH_MIG_RATE.SETTS m.chan))
    | none => 0) +
  (if s.galMode = modeRslvSrc ∧ s.on GAL_CTL.RSLV_EN then min (64 * s.rd GAL_RSLV.SLABS) (Nat.max 1 (s.rd GAL_RSLV_RATE.SETTS)) else 0)

/-- The work that waits (R163, R164). -/
def State.queued (s : State) (cap : List Nat) : Queued :=
  { fold := s.foldQueue
    rework1 := s.reworkQueue 1
    rework6 := s.reworkQueue 6 + s.rewrapQueue
    restore := s.restoreQueue
    jobs := s.jobQueue (fun _ => true)
    wear3 := s.jobQueue (fun j => j.op == 3)
    moves := s.moveQueue
    cap := cap }

/-- LEDGER_UPDATE (R142, R164): at a tick whose count is a multiple of 32. -/
def State.doLedgerTick (s : State) (inp : LedgerIn) : State :=
  if s.tick % 32 = 0 then s.doLedgerUpdate inp.die (s.queued inp.cap) else s

end Sys2Proof.Machine
end

