-- ==== Sys2Proof/Machine/Clock.lean ====
section
/-! DEFINITION. What the block does by itself in the hub clock of a command, the tick, and how a command's effect becomes an
outcome. -/

namespace Sys2Proof.Machine

/-- What waits at the ports is looked at again, as entries of the fresh queues free and lines turn Dirty (R155, R157). -/
def State.portClock (s : State) : State :=
  s.when s.working (fun s => s.retryPorts.forEach faces (fun s p => s.gpfPort p))

/-- Work of the hub blocks that runs while they have power, those that change slab entries in the order of R20: repairs, the ports, the
Gallery, the Job engine, the Haul engine; then scans, rotations, erases and life reports (R330, R332, R372, R404, R427). -/
def State.hubWork (s : State) : State :=
  s.when s.hubOn (fun s => s.repairClock.portClock.galClock.jobClock.guardHauls.scanClock.rotateClock.eraseClock.lifeCheck.slbClock)

/-- What follows on its own in the hub clock of a command: a live load that a save met at its tick, the margin state, the hub blocks' work, a Twin Handover, the islands, then the
reactions to what was raised, and a reset that is due (R139, R496, R508, R519, R523; DESIGN CHOICE 9). -/
def State.hubClock (s : State) : State :=
  s.svyClock.admClock.hubWork.handoverClock.islClock.fltClock.laterClock.resetClock

/-- What no command reaches: the tick count, which time alone moves (R489); the fuses but for the rollback bits (R581, R589); the
TESTEN strap (R603); and the queue of waiting commands. -/
def State.beyond (s t : State) : State :=
  { t with
    tick := s.tick
    fuse := { s.fuse with blown := t.fuse.blown }
    pin := { t.pin with testen := s.pin.testen }
    pending := s.pending }

/-- The state after the hub clock in which a command had the effect `u` on the state `s`. -/
def State.settled (s u : State) : State := s.beyond u.hubClock

/-- A command takes its effect in one step: the effect, and what follows from it in the same hub clock. Off knows neither (R500). -/
def run (f : State → State) (s : State) : Host.Outcome State Fault Refusal :=
  if s.chip = .off then .next s else .next (s.settled (f s))

/-- Power comes or goes: nothing else happens in that step (R8, R36, R500). -/
def runPower (f : State → State) (s : State) : Host.Outcome State Fault Refusal := .next (f s)

/-- NAND channels that train or restart are READY, or DEGRADED with a target retired, by the next tick (R234, R254, R518; DESIGN CHOICE
120). -/
def State.nandTick (s : State) : State :=
  s.forEach ((List.range 72).filter (fun n => s.rd (NCH_STATUS.STATE n) == 1 || s.rd (NCH_STATUS.STATE n) == 5)) (fun s n =>
    s.wr (NCH_STATUS.STATE n) (if s.rd (NCH_STATUS.TGT_RETIRED n) = 0 then 2 else 3))

/-- A tick of the 48-bit count, which does not wrap (R489); operating time and the watchdog count it, a commit that has been
formed goes to NAND, and the cluster takes the packets that wait (R529, R538, R550, R578). -/
def State.ticked (s : State) : State :=
  let s := { s with tick := min (s.tick + 1) (2 ^ 48 - 1) }
  let s := s.clgTick.issueCommit.dogTick.svyTick.when s.hubOn (fun s => (s.endMaps.nandTick.dchTick.resumeErases.scanTock.releaseTick).forEach faces State.l0pPort)
  s.when s.fwm.running (fun s => { s with twb := { s.twb with mctp := 0 } })

/-- A tick with no command waiting: time passes (DESIGN CHOICE 1). -/
def State.idle (s : State) : State := if s.chip = .off then s else s.ticked.settled s.ticked

end Sys2Proof.Machine
end

