-- ==== Sys2Proof/Machine/CipCmd.lean ====
section
/-! DEFINITION. Meanings of commands: keys and cipher pairs (chapter 14). -/

namespace Sys2Proof.Machine

/-- CIP_GENERATE (R421): CIP_CMD GENERATE draws a key into a slot, which becomes PARTNER or ACTIVE once stored. -/
def execCipGenerate (s : State) : Host.Outcome State Fault Refusal :=
  run (fun s => s.doGenerate) s

/-- CIP_ACTIVATE (R421): CIP_CMD ACTIVATE makes a PARTNER slot ACTIVE and its partner PARTNER in one hub clock. -/
def execCipActivate (s : State) : Host.Outcome State Fault Refusal :=
  run (fun s => s.doActivate) s

/-- CIP_ZEROIZE (R425): CIP_CMD ZEROIZE clears a slot at once, ends its operations with KEY_LOST and purges it from the key
store. -/
def execCipZeroize (s : State) : Host.Outcome State Fault Refusal :=
  run (fun s => s.doZeroize) s

/-- CIP_ZEROIZE_PAIR (R421): CIP_CMD ZEROIZE_PAIR clears both slots of a pair in one hub clock and purges them. -/
def execCipZeroizePair (s : State) : Host.Outcome State Fault Refusal :=
  run (fun s => s.doZeroizePair) s

/-- CIP_LOAD_TX (R421): CIP_CMD LOAD_TX loads a supplied or DRBG key into an empty slot as a transform slot of a face. -/
def execCipLoadTx (s : State) : Host.Outcome State Fault Refusal :=
  run (fun s => s.doLoadTx) s

/-- CIP_RELEASE_TX (R421): CIP_CMD RELEASE_TX zeroizes a transform slot. -/
def execCipReleaseTx (s : State) : Host.Outcome State Fault Refusal :=
  run (fun s => s.doReleaseTx) s

/-- CIP_KAT (R421): CIP_CMD KAT runs the known-answer test on a pair and returns it to service if it passes. -/
def execCipKat (s : State) : Host.Outcome State Fault Refusal :=
  run (fun s => s.doKat) s

/-- KEY_STORE_PROGRAMMED (R418): A key-store page program on N00 and N36 completes or fails. -/
def execKeyStoreProgrammed (ok0 ok36 : Bool) (s : State) : Host.Outcome State Fault Refusal :=
  run (fun s => s.doStoreProgrammed ok0 ok36) s

/-- KEY_STORE_PURGE_DONE (R425): The erase of the block holding the earlier key-store pages completes. -/
def execKeyStorePurgeDone (s : State) : Host.Outcome State Fault Refusal :=
  run (fun s => s.doPurgeDone) s

/-- DRBG_HEALTH_FAIL (R510): The DRBG fails its health test, CIP_STATUS.DRBG_OK clears and EV696 is raised. -/
def execDrbgHealthFail (s : State) : Host.Outcome State Fault Refusal :=
  run (fun s => s.doDrbgFail) s

end Sys2Proof.Machine
end

