-- ==== Sys2Proof/Machine/ClgCmd.lean ====
section
/-! DEFINITION. Meanings of commands: the Core log (chapter 19). -/

namespace Sys2Proof.Machine

/-- CLG_COMMIT_CADENCE (R538): CLG_CMD COMMIT_CADENCE copies the aggregators to staging and commits HIST, EVENT and pending
records. -/
def execClgCommitCadence (s : State) : Host.Outcome State Fault Refusal :=
  run (fun s => s.doCommitCadence) s

/-- CLG_COMMIT_PENDING (R538): CLG_CMD COMMIT_PENDING commits only the pending records. -/
def execClgCommitPending (s : State) : Host.Outcome State Fault Refusal :=
  run (fun s => s.doCommitPending) s

/-- CLG_CADENCE_DUE (R538): CADENCE minutes of operating time pass and CLG_STATUS.REQ sets. -/
def execClgCadenceDue (s : State) : Host.Outcome State Fault Refusal :=
  run (fun s => s.doCadenceDue) s

/-- CLG_PAGE_PROGRAMMED (R538): A Core log page program completes, CLG_SEQ advances and staging is discarded. -/
def execClgPageProgrammed (ok0 ok36 : Bool) (s : State) : Host.Outcome State Fault Refusal :=
  run (fun s => s.doCommitProgrammed ok0 ok36) s

/-- CLG_CUR_FETCH (R541): Writing CLG_CUR fetches a record into CLG_WIN or selects the live aggregator. -/
def execClgCurFetch (seq : Nat) (s : State) : Host.Outcome State Fault Refusal :=
  run (fun s => s.doCurFetch seq) s

/-- CLG_FETCH_DONE (R541): The cursor fetch ends with READY, GONE or NOT_YET. -/
def execClgFetchDone (s : State) (bad : Bool := false) : Host.Outcome State Fault Refusal :=
  run (fun s => s.doFetchDone bad) s

end Sys2Proof.Machine
end

