-- ==== Sys2Proof/Machine/ClkCmd.lean ====
section
/-! DEFINITION. Meanings of commands: clocks and islands (chapter 17). -/

namespace Sys2Proof.Machine

/-- CRYSTAL_FAIL (R490): No crystal edge for 64 µs; the tick is derived from the scan clock and EV674 raised. -/
def execCrystalFail (s : State) : Host.Outcome State Fault Refusal :=
  run (fun s => s.doCrystalFail) s

/-- CRYSTAL_RECOVER (R490): After 1,024 good crystal periods the tick returns to the crystal. -/
def execCrystalRecover (s : State) : Host.Outcome State Fault Refusal :=
  run (fun s => s.doCrystalRecover) s

/-- REFCLK_FAIL (R492): The reference clock fails; PLLs enter holdover, SerDes links go down and EV675 is raised. -/
def execRefclkFail (s : State) : Host.Outcome State Fault Refusal :=
  run (fun s => s.doRefFail) s

/-- PLL_LOCK_LOSS (R492): A PLL loses lock with the reference present and raises EV676. -/
def execPllLockLoss (pll : Nat) (s : State) : Host.Outcome State Fault Refusal :=
  run (fun s => s.doLockLoss pll) s

/-- REFERENCE_CLOCK_RETURN (R492): The 100 MHz reference clock returns after a failure, ending holdover so that the SerDes
PLLs can relock and the links can train again. -/
def execReferenceClockReturn (s : State) : Host.Outcome State Fault Refusal :=
  run (fun s => s.doRefReturn) s

/-- ISLAND_REQUEST (R496): An enable or disable request for an island runs at once or is queued one deep behind a transition.
-/
def execIslandRequest (island : Nat) (on : Bool) (s : State) : Host.Outcome State Fault Refusal :=
  run (fun s => s.doIslandRequest island on) s

/-- ISLAND_IDLE_EXPIRY (R495): An AUTO island idle for IDLE ticks starts to stop. -/
def execIslandIdleExpiry (island : Nat) (s : State) : Host.Outcome State Fault Refusal :=
  run (fun s => s.doIslandIdle island) s

/-- ISLAND_WAKE_DONE (R494): An island reaches ON, then runs any queued stop. -/
def execIslandWakeDone (island : Nat) (s : State) : Host.Outcome State Fault Refusal :=
  run (fun s => s.doWakeDone island) s

/-- ISLAND_STOP_DONE (R496): An island finishes stopping and runs any queued power-up. -/
def execIslandStopDone (island : Nat) (s : State) : Host.Outcome State Fault Refusal :=
  run (fun s => s.doStopDone island) s

/-- ISLAND_WAKE_FAULT (R498): An island not ON within four times its wake time sets FAULT and is treated as failed. -/
def execIslandWakeFault (island : Nat) (s : State) : Host.Outcome State Fault Refusal :=
  run (fun s => s.doWakeFault island) s

end Sys2Proof.Machine
end

