-- ==== Sys2Proof/Machine/DramCmd.lean ====
section
/-! DEFINITION. Meanings of commands: the DRAM channels (chapter 10). -/

namespace Sys2Proof.Machine

/-- DRAM_REFRESH (R288): A refresh interval ends and the engine issues REFsb or REFab to a rank. -/
def execDramRefresh (chan rank : Nat) (s : State) : Host.Outcome State Fault Refusal :=
  run (fun s => s.doRefresh chan rank) s

/-- MR4_READ (R288): Every 32 ticks the engine reads MR4 of every die and sets the refresh interval. -/
def execMr4Read (chan : Nat) (temps : List Int) (s : State) : Host.Outcome State Fault Refusal :=
  run (fun s => s.doMr4 chan temps) s

/-- SELF_REFRESH_ENTRY (R290): A channel idle for DCH_SR.IDLE ticks enters self-refresh. -/
def execSelfRefreshEntry (chan : Nat) (abort : Bool) (s : State) : Host.Outcome State Fault Refusal :=
  run (fun s => s.doSrEntry chan abort) s

/-- SELF_REFRESH_EXIT (R291): A request to a channel in self-refresh restarts the PHY clocks and issues SRX. -/
def execSelfRefreshExit (chan : Nat) (late : Bool) (s : State) : Host.Outcome State Fault Refusal :=
  run (fun s => s.doSrExit chan late) s

/-- DEVICE_RETRAIN (R295): A rank's DFE taps are retrained device by device after its period, temperature change or correction
count. -/
def execDeviceRetrain (chan rank sensor : Nat) (margins : List (List Nat)) (s : State) : Host.Outcome State Fault Refusal :=
  run (fun s => s.doRetrain chan rank sensor margins) s

/-- SCRUB_STEP (R297): Patrol scrub reads or zero-writes the next sett of its channel. -/
def execScrubStep (chan : Nat) (devs : SMap Nat) (s : State) : Host.Outcome State Fault Refusal :=
  run (fun s => s.doScrub chan devs) s

/-- REPAIR_PAGE_READY (R300): A repair's Stockpile page arrives; the line is rewritten if the sett is unchanged, and the hold
released. -/
def execRepairPageReady (sett line : Nat) (page : PageRead) (devs : Nat) (s : State) : Host.Outcome State Fault Refusal :=
  run (fun s => s.doRepair sett line page devs) s

/-- MIG_START (R305): DCH_MIG_CTL START migrates a rank into a Slate spare through DISPLACE and COPY. -/
def execMigStart (chan : Nat) (s : State) (ok0 : Bool := true) (ok36 : Bool := true) : Host.Outcome State Fault Refusal :=
  run (fun s => s.woGate (DCH_MIG_CTL.OP chan).addr (fun s => s.doMigStart chan (ok0, ok36))) s

/-- MIG_RETIRE (R311): DCH_MIG_CTL RETIRE retires a rank through HOME and RETIRE phases. -/
def execMigRetire (chan : Nat) (s : State) (ok0 : Bool := true) (ok36 : Bool := true) : Host.Outcome State Fault Refusal :=
  run (fun s => s.woGate (DCH_MIG_CTL.OP chan).addr (fun s => s.doMigRetire chan (ok0, ok36))) s

/-- MIG_ABORT (R308): DCH_MIG_CTL ABORT stops a copy after the sett in progress and serves every slab from the source. -/
def execMigAbort (chan : Nat) (s : State) : Host.Outcome State Fault Refusal :=
  run (fun s => s.woGate (DCH_MIG_CTL.OP chan).addr (fun s => s.doMigAbort chan)) s

/-- MIG_COPY_SETT (R306): A migration copies one sett of the source rank to the destination under its per-period quota. -/
def execMigCopySett (devs : SMap Nat) (s : State) (ok0 : Bool := true) (ok36 : Bool := true) : Host.Outcome State Fault Refusal :=
  run (fun s => s.doMigCopy devs (ok0, ok36)) s

/-- ROW_IDLE_CLOSE (R287): A bank whose row has been open and idle for OPEN_MAX × 4 ns has that row closed by the channel
engine. -/
def execRowIdleClose (chan rank bank : Nat) (s : State) : Host.Outcome State Fault Refusal :=
  run (fun s => s.doRowIdle chan rank bank) s

/-- RANK_STOPS_ANSWERING (R310): A DRAM rank stops answering commands at run time, is declared dead and raises EV(6c + 2),
with Hold as the default reaction. -/
def execRankStopsAnswering (chan rank : Nat) (s : State) : Host.Outcome State Fault Refusal :=
  run (fun s => s.doRankSilent chan rank) s

end Sys2Proof.Machine
end

