-- ==== Sys2Proof/Machine/FltCmd.lean ====
section
/-! DEFINITION. Meanings of commands: faults and reactions (chapter 18). -/

namespace Sys2Proof.Machine

/-- WINDOW_ROLLOVER (R512): 2 µs after a window boundary FLT moves CUR into PREV for the class's sources. -/
def execWindowRollover (cls : Nat) (s : State) : Host.Outcome State Fault Refusal :=
  run (fun s => s.doRollover cls) s

/-- PARITY_CHECK (R522): Every 32 ticks the checker reads the FLT map and threshold registers and enters Hold on a parity
fault. -/
def execParityCheck (bad : Bool) (s : State) : Host.Outcome State Fault Refusal :=
  run (fun s => s.doParity bad) s

/-- FLT_WARM_RESET (R523): FLT_CMD WARM_RESET requests a warm chip reset. -/
def execFltWarmReset (s : State) : Host.Outcome State Fault Refusal :=
  run (fun s => s.doFltReset) s

/-- FLT_INJECT (R528): FLT_CMD INJECT raises a source as if by its owner. -/
def execFltInject (src : Nat) (s : State) : Host.Outcome State Fault Refusal :=
  run (fun s => s.doInjectRaise src) s

/-- FLT_IRQQ_POP (R525): Writing FLT_IRQQ_POP removes the head entry of the interrupt queue. -/
def execFltIrqqPop (s : State) : Host.Outcome State Fault Refusal :=
  run (fun s => s.doIrqPop) s

/-- FLT_FFC_CLEAR (R521): Writing 1 to FLT_FFC.VALID clears the first-fault record. -/
def execFltFfcClear (s : State) : Host.Outcome State Fault Refusal :=
  run (fun s => s.doFfcClear) s

/-- WATCHDOG_EXPIRY (R578): The watchdog count reaches zero or gets a wrong kick, raising EV681 and acting under ACTION. -/
def execWatchdogExpiry (s : State) : Host.Outcome State Fault Refusal :=
  run (fun s => s.doWatchdog) s

/-- SEAM_RETRY_EXHAUSTED (R510): A die-to-die seam SM0–SM3 exhausts its link-level retries and raises EV690 to EV693, whose
default escalation is Hold. -/
def execSeamRetryExhausted (seam : Nat) (s : State) : Host.Outcome State Fault Refusal :=
  run (fun s => s.doSeam seam) s

/-- FOREMAN_EXCEPTION (R510): A Foreman core takes an exception that its firmware does not handle, raising EV680, which by
default traps and then resets the cluster. -/
def execForemanException (_core : Nat) (s : State) : Host.Outcome State Fault Refusal :=
  run (fun s => s.doException) s

end Sys2Proof.Machine
end

