-- ==== Sys2Proof/Machine/FwmCmd.lean ====
section
/-! DEFINITION. Meanings of commands: firmware slots and the watchdog (chapter 21). -/

namespace Sys2Proof.Machine

/-- FOREMAN_CORES_RELEASED (R579): The boot ROM finishes reloading and verifying the slot and releases the cores. -/
def execForemanCoresReleased (s : State) : Host.Outcome State Fault Refusal :=
  run (fun s => s.doCoresReleased) s

/-- FWM_WDT_KICK (R578): Writing the key to FWM_WDT_KICK restarts the watchdog count. -/
def execFwmWdtKick (key : Word) (s : State) : Host.Outcome State Fault Refusal :=
  run (fun s => s.doKick key) s

/-- FWM_ALIVE (R571): Writing FWM_ALIVE starts the watchdog's regular count and confirms a trial slot as ACTIVE. -/
def execFwmAlive (key : Word) (ok0 ok36 : Bool) (s : State) : Host.Outcome State Fault Refusal :=
  run (fun s => s.doAlive key ok0 ok36) s

/-- FWM_STAGE_OPEN (R574): FWM_CMD STAGE_OPEN erases the next block of the non-booted slot. -/
def execFwmStageOpen (slot : Nat) (ok : Bool) (s : State) (ok36 : Bool := true) : Host.Outcome State Fault Refusal :=
  run (fun s => s.doStageOpen slot (ok, ok36)) s

/-- FWM_STAGE_DATA (R574): A write of FWM_STAGE_DATA stores a word, programming each page as it fills. -/
def execFwmStageData (data : Word) (ok : Bool) (s : State) (ok36 : Bool := true) : Host.Outcome State Fault Refusal :=
  run (fun s => s.doStageData data (ok, ok36)) s

/-- FWM_STAGE_SEAL (R574): FWM_CMD STAGE_SEAL programs the last page, checks the image and programs the seal page. -/
def execFwmStageSeal (slot : Nat) (ok : Bool) (s : State) (ok36 : Bool := true) : Host.Outcome State Fault Refusal :=
  run (fun s => s.doStageSeal slot (ok, ok36)) s

/-- FWM_SELECT_NEXT (R576): FWM_CMD SELECT_NEXT writes the boot selector to try the sealed slot. -/
def execFwmSelectNext (slot : Nat) (ok0 ok36 : Bool) (s : State) : Host.Outcome State Fault Refusal :=
  run (fun s => s.doSelectNext slot ok0 ok36) s

/-- FWM_ACTIVATE_NOW (R576): FWM_CMD ACTIVATE_NOW holds the cores in reset and has the boot ROM load the slot on trial. -/
def execFwmActivateNow (s : State) : Host.Outcome State Fault Refusal :=
  run (fun s => s.doActivateNow) s

/-- FWM_ABORT (R582): FWM_CMD ABORT ends a staging transfer and leaves the slot unsealed. -/
def execFwmAbort (s : State) : Host.Outcome State Fault Refusal :=
  run (fun s => s.doFwAbort) s

/-- FWM_BLOW (R581): FWM_CMD BLOW blows one more rollback fuse bit when the booted copy and slot allow it. -/
def execFwmBlow (s : State) : Host.Outcome State Fault Refusal :=
  run (fun s => s.doBlow) s

end Sys2Proof.Machine
end

