-- ==== Sys2Proof/Machine/GalCmd.lean ====
section
/-! DEFINITION. Meanings of commands: the twin pair (chapter 15). -/

namespace Sys2Proof.Machine

/-- GALLERY_LINK_TRAINED (R435): A Gallery link trains and sends HELLO. -/
def execGalleryLinkTrained (link rate width : Nat) (s : State) : Host.Outcome State Fault Refusal :=
  run (fun s => s.doGalTrained link rate width) s

/-- HELLO (R435): A received HELLO is checked for PAIR_ID, ROLE and pair digest, and pairing or rejoin proceeds. -/
def execHello (link : Nat) (h : HelloIn) (s : State) : Host.Outcome State Fault Refusal :=
  run (fun s => s.doHello link h) s

/-- HEARTBEAT (R443): A received HEARTBEAT updates the twin's chip and margin state for the combined margin. -/
def execHeartbeat (link chip margin : Nat) (epoch : BitVec 64) (_next : Nat) (s : State) (replays : Nat := 0) : Host.Outcome State Fault Refusal :=
  run (fun s => (s.noteReplays link replays).doHeartbeat link chip margin epoch) s

/-- HEARTBEAT_SEND (R445): Each ledger period the sled sends HEARTBEAT on every up link. -/
def execHeartbeatSend (s : State) : Host.Outcome State Fault Refusal :=
  run (fun s => s.doHeartbeatSend) s

/-- MIRROR (R440): A received MIRROR write is looked up in stream order and acknowledged. -/
def execMirror (seq face dpa : Nat) (data : Line) (mask : BitVec 64) (poison : Bool) (s : State) (devs : Nat := 0) (sram : List (Nat × SramErr) := []) (bad : Bool := false) : Host.Outcome State Fault Refusal :=
  run (fun s => ((s.sramAll sram).hubErr bad).doMirror seq face dpa data mask poison devs) s

/-- FWD (R440): The keeper receives a forwarded write, looks it up and sends ORDER. -/
def execFwd (tag face dpa : Nat) (data : Line) (mask : BitVec 64) (poison : Bool) (s : State) (devs : Nat := 0) (sram : List (Nat × SramErr) := []) : Host.Outcome State Fault Refusal :=
  run (fun s => (s.sramAll sram).doFwd tag face dpa data mask poison devs) s

/-- ORDER (R440): A received ORDER lets the sled look up its held write and acknowledge it. -/
def execOrder (seq tag : Nat) (s : State) : Host.Outcome State Fault Refusal :=
  run (fun s => s.doOrder seq tag) s

/-- ACK (R440): A received ACK completes writes whose mirroring it covers. -/
def execAck (seq : Nat) (map : BitVec 512) (s : State) : Host.Outcome State Fault Refusal :=
  run (fun s => s.doAck seq map) s

/-- GALLERY_FENCE (R447): A received FENCE puts an Open or Restoring sled into single-sled mode at once. -/
def execGalleryFence (sub : Nat) (s : State) : Host.Outcome State Fault Refusal :=
  run (fun s => s.doGalFence sub) s

/-- RECOVER_REQ (R450): A received RECOVER_REQ answers a sett or line from DRAM, or LOST or UNAVAILABLE. -/
def execRecoverReq (tag sub face addr : Nat) (s : State) (devs : SMap Nat := []) : Host.Outcome State Fault Refusal :=
  run (fun s => s.doRecoverReq tag sub face addr devs) s

/-- RECOVER_DATA (R450): Received RECOVER_DATA is written as a Gallery write through admission. -/
def execRecoverData (tag sub offset : Nat) (lines : List Line) (s : State) : Host.Outcome State Fault Refusal :=
  run (fun s => s.doRecoverData tag sub offset lines) s

/-- RSLV_DATA (R454): A received resilver chunk, ZERO or LOST is written into the joiner's sett. -/
def execRslvData (seq sub sett chunk : Nat) (lines : List Line) (s : State) : Host.Outcome State Fault Refusal :=
  run (fun s => s.doRslvData seq sub sett chunk lines) s

/-- RSLV_SLAB_DONE (R454): A received SLAB_DONE clears RSLV on the slab at the joiner. -/
def execRslvSlabDone (seq slab : Nat) (s : State) : Host.Outcome State Fault Refusal :=
  run (fun s => s.doSlabDone seq slab) s

/-- RSLV_LIST (R453): A received list of RSLV slabs sets RSLV on each at the survivor. -/
def execRslvList (slabs : List Nat) (last : Bool) (s : State) : Host.Outcome State Fault Refusal :=
  run (fun s => s.doRslvList slabs last) s

/-- LINE_LIST (R452): A received pending-line list makes the keeper send its restored lines as LINE_DATA. -/
def execLineList (lines : List (Nat × Nat)) (last : Bool) (s : State) : Host.Outcome State Fault Refusal :=
  run (fun s => s.doLineList lines last) s

/-- LINE_DATA (R452): Received LINE_DATA is written as a Gallery write and acknowledged. -/
def execLineData (seq face dpa : Nat) (data : Line) (poison : Bool) (s : State) : Host.Outcome State Fault Refusal :=
  run (fun s => s.doLineData seq face dpa data poison) s

/-- CTRL_DC_ADD (R457): A received CTRL DC_ADD grants the chosen pool blocks on the twin, or refuses. -/
def execCtrlDcAdd (seq face first : Nat) (pool : List Nat) (s : State) : Host.Outcome State Fault Refusal :=
  run (fun s => s.doCtrlAdd seq face first pool) s

/-- CTRL_DC_RELEASE (R457): A received CTRL DC_RELEASE runs the release on the twin. -/
def execCtrlDcRelease (seq face block count : Nat) (s : State) : Host.Outcome State Fault Refusal :=
  run (fun s => s.doCtrlRelease seq face block count) s

/-- CTRL_ZERO_FACE (R457): A received CTRL ZERO_FACE runs the face zeroing on the twin. -/
def execCtrlZeroFace (seq face : Nat) (s : State) : Host.Outcome State Fault Refusal :=
  run (fun s => s.doCtrlZero seq face) s

/-- CTRL_ERASE (R457): A received CTRL ERASE runs Secure Erase or Sanitize on the twin with its own keys. -/
def execCtrlErase (seq face opcode : Nat) (s : State) : Host.Outcome State Fault Refusal :=
  run (fun s => s.doCtrlErase seq face opcode) s

/-- CTRL_LSA (R457): A received CTRL LSA programs the label storage area on the twin. -/
def execCtrlLsa (seq face offset : Nat) (bytes : List Byte) (ok0 ok36 : Bool) (s : State) : Host.Outcome State Fault Refusal :=
  run (fun s => s.doCtrlLsa seq face offset bytes ok0 ok36) s

/-- CTRL_SHUTDOWN_STATE (R457): A received CTRL SHUTDOWN_STATE stores the shutdown state on the twin. -/
def execCtrlShutdownState (seq face value : Nat) (ok0 ok36 : Bool) (s : State) : Host.Outcome State Fault Refusal :=
  run (fun s => s.doCtrlShutdown seq face value ok0 ok36) s

/-- CTRL_DONE (R457): A received CTRL DONE lets the originating sled post the operation's return. -/
def execCtrlDone (seq sub face : Nat) (ok : Bool) (s : State) : Host.Outcome State Fault Refusal :=
  run (fun s => s.doCtrlDone seq sub face ok) s

/-- RESILVER_SETT (R454): The survivor reads a settled sett of an RSLV slab and sends it in its stream. -/
def execResilverSett (s : State) (devs : SMap Nat := []) : Host.Outcome State Fault Refusal :=
  run (fun s => s.doResilver devs) s

/-- GALLERY_LINK_DOWN (R445): A link with no valid flit for HB_MISS periods is declared down; losing the last link starts
R446. -/
def execGalleryLinkDown (link : Nat) (s : State) : Host.Outcome State Fault Refusal :=
  run (fun s => s.doGalDown link) s

/-- GALLERY_GRACE_EXPIRY (R446): GRACE periods after losing the Gallery, a sled enters single-sled mode. -/
def execGalleryGraceExpiry (s : State) : Host.Outcome State Fault Refusal :=
  run (fun s => s.doGrace) s

/-- JOIN_WAIT_EXPIRY (R452): A restoring sled that waited JOIN_WAIT periods without a HELLO decides as R446. -/
def execJoinWaitExpiry (s : State) : Host.Outcome State Fault Refusal :=
  run (fun s => s.doJoinWait) s

/-- GALLERY_RETRAIN (R445): A down Gallery link retrains every 32,768 ticks. -/
def execGalleryRetrain (link : Nat) (s : State) : Host.Outcome State Fault Refusal :=
  run (fun s => s.doGalRetrain link) s

/-- GAL_TAKEOVER (R460): Writing the key to GAL_TAKEOVER makes a FENCED or DIVERGED sled serve alone. -/
def execGalTakeover (key : Word) (s : State) : Host.Outcome State Fault Refusal :=
  run (fun s => s.woGate GAL_TAKEOVER.KEY.addr (fun s => s.doTakeover key)) s

/-- TWIN_STATUS_READ (R558): The sled reads its twin's status word on TW7 when R446 needs it or once a second with no link. -/
def execTwinStatusRead (word : Option Word) (absent : Bool) (s : State) : Host.Outcome State Fault Refusal :=
  run (fun s => s.doTwinRead word absent) s

/-- TW7_STATUS_COMMAND (R558): The twin's TW7 command 0x20 is answered with this sled's twin status word. -/
def execTw7StatusCommand (s : State) : Host.Outcome State Fault Refusal :=
  run (fun s => s.doTw7Status) s

/-- TW7_ALERT (R558): The twin pulls TW7 ALERT on a chip-state change and the sled reads its status word. -/
def execTw7Alert (word : Option Word) (absent : Bool) (s : State) : Host.Outcome State Fault Refusal :=
  run (fun s => s.doTwinRead word absent) s

end Sys2Proof.Machine
end

