-- ==== Sys2Proof/Machine/HaulCmd.lean ====
section
/-! DEFINITION. Meanings of commands: hauling and the power-fail save (chapter 07). -/

namespace Sys2Proof.Machine

/-- HAUL_SELECT (R180): The Haul engine selects an eligible Dirty sett, coldest first, and enters it in the in-flight table.
-/
def execHaulSelect (s : State) (sram : List (Nat × SramErr) := []) (haul : Nat := 0) : Host.Outcome State Fault Refusal :=
  run (fun s => ((s.sramAll sram).haulErr haul).doHaulSelect) s

/-- HAUL_DRAM_READ_DONE (R183): A haul's DRAM read finishes; an all-zero sett goes to the map update and other setts go to the
cipher. -/
def execHaulDramReadDone (sett : Nat) (devs : SMap Nat) (s : State) : Host.Outcome State Fault Refusal :=
  run (fun s => s.doHaulRead sett devs) s

/-- HAUL_PAD_WAIT_EXPIRY (R184): A sett that waited PAD_WAIT ticks without a partner is paired with a pad. -/
def execHaulPadWaitExpiry (s : State) : Host.Outcome State Fault Refusal :=
  run (fun s => s.doPadWait) s

/-- CIPHER_PAGE_DONE (R412): A lane pair finishes a page and releases it only when both cores agree. -/
def execCipherPageDone (sett pair : Nat) (agree : Bool) (s : State) : Host.Outcome State Fault Refusal :=
  run (fun s => s.doPageDone sett pair agree) s

/-- KAT_COMPLETE (R413): A lane pair's known-answer test ends, returning it to service or taking it out. -/
def execKatComplete (pair : Nat) (pass : Bool) (s : State) : Host.Outcome State Fault Refusal :=
  run (fun s => s.doKatComplete pair pass) s

/-- STRIPE_PROGRAM_DONE (R188): A stripe's wordline program completes and each haul of it ends under R107. -/
def execStripeProgramDone (stripe : Nat) (s : State) : Host.Outcome State Fault Refusal :=
  run (fun s => s.doStripeDone stripe) s

/-- STRIPE_PROGRAM_FAIL (R250): A program fails; the block is marked BAD, its lode sealed, and both hauls of the stripe end
early. -/
def execStripeProgramFail (stripe channel : Nat) (s : State) : Host.Outcome State Fault Refusal :=
  run (fun s => s.doStripeFail stripe channel) s

/-- WORDLINE_PAD_TIMEOUT (R213): A TLC wordline that waited 32 ticks for its stripes is filled with pad stripes. -/
def execWordlinePadTimeout (group : Nat) (s : State) : Host.Outcome State Fault Refusal :=
  run (fun s => s.doWordlinePad group) s

/-- PFW_ASSERT (R182): PFW_N asserts; the Haul engine starts no new Stockpile stripe. -/
def execPfwAssert (s : State) : Host.Outcome State Fault Refusal :=
  run (fun s => s.doPfwAssert) s

/-- PFW_RELEASE (R182): PFW_N releases; the Haul engine starts stripes again. -/
def execPfwRelease (s : State) : Host.Outcome State Fault Refusal :=
  run (fun s => s.doPfwRelease) s

/-- PFW_MAX_EXPIRY (R485): A PFW_N assertion lasts beyond PFW_MAX and raises EV655. -/
def execPfwMaxExpiry (s : State) : Host.Outcome State Fault Refusal :=
  run (fun s => s.doPfwMax) s

/-- PWR_LOSS (R482): PWR_LOSS_N is qualified low and starts a save. -/
def execPwrLoss (s : State) : Host.Outcome State Fault Refusal :=
  run (fun s => s.doPwrLoss) s

/-- INPUT_RAIL_LOSS (R483): The input sense stays below INPUT_LOW for INPUT_COUNT scans and starts a save. -/
def execInputRailLoss (s : State) : Host.Outcome State Fault Refusal :=
  run (fun s => s.doInputLoss) s

/-- SAVE_PARK (R203): HAUL_SAVE_CMD SAVE_PARK starts a save that ends in Parked. -/
def execSavePark (s : State) : Host.Outcome State Fault Refusal :=
  run (fun s => s.woGate HAUL_SAVE_CMD.OP.addr (fun s => s.doSaveCmd false)) s

/-- SAVE_OFF (R203): HAUL_SAVE_CMD SAVE_OFF starts a save that ends with bench-down. -/
def execSaveOff (s : State) : Host.Outcome State Fault Refusal :=
  run (fun s => s.woGate HAUL_SAVE_CMD.OP.addr (fun s => s.doSaveCmd true)) s

/-- SAVE_DRAIN (R192): Save step 2 drains all buffers into DRAM, settles in-flight hauls and latches D. -/
def execSaveDrain (s : State) : Host.Outcome State Fault Refusal :=
  run (fun s => s.doSaveDrain) s

/-- SAVE_SLAB_IMAGE (R92): Save step 3 powers ports down and copies every bank into its slab image in DRAM. -/
def execSaveSlabImage (s : State) : Host.Outcome State Fault Refusal :=
  run (fun s => s.doSlabImage) s

/-- SAVE_PSLC_SWITCH (R192): Save step 4 waits for TLC programs, switches to pSLC, ends erases and programs the START anchor.
-/
def execSavePslcSwitch (s : State) : Host.Outcome State Fault Refusal :=
  run (fun s => s.doPslcSwitch) s

/-- ANCHOR_PROGRAMMED (R196): An anchor page has reported program success on N00 and then N36 and counts as written. -/
def execAnchorProgrammed (ok0 ok36 : Bool) (s : State) : Host.Outcome State Fault Refusal :=
  run (fun s => s.doAnchor ok0 ok36) s

/-- SAVE_CARVE_DONE (R192): Save step 5 finishes writing the CARVE records and programs the META_DONE anchor. -/
def execSaveCarveDone (s : State) (inp : CarveIn := ⟨[], [], []⟩) : Host.Outcome State Fault Refusal :=
  run (fun s => s.doCarveDone inp) s

/-- SAVE_WALK_END (R194): The save walk has written a SAVE record for every Dirty sett in two passes. -/
def execSaveWalkEnd (inp : WalkIn) (s : State) : Host.Outcome State Fault Refusal :=
  run (fun s => s.doWalkEnd inp) s

/-- SAVE_MANIFEST_DONE (R198): Manifest records 0 to 36 are programmed, and the MARK record is programmed or withheld. -/
def execSaveManifestDone (failed : List RecFail) (s : State) (miss : List (Nat × Bool) := []) : Host.Outcome State Fault Refusal :=
  run (fun s => s.doManifest failed miss) s

/-- SAVE_SELF_REFRESH_DONE (R192): Save step 8 completes DRAM self-refresh entry. -/
def execSaveSelfRefreshDone (s : State) : Host.Outcome State Fault Refusal :=
  run (fun s => s.doSelfRefreshDone) s

/-- SAVE_END (R203): Save step 9 steps the benches down or ends in Parked or Hold, and the ledger sets LASTSAVE. -/
def execSaveEnd (s : State) : Host.Outcome State Fault Refusal :=
  run (fun s => s.doSaveEnd) s

/-- INPUT_POWER_GOOD (R484): PWR_LOSS_N and the input sense read good for RET_SCANS scans, counting as an on request and a
power return. -/
def execInputPowerGood (s : State) : Host.Outcome State Fault Refusal :=
  run (fun s => s.doInputGood) s

/-- PG00_WAIT_EXPIRY (R469): Under BSET 0b11, PG00 not qualified within 2.0 s raises EV618 once. -/
def execPg00WaitExpiry (s : State) : Host.Outcome State Fault Refusal :=
  run (fun s => s.doPg00Wait) s

end Sys2Proof.Machine
end

