-- ==== Sys2Proof/Machine/HostCmd.lean ====
section
/-! DEFINITION. Meanings of commands: host reads and writes, links, resets and flushes of a port (chapters 02, 06, 10 and 11). -/

namespace Sys2Proof.Machine

/-- MEM_RD (R393): A CXL.mem read looks up its sett and returns the newest looked-up data, poison, or waits for a parked write
or a fetch. -/
def execMemRd (port tag dpa devs : Nat) (sram : SramErr) (s : State) : Host.Outcome State Fault Refusal :=
  run (fun s => s.doMemRd port tag dpa devs sram) s

/-- MEM_WR (R21): A full-line CXL.mem write is accepted into the write buffer, looked up, admitted or parked, and completed
after its dirty bit is set. -/
def execMemWr (port tag dpa : Nat) (data : Line) (poison : Bool) (sram : SramErr) (s : State) : Host.Outcome State Fault Refusal :=
  run (fun s => s.doMemWr port tag dpa data poison sram) s

/-- MEM_WR_PTL (R25): A partial CXL.mem write changes only its enabled bytes through read-modify-write and is admitted like a
full write. -/
def execMemWrPtl (port tag dpa : Nat) (data : Line) (mask : BitVec 64) (devs : Nat) (sram : SramErr) (s : State) : Host.Outcome State Fault Refusal :=
  run (fun s => s.doMemWrPtl port tag dpa data mask devs sram) s

/-- PARKED_WRITE_ADMIT (R156): In its round-robin turn, ADM admits the head of a fresh queue while admission conditions hold,
releasing later entries for the same sett. -/
def execParkedWriteAdmit (s : State) (bad : Bool := false) : Host.Outcome State Fault Refusal :=
  run (fun s => (s.hubErr bad).doParkedAdmit) s

/-- DATA_WRITTEN_TO_DRAM (R21): Write data held in a port write buffer crosses the seam and is written to DRAM with ECC,
freeing its buffer entry. -/
def execDataWrittenToDram (port tag : Nat) (s : State) (crc : Bool := false) (bufErr : Bool := false) : Host.Outcome State Fault Refusal :=
  run (fun s => s.doDataWritten port tag crc bufErr) s

/-- FRESH_QUEUE_AGE_WARN (R175): The oldest parked write's age passes WARN_AGE, setting ADM_FQp.OLD and raising the port's
source. -/
def execFreshQueueAgeWarn (port : Nat) (s : State) : Host.Outcome State Fault Refusal :=
  run (fun s => s.doAgeWarn port) s

/-- GPF_PHASE1 (R33): A Global Persistent Flush Phase 1 request is answered at once, since there is no cache to write back. -/
def execGpfPhase1 (port : Nat) (s : State) : Host.Outcome State Fault Refusal :=
  run (fun s => s.doGpf1 port) s

/-- GPF_PHASE2 (R33): A Global Persistent Flush Phase 2 request drains the port's admitted writes into DRAM, then responds. -/
def execGpfPhase2 (port : Nat) (s : State) : Host.Outcome State Fault Refusal :=
  run (fun s => s.doGpf2 port) s

/-- CXL_RESET (R320): A CXL Reset of a face looks up pending writes, discards parked and waiting writes, drains admitted ones,
and resets link, IDE and mailbox state. -/
def execCxlReset (face : Nat) (s : State) : Host.Outcome State Fault Refusal :=
  run (fun s => s.doFaceReset face) s

/-- LINK_DOWN (R327): A port's link goes down; admitted writes are drained, parked and waiting writes are discarded, and the
port retrains. -/
def execLinkDown (port : Nat) (s : State) : Host.Outcome State Fault Refusal :=
  run (fun s => s.doLinkDown port) s

/-- LINK_TRAINED (R314): A host port's link trains at the best permitted rate and width, and requests resume. -/
def execLinkTrained (port rate width : Nat) (s : State) : Host.Outcome State Fault Refusal :=
  run (fun s => s.doLinkTrained port rate width) s

/-- LINK_TRAIN_RETRY (R314): A port that failed to train retries every 32,768 ticks. -/
def execLinkTrainRetry (port : Nat) (s : State) : Host.Outcome State Fault Refusal :=
  run (fun s => s.doTrainRetry port) s

/-- PERST_ASSERT (R601): PERST_N asserts on a port, holding its link in reset and handling its writes as for a link-down. -/
def execPerstAssert (port : Nat) (s : State) : Host.Outcome State Fault Refusal :=
  run (fun s => s.doPerstAssert port) s

/-- PERST_RELEASE (R601): PERST_N releases, and the port's link trains once its island is ON. -/
def execPerstRelease (port : Nat) (s : State) : Host.Outcome State Fault Refusal :=
  run (fun s => s.doPerstRelease port) s

/-- IDE_KEY_PROGRAMMING (R325): The host programs a port's IDE keys with CXL IDE key-programming messages over an SPDM
session. -/
def execIdeKeyProgramming (port : Nat) (s : State) (io : Option Nat := none) : Host.Outcome State Fault Refusal :=
  run (fun s => s.doIdeKeys port io) s

/-- IDE_INTEGRITY_FAILURE (R326): An IDE integrity failure makes the stream insecure, drops unreleased flits and takes the
link down. -/
def execIdeIntegrityFailure (port : Nat) (s : State) (held : Nat := 0) : Host.Outcome State Fault Refusal :=
  run (fun s => s.doIdeFail port held) s

/-- SPDM_REQUEST (R325): A host sends a CMA/SPDM 1.2 request over DOE, for example to authenticate the device or to set up the
secure session that IDE key programming needs. -/
def execSpdmRequest (port code : Nat) (session : Bool) (s : State) (cdat : Option Nat := none) : Host.Outcome State Fault Refusal :=
  run (fun s => s.doSpdm port code session cdat) s

end Sys2Proof.Machine
end

