-- ==== Sys2Proof/Machine/JobCmd.lean ====
section
/-! DEFINITION. Meanings of commands: job rings (chapter 12). -/

namespace Sys2Proof.Machine

/-- SQ_TAIL_DOORBELL (R356): A write of SQ_TAIL to a ring's doorbell is latched, marks the ring pending, or halts it with
OVERRUN. -/
def execSqTailDoorbell (port ring value : Nat) (s : State) (bad : Bool := false) : Host.Outcome State Fault Refusal :=
  run (fun s => (s.ringErr ring bad).doSqTail port ring value) s

/-- CQ_HEAD_DOORBELL (R357): A write of CQ_HEAD to a ring's doorbell is latched, or ignored and counted when out of range. -/
def execCqHeadDoorbell (port ring value : Nat) (s : State) (bad : Bool := false) : Host.Outcome State Fault Refusal :=
  run (fun s => (s.ringErr ring bad).doCqHead port ring value) s

/-- JOB_COPY (R364): A COPY job copies SRC lines to DST in ascending order, copying poison as poison. -/
def execJobCopy (ring : Nat) (devs : SMap Nat) (s : State) (desc : Nat := 0) (sram : List (Nat × SramErr) := []) : Host.Outcome State Fault Refusal :=
  run (fun s => (s.sramAll sram).doJobCopy ring devs desc) s

/-- JOB_FILL (R365): A FILL job writes every DST line with the 64-bit pattern. -/
def execJobFill (ring : Nat) (s : State) (desc : Nat := 0) (sram : List (Nat × SramErr) := []) : Host.Outcome State Fault Refusal :=
  run (fun s => (s.sramAll sram).doJobFill ring desc) s

/-- JOB_CHECKPOINT (R366): A CHECKPOINT job hauls every Dirty sett of its range to the Stockpile in passes. -/
def execJobCheckpoint (ring : Nat) (s : State) (desc : Nat := 0) (sram : List (Nat × SramErr) := []) : Host.Outcome State Fault Refusal :=
  run (fun s => (s.sramAll sram).doJobCheckpoint ring desc) s

/-- CHECKPOINT_PASS_END (R366): A checkpoint pass ends once no sett of the range is in flight, and the job completes or runs
another pass. -/
def execCheckpointPassEnd (ring tag : Nat) (s : State) : Host.Outcome State Fault Refusal :=
  run (fun s => s.doPassEnd ring tag) s

/-- JOB_PIN (R367): A PIN job adds a pin record and sets PIN on every slab its range touches. -/
def execJobPin (ring : Nat) (s : State) (desc : Nat := 0) (sram : List (Nat × SramErr) := []) : Host.Outcome State Fault Refusal :=
  run (fun s => (s.sramAll sram).doJobPin ring desc) s

/-- JOB_UNPIN (R367): A PIN job with ARG0 bit 0 removes the matching pin record and clears PIN where no other record covers.
-/
def execJobUnpin (ring : Nat) (s : State) (desc : Nat := 0) (sram : List (Nat × SramErr) := []) : Host.Outcome State Fault Refusal :=
  run (fun s => (s.sramAll sram).doJobUnpin ring desc) s

/-- JOB_PREFETCH_RESTORE (R370): A PREFETCH_RESTORE job queues the range's Unrestored slabs for fetch and completes when all
are Resident. -/
def execJobPrefetchRestore (ring : Nat) (s : State) (desc : Nat := 0) (sram : List (Nat × SramErr) := []) : Host.Outcome State Fault Refusal :=
  run (fun s => (s.sramAll sram).doJobPrefetch ring desc) s

/-- JOB_TRANSFORM (R368): A TRANSFORM job runs AES-256 in the chosen mode from SRC to DST under a transform slot. -/
def execJobTransform (ring : Nat) (s : State) (bad : List Nat := []) (devs : SMap Nat := []) (desc : Nat := 0) (sram : List (Nat × SramErr) := []) : Host.Outcome State Fault Refusal :=
  run (fun s => (s.sramAll sram).doJobTransform ring bad devs desc) s

/-- JOB_VERIFY (R369): A VERIFY job compares SRC and DST line by line and ends at the first difference or poison. -/
def execJobVerify (ring : Nat) (s : State) (src : SMap Nat := []) (dst : SMap Nat := []) (desc : Nat := 0) (sram : List (Nat × SramErr) := []) : Host.Outcome State Fault Refusal :=
  run (fun s => (s.sramAll sram).doJobVerify ring src dst desc) s

/-- JOB_ZERO_FACE (R402): A ZERO_FACE job sets JOBL, zeroes every sett of the face, empties its poison table and pins, then
disables its ring. -/
def execJobZeroFace (ring : Nat) (s : State) (desc : Nat := 0) (sram : List (Nat × SramErr) := []) : Host.Outcome State Fault Refusal :=
  run (fun s => (s.sramAll sram).doJobZeroFace ring desc) s

/-- RING_INTERRUPT_COALESCE_EXPIRY (R386): A ring's IMOD interval ends and its merged MSI-X interrupt is sent. -/
def execRingInterruptCoalesceExpiry (ring : Nat) (s : State) : Host.Outcome State Fault Refusal :=
  run (fun s => s.doCoalesce ring) s

end Sys2Proof.Machine
end

