-- ==== Sys2Proof/Machine/LedgerCmd.lean ====
section
/-! DEFINITION. Meanings of commands: the energy ledger, the ADC scan, the packs and the sensors (chapters 05, 06, 16 and 20). -/

namespace Sys2Proof.Machine

/-- LEDGER_UPDATE (R142): Every 32 ticks the ledger latches inputs, computes energy and the ceiling, and publishes C, T_A,
T_V, T_H and H. -/
def execLedgerUpdate (inp : LedgerIn) (s : State) : Host.Outcome State Fault Refusal :=
  run (fun s => s.doLedgerTick inp) s

/-- LEDGER_EXTRA_UPDATE (R143): After a pack becomes ABSENT or COLLAPSE-failed, the ledger runs one extra non-cadence update
at the next tick. -/
def execLedgerExtraUpdate (s : State) : Host.Outcome State Fault Refusal :=
  run (fun s => s.doLedgerExtra) s

/-- ADMISSION_REPORT_INTERVAL_END (R161): A margin change deferred by the one-second report interval is sent at its end with
the current state. -/
def execAdmissionReportIntervalEnd (face : Nat) (s : State) : Host.Outcome State Fault Refusal :=
  run (fun s => s.doReportEnd face) s

/-- ADC_SCAN (R462): The ADC completes a scan of S00–S47 and samples PG, BENCH_SYNC and SEQ_UP at its end. -/
def execAdcScan (inp : ScanIn) (s : State) : Host.Outcome State Fault Refusal :=
  run (fun s => s.doAdcScan inp) s

/-- GAUGE_READ (R126): Every second the ledger reads a pack's gauge words over TW1 or TW2 and replaces E_base. -/
def execGaugeRead (pack : Nat) (ans : Option GaugeIn) (s : State) : Host.Outcome State Fault Refusal :=
  run (fun s => s.doGaugeRead pack ans) s

/-- PACK_STALE (R133): No valid gauge reading for 60 s makes the pack FAILED with cause STALE. -/
def execPackStale (pack : Nat) (s : State) : Host.Outcome State Fault Refusal :=
  run (fun s => s.doPackStale pack) s

/-- PACK_NO_ANSWER (R510): No gauge answer from a COUNTED pack for 10 s raises EV585. -/
def execPackNoAnswer (pack : Nat) (s : State) : Host.Outcome State Fault Refusal :=
  run (fun s => s.doPackNoAnswer pack) s

/-- ESR_STALE (R131): Seven days without an ESR sample sets ESR_STALE and raises the pack's source. -/
def execEsrStale (pack : Nat) (s : State) : Host.Outcome State Fault Refusal :=
  run (fun s => s.doEsrStale pack) s

/-- LGR_REMOVE_REQUEST (R147): Writing 1 to a REMOVE bit requests planned removal of a pack, or is refused under R148. -/
def execLgrRemoveRequest (pack : Nat) (s : State) : Host.Outcome State Fault Refusal :=
  run (fun s => s.doRemoveRequest pack) s

/-- LGR_REMOVE_CANCEL (R147): Writing 0 to a REMOVE bit before the pack is pulled cancels the removal. -/
def execLgrRemoveCancel (pack : Nat) (s : State) : Host.Outcome State Fault Refusal :=
  run (fun s => s.doRemoveCancel pack) s

/-- WEAR_DAY_BOUNDARY (R171): At each day boundary ADM records the spend, resets it, and flags an overspent day. -/
def execWearDayBoundary (s : State) : Host.Outcome State Fault Refusal :=
  run (fun s => s.doWearDay) s

/-- SENSOR_READ (R557): Every 8,192 ticks TW3 and TW4 read each named temperature sensor. -/
def execSensorRead (port sensor : Nat) (raw : Option Nat) (s : State) : Host.Outcome State Fault Refusal :=
  run (fun s => s.doSensorRead port sensor raw) s

/-- SENSOR_STALE (R167): A sensor with no valid reading for 2.0 s counts at half HEAT_SPAN and raises its source. -/
def execSensorStale (port sensor : Nat) (s : State) : Host.Outcome State Fault Refusal :=
  run (fun s => s.doSensorStale port sensor) s

end Sys2Proof.Machine
end

