-- ==== Sys2Proof/Machine/MailCmd.lean ====
section
/-! DEFINITION. Meanings of commands: standard and vendor mailbox commands, and the FM API (chapters 11, 12, 14 and 15). -/

namespace Sys2Proof.Machine

/-- IDENTIFY (R332): Mailbox Identify returns the device identity for the face. -/
def execIdentify (face : Nat) (s : State) : Host.Outcome State Fault Refusal :=
  run (fun s => s.mailHold face (.identify face) (fun s => s.doIdentify face)) s

/-- BACKGROUND_OPERATION_STATUS (R332): Mailbox Background Operation Status reports the state of the face's background
command. -/
def execBackgroundOperationStatus (face : Nat) (s : State) : Host.Outcome State Fault Refusal :=
  run (fun s => s.mailHold face (.backgroundOperationStatus face) (fun s => s.doBgStatus face)) s

/-- GET_EVENT_RECORDS (R329): Mailbox Get Event Records returns records from one of the face's four event logs. -/
def execGetEventRecords (face log : Nat) (s : State) : Host.Outcome State Fault Refusal :=
  run (fun s => s.mailHold face (.getEventRecords face log) (fun s => s.doGetEvents face log)) s

/-- CLEAR_EVENT_RECORDS (R329): Mailbox Clear Event Records removes records from one of the face's event logs. -/
def execClearEventRecords (face log : Nat) (all : Bool) (handles : List Nat) (s : State) : Host.Outcome State Fault Refusal :=
  run (fun s => s.mailHold face (.clearEventRecords face log all handles) (fun s => s.doClearEvents face log all handles)) s

/-- GET_EVENT_INTERRUPT_POLICY (R332): Mailbox Get Event Interrupt Policy returns the face's MSI/MSI-X event policy. -/
def execGetEventInterruptPolicy (face : Nat) (s : State) : Host.Outcome State Fault Refusal :=
  run (fun s => s.mailHold face (.getEventInterruptPolicy face) (fun s => s.doGetPolicy face)) s

/-- SET_EVENT_INTERRUPT_POLICY (R332): Mailbox Set Event Interrupt Policy sets the face's MSI/MSI-X event policy. -/
def execSetEventInterruptPolicy (face : Nat) (policy : List Nat) (s : State) : Host.Outcome State Fault Refusal :=
  run (fun s => s.mailHold face (.setEventInterruptPolicy face policy) (fun s => s.doSetPolicy face policy)) s

/-- GET_FW_INFO (R575): Mailbox Get FW Info reports slots, active and staged slot, and slot revisions. -/
def execGetFwInfo (face : Nat) (s : State) : Host.Outcome State Fault Refusal :=
  run (fun s => s.mailHold face (.getFwInfo face) (fun s => s.doFwInfo face)) s

/-- TRANSFER_FW (R574): Mailbox Transfer FW stages and seals a firmware image into the slot that did not boot. -/
def execTransferFw (face action slot offset : Nat) (words : List Word) (ok : Bool) (s : State) (ok36 : Bool := true) : Host.Outcome State Fault Refusal :=
  run (fun s => s.mailHold face (.transferFw face action slot offset words ok ok36) (fun s => s.doTransferFw face action slot offset words (ok, ok36))) s

/-- ACTIVATE_FW_ONLINE (R576): Mailbox Activate FW online puts the sealed slot on trial, hands off state and reloads the cores
with it. -/
def execActivateFwOnline (face slot : Nat) (ok0 ok36 : Bool) (s : State) : Host.Outcome State Fault Refusal :=
  run (fun s => s.mailHold face (.activateFwOnline face slot ok0 ok36) (fun s => s.doActivateFw face slot ok0 ok36 true)) s

/-- ACTIVATE_FW_NEXT_RESET (R576): Mailbox Activate FW for next cold reset writes the selector with TRIAL 1 and TRIES 0. -/
def execActivateFwNextReset (face slot : Nat) (ok0 ok36 : Bool) (s : State) : Host.Outcome State Fault Refusal :=
  run (fun s => s.mailHold face (.activateFwNextReset face slot ok0 ok36) (fun s => s.doActivateFw face slot ok0 ok36 false)) s

/-- GET_TIMESTAMP (R332): Mailbox Get Timestamp returns the device timestamp. -/
def execGetTimestamp (face : Nat) (s : State) : Host.Outcome State Fault Refusal :=
  run (fun s => s.mailHold face (.getTimestamp face) (fun s => s.doGetStamp face)) s

/-- SET_TIMESTAMP (R332): Mailbox Set Timestamp sets the single device timestamp; the last set from any face wins. -/
def execSetTimestamp (face stamp : Nat) (s : State) : Host.Outcome State Fault Refusal :=
  run (fun s => s.mailHold face (.setTimestamp face stamp) (fun s => s.doSetStamp face stamp)) s

/-- GET_SUPPORTED_LOGS (R332): Mailbox Get Supported Logs lists the Command Effects Log. -/
def execGetSupportedLogs (face : Nat) (s : State) : Host.Outcome State Fault Refusal :=
  run (fun s => s.mailHold face (.getSupportedLogs face) (fun s => s.doGetLogs face)) s

/-- GET_LOG (R332): Mailbox Get Log returns the Command Effects Log. -/
def execGetLog (face uuid offset len : Nat) (s : State) : Host.Outcome State Fault Refusal :=
  run (fun s => s.mailHold face (.getLog face uuid offset len) (fun s => s.doGetLog face uuid offset len)) s

/-- GET_SUPPORTED_FEATURES (R332): Mailbox Get Supported Features lists the face's features, including the vendor features. -/
def execGetSupportedFeatures (face : Nat) (s : State) : Host.Outcome State Fault Refusal :=
  run (fun s => s.mailHold face (.getSupportedFeatures face) (fun s => s.doGetFeatures face)) s

/-- GET_FEATURE (R385): Mailbox Get Feature returns a feature such as Job Limits or Media Key Status. -/
def execGetFeature (face feature : Nat) (s : State) : Host.Outcome State Fault Refusal :=
  run (fun s => s.mailHold face (.getFeature face feature) (fun s => s.doGetFeature face feature)) s

/-- SET_FEATURE (R385): Mailbox Set Feature changes a changeable feature and returns Unsupported for the fixed vendor
features. -/
def execSetFeature (face feature : Nat) (value : List Nat) (s : State) : Host.Outcome State Fault Refusal :=
  run (fun s => s.mailHold face (.setFeature face feature value) (fun s => s.doSetFeature face)) s

/-- IDENTIFY_MEMORY_DEVICE (R318): Mailbox Identify Memory Device reports the face's capacities and limits from the Survey
image. -/
def execIdentifyMemoryDevice (face : Nat) (s : State) : Host.Outcome State Fault Refusal :=
  run (fun s => s.mailHold face (.identifyMemoryDevice face) (fun s => s.doIdentifyMem face)) s

/-- GET_PARTITION_INFO (R332): Mailbox Get Partition Info reports all capacity as persistent. -/
def execGetPartitionInfo (face : Nat) (s : State) : Host.Outcome State Fault Refusal :=
  run (fun s => s.mailHold face (.getPartitionInfo face) (fun s => s.doGetPartition face)) s

/-- SET_PARTITION_INFO (R317): Mailbox Set Partition Info returns Unsupported, since there is no partitioning. -/
def execSetPartitionInfo (face : Nat) (s : State) : Host.Outcome State Fault Refusal :=
  run (fun s => s.mailHold face (.setPartitionInfo face) (fun s => s.doUnsupported face 0x4101)) s

/-- MAILBOX_UNSUPPORTED (R332): A standard or vendor opcode not served by the face returns Unsupported. -/
def execMailboxUnsupported (face opcode : Nat) (s : State) : Host.Outcome State Fault Refusal :=
  run (fun s => s.mailHold face (.mailboxUnsupported face opcode) (fun s => s.doOther face opcode)) s

/-- GET_LSA (R332): Mailbox Get LSA returns bytes of the face's label storage area. -/
def execGetLsa (face offset len : Nat) (s : State) : Host.Outcome State Fault Refusal :=
  run (fun s => s.mailHold face (.getLsa face offset len) (fun s => s.doGetLsa face offset len)) s

/-- SET_LSA (R334): Mailbox Set LSA programs the label storage area in the health area on N00 and N36 before returning. -/
def execSetLsa (face offset : Nat) (bytes : List Byte) (ok0 ok36 : Bool) (s : State) : Host.Outcome State Fault Refusal :=
  run (fun s => s.mailHold face (.setLsa face offset bytes ok0 ok36) (fun s => s.doSetLsa face offset bytes ok0 ok36)) s

/-- GET_HEALTH_INFO (R333): Mailbox Get Health Info reports health status, media status, life used, temperature, dirty
shutdown count and error counts. -/
def execGetHealthInfo (face : Nat) (s : State) : Host.Outcome State Fault Refusal :=
  run (fun s => s.mailHold face (.getHealthInfo face) (fun s => s.doHealth face)) s

/-- GET_ALERT_CONFIGURATION (R332): Mailbox Get Alert Configuration returns life-used and temperature alert thresholds. -/
def execGetAlertConfiguration (face : Nat) (s : State) : Host.Outcome State Fault Refusal :=
  run (fun s => s.mailHold face (.getAlertConfiguration face) (fun s => s.doGetAlert face)) s

/-- SET_ALERT_CONFIGURATION (R332): Mailbox Set Alert Configuration sets life-used and temperature alert thresholds. -/
def execSetAlertConfiguration (face life hot cold : Nat) (s : State) : Host.Outcome State Fault Refusal :=
  run (fun s => s.mailHold face (.setAlertConfiguration face life hot cold) (fun s => s.doSetAlert face life hot cold)) s

/-- GET_SHUTDOWN_STATE (R40): Mailbox Get Shutdown State returns the value last stored by Set Shutdown State. -/
def execGetShutdownState (face : Nat) (s : State) : Host.Outcome State Fault Refusal :=
  run (fun s => s.mailHold face (.getShutdownState face) (fun s => s.doGetShutdown face)) s

/-- SET_SHUTDOWN_STATE (R40): Mailbox Set Shutdown State stores the face's shutdown state in the health area. -/
def execSetShutdownState (face value : Nat) (ok0 ok36 : Bool) (s : State) : Host.Outcome State Fault Refusal :=
  run (fun s => s.mailHold face (.setShutdownState face value ok0 ok36) (fun s => s.doSetShutdown face value ok0 ok36)) s

/-- GET_POISON_LIST (R37): Mailbox Get Poison List reports each valid poison-table record as a media error record. -/
def execGetPoisonList (face dpa lines : Nat) (s : State) : Host.Outcome State Fault Refusal :=
  run (fun s => s.mailHold face (.getPoisonList face dpa lines) (fun s => s.doPoisonList face dpa lines)) s

/-- INJECT_POISON (R317): Mailbox Inject Poison poisons a range, refused when it would hold a 65th injected range. -/
def execInjectPoison (face dpa : Nat) (s : State) : Host.Outcome State Fault Refusal :=
  run (fun s => s.mailHold face (.injectPoison face dpa) (fun s => s.doInject face dpa)) s

/-- CLEAR_POISON (R38): Mailbox Clear Poison replaces poisoned lines and shrinks or splits the holding range. -/
def execClearPoison (face dpa : Nat) (data : Line) (s : State) : Host.Outcome State Fault Refusal :=
  run (fun s => s.mailHold face (.clearPoison face dpa data) (fun s => s.doClearPoison face dpa data)) s

/-- GET_SCAN_MEDIA_CAPABILITIES (R332): Mailbox Get Scan Media Capabilities reports scan capabilities for a range. -/
def execGetScanMediaCapabilities (face dpa lines : Nat) (s : State) : Host.Outcome State Fault Refusal :=
  run (fun s => s.mailHold face (.getScanMediaCapabilities face dpa lines) (fun s => s.doScanCaps face dpa lines)) s

/-- SCAN_MEDIA (R332): Mailbox Scan Media reads every line of a range as a background operation and records the poison it
finds. -/
def execScanMedia (face dpa lines : Nat) (devs : SMap Nat) (s : State) : Host.Outcome State Fault Refusal :=
  run (fun s => s.mailHold face (.scanMedia face dpa lines devs) (fun s => s.doScan face dpa lines devs)) s

/-- GET_SCAN_MEDIA_RESULTS (R332): Mailbox Get Scan Media Results returns the poison found by the last scan. -/
def execGetScanMediaResults (face : Nat) (s : State) : Host.Outcome State Fault Refusal :=
  run (fun s => s.mailHold face (.getScanMediaResults face) (fun s => s.doScanResults face)) s

/-- SANITIZE (R332): Mailbox Sanitize cryptographically erases the face, zeroes its setts and erases lodes under the old keys.
-/
def execSanitize (face : Nat) (s : State) : Host.Outcome State Fault Refusal :=
  run (fun s => s.mailHold face (.sanitize face) (fun s => s.doSanitize face)) s

/-- SECURE_ERASE (R427): Mailbox Secure Erase zeroizes the face's key pair, generates a new key and makes every sett Zero. -/
def execSecureErase (face : Nat) (s : State) : Host.Outcome State Fault Refusal :=
  run (fun s => s.mailHold face (.secureErase face) (fun s => s.doSecureErase face)) s

/-- GET_DC_CONFIGURATION (R318): Mailbox Get DC Configuration reports the face's Dynamic Capacity region. -/
def execGetDcConfiguration (face : Nat) (s : State) : Host.Outcome State Fault Refusal :=
  run (fun s => s.mailHold face (.getDcConfiguration face) (fun s => s.doDcConfig face)) s

/-- GET_DC_EXTENT_LIST (R332): Mailbox Get DC Extent List returns the face's granted extents. -/
def execGetDcExtentList (face : Nat) (s : State) : Host.Outcome State Fault Refusal :=
  run (fun s => s.mailHold face (.getDcExtentList face) (fun s => s.doDcExtents face)) s

/-- ADD_DC_RESPONSE (R323): The host's Add Dynamic Capacity Response accepts or rejects a pending extent. -/
def execAddDcResponse (face block : Nat) (accept : Bool) (s : State) : Host.Outcome State Fault Refusal :=
  run (fun s => s.mailHold face (.addDcResponse face block accept) (fun s => s.doDcResponse face block accept)) s

/-- RELEASE_DC (R324): Mailbox Release Dynamic Capacity sets RELQ, drains, zeroes and unowns each 256 MiB block, then returns.
-/
def execReleaseDc (face block count : Nat) (s : State) : Host.Outcome State Fault Refusal :=
  run (fun s => s.mailHold face (.releaseDc face block count) (fun s => s.doReleaseDc face block count)) s

/-- NEGOTIATE_FEATURES (R340): Vendor Negotiate Features stores and applies REQUEST AND SUPPORTED as the face's feature word.
-/
def execNegotiateFeatures (face : Nat) (request : BitVec 128) (ok0 ok36 : Bool) (s : State) : Host.Outcome State Fault Refusal :=
  run (fun s => s.mailHold face (.negotiateFeatures face request ok0 ok36) (fun s => s.doNegotiate face request ok0 ok36)) s

/-- HEAT_HINT (R343): Vendor Heat Hint sets the HEAT of the slabs behind each listed face block. -/
def execHeatHint (face : Nat) (hints : List (Nat × Nat)) (s : State) : Host.Outcome State Fault Refusal :=
  run (fun s => s.mailHold face (.heatHint face hints) (fun s => s.doHeatHint face hints)) s

/-- GET_ENERGY_TELEMETRY (R344): Vendor Get Energy Telemetry returns ledger values read from one update. -/
def execGetEnergyTelemetry (face : Nat) (s : State) : Host.Outcome State Fault Refusal :=
  run (fun s => s.mailHold face (.getEnergyTelemetry face) (fun s => s.doTelemetry face)) s

/-- REQUEST_PACK_REMOVAL (R345): Vendor Request Pack Removal with CANCEL 0 requests or polls removal of a pack. -/
def execRequestPackRemoval (face pack : Nat) (s : State) : Host.Outcome State Fault Refusal :=
  run (fun s => s.mailHold face (.requestPackRemoval face pack) (fun s => s.doPackRequest face pack)) s

/-- CANCEL_PACK_REMOVAL (R345): Vendor Request Pack Removal with CANCEL 1 cancels a pending removal. -/
def execCancelPackRemoval (face pack : Nat) (s : State) : Host.Outcome State Fault Refusal :=
  run (fun s => s.mailHold face (.cancelPackRemoval face pack) (fun s => s.doPackCancel face pack)) s

/-- TRANSFER_SURVEY_DATA (R346): Vendor Transfer Survey Image with ACTION data writes a chunk into the staging buffer. -/
def execTransferSurveyData (face offset : Nat) (words : List Word) (s : State) : Host.Outcome State Fault Refusal :=
  run (fun s => s.mailHold face (.transferSurveyData face offset words) (fun s => s.doSurveyData face offset words)) s

/-- TRANSFER_SURVEY_VERIFY (R346): Vendor Transfer Survey Image with ACTION VERIFY issues SVY VERIFY. -/
def execTransferSurveyVerify (face : Nat) (s : State) : Host.Outcome State Fault Refusal :=
  run (fun s => s.mailHold face (.transferSurveyVerify face) (fun s => s.doSurveyVerify face)) s

/-- TRANSFER_SURVEY_INSTALL (R346): Vendor Transfer Survey Image with ACTION INSTALL issues SVY INSTALL as a background
command. -/
def execTransferSurveyInstall (face : Nat) (s : State) : Host.Outcome State Fault Refusal :=
  run (fun s => s.mailHold face (.transferSurveyInstall face) (fun s => s.doSurveyInstall face)) s

/-- TRANSFER_SURVEY_LIVE_LOAD (R346): Vendor Transfer Survey Image with ACTION LIVE_LOAD issues SVY LIVE_LOAD as a background
command. -/
def execTransferSurveyLiveLoad (face : Nat) (s : State) : Host.Outcome State Fault Refusal :=
  run (fun s => s.mailHold face (.transferSurveyLiveLoad face) (fun s => s.doSurveyLive face)) s

/-- TRANSFER_SURVEY_CLEAR (R346): Vendor Transfer Survey Image with ACTION CLEAR empties the staging buffer. -/
def execTransferSurveyClear (face : Nat) (s : State) : Host.Outcome State Fault Refusal :=
  run (fun s => s.mailHold face (.transferSurveyClear face) (fun s => s.doSurveyClear face)) s

/-- READ_CORE_LOG (R347): Vendor Read Core Log returns committed records from SEQ upward, or the live aggregators. -/
def execReadCoreLog (face seq count : Nat) (s : State) : Host.Outcome State Fault Refusal :=
  run (fun s => s.mailHold face (.readCoreLog face seq count) (fun s => s.doReadLog face seq count)) s

/-- RESET_RANK_STATE (R348): Vendor Reset Rank State returns a REPLACED, RETIRED or DEAD rank to ACTIVE in the rank map while
no face is open. -/
def execResetRankState (face chan rank : Nat) (s : State) (ok0 : Bool := true) (ok36 : Bool := true) : Host.Outcome State Fault Refusal :=
  run (fun s => s.mailHold face (.resetRankState face chan rank ok0 ok36) (fun s => s.doResetRank face chan rank (ok0, ok36))) s

/-- CONFIGURE_RING_ENABLE (R383): Configure Ring ENABLE checks the ring geometry, zeroes indices, initialises the CQ and
enables the ring. -/
def execConfigureRingEnable (face ring log2 vector imod sqBase cqBase : Nat) (s : State) : Host.Outcome State Fault Refusal :=
  run (fun s => s.mailHold face (.configureRingEnable face ring log2 vector imod sqBase cqBase) (fun s => s.doRingEnable face ring log2 vector imod sqBase cqBase)) s

/-- CONFIGURE_RING_DISABLE (R383): Configure Ring DISABLE stops starting jobs, drains running jobs and disables the ring. -/
def execConfigureRingDisable (face ring : Nat) (s : State) : Host.Outcome State Fault Refusal :=
  run (fun s => s.mailHold face (.configureRingDisable face ring) (fun s => s.doRingDisable face ring)) s

/-- CONFIGURE_RING_RESET (R383): Configure Ring RESET aborts running jobs, discards queued descriptors and disables the ring
with indices at 0. -/
def execConfigureRingReset (face ring : Nat) (s : State) : Host.Outcome State Fault Refusal :=
  run (fun s => s.mailHold face (.configureRingReset face ring) (fun s => s.doRingReset face ring)) s

/-- CONFIGURE_RING_RESUME (R383): Configure Ring RESUME clears a FENCE or OVERRUN halt and re-enables the ring. -/
def execConfigureRingResume (face ring : Nat) (s : State) : Host.Outcome State Fault Refusal :=
  run (fun s => s.mailHold face (.configureRingResume face ring) (fun s => s.doRingResume face ring)) s

/-- GET_RING_STATUS (R384): Vendor Get Ring Status returns a ring's state, indices and counts. -/
def execGetRingStatus (face ring : Nat) (s : State) : Host.Outcome State Fault Refusal :=
  run (fun s => s.mailHold face (.getRingStatus face ring) (fun s => s.doRingStatus face ring)) s

/-- LOAD_TRANSFORM_KEY (R429): Vendor Load Transform Key loads a supplied or generated key into a free slot as a transform
slot of the face. -/
def execLoadTransformKey (face : Nat) (generate : Bool) (key : BitVec 256) (s : State) : Host.Outcome State Fault Refusal :=
  run (fun s => s.mailHold face (.loadTransformKey face generate key) (fun s => s.doLoadKey face generate key)) s

/-- RELEASE_TRANSFORM_KEY (R429): Vendor Release Transform Key zeroizes one of the face's transform slots. -/
def execReleaseTransformKey (face slot : Nat) (s : State) : Host.Outcome State Fault Refusal :=
  run (fun s => s.mailHold face (.releaseTransformKey face slot) (fun s => s.doReleaseKey face slot)) s

/-- ROTATE_MEDIA_KEY (R404): Vendor Rotate Media Key runs the rotation of the face's media key and zeroizes the old slot. -/
def execRotateMediaKey (face : Nat) (s : State) : Host.Outcome State Fault Refusal :=
  run (fun s => s.mailHold face (.rotateMediaKey face) (fun s => s.doRotate face)) s

/-- GET_TWIN_STATUS (R459): Vendor Get Twin Status returns GAL_STATUS, GAL_RSLV and the twin's serial number. -/
def execGetTwinStatus (face : Nat) (s : State) : Host.Outcome State Fault Refusal :=
  run (fun s => s.mailHold face (.getTwinStatus face) (fun s => s.doTwinStatus face)) s

/-- TWIN_HANDOVER (R456): Vendor Twin Handover closes this sled's faces, fences the twin into single-sled mode and saves with
SAVE_OFF. -/
def execTwinHandover (face : Nat) (s : State) : Host.Outcome State Fault Refusal :=
  run (fun s => s.mailHold face (.twinHandover face) (fun s => s.doHandover face)) s

/-- GET_DC_REGION_CONFIGURATION (R323): FM API Get DC Region Configuration reports a face's Dynamic Capacity region. -/
def execGetDcRegionConfiguration (face : Nat) (s : State) : Host.Outcome State Fault Refusal :=
  run (fun s => s.doFmConfig face) s

/-- GET_DC_REGION_EXTENT_LISTS (R323): FM API Get DC Region Extent Lists reports the extents of a face's region. -/
def execGetDcRegionExtentLists (face : Nat) (s : State) : Host.Outcome State Fault Refusal :=
  run (fun s => s.doFmExtents face) s

/-- INITIATE_DYNAMIC_CAPACITY_ADD (R323): FM API add grants free pool blocks to a face, sets OWNER and HEAT 0, and posts an
Add Capacity record. -/
def execInitiateDynamicCapacityAdd (face blocks : Nat) (first : Option Nat) (s : State) : Host.Outcome State Fault Refusal :=
  run (fun s => s.doDcAdd face blocks first) s

/-- INITIATE_DYNAMIC_CAPACITY_RELEASE (R324): FM API release signals a release to the face, and the release runs when the face
responds. -/
def execInitiateDynamicCapacityRelease (face block count : Nat) (s : State) : Host.Outcome State Fault Refusal :=
  run (fun s => s.doFmRelease face block count) s

/-- DC_ADD_RESPONSE_TIMEOUT (R323): A pending extent unanswered for 60 s returns its slabs' OWNER to unowned. -/
def execDcAddResponseTimeout (face block : Nat) (s : State) : Host.Outcome State Fault Refusal :=
  run (fun s => s.doDcTimeout face block) s

end Sys2Proof.Machine
end

