-- ==== Sys2Proof/Machine/NandCmd.lean ====
section
/-! DEFINITION. Meanings of commands: the NAND channels and the Stockpile (chapter 08). -/

namespace Sys2Proof.Machine

/-- NCH_APPLY (R236): NCH_CTL.APPLY applies new interface timing once the engine's queue is idle, within 20 µs. -/
def execNchApply (chan : Nat) (s : State) : Host.Outcome State Fault Refusal :=
  run (fun s => s.woGate (NCH_CTL.APPLY chan).addr (fun s => s.doNchApply chan)) s

/-- NCH_CWMAX_CLEAR (R254): Writing 1 to NCH_CWMAX.CLEAR sets BITS to 0. -/
def execNchCwmaxClear (chan : Nat) (s : State) : Host.Outcome State Fault Refusal :=
  run (fun s => s.woGate (NCH_CWMAX.CLEAR chan).addr (fun s => s.doCwmaxClear chan)) s

/-- NAND_PAGE_READ_DONE (R239): A page read is decoded through the retry ladder and stripe rebuild, and read-level offsets are
tracked. -/
def execNandPageReadDone (inp : NandRead) (s : State) (patrol : Bool := false) : Host.Outcome State Fault Refusal :=
  run (fun s => s.doNandRead inp patrol) s

/-- LODE_ERASE_START (R226): The Stockpile manager writes an erase INTENT record to the intent journal for a lode or block. -/
def execLodeEraseStart (what : EraseOf) (s : State) : Host.Outcome State Fault Refusal :=
  run (fun s => s.doEraseStart what) s

/-- JOURNAL_PAGE_PROGRAMMED (R226): A journal page reports success on N00 and N36, and the erases it covers are issued. -/
def execJournalPageProgrammed (ok0 ok36 : Bool) (s : State) : Host.Outcome State Fault Refusal :=
  run (fun s => s.doJournal ok0 ok36) s

/-- ERASE_DONE (R226): Every erase of an intent reports, and a DONE record is written. -/
def execEraseDone (what : EraseOf) (failed : List (Nat × Nat × Nat)) (s : State) : Host.Outcome State Fault Refusal :=
  run (fun s => s.doEraseDone what failed) s

/-- DIE_NO_ANSWER_TIMEOUT (R251): A die fails to answer three consecutive operations in time and is retired. -/
def execDieNoAnswerTimeout (channel target : Nat) (s : State) : Host.Outcome State Fault Refusal :=
  run (fun s => s.doDieSilent channel target) s

/-- NAND_PATROL_READ (R247): NAND patrol reads one page of a sealed block and may flag its lode for refresh. -/
def execNandPatrolRead (channel target block page : Nat) (s : State) : Host.Outcome State Fault Refusal :=
  run (fun s => s.doPatrol channel target block page) s

/-- REWORK_MOVE (R246): Rework copies a valid sett's ciphertext to another lode and commits it with the map compare. -/
def execReworkMove (sett : Nat) (s : State) : Host.Outcome State Fault Refusal :=
  run (fun s => s.doRework sett) s

/-- SUMP_FOLD (R246): Fold re-encrypts a Clean sett named in the Sump into the Stockpile and commits by compare. -/
def execSumpFold (sett : Nat) (s : State) : Host.Outcome State Fault Refusal :=
  run (fun s => s.doFold sett) s

/-- REWRAP (R246): Rewrap re-encrypts a Clean sett of a KEYR slab under the current key and commits by compare. -/
def execRewrap (sett : Nat) (s : State) : Host.Outcome State Fault Refusal :=
  run (fun s => s.doRewrap sett) s

/-- RESUME_MIN_EXPIRY (R241): RESUME_MIN passes after an erase was resumed, and a demand read waiting for that die may now
suspend the erase again. -/
def execResumeMinExpiry (channel target : Nat) (s : State) : Host.Outcome State Fault Refusal :=
  run (fun s => s.doResumeMin channel target) s

end Sys2Proof.Machine
end

