-- ==== Sys2Proof/Machine/PinCmd.lean ====
section
/-! DEFINITION. Meanings of commands: the test port (chapter 23). -/

namespace Sys2Proof.Machine

/-- TAP_INSTRUCTION (R610): An IEEE 1149.1 instruction is loaded on the test port, or BYPASS when TESTEN was 0. -/
def execTapInstruction (ins : Tap) (s : State) : Host.Outcome State Fault Refusal :=
  run (fun s => s.doTap ins) s

/-- RAILSET (R611): The test-state RAILSET instruction brings up the named rails one per bench. -/
def execRailset (rails : Nat) (s : State) : Host.Outcome State Fault Refusal :=
  run (fun s => s.doRailset rails) s

end Sys2Proof.Machine
end

