-- ==== Sys2Proof/Machine/PowerCmd.lean ====
section
/-! DEFINITION. Meanings of commands: power, chip resets and the boot ROM (chapters 01, 17 and 21). -/

namespace Sys2Proof.Machine

/-- COLD_RESET (R8): Auxiliary 3.3 V or a pack appears with no power before, starting the Bedrock domain from Off with no
shadow. -/
def execColdReset (bset baddr : Nat) (testen : Bool) (s : State) : Host.Outcome State Fault Refusal :=
  runPower (fun s => s.doColdReset bset baddr testen) s

/-- BEDROCK_POWER_LOSS (R500): Auxiliary 3.3 V is absent and both packs are absent or spent, so the chip goes from Bedrock to
Off. -/
def execBedrockPowerLoss (s : State) : Host.Outcome State Fault Refusal :=
  runPower (fun s => s.doBedrockLoss) s

/-- ALL_POWER_CUT (R36): All power, auxiliary and packs alike, is cut without warning in any chip state, so the chip goes to
Off with nothing after the cut. -/
def execAllPowerCut (s : State) : Host.Outcome State Fault Refusal :=
  runPower (fun s => s.doPowerCut) s

/-- WARM_CHIP_RESET (R502): A warm chip reset runs, deferred behind a Park save when Restoring or Open, leading to Waking. -/
def execWarmChipReset (s : State) : Host.Outcome State Fault Refusal :=
  run (fun s => s.doWarmReset) s

/-- BOOT_ROM_START (R566): After the hub base is powered the boot ROM loads the Survey image, unwraps keys, and verifies and
releases a firmware slot. -/
def execBootRomStart (inp : BootIn) (s : State) : Host.Outcome State Fault Refusal :=
  run (fun s => s.doBootRom inp) s

end Sys2Proof.Machine
end

