-- ==== Sys2Proof/Machine/RegCmd.lean ====
section
/-! DEFINITION. Meanings of commands: register accesses and denied accesses (chapters 00 and 22). -/

namespace Sys2Proof.Machine

/-- REGISTER_WRITE (R7): A write to a register field that has no row of its own takes effect according to its access code,
including sub-word, reserved, clamped and retention-island cases. -/
def execRegisterWrite (who : Sender) (addr bytes : Nat) (data : BitVec 64) (s : State) : Host.Outcome State Fault Refusal :=
  run (fun s => s.doRegisterWrite who addr bytes data) s

/-- DENIED_HOST_ACCESS (R587): A host BAR0 access outside its permitted ranges completes without error, reads 0, and is
counted in BED_DENY with its address. -/
def execDeniedHostAccess (port addr : Nat) (write : Bool) (s : State) (bytes : Nat := 4) (data : BitVec 64 := 0) : Host.Outcome State Fault Refusal :=
  run (fun s => s.doDeniedHostAccess port addr write bytes data) s

/-- BED_DENY_CLEAR (R589): Writing 1 to BED_DENY.CLEAR sets the denied-access count to 0. -/
def execBedDenyClear (s : State) : Host.Outcome State Fault Refusal :=
  run (fun s => s.doBedDenyClear) s

/-- BED_DROP_CLEAR (R589): Writing 1 to BED_DROP.CLEAR sets the dropped-WO-write count to 0. -/
def execBedDropClear (s : State) : Host.Outcome State Fault Refusal :=
  run (fun s => s.doBedDropClear) s

end Sys2Proof.Machine
end

