-- ==== Sys2Proof/Machine/ResCmd.lean ====
section
/-! DEFINITION. Meanings of commands: restore (chapter 09). -/

namespace Sys2Proof.Machine

/-- RES_START (R258): RES_CMD START runs the rebuild: anchors, case choice, carve-out, manifest, merge and metadata. -/
def execResStart (inp : ResIn) (s : State) : Host.Outcome State Fault Refusal :=
  run (fun s => s.woGate RES_CMD.OP.addr (fun s => s.doRestoreBegin inp)) s

/-- RES_OPEN (R258): RES_CMD OPEN sets RSTATE, writes the OPEN anchor and opens the early-open faces. -/
def execResOpen (s : State) : Host.Outcome State Fault Refusal :=
  run (fun s => s.woGate RES_CMD.OP.addr (fun s => s.doResOpen)) s

/-- RES_WARM (R275): RES_CMD WARM in Parked runs a warm resume. -/
def execResWarm (s : State) : Host.Outcome State Fault Refusal :=
  run (fun s => s.woGate RES_CMD.OP.addr (fun s => s.doResWarm)) s

/-- FETCH_SETT_WRITTEN (R268): A fetch writes one sett into DRAM by its state; when all 64 are written the slab is Resident.
-/
def execFetchSettWritten (slab : Nat) (page : PageRead) (s : State) (bad : Bool := false) : Host.Outcome State Fault Refusal :=
  run (fun s => (s.hubErr bad).doFetchSett slab page) s

/-- BACKGROUND_FILL (R274): Background fill takes a fetch entry for the next Unrestored slab of heat class L or above. -/
def execBackgroundFill (s : State) : Host.Outcome State Fault Refusal :=
  run (fun s => s.doBackgroundFill) s

/-- RESTORE_HOLD_EXPIRY (R271): A read that waited RES_HOLD.TICKS is answered with poison and counted in RES_HOLDEXP. -/
def execRestoreHoldExpiry (port tag : Nat) (s : State) : Host.Outcome State Fault Refusal :=
  run (fun s => s.doHoldExpiry port tag) s

end Sys2Proof.Machine
end

