-- ==== Sys2Proof/Machine/SeqCmd.lean ====
section
/-! DEFINITION. Meanings of commands: the sequencer (chapter 16). -/

namespace Sys2Proof.Machine

/-- SEQ_ON (R478): SEQ_CMD ON is an on request that starts power-up, is remembered or is refused. -/
def execSeqOn (bmc : Bool) (s : State) : Host.Outcome State Fault Refusal :=
  run (fun s => s.doSeqOn bmc) s

/-- SEQ_OFF (R479): SEQ_CMD OFF is an off request that starts a save, steps down or is remembered. -/
def execSeqOff (bmc : Bool) (s : State) : Host.Outcome State Fault Refusal :=
  run (fun s => s.doSeqOff bmc) s

/-- SEQ_OFF_TIMED (R481): SEQ_CMD OFF_TIMED starts a delay of SEQ_OFFDLY.MS before an off request. -/
def execSeqOffTimed (bmc : Bool) (s : State) : Host.Outcome State Fault Refusal :=
  run (fun s => s.doSeqOffTimed bmc) s

/-- SEQ_CLEAR (R477): SEQ_CMD CLEAR at B0 ends the latch and clears SEQ_FIRST. -/
def execSeqClear (bmc : Bool) (s : State) : Host.Outcome State Fault Refusal :=
  run (fun s => s.doSeqClear bmc) s

/-- SEQ_PULSE (R486): SEQ_CMD PULSE asserts a reset pin for its PULSE time. -/
def execSeqPulse (pin : Nat) (s : State) : Host.Outcome State Fault Refusal :=
  run (fun s => s.doSeqPulse pin) s

/-- OFF_TIMED_EXPIRY (R481): The OFF_TIMED delay ends and an off request is made. -/
def execOffTimedExpiry (s : State) : Host.Outcome State Fault Refusal :=
  run (fun s => s.doOffTimedEnd) s

/-- BENCH_STEP_UP (R470): A bench's rails are enabled in order with STAGGER and must all qualify by TIMEOUT. -/
def execBenchStepUp (s : State) : Host.Outcome State Fault Refusal :=
  run (fun s => s.doBenchStepUp) s

/-- BENCH_DELAY_EXPIRY (R470): A bench's DELAY ends and the next bench starts, or SEQ_DN is driven high at TOP. -/
def execBenchDelayExpiry (s : State) : Host.Outcome State Fault Refusal :=
  run (fun s => s.doBenchDelay) s

/-- RESET_STRETCH_EXPIRY (R470): STRETCH after a reset pin's bench is up, the pin is released. -/
def execResetStretchExpiry (pin : Nat) (s : State) : Host.Outcome State Fault Refusal :=
  run (fun s => s.doStretchEnd pin) s

/-- BENCH_TIMEOUT (R475): A rail not qualified by its bench's TIMEOUT fails with cause TIMEOUT. -/
def execBenchTimeout (s : State) : Host.Outcome State Fault Refusal :=
  run (fun s => s.doBenchTimeout) s

/-- BENCH_STEP_DOWN (R471): A bench is stepped down: resets asserted, rails disabled in reverse order, discharge awaited. -/
def execBenchStepDown (s : State) : Host.Outcome State Fault Refusal :=
  run (fun s => s.doBenchStepDown) s

/-- DISCHARGE_TIMEOUT (R471): A rail still charged when DISCH ends fails with cause DISCHARGE. -/
def execDischargeTimeout (rail : Nat) (s : State) : Host.Outcome State Fault Refusal :=
  run (fun s => s.doDischargeTimeout rail) s

/-- DN_WAIT_EXPIRY (R471): DN_WAIT after SEQ_DN falls, the first bench's step-down continues. -/
def execDnWaitExpiry (s : State) : Host.Outcome State Fault Refusal :=
  run (fun s => s.doDnWait) s

/-- BENCH_SYNC_TIMEOUT (R472): BENCH_SYNC stays low SYNC_TIMEOUT after release: a hard sync fails, a soft one goes on. -/
def execBenchSyncTimeout (s : State) : Host.Outcome State Fault Refusal :=
  run (fun s => s.doSyncTimeout) s

/-- UP_WAIT_EXPIRY (R473): Under soft cascade, waiting UP_WAIT for SEQ_UP ends and power-up goes on. -/
def execUpWaitExpiry (s : State) : Host.Outcome State Fault Refusal :=
  run (fun s => s.doUpWait) s

/-- SEQ_UP_FALL (R473): SEQ_UP falls above B0: an off request under hard cascade, EV654 under soft. -/
def execSeqUpFall (s : State) : Host.Outcome State Fault Refusal :=
  run (fun s => s.doSeqUpFall) s

/-- MIN_OFF_EXPIRY (R480): MIN_OFF passes at B0 and a remembered on request starts power-up. -/
def execMinOffExpiry (s : State) : Host.Outcome State Fault Refusal :=
  run (fun s => s.doMinOff) s

/-- RESET_PULSE_END (R486): A commanded or bus-stuck reset pulse ends and the pin is released. -/
def execResetPulseEnd (pin : Nat) (s : State) : Host.Outcome State Fault Refusal :=
  run (fun s => s.doPulseEnd pin) s

end Sys2Proof.Machine
end

