-- ==== Sys2Proof/Machine/SlabCmd.lean ====
section
/-! DEFINITION. Meanings of commands: the Slab State Array (chapter 04). -/

namespace Sys2Proof.Machine

/-- SLB_SET_HEAT (R120): SLB_CMD SET_HEAT sets a slab's HEAT to ARG0[7:0]. -/
def execSlbSetHeat (sram : SramErr) (s : State) : Host.Outcome State Fault Refusal :=
  run (fun s => s.doSetHeat sram) s

/-- SLB_SET_LOCK (R120): SLB_CMD SET_LOCK sets the permitted lock bits of a slab word. -/
def execSlbSetLock (sram : SramErr) (s : State) : Host.Outcome State Fault Refusal :=
  run (fun s => s.doSetLock sram) s

/-- SLB_CLR_LOCK (R120): SLB_CMD CLR_LOCK clears the permitted lock bits of a slab word. -/
def execSlbClrLock (sram : SramErr) (s : State) : Host.Outcome State Fault Refusal :=
  run (fun s => s.doClrLock sram) s

/-- SLB_SET_RSTATE (R120): SLB_CMD SET_RSTATE sets a slab's RSTATE before any face opens. -/
def execSlbSetRstate (sram : SramErr) (s : State) : Host.Outcome State Fault Refusal :=
  run (fun s => s.doSetRstate sram) s

/-- SLB_LOAD_MASK (R120): SLB_CMD LOAD_MASK loads a slab's dirty mask and adjusts the dirty counts. -/
def execSlbLoadMask (sram : SramErr) (s : State) : Host.Outcome State Fault Refusal :=
  run (fun s => s.doLoadMask sram) s

/-- SLB_SET_OWNER (R114): SLB_CMD SET_OWNER changes a slab's OWNER under the grant and release conditions. -/
def execSlbSetOwner (sram : SramErr) (s : State) : Host.Outcome State Fault Refusal :=
  run (fun s => s.doSetOwner sram) s

/-- SLB_SNAPSHOT (R118): A write of SLB_SNAP_IDX captures all 96 bits of one slab entry in one hub clock. -/
def execSlbSnapshot (slab : Nat) (s : State) (sram : SramErr := .none) : Host.Outcome State Fault Refusal :=
  run (fun s => (s.sramAll [(slab, sram)]).doSnapshot slab) s

/-- SLB_ECC_CLEAR (R123): Writing 1 to SLB_ECC.CLEAR sets CE_COUNT to 0. -/
def execSlbEccClear (s : State) : Host.Outcome State Fault Refusal :=
  run (fun s => s.doEccClear) s

/-- HEAT_DECAY_SWEEP (R112): At each tick multiple of PERIOD every bank sweeps its slabs, lowering non-zero HEAT by one. -/
def execHeatDecaySweep (s : State) (sram : List (Nat × SramErr) := []) : Host.Outcome State Fault Refusal :=
  run (fun s => (s.sramAll sram).doSweep) s

end Sys2Proof.Machine
end

