-- ==== Sys2Proof/Machine/SvyCmd.lean ====
section
/-! DEFINITION. Meanings of commands: the Survey loader (chapter 03). -/

namespace Sys2Proof.Machine

/-- SVY_VERIFY (R78): SVY_CMD VERIFY checks the staged image against R75. -/
def execSvyVerify (s : State) : Host.Outcome State Fault Refusal :=
  run (fun s => s.doSvyVerify) s

/-- SVY_INSTALL (R78): SVY_CMD INSTALL verifies the image and programs it into the non-booted copy on N00 and N36. -/
def execSvyInstall (s : State) : Host.Outcome State Fault Refusal :=
  run (fun s => s.doSvyInstall) s

/-- SVY_LIVE_LOAD (R81): SVY_CMD LIVE_LOAD installs the image and later applies its live sections. -/
def execSvyLiveLoad (s : State) : Host.Outcome State Fault Refusal :=
  run (fun s => s.doSvyLive) s

/-- SVY_CLEAR (R78): SVY_CMD CLEAR empties the staging buffer and resets SVY_STAGE_ADDR. -/
def execSvyClear (s : State) : Host.Outcome State Fault Refusal :=
  run (fun s => s.doSvyClear) s

/-- SVY_STAGE_DATA (R86): A read or write of SVY_STAGE_DATA accesses the staging word at ADDR and advances ADDR. -/
def execSvyStageData (write : Bool) (data : Word) (s : State) : Host.Outcome State Fault Refusal :=
  run (fun s => s.doStageSvy write data) s

/-- SURVEY_INSTALL_PROGRAMMED (R81): The Boot band copy is erased, programmed and read back, and INSTALL ends or LIVE_LOAD
awaits its tick. -/
def execSurveyInstallProgrammed (ok0 ok36 : Bool) (s : State) : Host.Outcome State Fault Refusal :=
  run (fun s => s.doInstalled ok0 ok36 (fun s => s.askReset .command)) s

/-- LIVE_LOAD_APPLY (R81): At the next tick multiple of 32 all live sections are replaced at once and the shadow refreshed. -/
def execLiveLoadApply (s : State) : Host.Outcome State Fault Refusal :=
  run (fun s => s.doLiveApply) s

end Sys2Proof.Machine
end

