-- ==== Sys2Proof/Machine/TwCmd.lean ====
section
/-! DEFINITION. Meanings of commands: the two-wire ports (chapter 20). -/

namespace Sys2Proof.Machine

/-- TW0_MCTP (R550): A TW0 block write with code 0x0F delivers one MCTP packet to the Foreman cluster, or is NACKed. -/
def execTw0Mctp (bytes : List Byte) (pec : PecIn) (s : State) : Host.Outcome State Fault Refusal :=
  run (fun s => s.doTw0Mctp bytes pec) s

/-- TW0_REG_ADDR (R548): A TW0 REG_ADDR write sets the register address. -/
def execTw0RegAddr (addr : Nat) (pec : PecIn) (s : State) : Host.Outcome State Fault Refusal :=
  run (fun s => s.doTw0RegAddr addr pec) s

/-- TW0_REG_DATA_WRITE (R549): A TW0 REG_DATA write writes a permitted register and advances REG_ADDR. -/
def execTw0RegDataWrite (data : Word) (pec : PecIn) (s : State) : Host.Outcome State Fault Refusal :=
  run (fun s => s.doTw0RegDataWrite data pec) s

/-- TW0_REG_DATA_READ (R549): A TW0 REG_DATA read returns a permitted register and advances REG_ADDR. -/
def execTw0RegDataRead (s : State) : Host.Outcome State Fault Refusal :=
  run (fun s => s.doTw0RegDataRead) s

/-- TW0_ALERT_READ (R548): A TW0 ALERT block read returns TWB_ALRT_CAUSE. -/
def execTw0AlertRead (s : State) : Host.Outcome State Fault Refusal :=
  run (fun s => s.doTw0AlertRead) s

/-- TW0_UNKNOWN_COMMAND (R548): A TW0 write with an unknown command code is NACKed and raises EV659. -/
def execTw0UnknownCommand (code : Nat) (s : State) : Host.Outcome State Fault Refusal :=
  run (fun s => s.doTw0UnknownCommand code) s

/-- TW0_ARA_READ (R554): The BMC reads the Alert Response Address and TW0 arbitrates with its address, releasing SMBALERT# if
it wins. -/
def execTw0AraRead (won : Bool) (s : State) : Host.Outcome State Fault Refusal :=
  run (fun s => s.doTw0AraRead won) s

/-- SMBALERT_REARM (R554): A cause still set REARM ms after its last alert asserts SMBALERT# again. -/
def execSmbalertRearm (s : State) : Host.Outcome State Fault Refusal :=
  run (fun s => s.doSmbalertRearm) s

/-- TW0_SLEEP (R551): After 32 ticks with no transaction TW0 sleeps with only its address comparator awake. -/
def execTw0Sleep (s : State) : Host.Outcome State Fault Refusal :=
  run (fun s => s.doTw0Sleep) s

/-- TW0_SCL_TIMEOUT (R552): SCL low for 35 ms makes TW0 release SDA and reset its engine. -/
def execTw0SclTimeout (s : State) : Host.Outcome State Fault Refusal :=
  run (fun s => s.doTw0SclTimeout) s

/-- TWB_GO (R555): Writing TWB_XFER.GO queues a firmware transfer on a controller port. -/
def execTwbGo (port : Nat) (s : State) : Host.Outcome State Fault Refusal :=
  run (fun s => s.doTwGo port) s

/-- TW_TRANSACTION_DONE (R556): A controller port transaction ends with its RESULT. -/
def execTwTransactionDone (port : Nat) (res : TwRes) (bytes : List Byte) (s : State) : Host.Outcome State Fault Refusal :=
  run (fun s => s.doTwDone port res bytes) s

/-- TW_ADDR_NACK_RETRY (R556): 1 ms after an address NACK the transaction is tried again, up to twice. -/
def execTwAddrNackRetry (port : Nat) (s : State) : Host.Outcome State Fault Refusal :=
  run (fun s => s.doTwRetry port) s

/-- TW_STRETCH_TIMEOUT (R560): SCL held low 25 ms in a byte or 35 ms in all ends the transaction with TIMEOUT. -/
def execTwStretchTimeout (port : Nat) (s : State) : Host.Outcome State Fault Refusal :=
  run (fun s => s.doTwTimeout port) s

/-- ARBITRATION_LOST (R561): A port losing arbitration stops, retries up to 8 times, or answers as target. -/
def execArbitrationLost (port : Nat) (own : Bool) (s : State) : Host.Outcome State Fault Refusal :=
  run (fun s => s.doArbLost port own) s

/-- BUS_STUCK_RECOVERY (R559): A low SDA before START runs clock-pulse recovery rounds, and a stuck bus pulses mapped resets.
-/
def execBusStuckRecovery (port rounds : Nat) (freed : Bool) (s : State) : Host.Outcome State Fault Refusal :=
  run (fun s => s.doStuck port rounds freed) s

/-- BUS_STUCK_RETRY (R559): A still-stuck bus repeats the pulse and recovery every 32,768 ticks. -/
def execBusStuckRetry (port rounds : Nat) (freed : Bool) (s : State) : Host.Outcome State Fault Refusal :=
  run (fun s => s.doStuckRetry port rounds freed) s

/-- TW_ALERT_INPUT (R557): A target asserts its ALERT line, starting an extra read of every sensor on the port. -/
def execTwAlertInput (port : Nat) (addr : Option Nat) (s : State) : Host.Outcome State Fault Refusal :=
  run (fun s => s.doTwAlert port addr) s

end Sys2Proof.Machine
end

