-- ==== Sys2Proof/Machine/Dispatch.lean ====
section
/-! DEFINITION. The meaning of every command: one arm per constructor, each one call of that command's meaning. -/

namespace Sys2Proof.Machine

def exec (i : Instr) (s : State) : Host.Outcome State Fault Refusal :=
  match i with
  | .registerWrite who addr bytes data => Sys2Proof.Machine.execRegisterWrite who addr bytes data s
  | .deniedHostAccess port addr write bytes data => Sys2Proof.Machine.execDeniedHostAccess port addr write s bytes data
  | .bedDenyClear => Sys2Proof.Machine.execBedDenyClear s
  | .bedDropClear => Sys2Proof.Machine.execBedDropClear s
  | .coldReset bset baddr testen => Sys2Proof.Machine.execColdReset bset baddr testen s
  | .bedrockPowerLoss => Sys2Proof.Machine.execBedrockPowerLoss s
  | .memRd port tag dpa devs sram => Sys2Proof.Machine.execMemRd port tag dpa devs sram s
  | .memWr port tag dpa data poison sram => Sys2Proof.Machine.execMemWr port tag dpa data poison sram s
  | .memWrPtl port tag dpa data mask devs sram => Sys2Proof.Machine.execMemWrPtl port tag dpa data mask devs sram s
  | .parkedWriteAdmit bad => Sys2Proof.Machine.execParkedWriteAdmit s bad
  | .dataWrittenToDram port tag crc bufErr => Sys2Proof.Machine.execDataWrittenToDram port tag s crc bufErr
  | .freshQueueAgeWarn port => Sys2Proof.Machine.execFreshQueueAgeWarn port s
  | .gpfPhase1 port => Sys2Proof.Machine.execGpfPhase1 port s
  | .gpfPhase2 port => Sys2Proof.Machine.execGpfPhase2 port s
  | .cxlReset face => Sys2Proof.Machine.execCxlReset face s
  | .linkDown port => Sys2Proof.Machine.execLinkDown port s
  | .linkTrained port rate width => Sys2Proof.Machine.execLinkTrained port rate width s
  | .linkTrainRetry port => Sys2Proof.Machine.execLinkTrainRetry port s
  | .perstAssert port => Sys2Proof.Machine.execPerstAssert port s
  | .perstRelease port => Sys2Proof.Machine.execPerstRelease port s
  | .ideKeyProgramming port io => Sys2Proof.Machine.execIdeKeyProgramming port s io
  | .ideIntegrityFailure port held => Sys2Proof.Machine.execIdeIntegrityFailure port s held
  | .identify face => Sys2Proof.Machine.execIdentify face s
  | .backgroundOperationStatus face => Sys2Proof.Machine.execBackgroundOperationStatus face s
  | .getEventRecords face log => Sys2Proof.Machine.execGetEventRecords face log s
  | .clearEventRecords face log all handles => Sys2Proof.Machine.execClearEventRecords face log all handles s
  | .getEventInterruptPolicy face => Sys2Proof.Machine.execGetEventInterruptPolicy face s
  | .setEventInterruptPolicy face policy => Sys2Proof.Machine.execSetEventInterruptPolicy face policy s
  | .getFwInfo face => Sys2Proof.Machine.execGetFwInfo face s
  | .transferFw face action slot offset words ok ok36 => Sys2Proof.Machine.execTransferFw face action slot offset words ok s ok36
  | .activateFwOnline face slot ok0 ok36 => Sys2Proof.Machine.execActivateFwOnline face slot ok0 ok36 s
  | .activateFwNextReset face slot ok0 ok36 => Sys2Proof.Machine.execActivateFwNextReset face slot ok0 ok36 s
  | .getTimestamp face => Sys2Proof.Machine.execGetTimestamp face s
  | .setTimestamp face stamp => Sys2Proof.Machine.execSetTimestamp face stamp s
  | .getSupportedLogs face => Sys2Proof.Machine.execGetSupportedLogs face s
  | .getLog face uuid offset len => Sys2Proof.Machine.execGetLog face uuid offset len s
  | .getSupportedFeatures face => Sys2Proof.Machine.execGetSupportedFeatures face s
  | .getFeature face feature => Sys2Proof.Machine.execGetFeature face feature s
  | .setFeature face feature value => Sys2Proof.Machine.execSetFeature face feature value s
  | .identifyMemoryDevice face => Sys2Proof.Machine.execIdentifyMemoryDevice face s
  | .getPartitionInfo face => Sys2Proof.Machine.execGetPartitionInfo face s
  | .setPartitionInfo face => Sys2Proof.Machine.execSetPartitionInfo face s
  | .mailboxUnsupported face opcode => Sys2Proof.Machine.execMailboxUnsupported face opcode s
  | .getLsa face offset len => Sys2Proof.Machine.execGetLsa face offset len s
  | .setLsa face offset bytes ok0 ok36 => Sys2Proof.Machine.execSetLsa face offset bytes ok0 ok36 s
  | .getHealthInfo face => Sys2Proof.Machine.execGetHealthInfo face s
  | .getAlertConfiguration face => Sys2Proof.Machine.execGetAlertConfiguration face s
  | .setAlertConfiguration face life hot cold => Sys2Proof.Machine.execSetAlertConfiguration face life hot cold s
  | .getShutdownState face => Sys2Proof.Machine.execGetShutdownState face s
  | .setShutdownState face value ok0 ok36 => Sys2Proof.Machine.execSetShutdownState face value ok0 ok36 s
  | .getPoisonList face dpa lines => Sys2Proof.Machine.execGetPoisonList face dpa lines s
  | .injectPoison face dpa => Sys2Proof.Machine.execInjectPoison face dpa s
  | .clearPoison face dpa data => Sys2Proof.Machine.execClearPoison face dpa data s
  | .getScanMediaCapabilities face dpa lines => Sys2Proof.Machine.execGetScanMediaCapabilities face dpa lines s
  | .scanMedia face dpa lines devs => Sys2Proof.Machine.execScanMedia face dpa lines devs s
  | .getScanMediaResults face => Sys2Proof.Machine.execGetScanMediaResults face s
  | .sanitize face => Sys2Proof.Machine.execSanitize face s
  | .secureErase face => Sys2Proof.Machine.execSecureErase face s
  | .getDcConfiguration face => Sys2Proof.Machine.execGetDcConfiguration face s
  | .getDcExtentList face => Sys2Proof.Machine.execGetDcExtentList face s
  | .addDcResponse face block accept => Sys2Proof.Machine.execAddDcResponse face block accept s
  | .releaseDc face block count => Sys2Proof.Machine.execReleaseDc face block count s
  | .negotiateFeatures face request ok0 ok36 => Sys2Proof.Machine.execNegotiateFeatures face request ok0 ok36 s
  | .heatHint face hints => Sys2Proof.Machine.execHeatHint face hints s
  | .getEnergyTelemetry face => Sys2Proof.Machine.execGetEnergyTelemetry face s
  | .requestPackRemoval face pack => Sys2Proof.Machine.execRequestPackRemoval face pack s
  | .cancelPackRemoval face pack => Sys2Proof.Machine.execCancelPackRemoval face pack s
  | .transferSurveyData face offset words => Sys2Proof.Machine.execTransferSurveyData face offset words s
  | .transferSurveyVerify face => Sys2Proof.Machine.execTransferSurveyVerify face s
  | .transferSurveyInstall face => Sys2Proof.Machine.execTransferSurveyInstall face s
  | .transferSurveyLiveLoad face => Sys2Proof.Machine.execTransferSurveyLiveLoad face s
  | .transferSurveyClear face => Sys2Proof.Machine.execTransferSurveyClear face s
  | .readCoreLog face seq count => Sys2Proof.Machine.execReadCoreLog face seq count s
  | .resetRankState face chan rank ok0 ok36 => Sys2Proof.Machine.execResetRankState face chan rank s ok0 ok36
  | .configureRingEnable face ring log2 vector imod sqBase cqBase => Sys2Proof.Machine.execConfigureRingEnable face ring log2 vector imod sqBase cqBase s
  | .configureRingDisable face ring => Sys2Proof.Machine.execConfigureRingDisable face ring s
  | .configureRingReset face ring => Sys2Proof.Machine.execConfigureRingReset face ring s
  | .configureRingResume face ring => Sys2Proof.Machine.execConfigureRingResume face ring s
  | .getRingStatus face ring => Sys2Proof.Machine.execGetRingStatus face ring s
  | .loadTransformKey face generate key => Sys2Proof.Machine.execLoadTransformKey face generate key s
  | .releaseTransformKey face slot => Sys2Proof.Machine.execReleaseTransformKey face slot s
  | .rotateMediaKey face => Sys2Proof.Machine.execRotateMediaKey face s
  | .getTwinStatus face => Sys2Proof.Machine.execGetTwinStatus face s
  | .twinHandover face => Sys2Proof.Machine.execTwinHandover face s
  | .getDcRegionConfiguration face => Sys2Proof.Machine.execGetDcRegionConfiguration face s
  | .getDcRegionExtentLists face => Sys2Proof.Machine.execGetDcRegionExtentLists face s
  | .initiateDynamicCapacityAdd face blocks first => Sys2Proof.Machine.execInitiateDynamicCapacityAdd face blocks first s
  | .initiateDynamicCapacityRelease face block count => Sys2Proof.Machine.execInitiateDynamicCapacityRelease face block count s
  | .dcAddResponseTimeout face block => Sys2Proof.Machine.execDcAddResponseTimeout face block s
  | .sqTailDoorbell port ring value bad => Sys2Proof.Machine.execSqTailDoorbell port ring value s bad
  | .cqHeadDoorbell port ring value bad => Sys2Proof.Machine.execCqHeadDoorbell port ring value s bad
  | .jobCopy ring devs desc sram => Sys2Proof.Machine.execJobCopy ring devs s desc sram
  | .jobFill ring desc sram => Sys2Proof.Machine.execJobFill ring s desc sram
  | .jobCheckpoint ring desc sram => Sys2Proof.Machine.execJobCheckpoint ring s desc sram
  | .checkpointPassEnd ring tag => Sys2Proof.Machine.execCheckpointPassEnd ring tag s
  | .jobPin ring desc sram => Sys2Proof.Machine.execJobPin ring s desc sram
  | .jobUnpin ring desc sram => Sys2Proof.Machine.execJobUnpin ring s desc sram
  | .jobPrefetchRestore ring desc sram => Sys2Proof.Machine.execJobPrefetchRestore ring s desc sram
  | .jobTransform ring bad devs desc sram => Sys2Proof.Machine.execJobTransform ring s bad devs desc sram
  | .jobVerify ring src dst desc sram => Sys2Proof.Machine.execJobVerify ring s src dst desc sram
  | .jobZeroFace ring desc sram => Sys2Proof.Machine.execJobZeroFace ring s desc sram
  | .ringInterruptCoalesceExpiry ring => Sys2Proof.Machine.execRingInterruptCoalesceExpiry ring s
  | .slbSetHeat sram => Sys2Proof.Machine.execSlbSetHeat sram s
  | .slbSetLock sram => Sys2Proof.Machine.execSlbSetLock sram s
  | .slbClrLock sram => Sys2Proof.Machine.execSlbClrLock sram s
  | .slbSetRstate sram => Sys2Proof.Machine.execSlbSetRstate sram s
  | .slbLoadMask sram => Sys2Proof.Machine.execSlbLoadMask sram s
  | .slbSetOwner sram => Sys2Proof.Machine.execSlbSetOwner sram s
  | .slbSnapshot slab sram => Sys2Proof.Machine.execSlbSnapshot slab s sram
  | .slbEccClear => Sys2Proof.Machine.execSlbEccClear s
  | .heatDecaySweep sram => Sys2Proof.Machine.execHeatDecaySweep s sram
  | .ledgerUpdate inp => Sys2Proof.Machine.execLedgerUpdate inp s
  | .ledgerExtraUpdate => Sys2Proof.Machine.execLedgerExtraUpdate s
  | .admissionReportIntervalEnd face => Sys2Proof.Machine.execAdmissionReportIntervalEnd face s
  | .adcScan inp => Sys2Proof.Machine.execAdcScan inp s
  | .gaugeRead pack ans => Sys2Proof.Machine.execGaugeRead pack ans s
  | .packStale pack => Sys2Proof.Machine.execPackStale pack s
  | .packNoAnswer pack => Sys2Proof.Machine.execPackNoAnswer pack s
  | .esrStale pack => Sys2Proof.Machine.execEsrStale pack s
  | .lgrRemoveRequest pack => Sys2Proof.Machine.execLgrRemoveRequest pack s
  | .lgrRemoveCancel pack => Sys2Proof.Machine.execLgrRemoveCancel pack s
  | .wearDayBoundary => Sys2Proof.Machine.execWearDayBoundary s
  | .sensorRead port sensor raw => Sys2Proof.Machine.execSensorRead port sensor raw s
  | .sensorStale port sensor => Sys2Proof.Machine.execSensorStale port sensor s
  | .haulSelect sram haul => Sys2Proof.Machine.execHaulSelect s sram haul
  | .haulDramReadDone sett devs => Sys2Proof.Machine.execHaulDramReadDone sett devs s
  | .haulPadWaitExpiry => Sys2Proof.Machine.execHaulPadWaitExpiry s
  | .cipherPageDone sett pair agree => Sys2Proof.Machine.execCipherPageDone sett pair agree s
  | .katComplete pair pass => Sys2Proof.Machine.execKatComplete pair pass s
  | .stripeProgramDone stripe => Sys2Proof.Machine.execStripeProgramDone stripe s
  | .stripeProgramFail stripe channel => Sys2Proof.Machine.execStripeProgramFail stripe channel s
  | .wordlinePadTimeout group => Sys2Proof.Machine.execWordlinePadTimeout group s
  | .pfwAssert => Sys2Proof.Machine.execPfwAssert s
  | .pfwRelease => Sys2Proof.Machine.execPfwRelease s
  | .pfwMaxExpiry => Sys2Proof.Machine.execPfwMaxExpiry s
  | .pwrLoss => Sys2Proof.Machine.execPwrLoss s
  | .inputRailLoss => Sys2Proof.Machine.execInputRailLoss s
  | .savePark => Sys2Proof.Machine.execSavePark s
  | .saveOff => Sys2Proof.Machine.execSaveOff s
  | .saveDrain => Sys2Proof.Machine.execSaveDrain s
  | .saveSlabImage => Sys2Proof.Machine.execSaveSlabImage s
  | .savePslcSwitch => Sys2Proof.Machine.execSavePslcSwitch s
  | .anchorProgrammed ok0 ok36 => Sys2Proof.Machine.execAnchorProgrammed ok0 ok36 s
  | .saveCarveDone inp => Sys2Proof.Machine.execSaveCarveDone s inp
  | .saveWalkEnd inp => Sys2Proof.Machine.execSaveWalkEnd inp s
  | .saveManifestDone failed miss => Sys2Proof.Machine.execSaveManifestDone failed s miss
  | .saveSelfRefreshDone => Sys2Proof.Machine.execSaveSelfRefreshDone s
  | .saveEnd => Sys2Proof.Machine.execSaveEnd s
  | .inputPowerGood => Sys2Proof.Machine.execInputPowerGood s
  | .pg00WaitExpiry => Sys2Proof.Machine.execPg00WaitExpiry s
  | .resStart inp => Sys2Proof.Machine.execResStart inp s
  | .resOpen => Sys2Proof.Machine.execResOpen s
  | .resWarm => Sys2Proof.Machine.execResWarm s
  | .fetchSettWritten slab page bad => Sys2Proof.Machine.execFetchSettWritten slab page s bad
  | .backgroundFill => Sys2Proof.Machine.execBackgroundFill s
  | .restoreHoldExpiry port tag => Sys2Proof.Machine.execRestoreHoldExpiry port tag s
  | .dramRefresh chan rank => Sys2Proof.Machine.execDramRefresh chan rank s
  | .mr4Read chan temps => Sys2Proof.Machine.execMr4Read chan temps s
  | .selfRefreshEntry chan abort => Sys2Proof.Machine.execSelfRefreshEntry chan abort s
  | .selfRefreshExit chan late => Sys2Proof.Machine.execSelfRefreshExit chan late s
  | .deviceRetrain chan rank sensor margins => Sys2Proof.Machine.execDeviceRetrain chan rank sensor margins s
  | .scrubStep chan devs => Sys2Proof.Machine.execScrubStep chan devs s
  | .repairPageReady sett line page devs => Sys2Proof.Machine.execRepairPageReady sett line page devs s
  | .migStart chan ok0 ok36 => Sys2Proof.Machine.execMigStart chan s ok0 ok36
  | .migRetire chan ok0 ok36 => Sys2Proof.Machine.execMigRetire chan s ok0 ok36
  | .migAbort chan => Sys2Proof.Machine.execMigAbort chan s
  | .migCopySett devs ok0 ok36 => Sys2Proof.Machine.execMigCopySett devs s ok0 ok36
  | .nchApply chan => Sys2Proof.Machine.execNchApply chan s
  | .nchCwmaxClear chan => Sys2Proof.Machine.execNchCwmaxClear chan s
  | .nandPageReadDone inp patrol => Sys2Proof.Machine.execNandPageReadDone inp s patrol
  | .lodeEraseStart what => Sys2Proof.Machine.execLodeEraseStart what s
  | .journalPageProgrammed ok0 ok36 => Sys2Proof.Machine.execJournalPageProgrammed ok0 ok36 s
  | .eraseDone what failed => Sys2Proof.Machine.execEraseDone what failed s
  | .dieNoAnswerTimeout channel target => Sys2Proof.Machine.execDieNoAnswerTimeout channel target s
  | .nandPatrolRead channel target block page => Sys2Proof.Machine.execNandPatrolRead channel target block page s
  | .reworkMove sett => Sys2Proof.Machine.execReworkMove sett s
  | .sumpFold sett => Sys2Proof.Machine.execSumpFold sett s
  | .rewrap sett => Sys2Proof.Machine.execRewrap sett s
  | .cipGenerate => Sys2Proof.Machine.execCipGenerate s
  | .cipActivate => Sys2Proof.Machine.execCipActivate s
  | .cipZeroize => Sys2Proof.Machine.execCipZeroize s
  | .cipZeroizePair => Sys2Proof.Machine.execCipZeroizePair s
  | .cipLoadTx => Sys2Proof.Machine.execCipLoadTx s
  | .cipReleaseTx => Sys2Proof.Machine.execCipReleaseTx s
  | .cipKat => Sys2Proof.Machine.execCipKat s
  | .keyStoreProgrammed ok0 ok36 => Sys2Proof.Machine.execKeyStoreProgrammed ok0 ok36 s
  | .keyStorePurgeDone => Sys2Proof.Machine.execKeyStorePurgeDone s
  | .galleryLinkTrained link rate width => Sys2Proof.Machine.execGalleryLinkTrained link rate width s
  | .hello link h => Sys2Proof.Machine.execHello link h s
  | .heartbeat link chip margin epoch next replays => Sys2Proof.Machine.execHeartbeat link chip margin epoch next s replays
  | .heartbeatSend => Sys2Proof.Machine.execHeartbeatSend s
  | .mirror seq face dpa data mask poison devs sram bad => Sys2Proof.Machine.execMirror seq face dpa data mask poison s devs sram bad
  | .fwd tag face dpa data mask poison devs sram => Sys2Proof.Machine.execFwd tag face dpa data mask poison s devs sram
  | .order seq tag => Sys2Proof.Machine.execOrder seq tag s
  | .ack seq map => Sys2Proof.Machine.execAck seq map s
  | .galleryFence sub => Sys2Proof.Machine.execGalleryFence sub s
  | .recoverReq tag sub face addr devs => Sys2Proof.Machine.execRecoverReq tag sub face addr s devs
  | .recoverData tag sub offset lines => Sys2Proof.Machine.execRecoverData tag sub offset lines s
  | .rslvData seq sub sett chunk lines => Sys2Proof.Machine.execRslvData seq sub sett chunk lines s
  | .rslvSlabDone seq slab => Sys2Proof.Machine.execRslvSlabDone seq slab s
  | .rslvList slabs last => Sys2Proof.Machine.execRslvList slabs last s
  | .lineList lines last => Sys2Proof.Machine.execLineList lines last s
  | .lineData seq face dpa data poison => Sys2Proof.Machine.execLineData seq face dpa data poison s
  | .ctrlDcAdd seq face first pool => Sys2Proof.Machine.execCtrlDcAdd seq face first pool s
  | .ctrlDcRelease seq face block count => Sys2Proof.Machine.execCtrlDcRelease seq face block count s
  | .ctrlZeroFace seq face => Sys2Proof.Machine.execCtrlZeroFace seq face s
  | .ctrlErase seq face opcode => Sys2Proof.Machine.execCtrlErase seq face opcode s
  | .ctrlLsa seq face offset bytes ok0 ok36 => Sys2Proof.Machine.execCtrlLsa seq face offset bytes ok0 ok36 s
  | .ctrlShutdownState seq face value ok0 ok36 => Sys2Proof.Machine.execCtrlShutdownState seq face value ok0 ok36 s
  | .ctrlDone seq sub face ok => Sys2Proof.Machine.execCtrlDone seq sub face ok s
  | .resilverSett devs => Sys2Proof.Machine.execResilverSett s devs
  | .galleryLinkDown link => Sys2Proof.Machine.execGalleryLinkDown link s
  | .galleryGraceExpiry => Sys2Proof.Machine.execGalleryGraceExpiry s
  | .joinWaitExpiry => Sys2Proof.Machine.execJoinWaitExpiry s
  | .galleryRetrain link => Sys2Proof.Machine.execGalleryRetrain link s
  | .galTakeover key => Sys2Proof.Machine.execGalTakeover key s
  | .twinStatusRead word absent => Sys2Proof.Machine.execTwinStatusRead word absent s
  | .tw7StatusCommand => Sys2Proof.Machine.execTw7StatusCommand s
  | .tw7Alert word absent => Sys2Proof.Machine.execTw7Alert word absent s
  | .seqOn bmc => Sys2Proof.Machine.execSeqOn bmc s
  | .seqOff bmc => Sys2Proof.Machine.execSeqOff bmc s
  | .seqOffTimed bmc => Sys2Proof.Machine.execSeqOffTimed bmc s
  | .seqClear bmc => Sys2Proof.Machine.execSeqClear bmc s
  | .seqPulse pin => Sys2Proof.Machine.execSeqPulse pin s
  | .offTimedExpiry => Sys2Proof.Machine.execOffTimedExpiry s
  | .benchStepUp => Sys2Proof.Machine.execBenchStepUp s
  | .benchDelayExpiry => Sys2Proof.Machine.execBenchDelayExpiry s
  | .resetStretchExpiry pin => Sys2Proof.Machine.execResetStretchExpiry pin s
  | .benchTimeout => Sys2Proof.Machine.execBenchTimeout s
  | .benchStepDown => Sys2Proof.Machine.execBenchStepDown s
  | .dischargeTimeout rail => Sys2Proof.Machine.execDischargeTimeout rail s
  | .dnWaitExpiry => Sys2Proof.Machine.execDnWaitExpiry s
  | .benchSyncTimeout => Sys2Proof.Machine.execBenchSyncTimeout s
  | .upWaitExpiry => Sys2Proof.Machine.execUpWaitExpiry s
  | .seqUpFall => Sys2Proof.Machine.execSeqUpFall s
  | .minOffExpiry => Sys2Proof.Machine.execMinOffExpiry s
  | .resetPulseEnd pin => Sys2Proof.Machine.execResetPulseEnd pin s
  | .crystalFail => Sys2Proof.Machine.execCrystalFail s
  | .crystalRecover => Sys2Proof.Machine.execCrystalRecover s
  | .refclkFail => Sys2Proof.Machine.execRefclkFail s
  | .pllLockLoss pll => Sys2Proof.Machine.execPllLockLoss pll s
  | .islandRequest island on => Sys2Proof.Machine.execIslandRequest island on s
  | .islandIdleExpiry island => Sys2Proof.Machine.execIslandIdleExpiry island s
  | .islandWakeDone island => Sys2Proof.Machine.execIslandWakeDone island s
  | .islandStopDone island => Sys2Proof.Machine.execIslandStopDone island s
  | .islandWakeFault island => Sys2Proof.Machine.execIslandWakeFault island s
  | .windowRollover cls => Sys2Proof.Machine.execWindowRollover cls s
  | .parityCheck bad => Sys2Proof.Machine.execParityCheck bad s
  | .fltWarmReset => Sys2Proof.Machine.execFltWarmReset s
  | .fltInject src => Sys2Proof.Machine.execFltInject src s
  | .fltIrqqPop => Sys2Proof.Machine.execFltIrqqPop s
  | .fltFfcClear => Sys2Proof.Machine.execFltFfcClear s
  | .warmChipReset => Sys2Proof.Machine.execWarmChipReset s
  | .watchdogExpiry => Sys2Proof.Machine.execWatchdogExpiry s
  | .foremanCoresReleased => Sys2Proof.Machine.execForemanCoresReleased s
  | .fwmWdtKick key => Sys2Proof.Machine.execFwmWdtKick key s
  | .fwmAlive key ok0 ok36 => Sys2Proof.Machine.execFwmAlive key ok0 ok36 s
  | .fwmStageOpen slot ok ok36 => Sys2Proof.Machine.execFwmStageOpen slot ok s ok36
  | .fwmStageData data ok ok36 => Sys2Proof.Machine.execFwmStageData data ok s ok36
  | .fwmStageSeal slot ok ok36 => Sys2Proof.Machine.execFwmStageSeal slot ok s ok36
  | .fwmSelectNext slot ok0 ok36 => Sys2Proof.Machine.execFwmSelectNext slot ok0 ok36 s
  | .fwmActivateNow => Sys2Proof.Machine.execFwmActivateNow s
  | .fwmAbort => Sys2Proof.Machine.execFwmAbort s
  | .fwmBlow => Sys2Proof.Machine.execFwmBlow s
  | .bootRomStart inp => Sys2Proof.Machine.execBootRomStart inp s
  | .svyVerify => Sys2Proof.Machine.execSvyVerify s
  | .svyInstall => Sys2Proof.Machine.execSvyInstall s
  | .svyLiveLoad => Sys2Proof.Machine.execSvyLiveLoad s
  | .svyClear => Sys2Proof.Machine.execSvyClear s
  | .svyStageData write data => Sys2Proof.Machine.execSvyStageData write data s
  | .surveyInstallProgrammed ok0 ok36 => Sys2Proof.Machine.execSurveyInstallProgrammed ok0 ok36 s
  | .liveLoadApply => Sys2Proof.Machine.execLiveLoadApply s
  | .clgCommitCadence => Sys2Proof.Machine.execClgCommitCadence s
  | .clgCommitPending => Sys2Proof.Machine.execClgCommitPending s
  | .clgCadenceDue => Sys2Proof.Machine.execClgCadenceDue s
  | .clgPageProgrammed ok0 ok36 => Sys2Proof.Machine.execClgPageProgrammed ok0 ok36 s
  | .clgCurFetch seq => Sys2Proof.Machine.execClgCurFetch seq s
  | .clgFetchDone bad => Sys2Proof.Machine.execClgFetchDone s bad
  | .tw0Mctp bytes pec => Sys2Proof.Machine.execTw0Mctp bytes pec s
  | .tw0RegAddr addr pec => Sys2Proof.Machine.execTw0RegAddr addr pec s
  | .tw0RegDataWrite data pec => Sys2Proof.Machine.execTw0RegDataWrite data pec s
  | .tw0RegDataRead => Sys2Proof.Machine.execTw0RegDataRead s
  | .tw0AlertRead => Sys2Proof.Machine.execTw0AlertRead s
  | .tw0UnknownCommand code => Sys2Proof.Machine.execTw0UnknownCommand code s
  | .tw0AraRead won => Sys2Proof.Machine.execTw0AraRead won s
  | .smbalertRearm => Sys2Proof.Machine.execSmbalertRearm s
  | .tw0Sleep => Sys2Proof.Machine.execTw0Sleep s
  | .tw0SclTimeout => Sys2Proof.Machine.execTw0SclTimeout s
  | .twbGo port => Sys2Proof.Machine.execTwbGo port s
  | .twTransactionDone port res bytes => Sys2Proof.Machine.execTwTransactionDone port res bytes s
  | .twAddrNackRetry port => Sys2Proof.Machine.execTwAddrNackRetry port s
  | .twStretchTimeout port => Sys2Proof.Machine.execTwStretchTimeout port s
  | .arbitrationLost port own => Sys2Proof.Machine.execArbitrationLost port own s
  | .busStuckRecovery port rounds freed => Sys2Proof.Machine.execBusStuckRecovery port rounds freed s
  | .busStuckRetry port rounds freed => Sys2Proof.Machine.execBusStuckRetry port rounds freed s
  | .twAlertInput port addr => Sys2Proof.Machine.execTwAlertInput port addr s
  | .tapInstruction ins => Sys2Proof.Machine.execTapInstruction ins s
  | .railset rails => Sys2Proof.Machine.execRailset rails s
  | .allPowerCut => Sys2Proof.Machine.execAllPowerCut s
  | .seamRetryExhausted seam => Sys2Proof.Machine.execSeamRetryExhausted seam s
  | .foremanException core => Sys2Proof.Machine.execForemanException core s
  | .drbgHealthFail => Sys2Proof.Machine.execDrbgHealthFail s
  | .referenceClockReturn => Sys2Proof.Machine.execReferenceClockReturn s
  | .resumeMinExpiry channel target => Sys2Proof.Machine.execResumeMinExpiry channel target s
  | .rowIdleClose chan rank bank => Sys2Proof.Machine.execRowIdleClose chan rank bank s
  | .rankStopsAnswering chan rank => Sys2Proof.Machine.execRankStopsAnswering chan rank s
  | .spdmRequest port code session cdat => Sys2Proof.Machine.execSpdmRequest port code session s cdat

end Sys2Proof.Machine
end

