-- ==== Sys2Proof/Machine/Step.lean ====
section
/-! DEFINITION. One step of the block: the command at the front of its queue, or a tick when none waits. -/

namespace Sys2Proof.Machine

/-- One step: the command at the front of the queue takes effect on the state with the queue's rest; with an empty queue the block
lets a tick pass (DESIGN CHOICE 1), and mailbox commands that waited for an activation to end come to the queue (R576). -/
def step (s : State) : Host.Outcome State Fault Refusal :=
  match s.pending with
  | [] => .next s.idle.mailServe
  | c :: rest => exec c { s with pending := rest }

/-- The state with the command that a word spells in front of its queue; no row of the table gives a command bits, so no word
spells one. -/
def State.withFetchWord (s : State) (nbits w : Nat) : State :=
  match decodeTableWord nbits w with
  | some c => { s with pending := c :: s.pending }
  | none => s

end Sys2Proof.Machine
end

