-- ==== Sys2Proof/WellFormed.lean ====
section
/-! DEFINITION. Which commands can be sent: every operand lies in the range that its field, pin or name has. -/

namespace Sys2Proof

/-- Operands that name a part lie in the range of that part: six ports and faces, 36 DRAM channels of four ranks, 72 NAND channels of
eight targets, 262,144 rings, 36 banks of 65,536 slabs of 64 setts, 64 key slots, twelve lane pairs, eight groups, two links, two
packs, 132 islands, 704 sources, eight two-wire ports, and the widths of the fields that carry the rest (R15, R20, R87, R93, R126,
R207, R279, R352, R411, R493, R507, R544). -/
def Instr.wf (i : Instr) : Bool :=
  match i with
  | .registerWrite _ addr bytes _ => decide (addr < 2 ^ 32) && [1, 2, 4, 8].contains bytes
  | .deniedHostAccess port addr _ bytes _ => decide (port < 6) && decide (addr < 2 ^ 32) && [1, 2, 4, 8].contains bytes
  | .bedDenyClear => true
  | .bedDropClear => true
  | .coldReset bset baddr _ => decide (bset < 4) && decide (baddr < 4)
  | .bedrockPowerLoss => true
  | .memRd port tag dpa devs _ => decide (port < 6) && decide (tag < 65536) && decide (dpa < 2 ^ 52) && decide (devs < 2 ^ 20)
  | .memWr port tag dpa _ _ _ => decide (port < 6) && decide (tag < 65536) && decide (dpa < 2 ^ 52)
  | .memWrPtl port tag dpa _ _ devs _ =>
    decide (port < 6) && decide (tag < 65536) && decide (dpa < 2 ^ 52) && decide (devs < 2 ^ 20)
  | .parkedWriteAdmit _ => true
  | .dataWrittenToDram port tag _ _ => decide (port < 6) && decide (tag < 65536)
  | .freshQueueAgeWarn port => decide (port < 6)
  | .gpfPhase1 port => decide (port < 6)
  | .gpfPhase2 port => decide (port < 6)
  | .cxlReset face => decide (face < 6)
  | .linkDown port => decide (port < 6)
  | .linkTrained port rate width => decide (port < 6) && decide (rate < 4) && decide (width < 3)
  | .linkTrainRetry port => decide (port < 6)
  | .perstAssert port => decide (port < 6)
  | .perstRelease port => decide (port < 6)
  | .ideKeyProgramming port _ => decide (port < 6)
  | .ideIntegrityFailure port held => decide (port < 6) && decide (held < 65536)
  | .identify face => decide (face < 6)
  | .backgroundOperationStatus face => decide (face < 6)
  | .getEventRecords face log => decide (face < 6) && decide (log < 4)
  | .clearEventRecords face log _ _ => decide (face < 6) && decide (log < 4)
  | .getEventInterruptPolicy face => decide (face < 6)
  | .setEventInterruptPolicy face _ => decide (face < 6)
  | .getFwInfo face => (decide (face < 6) || face == 7)
  | .transferFw face action slot offset _ _ _ =>
    (decide (face < 6) || face == 7) && decide (action < 8) && decide (slot < 256) && decide (offset < 2 ^ 24)
  | .activateFwOnline face slot _ _ => (decide (face < 6) || face == 7) && decide (slot < 256)
  | .activateFwNextReset face slot _ _ => (decide (face < 6) || face == 7) && decide (slot < 256)
  | .getTimestamp face => decide (face < 6)
  | .setTimestamp face stamp => decide (face < 6) && decide (stamp < 2 ^ 64)
  | .getSupportedLogs face => decide (face < 6)
  | .getLog face uuid offset len =>
    decide (face < 6) && decide (uuid < 2 ^ 128) && decide (offset < 2 ^ 24) && decide (len < 2 ^ 24)
  | .getSupportedFeatures face => decide (face < 6)
  | .getFeature face feature => decide (face < 6) && decide (feature < 2 ^ 128)
  | .setFeature face feature _ => decide (face < 6) && decide (feature < 2 ^ 128)
  | .identifyMemoryDevice face => decide (face < 6)
  | .getPartitionInfo face => decide (face < 6)
  | .setPartitionInfo face => decide (face < 6)
  | .mailboxUnsupported face opcode => decide (face < 6) && decide (opcode < 65536)
  | .getLsa face offset len => decide (face < 6) && decide (offset < 2 ^ 24) && decide (len < 2 ^ 24)
  | .setLsa face offset _ _ _ => decide (face < 6) && decide (offset < 2 ^ 24)
  | .getHealthInfo face => decide (face < 6)
  | .getAlertConfiguration face => decide (face < 6)
  | .setAlertConfiguration face life hot cold =>
    decide (face < 6) && decide (life < 101) && decide (hot < 65536) && decide (cold < 65536)
  | .getShutdownState face => decide (face < 6)
  | .setShutdownState face value _ _ => decide (face < 6) && decide (value < 256)
  | .getPoisonList face dpa lines => decide (face < 6) && decide (dpa < 2 ^ 52) && decide (lines < 2 ^ 46)
  | .injectPoison face dpa => decide (face < 6) && decide (dpa < 2 ^ 52)
  | .clearPoison face dpa _ => decide (face < 6) && decide (dpa < 2 ^ 52)
  | .getScanMediaCapabilities face dpa lines => decide (face < 6) && decide (dpa < 2 ^ 52) && decide (lines < 2 ^ 46)
  | .scanMedia face dpa lines _ => decide (face < 6) && decide (dpa < 2 ^ 52) && decide (lines < 2 ^ 46)
  | .getScanMediaResults face => decide (face < 6)
  | .sanitize face => decide (face < 6)
  | .secureErase face => decide (face < 6)
  | .getDcConfiguration face => decide (face < 6)
  | .getDcExtentList face => decide (face < 6)
  | .addDcResponse face block _ => decide (face < 6) && decide (block < 65536)
  | .releaseDc face block count => decide (face < 6) && decide (block < 65536) && decide (count < 65536)
  | .negotiateFeatures face _ _ _ => decide (face < 6)
  | .heatHint face _ => decide (face < 6)
  | .getEnergyTelemetry face => decide (face < 6)
  | .requestPackRemoval face pack => decide (face < 6) && decide (pack < 2)
  | .cancelPackRemoval face pack => decide (face < 6) && decide (pack < 2)
  | .transferSurveyData face offset _ => (decide (face < 6) || face == 7) && decide (offset < 2 ^ 24)
  | .transferSurveyVerify face => (decide (face < 6) || face == 7)
  | .transferSurveyInstall face => (decide (face < 6) || face == 7)
  | .transferSurveyLiveLoad face => (decide (face < 6) || face == 7)
  | .transferSurveyClear face => (decide (face < 6) || face == 7)
  | .readCoreLog face seq count => (decide (face < 6) || face == 7) && decide (seq < 2 ^ 32) && decide (count < 256)
  | .resetRankState face chan rank _ _ => decide (face < 6) && decide (chan < 36) && decide (rank < 4)
  | .configureRingEnable face ring log2 vector imod sqBase cqBase =>
    decide (face < 6) && decide (ring < 262144) && decide (log2 < 17) && decide (vector < 2048) && decide (imod < 65536) && decide (sqBase < 2 ^ 52) && decide (cqBase < 2 ^ 52)
  | .configureRingDisable face ring => decide (face < 6) && decide (ring < 262144)
  | .configureRingReset face ring => decide (face < 6) && decide (ring < 262144)
  | .configureRingResume face ring => decide (face < 6) && decide (ring < 262144)
  | .getRingStatus face ring => decide (face < 6) && decide (ring < 262144)
  | .loadTransformKey face _ _ => decide (face < 6)
  | .releaseTransformKey face slot => decide (face < 6) && decide (slot < 64)
  | .rotateMediaKey face => decide (face < 6)
  | .getTwinStatus face => decide (face < 6)
  | .twinHandover face => decide (face < 6)
  | .getDcRegionConfiguration face => decide (face < 6)
  | .getDcRegionExtentLists face => decide (face < 6)
  | .initiateDynamicCapacityAdd face blocks _ => decide (face < 6) && decide (blocks < 65536)
  | .initiateDynamicCapacityRelease face block count => decide (face < 6) && decide (block < 65536) && decide (count < 65536)
  | .dcAddResponseTimeout face block => decide (face < 6) && decide (block < 65536)
  | .sqTailDoorbell port ring value _ => decide (port < 6) && decide (ring < 262144) && decide (value < 2 ^ 32)
  | .cqHeadDoorbell port ring value _ => decide (port < 6) && decide (ring < 262144) && decide (value < 2 ^ 32)
  | .jobCopy ring _ desc _ => decide (ring < 262144) && decide (desc < 2 ^ 20)
  | .jobFill ring desc _ => decide (ring < 262144) && decide (desc < 2 ^ 20)
  | .jobCheckpoint ring desc _ => decide (ring < 262144) && decide (desc < 2 ^ 20)
  | .checkpointPassEnd ring tag => decide (ring < 262144) && decide (tag < 2 ^ 32)
  | .jobPin ring desc _ => decide (ring < 262144) && decide (desc < 2 ^ 20)
  | .jobUnpin ring desc _ => decide (ring < 262144) && decide (desc < 2 ^ 20)
  | .jobPrefetchRestore ring desc _ => decide (ring < 262144) && decide (desc < 2 ^ 20)
  | .jobTransform ring _ _ desc _ => decide (ring < 262144) && decide (desc < 2 ^ 20)
  | .jobVerify ring _ _ desc _ => decide (ring < 262144) && decide (desc < 2 ^ 20)
  | .jobZeroFace ring desc _ => decide (ring < 262144) && decide (desc < 2 ^ 20)
  | .ringInterruptCoalesceExpiry ring => decide (ring < 262144)
  | .slbSetHeat _ => true
  | .slbSetLock _ => true
  | .slbClrLock _ => true
  | .slbSetRstate _ => true
  | .slbLoadMask _ => true
  | .slbSetOwner _ => true
  | .slbSnapshot slab _ => decide (slab < 2 ^ 22)
  | .slbEccClear => true
  | .heatDecaySweep _ => true
  | .ledgerUpdate _ => true
  | .ledgerExtraUpdate => true
  | .admissionReportIntervalEnd face => decide (face < 6)
  | .adcScan _ => true
  | .gaugeRead pack _ => decide (pack < 2)
  | .packStale pack => decide (pack < 2)
  | .packNoAnswer pack => decide (pack < 2)
  | .esrStale pack => decide (pack < 2)
  | .lgrRemoveRequest pack => decide (pack < 2)
  | .lgrRemoveCancel pack => decide (pack < 2)
  | .wearDayBoundary => true
  | .sensorRead port sensor _ => (port == 3 || port == 4) && decide (sensor < 32)
  | .sensorStale port sensor => (port == 3 || port == 4) && decide (sensor < 32)
  | .haulSelect _ haul => decide (haul < 3)
  | .haulDramReadDone sett _ => decide (sett < 150994944)
  | .haulPadWaitExpiry => true
  | .cipherPageDone sett pair _ => decide (sett < 150994944) && decide (pair < 12)
  | .katComplete pair _ => decide (pair < 12)
  | .stripeProgramDone _ => true
  | .stripeProgramFail _ channel => decide (channel < 72)
  | .wordlinePadTimeout group => decide (group < 8)
  | .pfwAssert => true
  | .pfwRelease => true
  | .pfwMaxExpiry => true
  | .pwrLoss => true
  | .inputRailLoss => true
  | .savePark => true
  | .saveOff => true
  | .saveDrain => true
  | .saveSlabImage => true
  | .savePslcSwitch => true
  | .anchorProgrammed _ _ => true
  | .saveCarveDone _ => true
  | .saveWalkEnd _ => true
  | .saveManifestDone _ _ => true
  | .saveSelfRefreshDone => true
  | .saveEnd => true
  | .inputPowerGood => true
  | .pg00WaitExpiry => true
  | .resStart _ => true
  | .resOpen => true
  | .resWarm => true
  | .fetchSettWritten slab _ _ => decide (slab < 2359296)
  | .backgroundFill => true
  | .restoreHoldExpiry port tag => decide (port < 6) && decide (tag < 65536)
  | .dramRefresh chan rank => decide (chan < 36) && decide (rank < 4)
  | .mr4Read chan _ => decide (chan < 36)
  | .selfRefreshEntry chan _ => decide (chan < 36)
  | .selfRefreshExit chan _ => decide (chan < 36)
  | .deviceRetrain chan rank sensor _ => decide (chan < 36) && decide (rank < 4) && decide (sensor < 64)
  | .scrubStep chan _ => decide (chan < 36)
  | .repairPageReady sett line _ devs => decide (sett < 150994944) && decide (line < 1024) && decide (devs < 2 ^ 20)
  | .migStart chan _ _ => decide (chan < 36)
  | .migRetire chan _ _ => decide (chan < 36)
  | .migAbort chan => decide (chan < 36)
  | .migCopySett _ _ _ => true
  | .nchApply chan => decide (chan < 72)
  | .nchCwmaxClear chan => decide (chan < 72)
  | .nandPageReadDone _ _ => true
  | .lodeEraseStart _ => true
  | .journalPageProgrammed _ _ => true
  | .eraseDone _ _ => true
  | .dieNoAnswerTimeout channel target => decide (channel < 72) && decide (target < 8)
  | .nandPatrolRead channel target block page =>
    decide (channel < 72) && decide (target < 8) && decide (block < 65536) && decide (page < 65536)
  | .reworkMove sett => decide (sett < 150994944)
  | .sumpFold sett => decide (sett < 150994944)
  | .rewrap sett => decide (sett < 150994944)
  | .cipGenerate => true
  | .cipActivate => true
  | .cipZeroize => true
  | .cipZeroizePair => true
  | .cipLoadTx => true
  | .cipReleaseTx => true
  | .cipKat => true
  | .keyStoreProgrammed _ _ => true
  | .keyStorePurgeDone => true
  | .galleryLinkTrained link rate width => decide (link < 2) && decide (rate < 4) && decide (width < 3)
  | .hello link _ => decide (link < 2)
  | .heartbeat link chip margin _ next replays =>
    decide (link < 2) && decide (chip < 8) && decide (margin < 4) && decide (next < 2 ^ 32) && decide (replays < 2 ^ 16)
  | .heartbeatSend => true
  | .mirror seq face dpa _ _ _ devs _ _ =>
    decide (seq < 2 ^ 32) && decide (face < 6) && decide (dpa < 2 ^ 52) && decide (devs < 2 ^ 20)
  | .fwd tag face dpa _ _ _ devs _ =>
    decide (tag < 65536) && decide (face < 6) && decide (dpa < 2 ^ 52) && decide (devs < 2 ^ 20)
  | .order seq tag => decide (seq < 2 ^ 32) && decide (tag < 65536)
  | .ack seq _ => decide (seq < 2 ^ 32)
  | .galleryFence sub => decide (sub < 256)
  | .recoverReq tag sub face addr _ => decide (tag < 65536) && decide (sub < 256) && decide (face < 6) && decide (addr < 2 ^ 52)
  | .recoverData tag sub offset _ => decide (tag < 65536) && decide (sub < 256) && decide (offset < 2 ^ 24)
  | .rslvData seq sub sett chunk _ =>
    decide (seq < 2 ^ 32) && decide (sub < 256) && decide (sett < 150994944) && decide (chunk < 64)
  | .rslvSlabDone seq slab => decide (seq < 2 ^ 32) && decide (slab < 2359296)
  | .rslvList _ _ => true
  | .lineList _ _ => true
  | .lineData seq face dpa _ _ => decide (seq < 2 ^ 32) && decide (face < 6) && decide (dpa < 2 ^ 52)
  | .ctrlDcAdd seq face _ _ => decide (seq < 2 ^ 32) && decide (face < 6)
  | .ctrlDcRelease seq face block count =>
    decide (seq < 2 ^ 32) && decide (face < 6) && decide (block < 65536) && decide (count < 65536)
  | .ctrlZeroFace seq face => decide (seq < 2 ^ 32) && decide (face < 6)
  | .ctrlErase seq face opcode => decide (seq < 2 ^ 32) && decide (face < 6) && decide (opcode < 65536)
  | .ctrlLsa seq face offset _ _ _ => decide (seq < 2 ^ 32) && decide (face < 6) && decide (offset < 2 ^ 24)
  | .ctrlShutdownState seq face value _ _ => decide (seq < 2 ^ 32) && decide (face < 6) && decide (value < 256)
  | .ctrlDone seq sub face _ => decide (seq < 2 ^ 32) && decide (sub < 256) && decide (face < 6)
  | .resilverSett _ => true
  | .galleryLinkDown link => decide (link < 2)
  | .galleryGraceExpiry => true
  | .joinWaitExpiry => true
  | .galleryRetrain link => decide (link < 2)
  | .galTakeover _ => true
  | .twinStatusRead _ _ => true
  | .tw7StatusCommand => true
  | .tw7Alert _ _ => true
  | .seqOn _ => true
  | .seqOff _ => true
  | .seqOffTimed _ => true
  | .seqClear _ => true
  | .seqPulse pin => decide (pin < 16)
  | .offTimedExpiry => true
  | .benchStepUp => true
  | .benchDelayExpiry => true
  | .resetStretchExpiry pin => decide (pin < 16)
  | .benchTimeout => true
  | .benchStepDown => true
  | .dischargeTimeout rail => decide (rail < 32)
  | .dnWaitExpiry => true
  | .benchSyncTimeout => true
  | .upWaitExpiry => true
  | .seqUpFall => true
  | .minOffExpiry => true
  | .resetPulseEnd pin => decide (pin < 16)
  | .crystalFail => true
  | .crystalRecover => true
  | .refclkFail => true
  | .pllLockLoss pll => decide (pll < 18)
  | .islandRequest island _ => decide (island < 132)
  | .islandIdleExpiry island => decide (island < 132)
  | .islandWakeDone island => decide (island < 132)
  | .islandStopDone island => decide (island < 132)
  | .islandWakeFault island => decide (island < 132)
  | .windowRollover cls => decide (cls < 9)
  | .parityCheck _ => true
  | .fltWarmReset => true
  | .fltInject src => decide (src < 704)
  | .fltIrqqPop => true
  | .fltFfcClear => true
  | .warmChipReset => true
  | .watchdogExpiry => true
  | .foremanCoresReleased => true
  | .fwmWdtKick _ => true
  | .fwmAlive _ _ _ => true
  | .fwmStageOpen slot _ _ => decide (slot < 2)
  | .fwmStageData _ _ _ => true
  | .fwmStageSeal slot _ _ => decide (slot < 2)
  | .fwmSelectNext slot _ _ => decide (slot < 2)
  | .fwmActivateNow => true
  | .fwmAbort => true
  | .fwmBlow => true
  | .bootRomStart _ => true
  | .svyVerify => true
  | .svyInstall => true
  | .svyLiveLoad => true
  | .svyClear => true
  | .svyStageData _ _ => true
  | .surveyInstallProgrammed _ _ => true
  | .liveLoadApply => true
  | .clgCommitCadence => true
  | .clgCommitPending => true
  | .clgCadenceDue => true
  | .clgPageProgrammed _ _ => true
  | .clgCurFetch seq => decide (seq < 2 ^ 32)
  | .clgFetchDone _ => true
  | .tw0Mctp _ _ => true
  | .tw0RegAddr addr _ => decide (addr < 2 ^ 32)
  | .tw0RegDataWrite _ _ => true
  | .tw0RegDataRead => true
  | .tw0AlertRead => true
  | .tw0UnknownCommand code => decide (code < 256)
  | .tw0AraRead _ => true
  | .smbalertRearm => true
  | .tw0Sleep => true
  | .tw0SclTimeout => true
  | .twbGo port => decide (port < 8)
  | .twTransactionDone port _ _ => decide (port < 8)
  | .twAddrNackRetry port => decide (port < 8)
  | .twStretchTimeout port => decide (port < 8)
  | .arbitrationLost port _ => decide (port < 8)
  | .busStuckRecovery port rounds _ => decide (port < 8) && decide (rounds < 256)
  | .busStuckRetry port rounds _ => decide (port < 8) && decide (rounds < 256)
  | .twAlertInput port addr => decide (port < 8) && addr.all (fun a => decide (a < 128))
  | .tapInstruction _ => true
  | .railset rails => decide (rails < 2 ^ 32)
  | .allPowerCut => true
  | .seamRetryExhausted seam => decide (seam < 4)
  | .foremanException core => decide (core < 4)
  | .drbgHealthFail => true
  | .referenceClockReturn => true
  | .resumeMinExpiry channel target => decide (channel < 72) && decide (target < 8)
  | .rowIdleClose chan rank bank => decide (chan < 36) && decide (rank < 4) && decide (bank < 32)
  | .rankStopsAnswering chan rank => decide (chan < 36) && decide (rank < 4)
  | .spdmRequest port code _ _ => decide (port < 6) && decide (code < 256)

end Sys2Proof
end

