-- ==== Sys2Proof/Safety.lean ====
section
/-! DEFINITION. What counts as a safe run, and the words that claims are stated in: commands that can be sent, no stop, the effect
of a command, and what an effect leaves alone. -/

namespace Sys2Proof.Machine

/-- Every waiting command is well formed. -/
def State.sendable (s : State) : Bool := s.pending.all Instr.wf

/-- A run of so many steps that ends in neither a fault nor a refusal. -/
def safeRun (n : Nat) (s : State) : Prop := ∃ t, Sys2Proof.core.run n s = .next t

/-- Command `c` completes at `s`: the next state is an effect `u` of which `P` holds, followed by what the block does by itself in
the same hub clock (`State.settled`). -/
def State.does (s : State) (c : Instr) (P : State → Prop) : Prop := ∃ u, exec c s = .next (s.settled u) ∧ P u

/-- Every register word but those at the listed addresses is held as before. -/
def keepsWords (addrs : List Nat) (s u : State) : Prop := ∀ a, a ∉ addrs → u.word a = s.word a

/-- The parts of the state, one for each field. -/
inductive Part where
  | regs | tick | chip | margin | stamp | stampTick | fuse | bed | svy | slb | lgr | adm | haul | save | stk | saves | res
  | dch | ports | nv | job | cip | gal | seq | clk | flt | clg | twb | fwm | pin | pending | out | free
  deriving DecidableEq, Repr

/-- A part of the state is in `u` what it is in `s`. -/
def Part.same (s u : State) : Part → Prop
  | .regs => u.regs = s.regs
  | .tick => u.tick = s.tick
  | .chip => u.chip = s.chip
  | .margin => u.margin = s.margin
  | .stamp => u.stamp = s.stamp
  | .stampTick => u.stampTick = s.stampTick
  | .fuse => u.fuse = s.fuse
  | .bed => u.bed = s.bed
  | .svy => u.svy = s.svy
  | .slb => u.slb = s.slb
  | .lgr => u.lgr = s.lgr
  | .adm => u.adm = s.adm
  | .haul => u.haul = s.haul
  | .save => u.save = s.save
  | .stk => u.stk = s.stk
  | .saves => u.saves = s.saves
  | .res => u.res = s.res
  | .dch => u.dch = s.dch
  | .ports => u.ports = s.ports
  | .nv => u.nv = s.nv
  | .job => u.job = s.job
  | .cip => u.cip = s.cip
  | .gal => u.gal = s.gal
  | .seq => u.seq = s.seq
  | .clk => u.clk = s.clk
  | .flt => u.flt = s.flt
  | .clg => u.clg = s.clg
  | .twb => u.twb = s.twb
  | .fwm => u.fwm = s.fwm
  | .pin => u.pin = s.pin
  | .pending => u.pending = s.pending
  | .out => u.out = s.out
  | .free => u.free = s.free

/-- Every part of the state but those listed is left alone. -/
def keepsBut (l : List Part) (s u : State) : Prop := ∀ p, p ∉ l → p.same s u

/-- Nothing but register words changed, and of them only those at the listed addresses. -/
def onlyWords (addrs : List Nat) (s u : State) : Prop := keepsBut [.regs] s u ∧ keepsWords addrs s u

/-- An event source's condition was detected: a raise with the tick joins those that FLT takes up, and its status bit is set
(R508). -/
def raisedIn (src : Nat) (q : Bool) (s u : State) : Prop :=
  u.flt = { s.flt with raised := s.flt.raised ++ [⟨src, s.tick, q⟩] } ∧ bitAt (evsBit src).2 (u.rd (evsBit src).1) = true

/-- Every byte of DRAM, and every line's poison, reads as before. -/
def keepsDram (s u : State) : Prop := (∀ a, u.byte a = s.byte a) ∧ ∀ k l, u.poisoned k l = s.poisoned k l

end Sys2Proof.Machine
end

