-- ==== Sys2Proof/Certificates/Slice0/Obligations.lean ====
section
/-! DEFINITION. Statements about the model for the provers. A statement that names commands has one clause for each case of a command:
for every state and operands that meet the conditions before it, the command completes (`State.does`): `exec` answers the next state
`s.settled u`, where `u` is the command's own effect as the clause gives it, and `settled` adds what the block does by itself in the same
hub clock. `keepsBut`, `keepsWords` and `onlyWords` say what the effect leaves alone: every part of the state, and every register
word, that they do not list. -/

open Sys2Proof Sys2Proof.Machine

/-- A step takes the command at the front of the queue and runs it on the state with the rest. -/
def Obligations.StepRunsFront : Prop :=
  ∀ (c : Instr) (rest : List Instr) (s : State), step { s with pending := c :: rest } = exec c { s with pending := rest }

/-- With no command waiting a tick passes (DESIGN CHOICE 1); the 48-bit count does not wrap (R489). -/
def Obligations.IdleStep : Prop :=
  ∀ s : State, s.pending = [] → ∃ t, step s = .next t ∧ (s.idle.fwm.waiting = [] → t.pending = []) ∧ (s.chip = .off → t = s) ∧
    (s.chip ≠ .off → t.tick = min (s.tick + 1) (2 ^ 48 - 1))

/-- The invariant of TickStaysInRange holds at reset (R489, R500); the chip state there is the model's reading (entry 12). -/
def Obligations.ResetTickInRange : Prop :=
  State.reset.tick < 2 ^ 48 ∧ State.reset.pending = [] ∧ State.reset.chip = .bedrock

/-- The 48-bit tick count (R489) stays in range over every step from every state. -/
def Obligations.TickStaysInRange : Prop :=
  ∀ s t : State, s.tick < 2 ^ 48 → step s = .next t → t.tick < 2 ^ 48

/-- Every command answers a next state, so no run stops. -/
def Obligations.NoCommandStops : Prop :=
  ∀ (n : Nat) (s : State), safeRun n s

/-- The queue is first in, first out: a run of as many steps as a prefix is long leaves the rest. -/
def Obligations.QueueRunsInOrder : Prop :=
  ∀ (a b : List Instr) (s : State), ∃ t : State, Sys2Proof.core.run a.length { s with pending := a ++ b } = .next t ∧ t.pending = b

/-- Off has no power: only a cold reset leaves it (R500), and a power cut finds nothing to cut. -/
def Obligations.OffTakesNothing : Prop :=
  ∀ (c : Instr) (s : State), s.chip = .off → (∀ b a x, c ≠ .coldReset b a x) → c ≠ .allPowerCut → exec c s = .next s

/-- What no command reaches: time (R489), the fuses but for the rollback bits (R581, R589), TESTEN (R603), and the queue. -/
def Obligations.CommandsLeaveTimeAndFuses : Prop :=
  ∀ (c : Instr) (s t : State), (∀ b a x, c ≠ .coldReset b a x) → c ≠ .bedrockPowerLoss → c ≠ .allPowerCut → exec c s = .next t →
    t.tick = s.tick ∧ t.pin.testen = s.pin.testen ∧ t.pending = s.pending ∧ t.fuse = { s.fuse with blown := t.fuse.blown }

/-- On, off, timed off, clear and pulse requests (R478, R479, R480, R481). Commands: SEQ_ON, SEQ_OFF, SEQ_OFF_TIMED, OFF_TIMED_EXPIRY, SEQ_CLEAR, SEQ_PULSE, RESET_PULSE_END, MIN_OFF_EXPIRY. The effect on the clock of a request is the tick in which it is taken (entry 9). -/
def Obligations.SequencerRequests : Prop :=
  (∀ (bmc : Bool) (s : State),
      s.chip ≠ .off →
      s.chip = .bedrock →
      (bmc = true ∨ s.hubOn = true) →
      s.seqPhase = phaseIdle →
      s.seq.timed = false →
      s.seq.minOff = true →
      s.benchTable = true →
      s.does (.seqOn bmc) fun u => (u.chip = .waking ∧ u.rd SEQ_STATUS.PHASE = phaseUp ∧ u.rd SEQ_STATUS.OFF_HELD = 0 ∧ u.rd
        SEQ_STATUS.ON_PEND = 0 ∧ u.rd SEQ_CMD_STATUS.RESULT = seqOk ∧ (u.seq.stage = .ready 1 ∨ u.seq.stage =
        .cascade)) ∧ keepsBut [.regs, .seq, .res, .chip, .slb, .bed, .fwm, .out] s u) ∧
    (∀ (bmc : Bool) (s : State),
      s.chip ≠ .off →
      s.chip = .bedrock →
      (bmc = true ∨ s.hubOn = true) →
      s.seqPhase = phaseIdle →
      s.seq.timed = false →
      s.seq.minOff = false →
      s.does (.seqOn bmc) fun u => u.rd SEQ_STATUS.ON_PEND = 1 ∧ u.rd SEQ_STATUS.OFF_HELD = 0 ∧ u.rd SEQ_CMD_STATUS.RESULT =
        seqPending ∧ onlyWords [SEQ_STATUS.ON_PEND.addr, SEQ_CMD_STATUS.RESULT.addr] s u) ∧
    (∀ (bmc : Bool) (s : State),
      s.chip ≠ .off →
      s.chip = .save →
      (bmc = true ∨ s.hubOn = true) →
      s.rd HAUL_SAVE_STAT.STEP ≠ 9 →
      s.does (.seqOff bmc) fun u => u.seq = { s.seq with offPend := true } ∧ u.rd SEQ_STATUS.OFF_HELD = 1 ∧ u.rd
        SEQ_CMD_STATUS.RESULT = seqSaving ∧ keepsBut [.regs, .seq] s u ∧ keepsWords [SEQ_STATUS.OFF_HELD.addr,
        SEQ_CMD_STATUS.RESULT.addr] s u) ∧
    (∀ (bmc : Bool) (s : State),
      s.chip ≠ .off →
      s.chip = .bedrock →
      (bmc = true ∨ s.hubOn = true) →
      s.does (.seqOff bmc) fun u => u.rd SEQ_STATUS.OFF_HELD = 1 ∧ u.rd SEQ_STATUS.ON_PEND = 0 ∧ u.rd SEQ_CMD_STATUS.RESULT
        = seqNoEffect ∧ onlyWords [SEQ_STATUS.OFF_HELD.addr, SEQ_CMD_STATUS.RESULT.addr] s u) ∧
    (∀ (bmc : Bool) (s : State),
      s.chip ≠ .off →
      (bmc = true ∨ s.hubOn = true) →
      s.does (.seqOffTimed bmc) fun u => u.seq = { s.seq with timed := true, timedTick := s.tick } ∧ u.rd SEQ_OFFDLY.LEFT =
        s.rd SEQ_OFFDLY.MS ∧ u.rd SEQ_CMD_STATUS.RESULT = seqOk ∧ keepsBut [.regs, .seq] s u ∧ keepsWords
        [SEQ_OFFDLY.LEFT.addr, SEQ_CMD_STATUS.RESULT.addr] s u) ∧
    (∀ (s : State),
      s.chip ≠ .off →
      s.chip = .save →
      s.seq.timed = true →
      s.seq.timedTick + msTicks (s.rd SEQ_OFFDLY.MS) ≤ s.tick →
      s.rd HAUL_SAVE_STAT.STEP ≠ 9 →
      s.does (.offTimedExpiry) fun u => u.seq = { s.seq with timed := false, offPend := true } ∧ u.rd SEQ_OFFDLY.LEFT = 0 ∧
        u.rd SEQ_STATUS.OFF_HELD = 1 ∧ u.rd SEQ_CMD_STATUS.RESULT = seqSaving ∧ keepsBut [.regs, .seq] s u ∧
        keepsWords [SEQ_OFFDLY.LEFT.addr, SEQ_STATUS.OFF_HELD.addr, SEQ_CMD_STATUS.RESULT.addr] s u) ∧
    (∀ (bmc : Bool) (s : State),
      s.chip ≠ .off →
      s.chip = .bedrock →
      (bmc = true ∨ s.hubOn = true) →
      s.seq.stage = .idle →
      s.does (.seqClear bmc) fun u => (u.word SEQ_FIRST.RAIL.addr = 0 ∧ u.word SEQ_FIRST_TLO.TICK.addr = 0 ∧ u.word
        SEQ_FIRST_THI.TICK.addr = 0 ∧ u.rd SEQ_CMD_STATUS.RESULT = seqOk ∧ (s.seqPhase = phaseLatched → u.seqPhase =
        phaseIdle) ∧ u.clg = { s.clg with railLogged := false }) ∧ keepsBut [.regs, .clg, .twb, .pin] s u ∧ keepsWords
        [SEQ_STATUS.PHASE.addr, SEQ_FIRST.RAIL.addr, SEQ_FIRST_TLO.TICK.addr, SEQ_FIRST_THI.TICK.addr,
        SEQ_CMD_STATUS.RESULT.addr, FLT_STATUS.ERR_N.addr, BED_STATE.ERR.addr, TWB_ALRT_CAUSE.CAUSE.addr] s u) ∧
    (∀ (pin : Nat) (s : State),
      s.chip ≠ .off →
      s.benchTable = true →
      pin < 16 →
      s.svOn (BENCHES.RST_EN pin) = true →
      s.sv (BENCHES.RST_BENCH pin) ≤ s.rd SEQ_STATUS.LEVEL →
      s.latchedOrLatching = false →
      s.does (.seqPulse pin) fun u => bitAt pin (u.rd SEQ_RST.ASSERTED) = true ∧ bitAt pin u.seq.pulse = true ∧ u.rd
        SEQ_CMD_STATUS.RESULT = seqOk ∧ keepsBut [.regs, .seq] s u ∧ keepsWords [SEQ_RST.ASSERTED.addr,
        SEQ_CMD_STATUS.RESULT.addr] s u) ∧
    (∀ (pin : Nat) (s : State),
      s.chip ≠ .off →
      pin < 16 →
      bitAt pin s.seq.pulse = true →
      bitAt pin s.seq.stretch = false →
      s.does (.resetPulseEnd pin) fun u => bitAt pin (u.rd SEQ_RST.ASSERTED) = false ∧ u.seq =
        { s.seq with pulse := withBit pin false s.seq.pulse } ∧ keepsBut [.regs, .seq] s u ∧ keepsWords
        [SEQ_RST.ASSERTED.addr] s u) ∧
    (∀ (s : State),
      s.chip ≠ .off →
      s.chip = .bedrock →
      s.seq.minOff = false →
      s.seq.offTick + msTicks s.minOffMs ≤ s.tick + 1 →
      s.on SEQ_STATUS.ON_PEND = false →
      s.does (.minOffExpiry) fun u => u.seq = { s.seq with minOff := true } ∧ keepsBut [.seq] s u) ∧
    (∀ (s : State),
      s.chip ≠ .off →
      s.chip = .bedrock →
      s.seq.minOff = false →
      s.seq.offTick + msTicks s.minOffMs ≤ s.tick + 1 →
      s.on SEQ_STATUS.ON_PEND = true →
      s.seqPhase = phaseIdle →
      s.benchTable = true →
      s.does (.minOffExpiry) fun u => u.chip = .waking ∧ u.rd SEQ_STATUS.PHASE = phaseUp ∧ u.rd SEQ_STATUS.ON_PEND = 0 ∧
        keepsBut [.regs, .seq, .res, .chip, .slb, .bed, .fwm, .out] s u)

/-- Benches step up and down, and what their waits and timeouts do (R466, R470, R471, R472, R473). Commands: BENCH_STEP_UP, BENCH_DELAY_EXPIRY, RESET_STRETCH_EXPIRY, BENCH_TIMEOUT, BENCH_STEP_DOWN, DISCHARGE_TIMEOUT, DN_WAIT_EXPIRY, BENCH_SYNC_TIMEOUT, UP_WAIT_EXPIRY, SEQ_UP_FALL. -/
def Obligations.BenchSequence : Prop :=
  (∀ (b : Nat) (s : State),
      s.chip ≠ .off →
      s.seq.stage = .ready b →
      s.does (.benchStepUp) fun u => (u.seq.stage = .qualifying b ∧ ∀ n ∈ s.benchRails b, bitAt n (u.rd SEQ_EN.RAILS) =
        true) ∧ keepsBut [.regs, .seq] s u ∧ keepsWords [SEQ_EN.RAILS.addr] s u) ∧
    (∀ (b : Nat) (s : State),
      s.chip ≠ .off →
      s.seq.stage = .delaying b →
      b < s.sv BENCHES.TOP →
      s.does (.benchDelayExpiry) fun u => u.seq = { s.seq with stage := .ready (b + 1) } ∧ keepsBut [.seq] s u) ∧
    (∀ (b : Nat) (s : State),
      s.chip ≠ .off →
      s.seq.stage = .delaying b →
      s.sv BENCHES.TOP ≤ b →
      s.does (.benchDelayExpiry) fun u => u.seq = { s.seq with stage := .idle } ∧ u.rd SEQ_STATUS.PHASE = phaseIdle ∧ u.rd
        SEQ_STATUS.SEQ_DN = 1 ∧ keepsBut [.regs, .seq] s u ∧ keepsWords [SEQ_STATUS.PHASE.addr] s u) ∧
    (∀ (pin : Nat) (s : State),
      s.chip ≠ .off →
      pin < 16 →
      bitAt pin s.seq.stretch = true →
      bitAt pin s.seq.pulse = false →
      s.does (.resetStretchExpiry pin) fun u => bitAt pin (u.rd SEQ_RST.ASSERTED) = false ∧ u.seq =
        { s.seq with stretch := withBit pin false s.seq.stretch } ∧ keepsBut [.regs, .seq] s u ∧ keepsWords
        [SEQ_RST.ASSERTED.addr] s u) ∧
    (∀ (b : Nat) (n : Nat) (s : State),
      s.chip ≠ .off →
      s.seq.stage = .qualifying b →
      b ≠ 0 →
      n ∈ s.benchRails b →
      bitAt n (s.rd SEQ_GOOD.RAILS) = false →
      s.does (.benchTimeout) fun u => u.rd SEQ_FIRST.VALID = 1 ∧ bitAt n (u.rd SEQ_FAILED.RAILS) = true ∧ keepsBut [.regs,
        .chip, .bed, .svy, .slb, .lgr, .adm, .haul, .save, .stk, .res, .dch, .ports, .job, .cip, .gal, .seq, .clk,
        .flt, .clg, .twb, .fwm, .pin, .out] s u) ∧
    (∀ (b : Nat) (s : State),
      s.chip ≠ .off →
      s.seq.stage = .down b →
      s.railsDown b ≠ [] →
      s.does (.benchStepDown) fun u => (u.seq.stage = .discharging b (s.railsDown b) ∧ u.rd SEQ_STATUS.SEQ_DN = 0 ∧ ∀ n ∈
        s.railsDown b, n < 32 → bitAt n (u.rd SEQ_EN.RAILS) = false) ∧ keepsBut [.regs, .seq] s u ∧ keepsWords
        [SEQ_STATUS.SEQ_DN.addr, SEQ_RST.ASSERTED.addr, SEQ_EN.RAILS.addr, SEQ_GOOD.RAILS.addr] s u) ∧
    (∀ (rail : Nat) (b : Nat) (l : List Nat) (s : State),
      s.chip ≠ .off →
      s.seq.stage = .discharging b l →
      rail ∈ l →
      rail < 32 →
      l.filter (fun n => !(n == rail)) ≠ [] →
      s.does (.dischargeTimeout rail) fun u => u.seq.stage = .discharging b (l.filter (fun n => !(n == rail))) ∧ bitAt rail
        (u.rd SEQ_FAILED.RAILS) = true ∧ u.rd SEQ_FIRST.VALID = 1 ∧ u.seq.latchAfter = true ∧ keepsBut [.regs, .seq,
        .flt] s u) ∧
    (∀ (b : Nat) (s : State),
      s.chip ≠ .off →
      s.seq.stage = .dnWait b →
      s.does (.dnWaitExpiry) fun u => u.seq = { s.seq with stage := .down b } ∧ keepsBut [.seq] s u) ∧
    (∀ (b : Nat) (s : State),
      s.chip ≠ .off →
      s.seq.stage = .syncing b →
      s.on SEQ_STATUS.SYNC_LINE = false →
      s.sv (BENCHES.SYNC b) ≠ 1 →
      s.does (.benchSyncTimeout) fun u => raisedIn 653 false s u ∧ u.rd SEQ_STATUS.SYNC_WAIT = 0 ∧ u.seq =
        { s.seq with stage := .delaying b } ∧ keepsBut [.regs, .seq, .flt] s u ∧ keepsWords
        [SEQ_STATUS.SYNC_WAIT.addr, SEQ_EVS2.STATUS.addr] s u) ∧
    (∀ (b : Nat) (s : State),
      s.chip ≠ .off →
      s.seq.stage = .syncing b →
      s.on SEQ_STATUS.SYNC_LINE = false →
      s.sv (BENCHES.SYNC b) = 1 →
      s.does (.benchSyncTimeout) fun u => u.rd SEQ_FIRST.VALID = 1 ∧ keepsBut [.regs, .chip, .bed, .svy, .slb, .lgr, .adm,
        .haul, .save, .stk, .res, .dch, .ports, .job, .cip, .gal, .seq, .clk, .flt, .clg, .twb, .fwm, .pin, .out] s u) ∧
    (∀ (s : State),
      s.chip ≠ .off →
      s.seq.stage = .cascade →
      s.sv BENCHES.CASCADE = 2 →
      s.does (.upWaitExpiry) fun u => raisedIn 654 false s u ∧ u.rd SEQ_STATUS.CASC_WAIT = 0 ∧ u.seq =
        { s.seq with stage := .ready 1 } ∧ keepsBut [.regs, .seq, .flt] s u ∧ keepsWords [SEQ_STATUS.CASC_WAIT.addr,
        SEQ_EVS2.STATUS.addr] s u) ∧
    (∀ (s : State),
      s.chip ≠ .off →
      s.benchTable = true →
      0 < s.rd SEQ_STATUS.LEVEL →
      s.sv BENCHES.CASCADE = 2 →
      s.does (.seqUpFall) fun u => u.rd SEQ_STATUS.SEQ_UP = 0 ∧ raisedIn 654 false s u ∧ keepsBut [.regs, .flt] s u ∧
        keepsWords [SEQ_STATUS.SEQ_UP.addr, SEQ_EVS2.STATUS.addr] s u) ∧
    (∀ (s : State),
      s.chip ≠ .off →
      (s.sv BENCHES.CASCADE = 0 ∨ s.benchTable = false) →
      s.does (.seqUpFall) fun u => u.rd SEQ_STATUS.SEQ_UP = 0 ∧ onlyWords [SEQ_STATUS.SEQ_UP.addr] s u)

/-- A cold reset, losses of power, a warm chip reset, and the boot ROM (R8, R36, R500, R523, R566). Commands: COLD_RESET, BEDROCK_POWER_LOSS, ALL_POWER_CUT, WARM_CHIP_RESET, FLT_WARM_RESET, BOOT_ROM_START. -/
def Obligations.PowerAndReset : Prop :=
  (∀ (bset baddr : Nat) (testen : Bool) (s : State),
      s.chip = .off →
      ∃ u, exec (.coldReset bset baddr testen) s = .next u ∧ u.chip = .bedrock ∧ u.margin = .sable ∧ u.tick = 0 ∧ u.rd
        SEQ_STRAP.BSET = bset % 4 ∧ u.rd TWB_T0.ADDR = 0x58 + baddr % 4 ∧ u.pin.testen = testen ∧ u.dch.mem = [] ∧
        u.saves = s.saves ∧ u.nv = s.nv ∧ u.fuse = s.fuse ∧ u.clg.log = s.clg.log ∧ u.fwm.slotA = s.fwm.slotA ∧
        u.fwm.slotB = s.fwm.slotB) ∧
    (∀ (s : State),
      s.chip = .bedrock →
      ∃ u, exec (.bedrockPowerLoss) s = .next u ∧ (u.chip = .off ∧ u.dch.mem = [] ∧ u.saves = s.saves ∧ u.nv = s.nv ∧ u.fuse
        = s.fuse ∧ u.clg.log = s.clg.log ∧ ∀ a, a ≠ GAL_STATUS.SOLO.addr → u.word a = regReset a)) ∧
    (∀ (s : State),
      ∃ u, exec (.allPowerCut) s = .next u ∧ (u.chip = .off ∧ u.dch.mem = [] ∧ u.saves = s.saves ∧ u.nv = s.nv ∧ u.fuse =
        s.fuse ∧ u.clg.log = s.clg.log ∧ ∀ a, a ≠ GAL_STATUS.SOLO.addr → u.word a = regReset a)) ∧
    (∀ (s : State),
      s.chip ≠ .off →
      s.powered = true →
      s.serving = false →
      s.flt.rst = none →
      s.does (.warmChipReset) fun u => u.flt = { s.flt with rst := some .command } ∧ keepsBut [.flt] s u) ∧
    (∀ (s : State),
      s.chip ≠ .off →
      s.powered = true →
      s.serving = false →
      s.flt.rst = none →
      s.does (.fltWarmReset) fun u => u.flt = { s.flt with rst := some .command } ∧ keepsBut [.flt] s u) ∧
    (∀ (inp : BootIn) (s : State),
      s.chip ≠ .off →
      s.chip = .waking →
      s.slb.ready = false →
      s.pin.testen = false →
      s.bootPower = true →
      s.does (.bootRomStart inp) fun u => (u.slb.ready = true ∧ u.rd SLB_STATUS.READY = 1 ∧ u.rd CIP_STATUS.DRBG_OK = 1 ∧
        ((u.fwm.recovery = true ∧ u.fwm.running = false ∧ u.rd FWM_STATUS.STAGE = 4) ∨ (u.fwm.running = true ∧ u.rd
        FWM_STATUS.STAGE = 3))) ∧ keepsBut [.regs, .tick, .chip, .bed, .svy, .slb, .lgr, .adm, .haul, .save, .stk,
        .res, .dch, .ports, .job, .cip, .gal, .seq, .clk, .flt, .clg, .twb, .fwm, .pin, .out] s u)

/-- Register writes by their access codes, host accesses, and the deny and drop counts (R4, R7, R586, R587, R589). Commands: REGISTER_WRITE, DENIED_HOST_ACCESS, BED_DENY_CLEAR, BED_DROP_CLEAR. -/
def Obligations.RegisterAccess : Prop :=
  (∀ (who : Sender) (addr bytes : Nat) (data : BitVec 64) (s : State),
      s.chip ≠ .off →
      s.hubOn = true →
      who = .foreman →
      addr = BED_FSEL.FACE.addr →
      bytes = 4 →
      s.does (.registerWrite who addr bytes data) fun u => u.rd BED_FSEL.FACE = data.toNat % 8 ∧ onlyWords
        [BED_FSEL.FACE.addr] s u) ∧
    (∀ (who : Sender) (addr bytes : Nat) (data : BitVec 64) (s : State),
      s.chip ≠ .off →
      s.hubOn = true →
      who = .foreman →
      addr = SEQ_EVS2.STATUS.addr →
      bytes = 4 →
      s.does (.registerWrite who addr bytes data) fun u => u.rd SEQ_EVS2.STATUS = s.rd SEQ_EVS2.STATUS - Nat.land (s.rd
        SEQ_EVS2.STATUS) (data.toNat % 256) ∧ onlyWords [SEQ_EVS2.STATUS.addr] s u) ∧
    (∀ (who : Sender) (addr bytes : Nat) (data : BitVec 64) (s : State),
      s.chip ≠ .off →
      s.hubOn = true →
      who = .foreman →
      addr = LGR_CEIL.SETTS.addr →
      bytes = 4 →
      s.does (.registerWrite who addr bytes data) fun u => u.word addr = s.word addr ∧ onlyWords [] s u) ∧
    (∀ (who : Sender) (addr bytes : Nat) (data : BitVec 64) (s : State),
      s.chip ≠ .off →
      who = .foreman →
      (bytes = 1 ∨ bytes = 2) →
      s.does (.registerWrite who addr bytes data) fun u => u = s) ∧
    (∀ (who : Sender) (addr bytes : Nat) (data : BitVec 64) (p : Nat) (s : State),
      s.chip ≠ .off →
      who = .host p →
      s.barLive p addr = true →
      bytes = 4 →
      addr % 4 = 0 →
      hostReach p addr = false →
      isDoorbell addr = false →
      s.does (.registerWrite who addr bytes data) fun u => u.rd BED_DENY.COUNT = min (s.rd BED_DENY.COUNT + 1) 65535 ∧ u.rd
        BED_DENY.FACE = p % 8 ∧ u.rd BED_DENY_ADDR.ADDR = addr / 4 % 2 ^ 24 ∧ u.rd BED_DENY_ADDR.WRITE = 1 ∧ onlyWords
        [BED_DENY.COUNT.addr, BED_DENY_ADDR.ADDR.addr] s u) ∧
    (∀ (port addr : Nat) (write : Bool) (bytes : Nat) (data : BitVec 64) (s : State),
      s.chip ≠ .off →
      s.barLive port addr = true →
      hostReach port addr = false →
      isDoorbell addr = false →
      write = false →
      (bytes = 1 ∨ bytes = 2 ∨ bytes = 4) →
      s.does (.deniedHostAccess port addr write bytes data) fun u => u.rd BED_DENY.COUNT = min (s.rd BED_DENY.COUNT + 1)
        65535 ∧ u.rd BED_DENY.FACE = port % 8 ∧ u.rd BED_DENY_ADDR.ADDR = addr / 4 % 2 ^ 24 ∧ u.rd BED_DENY_ADDR.WRITE
        = 0 ∧ u.out = .barData port 0 :: s.out ∧ keepsBut [.regs, .out] s u ∧ keepsWords [BED_DENY.COUNT.addr,
        BED_DENY_ADDR.ADDR.addr] s u) ∧
    (∀ (s : State),
      s.chip ≠ .off →
      s.does (.bedDenyClear) fun u => u.rd BED_DENY.COUNT = 0 ∧ u.rd BED_DENY.FACE = s.rd BED_DENY.FACE ∧ onlyWords
        [BED_DENY.COUNT.addr] s u) ∧
    (∀ (s : State),
      s.chip ≠ .off →
      s.does (.bedDropClear) fun u => u.rd BED_DROP.COUNT = 0 ∧ onlyWords [BED_DROP.COUNT.addr] s u)

/-- The TAP instruction and RAILSET (R610, R611). Commands: TAP_INSTRUCTION, RAILSET. -/
def Obligations.TestPort : Prop :=
  (∀ (ins : Tap) (s : State),
      s.chip ≠ .off →
      s.does (.tapInstruction ins) fun u => (u.pin = { s.pin with tap := s.tapLoads ins } ∧ (s.pin.testen = false → ins =
        .extest ∨ ins = .clamp ∨ ins = .highz ∨ ins = .railset → u.pin.tap = .bypass) ∧ (ins = .idcode → u.out =
        .regData s.idcode :: .tap .idcode :: s.out)) ∧ keepsBut [.pin, .out] s u) ∧
    (∀ (rails : Nat) (s : State),
      s.chip ≠ .off →
      s.pin.testen = false →
      s.does (.railset rails) fun u => u.pin = { s.pin with tap := .bypass } ∧ u.out = .tap .bypass :: s.out ∧ keepsBut
        [.pin, .out] s u) ∧
    (∀ (rails : Nat) (s : State),
      s.chip ≠ .off →
      s.pin.testen = true →
      s.testRests = false →
      s.does (.railset rails) fun u => u.pin = { s.pin with tap := .railset, railset := rails % 2 ^ 32 } ∧ u.out = .tap
        .railset :: s.out ∧ keepsBut [.pin, .out] s u)

/-- Failing clocks, and the transitions of an island (R490, R492, R494, R495, R496, R498). Commands: CRYSTAL_FAIL, CRYSTAL_RECOVER, REFCLK_FAIL, REFERENCE_CLOCK_RETURN, PLL_LOCK_LOSS, ISLAND_REQUEST, ISLAND_IDLE_EXPIRY, ISLAND_WAKE_DONE, ISLAND_STOP_DONE, ISLAND_WAKE_FAULT. -/
def Obligations.ClocksAndIslands : Prop :=
  (∀ (s : State),
      s.chip ≠ .off →
      s.on CLK_STATUS.TICK_RC = false →
      s.does (.crystalFail) fun u => u.rd CLK_STATUS.TICK_RC = 1 ∧ raisedIn 674 false s u ∧ keepsBut [.regs, .flt] s u ∧
        keepsWords [CLK_STATUS.TICK_RC.addr, CLK_EVS.STATUS.addr] s u) ∧
    (∀ (s : State),
      s.chip ≠ .off →
      s.does (.crystalRecover) fun u => u.rd CLK_STATUS.TICK_RC = 0 ∧ onlyWords [CLK_STATUS.TICK_RC.addr] s u) ∧
    (∀ (s : State),
      s.chip ≠ .off →
      s.clk.refFail = false →
      s.does (.refclkFail) fun u => (u.clk.refFail = true ∧ u.rd CLK_STATUS.REF_OK = 0 ∧ (s.hubOn = true → u.rd
        CLK_STATUS.HOLDOVER = 1) ∧ u.flt.raised.getLast? = some ⟨675, s.tick, false⟩) ∧ keepsBut [.regs, .tick, .chip,
        .bed, .svy, .slb, .adm, .haul, .save, .stk, .saves, .res, .dch, .ports, .nv, .job, .cip, .gal, .seq, .clk,
        .flt, .clg, .fwm, .out, .free] s u) ∧
    (∀ (s : State),
      s.chip ≠ .off →
      s.does (.referenceClockReturn) fun u => u.clk = { s.clk with refFail := false } ∧ u.rd CLK_STATUS.REF_OK = 1 ∧ u.rd
        CLK_STATUS.HOLDOVER = 0 ∧ keepsBut [.regs, .clk] s u ∧ keepsWords [CLK_STATUS.REF_OK.addr] s u) ∧
    (∀ (pll : Nat) (s : State),
      s.chip ≠ .off →
      s.hubOn = true →
      s.on CLK_STATUS.REF_OK = true →
      (pll = 0 ∨ pll = 1 ∨ (10 ≤ pll ∧ pll < 18)) →
      s.does (.pllLockLoss pll) fun u => (raisedIn 676 false s u ∧ (pll = 0 → u.rd CLK_STATUS.HUB_LOCK = 0) ∧ (pll = 1 →
        u.rd CLK_STATUS.FMN_LOCK = 0)) ∧ keepsBut [.regs, .flt] s u ∧ keepsWords [CLK_STATUS.HUB_LOCK.addr,
        CLK_EVS.STATUS.addr] s u) ∧
    (∀ (island : Nat) (on : Bool) (s : State),
      s.chip ≠ .off →
      s.hubOn = true →
      (116 ≤ island ∧ island < 128 ∨ island = islRes) →
      on = false →
      s.does (.islandRequest island on) fun u => u.rd (CLK_ISL.MODE island) = 2 ∧ onlyWords [(CLK_ISL.MODE island).addr] s u) ∧
    (∀ (island : Nat) (on : Bool) (s : State),
      s.chip ≠ .off →
      s.hubOn = true →
      108 ≤ island →
      island < 114 →
      s.faceOn (island - 108) = true →
      s.does (.islandRequest island on) fun u => u.rd (HPT_CFG.ENABLE (island - 108)) = (if on then 1 else 0) ∧ onlyWords
        [(HPT_CFG.ENABLE (island - 108)).addr] s u) ∧
    (∀ (island : Nat) (on : Bool) (s : State),
      s.chip ≠ .off →
      s.hubOn = true →
      island = islJob →
      s.does (.islandRequest island on) fun u => u.rd JOB_CFG.ENABLE = (if on then 1 else 0) ∧ onlyWords
        [JOB_CFG.ENABLE.addr] s u) ∧
    (∀ (island : Nat) (s : State),
      s.chip ≠ .off →
      s.islIdle island = true →
      s.does (.islandIdleExpiry island) fun u => u.isl island = islStopping ∧ u.rd (CLK_ISL.PENDING island) = 0 ∧ onlyWords
        [(CLK_ISL.STATE island).addr] s u) ∧
    (∀ (island : Nat) (s : State),
      s.chip ≠ .off →
      s.powering island = true →
      island < 132 →
      s.on (CLK_ISL.PENDING island) = false →
      (island < 116 ∨ 128 ≤ island) →
      s.does (.islandWakeDone island) fun u => u.isl island = islOn ∧ u.rd (CLK_ISL.PENDING island) = 0 ∧ u.rising island =
        false ∧ keepsBut [.regs, .clk] s u) ∧
    (∀ (island : Nat) (s : State),
      s.chip ≠ .off →
      s.isl island = islStopping →
      (island < 108 ∨ 116 ≤ island) →
      island < 132 →
      s.does (.islandStopDone island) fun u => u.isl island = islOff ∧ u.rd (CLK_ISL.PENDING island) = 0 ∧ keepsBut [.regs]
        s u) ∧
    (∀ (island : Nat) (s : State),
      s.chip ≠ .off →
      s.isl island = islRestarting →
      s.rising island = false →
      island < 132 →
      s.does (.islandStopDone island) fun u => u.rising island = true ∧ u.rd (CLK_ISL.PENDING island) = 0 ∧ keepsBut [.regs,
        .clk] s u ∧ keepsWords [(CLK_ISL.STATE island).addr] s u) ∧
    (∀ (island : Nat) (s : State),
      s.chip ≠ .off →
      s.powering island = true →
      108 ≤ island →
      (island < 116 ∨ 128 ≤ island) →
      island < 132 →
      s.does (.islandWakeFault island) fun u => u.isl island = islOff ∧ u.rd (CLK_ISL.FAULT island) = 1 ∧ raisedIn 677 false
        s u ∧ keepsBut [.regs, .clk, .flt] s u)

/-- Windows, injected and detected faults, queues and the watchdog (R508, R513, R522, R525, R528, R578). Commands: WINDOW_ROLLOVER, PARITY_CHECK, FLT_INJECT, FLT_IRQQ_POP, FLT_FFC_CLEAR, WATCHDOG_EXPIRY, SEAM_RETRY_EXHAUSTED, FOREMAN_EXCEPTION. -/
def Obligations.FaultCommands : Prop :=
  (∀ (cls : Nat) (s : State),
      s.chip ≠ .off →
      cls < 8 →
      SMap.get 0 cls s.flt.win < s.clsWindow cls →
      SMap.get 0 cls s.flt.winNew = 0 →
      s.does (.windowRollover cls) fun u => SMap.get 0 cls u.flt.win = s.clsWindow cls ∧ keepsBut [.regs, .flt] s u) ∧
    (∀ (bad : Bool) (s : State),
      s.chip ≠ .off →
      bad = true →
      s.does (.parityCheck bad) fun u => u.rd FLT_STATUS.PARITY = 1 ∧ raisedIn 689 false s u ∧ keepsBut [.regs, .flt] s u ∧
        keepsWords [FLT_STATUS.PARITY.addr, FLT_EVS.STATUS.addr] s u) ∧
    (∀ (src : Nat) (s : State),
      s.chip ≠ .off →
      src < 704 →
      s.does (.fltInject src) fun u => raisedIn src false s u ∧ keepsBut [.regs, .flt] s u ∧ keepsWords [(evsBit
        src).1.addr] s u) ∧
    (∀ (s : State),
      s.chip ≠ .off →
      s.does (.fltIrqqPop) fun u => u.flt = { s.flt with irqq := s.flt.irqq.drop 1 } ∧ keepsBut [.flt] s u) ∧
    (∀ (s : State),
      s.chip ≠ .off →
      s.on FLT_FFC.VALID = true →
      s.does (.fltFfcClear) fun u => u.word FLT_FFC.VALID.addr = 0 ∧ u.word FLT_FFC_TLO.TICK.addr = 0 ∧ u.word
        FLT_FFC_THI.TICK.addr = 0 ∧ onlyWords [FLT_FFC.VALID.addr, FLT_FFC_TLO.TICK.addr, FLT_FFC_THI.TICK.addr] s u) ∧
    (∀ (s : State),
      s.chip ≠ .off →
      s.hubOn = true →
      s.fwm.running = true →
      s.rd FWM_WDT_STAT.LEFT = 0 →
      s.on FWM_STATUS.ACTIVATING = false →
      s.rd FWM_WDT_CFG.ACTION = 0 →
      s.does (.watchdogExpiry) fun u => u.rd FWM_WDT_STAT.EXPIRIES = min (s.rd FWM_WDT_STAT.EXPIRIES + 1) (2 ^
        FWM_WDT_STAT.EXPIRIES.width - 1) ∧ raisedIn 681 false s u ∧ u.rd FWM_WDT_STAT.LEFT = Nat.max 1 (s.rd
        FWM_WDT_CFG.PERIOD) ∧ keepsBut [.regs, .flt] s u ∧ keepsWords [FWM_WDT_STAT.LEFT.addr, FLT_EVS.STATUS.addr] s
        u) ∧
    (∀ (seam : Nat) (s : State),
      s.chip ≠ .off →
      s.hubOn = true →
      seam < 4 →
      s.does (.seamRetryExhausted seam) fun u => raisedIn (690 + seam) false s u ∧ keepsBut [.regs, .flt] s u ∧ keepsWords
        [FLT_EVS.STATUS.addr] s u) ∧
    (∀ (core : Nat) (s : State),
      s.chip ≠ .off →
      s.hubOn = true →
      s.fwm.running = true →
      s.does (.foremanException core) fun u => raisedIn 680 false s u ∧ keepsBut [.regs, .flt] s u ∧ keepsWords
        [FLT_EVS.STATUS.addr] s u)

/-- Staging, sealing, selecting and activating firmware, the watchdog kick and the rollback fuses (R570, R572, R575, R578, R581, R582). Commands: FOREMAN_CORES_RELEASED, FWM_WDT_KICK, FWM_ALIVE, FWM_STAGE_OPEN, FWM_STAGE_DATA, FWM_STAGE_SEAL, FWM_SELECT_NEXT, FWM_ACTIVATE_NOW, IDENTIFY, GET_TIMESTAMP, GET_HEALTH_INFO, FWM_ABORT, FWM_BLOW. -/
def Obligations.FirmwareCommands : Prop :=
  (∀ (s : State),
      s.chip ≠ .off →
      s.hubOn = true →
      s.fwm.running = false →
      s.fwm.recovery = false →
      s.rd FWM_STATUS.STAGE = 2 →
      s.on FWM_STATUS.ACTIVATING = false →
      s.slotValid (s.rd FWM_STATUS.BOOTED) = true →
      s.does (.foremanCoresReleased) fun u => u.fwm.running = true ∧ u.fwm.alive = false ∧ u.rd FWM_STATUS.STAGE = 3 ∧ u.rd
        FWM_WDT_STAT.LEFT = Nat.max 1 (s.rd FWM_WDT_CFG.PERIOD) ∧ keepsBut [.regs, .fwm] s u ∧ keepsWords
        [FWM_STATUS.STAGE.addr, BED_FWVER.VERSION.addr, FWM_WDT_STAT.LEFT.addr] s u) ∧
    (∀ (key : Word) (s : State),
      s.chip ≠ .off →
      s.hubOn = true →
      s.fwm.running = true →
      key = 0x4B49434B →
      s.does (.fwmWdtKick key) fun u => u.rd FWM_WDT_STAT.LEFT = Nat.max 1 (s.rd FWM_WDT_CFG.PERIOD) ∧ onlyWords
        [FWM_WDT_STAT.LEFT.addr] s u) ∧
    (∀ (key : Word) (s : State),
      s.chip ≠ .off →
      s.hubOn = true →
      s.fwm.running = true →
      key ≠ 0x4B49434B →
      s.on FWM_STATUS.ACTIVATING = false →
      s.rd FWM_WDT_CFG.ACTION = 0 →
      s.does (.fwmWdtKick key) fun u => raisedIn 681 false s u ∧ keepsBut [.regs, .flt] s u ∧ keepsWords
        [FWM_WDT_STAT.LEFT.addr, FLT_EVS.STATUS.addr] s u) ∧
    (∀ (key : Word) (ok0 ok36 : Bool) (s : State),
      s.chip ≠ .off →
      s.hubOn = true →
      s.fwm.running = true →
      key = 0x414C4956 →
      s.on FWM_STATUS.ACTIVATING = false →
      s.on FWM_STATUS.TRIAL = true →
      (s.healthProgram ok0 ok36).1 = true →
      s.does (.fwmAlive key ok0 ok36) fun u => u.fwm =
        { s.fwm with alive := true, active := s.rd FWM_STATUS.BOOTED, trial := false, tries := 0 } ∧ u.rd
        FWM_STATUS.TRIAL = 0 ∧ keepsBut [.regs, .fwm, .stk, .flt] s u) ∧
    (∀ (slot : Nat) (ok : Bool) (ok36 : Bool) (s : State),
      s.chip ≠ .off →
      s.stageable slot = true →
      s.on FWM_STATUS.ACTIVATING = false →
      (s.fwProgram slot (ok, ok36)).1 = true →
      s.does (.fwmStageOpen slot ok ok36) fun u => u.fwm.staging = some slot ∧ (u.fwSlot slot).sealed = false ∧ (u.fwSlot
        slot).next = [] ∧ u.rd FWM_STAGE_ADDR.ADDR = 0 ∧ u.rd FWM_CMD_STATUS.RESULT = fwOk ∧ keepsBut [.regs, .stk,
        .flt, .fwm] s u) ∧
    (∀ (data : Word) (ok : Bool) (ok36 : Bool) (k : Nat) (s : State),
      s.chip ≠ .off →
      s.hubOn = true →
      s.fwm.staging = some k →
      (s.fwProgram k (ok, ok36)).1 = true →
      s.does (.fwmStageData data ok ok36) fun u => (u.fwSlot k).next = SMap.put 0 (s.rd FWM_STAGE_ADDR.ADDR * 4) data
        (s.fwSlot k).next ∧ u.rd FWM_STAGE_ADDR.ADDR = (s.rd FWM_STAGE_ADDR.ADDR + 1) % 2 ^ FWM_STAGE_ADDR.ADDR.width
        ∧ keepsBut [.regs, .fwm] s u ∧ keepsWords [FWM_STAGE_ADDR.ADDR.addr] s u) ∧
    (∀ (slot : Nat) (ok : Bool) (ok36 : Bool) (s : State),
      s.chip ≠ .off →
      s.hubOn = true →
      s.fwm.staging = some slot →
      slot < 2 →
      s.fwCheck (s.fwSlot slot).next = fwOk →
      (s.fwProgram slot (ok, ok36)).1 = true →
      s.does (.fwmStageSeal slot ok ok36) fun u => (u.fwSlot slot).sealed = true ∧ (u.fwSlot slot).image = (s.fwSlot
        slot).next ∧ u.fwm.staging = none ∧ u.rd FWM_CMD_STATUS.RESULT = fwOk ∧ keepsBut [.regs, .fwm] s u) ∧
    (∀ (slot : Nat) (ok0 ok36 : Bool) (s : State),
      s.chip ≠ .off →
      s.stageable slot = true →
      s.fwm.staging ≠ some slot →
      s.slotValid slot = true →
      (s.healthProgram ok0 ok36).1 = true →
      s.does (.fwmSelectNext slot ok0 ok36) fun u => u.fwm = { s.fwm with active := 1 - slot, trial := true, tries := 0 } ∧
        u.rd FWM_CMD_STATUS.RESULT = fwOk ∧ keepsBut [.regs, .stk, .flt, .fwm] s u) ∧
    (∀ (s : State),
      s.chip ≠ .off →
      s.hubOn = true →
      s.fwm.running = true →
      s.on FWM_STATUS.ACTIVATING = false →
      s.fwm.trial = true →
      s.slotValid (1 - s.rd FWM_STATUS.BOOTED) = true →
      s.does (.fwmActivateNow) fun u => u.fwm =
        { s.fwm with prev := s.rd FWM_STATUS.BOOTED, handoff := true, running := false, alive := false } ∧ u.rd
        FWM_STATUS.ACTIVATING = 1 ∧ u.rd FWM_STATUS.STAGE = 2 ∧ u.rd FWM_CMD_STATUS.RESULT = fwOk ∧ keepsBut [.regs,
        .fwm, .twb] s u ∧ keepsWords [FWM_STATUS.STAGE.addr, FWM_CMD_STATUS.RESULT.addr] s u) ∧
    (∀ (face : Nat) (s : State),
      s.chip ≠ .off →
      s.mailCan face = true →
      s.on FWM_STATUS.ACTIVATING = true →
      s.does (.identify face) fun u => u.fwm = { s.fwm with waiting := s.fwm.waiting ++ [(face, .identify face)] } ∧
        keepsBut [.fwm] s u) ∧
    (∀ (face : Nat) (s : State),
      s.chip ≠ .off →
      s.mailCan face = true →
      s.on FWM_STATUS.ACTIVATING = true →
      s.does (.getTimestamp face) fun u => u.fwm = { s.fwm with waiting := s.fwm.waiting ++ [(face, .getTimestamp face)] } ∧
        keepsBut [.fwm] s u) ∧
    (∀ (face : Nat) (s : State),
      s.chip ≠ .off →
      s.mailCan face = true →
      s.on FWM_STATUS.ACTIVATING = true →
      s.does (.getHealthInfo face) fun u => u.fwm = { s.fwm with waiting := s.fwm.waiting ++ [(face, .getHealthInfo face)] }
        ∧ keepsBut [.fwm] s u) ∧
    (∀ (s : State),
      s.chip ≠ .off →
      s.hubOn = true →
      s.fwm.staging.isSome = true →
      s.does (.fwmAbort) fun u => u.fwm = { s.fwm with staging := none, xfer := 0, xferFace := 0 } ∧ u.rd
        FWM_CMD_STATUS.RESULT = fwOk ∧ keepsBut [.regs, .fwm] s u ∧ keepsWords [FWM_CMD_STATUS.RESULT.addr] s u) ∧
    (∀ (s : State),
      s.chip ≠ .off →
      s.hubOn = true →
      s.chip = .opened →
      s.fuse.blown < s.fwm.svyEpoch →
      s.fuse.blown < fwEpoch (s.fwSlot (s.rd FWM_STATUS.BOOTED)).image →
      s.does (.fwmBlow) fun u => u.fuse = { s.fuse with blown := s.fuse.blown + 1 } ∧ u.rd FWM_CMD_STATUS.RESULT = fwOk ∧
        keepsBut [.regs, .fuse] s u ∧ keepsWords [SVY_FLOOR.BLOWN.addr, FWM_EPOCH.BLOWN.addr,
        FWM_CMD_STATUS.RESULT.addr] s u)

/-- Verifying, installing, staging and clearing a Survey image (R75, R76, R78, R80, R86). Commands: SVY_VERIFY, SVY_CLEAR, SVY_STAGE_DATA, SVY_INSTALL, SVY_LIVE_LOAD, SURVEY_INSTALL_PROGRAMMED, LIVE_LOAD_APPLY. -/
def Obligations.SurveyCommands : Prop :=
  (∀ (s : State),
      s.chip ≠ .off →
      s.hubOn = true →
      s.rd SVY_STATUS.STATE = 0 →
      s.does (.svyVerify) fun u => u.rd SVY_STATUS.STATE = 1 ∧ u.svy =
        { s.svy with cmd := 1, live := false, taken := s.svy.staging } ∧ keepsBut [.regs, .svy] s u ∧ keepsWords
        [SVY_STATUS.STATE.addr] s u) ∧
    (∀ (s : State),
      s.chip ≠ .off →
      s.hubOn = true →
      s.rd SVY_STATUS.STATE = 0 →
      s.does (.svyClear) fun u => u.svy = { s.svy with staging := [] } ∧ u.rd SVY_STAGE_ADDR.ADDR = 0 ∧ u.rd
        SVY_STATUS.RESULT = svyOk ∧ keepsBut [.regs, .svy] s u ∧ keepsWords [SVY_STAGE_ADDR.ADDR.addr,
        SVY_STATUS.RESULT.addr] s u) ∧
    (∀ (write : Bool) (data : Word) (s : State),
      s.chip ≠ .off →
      s.hubOn = true →
      write = true →
      s.does (.svyStageData write data) fun u => u.svy =
        { s.svy with staging := SMap.put 0 (s.rd SVY_STAGE_ADDR.ADDR * 4) data s.svy.staging } ∧ u.rd
        SVY_STAGE_ADDR.ADDR = (s.rd SVY_STAGE_ADDR.ADDR + 1) % 2 ^ SVY_STAGE_ADDR.ADDR.width ∧ keepsBut [.regs, .svy]
        s u ∧ keepsWords [SVY_STAGE_ADDR.ADDR.addr] s u) ∧
    (∀ (write : Bool) (data : Word) (s : State),
      s.chip ≠ .off →
      s.hubOn = true →
      write = false →
      s.does (.svyStageData write data) fun u => u.out = .regData (SMap.get 0 (s.rd SVY_STAGE_ADDR.ADDR * 4) s.svy.staging)
        :: s.out ∧ u.rd SVY_STAGE_ADDR.ADDR = (s.rd SVY_STAGE_ADDR.ADDR + 1) % 2 ^ SVY_STAGE_ADDR.ADDR.width ∧
        keepsBut [.regs, .out] s u ∧ keepsWords [SVY_STAGE_ADDR.ADDR.addr] s u) ∧
    (∀ (s : State),
      s.chip ≠ .off →
      s.hubOn = true →
      s.rd SVY_STATUS.STATE = 0 →
      s.does (.svyInstall) fun u => u.rd SVY_STATUS.STATE = 1 ∧ u.svy =
        { s.svy with cmd := 2, live := false, taken := s.svy.staging } ∧ keepsBut [.regs, .svy] s u ∧ keepsWords
        [SVY_STATUS.STATE.addr] s u) ∧
    (∀ (s : State),
      s.chip ≠ .off →
      s.hubOn = true →
      s.serving = true →
      s.rd SVY_STATUS.STATE = 0 →
      s.does (.svyLiveLoad) fun u => u.rd SVY_STATUS.STATE = 1 ∧ u.svy =
        { s.svy with cmd := 3, live := true, taken := s.svy.staging } ∧ keepsBut [.regs, .svy] s u ∧ keepsWords
        [SVY_STATUS.STATE.addr] s u) ∧
    (∀ (ok0 ok36 : Bool) (s : State),
      s.chip ≠ .off →
      s.rd SVY_STATUS.STATE = 2 →
      s.targetInsts.all (fun i => s.bootWrote (i % 2) (bootArea (i / 2)).1 (if i % 2 = 0 then ok0 else ok36)) = true →
      s.svy.live = true →
      s.bootFree = true →
      s.does (.surveyInstallProgrammed ok0 ok36) fun u => u.rd SVY_STATUS.STATE = 3 ∧ u.svy.run = s.svy.run ∧ keepsBut
        [.regs, .svy, .stk, .ports, .flt, .fwm, .out] s u) ∧
    (∀ (ok0 ok36 : Bool) (s : State),
      s.chip ≠ .off →
      s.rd SVY_STATUS.STATE = 2 →
      s.targetInsts.all (fun i => s.bootWrote (i % 2) (bootArea (i / 2)).1 (if i % 2 = 0 then ok0 else ok36)) = false →
      s.bootFree = true →
      s.does (.surveyInstallProgrammed ok0 ok36) fun u => u.rd SVY_STATUS.STATE = 0 ∧ u.rd SVY_STATUS.RESULT =
        svyInstallFail ∧ u.svy.run = s.svy.run ∧ u.rd SVY_GEN.GENERATION = s.rd SVY_GEN.GENERATION ∧ keepsBut [.regs,
        .svy, .stk, .ports, .flt, .fwm, .out] s u) ∧
    (∀ (s : State),
      s.chip ≠ .off →
      s.rd SVY_STATUS.STATE = 3 →
      s.tick % 32 = 0 →
      s.mayApply = true →
      s.does (.liveLoadApply) fun u => u.rd SVY_STATUS.STATE = 0 ∧ u.rd SVY_STATUS.RESULT = svyOk ∧ u.rd SVY_LIVE.TICK =
        s.tick / 32 % 2 ^ SVY_LIVE.TICK.width ∧ u.svy.cmd = 0 ∧ keepsBut [.regs, .svy, .dch, .ports, .flt, .fwm, .out]
        s u)

/-- What the mailbox commands that only read return (part 1 of 2) (R332, R333, R336, R339, R346, R347). Commands: IDENTIFY, BACKGROUND_OPERATION_STATUS, GET_EVENT_RECORDS, GET_EVENT_INTERRUPT_POLICY, GET_FW_INFO, GET_TIMESTAMP, GET_SUPPORTED_LOGS, GET_LOG, GET_SUPPORTED_FEATURES, GET_FEATURE, SET_FEATURE, IDENTIFY_MEMORY_DEVICE, GET_PARTITION_INFO, SET_PARTITION_INFO, MAILBOX_UNSUPPORTED. -/
def Obligations.MailboxReadsFirst : Prop :=
  (∀ (face : Nat) (s : State),
      s.chip ≠ .off →
      s.mailOk face = true →
      s.mailBusy face = false →
      face < 6 →
      s.does (.identify face) fun u => u.out = .reply face 0x0001 .success [s.faceSerial face] :: s.out ∧ keepsBut [.out] s
        u) ∧
    (∀ (face : Nat) (s : State),
      s.chip ≠ .off →
      s.mailOk face = true →
      s.mailBusy face = false →
      (s.port face).bg = none →
      s.does (.backgroundOperationStatus face) fun u => u.out = .reply face 0x0002 .success [(s.port face).bgLast, if
        (s.port face).bgLast = 0 then 0 else 100, (s.port face).bgRet, (s.port face).bgVend] :: s.out ∧ keepsBut
        [.out] s u) ∧
    (∀ (face log : Nat) (l : EvLog) (s : State),
      s.chip ≠ .off →
      s.mailOk face = true →
      s.mailBusy face = false →
      (s.port face).logs[log]? = some l →
      s.does (.getEventRecords face log) fun u => u.out = .reply face 0x0100 .success ([l.overflow, l.recs.length] ++
        l.recs.flatMap (fun r => r.handle :: r.body.words face)) :: s.out ∧ keepsBut [.out] s u) ∧
    (∀ (face : Nat) (s : State),
      s.chip ≠ .off →
      s.mailOk face = true →
      s.mailBusy face = false →
      s.does (.getEventInterruptPolicy face) fun u => u.out = .reply face 0x0102 .success (s.port face).evPolicy :: s.out ∧
        keepsBut [.out] s u) ∧
    (∀ (face : Nat) (s : State),
      s.chip ≠ .off →
      s.mailOk face = true →
      s.mailBusy face = false →
      s.on (HPT_CFG.MGMT face) = true →
      face < 6 →
      s.does (.getFwInfo face) fun u => u.out = .reply face 0x0200 .success ([2, (if s.fwm.recovery then 0 else s.rd
        FWM_STATUS.BOOTED + 1), (if s.fwm.trial then 2 - s.fwm.active else 0), 1] ++ [0, 1, 2, 3].map (fun i => if
        s.slotValid 0 then imgWord (s.fwSlot 0).image (0x18 + 4 * i) else 0) ++ [0, 1, 2, 3].map (fun i => if
        s.slotValid 1 then imgWord (s.fwSlot 1).image (0x18 + 4 * i) else 0)) :: s.out ∧ keepsBut [.out] s u) ∧
    (∀ (face : Nat) (s : State),
      s.chip ≠ .off →
      s.mailOk face = true →
      s.mailBusy face = false →
      s.does (.getTimestamp face) fun u => u.out = .reply face 0x0300 .success [s.stampNow] :: s.out ∧ keepsBut [.out] s u) ∧
    (∀ (face : Nat) (s : State),
      s.chip ≠ .off →
      s.mailOk face = true →
      s.mailBusy face = false →
      s.does (.getSupportedLogs face) fun u => u.out = .reply face 0x0400 .success [1, celUuid, 4 * celOpcodes.length] ::
        s.out ∧ keepsBut [.out] s u) ∧
    (∀ (face uuid offset len : Nat) (s : State),
      s.chip ≠ .off →
      s.mailOk face = true →
      s.mailBusy face = false →
      uuid = celUuid →
      offset % 4 = 0 →
      len % 4 = 0 →
      offset + len ≤ 4 * celOpcodes.length →
      s.does (.getLog face uuid offset len) fun u => u.out = .reply face 0x0401 .success (s.celEntries ((celOpcodes.drop
        (offset / 4)).take (len / 4))).2 :: s.out ∧ u.free = s.free + len / 4 ∧ keepsBut [.out, .free] s u) ∧
    (∀ (face : Nat) (s : State),
      s.chip ≠ .off →
      s.mailOk face = true →
      s.mailBusy face = false →
      s.does (.getSupportedFeatures face) fun u => u.out = .reply face 0x0500 .success [2, featJobLimits, 64, 0,
        featKeyStatus, 32, 0] :: s.out ∧ keepsBut [.out] s u) ∧
    (∀ (face feature : Nat) (s : State),
      s.chip ≠ .off →
      s.mailOk face = true →
      s.mailBusy face = false →
      feature = featJobLimits →
      s.does (.getFeature face feature) fun u => u.out = .reply face 0x0501 .success (s.jobLimits face) :: s.out ∧ keepsBut
        [.out] s u) ∧
    (∀ (face feature : Nat) (value : List Nat) (s : State),
      s.chip ≠ .off →
      s.mailOk face = true →
      s.mailBusy face = false →
      s.does (.setFeature face feature value) fun u => u.out = .reply face 0x0502 .unsupported [] :: s.out ∧ keepsBut [.out]
        s u) ∧
    (∀ (face : Nat) (s : State),
      s.chip ≠ .off →
      s.mailOk face = true →
      s.mailBusy face = false →
      s.does (.identifyMemoryDevice face) fun u => u.out = .reply face 0x4000 .success [s.staticBytes face, s.staticBytes
        face, 0, 65536, 64, 131072] :: s.out ∧ keepsBut [.out] s u) ∧
    (∀ (face : Nat) (s : State),
      s.chip ≠ .off →
      s.mailOk face = true →
      s.mailBusy face = false →
      s.does (.getPartitionInfo face) fun u => u.out = .reply face 0x4100 .success [0, s.staticBytes face, 0, 0] :: s.out ∧
        keepsBut [.out] s u) ∧
    (∀ (face : Nat) (s : State),
      s.chip ≠ .off →
      s.mailOk face = true →
      s.mailBusy face = false →
      s.does (.setPartitionInfo face) fun u => u.out = .reply face 0x4101 .unsupported [] :: s.out ∧ keepsBut [.out] s u) ∧
    (∀ (face opcode : Nat) (s : State),
      s.chip ≠ .off →
      s.mailOk face = true →
      s.mailBusy face = false →
      celOpcodes.contains opcode = false →
      s.does (.mailboxUnsupported face opcode) fun u => u.out = .reply face opcode .unsupported [] :: s.out ∧ keepsBut
        [.out] s u)

/-- What the mailbox commands that only read return (part 2 of 2) (R332, R333, R336, R339, R346, R347). Commands: GET_LSA, GET_HEALTH_INFO, GET_ALERT_CONFIGURATION, GET_SHUTDOWN_STATE, GET_POISON_LIST, GET_SCAN_MEDIA_CAPABILITIES, GET_SCAN_MEDIA_RESULTS, GET_DC_CONFIGURATION, GET_DC_EXTENT_LIST, GET_ENERGY_TELEMETRY, READ_CORE_LOG, GET_RING_STATUS, GET_TWIN_STATUS, GET_DC_REGION_CONFIGURATION, GET_DC_REGION_EXTENT_LISTS. -/
def Obligations.MailboxReadsSecond : Prop :=
  (∀ (face offset len : Nat) (s : State),
      s.chip ≠ .off →
      s.mailOk face = true →
      s.mailBusy face = false →
      offset + len ≤ 131072 →
      s.does (.getLsa face offset len) fun u => u.out = .reply face 0x4102 .success ((List.range len).map (fun i =>
        (SMap.get (0 : Byte) (offset + i) (s.nvFace face).lsa).toNat)) :: s.out ∧ keepsBut [.out] s u) ∧
    (∀ (face : Nat) (s : State),
      s.chip ≠ .off →
      s.mailOk face = true →
      s.mailBusy face = false →
      s.does (.getHealthInfo face) fun u => u.out = .reply face 0x4200 .success [s.healthBits face, s.mediaStatus face,
        s.lifeUsed, s.rd CLK_TJ.HOTTEST, (s.nvFace face).dirty, s.volatileErrs face, s.persistErrs, (s.nvFace
        face).shutdown] :: s.out ∧ keepsBut [.out] s u) ∧
    (∀ (face : Nat) (s : State),
      s.chip ≠ .off →
      s.mailOk face = true →
      s.mailBusy face = false →
      s.does (.getAlertConfiguration face) fun u => u.out = .reply face 0x4201 .success (s.port face).alert :: s.out ∧
        keepsBut [.out] s u) ∧
    (∀ (face : Nat) (s : State),
      s.chip ≠ .off →
      s.mailOk face = true →
      s.mailBusy face = false →
      s.does (.getShutdownState face) fun u => u.out = .reply face 0x4203 .success [(s.nvFace face).shutdown] :: s.out ∧
        keepsBut [.out] s u) ∧
    (∀ (face dpa lines : Nat) (s : State),
      s.chip ≠ .off →
      s.mailOk face = true →
      s.mailBusy face = false →
      s.inCapacity face (dpa / 64) lines = true →
      s.does (.getPoisonList face dpa lines) fun u => u.out = .reply face 0x4300 .success ([if (s.port face).poisonOvf then
        1 else 0, (s.port face).poisonOvfTick, (((s.port face).poison.filter (fun r => decide (r.line < dpa / 64 +
        lines) && decide (dpa / 64 < r.line + r.lines)))).length] ++ ((s.port face).poison.filter (fun r => decide
        (r.line < dpa / 64 + lines) && decide (dpa / 64 < r.line + r.lines))).flatMap (fun r => [r.line * 64, r.lines,
        if r.injected then 3 else 1])) :: s.out ∧ keepsBut [.out] s u) ∧
    (∀ (face dpa lines : Nat) (s : State),
      s.chip ≠ .off →
      s.mailOk face = true →
      s.mailBusy face = false →
      s.inCapacity face (dpa / 64) lines = true →
      s.does (.getScanMediaCapabilities face dpa lines) fun u => u.out = .reply face 0x4303 .success [(s.draw 4294967296).1]
        :: s.out ∧ u.free = s.free + 1 ∧ keepsBut [.out, .free] s u) ∧
    (∀ (face : Nat) (s : State),
      s.chip ≠ .off →
      s.mailOk face = true →
      s.mailBusy face = false →
      s.does (.getScanMediaResults face) fun u => u.out = .reply face 0x4305 .success ((s.port face).scan.length :: (s.port
        face).scan.flatMap (fun r => [r.1 * 64, r.2])) :: s.out ∧ keepsBut [.out] s u) ∧
    (∀ (face : Nat) (s : State),
      s.chip ≠ .off →
      s.mailOk face = true →
      s.mailBusy face = false →
      s.does (.getDcConfiguration face) fun u => u.out = .reply face 0x4800 .success (s.dcConfig face) :: s.out ∧ keepsBut
        [.out] s u) ∧
    (∀ (face : Nat) (s : State),
      s.chip ≠ .off →
      s.mailOk face = true →
      s.mailBusy face = false →
      s.does (.getDcExtentList face) fun u => u.out = .reply face 0x4801 .success (s.dcExtents face) :: s.out ∧ keepsBut
        [.out] s u) ∧
    (∀ (face : Nat) (s : State),
      s.chip ≠ .off →
      s.mailOk face = true →
      s.mailBusy face = false →
      s.feature face featEnergy = true →
      s.does (.getEnergyTelemetry face) fun u => u.out = .reply face 0xC020 .success [0, s.margin.code, s.rd
        LGR_STATUS.OVERHANG, if s.volatileNow face then 1 else 0, s.rd ADM_DIRTY.SETTS, s.rd LGR_CEIL.SETTS, s.rd
        LGR_TV.SETTS, s.rd (SLB_FDIRTY.SETTS face), s.rd (LGR_PSTAT.STATE 0), s.rd (LGR_PENG.JOULES 0), s.rd
        (LGR_PSTAT.STATE 1), s.rd (LGR_PENG.JOULES 1), s.rd LGR_UPD.COUNT] :: s.out ∧ keepsBut [.out] s u) ∧
    (∀ (face seq count : Nat) (r : LogRec) (l : List LogRec) (s : State),
      s.chip ≠ .off →
      s.mailOk face = true →
      s.mailBusy face = false →
      s.on (HPT_CFG.MGMT face) = true →
      face < 6 →
      1 ≤ count →
      count ≤ 60 →
      seq ≠ liveSeq →
      s.logFrom seq count = r :: l →
      s.does (.readCoreLog face seq count) fun u => u.out = .reply face 0xC040 .success (0 :: ([(r :: l).length, r.seq, s.rd
        CLG_SEQ.SEQ] ++ (r :: l).flatMap (fun x => x.words64 s.free false))) :: s.out ∧ keepsBut [.out] s u) ∧
    (∀ (face ring : Nat) (s : State),
      s.chip ≠ .off →
      s.mailOk face = true →
      s.mailBusy face = false →
      s.feature face featRings = true →
      s.ringFace ring = some face →
      s.does (.getRingStatus face ring) fun u => u.out = .reply face 0xC101 .success [0, (s.ring ring).st, (s.ring
        ring).err, (s.ring ring).sqHead, (s.ring ring).sqTail, (s.ring ring).cqTail, (s.ring ring).cqHead, (s.ringJobs
        ring).length, (s.ring ring).done, (s.ring ring).errors] :: s.out ∧ keepsBut [.out] s u) ∧
    (∀ (face : Nat) (s : State),
      s.chip ≠ .off →
      s.mailOk face = true →
      s.mailBusy face = false →
      s.feature face featTwin = true →
      s.does (.getTwinStatus face) fun u => u.out = .reply face 0xC200 .success [0, (s.word GAL_STATUS.MODE.addr).toNat,
        (s.word GAL_RSLV.SLABS.addr).toNat, (s.draw (2 ^ 60)).1] :: s.out ∧ u.free = s.free + 1 ∧ keepsBut [.out,
        .free] s u) ∧
    (∀ (face : Nat) (s : State),
      s.chip ≠ .off →
      s.hubOn = true →
      s.fwm.running = true →
      s.faceOn face = true →
      s.does (.getDcRegionConfiguration face) fun u => u.out = .fm face .success (s.dcConfig face) :: s.out ∧ keepsBut
        [.out] s u) ∧
    (∀ (face : Nat) (s : State),
      s.chip ≠ .off →
      s.hubOn = true →
      s.fwm.running = true →
      s.faceOn face = true →
      s.does (.getDcRegionExtentLists face) fun u => u.out = .fm face .success (s.dcExtents face) :: s.out ∧ keepsBut [.out]
        s u)

/-- What the mailbox commands that change a face or the part do (part 1 of 3) (R317, R334, R335, R337, R340, R343, R345, R348). Commands: CLEAR_EVENT_RECORDS, SET_EVENT_INTERRUPT_POLICY, TRANSFER_FW, ACTIVATE_FW_ONLINE, ACTIVATE_FW_NEXT_RESET, SET_TIMESTAMP, SET_LSA, SET_ALERT_CONFIGURATION, SET_SHUTDOWN_STATE, SCAN_MEDIA, SANITIZE, SECURE_ERASE, ADD_DC_RESPONSE. -/
def Obligations.MailboxWritesFirst : Prop :=
  (∀ (face log : Nat) (all : Bool) (handles : List Nat) (l : EvLog) (s : State),
      s.chip ≠ .off →
      s.mailOk face = true →
      s.mailBusy face = false →
      all = true →
      (s.port face).logs[log]? = some l →
      s.does (.clearEventRecords face log all handles) fun u => u.ports = SMap.put Port.reset face
        { s.port face with logs := (s.port face).logs.set log { l with recs := [], overflow := 0 } } s.ports ∧ u.out =
        .reply face 0x0101 .success [] :: s.out ∧ keepsBut [.ports, .out] s u) ∧
    (∀ (face : Nat) (policy : List Nat) (s : State),
      s.chip ≠ .off →
      s.mailOk face = true →
      s.mailBusy face = false →
      policy.length = 4 →
      policy.all (fun p => decide (p % 4 < 2)) = true →
      s.does (.setEventInterruptPolicy face policy) fun u => u.port face = { s.port face with evPolicy := policy } ∧ u.out =
        .reply face 0x0103 .success [] :: s.out ∧ keepsBut [.ports, .out] s u) ∧
    (∀ (face action slot offset : Nat) (words : List Word) (ok : Bool) (ok36 : Bool) (s : State),
      s.chip ≠ .off →
      s.mailOk face = true →
      s.mailBusy face = false →
      s.on (HPT_CFG.MGMT face) = true →
      face < 6 →
      action = 4 →
      (s.port face).bg = none →
      s.fwm.xferFace = face + 1 →
      s.does (.transferFw face action slot offset words ok ok36) fun u => u.fwm =
        { s.fwm with staging := none, xfer := 0, xferFace := 0 } ∧ u.out = .reply face 0x0201 .success [] :: s.out ∧
        keepsBut [.fwm, .out] s u) ∧
    (∀ (face action slot offset : Nat) (words : List Word) (ok : Bool) (ok36 : Bool) (s : State),
      s.chip ≠ .off →
      s.mailOk face = true →
      s.mailBusy face = false →
      s.on (HPT_CFG.MGMT face) = true →
      face < 6 →
      action = 1 →
      ok = true →
      ok36 = true →
      (s.port face).bg = none →
      s.fwm.xferFace = 0 →
      s.on FWM_STATUS.ACTIVATING = false →
      1 ≤ slot →
      slot ≤ 2 →
      s.stageable (slot - 1) = true →
      offset = 0 →
      (s.fwProgram (slot - 1) (true, true)).1 = true →
      s.does (.transferFw face action slot offset words ok ok36) fun u => u.fwm.staging = some (slot - 1) ∧ u.fwm.xferFace =
        face + 1 ∧ .reply face 0x0201 .backgroundStarted [] ∈ u.out ∧ keepsBut [.regs, .stk, .ports, .flt, .fwm, .out]
        s u) ∧
    (∀ (face slot : Nat) (ok0 ok36 : Bool) (s : State),
      s.chip ≠ .off →
      s.mailOk face = true →
      s.mailBusy face = false →
      s.on (HPT_CFG.MGMT face) = true →
      face < 6 →
      s.fwm.xferFace = 0 →
      s.on FWM_STATUS.ACTIVATING = false →
      1 ≤ slot →
      slot ≤ 2 →
      s.stageable (slot - 1) = true →
      s.slotValid (slot - 1) = true →
      s.fwm.staging ≠ some (slot - 1) →
      (s.healthProgram ok0 ok36).1 = true →
      s.fwm.recovery = false →
      s.does (.activateFwOnline face slot ok0 ok36) fun u => u.fwm.active = 2 - slot ∧ u.fwm.trial = true ∧ u.out = s.out ∧
        u.fwm.openCmds = s.fwm.openCmds ++ [(face, 0x0202)] ∧ keepsBut [.regs, .chip, .bed, .svy, .slb, .lgr, .adm,
        .haul, .save, .stk, .res, .dch, .ports, .job, .cip, .gal, .seq, .clk, .flt, .clg, .twb, .fwm, .out] s u) ∧
    (∀ (face slot : Nat) (ok0 ok36 : Bool) (s : State),
      s.chip ≠ .off →
      s.mailOk face = true →
      s.mailBusy face = false →
      s.on (HPT_CFG.MGMT face) = true →
      face < 6 →
      s.fwm.xferFace = 0 →
      s.on FWM_STATUS.ACTIVATING = false →
      1 ≤ slot →
      slot ≤ 2 →
      s.stageable (slot - 1) = true →
      s.slotValid (slot - 1) = true →
      s.fwm.staging ≠ some (slot - 1) →
      (s.healthProgram ok0 ok36).1 = true →
      s.fwm.recovery = false →
      s.does (.activateFwNextReset face slot ok0 ok36) fun u => u.fwm.active = 2 - slot ∧ u.fwm.trial = true ∧ u.out =
        .reply face 0x0202 .success [] :: s.out ∧ keepsBut [.regs, .chip, .bed, .svy, .slb, .lgr, .adm, .haul, .save,
        .stk, .res, .dch, .ports, .job, .cip, .gal, .seq, .clk, .flt, .clg, .twb, .fwm, .out] s u) ∧
    (∀ (face stamp : Nat) (s : State),
      s.chip ≠ .off →
      s.mailOk face = true →
      s.mailBusy face = false →
      s.does (.setTimestamp face stamp) fun u => u.stamp = stamp % 2 ^ 64 ∧ u.stampTick = s.tick ∧ u.out = .reply face
        0x0301 .success [] :: s.out ∧ keepsBut [.stamp, .stampTick, .out] s u) ∧
    (∀ (face offset : Nat) (bytes : List Byte) (ok0 ok36 : Bool) (s : State),
      s.chip ≠ .off →
      s.mailOk face = true →
      s.mailBusy face = false →
      offset + bytes.length ≤ 131072 →
      (s.healthProgram ok0 ok36).1 = true →
      s.twoSleds = false →
      s.does (.setLsa face offset bytes ok0 ok36) fun u => u.out = .reply face 0x4103 .success [] :: s.out ∧ u.nvFace face =
        { s.nvFace face with lsa := ((List.range bytes.length).zip bytes).foldl (fun m p => SMap.put 0 (offset + p.1) p.2 m) (s.nvFace face).lsa }
        ∧ keepsBut [.regs, .stk, .nv, .gal, .flt, .fwm, .out] s u) ∧
    (∀ (face life hot cold : Nat) (s : State),
      s.chip ≠ .off →
      s.mailOk face = true →
      s.mailBusy face = false →
      s.does (.setAlertConfiguration face life hot cold) fun u => u.port face =
        { s.port face with alert := [life, hot, cold] } ∧ u.out = .reply face 0x4202 .success [] :: s.out ∧ keepsBut
        [.ports, .out] s u) ∧
    (∀ (face value : Nat) (ok0 ok36 : Bool) (s : State),
      s.chip ≠ .off →
      s.mailOk face = true →
      s.mailBusy face = false →
      (s.healthProgram ok0 ok36).1 = true →
      s.twoSleds = false →
      s.does (.setShutdownState face value ok0 ok36) fun u => u.nvFace face = { s.nvFace face with shutdown := value % 256 }
        ∧ u.out = .reply face 0x4204 .success [] :: s.out ∧ keepsBut [.regs, .stk, .nv, .gal, .flt, .fwm, .out] s u) ∧
    (∀ (face dpa lines : Nat) (devs : SMap Nat) (s : State),
      s.chip ≠ .off →
      s.mailOk face = true →
      s.mailBusy face = false →
      s.inCapacity face (dpa / 64) lines = true →
      (s.port face).bg = none →
      (s.scanSlabs face (dpa / 64) lines).filter (fun i => (s.slab i).rstate != 0) = [] →
      s.does (.scanMedia face dpa lines devs) fun u => .reply face 0x4304 .backgroundStarted [] ∈ u.out ∧ (u.port face).bg =
        none ∧ (u.port face).bgLast = 0x4304 ∧ keepsBut [.regs, .slb, .stk, .res, .dch, .ports, .job, .flt, .out] s u) ∧
    (∀ (face : Nat) (s : State),
      s.chip ≠ .off →
      s.mailOk face = true →
      s.mailBusy face = false →
      (s.port face).bg = none →
      (s.port face).hdm = false →
      (s.port face).erasing = none →
      s.twoSleds = false →
      s.does (.sanitize face) fun u => (u.port face).bg = some 0x4400 ∧ .reply face 0x4400 .backgroundStarted [] ∈ u.out ∧
        (u.port face).erasing.isSome = true ∧ keepsBut [.regs, .slb, .adm, .haul, .ports, .job, .cip, .gal, .flt,
        .out] s u) ∧
    (∀ (face : Nat) (s : State),
      s.chip ≠ .off →
      s.mailOk face = true →
      s.mailBusy face = false →
      (s.port face).hdm = false →
      (s.port face).erasing = none →
      s.twoSleds = false →
      s.does (.secureErase face) fun u => (face, 0x4401) ∈ u.fwm.openCmds ∧ (u.port face).erasing.isSome = true ∧ keepsBut
        [.regs, .slb, .adm, .haul, .ports, .job, .cip, .gal, .flt, .fwm, .out] s u) ∧
    (∀ (face block : Nat) (accept : Bool) (s : State),
      s.chip ≠ .off →
      s.mailOk face = true →
      s.mailBusy face = false →
      (s.port face).extents.any (fun e => e.block == block && !e.accepted) = true →
      accept = true →
      s.does (.addDcResponse face block accept) fun u => u.port face =
        { s.port face with extents := (s.port face).extents.map (fun e => if e.block = block then { e with accepted := true } else e) }
        ∧ u.out = .reply face 0x4802 .success [] :: s.out ∧ keepsBut [.ports, .out] s u)

/-- What the mailbox commands that change a face or the part do (part 2 of 3) (R317, R334, R335, R337, R340, R343, R345, R348). Commands: RELEASE_DC, NEGOTIATE_FEATURES, HEAT_HINT, REQUEST_PACK_REMOVAL, CANCEL_PACK_REMOVAL, TRANSFER_SURVEY_DATA, TRANSFER_SURVEY_VERIFY, TRANSFER_SURVEY_CLEAR, TRANSFER_SURVEY_INSTALL, TRANSFER_SURVEY_LIVE_LOAD, RESET_RANK_STATE, CONFIGURE_RING_ENABLE. -/
def Obligations.MailboxWritesSecond : Prop :=
  (∀ (face block count : Nat) (s : State),
      s.chip ≠ .off →
      s.mailOk face = true →
      s.mailBusy face = false →
      s.dcHolds face block count = true →
      s.releasing face block count = false →
      s.twoSleds = false →
      (s.port face).reads = [] →
      s.does (.releaseDc face block count) fun u => ((face, 0x4803) ∈ u.fwm.openCmds ∧ (u.port face).rels = (s.port
        face).rels ++ [⟨block, count, (List.range count).filterMap (fun i => s.faceBlock face (block + i)), false⟩] ∧
        (u.port face).extents = (s.port face).extents ∧ (∀ i ∈ ((List.range count).filterMap (fun i => s.faceBlock
        face (block + i))).flatMap s.blockSlabs, (u.slab i).relq = true)) ∧ keepsBut [.regs, .slb, .adm, .haul, .stk,
        .res, .dch, .ports, .job, .gal, .flt, .fwm, .out] s u) ∧
    (∀ (face block count : Nat) (s : State),
      s.chip ≠ .off →
      s.mailOk face = true →
      s.mailBusy face = false →
      (s.dcHolds face block count = false ∨ s.releasing face block count = true) →
      s.does (.releaseDc face block count) fun u => u.out = .reply face 0x4803 .invalidInput [] :: s.out ∧ keepsBut [.out] s
        u) ∧
    (∀ (face : Nat) (request : BitVec 128) (ok0 ok36 : Bool) (s : State),
      s.chip ≠ .off →
      s.mailOk face = true →
      s.mailBusy face = false →
      (((s.nvFace face).feat.getLsbD featRings && !(request &&& s.supported face).getLsbD featRings && s.ringsLive face) || ((s.nvFace face).feat.getLsbD featVolatile && !(request &&& s.supported face).getLsbD featVolatile && s.volatileNow face)) = false →
      (s.healthProgram ok0 ok36).1 = true →
      s.does (.negotiateFeatures face request ok0 ok36) fun u => u.nvFace face =
        { s.nvFace face with feat := request &&& s.supported face } ∧ u.out.head? = some (.reply face 0xC000 .success
        [0, (s.supported face).toNat, (request &&& s.supported face).toNat, 1]) ∧ SMap.get 0 face u.bed.fneg =
        (SMap.get 0 face s.bed.fneg + 1) % 65536 ∧ keepsBut [.regs, .bed, .adm, .stk, .ports, .nv, .flt, .out] s u) ∧
    (∀ (face : Nat) (hints : List (Nat × Nat)) (s : State),
      s.chip ≠ .off →
      s.mailOk face = true →
      s.mailBusy face = false →
      s.feature face featHeat = true →
      hints ≠ [] →
      hints.length ≤ 2047 →
      s.does (.heatHint face hints) fun u => u.out = .reply face 0xC010 .success [0, (hints.filter (fun h => (s.blockIn face
        h.1).isSome)).length, hints.length - (hints.filter (fun h => (s.blockIn face h.1).isSome)).length] :: s.out ∧
        keepsBut [.slb, .out] s u) ∧
    (∀ (face pack : Nat) (s : State),
      s.chip ≠ .off →
      s.mailOk face = true →
      s.mailBusy face = false →
      s.on (HPT_CFG.MGMT face) = true →
      face < 6 →
      s.on (removeBit (pack % 2)) = false →
      s.rd (LGR_PSTAT.STATE (1 - pack % 2)) = pkCounted →
      s.on (removeBit (1 - pack % 2)) = false →
      s.does (.requestPackRemoval face pack) fun u => u.rd (removeBit (pack % 2)) = 1 ∧ u.rd LGR_PACK_CTL.RESULT = 0 ∧ u.out
        = .reply face 0xC021 .success [0, 0, s.rd (LGR_PSTAT.STATE (pack % 2))] :: s.out ∧ keepsBut [.regs, .out] s u
        ∧ keepsWords [LGR_PACK_CTL.REMOVE_A.addr] s u) ∧
    (∀ (face pack : Nat) (s : State),
      s.chip ≠ .off →
      s.mailOk face = true →
      s.mailBusy face = false →
      s.on (HPT_CFG.MGMT face) = true →
      face < 6 →
      s.on (removeBit (pack % 2)) = true →
      s.does (.cancelPackRemoval face pack) fun u => u.rd (removeBit (pack % 2)) = 0 ∧ u.rd LGR_PACK_CTL.RESULT = 0 ∧ u.out
        = .reply face 0xC021 .success [0, 0, s.rd (LGR_PSTAT.STATE (pack % 2))] :: s.out ∧ keepsBut [.regs, .out] s u
        ∧ keepsWords [LGR_PACK_CTL.REMOVE_A.addr] s u) ∧
    (∀ (face offset : Nat) (words : List Word) (w : Word) (s : State),
      s.chip ≠ .off →
      s.mailOk face = true →
      s.mailBusy face = false →
      s.hubOn = true →
      s.on (HPT_CFG.MGMT face) = true →
      face < 6 →
      offset % 4 = 0 →
      words = [w] →
      offset + 4 ≤ 524288 →
      s.does (.transferSurveyData face offset words) fun u => u.svy =
        { s.svy with staging := SMap.put 0 offset w s.svy.staging } ∧ u.out = .reply face 0xC030 .success [0, s.rd
        SVY_STATUS.RESULT] :: s.out ∧ keepsBut [.regs, .svy, .out] s u ∧ keepsWords [SVY_STAGE_ADDR.ADDR.addr] s u) ∧
    (∀ (face : Nat) (s : State),
      s.chip ≠ .off →
      s.mailOk face = true →
      s.mailBusy face = false →
      s.hubOn = true →
      s.on (HPT_CFG.MGMT face) = true →
      face < 6 →
      s.rd SVY_STATUS.STATE = 0 →
      s.does (.transferSurveyVerify face) fun u => u.rd SVY_STATUS.STATE = 1 ∧ u.svy =
        { s.svy with cmd := 1, live := false, taken := s.svy.staging, face := face + 1 } ∧ (face, 0xC030) ∈
        u.fwm.openCmds ∧ u.out = s.out ∧ keepsBut [.regs, .svy, .flt, .fwm, .out] s u) ∧
    (∀ (face : Nat) (s : State),
      s.chip ≠ .off →
      s.mailOk face = true →
      s.mailBusy face = false →
      s.hubOn = true →
      s.on (HPT_CFG.MGMT face) = true →
      face < 6 →
      s.rd SVY_STATUS.STATE = 0 →
      s.does (.transferSurveyClear face) fun u => u.svy = { s.svy with staging := [] } ∧ u.out = .reply face 0xC030 .success
        [0, svyOk] :: s.out ∧ keepsBut [.regs, .svy, .out] s u ∧ keepsWords [SVY_STAGE_ADDR.ADDR.addr,
        SVY_STATUS.RESULT.addr] s u) ∧
    (∀ (face : Nat) (s : State),
      s.chip ≠ .off →
      s.mailOk face = true →
      s.mailBusy face = false →
      s.hubOn = true →
      s.on (HPT_CFG.MGMT face) = true →
      face < 6 →
      (s.port face).bg = none →
      s.rd SVY_STATUS.STATE = 0 →
      s.does (.transferSurveyInstall face) fun u => u.rd SVY_STATUS.STATE = 1 ∧ u.svy.live = false ∧ u.svy.taken =
        s.svy.staging ∧ (u.port face).bg = some 0xC030 ∧ u.out = .reply face 0xC030 .backgroundStarted [] :: s.out ∧
        keepsBut [.regs, .svy, .ports, .out] s u ∧ keepsWords [SVY_STATUS.STATE.addr] s u) ∧
    (∀ (face : Nat) (s : State),
      s.chip ≠ .off →
      s.mailOk face = true →
      s.mailBusy face = false →
      s.hubOn = true →
      s.on (HPT_CFG.MGMT face) = true →
      face < 6 →
      (s.port face).bg = none →
      s.rd SVY_STATUS.STATE = 0 →
      s.serving = true →
      s.does (.transferSurveyLiveLoad face) fun u => u.rd SVY_STATUS.STATE = 1 ∧ u.svy.live = true ∧ u.svy.taken =
        s.svy.staging ∧ (u.port face).bg = some 0xC030 ∧ u.out = .reply face 0xC030 .backgroundStarted [] :: s.out ∧
        keepsBut [.regs, .svy, .ports, .out] s u ∧ keepsWords [SVY_STATUS.STATE.addr] s u) ∧
    (∀ (face chan rank : Nat) (ok0 : Bool) (ok36 : Bool) (s : State),
      s.chip ≠ .off →
      s.mailOk face = true →
      s.mailBusy face = false →
      s.on (HPT_CFG.MGMT face) = true →
      face < 6 →
      s.anyOpen = false →
      chan < 36 →
      rank < 4 →
      (s.rank chan rank = rkReplaced ∨ s.rank chan rank = rkRetired ∨ s.rank chan rank = rkDead) →
      (s.healthProgram ok0 ok36).1 = true →
      s.does (.resetRankState face chan rank ok0 ok36) fun u => u.rd (DCH_RNKS.STATE chan rank) = rkActive ∧ SMap.get false
        (rankKey chan rank) u.dch.rankSr = false ∧ u.out.head? = some (.reply face 0xC050 .success [0]) ∧ keepsBut
        [.regs, .stk, .dch, .flt, .out] s u) ∧
    (∀ (face chan rank : Nat) (ok0 : Bool) (ok36 : Bool) (s : State),
      s.chip ≠ .off →
      s.mailOk face = true →
      s.mailBusy face = false →
      s.on (HPT_CFG.MGMT face) = true →
      face < 6 →
      s.anyOpen = false →
      chan < 36 →
      rank < 4 →
      (s.rank chan rank = rkReplaced ∨ s.rank chan rank = rkRetired ∨ s.rank chan rank = rkDead) →
      (s.healthProgram ok0 ok36).1 = false →
      s.does (.resetRankState face chan rank ok0 ok36) fun u => u.rd (DCH_RNKS.STATE chan rank) = s.rd (DCH_RNKS.STATE chan
        rank) ∧ u.dch.rankMap = s.dch.rankMap ∧ u.out.head? = some (.reply face 0xC050 .internalError []) ∧ keepsBut
        [.regs, .stk, .dch, .flt, .out] s u) ∧
    (∀ (face ring log2 vector imod sqBase cqBase : Nat) (k : Nat) (l : Nat) (s : State),
      s.chip ≠ .off →
      s.mailOk face = true →
      s.mailBusy face = false →
      s.feature face featRings = true →
      s.ringFace ring = some face →
      s.enableStatus face ring log2 vector sqBase cqBase = 0 →
      s.job.inits = [] →
      s.access face cqBase = some (k, l) →
      s.settHome k = false →
      s.does (.configureRingEnable face ring log2 vector imod sqBase cqBase) fun u => u.ring ring = s.ring ring ∧ (face,
        0xC100) ∈ u.fwm.openCmds ∧ u.out = s.out ∧ u.job.inits.map (fun x => (x.ring, x.face, x.log2, x.sq, x.cq,
        x.pos)) = [(ring, face, log2, sqBase, cqBase, 0)] ∧ keepsBut [.regs, .slb, .adm, .stk, .res, .dch, .ports,
        .job, .gal, .seq, .flt, .fwm, .out] s u) ∧
    (∀ (face ring log2 vector imod sqBase cqBase : Nat) (s : State),
      s.chip ≠ .off →
      s.mailOk face = true →
      s.mailBusy face = false →
      s.feature face featRings = true →
      s.ringFace ring = some face →
      s.enableStatus face ring log2 vector sqBase cqBase = 0 →
      s.job.inits = [] →
      s.mirrors = false →
      (List.range (2 ^ log2 / 4)).all (fun i => (s.access face (cqBase + i * 64)).any (fun x => s.settHome x.1 && !(s.slab (settSlab x.1)).jobl && (s.repairOf x.1 x.2).isNone && s.dirty x.1)) = true →
      s.does (.configureRingEnable face ring log2 vector imod sqBase cqBase) fun u => (u.ring ring).st = rgEnabled ∧ (u.ring
        ring).sqBase = sqBase ∧ (u.ring ring).cqBase = cqBase ∧ (u.ring ring).sqHead = 0 ∧ (u.ring ring).cqTail = 0 ∧
        u.out.head? = some (.reply face 0xC100 .success [0, rgEnabled]) ∧ keepsBut [.regs, .slb, .adm, .stk, .res,
        .dch, .ports, .job, .gal, .seq, .flt, .fwm, .out] s u)

/-- What the mailbox commands that change a face or the part do (part 3 of 3) (R317, R334, R335, R337, R340, R343, R345, R348). Commands: CONFIGURE_RING_DISABLE, CONFIGURE_RING_RESET, CONFIGURE_RING_RESUME, LOAD_TRANSFORM_KEY, RELEASE_TRANSFORM_KEY, ROTATE_MEDIA_KEY, TWIN_HANDOVER, INITIATE_DYNAMIC_CAPACITY_ADD, INITIATE_DYNAMIC_CAPACITY_RELEASE, DC_ADD_RESPONSE_TIMEOUT, INJECT_POISON, CLEAR_POISON. -/
def Obligations.MailboxWritesThird : Prop :=
  (∀ (face ring : Nat) (s : State),
      s.chip ≠ .off →
      s.mailOk face = true →
      s.mailBusy face = false →
      s.feature face featRings = true →
      s.ringFace ring = some face →
      ((s.ring ring).st = rgEnabled ∨ (s.ring ring).st = rgHalted) →
      s.ringJobs ring = [] →
      s.does (.configureRingDisable face ring) fun u => (u.ring ring).st = rgDisabled ∧ u.out.head? = some (.reply face
        0xC100 .success [0, rgDisabled]) ∧ keepsBut [.ports, .job, .fwm, .out] s u) ∧
    (∀ (face ring : Nat) (s : State),
      s.chip ≠ .off →
      s.mailOk face = true →
      s.mailBusy face = false →
      s.feature face featRings = true →
      s.ringFace ring = some face →
      s.does (.configureRingReset face ring) fun u => (u.ring ring).st = rgDisabled ∧ u.ringJobs ring = [] ∧ u.out.head? =
        some (.reply face 0xC100 .success [0, rgDisabled]) ∧ keepsBut [.regs, .slb, .adm, .stk, .res, .dch, .ports,
        .job, .gal, .seq, .flt, .fwm, .out] s u) ∧
    (∀ (face ring : Nat) (s : State),
      s.chip ≠ .off →
      s.mailOk face = true →
      s.mailBusy face = false →
      s.feature face featRings = true →
      s.ringFace ring = some face →
      (s.ring ring).st = rgHalted →
      (s.ring ring).err = 4 →
      (s.ring ring).size < ((s.ring ring).sqTail + 65536 - (s.ring ring).sqHead) % 65536 →
      s.does (.configureRingResume face ring) fun u => (u.ring ring).st = rgHalted ∧ (u.ring ring).err = 1 ∧ u.out = .reply
        face 0xC100 .success [0, rgHalted] :: s.out ∧ keepsBut [.job, .out] s u) ∧
    (∀ (face ring : Nat) (s : State),
      s.chip ≠ .off →
      s.mailOk face = true →
      s.mailBusy face = false →
      s.feature face featRings = true →
      s.ringFace ring = some face →
      (s.ring ring).st = rgHalted →
      ((s.ring ring).err = 4 ∨ (s.ring ring).err = 1) →
      (((s.ring ring).sqTail + 65536 - (s.ring ring).sqHead) % 65536 ≤ (s.ring ring).size ∨ (s.ring ring).err = 1) →
      (s.ring ring).sqHead < 65536 →
      s.does (.configureRingResume face ring) fun u => u.ring ring =
        { s.ring ring with st := rgEnabled, err := 0, sqTail := (if (s.ring ring).err = 1 then (s.ring ring).sqHead else (s.ring ring).sqTail), pend := ((s.ring ring).err == 4 && (s.ring ring).sqTail != (s.ring ring).sqHead) }
        ∧ u.out = .reply face 0xC100 .success [0, rgEnabled] :: s.out ∧ keepsBut [.job, .out] s u) ∧
    (∀ (face : Nat) (generate : Bool) (key : BitVec 256) (k : Nat) (s : State),
      s.chip ≠ .off →
      s.mailOk face = true →
      s.mailBusy face = false →
      s.feature face featRings = true →
      s.txCount face < s.rd CIP_CFG.TX_PER_FACE →
      ((List.range 64).filter s.slotFree).isEmpty = false →
      k < 64 →
      s.slotFree k = true →
      ((List.range 64).filter s.slotFree).getD (s.draw ((List.range 64).filter s.slotFree).length).1 0 = k →
      s.does (.loadTransformKey face generate key) fun u => (u.slotState k = slTransform ∧ u.rd (CIP_SLST.FACE k) = face % 8
        ∧ (generate = false → u.slotKey k = key) ∧ u.out = .reply face 0xC300 .success [0, k] :: s.out) ∧ keepsBut
        [.regs, .cip, .out, .free] s u) ∧
    (∀ (face slot : Nat) (s : State),
      s.chip ≠ .off →
      s.mailOk face = true →
      s.mailBusy face = false →
      s.feature face featRings = true →
      slot < 64 →
      s.txSlot slot face = true →
      s.does (.releaseTransformKey face slot) fun u => u.slotState slot = slEmpty ∧ u.out = .reply face 0xC301 .success [0]
        :: s.out ∧ keepsBut [.regs, .slb, .adm, .haul, .job, .cip, .out] s u) ∧
    (∀ (face : Nat) (s : State),
      s.chip ≠ .off →
      s.mailOk face = true →
      s.mailBusy face = false →
      s.anyKeyr face = false →
      s.cip.rotate = [] →
      (s.port face).bg = none →
      s.does (.rotateMediaKey face) fun u => (u.port face).bg = some 0xC302 ∧ u.cip = { s.cip with rotate := [(face, 1)] } ∧
        u.out = .reply face 0xC302 .backgroundStarted [] :: s.out ∧ keepsBut [.ports, .cip, .out] s u) ∧
    (∀ (face : Nat) (s : State),
      s.chip ≠ .off →
      s.mailOk face = true →
      s.mailBusy face = false →
      s.on (HPT_CFG.MGMT face) = true →
      face < 6 →
      s.galMode = modePaired →
      s.gal.joinStep = 0 →
      s.rd GAL_PEER.CHIP = 4 →
      s.admMargin ≠ .sable →
      s.galUp = true →
      (s.port face).bg = none →
      s.does (.twinHandover face) fun u => u.gal.handover = 1 ∧ (u.port face).bg = some 0xC201 ∧ u.out = .reply face 0xC201
        .backgroundStarted [0] :: s.out ∧ keepsBut [.regs, .ports, .gal, .flt, .out] s u) ∧
    (∀ (face blocks : Nat) (first : Option Nat) (b : Nat) (s : State),
      s.chip ≠ .off →
      s.hubOn = true →
      s.fwm.running = true →
      s.faceOn face = true →
      s.twoSleds = false →
      first = some b →
      (s.dcPlaces face blocks).contains b = true →
      blocks ≠ 0 →
      blocks ≤ (s.dcFree.take blocks).length →
      (s.port face).extents.length < 512 →
      (s.dcFree.take blocks).all s.blockZero = true →
      s.does (.initiateDynamicCapacityAdd face blocks first) fun u => u.out.head? = some (.fm face .success [b]) ∧ (u.port
        face).extents = (s.port face).extents ++ [⟨b, s.dcFree.take blocks, false, s.tick⟩] ∧ keepsBut [.regs, .slb,
        .ports, .gal, .flt, .out, .free] s u) ∧
    (∀ (face block count : Nat) (s : State),
      s.chip ≠ .off →
      s.hubOn = true →
      s.fwm.running = true →
      s.faceOn face = true →
      s.dcHolds face block count = true →
      s.does (.initiateDynamicCapacityRelease face block count) fun u => u.out.head? = some (.fm face .success []) ∧ (u.port
        face).extents = (s.port face).extents ∧ keepsBut [.regs, .ports, .flt, .out] s u) ∧
    (∀ (face block : Nat) (s : State),
      s.chip ≠ .off →
      s.hubOn = true →
      (s.port face).extents.any (fun e => e.block == block && !e.accepted) = true →
      s.does (.dcAddResponseTimeout face block) fun u => (u.port face).extents = (s.port face).extents.filter (fun x =>
        !(x.block == block && !x.accepted)) ∧ keepsBut [.slb, .ports] s u) ∧
    (∀ (face dpa : Nat) (s : State),
      s.chip ≠ .off →
      s.mailOk face = true →
      s.mailBusy face = false →
      s.access face dpa = none →
      s.does (.injectPoison face dpa) fun u => u.out = .reply face 0x4301 .invalidPhysicalAddress [] :: s.out ∧ keepsBut
        [.out] s u) ∧
    (∀ (face dpa : Nat) (k : Nat) (l : Nat) (s : State),
      s.chip ≠ .off →
      s.mailOk face = true →
      s.mailBusy face = false →
      s.access face dpa = some (k, l) →
      s.injectFull face (dpa / 64) = false →
      (s.port face).poison.length < 65536 →
      s.settHome k = true →
      (s.slab (settSlab k)).jobl = false →
      s.repairOf k l = none →
      s.dirty k = true →
      s.mirrors = false →
      (s.port face).wbuf = [] →
      s.does (.injectPoison face dpa) fun u => .reply face 0x4301 .success [] ∈ u.out ∧ (u.port face).wbuf.map (fun e =>
        (e.sett, e.line, e.poison, e.wait, e.done)) = [(k, l, true, .admitted, true)] ∧ (u.port face).poison.any (fun
        r => r.injected && decide (r.line ≤ dpa / 64) && decide (dpa / 64 < r.line + r.lines)) = true ∧ keepsBut
        [.regs, .slb, .adm, .stk, .res, .dch, .ports, .job, .gal, .seq, .flt, .fwm, .out, .free] s u) ∧
    (∀ (face dpa : Nat) (data : Line) (k : Nat) (l : Nat) (s : State),
      s.chip ≠ .off →
      s.mailOk face = true →
      s.mailBusy face = false →
      s.access face dpa = some (k, l) →
      s.settHome k = true →
      (s.slab (settSlab k)).jobl = false →
      s.repairOf k l = none →
      s.dirty k = true →
      s.mirrors = false →
      (s.port face).wbuf = [] →
      s.does (.clearPoison face dpa data) fun u => .reply face 0x4302 .success [] ∈ u.out ∧ (u.port face).wbuf.map (fun e =>
        (e.sett, e.line, e.data, e.poison, e.wait, e.done)) = [(k, l, data, false, .admitted, true)] ∧ keepsBut
        [.regs, .slb, .adm, .stk, .res, .dch, .ports, .job, .gal, .seq, .flt, .fwm, .out, .free] s u)

/-- Slab bank commands, the snapshot window and the heat sweep (R116, R117, R118, R119, R122, R111). Commands: SLB_SET_HEAT, SLB_SET_LOCK, SLB_CLR_LOCK, SLB_SET_RSTATE, SLB_LOAD_MASK, SLB_SET_OWNER, SLB_SNAPSHOT, SLB_ECC_CLEAR, HEAT_DECAY_SWEEP. -/
def Obligations.SlabBank : Prop :=
  (∀ (sram : SramErr) (s1 : State) (i : Nat) (s : State),
      s.chip ≠ .off →
      s1 = s.sramHit (s.rd SLB_CMD_IDX.INDEX) sram →
      s1.hubOn = true →
      s1.slb.ready = true →
      s1.rd SLB_CMD_IDX.INDEX = i →
      i < slabCount →
      s.does (.slbSetHeat sram) fun u => (u.slab i).heat = s1.rd SLB_CMD_ARG0.ARG % 256 ∧ (u.slab i).mask = (s1.slab i).mask
        ∧ (u.slab i).owner = (s1.slab i).owner ∧ u.rd SLB_CMD_STATUS.RESULT = slbOk ∧ keepsBut [.regs, .slb] s1 u ∧
        keepsWords [SLB_CMD_STATUS.RESULT.addr] s1 u) ∧
    (∀ (sram : SramErr) (s1 : State) (i : Nat) (b : Nat) (s : State),
      s.chip ≠ .off →
      s1 = s.sramHit (s.rd SLB_CMD_IDX.INDEX) sram →
      s1.hubOn = true →
      s1.slb.ready = true →
      s1.rd SLB_CMD_IDX.INDEX = i →
      i < slabCount →
      s1.rd SLB_CMD_ARG0.ARG = 2 ^ b →
      (b = 16 ∨ b = 17 ∨ b = 18 ∨ b = 19 ∨ (b = 13 ∧ s1.dch.mig = none)) →
      s.does (.slbSetLock sram) fun u => (bitAt b (u.slab i).word.toNat = true ∧ (u.slab i).mask = (s1.slab i).mask ∧ (∀ n ∈
        List.range 32, n ≠ b → bitAt n (u.slab i).word.toNat = bitAt n (s1.slab i).word.toNat) ∧ u.rd
        SLB_CMD_STATUS.RESULT = slbOk) ∧ keepsBut [.regs, .slb] s1 u ∧ keepsWords [SLB_CMD_STATUS.RESULT.addr] s1 u) ∧
    (∀ (sram : SramErr) (s1 : State) (i : Nat) (b : Nat) (s : State),
      s.chip ≠ .off →
      s1 = s.sramHit (s.rd SLB_CMD_IDX.INDEX) sram →
      s1.hubOn = true →
      s1.slb.ready = true →
      s1.rd SLB_CMD_IDX.INDEX = i →
      i < slabCount →
      s1.rd SLB_CMD_ARG0.ARG = 2 ^ b →
      (b = 16 ∨ b = 17 ∨ b = 18 ∨ b = 19 ∨ (b = 13 ∧ s1.dch.mig = none)) →
      s.does (.slbClrLock sram) fun u => (bitAt b (u.slab i).word.toNat = false ∧ (u.slab i).mask = (s1.slab i).mask ∧ (∀ n
        ∈ List.range 32, n ≠ b → bitAt n (u.slab i).word.toNat = bitAt n (s1.slab i).word.toNat) ∧ u.rd
        SLB_CMD_STATUS.RESULT = slbOk) ∧ keepsBut [.regs, .slb] s1 u ∧ keepsWords [SLB_CMD_STATUS.RESULT.addr] s1 u) ∧
    (∀ (sram : SramErr) (s1 : State) (i : Nat) (v : Nat) (s : State),
      s.chip ≠ .off →
      s1 = s.sramHit (s.rd SLB_CMD_IDX.INDEX) sram →
      s1.hubOn = true →
      s1.slb.ready = true →
      s1.rd SLB_CMD_IDX.INDEX = i →
      i < slabCount →
      s1.chip = .waking →
      v < 3 →
      s1.rd SLB_CMD_ARG0.ARG = v * 8 →
      s.does (.slbSetRstate sram) fun u => (u.slab i).rstate = v ∧ (u.slab i).mask = (s1.slab i).mask ∧ u.rd
        SLB_CMD_STATUS.RESULT = slbOk ∧ keepsBut [.regs, .slb, .res] s1 u) ∧
    (∀ (sram : SramErr) (s1 : State) (i : Nat) (s : State),
      s.chip ≠ .off →
      s1 = s.sramHit (s.rd SLB_CMD_IDX.INDEX) sram →
      s1.hubOn = true →
      s1.slb.ready = true →
      s1.rd SLB_CMD_IDX.INDEX = i →
      i < slabCount →
      s1.slbFree = true →
      s.does (.slbLoadMask sram) fun u => (u.slab i).mask = BitVec.ofNat 64 (s1.rd SLB_CMD_ARG0.ARG + s1.rd SLB_CMD_ARG1.ARG
        * 4294967296) ∧ (u.slab i).word = (s1.slab i).word ∧ u.rd SLB_CMD_STATUS.RESULT = slbOk ∧ keepsBut [.regs,
        .slb] s1 u) ∧
    (∀ (sram : SramErr) (s1 : State) (i : Nat) (v : Nat) (s : State),
      s.chip ≠ .off →
      s1 = s.sramHit (s.rd SLB_CMD_IDX.INDEX) sram →
      s1.hubOn = true →
      s1.slb.ready = true →
      s1.rd SLB_CMD_IDX.INDEX = i →
      i < slabCount →
      s1.inPool i = true →
      s1.slabZero i = true →
      (s1.slab i).owner = 7 →
      s1.rd SLB_CMD_ARG0.ARG % 8 = v →
      v < 6 →
      s1.faceOn v = true →
      s.does (.slbSetOwner sram) fun u => (u.slab i).owner = v ∧ (u.slab i).mask = (s1.slab i).mask ∧ u.rd
        SLB_CMD_STATUS.RESULT = slbOk ∧ keepsBut [.regs, .slb] s1 u ∧ keepsWords [SLB_CMD_STATUS.RESULT.addr] s1 u) ∧
    (∀ (sram : SramErr) (s1 : State) (i : Nat) (s : State),
      s.chip ≠ .off →
      s1 = s.sramHit (s.rd SLB_CMD_IDX.INDEX) sram →
      s1.hubOn = true →
      s1.slb.ready = true →
      s1.rd SLB_CMD_IDX.INDEX = i →
      i < slabCount →
      s1.rd SLB_CMD_ARG0.ARG % 8 = (s1.slab i).owner →
      s.does (.slbSetOwner sram) fun u => u.slb = s1.slb ∧ u.rd SLB_CMD_STATUS.RESULT = slbOk ∧ onlyWords
        [SLB_CMD_STATUS.RESULT.addr] s1 u) ∧
    (∀ (slab : Nat) (sram : SramErr) (s1 : State) (s : State),
      s.chip ≠ .off →
      s1 = s.sramAll [(slab, sram)] →
      s1.hubOn = true →
      slab < slabCount →
      s.does (.slbSnapshot slab sram) fun u => u.rd SLB_SNAP_IDX.INDEX = slab ∧ u.rd SLB_SNAP_IDX.VALID = 1 ∧ u.rd
        SLB_SNAP0.MASK_LO = (s1.slab slab).mask.toNat % 2 ^ 32 ∧ u.rd SLB_SNAP1.MASK_HI = (s1.slab slab).mask.toNat /
        2 ^ 32 ∧ u.rd SLB_SNAP2.WORD = (s1.slab slab).word.toNat % 2 ^ SLB_SNAP2.WORD.width ∧ u.rd SLB_SNAP3.DIRTY =
        popCount 64 (s1.slab slab).mask.toNat ∧ onlyWords [SLB_SNAP_IDX.INDEX.addr, SLB_SNAP0.MASK_LO.addr,
        SLB_SNAP1.MASK_HI.addr, SLB_SNAP2.WORD.addr, SLB_SNAP3.DIRTY.addr] s1 u) ∧
    (∀ (s : State),
      s.chip ≠ .off →
      s.hubOn = true →
      s.does (.slbEccClear) fun u => u.rd SLB_ECC.CE_COUNT = 0 ∧ onlyWords [SLB_ECC.CE_COUNT.addr] s u) ∧
    (∀ (sram : List (Nat × SramErr)) (s1 : State) (i : Nat) (e : SlabE) (s : State),
      s.chip ≠ .off →
      s1 = s.sramAll sram →
      s1.hubOn = true →
      s1.slb.ready = true →
      s1.on SLB_HEATCFG.ENABLE = true →
      s1.tick % Nat.max 1 (s1.rd SLB_HEATCFG.PERIOD) = 0 →
      SMap.wf (0 : Nat) (s1.slb.slabs.map (fun p => (p.1, 1))) = true →
      s1.slb.slabs.contains (i, e) = true →
      s.does (.heatDecaySweep sram) fun u => (u.slab i).heat = e.heat - 1 ∧ (u.slab i).mask = e.mask ∧ (u.slab i).owner =
        e.owner ∧ u.rd SLB_STATUS.SWEEP = 1 ∧ keepsBut [.regs, .slb] s1 u ∧ keepsWords [SLB_STATUS.SWEEP.addr] s1 u)

/-- Refresh, self-refresh, training, scrub, repair and row state of the DRAM channels (R286, R289, R290, R291, R294, R296, R298, R299, R300, R310). Commands: DRAM_REFRESH, MR4_READ, SELF_REFRESH_ENTRY, SELF_REFRESH_EXIT, DEVICE_RETRAIN, SCRUB_STEP, REPAIR_PAGE_READY, ROW_IDLE_CLOSE, RANK_STOPS_ANSWERING. -/
def Obligations.DramCommands : Prop :=
  (∀ (chan rank : Nat) (s : State),
      s.chip ≠ .off →
      s.rankLive chan rank = true →
      s.chanAwake chan = true →
      s.rankQueued chan rank = false →
      SMap.get 0 (rankKey chan rank) s.dch.early = 0 →
      chan < 36 →
      s.dch.cfgNew.contains chan = false →
      s.inForce (DCH_REF.MODE chan) = 0 →
      s.does (.dramRefresh chan rank) fun u => (∀ x ∈ List.range 512, (u.bank (rankKey chan rank * 512 + x)).row = 0) ∧
        keepsBut [.dch, .free] s u) ∧
    (∀ (chan : Nat) (temps : List Int) (t : Int) (s : State),
      s.chip ≠ .off →
      chan < 36 →
      s.chanAwake chan = true →
      temps = [t] →
      -128 ≤ t →
      t < 128 →
      s.does (.mr4Read chan temps) fun u => u.rd (DCH_STATUS.REFRATE chan) = refRate t ∧ u.rdInt (DCH_REF.MAXTEMP chan) = t
        ∧ keepsBut [.regs, .flt] s u) ∧
    (∀ (chan : Nat) (abort : Bool) (s : State),
      s.chip ≠ .off →
      chan < 36 →
      abort = false →
      s.chanAwake chan = true →
      s.inForce (DCH_SR.EN chan) = 1 →
      SMap.get 0 chan s.dch.lastReq + s.inForce (DCH_SR.IDLE chan) ≤ s.tick + 1 →
      s.on (DCH_STATUS.EQ_BUSY chan) = false →
      s.on (DCH_STATUS.SCRUB_BUSY chan) = false →
      s.chanQueued chan = false →
      (∀ k ∈ List.range 4, SMap.get 0 (rankKey chan k) s.dch.late = 0) →
      s.does (.selfRefreshEntry chan abort) fun u => (u.rd (DCH_STATUS.STATE chan) = 3 ∧ ∀ k ∈ List.range 4, ∀ x ∈
        List.range 512, (u.bank (rankKey chan k * 512 + x)).row = 0) ∧ keepsBut [.regs, .dch] s u) ∧
    (∀ (chan : Nat) (late : Bool) (s : State),
      s.chip ≠ .off →
      chan < 36 →
      s.rd (DCH_STATUS.STATE chan) = 3 →
      s.working = true →
      s.does (.selfRefreshExit chan late) fun u => (u.rd (DCH_STATUS.STATE chan) = s.awakeState chan ∧ (late = true → u.rd
        (DCH_SR_LATE.COUNT chan) = min (s.rd (DCH_SR_LATE.COUNT chan) + 1) (2 ^ (DCH_SR_LATE.COUNT chan).width - 1)))
        ∧ keepsBut [.regs] s u) ∧
    (∀ (chan rank sensor : Nat) (margins : List (List Nat)) (s : State),
      s.chip ≠ .off →
      s.working = true →
      s.inForce (DCH_EQ.EN chan) = 1 →
      chan < 36 →
      s.rankLive chan rank = true →
      s.retrainDue chan rank sensor = true →
      s.on (DCH_STATUS.EQ_BUSY chan) = false →
      s.does (.deviceRetrain chan rank sensor margins) fun u => (u.rd (DCH_STATUS.EQ_BUSY chan) = 1 ∧ SMap.get none (rankKey
        chan rank) u.dch.eqTemp = some (s.rankTemp sensor) ∧ (u.dch.eqRun.map (fun r => (r.chan, r.rank,
        r.taps))).getLast? = some (chan, rank, s.dch.taps) ∧ ∀ x ∈ List.range 512, (u.bank (rankKey chan rank * 512 +
        x)).row = 0) ∧ keepsBut [.regs, .dch, .flt] s u) ∧
    (∀ (chan : Nat) (devs : SMap Nat) (n : Nat) (s : State),
      s.chip ≠ .off →
      s.working = true →
      chan < 36 →
      s.inForce (DCH_SCRUB.EN chan) = 1 →
      s.scrubDue chan = true →
      s.canPay 7 1 false = true →
      s.rank chan (s.slabRank (settSlab (chan * 4194304 + n))) = rkAbsent →
      s.settHeld (s.scrubTarget (chan * 4194304 + n)) = false →
      s.rd (DCH_SCRUB_PTR.LINE chan) / 1024 = n →
      n < 4194303 →
      s.does (.scrubStep chan devs) fun u => u.rd (DCH_SCRUB_PTR.LINE chan) = (n + 1) * 1024 ∧ onlyWords
        [(DCH_SCRUB_PTR.LINE chan).addr] s u) ∧
    (∀ (chan : Nat) (devs : SMap Nat) (n : Nat) (s : State),
      s.chip ≠ .off →
      s.working = true →
      chan < 32 →
      s.inForce (DCH_SCRUB.EN chan) = 1 →
      s.scrubDue chan = true →
      s.canPay 7 1 false = true →
      devs = [] →
      s.rank chan (s.slabRank (settSlab (chan * 4194304 + n))) = rkActive →
      s.settHeld (s.scrubTarget (chan * 4194304 + n)) = false →
      s.rankAnswers (s.scrubTarget (chan * 4194304 + n)) = true →
      s.rd (DCH_SCRUB_PTR.LINE chan) / 1024 = n →
      n < 4194303 →
      s.dch.hard = [] →
      s.does (.scrubStep chan devs) fun u => u.rd (DCH_SCRUB_PTR.LINE chan) = (n + 1) * 1024 ∧ u.rd (DCH_STATUS.SCRUB_BUSY
        chan) = 1 ∧ u.dch.mem = s.dch.mem ∧ u.dch.poison = s.dch.poison ∧ keepsBut [.regs, .slb, .stk, .dch, .ports,
        .job, .flt, .out] s u) ∧
    (∀ (sett line : Nat) (page : PageRead) (devs : Nat) (r : Repair) (x : Rec) (s : State),
      s.chip ≠ .off →
      s.working = true →
      line < 1024 →
      s.repairOf sett line = some r →
      r.twin = false →
      s.repairWaits r = false →
      (s.slab (settSlab sett)).relq = false →
      (s.slab (settSlab sett)).retire = false →
      s.recAt r.entry = some x →
      page = .ok →
      s.decrypts x = true →
      s.repairHolds r = true →
      x.poison.getLsbD line = false →
      popCount 10 devs < 2 →
      s.rankAnswers sett = true →
      s.does (.repairPageReady sett line page devs) fun u => u.repairOf sett line = none ∧ keepsBut [.regs, .slb, .adm,
        .stk, .res, .dch, .ports, .job, .gal, .seq, .flt, .clg, .fwm, .out, .free] s u) ∧
    (∀ (chan rank bank : Nat) (s : State),
      s.chip ≠ .off →
      s.inForce (DCH_PRED.MODE chan) ≠ 1 →
      bank < 512 →
      s.does (.rowIdleClose chan rank bank) fun u => u.bank (rankKey chan rank * 512 + bank) =
        { s.bank (rankKey chan rank * 512 + bank) with row := 0 } ∧ u.dch.mem = s.dch.mem ∧ keepsBut [.dch] s u) ∧
    (∀ (chan rank : Nat) (s : State),
      s.chip ≠ .off →
      s.rankLive chan rank = true →
      s.hubOn = true →
      s.does (.rankStopsAnswering chan rank) fun u => u.rank chan rank = rkDead ∧ u.dch.mem = s.dch.mem ∧ keepsBut [.regs,
        .slb, .dch, .ports, .flt, .out] s u)

/-- Migrating, retiring and copying a rank (R305, R306, R307, R309). Commands: MIG_START, MIG_RETIRE, MIG_ABORT, MIG_COPY_SETT. -/
def Obligations.MigrationCommands : Prop :=
  (∀ (chan : Nat) (ok0 : Bool) (ok36 : Bool) (k : Nat) (dc : Nat) (dk : Nat) (s : State),
      s.chip ≠ .off →
      s.woLive (DCH_MIG_CTL.OP chan).addr = true →
      s.hubOn = true →
      chan < 36 →
      s.rd (DCH_MIG_CTL.RANK chan) = k →
      s.rd (DCH_MIG_DST.CHANNEL chan) = dc →
      s.rd (DCH_MIG_DST.RANK chan) = dk →
      s.startResult chan k dc dk = 0 →
      s.does (.migStart chan ok0 ok36) fun u => u.rd (DCH_MIG_CTL.RESULT chan) = 0 ∧ u.dch.mig.map (fun m => (m.chan,
        m.rank, m.dstChan, m.dstRank)) = some (chan, k, dc, dk) ∧ u.rank chan k = rkSource ∧ keepsBut [.regs, .stk,
        .dch, .flt] s u) ∧
    (∀ (chan : Nat) (ok0 : Bool) (ok36 : Bool) (s : State),
      s.chip ≠ .off →
      s.woLive (DCH_MIG_CTL.OP chan).addr = true →
      s.hubOn = true →
      chan < 36 →
      s.dch.mig.isSome = true →
      s.does (.migStart chan ok0 ok36) fun u => u.rd (DCH_MIG_CTL.RESULT chan) = 1 ∧ onlyWords [(DCH_MIG_CTL.RESULT
        chan).addr] s u) ∧
    (∀ (chan : Nat) (ok0 : Bool) (ok36 : Bool) (k : Nat) (s : State),
      s.chip ≠ .off →
      s.woLive (DCH_MIG_CTL.OP chan).addr = true →
      s.hubOn = true →
      chan < 36 →
      s.rd (DCH_MIG_CTL.RANK chan) = k →
      s.dch.mig = none →
      (s.rank chan k = rkActive ∨ s.rank chan k = rkDead) →
      s.does (.migRetire chan ok0 ok36) fun u => u.rd (DCH_MIG_CTL.RESULT chan) = 0 ∧ u.rank chan k = rkRetired ∧ keepsBut
        [.regs, .slb, .adm, .haul, .stk, .res, .dch, .ports, .job, .gal, .seq, .flt, .fwm, .out, .free] s u) ∧
    (∀ (chan : Nat) (m : Mig) (s : State),
      s.chip ≠ .off →
      s.woLive (DCH_MIG_CTL.OP chan).addr = true →
      s.hubOn = true →
      chan < 36 →
      s.dch.mig = some m →
      m.chan = chan →
      m.retire = false →
      s.rank chan m.rank = rkSource →
      m.rank < 4 →
      m.dstChan < 36 →
      m.dstRank < 4 →
      s.does (.migAbort chan) fun u => u.dch.mig = none ∧ u.rank chan m.rank = rkActive ∧ u.rd (DCH_MIG_CTL.RESULT chan) = 0
        ∧ u.rd (DCH_MIG_CTL.PHASE chan) = 0 ∧ keepsBut [.regs, .slb, .dch, .flt] s u) ∧
    (∀ (devs : SMap Nat) (ok0 : Bool) (ok36 : Bool) (m : Mig) (n : Nat) (s : State),
      s.chip ≠ .off →
      s.working = true →
      s.dch.mig = some m →
      m.chan < 36 →
      m.retire = false →
      m.paused = false →
      s.rank m.chan m.rank = rkSource →
      m.quota < Nat.max 1 (s.rd (DCH_MIG_RATE.SETTS m.chan)) →
      s.canPay 4 1 false = true →
      s.rd (DCH_MIG_PTR.SETT m.chan) = n →
      n < 63 →
      devs = [] →
      s.dch.hard = [] →
      s.does (.migCopySett devs ok0 ok36) fun u => u.rd (DCH_MIG_PTR.SETT m.chan) = n + 1 ∧ u.dch.mig = some
        { m with quota := m.quota + 1 } ∧ u.dch.mem = s.dch.mem ∧ keepsBut [.regs, .slb, .stk, .dch, .ports, .job,
        .flt, .out] s u)

/-- Interface settings, page reads, erases, the journal and silent dies of NAND (part 1 of 2) (R219, R222, R227, R228, R230, R233, R236, R241). Commands: NCH_APPLY, NCH_CWMAX_CLEAR, NAND_PAGE_READ_DONE, LODE_ERASE_START, JOURNAL_PAGE_PROGRAMMED. -/
def Obligations.NandChannelFirst : Prop :=
  (∀ (chan : Nat) (s : State),
      s.chip ≠ .off →
      s.woLive (NCH_CTL.APPLY chan).addr = true →
      s.hubOn = true →
      chan < 72 →
      s.does (.nchApply chan) fun u => SMap.get 0 chan u.stk.applied = s.word (NCH_IFCFG.RATE chan).addr ∧ keepsBut [.stk] s
        u) ∧
    (∀ (chan : Nat) (s : State),
      s.chip ≠ .off →
      s.woLive (NCH_CWMAX.CLEAR chan).addr = true →
      s.hubOn = true →
      chan < 72 →
      s.does (.nchCwmaxClear chan) fun u => u.rd (NCH_CWMAX.BITS chan) = 0 ∧ onlyWords [(NCH_CWMAX.BITS chan).addr] s u) ∧
    (∀ (inp : NandRead) (patrol : Bool) (s : State),
      s.chip ≠ .off →
      s.hubOn = true →
      inp.channel < 72 →
      (s.die inp.channel inp.target).busy = false →
      s.canRead inp.channel inp.target inp.block = true →
      inp.page0.erased = false →
      s.decodes inp.channel inp.page0 = true →
      s.does (.nandPageReadDone inp patrol) fun u => (u.blk inp.channel inp.target inp.block).reads = (s.blk inp.channel
        inp.target inp.block).reads + 1 ∧ SMap.get 0 (dieKey inp.channel inp.target) u.stk.silent = 0 ∧ u.rd
        (NCH_CNT_REBUILD.PAGES inp.channel) = s.rd (NCH_CNT_REBUILD.PAGES inp.channel) ∧ u.rd (NCH_CNT_REBUILD.UNREAD
        inp.channel) = s.rd (NCH_CNT_REBUILD.UNREAD inp.channel) ∧ keepsBut [.regs, .stk, .flt, .clg, .free] s u) ∧
    (∀ (inp : NandRead) (patrol : Bool) (s : State),
      s.chip ≠ .off →
      s.hubOn = true →
      inp.channel < 72 →
      (s.die inp.channel inp.target).busy = false →
      s.canRead inp.channel inp.target inp.block = true →
      s.decodes inp.channel inp.page0 = false →
      inp.page0.erased = false →
      s.blockServes inp.channel inp.target inp.block = true →
      (s.stripeMates inp.channel inp.target inp.block).zipIdx.all (fun x => s.canRead x.1.1 x.1.2.1 x.1.2.2 && s.decodes x.1.1 (inp.others.getD x.2 ⟨false, none, [], []⟩)) = true →
      s.does (.nandPageReadDone inp patrol) fun u => u.rd (NCH_CNT_REBUILD.PAGES inp.channel) = min (s.rd
        (NCH_CNT_REBUILD.PAGES inp.channel) + 1) (2 ^ (NCH_CNT_REBUILD.PAGES inp.channel).width - 1) ∧ u.rd
        (NCH_CNT_REBUILD.UNREAD inp.channel) = s.rd (NCH_CNT_REBUILD.UNREAD inp.channel) ∧ keepsBut [.regs, .stk,
        .flt, .clg, .free] s u) ∧
    (∀ (inp : NandRead) (patrol : Bool) (s : State),
      s.chip ≠ .off →
      s.hubOn = true →
      inp.channel < 72 →
      (s.die inp.channel inp.target).busy = false →
      s.canRead inp.channel inp.target inp.block = true →
      s.decodes inp.channel inp.page0 = false →
      inp.page0.erased = false →
      s.blockServes inp.channel inp.target inp.block = false →
      s.does (.nandPageReadDone inp patrol) fun u => u.rd (NCH_CNT_REBUILD.UNREAD inp.channel) = min (s.rd
        (NCH_CNT_REBUILD.UNREAD inp.channel) + 1) (2 ^ (NCH_CNT_REBUILD.UNREAD inp.channel).width - 1) ∧ u.rd
        (NCH_CNT_REBUILD.PAGES inp.channel) = s.rd (NCH_CNT_REBUILD.PAGES inp.channel) ∧ keepsBut [.regs, .stk, .flt,
        .clg, .free] s u) ∧
    (∀ (inp : NandRead) (patrol : Bool) (s : State),
      s.chip ≠ .off →
      s.hubOn = true →
      inp.channel < 72 →
      (s.die inp.channel inp.target).busy = true →
      (s.die inp.channel inp.target).suspended = false →
      inp.demand = true →
      s.maySuspend inp.channel (s.die inp.channel inp.target) = true →
      s.resumeOver inp.channel (s.die inp.channel inp.target) = true →
      s.does (.nandPageReadDone inp patrol) fun u => (u.die inp.channel inp.target).suspended = true ∧ (u.die inp.channel
        inp.target).count = (s.die inp.channel inp.target).count + 1 ∧ (u.die inp.channel inp.target).queued = (s.die
        inp.channel inp.target).queued.filter (fun r => !r.1.demand) ∧ u.rd (NCH_STATUS.SUSPENDED inp.channel) = 1 ∧
        u.rd (NCH_CNT_SUSP.COUNT inp.channel) = (s.rd (NCH_CNT_SUSP.COUNT inp.channel) + 1) % 2 ^ (NCH_CNT_SUSP.COUNT
        inp.channel).width ∧ keepsBut [.regs, .stk, .flt, .clg, .free] s u) ∧
    (∀ (inp : NandRead) (patrol : Bool) (s : State),
      s.chip ≠ .off →
      s.hubOn = true →
      inp.channel < 72 →
      (s.die inp.channel inp.target).busy = true →
      inp.demand = false →
      s.does (.nandPageReadDone inp patrol) fun u => u.die inp.channel inp.target =
        { s.die inp.channel inp.target with queued := (s.die inp.channel inp.target).queued ++ [(inp, patrol)] } ∧
        keepsBut [.stk] s u) ∧
    (∀ (what : EraseOf) (g : Nat) (n : Nat) (s : State),
      s.chip ≠ .off →
      s.hubOn = true →
      what = .lode g n →
      s.mayErase g n = true →
      s.does (.lodeEraseStart what) fun u => (u.lode g n).st = lodeErasing ∧ u.stk.intents = s.stk.intents ++ [intentLode g
        n] ∧ u.stk.jpend = s.stk.jpend ++ [JRec.erase 1 (intentLode g n) 0] ∧ keepsBut [.stk] s u) ∧
    (∀ (what : EraseOf) (c : Nat) (t : Nat) (b : Nat) (s : State),
      s.chip ≠ .off →
      s.hubOn = true →
      what = .block c t b →
      c < 72 →
      s.loneBlock c t b = true →
      s.stk.intents.any (fun i => !i.lode && i.channel == c && i.target == t && i.num == b) = false →
      s.does (.lodeEraseStart what) fun u => u.stk.intents = s.stk.intents ++ [intentBlock c t b] ∧ u.stk.jpend =
        s.stk.jpend ++ [JRec.erase 3 (intentBlock c t b) (s.blockErases c t b + 1)] ∧ u.blk c t b = s.blk c t b ∧
        keepsBut [.stk] s u) ∧
    (∀ (ok0 ok36 : Bool) (s : State),
      s.chip ≠ .off →
      s.hubOn = true →
      s.bootFree = true →
      s.stk.jpend ≠ [] →
      s.journalRoom = true →
      s.bootWrote 0 (s.bootPageBlock bootJournal s.stk.jpage) ok0 = true →
      s.bootWrote 1 (s.bootPageBlock bootJournal s.stk.jpage) ok36 = true →
      s.does (.journalPageProgrammed ok0 ok36) fun u => u.stk.jseq = s.stk.jseq + 1 ∧ u.stk.jpend = [] ∧ u.stk.jrnl =
        JPage.mk s.stk.jpage (s.stk.jseq + 1) (s.stk.jpend.map (fun r => { r with jseq := s.stk.jseq + 1 })) ::
        s.journalKept ∧ u.stk.jpage = s.bootPageNext bootJournal s.stk.jpage ∧ u.stk.intents.all (fun i => i.st != 0)
        = true ∧ keepsBut [.regs, .tick, .stk, .flt] s u) ∧
    (∀ (ok0 ok36 : Bool) (s : State),
      s.chip ≠ .off →
      s.hubOn = true →
      s.bootFree = true →
      s.stk.jpend ≠ [] →
      s.journalRoom = true →
      (s.bootWrote 0 (s.bootPageBlock bootJournal s.stk.jpage) ok0 = false ∨ s.bootWrote 1 (s.bootPageBlock bootJournal s.stk.jpage) ok36 = false) →
      s.does (.journalPageProgrammed ok0 ok36) fun u => u.stk.jseq = s.stk.jseq ∧ u.stk.jpend = s.stk.jpend ∧ u.stk.jrnl =
        s.stk.jrnl ∧ u.stk.jpage = s.stk.jpage ∧ u.stk.intents = s.stk.intents ∧ keepsBut [.regs, .tick, .stk, .flt] s
        u)

/-- Interface settings, page reads, erases, the journal and silent dies of NAND (part 2 of 2) (R219, R222, R227, R228, R230, R233, R236, R241). Commands: ERASE_DONE, DIE_NO_ANSWER_TIMEOUT, NAND_PATROL_READ, REWORK_MOVE, SUMP_FOLD, REWRAP, RESUME_MIN_EXPIRY. -/
def Obligations.NandChannelSecond : Prop :=
  (∀ (what : EraseOf) (failed : List (Nat × Nat × Nat)) (c : Nat) (t : Nat) (b : Nat) (i : Intent) (s : State),
      s.chip ≠ .off →
      s.hubOn = true →
      what = .block c t b →
      failed = [] →
      s.intentOf what = some i →
      (s.die c t).suspended = false →
      (s.die c t).queued = [] →
      s.stk.intents.filter (fun x => x.st == 1) = [i] →
      (s.blk c t b).st ≠ 6 →
      s.mayEraseBlock c t b false = true →
      s.does (.eraseDone what failed) fun u => u.die c t = DieErase.idle ∧ (u.blk c t b).st = 0 ∧ (u.blk c t b).erases =
        (s.blk c t b).erases ∧ (u.blk c t b).reads = 0 ∧ u.stk.jpend = s.stk.jpend ++ [JRec.erase 4 i (s.blockErases c
        t b)] ∧ u.stk.intents.all (fun x => x.st != 1) = true ∧ keepsBut [.stk] s u) ∧
    (∀ (what : EraseOf) (failed : List (Nat × Nat × Nat)) (g : Nat) (n : Nat) (i : Intent) (s : State),
      s.chip ≠ .off →
      s.hubOn = true →
      what = .lode g n →
      g < 8 →
      failed = [] →
      s.intentOf what = some i →
      (∀ x ∈ s.lodeSlots g n, (s.die x.1 x.2.1).suspended = false ∧ (s.die x.1 x.2.1).queued = []) →
      s.does (.eraseDone what failed) fun u => ((u.lode g n).erases = (s.lode g n).erases ∧ ((u.lode g n).st = lodeFree ∨
        (u.lode g n).st = lodeReclaim) ∧ (u.stk.jpend.contains (JRec.erase 2 i 0)) = true ∧ u.stk.intents.any (fun x
        => x == i) = false) ∧ keepsBut [.regs, .tick, .slb, .haul, .stk, .saves, .flt, .clg, .free] s u) ∧
    (∀ (channel target : Nat) (n : Nat) (s : State),
      s.chip ≠ .off →
      s.hubOn = true →
      channel < 72 →
      target ∈ s.targets channel →
      SMap.get 0 (dieKey channel target) s.stk.silent = n →
      n ≠ 2 →
      s.does (.dieNoAnswerTimeout channel target) fun u => SMap.get 0 (dieKey channel target) u.stk.silent = n + 1 ∧
        keepsBut [.stk] s u) ∧
    (∀ (channel target : Nat) (s : State),
      s.chip ≠ .off →
      s.hubOn = true →
      channel < 72 →
      target < 8 →
      target ∈ s.targets channel →
      SMap.get 0 (dieKey channel target) s.stk.silent = 2 →
      s.does (.dieNoAnswerTimeout channel target) fun u => bitAt target (u.rd (NCH_STATUS.TGT_RETIRED channel)) = true ∧
        keepsBut [.regs, .tick, .slb, .haul, .stk, .flt] s u) ∧
    (∀ (channel target block page : Nat) (s : State),
      s.chip ≠ .off →
      s.hubOn = true →
      channel < 72 →
      s.blockState channel target block = 2 →
      s.blockServes channel target block = true →
      page < (if s.blkPslc channel target block then s.sv NAND.WORDLINES else 3 * s.sv NAND.WORDLINES) →
      s.patrolDue channel target block = true →
      s.canPay 7 1 false = true →
      s.does (.nandPatrolRead channel target block page) fun u => u.rdInt (ADM_CLS.BUCKET 7) = (if s.rdInt (ADM_CLS.BUCKET
        7) - 1 < -(s.heatFull : Int) then -(s.heatFull : Int) else s.rdInt (ADM_CLS.BUCKET 7) - 1) ∧ u.stk.patrolRead
        = s.stk.patrolRead ++ [(channel, target, block)] ∧ u.stk.patrolled.contains (blkKey channel target block) =
        true ∧ keepsBut [.regs, .stk] s u ∧ keepsWords [(ADM_CLS.BUCKET 7).addr, ADM_STATUS.OVERDRAW.addr] s u) ∧
    (∀ (sett : Nat) (n : Nat) (c : Nat) (r : Rec) (g : Nat) (s : State),
      s.chip ≠ .off →
      s.movesRun = true →
      locKind (s.loc sett) = 1 →
      s.moving sett = false →
      (s.reworkNow (locGroup (s.loc sett))).find? (fun x => x.1 == (s.locLode (s.loc sett)).2) = some (n, c) →
      s.recAt (s.loc sett) = some r →
      s.moveGroup (locGroup (s.loc sett)) = some g →
      s.mayIssue g false = true →
      s.canPay c 1 (decide (c = 1) && s.overRate) = true →
      s.does (.reworkMove sett) fun u => u.haul.stripes.any (fun x => x.a == some sett && x.kind == 1 && x.oldA == s.loc
        sett && x.recA.map (fun y => { y with pseq := r.pseq }) == some r) = true ∧ u.stk.reworking = true ∧ u.loc
        sett = s.loc sett ∧ keepsBut [.regs, .slb, .adm, .haul, .stk, .cip, .seq, .flt] s u) ∧
    (∀ (sett : Nat) (k : Nat) (g : Nat) (s : State),
      s.chip ≠ .off →
      s.movesRun = true →
      s.foldable sett = true →
      s.settSlot sett = some k →
      s.nextGroup false = some g →
      s.mayEncrypt k false = true →
      s.pairsIn ≠ 0 →
      s.mayIssue g false = true →
      s.canPay (if s.on LGR_STATUS.SUMP_BOUND then 1 else 5) 1 (s.on LGR_STATUS.SUMP_BOUND && s.overRate) = true →
      s.does (.sumpFold sett) fun u => u.haul.stripes.any (fun x => x.a == some sett && x.kind == 2 && x.oldA == s.loc sett)
        = true ∧ u.loc sett = s.loc sett ∧ keepsBut [.regs, .slb, .adm, .haul, .stk, .cip, .seq, .flt] s u) ∧
    (∀ (sett : Nat) (k : Nat) (g : Nat) (s : State),
      s.chip ≠ .off →
      s.movesRun = true →
      s.wrappable sett = true →
      s.settSlot sett = some k →
      s.nextGroup false = some g →
      s.mayEncrypt k false = true →
      s.pairsIn ≠ 0 →
      s.mayIssue g false = true →
      s.canPay 6 1 false = true →
      s.does (.rewrap sett) fun u => u.haul.stripes.any (fun x => x.a == some sett && x.kind == 3 && x.oldA == s.loc sett) =
        true ∧ u.loc sett = s.loc sett ∧ keepsBut [.regs, .slb, .adm, .haul, .stk, .cip, .seq, .flt] s u) ∧
    (∀ (channel target : Nat) (s : State),
      s.chip ≠ .off →
      (s.die channel target).busy = true →
      (s.die channel target).suspended = false →
      (s.die channel target).queued.any (fun r => r.1.demand) = true →
      s.maySuspend channel (s.die channel target) = true →
      s.resumeOver channel (s.die channel target) = true →
      channel < 72 →
      s.does (.resumeMinExpiry channel target) fun u => u.die channel target =
        { s.die channel target with suspended := true, count := (s.die channel target).count + 1, queued := (s.die channel target).queued.filter (fun r => !r.1.demand) }
        ∧ u.rd (NCH_STATUS.SUSPENDED channel) = 1 ∧ keepsBut [.regs, .stk, .flt, .clg, .free] s u)

/-- Reads and writes of a host: where they are looked up, what they return, when they complete (R21, R25, R31, R105, R153, R154, R158, R298, R321, R393). Commands: MEM_RD, MEM_WR, MEM_WR_PTL, PARKED_WRITE_ADMIT, DATA_WRITTEN_TO_DRAM, FRESH_QUEUE_AGE_WARN. -/
def Obligations.HostMemory : Prop :=
  (∀ (port tag dpa devs : Nat) (sram : SramErr) (s1 : State) (k : Nat) (l : Nat) (s : State),
      s.chip ≠ .off →
      s1 = s.lookupSlab port dpa sram →
      s1.memOk port = true →
      s1.access port (dpa / 64 * 64) = some (k, l) →
      s1.settHome k = true →
      s1.readBlock port k l (s1.port port).arrivals = none →
      s1.repairOf k l = none →
      (s1.pendingTo port k).filter (fun e => e.line == l) = [] →
      popCount 10 devs = 0 →
      s1.rankAnswers k = true →
      SMap.get false (k * 1024 + l) s1.dch.hard = false →
      s1.poisoned k l = false →
      s.does (.memRd port tag dpa devs sram) fun u => u.out = .devLoad port tag (s1.devLoad port) :: .data port tag
        (s1.lineAt k l) :: s1.out ∧ u.port port = { s1.port port with arrivals := (s1.port port).arrivals + 1 } ∧ u.rd
        (HPT_CNT_RD.COUNT port) = (s1.rd (HPT_CNT_RD.COUNT port) + 1) % 2 ^ (HPT_CNT_RD.COUNT port).width ∧ keepsDram
        s1 u ∧ keepsBut [.regs, .slb, .dch, .ports, .out, .free] s1 u) ∧
    (∀ (port tag dpa devs : Nat) (sram : SramErr) (s1 : State) (s : State),
      s.chip ≠ .off →
      s1 = s.lookupSlab port dpa sram →
      s1.memOk port = true →
      s1.access port (dpa / 64 * 64) = none →
      s.does (.memRd port tag dpa devs sram) fun u => u.out = .devLoad port tag (s1.devLoad port) :: .poisoned port tag ::
        s1.out ∧ u.rd (HPT_OOR.COUNT port) = min (s1.rd (HPT_OOR.COUNT port) + 1) (2 ^ (HPT_OOR.COUNT port).width - 1)
        ∧ keepsDram s1 u ∧ keepsBut [.regs, .ports, .flt, .out] s1 u) ∧
    (∀ (port tag dpa devs : Nat) (sram : SramErr) (s1 : State) (k : Nat) (l : Nat) (s : State),
      s.chip ≠ .off →
      s1 = s.lookupSlab port dpa sram →
      s1.memOk port = true →
      s1.access port (dpa / 64 * 64) = some (k, l) →
      s1.settHome k = false →
      s.does (.memRd port tag dpa devs sram) fun u => (u.port port).reads = (s1.port port).reads ++ [REnt.mk tag (dpa / 64 *
        64) k l .fetch s1.tick (s1.port port).arrivals] ∧ u.out = s1.out ∧ keepsDram s1 u ∧ keepsBut [.regs, .slb,
        .res, .ports, .free] s1 u) ∧
    (∀ (port tag dpa : Nat) (data : Line) (poison : Bool) (sram : SramErr) (s1 : State) (k : Nat) (l : Nat) (s : State),
      s.chip ≠ .off →
      s1 = s.lookupSlab port dpa sram →
      s1.memOk port = true →
      (s1.port port).wbuf.length < 4096 →
      (s1.port port).owed < portCredits →
      s1.write? port tag = none →
      s1.access port (dpa / 64 * 64) = some (k, l) →
      s1.settHome k = true →
      (s1.slab (settSlab k)).jobl = false →
      s1.repairOf k l = none →
      s1.mirrors = false →
      (s1.port port).wbuf.any (fun x => (x.wait == .parked || x.wait == .queueFull) && x.sett == k && x.line == l) = false →
      tag < mailTag →
      s1.dirty k = true →
      s.does (.memWr port tag dpa data poison sram) fun u => u.write? port tag = some
        { tag := tag, dpa := dpa / 64 * 64, sett := k, line := l, data := data, mask := fullMask, poison := poison, wait := .admitted, done := true, fresh := false, since := s1.tick, seq := 0, devs := 0, arr := (s1.port port).arrivals }
        ∧ u.dirty k = true ∧ u.out = .devLoad port tag (u.devLoad port) :: .cmp port tag :: s1.out ∧ u.rd
        (HPT_CNT_WR.COUNT port) = (s1.rd (HPT_CNT_WR.COUNT port) + 1) % 2 ^ (HPT_CNT_WR.COUNT port).width ∧ keepsDram
        s1 u ∧ keepsBut [.regs, .slb, .gal, .ports, .flt, .out, .free] s1 u) ∧
    (∀ (port tag dpa : Nat) (data : Line) (poison : Bool) (sram : SramErr) (s1 : State) (k : Nat) (l : Nat) (s : State),
      s.chip ≠ .off →
      s1 = s.lookupSlab port dpa sram →
      s1.memOk port = true →
      (s1.port port).wbuf.length < 4096 →
      (s1.port port).owed < portCredits →
      s1.write? port tag = none →
      s1.access port (dpa / 64 * 64) = some (k, l) →
      s1.settHome k = true →
      (s1.slab (settSlab k)).jobl = false →
      s1.repairOf k l = none →
      s1.mirrors = false →
      (s1.port port).wbuf.any (fun x => (x.wait == .parked || x.wait == .queueFull) && x.sett == k && x.line == l) = false →
      tag < mailTag →
      s1.dirty k = false →
      s1.admits port = false →
      s.does (.memWr port tag dpa data poison sram) fun u => (u.write? port tag).map (fun e => (e.sett, e.line, e.done,
        e.wait)) = some (k, l, false, if s1.fqCount port < 512 then .parked else .queueFull) ∧ u.dirty k = false ∧
        u.out = s1.out ∧ keepsDram s1 u ∧ keepsBut [.regs, .slb, .ports, .flt, .free] s1 u) ∧
    (∀ (port tag dpa : Nat) (data : Line) (mask : BitVec 64) (devs : Nat) (sram : SramErr) (s1 : State) (k : Nat) (l : Nat) (s : State),
      s.chip ≠ .off →
      s1 = s.lookupSlab port dpa sram →
      s1.memOk port = true →
      (s1.port port).wbuf.length < 4096 →
      (s1.port port).owed < portCredits →
      s1.write? port tag = none →
      s1.access port (dpa / 64 * 64) = some (k, l) →
      s1.settHome k = true →
      (s1.slab (settSlab k)).jobl = false →
      s1.repairOf k l = none →
      s1.mirrors = false →
      (s1.port port).wbuf.any (fun x => (x.wait == .parked || x.wait == .queueFull) && x.sett == k && x.line == l) = false →
      tag < mailTag →
      s1.dirty k = true →
      s.does (.memWrPtl port tag dpa data mask devs sram) fun u => u.write? port tag = some
        { tag := tag, dpa := dpa / 64 * 64, sett := k, line := l, data := data, mask := mask, poison := false, wait := .admitted, done := true, fresh := false, since := s1.tick, seq := 0, devs := devs, arr := (s1.port port).arrivals }
        ∧ u.dirty k = true ∧ u.out = .devLoad port tag (u.devLoad port) :: .cmp port tag :: s1.out ∧ u.rd
        (HPT_CNT_WR.COUNT port) = (s1.rd (HPT_CNT_WR.COUNT port) + 1) % 2 ^ (HPT_CNT_WR.COUNT port).width ∧ keepsDram
        s1 u ∧ keepsBut [.regs, .slb, .gal, .ports, .flt, .out, .free] s1 u) ∧
    (∀ (port tag dpa : Nat) (data : Line) (mask : BitVec 64) (devs : Nat) (sram : SramErr) (s1 : State) (k : Nat) (l : Nat) (s : State),
      s.chip ≠ .off →
      s1 = s.lookupSlab port dpa sram →
      s1.memOk port = true →
      (s1.port port).wbuf.length < 4096 →
      (s1.port port).owed < portCredits →
      s1.write? port tag = none →
      s1.access port (dpa / 64 * 64) = some (k, l) →
      s1.settHome k = true →
      (s1.slab (settSlab k)).jobl = false →
      s1.repairOf k l = none →
      s1.mirrors = false →
      (s1.port port).wbuf.any (fun x => (x.wait == .parked || x.wait == .queueFull) && x.sett == k && x.line == l) = false →
      tag < mailTag →
      s1.dirty k = false →
      s1.admits port = false →
      s.does (.memWrPtl port tag dpa data mask devs sram) fun u => (u.write? port tag).map (fun e => (e.sett, e.line,
        e.done, e.wait)) = some (k, l, false, if s1.fqCount port < 512 then .parked else .queueFull) ∧ u.dirty k =
        false ∧ u.out = s1.out ∧ keepsDram s1 u ∧ keepsBut [.regs, .slb, .ports, .flt, .free] s1 u) ∧
    (∀ (port tag dpa : Nat) (data : Line) (poison : Bool) (sram : SramErr) (s1 : State) (k : Nat) (l : Nat) (s : State),
      s.chip ≠ .off →
      s1 = s.lookupSlab port dpa sram →
      s1.memOk port = true →
      (s1.port port).wbuf.length < 4096 →
      (s1.port port).owed < portCredits →
      s1.write? port tag = none →
      s1.access port (dpa / 64 * 64) = some (k, l) →
      s1.settHome k = true →
      (s1.slab (settSlab k)).jobl = false →
      s1.repairOf k l = none →
      s1.mirrors = false →
      (s1.port port).wbuf.any (fun x => (x.wait == .parked || x.wait == .queueFull) && x.sett == k && x.line == l) = false →
      tag < mailTag →
      s1.dirty k = false →
      s1.admits port = true →
      s1.fqCount port = 0 →
      s.does (.memWr port tag dpa data poison sram) fun u => u.dirty k = true ∧ .cmp port tag ∈ u.out ∧ (u.write? port
        tag).map (fun e => (e.sett, e.line, e.done, e.wait, e.fresh)) = some (k, l, true, .admitted, true) ∧ keepsBut
        [.regs, .slb, .adm, .stk, .res, .dch, .ports, .job, .gal, .seq, .flt, .fwm, .out, .free] s1 u) ∧
    (∀ (bad : Bool) (s1 : State) (p : Nat) (e : WEnt) (k : Nat) (l : Nat) (s : State),
      s.chip ≠ .off →
      s1 = s.hubErr bad →
      s1.working = true →
      s1.turns.find? s1.headAdmits = some p →
      p < 6 →
      s1.fqHead p = some e →
      s1.access p e.dpa = some (k, l) →
      s1.settHome k = true →
      (s1.slab (settSlab k)).jobl = false →
      s1.repairOf k l = none →
      s1.mirrors = false →
      (s1.port p).wbuf.filter (fun x => x.tag == e.tag) = [e] →
      (s1.port p).perst = false →
      s1.on (HPT_STATUS.LINK_UP p) = true →
      e.tag < mailTag →
      e.done = false →
      s.does (.parkedWriteAdmit bad) fun u => u.dirty k = true ∧ .cmp p e.tag ∈ u.out ∧ u.adm.rr = p ∧ keepsBut [.regs,
        .slb, .adm, .stk, .res, .dch, .ports, .nv, .job, .gal, .seq, .flt, .clg, .fwm, .out, .free] s1 u) ∧
    (∀ (port tag : Nat) (crc : Bool) (bufErr : Bool) (e : WEnt) (s : State),
      s.chip ≠ .off →
      s.write? port tag = some e →
      bufErr = true →
      e.wait = .admitted →
      e.line < 1024 →
      s.repairOf e.sett e.line = none →
      (s.port port).wbuf = [e] →
      s.does (.dataWrittenToDram port tag crc bufErr) fun u => u.poisoned e.sett e.line = true ∧ u.write? port tag = none ∧
        ⟨510 + 8 * port, s.tick, false⟩ ∈ u.flt.raised ∧ keepsBut [.regs, .slb, .adm, .stk, .res, .dch, .ports, .job,
        .gal, .seq, .flt, .fwm, .out, .free] s u) ∧
    (∀ (port tag : Nat) (crc : Bool) (bufErr : Bool) (e : WEnt) (s : State),
      s.chip ≠ .off →
      s.write? port tag = some e →
      bufErr = false →
      e.wait = .admitted →
      e.mask = fullMask →
      e.poison = false →
      e.done = true →
      e.line < 1024 →
      s.repairOf e.sett e.line = none →
      (s.port port).wbuf.filter (fun x => x.wait == .admitted && x.sett == e.sett && x.line == e.line) = [e] →
      s.does (.dataWrittenToDram port tag crc bufErr) fun u => u.lineAt e.sett e.line = e.data ∧ u.poisoned e.sett e.line =
        false ∧ u.write? port tag = none ∧ keepsBut [.regs, .slb, .adm, .stk, .res, .dch, .ports, .job, .gal, .seq,
        .flt, .fwm, .out, .free] s u) ∧
    (∀ (port : Nat) (s : State),
      s.chip ≠ .off →
      port < 6 →
      (s.fqHead port).isSome = true →
      s.rd ADM_FQCFG.WARN_AGE < s.fqAge port →
      s.on (ADM_FQ.OLD port) = false →
      s.does (.freshQueueAgeWarn port) fun u => u.rd (ADM_FQ.OLD port) = 1 ∧ raisedIn (507 + 8 * port) false s u ∧ keepsBut
        [.regs, .flt] s u ∧ keepsWords [(ADM_FQ.OLD port).addr, (evsBit (507 + 8 * port)).1.addr] s u)

/-- Links, flushes, resets, IDE and SPDM of a host port (R33, R260, R314, R320, R325, R326, R327, R352, R601, R614). Commands: GPF_PHASE1, GPF_PHASE2, CXL_RESET, LINK_DOWN, LINK_TRAINED, LINK_TRAIN_RETRY, PERST_ASSERT, PERST_RELEASE, IDE_KEY_PROGRAMMING, IDE_INTEGRITY_FAILURE, SPDM_REQUEST. -/
def Obligations.HostLink : Prop :=
  (∀ (port : Nat) (s : State),
      s.chip ≠ .off →
      s.portAnswers port = true →
      s.does (.gpfPhase1 port) fun u => u.out = .gpf port 1 false :: s.out ∧ keepsBut [.out] s u) ∧
    (∀ (port : Nat) (s : State),
      s.chip ≠ .off →
      s.portAnswers port = true →
      (s.port port).wbuf = [] →
      s.does (.gpfPhase2 port) fun u => u.out = .gpf port 2 false :: s.out ∧ keepsBut [.out] s u) ∧
    (∀ (port : Nat) (e : WEnt) (s : State),
      s.chip ≠ .off →
      s.portAnswers port = true →
      (s.port port).wbuf = [e] →
      e.wait = .admitted →
      e.mask = fullMask →
      e.poison = false →
      e.done = true →
      e.line < 1024 →
      s.repairOf e.sett e.line = none →
      s.does (.gpfPhase2 port) fun u => u.out.head? = some (.gpf port 2 false) ∧ u.lineAt e.sett e.line = e.data ∧ (u.port
        port).wbuf = [] ∧ keepsBut [.regs, .slb, .stk, .dch, .ports, .job, .flt, .out] s u) ∧
    (∀ (face : Nat) (s : State),
      s.chip ≠ .off →
      s.portAnswers face = true →
      s.liveRings face = [] →
      s.does (.cxlReset face) fun u => (u.faceOpen face = false ∧ u.linkUp face = false ∧ u.rd (HPT_IDE.STATE face) = 0 ∧
        (u.port face).spdm = false ∧ (u.port face).ideKeys = false ∧ (u.port face).hdm = false ∧ (u.port face).bg =
        none ∧ (u.port face).reads = [] ∧ (s.faceOpen face = true → (u.port face).wasOpen = true) ∧ (∀ q ∈ faces, q ≠
        face → u.faceOpen q = s.faceOpen q)) ∧ keepsBut [.regs, .slb, .adm, .stk, .res, .dch, .ports, .job, .gal,
        .seq, .flt, .fwm, .out, .free] s u) ∧
    (∀ (port : Nat) (s : State),
      s.chip ≠ .off →
      port < 6 →
      s.linkUp port = true →
      s.does (.linkDown port) fun u => u.linkUp port = false ∧ u.rd (HPT_STATUS.RATE port) = 0 ∧ u.rd (HPT_STATUS.WIDTH
        port) = 0 ∧ (u.port port).reads = [] ∧ u.rd (HPT_LINK.DOWNS port) = min (s.rd (HPT_LINK.DOWNS port) + 1) (2 ^
        (HPT_LINK.DOWNS port).width - 1) ∧ u.flt.raised.getLast? = some ⟨504 + 8 * port, s.tick, false⟩ ∧ keepsBut
        [.regs, .slb, .adm, .stk, .res, .dch, .ports, .job, .gal, .seq, .flt, .fwm, .out, .free] s u) ∧
    (∀ (port rate width : Nat) (s : State),
      s.chip ≠ .off →
      s.mayTrain port = true →
      rate ≠ 0 →
      width ≠ 0 →
      s.does (.linkTrained port rate width) fun u => u.linkUp port = true ∧ u.rd (HPT_STATUS.RATE port) = Nat.max 1 (min
        rate (s.rd (HPT_CFG.MAXRATE port))) % 2 ^ (HPT_STATUS.RATE port).width ∧ u.rd (HPT_LINK.RETRAINS port) = min
        (s.rd (HPT_LINK.RETRAINS port) + 1) (2 ^ (HPT_LINK.RETRAINS port).width - 1) ∧ keepsBut [.regs, .tick, .slb,
        .save, .res, .ports, .cip, .seq, .flt, .out] s u) ∧
    (∀ (port : Nat) (s : State),
      s.chip ≠ .off →
      s.mayTrain port = true →
      s.does (.linkTrainRetry port) fun u => raisedIn (504 + 8 * port) false s u ∧ keepsBut [.regs, .flt] s u ∧ keepsWords
        [(evsBit (504 + 8 * port)).1.addr] s u) ∧
    (∀ (port : Nat) (s : State),
      s.chip ≠ .off →
      s.faceOn port = true →
      s.does (.perstAssert port) fun u => (u.port port).perst = true ∧ u.linkUp port = false ∧ keepsBut [.regs, .slb, .adm,
        .stk, .res, .dch, .ports, .job, .gal, .seq, .flt, .fwm, .out, .free] s u) ∧
    (∀ (port : Nat) (s : State),
      s.chip ≠ .off →
      s.faceOn port = true →
      s.does (.perstRelease port) fun u => (u.port port = { s.port port with perst := false } ∧ ∀ q ∈ faces, q ≠ port →
        u.port q = s.port q) ∧ keepsBut [.ports] s u) ∧
    (∀ (port : Nat) (io : Option Nat) (n : Nat) (s : State),
      s.chip ≠ .off →
      port < 6 →
      s.linkUp port = true →
      (s.port port).spdm = true →
      io = some n →
      s.does (.ideKeyProgramming port io) fun u => (n ∈ (u.port port).ioStreams ∧ (∀ m ∈ (s.port port).ioStreams, m ∈
        (u.port port).ioStreams) ∧ (u.port port).ideKeys = (s.port port).ideKeys) ∧ keepsBut [.ports] s u) ∧
    (∀ (port : Nat) (io : Option Nat) (s : State),
      s.chip ≠ .off →
      port < 6 →
      s.linkUp port = true →
      (s.port port).spdm = true →
      io = none →
      s.does (.ideKeyProgramming port io) fun u => u.port port = { s.port port with ideKeys := true } ∧ u.rd (HPT_IDE.STATE
        port) = 2 ∧ keepsBut [.regs, .ports] s u ∧ keepsWords [(HPT_IDE.STATE port).addr] s u) ∧
    (∀ (port : Nat) (held : Nat) (s : State),
      s.chip ≠ .off →
      port < 6 →
      s.linkUp port = true →
      s.rd (HPT_IDE.STATE port) = 2 →
      s.does (.ideIntegrityFailure port held) fun u => u.rd (HPT_IDE.STATE port) = 3 ∧ u.linkUp port = false ∧ u.rd
        (HPT_IDE.FAILS port) = min (s.rd (HPT_IDE.FAILS port) + 1) (2 ^ (HPT_IDE.FAILS port).width - 1) ∧ keepsBut
        [.regs, .slb, .adm, .stk, .res, .dch, .ports, .job, .gal, .seq, .flt, .fwm, .out, .free] s u) ∧
    (∀ (port code : Nat) (session : Bool) (cdat : Option Nat) (n : Nat) (s : State),
      s.chip ≠ .off →
      port < 6 →
      s.linkUp port = true →
      cdat = some n →
      s.does (.spdmRequest port code session cdat) fun u => u.out = .cdat port n (s.draw (2 ^ 32)).1 :: s.out ∧ u.free =
        s.free + 1 ∧ keepsBut [.out, .free] s u) ∧
    (∀ (port code : Nat) (session : Bool) (cdat : Option Nat) (s : State),
      s.chip ≠ .off →
      port < 6 →
      s.linkUp port = true →
      cdat = none →
      s.does (.spdmRequest port code session cdat) fun u => (u.out = .spdm port code :: s.out ∧ (session = true → (u.port
        port).spdm = true) ∧ (session = true → s.rd (HPT_IDE.STATE port) ≠ 2 → u.rd (HPT_IDE.STATE port) = 1)) ∧
        keepsBut [.regs, .ports, .out] s u ∧ keepsWords [(HPT_IDE.STATE port).addr] s u)

/-- Doorbells of job rings and merged interrupts (R353, R355, R356, R357, R381, R386, R510). Commands: SQ_TAIL_DOORBELL, CQ_HEAD_DOORBELL, RING_INTERRUPT_COALESCE_EXPIRY. -/
def Obligations.RingDoorbells : Prop :=
  (∀ (port ring value : Nat) (bad : Bool) (s1 : State) (s : State),
      s.chip ≠ .off →
      s1 = s.ringErr ring bad →
      s1.hubOn = true →
      s1.linkUp port = true →
      s1.bellOk port ring = true →
      ((value + 65536 - (s1.ring ring).sqHead) % 65536 ≤ (s1.ring ring).size ∨ (s1.ring ring).st ≠ rgEnabled) →
      s.does (.sqTailDoorbell port ring value bad) fun u => (u.ring ring =
        { s1.ring ring with sqTail := value % 65536, pend := true } ∧ ∀ q ∈ List.range 256, q ≠ ring → u.ring q =
        s1.ring q) ∧ keepsBut [.job] s1 u) ∧
    (∀ (port ring value : Nat) (bad : Bool) (s1 : State) (s : State),
      s.chip ≠ .off →
      s1 = s.ringErr ring bad →
      s1.hubOn = true →
      s1.linkUp port = true →
      s1.bellOk port ring = true →
      (s1.ring ring).size < (value + 65536 - (s1.ring ring).sqHead) % 65536 →
      (s1.ring ring).st = rgEnabled →
      s.does (.sqTailDoorbell port ring value bad) fun u => (u.ring ring).st = rgHalted ∧ (u.ring ring).err = 1 ∧ keepsBut
        [.job] s1 u) ∧
    (∀ (port ring value : Nat) (bad : Bool) (s1 : State) (s : State),
      s.chip ≠ .off →
      s1 = s.ringErr ring bad →
      s1.hubOn = true →
      s1.linkUp port = true →
      s1.bellOk port ring = false →
      s.does (.sqTailDoorbell port ring value bad) fun u => u.rd JOB_DB_IGN.COUNT = (s1.rd JOB_DB_IGN.COUNT + 1) % 2 ^
        JOB_DB_IGN.COUNT.width ∧ onlyWords [JOB_DB_IGN.COUNT.addr] s1 u) ∧
    (∀ (port ring value : Nat) (bad : Bool) (s1 : State) (s : State),
      s.chip ≠ .off →
      s1 = s.ringErr ring bad →
      s1.hubOn = true →
      s1.linkUp port = true →
      s1.bellOk port ring = true →
      ((s1.ring ring).cqTail + 65536 - value % 65536) % 65536 ≤ (s1.ring ring).size →
      s.does (.cqHeadDoorbell port ring value bad) fun u => u.ring ring =
        { s1.ring ring with cqHead := value % 65536, pend := true } ∧ keepsBut [.job] s1 u) ∧
    (∀ (port ring value : Nat) (bad : Bool) (s1 : State) (s : State),
      s.chip ≠ .off →
      s1 = s.ringErr ring bad →
      s1.hubOn = true →
      s1.linkUp port = true →
      s1.bellOk port ring = true →
      (s1.ring ring).size < ((s1.ring ring).cqTail + 65536 - value % 65536) % 65536 →
      s.does (.cqHeadDoorbell port ring value bad) fun u => u.ring ring =
        { s1.ring ring with errors := ((s1.ring ring).errors + 1) % 4294967296 } ∧ keepsBut [.job] s1 u) ∧
    (∀ (port ring value : Nat) (bad : Bool) (s : State),
      s.chip ≠ .off →
      bad = true →
      s.hubOn = true →
      ring < 262144 →
      s.does (.sqTailDoorbell port ring value bad) fun u => (u.ring ring) = { Ring.fresh with err := 5 } ∧ u.job.jobs =
        s.job.jobs.filter (fun j => j.ring != ring) ∧ u.flt.raised = s.flt.raised ++ [⟨687, s.tick, false⟩] ∧ keepsBut
        [.regs, .ports, .fwm, .job, .adm, .flt, .out] s u) ∧
    (∀ (port ring value : Nat) (bad : Bool) (s : State),
      s.chip ≠ .off →
      bad = true →
      s.hubOn = true →
      ring < 262144 →
      s.does (.cqHeadDoorbell port ring value bad) fun u => (u.ring ring) = { Ring.fresh with err := 5 } ∧ u.job.jobs =
        s.job.jobs.filter (fun j => j.ring != ring) ∧ u.flt.raised = s.flt.raised ++ [⟨687, s.tick, false⟩] ∧ keepsBut
        [.regs, .ports, .fwm, .job, .adm, .flt, .out] s u) ∧
    (∀ (ring : Nat) (f : Nat) (s : State),
      s.chip ≠ .off →
      (s.ring ring).irqRun = true →
      (s.ring ring).irqDue = true →
      s.ringFace ring = some f →
      s.does (.ringInterruptCoalesceExpiry ring) fun u => u.ring ring = { s.ring ring with irqDue := false } ∧ u.out = .msix
        f (s.ring ring).vector :: s.out ∧ keepsBut [.job, .out] s u) ∧
    (∀ (ring : Nat) (s : State),
      s.chip ≠ .off →
      (s.ring ring).irqRun = true →
      (s.ring ring).irqDue = false →
      s.does (.ringInterruptCoalesceExpiry ring) fun u => u.ring ring = { s.ring ring with irqRun := false } ∧ keepsBut
        [.job] s u)

/-- What the eight jobs do: a line copied, filled, transformed or compared, a sett checkpointed or zeroed, slabs pinned or fetched (R362, R363, R364, R365, R366, R367, R368, R369, R370, R371). Commands: JOB_FILL, JOB_COPY, JOB_TRANSFORM, JOB_VERIFY, JOB_CHECKPOINT, CHECKPOINT_PASS_END, JOB_PIN, JOB_UNPIN, JOB_PREFETCH_RESTORE, JOB_ZERO_FACE. -/
def Obligations.Jobs : Prop :=
  (∀ (ring : Nat) (desc : Nat) (sram : List (Nat × SramErr)) (s1 : State) (f : Nat) (j : Job) (k : Nat) (l : Nat) (s : State),
      s.chip ≠ .off →
      s1 = s.sramAll sram →
      s1.ringFace ring = some f →
      s1.jobsRun ring = true →
      (s1.ringJobs ring).find? (fun j => j.op == 2 && j.fin.isNone) = some j →
      (s1.ringJobs ring).any (fun x => x.parked) = false →
      j.len = 1 →
      j.pos = 0 →
      j.pass = 0 →
      s1.canPay 3 1 false = true →
      j.aux = 0 →
      s1.access f j.dst = some (k, l) →
      s1.settHome k = true →
      (s1.slab (settSlab k)).jobl = false →
      s1.repairOf k l = none →
      s1.mirrors = false →
      s1.dirty k = true →
      l < 1024 →
      (∀ p ∈ faces, s1.pendingTo p k = []) →
      s.does (.jobFill ring desc sram) fun u => u.lineAt k l = fillLine j.arg0 ∧ u.poisoned k l = false ∧ u.job.jobs.any
        (fun x => x.ring == j.ring && x.idx == j.idx && x.fin == some (0, 1, 0)) = true ∧ keepsBut [.regs, .slb, .adm,
        .stk, .res, .dch, .ports, .job, .gal, .seq, .flt, .fwm, .out] s1 u) ∧
    (∀ (ring : Nat) (devs : SMap Nat) (desc : Nat) (sram : List (Nat × SramErr)) (s1 : State) (f : Nat) (j : Job) (k0 : Nat) (l0 : Nat) (k : Nat) (l : Nat) (s : State),
      s.chip ≠ .off →
      s1 = s.sramAll sram →
      s1.ringFace ring = some f →
      s1.jobsRun ring = true →
      (s1.ringJobs ring).find? (fun j => j.op == 1 && j.fin.isNone) = some j →
      (s1.ringJobs ring).any (fun x => x.parked) = false →
      j.len = 1 →
      j.pos = 0 →
      j.pass = 0 →
      s1.canPay 3 1 false = true →
      j.aux = 0 →
      SMap.get 0 0 devs = 0 →
      s1.access f j.src = some (k0, l0) →
      s1.settHome k0 = true →
      s1.repairOf k0 l0 = none →
      (s1.pendingTo f k0).filter (fun e => e.line == l0) = [] →
      s1.poisoned k0 l0 = false →
      s1.dch.hard = [] →
      s1.rankAnswers k0 = true →
      s1.access f j.dst = some (k, l) →
      s1.settHome k = true →
      (s1.slab (settSlab k)).jobl = false →
      s1.repairOf k l = none →
      s1.mirrors = false →
      s1.dirty k = true →
      l < 1024 →
      (∀ p ∈ faces, s1.pendingTo p k = []) →
      s.does (.jobCopy ring devs desc sram) fun u => u.lineAt k l = s1.lineAt k0 l0 ∧ u.poisoned k l = false ∧
        u.job.jobs.any (fun x => x.ring == j.ring && x.idx == j.idx && x.fin == some (0, 1, 0)) = true ∧ keepsBut
        [.regs, .slb, .adm, .stk, .res, .dch, .ports, .job, .gal, .seq, .flt, .fwm, .out] s1 u) ∧
    (∀ (ring : Nat) (bad : List Nat) (devs : SMap Nat) (desc : Nat) (sram : List (Nat × SramErr)) (s1 : State) (f : Nat) (j : Job) (k0 : Nat) (l0 : Nat) (k : Nat) (l : Nat) (s : State),
      s.chip ≠ .off →
      s1 = s.sramAll sram →
      s1.ringFace ring = some f →
      s1.jobsRun ring = true →
      (s1.ringJobs ring).find? (fun j => j.op == 6 && j.fin.isNone) = some j →
      (s1.ringJobs ring).any (fun x => x.parked) = false →
      j.len = 1 →
      j.pos = 0 →
      j.pass = 0 →
      s1.canPay 3 1 false = true →
      j.gcm = false →
      bad.contains 0 = false →
      SMap.get 0 0 devs = 0 →
      (List.range 12).any s1.pairServes = true →
      s1.txSlot j.slot f = true →
      s1.access f j.src = some (k0, l0) →
      s1.settHome k0 = true →
      s1.repairOf k0 l0 = none →
      (s1.pendingTo f k0).filter (fun e => e.line == l0) = [] →
      s1.poisoned k0 l0 = false →
      s1.dch.hard = [] →
      s1.rankAnswers k0 = true →
      s1.access f j.dst = some (k, l) →
      s1.settHome k = true →
      (s1.slab (settSlab k)).jobl = false →
      s1.repairOf k l = none →
      s1.mirrors = false →
      s1.dirty k = true →
      l < 1024 →
      (∀ p ∈ faces, s1.pendingTo p k = []) →
      s.does (.jobTransform ring bad devs desc sram) fun u => u.lineAt k l = (cryptLine (s1.slotKey j.slot)
        { j with pass := 1 } (s1.lineAt k0 l0)).1 ∧ u.poisoned k l = false ∧ u.job.jobs.any (fun x => x.ring == j.ring
        && x.idx == j.idx && x.fin == some (0, 1, 0)) = true ∧ keepsBut [.regs, .chip, .bed, .svy, .slb, .lgr, .adm,
        .haul, .save, .stk, .res, .dch, .ports, .job, .cip, .gal, .seq, .clk, .flt, .clg, .twb, .fwm, .pin, .out] s1 u) ∧
    (∀ (ring : Nat) (src : SMap Nat) (dst : SMap Nat) (desc : Nat) (sram : List (Nat × SramErr)) (s1 : State) (f : Nat) (j : Job) (k0 : Nat) (l0 : Nat) (k : Nat) (l : Nat) (s : State),
      s.chip ≠ .off →
      s1 = s.sramAll sram →
      s1.ringFace ring = some f →
      s1.jobsRun ring = true →
      (s1.ringJobs ring).find? (fun j => j.op == 7 && j.fin.isNone) = some j →
      (s1.ringJobs ring).any (fun x => x.parked) = false →
      j.len = 1 →
      j.pos = 0 →
      j.pass = 0 →
      s1.canPay 3 1 false = true →
      SMap.get 0 0 src = 0 →
      SMap.get 0 0 dst = 0 →
      s1.access f j.src = some (k0, l0) →
      s1.settHome k0 = true →
      s1.repairOf k0 l0 = none →
      (s1.pendingTo f k0).filter (fun e => e.line == l0) = [] →
      s1.poisoned k0 l0 = false →
      s1.dch.hard = [] →
      s1.rankAnswers k0 = true →
      s1.rankAnswers k = true →
      s1.access f j.dst = some (k, l) →
      s1.settHome k = true →
      s1.repairOf k l = none →
      (s1.pendingTo f k).filter (fun e => e.line == l) = [] →
      s1.poisoned k l = false →
      s.does (.jobVerify ring src dst desc sram) fun u => (u.dch.mem = s1.dch.mem ∧ u.dch.poison = s1.dch.poison ∧
        (s1.lineAt k0 l0 = s1.lineAt k l → u.job.jobs.any (fun x => x.ring == j.ring && x.idx == j.idx && x.fin ==
        some (0, 1, 0)) = true) ∧ (s1.lineAt k0 l0 ≠ s1.lineAt k l → u.job.jobs.any (fun x => x.ring == j.ring &&
        x.idx == j.idx && x.fin == some (4, 0, 0)) = true)) ∧ keepsBut [.regs, .slb, .stk, .res, .dch, .ports, .job,
        .flt, .out] s1 u) ∧
    (∀ (ring : Nat) (desc : Nat) (sram : List (Nat × SramErr)) (s1 : State) (f : Nat) (j : Job) (k : Nat) (s : State),
      s.chip ≠ .off →
      s1 = s.sramAll sram →
      s1.ringFace ring = some f →
      s1.jobsRun ring = true →
      (s1.ringJobs ring).find? (fun j => j.op == 3 && j.fin.isNone) = some j →
      (s1.ringJobs ring).any (fun x => x.parked) = false →
      s1.rangeSetts f j.src j.len = [some k] →
      j.pos = 0 →
      j.pass = 0 →
      s1.canPay 3 1 false = true →
      s1.dirty k = true →
      s1.haulOf k = none →
      (s1.slab (settSlab k)).rstate = 0 →
      (s1.settSlot k).isSome = true →
      s1.ckptWear = true →
      s1.slb.ift.length < 8192 →
      s.does (.jobCheckpoint ring desc sram) fun u => u.slb.ift.map (fun h => (h.sett, h.sump, h.ckpt)) = s1.slb.ift.map
        (fun h => (h.sett, h.sump, h.ckpt)) ++ [(k, false, true)] ∧ u.job.jobs.any (fun x => x.ring == j.ring && x.idx
        == j.idx && x.pos == 1 && x.aux == j.aux + 1) = true ∧ u.dirty k = true ∧ keepsBut [.regs, .slb, .stk, .res,
        .dch, .ports, .job, .flt, .out] s1 u) ∧
    (∀ (ring tag : Nat) (f : Nat) (j : Job) (s : State),
      s.chip ≠ .off →
      s.ringFace ring = some f →
      s.jobsRun ring = true →
      (s.ringJobs ring).find? (fun j => j.op == 3 && j.tag == tag && j.fin.isNone) = some j →
      ((s.rangeSetts f j.src j.len).filterMap id).length ≤ j.pos →
      ((s.rangeSetts f j.src j.len).filterMap id).all (fun k => (s.haulOf k).isNone && !s.dirty k) = true →
      s.does (.checkpointPassEnd ring tag) fun u => u.job.jobs.any (fun x => x.ring == j.ring && x.idx == j.idx && x.fin ==
        some (0, j.len, j.aux)) = true ∧ keepsBut [.job] s u) ∧
    (∀ (ring tag : Nat) (f : Nat) (j : Job) (n : Nat) (s : State),
      s.chip ≠ .off →
      s.ringFace ring = some f →
      s.jobsRun ring = true →
      (s.ringJobs ring).find? (fun j => j.op == 3 && j.tag == tag && j.fin.isNone) = some j →
      ((s.rangeSetts f j.src j.len).filterMap id).length ≤ j.pos →
      ((s.rangeSetts f j.src j.len).filterMap id).any (fun k => (s.haulOf k).isSome) = false →
      s.dirtyOf ((s.rangeSetts f j.src j.len).filterMap id) = n →
      0 < n →
      Nat.max 1 (s.rd JOB_CKPT.PASSES) ≤ j.pass + 1 →
      s.does (.checkpointPassEnd ring tag) fun u => u.job.jobs.any (fun x => x.ring == j.ring && x.idx == j.idx && x.fin ==
        some (12, j.len, n)) = true ∧ keepsBut [.job] s u) ∧
    (∀ (ring : Nat) (desc : Nat) (sram : List (Nat × SramErr)) (s1 : State) (f : Nat) (j : Job) (s : State),
      s.chip ≠ .off →
      s1 = s.sramAll sram →
      s1.ringFace ring = some f →
      s1.jobsRun ring = true →
      (s1.ringJobs ring).find? (fun j => (j.op == 4 && !bitAt 0 j.arg0) && j.fin.isNone) = some j →
      (s1.ringJobs ring).any (fun x => x.parked) = false →
      s1.rangeStop f j.src j.len = none →
      s1.pinned + ((s1.rangeSlabs f j.src j.len).filter (fun i => !(s1.slab i).pin)).length ≤ s1.rd JOB_PINCFG.MAX_SLABS →
      s1.job.pins.length < 4096 →
      s.does (.jobPin ring desc sram) fun u => (u.job.pins = s1.job.pins ++ [Pin.mk f j.src j.len (s1.rangeSlabs f j.src
        j.len)] ∧ (∀ i ∈ s1.rangeSlabs f j.src j.len, (u.slab i).pin = true) ∧ u.job.jobs.any (fun x => x.ring ==
        j.ring && x.idx == j.idx && x.fin == some (0, j.len, 0)) = true) ∧ keepsBut [.slb, .job] s1 u) ∧
    (∀ (ring : Nat) (desc : Nat) (sram : List (Nat × SramErr)) (s1 : State) (f : Nat) (j : Job) (s : State),
      s.chip ≠ .off →
      s1 = s.sramAll sram →
      s1.ringFace ring = some f →
      s1.jobsRun ring = true →
      (s1.ringJobs ring).find? (fun j => (j.op == 4 && !bitAt 0 j.arg0) && j.fin.isNone) = some j →
      (s1.ringJobs ring).any (fun x => x.parked) = false →
      s1.rangeStop f j.src j.len = none →
      s1.rd JOB_PINCFG.MAX_SLABS < s1.pinned + ((s1.rangeSlabs f j.src j.len).filter (fun i => !(s1.slab i).pin)).length →
      s.does (.jobPin ring desc sram) fun u => u.job.pins = s1.job.pins ∧ u.job.jobs.any (fun x => x.ring == j.ring && x.idx
        == j.idx && x.fin == some (10, 0, 0)) = true ∧ keepsBut [.job] s1 u) ∧
    (∀ (ring : Nat) (desc : Nat) (sram : List (Nat × SramErr)) (s1 : State) (f : Nat) (j : Job) (p : Pin) (s : State),
      s.chip ≠ .off →
      s1 = s.sramAll sram →
      s1.ringFace ring = some f →
      s1.jobsRun ring = true →
      (s1.ringJobs ring).find? (fun j => (j.op == 4 && bitAt 0 j.arg0) && j.fin.isNone) = some j →
      (s1.ringJobs ring).any (fun x => x.parked) = false →
      s1.job.pins = [p] →
      p.names f j.src j.len = true →
      s.does (.jobUnpin ring desc sram) fun u => (u.job.pins = [] ∧ (∀ i ∈ p.slabs, (u.slab i).pin = false) ∧ u.job.jobs.any
        (fun x => x.ring == j.ring && x.idx == j.idx && x.fin == some (0, j.len, 0)) = true) ∧ keepsBut [.slb, .job]
        s1 u) ∧
    (∀ (ring : Nat) (desc : Nat) (sram : List (Nat × SramErr)) (s1 : State) (f : Nat) (j : Job) (p : Pin) (s : State),
      s.chip ≠ .off →
      s1 = s.sramAll sram →
      s1.ringFace ring = some f →
      s1.jobsRun ring = true →
      (s1.ringJobs ring).find? (fun j => (j.op == 4 && bitAt 0 j.arg0) && j.fin.isNone) = some j →
      (s1.ringJobs ring).any (fun x => x.parked) = false →
      s1.job.pins = [p, p] →
      p.names f j.src j.len = true →
      p.slabs ≠ [] →
      s.does (.jobUnpin ring desc sram) fun u => u.job.pins = [p] ∧ u.slb = s1.slb ∧ u.job.jobs.any (fun x => x.ring ==
        j.ring && x.idx == j.idx && x.fin == some (0, j.len, 0)) = true ∧ keepsBut [.job] s1 u) ∧
    (∀ (ring : Nat) (desc : Nat) (sram : List (Nat × SramErr)) (s1 : State) (f : Nat) (j : Job) (s : State),
      s.chip ≠ .off →
      s1 = s.sramAll sram →
      s1.ringFace ring = some f →
      s1.jobsRun ring = true →
      (s1.ringJobs ring).find? (fun j => (j.op == 4 && bitAt 0 j.arg0) && j.fin.isNone) = some j →
      (s1.ringJobs ring).any (fun x => x.parked) = false →
      s1.job.pins.any (fun p => p.names f j.src j.len) = false →
      s.does (.jobUnpin ring desc sram) fun u => u.slb = s1.slb ∧ u.job.jobs.any (fun x => x.ring == j.ring && x.idx ==
        j.idx && x.fin == some (11, 0, 0)) = true ∧ keepsBut [.job] s1 u) ∧
    (∀ (ring : Nat) (desc : Nat) (sram : List (Nat × SramErr)) (s1 : State) (f : Nat) (j : Job) (s : State),
      s.chip ≠ .off →
      s1 = s.sramAll sram →
      s1.ringFace ring = some f →
      s1.jobsRun ring = true →
      (s1.ringJobs ring).find? (fun j => j.op == 5 && j.fin.isNone) = some j →
      (s1.ringJobs ring).any (fun x => x.parked) = false →
      s1.rangeStop f j.src j.len = none →
      (s1.rangeSlabs f j.src j.len).all (fun i => (s1.slab i).rstate == 0) = true →
      s.does (.jobPrefetchRestore ring desc sram) fun u => u.job.jobs.any (fun x => x.ring == j.ring && x.idx == j.idx &&
        x.fin == some (0, j.len, 0)) = true ∧ keepsBut [.job] s1 u) ∧
    (∀ (ring : Nat) (desc : Nat) (sram : List (Nat × SramErr)) (s1 : State) (f : Nat) (j : Job) (i : Nat) (s : State),
      s.chip ≠ .off →
      s1 = s.sramAll sram →
      s1.ringFace ring = some f →
      s1.jobsRun ring = true →
      (s1.ringJobs ring).find? (fun j => j.op == 5 && j.fin.isNone) = some j →
      (s1.ringJobs ring).any (fun x => x.parked) = false →
      s1.rangeStop f j.src j.len = none →
      s1.rangeSlabs f j.src j.len = [i] →
      (s1.slab i).rstate = 1 →
      s.does (.jobPrefetchRestore ring desc sram) fun u => u.res.prefetch.contains i = true ∧ u.slb = s1.slb ∧ keepsBut
        [.res, .job] s1 u) ∧
    (∀ (ring : Nat) (desc : Nat) (sram : List (Nat × SramErr)) (s1 : State) (f : Nat) (j : Job) (i : Nat) (s : State),
      s.chip ≠ .off →
      s1 = s.sramAll sram →
      s1.ringFace ring = some f →
      s1.jobsRun ring = true →
      (s1.ringJobs ring).find? (fun j => j.op == 8 && j.fin.isNone) = some j →
      (s1.ringJobs ring).any (fun x => x.parked) = false →
      0 < j.pass →
      j.slabs = [i] →
      (s1.slab i).owner = f →
      j.pos = 63 →
      (s1.slab i).rstate = 0 →
      s1.haulOf (i * 64 + 63) = none →
      s1.canPay 3 1 false = true →
      s1.ctrlWaits 3 f = false →
      (∀ p ∈ faces, (s1.port p).wbuf = [] ∧ (s1.port p).reads = []) →
      s1.adm.jobq = [] →
      s.does (.jobZeroFace ring desc sram) fun u => u.settState (i * 64 + 63) = .zero ∧ u.settData (i * 64 + 63) = [] ∧
        (u.port f).poison = [] ∧ u.job.pins.all (fun p => p.face != f) = true ∧ u.job.jobs.any (fun x => x.ring ==
        j.ring && x.idx == j.idx && x.fin == some (0, 0, 0)) = true ∧ keepsBut [.regs, .slb, .adm, .stk, .res, .dch,
        .ports, .job, .gal, .seq, .flt, .fwm, .out, .free] s1 u) ∧
    (∀ (ring : Nat) (desc : Nat) (sram : List (Nat × SramErr)) (s1 : State) (f : Nat) (d : Line) (s : State),
      s.chip ≠ .off →
      s1 = s.sramAll sram →
      s1.ringFace ring = some f →
      s1.jobsRun ring = true →
      s1.ringJobs ring = [] →
      s1.mayStart ring = true →
      (s1.access f ((s1.ring ring).cqAddr (s1.ring ring).sqHead)).isSome = true →
      (s1.jobRead f ((s1.ring ring).sqAddr (s1.ring ring).sqHead) desc).2 = .data d →
      8 < bitsOf 0 8 d.toNat →
      s.does (.jobFill ring desc sram) fun u => u.job.jobs = s1.job.jobs ++
        [{ jobOf ring (s1.ring ring).sqHead d with fin := some (1, 0, 0) }] ∧ (u.ring ring).sqHead = ((s1.ring
        ring).sqHead + 1) % 65536 ∧ keepsBut [.regs, .slb, .adm, .stk, .res, .dch, .ports, .job, .gal, .seq, .flt,
        .fwm, .out] s1 u)

/-- The ledger update publishes the ceiling and the thresholds; reports, scans, gauges and packs (R129, R131, R133, R134, R138, R142, R143, R147, R148, R161). Commands: LEDGER_UPDATE, LEDGER_EXTRA_UPDATE, ADMISSION_REPORT_INTERVAL_END, ADC_SCAN. -/
def Obligations.LedgerUpdates : Prop :=
  (∀ (inp : LedgerIn) (s : State),
      s.chip ≠ .off →
      s.tick % 32 = 0 →
      s.ledgerParams = true →
      s.clk.tripSeen = false →
      s.does (.ledgerUpdate inp) fun u => u.rd LGR_UPD.COUNT = (s.rd LGR_UPD.COUNT + 1) % 2 ^ LGR_UPD.COUNT.width ∧ u.rd
        LGR_CEIL.SETTS = min (u.rd LGR_NE.SETTS) (u.rd LGR_SUMP.FREE) ∧ u.rd LGR_TA.SETTS = frac (u.rd LGR_CEIL.SETTS)
        (s.sv LEDGER.PEARL_MAX) ∧ u.rd LGR_TV.SETTS = frac (u.rd LGR_CEIL.SETTS) (s.sv LEDGER.VERM_MIN) ∧ u.rd
        LGR_TH.SETTS = frac (u.rd LGR_CEIL.SETTS) (s.sv LEDGER.HAUL_TARGET) ∧ u.rd LGR_HYS.SETTS = frac (u.rd
        LGR_CEIL.SETTS) (s.sv LEDGER.HYST) ∧ u.rd LGR_STATUS.SUMP_BOUND = (if s.sumpReport ≤ ceilMax ∧ u.rd
        LGR_SUMP.FREE ≤ u.rd LGR_NE.SETTS then 1 else 0) ∧ u.margin = s.margin ∧ u.slb = s.slb ∧ keepsBut [.regs,
        .tick, .chip, .bed, .svy, .slb, .lgr, .adm, .haul, .save, .stk, .res, .dch, .ports, .job, .cip, .gal, .seq,
        .clk, .flt, .clg, .twb, .fwm, .pin, .out, .free] s u) ∧
    (∀ (inp : LedgerIn) (s : State),
      s.chip ≠ .off →
      s.tick % 32 = 0 →
      s.ledgerParams = false →
      s.clk.tripSeen = false →
      s.does (.ledgerUpdate inp) fun u => u.rd LGR_UPD.COUNT = (s.rd LGR_UPD.COUNT + 1) % 2 ^ LGR_UPD.COUNT.width ∧ u.rd
        LGR_CEIL.SETTS = s.rd LGR_CEIL.SETTS ∧ u.rd LGR_NE.SETTS = s.rd LGR_NE.SETTS ∧ keepsBut [.regs, .tick, .chip,
        .bed, .svy, .slb, .lgr, .adm, .haul, .save, .stk, .res, .dch, .ports, .job, .cip, .gal, .seq, .clk, .flt,
        .clg, .twb, .fwm, .pin, .out, .free] s u) ∧
    (∀ (s : State),
      s.chip ≠ .off →
      s.lgr.extra = true →
      s.ledgerParams = true →
      s.does (.ledgerExtraUpdate) fun u => u.rd LGR_UPD.COUNT = (s.rd LGR_UPD.COUNT + 1) % 2 ^ LGR_UPD.COUNT.width ∧ u.rd
        LGR_CEIL.SETTS = min (u.rd LGR_NE.SETTS) (u.rd LGR_SUMP.FREE) ∧ u.rd LGR_TA.SETTS = frac (u.rd LGR_CEIL.SETTS)
        (s.sv LEDGER.PEARL_MAX) ∧ u.rd LGR_TV.SETTS = frac (u.rd LGR_CEIL.SETTS) (s.sv LEDGER.VERM_MIN) ∧ u.rd
        LGR_TH.SETTS = frac (u.rd LGR_CEIL.SETTS) (s.sv LEDGER.HAUL_TARGET) ∧ u.rd LGR_HYS.SETTS = frac (u.rd
        LGR_CEIL.SETTS) (s.sv LEDGER.HYST) ∧ u.rd LGR_STATUS.SUMP_BOUND = (if s.sumpReport ≤ ceilMax ∧ u.rd
        LGR_SUMP.FREE ≤ u.rd LGR_NE.SETTS then 1 else 0) ∧ u.lgr.extra = false ∧ keepsBut [.regs, .tick, .chip, .lgr,
        .seq, .flt, .clg, .twb] s u) ∧
    (∀ (s : State),
      s.chip ≠ .off →
      s.lgr.extra = false →
      s.does (.ledgerExtraUpdate) fun u => u = s) ∧
    (∀ (face : Nat) (l : EvLog) (s : State),
      s.chip ≠ .off →
      SMap.get false face s.adm.repDue = true →
      SMap.get 0 face s.adm.repTick + 32767 ≤ s.tick →
      (s.port face).logs[0]? = some l →
      l.recs.length < 256 →
      s.does (.admissionReportIntervalEnd face) fun u => u.adm =
        { s.adm with repTick := SMap.put 0 face (s.tick + 1) s.adm.repTick, repDue := SMap.put false face false s.adm.repDue }
        ∧ (u.port face).logs[0]? = some
        { l with recs := l.recs ++ [⟨l.next, .vendor 1 s.admMargin.code (s.rd (SLB_FDIRTY.SETTS face)) (s.rd LGR_CEIL.SETTS) 0 s.tick⟩], next := (l.next + 1) % 65536 }
        ∧ keepsBut [.adm, .ports, .out] s u) ∧
    (∀ (inp : ScanIn) (s : State),
      s.chip ≠ .off →
      s.rd SEQ_EN.RAILS = 0 →
      s.seq.stage = .idle →
      s.rd (LGR_PSTAT.STATE 0) = pkAbsent →
      s.rd (LGR_PSTAT.STATE 1) = pkAbsent →
      s.lgr.packA.hiScans < 7 →
      s.lgr.packB.hiScans < 7 →
      s.rd SEQ_STRAP.BSET ≠ 3 →
      s.does (.adcScan inp) fun u => ((∀ i ∈ List.range 48, u.rd (SEQ_ADC.CODE i) = inp.codes.getD i 0 % 2 ^ (SEQ_ADC.CODE
        i).width) ∧ u.rd SEQ_PG.RAW = inp.pg % 2 ^ SEQ_PG.RAW.width ∧ u.rd SEQ_SCAN.COUNT = (s.rd SEQ_SCAN.COUNT + 1)
        % 2 ^ SEQ_SCAN.COUNT.width ∧ u.rd SEQ_STATUS.SYNC_LINE = (if inp.sync then 1 else 0) ∧ u.rd SEQ_STATUS.SEQ_UP
        = (if inp.up then 1 else 0)) ∧ keepsBut [.regs, .seq, .lgr, .clg, .free] s u)

/-- Gauge readings and what ends a pack, removal, wear days and temperature sensors (R126, R129, R131, R133, R146, R147, R148, R171, R175, R557). Commands: GAUGE_READ, PACK_STALE, PACK_NO_ANSWER, ESR_STALE, LGR_REMOVE_REQUEST, LGR_REMOVE_CANCEL, WEAR_DAY_BOUNDARY, SENSOR_READ, SENSOR_STALE. -/
def Obligations.PackCommands : Prop :=
  (∀ (pack : Nat) (ans : Option GaugeIn) (g : GaugeIn) (s : State),
      s.chip ≠ .off →
      pack < 2 →
      s.ledgerParams = true →
      s.rd (LGR_PSTAT.STATE pack) = pkQualifying →
      ans = some g →
      (s.takeGauge pack g).gaugeCause pack g = none →
      (s.pack pack).valid < 9 →
      s.does (.gaugeRead pack ans) fun u => (u.pack pack).valid = (s.pack pack).valid + 1 ∧ (u.pack pack).debit = 0 ∧
        (u.pack pack).gaugeMv = g.mv ∧ (u.pack pack).gaugeTick = s.tick ∧ (u.pack pack).ebase = min (quot (s.sv
        (LEDGER.EBOL pack) * g.rc) g.dc) (s.sv (LEDGER.EBOL pack)) ∧ u.rd (LGR_PSTAT.STATE pack) = pkQualifying ∧
        keepsBut [.regs, .lgr, .flt] s u) ∧
    (∀ (pack : Nat) (ans : Option GaugeIn) (g : GaugeIn) (s : State),
      s.chip ≠ .off →
      pack < 2 →
      s.ledgerParams = true →
      s.rd (LGR_PSTAT.STATE pack) = pkQualifying →
      ans = some g →
      (s.takeGauge pack g).gaugeCause pack g = none →
      9 ≤ (s.pack pack).valid →
      s.does (.gaugeRead pack ans) fun u => u.rd (LGR_PSTAT.STATE pack) = pkCounted ∧ (u.pack pack).debit = 0 ∧ keepsBut
        [.regs, .tick, .chip, .lgr, .seq, .flt, .clg, .twb] s u) ∧
    (∀ (pack : Nat) (ans : Option GaugeIn) (s : State),
      s.chip ≠ .off →
      pack < 2 →
      s.ledgerParams = true →
      s.rd (LGR_PSTAT.STATE pack) ≠ pkAbsent →
      ans = none →
      s.does (.gaugeRead pack ans) fun u => raisedIn (661 + 2 * pack) false s u ∧ (u.pack pack) =
        { s.pack pack with valid := 0 } ∧ keepsBut [.regs, .lgr, .flt] s u ∧ keepsWords [(evsBit (661 + 2 *
        pack)).1.addr] s u) ∧
    (∀ (pack : Nat) (s : State),
      s.chip ≠ .off →
      pack < 2 →
      s.packLive pack = true →
      (s.pack pack).gaugeTick + 60 * 32768 ≤ s.tick →
      s.does (.packStale pack) fun u => u.rd (LGR_PSTAT.STATE pack) = pkFailed ∧ u.rd (LGR_PSTAT.CAUSE pack) = 8 ∧ keepsBut
        [.regs, .tick, .chip, .seq, .flt, .clg, .twb] s u) ∧
    (∀ (pack : Nat) (s : State),
      s.chip ≠ .off →
      pack < 2 →
      s.rd (LGR_PSTAT.STATE pack) = pkCounted →
      (s.pack pack).gaugeTick + 10 * 32768 ≤ s.tick →
      s.does (.packNoAnswer pack) fun u => raisedIn 585 false s u ∧ keepsBut [.regs, .flt] s u ∧ keepsWords
        [LGR_EVS.STATUS.addr] s u) ∧
    (∀ (pack : Nat) (s : State),
      s.chip ≠ .off →
      pack < 2 →
      (s.pack pack).esr ≠ [] →
      (s.pack pack).esrTick + 604800 * 32768 ≤ s.tick →
      s.on (LGR_PSTAT.ESR_STALE pack) = false →
      s.does (.esrStale pack) fun u => u.rd (LGR_PSTAT.ESR_STALE pack) = 1 ∧ raisedIn (577 + 2 * pack) false s u ∧ keepsBut
        [.regs, .flt] s u ∧ keepsWords [(LGR_PSTAT.ESR_STALE pack).addr, LGR_EVS.STATUS.addr] s u) ∧
    (∀ (pack : Nat) (s : State),
      s.chip ≠ .off →
      pack < 2 →
      s.rd (LGR_PSTAT.STATE (1 - pack)) = pkCounted →
      s.on (removeBit (1 - pack)) = false →
      s.does (.lgrRemoveRequest pack) fun u => u.rd (removeBit pack) = 1 ∧ u.rd LGR_PACK_CTL.RESULT = 0 ∧ u.rd (removeBit (1
        - pack)) = 0 ∧ onlyWords [LGR_PACK_CTL.REMOVE_A.addr] s u) ∧
    (∀ (pack : Nat) (s : State),
      s.chip ≠ .off →
      pack < 2 →
      s.rd (LGR_PSTAT.STATE (1 - pack)) ≠ pkCounted →
      s.does (.lgrRemoveRequest pack) fun u => u.rd (removeBit pack) = s.rd (removeBit pack) ∧ u.rd LGR_PACK_CTL.RESULT = 1
        ∧ onlyWords [LGR_PACK_CTL.REMOVE_A.addr] s u) ∧
    (∀ (pack : Nat) (s : State),
      s.chip ≠ .off →
      pack < 2 →
      s.on (removeBit pack) = true →
      s.does (.lgrRemoveCancel pack) fun u => u.rd (removeBit pack) = 0 ∧ u.rd LGR_PACK_CTL.RESULT = 0 ∧ u.rd (removeBit (1
        - pack)) = s.rd (removeBit (1 - pack)) ∧ onlyWords [LGR_PACK_CTL.REMOVE_A.addr] s u) ∧
    (∀ (s : State),
      s.chip ≠ .off →
      s.does (.wearDayBoundary) fun u => (u.rd ADM_WEAR_LAST.MIB = s.rd ADM_WEAR_SPENT.MIB ∧ u.rd ADM_WEAR_SPENT.MIB = 0 ∧
        u.rd ADM_WEAR_HAUL.MIB = 0 ∧ u.rd ADM_WEAR_DAYS.DAY = s.tick / dayTicks % 2 ^ ADM_WEAR_DAYS.DAY.width ∧ (s.rd
        ADM_WEAR_BUD.MIB < s.rd ADM_WEAR_SPENT.MIB → raisedIn 584 false s u) ∧ (s.rd ADM_WEAR_SPENT.MIB ≤ s.rd
        ADM_WEAR_BUD.MIB → u.flt = s.flt)) ∧ keepsBut [.regs, .adm, .flt, .clg] s u) ∧
    (∀ (port sensor : Nat) (raw : Option Nat) (w : Nat) (s : State),
      s.chip ≠ .off →
      (port = 3 ∨ port = 4) →
      sensor < 32 →
      s.twLive port = true →
      s.on (TWB_SENS.VALID port sensor) = true →
      raw = some w →
      s.does (.sensorRead port sensor raw) fun u => u.rd (TWB_SENS.TEMP port sensor) = bitsOf 2 11 w % 2 ^ (TWB_SENS.TEMP
        port sensor).width ∧ u.rd (TWB_SENS.STALE port sensor) = 0 ∧ SMap.get 0 (port * 32 + sensor) u.twb.sensTick =
        s.tick + 1 ∧ keepsBut [.regs, .clg, .twb] s u ∧ keepsWords [(TWB_SENS.TEMP port sensor).addr] s u) ∧
    (∀ (port sensor : Nat) (raw : Option Nat) (s : State),
      s.chip ≠ .off →
      (port = 3 ∨ port = 4) →
      sensor < 32 →
      s.twLive port = true →
      s.on (TWB_SENS.VALID port sensor) = true →
      raw = none →
      s.does (.sensorRead port sensor raw) fun u => raisedIn (659 + 2 * port) false s u ∧ u.rd (TWB_CNT.NACKS port) = min
        (s.rd (TWB_CNT.NACKS port) + 1) (2 ^ (TWB_CNT.NACKS port).width - 1) ∧ keepsBut [.regs, .flt] s u ∧ keepsWords
        [(TWB_CNT.NACKS port).addr, (evsBit (659 + 2 * port)).1.addr] s u) ∧
    (∀ (port sensor : Nat) (s : State),
      s.chip ≠ .off →
      (port = 3 ∨ port = 4) →
      sensor < 32 →
      s.on (TWB_SENS.VALID port sensor) = true →
      s.on (TWB_SENS.STALE port sensor) = false →
      SMap.get 0 (port * 32 + sensor) s.twb.sensTick + 65536 ≤ s.tick + 1 →
      s.does (.sensorStale port sensor) fun u => u.rd (TWB_SENS.STALE port sensor) = 1 ∧ raisedIn (659 + 2 * port) false s u
        ∧ keepsBut [.regs, .flt] s u ∧ keepsWords [(TWB_SENS.TEMP port sensor).addr, (evsBit (659 + 2 * port)).1.addr]
        s u)

/-- Hauls are selected, read, encrypted, paired into stripes and ended (R104, R105, R107, R176, R178, R182, R183, R184, R185, R188, R189, R412, R413, R485, R510). Commands: HAUL_SELECT, HAUL_DRAM_READ_DONE, HAUL_PAD_WAIT_EXPIRY, CIPHER_PAGE_DONE, KAT_COMPLETE, STRIPE_PROGRAM_DONE, STRIPE_PROGRAM_FAIL, WORDLINE_PAD_TIMEOUT, PFW_ASSERT, PFW_RELEASE, PFW_MAX_EXPIRY. -/
def Obligations.HaulCommands : Prop :=
  (∀ (sram : List (Nat × SramErr)) (haul : Nat) (s1 : State) (k : Nat) (s : State),
      s.chip ≠ .off →
      s1 = (s.sramAll sram).haulErr haul →
      s1.haulRuns = true →
      s1.haul.started < s1.rd HAUL_RATE.QUOTA →
      s1.slb.ift.length < 8192 →
      s1.canPay 1 1 s1.overRate = true →
      groups.any (fun g => s1.canTake g s1.sumpDest) = true →
      s1.haul.bank < 36 →
      (s1.sweep s1.haul.bank (s1.rd HAUL_STATUS.LCLASS)).1 = some k →
      s.does (.haulSelect sram haul) fun u => u.slb.ift.map (fun h => h.sett) = s1.slb.ift.map (fun h => h.sett) ++ [k] ∧
        u.haul.started = s1.haul.started + 1 ∧ u.haul.bank = (s1.haul.bank + 1) % 36 ∧ u.dirty k = s1.dirty k ∧ u.rd
        ADM_DIRTY.SETTS = s1.rd ADM_DIRTY.SETTS ∧ keepsBut [.regs, .slb, .haul] s1 u) ∧
    (∀ (sram : List (Nat × SramErr)) (haul : Nat) (s : State),
      s.chip ≠ .off →
      s.hubOn = true →
      haul ≠ 0 →
      sram = [] →
      s.does (.haulSelect sram haul) fun u => u.flt.raised = s.flt.raised ++ [⟨686, s.tick, haul == 2⟩] ∧ keepsBut [.regs,
        .slb, .haul, .flt] s u) ∧
    (∀ (sett : Nat) (devs : SMap Nat) (h : Haul) (k : Nat) (s : State),
      s.chip ≠ .off →
      s.haulOf sett = some h →
      h.stage = 0 →
      devs = [] →
      s.dch.hard = [] →
      s.rankAnswers sett = true →
      s.dch.repairs = [] →
      s.settData sett ≠ [] →
      groups.any (fun g => s.canTake g h.sump) = true →
      s.settSlot sett = some k →
      s.mayEncrypt k false = true →
      s.does (.haulDramReadDone sett devs) fun u => u.haulOf sett = some
        { h with stage := 1, key := k, keyVal := s.slotKey k, data := s.settData sett, poison := s.settPoison sett } ∧
        u.dirty sett = s.dirty sett ∧ u.dch.mem = s.dch.mem ∧ keepsBut [.regs, .slb, .haul, .stk, .dch, .ports, .job,
        .flt, .out] s u) ∧
    (∀ (sett : Nat) (devs : SMap Nat) (h : Haul) (s : State),
      s.chip ≠ .off →
      s.haulOf sett = some h →
      h.stage = 0 →
      devs = [] →
      s.dch.hard = [] →
      s.rankAnswers sett = true →
      s.dch.repairs = [] →
      s.settData sett = [] →
      s.settPoison sett = 0 →
      s.does (.haulDramReadDone sett devs) fun u => u.haulOf sett = some { h with stage := 3, newloc := 0 } ∧ u.loc sett =
        s.loc sett ∧ u.dirty sett = s.dirty sett ∧ keepsBut [.regs, .slb, .haul, .stk, .dch, .ports, .job, .flt, .out]
        s u) ∧
    (∀ (k : Nat) (h : Haul) (g : Nat) (s : State),
      s.chip ≠ .off →
      s.haul.pfw = false →
      s.haul.waitStk = [k] →
      s.haul.waitSump = [] →
      s.haulOf k = some h →
      h.sump = false →
      h.ready + Nat.max 1 (s.rd HAUL_SAVE_CFG.PAD_WAIT) ≤ s.tick →
      s.nextGroup false = some g →
      s.mayIssue g false = true →
      s.does (.haulPadWaitExpiry) fun u => u.haul.waitStk = [] ∧ u.haul.stripes.any (fun x => x.a == some k && x.b.isNone &&
        x.kind == 0 && x.group == g && (x.recB.map (fun y => y.typ)).getD 7 == 7) = true ∧ (u.haulOf k).map (fun x =>
        (x.stage, x.stripe)) = some (2, s.haul.nextStripe + 1) ∧ u.rd HAUL_CNT_PAD.COUNT = (s.rd HAUL_CNT_PAD.COUNT +
        1) % 2 ^ (HAUL_CNT_PAD.COUNT).width ∧ keepsBut [.regs, .slb, .adm, .haul, .stk, .cip, .seq, .flt] s u) ∧
    (∀ (sett pair : Nat) (agree : Bool) (h : Haul) (s : State),
      s.chip ≠ .off →
      s.haulOf sett = some h →
      h.stage = 1 →
      h.pages < 3 →
      pair < 12 →
      s.pairServes pair = true →
      agree = true →
      s.mayEncrypt h.key false = true →
      h.key < 64 →
      s.does (.cipherPageDone sett pair agree) fun u => (u.haulOf sett).map (fun x => (x.pages, x.stage)) = some (h.pages +
        1, 1) ∧ u.slotCtr h.key = s.slotCtr h.key + 1 ∧ (u.haulOf sett).map (fun x => x.ivs) = some (h.ivs ++
        [(s.slotEpoch h.key, s.slotCtr h.key)]) ∧ keepsBut [.regs, .slb, .flt] s u) ∧
    (∀ (sett pair : Nat) (agree : Bool) (h : Haul) (s : State),
      s.chip ≠ .off →
      s.haulOf sett = some h →
      h.stage = 1 →
      h.pages < 4 →
      pair < 12 →
      s.pairServes pair = true →
      agree = false →
      s.does (.cipherPageDone sett pair agree) fun u => u.haulOf sett = none ∧ u.rd (CIP_PAIR.STATE pair) = pairTesting ∧
        u.slb.lmap = s.slb.lmap ∧ u.dirty sett = s.dirty sett ∧ u.rd HAUL_CNT_ABORT.COUNT = (s.rd HAUL_CNT_ABORT.COUNT
        + 1) % 2 ^ (HAUL_CNT_ABORT.COUNT).width ∧ keepsBut [.regs, .chip, .bed, .svy, .slb, .lgr, .adm, .haul, .save,
        .stk, .res, .dch, .ports, .job, .cip, .gal, .seq, .clk, .flt, .clg, .twb, .fwm, .pin, .out] s u) ∧
    (∀ (pair : Nat) (pass : Bool) (s : State),
      s.chip ≠ .off →
      s.hubOn = true →
      pair < 12 →
      s.rd (CIP_PAIR.STATE pair) = pairTesting →
      pass = true →
      SMap.get false pair s.cip.kat = false →
      s.cip.cmd = none →
      s.does (.katComplete pair pass) fun u => u.rd (CIP_PAIR.STATE pair) = pairIn ∧ bitAt pair (u.rd CIP_OUT.OUT) = false ∧
        keepsBut [.regs, .chip, .bed, .svy, .slb, .lgr, .adm, .haul, .save, .stk, .res, .dch, .ports, .job, .cip,
        .gal, .clk, .flt, .clg, .twb, .fwm, .pin, .out] s u) ∧
    (∀ (pair : Nat) (pass : Bool) (s : State),
      s.chip ≠ .off →
      s.hubOn = true →
      pair < 12 →
      s.rd (CIP_PAIR.STATE pair) = pairTesting →
      pass = false →
      s.cip.cmd = none →
      s.does (.katComplete pair pass) fun u => u.rd (CIP_PAIR.STATE pair) = pairOut ∧ bitAt pair (u.rd CIP_OUT.OUT) = true ∧
        u.rd (CIP_PAIR.KATFAIL pair) = min (s.rd (CIP_PAIR.KATFAIL pair) + 1) (2 ^ ((CIP_PAIR.KATFAIL pair)).width -
        1) ∧ keepsBut [.regs, .chip, .bed, .svy, .slb, .lgr, .adm, .haul, .save, .stk, .res, .dch, .ports, .job, .cip,
        .gal, .clk, .flt, .clg, .twb, .fwm, .pin, .out] s u) ∧
    (∀ (stripe : Nat) (st : Stripe) (k : Nat) (h : Haul) (r : Rec) (s : State),
      s.chip ≠ .off →
      s.haul.stripes.find? (fun x => x.id == stripe) = some st →
      s.programmed st = true →
      st.kind = 0 →
      st.a = some k →
      st.b = none →
      s.haulOf k = some h →
      h.stage = 2 →
      h.stripe = st.id + 1 →
      st.recA = some r →
      s.diesFree st = true →
      s.does (.stripeProgramDone stripe) fun u => u.haulOf k = some
        { h with stage := 3, newloc := (stripeLoc st.group st.num 0 st.sump).toNat } ∧ u.recAt (stripeLoc st.group
        st.num 0 st.sump) = some r ∧ u.loc k = s.loc k ∧ u.dirty k = s.dirty k ∧ keepsBut [.slb, .haul, .stk] s u) ∧
    (∀ (stripe channel : Nat) (st : Stripe) (s : State),
      s.chip ≠ .off →
      s.haul.stripes.find? (fun x => x.id == stripe) = some st →
      channel < 72 →
      chanGroup channel = st.group →
      s.does (.stripeProgramFail stripe channel) fun u => u.haul.stripes.any (fun x => x.id == stripe) = false ∧ u.slb.lmap
        = s.slb.lmap ∧ u.slb.slabs = s.slb.slabs ∧ keepsBut [.regs, .tick, .slb, .haul, .stk, .flt] s u) ∧
    (∀ (group : Nat) (n : Nat) (s : State),
      s.chip ≠ .off →
      s.waitLodes group = [n] →
      SMap.get 0 (lodeKey group n) s.stk.wlWait ≠ 0 →
      SMap.get 0 (lodeKey group n) s.stk.wlWait + 31 ≤ s.tick →
      (s.lode group n).used % 3 = 2 →
      s.stockS group % 3 = 0 →
      (s.lode group n).used < s.stockS group →
      ((s.takeIn group n).2.stripeBlocks group (s.takeIn group n).1 false).all (fun x => (s.takeIn group n).2.mayProgram x.1 x.2.1 x.2.2 false) = true →
      s.does (.wordlinePadTimeout group) fun u => SMap.get 0 (lodeKey group n) u.stk.wlWait = 0 ∧ u.haul.stripes.any (fun x
        => x.kind == 4 && x.a == none && x.b == none && x.group == group && (s.stripeLode group x.num false).1 == n) =
        true ∧ (u.lode group n).used = (s.lode group n).used + 1 ∧ u.rd HAUL_CNT_PAD.COUNT = (s.rd HAUL_CNT_PAD.COUNT
        + 2) % 2 ^ HAUL_CNT_PAD.COUNT.width ∧ keepsBut [.regs, .slb, .adm, .haul, .stk, .cip, .seq, .flt] s u) ∧
    (∀ (s : State),
      s.chip ≠ .off →
      s.haul.pfw = false →
      s.does (.pfwAssert) fun u => (u.haul.pfw = true ∧ u.haul.pfwTick = s.tick ∧ u.rd SEQ_STATUS.PFW = 1 ∧ u.rd
        SEQ_PFW.ASSERTS = min (s.rd SEQ_PFW.ASSERTS + 1) (2 ^ (SEQ_PFW.ASSERTS).width - 1) ∧ (s.hubOn = true → u.rd
        HAUL_STATUS.PFW_HOLD = 1)) ∧ keepsBut [.regs, .adm, .haul, .stk, .seq] s u) ∧
    (∀ (s : State),
      s.chip ≠ .off →
      s.haul.pfw = true →
      s.haul.waitStk = [] →
      s.does (.pfwRelease) fun u => u.haul = { s.haul with pfw := false } ∧ u.rd SEQ_STATUS.PFW = 0 ∧ u.rd
        HAUL_STATUS.PFW_HOLD = 0 ∧ u.rd SEQ_PFW.LONGEST = Nat.max (s.rd SEQ_PFW.LONGEST) (min ((s.tick -
        s.haul.pfwTick) * 1000 / 32768) 65535) ∧ keepsBut [.regs, .haul] s u ∧ keepsWords [SEQ_STATUS.PFW.addr,
        HAUL_STATUS.PFW_HOLD.addr, SEQ_PFW.LONGEST.addr] s u) ∧
    (∀ (s : State),
      s.chip ≠ .off →
      s.haul.pfw = true →
      s.seq.pfwLate = false →
      s.benchTable = true →
      s.seq.pfwTick + (s.sv BENCHES.PFW_MAX * 32768 + 999) / 1000 ≤ s.tick →
      s.does (.pfwMaxExpiry) fun u => raisedIn 655 false s u ∧ u.seq = { s.seq with pfwLate := true } ∧ keepsBut [.regs,
        .seq, .flt] s u ∧ keepsWords [SEQ_EVS2.STATUS.addr] s u)

/-- What starts a save, and what later triggers do (R190, R191, R192, R466, R484). Commands: PWR_LOSS, INPUT_RAIL_LOSS, SAVE_PARK, SAVE_OFF, INPUT_POWER_GOOD, PG00_WAIT_EXPIRY. -/
def Obligations.SaveTriggers : Prop :=
  (∀ (s : State),
      s.chip ≠ .off →
      s.chip = .opened →
      s.does (.pwrLoss) fun u => (u.chip = .save ∧ u.rd HAUL_SAVE_STAT.TRIGGER = trigPwr ∧ u.rd JOB_STATUS.FENCED = 1 ∧ (∀ f
        ∈ faces, u.faceOpen f = false) ∧ u.slb.lmap = s.slb.lmap ∧ u.rd SEQ_STATUS.PWR_LOSS = 1 ∧ u.rd
        SEQ_STATUS.INPUT_GOOD = 0) ∧ keepsBut [.regs, .chip, .bed, .svy, .slb, .lgr, .adm, .haul, .save, .stk, .res,
        .dch, .ports, .job, .cip, .gal, .seq, .clk, .flt, .clg, .twb, .fwm, .out] s u) ∧
    (∀ (s : State),
      s.chip ≠ .off →
      s.chip = .save →
      s.does (.pwrLoss) fun u => u.chip = .save ∧ u.rd SEQ_STATUS.PWR_LOSS = 1 ∧ u.rd SEQ_STATUS.INPUT_GOOD = 0 ∧ u.rd
        HAUL_SAVE_STAT.RETRIG = min (s.rd HAUL_SAVE_STAT.RETRIG + 1) (2 ^ (HAUL_SAVE_STAT.RETRIG).width - 1) ∧
        keepsBut [.regs, .seq] s u ∧ keepsWords [SEQ_STATUS.PWR_LOSS.addr, HAUL_SAVE_STAT.RETRIG.addr] s u) ∧
    (∀ (s : State),
      s.chip ≠ .off →
      s.chip = .opened →
      s.benchTable = true →
      s.svOn BENCHES.INPUT_EN = true →
      s.sv BENCHES.INPUT_COUNT ≤ s.seq.inLow →
      s.seq.lowTold = false →
      s.does (.inputRailLoss) fun u => (u.chip = .save ∧ u.rd HAUL_SAVE_STAT.TRIGGER = trigRail ∧ u.rd JOB_STATUS.FENCED = 1
        ∧ (∀ f ∈ faces, u.faceOpen f = false) ∧ u.slb.lmap = s.slb.lmap ∧ u.rd SEQ_STATUS.INPUT_GOOD = 0 ∧ u.rd
        SEQ_INPUT.LOSSES = min (s.rd SEQ_INPUT.LOSSES + 1) (2 ^ (SEQ_INPUT.LOSSES).width - 1)) ∧ keepsBut [.regs,
        .chip, .bed, .svy, .slb, .lgr, .adm, .haul, .save, .stk, .res, .dch, .ports, .job, .cip, .gal, .seq, .clk,
        .flt, .clg, .twb, .fwm, .out] s u) ∧
    (∀ (s : State),
      s.chip ≠ .off →
      s.woLive HAUL_SAVE_CMD.OP.addr = true →
      s.hubOn = true →
      s.chip = .opened →
      s.does (.savePark) fun u => (u.chip = .save ∧ u.rd HAUL_SAVE_STAT.TRIGGER = trigCmd ∧ u.rd JOB_STATUS.FENCED = 1 ∧ (∀
        f ∈ faces, u.faceOpen f = false) ∧ u.slb.lmap = s.slb.lmap ∧ u.save.off = false) ∧ keepsBut [.regs, .chip,
        .bed, .svy, .slb, .lgr, .adm, .haul, .save, .stk, .res, .dch, .ports, .job, .cip, .gal, .seq, .clk, .flt,
        .clg, .twb, .fwm, .out] s u) ∧
    (∀ (s : State),
      s.chip ≠ .off →
      s.woLive HAUL_SAVE_CMD.OP.addr = true →
      s.hubOn = true →
      s.chip = .opened →
      s.does (.saveOff) fun u => (u.chip = .save ∧ u.rd HAUL_SAVE_STAT.TRIGGER = trigCmd ∧ u.rd JOB_STATUS.FENCED = 1 ∧ (∀ f
        ∈ faces, u.faceOpen f = false) ∧ u.slb.lmap = s.slb.lmap ∧ u.save.off = true) ∧ keepsBut [.regs, .chip, .bed,
        .svy, .slb, .lgr, .adm, .haul, .save, .stk, .res, .dch, .ports, .job, .cip, .gal, .seq, .clk, .flt, .clg,
        .twb, .fwm, .out] s u) ∧
    (∀ (s : State),
      s.chip ≠ .off →
      s.retScans ≤ s.seq.inGood →
      s.on SEQ_STATUS.INPUT_GOOD = false →
      s.on SEQ_STATUS.OFF_HELD = true →
      s.chip = .save →
      s.does (.inputPowerGood) fun u => u.rd SEQ_STATUS.INPUT_GOOD = 1 ∧ raisedIn 657 false s u ∧ u.save =
        { s.save with powerBack := true } ∧ keepsBut [.regs, .flt, .save] s u ∧ keepsWords
        [SEQ_STATUS.INPUT_GOOD.addr, SEQ_EVS2.STATUS.addr] s u) ∧
    (∀ (s : State),
      s.chip ≠ .off →
      s.retScans ≤ s.seq.inGood →
      s.on SEQ_STATUS.INPUT_GOOD = false →
      s.on SEQ_STATUS.OFF_HELD = true →
      s.chip ≠ .save →
      s.does (.inputPowerGood) fun u => u.rd SEQ_STATUS.INPUT_GOOD = 1 ∧ raisedIn 657 false s u ∧ keepsBut [.regs, .flt] s u
        ∧ keepsWords [SEQ_STATUS.INPUT_GOOD.addr, SEQ_EVS2.STATUS.addr] s u) ∧
    (∀ (s : State),
      s.chip ≠ .off →
      s.rd SEQ_STRAP.BSET = 3 →
      s.seqPhase = phaseBootset →
      s.seq.pg00Ok = false →
      s.seq.pg00Told = false →
      s.does (.pg00WaitExpiry) fun u => raisedIn 618 false s u ∧ u.seq = { s.seq with pg00Told := true } ∧ keepsBut [.regs,
        .seq, .flt] s u ∧ keepsWords [SEQ_EVS1.STATUS.addr] s u)

/-- The steps of a save in order, each with what it leaves (R193, R194, R195, R196, R197, R198, R199, R200, R201, R202, R203). Commands: SAVE_DRAIN, SAVE_SLAB_IMAGE, SAVE_PSLC_SWITCH, ANCHOR_PROGRAMMED, SAVE_CARVE_DONE, SAVE_WALK_END, SAVE_MANIFEST_DONE, SAVE_SELF_REFRESH_DONE, SAVE_END. -/
def Obligations.SaveSteps : Prop :=
  (∀ (s : State),
      s.chip ≠ .off →
      s.inStep 2 = true →
      (∀ p ∈ faces, (s.port p).wbuf = []) →
      s.slb.ift = [] →
      s.gal.held = [] →
      s.adm.jobq = [] →
      s.does (.saveDrain) fun u => u.rd HAUL_SAVE_DIRTY.SETTS = s.rd ADM_DIRTY.SETTS ∧ u.rd HAUL_SAVE_STAT.STEP = (if
        s.save.short then 8 else 3) ∧ u.save =
        { s.save with fdirty := faces.map (fun f => s.rd (SLB_FDIRTY.SETTS f)), ctx := s.ringCopy } ∧ keepsBut [.regs,
        .save] s u ∧ keepsWords [HAUL_SAVE_DIRTY.SETTS.addr, HAUL_SAVE_STAT.STEP.addr] s u) ∧
    (∀ (s : State),
      s.chip ≠ .off →
      s.inStep 3 = true →
      s.does (.saveSlabImage) fun u => (u.slb.image = s.slb.slabs ∧ u.slb.slabs = s.slb.slabs ∧ u.rd HAUL_SAVE_STAT.STEP = 4
        ∧ (∀ f ∈ faces, u.linkUp f = false ∧ u.rd (HPT_STATUS.ISLAND f) = islOff)) ∧ keepsBut [.regs, .slb, .save,
        .clk] s u) ∧
    (∀ (s : State),
      s.chip ≠ .off →
      s.inStep 4 = true →
      s.save.anchor = none →
      s.clg.phase = 0 →
      s.does (.savePslcSwitch) fun u => u.save.anchor.map (fun a => a.phase) = some 2 ∧ u.save.sumpStart = u.heads ∧
        u.haul.stripes = [] ∧ u.rd HAUL_SAVE_STAT.STEP = 4 ∧ keepsBut [.regs, .tick, .slb, .adm, .haul, .save, .stk,
        .cip, .seq, .clk, .flt] s u) ∧
    (∀ (ok0 ok36 : Bool) (a : Anchor) (p : Nat) (b : Nat) (t : State) (s : State),
      s.chip ≠ .off →
      s.save.anchor = some a →
      a.phase = 2 →
      s.bootFree = true →
      s.anchorPage = p →
      s.bootPageBlock bootAnchors p = b →
      (s.anchorErase 0 p).1 = true →
      (s.anchorErase 0 p).2.bootWrote 0 b ok0 = true →
      (s.anchorErase 0 p).2.bootProgram b [(0, ok0)] = t →
      (t.anchorErase 1 p).1 = true →
      (t.anchorErase 1 p).2.bootWrote 1 b ok36 = true →
      s.inStep 4 = true →
      s.does (.anchorProgrammed ok0 ok36) fun u => u.save = { s.save with anchor := none } ∧ u.stk.anchors.head? = some
        { a with ok0 := true, ok36 := true, page := p, blank := false } ∧ u.stk.apage = s.bootPageNext bootAnchors p ∧
        u.rd HAUL_SAVE_STAT.STEP = 5 ∧ keepsBut [.regs, .slb, .save, .stk, .res, .ports, .clk, .flt, .out] s u) ∧
    (∀ (ok0 ok36 : Bool) (a : Anchor) (p : Nat) (b : Nat) (t : State) (s : State),
      s.chip ≠ .off →
      s.save.anchor = some a →
      a.phase = 3 →
      s.bootFree = true →
      s.anchorPage = p →
      s.bootPageBlock bootAnchors p = b →
      (s.anchorErase 0 p).1 = true →
      (s.anchorErase 0 p).2.bootWrote 0 b ok0 = true →
      (s.anchorErase 0 p).2.bootProgram b [(0, ok0)] = t →
      (t.anchorErase 1 p).1 = true →
      (t.anchorErase 1 p).2.bootWrote 1 b ok36 = true →
      s.inStep 5 = true →
      s.does (.anchorProgrammed ok0 ok36) fun u => u.save = { s.save with anchor := none } ∧ u.stk.anchors.head? = some
        { a with ok0 := true, ok36 := true, page := p, blank := false } ∧ u.stk.apage = s.bootPageNext bootAnchors p ∧
        u.rd HAUL_SAVE_STAT.STEP = 6 ∧ keepsBut [.regs, .slb, .save, .stk, .res, .ports, .clk, .flt, .out] s u) ∧
    (∀ (ok0 ok36 : Bool) (a : Anchor) (p : Nat) (b : Nat) (t : State) (f : Nat) (s : State),
      s.chip ≠ .off →
      s.save.anchor = some a →
      a.phase = 1 →
      s.bootFree = true →
      s.anchorPage = p →
      s.bootPageBlock bootAnchors p = b →
      (s.anchorErase 0 p).1 = true →
      (s.anchorErase 0 p).2.bootWrote 0 b ok0 = true →
      (s.anchorErase 0 p).2.bootProgram b [(0, ok0)] = t →
      (t.anchorErase 1 p).1 = true →
      (t.anchorErase 1 p).2.bootWrote 1 b ok36 = true →
      s.rd RES_STATUS.CASE ≠ 5 →
      s.galCloses = false →
      f ∈ faces →
      bitAt f s.save.openAfter = true →
      s.faceOn f = true →
      (∀ q ∈ faces, (s.port q).erasing = none ∧ (s.port q).wasOpen = false) →
      s.does (.anchorProgrammed ok0 ok36) fun u => u.faceOpen f = true ∧ u.save.session = a.seq ∧ u.save.anchor = none ∧
        u.stk.anchors.head? = some { a with ok0 := true, ok36 := true, page := p, blank := false } ∧ u.stk.apage =
        s.bootPageNext bootAnchors p ∧ keepsBut [.regs, .slb, .save, .stk, .res, .ports, .clk, .flt, .out] s u) ∧
    (∀ (ok0 ok36 : Bool) (a : Anchor) (p : Nat) (s : State),
      s.chip ≠ .off →
      s.save.anchor = some a →
      s.bootFree = true →
      s.anchorPage = p →
      p % s.bootPages ≠ 0 →
      s.bootWrote 0 (s.bootPageBlock bootAnchors p) ok0 = false →
      s.does (.anchorProgrammed ok0 ok36) fun u => u.save = s.save ∧ u.stk.anchors = s.stk.anchors ∧ u.stk.apage =
        s.bootPageNext bootAnchors p ∧ keepsBut [.regs, .slb, .save, .stk, .res, .ports, .clk, .flt, .out] s u) ∧
    (∀ (ok0 ok36 : Bool) (a : Anchor) (p : Nat) (b : Nat) (s : State),
      s.chip ≠ .off →
      s.save.anchor = some a →
      s.bootFree = true →
      s.anchorPage = p →
      s.bootPageBlock bootAnchors p = b →
      p % s.bootPages ≠ 0 →
      s.bootWrote 0 b ok0 = true →
      s.bootWrote 1 b ok36 = false →
      s.does (.anchorProgrammed ok0 ok36) fun u => u.save = s.save ∧ u.stk.anchors =
        { a with ok0 := true, ok36 := false, page := p, blank := !s.bootWrote 1 b true } :: s.stk.anchors ∧
        u.stk.apage = s.bootPageNext bootAnchors p ∧ keepsBut [.regs, .slb, .save, .stk, .res, .ports, .clk, .flt,
        .out] s u) ∧
    (∀ (inp : CarveIn) (s : State),
      s.chip ≠ .off →
      s.inStep 5 = true →
      s.save.anchor = none →
      inp.bad = [] →
      inp.failed = [] →
      inp.mismatch = [] →
      s.deadCarve = [] →
      s.does (.saveCarveDone inp) fun u => u.saves.head?.map (fun v => (v.seq, v.mark, v.released)) = some (s.save.session,
        false, false) ∧ u.saves.head?.bind (fun v => v.carve) = some (s.carveOf [] false) ∧ u.saves.head?.map (fun v
        => v.runs.map (fun r => (r.typ, r.first, r.count))) = some [(4, 0, carveSetts)] ∧ u.saves.head?.bind (fun v =>
        v.manifest) = none ∧ u.saves.tail = s.saves ∧ u.save.anchor.map (fun a => a.phase) = some 3 ∧ u.rd
        HAUL_SAVE_STAT.STEP = 5 ∧ keepsBut [.regs, .tick, .chip, .bed, .svy, .slb, .lgr, .adm, .haul, .save, .stk,
        .saves, .res, .dch, .ports, .job, .cip, .gal, .seq, .clk, .flt, .clg, .twb, .fwm, .pin, .out] s u) ∧
    (∀ (inp : WalkIn) (s : State),
      s.chip ≠ .off →
      s.inStep 6 = true →
      s.does (.saveWalkEnd inp) fun u => u.rd HAUL_SAVE_STAT.STEP = (if u.rd HAUL_SAVE_STAT.END = endEnergy then 8 else 7) ∧
        u.save.walked = true ∧ u.save.walkTick = s.tick ∧ u.rd HAUL_SAVE_MISS.SETTS = u.rd HAUL_SAVE_DIRTY.SETTS -
        u.rd HAUL_SAVE_DONE.SETTS ∧ keepsBut [.regs, .tick, .chip, .bed, .svy, .slb, .lgr, .adm, .haul, .save, .stk,
        .res, .dch, .ports, .job, .cip, .gal, .seq, .clk, .flt, .clg, .twb, .fwm, .pin, .out] s u) ∧
    (∀ (failed : List RecFail) (miss : List (Nat × Bool)) (s : State),
      s.chip ≠ .off →
      s.inStep 7 = true →
      s.resumes = false →
      failed.any (fun f => f.again) = false →
      miss.any (fun x => x.2) = false →
      s.does (.saveManifestDone failed miss) fun u => (u.rd HAUL_SAVE_STAT.STEP = 8 ∧ u.saves.map (fun v => (v.seq,
        v.carve)) = s.saves.map (fun v => (v.seq, v.carve)) ∧ ∀ w ∈ u.saves, w.seq = s.save.session →
        w.manifest.isSome = true ∧ w.mark = decide (s.rd HAUL_SAVE_DONE.SETTS = s.rd HAUL_SAVE_DIRTY.SETTS)) ∧
        keepsBut [.regs, .tick, .chip, .bed, .svy, .slb, .lgr, .adm, .haul, .save, .stk, .saves, .res, .dch, .ports,
        .job, .cip, .gal, .seq, .clk, .flt, .clg, .twb, .fwm, .pin, .out] s u) ∧
    (∀ (s : State),
      s.chip ≠ .off →
      s.inStep 8 = true →
      s.resumes = false →
      s.does (.saveSelfRefreshDone) fun u => (u.rd HAUL_SAVE_STAT.STEP = 9 ∧ u.save =
        { s.save with spent := some (s.lgr.packA.saveDebit + s.lgr.packB.saveDebit) } ∧ (∀ c ∈ List.range 36, s.rd
        (DCH_STATUS.STATE c) ∈ [1, 2, 4, 5] → u.rd (DCH_STATUS.STATE c) = 3) ∧ u.dch.mem = s.dch.mem) ∧ keepsBut
        [.regs, .save, .dch] s u) ∧
    (∀ (s : State),
      s.chip ≠ .off →
      s.inStep 9 = true →
      s.save.railCut = false →
      s.seq.latchSave = false →
      s.rd HAUL_SAVE_STAT.TRIGGER = trigCmd →
      s.save.off = false →
      s.seq.offPend = false →
      s.flt.holdAfter = false →
      s.does (.saveEnd) fun u => u.chip = .parked ∧ u.rd HAUL_SAVE_STAT.STEP = 0 ∧ u.save.down = false ∧ u.dch.mem =
        s.dch.mem ∧ keepsBut [.regs, .tick, .chip, .bed, .svy, .slb, .adm, .haul, .save, .stk, .res, .dch, .ports,
        .job, .cip, .gal, .seq, .clk, .flt, .clg, .twb, .fwm, .pin, .out] s u) ∧
    (∀ (s : State),
      s.chip ≠ .off →
      s.inStep 9 = true →
      s.save.railCut = false →
      s.seq.latchSave = false →
      s.rd HAUL_SAVE_STAT.TRIGGER = trigPwr →
      s.does (.saveEnd) fun u => u.rd SEQ_STATUS.PHASE = phaseDown ∧ u.save.down = true ∧ u.chip = .save ∧ keepsBut [.regs,
        .tick, .chip, .bed, .svy, .slb, .adm, .haul, .save, .stk, .res, .dch, .ports, .job, .cip, .gal, .seq, .clk,
        .flt, .clg, .twb, .fwm, .pin, .out] s u)

/-- Start, open, warm resume and fetches of a restore (R258, R261, R267, R268, R269, R270, R271, R275, R278). Commands: RES_START, RES_OPEN, RES_WARM, FETCH_SETT_WRITTEN, BACKGROUND_FILL, RESTORE_HOLD_EXPIRY. -/
def Obligations.RestoreCommands : Prop :=
  (∀ (inp : ResIn) (s : State),
      s.chip ≠ .off →
      s.woLive RES_CMD.OP.addr = true →
      s.hubOn = true →
      s.startOk = true →
      s.on RES_CMD_STATUS.BUSY = false →
      s.res.noKeys = false →
      s.hasSec secTwin = false →
      inp.anchorBad = false →
      inp.carveBad = false →
      inp.sram = [] →
      s.stk.anchors = [] →
      s.cip.erasePend = 0 →
      s.does (.resStart inp) fun u => u.chip = .restoring ∧ u.rd RES_STATUS.CASE = 0 ∧ u.rd RES_STATUS.PHASE = 4 ∧ u.rd
        RES_CMD_STATUS.RESULT = 0 ∧ u.rd RES_CMD_STATUS.BUSY = 0 ∧ u.res.rebuilt = true ∧ u.slb.lmap = [] ∧
        u.slb.slabs = [] ∧ u.rd ADM_DIRTY.SETTS = 0 ∧ keepsBut [.regs, .tick, .chip, .bed, .svy, .slb, .adm, .haul,
        .save, .stk, .res, .dch, .ports, .nv, .job, .cip, .gal, .seq, .clk, .flt, .clg, .fwm, .out, .free] s u) ∧
    (∀ (inp : ResIn) (s : State),
      s.chip ≠ .off →
      s.woLive RES_CMD.OP.addr = true →
      s.hubOn = true →
      s.startOk = false →
      s.on RES_CMD_STATUS.BUSY = false →
      s.does (.resStart inp) fun u => u.rd RES_CMD_STATUS.RESULT = 2 ∧ onlyWords [RES_CMD_STATUS.RESULT.addr] s u) ∧
    (∀ (s : State),
      s.chip ≠ .off →
      s.woLive RES_CMD.OP.addr = true →
      s.hubOn = true →
      s.on RES_CMD_STATUS.BUSY = false →
      s.chip = .restoring →
      s.res.rebuilt = true →
      s.res.filling = false →
      0 < s.visibleCount →
      s.visibleCount < 2 ^ RES_UNREST.SLABS.width →
      s.does (.resOpen) fun u => u.res.filling = true ∧ u.res.rebuilt = false ∧ u.rd RES_STATUS.PHASE = 5 ∧ u.rd
        RES_CTL.LEVEL = 31 ∧ u.rd RES_CMD_STATUS.RESULT = 0 ∧ u.rd RES_UNREST.SLABS = s.visibleCount ∧ u.slb.baseR = 1
        ∧ u.rd JOB_STATUS.FENCED = 0 ∧ keepsBut [.regs, .tick, .chip, .bed, .svy, .slb, .adm, .haul, .save, .stk,
        .saves, .res, .dch, .ports, .job, .cip, .gal, .seq, .clk, .flt, .clg, .fwm, .out] s u) ∧
    (∀ (s : State),
      s.chip ≠ .off →
      s.woLive RES_CMD.OP.addr = true →
      s.hubOn = true →
      s.chip = .parked →
      s.does (.resWarm) fun u => (u.rd RES_STATUS.CASE = 5 ∧ u.rd RES_CMD_STATUS.RESULT = 0 ∧ (u.chip = .opened ∨ u.chip =
        .restoring) ∧ u.rd JOB_STATUS.FENCED = 0 ∧ u.dch.mem = s.dch.mem) ∧ keepsBut [.regs, .tick, .chip, .bed, .svy,
        .slb, .adm, .haul, .save, .stk, .res, .dch, .ports, .job, .cip, .gal, .seq, .clk, .flt, .clg, .fwm, .out] s u) ∧
    (∀ (s : State),
      s.chip ≠ .off →
      s.woLive RES_CMD.OP.addr = true →
      s.hubOn = true →
      s.chip ≠ .parked →
      s.does (.resWarm) fun u => u.rd RES_CMD_STATUS.RESULT = 2 ∧ onlyWords [RES_CMD_STATUS.RESULT.addr] s u) ∧
    (∀ (slab : Nat) (page : PageRead) (bad : Bool) (s1 : State) (f : Fetch) (k : Nat) (s : State),
      s.chip ≠ .off →
      s1 = s.hubErr bad →
      s1.chip = .restoring →
      s1.res.fetch.find? (fun f => f.slab == slab) = some f →
      s1.fetchNext f = some k →
      s1.dirty k = false →
      s1.canPay 2 1 (decide (f.why = 1)) = true →
      (∀ p ∈ faces, (s1.port p).wbuf = [] ∧ (s1.port p).reads = []) →
      locKind (s1.loc k) = 0 →
      s.does (.fetchSettWritten slab page bad) fun u => u.dch.mem = SMap.paste (settByte k 0) 65536 [] s1.dch.mem ∧
        u.settPoison k = 0 ∧ u.loc k = s1.loc k ∧ u.rd RES_FILLED.SETTS = min (s1.rd RES_FILLED.SETTS + 1) (2 ^
        (RES_FILLED.SETTS).width - 1) ∧ keepsBut [.regs, .tick, .chip, .bed, .svy, .slb, .adm, .haul, .save, .stk,
        .saves, .res, .dch, .ports, .nv, .job, .cip, .gal, .seq, .clk, .flt, .clg, .fwm, .out, .free] s1 u) ∧
    (∀ (slab : Nat) (page : PageRead) (bad : Bool) (s1 : State) (f : Fetch) (k : Nat) (r : Rec) (s : State),
      s.chip ≠ .off →
      s1 = s.hubErr bad →
      s1.chip = .restoring →
      s1.res.fetch.find? (fun f => f.slab == slab) = some f →
      s1.fetchNext f = some k →
      s1.dirty k = false →
      s1.canPay 2 1 (decide (f.why = 1)) = true →
      (∀ p ∈ faces, (s1.port p).wbuf = [] ∧ (s1.port p).reads = []) →
      (locKind (s1.loc k) = 1 ∨ locKind (s1.loc k) = 2) →
      s1.recAt (s1.loc k) = some r →
      s1.decrypts r = true →
      page = .ok →
      s.does (.fetchSettWritten slab page bad) fun u => u.dch.mem = SMap.paste (settByte k 0) 65536 r.data s1.dch.mem ∧
        u.settPoison k = r.poison ∧ u.loc k = s1.loc k ∧ keepsBut [.regs, .tick, .chip, .bed, .svy, .slb, .adm, .haul,
        .save, .stk, .saves, .res, .dch, .ports, .nv, .job, .cip, .gal, .seq, .clk, .flt, .clg, .fwm, .out, .free] s1
        u) ∧
    (∀ (i : Nat) (l : List Nat) (s : State),
      s.chip ≠ .off →
      s.chip = .restoring →
      s.res.filling = true →
      s.res.fetch.length + 64 ≤ 1024 →
      s.canPay 2 1 false = true →
      s.res.prefetch.filter (fun i => (s.slab i).rstate == 1) = i :: l →
      s.does (.backgroundFill) fun u => (u.slab i).rstate = 2 ∧ u.res.fetch = s.res.fetch ++ [Fetch.mk i 2 (i * 64) 0] ∧
        u.res.prefetch = l ∧ u.rd RES_UNREST.SLABS = s.rd RES_UNREST.SLABS - 1 ∧ u.rd RES_FETCHING.SLABS = min (s.rd
        RES_FETCHING.SLABS + 1) (2 ^ (RES_FETCHING.SLABS).width - 1) ∧ keepsBut [.regs, .slb, .res] s u) ∧
    (∀ (port tag : Nat) (r : REnt) (s : State),
      s.chip ≠ .off →
      (s.port port).reads.find? (fun r => r.tag == tag && r.wait == .fetch) = some r →
      s.rd RES_HOLD.TICKS ≠ 0 →
      r.since + s.rd RES_HOLD.TICKS ≤ s.tick →
      s.does (.restoreHoldExpiry port tag) fun u => .poisoned port tag ∈ u.out ∧ (u.port port).reads = (s.port
        port).reads.filter (fun x => x.tag != tag) ∧ u.rd RES_HOLDEXP.COUNT = (s.rd RES_HOLDEXP.COUNT + 1) % 2 ^
        (RES_HOLDEXP.COUNT).width ∧ keepsBut [.regs, .res, .ports, .flt, .clg, .out] s u)

/-- Key slots, lane-pair tests, the key store and the DRBG (part 1 of 2) (R413, R418, R420, R421, R422, R425, R426, R429, R510). Commands: CIP_GENERATE, CIP_ACTIVATE, CIP_ZEROIZE, CIP_ZEROIZE_PAIR, CIP_LOAD_TX, CIP_RELEASE_TX, CIP_KAT. -/
def Obligations.KeySlotsFirst : Prop :=
  (∀ (s : State),
      s.chip ≠ .off →
      s.hubOn = true →
      s.on CIP_CMD_STATUS.BUSY = false →
      s.genRefused (s.rd CIP_CMD_SLOT.SLOT) = 0 →
      s.does (.cipGenerate) fun u => u.cip =
        { s.cip with cmd := some (CipCmd.mk 1 (s.rd CIP_CMD_SLOT.SLOT) (Config.freeKey s.free) 0) } ∧ u.free = s.free
        + 1 ∧ u.rd CIP_CMD_STATUS.BUSY = 1 ∧ u.rd CIP_STATUS.STORE_BUSY = 1 ∧ keepsBut [.regs, .cip, .free] s u ∧
        keepsWords [CIP_CMD_STATUS.BUSY.addr, CIP_STATUS.STORE_BUSY.addr] s u) ∧
    (∀ (s : State),
      s.chip ≠ .off →
      s.hubOn = true →
      s.on CIP_CMD_STATUS.BUSY = false →
      (s.slotState (s.rd CIP_CMD_SLOT.SLOT) = slActive ∨ s.slotState (s.rd CIP_CMD_SLOT.SLOT) = slTransform) →
      s.does (.cipGenerate) fun u => u.rd CIP_CMD_STATUS.RESULT = 3 ∧ onlyWords [CIP_CMD_STATUS.RESULT.addr] s u) ∧
    (∀ (s : State),
      s.chip ≠ .off →
      s.hubOn = true →
      s.on CIP_CMD_STATUS.BUSY = false →
      s.slotState (s.rd CIP_CMD_SLOT.SLOT) = slPartner →
      s.slotRefs (s.rd CIP_CMD_SLOT.SLOT) ≠ 0 →
      s.does (.cipGenerate) fun u => u.rd CIP_CMD_STATUS.RESULT = 2 ∧ onlyWords [CIP_CMD_STATUS.RESULT.addr] s u) ∧
    (∀ (s : State),
      s.chip ≠ .off →
      s.hubOn = true →
      s.on CIP_CMD_STATUS.BUSY = true →
      s.does (.cipGenerate) fun u => u.rd CIP_CMD_STATUS.RESULT = 1 ∧ onlyWords [CIP_CMD_STATUS.RESULT.addr] s u) ∧
    (∀ (s : State),
      s.chip ≠ .off →
      s.hubOn = true →
      s.on CIP_CMD_STATUS.BUSY = true →
      s.does (.cipActivate) fun u => u.rd CIP_CMD_STATUS.RESULT = 1 ∧ onlyWords [CIP_CMD_STATUS.RESULT.addr] s u) ∧
    (∀ (s : State),
      s.chip ≠ .off →
      s.hubOn = true →
      s.on CIP_CMD_STATUS.BUSY = true →
      s.does (.cipZeroize) fun u => u.rd CIP_CMD_STATUS.RESULT = 1 ∧ onlyWords [CIP_CMD_STATUS.RESULT.addr] s u) ∧
    (∀ (s : State),
      s.chip ≠ .off →
      s.hubOn = true →
      s.on CIP_CMD_STATUS.BUSY = true →
      s.does (.cipZeroizePair) fun u => u.rd CIP_CMD_STATUS.RESULT = 1 ∧ onlyWords [CIP_CMD_STATUS.RESULT.addr] s u) ∧
    (∀ (s : State),
      s.chip ≠ .off →
      s.hubOn = true →
      s.on CIP_CMD_STATUS.BUSY = true →
      s.does (.cipLoadTx) fun u => u.rd CIP_CMD_STATUS.RESULT = 1 ∧ onlyWords [CIP_CMD_STATUS.RESULT.addr] s u) ∧
    (∀ (s : State),
      s.chip ≠ .off →
      s.hubOn = true →
      s.on CIP_CMD_STATUS.BUSY = true →
      s.does (.cipReleaseTx) fun u => u.rd CIP_CMD_STATUS.RESULT = 1 ∧ onlyWords [CIP_CMD_STATUS.RESULT.addr] s u) ∧
    (∀ (s : State),
      s.chip ≠ .off →
      s.hubOn = true →
      s.on CIP_CMD_STATUS.BUSY = true →
      s.does (.cipKat) fun u => u.rd CIP_CMD_STATUS.RESULT = 1 ∧ onlyWords [CIP_CMD_STATUS.RESULT.addr] s u) ∧
    (∀ (s : State),
      s.chip ≠ .off →
      s.hubOn = true →
      s.on CIP_CMD_STATUS.BUSY = false →
      s.slotState (s.rd CIP_CMD_SLOT.SLOT) = slPartner →
      s.does (.cipActivate) fun u => u.cip = { s.cip with cmd := some (CipCmd.mk 2 (s.rd CIP_CMD_SLOT.SLOT) 0 0) } ∧ u.rd
        CIP_CMD_STATUS.BUSY = 1 ∧ u.rd CIP_STATUS.STORE_BUSY = 1 ∧ keepsBut [.regs, .cip] s u ∧ keepsWords
        [CIP_CMD_STATUS.BUSY.addr, CIP_STATUS.STORE_BUSY.addr] s u) ∧
    (∀ (s : State),
      s.chip ≠ .off →
      s.hubOn = true →
      s.on CIP_CMD_STATUS.BUSY = false →
      s.slotState (s.rd CIP_CMD_SLOT.SLOT) ≠ slPartner →
      s.does (.cipActivate) fun u => u.rd CIP_CMD_STATUS.RESULT = 3 ∧ onlyWords [CIP_CMD_STATUS.RESULT.addr] s u) ∧
    (∀ (s : State),
      s.chip ≠ .off →
      s.hubOn = true →
      s.on CIP_CMD_STATUS.BUSY = false →
      s.slotState (s.rd CIP_CMD_SLOT.SLOT) ≠ slActive →
      s.does (.cipZeroize) fun u => (u.slotState (s.rd CIP_CMD_SLOT.SLOT) = slEmpty ∧ u.slotKey (s.rd CIP_CMD_SLOT.SLOT) = 0
        ∧ u.rd CIP_CMD_STATUS.RESULT = 0 ∧ (s.on (CIP_SLST.STORED (s.rd CIP_CMD_SLOT.SLOT)) = true → s.rd
        CIP_CMD_SLOT.SLOT ∈ u.cip.purge) ∧ u.chip = s.chip ∧ u.dch.mem = s.dch.mem) ∧ keepsBut [.regs, .slb, .adm,
        .haul, .job, .cip] s u) ∧
    (∀ (s : State),
      s.chip ≠ .off →
      s.hubOn = true →
      s.on CIP_CMD_STATUS.BUSY = false →
      s.slotState (s.rd CIP_CMD_SLOT.SLOT) = slActive →
      s.does (.cipZeroize) fun u => u.rd CIP_CMD_STATUS.RESULT = 3 ∧ onlyWords [CIP_CMD_STATUS.RESULT.addr] s u)

/-- Key slots, lane-pair tests, the key store and the DRBG (part 2 of 2) (R413, R418, R420, R421, R422, R425, R426, R429, R510). Commands: CIP_ZEROIZE_PAIR, CIP_LOAD_TX, CIP_RELEASE_TX, CIP_KAT, KEY_STORE_PROGRAMMED, KEY_STORE_PURGE_DONE, DRBG_HEALTH_FAIL. -/
def Obligations.KeySlotsSecond : Prop :=
  (∀ (s : State),
      s.chip ≠ .off →
      s.hubOn = true →
      s.on CIP_CMD_STATUS.BUSY = false →
      s.rd CIP_CMD_SLOT.SLOT / 2 ≠ 31 →
      s.does (.cipZeroizePair) fun u => u.slotState (s.rd CIP_CMD_SLOT.SLOT) = slEmpty ∧ u.slotState (pairMate (s.rd
        CIP_CMD_SLOT.SLOT)) = slEmpty ∧ u.slotKey (s.rd CIP_CMD_SLOT.SLOT) = 0 ∧ u.slotKey (pairMate (s.rd
        CIP_CMD_SLOT.SLOT)) = 0 ∧ u.rd CIP_CMD_STATUS.RESULT = 0 ∧ keepsBut [.regs, .slb, .adm, .haul, .job, .cip] s u) ∧
    (∀ (s : State),
      s.chip ≠ .off →
      s.hubOn = true →
      s.on CIP_CMD_STATUS.BUSY = false →
      s.rd CIP_CMD_SLOT.SLOT / 2 = 31 →
      s.does (.cipZeroizePair) fun u => u.rd CIP_CMD_STATUS.RESULT = 3 ∧ onlyWords [CIP_CMD_STATUS.RESULT.addr] s u) ∧
    (∀ (s : State),
      s.chip ≠ .off →
      s.hubOn = true →
      s.on CIP_CMD_STATUS.BUSY = false →
      s.slotFree (s.rd CIP_CMD_SLOT.SLOT) = true →
      s.txCount (s.rd CIP_CMD_SLOT.FACE) < s.rd CIP_CFG.TX_PER_FACE →
      s.on CIP_CMD_SLOT.GEN = false →
      s.does (.cipLoadTx) fun u => u.slotState (s.rd CIP_CMD_SLOT.SLOT) = slTransform ∧ u.rd (CIP_SLST.FACE (s.rd
        CIP_CMD_SLOT.SLOT)) = s.rd CIP_CMD_SLOT.FACE ∧ u.rd CIP_CMD_STATUS.RESULT = 0 ∧ u.cip =
        { s.cip with keys := SMap.put 0 (s.rd CIP_CMD_SLOT.SLOT) s.keyIn s.cip.keys, keyin := [] } ∧ keepsBut [.regs,
        .cip] s u ∧ keepsWords [(CIP_SLST.STATE (s.rd CIP_CMD_SLOT.SLOT)).addr, CIP_CMD_STATUS.RESULT.addr] s u) ∧
    (∀ (s : State),
      s.chip ≠ .off →
      s.hubOn = true →
      s.on CIP_CMD_STATUS.BUSY = false →
      s.slotFree (s.rd CIP_CMD_SLOT.SLOT) = true →
      s.txCount (s.rd CIP_CMD_SLOT.FACE) < s.rd CIP_CFG.TX_PER_FACE →
      s.on CIP_CMD_SLOT.GEN = true →
      s.does (.cipLoadTx) fun u => u.slotState (s.rd CIP_CMD_SLOT.SLOT) = slTransform ∧ u.rd (CIP_SLST.FACE (s.rd
        CIP_CMD_SLOT.SLOT)) = s.rd CIP_CMD_SLOT.FACE ∧ u.rd CIP_CMD_STATUS.RESULT = 0 ∧ u.cip =
        { s.cip with keys := SMap.put 0 (s.rd CIP_CMD_SLOT.SLOT) (Config.freeKey s.free) s.cip.keys, keyin := [] } ∧
        keepsBut [.regs, .cip, .free] s u ∧ keepsWords [(CIP_SLST.STATE (s.rd CIP_CMD_SLOT.SLOT)).addr,
        CIP_CMD_STATUS.RESULT.addr] s u) ∧
    (∀ (s : State),
      s.chip ≠ .off →
      s.hubOn = true →
      s.on CIP_CMD_STATUS.BUSY = false →
      s.slotFree (s.rd CIP_CMD_SLOT.SLOT) = true →
      s.rd CIP_CFG.TX_PER_FACE ≤ s.txCount (s.rd CIP_CMD_SLOT.FACE) →
      s.does (.cipLoadTx) fun u => u.rd CIP_CMD_STATUS.RESULT = 4 ∧ u.cip = { s.cip with keyin := [] } ∧ keepsBut [.regs,
        .cip] s u ∧ keepsWords [CIP_CMD_STATUS.RESULT.addr] s u) ∧
    (∀ (s : State),
      s.chip ≠ .off →
      s.hubOn = true →
      s.on CIP_CMD_STATUS.BUSY = false →
      s.slotState (s.rd CIP_CMD_SLOT.SLOT) = slTransform →
      s.does (.cipReleaseTx) fun u => u.slotState (s.rd CIP_CMD_SLOT.SLOT) = slEmpty ∧ u.slotKey (s.rd CIP_CMD_SLOT.SLOT) =
        0 ∧ u.rd CIP_CMD_STATUS.RESULT = 0 ∧ keepsBut [.regs, .slb, .adm, .haul, .job, .cip] s u) ∧
    (∀ (s : State),
      s.chip ≠ .off →
      s.hubOn = true →
      s.on CIP_CMD_STATUS.BUSY = false →
      s.slotState (s.rd CIP_CMD_SLOT.SLOT) ≠ slTransform →
      s.does (.cipReleaseTx) fun u => u.rd CIP_CMD_STATUS.RESULT = 3 ∧ onlyWords [CIP_CMD_STATUS.RESULT.addr] s u) ∧
    (∀ (s : State),
      s.chip ≠ .off →
      s.hubOn = true →
      s.on CIP_CMD_STATUS.BUSY = false →
      (s.rd (CIP_PAIR.STATE (s.rd CIP_CMD_SLOT.SLOT % 12)) = pairIn ∨ s.rd (CIP_PAIR.STATE (s.rd CIP_CMD_SLOT.SLOT % 12)) = pairOut) →
      s.does (.cipKat) fun u => u.rd (CIP_PAIR.STATE (s.rd CIP_CMD_SLOT.SLOT % 12)) = pairTesting ∧ bitAt (s.rd
        CIP_CMD_SLOT.SLOT % 12) (u.rd CIP_OUT.OUT) = false ∧ u.cip.cmd = some (CipCmd.mk 7 (s.rd CIP_CMD_SLOT.SLOT %
        12) 0 0) ∧ u.rd CIP_CMD_STATUS.BUSY = 1 ∧ keepsBut [.regs, .chip, .bed, .svy, .slb, .lgr, .adm, .haul, .save,
        .stk, .res, .dch, .ports, .job, .cip, .gal, .clk, .flt, .clg, .twb, .fwm, .pin, .out] s u) ∧
    (∀ (ok0 ok36 : Bool) (c : CipCmd) (s : State),
      s.chip ≠ .off →
      s.bootFree = true →
      s.storeRuns = true →
      s.cip.cmd = some c →
      c.face = 0 →
      c.slot < 64 →
      (s.bootBoth ((bootArea bootHealth).1 + (if s.cip.purge.isEmpty then s.stk.hblock else 1 - s.stk.hblock)) ok0 ok36).1 = true →
      c.op = 1 →
      s.slotState (pairMate c.slot) = slEmpty →
      s.does (.keyStoreProgrammed ok0 ok36) fun u => u.slotState c.slot = slActive ∧ u.slotKey c.slot = c.key ∧ u.slotEpoch
        c.slot = s.rd48 CIP_EPOCH_LO.EPOCH CIP_EPOCH_HI.EPOCH ∧ u.slotCtr c.slot = 0 ∧ u.rd CIP_CMD_STATUS.BUSY = 0 ∧
        u.rd CIP_CMD_STATUS.RESULT = 0 ∧ u.cip.cmd = none ∧ u.rd (CIP_SLST.STORED c.slot) = 1 ∧ keepsBut [.regs, .stk,
        .cip, .flt] s u) ∧
    (∀ (ok0 ok36 : Bool) (c : CipCmd) (s : State),
      s.chip ≠ .off →
      s.bootFree = true →
      s.storeRuns = true →
      s.cip.cmd = some c →
      c.face = 0 →
      c.slot < 64 →
      (s.bootBoth ((bootArea bootHealth).1 + (if s.cip.purge.isEmpty then s.stk.hblock else 1 - s.stk.hblock)) ok0 ok36).1 = true →
      c.op = 1 →
      s.slotState (pairMate c.slot) ≠ slEmpty →
      s.does (.keyStoreProgrammed ok0 ok36) fun u => u.slotState c.slot = slPartner ∧ u.slotKey c.slot = c.key ∧ u.slotEpoch
        c.slot = s.rd48 CIP_EPOCH_LO.EPOCH CIP_EPOCH_HI.EPOCH ∧ u.slotCtr c.slot = 0 ∧ u.rd CIP_CMD_STATUS.BUSY = 0 ∧
        u.rd CIP_CMD_STATUS.RESULT = 0 ∧ u.cip.cmd = none ∧ u.rd (CIP_SLST.STORED c.slot) = 1 ∧ keepsBut [.regs, .stk,
        .cip, .flt] s u) ∧
    (∀ (ok0 ok36 : Bool) (c : CipCmd) (s : State),
      s.chip ≠ .off →
      s.bootFree = true →
      s.storeRuns = true →
      s.cip.cmd = some c →
      c.face = 0 →
      c.slot < 64 →
      (s.bootBoth ((bootArea bootHealth).1 + (if s.cip.purge.isEmpty then s.stk.hblock else 1 - s.stk.hblock)) ok0 ok36).1 = true →
      c.op = 2 →
      s.slotState (pairMate c.slot) = slActive →
      s.does (.keyStoreProgrammed ok0 ok36) fun u => u.slotState c.slot = slActive ∧ u.slotState (pairMate c.slot) =
        slPartner ∧ u.slotKey c.slot = s.slotKey c.slot ∧ u.slotEpoch c.slot = s.rd48 CIP_EPOCH_LO.EPOCH
        CIP_EPOCH_HI.EPOCH ∧ u.slotCtr c.slot = 0 ∧ u.rd CIP_CMD_STATUS.BUSY = 0 ∧ u.rd CIP_CMD_STATUS.RESULT = 0 ∧
        u.cip.cmd = none ∧ u.rd (CIP_SLST.STORED c.slot) = 1 ∧ keepsBut [.regs, .stk, .cip, .flt] s u) ∧
    (∀ (ok0 ok36 : Bool) (c : CipCmd) (s : State),
      s.chip ≠ .off →
      s.bootFree = true →
      s.storeRuns = true →
      s.cip.cmd = some c →
      (c.op = 1 ∨ c.op = 2) →
      (s.bootBoth ((bootArea bootHealth).1 + (if s.cip.purge.isEmpty then s.stk.hblock else 1 - s.stk.hblock)) ok0 ok36).1 = false →
      s.does (.keyStoreProgrammed ok0 ok36) fun u => u.rd CIP_CMD_STATUS.RESULT = 5 ∧ u.rd CIP_CMD_STATUS.BUSY = 0 ∧ u.cip =
        { s.cip with cmd := none } ∧ u.flt.raised.getLast? = some (Raise.mk 695 s.tick false) ∧ bitAt (evsBit 695).2
        (u.rd (evsBit 695).1) = true ∧ keepsBut [.regs, .stk, .cip, .flt] s u) ∧
    (∀ (s : State),
      s.chip ≠ .off →
      s.storeRuns = true →
      s.cip.purge ≠ [] →
      s.cip.stale = [] →
      (s.bootErase 0 ((bootArea bootHealth).1 + s.stk.hblock)).1 = true →
      ((s.bootErase 0 ((bootArea bootHealth).1 + s.stk.hblock)).2.bootErase 1 ((bootArea bootHealth).1 + s.stk.hblock)).1 = true →
      s.does (.keyStorePurgeDone) fun u => (u.cip = { s.cip with purge := [] } ∧ u.stk.hblock = 1 - s.stk.hblock ∧
        (s.cip.cmd = none → u.rd CIP_STATUS.STORE_BUSY = 0)) ∧ keepsBut [.regs, .stk, .cip, .flt] s u) ∧
    (∀ (s : State),
      s.chip ≠ .off →
      s.storeRuns = true →
      s.cip.purge ≠ [] →
      s.cip.stale = [] →
      (s.bootErase 0 ((bootArea bootHealth).1 + s.stk.hblock)).1 = false →
      s.does (.keyStorePurgeDone) fun u => u.cip = s.cip ∧ u.stk.hblock = s.stk.hblock ∧ keepsBut [.regs, .stk, .cip, .flt]
        s u) ∧
    (∀ (s : State),
      s.chip ≠ .off →
      s.hubOn = true →
      s.does (.drbgHealthFail) fun u => u.rd CIP_STATUS.DRBG_OK = 0 ∧ raisedIn 696 false s u ∧ keepsBut [.regs, .flt] s u ∧
        keepsWords [CIP_STATUS.DRBG_OK.addr, (evsBit 696).1.addr] s u)

/-- Commits of the Core log and its cursor (R531, R532, R538, R539, R540, R541, R543). Commands: CLG_COMMIT_CADENCE, CLG_COMMIT_PENDING, CLG_CADENCE_DUE, CLG_PAGE_PROGRAMMED, CLG_CUR_FETCH, CLG_FETCH_DONE. -/
def Obligations.CoreLog : Prop :=
  (∀ (s : State),
      s.chip ≠ .off →
      s.hubOn = true →
      s.clg.phase = 0 →
      s.on CLG_STATUS.READY = true →
      s.chip ≠ .save →
      s.does (.clgCommitCadence) fun u => u.clg.phase = 1 ∧ u.clg.staging = s.cadenceAggs ∧ u.clg.forming.map (fun r =>
        r.seq) = (List.range (s.cadenceAggs.length + s.clg.pend.length)).map (fun i => s.rd CLG_SEQ.SEQ + 1 + i) ∧
        u.clg.pend = s.clg.pend ∧ u.clg.log = s.clg.log ∧ u.rd CLG_STATUS.BUSY = 1 ∧ u.rd CLG_STATUS.RESULT = 0 ∧ u.rd
        CLG_STATUS.REQ = 0 ∧ keepsBut [.regs, .clg, .free] s u ∧ keepsWords [CLG_STATUS.BUSY.addr] s u) ∧
    (∀ (s : State),
      s.chip ≠ .off →
      s.hubOn = true →
      s.clg.phase ≠ 0 →
      s.does (.clgCommitCadence) fun u => u.rd CLG_STATUS.RESULT = 1 ∧ onlyWords [CLG_STATUS.RESULT.addr] s u) ∧
    (∀ (s : State),
      s.chip ≠ .off →
      s.hubOn = true →
      s.clg.phase = 0 →
      (s.on CLG_STATUS.READY = false ∨ s.chip = .save) →
      s.does (.clgCommitCadence) fun u => u.rd CLG_STATUS.RESULT = 3 ∧ onlyWords [CLG_STATUS.RESULT.addr] s u) ∧
    (∀ (s : State),
      s.chip ≠ .off →
      s.hubOn = true →
      s.clg.phase = 0 →
      s.on CLG_STATUS.READY = true →
      s.chip ≠ .save →
      s.does (.clgCommitPending) fun u => u.clg.phase = 1 ∧ u.clg.staging = [] ∧ u.clg.forming.map (fun r => r.seq) =
        (List.range (0 + s.clg.pend.length)).map (fun i => s.rd CLG_SEQ.SEQ + 1 + i) ∧ u.clg.pend = s.clg.pend ∧
        u.clg.log = s.clg.log ∧ u.rd CLG_STATUS.BUSY = 1 ∧ u.rd CLG_STATUS.RESULT = 0 ∧ keepsBut [.regs, .clg, .free]
        s u ∧ keepsWords [CLG_STATUS.BUSY.addr] s u) ∧
    (∀ (s : State),
      s.chip ≠ .off →
      s.hubOn = true →
      s.clg.phase ≠ 0 →
      s.does (.clgCommitPending) fun u => u.rd CLG_STATUS.RESULT = 1 ∧ onlyWords [CLG_STATUS.RESULT.addr] s u) ∧
    (∀ (s : State),
      s.chip ≠ .off →
      s.hubOn = true →
      s.clg.phase = 0 →
      (s.on CLG_STATUS.READY = false ∨ s.chip = .save) →
      s.does (.clgCommitPending) fun u => u.rd CLG_STATUS.RESULT = 3 ∧ onlyWords [CLG_STATUS.RESULT.addr] s u) ∧
    (∀ (s : State),
      s.chip ≠ .off →
      s.hubOn = true →
      s.opSeconds ≠ 0 →
      s.opSeconds % (60 * Nat.max 1 (s.rd CLG_CFG.CADENCE)) = 0 →
      s.does (.clgCadenceDue) fun u => u.rd CLG_STATUS.REQ = 1 ∧ onlyWords [CLG_STATUS.REQ.addr] s u) ∧
    (∀ (ok0 ok36 : Bool) (s : State),
      s.chip ≠ .off →
      s.bootFree = true →
      s.clg.phase ≠ 0 →
      (s.bootBoth s.logBlock ok0 ok36).1 = true →
      s.does (.clgPageProgrammed ok0 ok36) fun u => (u.rd CLG_SEQ.SEQ = (s.rd CLG_SEQ.SEQ + s.clg.forming.length) % 2 ^ 32 ∧
        u.rd CLG_STATUS.BUSY = 0 ∧ u.clg.phase = 0 ∧ u.clg.staging = [] ∧ u.clg.forming = [] ∧ u.clg.live = s.clg.live
        ∧ ((s.rd CLG_SEQ.SEQ + s.clg.forming.length) ≤ 4096 → u.rd CLG_FIRSTN.RECORDS = (s.rd CLG_SEQ.SEQ +
        s.clg.forming.length) ∧ u.rd CLG_OLDEST.SEQ = 0) ∧ ∀ r ∈ s.clg.forming, (s.clg.forming.filter (fun x => x.seq
        == r.seq)).length = 1 → readable (s.rd CLG_SEQ.SEQ + s.clg.forming.length) r.seq = true → SMap.get none r.seq
        u.clg.log = some r) ∧ keepsBut [.regs, .slb, .stk, .res, .flt, .clg] s u) ∧
    (∀ (ok0 ok36 : Bool) (s : State),
      s.chip ≠ .off →
      s.bootFree = true →
      s.clg.phase = 3 →
      (s.bootBoth s.logBlock ok0 ok36).1 = false →
      s.does (.clgPageProgrammed ok0 ok36) fun u => u.rd CLG_STATUS.RESULT = 2 ∧ u.rd CLG_STATUS.BUSY = 0 ∧ u.clg.phase = 0
        ∧ u.clg.staging = [] ∧ u.clg.log = s.clg.log ∧ u.clg.pend = s.clg.pend ∧ u.flt.raised.getLast? = some
        (Raise.mk 694 s.tick false) ∧ bitAt (evsBit 694).2 (u.rd (evsBit 694).1) = true ∧ keepsBut [.regs, .slb, .stk,
        .res, .flt, .clg] s u) ∧
    (∀ (ok0 ok36 : Bool) (s : State),
      s.chip ≠ .off →
      s.bootFree = true →
      (s.clg.phase = 1 ∨ s.clg.phase = 2) →
      (s.bootBoth s.logBlock ok0 ok36).1 = false →
      s.does (.clgPageProgrammed ok0 ok36) fun u => u.clg = { s.clg with phase := 3 } ∧ keepsBut [.regs, .slb, .stk, .res,
        .flt, .clg] s u) ∧
    (∀ (seq : Nat) (s : State),
      s.chip ≠ .off →
      s.hubOn = true →
      seq = liveSeq →
      s.does (.clgCurFetch seq) fun u => u.rd CLG_CUR.SEQ = seq ∧ u.rd CLG_CUR_STATUS.STATE = 0 ∧ u.clg =
        { s.clg with win := none, fetch := none } ∧ keepsBut [.regs, .clg] s u ∧ keepsWords [CLG_CUR.SEQ.addr,
        CLG_CUR_STATUS.STATE.addr] s u) ∧
    (∀ (seq : Nat) (s : State),
      s.chip ≠ .off →
      s.hubOn = true →
      s.rd CLG_SEQ.SEQ < seq →
      seq < liveSeq →
      s.does (.clgCurFetch seq) fun u => u.rd CLG_CUR.SEQ = seq ∧ u.rd CLG_CUR_STATUS.STATE = 3 ∧ u.clg =
        { s.clg with win := none, fetch := none } ∧ keepsBut [.regs, .clg] s u ∧ keepsWords [CLG_CUR.SEQ.addr,
        CLG_CUR_STATUS.STATE.addr] s u) ∧
    (∀ (seq : Nat) (s : State),
      s.chip ≠ .off →
      s.hubOn = true →
      seq < liveSeq →
      readable (s.rd CLG_SEQ.SEQ) seq = true →
      s.does (.clgCurFetch seq) fun u => u.rd CLG_CUR.SEQ = seq ∧ u.rd CLG_CUR_STATUS.STATE = 1 ∧ u.clg =
        { s.clg with win := none, fetch := some seq } ∧ keepsBut [.regs, .clg] s u ∧ keepsWords [CLG_CUR.SEQ.addr,
        CLG_CUR_STATUS.STATE.addr] s u) ∧
    (∀ (seq : Nat) (s : State),
      s.chip ≠ .off →
      s.hubOn = true →
      seq ≤ s.rd CLG_SEQ.SEQ →
      seq < liveSeq →
      readable (s.rd CLG_SEQ.SEQ) seq = false →
      s.does (.clgCurFetch seq) fun u => u.rd CLG_CUR.SEQ = seq ∧ u.rd CLG_CUR_STATUS.STATE = 2 ∧ u.clg =
        { s.clg with win := none, fetch := none } ∧ keepsBut [.regs, .clg] s u ∧ keepsWords [CLG_CUR.SEQ.addr,
        CLG_CUR_STATUS.STATE.addr] s u) ∧
    (∀ (bad : Bool) (n : Nat) (s : State),
      s.chip ≠ .off →
      s.clg.fetch = some n →
      bad = false →
      s.does (.clgFetchDone bad) fun u => u.clg = { s.clg with win := SMap.get none n s.clg.log, fetch := none } ∧ u.rd
        CLG_CUR_STATUS.STATE = (if (SMap.get none n s.clg.log).isSome then 0 else 2) ∧ keepsBut [.regs, .clg] s u ∧
        keepsWords [CLG_CUR_STATUS.STATE.addr] s u) ∧
    (∀ (bad : Bool) (s : State),
      s.chip ≠ .off →
      s.clg.fetch.isSome = true →
      bad = true →
      s.does (.clgFetchDone bad) fun u => u.clg = { s.clg with win := none, fetch := none } ∧ u.rd CLG_CUR_STATUS.STATE = 2
        ∧ keepsBut [.regs, .clg] s u ∧ keepsWords [CLG_CUR_STATUS.STATE.addr] s u)

/-- TW0 as the BMC’s target (part 1 of 2) (R548, R549, R550, R551, R552, R554). Commands: TW0_MCTP, TW0_REG_ADDR, TW0_REG_DATA_WRITE, TW0_REG_DATA_READ. -/
def Obligations.TwoWireTargetFirst : Prop :=
  (∀ (bytes : List Byte) (pec : PecIn) (s : State),
      s.chip ≠ .off →
      s.pecRefused pec = false →
      s.mctpTakes = true →
      s.does (.tw0Mctp bytes pec) fun u => u.twb =
        { s.twb with ports := SMap.put TwPort.reset 0 { s.tw 0 with timeouts := 0 } s.twb.ports, mctp := s.twb.mctp + 1 }
        ∧ u.rd (TWB_STATUS.STATE 0) = (if (s.tw 0).cur.isSome then twBusy else if s.chip = .bedrock then twSleep else
        twIdle) ∧ keepsBut [.regs, .twb] s u ∧ keepsWords [(TWB_STATUS.STATE 0).addr] s u) ∧
    (∀ (bytes : List Byte) (pec : PecIn) (s : State),
      s.chip ≠ .off →
      s.mctpTakes = false →
      s.does (.tw0Mctp bytes pec) fun u => u.twb =
        { s.twb with ports := SMap.put TwPort.reset 0 { s.tw 0 with timeouts := 0 } s.twb.ports } ∧ u.out = .tw0Nack
        :: s.out ∧ u.rd (TWB_STATUS.STATE 0) = (if (s.tw 0).cur.isSome then twBusy else if s.chip = .bedrock then
        twSleep else twIdle) ∧ keepsBut [.regs, .twb, .out] s u ∧ keepsWords [(TWB_STATUS.STATE 0).addr] s u) ∧
    (∀ (addr : Nat) (pec : PecIn) (s : State),
      s.chip ≠ .off →
      s.pecRefused pec = true →
      s.does (.tw0RegAddr addr pec) fun u => u.twb =
        { s.twb with ports := SMap.put TwPort.reset 0 { s.tw 0 with timeouts := 0 } s.twb.ports } ∧ u.rd
        TWB_T0.PEC_FAIL = min (s.rd TWB_T0.PEC_FAIL + 1) (2 ^ (TWB_T0.PEC_FAIL).width - 1) ∧ raisedIn 659 false s u ∧
        u.rd TWB_REGADDR.ADDR = s.rd TWB_REGADDR.ADDR ∧ keepsBut [.regs, .twb, .flt] s u ∧ keepsWords
        [(TWB_STATUS.STATE 0).addr, TWB_T0.PEC_FAIL.addr, (evsBit (659)).1.addr] s u) ∧
    (∀ (data : Word) (pec : PecIn) (s : State),
      s.chip ≠ .off →
      s.pecRefused pec = true →
      s.does (.tw0RegDataWrite data pec) fun u => u.twb =
        { s.twb with ports := SMap.put TwPort.reset 0 { s.tw 0 with timeouts := 0 } s.twb.ports } ∧ u.rd
        TWB_T0.PEC_FAIL = min (s.rd TWB_T0.PEC_FAIL + 1) (2 ^ (TWB_T0.PEC_FAIL).width - 1) ∧ raisedIn 659 false s u ∧
        u.rd TWB_REGADDR.ADDR = s.rd TWB_REGADDR.ADDR ∧ keepsBut [.regs, .twb, .flt] s u ∧ keepsWords
        [(TWB_STATUS.STATE 0).addr, TWB_T0.PEC_FAIL.addr, (evsBit (659)).1.addr] s u) ∧
    (∀ (addr : Nat) (pec : PecIn) (s : State),
      s.chip ≠ .off →
      s.pecRefused pec = false →
      addr % 4 = 0 →
      addr < 2 ^ 26 →
      s.does (.tw0RegAddr addr pec) fun u => u.twb =
        { s.twb with ports := SMap.put TwPort.reset 0 { s.tw 0 with timeouts := 0 } s.twb.ports } ∧ u.rd
        TWB_REGADDR.ADDR * 4 = addr ∧ u.rd (TWB_STATUS.STATE 0) = (if (s.tw 0).cur.isSome then twBusy else if s.chip =
        .bedrock then twSleep else twIdle) ∧ keepsBut [.regs, .twb] s u ∧ keepsWords [(TWB_STATUS.STATE 0).addr,
        TWB_REGADDR.ADDR.addr] s u) ∧
    (∀ (data : Word) (pec : PecIn) (s : State),
      s.chip ≠ .off →
      s.pecRefused pec = false →
      bmcWrites s.regAddr = false →
      s.does (.tw0RegDataWrite data pec) fun u => u.rd TWB_REGADDR.ADDR = (s.rd TWB_REGADDR.ADDR + 1) % 2 ^
        (TWB_REGADDR.ADDR).width ∧ u.twb =
        { s.twb with ports := SMap.put TwPort.reset 0 { s.tw 0 with timeouts := 0 } s.twb.ports } ∧ u.rd
        TWB_T0.REFUSED = min (s.rd TWB_T0.REFUSED + 1) (2 ^ (TWB_T0.REFUSED).width - 1) ∧ keepsBut [.regs, .twb] s u ∧
        keepsWords [(TWB_STATUS.STATE 0).addr, TWB_REGADDR.ADDR.addr, TWB_T0.REFUSED.addr] s u) ∧
    (∀ (data : Word) (pec : PecIn) (s : State),
      s.chip ≠ .off →
      s.pecRefused pec = false →
      s.regAddr = 0x50054 →
      0 < data.toNat % 2 ^ 16 →
      s.does (.tw0RegDataWrite data pec) fun u => u.rd TWB_ALRT_CTL.REARM = data.toNat % 2 ^ 16 ∧ u.rd TWB_REGADDR.ADDR =
        (s.rd TWB_REGADDR.ADDR + 1) % 2 ^ (TWB_REGADDR.ADDR).width ∧ u.twb =
        { s.twb with ports := SMap.put TwPort.reset 0 { s.tw 0 with timeouts := 0 } s.twb.ports } ∧ keepsBut [.regs,
        .tick, .chip, .fuse, .bed, .svy, .slb, .lgr, .adm, .haul, .save, .stk, .saves, .res, .dch, .ports, .nv, .job,
        .cip, .gal, .seq, .clk, .flt, .clg, .twb, .fwm, .pin, .out, .free] s u) ∧
    (∀ (s : State),
      s.chip ≠ .off →
      bmcReads s.regAddr = true →
      s.does (.tw0RegDataRead) fun u => (u.rd TWB_REGADDR.ADDR = (s.rd TWB_REGADDR.ADDR + 1) % 2 ^ (TWB_REGADDR.ADDR).width
        ∧ u.twb = { s.twb with ports := SMap.put TwPort.reset 0 { s.tw 0 with timeouts := 0 } s.twb.ports } ∧
        u.out.tail = s.out ∧ (s.regAddr = 0x24 → u.out.head? = some (.tw0 (wordBytes (BitVec.ofNat 32 s.tick)))) ∧
        (s.regAddr = 0x50054 → u.out.head? = some (.tw0 (wordBytes (s.word 0x50054))))) ∧ keepsBut [.regs, .twb, .out]
        s u ∧ keepsWords [(TWB_STATUS.STATE 0).addr, TWB_REGADDR.ADDR.addr] s u) ∧
    (∀ (s : State),
      s.chip ≠ .off →
      bmcReads s.regAddr = false →
      s.does (.tw0RegDataRead) fun u => u.rd TWB_REGADDR.ADDR = (s.rd TWB_REGADDR.ADDR + 1) % 2 ^ (TWB_REGADDR.ADDR).width ∧
        u.twb = { s.twb with ports := SMap.put TwPort.reset 0 { s.tw 0 with timeouts := 0 } s.twb.ports } ∧ u.out =
        .tw0 [0, 0, 0, 0] :: s.out ∧ u.rd TWB_T0.REFUSED = min (s.rd TWB_T0.REFUSED + 1) (2 ^ (TWB_T0.REFUSED).width -
        1) ∧ keepsBut [.regs, .twb, .out] s u ∧ keepsWords [(TWB_STATUS.STATE 0).addr, TWB_REGADDR.ADDR.addr,
        TWB_T0.REFUSED.addr] s u)

/-- TW0 as the BMC’s target (part 2 of 2) (R548, R549, R550, R551, R552, R554). Commands: TW0_ALERT_READ, TW0_UNKNOWN_COMMAND, TW0_ARA_READ, SMBALERT_REARM, TW0_SLEEP, TW0_SCL_TIMEOUT. -/
def Obligations.TwoWireTargetSecond : Prop :=
  (∀ (s : State),
      s.chip ≠ .off →
      s.does (.tw0AlertRead) fun u => u.twb =
        { s.twb with ports := SMap.put TwPort.reset 0 { s.tw 0 with timeouts := 0 } s.twb.ports } ∧ u.rd
        (TWB_STATUS.STATE 0) = (if (s.tw 0).cur.isSome then twBusy else if s.chip = .bedrock then twSleep else twIdle)
        ∧ u.out = .tw0 (wordBytes (s.regRead none TWB_ALRT_CAUSE.CAUSE.addr)) :: s.out ∧ u.rd TWB_ALRT_CAUSE.CAUSE =
        s.rd TWB_ALRT_CAUSE.CAUSE ∧ keepsBut [.regs, .twb, .out] s u ∧ keepsWords [(TWB_STATUS.STATE 0).addr] s u) ∧
    (∀ (code : Nat) (s : State),
      s.chip ≠ .off →
      code ∉ [0x0F, 0x10, 0x11, 0x12] →
      s.does (.tw0UnknownCommand code) fun u => u.twb =
        { s.twb with ports := SMap.put TwPort.reset 0 { s.tw 0 with timeouts := 0 } s.twb.ports } ∧ u.rd
        (TWB_STATUS.STATE 0) = (if (s.tw 0).cur.isSome then twBusy else if s.chip = .bedrock then twSleep else twIdle)
        ∧ u.out = .tw0Nack :: s.out ∧ raisedIn 659 false s u ∧ keepsBut [.regs, .twb, .out, .flt] s u ∧ keepsWords
        [(TWB_STATUS.STATE 0).addr, (evsBit (659)).1.addr] s u) ∧
    (∀ (won : Bool) (s : State),
      s.chip ≠ .off →
      s.twb.alert = true →
      won = true →
      s.does (.tw0AraRead won) fun u => u.twb =
        { s.twb with ports := SMap.put TwPort.reset 0 { s.tw 0 with timeouts := 0 } s.twb.ports, alert := false } ∧
        u.out = .tw0 [s.rd TWB_T0.ADDR * 2] :: s.out ∧ keepsBut [.regs, .twb, .out] s u ∧ keepsWords
        [(TWB_STATUS.STATE 0).addr] s u) ∧
    (∀ (won : Bool) (s : State),
      s.chip ≠ .off →
      (s.twb.alert = false ∨ won = false) →
      s.does (.tw0AraRead won) fun u => u.twb.alert = s.twb.alert ∧ keepsBut [] s u) ∧
    (∀ (s : State),
      s.chip ≠ .off →
      Nat.land (s.rd TWB_ALRT_CAUSE.CAUSE) (s.rd TWB_ALRT_EN.EN) ≠ 0 →
      s.twb.alertTick + s.rd TWB_ALRT_CTL.REARM * 32768 / 1000 ≤ s.tick + 1 →
      s.does (.smbalertRearm) fun u => u.twb = { s.twb with alert := true, alertTick := s.tick + 1 } ∧ keepsBut [.twb] s u) ∧
    (∀ (s : State),
      s.chip ≠ .off →
      (s.tw 0).cur = none →
      s.does (.tw0Sleep) fun u => u.rd (TWB_STATUS.STATE 0) = twSleep ∧ onlyWords [(TWB_STATUS.STATE 0).addr] s u) ∧
    (∀ (s : State),
      s.chip ≠ .off →
      (s.tw 0).timeouts ≠ 2 →
      s.does (.tw0SclTimeout) fun u => u.rd (TWB_STATUS.STATE 0) = twIdle ∧ (u.tw 0).timeouts = (s.tw 0).timeouts + 1 ∧
        (u.tw 0).cur = (s.tw 0).cur ∧ u.rd (TWB_CNT2.TIMEOUTS 0) = min (s.rd (TWB_CNT2.TIMEOUTS 0) + 1) (2 ^
        ((TWB_CNT2.TIMEOUTS 0)).width - 1) ∧ keepsBut [.regs, .twb] s u ∧ keepsWords [(TWB_STATUS.STATE 0).addr,
        (TWB_CNT2.TIMEOUTS 0).addr] s u) ∧
    (∀ (s : State),
      s.chip ≠ .off →
      (s.tw 0).timeouts = 2 →
      s.does (.tw0SclTimeout) fun u => u.rd (TWB_STATUS.STATE 0) = twIdle ∧ (u.tw 0).timeouts = 0 ∧ raisedIn 658 false s u ∧
        u.rd (TWB_CNT2.TIMEOUTS 0) = min (s.rd (TWB_CNT2.TIMEOUTS 0) + 1) (2 ^ ((TWB_CNT2.TIMEOUTS 0)).width - 1) ∧
        keepsBut [.regs, .twb, .flt] s u ∧ keepsWords [(TWB_STATUS.STATE 0).addr, (TWB_CNT2.TIMEOUTS 0).addr, (evsBit
        (658)).1.addr] s u)

/-- The two-wire ports as controllers (part 1 of 2) (R555, R556, R557, R559, R560, R561, R562, R563). Commands: TWB_GO, TW_TRANSACTION_DONE, TW_ADDR_NACK_RETRY, TW_STRETCH_TIMEOUT. -/
def Obligations.TwoWireControllerFirst : Prop :=
  (∀ (port : Nat) (s : State),
      s.chip ≠ .off →
      port < 8 →
      s.twLive port = true →
      s.hubOn = true →
      s.on (TWB_XSTAT.BUSY port) = false →
      s.rd (TWB_STATUS.STATE port) ≠ twStuck →
      s.does (.twbGo port) fun u => (u.tw port).cur = some ⟨0, 0, false⟩ ∧ u.rd (TWB_XSTAT.BUSY port) = 1 ∧ u.rd
        (TWB_STATUS.STATE port) = twBusy ∧ u.out = .tw port (if port = 0 then s.bmcAddr else s.rd (TWB_XFER.ADDR
        port)) (s.wbytes port (s.rd (TWB_XFER.WLEN port))) (s.rd (TWB_XFER.RLEN port)) :: s.out ∧ keepsBut [.regs,
        .twb, .out] s u ∧ keepsWords [(TWB_XSTAT.BUSY port).addr, (TWB_STATUS.STATE port).addr] s u) ∧
    (∀ (port : Nat) (s : State),
      s.chip ≠ .off →
      port < 8 →
      s.twLive port = true →
      s.hubOn = true →
      s.on (TWB_XSTAT.BUSY port) = true →
      s.does (.twbGo port) fun u => u.rd (TWB_XSTAT.RESULT port) = 7 ∧ onlyWords [(TWB_XSTAT.BUSY port).addr] s u) ∧
    (∀ (port : Nat) (s : State),
      s.chip ≠ .off →
      port < 8 →
      s.twLive port = true →
      s.hubOn = true →
      s.on (TWB_XSTAT.BUSY port) = false →
      s.rd (TWB_STATUS.STATE port) = twStuck →
      s.does (.twbGo port) fun u => u.rd (TWB_XSTAT.RESULT port) = 5 ∧ onlyWords [(TWB_XSTAT.BUSY port).addr] s u) ∧
    (∀ (port : Nat) (res : TwRes) (bytes : List Byte) (x : TwXact) (n : Nat) (s : State),
      s.chip ≠ .off →
      port < 8 →
      (s.tw port).cur = some x →
      x.waiting = false →
      res = .ok →
      bytes.length = 4 * n →
      bytes.length ≤ s.rd (TWB_XFER.RLEN port) →
      s.does (.twTransactionDone port res bytes) fun u => (u.rd (TWB_XSTAT.BUSY port) = 0 ∧ u.rd (TWB_XSTAT.RESULT port) = 0
        ∧ (u.tw port).cur = none ∧ (u.tw port).told = (s.tw port).told ∧ (s.rd (TWB_STATUS.STATE port) = twBusy → u.rd
        (TWB_STATUS.STATE port) = twIdle) ∧ ∀ i ∈ List.range n, u.rd (TWB_RBUF.DATA port i) = (bytes.getD (4 * i)
        0).toNat + (bytes.getD (4 * i + 1) 0).toNat * 2 ^ 8 + (bytes.getD (4 * i + 2) 0).toNat * 2 ^ 16 + (bytes.getD
        (4 * i + 3) 0).toNat * 2 ^ 24) ∧ keepsBut [.regs, .twb] s u) ∧
    (∀ (port : Nat) (res : TwRes) (bytes : List Byte) (x : TwXact) (s : State),
      s.chip ≠ .off →
      port < 8 →
      (s.tw port).cur = some x →
      x.waiting = false →
      res = .nackAddr →
      x.nacks < 2 →
      s.does (.twTransactionDone port res bytes) fun u => (u.tw port).cur = some
        { x with nacks := x.nacks + 1, waiting := true } ∧ keepsBut [.twb] s u) ∧
    (∀ (port : Nat) (res : TwRes) (bytes : List Byte) (x : TwXact) (s : State),
      s.chip ≠ .off →
      port < 8 →
      (s.tw port).cur = some x →
      x.waiting = false →
      res = .nackAddr →
      2 ≤ x.nacks →
      s.does (.twTransactionDone port res bytes) fun u => (u.rd (TWB_XSTAT.BUSY port) = 0 ∧ u.rd (TWB_XSTAT.RESULT port) = 1
        ∧ (u.tw port).cur = none ∧ (u.tw port).told = (s.tw port).told ∧ (s.rd (TWB_STATUS.STATE port) = twBusy → u.rd
        (TWB_STATUS.STATE port) = twIdle) ∧ u.rd (TWB_CNT.NACKS port) = min (s.rd (TWB_CNT.NACKS port) + 1) (2 ^
        ((TWB_CNT.NACKS port)).width - 1)) ∧ keepsBut [.regs, .twb] s u ∧ keepsWords [(TWB_XSTAT.BUSY port).addr,
        (TWB_STATUS.STATE port).addr, (TWB_CNT.NACKS port).addr] s u) ∧
    (∀ (port : Nat) (res : TwRes) (bytes : List Byte) (x : TwXact) (s : State),
      s.chip ≠ .off →
      port < 8 →
      (s.tw port).cur = some x →
      x.waiting = false →
      (res = .nackData ∨ (res = .pec ∧ s.on (TWB_XFER.PEC port) = true)) →
      s.does (.twTransactionDone port res bytes) fun u => (u.rd (TWB_XSTAT.BUSY port) = 0 ∧ u.rd (TWB_XSTAT.RESULT port) =
        (if res = .nackData then 2 else 6) ∧ (u.tw port).cur = none ∧ (u.tw port).told = (s.tw port).told ∧ (s.rd
        (TWB_STATUS.STATE port) = twBusy → u.rd (TWB_STATUS.STATE port) = twIdle) ∧ u.rd (TWB_CNT.NACKS port) = min
        (s.rd (TWB_CNT.NACKS port) + 1) (2 ^ ((TWB_CNT.NACKS port)).width - 1)) ∧ keepsBut [.regs, .twb] s u ∧
        keepsWords [(TWB_XSTAT.BUSY port).addr, (TWB_STATUS.STATE port).addr, (TWB_CNT.NACKS port).addr] s u) ∧
    (∀ (port : Nat) (x : TwXact) (s : State),
      s.chip ≠ .off →
      port < 8 →
      (s.tw port).cur = some x →
      x.waiting = true →
      s.does (.twAddrNackRetry port) fun u => (u.tw port).cur = some { x with waiting := false } ∧ u.rd (TWB_STATUS.STATE
        port) = twBusy ∧ u.out.tail = s.out ∧ keepsBut [.regs, .twb, .out] s u ∧ keepsWords [(TWB_STATUS.STATE
        port).addr] s u) ∧
    (∀ (port : Nat) (x : TwXact) (s : State),
      s.chip ≠ .off →
      port < 8 →
      (s.tw port).cur = some x →
      x.waiting = false →
      s.does (.twStretchTimeout port) fun u => (u.rd (TWB_XSTAT.BUSY port) = 0 ∧ u.rd (TWB_XSTAT.RESULT port) = 4 ∧ (u.tw
        port).cur = none ∧ (u.tw port).told = (s.tw port).told ∧ (s.rd (TWB_STATUS.STATE port) = twBusy → u.rd
        (TWB_STATUS.STATE port) = twIdle) ∧ u.rd (TWB_CNT2.TIMEOUTS port) = min (s.rd (TWB_CNT2.TIMEOUTS port) + 1) (2
        ^ ((TWB_CNT2.TIMEOUTS port)).width - 1)) ∧ keepsBut [.regs, .twb] s u ∧ keepsWords [(TWB_XSTAT.BUSY
        port).addr, (TWB_STATUS.STATE port).addr, (TWB_CNT2.TIMEOUTS port).addr] s u)

/-- The two-wire ports as controllers (part 2 of 2) (R555, R556, R557, R559, R560, R561, R562, R563). Commands: TW_TRANSACTION_DONE, ARBITRATION_LOST, BUS_STUCK_RECOVERY, BUS_STUCK_RETRY, TW_ALERT_INPUT. -/
def Obligations.TwoWireControllerSecond : Prop :=
  (∀ (port : Nat) (res : TwRes) (bytes : List Byte) (x : TwXact) (s : State),
      s.chip ≠ .off →
      port < 8 →
      (s.tw port).cur = some x →
      x.waiting = false →
      res = .pec →
      s.on (TWB_XFER.PEC port) = false →
      s.does (.twTransactionDone port res bytes) fun u => (u.rd (TWB_XSTAT.BUSY port) = 0 ∧ u.rd (TWB_XSTAT.RESULT port) = 0
        ∧ (u.tw port).cur = none ∧ (u.tw port).told = (s.tw port).told ∧ (s.rd (TWB_STATUS.STATE port) = twBusy → u.rd
        (TWB_STATUS.STATE port) = twIdle) ∧ u.rd (TWB_CNT.NACKS port) = s.rd (TWB_CNT.NACKS port)) ∧ keepsBut [.regs,
        .twb] s u) ∧
    (∀ (port : Nat) (own : Bool) (x : TwXact) (s : State),
      s.chip ≠ .off →
      port < 8 →
      s.twLive port = true →
      own = false →
      (s.tw port).cur = some x →
      x.losses < 8 →
      s.does (.arbitrationLost port own) fun u => ((u.tw port).cur = some { x with losses := x.losses + 1 } ∧ u.rd
        (TWB_CNT.ARBLOST port) = min (s.rd (TWB_CNT.ARBLOST port) + 1) (2 ^ ((TWB_CNT.ARBLOST port)).width - 1) ∧
        (x.waiting = false → u.rd (TWB_STATUS.STATE port) = 2) ∧ (x.waiting = true → u.out = s.out)) ∧ keepsBut
        [.regs, .twb, .out] s u ∧ keepsWords [(TWB_CNT.ARBLOST port).addr, (TWB_STATUS.STATE port).addr] s u) ∧
    (∀ (port : Nat) (own : Bool) (x : TwXact) (s : State),
      s.chip ≠ .off →
      port < 8 →
      s.twLive port = true →
      own = false →
      (s.tw port).cur = some x →
      8 ≤ x.losses →
      s.does (.arbitrationLost port own) fun u => (u.rd (TWB_XSTAT.BUSY port) = 0 ∧ u.rd (TWB_XSTAT.RESULT port) = 3 ∧ (u.tw
        port).cur = none ∧ (u.tw port).told = (s.tw port).told ∧ (s.rd (TWB_STATUS.STATE port) = twBusy → u.rd
        (TWB_STATUS.STATE port) = twIdle) ∧ u.rd (TWB_CNT.ARBLOST port) = min (s.rd (TWB_CNT.ARBLOST port) + 1) (2 ^
        ((TWB_CNT.ARBLOST port)).width - 1)) ∧ keepsBut [.regs, .twb] s u ∧ keepsWords [(TWB_XSTAT.BUSY port).addr,
        (TWB_STATUS.STATE port).addr, (TWB_CNT.ARBLOST port).addr] s u) ∧
    (∀ (port : Nat) (own : Bool) (s : State),
      s.chip ≠ .off →
      port = 7 →
      s.twLive port = true →
      own = true →
      (s.tw port).cur = none →
      s.does (.arbitrationLost port own) fun u => (u.rd (TWB_CNT.ARBLOST port) = min (s.rd (TWB_CNT.ARBLOST port) + 1) (2 ^
        ((TWB_CNT.ARBLOST port)).width - 1) ∧ (s.hasTw7 = true → u.out = .tw7 s.twinWord :: s.out)) ∧ keepsBut [.regs,
        .out] s u ∧ keepsWords [(TWB_CNT.ARBLOST port).addr] s u) ∧
    (∀ (port rounds : Nat) (freed : Bool) (s : State),
      s.chip ≠ .off →
      port < 8 →
      s.twLive port = true →
      port ≠ 0 →
      freed = true →
      s.does (.busStuckRecovery port rounds freed) fun u => u.rd (TWB_STATUS.STATE port) = (if (s.tw port).cur.isSome then
        twBusy else twIdle) ∧ u.rd (TWB_STATUS.ROUNDS port) = min rounds 3 ∧ (u.tw port).told = false ∧ (u.tw
        port).cur = (s.tw port).cur ∧ u.rd (TWB_CNT2.RECOVERS port) = min (s.rd (TWB_CNT2.RECOVERS port) + 1) (2 ^
        ((TWB_CNT2.RECOVERS port)).width - 1) ∧ keepsBut [.regs, .twb] s u ∧ keepsWords [(TWB_STATUS.STATE port).addr,
        (TWB_CNT2.RECOVERS port).addr] s u) ∧
    (∀ (port rounds : Nat) (freed : Bool) (s : State),
      s.chip ≠ .off →
      port < 8 →
      s.twLive port = true →
      port ≠ 0 →
      freed = false →
      s.does (.busStuckRecovery port rounds freed) fun u => (u.rd (TWB_STATUS.STATE port) = twStuck ∧ u.rd
        (TWB_STATUS.ROUNDS port) = min rounds 3 ∧ (u.tw port).told = true ∧ (u.tw port).cur = none ∧ ((s.tw
        port).cur.isSome = true → u.rd (TWB_XSTAT.RESULT port) = 5 ∧ u.rd (TWB_XSTAT.BUSY port) = 0) ∧ ((s.tw
        port).told = false → raisedIn (658 + 2 * port) false s u)) ∧ keepsBut [.regs, .ports, .seq, .flt, .twb] s u) ∧
    (∀ (port rounds : Nat) (freed : Bool) (s : State),
      s.chip ≠ .off →
      port < 8 →
      s.twLive port = true →
      s.rd (TWB_STATUS.STATE port) = twStuck →
      freed = true →
      s.does (.busStuckRetry port rounds freed) fun u => u.rd (TWB_STATUS.STATE port) = (if (s.tw port).cur.isSome then
        twBusy else twIdle) ∧ u.rd (TWB_STATUS.ROUNDS port) = min rounds 3 ∧ (u.tw port).told = false ∧ (u.tw
        port).cur = (s.tw port).cur ∧ u.rd (TWB_CNT2.RECOVERS port) = min (s.rd (TWB_CNT2.RECOVERS port) + 1) (2 ^
        ((TWB_CNT2.RECOVERS port)).width - 1) ∧ keepsBut [.regs, .twb] s u ∧ keepsWords [(TWB_STATUS.STATE port).addr,
        (TWB_CNT2.RECOVERS port).addr] s u) ∧
    (∀ (port rounds : Nat) (freed : Bool) (s : State),
      s.chip ≠ .off →
      port < 8 →
      s.twLive port = true →
      s.rd (TWB_STATUS.STATE port) = twStuck →
      freed = false →
      s.does (.busStuckRetry port rounds freed) fun u => (u.rd (TWB_STATUS.STATE port) = twStuck ∧ u.rd (TWB_STATUS.ROUNDS
        port) = min rounds 3 ∧ (u.tw port).told = true ∧ (u.tw port).cur = none ∧ ((s.tw port).cur.isSome = true →
        u.rd (TWB_XSTAT.RESULT port) = 5 ∧ u.rd (TWB_XSTAT.BUSY port) = 0) ∧ ((s.tw port).told = false → raisedIn (658
        + 2 * port) false s u)) ∧ keepsBut [.regs, .ports, .seq, .flt, .twb] s u) ∧
    (∀ (port : Nat) (addr : Option Nat) (n : Nat) (s : State),
      s.chip ≠ .off →
      port < 8 →
      s.twLive port = true →
      port ≠ 0 →
      addr = some n →
      n < 128 →
      s.does (.twAlertInput port addr) fun u => u.rd (TWB_ARA.ADDR port) = n ∧ u.rd (TWB_ARA.VALID port) = 1 ∧ onlyWords
        [(TWB_ARA.ADDR port).addr] s u) ∧
    (∀ (port : Nat) (addr : Option Nat) (s : State),
      s.chip ≠ .off →
      port < 8 →
      s.twLive port = true →
      port ≠ 0 →
      addr = none →
      s.does (.twAlertInput port addr) fun u => u.rd (TWB_ARA.VALID port) = 0 ∧ u.rd (TWB_ARA.ADDR port) = s.rd
        (TWB_ARA.ADDR port) ∧ onlyWords [(TWB_ARA.ADDR port).addr] s u)

/-- Gallery links train, agree, send heartbeats and go down (part 1 of 2) (R435, R439, R443, R445, R446, R452, R453, R454, R461, R558). Commands: GALLERY_LINK_TRAINED, HELLO, HEARTBEAT, HEARTBEAT_SEND. -/
def Obligations.GalleryLinksFirst : Prop :=
  (∀ (link rate width : Nat) (s : State),
      s.chip ≠ .off →
      link < 2 →
      s.isl (islGal link) = islOn →
      s.hasSec secTwin = true →
      s.svOn (TWIN.GL_EN link) = true →
      (s.rd (GAL_LINK.STATE link) = 0 ∨ s.rd (GAL_LINK.STATE link) = 1) →
      rate ≠ 0 →
      width ≠ 0 →
      s.does (.galleryLinkTrained link rate width) fun u => u.rd (GAL_LINK.STATE link) = 2 ∧ u.rd (GAL_LINK.RATE link) = min
        rate 3 ∧ u.rd (GAL_LINK.WIDTH link) = min width 2 ∧ bitAt link (u.rd GAL_STATUS.LINKS) = true ∧ u.out = .gal
        ⟨1, 0, 0, 0, 0, [], [s.sv TWIN.PAIR_ID, s.sv TWIN.ROLE, s.svy.pairDig.toNat, s.gal.epoch.toNat, s.rd
        GAL_STATUS.SOLO, s.chip.code], 0⟩ :: s.out ∧ u.gal =
        { s.gal with hello := s.gal.hello.set link false, lastFlit := s.gal.lastFlit.set link s.tick } ∧ keepsBut
        [.regs, .gal, .out] s u ∧ keepsWords [(GAL_LINK.STATE link).addr, GAL_STATUS.LINKS.addr] s u) ∧
    (∀ (link rate width : Nat) (s : State),
      s.chip ≠ .off →
      link < 2 →
      s.isl (islGal link) = islOn →
      s.hasSec secTwin = true →
      s.svOn (TWIN.GL_EN link) = true →
      (s.rd (GAL_LINK.STATE link) = 0 ∨ s.rd (GAL_LINK.STATE link) = 1) →
      (rate = 0 ∨ width = 0) →
      s.does (.galleryLinkTrained link rate width) fun u => u.rd (GAL_LINK.STATE link) = 3 ∧ raisedIn (553 + 4 * link) false
        s u ∧ keepsBut [.regs, .flt] s u ∧ keepsWords [(GAL_LINK.STATE link).addr, (evsBit (553 + 4 * link)).1.addr] s
        u) ∧
    (∀ (link : Nat) (h : HelloIn) (s : State),
      s.chip ≠ .off →
      link < 2 →
      s.working = true →
      s.rd (GAL_LINK.STATE link) = 2 →
      s.gal.hello.getD link false = false →
      (h.pairId ≠ s.sv TWIN.PAIR_ID ∨ h.role ≠ 1 - s.sv TWIN.ROLE ∨ h.digest ≠ s.svy.pairDig) →
      s.does (.hello link h) fun u => u.rd (GAL_LINK.STATE link) = 4 ∧ bitAt link (u.rd GAL_STATUS.LINKS) = false ∧ raisedIn
        (553 + 4 * link) false s u ∧ keepsBut [.regs, .flt] s u ∧ keepsWords [(GAL_LINK.STATE link).addr,
        GAL_STATUS.LINKS.addr, (evsBit (553 + 4 * link)).1.addr] s u) ∧
    (∀ (link : Nat) (h : HelloIn) (s : State),
      s.chip ≠ .off →
      link < 2 →
      s.working = true →
      s.rd (GAL_LINK.STATE link) = 2 →
      s.gal.hello.getD link false = false →
      h.pairId = s.sv TWIN.PAIR_ID →
      h.role = 1 - s.sv TWIN.ROLE →
      h.digest = s.svy.pairDig →
      (s.galUp = true ∨ s.galMode = modeLeft) →
      s.does (.hello link h) fun u => u.gal =
        { s.gal with hello := s.gal.hello.set link true, lastFlit := s.gal.lastFlit.set link s.tick, peerEpoch := h.epoch }
        ∧ u.rd GAL_PEER.CHIP = h.chip % 8 ∧ keepsBut [.regs, .gal] s u ∧ keepsWords [GAL_PEER.CHIP.addr] s u) ∧
    (∀ (link : Nat) (h : HelloIn) (s : State),
      s.chip ≠ .off →
      link < 2 →
      s.working = true →
      s.rd (GAL_LINK.STATE link) = 2 →
      s.gal.hello.getD link false = false →
      h.pairId = s.sv TWIN.PAIR_ID →
      h.role = 1 - s.sv TWIN.ROLE →
      h.digest = s.svy.pairDig →
      s.galUp = false →
      s.galMode ≠ modeLeft →
      s.on GAL_STATUS.SOLO = true →
      h.solo = false →
      s.does (.hello link h) fun u => u.galMode = modeRslvSrc ∧ u.rd GAL_RSLV.KIND = (if h.fresh || h.epoch !=
        s.gal.joinEpoch then 2 else 1) ∧ u.rd GAL_STATUS.SOLO = 1 ∧ u.gal.epoch = s.gal.epoch ∧ keepsBut [.regs,
        .tick, .slb, .save, .stk, .res, .dch, .ports, .nv, .job, .cip, .gal, .seq, .flt, .fwm, .out] s u) ∧
    (∀ (link : Nat) (h : HelloIn) (s : State),
      s.chip ≠ .off →
      link < 2 →
      s.working = true →
      s.rd (GAL_LINK.STATE link) = 2 →
      s.gal.hello.getD link false = false →
      h.pairId = s.sv TWIN.PAIR_ID →
      h.role = 1 - s.sv TWIN.ROLE →
      h.digest = s.svy.pairDig →
      s.galUp = false →
      s.galMode ≠ modeLeft →
      s.on GAL_STATUS.SOLO = false →
      h.solo = true →
      s.does (.hello link h) fun u => (u.galMode = modeRslvDst ∧ u.rd GAL_STATUS.SOLO = 0 ∧ u.rd GAL_RSLV.KIND = (if s.rd
        RES_STATUS.CASE = 0 ∨ h.epoch ≠ s.gal.epoch + 1 then 2 else 1) ∧ ∀ f ∈ faces, u.faceOpen f = false) ∧ keepsBut
        [.regs, .tick, .slb, .save, .stk, .res, .dch, .ports, .nv, .job, .cip, .gal, .seq, .flt, .fwm, .out] s u) ∧
    (∀ (link : Nat) (h : HelloIn) (s : State),
      s.chip ≠ .off →
      link < 2 →
      s.working = true →
      s.rd (GAL_LINK.STATE link) = 2 →
      s.gal.hello.getD link false = false →
      h.pairId = s.sv TWIN.PAIR_ID →
      h.role = 1 - s.sv TWIN.ROLE →
      h.digest = s.svy.pairDig →
      s.galUp = false →
      s.galMode ≠ modeLeft →
      s.on GAL_STATUS.SOLO = true →
      h.solo = true →
      s.gal.kept = false →
      s.on GAL_STATUS.DIVERGED = false →
      s.does (.hello link h) fun u => u.rd GAL_STATUS.DIVERGED = 1 ∧ u.gal.hello = [false, false] ∧ u.rd (GAL_LINK.STATE
        link) = 5 ∧ u.galMode = s.galMode ∧ keepsBut [.regs, .gal, .flt] s u) ∧
    (∀ (link : Nat) (h : HelloIn) (s : State),
      s.chip ≠ .off →
      link < 2 →
      s.working = true →
      s.rd (GAL_LINK.STATE link) = 2 →
      s.gal.hello.getD link false = false →
      h.pairId = s.sv TWIN.PAIR_ID →
      h.role = 1 - s.sv TWIN.ROLE →
      h.digest = s.svy.pairDig →
      s.galUp = false →
      s.galMode ≠ modeLeft →
      s.on GAL_STATUS.SOLO = false →
      h.solo = false →
      h.epoch = s.gal.epoch →
      s.does (.hello link h) fun u => u.galMode = modePaired ∧ u.rd GAL_RSLV.KIND = 3 ∧ u.gal.joinStep = 1 ∧ u.rd
        GAL_RXSEQ.SEQ = 0 ∧ u.gal.epoch = s.gal.epoch ∧ keepsBut [.regs, .tick, .slb, .save, .stk, .res, .dch, .ports,
        .nv, .job, .cip, .gal, .seq, .flt, .fwm, .out] s u) ∧
    (∀ (link chip margin : Nat) (epoch : BitVec 64) (next : Nat) (replays : Nat) (s1 : State) (s : State),
      s.chip ≠ .off →
      s1 = s.noteReplays link replays →
      link < 2 →
      s1.gal.hello.getD link false = true →
      s1.rd (GAL_LINK.STATE link) = 2 →
      s.does (.heartbeat link chip margin epoch next replays) fun u => u.gal =
        { s1.gal with lastFlit := s1.gal.lastFlit.set link s1.tick, lastBeat := s1.tick + 1, peerEpoch := epoch } ∧
        u.rd GAL_PEER.CHIP = chip % 8 ∧ u.rd GAL_PEER.MARGIN = margin % 4 ∧ keepsBut [.regs, .gal] s1 u ∧ keepsWords
        [GAL_PEER.CHIP.addr] s1 u) ∧
    (∀ (s : State),
      s.chip ≠ .off →
      s.galUp = true →
      s.galFull = false →
      s.does (.heartbeatSend) fun u => u.out = .gal ⟨2, 0, 0, 0, 0, [], [s.chip.code, s.margin.code, s.gal.epoch.toNat,
        s.galNext], 0⟩ :: s.out ∧ u.gal = { s.gal with fullFor := 0 } ∧ keepsBut [.gal, .out] s u) ∧
    (∀ (s : State),
      s.chip ≠ .off →
      s.galUp = true →
      s.galFull = true →
      s.does (.heartbeatSend) fun u => (u.out = .gal ⟨2, 0, 0, 0, 0, [], [s.chip.code, s.margin.code, s.gal.epoch.toNat,
        s.galNext], 0⟩ :: s.out ∧ u.gal = { s.gal with fullFor := s.gal.fullFor + 1 } ∧ (s.gal.fullFor + 1 ≠ s.sv
        TWIN.HB_MISS → u.flt = s.flt ∧ u.regs = s.regs)) ∧ keepsBut [.regs, .gal, .flt, .out] s u)

/-- Gallery links train, agree, send heartbeats and go down (part 2 of 2) (R435, R439, R443, R445, R446, R452, R453, R454, R461, R558). Commands: GALLERY_LINK_DOWN, GALLERY_RETRAIN, TW7_STATUS_COMMAND, TWIN_STATUS_READ, TW7_ALERT. -/
def Obligations.GalleryLinksSecond : Prop :=
  (∀ (link : Nat) (s : State),
      s.chip ≠ .off →
      link < 2 →
      s.hubOn = true →
      (s.rd (GAL_LINK.STATE link) = 2 ∨ s.rd (GAL_LINK.STATE link) = 4 ∨ s.rd (GAL_LINK.STATE link) = 5) →
      bitAt (1 - link) (s.rd GAL_STATUS.LINKS) = true →
      s.gal.hello.getD (1 - link) false = true →
      s.does (.galleryLinkDown link) fun u => u.rd (GAL_LINK.STATE link) = 3 ∧ u.rd (GAL_LINK.RATE link) = 0 ∧ u.rd
        (GAL_LINK.WIDTH link) = 0 ∧ bitAt link (u.rd GAL_STATUS.LINKS) = false ∧ u.gal =
        { s.gal with hello := s.gal.hello.set link false } ∧ raisedIn (552 + 4 * link) false s u ∧ keepsBut [.regs,
        .gal, .flt] s u ∧ keepsWords [(GAL_LINK.STATE link).addr, GAL_STATUS.LINKS.addr, (evsBit (552 + 4 *
        link)).1.addr] s u) ∧
    (∀ (link : Nat) (s : State),
      s.chip ≠ .off →
      link < 2 →
      s.hubOn = true →
      s.rd (GAL_LINK.STATE link) = 2 →
      bitAt link (s.rd GAL_STATUS.LINKS) = true →
      s.gal.hello = [link == 0, link == 1] →
      s.working = true →
      s.galMode = modePaired →
      s.twinA = true →
      s.does (.galleryLinkDown link) fun u => u.galMode = modePaired ∧ u.gal =
        { s.gal with hello := [false, false], seen := 0, graceAt := s.tick + 1 } ∧ u.rd (GAL_LINK.STATE link) = 3 ∧
        keepsBut [.regs, .gal, .flt] s u ∧ keepsWords [(GAL_LINK.STATE link).addr, GAL_STATUS.LINKS.addr, (evsBit (552
        + 4 * link)).1.addr] s u) ∧
    (∀ (link : Nat) (s : State),
      s.chip ≠ .off →
      link < 2 →
      s.hubOn = true →
      s.rd (GAL_LINK.STATE link) = 2 →
      bitAt link (s.rd GAL_STATUS.LINKS) = true →
      s.gal.hello = [link == 0, link == 1] →
      s.working = true →
      s.galMode = modePaired →
      s.twinA = false →
      s.does (.galleryLinkDown link) fun u => (u.galMode = modeFenced ∧ u.gal.graceAt = s.tick + 1 ∧ (∀ f ∈ faces,
        u.faceOpen f = false) ∧ u.gal.sent = [] ∧ u.rd (GAL_LINK.STATE link) = 3) ∧ keepsBut [.regs, .tick, .chip,
        .bed, .svy, .slb, .adm, .haul, .save, .stk, .saves, .res, .dch, .ports, .nv, .job, .cip, .gal, .seq, .clk,
        .flt, .clg, .fwm, .out, .free] s u) ∧
    (∀ (link : Nat) (s : State),
      s.chip ≠ .off →
      link < 2 →
      s.isl (islGal link) = islOn →
      s.rd (GAL_LINK.STATE link) = 3 →
      s.does (.galleryRetrain link) fun u => u.rd (GAL_LINK.STATE link) = 1 ∧ onlyWords [(GAL_LINK.STATE link).addr] s u) ∧
    (∀ (s : State),
      s.chip ≠ .off →
      s.hasTw7 = true →
      s.does (.tw7StatusCommand) fun u => u.out = .tw7 s.twinWord :: s.out ∧ keepsBut [.out] s u) ∧
    (∀ (word : Option Word) (absent : Bool) (w : Word) (s : State),
      s.chip ≠ .off →
      s.hasTw7 = true →
      s.hubOn = true →
      word = some w →
      s.gal.graceAt = 0 →
      s.does (.twinStatusRead word absent) fun u => (u.rd TWB_TWIN.WORD = w.toNat ∧ u.gal =
        { s.gal with seen := (if bitsOf 16 16 w.toNat ≠ s.sv TWIN.PAIR_ID % 65536 then (if absent then 3 else 4) else if bitsOf 0 3 w.toNat = 3 ∨ bitsOf 0 3 w.toNat = 4 then 2 else 1) })
        ∧ keepsBut [.regs, .gal] s u ∧ keepsWords [TWB_TWIN.WORD.addr, GAL_PEER.CHIP.addr] s u) ∧
    (∀ (word : Option Word) (absent : Bool) (s : State),
      s.chip ≠ .off →
      s.hasTw7 = true →
      s.hubOn = true →
      word = none →
      s.gal.graceAt = 0 →
      s.does (.twinStatusRead word absent) fun u => u.gal = { s.gal with seen := (if absent then 3 else 4) } ∧ raisedIn 673
        false s u ∧ u.rd (TWB_CNT.NACKS 7) = min (s.rd (TWB_CNT.NACKS 7) + 1) (2 ^ ((TWB_CNT.NACKS 7)).width - 1) ∧
        keepsBut [.regs, .gal, .flt] s u ∧ keepsWords [(TWB_CNT.NACKS 7).addr, (evsBit (673)).1.addr] s u) ∧
    (∀ (word : Option Word) (absent : Bool) (w : Word) (s : State),
      s.chip ≠ .off →
      s.hasTw7 = true →
      s.hubOn = true →
      word = some w →
      s.gal.graceAt = 0 →
      s.does (.tw7Alert word absent) fun u => (u.rd TWB_TWIN.WORD = w.toNat ∧ u.gal =
        { s.gal with seen := (if bitsOf 16 16 w.toNat ≠ s.sv TWIN.PAIR_ID % 65536 then (if absent then 3 else 4) else if bitsOf 0 3 w.toNat = 3 ∨ bitsOf 0 3 w.toNat = 4 then 2 else 1) })
        ∧ keepsBut [.regs, .gal] s u ∧ keepsWords [TWB_TWIN.WORD.addr, GAL_PEER.CHIP.addr] s u) ∧
    (∀ (word : Option Word) (absent : Bool) (s : State),
      s.chip ≠ .off →
      s.hasTw7 = true →
      s.hubOn = true →
      word = none →
      s.gal.graceAt = 0 →
      s.does (.tw7Alert word absent) fun u => u.gal = { s.gal with seen := (if absent then 3 else 4) } ∧ raisedIn 673 false
        s u ∧ u.rd (TWB_CNT.NACKS 7) = min (s.rd (TWB_CNT.NACKS 7) + 1) (2 ^ ((TWB_CNT.NACKS 7)).width - 1) ∧ keepsBut
        [.regs, .gal, .flt] s u ∧ keepsWords [(TWB_CNT.NACKS 7).addr, (evsBit (673)).1.addr] s u) ∧
    (∀ (word : Option Word) (absent : Bool) (s : State),
      s.chip ≠ .off →
      s.hasTw7 = true →
      s.hubOn = true →
      word = none →
      absent = true →
      s.gal.graceAt ≠ 0 →
      s.twinA = true →
      s.does (.twinStatusRead word absent) fun u => u.gal.seen = 3 ∧ u.gal.graceAt = s.gal.graceAt ∧ u.galMode = s.galMode ∧
        keepsBut [.regs, .gal, .flt] s u)

/-- Mirrored writes, orders, acknowledgements and recovery from the twin (R438, R440, R441, R442, R448, R450, R452). Commands: MIRROR, FWD, ORDER, ACK, RECOVER_REQ, RECOVER_DATA. -/
def Obligations.GalleryStream : Prop :=
  (∀ (seq face dpa : Nat) (data : Line) (mask : BitVec 64) (poison : Bool) (devs : Nat) (sram : List (Nat × SramErr)) (bad : Bool) (s1 : State) (k : Nat) (l : Nat) (s : State),
      s.chip ≠ .off →
      s1 = (s.sramAll sram).hubErr bad →
      s1.galTakes = true →
      s1.galPairs = true →
      seq = s1.rd GAL_RXSEQ.SEQ →
      s1.galFull = false →
      s1.mapLine face dpa = some (k, l) →
      s1.dirty k = true →
      (s1.slab (settSlab k)).jobl = false →
      (∀ p ∈ faces, (s1.port p).wbuf = [] ∧ (s1.port p).reads = []) →
      s1.gal.held = [] →
      s1.dch.repairs = [] →
      s1.adm.jobq = [] →
      mask = fullMask →
      poison = false →
      s1.preOpen = false →
      s.does (.mirror seq face dpa data mask poison devs sram bad) fun u => u.lineAt k l = data ∧ u.poisoned k l = false ∧
        u.dirty k = true ∧ u.rd GAL_RXSEQ.SEQ = (seq + 1) % 2 ^ 32 ∧ u.gal.held = [] ∧ keepsBut [.regs, .slb, .adm,
        .stk, .res, .dch, .ports, .nv, .job, .gal, .seq, .flt, .fwm, .out, .free] s1 u) ∧
    (∀ (seq face dpa : Nat) (data : Line) (mask : BitVec 64) (poison : Bool) (devs : Nat) (sram : List (Nat × SramErr)) (bad : Bool) (s1 : State) (k : Nat) (l : Nat) (s : State),
      s.chip ≠ .off →
      s1 = (s.sramAll sram).hubErr bad →
      s1.galTakes = true →
      s1.galPairs = true →
      seq = s1.rd GAL_RXSEQ.SEQ →
      s1.galFull = false →
      s1.mapLine face dpa = some (k, l) →
      s1.dirty k = true →
      (s1.slab (settSlab k)).jobl = true →
      s1.gal.held = [] →
      s.does (.mirror seq face dpa data mask poison devs sram bad) fun u => u.rd GAL_RXSEQ.SEQ = (seq + 1) % 2 ^ 32 ∧
        u.gal.held = [GalIn.mk seq 0 face k l data mask poison 7 0 devs] ∧ u.dch = s1.dch ∧ u.slb.lmap = s1.slb.lmap ∧
        (u.slab (settSlab k)).mask = (s1.slab (settSlab k)).mask ∧ keepsBut [.regs, .slb, .adm, .stk, .res, .dch,
        .ports, .nv, .job, .gal, .seq, .flt, .fwm, .out, .free] s1 u) ∧
    (∀ (tag face dpa : Nat) (data : Line) (mask : BitVec 64) (poison : Bool) (devs : Nat) (sram : List (Nat × SramErr)) (s1 : State) (k : Nat) (l : Nat) (s : State),
      s.chip ≠ .off →
      s1 = s.sramAll sram →
      s1.galTakes = true →
      s1.mirrors = true →
      s1.galRoom = true →
      s1.mapLine face dpa = some (k, l) →
      s1.dirty k = true →
      (s1.slab (settSlab k)).jobl = false →
      (∀ p ∈ faces, (s1.port p).wbuf = [] ∧ (s1.port p).reads = []) →
      s1.gal.held = [] →
      s1.dch.repairs = [] →
      s1.adm.jobq = [] →
      mask = fullMask →
      poison = false →
      s1.preOpen = false →
      s.does (.fwd tag face dpa data mask poison devs sram) fun u => u.lineAt k l = data ∧ u.dirty k = true ∧ u.gal.held =
        [] ∧ u.gal.sent = s1.gal.sent ++ [GalOut.mk (s1.rd GAL_TXSEQ.SEQ) (.order tag ((s1.unmapLine face k l).getD 0)
        k)] ∧ u.rd GAL_TXSEQ.SEQ = (s1.rd GAL_TXSEQ.SEQ + 1) % 2 ^ (GAL_TXSEQ.SEQ).width ∧ keepsBut [.regs, .slb,
        .adm, .stk, .res, .dch, .ports, .nv, .job, .gal, .seq, .flt, .fwm, .out, .free] s1 u) ∧
    (∀ (tag face dpa : Nat) (data : Line) (mask : BitVec 64) (poison : Bool) (devs : Nat) (sram : List (Nat × SramErr)) (s1 : State) (s : State),
      s.chip ≠ .off →
      s1 = s.sramAll sram →
      s1.galTakes = true →
      s1.mirrors = true →
      s1.mapLine face dpa = none →
      s.does (.fwd tag face dpa data mask poison devs sram) fun u => u.gal =
        { s1.gal with sent := s1.gal.sent ++ [GalOut.mk (s1.rd GAL_TXSEQ.SEQ) (.order tag dpa 0)] } ∧ u.rd
        GAL_TXSEQ.SEQ = (s1.rd GAL_TXSEQ.SEQ + 1) % 2 ^ (GAL_TXSEQ.SEQ).width ∧ keepsBut [.regs, .gal, .out] s1 u ∧
        keepsWords [GAL_TXSEQ.SEQ.addr] s1 u) ∧
    (∀ (seq tag : Nat) (x : GalFwd) (e : WEnt) (s : State),
      s.chip ≠ .off →
      s.galTakes = true →
      s.galPairs = true →
      seq = s.rd GAL_RXSEQ.SEQ →
      s.galFull = false →
      s.gal.fwds.find? (fun x => x.tag == tag) = some x →
      x.port < 6 →
      (s.port x.port).wbuf = [e] →
      e.tag = x.wtag →
      x.wtag < mailTag →
      (s.port x.port).perst = false →
      s.on (HPT_STATUS.LINK_UP x.port) = true →
      e.done = false →
      e.wait ≠ .fetch →
      s.dirty e.sett = true →
      (s.slab (settSlab e.sett)).jobl = false →
      s.gal.held = [] →
      s.dch.repairs = [] →
      s.does (.order seq tag) fun u => u.rd GAL_RXSEQ.SEQ = (seq + 1) % 2 ^ 32 ∧ u.gal.fwds = s.gal.fwds.filter (fun y =>
        y.tag != tag) ∧ u.gal.held = [] ∧ u.dirty e.sett = true ∧ .cmp x.port x.wtag ∈ u.out ∧ keepsBut [.regs, .slb,
        .adm, .stk, .res, .dch, .ports, .nv, .job, .gal, .seq, .flt, .fwm, .out, .free] s u) ∧
    (∀ (seq tag : Nat) (s : State),
      s.chip ≠ .off →
      s.galTakes = true →
      s.galPairs = true →
      seq = s.rd GAL_RXSEQ.SEQ →
      s.galFull = false →
      s.gal.fwds.all (fun x => x.tag != tag) = true →
      s.does (.order seq tag) fun u => u.rd GAL_RXSEQ.SEQ = (seq + 1) % 2 ^ 32 ∧ u.gal = s.gal ∧ keepsBut [.regs, .out] s u
        ∧ keepsWords [GAL_RXSEQ.SEQ.addr] s u) ∧
    (∀ (seq : Nat) (map : BitVec 512) (s : State),
      s.chip ≠ .off →
      s.galTakes = true →
      s.galPairs = true →
      seq < 2 ^ 32 →
      (∀ p ∈ faces, (s.port p).wbuf = [] ∧ (s.port p).reads = []) →
      s.does (.ack seq map) fun u => u.rd GAL_ACKSEQ.SEQ = seq ∧ u.gal.sent = s.gal.sent.filter (fun o => !ackCovers seq map
        o.seq) ∧ keepsBut [.regs, .slb, .adm, .stk, .res, .dch, .ports, .job, .gal, .seq, .flt, .fwm, .out, .free] s u) ∧
    (∀ (tag sub face addr : Nat) (devs : SMap Nat) (s : State),
      s.chip ≠ .off →
      s.galTakes = true →
      s.galPairs = true →
      sub = 1 →
      s.mapLine face addr = none →
      s.does (.recoverReq tag sub face addr devs) fun u => u.out = .gal ⟨9, 0, 2, tag, 0, [], [], 0⟩ :: s.out ∧ keepsBut
        [.out] s u) ∧
    (∀ (tag sub face addr : Nat) (devs : SMap Nat) (k : Nat) (l : Nat) (s : State),
      s.chip ≠ .off →
      s.galTakes = true →
      s.galPairs = true →
      sub = 1 →
      s.mapLine face addr = some (k, l) →
      s.gal.joinStep = 0 →
      s.faceOpen (s.slab (settSlab k)).owner = false →
      s.does (.recoverReq tag sub face addr devs) fun u => u.out = .gal ⟨9, 0, 2, tag, 0, [], [], 0⟩ :: s.out ∧ keepsBut
        [.out] s u) ∧
    (∀ (tag sub face addr : Nat) (devs : SMap Nat) (k : Nat) (l : Nat) (s : State),
      s.chip ≠ .off →
      s.galTakes = true →
      s.galPairs = true →
      sub = 1 →
      s.mapLine face addr = some (k, l) →
      s.gal.joinStep = 0 →
      s.faceOpen (s.slab (settSlab k)).owner = true →
      s.settHome k = true →
      s.settState k = .dirty →
      s.preOpen = false →
      SMap.get 0 l devs = 0 →
      s.dch.hard = [] →
      s.rankAnswers k = true →
      s.poisoned k l = false →
      (∀ p ∈ faces, (s.port p).wbuf = [] ∧ (s.port p).reads = []) →
      s.does (.recoverReq tag sub face addr devs) fun u => .gal ⟨9, 0, 0, tag, 0, [s.lineAt k l], [], 0⟩ ∈ u.out ∧ u.dch.mem
        = s.dch.mem ∧ u.gal = s.gal ∧ keepsBut [.regs, .slb, .stk, .res, .dch, .ports, .job, .gal, .flt, .out] s u) ∧
    (∀ (tag sub face addr : Nat) (devs : SMap Nat) (k : Nat) (l : Nat) (s : State),
      s.chip ≠ .off →
      s.galTakes = true →
      s.galPairs = true →
      sub = 1 →
      s.mapLine face addr = some (k, l) →
      s.gal.joinStep = 0 →
      s.faceOpen (s.slab (settSlab k)).owner = true →
      (s.slab (settSlab k)).rstate = 1 →
      s.chip = .opened →
      s.does (.recoverReq tag sub face addr devs) fun u => u.gal.reqs = s.gal.reqs ++ [GalReq.mk tag k (l + 1)] ∧ u.dch.mem
        = s.dch.mem ∧ keepsBut [.regs, .slb, .stk, .res, .dch, .ports, .job, .gal, .flt, .out] s u) ∧
    (∀ (tag sub offset : Nat) (lines : List Line) (a : GalAsk) (s : State),
      s.chip ≠ .off →
      s.galTakes = true →
      s.gal.asks.find? (fun a => a.tag == tag) = some a →
      sub ≠ 0 →
      a.line = 0 →
      (∀ f ∈ s.res.fetch, f.slab ≠ settSlab a.sett) →
      s.does (.recoverData tag sub offset lines) fun u => u.gal =
        { s.gal with asks := s.gal.asks.filter (fun x => x.tag != tag) } ∧ raisedIn 563 false s u ∧ u.rd
        GAL_RECOVER.FAIL = min (s.rd GAL_RECOVER.FAIL + 1) (2 ^ (GAL_RECOVER.FAIL).width - 1) ∧ keepsBut [.regs, .gal,
        .flt] s u ∧ keepsWords [GAL_RECOVER.OK.addr, (evsBit (563)).1.addr] s u) ∧
    (∀ (tag sub offset : Nat) (lines : List Line) (a : GalAsk) (n : Nat) (d : Line) (t : List Line) (s : State),
      s.chip ≠ .off →
      s.galTakes = true →
      s.gal.asks.find? (fun a => a.tag == tag) = some a →
      sub = 0 →
      a.line = n + 1 →
      (s.repairOf a.sett n = none ∨ (s.repairOf a.sett n).isSome = true) →
      s.dirty a.sett = true →
      (s.slab (settSlab a.sett)).jobl = false →
      s.preOpen = false →
      lines = d :: t →
      (∀ p ∈ faces, (s.port p).wbuf = [] ∧ (s.port p).reads = []) →
      s.gal.held = [] →
      s.adm.jobq = [] →
      s.does (.recoverData tag sub offset lines) fun u => u.lineAt a.sett n = d ∧ u.poisoned a.sett n = false ∧ u.repairOf
        a.sett n = none ∧ u.gal.held = [] ∧ keepsBut [.regs, .tick, .chip, .bed, .svy, .slb, .adm, .haul, .save, .stk,
        .saves, .res, .dch, .ports, .nv, .job, .cip, .gal, .seq, .clk, .flt, .clg, .fwm, .out, .free] s u)

/-- Lists and lines at a join, the resilver, and the ways in and out of serving alone (part 1 of 2) (R446, R447, R449, R451, R452, R453, R454, R456). Commands: RSLV_DATA, RSLV_SLAB_DONE, RSLV_LIST, LINE_LIST, LINE_DATA. -/
def Obligations.GalleryJoinFirst : Prop :=
  (∀ (seq sub sett chunk : Nat) (lines : List Line) (s : State),
      s.chip ≠ .off →
      s.galTakes = true →
      s.galPairs = true →
      seq = s.rd GAL_RXSEQ.SEQ →
      s.galFull = false →
      s.galMode = modeRslvDst →
      sub = 1 →
      sett < slabCount * 64 →
      (∀ p ∈ faces, (s.port p).wbuf = [] ∧ (s.port p).reads = []) →
      s.haulOf sett = none →
      s.does (.rslvData seq sub sett chunk lines) fun u => u.dirty sett = false ∧ u.loc sett = 0 ∧ u.rd GAL_RXSEQ.SEQ = (seq
        + 1) % 2 ^ 32 ∧ keepsBut [.regs, .slb, .adm, .stk, .res, .dch, .ports, .nv, .job, .gal, .seq, .flt, .fwm,
        .out, .free] s u) ∧
    (∀ (seq sub sett chunk : Nat) (lines : List Line) (s : State),
      s.chip ≠ .off →
      s.galTakes = true →
      s.galPairs = true →
      seq = s.rd GAL_RXSEQ.SEQ →
      s.galFull = false →
      s.galMode = modeRslvDst →
      sub = 2 →
      sett < slabCount * 64 →
      (∀ p ∈ faces, (s.port p).wbuf = [] ∧ (s.port p).reads = []) →
      s.haulOf sett = none →
      s.does (.rslvData seq sub sett chunk lines) fun u => u.dirty sett = false ∧ u.loc sett = locLost ∧ u.rd GAL_RXSEQ.SEQ
        = (seq + 1) % 2 ^ 32 ∧ keepsBut [.regs, .slb, .adm, .stk, .res, .dch, .ports, .nv, .job, .gal, .seq, .flt,
        .fwm, .out, .free] s u) ∧
    (∀ (seq sub sett chunk : Nat) (lines : List Line) (d : Line) (s : State),
      s.chip ≠ .off →
      s.galTakes = true →
      s.galPairs = true →
      seq = s.rd GAL_RXSEQ.SEQ →
      s.galFull = false →
      s.galMode = modeRslvDst →
      sub = 0 →
      lines = [d] →
      chunk < 64 →
      s.dirty sett = true →
      (s.slab (settSlab sett)).jobl = false →
      (∀ p ∈ faces, (s.port p).wbuf = [] ∧ (s.port p).reads = []) →
      s.gal.held = [] →
      s.dch.repairs = [] →
      s.adm.jobq = [] →
      s.does (.rslvData seq sub sett chunk lines) fun u => u.lineAt sett (chunk * 16) = d ∧ u.dirty sett = true ∧ u.gal.held
        = [] ∧ u.rd GAL_RXSEQ.SEQ = (seq + 1) % 2 ^ 32 ∧ keepsBut [.regs, .slb, .adm, .stk, .res, .dch, .ports, .nv,
        .job, .gal, .seq, .flt, .fwm, .out, .free] s u) ∧
    (∀ (seq slab : Nat) (s : State),
      s.chip ≠ .off →
      s.galTakes = true →
      s.galPairs = true →
      seq = s.rd GAL_RXSEQ.SEQ →
      s.galFull = false →
      s.galMode = modeRslvDst →
      slab < slabCount →
      s.does (.rslvSlabDone seq slab) fun u => (u.slab slab).rslv = false ∧ (u.slab slab).mask = (s.slab slab).mask ∧ u.rd
        GAL_RXSEQ.SEQ = (seq + 1) % 2 ^ 32 ∧ u.rd GAL_RSLV_DONE.SLABS = (s.rd GAL_RSLV_DONE.SLABS + 1) % 2 ^
        (GAL_RSLV_DONE.SLABS).width ∧ u.gal = s.gal ∧ keepsBut [.regs, .slb, .out] s u ∧ keepsWords
        [GAL_RXSEQ.SEQ.addr, GAL_RSLV.SLABS.addr, GAL_RSLV_DONE.SLABS.addr] s u) ∧
    (∀ (slabs : List Nat) (last : Bool) (s : State),
      s.chip ≠ .off →
      s.galTakes = true →
      s.galMode = modeRslvSrc →
      s.does (.rslvList slabs last) fun u => ((∀ i ∈ slabs, (u.slab i).rslv = true) ∧ u.gal =
        { s.gal with rslvGot := s.gal.rslvGot || last } ∧ ∀ i ∈ slabs, (u.slab i).mask = (s.slab i).mask) ∧ keepsBut
        [.regs, .slb, .gal] s u ∧ keepsWords [GAL_RSLV.SLABS.addr] s u) ∧
    (∀ (slabs : List Nat) (last : Bool) (s : State),
      s.chip ≠ .off →
      s.galTakes = true →
      s.galMode = modeRslvDst →
      slabs = [] →
      last = true →
      s.rd GAL_RSLV.SLABS = 0 →
      s.does (.rslvList slabs last) fun u => u.galMode = modePaired ∧ u.rd GAL_RSLV.KIND = 0 ∧ u.rd GAL_STATUS.SOLO = 0 ∧
        u.gal.epoch = s.gal.peerEpoch ∧ keepsBut [.regs, .tick, .slb, .adm, .save, .stk, .res, .dch, .ports, .job,
        .cip, .gal, .seq, .flt, .fwm, .out, .free] s u) ∧
    (∀ (lines : List (Nat × Nat)) (last : Bool) (s : State),
      s.chip ≠ .off →
      s.galTakes = true →
      s.gal.joinStep = 1 →
      s.gal.listGot = false →
      last = false →
      s.does (.lineList lines last) fun u => u.gal = { s.gal with peerLines := s.gal.peerLines ++ lines } ∧ keepsBut [.gal]
        s u) ∧
    (∀ (lines : List (Nat × Nat)) (last : Bool) (s : State),
      s.chip ≠ .off →
      s.galTakes = true →
      s.gal.joinStep = 1 →
      s.gal.listGot = false →
      last = true →
      s.does (.lineList lines last) fun u => u.gal.listGot = true ∧ u.gal.peerLines = s.gal.peerLines ++ lines ∧ u.gal.lines
        = s.gal.lines ∧ u.dch = s.dch ∧ keepsBut [.regs, .gal, .out] s u ∧ keepsWords [GAL_TXSEQ.SEQ.addr] s u) ∧
    (∀ (seq face dpa : Nat) (data : Line) (poison : Bool) (k : Nat) (l : Nat) (s : State),
      s.chip ≠ .off →
      s.galTakes = true →
      s.galPairs = true →
      seq = s.rd GAL_RXSEQ.SEQ →
      s.galFull = false →
      s.mapLine face dpa = some (k, l) →
      s.dirty k = true →
      (s.slab (settSlab k)).jobl = false →
      (∀ p ∈ faces, (s.port p).wbuf = [] ∧ (s.port p).reads = []) →
      s.gal.held = [] →
      s.dch.repairs = [] →
      s.adm.jobq = [] →
      poison = false →
      s.preOpen = false →
      s.does (.lineData seq face dpa data poison) fun u => u.lineAt k l = data ∧ u.gal.lineWait = s.gal.lineWait.filter (fun
        x => x != (face, dpa)) ∧ u.rd GAL_RXSEQ.SEQ = (seq + 1) % 2 ^ 32 ∧ keepsBut [.regs, .slb, .adm, .stk, .res,
        .dch, .ports, .nv, .job, .gal, .seq, .flt, .fwm, .out, .free] s u)

/-- Lists and lines at a join, the resilver, and the ways in and out of serving alone (part 2 of 2) (R446, R447, R449, R451, R452, R453, R454, R456). Commands: RESILVER_SETT, GALLERY_FENCE, GALLERY_GRACE_EXPIRY, JOIN_WAIT_EXPIRY, GAL_TAKEOVER. -/
def Obligations.GalleryJoinSecond : Prop :=
  (∀ (devs : SMap Nat) (i : Nat) (s : State),
      s.chip ≠ .off →
      s.galTakes = true →
      s.galMode = modeRslvSrc →
      s.on GAL_CTL.RSLV_EN = true →
      s.gal.rslvQuota < s.rd GAL_RSLV_RATE.SETTS →
      s.gal.sent.length + 1100 ≤ 65536 →
      s.canPay 4 1 false = true →
      s.nextRslv = some i →
      s.gal.rslvSlab = i →
      s.gal.rslvSett < 63 →
      s.settHome (i * 64 + s.gal.rslvSett) = true →
      (s.settState (i * 64 + s.gal.rslvSett) = .zero ∨ s.settState (i * 64 + s.gal.rslvSett) = .lost) →
      s.dch.repairs = [] →
      (∀ p ∈ faces, (s.port p).wbuf = [] ∧ (s.port p).reads = []) →
      s.does (.resilverSett devs) fun u => u.gal =
        { s.gal with rslvQuota := s.gal.rslvQuota + 1, rslvSett := s.gal.rslvSett + 1, sent := s.gal.sent ++ [GalOut.mk (s.rd GAL_TXSEQ.SEQ) (.rslv (i * 64 + s.gal.rslvSett))] }
        ∧ u.rd GAL_TXSEQ.SEQ = (s.rd GAL_TXSEQ.SEQ + 1) % 2 ^ (GAL_TXSEQ.SEQ).width ∧ keepsBut [.regs, .slb, .stk,
        .res, .dch, .ports, .job, .gal, .flt, .out] s u) ∧
    (∀ (sub : Nat) (s : State),
      s.chip ≠ .off →
      s.galTakes = true →
      s.galMode = modePaired →
      s.does (.galleryFence sub) fun u => u.galMode = modeSingle ∧ u.rd GAL_STATUS.SOLO = 1 ∧ u.rd GAL_STATUS.CAUSE = (if
        sub = 3 then causeHandover else causeFence) ∧ u.gal.epoch = s.gal.epoch + 1 ∧ u.gal.joinEpoch = s.gal.epoch ∧
        u.gal.sent = [] ∧ u.gal.graceAt = 0 ∧ keepsBut [.regs, .tick, .chip, .bed, .svy, .slb, .adm, .haul, .save,
        .stk, .saves, .res, .dch, .ports, .nv, .job, .cip, .gal, .seq, .clk, .flt, .clg, .fwm, .out, .free] s u) ∧
    (∀ (sub : Nat) (s : State),
      s.chip ≠ .off →
      s.galTakes = true →
      s.galMode = modeRslvDst →
      s.does (.galleryFence sub) fun u => (u.galMode = modeFenced ∧ (∀ f ∈ faces, u.faceOpen f = false) ∧ u.gal.sent = []) ∧
        keepsBut [.regs, .tick, .chip, .bed, .svy, .slb, .adm, .haul, .save, .stk, .saves, .res, .dch, .ports, .nv,
        .job, .cip, .gal, .seq, .clk, .flt, .clg, .fwm, .out, .free] s u) ∧
    (∀ (s : State),
      s.chip ≠ .off →
      s.working = true →
      s.gal.graceAt ≠ 0 →
      s.galUp = false →
      s.twinA = true →
      s.does (.galleryGraceExpiry) fun u => u.galMode = modeSingle ∧ u.rd GAL_STATUS.SOLO = 1 ∧ u.rd GAL_STATUS.CAUSE = (if
        s.galMode = modeJoining then causeJoin else if s.gal.seen = 3 then causeAbsent else causePartition) ∧
        u.gal.epoch = s.gal.epoch + 1 ∧ u.gal.joinEpoch = s.gal.epoch ∧ u.gal.sent = [] ∧ u.gal.graceAt = 0 ∧ keepsBut
        [.regs, .tick, .chip, .bed, .svy, .slb, .adm, .haul, .save, .stk, .saves, .res, .dch, .ports, .nv, .job, .cip,
        .gal, .seq, .clk, .flt, .clg, .fwm, .out, .free] s u) ∧
    (∀ (s : State),
      s.chip ≠ .off →
      s.working = true →
      s.gal.graceAt ≠ 0 →
      s.galUp = false →
      s.twinA = false →
      s.gal.seen ≠ 3 →
      s.does (.galleryGraceExpiry) fun u => u.galMode = s.galMode ∧ keepsBut [] s u) ∧
    (∀ (s : State),
      s.chip ≠ .off →
      s.galMode = modeJoining →
      s.gal.joinAt ≠ 0 →
      s.gal.seen = 0 →
      s.does (.joinWaitExpiry) fun u => u.gal = { s.gal with joinAt := 0, graceAt := s.tick + 1 } ∧ keepsBut [.gal] s u) ∧
    (∀ (s : State),
      s.chip ≠ .off →
      s.galMode = modeJoining →
      s.gal.joinAt ≠ 0 →
      s.gal.seen = 1 →
      s.does (.joinWaitExpiry) fun u => u.galMode = modeSingle ∧ u.rd GAL_STATUS.SOLO = 1 ∧ u.rd GAL_STATUS.CAUSE =
        causeJoin ∧ u.gal.epoch = s.gal.epoch + 1 ∧ u.gal.joinEpoch = s.gal.epoch ∧ u.gal.sent = [] ∧ u.gal.graceAt =
        0 ∧ keepsBut [.regs, .tick, .chip, .bed, .svy, .slb, .adm, .haul, .save, .stk, .saves, .res, .dch, .ports,
        .nv, .job, .cip, .gal, .seq, .clk, .flt, .clg, .fwm, .out, .free] s u) ∧
    (∀ (key : Word) (s : State),
      s.chip ≠ .off →
      s.woLive GAL_TAKEOVER.KEY.addr = true →
      s.hubOn = true →
      key = 0x54414B45 →
      (s.galMode = modeFenced ∨ s.on GAL_STATUS.DIVERGED = true) →
      s.does (.galTakeover key) fun u => u.galMode = modeSingle ∧ u.rd GAL_STATUS.SOLO = 1 ∧ u.rd GAL_STATUS.CAUSE = (if
        s.gal.seen = 3 then causeAbsent else causePartition) ∧ u.gal.epoch = s.gal.epoch + 1 ∧ u.gal.joinEpoch =
        s.gal.epoch ∧ u.gal.sent = [] ∧ u.gal.graceAt = 0 ∧ u.rd GAL_STATUS.DIVERGED = 0 ∧ u.gal.kept = s.on
        GAL_STATUS.DIVERGED ∧ keepsBut [.regs, .tick, .chip, .bed, .svy, .slb, .adm, .haul, .save, .stk, .saves, .res,
        .dch, .ports, .nv, .job, .cip, .gal, .seq, .clk, .flt, .clg, .fwm, .out, .free] s u) ∧
    (∀ (key : Word) (s : State),
      s.chip ≠ .off →
      s.woLive GAL_TAKEOVER.KEY.addr = true →
      key ≠ 0x54414B45 →
      s.does (.galTakeover key) fun u => u.galMode = s.galMode ∧ keepsBut [] s u)

/-- Operations that run on both sleds (R402, R427, R457). Commands: CTRL_DC_ADD, CTRL_DC_RELEASE, CTRL_ZERO_FACE, CTRL_ERASE, CTRL_LSA, CTRL_SHUTDOWN_STATE, CTRL_DONE. -/
def Obligations.GalleryControl : Prop :=
  (∀ (seq face first : Nat) (pool : List Nat) (s : State),
      s.chip ≠ .off →
      s.galTakes = true →
      s.galPairs = true →
      seq = s.rd GAL_RXSEQ.SEQ →
      s.galFull = false →
      face < 6 →
      (s.port face).extents.length < 512 →
      pool.all (fun b => s.dcFree.contains b && s.blockZero b) = true →
      (s.dcPlaces face pool.length).contains first = true →
      s.does (.ctrlDcAdd seq face first pool) fun u => ((u.port face).extents = (s.port face).extents ++ [Extent.mk first
        pool false s.tick] ∧ (∀ b ∈ pool, SMap.get 7 b u.slb.grants = face) ∧ u.dch = s.dch ∧ .gal ⟨14, face, 7, s.rd
        GAL_TXSEQ.SEQ, 1, [], [1], 0⟩ ∈ u.out ∧ GalOut.mk (s.rd GAL_TXSEQ.SEQ) (.ctrl 7 face) ∈ u.gal.sent ∧ u.rd
        GAL_RXSEQ.SEQ = (seq + 1) % 2 ^ 32) ∧ keepsBut [.regs, .slb, .ports, .gal, .flt, .out] s u) ∧
    (∀ (seq face first : Nat) (pool : List Nat) (s : State),
      s.chip ≠ .off →
      s.galTakes = true →
      s.galPairs = true →
      seq = s.rd GAL_RXSEQ.SEQ →
      s.galFull = false →
      face < 6 →
      (s.dcPlaces face pool.length).contains first = false →
      s.does (.ctrlDcAdd seq face first pool) fun u => u.ports = s.ports ∧ u.slb = s.slb ∧ .gal ⟨14, face, 7, s.rd
        GAL_TXSEQ.SEQ, 1, [], [0], 0⟩ ∈ u.out ∧ GalOut.mk (s.rd GAL_TXSEQ.SEQ) (.ctrl 7 face) ∈ u.gal.sent ∧ u.rd
        GAL_RXSEQ.SEQ = (seq + 1) % 2 ^ 32 ∧ keepsBut [.regs, .gal, .out] s u ∧ keepsWords [GAL_RXSEQ.SEQ.addr,
        GAL_TXSEQ.SEQ.addr] s u) ∧
    (∀ (seq face block count : Nat) (s : State),
      s.chip ≠ .off →
      s.galTakes = true →
      s.galPairs = true →
      seq = s.rd GAL_RXSEQ.SEQ →
      s.galFull = false →
      face < 6 →
      s.dcHolds face block count = false →
      s.does (.ctrlDcRelease seq face block count) fun u => u.ports = s.ports ∧ .gal ⟨14, face, 7, s.rd GAL_TXSEQ.SEQ, 2,
        [], [0], 0⟩ ∈ u.out ∧ GalOut.mk (s.rd GAL_TXSEQ.SEQ) (.ctrl 7 face) ∈ u.gal.sent ∧ u.rd GAL_RXSEQ.SEQ = (seq +
        1) % 2 ^ 32 ∧ keepsBut [.regs, .gal, .out] s u ∧ keepsWords [GAL_RXSEQ.SEQ.addr, GAL_TXSEQ.SEQ.addr] s u) ∧
    (∀ (seq face block count : Nat) (s : State),
      s.chip ≠ .off →
      s.galTakes = true →
      s.galPairs = true →
      seq = s.rd GAL_RXSEQ.SEQ →
      s.galFull = false →
      face < 6 →
      s.dcHolds face block count = true →
      (∀ p ∈ faces, (s.port p).wbuf = [] ∧ (s.port p).reads = []) →
      s.does (.ctrlDcRelease seq face block count) fun u => ((u.port face).rels = (s.port face).rels ++ [⟨block, count,
        (List.range count).filterMap (fun i => s.faceBlock face (block + i)), true⟩] ∧ (u.port face).extents = (s.port
        face).extents ∧ (∀ i ∈ ((List.range count).filterMap (fun i => s.faceBlock face (block + i))).flatMap
        s.blockSlabs, (u.slab i).relq = true) ∧ u.rd GAL_RXSEQ.SEQ = (seq + 1) % 2 ^ 32) ∧ keepsBut [.regs, .slb,
        .adm, .haul, .stk, .res, .dch, .ports, .job, .gal, .flt, .fwm, .out] s u) ∧
    (∀ (seq face : Nat) (s : State),
      s.chip ≠ .off →
      s.galTakes = true →
      s.galPairs = true →
      seq = s.rd GAL_RXSEQ.SEQ →
      s.galFull = false →
      face < 6 →
      s.does (.ctrlZeroFace seq face) fun u => (u.gal.zeroing = (face :: s.gal.zeroing).dedup ∧ (∀ i ∈ s.ownSlabs face,
        (u.slab i).jobl = true) ∧ (∀ i ∈ s.ownSlabs face, (u.slab i).mask = (s.slab i).mask) ∧ u.rd GAL_RXSEQ.SEQ =
        (seq + 1) % 2 ^ 32) ∧ keepsBut [.regs, .slb, .gal, .out] s u) ∧
    (∀ (seq face opcode : Nat) (s : State),
      s.chip ≠ .off →
      s.galTakes = true →
      s.galPairs = true →
      seq = s.rd GAL_RXSEQ.SEQ →
      s.galFull = false →
      face < 6 →
      (s.port face).erasing = none →
      s.does (.ctrlErase seq face opcode) fun u => (u.port face).erasing = some (Erase.mk opcode 1 true) ∧ u.slotState (2 *
        s.sv (FACES.KEY_PAIR face)) = slEmpty ∧ u.slotKey (2 * s.sv (FACES.KEY_PAIR face)) = 0 ∧ u.slotKey (2 * s.sv
        (FACES.KEY_PAIR face) + 1) = 0 ∧ bitAt face u.cip.erasePend = true ∧ u.rd GAL_RXSEQ.SEQ = (seq + 1) % 2 ^ 32 ∧
        keepsBut [.regs, .slb, .adm, .haul, .ports, .job, .cip, .gal, .out] s u) ∧
    (∀ (seq face opcode : Nat) (s : State),
      s.chip ≠ .off →
      s.galTakes = true →
      s.galPairs = true →
      seq = s.rd GAL_RXSEQ.SEQ →
      s.galFull = false →
      face < 6 →
      (s.port face).erasing.isSome = true →
      s.does (.ctrlErase seq face opcode) fun u => u.cip = s.cip ∧ .gal ⟨14, face, 7, s.rd GAL_TXSEQ.SEQ, 4, [], [1], 0⟩ ∈
        u.out ∧ GalOut.mk (s.rd GAL_TXSEQ.SEQ) (.ctrl 7 face) ∈ u.gal.sent ∧ u.rd GAL_RXSEQ.SEQ = (seq + 1) % 2 ^ 32 ∧
        keepsBut [.regs, .gal, .out] s u ∧ keepsWords [GAL_RXSEQ.SEQ.addr, GAL_TXSEQ.SEQ.addr] s u) ∧
    (∀ (seq face offset : Nat) (bytes : List Byte) (ok0 ok36 : Bool) (s : State),
      s.chip ≠ .off →
      s.galTakes = true →
      s.galPairs = true →
      seq = s.rd GAL_RXSEQ.SEQ →
      s.galFull = false →
      face < 6 →
      (s.healthProgram ok0 ok36).1 = true →
      s.does (.ctrlLsa seq face offset bytes ok0 ok36) fun u => (u.nvFace face).lsa = ((List.range bytes.length).zip
        bytes).foldl (fun m p => SMap.put 0 (offset + p.1) p.2 m) (s.nvFace face).lsa ∧ (u.nvFace face).shutdown =
        (s.nvFace face).shutdown ∧ .gal ⟨14, face, 7, s.rd GAL_TXSEQ.SEQ, 5, [], [1], 0⟩ ∈ u.out ∧ GalOut.mk (s.rd
        GAL_TXSEQ.SEQ) (.ctrl 7 face) ∈ u.gal.sent ∧ u.rd GAL_RXSEQ.SEQ = (seq + 1) % 2 ^ 32 ∧ keepsBut [.regs, .stk,
        .nv, .gal, .flt, .out] s u) ∧
    (∀ (seq face offset : Nat) (bytes : List Byte) (ok0 ok36 : Bool) (s : State),
      s.chip ≠ .off →
      s.galTakes = true →
      s.galPairs = true →
      seq = s.rd GAL_RXSEQ.SEQ →
      s.galFull = false →
      face < 6 →
      (s.healthProgram ok0 ok36).1 = false →
      s.does (.ctrlLsa seq face offset bytes ok0 ok36) fun u => .gal ⟨14, face, 7, s.rd GAL_TXSEQ.SEQ, 5, [], [0], 0⟩ ∈
        u.out ∧ GalOut.mk (s.rd GAL_TXSEQ.SEQ) (.ctrl 7 face) ∈ u.gal.sent ∧ u.rd GAL_RXSEQ.SEQ = (seq + 1) % 2 ^ 32 ∧
        keepsBut [.regs, .stk, .nv, .gal, .flt, .out] s u) ∧
    (∀ (seq face value : Nat) (ok0 ok36 : Bool) (s : State),
      s.chip ≠ .off →
      s.galTakes = true →
      s.galPairs = true →
      seq = s.rd GAL_RXSEQ.SEQ →
      s.galFull = false →
      face < 6 →
      (s.healthProgram ok0 ok36).1 = true →
      s.does (.ctrlShutdownState seq face value ok0 ok36) fun u => u.nvFace face =
        { s.nvFace face with shutdown := value % 256 } ∧ .gal ⟨14, face, 7, s.rd GAL_TXSEQ.SEQ, 6, [], [1], 0⟩ ∈ u.out
        ∧ GalOut.mk (s.rd GAL_TXSEQ.SEQ) (.ctrl 7 face) ∈ u.gal.sent ∧ u.rd GAL_RXSEQ.SEQ = (seq + 1) % 2 ^ 32 ∧
        keepsBut [.regs, .stk, .nv, .gal, .flt, .out] s u) ∧
    (∀ (seq face value : Nat) (ok0 ok36 : Bool) (s : State),
      s.chip ≠ .off →
      s.galTakes = true →
      s.galPairs = true →
      seq = s.rd GAL_RXSEQ.SEQ →
      s.galFull = false →
      face < 6 →
      (s.healthProgram ok0 ok36).1 = false →
      s.does (.ctrlShutdownState seq face value ok0 ok36) fun u => .gal ⟨14, face, 7, s.rd GAL_TXSEQ.SEQ, 6, [], [0], 0⟩ ∈
        u.out ∧ GalOut.mk (s.rd GAL_TXSEQ.SEQ) (.ctrl 7 face) ∈ u.gal.sent ∧ u.rd GAL_RXSEQ.SEQ = (seq + 1) % 2 ^ 32 ∧
        keepsBut [.regs, .stk, .nv, .gal, .flt, .out] s u) ∧
    (∀ (seq sub face : Nat) (ok : Bool) (c : GalCtl) (s : State),
      s.chip ≠ .off →
      s.galTakes = true →
      s.galPairs = true →
      seq = s.rd GAL_RXSEQ.SEQ →
      s.galFull = false →
      s.gal.ctls.find? (fun c => c.sub == sub && c.face == face) = some c →
      s.does (.ctrlDone seq sub face ok) fun u => c ∉ u.gal.ctls ∧ u.gal.ctls = s.gal.ctls.filter (fun x => x != c) ∧ u.rd
        GAL_RXSEQ.SEQ = (seq + 1) % 2 ^ 32 ∧ keepsBut [.regs, .slb, .ports, .gal, .flt, .fwm, .out] s u) ∧
    (∀ (seq sub face : Nat) (ok : Bool) (c : GalCtl) (s : State),
      s.chip ≠ .off →
      s.galTakes = true →
      s.galPairs = true →
      seq = s.rd GAL_RXSEQ.SEQ →
      s.galFull = false →
      s.gal.ctls.find? (fun c => c.sub == sub && c.face == face) = some c →
      sub = 1 →
      ok = true →
      face < 6 →
      s.does (.ctrlDone seq sub face ok) fun u => (u.port face).extents = (s.port face).extents ++ [Extent.mk (c.args.headD
        0) (c.args.drop 1) false s.tick] ∧ .fm face .success [c.args.headD 0] ∈ u.out ∧ keepsBut [.regs, .slb, .ports,
        .gal, .flt, .fwm, .out] s u) ∧
    (∀ (seq sub face : Nat) (ok : Bool) (c : GalCtl) (s : State),
      s.chip ≠ .off →
      s.galTakes = true →
      s.galPairs = true →
      seq = s.rd GAL_RXSEQ.SEQ →
      s.galFull = false →
      s.gal.ctls.find? (fun c => c.sub == sub && c.face == face) = some c →
      (sub = 5 ∨ sub = 6) →
      s.fwm.openCmds.contains (face, c.opcode) = true →
      s.does (.ctrlDone seq sub face ok) fun u => .reply face c.opcode (if ok then .success else .internalError) [] ∈ u.out
        ∧ keepsBut [.regs, .slb, .ports, .gal, .flt, .fwm, .out] s u)

/-- LIVE_LOAD runs only in Restoring and Open, and a Survey command written while another runs ends with BUSY (R80). Commands: SVY_LIVE_LOAD, SVY_INSTALL, SVY_VERIFY, SVY_CLEAR. -/
def Obligations.LiveLoadConditions : Prop :=
  (∀ (s : State),
      s.chip ≠ .off →
      s.hubOn = true →
      (s.chip = .restoring ∨ s.chip = .opened) →
      s.rd SVY_STATUS.STATE = 0 →
      s.does (.svyLiveLoad) fun u => u.rd SVY_STATUS.STATE = 1 ∧ u.svy =
        { s.svy with cmd := 3, live := true, taken := s.svy.staging } ∧ keepsBut [.regs, .svy] s u ∧ keepsWords
        [SVY_STATUS.STATE.addr] s u) ∧
    (∀ (s : State),
      s.chip ≠ .off →
      s.hubOn = true →
      s.chip ≠ .restoring →
      s.chip ≠ .opened →
      s.rd SVY_STATUS.STATE = 0 →
      s.does (.svyLiveLoad) fun u => u.rd SVY_STATUS.RESULT = 11 ∧ u.rd SVY_STATUS.STATE = 0 ∧ keepsBut [.regs, .flt] s u ∧
        keepsWords [SVY_STATUS.STATE.addr, (evsBit 683).1.addr] s u) ∧
    (∀ (s : State),
      s.chip ≠ .off →
      s.hubOn = true →
      s.rd SVY_STATUS.STATE ≠ 0 →
      s.does (.svyLiveLoad) fun u => u.rd SVY_STATUS.RESULT = 10 ∧ u.rd SVY_STATUS.STATE = s.rd SVY_STATUS.STATE ∧ keepsBut
        [.regs, .flt] s u ∧ keepsWords [SVY_STATUS.STATE.addr, (evsBit 683).1.addr] s u) ∧
    (∀ (s : State),
      s.chip ≠ .off →
      s.hubOn = true →
      s.rd SVY_STATUS.STATE ≠ 0 →
      s.does (.svyInstall) fun u => u.rd SVY_STATUS.RESULT = 10 ∧ u.rd SVY_STATUS.STATE = s.rd SVY_STATUS.STATE ∧ keepsBut
        [.regs, .flt] s u ∧ keepsWords [SVY_STATUS.STATE.addr, (evsBit 683).1.addr] s u) ∧
    (∀ (s : State),
      s.chip ≠ .off →
      s.hubOn = true →
      s.rd SVY_STATUS.STATE ≠ 0 →
      s.does (.svyVerify) fun u => u.rd SVY_STATUS.RESULT = 10 ∧ u.rd SVY_STATUS.STATE = s.rd SVY_STATUS.STATE ∧ onlyWords
        [SVY_STATUS.STATE.addr] s u) ∧
    (∀ (s : State),
      s.chip ≠ .off →
      s.hubOn = true →
      s.rd SVY_STATUS.STATE ≠ 0 →
      s.does (.svyClear) fun u => u.rd SVY_STATUS.RESULT = 10 ∧ u.rd SVY_STATUS.STATE = s.rd SVY_STATUS.STATE ∧ onlyWords
        [SVY_STATUS.STATE.addr] s u)

/-- Reset Rank State returns a REPLACED, RETIRED or DEAD rank to ACTIVE, only while no face is open (R348). Commands: RESET_RANK_STATE. -/
def Obligations.ResetRankAnswers : Prop :=
  (∀ (face chan rank : Nat) (ok0 : Bool) (ok36 : Bool) (s : State),
      s.chip ≠ .off →
      s.mailOk face = true →
      s.mailBusy face = false →
      s.on (HPT_CFG.MGMT face) = true →
      face < 6 →
      s.anyOpen = true →
      s.does (.resetRankState face chan rank ok0 ok36) fun u => u.out = .reply face 0xC050 .busy [] :: s.out ∧ keepsBut
        [.out] s u) ∧
    (∀ (face chan rank : Nat) (ok0 : Bool) (ok36 : Bool) (s : State),
      s.chip ≠ .off →
      s.mailOk face = true →
      s.mailBusy face = false →
      s.on (HPT_CFG.MGMT face) = true →
      face < 6 →
      s.anyOpen = false →
      chan < 36 →
      rank < 4 →
      s.rank chan rank = rkActive →
      s.does (.resetRankState face chan rank ok0 ok36) fun u => u.out = .reply face 0xC050 .success [1] :: s.out ∧ keepsBut
        [.out] s u) ∧
    (∀ (face chan rank : Nat) (ok0 : Bool) (ok36 : Bool) (s : State),
      s.chip ≠ .off →
      s.mailOk face = true →
      s.mailBusy face = false →
      s.on (HPT_CFG.MGMT face) = true →
      face < 6 →
      s.anyOpen = false →
      chan < 36 →
      rank < 4 →
      s.rank chan rank = rkAbsent →
      s.does (.resetRankState face chan rank ok0 ok36) fun u => u.out = .reply face 0xC050 .success [2] :: s.out ∧ keepsBut
        [.out] s u) ∧
    (∀ (face chan rank : Nat) (ok0 : Bool) (ok36 : Bool) (s : State),
      s.chip ≠ .off →
      s.mailOk face = true →
      s.mailBusy face = false →
      s.on (HPT_CFG.MGMT face) = true →
      face < 6 →
      s.anyOpen = false →
      chan < 36 →
      rank < 4 →
      (s.rank chan rank = rkReplaced ∨ s.rank chan rank = rkRetired ∨ s.rank chan rank = rkDead) →
      (s.healthProgram ok0 ok36).1 = true →
      s.does (.resetRankState face chan rank ok0 ok36) fun u => u.rank chan rank = rkActive ∧ SMap.get 0 (rankKey chan rank)
        u.dch.rankMap = rkActive + 1 ∧ u.out.head? = some (.reply face 0xC050 .success [0]) ∧ keepsBut [.regs, .stk,
        .dch, .flt, .out] s u)

/-- A doorbell that would overrun its ring halts it or is ignored and counted (R357). Commands: SQ_TAIL_DOORBELL, CQ_HEAD_DOORBELL. -/
def Obligations.DoorbellBounds : Prop :=
  (∀ (port ring value : Nat) (bad : Bool) (s1 : State) (s : State),
      s.chip ≠ .off →
      s1 = s.ringErr ring bad →
      s1.hubOn = true →
      s1.linkUp port = true →
      s1.bellOk port ring = true →
      value < 65536 →
      (s1.ring ring).st = rgEnabled →
      2 ^ (s1.ring ring).log2 < (value + 65536 - (s1.ring ring).sqHead) % 65536 →
      s.does (.sqTailDoorbell port ring value bad) fun u => (u.ring ring).st = rgHalted ∧ (u.ring ring).err = 1 ∧ keepsBut
        [.job] s1 u) ∧
    (∀ (port ring value : Nat) (bad : Bool) (s1 : State) (s : State),
      s.chip ≠ .off →
      s1 = s.ringErr ring bad →
      s1.hubOn = true →
      s1.linkUp port = true →
      s1.bellOk port ring = true →
      value < 65536 →
      (s1.ring ring).st = rgEnabled →
      (value + 65536 - (s1.ring ring).sqHead) % 65536 ≤ 2 ^ (s1.ring ring).log2 →
      s.does (.sqTailDoorbell port ring value bad) fun u => (u.ring ring).st = rgEnabled ∧ (u.ring ring).sqTail = value ∧
        (u.ring ring).err = (s1.ring ring).err ∧ keepsBut [.job] s1 u) ∧
    (∀ (port ring value : Nat) (bad : Bool) (s1 : State) (s : State),
      s.chip ≠ .off →
      s1 = s.ringErr ring bad →
      s1.hubOn = true →
      s1.linkUp port = true →
      s1.bellOk port ring = true →
      value < 65536 →
      2 ^ (s1.ring ring).log2 < ((s1.ring ring).cqTail + 65536 - value) % 65536 →
      s.does (.cqHeadDoorbell port ring value bad) fun u => u.ring ring =
        { s1.ring ring with errors := ((s1.ring ring).errors + 1) % 2 ^ 32 } ∧ keepsBut [.job] s1 u) ∧
    (∀ (port ring value : Nat) (bad : Bool) (s1 : State) (s : State),
      s.chip ≠ .off →
      s1 = s.ringErr ring bad →
      s1.hubOn = true →
      s1.linkUp port = true →
      s1.bellOk port ring = true →
      value < 65536 →
      ((s1.ring ring).cqTail + 65536 - value) % 65536 ≤ 2 ^ (s1.ring ring).log2 →
      s.does (.cqHeadDoorbell port ring value bad) fun u => (u.ring ring).cqHead = value ∧ (u.ring ring).errors = (s1.ring
        ring).errors ∧ keepsBut [.job] s1 u)

/-- A gauge reading gives a pack its base energy (R128). Commands: GAUGE_READ. -/
def Obligations.PackBaseEnergy : Prop :=
  (∀ (pack : Nat) (ans : Option GaugeIn) (g : GaugeIn) (s : State),
      s.chip ≠ .off →
      pack < 2 →
      s.ledgerParams = true →
      s.rd (LGR_PSTAT.STATE pack) = pkQualifying →
      ans = some g →
      g.dc ≠ 0 →
      s.does (.gaugeRead pack ans) fun u => (u.pack pack).ebase = min (s.sv (LEDGER.EBOL pack) * g.rc / g.dc) (s.sv
        (LEDGER.EBOL pack)) ∧ (u.pack pack).dc = g.dc ∧ keepsBut [.regs, .tick, .chip, .lgr, .seq, .flt, .clg, .twb] s
        u) ∧
    (∀ (pack : Nat) (ans : Option GaugeIn) (g : GaugeIn) (s : State),
      s.chip ≠ .off →
      pack < 2 →
      s.ledgerParams = true →
      s.rd (LGR_PSTAT.STATE pack) ≠ pkAbsent →
      s.rd (LGR_PSTAT.STATE pack) ≠ pkQualifying →
      ans = some g →
      (s.pack pack).dc ≠ 0 →
      s.does (.gaugeRead pack ans) fun u => (u.pack pack).ebase = min (s.sv (LEDGER.EBOL pack) * g.rc / (s.pack pack).dc)
        (s.sv (LEDGER.EBOL pack)) ∧ (u.pack pack).dc = (s.pack pack).dc ∧ keepsBut [.regs, .tick, .chip, .lgr, .seq,
        .flt, .clg, .twb] s u)

/-- A cold reset brings every register to its reset value (R7, R8); what NAND holds stays. -/
def Obligations.ColdResetRegisters : Prop :=
  ∀ (bset baddr : Nat) (testen : Bool) (s : State), s.chip = .off →
    ∃ u, exec (.coldReset bset baddr testen) s = .next u ∧ u.chip = .bedrock ∧
      (∀ a, a ∉ [BED_STATE.CHIP.addr, SEQ_STRAP.BSET.addr, TWB_T0.ADDR.addr, GAL_STATUS.SOLO.addr] → u.word a = regReset a) ∧
      u.rd GAL_STATUS.SOLO = s.rd GAL_STATUS.SOLO ∧ u.pending = s.pending ∧ u.fuse = s.fuse ∧ u.saves = s.saves ∧ u.clg.log = s.clg.log ∧
      u.fwm.slotA = s.fwm.slotA ∧ u.fwm.slotB = s.fwm.slotB

/-- Fields behave on a write as their access codes say (R7), within the range of their row (R629). -/
def Obligations.AccessCodes : Prop :=
  ∀ (s : State) (a v : Nat) (r : FRow), r.lo + r.width ≤ 32 →
    let f : Fld := ⟨a, r.lo, r.width⟩
    let x := bitsOf r.lo r.width v
    let u := s.writeField a v r
    ((r.acc = .rw ∨ r.acc = .rws ∨ (r.acc = .rwl ∧ s.svy.loaded = false)) → u.rd f = r.lim.apply (s.rd f) x % 2 ^ r.width) ∧
      ((r.acc = .rwl ∧ s.svy.loaded = true) → u = s) ∧
      (r.acc = .w1c → ∀ i < r.width, (u.rd f).testBit i = ((s.rd f).testBit i && !x.testBit i)) ∧
      ((r.acc = .ro ∨ r.acc = .wo ∨ r.acc = .live) → u = s) ∧
      keepsBut [.regs] s u ∧ keepsWords [a] s u ∧
      ∀ g : Fld, g.addr = a → (g.lo + g.width ≤ r.lo ∨ r.lo + r.width ≤ g.lo) → u.rd g = s.rd g

/-- R590: a host sees its own face; the Foreman cluster and the BMC see the face that BED_FSEL selects. -/
def Obligations.FaceFeatureReads : Prop :=
  (∀ (s : State) (f i v : Nat), f < 6 → i < 4 →
      (s.regRead (some f) (BED_FSUP.SUPPORTED i).addr).toNat = (s.supported f).toNat / 2 ^ (32 * i) % 2 ^ 32 ∧
      (s.regRead (some f) (BED_FEN.ENABLED i).addr).toNat = (s.nvFace f).feat.toNat / 2 ^ (32 * i) % 2 ^ 32 ∧
      bitsOf 0 16 (s.regRead (some f) BED_FNEG.COUNT.addr).toNat = SMap.get 0 f s.bed.fneg % 2 ^ 16 ∧
      bitsOf 16 1 (s.regRead (some f) BED_FNEG.COUNT.addr).toNat = (if (s.nvFace f).feat = 0 then 0 else 1) ∧
      ∀ a ∈ [(BED_FSUP.SUPPORTED i).addr, (BED_FEN.ENABLED i).addr, BED_FNEG.COUNT.addr],
        (s.wr BED_FSEL.FACE v).regRead (some f) a = s.regRead (some f) a ∧
        s.regRead none a = s.regRead (some (s.rd BED_FSEL.FACE)) a) ∧
    bmcReads BED_FSEL.FACE.addr = true ∧ bmcWrites BED_FSEL.FACE.addr = false

/-- R439: the two sleds of a pair share out the pool blocks by their number. -/
def Obligations.KeeperOfBlock : Prop :=
  ∀ (s : State) (b : Nat),
    (s.galMode = modePaired → s.sv TWIN.ROLE = 0 → (s.keeps b = true ↔ b % 2 = 0)) ∧
      (s.galMode = modePaired → s.sv TWIN.ROLE = 1 → (s.keeps b = true ↔ b % 2 = 1)) ∧
      (s.galMode = modeAlone ∨ s.galMode = modeSingle → s.keeps b = true)

/-- A write changes only the bytes that its enables select (R25); a full write ends poison (R31). -/
def Obligations.LineWrite : Prop :=
  ∀ (s : State) (k l : Nat) (d : Line) (mask : BitVec 64),
    let a := settByte k (l * 64)
    let u := s.writeLine k l d mask
    (∀ i < 64, u.byte (a + i) = if mask.getLsbD i then d.extractLsb' (i * 8) 8 else s.byte (a + i)) ∧
      (∀ b, (b < a ∨ a + 64 ≤ b) → u.byte b = s.byte b) ∧
      (mask = fullMask → u.lineAt k l = d ∧ u.poisoned k l = false)

/-- The ends that come with a tick and not with a command (R107, R81, R241, R234; when they come: DESIGN CHOICE 111, 113, 120, 123). -/
def Obligations.TimeEndsWork : Prop :=
  (∀ s : State, s.pending = [] → s.chip ≠ .off → step s = .next (s.ticked.settled s.ticked).mailServe) ∧
    (∀ s : State, s.hubOn = true → s.fwm.running = true → s.on FWM_STATUS.ACTIVATING = false →
      s.mailServe.pending = s.pending ++ s.fwm.waiting.map (fun c => c.2) ∧ s.mailServe.fwm.waiting = []) ∧
    (∀ (s : State) (h : Haul), s.slb.ift.filter (fun x => x.stage == 3) = [h] → slabCarve (settSlab h.sett) = false →
      s.endMaps.loc h.sett = BitVec.ofNat 32 h.newloc ∧ s.endMaps.dirty h.sett = (h.rewr && s.dirty h.sett) ∧ s.endMaps.haulOf h.sett = none ∧
        ∀ k ≠ h.sett, s.endMaps.loc k = s.loc k ∧ s.endMaps.dirty k = s.dirty k ∧ s.endMaps.haulOf k = s.haulOf k) ∧
    (∀ s : State, s.hubOn = true → s.rd SVY_STATUS.STATE = 1 → s.svy.cmd = 1 → s.svyTick.rd SVY_STATUS.STATE = 0 ∧ s.svyTick.rd SVY_STATUS.RESULT = s.svyCheck s.svy.taken % 16 ∧ s.svyTick.svy.inst = s.svy.inst) ∧
    (∀ s : State, s.hubOn = true → s.rd SVY_STATUS.STATE = 1 → s.svy.cmd ≠ 1 → s.mayInstall s.svy.live ≠ svyOk →
      s.svyTick.rd SVY_STATUS.STATE = 0 ∧ s.svyTick.rd SVY_STATUS.RESULT = s.mayInstall s.svy.live % 16 ∧ s.svyTick.svy.inst = s.svy.inst) ∧
    (∀ s : State, s.hubOn = true → s.rd SVY_STATUS.STATE = 1 → s.svy.cmd ≠ 1 → s.mayInstall s.svy.live = svyOk →
      (∀ i ∈ s.targetInsts, (s.bootErase (i % 2) (bootArea (i / 2)).1).1 = true) →
      s.svyTick.rd SVY_STATUS.STATE = 2 ∧ s.svyTick.svy.run = s.svy.run ∧ ∀ i ∈ s.targetInsts, ∀ a < 0x100000, SMap.get 0 (i * 0x100000 + a) s.svyTick.svy.inst = 0) ∧
    (∀ (s : State) (c t : Nat), t < 8 → c < 72 → (s.die c t).suspended = true →
      s.resumeErases.die c t = { s.die c t with suspended := false, resumed := s.tick + 1 } ∧ s.resumeErases.rd (NCH_STATUS.SUSPENDED c) = 0) ∧
    (∀ (s : State) (n : Nat), n < 72 → s.rd (NCH_STATUS.STATE n) = 1 ∨ s.rd (NCH_STATUS.STATE n) = 5 →
      s.nandTick.rd (NCH_STATUS.STATE n) = if s.rd (NCH_STATUS.TGT_RETIRED n) = 0 then 2 else 3)
end

