-- ==== Sys2Proof/Laws/Exec.lean ====
section
/-! SUPPORT. What `exec` is at each command, and how a claim about a command's effect follows from it. -/

namespace Sys2Proof.Machine

/-- A command other than a power command takes its effect in one step, in every chip state but Off (R500). -/
theorem run_of_ne_off {f : State → State} {s : State} (h : s.chip ≠ .off) : run f s = .next (s.settled (f s)) := by simp [run, h]

/-- In Off nothing is known of a command (R500). -/
theorem run_of_off {f : State → State} {s : State} (h : s.chip = .off) : run f s = .next s := by simp [run, h]

/-- A claim about the effect of a command. -/
theorem State.does_of_run {s : State} {c : Instr} {f : State → State} {P : State → Prop} (h : s.chip ≠ .off)
    (he : exec c s = run f s) (hp : P (f s)) : s.does c P := ⟨f s, by rw [he, run_of_ne_off h], hp⟩

/-! ### The command table -/

theorem exec_registerWrite (who : Sender) (addr bytes : Nat) (data : BitVec 64) (s : State) :
    exec (.registerWrite who addr bytes data) s = run (fun s => s.doRegisterWrite who addr bytes data) s :=
  (rfl : exec (.registerWrite who addr bytes data) s = execRegisterWrite who addr bytes data s).trans rfl

theorem exec_deniedHostAccess (port addr : Nat) (write : Bool) (bytes : Nat) (data : BitVec 64) (s : State) :
    exec (.deniedHostAccess port addr write bytes data) s = run (fun s => s.doDeniedHostAccess port addr write bytes data) s :=
  (rfl : exec (.deniedHostAccess port addr write bytes data) s = execDeniedHostAccess port addr write s bytes data).trans rfl

theorem exec_bedDenyClear (s : State) :
    exec (.bedDenyClear) s = run (fun s => s.doBedDenyClear) s :=
  (rfl : exec (.bedDenyClear) s = execBedDenyClear s).trans rfl

theorem exec_bedDropClear (s : State) :
    exec (.bedDropClear) s = run (fun s => s.doBedDropClear) s :=
  (rfl : exec (.bedDropClear) s = execBedDropClear s).trans rfl

theorem exec_coldReset (bset baddr : Nat) (testen : Bool) (s : State) :
    exec (.coldReset bset baddr testen) s = runPower (fun s => s.doColdReset bset baddr testen) s :=
  (rfl : exec (.coldReset bset baddr testen) s = execColdReset bset baddr testen s).trans rfl

theorem exec_bedrockPowerLoss (s : State) :
    exec (.bedrockPowerLoss) s = runPower (fun s => s.doBedrockLoss) s :=
  (rfl : exec (.bedrockPowerLoss) s = execBedrockPowerLoss s).trans rfl

theorem exec_memRd (port tag dpa devs : Nat) (sram : SramErr) (s : State) :
    exec (.memRd port tag dpa devs sram) s = run (fun s => s.doMemRd port tag dpa devs sram) s :=
  (rfl : exec (.memRd port tag dpa devs sram) s = execMemRd port tag dpa devs sram s).trans rfl

theorem exec_memWr (port tag dpa : Nat) (data : Line) (poison : Bool) (sram : SramErr) (s : State) :
    exec (.memWr port tag dpa data poison sram) s = run (fun s => s.doMemWr port tag dpa data poison sram) s :=
  (rfl : exec (.memWr port tag dpa data poison sram) s = execMemWr port tag dpa data poison sram s).trans rfl

theorem exec_memWrPtl (port tag dpa : Nat) (data : Line) (mask : BitVec 64) (devs : Nat) (sram : SramErr) (s : State) :
    exec (.memWrPtl port tag dpa data mask devs sram) s = run (fun s => s.doMemWrPtl port tag dpa data mask devs sram) s :=
  (rfl : exec (.memWrPtl port tag dpa data mask devs sram) s = execMemWrPtl port tag dpa data mask devs sram s).trans rfl

theorem exec_parkedWriteAdmit (bad : Bool) (s : State) :
    exec (.parkedWriteAdmit bad) s = run (fun s => (s.hubErr bad).doParkedAdmit) s :=
  (rfl : exec (.parkedWriteAdmit bad) s = execParkedWriteAdmit s bad).trans rfl

theorem exec_dataWrittenToDram (port tag : Nat) (crc : Bool) (bufErr : Bool) (s : State) :
    exec (.dataWrittenToDram port tag crc bufErr) s = run (fun s => s.doDataWritten port tag crc bufErr) s :=
  (rfl : exec (.dataWrittenToDram port tag crc bufErr) s = execDataWrittenToDram port tag s crc bufErr).trans rfl

theorem exec_freshQueueAgeWarn (port : Nat) (s : State) :
    exec (.freshQueueAgeWarn port) s = run (fun s => s.doAgeWarn port) s :=
  (rfl : exec (.freshQueueAgeWarn port) s = execFreshQueueAgeWarn port s).trans rfl

theorem exec_gpfPhase1 (port : Nat) (s : State) :
    exec (.gpfPhase1 port) s = run (fun s => s.doGpf1 port) s :=
  (rfl : exec (.gpfPhase1 port) s = execGpfPhase1 port s).trans rfl

theorem exec_gpfPhase2 (port : Nat) (s : State) :
    exec (.gpfPhase2 port) s = run (fun s => s.doGpf2 port) s :=
  (rfl : exec (.gpfPhase2 port) s = execGpfPhase2 port s).trans rfl

theorem exec_cxlReset (face : Nat) (s : State) :
    exec (.cxlReset face) s = run (fun s => s.doFaceReset face) s :=
  (rfl : exec (.cxlReset face) s = execCxlReset face s).trans rfl

theorem exec_linkDown (port : Nat) (s : State) :
    exec (.linkDown port) s = run (fun s => s.doLinkDown port) s :=
  (rfl : exec (.linkDown port) s = execLinkDown port s).trans rfl

theorem exec_linkTrained (port rate width : Nat) (s : State) :
    exec (.linkTrained port rate width) s = run (fun s => s.doLinkTrained port rate width) s :=
  (rfl : exec (.linkTrained port rate width) s = execLinkTrained port rate width s).trans rfl

theorem exec_linkTrainRetry (port : Nat) (s : State) :
    exec (.linkTrainRetry port) s = run (fun s => s.doTrainRetry port) s :=
  (rfl : exec (.linkTrainRetry port) s = execLinkTrainRetry port s).trans rfl

theorem exec_perstAssert (port : Nat) (s : State) :
    exec (.perstAssert port) s = run (fun s => s.doPerstAssert port) s :=
  (rfl : exec (.perstAssert port) s = execPerstAssert port s).trans rfl

theorem exec_perstRelease (port : Nat) (s : State) :
    exec (.perstRelease port) s = run (fun s => s.doPerstRelease port) s :=
  (rfl : exec (.perstRelease port) s = execPerstRelease port s).trans rfl

theorem exec_ideKeyProgramming (port : Nat) (io : Option Nat) (s : State) :
    exec (.ideKeyProgramming port io) s = run (fun s => s.doIdeKeys port io) s :=
  (rfl : exec (.ideKeyProgramming port io) s = execIdeKeyProgramming port s io).trans rfl

theorem exec_ideIntegrityFailure (port : Nat) (held : Nat) (s : State) :
    exec (.ideIntegrityFailure port held) s = run (fun s => s.doIdeFail port held) s :=
  (rfl : exec (.ideIntegrityFailure port held) s = execIdeIntegrityFailure port s held).trans rfl

theorem exec_identify (face : Nat) (s : State) :
    exec (.identify face) s = run (fun s => s.mailHold face (.identify face) (fun s => s.doIdentify face)) s :=
  (rfl : exec (.identify face) s = execIdentify face s).trans rfl

theorem exec_backgroundOperationStatus (face : Nat) (s : State) :
    exec (.backgroundOperationStatus face) s = run (fun s => s.mailHold face (.backgroundOperationStatus face) (fun s => s.doBgStatus face)) s :=
  (rfl : exec (.backgroundOperationStatus face) s = execBackgroundOperationStatus face s).trans rfl

theorem exec_getEventRecords (face log : Nat) (s : State) :
    exec (.getEventRecords face log) s = run (fun s => s.mailHold face (.getEventRecords face log) (fun s => s.doGetEvents face log)) s :=
  (rfl : exec (.getEventRecords face log) s = execGetEventRecords face log s).trans rfl

theorem exec_clearEventRecords (face log : Nat) (all : Bool) (handles : List Nat) (s : State) :
    exec (.clearEventRecords face log all handles) s = run (fun s => s.mailHold face (.clearEventRecords face log all handles) (fun s => s.doClearEvents face log all handles)) s :=
  (rfl : exec (.clearEventRecords face log all handles) s = execClearEventRecords face log all handles s).trans rfl

theorem exec_getEventInterruptPolicy (face : Nat) (s : State) :
    exec (.getEventInterruptPolicy face) s = run (fun s => s.mailHold face (.getEventInterruptPolicy face) (fun s => s.doGetPolicy face)) s :=
  (rfl : exec (.getEventInterruptPolicy face) s = execGetEventInterruptPolicy face s).trans rfl

theorem exec_setEventInterruptPolicy (face : Nat) (policy : List Nat) (s : State) :
    exec (.setEventInterruptPolicy face policy) s = run (fun s => s.mailHold face (.setEventInterruptPolicy face policy) (fun s => s.doSetPolicy face policy)) s :=
  (rfl : exec (.setEventInterruptPolicy face policy) s = execSetEventInterruptPolicy face policy s).trans rfl

theorem exec_getFwInfo (face : Nat) (s : State) :
    exec (.getFwInfo face) s = run (fun s => s.mailHold face (.getFwInfo face) (fun s => s.doFwInfo face)) s :=
  (rfl : exec (.getFwInfo face) s = execGetFwInfo face s).trans rfl

theorem exec_transferFw (face action slot offset : Nat) (words : List Word) (ok : Bool) (ok36 : Bool) (s : State) :
    exec (.transferFw face action slot offset words ok ok36) s = run (fun s => s.mailHold face (.transferFw face action slot offset words ok ok36) (fun s => s.doTransferFw face action slot offset words (ok, ok36))) s :=
  (rfl : exec (.transferFw face action slot offset words ok ok36) s = execTransferFw face action slot offset words ok s ok36).trans rfl

theorem exec_activateFwOnline (face slot : Nat) (ok0 ok36 : Bool) (s : State) :
    exec (.activateFwOnline face slot ok0 ok36) s = run (fun s => s.mailHold face (.activateFwOnline face slot ok0 ok36) (fun s => s.doActivateFw face slot ok0 ok36 true)) s :=
  (rfl : exec (.activateFwOnline face slot ok0 ok36) s = execActivateFwOnline face slot ok0 ok36 s).trans rfl

theorem exec_activateFwNextReset (face slot : Nat) (ok0 ok36 : Bool) (s : State) :
    exec (.activateFwNextReset face slot ok0 ok36) s = run (fun s => s.mailHold face (.activateFwNextReset face slot ok0 ok36) (fun s => s.doActivateFw face slot ok0 ok36 false)) s :=
  (rfl : exec (.activateFwNextReset face slot ok0 ok36) s = execActivateFwNextReset face slot ok0 ok36 s).trans rfl

theorem exec_getTimestamp (face : Nat) (s : State) :
    exec (.getTimestamp face) s = run (fun s => s.mailHold face (.getTimestamp face) (fun s => s.doGetStamp face)) s :=
  (rfl : exec (.getTimestamp face) s = execGetTimestamp face s).trans rfl

theorem exec_setTimestamp (face stamp : Nat) (s : State) :
    exec (.setTimestamp face stamp) s = run (fun s => s.mailHold face (.setTimestamp face stamp) (fun s => s.doSetStamp face stamp)) s :=
  (rfl : exec (.setTimestamp face stamp) s = execSetTimestamp face stamp s).trans rfl

theorem exec_getSupportedLogs (face : Nat) (s : State) :
    exec (.getSupportedLogs face) s = run (fun s => s.mailHold face (.getSupportedLogs face) (fun s => s.doGetLogs face)) s :=
  (rfl : exec (.getSupportedLogs face) s = execGetSupportedLogs face s).trans rfl

theorem exec_getLog (face uuid offset len : Nat) (s : State) :
    exec (.getLog face uuid offset len) s = run (fun s => s.mailHold face (.getLog face uuid offset len) (fun s => s.doGetLog face uuid offset len)) s :=
  (rfl : exec (.getLog face uuid offset len) s = execGetLog face uuid offset len s).trans rfl

theorem exec_getSupportedFeatures (face : Nat) (s : State) :
    exec (.getSupportedFeatures face) s = run (fun s => s.mailHold face (.getSupportedFeatures face) (fun s => s.doGetFeatures face)) s :=
  (rfl : exec (.getSupportedFeatures face) s = execGetSupportedFeatures face s).trans rfl

theorem exec_getFeature (face feature : Nat) (s : State) :
    exec (.getFeature face feature) s = run (fun s => s.mailHold face (.getFeature face feature) (fun s => s.doGetFeature face feature)) s :=
  (rfl : exec (.getFeature face feature) s = execGetFeature face feature s).trans rfl

theorem exec_setFeature (face feature : Nat) (value : List Nat) (s : State) :
    exec (.setFeature face feature value) s = run (fun s => s.mailHold face (.setFeature face feature value) (fun s => s.doSetFeature face)) s :=
  (rfl : exec (.setFeature face feature value) s = execSetFeature face feature value s).trans rfl

theorem exec_identifyMemoryDevice (face : Nat) (s : State) :
    exec (.identifyMemoryDevice face) s = run (fun s => s.mailHold face (.identifyMemoryDevice face) (fun s => s.doIdentifyMem face)) s :=
  (rfl : exec (.identifyMemoryDevice face) s = execIdentifyMemoryDevice face s).trans rfl

theorem exec_getPartitionInfo (face : Nat) (s : State) :
    exec (.getPartitionInfo face) s = run (fun s => s.mailHold face (.getPartitionInfo face) (fun s => s.doGetPartition face)) s :=
  (rfl : exec (.getPartitionInfo face) s = execGetPartitionInfo face s).trans rfl

theorem exec_setPartitionInfo (face : Nat) (s : State) :
    exec (.setPartitionInfo face) s = run (fun s => s.mailHold face (.setPartitionInfo face) (fun s => s.doUnsupported face 0x4101)) s :=
  (rfl : exec (.setPartitionInfo face) s = execSetPartitionInfo face s).trans rfl

theorem exec_mailboxUnsupported (face opcode : Nat) (s : State) :
    exec (.mailboxUnsupported face opcode) s = run (fun s => s.mailHold face (.mailboxUnsupported face opcode) (fun s => s.doOther face opcode)) s :=
  (rfl : exec (.mailboxUnsupported face opcode) s = execMailboxUnsupported face opcode s).trans rfl

theorem exec_getLsa (face offset len : Nat) (s : State) :
    exec (.getLsa face offset len) s = run (fun s => s.mailHold face (.getLsa face offset len) (fun s => s.doGetLsa face offset len)) s :=
  (rfl : exec (.getLsa face offset len) s = execGetLsa face offset len s).trans rfl

theorem exec_setLsa (face offset : Nat) (bytes : List Byte) (ok0 ok36 : Bool) (s : State) :
    exec (.setLsa face offset bytes ok0 ok36) s = run (fun s => s.mailHold face (.setLsa face offset bytes ok0 ok36) (fun s => s.doSetLsa face offset bytes ok0 ok36)) s :=
  (rfl : exec (.setLsa face offset bytes ok0 ok36) s = execSetLsa face offset bytes ok0 ok36 s).trans rfl

theorem exec_getHealthInfo (face : Nat) (s : State) :
    exec (.getHealthInfo face) s = run (fun s => s.mailHold face (.getHealthInfo face) (fun s => s.doHealth face)) s :=
  (rfl : exec (.getHealthInfo face) s = execGetHealthInfo face s).trans rfl

theorem exec_getAlertConfiguration (face : Nat) (s : State) :
    exec (.getAlertConfiguration face) s = run (fun s => s.mailHold face (.getAlertConfiguration face) (fun s => s.doGetAlert face)) s :=
  (rfl : exec (.getAlertConfiguration face) s = execGetAlertConfiguration face s).trans rfl

theorem exec_setAlertConfiguration (face life hot cold : Nat) (s : State) :
    exec (.setAlertConfiguration face life hot cold) s = run (fun s => s.mailHold face (.setAlertConfiguration face life hot cold) (fun s => s.doSetAlert face life hot cold)) s :=
  (rfl : exec (.setAlertConfiguration face life hot cold) s = execSetAlertConfiguration face life hot cold s).trans rfl

theorem exec_getShutdownState (face : Nat) (s : State) :
    exec (.getShutdownState face) s = run (fun s => s.mailHold face (.getShutdownState face) (fun s => s.doGetShutdown face)) s :=
  (rfl : exec (.getShutdownState face) s = execGetShutdownState face s).trans rfl

theorem exec_setShutdownState (face value : Nat) (ok0 ok36 : Bool) (s : State) :
    exec (.setShutdownState face value ok0 ok36) s = run (fun s => s.mailHold face (.setShutdownState face value ok0 ok36) (fun s => s.doSetShutdown face value ok0 ok36)) s :=
  (rfl : exec (.setShutdownState face value ok0 ok36) s = execSetShutdownState face value ok0 ok36 s).trans rfl

theorem exec_getPoisonList (face dpa lines : Nat) (s : State) :
    exec (.getPoisonList face dpa lines) s = run (fun s => s.mailHold face (.getPoisonList face dpa lines) (fun s => s.doPoisonList face dpa lines)) s :=
  (rfl : exec (.getPoisonList face dpa lines) s = execGetPoisonList face dpa lines s).trans rfl

theorem exec_injectPoison (face dpa : Nat) (s : State) :
    exec (.injectPoison face dpa) s = run (fun s => s.mailHold face (.injectPoison face dpa) (fun s => s.doInject face dpa)) s :=
  (rfl : exec (.injectPoison face dpa) s = execInjectPoison face dpa s).trans rfl

theorem exec_clearPoison (face dpa : Nat) (data : Line) (s : State) :
    exec (.clearPoison face dpa data) s = run (fun s => s.mailHold face (.clearPoison face dpa data) (fun s => s.doClearPoison face dpa data)) s :=
  (rfl : exec (.clearPoison face dpa data) s = execClearPoison face dpa data s).trans rfl

theorem exec_getScanMediaCapabilities (face dpa lines : Nat) (s : State) :
    exec (.getScanMediaCapabilities face dpa lines) s = run (fun s => s.mailHold face (.getScanMediaCapabilities face dpa lines) (fun s => s.doScanCaps face dpa lines)) s :=
  (rfl : exec (.getScanMediaCapabilities face dpa lines) s = execGetScanMediaCapabilities face dpa lines s).trans rfl

theorem exec_scanMedia (face dpa lines : Nat) (devs : SMap Nat) (s : State) :
    exec (.scanMedia face dpa lines devs) s = run (fun s => s.mailHold face (.scanMedia face dpa lines devs) (fun s => s.doScan face dpa lines devs)) s :=
  (rfl : exec (.scanMedia face dpa lines devs) s = execScanMedia face dpa lines devs s).trans rfl

theorem exec_getScanMediaResults (face : Nat) (s : State) :
    exec (.getScanMediaResults face) s = run (fun s => s.mailHold face (.getScanMediaResults face) (fun s => s.doScanResults face)) s :=
  (rfl : exec (.getScanMediaResults face) s = execGetScanMediaResults face s).trans rfl

theorem exec_sanitize (face : Nat) (s : State) :
    exec (.sanitize face) s = run (fun s => s.mailHold face (.sanitize face) (fun s => s.doSanitize face)) s :=
  (rfl : exec (.sanitize face) s = execSanitize face s).trans rfl

theorem exec_secureErase (face : Nat) (s : State) :
    exec (.secureErase face) s = run (fun s => s.mailHold face (.secureErase face) (fun s => s.doSecureErase face)) s :=
  (rfl : exec (.secureErase face) s = execSecureErase face s).trans rfl

theorem exec_getDcConfiguration (face : Nat) (s : State) :
    exec (.getDcConfiguration face) s = run (fun s => s.mailHold face (.getDcConfiguration face) (fun s => s.doDcConfig face)) s :=
  (rfl : exec (.getDcConfiguration face) s = execGetDcConfiguration face s).trans rfl

theorem exec_getDcExtentList (face : Nat) (s : State) :
    exec (.getDcExtentList face) s = run (fun s => s.mailHold face (.getDcExtentList face) (fun s => s.doDcExtents face)) s :=
  (rfl : exec (.getDcExtentList face) s = execGetDcExtentList face s).trans rfl

theorem exec_addDcResponse (face block : Nat) (accept : Bool) (s : State) :
    exec (.addDcResponse face block accept) s = run (fun s => s.mailHold face (.addDcResponse face block accept) (fun s => s.doDcResponse face block accept)) s :=
  (rfl : exec (.addDcResponse face block accept) s = execAddDcResponse face block accept s).trans rfl

theorem exec_releaseDc (face block count : Nat) (s : State) :
    exec (.releaseDc face block count) s = run (fun s => s.mailHold face (.releaseDc face block count) (fun s => s.doReleaseDc face block count)) s :=
  (rfl : exec (.releaseDc face block count) s = execReleaseDc face block count s).trans rfl

theorem exec_negotiateFeatures (face : Nat) (request : BitVec 128) (ok0 ok36 : Bool) (s : State) :
    exec (.negotiateFeatures face request ok0 ok36) s = run (fun s => s.mailHold face (.negotiateFeatures face request ok0 ok36) (fun s => s.doNegotiate face request ok0 ok36)) s :=
  (rfl : exec (.negotiateFeatures face request ok0 ok36) s = execNegotiateFeatures face request ok0 ok36 s).trans rfl

theorem exec_heatHint (face : Nat) (hints : List (Nat × Nat)) (s : State) :
    exec (.heatHint face hints) s = run (fun s => s.mailHold face (.heatHint face hints) (fun s => s.doHeatHint face hints)) s :=
  (rfl : exec (.heatHint face hints) s = execHeatHint face hints s).trans rfl

theorem exec_getEnergyTelemetry (face : Nat) (s : State) :
    exec (.getEnergyTelemetry face) s = run (fun s => s.mailHold face (.getEnergyTelemetry face) (fun s => s.doTelemetry face)) s :=
  (rfl : exec (.getEnergyTelemetry face) s = execGetEnergyTelemetry face s).trans rfl

theorem exec_requestPackRemoval (face pack : Nat) (s : State) :
    exec (.requestPackRemoval face pack) s = run (fun s => s.mailHold face (.requestPackRemoval face pack) (fun s => s.doPackRequest face pack)) s :=
  (rfl : exec (.requestPackRemoval face pack) s = execRequestPackRemoval face pack s).trans rfl

theorem exec_cancelPackRemoval (face pack : Nat) (s : State) :
    exec (.cancelPackRemoval face pack) s = run (fun s => s.mailHold face (.cancelPackRemoval face pack) (fun s => s.doPackCancel face pack)) s :=
  (rfl : exec (.cancelPackRemoval face pack) s = execCancelPackRemoval face pack s).trans rfl

theorem exec_transferSurveyData (face offset : Nat) (words : List Word) (s : State) :
    exec (.transferSurveyData face offset words) s = run (fun s => s.mailHold face (.transferSurveyData face offset words) (fun s => s.doSurveyData face offset words)) s :=
  (rfl : exec (.transferSurveyData face offset words) s = execTransferSurveyData face offset words s).trans rfl

theorem exec_transferSurveyVerify (face : Nat) (s : State) :
    exec (.transferSurveyVerify face) s = run (fun s => s.mailHold face (.transferSurveyVerify face) (fun s => s.doSurveyVerify face)) s :=
  (rfl : exec (.transferSurveyVerify face) s = execTransferSurveyVerify face s).trans rfl

theorem exec_transferSurveyInstall (face : Nat) (s : State) :
    exec (.transferSurveyInstall face) s = run (fun s => s.mailHold face (.transferSurveyInstall face) (fun s => s.doSurveyInstall face)) s :=
  (rfl : exec (.transferSurveyInstall face) s = execTransferSurveyInstall face s).trans rfl

theorem exec_transferSurveyLiveLoad (face : Nat) (s : State) :
    exec (.transferSurveyLiveLoad face) s = run (fun s => s.mailHold face (.transferSurveyLiveLoad face) (fun s => s.doSurveyLive face)) s :=
  (rfl : exec (.transferSurveyLiveLoad face) s = execTransferSurveyLiveLoad face s).trans rfl

theorem exec_transferSurveyClear (face : Nat) (s : State) :
    exec (.transferSurveyClear face) s = run (fun s => s.mailHold face (.transferSurveyClear face) (fun s => s.doSurveyClear face)) s :=
  (rfl : exec (.transferSurveyClear face) s = execTransferSurveyClear face s).trans rfl

theorem exec_readCoreLog (face seq count : Nat) (s : State) :
    exec (.readCoreLog face seq count) s = run (fun s => s.mailHold face (.readCoreLog face seq count) (fun s => s.doReadLog face seq count)) s :=
  (rfl : exec (.readCoreLog face seq count) s = execReadCoreLog face seq count s).trans rfl

theorem exec_resetRankState (face chan rank : Nat) (ok0 : Bool) (ok36 : Bool) (s : State) :
    exec (.resetRankState face chan rank ok0 ok36) s = run (fun s => s.mailHold face (.resetRankState face chan rank ok0 ok36) (fun s => s.doResetRank face chan rank (ok0, ok36))) s :=
  (rfl : exec (.resetRankState face chan rank ok0 ok36) s = execResetRankState face chan rank s ok0 ok36).trans rfl

theorem exec_configureRingEnable (face ring log2 vector imod sqBase cqBase : Nat) (s : State) :
    exec (.configureRingEnable face ring log2 vector imod sqBase cqBase) s = run (fun s => s.mailHold face (.configureRingEnable face ring log2 vector imod sqBase cqBase) (fun s => s.doRingEnable face ring log2 vector imod sqBase cqBase)) s :=
  (rfl : exec (.configureRingEnable face ring log2 vector imod sqBase cqBase) s = execConfigureRingEnable face ring log2 vector imod sqBase cqBase s).trans rfl

theorem exec_configureRingDisable (face ring : Nat) (s : State) :
    exec (.configureRingDisable face ring) s = run (fun s => s.mailHold face (.configureRingDisable face ring) (fun s => s.doRingDisable face ring)) s :=
  (rfl : exec (.configureRingDisable face ring) s = execConfigureRingDisable face ring s).trans rfl

theorem exec_configureRingReset (face ring : Nat) (s : State) :
    exec (.configureRingReset face ring) s = run (fun s => s.mailHold face (.configureRingReset face ring) (fun s => s.doRingReset face ring)) s :=
  (rfl : exec (.configureRingReset face ring) s = execConfigureRingReset face ring s).trans rfl

theorem exec_configureRingResume (face ring : Nat) (s : State) :
    exec (.configureRingResume face ring) s = run (fun s => s.mailHold face (.configureRingResume face ring) (fun s => s.doRingResume face ring)) s :=
  (rfl : exec (.configureRingResume face ring) s = execConfigureRingResume face ring s).trans rfl

theorem exec_getRingStatus (face ring : Nat) (s : State) :
    exec (.getRingStatus face ring) s = run (fun s => s.mailHold face (.getRingStatus face ring) (fun s => s.doRingStatus face ring)) s :=
  (rfl : exec (.getRingStatus face ring) s = execGetRingStatus face ring s).trans rfl

theorem exec_loadTransformKey (face : Nat) (generate : Bool) (key : BitVec 256) (s : State) :
    exec (.loadTransformKey face generate key) s = run (fun s => s.mailHold face (.loadTransformKey face generate key) (fun s => s.doLoadKey face generate key)) s :=
  (rfl : exec (.loadTransformKey face generate key) s = execLoadTransformKey face generate key s).trans rfl

theorem exec_releaseTransformKey (face slot : Nat) (s : State) :
    exec (.releaseTransformKey face slot) s = run (fun s => s.mailHold face (.releaseTransformKey face slot) (fun s => s.doReleaseKey face slot)) s :=
  (rfl : exec (.releaseTransformKey face slot) s = execReleaseTransformKey face slot s).trans rfl

theorem exec_rotateMediaKey (face : Nat) (s : State) :
    exec (.rotateMediaKey face) s = run (fun s => s.mailHold face (.rotateMediaKey face) (fun s => s.doRotate face)) s :=
  (rfl : exec (.rotateMediaKey face) s = execRotateMediaKey face s).trans rfl

theorem exec_getTwinStatus (face : Nat) (s : State) :
    exec (.getTwinStatus face) s = run (fun s => s.mailHold face (.getTwinStatus face) (fun s => s.doTwinStatus face)) s :=
  (rfl : exec (.getTwinStatus face) s = execGetTwinStatus face s).trans rfl

theorem exec_twinHandover (face : Nat) (s : State) :
    exec (.twinHandover face) s = run (fun s => s.mailHold face (.twinHandover face) (fun s => s.doHandover face)) s :=
  (rfl : exec (.twinHandover face) s = execTwinHandover face s).trans rfl

theorem exec_getDcRegionConfiguration (face : Nat) (s : State) :
    exec (.getDcRegionConfiguration face) s = run (fun s => s.doFmConfig face) s :=
  (rfl : exec (.getDcRegionConfiguration face) s = execGetDcRegionConfiguration face s).trans rfl

theorem exec_getDcRegionExtentLists (face : Nat) (s : State) :
    exec (.getDcRegionExtentLists face) s = run (fun s => s.doFmExtents face) s :=
  (rfl : exec (.getDcRegionExtentLists face) s = execGetDcRegionExtentLists face s).trans rfl

theorem exec_initiateDynamicCapacityAdd (face blocks : Nat) (first : Option Nat) (s : State) :
    exec (.initiateDynamicCapacityAdd face blocks first) s = run (fun s => s.doDcAdd face blocks first) s :=
  (rfl : exec (.initiateDynamicCapacityAdd face blocks first) s = execInitiateDynamicCapacityAdd face blocks first s).trans rfl

theorem exec_initiateDynamicCapacityRelease (face block count : Nat) (s : State) :
    exec (.initiateDynamicCapacityRelease face block count) s = run (fun s => s.doFmRelease face block count) s :=
  (rfl : exec (.initiateDynamicCapacityRelease face block count) s = execInitiateDynamicCapacityRelease face block count s).trans rfl

theorem exec_dcAddResponseTimeout (face block : Nat) (s : State) :
    exec (.dcAddResponseTimeout face block) s = run (fun s => s.doDcTimeout face block) s :=
  (rfl : exec (.dcAddResponseTimeout face block) s = execDcAddResponseTimeout face block s).trans rfl

theorem exec_sqTailDoorbell (port ring value : Nat) (bad : Bool) (s : State) :
    exec (.sqTailDoorbell port ring value bad) s = run (fun s => (s.ringErr ring bad).doSqTail port ring value) s :=
  (rfl : exec (.sqTailDoorbell port ring value bad) s = execSqTailDoorbell port ring value s bad).trans rfl

theorem exec_cqHeadDoorbell (port ring value : Nat) (bad : Bool) (s : State) :
    exec (.cqHeadDoorbell port ring value bad) s = run (fun s => (s.ringErr ring bad).doCqHead port ring value) s :=
  (rfl : exec (.cqHeadDoorbell port ring value bad) s = execCqHeadDoorbell port ring value s bad).trans rfl

theorem exec_jobCopy (ring : Nat) (devs : SMap Nat) (desc : Nat) (sram : List (Nat × SramErr)) (s : State) :
    exec (.jobCopy ring devs desc sram) s = run (fun s => (s.sramAll sram).doJobCopy ring devs desc) s :=
  (rfl : exec (.jobCopy ring devs desc sram) s = execJobCopy ring devs s desc sram).trans rfl

theorem exec_jobFill (ring : Nat) (desc : Nat) (sram : List (Nat × SramErr)) (s : State) :
    exec (.jobFill ring desc sram) s = run (fun s => (s.sramAll sram).doJobFill ring desc) s :=
  (rfl : exec (.jobFill ring desc sram) s = execJobFill ring s desc sram).trans rfl

theorem exec_jobCheckpoint (ring : Nat) (desc : Nat) (sram : List (Nat × SramErr)) (s : State) :
    exec (.jobCheckpoint ring desc sram) s = run (fun s => (s.sramAll sram).doJobCheckpoint ring desc) s :=
  (rfl : exec (.jobCheckpoint ring desc sram) s = execJobCheckpoint ring s desc sram).trans rfl

theorem exec_checkpointPassEnd (ring tag : Nat) (s : State) :
    exec (.checkpointPassEnd ring tag) s = run (fun s => s.doPassEnd ring tag) s :=
  (rfl : exec (.checkpointPassEnd ring tag) s = execCheckpointPassEnd ring tag s).trans rfl

theorem exec_jobPin (ring : Nat) (desc : Nat) (sram : List (Nat × SramErr)) (s : State) :
    exec (.jobPin ring desc sram) s = run (fun s => (s.sramAll sram).doJobPin ring desc) s :=
  (rfl : exec (.jobPin ring desc sram) s = execJobPin ring s desc sram).trans rfl

theorem exec_jobUnpin (ring : Nat) (desc : Nat) (sram : List (Nat × SramErr)) (s : State) :
    exec (.jobUnpin ring desc sram) s = run (fun s => (s.sramAll sram).doJobUnpin ring desc) s :=
  (rfl : exec (.jobUnpin ring desc sram) s = execJobUnpin ring s desc sram).trans rfl

theorem exec_jobPrefetchRestore (ring : Nat) (desc : Nat) (sram : List (Nat × SramErr)) (s : State) :
    exec (.jobPrefetchRestore ring desc sram) s = run (fun s => (s.sramAll sram).doJobPrefetch ring desc) s :=
  (rfl : exec (.jobPrefetchRestore ring desc sram) s = execJobPrefetchRestore ring s desc sram).trans rfl

theorem exec_jobTransform (ring : Nat) (bad : List Nat) (devs : SMap Nat) (desc : Nat) (sram : List (Nat × SramErr)) (s : State) :
    exec (.jobTransform ring bad devs desc sram) s = run (fun s => (s.sramAll sram).doJobTransform ring bad devs desc) s :=
  (rfl : exec (.jobTransform ring bad devs desc sram) s = execJobTransform ring s bad devs desc sram).trans rfl

theorem exec_jobVerify (ring : Nat) (src : SMap Nat) (dst : SMap Nat) (desc : Nat) (sram : List (Nat × SramErr)) (s : State) :
    exec (.jobVerify ring src dst desc sram) s = run (fun s => (s.sramAll sram).doJobVerify ring src dst desc) s :=
  (rfl : exec (.jobVerify ring src dst desc sram) s = execJobVerify ring s src dst desc sram).trans rfl

theorem exec_jobZeroFace (ring : Nat) (desc : Nat) (sram : List (Nat × SramErr)) (s : State) :
    exec (.jobZeroFace ring desc sram) s = run (fun s => (s.sramAll sram).doJobZeroFace ring desc) s :=
  (rfl : exec (.jobZeroFace ring desc sram) s = execJobZeroFace ring s desc sram).trans rfl

theorem exec_ringInterruptCoalesceExpiry (ring : Nat) (s : State) :
    exec (.ringInterruptCoalesceExpiry ring) s = run (fun s => s.doCoalesce ring) s :=
  (rfl : exec (.ringInterruptCoalesceExpiry ring) s = execRingInterruptCoalesceExpiry ring s).trans rfl

theorem exec_slbSetHeat (sram : SramErr) (s : State) :
    exec (.slbSetHeat sram) s = run (fun s => s.doSetHeat sram) s :=
  (rfl : exec (.slbSetHeat sram) s = execSlbSetHeat sram s).trans rfl

theorem exec_slbSetLock (sram : SramErr) (s : State) :
    exec (.slbSetLock sram) s = run (fun s => s.doSetLock sram) s :=
  (rfl : exec (.slbSetLock sram) s = execSlbSetLock sram s).trans rfl

theorem exec_slbClrLock (sram : SramErr) (s : State) :
    exec (.slbClrLock sram) s = run (fun s => s.doClrLock sram) s :=
  (rfl : exec (.slbClrLock sram) s = execSlbClrLock sram s).trans rfl

theorem exec_slbSetRstate (sram : SramErr) (s : State) :
    exec (.slbSetRstate sram) s = run (fun s => s.doSetRstate sram) s :=
  (rfl : exec (.slbSetRstate sram) s = execSlbSetRstate sram s).trans rfl

theorem exec_slbLoadMask (sram : SramErr) (s : State) :
    exec (.slbLoadMask sram) s = run (fun s => s.doLoadMask sram) s :=
  (rfl : exec (.slbLoadMask sram) s = execSlbLoadMask sram s).trans rfl

theorem exec_slbSetOwner (sram : SramErr) (s : State) :
    exec (.slbSetOwner sram) s = run (fun s => s.doSetOwner sram) s :=
  (rfl : exec (.slbSetOwner sram) s = execSlbSetOwner sram s).trans rfl

theorem exec_slbSnapshot (slab : Nat) (sram : SramErr) (s : State) :
    exec (.slbSnapshot slab sram) s = run (fun s => (s.sramAll [(slab, sram)]).doSnapshot slab) s :=
  (rfl : exec (.slbSnapshot slab sram) s = execSlbSnapshot slab s sram).trans rfl

theorem exec_slbEccClear (s : State) :
    exec (.slbEccClear) s = run (fun s => s.doEccClear) s :=
  (rfl : exec (.slbEccClear) s = execSlbEccClear s).trans rfl

theorem exec_heatDecaySweep (sram : List (Nat × SramErr)) (s : State) :
    exec (.heatDecaySweep sram) s = run (fun s => (s.sramAll sram).doSweep) s :=
  (rfl : exec (.heatDecaySweep sram) s = execHeatDecaySweep s sram).trans rfl

theorem exec_ledgerUpdate (inp : LedgerIn) (s : State) :
    exec (.ledgerUpdate inp) s = run (fun s => s.doLedgerTick inp) s :=
  (rfl : exec (.ledgerUpdate inp) s = execLedgerUpdate inp s).trans rfl

theorem exec_ledgerExtraUpdate (s : State) :
    exec (.ledgerExtraUpdate) s = run (fun s => s.doLedgerExtra) s :=
  (rfl : exec (.ledgerExtraUpdate) s = execLedgerExtraUpdate s).trans rfl

theorem exec_admissionReportIntervalEnd (face : Nat) (s : State) :
    exec (.admissionReportIntervalEnd face) s = run (fun s => s.doReportEnd face) s :=
  (rfl : exec (.admissionReportIntervalEnd face) s = execAdmissionReportIntervalEnd face s).trans rfl

theorem exec_adcScan (inp : ScanIn) (s : State) :
    exec (.adcScan inp) s = run (fun s => s.doAdcScan inp) s :=
  (rfl : exec (.adcScan inp) s = execAdcScan inp s).trans rfl

theorem exec_gaugeRead (pack : Nat) (ans : Option GaugeIn) (s : State) :
    exec (.gaugeRead pack ans) s = run (fun s => s.doGaugeRead pack ans) s :=
  (rfl : exec (.gaugeRead pack ans) s = execGaugeRead pack ans s).trans rfl

theorem exec_packStale (pack : Nat) (s : State) :
    exec (.packStale pack) s = run (fun s => s.doPackStale pack) s :=
  (rfl : exec (.packStale pack) s = execPackStale pack s).trans rfl

theorem exec_packNoAnswer (pack : Nat) (s : State) :
    exec (.packNoAnswer pack) s = run (fun s => s.doPackNoAnswer pack) s :=
  (rfl : exec (.packNoAnswer pack) s = execPackNoAnswer pack s).trans rfl

theorem exec_esrStale (pack : Nat) (s : State) :
    exec (.esrStale pack) s = run (fun s => s.doEsrStale pack) s :=
  (rfl : exec (.esrStale pack) s = execEsrStale pack s).trans rfl

theorem exec_lgrRemoveRequest (pack : Nat) (s : State) :
    exec (.lgrRemoveRequest pack) s = run (fun s => s.doRemoveRequest pack) s :=
  (rfl : exec (.lgrRemoveRequest pack) s = execLgrRemoveRequest pack s).trans rfl

theorem exec_lgrRemoveCancel (pack : Nat) (s : State) :
    exec (.lgrRemoveCancel pack) s = run (fun s => s.doRemoveCancel pack) s :=
  (rfl : exec (.lgrRemoveCancel pack) s = execLgrRemoveCancel pack s).trans rfl

theorem exec_wearDayBoundary (s : State) :
    exec (.wearDayBoundary) s = run (fun s => s.doWearDay) s :=
  (rfl : exec (.wearDayBoundary) s = execWearDayBoundary s).trans rfl

theorem exec_sensorRead (port sensor : Nat) (raw : Option Nat) (s : State) :
    exec (.sensorRead port sensor raw) s = run (fun s => s.doSensorRead port sensor raw) s :=
  (rfl : exec (.sensorRead port sensor raw) s = execSensorRead port sensor raw s).trans rfl

theorem exec_sensorStale (port sensor : Nat) (s : State) :
    exec (.sensorStale port sensor) s = run (fun s => s.doSensorStale port sensor) s :=
  (rfl : exec (.sensorStale port sensor) s = execSensorStale port sensor s).trans rfl

theorem exec_haulSelect (sram : List (Nat × SramErr)) (haul : Nat) (s : State) :
    exec (.haulSelect sram haul) s = run (fun s => ((s.sramAll sram).haulErr haul).doHaulSelect) s :=
  (rfl : exec (.haulSelect sram haul) s = execHaulSelect s sram haul).trans rfl

theorem exec_haulDramReadDone (sett : Nat) (devs : SMap Nat) (s : State) :
    exec (.haulDramReadDone sett devs) s = run (fun s => s.doHaulRead sett devs) s :=
  (rfl : exec (.haulDramReadDone sett devs) s = execHaulDramReadDone sett devs s).trans rfl

theorem exec_haulPadWaitExpiry (s : State) :
    exec (.haulPadWaitExpiry) s = run (fun s => s.doPadWait) s :=
  (rfl : exec (.haulPadWaitExpiry) s = execHaulPadWaitExpiry s).trans rfl

theorem exec_cipherPageDone (sett pair : Nat) (agree : Bool) (s : State) :
    exec (.cipherPageDone sett pair agree) s = run (fun s => s.doPageDone sett pair agree) s :=
  (rfl : exec (.cipherPageDone sett pair agree) s = execCipherPageDone sett pair agree s).trans rfl

theorem exec_katComplete (pair : Nat) (pass : Bool) (s : State) :
    exec (.katComplete pair pass) s = run (fun s => s.doKatComplete pair pass) s :=
  (rfl : exec (.katComplete pair pass) s = execKatComplete pair pass s).trans rfl

theorem exec_stripeProgramDone (stripe : Nat) (s : State) :
    exec (.stripeProgramDone stripe) s = run (fun s => s.doStripeDone stripe) s :=
  (rfl : exec (.stripeProgramDone stripe) s = execStripeProgramDone stripe s).trans rfl

theorem exec_stripeProgramFail (stripe channel : Nat) (s : State) :
    exec (.stripeProgramFail stripe channel) s = run (fun s => s.doStripeFail stripe channel) s :=
  (rfl : exec (.stripeProgramFail stripe channel) s = execStripeProgramFail stripe channel s).trans rfl

theorem exec_wordlinePadTimeout (group : Nat) (s : State) :
    exec (.wordlinePadTimeout group) s = run (fun s => s.doWordlinePad group) s :=
  (rfl : exec (.wordlinePadTimeout group) s = execWordlinePadTimeout group s).trans rfl

theorem exec_pfwAssert (s : State) :
    exec (.pfwAssert) s = run (fun s => s.doPfwAssert) s :=
  (rfl : exec (.pfwAssert) s = execPfwAssert s).trans rfl

theorem exec_pfwRelease (s : State) :
    exec (.pfwRelease) s = run (fun s => s.doPfwRelease) s :=
  (rfl : exec (.pfwRelease) s = execPfwRelease s).trans rfl

theorem exec_pfwMaxExpiry (s : State) :
    exec (.pfwMaxExpiry) s = run (fun s => s.doPfwMax) s :=
  (rfl : exec (.pfwMaxExpiry) s = execPfwMaxExpiry s).trans rfl

theorem exec_pwrLoss (s : State) :
    exec (.pwrLoss) s = run (fun s => s.doPwrLoss) s :=
  (rfl : exec (.pwrLoss) s = execPwrLoss s).trans rfl

theorem exec_inputRailLoss (s : State) :
    exec (.inputRailLoss) s = run (fun s => s.doInputLoss) s :=
  (rfl : exec (.inputRailLoss) s = execInputRailLoss s).trans rfl

theorem exec_savePark (s : State) :
    exec (.savePark) s = run (fun s => s.woGate HAUL_SAVE_CMD.OP.addr (fun s => s.doSaveCmd false)) s :=
  (rfl : exec (.savePark) s = execSavePark s).trans rfl

theorem exec_saveOff (s : State) :
    exec (.saveOff) s = run (fun s => s.woGate HAUL_SAVE_CMD.OP.addr (fun s => s.doSaveCmd true)) s :=
  (rfl : exec (.saveOff) s = execSaveOff s).trans rfl

theorem exec_saveDrain (s : State) :
    exec (.saveDrain) s = run (fun s => s.doSaveDrain) s :=
  (rfl : exec (.saveDrain) s = execSaveDrain s).trans rfl

theorem exec_saveSlabImage (s : State) :
    exec (.saveSlabImage) s = run (fun s => s.doSlabImage) s :=
  (rfl : exec (.saveSlabImage) s = execSaveSlabImage s).trans rfl

theorem exec_savePslcSwitch (s : State) :
    exec (.savePslcSwitch) s = run (fun s => s.doPslcSwitch) s :=
  (rfl : exec (.savePslcSwitch) s = execSavePslcSwitch s).trans rfl

theorem exec_anchorProgrammed (ok0 ok36 : Bool) (s : State) :
    exec (.anchorProgrammed ok0 ok36) s = run (fun s => s.doAnchor ok0 ok36) s :=
  (rfl : exec (.anchorProgrammed ok0 ok36) s = execAnchorProgrammed ok0 ok36 s).trans rfl

theorem exec_saveCarveDone (inp : CarveIn) (s : State) :
    exec (.saveCarveDone inp) s = run (fun s => s.doCarveDone inp) s :=
  (rfl : exec (.saveCarveDone inp) s = execSaveCarveDone s inp).trans rfl

theorem exec_saveWalkEnd (inp : WalkIn) (s : State) :
    exec (.saveWalkEnd inp) s = run (fun s => s.doWalkEnd inp) s :=
  (rfl : exec (.saveWalkEnd inp) s = execSaveWalkEnd inp s).trans rfl

theorem exec_saveManifestDone (failed : List RecFail) (miss : List (Nat × Bool)) (s : State) :
    exec (.saveManifestDone failed miss) s = run (fun s => s.doManifest failed miss) s :=
  (rfl : exec (.saveManifestDone failed miss) s = execSaveManifestDone failed s miss).trans rfl

theorem exec_saveSelfRefreshDone (s : State) :
    exec (.saveSelfRefreshDone) s = run (fun s => s.doSelfRefreshDone) s :=
  (rfl : exec (.saveSelfRefreshDone) s = execSaveSelfRefreshDone s).trans rfl

theorem exec_saveEnd (s : State) :
    exec (.saveEnd) s = run (fun s => s.doSaveEnd) s :=
  (rfl : exec (.saveEnd) s = execSaveEnd s).trans rfl

theorem exec_inputPowerGood (s : State) :
    exec (.inputPowerGood) s = run (fun s => s.doInputGood) s :=
  (rfl : exec (.inputPowerGood) s = execInputPowerGood s).trans rfl

theorem exec_pg00WaitExpiry (s : State) :
    exec (.pg00WaitExpiry) s = run (fun s => s.doPg00Wait) s :=
  (rfl : exec (.pg00WaitExpiry) s = execPg00WaitExpiry s).trans rfl

theorem exec_resStart (inp : ResIn) (s : State) :
    exec (.resStart inp) s = run (fun s => s.woGate RES_CMD.OP.addr (fun s => s.doRestoreBegin inp)) s :=
  (rfl : exec (.resStart inp) s = execResStart inp s).trans rfl

theorem exec_resOpen (s : State) :
    exec (.resOpen) s = run (fun s => s.woGate RES_CMD.OP.addr (fun s => s.doResOpen)) s :=
  (rfl : exec (.resOpen) s = execResOpen s).trans rfl

theorem exec_resWarm (s : State) :
    exec (.resWarm) s = run (fun s => s.woGate RES_CMD.OP.addr (fun s => s.doResWarm)) s :=
  (rfl : exec (.resWarm) s = execResWarm s).trans rfl

theorem exec_fetchSettWritten (slab : Nat) (page : PageRead) (bad : Bool) (s : State) :
    exec (.fetchSettWritten slab page bad) s = run (fun s => (s.hubErr bad).doFetchSett slab page) s :=
  (rfl : exec (.fetchSettWritten slab page bad) s = execFetchSettWritten slab page s bad).trans rfl

theorem exec_backgroundFill (s : State) :
    exec (.backgroundFill) s = run (fun s => s.doBackgroundFill) s :=
  (rfl : exec (.backgroundFill) s = execBackgroundFill s).trans rfl

theorem exec_restoreHoldExpiry (port tag : Nat) (s : State) :
    exec (.restoreHoldExpiry port tag) s = run (fun s => s.doHoldExpiry port tag) s :=
  (rfl : exec (.restoreHoldExpiry port tag) s = execRestoreHoldExpiry port tag s).trans rfl

theorem exec_dramRefresh (chan rank : Nat) (s : State) :
    exec (.dramRefresh chan rank) s = run (fun s => s.doRefresh chan rank) s :=
  (rfl : exec (.dramRefresh chan rank) s = execDramRefresh chan rank s).trans rfl

theorem exec_mr4Read (chan : Nat) (temps : List Int) (s : State) :
    exec (.mr4Read chan temps) s = run (fun s => s.doMr4 chan temps) s :=
  (rfl : exec (.mr4Read chan temps) s = execMr4Read chan temps s).trans rfl

theorem exec_selfRefreshEntry (chan : Nat) (abort : Bool) (s : State) :
    exec (.selfRefreshEntry chan abort) s = run (fun s => s.doSrEntry chan abort) s :=
  (rfl : exec (.selfRefreshEntry chan abort) s = execSelfRefreshEntry chan abort s).trans rfl

theorem exec_selfRefreshExit (chan : Nat) (late : Bool) (s : State) :
    exec (.selfRefreshExit chan late) s = run (fun s => s.doSrExit chan late) s :=
  (rfl : exec (.selfRefreshExit chan late) s = execSelfRefreshExit chan late s).trans rfl

theorem exec_deviceRetrain (chan rank sensor : Nat) (margins : List (List Nat)) (s : State) :
    exec (.deviceRetrain chan rank sensor margins) s = run (fun s => s.doRetrain chan rank sensor margins) s :=
  (rfl : exec (.deviceRetrain chan rank sensor margins) s = execDeviceRetrain chan rank sensor margins s).trans rfl

theorem exec_scrubStep (chan : Nat) (devs : SMap Nat) (s : State) :
    exec (.scrubStep chan devs) s = run (fun s => s.doScrub chan devs) s :=
  (rfl : exec (.scrubStep chan devs) s = execScrubStep chan devs s).trans rfl

theorem exec_repairPageReady (sett line : Nat) (page : PageRead) (devs : Nat) (s : State) :
    exec (.repairPageReady sett line page devs) s = run (fun s => s.doRepair sett line page devs) s :=
  (rfl : exec (.repairPageReady sett line page devs) s = execRepairPageReady sett line page devs s).trans rfl

theorem exec_migStart (chan : Nat) (ok0 : Bool) (ok36 : Bool) (s : State) :
    exec (.migStart chan ok0 ok36) s = run (fun s => s.woGate (DCH_MIG_CTL.OP chan).addr (fun s => s.doMigStart chan (ok0, ok36))) s :=
  (rfl : exec (.migStart chan ok0 ok36) s = execMigStart chan s ok0 ok36).trans rfl

theorem exec_migRetire (chan : Nat) (ok0 : Bool) (ok36 : Bool) (s : State) :
    exec (.migRetire chan ok0 ok36) s = run (fun s => s.woGate (DCH_MIG_CTL.OP chan).addr (fun s => s.doMigRetire chan (ok0, ok36))) s :=
  (rfl : exec (.migRetire chan ok0 ok36) s = execMigRetire chan s ok0 ok36).trans rfl

theorem exec_migAbort (chan : Nat) (s : State) :
    exec (.migAbort chan) s = run (fun s => s.woGate (DCH_MIG_CTL.OP chan).addr (fun s => s.doMigAbort chan)) s :=
  (rfl : exec (.migAbort chan) s = execMigAbort chan s).trans rfl

theorem exec_migCopySett (devs : SMap Nat) (ok0 : Bool) (ok36 : Bool) (s : State) :
    exec (.migCopySett devs ok0 ok36) s = run (fun s => s.doMigCopy devs (ok0, ok36)) s :=
  (rfl : exec (.migCopySett devs ok0 ok36) s = execMigCopySett devs s ok0 ok36).trans rfl

theorem exec_nchApply (chan : Nat) (s : State) :
    exec (.nchApply chan) s = run (fun s => s.woGate (NCH_CTL.APPLY chan).addr (fun s => s.doNchApply chan)) s :=
  (rfl : exec (.nchApply chan) s = execNchApply chan s).trans rfl

theorem exec_nchCwmaxClear (chan : Nat) (s : State) :
    exec (.nchCwmaxClear chan) s = run (fun s => s.woGate (NCH_CWMAX.CLEAR chan).addr (fun s => s.doCwmaxClear chan)) s :=
  (rfl : exec (.nchCwmaxClear chan) s = execNchCwmaxClear chan s).trans rfl

theorem exec_nandPageReadDone (inp : NandRead) (patrol : Bool) (s : State) :
    exec (.nandPageReadDone inp patrol) s = run (fun s => s.doNandRead inp patrol) s :=
  (rfl : exec (.nandPageReadDone inp patrol) s = execNandPageReadDone inp s patrol).trans rfl

theorem exec_lodeEraseStart (what : EraseOf) (s : State) :
    exec (.lodeEraseStart what) s = run (fun s => s.doEraseStart what) s :=
  (rfl : exec (.lodeEraseStart what) s = execLodeEraseStart what s).trans rfl

theorem exec_journalPageProgrammed (ok0 ok36 : Bool) (s : State) :
    exec (.journalPageProgrammed ok0 ok36) s = run (fun s => s.doJournal ok0 ok36) s :=
  (rfl : exec (.journalPageProgrammed ok0 ok36) s = execJournalPageProgrammed ok0 ok36 s).trans rfl

theorem exec_eraseDone (what : EraseOf) (failed : List (Nat × Nat × Nat)) (s : State) :
    exec (.eraseDone what failed) s = run (fun s => s.doEraseDone what failed) s :=
  (rfl : exec (.eraseDone what failed) s = execEraseDone what failed s).trans rfl

theorem exec_dieNoAnswerTimeout (channel target : Nat) (s : State) :
    exec (.dieNoAnswerTimeout channel target) s = run (fun s => s.doDieSilent channel target) s :=
  (rfl : exec (.dieNoAnswerTimeout channel target) s = execDieNoAnswerTimeout channel target s).trans rfl

theorem exec_nandPatrolRead (channel target block page : Nat) (s : State) :
    exec (.nandPatrolRead channel target block page) s = run (fun s => s.doPatrol channel target block page) s :=
  (rfl : exec (.nandPatrolRead channel target block page) s = execNandPatrolRead channel target block page s).trans rfl

theorem exec_reworkMove (sett : Nat) (s : State) :
    exec (.reworkMove sett) s = run (fun s => s.doRework sett) s :=
  (rfl : exec (.reworkMove sett) s = execReworkMove sett s).trans rfl

theorem exec_sumpFold (sett : Nat) (s : State) :
    exec (.sumpFold sett) s = run (fun s => s.doFold sett) s :=
  (rfl : exec (.sumpFold sett) s = execSumpFold sett s).trans rfl

theorem exec_rewrap (sett : Nat) (s : State) :
    exec (.rewrap sett) s = run (fun s => s.doRewrap sett) s :=
  (rfl : exec (.rewrap sett) s = execRewrap sett s).trans rfl

theorem exec_cipGenerate (s : State) :
    exec (.cipGenerate) s = run (fun s => s.doGenerate) s :=
  (rfl : exec (.cipGenerate) s = execCipGenerate s).trans rfl

theorem exec_cipActivate (s : State) :
    exec (.cipActivate) s = run (fun s => s.doActivate) s :=
  (rfl : exec (.cipActivate) s = execCipActivate s).trans rfl

theorem exec_cipZeroize (s : State) :
    exec (.cipZeroize) s = run (fun s => s.doZeroize) s :=
  (rfl : exec (.cipZeroize) s = execCipZeroize s).trans rfl

theorem exec_cipZeroizePair (s : State) :
    exec (.cipZeroizePair) s = run (fun s => s.doZeroizePair) s :=
  (rfl : exec (.cipZeroizePair) s = execCipZeroizePair s).trans rfl

theorem exec_cipLoadTx (s : State) :
    exec (.cipLoadTx) s = run (fun s => s.doLoadTx) s :=
  (rfl : exec (.cipLoadTx) s = execCipLoadTx s).trans rfl

theorem exec_cipReleaseTx (s : State) :
    exec (.cipReleaseTx) s = run (fun s => s.doReleaseTx) s :=
  (rfl : exec (.cipReleaseTx) s = execCipReleaseTx s).trans rfl

theorem exec_cipKat (s : State) :
    exec (.cipKat) s = run (fun s => s.doKat) s :=
  (rfl : exec (.cipKat) s = execCipKat s).trans rfl

theorem exec_keyStoreProgrammed (ok0 ok36 : Bool) (s : State) :
    exec (.keyStoreProgrammed ok0 ok36) s = run (fun s => s.doStoreProgrammed ok0 ok36) s :=
  (rfl : exec (.keyStoreProgrammed ok0 ok36) s = execKeyStoreProgrammed ok0 ok36 s).trans rfl

theorem exec_keyStorePurgeDone (s : State) :
    exec (.keyStorePurgeDone) s = run (fun s => s.doPurgeDone) s :=
  (rfl : exec (.keyStorePurgeDone) s = execKeyStorePurgeDone s).trans rfl

theorem exec_galleryLinkTrained (link rate width : Nat) (s : State) :
    exec (.galleryLinkTrained link rate width) s = run (fun s => s.doGalTrained link rate width) s :=
  (rfl : exec (.galleryLinkTrained link rate width) s = execGalleryLinkTrained link rate width s).trans rfl

theorem exec_hello (link : Nat) (h : HelloIn) (s : State) :
    exec (.hello link h) s = run (fun s => s.doHello link h) s :=
  (rfl : exec (.hello link h) s = execHello link h s).trans rfl

theorem exec_heartbeat (link chip margin : Nat) (epoch : BitVec 64) (next : Nat) (replays : Nat) (s : State) :
    exec (.heartbeat link chip margin epoch next replays) s = run (fun s => (s.noteReplays link replays).doHeartbeat link chip margin epoch) s :=
  (rfl : exec (.heartbeat link chip margin epoch next replays) s = execHeartbeat link chip margin epoch next s replays).trans rfl

theorem exec_heartbeatSend (s : State) :
    exec (.heartbeatSend) s = run (fun s => s.doHeartbeatSend) s :=
  (rfl : exec (.heartbeatSend) s = execHeartbeatSend s).trans rfl

theorem exec_mirror (seq face dpa : Nat) (data : Line) (mask : BitVec 64) (poison : Bool) (devs : Nat) (sram : List (Nat × SramErr)) (bad : Bool) (s : State) :
    exec (.mirror seq face dpa data mask poison devs sram bad) s = run (fun s => ((s.sramAll sram).hubErr bad).doMirror seq face dpa data mask poison devs) s :=
  (rfl : exec (.mirror seq face dpa data mask poison devs sram bad) s = execMirror seq face dpa data mask poison s devs sram bad).trans rfl

theorem exec_fwd (tag face dpa : Nat) (data : Line) (mask : BitVec 64) (poison : Bool) (devs : Nat) (sram : List (Nat × SramErr)) (s : State) :
    exec (.fwd tag face dpa data mask poison devs sram) s = run (fun s => (s.sramAll sram).doFwd tag face dpa data mask poison devs) s :=
  (rfl : exec (.fwd tag face dpa data mask poison devs sram) s = execFwd tag face dpa data mask poison s devs sram).trans rfl

theorem exec_order (seq tag : Nat) (s : State) :
    exec (.order seq tag) s = run (fun s => s.doOrder seq tag) s :=
  (rfl : exec (.order seq tag) s = execOrder seq tag s).trans rfl

theorem exec_ack (seq : Nat) (map : BitVec 512) (s : State) :
    exec (.ack seq map) s = run (fun s => s.doAck seq map) s :=
  (rfl : exec (.ack seq map) s = execAck seq map s).trans rfl

theorem exec_galleryFence (sub : Nat) (s : State) :
    exec (.galleryFence sub) s = run (fun s => s.doGalFence sub) s :=
  (rfl : exec (.galleryFence sub) s = execGalleryFence sub s).trans rfl

theorem exec_recoverReq (tag sub face addr : Nat) (devs : SMap Nat) (s : State) :
    exec (.recoverReq tag sub face addr devs) s = run (fun s => s.doRecoverReq tag sub face addr devs) s :=
  (rfl : exec (.recoverReq tag sub face addr devs) s = execRecoverReq tag sub face addr s devs).trans rfl

theorem exec_recoverData (tag sub offset : Nat) (lines : List Line) (s : State) :
    exec (.recoverData tag sub offset lines) s = run (fun s => s.doRecoverData tag sub offset lines) s :=
  (rfl : exec (.recoverData tag sub offset lines) s = execRecoverData tag sub offset lines s).trans rfl

theorem exec_rslvData (seq sub sett chunk : Nat) (lines : List Line) (s : State) :
    exec (.rslvData seq sub sett chunk lines) s = run (fun s => s.doRslvData seq sub sett chunk lines) s :=
  (rfl : exec (.rslvData seq sub sett chunk lines) s = execRslvData seq sub sett chunk lines s).trans rfl

theorem exec_rslvSlabDone (seq slab : Nat) (s : State) :
    exec (.rslvSlabDone seq slab) s = run (fun s => s.doSlabDone seq slab) s :=
  (rfl : exec (.rslvSlabDone seq slab) s = execRslvSlabDone seq slab s).trans rfl

theorem exec_rslvList (slabs : List Nat) (last : Bool) (s : State) :
    exec (.rslvList slabs last) s = run (fun s => s.doRslvList slabs last) s :=
  (rfl : exec (.rslvList slabs last) s = execRslvList slabs last s).trans rfl

theorem exec_lineList (lines : List (Nat × Nat)) (last : Bool) (s : State) :
    exec (.lineList lines last) s = run (fun s => s.doLineList lines last) s :=
  (rfl : exec (.lineList lines last) s = execLineList lines last s).trans rfl

theorem exec_lineData (seq face dpa : Nat) (data : Line) (poison : Bool) (s : State) :
    exec (.lineData seq face dpa data poison) s = run (fun s => s.doLineData seq face dpa data poison) s :=
  (rfl : exec (.lineData seq face dpa data poison) s = execLineData seq face dpa data poison s).trans rfl

theorem exec_ctrlDcAdd (seq face first : Nat) (pool : List Nat) (s : State) :
    exec (.ctrlDcAdd seq face first pool) s = run (fun s => s.doCtrlAdd seq face first pool) s :=
  (rfl : exec (.ctrlDcAdd seq face first pool) s = execCtrlDcAdd seq face first pool s).trans rfl

theorem exec_ctrlDcRelease (seq face block count : Nat) (s : State) :
    exec (.ctrlDcRelease seq face block count) s = run (fun s => s.doCtrlRelease seq face block count) s :=
  (rfl : exec (.ctrlDcRelease seq face block count) s = execCtrlDcRelease seq face block count s).trans rfl

theorem exec_ctrlZeroFace (seq face : Nat) (s : State) :
    exec (.ctrlZeroFace seq face) s = run (fun s => s.doCtrlZero seq face) s :=
  (rfl : exec (.ctrlZeroFace seq face) s = execCtrlZeroFace seq face s).trans rfl

theorem exec_ctrlErase (seq face opcode : Nat) (s : State) :
    exec (.ctrlErase seq face opcode) s = run (fun s => s.doCtrlErase seq face opcode) s :=
  (rfl : exec (.ctrlErase seq face opcode) s = execCtrlErase seq face opcode s).trans rfl

theorem exec_ctrlLsa (seq face offset : Nat) (bytes : List Byte) (ok0 ok36 : Bool) (s : State) :
    exec (.ctrlLsa seq face offset bytes ok0 ok36) s = run (fun s => s.doCtrlLsa seq face offset bytes ok0 ok36) s :=
  (rfl : exec (.ctrlLsa seq face offset bytes ok0 ok36) s = execCtrlLsa seq face offset bytes ok0 ok36 s).trans rfl

theorem exec_ctrlShutdownState (seq face value : Nat) (ok0 ok36 : Bool) (s : State) :
    exec (.ctrlShutdownState seq face value ok0 ok36) s = run (fun s => s.doCtrlShutdown seq face value ok0 ok36) s :=
  (rfl : exec (.ctrlShutdownState seq face value ok0 ok36) s = execCtrlShutdownState seq face value ok0 ok36 s).trans rfl

theorem exec_ctrlDone (seq sub face : Nat) (ok : Bool) (s : State) :
    exec (.ctrlDone seq sub face ok) s = run (fun s => s.doCtrlDone seq sub face ok) s :=
  (rfl : exec (.ctrlDone seq sub face ok) s = execCtrlDone seq sub face ok s).trans rfl

theorem exec_resilverSett (devs : SMap Nat) (s : State) :
    exec (.resilverSett devs) s = run (fun s => s.doResilver devs) s :=
  (rfl : exec (.resilverSett devs) s = execResilverSett s devs).trans rfl

theorem exec_galleryLinkDown (link : Nat) (s : State) :
    exec (.galleryLinkDown link) s = run (fun s => s.doGalDown link) s :=
  (rfl : exec (.galleryLinkDown link) s = execGalleryLinkDown link s).trans rfl

theorem exec_galleryGraceExpiry (s : State) :
    exec (.galleryGraceExpiry) s = run (fun s => s.doGrace) s :=
  (rfl : exec (.galleryGraceExpiry) s = execGalleryGraceExpiry s).trans rfl

theorem exec_joinWaitExpiry (s : State) :
    exec (.joinWaitExpiry) s = run (fun s => s.doJoinWait) s :=
  (rfl : exec (.joinWaitExpiry) s = execJoinWaitExpiry s).trans rfl

theorem exec_galleryRetrain (link : Nat) (s : State) :
    exec (.galleryRetrain link) s = run (fun s => s.doGalRetrain link) s :=
  (rfl : exec (.galleryRetrain link) s = execGalleryRetrain link s).trans rfl

theorem exec_galTakeover (key : Word) (s : State) :
    exec (.galTakeover key) s = run (fun s => s.woGate GAL_TAKEOVER.KEY.addr (fun s => s.doTakeover key)) s :=
  (rfl : exec (.galTakeover key) s = execGalTakeover key s).trans rfl

theorem exec_twinStatusRead (word : Option Word) (absent : Bool) (s : State) :
    exec (.twinStatusRead word absent) s = run (fun s => s.doTwinRead word absent) s :=
  (rfl : exec (.twinStatusRead word absent) s = execTwinStatusRead word absent s).trans rfl

theorem exec_tw7StatusCommand (s : State) :
    exec (.tw7StatusCommand) s = run (fun s => s.doTw7Status) s :=
  (rfl : exec (.tw7StatusCommand) s = execTw7StatusCommand s).trans rfl

theorem exec_tw7Alert (word : Option Word) (absent : Bool) (s : State) :
    exec (.tw7Alert word absent) s = run (fun s => s.doTwinRead word absent) s :=
  (rfl : exec (.tw7Alert word absent) s = execTw7Alert word absent s).trans rfl

theorem exec_seqOn (bmc : Bool) (s : State) :
    exec (.seqOn bmc) s = run (fun s => s.doSeqOn bmc) s :=
  (rfl : exec (.seqOn bmc) s = execSeqOn bmc s).trans rfl

theorem exec_seqOff (bmc : Bool) (s : State) :
    exec (.seqOff bmc) s = run (fun s => s.doSeqOff bmc) s :=
  (rfl : exec (.seqOff bmc) s = execSeqOff bmc s).trans rfl

theorem exec_seqOffTimed (bmc : Bool) (s : State) :
    exec (.seqOffTimed bmc) s = run (fun s => s.doSeqOffTimed bmc) s :=
  (rfl : exec (.seqOffTimed bmc) s = execSeqOffTimed bmc s).trans rfl

theorem exec_seqClear (bmc : Bool) (s : State) :
    exec (.seqClear bmc) s = run (fun s => s.doSeqClear bmc) s :=
  (rfl : exec (.seqClear bmc) s = execSeqClear bmc s).trans rfl

theorem exec_seqPulse (pin : Nat) (s : State) :
    exec (.seqPulse pin) s = run (fun s => s.doSeqPulse pin) s :=
  (rfl : exec (.seqPulse pin) s = execSeqPulse pin s).trans rfl

theorem exec_offTimedExpiry (s : State) :
    exec (.offTimedExpiry) s = run (fun s => s.doOffTimedEnd) s :=
  (rfl : exec (.offTimedExpiry) s = execOffTimedExpiry s).trans rfl

theorem exec_benchStepUp (s : State) :
    exec (.benchStepUp) s = run (fun s => s.doBenchStepUp) s :=
  (rfl : exec (.benchStepUp) s = execBenchStepUp s).trans rfl

theorem exec_benchDelayExpiry (s : State) :
    exec (.benchDelayExpiry) s = run (fun s => s.doBenchDelay) s :=
  (rfl : exec (.benchDelayExpiry) s = execBenchDelayExpiry s).trans rfl

theorem exec_resetStretchExpiry (pin : Nat) (s : State) :
    exec (.resetStretchExpiry pin) s = run (fun s => s.doStretchEnd pin) s :=
  (rfl : exec (.resetStretchExpiry pin) s = execResetStretchExpiry pin s).trans rfl

theorem exec_benchTimeout (s : State) :
    exec (.benchTimeout) s = run (fun s => s.doBenchTimeout) s :=
  (rfl : exec (.benchTimeout) s = execBenchTimeout s).trans rfl

theorem exec_benchStepDown (s : State) :
    exec (.benchStepDown) s = run (fun s => s.doBenchStepDown) s :=
  (rfl : exec (.benchStepDown) s = execBenchStepDown s).trans rfl

theorem exec_dischargeTimeout (rail : Nat) (s : State) :
    exec (.dischargeTimeout rail) s = run (fun s => s.doDischargeTimeout rail) s :=
  (rfl : exec (.dischargeTimeout rail) s = execDischargeTimeout rail s).trans rfl

theorem exec_dnWaitExpiry (s : State) :
    exec (.dnWaitExpiry) s = run (fun s => s.doDnWait) s :=
  (rfl : exec (.dnWaitExpiry) s = execDnWaitExpiry s).trans rfl

theorem exec_benchSyncTimeout (s : State) :
    exec (.benchSyncTimeout) s = run (fun s => s.doSyncTimeout) s :=
  (rfl : exec (.benchSyncTimeout) s = execBenchSyncTimeout s).trans rfl

theorem exec_upWaitExpiry (s : State) :
    exec (.upWaitExpiry) s = run (fun s => s.doUpWait) s :=
  (rfl : exec (.upWaitExpiry) s = execUpWaitExpiry s).trans rfl

theorem exec_seqUpFall (s : State) :
    exec (.seqUpFall) s = run (fun s => s.doSeqUpFall) s :=
  (rfl : exec (.seqUpFall) s = execSeqUpFall s).trans rfl

theorem exec_minOffExpiry (s : State) :
    exec (.minOffExpiry) s = run (fun s => s.doMinOff) s :=
  (rfl : exec (.minOffExpiry) s = execMinOffExpiry s).trans rfl

theorem exec_resetPulseEnd (pin : Nat) (s : State) :
    exec (.resetPulseEnd pin) s = run (fun s => s.doPulseEnd pin) s :=
  (rfl : exec (.resetPulseEnd pin) s = execResetPulseEnd pin s).trans rfl

theorem exec_crystalFail (s : State) :
    exec (.crystalFail) s = run (fun s => s.doCrystalFail) s :=
  (rfl : exec (.crystalFail) s = execCrystalFail s).trans rfl

theorem exec_crystalRecover (s : State) :
    exec (.crystalRecover) s = run (fun s => s.doCrystalRecover) s :=
  (rfl : exec (.crystalRecover) s = execCrystalRecover s).trans rfl

theorem exec_refclkFail (s : State) :
    exec (.refclkFail) s = run (fun s => s.doRefFail) s :=
  (rfl : exec (.refclkFail) s = execRefclkFail s).trans rfl

theorem exec_pllLockLoss (pll : Nat) (s : State) :
    exec (.pllLockLoss pll) s = run (fun s => s.doLockLoss pll) s :=
  (rfl : exec (.pllLockLoss pll) s = execPllLockLoss pll s).trans rfl

theorem exec_islandRequest (island : Nat) (on : Bool) (s : State) :
    exec (.islandRequest island on) s = run (fun s => s.doIslandRequest island on) s :=
  (rfl : exec (.islandRequest island on) s = execIslandRequest island on s).trans rfl

theorem exec_islandIdleExpiry (island : Nat) (s : State) :
    exec (.islandIdleExpiry island) s = run (fun s => s.doIslandIdle island) s :=
  (rfl : exec (.islandIdleExpiry island) s = execIslandIdleExpiry island s).trans rfl

theorem exec_islandWakeDone (island : Nat) (s : State) :
    exec (.islandWakeDone island) s = run (fun s => s.doWakeDone island) s :=
  (rfl : exec (.islandWakeDone island) s = execIslandWakeDone island s).trans rfl

theorem exec_islandStopDone (island : Nat) (s : State) :
    exec (.islandStopDone island) s = run (fun s => s.doStopDone island) s :=
  (rfl : exec (.islandStopDone island) s = execIslandStopDone island s).trans rfl

theorem exec_islandWakeFault (island : Nat) (s : State) :
    exec (.islandWakeFault island) s = run (fun s => s.doWakeFault island) s :=
  (rfl : exec (.islandWakeFault island) s = execIslandWakeFault island s).trans rfl

theorem exec_windowRollover (cls : Nat) (s : State) :
    exec (.windowRollover cls) s = run (fun s => s.doRollover cls) s :=
  (rfl : exec (.windowRollover cls) s = execWindowRollover cls s).trans rfl

theorem exec_parityCheck (bad : Bool) (s : State) :
    exec (.parityCheck bad) s = run (fun s => s.doParity bad) s :=
  (rfl : exec (.parityCheck bad) s = execParityCheck bad s).trans rfl

theorem exec_fltWarmReset (s : State) :
    exec (.fltWarmReset) s = run (fun s => s.doFltReset) s :=
  (rfl : exec (.fltWarmReset) s = execFltWarmReset s).trans rfl

theorem exec_fltInject (src : Nat) (s : State) :
    exec (.fltInject src) s = run (fun s => s.doInjectRaise src) s :=
  (rfl : exec (.fltInject src) s = execFltInject src s).trans rfl

theorem exec_fltIrqqPop (s : State) :
    exec (.fltIrqqPop) s = run (fun s => s.doIrqPop) s :=
  (rfl : exec (.fltIrqqPop) s = execFltIrqqPop s).trans rfl

theorem exec_fltFfcClear (s : State) :
    exec (.fltFfcClear) s = run (fun s => s.doFfcClear) s :=
  (rfl : exec (.fltFfcClear) s = execFltFfcClear s).trans rfl

theorem exec_warmChipReset (s : State) :
    exec (.warmChipReset) s = run (fun s => s.doWarmReset) s :=
  (rfl : exec (.warmChipReset) s = execWarmChipReset s).trans rfl

theorem exec_watchdogExpiry (s : State) :
    exec (.watchdogExpiry) s = run (fun s => s.doWatchdog) s :=
  (rfl : exec (.watchdogExpiry) s = execWatchdogExpiry s).trans rfl

theorem exec_foremanCoresReleased (s : State) :
    exec (.foremanCoresReleased) s = run (fun s => s.doCoresReleased) s :=
  (rfl : exec (.foremanCoresReleased) s = execForemanCoresReleased s).trans rfl

theorem exec_fwmWdtKick (key : Word) (s : State) :
    exec (.fwmWdtKick key) s = run (fun s => s.doKick key) s :=
  (rfl : exec (.fwmWdtKick key) s = execFwmWdtKick key s).trans rfl

theorem exec_fwmAlive (key : Word) (ok0 ok36 : Bool) (s : State) :
    exec (.fwmAlive key ok0 ok36) s = run (fun s => s.doAlive key ok0 ok36) s :=
  (rfl : exec (.fwmAlive key ok0 ok36) s = execFwmAlive key ok0 ok36 s).trans rfl

theorem exec_fwmStageOpen (slot : Nat) (ok : Bool) (ok36 : Bool) (s : State) :
    exec (.fwmStageOpen slot ok ok36) s = run (fun s => s.doStageOpen slot (ok, ok36)) s :=
  (rfl : exec (.fwmStageOpen slot ok ok36) s = execFwmStageOpen slot ok s ok36).trans rfl

theorem exec_fwmStageData (data : Word) (ok : Bool) (ok36 : Bool) (s : State) :
    exec (.fwmStageData data ok ok36) s = run (fun s => s.doStageData data (ok, ok36)) s :=
  (rfl : exec (.fwmStageData data ok ok36) s = execFwmStageData data ok s ok36).trans rfl

theorem exec_fwmStageSeal (slot : Nat) (ok : Bool) (ok36 : Bool) (s : State) :
    exec (.fwmStageSeal slot ok ok36) s = run (fun s => s.doStageSeal slot (ok, ok36)) s :=
  (rfl : exec (.fwmStageSeal slot ok ok36) s = execFwmStageSeal slot ok s ok36).trans rfl

theorem exec_fwmSelectNext (slot : Nat) (ok0 ok36 : Bool) (s : State) :
    exec (.fwmSelectNext slot ok0 ok36) s = run (fun s => s.doSelectNext slot ok0 ok36) s :=
  (rfl : exec (.fwmSelectNext slot ok0 ok36) s = execFwmSelectNext slot ok0 ok36 s).trans rfl

theorem exec_fwmActivateNow (s : State) :
    exec (.fwmActivateNow) s = run (fun s => s.doActivateNow) s :=
  (rfl : exec (.fwmActivateNow) s = execFwmActivateNow s).trans rfl

theorem exec_fwmAbort (s : State) :
    exec (.fwmAbort) s = run (fun s => s.doFwAbort) s :=
  (rfl : exec (.fwmAbort) s = execFwmAbort s).trans rfl

theorem exec_fwmBlow (s : State) :
    exec (.fwmBlow) s = run (fun s => s.doBlow) s :=
  (rfl : exec (.fwmBlow) s = execFwmBlow s).trans rfl

theorem exec_bootRomStart (inp : BootIn) (s : State) :
    exec (.bootRomStart inp) s = run (fun s => s.doBootRom inp) s :=
  (rfl : exec (.bootRomStart inp) s = execBootRomStart inp s).trans rfl

theorem exec_svyVerify (s : State) :
    exec (.svyVerify) s = run (fun s => s.doSvyVerify) s :=
  (rfl : exec (.svyVerify) s = execSvyVerify s).trans rfl

theorem exec_svyInstall (s : State) :
    exec (.svyInstall) s = run (fun s => s.doSvyInstall) s :=
  (rfl : exec (.svyInstall) s = execSvyInstall s).trans rfl

theorem exec_svyLiveLoad (s : State) :
    exec (.svyLiveLoad) s = run (fun s => s.doSvyLive) s :=
  (rfl : exec (.svyLiveLoad) s = execSvyLiveLoad s).trans rfl

theorem exec_svyClear (s : State) :
    exec (.svyClear) s = run (fun s => s.doSvyClear) s :=
  (rfl : exec (.svyClear) s = execSvyClear s).trans rfl

theorem exec_svyStageData (write : Bool) (data : Word) (s : State) :
    exec (.svyStageData write data) s = run (fun s => s.doStageSvy write data) s :=
  (rfl : exec (.svyStageData write data) s = execSvyStageData write data s).trans rfl

theorem exec_surveyInstallProgrammed (ok0 ok36 : Bool) (s : State) :
    exec (.surveyInstallProgrammed ok0 ok36) s = run (fun s => s.doInstalled ok0 ok36 (fun s => s.askReset .command)) s :=
  (rfl : exec (.surveyInstallProgrammed ok0 ok36) s = execSurveyInstallProgrammed ok0 ok36 s).trans rfl

theorem exec_liveLoadApply (s : State) :
    exec (.liveLoadApply) s = run (fun s => s.doLiveApply) s :=
  (rfl : exec (.liveLoadApply) s = execLiveLoadApply s).trans rfl

theorem exec_clgCommitCadence (s : State) :
    exec (.clgCommitCadence) s = run (fun s => s.doCommitCadence) s :=
  (rfl : exec (.clgCommitCadence) s = execClgCommitCadence s).trans rfl

theorem exec_clgCommitPending (s : State) :
    exec (.clgCommitPending) s = run (fun s => s.doCommitPending) s :=
  (rfl : exec (.clgCommitPending) s = execClgCommitPending s).trans rfl

theorem exec_clgCadenceDue (s : State) :
    exec (.clgCadenceDue) s = run (fun s => s.doCadenceDue) s :=
  (rfl : exec (.clgCadenceDue) s = execClgCadenceDue s).trans rfl

theorem exec_clgPageProgrammed (ok0 ok36 : Bool) (s : State) :
    exec (.clgPageProgrammed ok0 ok36) s = run (fun s => s.doCommitProgrammed ok0 ok36) s :=
  (rfl : exec (.clgPageProgrammed ok0 ok36) s = execClgPageProgrammed ok0 ok36 s).trans rfl

theorem exec_clgCurFetch (seq : Nat) (s : State) :
    exec (.clgCurFetch seq) s = run (fun s => s.doCurFetch seq) s :=
  (rfl : exec (.clgCurFetch seq) s = execClgCurFetch seq s).trans rfl

theorem exec_clgFetchDone (bad : Bool) (s : State) :
    exec (.clgFetchDone bad) s = run (fun s => s.doFetchDone bad) s :=
  (rfl : exec (.clgFetchDone bad) s = execClgFetchDone s bad).trans rfl

theorem exec_tw0Mctp (bytes : List Byte) (pec : PecIn) (s : State) :
    exec (.tw0Mctp bytes pec) s = run (fun s => s.doTw0Mctp bytes pec) s :=
  (rfl : exec (.tw0Mctp bytes pec) s = execTw0Mctp bytes pec s).trans rfl

theorem exec_tw0RegAddr (addr : Nat) (pec : PecIn) (s : State) :
    exec (.tw0RegAddr addr pec) s = run (fun s => s.doTw0RegAddr addr pec) s :=
  (rfl : exec (.tw0RegAddr addr pec) s = execTw0RegAddr addr pec s).trans rfl

theorem exec_tw0RegDataWrite (data : Word) (pec : PecIn) (s : State) :
    exec (.tw0RegDataWrite data pec) s = run (fun s => s.doTw0RegDataWrite data pec) s :=
  (rfl : exec (.tw0RegDataWrite data pec) s = execTw0RegDataWrite data pec s).trans rfl

theorem exec_tw0RegDataRead (s : State) :
    exec (.tw0RegDataRead) s = run (fun s => s.doTw0RegDataRead) s :=
  (rfl : exec (.tw0RegDataRead) s = execTw0RegDataRead s).trans rfl

theorem exec_tw0AlertRead (s : State) :
    exec (.tw0AlertRead) s = run (fun s => s.doTw0AlertRead) s :=
  (rfl : exec (.tw0AlertRead) s = execTw0AlertRead s).trans rfl

theorem exec_tw0UnknownCommand (code : Nat) (s : State) :
    exec (.tw0UnknownCommand code) s = run (fun s => s.doTw0UnknownCommand code) s :=
  (rfl : exec (.tw0UnknownCommand code) s = execTw0UnknownCommand code s).trans rfl

theorem exec_tw0AraRead (won : Bool) (s : State) :
    exec (.tw0AraRead won) s = run (fun s => s.doTw0AraRead won) s :=
  (rfl : exec (.tw0AraRead won) s = execTw0AraRead won s).trans rfl

theorem exec_smbalertRearm (s : State) :
    exec (.smbalertRearm) s = run (fun s => s.doSmbalertRearm) s :=
  (rfl : exec (.smbalertRearm) s = execSmbalertRearm s).trans rfl

theorem exec_tw0Sleep (s : State) :
    exec (.tw0Sleep) s = run (fun s => s.doTw0Sleep) s :=
  (rfl : exec (.tw0Sleep) s = execTw0Sleep s).trans rfl

theorem exec_tw0SclTimeout (s : State) :
    exec (.tw0SclTimeout) s = run (fun s => s.doTw0SclTimeout) s :=
  (rfl : exec (.tw0SclTimeout) s = execTw0SclTimeout s).trans rfl

theorem exec_twbGo (port : Nat) (s : State) :
    exec (.twbGo port) s = run (fun s => s.doTwGo port) s :=
  (rfl : exec (.twbGo port) s = execTwbGo port s).trans rfl

theorem exec_twTransactionDone (port : Nat) (res : TwRes) (bytes : List Byte) (s : State) :
    exec (.twTransactionDone port res bytes) s = run (fun s => s.doTwDone port res bytes) s :=
  (rfl : exec (.twTransactionDone port res bytes) s = execTwTransactionDone port res bytes s).trans rfl

theorem exec_twAddrNackRetry (port : Nat) (s : State) :
    exec (.twAddrNackRetry port) s = run (fun s => s.doTwRetry port) s :=
  (rfl : exec (.twAddrNackRetry port) s = execTwAddrNackRetry port s).trans rfl

theorem exec_twStretchTimeout (port : Nat) (s : State) :
    exec (.twStretchTimeout port) s = run (fun s => s.doTwTimeout port) s :=
  (rfl : exec (.twStretchTimeout port) s = execTwStretchTimeout port s).trans rfl

theorem exec_arbitrationLost (port : Nat) (own : Bool) (s : State) :
    exec (.arbitrationLost port own) s = run (fun s => s.doArbLost port own) s :=
  (rfl : exec (.arbitrationLost port own) s = execArbitrationLost port own s).trans rfl

theorem exec_busStuckRecovery (port rounds : Nat) (freed : Bool) (s : State) :
    exec (.busStuckRecovery port rounds freed) s = run (fun s => s.doStuck port rounds freed) s :=
  (rfl : exec (.busStuckRecovery port rounds freed) s = execBusStuckRecovery port rounds freed s).trans rfl

theorem exec_busStuckRetry (port rounds : Nat) (freed : Bool) (s : State) :
    exec (.busStuckRetry port rounds freed) s = run (fun s => s.doStuckRetry port rounds freed) s :=
  (rfl : exec (.busStuckRetry port rounds freed) s = execBusStuckRetry port rounds freed s).trans rfl

theorem exec_twAlertInput (port : Nat) (addr : Option Nat) (s : State) :
    exec (.twAlertInput port addr) s = run (fun s => s.doTwAlert port addr) s :=
  (rfl : exec (.twAlertInput port addr) s = execTwAlertInput port addr s).trans rfl

theorem exec_tapInstruction (ins : Tap) (s : State) :
    exec (.tapInstruction ins) s = run (fun s => s.doTap ins) s :=
  (rfl : exec (.tapInstruction ins) s = execTapInstruction ins s).trans rfl

theorem exec_railset (rails : Nat) (s : State) :
    exec (.railset rails) s = run (fun s => s.doRailset rails) s :=
  (rfl : exec (.railset rails) s = execRailset rails s).trans rfl

theorem exec_allPowerCut (s : State) :
    exec (.allPowerCut) s = runPower (fun s => s.doPowerCut) s :=
  (rfl : exec (.allPowerCut) s = execAllPowerCut s).trans rfl

theorem exec_seamRetryExhausted (seam : Nat) (s : State) :
    exec (.seamRetryExhausted seam) s = run (fun s => s.doSeam seam) s :=
  (rfl : exec (.seamRetryExhausted seam) s = execSeamRetryExhausted seam s).trans rfl

theorem exec_foremanException (core : Nat) (s : State) :
    exec (.foremanException core) s = run (fun s => s.doException) s :=
  (rfl : exec (.foremanException core) s = execForemanException core s).trans rfl

theorem exec_drbgHealthFail (s : State) :
    exec (.drbgHealthFail) s = run (fun s => s.doDrbgFail) s :=
  (rfl : exec (.drbgHealthFail) s = execDrbgHealthFail s).trans rfl

theorem exec_referenceClockReturn (s : State) :
    exec (.referenceClockReturn) s = run (fun s => s.doRefReturn) s :=
  (rfl : exec (.referenceClockReturn) s = execReferenceClockReturn s).trans rfl

theorem exec_resumeMinExpiry (channel target : Nat) (s : State) :
    exec (.resumeMinExpiry channel target) s = run (fun s => s.doResumeMin channel target) s :=
  (rfl : exec (.resumeMinExpiry channel target) s = execResumeMinExpiry channel target s).trans rfl

theorem exec_rowIdleClose (chan rank bank : Nat) (s : State) :
    exec (.rowIdleClose chan rank bank) s = run (fun s => s.doRowIdle chan rank bank) s :=
  (rfl : exec (.rowIdleClose chan rank bank) s = execRowIdleClose chan rank bank s).trans rfl

theorem exec_rankStopsAnswering (chan rank : Nat) (s : State) :
    exec (.rankStopsAnswering chan rank) s = run (fun s => s.doRankSilent chan rank) s :=
  (rfl : exec (.rankStopsAnswering chan rank) s = execRankStopsAnswering chan rank s).trans rfl

theorem exec_spdmRequest (port code : Nat) (session : Bool) (cdat : Option Nat) (s : State) :
    exec (.spdmRequest port code session cdat) s = run (fun s => s.doSpdm port code session cdat) s :=
  (rfl : exec (.spdmRequest port code session cdat) s = execSpdmRequest port code session s cdat).trans rfl

end Sys2Proof.Machine
end

