-- ==== Sys2Proof/Laws/Maps.lean ====
section
/-! SUPPORT. Laws of the sparse maps that hold registers, slab entries, DRAM bytes and NAND records: what a read gives after a
write, and that every operation keeps the canonical form. -/

namespace Sys2Proof

variable {V : Type}

theorem SMap.get_erase_ne (d : V) {k j : Nat} (h : j ≠ k) (m : SMap V) : SMap.get d j (SMap.erase k m) = SMap.get d j m := by
  induction m with
  | nil => rfl
  | cons p m ih =>
    obtain ⟨a, v⟩ := p
    by_cases hk : a = k
    · subst hk; simp [SMap.erase, SMap.get, ih, Ne.symm h]
    · simp only [SMap.erase, hk, if_false, SMap.get, ih]

theorem SMap.get_erase_self (d : V) (k : Nat) (m : SMap V) : SMap.get d k (SMap.erase k m) = d := by
  induction m with
  | nil => rfl
  | cons p m ih =>
    obtain ⟨a, v⟩ := p
    by_cases hk : a = k <;> simp [SMap.erase, SMap.get, hk, ih]

theorem SMap.get_insert_ne (d : V) {k j : Nat} (h : j ≠ k) (v : V) (m : SMap V) :
    SMap.get d j (SMap.insert k v m) = SMap.get d j m := by
  induction m with
  | nil => simp [SMap.insert, SMap.get, Ne.symm h]
  | cons p m ih =>
    obtain ⟨a, w⟩ := p
    by_cases hk : k < a
    · simp [SMap.insert, SMap.get, hk, Ne.symm h]
    · simp only [SMap.insert, hk, if_false, SMap.get, ih]

theorem SMap.get_insert_erase_self (d : V) (k : Nat) (v : V) (m : SMap V) :
    SMap.get d k (SMap.insert k v (SMap.erase k m)) = v := by
  induction m with
  | nil => simp [SMap.insert, SMap.erase, SMap.get]
  | cons p m ih =>
    obtain ⟨a, w⟩ := p
    by_cases hk : a = k
    · simp [SMap.erase, hk, ih]
    · by_cases hl : k < a <;> simp [SMap.erase, SMap.insert, SMap.get, hk, hl, ih]

/-- A read of the key just written gives the value written. -/
@[simp] theorem SMap.get_put_self [DecidableEq V] (d : V) (k : Nat) (v : V) (m : SMap V) :
    SMap.get d k (SMap.put d k v m) = v := by
  unfold SMap.put
  split
  · rename_i h; rw [SMap.get_erase_self, h]
  · rw [SMap.get_insert_erase_self]

/-- A write leaves every other key alone. -/
theorem SMap.get_put_ne [DecidableEq V] (d e : V) {k j : Nat} (h : j ≠ k) (v : V) (m : SMap V) :
    SMap.get e j (SMap.put d k v m) = SMap.get e j m := by
  unfold SMap.put
  split
  · rw [SMap.get_erase_ne e h]
  · rw [SMap.get_insert_ne e h, SMap.get_erase_ne e h]

/-- All keys of a map lie above a bound. -/
def SMap.above (b : Nat) (m : SMap V) : Prop := ∀ p ∈ m, b < p.1

theorem SMap.wf_cons [DecidableEq V] (d : V) (a : Nat) (v : V) (m : SMap V) :
    SMap.wf d ((a, v) :: m) = true ↔ v ≠ d ∧ SMap.above a m ∧ SMap.wf d m = true := by
  induction m generalizing a v with
  | nil => simp [SMap.wf, SMap.above]
  | cons p m ih =>
    obtain ⟨b, w⟩ := p
    rw [SMap.wf]
    simp only [Bool.and_eq_true, decide_eq_true_eq]
    constructor
    · rintro ⟨⟨hab, hv⟩, hm⟩
      refine ⟨hv, ?_, hm⟩
      have := ((ih b w).1 hm).2.1
      intro p hp
      rcases List.mem_cons.1 hp with rfl | hp
      · exact hab
      · exact Nat.lt_trans hab (this p hp)
    · rintro ⟨hv, ha, hm⟩
      exact ⟨⟨ha (b, w) (by simp), hv⟩, hm⟩

theorem SMap.mem_erase {k : Nat} {m : SMap V} {p : Nat × V} (h : p ∈ SMap.erase k m) : p ∈ m ∧ p.1 ≠ k := by
  induction m with
  | nil => simp [SMap.erase] at h
  | cons q m ih =>
    obtain ⟨a, v⟩ := q
    by_cases hk : a = k
    · simp only [SMap.erase, hk, if_true] at h
      exact ⟨List.mem_cons_of_mem _ (ih h).1, (ih h).2⟩
    · simp only [SMap.erase, hk, if_false, List.mem_cons] at h
      rcases h with rfl | h
      · exact ⟨by simp, hk⟩
      · exact ⟨List.mem_cons_of_mem _ (ih h).1, (ih h).2⟩

theorem SMap.mem_insert {k : Nat} {v : V} {m : SMap V} {p : Nat × V} (h : p ∈ SMap.insert k v m) : p = (k, v) ∨ p ∈ m := by
  induction m with
  | nil => simpa [SMap.insert] using h
  | cons q m ih =>
    obtain ⟨a, w⟩ := q
    by_cases hk : k < a
    · simpa [SMap.insert, hk] using h
    · simp only [SMap.insert, hk, if_false, List.mem_cons] at h
      rcases h with rfl | h
      · simp
      · rcases ih h with h | h
        · exact .inl h
        · exact .inr (List.mem_cons_of_mem _ h)

theorem SMap.wf_erase [DecidableEq V] (d : V) (k : Nat) {m : SMap V} (h : SMap.wf d m = true) :
    SMap.wf d (SMap.erase k m) = true := by
  induction m with
  | nil => simp [SMap.erase, SMap.wf]
  | cons q m ih =>
    obtain ⟨a, v⟩ := q
    obtain ⟨hv, ha, hm⟩ := (SMap.wf_cons d a v m).1 h
    by_cases hk : a = k
    · simp only [SMap.erase, hk, if_true]; exact ih hm
    · simp only [SMap.erase, hk, if_false]
      exact (SMap.wf_cons ..).2 ⟨hv, fun p hp => ha p (SMap.mem_erase hp).1, ih hm⟩

theorem SMap.wf_insert [DecidableEq V] (d : V) {k : Nat} {v : V} (hv : v ≠ d) {m : SMap V} (h : SMap.wf d m = true)
    (hk : ∀ p ∈ m, p.1 ≠ k) : SMap.wf d (SMap.insert k v m) = true := by
  induction m with
  | nil => simp [SMap.insert, SMap.wf, hv]
  | cons q m ih =>
    obtain ⟨a, w⟩ := q
    obtain ⟨hw, ha, hm⟩ := (SMap.wf_cons d a w m).1 h
    by_cases hl : k < a
    · simp only [SMap.insert, hl, if_true]
      refine (SMap.wf_cons ..).2 ⟨hv, fun p hp => ?_, h⟩
      rcases List.mem_cons.1 hp with rfl | hp
      · exact hl
      · exact Nat.lt_trans hl (ha p hp)
    · simp only [SMap.insert, hl, if_false]
      have hne : a ≠ k := hk (a, w) (by simp)
      refine (SMap.wf_cons ..).2 ⟨hw, fun p hp => ?_, ih hm (fun p hp => hk p (List.mem_cons_of_mem _ hp))⟩
      rcases SMap.mem_insert hp with rfl | hp
      · show a < k; omega
      · exact ha p hp

/-- A write keeps the canonical form. -/
theorem SMap.wf_put [DecidableEq V] (d : V) (k : Nat) (v : V) {m : SMap V} (h : SMap.wf d m = true) :
    SMap.wf d (SMap.put d k v m) = true := by
  unfold SMap.put
  split
  · exact SMap.wf_erase d k h
  · rename_i hv
    exact SMap.wf_insert d hv (SMap.wf_erase d k h) (fun p hp => (SMap.mem_erase hp).2)

theorem SMap.wf_iff [DecidableEq V] (d : V) (m : SMap V) :
    SMap.wf d m = true ↔ m.Pairwise (fun p q => p.1 < q.1) ∧ ∀ p ∈ m, p.2 ≠ d := by
  induction m with
  | nil => simp [SMap.wf]
  | cons q m ih =>
    obtain ⟨a, v⟩ := q
    rw [SMap.wf_cons, ih, List.pairwise_cons]
    constructor
    · rintro ⟨hv, ha, hp, hd⟩
      exact ⟨⟨ha, hp⟩, fun p hm => (List.mem_cons.1 hm).elim (fun e => e ▸ hv) (hd p)⟩
    · rintro ⟨⟨ha, hp⟩, hd⟩
      exact ⟨hd (a, v) (by simp), ha, hp, fun p hm => hd p (List.mem_cons_of_mem _ hm)⟩

/-- A part cut out of a map is canonical. -/
theorem SMap.wf_slice [DecidableEq V] (d : V) (lo n : Nat) {m : SMap V} (h : SMap.wf d m = true) :
    SMap.wf d (SMap.slice lo n m) = true := by
  rw [SMap.wf_iff] at h ⊢
  unfold SMap.slice
  refine ⟨?_, ?_⟩
  · rw [List.pairwise_map]
    have := h.1.filter (fun p => decide (lo ≤ p.1) && decide (p.1 < lo + n))
    refine this.imp_of_mem ?_
    intro p q hp hq hlt
    simp only [List.mem_filter, Bool.and_eq_true, decide_eq_true_eq] at hp hq
    show p.1 - lo < q.1 - lo
    omega
  · intro p hp
    simp only [List.mem_map, List.mem_filter] at hp
    obtain ⟨q, ⟨hq, _⟩, rfl⟩ := hp
    exact h.2 q hq

/-- Pasting a canonical part into a canonical map keeps the form. -/
theorem SMap.wf_paste [DecidableEq V] (d : V) (lo n : Nat) {sub m : SMap V} (hs : SMap.wf d sub = true)
    (h : SMap.wf d m = true) : SMap.wf d (SMap.paste lo n sub m) = true := by
  rw [SMap.wf_iff] at h hs ⊢
  unfold SMap.paste
  refine ⟨?_, ?_⟩
  · rw [List.pairwise_append, List.pairwise_append, List.pairwise_map]
    refine ⟨⟨h.1.filter _, (hs.1.filter _).imp (fun {p q} hlt => by show p.1 + lo < q.1 + lo; omega), ?_⟩, h.1.filter _, ?_⟩
    · intro p hp q hq
      simp only [List.mem_map, List.mem_filter, decide_eq_true_eq] at hp hq
      obtain ⟨r, _, rfl⟩ := hq
      show p.1 < r.1 + lo
      omega
    · intro p hp q hq
      simp only [List.mem_append, List.mem_map, List.mem_filter, decide_eq_true_eq] at hp hq
      rcases hp with hp | ⟨r, hr, rfl⟩
      · omega
      · show r.1 + lo < q.1
        omega
  · intro p hp
    simp only [List.mem_append, List.mem_map, List.mem_filter] at hp
    rcases hp with (hp | ⟨r, hr, rfl⟩) | hp
    · exact h.2 p hp.1
    · exact hs.2 r hr.1
    · exact h.2 p hp.1

end Sys2Proof
end

