-- ==== Sys2Proof/Laws/State.lean ====
section
/-! SUPPORT. What each named update of the state leaves alone: one lemma per field, and per reader, and update. -/

namespace Sys2Proof.Machine

/-! ### setWord -/

@[simp] theorem State.setWord_tick (s : State) (a : Nat) (w : Word) : (s.setWord a w).tick = s.tick := rfl
@[simp] theorem State.setWord_chip (s : State) (a : Nat) (w : Word) : (s.setWord a w).chip = s.chip := rfl
@[simp] theorem State.setWord_margin (s : State) (a : Nat) (w : Word) : (s.setWord a w).margin = s.margin := rfl
@[simp] theorem State.setWord_stamp (s : State) (a : Nat) (w : Word) : (s.setWord a w).stamp = s.stamp := rfl
@[simp] theorem State.setWord_stampTick (s : State) (a : Nat) (w : Word) : (s.setWord a w).stampTick = s.stampTick := rfl
@[simp] theorem State.setWord_fuse (s : State) (a : Nat) (w : Word) : (s.setWord a w).fuse = s.fuse := rfl
@[simp] theorem State.setWord_bed (s : State) (a : Nat) (w : Word) : (s.setWord a w).bed = s.bed := rfl
@[simp] theorem State.setWord_svy (s : State) (a : Nat) (w : Word) : (s.setWord a w).svy = s.svy := rfl
@[simp] theorem State.setWord_slb (s : State) (a : Nat) (w : Word) : (s.setWord a w).slb = s.slb := rfl
@[simp] theorem State.setWord_lgr (s : State) (a : Nat) (w : Word) : (s.setWord a w).lgr = s.lgr := rfl
@[simp] theorem State.setWord_adm (s : State) (a : Nat) (w : Word) : (s.setWord a w).adm = s.adm := rfl
@[simp] theorem State.setWord_haul (s : State) (a : Nat) (w : Word) : (s.setWord a w).haul = s.haul := rfl
@[simp] theorem State.setWord_save (s : State) (a : Nat) (w : Word) : (s.setWord a w).save = s.save := rfl
@[simp] theorem State.setWord_stk (s : State) (a : Nat) (w : Word) : (s.setWord a w).stk = s.stk := rfl
@[simp] theorem State.setWord_saves (s : State) (a : Nat) (w : Word) : (s.setWord a w).saves = s.saves := rfl
@[simp] theorem State.setWord_res (s : State) (a : Nat) (w : Word) : (s.setWord a w).res = s.res := rfl
@[simp] theorem State.setWord_dch (s : State) (a : Nat) (w : Word) : (s.setWord a w).dch = s.dch := rfl
@[simp] theorem State.setWord_ports (s : State) (a : Nat) (w : Word) : (s.setWord a w).ports = s.ports := rfl
@[simp] theorem State.setWord_nv (s : State) (a : Nat) (w : Word) : (s.setWord a w).nv = s.nv := rfl
@[simp] theorem State.setWord_job (s : State) (a : Nat) (w : Word) : (s.setWord a w).job = s.job := rfl
@[simp] theorem State.setWord_cip (s : State) (a : Nat) (w : Word) : (s.setWord a w).cip = s.cip := rfl
@[simp] theorem State.setWord_gal (s : State) (a : Nat) (w : Word) : (s.setWord a w).gal = s.gal := rfl
@[simp] theorem State.setWord_seq (s : State) (a : Nat) (w : Word) : (s.setWord a w).seq = s.seq := rfl
@[simp] theorem State.setWord_clk (s : State) (a : Nat) (w : Word) : (s.setWord a w).clk = s.clk := rfl
@[simp] theorem State.setWord_flt (s : State) (a : Nat) (w : Word) : (s.setWord a w).flt = s.flt := rfl
@[simp] theorem State.setWord_clg (s : State) (a : Nat) (w : Word) : (s.setWord a w).clg = s.clg := rfl
@[simp] theorem State.setWord_twb (s : State) (a : Nat) (w : Word) : (s.setWord a w).twb = s.twb := rfl
@[simp] theorem State.setWord_fwm (s : State) (a : Nat) (w : Word) : (s.setWord a w).fwm = s.fwm := rfl
@[simp] theorem State.setWord_pin (s : State) (a : Nat) (w : Word) : (s.setWord a w).pin = s.pin := rfl
@[simp] theorem State.setWord_pending (s : State) (a : Nat) (w : Word) : (s.setWord a w).pending = s.pending := rfl
@[simp] theorem State.setWord_out (s : State) (a : Nat) (w : Word) : (s.setWord a w).out = s.out := rfl
@[simp] theorem State.setWord_free (s : State) (a : Nat) (w : Word) : (s.setWord a w).free = s.free := rfl
@[simp] theorem State.setWord_sv (s : State) (a : Nat) (w : Word) (x : SFld) : (s.setWord a w).sv x = s.sv x := rfl
@[simp] theorem State.setWord_port (s : State) (a : Nat) (w : Word) (x : Nat) : (s.setWord a w).port x = s.port x := rfl
@[simp] theorem State.setWord_nvFace (s : State) (a : Nat) (w : Word) (x : Nat) : (s.setWord a w).nvFace x = s.nvFace x := rfl
@[simp] theorem State.setWord_slab (s : State) (a : Nat) (w : Word) (x : Nat) : (s.setWord a w).slab x = s.slab x := rfl
@[simp] theorem State.setWord_loc (s : State) (a : Nat) (w : Word) (x : Nat) : (s.setWord a w).loc x = s.loc x := rfl
@[simp] theorem State.setWord_ring (s : State) (a : Nat) (w : Word) (x : Nat) : (s.setWord a w).ring x = s.ring x := rfl
@[simp] theorem State.setWord_lineAt (s : State) (a : Nat) (w : Word) (x y : Nat) : (s.setWord a w).lineAt x y = s.lineAt x y := rfl
@[simp] theorem State.setWord_poisoned (s : State) (a : Nat) (w : Word) (x y : Nat) : (s.setWord a w).poisoned x y = s.poisoned x y := rfl
@[simp] theorem State.setWord_byte (s : State) (a : Nat) (w : Word) (x : Nat) : (s.setWord a w).byte x = s.byte x := rfl

/-! ### wr -/

@[simp] theorem State.wr_tick (s : State) (f : Fld) (v : Nat) : (s.wr f v).tick = s.tick := rfl
@[simp] theorem State.wr_chip (s : State) (f : Fld) (v : Nat) : (s.wr f v).chip = s.chip := rfl
@[simp] theorem State.wr_margin (s : State) (f : Fld) (v : Nat) : (s.wr f v).margin = s.margin := rfl
@[simp] theorem State.wr_stamp (s : State) (f : Fld) (v : Nat) : (s.wr f v).stamp = s.stamp := rfl
@[simp] theorem State.wr_stampTick (s : State) (f : Fld) (v : Nat) : (s.wr f v).stampTick = s.stampTick := rfl
@[simp] theorem State.wr_fuse (s : State) (f : Fld) (v : Nat) : (s.wr f v).fuse = s.fuse := rfl
@[simp] theorem State.wr_bed (s : State) (f : Fld) (v : Nat) : (s.wr f v).bed = s.bed := rfl
@[simp] theorem State.wr_svy (s : State) (f : Fld) (v : Nat) : (s.wr f v).svy = s.svy := rfl
@[simp] theorem State.wr_slb (s : State) (f : Fld) (v : Nat) : (s.wr f v).slb = s.slb := rfl
@[simp] theorem State.wr_lgr (s : State) (f : Fld) (v : Nat) : (s.wr f v).lgr = s.lgr := rfl
@[simp] theorem State.wr_adm (s : State) (f : Fld) (v : Nat) : (s.wr f v).adm = s.adm := rfl
@[simp] theorem State.wr_haul (s : State) (f : Fld) (v : Nat) : (s.wr f v).haul = s.haul := rfl
@[simp] theorem State.wr_save (s : State) (f : Fld) (v : Nat) : (s.wr f v).save = s.save := rfl
@[simp] theorem State.wr_stk (s : State) (f : Fld) (v : Nat) : (s.wr f v).stk = s.stk := rfl
@[simp] theorem State.wr_saves (s : State) (f : Fld) (v : Nat) : (s.wr f v).saves = s.saves := rfl
@[simp] theorem State.wr_res (s : State) (f : Fld) (v : Nat) : (s.wr f v).res = s.res := rfl
@[simp] theorem State.wr_dch (s : State) (f : Fld) (v : Nat) : (s.wr f v).dch = s.dch := rfl
@[simp] theorem State.wr_ports (s : State) (f : Fld) (v : Nat) : (s.wr f v).ports = s.ports := rfl
@[simp] theorem State.wr_nv (s : State) (f : Fld) (v : Nat) : (s.wr f v).nv = s.nv := rfl
@[simp] theorem State.wr_job (s : State) (f : Fld) (v : Nat) : (s.wr f v).job = s.job := rfl
@[simp] theorem State.wr_cip (s : State) (f : Fld) (v : Nat) : (s.wr f v).cip = s.cip := rfl
@[simp] theorem State.wr_gal (s : State) (f : Fld) (v : Nat) : (s.wr f v).gal = s.gal := rfl
@[simp] theorem State.wr_seq (s : State) (f : Fld) (v : Nat) : (s.wr f v).seq = s.seq := rfl
@[simp] theorem State.wr_clk (s : State) (f : Fld) (v : Nat) : (s.wr f v).clk = s.clk := rfl
@[simp] theorem State.wr_flt (s : State) (f : Fld) (v : Nat) : (s.wr f v).flt = s.flt := rfl
@[simp] theorem State.wr_clg (s : State) (f : Fld) (v : Nat) : (s.wr f v).clg = s.clg := rfl
@[simp] theorem State.wr_twb (s : State) (f : Fld) (v : Nat) : (s.wr f v).twb = s.twb := rfl
@[simp] theorem State.wr_fwm (s : State) (f : Fld) (v : Nat) : (s.wr f v).fwm = s.fwm := rfl
@[simp] theorem State.wr_pin (s : State) (f : Fld) (v : Nat) : (s.wr f v).pin = s.pin := rfl
@[simp] theorem State.wr_pending (s : State) (f : Fld) (v : Nat) : (s.wr f v).pending = s.pending := rfl
@[simp] theorem State.wr_out (s : State) (f : Fld) (v : Nat) : (s.wr f v).out = s.out := rfl
@[simp] theorem State.wr_free (s : State) (f : Fld) (v : Nat) : (s.wr f v).free = s.free := rfl
@[simp] theorem State.wr_sv (s : State) (f : Fld) (v : Nat) (x : SFld) : (s.wr f v).sv x = s.sv x := rfl
@[simp] theorem State.wr_port (s : State) (f : Fld) (v : Nat) (x : Nat) : (s.wr f v).port x = s.port x := rfl
@[simp] theorem State.wr_nvFace (s : State) (f : Fld) (v : Nat) (x : Nat) : (s.wr f v).nvFace x = s.nvFace x := rfl
@[simp] theorem State.wr_slab (s : State) (f : Fld) (v : Nat) (x : Nat) : (s.wr f v).slab x = s.slab x := rfl
@[simp] theorem State.wr_loc (s : State) (f : Fld) (v : Nat) (x : Nat) : (s.wr f v).loc x = s.loc x := rfl
@[simp] theorem State.wr_ring (s : State) (f : Fld) (v : Nat) (x : Nat) : (s.wr f v).ring x = s.ring x := rfl
@[simp] theorem State.wr_lineAt (s : State) (f : Fld) (v : Nat) (x y : Nat) : (s.wr f v).lineAt x y = s.lineAt x y := rfl
@[simp] theorem State.wr_poisoned (s : State) (f : Fld) (v : Nat) (x y : Nat) : (s.wr f v).poisoned x y = s.poisoned x y := rfl
@[simp] theorem State.wr_byte (s : State) (f : Fld) (v : Nat) (x : Nat) : (s.wr f v).byte x = s.byte x := rfl

/-! ### wrB -/

@[simp] theorem State.wrB_tick (s : State) (f : Fld) (b : Bool) : (s.wrB f b).tick = s.tick := rfl
@[simp] theorem State.wrB_chip (s : State) (f : Fld) (b : Bool) : (s.wrB f b).chip = s.chip := rfl
@[simp] theorem State.wrB_margin (s : State) (f : Fld) (b : Bool) : (s.wrB f b).margin = s.margin := rfl
@[simp] theorem State.wrB_stamp (s : State) (f : Fld) (b : Bool) : (s.wrB f b).stamp = s.stamp := rfl
@[simp] theorem State.wrB_stampTick (s : State) (f : Fld) (b : Bool) : (s.wrB f b).stampTick = s.stampTick := rfl
@[simp] theorem State.wrB_fuse (s : State) (f : Fld) (b : Bool) : (s.wrB f b).fuse = s.fuse := rfl
@[simp] theorem State.wrB_bed (s : State) (f : Fld) (b : Bool) : (s.wrB f b).bed = s.bed := rfl
@[simp] theorem State.wrB_svy (s : State) (f : Fld) (b : Bool) : (s.wrB f b).svy = s.svy := rfl
@[simp] theorem State.wrB_slb (s : State) (f : Fld) (b : Bool) : (s.wrB f b).slb = s.slb := rfl
@[simp] theorem State.wrB_lgr (s : State) (f : Fld) (b : Bool) : (s.wrB f b).lgr = s.lgr := rfl
@[simp] theorem State.wrB_adm (s : State) (f : Fld) (b : Bool) : (s.wrB f b).adm = s.adm := rfl
@[simp] theorem State.wrB_haul (s : State) (f : Fld) (b : Bool) : (s.wrB f b).haul = s.haul := rfl
@[simp] theorem State.wrB_save (s : State) (f : Fld) (b : Bool) : (s.wrB f b).save = s.save := rfl
@[simp] theorem State.wrB_stk (s : State) (f : Fld) (b : Bool) : (s.wrB f b).stk = s.stk := rfl
@[simp] theorem State.wrB_saves (s : State) (f : Fld) (b : Bool) : (s.wrB f b).saves = s.saves := rfl
@[simp] theorem State.wrB_res (s : State) (f : Fld) (b : Bool) : (s.wrB f b).res = s.res := rfl
@[simp] theorem State.wrB_dch (s : State) (f : Fld) (b : Bool) : (s.wrB f b).dch = s.dch := rfl
@[simp] theorem State.wrB_ports (s : State) (f : Fld) (b : Bool) : (s.wrB f b).ports = s.ports := rfl
@[simp] theorem State.wrB_nv (s : State) (f : Fld) (b : Bool) : (s.wrB f b).nv = s.nv := rfl
@[simp] theorem State.wrB_job (s : State) (f : Fld) (b : Bool) : (s.wrB f b).job = s.job := rfl
@[simp] theorem State.wrB_cip (s : State) (f : Fld) (b : Bool) : (s.wrB f b).cip = s.cip := rfl
@[simp] theorem State.wrB_gal (s : State) (f : Fld) (b : Bool) : (s.wrB f b).gal = s.gal := rfl
@[simp] theorem State.wrB_seq (s : State) (f : Fld) (b : Bool) : (s.wrB f b).seq = s.seq := rfl
@[simp] theorem State.wrB_clk (s : State) (f : Fld) (b : Bool) : (s.wrB f b).clk = s.clk := rfl
@[simp] theorem State.wrB_flt (s : State) (f : Fld) (b : Bool) : (s.wrB f b).flt = s.flt := rfl
@[simp] theorem State.wrB_clg (s : State) (f : Fld) (b : Bool) : (s.wrB f b).clg = s.clg := rfl
@[simp] theorem State.wrB_twb (s : State) (f : Fld) (b : Bool) : (s.wrB f b).twb = s.twb := rfl
@[simp] theorem State.wrB_fwm (s : State) (f : Fld) (b : Bool) : (s.wrB f b).fwm = s.fwm := rfl
@[simp] theorem State.wrB_pin (s : State) (f : Fld) (b : Bool) : (s.wrB f b).pin = s.pin := rfl
@[simp] theorem State.wrB_pending (s : State) (f : Fld) (b : Bool) : (s.wrB f b).pending = s.pending := rfl
@[simp] theorem State.wrB_out (s : State) (f : Fld) (b : Bool) : (s.wrB f b).out = s.out := rfl
@[simp] theorem State.wrB_free (s : State) (f : Fld) (b : Bool) : (s.wrB f b).free = s.free := rfl
@[simp] theorem State.wrB_sv (s : State) (f : Fld) (b : Bool) (x : SFld) : (s.wrB f b).sv x = s.sv x := rfl
@[simp] theorem State.wrB_port (s : State) (f : Fld) (b : Bool) (x : Nat) : (s.wrB f b).port x = s.port x := rfl
@[simp] theorem State.wrB_nvFace (s : State) (f : Fld) (b : Bool) (x : Nat) : (s.wrB f b).nvFace x = s.nvFace x := rfl
@[simp] theorem State.wrB_slab (s : State) (f : Fld) (b : Bool) (x : Nat) : (s.wrB f b).slab x = s.slab x := rfl
@[simp] theorem State.wrB_loc (s : State) (f : Fld) (b : Bool) (x : Nat) : (s.wrB f b).loc x = s.loc x := rfl
@[simp] theorem State.wrB_ring (s : State) (f : Fld) (b : Bool) (x : Nat) : (s.wrB f b).ring x = s.ring x := rfl
@[simp] theorem State.wrB_lineAt (s : State) (f : Fld) (b : Bool) (x y : Nat) : (s.wrB f b).lineAt x y = s.lineAt x y := rfl
@[simp] theorem State.wrB_poisoned (s : State) (f : Fld) (b : Bool) (x y : Nat) : (s.wrB f b).poisoned x y = s.poisoned x y := rfl
@[simp] theorem State.wrB_byte (s : State) (f : Fld) (b : Bool) (x : Nat) : (s.wrB f b).byte x = s.byte x := rfl

/-! ### addSat -/

@[simp] theorem State.addSat_tick (s : State) (f : Fld) (n : Nat) : (s.addSat f n).tick = s.tick := rfl
@[simp] theorem State.addSat_chip (s : State) (f : Fld) (n : Nat) : (s.addSat f n).chip = s.chip := rfl
@[simp] theorem State.addSat_margin (s : State) (f : Fld) (n : Nat) : (s.addSat f n).margin = s.margin := rfl
@[simp] theorem State.addSat_stamp (s : State) (f : Fld) (n : Nat) : (s.addSat f n).stamp = s.stamp := rfl
@[simp] theorem State.addSat_stampTick (s : State) (f : Fld) (n : Nat) : (s.addSat f n).stampTick = s.stampTick := rfl
@[simp] theorem State.addSat_fuse (s : State) (f : Fld) (n : Nat) : (s.addSat f n).fuse = s.fuse := rfl
@[simp] theorem State.addSat_bed (s : State) (f : Fld) (n : Nat) : (s.addSat f n).bed = s.bed := rfl
@[simp] theorem State.addSat_svy (s : State) (f : Fld) (n : Nat) : (s.addSat f n).svy = s.svy := rfl
@[simp] theorem State.addSat_slb (s : State) (f : Fld) (n : Nat) : (s.addSat f n).slb = s.slb := rfl
@[simp] theorem State.addSat_lgr (s : State) (f : Fld) (n : Nat) : (s.addSat f n).lgr = s.lgr := rfl
@[simp] theorem State.addSat_adm (s : State) (f : Fld) (n : Nat) : (s.addSat f n).adm = s.adm := rfl
@[simp] theorem State.addSat_haul (s : State) (f : Fld) (n : Nat) : (s.addSat f n).haul = s.haul := rfl
@[simp] theorem State.addSat_save (s : State) (f : Fld) (n : Nat) : (s.addSat f n).save = s.save := rfl
@[simp] theorem State.addSat_stk (s : State) (f : Fld) (n : Nat) : (s.addSat f n).stk = s.stk := rfl
@[simp] theorem State.addSat_saves (s : State) (f : Fld) (n : Nat) : (s.addSat f n).saves = s.saves := rfl
@[simp] theorem State.addSat_res (s : State) (f : Fld) (n : Nat) : (s.addSat f n).res = s.res := rfl
@[simp] theorem State.addSat_dch (s : State) (f : Fld) (n : Nat) : (s.addSat f n).dch = s.dch := rfl
@[simp] theorem State.addSat_ports (s : State) (f : Fld) (n : Nat) : (s.addSat f n).ports = s.ports := rfl
@[simp] theorem State.addSat_nv (s : State) (f : Fld) (n : Nat) : (s.addSat f n).nv = s.nv := rfl
@[simp] theorem State.addSat_job (s : State) (f : Fld) (n : Nat) : (s.addSat f n).job = s.job := rfl
@[simp] theorem State.addSat_cip (s : State) (f : Fld) (n : Nat) : (s.addSat f n).cip = s.cip := rfl
@[simp] theorem State.addSat_gal (s : State) (f : Fld) (n : Nat) : (s.addSat f n).gal = s.gal := rfl
@[simp] theorem State.addSat_seq (s : State) (f : Fld) (n : Nat) : (s.addSat f n).seq = s.seq := rfl
@[simp] theorem State.addSat_clk (s : State) (f : Fld) (n : Nat) : (s.addSat f n).clk = s.clk := rfl
@[simp] theorem State.addSat_flt (s : State) (f : Fld) (n : Nat) : (s.addSat f n).flt = s.flt := rfl
@[simp] theorem State.addSat_clg (s : State) (f : Fld) (n : Nat) : (s.addSat f n).clg = s.clg := rfl
@[simp] theorem State.addSat_twb (s : State) (f : Fld) (n : Nat) : (s.addSat f n).twb = s.twb := rfl
@[simp] theorem State.addSat_fwm (s : State) (f : Fld) (n : Nat) : (s.addSat f n).fwm = s.fwm := rfl
@[simp] theorem State.addSat_pin (s : State) (f : Fld) (n : Nat) : (s.addSat f n).pin = s.pin := rfl
@[simp] theorem State.addSat_pending (s : State) (f : Fld) (n : Nat) : (s.addSat f n).pending = s.pending := rfl
@[simp] theorem State.addSat_out (s : State) (f : Fld) (n : Nat) : (s.addSat f n).out = s.out := rfl
@[simp] theorem State.addSat_free (s : State) (f : Fld) (n : Nat) : (s.addSat f n).free = s.free := rfl
@[simp] theorem State.addSat_sv (s : State) (f : Fld) (n : Nat) (x : SFld) : (s.addSat f n).sv x = s.sv x := rfl
@[simp] theorem State.addSat_port (s : State) (f : Fld) (n : Nat) (x : Nat) : (s.addSat f n).port x = s.port x := rfl
@[simp] theorem State.addSat_nvFace (s : State) (f : Fld) (n : Nat) (x : Nat) : (s.addSat f n).nvFace x = s.nvFace x := rfl
@[simp] theorem State.addSat_slab (s : State) (f : Fld) (n : Nat) (x : Nat) : (s.addSat f n).slab x = s.slab x := rfl
@[simp] theorem State.addSat_loc (s : State) (f : Fld) (n : Nat) (x : Nat) : (s.addSat f n).loc x = s.loc x := rfl
@[simp] theorem State.addSat_ring (s : State) (f : Fld) (n : Nat) (x : Nat) : (s.addSat f n).ring x = s.ring x := rfl
@[simp] theorem State.addSat_lineAt (s : State) (f : Fld) (n : Nat) (x y : Nat) : (s.addSat f n).lineAt x y = s.lineAt x y := rfl
@[simp] theorem State.addSat_poisoned (s : State) (f : Fld) (n : Nat) (x y : Nat) : (s.addSat f n).poisoned x y = s.poisoned x y := rfl
@[simp] theorem State.addSat_byte (s : State) (f : Fld) (n : Nat) (x : Nat) : (s.addSat f n).byte x = s.byte x := rfl

/-! ### addWrap -/

@[simp] theorem State.addWrap_tick (s : State) (f : Fld) (n : Nat) : (s.addWrap f n).tick = s.tick := rfl
@[simp] theorem State.addWrap_chip (s : State) (f : Fld) (n : Nat) : (s.addWrap f n).chip = s.chip := rfl
@[simp] theorem State.addWrap_margin (s : State) (f : Fld) (n : Nat) : (s.addWrap f n).margin = s.margin := rfl
@[simp] theorem State.addWrap_stamp (s : State) (f : Fld) (n : Nat) : (s.addWrap f n).stamp = s.stamp := rfl
@[simp] theorem State.addWrap_stampTick (s : State) (f : Fld) (n : Nat) : (s.addWrap f n).stampTick = s.stampTick := rfl
@[simp] theorem State.addWrap_fuse (s : State) (f : Fld) (n : Nat) : (s.addWrap f n).fuse = s.fuse := rfl
@[simp] theorem State.addWrap_bed (s : State) (f : Fld) (n : Nat) : (s.addWrap f n).bed = s.bed := rfl
@[simp] theorem State.addWrap_svy (s : State) (f : Fld) (n : Nat) : (s.addWrap f n).svy = s.svy := rfl
@[simp] theorem State.addWrap_slb (s : State) (f : Fld) (n : Nat) : (s.addWrap f n).slb = s.slb := rfl
@[simp] theorem State.addWrap_lgr (s : State) (f : Fld) (n : Nat) : (s.addWrap f n).lgr = s.lgr := rfl
@[simp] theorem State.addWrap_adm (s : State) (f : Fld) (n : Nat) : (s.addWrap f n).adm = s.adm := rfl
@[simp] theorem State.addWrap_haul (s : State) (f : Fld) (n : Nat) : (s.addWrap f n).haul = s.haul := rfl
@[simp] theorem State.addWrap_save (s : State) (f : Fld) (n : Nat) : (s.addWrap f n).save = s.save := rfl
@[simp] theorem State.addWrap_stk (s : State) (f : Fld) (n : Nat) : (s.addWrap f n).stk = s.stk := rfl
@[simp] theorem State.addWrap_saves (s : State) (f : Fld) (n : Nat) : (s.addWrap f n).saves = s.saves := rfl
@[simp] theorem State.addWrap_res (s : State) (f : Fld) (n : Nat) : (s.addWrap f n).res = s.res := rfl
@[simp] theorem State.addWrap_dch (s : State) (f : Fld) (n : Nat) : (s.addWrap f n).dch = s.dch := rfl
@[simp] theorem State.addWrap_ports (s : State) (f : Fld) (n : Nat) : (s.addWrap f n).ports = s.ports := rfl
@[simp] theorem State.addWrap_nv (s : State) (f : Fld) (n : Nat) : (s.addWrap f n).nv = s.nv := rfl
@[simp] theorem State.addWrap_job (s : State) (f : Fld) (n : Nat) : (s.addWrap f n).job = s.job := rfl
@[simp] theorem State.addWrap_cip (s : State) (f : Fld) (n : Nat) : (s.addWrap f n).cip = s.cip := rfl
@[simp] theorem State.addWrap_gal (s : State) (f : Fld) (n : Nat) : (s.addWrap f n).gal = s.gal := rfl
@[simp] theorem State.addWrap_seq (s : State) (f : Fld) (n : Nat) : (s.addWrap f n).seq = s.seq := rfl
@[simp] theorem State.addWrap_clk (s : State) (f : Fld) (n : Nat) : (s.addWrap f n).clk = s.clk := rfl
@[simp] theorem State.addWrap_flt (s : State) (f : Fld) (n : Nat) : (s.addWrap f n).flt = s.flt := rfl
@[simp] theorem State.addWrap_clg (s : State) (f : Fld) (n : Nat) : (s.addWrap f n).clg = s.clg := rfl
@[simp] theorem State.addWrap_twb (s : State) (f : Fld) (n : Nat) : (s.addWrap f n).twb = s.twb := rfl
@[simp] theorem State.addWrap_fwm (s : State) (f : Fld) (n : Nat) : (s.addWrap f n).fwm = s.fwm := rfl
@[simp] theorem State.addWrap_pin (s : State) (f : Fld) (n : Nat) : (s.addWrap f n).pin = s.pin := rfl
@[simp] theorem State.addWrap_pending (s : State) (f : Fld) (n : Nat) : (s.addWrap f n).pending = s.pending := rfl
@[simp] theorem State.addWrap_out (s : State) (f : Fld) (n : Nat) : (s.addWrap f n).out = s.out := rfl
@[simp] theorem State.addWrap_free (s : State) (f : Fld) (n : Nat) : (s.addWrap f n).free = s.free := rfl
@[simp] theorem State.addWrap_sv (s : State) (f : Fld) (n : Nat) (x : SFld) : (s.addWrap f n).sv x = s.sv x := rfl
@[simp] theorem State.addWrap_port (s : State) (f : Fld) (n : Nat) (x : Nat) : (s.addWrap f n).port x = s.port x := rfl
@[simp] theorem State.addWrap_nvFace (s : State) (f : Fld) (n : Nat) (x : Nat) : (s.addWrap f n).nvFace x = s.nvFace x := rfl
@[simp] theorem State.addWrap_slab (s : State) (f : Fld) (n : Nat) (x : Nat) : (s.addWrap f n).slab x = s.slab x := rfl
@[simp] theorem State.addWrap_loc (s : State) (f : Fld) (n : Nat) (x : Nat) : (s.addWrap f n).loc x = s.loc x := rfl
@[simp] theorem State.addWrap_ring (s : State) (f : Fld) (n : Nat) (x : Nat) : (s.addWrap f n).ring x = s.ring x := rfl
@[simp] theorem State.addWrap_lineAt (s : State) (f : Fld) (n : Nat) (x y : Nat) : (s.addWrap f n).lineAt x y = s.lineAt x y := rfl
@[simp] theorem State.addWrap_poisoned (s : State) (f : Fld) (n : Nat) (x y : Nat) : (s.addWrap f n).poisoned x y = s.poisoned x y := rfl
@[simp] theorem State.addWrap_byte (s : State) (f : Fld) (n : Nat) (x : Nat) : (s.addWrap f n).byte x = s.byte x := rfl

/-! ### wrInt -/

@[simp] theorem State.wrInt_tick (s : State) (f : Fld) (v : Int) : (s.wrInt f v).tick = s.tick := rfl
@[simp] theorem State.wrInt_chip (s : State) (f : Fld) (v : Int) : (s.wrInt f v).chip = s.chip := rfl
@[simp] theorem State.wrInt_margin (s : State) (f : Fld) (v : Int) : (s.wrInt f v).margin = s.margin := rfl
@[simp] theorem State.wrInt_stamp (s : State) (f : Fld) (v : Int) : (s.wrInt f v).stamp = s.stamp := rfl
@[simp] theorem State.wrInt_stampTick (s : State) (f : Fld) (v : Int) : (s.wrInt f v).stampTick = s.stampTick := rfl
@[simp] theorem State.wrInt_fuse (s : State) (f : Fld) (v : Int) : (s.wrInt f v).fuse = s.fuse := rfl
@[simp] theorem State.wrInt_bed (s : State) (f : Fld) (v : Int) : (s.wrInt f v).bed = s.bed := rfl
@[simp] theorem State.wrInt_svy (s : State) (f : Fld) (v : Int) : (s.wrInt f v).svy = s.svy := rfl
@[simp] theorem State.wrInt_slb (s : State) (f : Fld) (v : Int) : (s.wrInt f v).slb = s.slb := rfl
@[simp] theorem State.wrInt_lgr (s : State) (f : Fld) (v : Int) : (s.wrInt f v).lgr = s.lgr := rfl
@[simp] theorem State.wrInt_adm (s : State) (f : Fld) (v : Int) : (s.wrInt f v).adm = s.adm := rfl
@[simp] theorem State.wrInt_haul (s : State) (f : Fld) (v : Int) : (s.wrInt f v).haul = s.haul := rfl
@[simp] theorem State.wrInt_save (s : State) (f : Fld) (v : Int) : (s.wrInt f v).save = s.save := rfl
@[simp] theorem State.wrInt_stk (s : State) (f : Fld) (v : Int) : (s.wrInt f v).stk = s.stk := rfl
@[simp] theorem State.wrInt_saves (s : State) (f : Fld) (v : Int) : (s.wrInt f v).saves = s.saves := rfl
@[simp] theorem State.wrInt_res (s : State) (f : Fld) (v : Int) : (s.wrInt f v).res = s.res := rfl
@[simp] theorem State.wrInt_dch (s : State) (f : Fld) (v : Int) : (s.wrInt f v).dch = s.dch := rfl
@[simp] theorem State.wrInt_ports (s : State) (f : Fld) (v : Int) : (s.wrInt f v).ports = s.ports := rfl
@[simp] theorem State.wrInt_nv (s : State) (f : Fld) (v : Int) : (s.wrInt f v).nv = s.nv := rfl
@[simp] theorem State.wrInt_job (s : State) (f : Fld) (v : Int) : (s.wrInt f v).job = s.job := rfl
@[simp] theorem State.wrInt_cip (s : State) (f : Fld) (v : Int) : (s.wrInt f v).cip = s.cip := rfl
@[simp] theorem State.wrInt_gal (s : State) (f : Fld) (v : Int) : (s.wrInt f v).gal = s.gal := rfl
@[simp] theorem State.wrInt_seq (s : State) (f : Fld) (v : Int) : (s.wrInt f v).seq = s.seq := rfl
@[simp] theorem State.wrInt_clk (s : State) (f : Fld) (v : Int) : (s.wrInt f v).clk = s.clk := rfl
@[simp] theorem State.wrInt_flt (s : State) (f : Fld) (v : Int) : (s.wrInt f v).flt = s.flt := rfl
@[simp] theorem State.wrInt_clg (s : State) (f : Fld) (v : Int) : (s.wrInt f v).clg = s.clg := rfl
@[simp] theorem State.wrInt_twb (s : State) (f : Fld) (v : Int) : (s.wrInt f v).twb = s.twb := rfl
@[simp] theorem State.wrInt_fwm (s : State) (f : Fld) (v : Int) : (s.wrInt f v).fwm = s.fwm := rfl
@[simp] theorem State.wrInt_pin (s : State) (f : Fld) (v : Int) : (s.wrInt f v).pin = s.pin := rfl
@[simp] theorem State.wrInt_pending (s : State) (f : Fld) (v : Int) : (s.wrInt f v).pending = s.pending := rfl
@[simp] theorem State.wrInt_out (s : State) (f : Fld) (v : Int) : (s.wrInt f v).out = s.out := rfl
@[simp] theorem State.wrInt_free (s : State) (f : Fld) (v : Int) : (s.wrInt f v).free = s.free := rfl
@[simp] theorem State.wrInt_sv (s : State) (f : Fld) (v : Int) (x : SFld) : (s.wrInt f v).sv x = s.sv x := rfl
@[simp] theorem State.wrInt_port (s : State) (f : Fld) (v : Int) (x : Nat) : (s.wrInt f v).port x = s.port x := rfl
@[simp] theorem State.wrInt_nvFace (s : State) (f : Fld) (v : Int) (x : Nat) : (s.wrInt f v).nvFace x = s.nvFace x := rfl
@[simp] theorem State.wrInt_slab (s : State) (f : Fld) (v : Int) (x : Nat) : (s.wrInt f v).slab x = s.slab x := rfl
@[simp] theorem State.wrInt_loc (s : State) (f : Fld) (v : Int) (x : Nat) : (s.wrInt f v).loc x = s.loc x := rfl
@[simp] theorem State.wrInt_ring (s : State) (f : Fld) (v : Int) (x : Nat) : (s.wrInt f v).ring x = s.ring x := rfl
@[simp] theorem State.wrInt_lineAt (s : State) (f : Fld) (v : Int) (x y : Nat) : (s.wrInt f v).lineAt x y = s.lineAt x y := rfl
@[simp] theorem State.wrInt_poisoned (s : State) (f : Fld) (v : Int) (x y : Nat) : (s.wrInt f v).poisoned x y = s.poisoned x y := rfl
@[simp] theorem State.wrInt_byte (s : State) (f : Fld) (v : Int) (x : Nat) : (s.wrInt f v).byte x = s.byte x := rfl

/-! ### setBit -/

@[simp] theorem State.setBit_tick (s : State) (f : Fld) (i : Nat) (b : Bool) : (s.setBit f i b).tick = s.tick := rfl
@[simp] theorem State.setBit_chip (s : State) (f : Fld) (i : Nat) (b : Bool) : (s.setBit f i b).chip = s.chip := rfl
@[simp] theorem State.setBit_margin (s : State) (f : Fld) (i : Nat) (b : Bool) : (s.setBit f i b).margin = s.margin := rfl
@[simp] theorem State.setBit_stamp (s : State) (f : Fld) (i : Nat) (b : Bool) : (s.setBit f i b).stamp = s.stamp := rfl
@[simp] theorem State.setBit_stampTick (s : State) (f : Fld) (i : Nat) (b : Bool) : (s.setBit f i b).stampTick = s.stampTick := rfl
@[simp] theorem State.setBit_fuse (s : State) (f : Fld) (i : Nat) (b : Bool) : (s.setBit f i b).fuse = s.fuse := rfl
@[simp] theorem State.setBit_bed (s : State) (f : Fld) (i : Nat) (b : Bool) : (s.setBit f i b).bed = s.bed := rfl
@[simp] theorem State.setBit_svy (s : State) (f : Fld) (i : Nat) (b : Bool) : (s.setBit f i b).svy = s.svy := rfl
@[simp] theorem State.setBit_slb (s : State) (f : Fld) (i : Nat) (b : Bool) : (s.setBit f i b).slb = s.slb := rfl
@[simp] theorem State.setBit_lgr (s : State) (f : Fld) (i : Nat) (b : Bool) : (s.setBit f i b).lgr = s.lgr := rfl
@[simp] theorem State.setBit_adm (s : State) (f : Fld) (i : Nat) (b : Bool) : (s.setBit f i b).adm = s.adm := rfl
@[simp] theorem State.setBit_haul (s : State) (f : Fld) (i : Nat) (b : Bool) : (s.setBit f i b).haul = s.haul := rfl
@[simp] theorem State.setBit_save (s : State) (f : Fld) (i : Nat) (b : Bool) : (s.setBit f i b).save = s.save := rfl
@[simp] theorem State.setBit_stk (s : State) (f : Fld) (i : Nat) (b : Bool) : (s.setBit f i b).stk = s.stk := rfl
@[simp] theorem State.setBit_saves (s : State) (f : Fld) (i : Nat) (b : Bool) : (s.setBit f i b).saves = s.saves := rfl
@[simp] theorem State.setBit_res (s : State) (f : Fld) (i : Nat) (b : Bool) : (s.setBit f i b).res = s.res := rfl
@[simp] theorem State.setBit_dch (s : State) (f : Fld) (i : Nat) (b : Bool) : (s.setBit f i b).dch = s.dch := rfl
@[simp] theorem State.setBit_ports (s : State) (f : Fld) (i : Nat) (b : Bool) : (s.setBit f i b).ports = s.ports := rfl
@[simp] theorem State.setBit_nv (s : State) (f : Fld) (i : Nat) (b : Bool) : (s.setBit f i b).nv = s.nv := rfl
@[simp] theorem State.setBit_job (s : State) (f : Fld) (i : Nat) (b : Bool) : (s.setBit f i b).job = s.job := rfl
@[simp] theorem State.setBit_cip (s : State) (f : Fld) (i : Nat) (b : Bool) : (s.setBit f i b).cip = s.cip := rfl
@[simp] theorem State.setBit_gal (s : State) (f : Fld) (i : Nat) (b : Bool) : (s.setBit f i b).gal = s.gal := rfl
@[simp] theorem State.setBit_seq (s : State) (f : Fld) (i : Nat) (b : Bool) : (s.setBit f i b).seq = s.seq := rfl
@[simp] theorem State.setBit_clk (s : State) (f : Fld) (i : Nat) (b : Bool) : (s.setBit f i b).clk = s.clk := rfl
@[simp] theorem State.setBit_flt (s : State) (f : Fld) (i : Nat) (b : Bool) : (s.setBit f i b).flt = s.flt := rfl
@[simp] theorem State.setBit_clg (s : State) (f : Fld) (i : Nat) (b : Bool) : (s.setBit f i b).clg = s.clg := rfl
@[simp] theorem State.setBit_twb (s : State) (f : Fld) (i : Nat) (b : Bool) : (s.setBit f i b).twb = s.twb := rfl
@[simp] theorem State.setBit_fwm (s : State) (f : Fld) (i : Nat) (b : Bool) : (s.setBit f i b).fwm = s.fwm := rfl
@[simp] theorem State.setBit_pin (s : State) (f : Fld) (i : Nat) (b : Bool) : (s.setBit f i b).pin = s.pin := rfl
@[simp] theorem State.setBit_pending (s : State) (f : Fld) (i : Nat) (b : Bool) : (s.setBit f i b).pending = s.pending := rfl
@[simp] theorem State.setBit_out (s : State) (f : Fld) (i : Nat) (b : Bool) : (s.setBit f i b).out = s.out := rfl
@[simp] theorem State.setBit_free (s : State) (f : Fld) (i : Nat) (b : Bool) : (s.setBit f i b).free = s.free := rfl
@[simp] theorem State.setBit_sv (s : State) (f : Fld) (i : Nat) (b : Bool) (x : SFld) : (s.setBit f i b).sv x = s.sv x := rfl
@[simp] theorem State.setBit_port (s : State) (f : Fld) (i : Nat) (b : Bool) (x : Nat) : (s.setBit f i b).port x = s.port x := rfl
@[simp] theorem State.setBit_nvFace (s : State) (f : Fld) (i : Nat) (b : Bool) (x : Nat) : (s.setBit f i b).nvFace x = s.nvFace x := rfl
@[simp] theorem State.setBit_slab (s : State) (f : Fld) (i : Nat) (b : Bool) (x : Nat) : (s.setBit f i b).slab x = s.slab x := rfl
@[simp] theorem State.setBit_loc (s : State) (f : Fld) (i : Nat) (b : Bool) (x : Nat) : (s.setBit f i b).loc x = s.loc x := rfl
@[simp] theorem State.setBit_ring (s : State) (f : Fld) (i : Nat) (b : Bool) (x : Nat) : (s.setBit f i b).ring x = s.ring x := rfl
@[simp] theorem State.setBit_lineAt (s : State) (f : Fld) (i : Nat) (b : Bool) (x y : Nat) : (s.setBit f i b).lineAt x y = s.lineAt x y := rfl
@[simp] theorem State.setBit_poisoned (s : State) (f : Fld) (i : Nat) (b : Bool) (x y : Nat) : (s.setBit f i b).poisoned x y = s.poisoned x y := rfl
@[simp] theorem State.setBit_byte (s : State) (f : Fld) (i : Nat) (b : Bool) (x : Nat) : (s.setBit f i b).byte x = s.byte x := rfl

/-! ### send -/

@[simp] theorem State.send_regs (s : State) (o : Out) : (s.send o).regs = s.regs := rfl
@[simp] theorem State.send_tick (s : State) (o : Out) : (s.send o).tick = s.tick := rfl
@[simp] theorem State.send_chip (s : State) (o : Out) : (s.send o).chip = s.chip := rfl
@[simp] theorem State.send_margin (s : State) (o : Out) : (s.send o).margin = s.margin := rfl
@[simp] theorem State.send_stamp (s : State) (o : Out) : (s.send o).stamp = s.stamp := rfl
@[simp] theorem State.send_stampTick (s : State) (o : Out) : (s.send o).stampTick = s.stampTick := rfl
@[simp] theorem State.send_fuse (s : State) (o : Out) : (s.send o).fuse = s.fuse := rfl
@[simp] theorem State.send_bed (s : State) (o : Out) : (s.send o).bed = s.bed := rfl
@[simp] theorem State.send_svy (s : State) (o : Out) : (s.send o).svy = s.svy := rfl
@[simp] theorem State.send_slb (s : State) (o : Out) : (s.send o).slb = s.slb := rfl
@[simp] theorem State.send_lgr (s : State) (o : Out) : (s.send o).lgr = s.lgr := rfl
@[simp] theorem State.send_adm (s : State) (o : Out) : (s.send o).adm = s.adm := rfl
@[simp] theorem State.send_haul (s : State) (o : Out) : (s.send o).haul = s.haul := rfl
@[simp] theorem State.send_save (s : State) (o : Out) : (s.send o).save = s.save := rfl
@[simp] theorem State.send_stk (s : State) (o : Out) : (s.send o).stk = s.stk := rfl
@[simp] theorem State.send_saves (s : State) (o : Out) : (s.send o).saves = s.saves := rfl
@[simp] theorem State.send_res (s : State) (o : Out) : (s.send o).res = s.res := rfl
@[simp] theorem State.send_dch (s : State) (o : Out) : (s.send o).dch = s.dch := rfl
@[simp] theorem State.send_ports (s : State) (o : Out) : (s.send o).ports = s.ports := rfl
@[simp] theorem State.send_nv (s : State) (o : Out) : (s.send o).nv = s.nv := rfl
@[simp] theorem State.send_job (s : State) (o : Out) : (s.send o).job = s.job := rfl
@[simp] theorem State.send_cip (s : State) (o : Out) : (s.send o).cip = s.cip := rfl
@[simp] theorem State.send_gal (s : State) (o : Out) : (s.send o).gal = s.gal := rfl
@[simp] theorem State.send_seq (s : State) (o : Out) : (s.send o).seq = s.seq := rfl
@[simp] theorem State.send_clk (s : State) (o : Out) : (s.send o).clk = s.clk := rfl
@[simp] theorem State.send_flt (s : State) (o : Out) : (s.send o).flt = s.flt := rfl
@[simp] theorem State.send_clg (s : State) (o : Out) : (s.send o).clg = s.clg := rfl
@[simp] theorem State.send_twb (s : State) (o : Out) : (s.send o).twb = s.twb := rfl
@[simp] theorem State.send_fwm (s : State) (o : Out) : (s.send o).fwm = s.fwm := rfl
@[simp] theorem State.send_pin (s : State) (o : Out) : (s.send o).pin = s.pin := rfl
@[simp] theorem State.send_pending (s : State) (o : Out) : (s.send o).pending = s.pending := rfl
@[simp] theorem State.send_free (s : State) (o : Out) : (s.send o).free = s.free := rfl
@[simp] theorem State.send_word (s : State) (o : Out) (x : Nat) : (s.send o).word x = s.word x := rfl
@[simp] theorem State.send_rd (s : State) (o : Out) (x : Fld) : (s.send o).rd x = s.rd x := rfl
@[simp] theorem State.send_on (s : State) (o : Out) (x : Fld) : (s.send o).on x = s.on x := rfl
@[simp] theorem State.send_sv (s : State) (o : Out) (x : SFld) : (s.send o).sv x = s.sv x := rfl
@[simp] theorem State.send_port (s : State) (o : Out) (x : Nat) : (s.send o).port x = s.port x := rfl
@[simp] theorem State.send_nvFace (s : State) (o : Out) (x : Nat) : (s.send o).nvFace x = s.nvFace x := rfl
@[simp] theorem State.send_slab (s : State) (o : Out) (x : Nat) : (s.send o).slab x = s.slab x := rfl
@[simp] theorem State.send_loc (s : State) (o : Out) (x : Nat) : (s.send o).loc x = s.loc x := rfl
@[simp] theorem State.send_ring (s : State) (o : Out) (x : Nat) : (s.send o).ring x = s.ring x := rfl
@[simp] theorem State.send_lineAt (s : State) (o : Out) (x y : Nat) : (s.send o).lineAt x y = s.lineAt x y := rfl
@[simp] theorem State.send_poisoned (s : State) (o : Out) (x y : Nat) : (s.send o).poisoned x y = s.poisoned x y := rfl
@[simp] theorem State.send_byte (s : State) (o : Out) (x : Nat) : (s.send o).byte x = s.byte x := rfl

/-! ### setPort -/

@[simp] theorem State.setPort_regs (s : State) (p : Nat) (q : Port) : (s.setPort p q).regs = s.regs := rfl
@[simp] theorem State.setPort_tick (s : State) (p : Nat) (q : Port) : (s.setPort p q).tick = s.tick := rfl
@[simp] theorem State.setPort_chip (s : State) (p : Nat) (q : Port) : (s.setPort p q).chip = s.chip := rfl
@[simp] theorem State.setPort_margin (s : State) (p : Nat) (q : Port) : (s.setPort p q).margin = s.margin := rfl
@[simp] theorem State.setPort_stamp (s : State) (p : Nat) (q : Port) : (s.setPort p q).stamp = s.stamp := rfl
@[simp] theorem State.setPort_stampTick (s : State) (p : Nat) (q : Port) : (s.setPort p q).stampTick = s.stampTick := rfl
@[simp] theorem State.setPort_fuse (s : State) (p : Nat) (q : Port) : (s.setPort p q).fuse = s.fuse := rfl
@[simp] theorem State.setPort_bed (s : State) (p : Nat) (q : Port) : (s.setPort p q).bed = s.bed := rfl
@[simp] theorem State.setPort_svy (s : State) (p : Nat) (q : Port) : (s.setPort p q).svy = s.svy := rfl
@[simp] theorem State.setPort_slb (s : State) (p : Nat) (q : Port) : (s.setPort p q).slb = s.slb := rfl
@[simp] theorem State.setPort_lgr (s : State) (p : Nat) (q : Port) : (s.setPort p q).lgr = s.lgr := rfl
@[simp] theorem State.setPort_adm (s : State) (p : Nat) (q : Port) : (s.setPort p q).adm = s.adm := rfl
@[simp] theorem State.setPort_haul (s : State) (p : Nat) (q : Port) : (s.setPort p q).haul = s.haul := rfl
@[simp] theorem State.setPort_save (s : State) (p : Nat) (q : Port) : (s.setPort p q).save = s.save := rfl
@[simp] theorem State.setPort_stk (s : State) (p : Nat) (q : Port) : (s.setPort p q).stk = s.stk := rfl
@[simp] theorem State.setPort_saves (s : State) (p : Nat) (q : Port) : (s.setPort p q).saves = s.saves := rfl
@[simp] theorem State.setPort_res (s : State) (p : Nat) (q : Port) : (s.setPort p q).res = s.res := rfl
@[simp] theorem State.setPort_dch (s : State) (p : Nat) (q : Port) : (s.setPort p q).dch = s.dch := rfl
@[simp] theorem State.setPort_nv (s : State) (p : Nat) (q : Port) : (s.setPort p q).nv = s.nv := rfl
@[simp] theorem State.setPort_job (s : State) (p : Nat) (q : Port) : (s.setPort p q).job = s.job := rfl
@[simp] theorem State.setPort_cip (s : State) (p : Nat) (q : Port) : (s.setPort p q).cip = s.cip := rfl
@[simp] theorem State.setPort_gal (s : State) (p : Nat) (q : Port) : (s.setPort p q).gal = s.gal := rfl
@[simp] theorem State.setPort_seq (s : State) (p : Nat) (q : Port) : (s.setPort p q).seq = s.seq := rfl
@[simp] theorem State.setPort_clk (s : State) (p : Nat) (q : Port) : (s.setPort p q).clk = s.clk := rfl
@[simp] theorem State.setPort_flt (s : State) (p : Nat) (q : Port) : (s.setPort p q).flt = s.flt := rfl
@[simp] theorem State.setPort_clg (s : State) (p : Nat) (q : Port) : (s.setPort p q).clg = s.clg := rfl
@[simp] theorem State.setPort_twb (s : State) (p : Nat) (q : Port) : (s.setPort p q).twb = s.twb := rfl
@[simp] theorem State.setPort_fwm (s : State) (p : Nat) (q : Port) : (s.setPort p q).fwm = s.fwm := rfl
@[simp] theorem State.setPort_pin (s : State) (p : Nat) (q : Port) : (s.setPort p q).pin = s.pin := rfl
@[simp] theorem State.setPort_pending (s : State) (p : Nat) (q : Port) : (s.setPort p q).pending = s.pending := rfl
@[simp] theorem State.setPort_out (s : State) (p : Nat) (q : Port) : (s.setPort p q).out = s.out := rfl
@[simp] theorem State.setPort_free (s : State) (p : Nat) (q : Port) : (s.setPort p q).free = s.free := rfl
@[simp] theorem State.setPort_word (s : State) (p : Nat) (q : Port) (x : Nat) : (s.setPort p q).word x = s.word x := rfl
@[simp] theorem State.setPort_rd (s : State) (p : Nat) (q : Port) (x : Fld) : (s.setPort p q).rd x = s.rd x := rfl
@[simp] theorem State.setPort_on (s : State) (p : Nat) (q : Port) (x : Fld) : (s.setPort p q).on x = s.on x := rfl
@[simp] theorem State.setPort_sv (s : State) (p : Nat) (q : Port) (x : SFld) : (s.setPort p q).sv x = s.sv x := rfl
@[simp] theorem State.setPort_nvFace (s : State) (p : Nat) (q : Port) (x : Nat) : (s.setPort p q).nvFace x = s.nvFace x := rfl
@[simp] theorem State.setPort_slab (s : State) (p : Nat) (q : Port) (x : Nat) : (s.setPort p q).slab x = s.slab x := rfl
@[simp] theorem State.setPort_loc (s : State) (p : Nat) (q : Port) (x : Nat) : (s.setPort p q).loc x = s.loc x := rfl
@[simp] theorem State.setPort_ring (s : State) (p : Nat) (q : Port) (x : Nat) : (s.setPort p q).ring x = s.ring x := rfl
@[simp] theorem State.setPort_lineAt (s : State) (p : Nat) (q : Port) (x y : Nat) : (s.setPort p q).lineAt x y = s.lineAt x y := rfl
@[simp] theorem State.setPort_poisoned (s : State) (p : Nat) (q : Port) (x y : Nat) : (s.setPort p q).poisoned x y = s.poisoned x y := rfl
@[simp] theorem State.setPort_byte (s : State) (p : Nat) (q : Port) (x : Nat) : (s.setPort p q).byte x = s.byte x := rfl

/-! ### setNv -/

@[simp] theorem State.setNv_regs (s : State) (f : Nat) (q : NvFace) : (s.setNv f q).regs = s.regs := rfl
@[simp] theorem State.setNv_tick (s : State) (f : Nat) (q : NvFace) : (s.setNv f q).tick = s.tick := rfl
@[simp] theorem State.setNv_chip (s : State) (f : Nat) (q : NvFace) : (s.setNv f q).chip = s.chip := rfl
@[simp] theorem State.setNv_margin (s : State) (f : Nat) (q : NvFace) : (s.setNv f q).margin = s.margin := rfl
@[simp] theorem State.setNv_stamp (s : State) (f : Nat) (q : NvFace) : (s.setNv f q).stamp = s.stamp := rfl
@[simp] theorem State.setNv_stampTick (s : State) (f : Nat) (q : NvFace) : (s.setNv f q).stampTick = s.stampTick := rfl
@[simp] theorem State.setNv_fuse (s : State) (f : Nat) (q : NvFace) : (s.setNv f q).fuse = s.fuse := rfl
@[simp] theorem State.setNv_bed (s : State) (f : Nat) (q : NvFace) : (s.setNv f q).bed = s.bed := rfl
@[simp] theorem State.setNv_svy (s : State) (f : Nat) (q : NvFace) : (s.setNv f q).svy = s.svy := rfl
@[simp] theorem State.setNv_slb (s : State) (f : Nat) (q : NvFace) : (s.setNv f q).slb = s.slb := rfl
@[simp] theorem State.setNv_lgr (s : State) (f : Nat) (q : NvFace) : (s.setNv f q).lgr = s.lgr := rfl
@[simp] theorem State.setNv_adm (s : State) (f : Nat) (q : NvFace) : (s.setNv f q).adm = s.adm := rfl
@[simp] theorem State.setNv_haul (s : State) (f : Nat) (q : NvFace) : (s.setNv f q).haul = s.haul := rfl
@[simp] theorem State.setNv_save (s : State) (f : Nat) (q : NvFace) : (s.setNv f q).save = s.save := rfl
@[simp] theorem State.setNv_stk (s : State) (f : Nat) (q : NvFace) : (s.setNv f q).stk = s.stk := rfl
@[simp] theorem State.setNv_saves (s : State) (f : Nat) (q : NvFace) : (s.setNv f q).saves = s.saves := rfl
@[simp] theorem State.setNv_res (s : State) (f : Nat) (q : NvFace) : (s.setNv f q).res = s.res := rfl
@[simp] theorem State.setNv_dch (s : State) (f : Nat) (q : NvFace) : (s.setNv f q).dch = s.dch := rfl
@[simp] theorem State.setNv_ports (s : State) (f : Nat) (q : NvFace) : (s.setNv f q).ports = s.ports := rfl
@[simp] theorem State.setNv_job (s : State) (f : Nat) (q : NvFace) : (s.setNv f q).job = s.job := rfl
@[simp] theorem State.setNv_cip (s : State) (f : Nat) (q : NvFace) : (s.setNv f q).cip = s.cip := rfl
@[simp] theorem State.setNv_gal (s : State) (f : Nat) (q : NvFace) : (s.setNv f q).gal = s.gal := rfl
@[simp] theorem State.setNv_seq (s : State) (f : Nat) (q : NvFace) : (s.setNv f q).seq = s.seq := rfl
@[simp] theorem State.setNv_clk (s : State) (f : Nat) (q : NvFace) : (s.setNv f q).clk = s.clk := rfl
@[simp] theorem State.setNv_flt (s : State) (f : Nat) (q : NvFace) : (s.setNv f q).flt = s.flt := rfl
@[simp] theorem State.setNv_clg (s : State) (f : Nat) (q : NvFace) : (s.setNv f q).clg = s.clg := rfl
@[simp] theorem State.setNv_twb (s : State) (f : Nat) (q : NvFace) : (s.setNv f q).twb = s.twb := rfl
@[simp] theorem State.setNv_fwm (s : State) (f : Nat) (q : NvFace) : (s.setNv f q).fwm = s.fwm := rfl
@[simp] theorem State.setNv_pin (s : State) (f : Nat) (q : NvFace) : (s.setNv f q).pin = s.pin := rfl
@[simp] theorem State.setNv_pending (s : State) (f : Nat) (q : NvFace) : (s.setNv f q).pending = s.pending := rfl
@[simp] theorem State.setNv_out (s : State) (f : Nat) (q : NvFace) : (s.setNv f q).out = s.out := rfl
@[simp] theorem State.setNv_free (s : State) (f : Nat) (q : NvFace) : (s.setNv f q).free = s.free := rfl
@[simp] theorem State.setNv_word (s : State) (f : Nat) (q : NvFace) (x : Nat) : (s.setNv f q).word x = s.word x := rfl
@[simp] theorem State.setNv_rd (s : State) (f : Nat) (q : NvFace) (x : Fld) : (s.setNv f q).rd x = s.rd x := rfl
@[simp] theorem State.setNv_on (s : State) (f : Nat) (q : NvFace) (x : Fld) : (s.setNv f q).on x = s.on x := rfl
@[simp] theorem State.setNv_sv (s : State) (f : Nat) (q : NvFace) (x : SFld) : (s.setNv f q).sv x = s.sv x := rfl
@[simp] theorem State.setNv_port (s : State) (f : Nat) (q : NvFace) (x : Nat) : (s.setNv f q).port x = s.port x := rfl
@[simp] theorem State.setNv_slab (s : State) (f : Nat) (q : NvFace) (x : Nat) : (s.setNv f q).slab x = s.slab x := rfl
@[simp] theorem State.setNv_loc (s : State) (f : Nat) (q : NvFace) (x : Nat) : (s.setNv f q).loc x = s.loc x := rfl
@[simp] theorem State.setNv_ring (s : State) (f : Nat) (q : NvFace) (x : Nat) : (s.setNv f q).ring x = s.ring x := rfl
@[simp] theorem State.setNv_lineAt (s : State) (f : Nat) (q : NvFace) (x y : Nat) : (s.setNv f q).lineAt x y = s.lineAt x y := rfl
@[simp] theorem State.setNv_poisoned (s : State) (f : Nat) (q : NvFace) (x y : Nat) : (s.setNv f q).poisoned x y = s.poisoned x y := rfl
@[simp] theorem State.setNv_byte (s : State) (f : Nat) (q : NvFace) (x : Nat) : (s.setNv f q).byte x = s.byte x := rfl

/-! ### setSlab -/

@[simp] theorem State.setSlab_regs (s : State) (i : Nat) (e : SlabE) : (s.setSlab i e).regs = s.regs := rfl
@[simp] theorem State.setSlab_tick (s : State) (i : Nat) (e : SlabE) : (s.setSlab i e).tick = s.tick := rfl
@[simp] theorem State.setSlab_chip (s : State) (i : Nat) (e : SlabE) : (s.setSlab i e).chip = s.chip := rfl
@[simp] theorem State.setSlab_margin (s : State) (i : Nat) (e : SlabE) : (s.setSlab i e).margin = s.margin := rfl
@[simp] theorem State.setSlab_stamp (s : State) (i : Nat) (e : SlabE) : (s.setSlab i e).stamp = s.stamp := rfl
@[simp] theorem State.setSlab_stampTick (s : State) (i : Nat) (e : SlabE) : (s.setSlab i e).stampTick = s.stampTick := rfl
@[simp] theorem State.setSlab_fuse (s : State) (i : Nat) (e : SlabE) : (s.setSlab i e).fuse = s.fuse := rfl
@[simp] theorem State.setSlab_bed (s : State) (i : Nat) (e : SlabE) : (s.setSlab i e).bed = s.bed := rfl
@[simp] theorem State.setSlab_svy (s : State) (i : Nat) (e : SlabE) : (s.setSlab i e).svy = s.svy := rfl
@[simp] theorem State.setSlab_lgr (s : State) (i : Nat) (e : SlabE) : (s.setSlab i e).lgr = s.lgr := rfl
@[simp] theorem State.setSlab_adm (s : State) (i : Nat) (e : SlabE) : (s.setSlab i e).adm = s.adm := rfl
@[simp] theorem State.setSlab_haul (s : State) (i : Nat) (e : SlabE) : (s.setSlab i e).haul = s.haul := rfl
@[simp] theorem State.setSlab_save (s : State) (i : Nat) (e : SlabE) : (s.setSlab i e).save = s.save := rfl
@[simp] theorem State.setSlab_stk (s : State) (i : Nat) (e : SlabE) : (s.setSlab i e).stk = s.stk := rfl
@[simp] theorem State.setSlab_saves (s : State) (i : Nat) (e : SlabE) : (s.setSlab i e).saves = s.saves := rfl
@[simp] theorem State.setSlab_res (s : State) (i : Nat) (e : SlabE) : (s.setSlab i e).res = s.res := rfl
@[simp] theorem State.setSlab_dch (s : State) (i : Nat) (e : SlabE) : (s.setSlab i e).dch = s.dch := rfl
@[simp] theorem State.setSlab_ports (s : State) (i : Nat) (e : SlabE) : (s.setSlab i e).ports = s.ports := rfl
@[simp] theorem State.setSlab_nv (s : State) (i : Nat) (e : SlabE) : (s.setSlab i e).nv = s.nv := rfl
@[simp] theorem State.setSlab_job (s : State) (i : Nat) (e : SlabE) : (s.setSlab i e).job = s.job := rfl
@[simp] theorem State.setSlab_cip (s : State) (i : Nat) (e : SlabE) : (s.setSlab i e).cip = s.cip := rfl
@[simp] theorem State.setSlab_gal (s : State) (i : Nat) (e : SlabE) : (s.setSlab i e).gal = s.gal := rfl
@[simp] theorem State.setSlab_seq (s : State) (i : Nat) (e : SlabE) : (s.setSlab i e).seq = s.seq := rfl
@[simp] theorem State.setSlab_clk (s : State) (i : Nat) (e : SlabE) : (s.setSlab i e).clk = s.clk := rfl
@[simp] theorem State.setSlab_flt (s : State) (i : Nat) (e : SlabE) : (s.setSlab i e).flt = s.flt := rfl
@[simp] theorem State.setSlab_clg (s : State) (i : Nat) (e : SlabE) : (s.setSlab i e).clg = s.clg := rfl
@[simp] theorem State.setSlab_twb (s : State) (i : Nat) (e : SlabE) : (s.setSlab i e).twb = s.twb := rfl
@[simp] theorem State.setSlab_fwm (s : State) (i : Nat) (e : SlabE) : (s.setSlab i e).fwm = s.fwm := rfl
@[simp] theorem State.setSlab_pin (s : State) (i : Nat) (e : SlabE) : (s.setSlab i e).pin = s.pin := rfl
@[simp] theorem State.setSlab_pending (s : State) (i : Nat) (e : SlabE) : (s.setSlab i e).pending = s.pending := rfl
@[simp] theorem State.setSlab_out (s : State) (i : Nat) (e : SlabE) : (s.setSlab i e).out = s.out := rfl
@[simp] theorem State.setSlab_free (s : State) (i : Nat) (e : SlabE) : (s.setSlab i e).free = s.free := rfl
@[simp] theorem State.setSlab_word (s : State) (i : Nat) (e : SlabE) (x : Nat) : (s.setSlab i e).word x = s.word x := rfl
@[simp] theorem State.setSlab_rd (s : State) (i : Nat) (e : SlabE) (x : Fld) : (s.setSlab i e).rd x = s.rd x := rfl
@[simp] theorem State.setSlab_on (s : State) (i : Nat) (e : SlabE) (x : Fld) : (s.setSlab i e).on x = s.on x := rfl
@[simp] theorem State.setSlab_sv (s : State) (i : Nat) (e : SlabE) (x : SFld) : (s.setSlab i e).sv x = s.sv x := rfl
@[simp] theorem State.setSlab_port (s : State) (i : Nat) (e : SlabE) (x : Nat) : (s.setSlab i e).port x = s.port x := rfl
@[simp] theorem State.setSlab_nvFace (s : State) (i : Nat) (e : SlabE) (x : Nat) : (s.setSlab i e).nvFace x = s.nvFace x := rfl
@[simp] theorem State.setSlab_ring (s : State) (i : Nat) (e : SlabE) (x : Nat) : (s.setSlab i e).ring x = s.ring x := rfl
@[simp] theorem State.setSlab_lineAt (s : State) (i : Nat) (e : SlabE) (x y : Nat) : (s.setSlab i e).lineAt x y = s.lineAt x y := rfl
@[simp] theorem State.setSlab_poisoned (s : State) (i : Nat) (e : SlabE) (x y : Nat) : (s.setSlab i e).poisoned x y = s.poisoned x y := rfl
@[simp] theorem State.setSlab_byte (s : State) (i : Nat) (e : SlabE) (x : Nat) : (s.setSlab i e).byte x = s.byte x := rfl

/-! ### setLoc -/

@[simp] theorem State.setLoc_regs (s : State) (k : Nat) (w : Word) : (s.setLoc k w).regs = s.regs := rfl
@[simp] theorem State.setLoc_tick (s : State) (k : Nat) (w : Word) : (s.setLoc k w).tick = s.tick := rfl
@[simp] theorem State.setLoc_chip (s : State) (k : Nat) (w : Word) : (s.setLoc k w).chip = s.chip := rfl
@[simp] theorem State.setLoc_margin (s : State) (k : Nat) (w : Word) : (s.setLoc k w).margin = s.margin := rfl
@[simp] theorem State.setLoc_stamp (s : State) (k : Nat) (w : Word) : (s.setLoc k w).stamp = s.stamp := rfl
@[simp] theorem State.setLoc_stampTick (s : State) (k : Nat) (w : Word) : (s.setLoc k w).stampTick = s.stampTick := rfl
@[simp] theorem State.setLoc_fuse (s : State) (k : Nat) (w : Word) : (s.setLoc k w).fuse = s.fuse := rfl
@[simp] theorem State.setLoc_bed (s : State) (k : Nat) (w : Word) : (s.setLoc k w).bed = s.bed := rfl
@[simp] theorem State.setLoc_svy (s : State) (k : Nat) (w : Word) : (s.setLoc k w).svy = s.svy := rfl
@[simp] theorem State.setLoc_lgr (s : State) (k : Nat) (w : Word) : (s.setLoc k w).lgr = s.lgr := rfl
@[simp] theorem State.setLoc_adm (s : State) (k : Nat) (w : Word) : (s.setLoc k w).adm = s.adm := rfl
@[simp] theorem State.setLoc_haul (s : State) (k : Nat) (w : Word) : (s.setLoc k w).haul = s.haul := rfl
@[simp] theorem State.setLoc_save (s : State) (k : Nat) (w : Word) : (s.setLoc k w).save = s.save := rfl
@[simp] theorem State.setLoc_stk (s : State) (k : Nat) (w : Word) : (s.setLoc k w).stk = s.stk := rfl
@[simp] theorem State.setLoc_saves (s : State) (k : Nat) (w : Word) : (s.setLoc k w).saves = s.saves := rfl
@[simp] theorem State.setLoc_res (s : State) (k : Nat) (w : Word) : (s.setLoc k w).res = s.res := rfl
@[simp] theorem State.setLoc_dch (s : State) (k : Nat) (w : Word) : (s.setLoc k w).dch = s.dch := rfl
@[simp] theorem State.setLoc_ports (s : State) (k : Nat) (w : Word) : (s.setLoc k w).ports = s.ports := rfl
@[simp] theorem State.setLoc_nv (s : State) (k : Nat) (w : Word) : (s.setLoc k w).nv = s.nv := rfl
@[simp] theorem State.setLoc_job (s : State) (k : Nat) (w : Word) : (s.setLoc k w).job = s.job := rfl
@[simp] theorem State.setLoc_cip (s : State) (k : Nat) (w : Word) : (s.setLoc k w).cip = s.cip := rfl
@[simp] theorem State.setLoc_gal (s : State) (k : Nat) (w : Word) : (s.setLoc k w).gal = s.gal := rfl
@[simp] theorem State.setLoc_seq (s : State) (k : Nat) (w : Word) : (s.setLoc k w).seq = s.seq := rfl
@[simp] theorem State.setLoc_clk (s : State) (k : Nat) (w : Word) : (s.setLoc k w).clk = s.clk := rfl
@[simp] theorem State.setLoc_flt (s : State) (k : Nat) (w : Word) : (s.setLoc k w).flt = s.flt := rfl
@[simp] theorem State.setLoc_clg (s : State) (k : Nat) (w : Word) : (s.setLoc k w).clg = s.clg := rfl
@[simp] theorem State.setLoc_twb (s : State) (k : Nat) (w : Word) : (s.setLoc k w).twb = s.twb := rfl
@[simp] theorem State.setLoc_fwm (s : State) (k : Nat) (w : Word) : (s.setLoc k w).fwm = s.fwm := rfl
@[simp] theorem State.setLoc_pin (s : State) (k : Nat) (w : Word) : (s.setLoc k w).pin = s.pin := rfl
@[simp] theorem State.setLoc_pending (s : State) (k : Nat) (w : Word) : (s.setLoc k w).pending = s.pending := rfl
@[simp] theorem State.setLoc_out (s : State) (k : Nat) (w : Word) : (s.setLoc k w).out = s.out := rfl
@[simp] theorem State.setLoc_free (s : State) (k : Nat) (w : Word) : (s.setLoc k w).free = s.free := rfl
@[simp] theorem State.setLoc_word (s : State) (k : Nat) (w : Word) (x : Nat) : (s.setLoc k w).word x = s.word x := rfl
@[simp] theorem State.setLoc_rd (s : State) (k : Nat) (w : Word) (x : Fld) : (s.setLoc k w).rd x = s.rd x := rfl
@[simp] theorem State.setLoc_on (s : State) (k : Nat) (w : Word) (x : Fld) : (s.setLoc k w).on x = s.on x := rfl
@[simp] theorem State.setLoc_sv (s : State) (k : Nat) (w : Word) (x : SFld) : (s.setLoc k w).sv x = s.sv x := rfl
@[simp] theorem State.setLoc_port (s : State) (k : Nat) (w : Word) (x : Nat) : (s.setLoc k w).port x = s.port x := rfl
@[simp] theorem State.setLoc_nvFace (s : State) (k : Nat) (w : Word) (x : Nat) : (s.setLoc k w).nvFace x = s.nvFace x := rfl
@[simp] theorem State.setLoc_ring (s : State) (k : Nat) (w : Word) (x : Nat) : (s.setLoc k w).ring x = s.ring x := rfl
@[simp] theorem State.setLoc_lineAt (s : State) (k : Nat) (w : Word) (x y : Nat) : (s.setLoc k w).lineAt x y = s.lineAt x y := rfl
@[simp] theorem State.setLoc_poisoned (s : State) (k : Nat) (w : Word) (x y : Nat) : (s.setLoc k w).poisoned x y = s.poisoned x y := rfl
@[simp] theorem State.setLoc_byte (s : State) (k : Nat) (w : Word) (x : Nat) : (s.setLoc k w).byte x = s.byte x := rfl

/-! ### setRing -/

@[simp] theorem State.setRing_regs (s : State) (r : Nat) (c : Ring) : (s.setRing r c).regs = s.regs := rfl
@[simp] theorem State.setRing_tick (s : State) (r : Nat) (c : Ring) : (s.setRing r c).tick = s.tick := rfl
@[simp] theorem State.setRing_chip (s : State) (r : Nat) (c : Ring) : (s.setRing r c).chip = s.chip := rfl
@[simp] theorem State.setRing_margin (s : State) (r : Nat) (c : Ring) : (s.setRing r c).margin = s.margin := rfl
@[simp] theorem State.setRing_stamp (s : State) (r : Nat) (c : Ring) : (s.setRing r c).stamp = s.stamp := rfl
@[simp] theorem State.setRing_stampTick (s : State) (r : Nat) (c : Ring) : (s.setRing r c).stampTick = s.stampTick := rfl
@[simp] theorem State.setRing_fuse (s : State) (r : Nat) (c : Ring) : (s.setRing r c).fuse = s.fuse := rfl
@[simp] theorem State.setRing_bed (s : State) (r : Nat) (c : Ring) : (s.setRing r c).bed = s.bed := rfl
@[simp] theorem State.setRing_svy (s : State) (r : Nat) (c : Ring) : (s.setRing r c).svy = s.svy := rfl
@[simp] theorem State.setRing_slb (s : State) (r : Nat) (c : Ring) : (s.setRing r c).slb = s.slb := rfl
@[simp] theorem State.setRing_lgr (s : State) (r : Nat) (c : Ring) : (s.setRing r c).lgr = s.lgr := rfl
@[simp] theorem State.setRing_adm (s : State) (r : Nat) (c : Ring) : (s.setRing r c).adm = s.adm := rfl
@[simp] theorem State.setRing_haul (s : State) (r : Nat) (c : Ring) : (s.setRing r c).haul = s.haul := rfl
@[simp] theorem State.setRing_save (s : State) (r : Nat) (c : Ring) : (s.setRing r c).save = s.save := rfl
@[simp] theorem State.setRing_stk (s : State) (r : Nat) (c : Ring) : (s.setRing r c).stk = s.stk := rfl
@[simp] theorem State.setRing_saves (s : State) (r : Nat) (c : Ring) : (s.setRing r c).saves = s.saves := rfl
@[simp] theorem State.setRing_res (s : State) (r : Nat) (c : Ring) : (s.setRing r c).res = s.res := rfl
@[simp] theorem State.setRing_dch (s : State) (r : Nat) (c : Ring) : (s.setRing r c).dch = s.dch := rfl
@[simp] theorem State.setRing_ports (s : State) (r : Nat) (c : Ring) : (s.setRing r c).ports = s.ports := rfl
@[simp] theorem State.setRing_nv (s : State) (r : Nat) (c : Ring) : (s.setRing r c).nv = s.nv := rfl
@[simp] theorem State.setRing_cip (s : State) (r : Nat) (c : Ring) : (s.setRing r c).cip = s.cip := rfl
@[simp] theorem State.setRing_gal (s : State) (r : Nat) (c : Ring) : (s.setRing r c).gal = s.gal := rfl
@[simp] theorem State.setRing_seq (s : State) (r : Nat) (c : Ring) : (s.setRing r c).seq = s.seq := rfl
@[simp] theorem State.setRing_clk (s : State) (r : Nat) (c : Ring) : (s.setRing r c).clk = s.clk := rfl
@[simp] theorem State.setRing_flt (s : State) (r : Nat) (c : Ring) : (s.setRing r c).flt = s.flt := rfl
@[simp] theorem State.setRing_clg (s : State) (r : Nat) (c : Ring) : (s.setRing r c).clg = s.clg := rfl
@[simp] theorem State.setRing_twb (s : State) (r : Nat) (c : Ring) : (s.setRing r c).twb = s.twb := rfl
@[simp] theorem State.setRing_fwm (s : State) (r : Nat) (c : Ring) : (s.setRing r c).fwm = s.fwm := rfl
@[simp] theorem State.setRing_pin (s : State) (r : Nat) (c : Ring) : (s.setRing r c).pin = s.pin := rfl
@[simp] theorem State.setRing_pending (s : State) (r : Nat) (c : Ring) : (s.setRing r c).pending = s.pending := rfl
@[simp] theorem State.setRing_out (s : State) (r : Nat) (c : Ring) : (s.setRing r c).out = s.out := rfl
@[simp] theorem State.setRing_free (s : State) (r : Nat) (c : Ring) : (s.setRing r c).free = s.free := rfl
@[simp] theorem State.setRing_word (s : State) (r : Nat) (c : Ring) (x : Nat) : (s.setRing r c).word x = s.word x := rfl
@[simp] theorem State.setRing_rd (s : State) (r : Nat) (c : Ring) (x : Fld) : (s.setRing r c).rd x = s.rd x := rfl
@[simp] theorem State.setRing_on (s : State) (r : Nat) (c : Ring) (x : Fld) : (s.setRing r c).on x = s.on x := rfl
@[simp] theorem State.setRing_sv (s : State) (r : Nat) (c : Ring) (x : SFld) : (s.setRing r c).sv x = s.sv x := rfl
@[simp] theorem State.setRing_port (s : State) (r : Nat) (c : Ring) (x : Nat) : (s.setRing r c).port x = s.port x := rfl
@[simp] theorem State.setRing_nvFace (s : State) (r : Nat) (c : Ring) (x : Nat) : (s.setRing r c).nvFace x = s.nvFace x := rfl
@[simp] theorem State.setRing_slab (s : State) (r : Nat) (c : Ring) (x : Nat) : (s.setRing r c).slab x = s.slab x := rfl
@[simp] theorem State.setRing_loc (s : State) (r : Nat) (c : Ring) (x : Nat) : (s.setRing r c).loc x = s.loc x := rfl
@[simp] theorem State.setRing_lineAt (s : State) (r : Nat) (c : Ring) (x y : Nat) : (s.setRing r c).lineAt x y = s.lineAt x y := rfl
@[simp] theorem State.setRing_poisoned (s : State) (r : Nat) (c : Ring) (x y : Nat) : (s.setRing r c).poisoned x y = s.poisoned x y := rfl
@[simp] theorem State.setRing_byte (s : State) (r : Nat) (c : Ring) (x : Nat) : (s.setRing r c).byte x = s.byte x := rfl

/-! ### setSett -/

@[simp] theorem State.setSett_regs (s : State) (k : Nat) (d : SMap Byte) (p : BitVec 1024) : (s.setSett k d p).regs = s.regs := rfl
@[simp] theorem State.setSett_tick (s : State) (k : Nat) (d : SMap Byte) (p : BitVec 1024) : (s.setSett k d p).tick = s.tick := rfl
@[simp] theorem State.setSett_chip (s : State) (k : Nat) (d : SMap Byte) (p : BitVec 1024) : (s.setSett k d p).chip = s.chip := rfl
@[simp] theorem State.setSett_margin (s : State) (k : Nat) (d : SMap Byte) (p : BitVec 1024) : (s.setSett k d p).margin = s.margin := rfl
@[simp] theorem State.setSett_stamp (s : State) (k : Nat) (d : SMap Byte) (p : BitVec 1024) : (s.setSett k d p).stamp = s.stamp := rfl
@[simp] theorem State.setSett_stampTick (s : State) (k : Nat) (d : SMap Byte) (p : BitVec 1024) : (s.setSett k d p).stampTick = s.stampTick := rfl
@[simp] theorem State.setSett_fuse (s : State) (k : Nat) (d : SMap Byte) (p : BitVec 1024) : (s.setSett k d p).fuse = s.fuse := rfl
@[simp] theorem State.setSett_bed (s : State) (k : Nat) (d : SMap Byte) (p : BitVec 1024) : (s.setSett k d p).bed = s.bed := rfl
@[simp] theorem State.setSett_svy (s : State) (k : Nat) (d : SMap Byte) (p : BitVec 1024) : (s.setSett k d p).svy = s.svy := rfl
@[simp] theorem State.setSett_slb (s : State) (k : Nat) (d : SMap Byte) (p : BitVec 1024) : (s.setSett k d p).slb = s.slb := rfl
@[simp] theorem State.setSett_lgr (s : State) (k : Nat) (d : SMap Byte) (p : BitVec 1024) : (s.setSett k d p).lgr = s.lgr := rfl
@[simp] theorem State.setSett_adm (s : State) (k : Nat) (d : SMap Byte) (p : BitVec 1024) : (s.setSett k d p).adm = s.adm := rfl
@[simp] theorem State.setSett_haul (s : State) (k : Nat) (d : SMap Byte) (p : BitVec 1024) : (s.setSett k d p).haul = s.haul := rfl
@[simp] theorem State.setSett_save (s : State) (k : Nat) (d : SMap Byte) (p : BitVec 1024) : (s.setSett k d p).save = s.save := rfl
@[simp] theorem State.setSett_stk (s : State) (k : Nat) (d : SMap Byte) (p : BitVec 1024) : (s.setSett k d p).stk = s.stk := rfl
@[simp] theorem State.setSett_saves (s : State) (k : Nat) (d : SMap Byte) (p : BitVec 1024) : (s.setSett k d p).saves = s.saves := rfl
@[simp] theorem State.setSett_res (s : State) (k : Nat) (d : SMap Byte) (p : BitVec 1024) : (s.setSett k d p).res = s.res := rfl
@[simp] theorem State.setSett_ports (s : State) (k : Nat) (d : SMap Byte) (p : BitVec 1024) : (s.setSett k d p).ports = s.ports := rfl
@[simp] theorem State.setSett_nv (s : State) (k : Nat) (d : SMap Byte) (p : BitVec 1024) : (s.setSett k d p).nv = s.nv := rfl
@[simp] theorem State.setSett_job (s : State) (k : Nat) (d : SMap Byte) (p : BitVec 1024) : (s.setSett k d p).job = s.job := rfl
@[simp] theorem State.setSett_cip (s : State) (k : Nat) (d : SMap Byte) (p : BitVec 1024) : (s.setSett k d p).cip = s.cip := rfl
@[simp] theorem State.setSett_gal (s : State) (k : Nat) (d : SMap Byte) (p : BitVec 1024) : (s.setSett k d p).gal = s.gal := rfl
@[simp] theorem State.setSett_seq (s : State) (k : Nat) (d : SMap Byte) (p : BitVec 1024) : (s.setSett k d p).seq = s.seq := rfl
@[simp] theorem State.setSett_clk (s : State) (k : Nat) (d : SMap Byte) (p : BitVec 1024) : (s.setSett k d p).clk = s.clk := rfl
@[simp] theorem State.setSett_flt (s : State) (k : Nat) (d : SMap Byte) (p : BitVec 1024) : (s.setSett k d p).flt = s.flt := rfl
@[simp] theorem State.setSett_clg (s : State) (k : Nat) (d : SMap Byte) (p : BitVec 1024) : (s.setSett k d p).clg = s.clg := rfl
@[simp] theorem State.setSett_twb (s : State) (k : Nat) (d : SMap Byte) (p : BitVec 1024) : (s.setSett k d p).twb = s.twb := rfl
@[simp] theorem State.setSett_fwm (s : State) (k : Nat) (d : SMap Byte) (p : BitVec 1024) : (s.setSett k d p).fwm = s.fwm := rfl
@[simp] theorem State.setSett_pin (s : State) (k : Nat) (d : SMap Byte) (p : BitVec 1024) : (s.setSett k d p).pin = s.pin := rfl
@[simp] theorem State.setSett_pending (s : State) (k : Nat) (d : SMap Byte) (p : BitVec 1024) : (s.setSett k d p).pending = s.pending := rfl
@[simp] theorem State.setSett_out (s : State) (k : Nat) (d : SMap Byte) (p : BitVec 1024) : (s.setSett k d p).out = s.out := rfl
@[simp] theorem State.setSett_free (s : State) (k : Nat) (d : SMap Byte) (p : BitVec 1024) : (s.setSett k d p).free = s.free := rfl
@[simp] theorem State.setSett_word (s : State) (k : Nat) (d : SMap Byte) (p : BitVec 1024) (x : Nat) : (s.setSett k d p).word x = s.word x := rfl
@[simp] theorem State.setSett_rd (s : State) (k : Nat) (d : SMap Byte) (p : BitVec 1024) (x : Fld) : (s.setSett k d p).rd x = s.rd x := rfl
@[simp] theorem State.setSett_on (s : State) (k : Nat) (d : SMap Byte) (p : BitVec 1024) (x : Fld) : (s.setSett k d p).on x = s.on x := rfl
@[simp] theorem State.setSett_sv (s : State) (k : Nat) (d : SMap Byte) (p : BitVec 1024) (x : SFld) : (s.setSett k d p).sv x = s.sv x := rfl
@[simp] theorem State.setSett_port (s : State) (k : Nat) (d : SMap Byte) (p : BitVec 1024) (x : Nat) : (s.setSett k d p).port x = s.port x := rfl
@[simp] theorem State.setSett_nvFace (s : State) (k : Nat) (d : SMap Byte) (p : BitVec 1024) (x : Nat) : (s.setSett k d p).nvFace x = s.nvFace x := rfl
@[simp] theorem State.setSett_slab (s : State) (k : Nat) (d : SMap Byte) (p : BitVec 1024) (x : Nat) : (s.setSett k d p).slab x = s.slab x := rfl
@[simp] theorem State.setSett_loc (s : State) (k : Nat) (d : SMap Byte) (p : BitVec 1024) (x : Nat) : (s.setSett k d p).loc x = s.loc x := rfl
@[simp] theorem State.setSett_ring (s : State) (k : Nat) (d : SMap Byte) (p : BitVec 1024) (x : Nat) : (s.setSett k d p).ring x = s.ring x := rfl

/-! ### setPoison -/

@[simp] theorem State.setPoison_regs (s : State) (k l : Nat) (b : Bool) : (s.setPoison k l b).regs = s.regs := rfl
@[simp] theorem State.setPoison_tick (s : State) (k l : Nat) (b : Bool) : (s.setPoison k l b).tick = s.tick := rfl
@[simp] theorem State.setPoison_chip (s : State) (k l : Nat) (b : Bool) : (s.setPoison k l b).chip = s.chip := rfl
@[simp] theorem State.setPoison_margin (s : State) (k l : Nat) (b : Bool) : (s.setPoison k l b).margin = s.margin := rfl
@[simp] theorem State.setPoison_stamp (s : State) (k l : Nat) (b : Bool) : (s.setPoison k l b).stamp = s.stamp := rfl
@[simp] theorem State.setPoison_stampTick (s : State) (k l : Nat) (b : Bool) : (s.setPoison k l b).stampTick = s.stampTick := rfl
@[simp] theorem State.setPoison_fuse (s : State) (k l : Nat) (b : Bool) : (s.setPoison k l b).fuse = s.fuse := rfl
@[simp] theorem State.setPoison_bed (s : State) (k l : Nat) (b : Bool) : (s.setPoison k l b).bed = s.bed := rfl
@[simp] theorem State.setPoison_svy (s : State) (k l : Nat) (b : Bool) : (s.setPoison k l b).svy = s.svy := rfl
@[simp] theorem State.setPoison_slb (s : State) (k l : Nat) (b : Bool) : (s.setPoison k l b).slb = s.slb := rfl
@[simp] theorem State.setPoison_lgr (s : State) (k l : Nat) (b : Bool) : (s.setPoison k l b).lgr = s.lgr := rfl
@[simp] theorem State.setPoison_adm (s : State) (k l : Nat) (b : Bool) : (s.setPoison k l b).adm = s.adm := rfl
@[simp] theorem State.setPoison_haul (s : State) (k l : Nat) (b : Bool) : (s.setPoison k l b).haul = s.haul := rfl
@[simp] theorem State.setPoison_save (s : State) (k l : Nat) (b : Bool) : (s.setPoison k l b).save = s.save := rfl
@[simp] theorem State.setPoison_stk (s : State) (k l : Nat) (b : Bool) : (s.setPoison k l b).stk = s.stk := rfl
@[simp] theorem State.setPoison_saves (s : State) (k l : Nat) (b : Bool) : (s.setPoison k l b).saves = s.saves := rfl
@[simp] theorem State.setPoison_res (s : State) (k l : Nat) (b : Bool) : (s.setPoison k l b).res = s.res := rfl
@[simp] theorem State.setPoison_ports (s : State) (k l : Nat) (b : Bool) : (s.setPoison k l b).ports = s.ports := rfl
@[simp] theorem State.setPoison_nv (s : State) (k l : Nat) (b : Bool) : (s.setPoison k l b).nv = s.nv := rfl
@[simp] theorem State.setPoison_job (s : State) (k l : Nat) (b : Bool) : (s.setPoison k l b).job = s.job := rfl
@[simp] theorem State.setPoison_cip (s : State) (k l : Nat) (b : Bool) : (s.setPoison k l b).cip = s.cip := rfl
@[simp] theorem State.setPoison_gal (s : State) (k l : Nat) (b : Bool) : (s.setPoison k l b).gal = s.gal := rfl
@[simp] theorem State.setPoison_seq (s : State) (k l : Nat) (b : Bool) : (s.setPoison k l b).seq = s.seq := rfl
@[simp] theorem State.setPoison_clk (s : State) (k l : Nat) (b : Bool) : (s.setPoison k l b).clk = s.clk := rfl
@[simp] theorem State.setPoison_flt (s : State) (k l : Nat) (b : Bool) : (s.setPoison k l b).flt = s.flt := rfl
@[simp] theorem State.setPoison_clg (s : State) (k l : Nat) (b : Bool) : (s.setPoison k l b).clg = s.clg := rfl
@[simp] theorem State.setPoison_twb (s : State) (k l : Nat) (b : Bool) : (s.setPoison k l b).twb = s.twb := rfl
@[simp] theorem State.setPoison_fwm (s : State) (k l : Nat) (b : Bool) : (s.setPoison k l b).fwm = s.fwm := rfl
@[simp] theorem State.setPoison_pin (s : State) (k l : Nat) (b : Bool) : (s.setPoison k l b).pin = s.pin := rfl
@[simp] theorem State.setPoison_pending (s : State) (k l : Nat) (b : Bool) : (s.setPoison k l b).pending = s.pending := rfl
@[simp] theorem State.setPoison_out (s : State) (k l : Nat) (b : Bool) : (s.setPoison k l b).out = s.out := rfl
@[simp] theorem State.setPoison_free (s : State) (k l : Nat) (b : Bool) : (s.setPoison k l b).free = s.free := rfl
@[simp] theorem State.setPoison_word (s : State) (k l : Nat) (b : Bool) (x : Nat) : (s.setPoison k l b).word x = s.word x := rfl
@[simp] theorem State.setPoison_rd (s : State) (k l : Nat) (b : Bool) (x : Fld) : (s.setPoison k l b).rd x = s.rd x := rfl
@[simp] theorem State.setPoison_on (s : State) (k l : Nat) (b : Bool) (x : Fld) : (s.setPoison k l b).on x = s.on x := rfl
@[simp] theorem State.setPoison_sv (s : State) (k l : Nat) (b : Bool) (x : SFld) : (s.setPoison k l b).sv x = s.sv x := rfl
@[simp] theorem State.setPoison_port (s : State) (k l : Nat) (b : Bool) (x : Nat) : (s.setPoison k l b).port x = s.port x := rfl
@[simp] theorem State.setPoison_nvFace (s : State) (k l : Nat) (b : Bool) (x : Nat) : (s.setPoison k l b).nvFace x = s.nvFace x := rfl
@[simp] theorem State.setPoison_slab (s : State) (k l : Nat) (b : Bool) (x : Nat) : (s.setPoison k l b).slab x = s.slab x := rfl
@[simp] theorem State.setPoison_loc (s : State) (k l : Nat) (b : Bool) (x : Nat) : (s.setPoison k l b).loc x = s.loc x := rfl
@[simp] theorem State.setPoison_ring (s : State) (k l : Nat) (b : Bool) (x : Nat) : (s.setPoison k l b).ring x = s.ring x := rfl

/-! ### raiseQ -/

@[simp] theorem State.raiseQ_tick (s : State) (src : Nat) (q : Bool) : (s.raiseQ src q).tick = s.tick := rfl
@[simp] theorem State.raiseQ_chip (s : State) (src : Nat) (q : Bool) : (s.raiseQ src q).chip = s.chip := rfl
@[simp] theorem State.raiseQ_margin (s : State) (src : Nat) (q : Bool) : (s.raiseQ src q).margin = s.margin := rfl
@[simp] theorem State.raiseQ_stamp (s : State) (src : Nat) (q : Bool) : (s.raiseQ src q).stamp = s.stamp := rfl
@[simp] theorem State.raiseQ_stampTick (s : State) (src : Nat) (q : Bool) : (s.raiseQ src q).stampTick = s.stampTick := rfl
@[simp] theorem State.raiseQ_fuse (s : State) (src : Nat) (q : Bool) : (s.raiseQ src q).fuse = s.fuse := rfl
@[simp] theorem State.raiseQ_bed (s : State) (src : Nat) (q : Bool) : (s.raiseQ src q).bed = s.bed := rfl
@[simp] theorem State.raiseQ_svy (s : State) (src : Nat) (q : Bool) : (s.raiseQ src q).svy = s.svy := rfl
@[simp] theorem State.raiseQ_slb (s : State) (src : Nat) (q : Bool) : (s.raiseQ src q).slb = s.slb := rfl
@[simp] theorem State.raiseQ_lgr (s : State) (src : Nat) (q : Bool) : (s.raiseQ src q).lgr = s.lgr := rfl
@[simp] theorem State.raiseQ_adm (s : State) (src : Nat) (q : Bool) : (s.raiseQ src q).adm = s.adm := rfl
@[simp] theorem State.raiseQ_haul (s : State) (src : Nat) (q : Bool) : (s.raiseQ src q).haul = s.haul := rfl
@[simp] theorem State.raiseQ_save (s : State) (src : Nat) (q : Bool) : (s.raiseQ src q).save = s.save := rfl
@[simp] theorem State.raiseQ_stk (s : State) (src : Nat) (q : Bool) : (s.raiseQ src q).stk = s.stk := rfl
@[simp] theorem State.raiseQ_saves (s : State) (src : Nat) (q : Bool) : (s.raiseQ src q).saves = s.saves := rfl
@[simp] theorem State.raiseQ_res (s : State) (src : Nat) (q : Bool) : (s.raiseQ src q).res = s.res := rfl
@[simp] theorem State.raiseQ_dch (s : State) (src : Nat) (q : Bool) : (s.raiseQ src q).dch = s.dch := rfl
@[simp] theorem State.raiseQ_ports (s : State) (src : Nat) (q : Bool) : (s.raiseQ src q).ports = s.ports := rfl
@[simp] theorem State.raiseQ_nv (s : State) (src : Nat) (q : Bool) : (s.raiseQ src q).nv = s.nv := rfl
@[simp] theorem State.raiseQ_job (s : State) (src : Nat) (q : Bool) : (s.raiseQ src q).job = s.job := rfl
@[simp] theorem State.raiseQ_cip (s : State) (src : Nat) (q : Bool) : (s.raiseQ src q).cip = s.cip := rfl
@[simp] theorem State.raiseQ_gal (s : State) (src : Nat) (q : Bool) : (s.raiseQ src q).gal = s.gal := rfl
@[simp] theorem State.raiseQ_seq (s : State) (src : Nat) (q : Bool) : (s.raiseQ src q).seq = s.seq := rfl
@[simp] theorem State.raiseQ_clk (s : State) (src : Nat) (q : Bool) : (s.raiseQ src q).clk = s.clk := rfl
@[simp] theorem State.raiseQ_clg (s : State) (src : Nat) (q : Bool) : (s.raiseQ src q).clg = s.clg := rfl
@[simp] theorem State.raiseQ_twb (s : State) (src : Nat) (q : Bool) : (s.raiseQ src q).twb = s.twb := rfl
@[simp] theorem State.raiseQ_fwm (s : State) (src : Nat) (q : Bool) : (s.raiseQ src q).fwm = s.fwm := rfl
@[simp] theorem State.raiseQ_pin (s : State) (src : Nat) (q : Bool) : (s.raiseQ src q).pin = s.pin := rfl
@[simp] theorem State.raiseQ_pending (s : State) (src : Nat) (q : Bool) : (s.raiseQ src q).pending = s.pending := rfl
@[simp] theorem State.raiseQ_out (s : State) (src : Nat) (q : Bool) : (s.raiseQ src q).out = s.out := rfl
@[simp] theorem State.raiseQ_free (s : State) (src : Nat) (q : Bool) : (s.raiseQ src q).free = s.free := rfl
@[simp] theorem State.raiseQ_sv (s : State) (src : Nat) (q : Bool) (x : SFld) : (s.raiseQ src q).sv x = s.sv x := rfl
@[simp] theorem State.raiseQ_port (s : State) (src : Nat) (q : Bool) (x : Nat) : (s.raiseQ src q).port x = s.port x := rfl
@[simp] theorem State.raiseQ_nvFace (s : State) (src : Nat) (q : Bool) (x : Nat) : (s.raiseQ src q).nvFace x = s.nvFace x := rfl
@[simp] theorem State.raiseQ_slab (s : State) (src : Nat) (q : Bool) (x : Nat) : (s.raiseQ src q).slab x = s.slab x := rfl
@[simp] theorem State.raiseQ_loc (s : State) (src : Nat) (q : Bool) (x : Nat) : (s.raiseQ src q).loc x = s.loc x := rfl
@[simp] theorem State.raiseQ_ring (s : State) (src : Nat) (q : Bool) (x : Nat) : (s.raiseQ src q).ring x = s.ring x := rfl
@[simp] theorem State.raiseQ_lineAt (s : State) (src : Nat) (q : Bool) (x y : Nat) : (s.raiseQ src q).lineAt x y = s.lineAt x y := rfl
@[simp] theorem State.raiseQ_poisoned (s : State) (src : Nat) (q : Bool) (x y : Nat) : (s.raiseQ src q).poisoned x y = s.poisoned x y := rfl
@[simp] theorem State.raiseQ_byte (s : State) (src : Nat) (q : Bool) (x : Nat) : (s.raiseQ src q).byte x = s.byte x := rfl

/-! ### raise -/

@[simp] theorem State.raise_tick (s : State) (src : Nat) : (s.raise src).tick = s.tick := rfl
@[simp] theorem State.raise_chip (s : State) (src : Nat) : (s.raise src).chip = s.chip := rfl
@[simp] theorem State.raise_margin (s : State) (src : Nat) : (s.raise src).margin = s.margin := rfl
@[simp] theorem State.raise_stamp (s : State) (src : Nat) : (s.raise src).stamp = s.stamp := rfl
@[simp] theorem State.raise_stampTick (s : State) (src : Nat) : (s.raise src).stampTick = s.stampTick := rfl
@[simp] theorem State.raise_fuse (s : State) (src : Nat) : (s.raise src).fuse = s.fuse := rfl
@[simp] theorem State.raise_bed (s : State) (src : Nat) : (s.raise src).bed = s.bed := rfl
@[simp] theorem State.raise_svy (s : State) (src : Nat) : (s.raise src).svy = s.svy := rfl
@[simp] theorem State.raise_slb (s : State) (src : Nat) : (s.raise src).slb = s.slb := rfl
@[simp] theorem State.raise_lgr (s : State) (src : Nat) : (s.raise src).lgr = s.lgr := rfl
@[simp] theorem State.raise_adm (s : State) (src : Nat) : (s.raise src).adm = s.adm := rfl
@[simp] theorem State.raise_haul (s : State) (src : Nat) : (s.raise src).haul = s.haul := rfl
@[simp] theorem State.raise_save (s : State) (src : Nat) : (s.raise src).save = s.save := rfl
@[simp] theorem State.raise_stk (s : State) (src : Nat) : (s.raise src).stk = s.stk := rfl
@[simp] theorem State.raise_saves (s : State) (src : Nat) : (s.raise src).saves = s.saves := rfl
@[simp] theorem State.raise_res (s : State) (src : Nat) : (s.raise src).res = s.res := rfl
@[simp] theorem State.raise_dch (s : State) (src : Nat) : (s.raise src).dch = s.dch := rfl
@[simp] theorem State.raise_ports (s : State) (src : Nat) : (s.raise src).ports = s.ports := rfl
@[simp] theorem State.raise_nv (s : State) (src : Nat) : (s.raise src).nv = s.nv := rfl
@[simp] theorem State.raise_job (s : State) (src : Nat) : (s.raise src).job = s.job := rfl
@[simp] theorem State.raise_cip (s : State) (src : Nat) : (s.raise src).cip = s.cip := rfl
@[simp] theorem State.raise_gal (s : State) (src : Nat) : (s.raise src).gal = s.gal := rfl
@[simp] theorem State.raise_seq (s : State) (src : Nat) : (s.raise src).seq = s.seq := rfl
@[simp] theorem State.raise_clk (s : State) (src : Nat) : (s.raise src).clk = s.clk := rfl
@[simp] theorem State.raise_clg (s : State) (src : Nat) : (s.raise src).clg = s.clg := rfl
@[simp] theorem State.raise_twb (s : State) (src : Nat) : (s.raise src).twb = s.twb := rfl
@[simp] theorem State.raise_fwm (s : State) (src : Nat) : (s.raise src).fwm = s.fwm := rfl
@[simp] theorem State.raise_pin (s : State) (src : Nat) : (s.raise src).pin = s.pin := rfl
@[simp] theorem State.raise_pending (s : State) (src : Nat) : (s.raise src).pending = s.pending := rfl
@[simp] theorem State.raise_out (s : State) (src : Nat) : (s.raise src).out = s.out := rfl
@[simp] theorem State.raise_free (s : State) (src : Nat) : (s.raise src).free = s.free := rfl
@[simp] theorem State.raise_sv (s : State) (src : Nat) (x : SFld) : (s.raise src).sv x = s.sv x := rfl
@[simp] theorem State.raise_port (s : State) (src : Nat) (x : Nat) : (s.raise src).port x = s.port x := rfl
@[simp] theorem State.raise_nvFace (s : State) (src : Nat) (x : Nat) : (s.raise src).nvFace x = s.nvFace x := rfl
@[simp] theorem State.raise_slab (s : State) (src : Nat) (x : Nat) : (s.raise src).slab x = s.slab x := rfl
@[simp] theorem State.raise_loc (s : State) (src : Nat) (x : Nat) : (s.raise src).loc x = s.loc x := rfl
@[simp] theorem State.raise_ring (s : State) (src : Nat) (x : Nat) : (s.raise src).ring x = s.ring x := rfl
@[simp] theorem State.raise_lineAt (s : State) (src : Nat) (x y : Nat) : (s.raise src).lineAt x y = s.lineAt x y := rfl
@[simp] theorem State.raise_poisoned (s : State) (src : Nat) (x y : Nat) : (s.raise src).poisoned x y = s.poisoned x y := rfl
@[simp] theorem State.raise_byte (s : State) (src : Nat) (x : Nat) : (s.raise src).byte x = s.byte x := rfl

end Sys2Proof.Machine
end

