-- ==== Sys2Proof/Laws/Regs.lean ====
section
/-! SUPPORT. Laws of register words and fields: what a field reads after a write of a field. -/

namespace Sys2Proof.Machine

theorem add_mul_lt {a b x y : Nat} (ha : a < x) (hb : b < y) : a + x * b < x * y := by
  have h : x * (b + 1) ≤ x * y := Nat.mul_le_mul_left x hb
  rw [Nat.mul_add, Nat.mul_one] at h
  omega

theorem withBits_lt {lo width v w : Nat} (h : lo + width ≤ 32) (hw : w < 2 ^ 32) : withBits lo width v w < 2 ^ 32 := by
  unfold withBits
  have h1 : w % 2 ^ lo < 2 ^ lo := Nat.mod_lt _ (by positivity)
  have h2 : v % 2 ^ width < 2 ^ width := Nat.mod_lt _ (by positivity)
  have e : 2 ^ (lo + width) = 2 ^ lo * 2 ^ width := Nat.pow_add 2 lo width
  obtain ⟨r, hr⟩ : ∃ r, 32 = (lo + width) + r := ⟨32 - (lo + width), by omega⟩
  have e2 : 2 ^ 32 = 2 ^ (lo + width) * 2 ^ r := by rw [← Nat.pow_add, ← hr]
  have h3 : w / 2 ^ (lo + width) < 2 ^ r := by rw [Nat.div_lt_iff_lt_mul (by positivity), Nat.mul_comm, ← e2]; exact hw
  have h4 : w % 2 ^ lo + v % 2 ^ width * 2 ^ lo < 2 ^ (lo + width) := by rw [e, Nat.mul_comm (v % 2 ^ width)]; exact add_mul_lt h1 h2
  rw [e2, Nat.mul_comm (w / 2 ^ (lo + width))]
  exact add_mul_lt h4 h3

theorem bitsOf_withBits_self (lo width v w : Nat) : bitsOf lo width (withBits lo width v w) = v % 2 ^ width := by
  unfold bitsOf withBits
  have hp : 0 < 2 ^ lo := by positivity
  have h1 : w % 2 ^ lo < 2 ^ lo := Nat.mod_lt _ hp
  have e : 2 ^ (lo + width) = 2 ^ lo * 2 ^ width := Nat.pow_add 2 lo width
  have : w % 2 ^ lo + v % 2 ^ width * 2 ^ lo + w / 2 ^ (lo + width) * 2 ^ (lo + width)
      = w % 2 ^ lo + 2 ^ lo * (v % 2 ^ width + 2 ^ width * (w / 2 ^ (lo + width))) := by rw [e]; ring
  rw [this, Nat.add_mul_div_left _ _ hp, Nat.div_eq_of_lt h1, Nat.zero_add, Nat.add_mul_mod_self_left, Nat.mod_mod]

theorem testBit_withBits (lo width v w i : Nat) :
    (withBits lo width v w).testBit i = if lo ≤ i ∧ i < lo + width then v.testBit (i - lo) else w.testBit i := by
  have e : withBits lo width v w = 2 ^ (lo + width) * (w / 2 ^ (lo + width)) + (2 ^ lo * (v % 2 ^ width) + w % 2 ^ lo) := by
    unfold withBits; ring
  have h1 : w % 2 ^ lo < 2 ^ lo := Nat.mod_lt _ (by positivity)
  have h2 : v % 2 ^ width < 2 ^ width := Nat.mod_lt _ (by positivity)
  have h3 : 2 ^ lo * (v % 2 ^ width) + w % 2 ^ lo < 2 ^ (lo + width) := by
    rw [Nat.pow_add, Nat.add_comm]; exact add_mul_lt h1 h2
  rw [e, Nat.testBit_two_pow_mul_add _ h3, Nat.testBit_two_pow_mul_add _ h1]
  by_cases ha : i < lo
  · simp [ha, show i < lo + width by omega]
  · by_cases hb : i < lo + width
    · simp [ha, hb, show lo ≤ i by omega, Nat.testBit_mod_two_pow, show i - lo < width by omega]
    · simp [hb, Nat.testBit_div_two_pow, show i - (lo + width) + (lo + width) = i by omega]

theorem testBit_bitsOf (lo width w i : Nat) : (bitsOf lo width w).testBit i = (decide (i < width) && w.testBit (i + lo)) := by
  simp [bitsOf, Nat.testBit_mod_two_pow, Nat.testBit_div_two_pow, Nat.add_comm]

theorem bitsOf_withBits_apart {lo width v w lo' width' : Nat} (h : lo' + width' ≤ lo ∨ lo + width ≤ lo') :
    bitsOf lo' width' (withBits lo width v w) = bitsOf lo' width' w := by
  apply Nat.eq_of_testBit_eq
  intro i
  rw [testBit_bitsOf, testBit_bitsOf, testBit_withBits]
  by_cases hi : i < width'
  · have : ¬(lo ≤ i + lo' ∧ i + lo' < lo + width) := by omega
    simp [this]
  · simp [hi]

/-- A word just held reads back. -/
@[simp] theorem State.word_setWord_self (s : State) (a : Nat) (w : Word) : (s.setWord a w).word a = w := by
  simp [State.word, State.setWord]

/-- Every other word reads as before. -/
theorem State.word_setWord_ne (s : State) {a b : Nat} (h : b ≠ a) (w : Word) : (s.setWord a w).word b = s.word b := by
  simp [State.word, State.setWord, SMap.get_put_ne _ _ h]

/-- A write of a field leaves the words at other addresses alone. -/
theorem State.word_wr_ne (s : State) (f : Fld) (v : Nat) {b : Nat} (h : b ≠ f.addr) : (s.wr f v).word b = s.word b :=
  State.word_setWord_ne s h _

/-- Two fields share no bit. -/
abbrev Fld.apart (f g : Fld) : Prop := f.addr ≠ g.addr ∨ f.lo + f.width ≤ g.lo ∨ g.lo + g.width ≤ f.lo

theorem State.rd_wr_self_mod (s : State) {f : Fld} (h : f.lo + f.width ≤ 32) (v : Nat) : (s.wr f v).rd f = v % 2 ^ f.width := by
  have hlt := withBits_lt (v := v) h (s.word f.addr).isLt
  simp only [State.rd, State.wr, State.word_setWord_self, BitVec.toNat_ofNat, Nat.mod_eq_of_lt hlt, bitsOf_withBits_self]

/-- A field reads back what was written where the value fits. -/
theorem State.rd_wr_self (s : State) {f : Fld} (h : f.lo + f.width ≤ 32) {v : Nat} (hv : v < 2 ^ f.width) : (s.wr f v).rd f = v := by
  rw [State.rd_wr_self_mod s h, Nat.mod_eq_of_lt hv]

/-- A write of a field leaves every field that shares no bit with it alone. -/
theorem State.rd_wr_apart (s : State) {f g : Fld} (hf : f.lo + f.width ≤ 32) (h : f.apart g) (v : Nat) : (s.wr f v).rd g = s.rd g := by
  by_cases ha : g.addr = f.addr
  · have hlt := withBits_lt (v := v) hf (s.word f.addr).isLt
    have hb : g.lo + g.width ≤ f.lo ∨ f.lo + f.width ≤ g.lo := by
      rcases h with h | h | h
      · exact absurd ha.symm h
      · exact .inr h
      · exact .inl h
    simp only [State.rd, State.wr, ha, State.word_setWord_self, BitVec.toNat_ofNat, Nat.mod_eq_of_lt hlt, bitsOf_withBits_apart hb]
  · simp only [State.rd, State.word_wr_ne s f v ha]

/-- A field of another address reads as before. -/
theorem State.rd_wr_ne (s : State) {f g : Fld} (h : g.addr ≠ f.addr) (v : Nat) : (s.wr f v).rd g = s.rd g := by
  simp only [State.rd, State.word_wr_ne s f v h]

end Sys2Proof.Machine
end

