-- ==== Sys2Proof/Laws/Frame.lean ====
section
/-! SUPPORT. Laws of frames: which updates keep the register words outside a list of addresses, and what a raise does. -/

namespace Sys2Proof.Machine

theorem keepsWords_refl (l : List Nat) (s : State) : keepsWords l s s := fun _ _ => rfl

theorem keepsWords_setWord {l : List Nat} {s t : State} {a : Nat} {w : Word} (h : keepsWords l s t) (ha : a ∈ l) :
    keepsWords l s (t.setWord a w) := fun b hb => by
  have hne : b ≠ a := fun e => hb (by rw [e]; exact ha)
  rw [State.word_setWord_ne _ hne]; exact h b hb

theorem keepsWords_wr {l : List Nat} {s t : State} {f : Fld} {v : Nat} (h : keepsWords l s t) (ha : f.addr ∈ l) :
    keepsWords l s (t.wr f v) := keepsWords_setWord h ha

theorem keepsWords_wrB {l : List Nat} {s t : State} {f : Fld} {b : Bool} (h : keepsWords l s t) (ha : f.addr ∈ l) :
    keepsWords l s (t.wrB f b) := keepsWords_setWord h ha

theorem keepsWords_setBit {l : List Nat} {s t : State} {f : Fld} {i : Nat} {b : Bool} (h : keepsWords l s t) (ha : f.addr ∈ l) :
    keepsWords l s (t.setBit f i b) := keepsWords_setWord h ha

theorem keepsWords_addSat {l : List Nat} {s t : State} {f : Fld} {n : Nat} (h : keepsWords l s t) (ha : f.addr ∈ l) :
    keepsWords l s (t.addSat f n) := keepsWords_setWord h ha

theorem keepsWords_addWrap {l : List Nat} {s t : State} {f : Fld} {n : Nat} (h : keepsWords l s t) (ha : f.addr ∈ l) :
    keepsWords l s (t.addWrap f n) := keepsWords_setWord h ha

theorem keepsWords_raise {l : List Nat} {s t : State} {src : Nat} (h : keepsWords l s t) (ha : (evsBit src).1.addr ∈ l) :
    keepsWords l s (t.raise src) := keepsWords_setWord (t := t) h ha

theorem keepsWords_trans {l : List Nat} {s t u : State} (h : keepsWords l s t) (h' : keepsWords l t u) : keepsWords l s u :=
  fun a ha => (h' a ha).trans (h a ha)

theorem keepsWords_of_regs {l : List Nat} {s t u : State} (h : keepsWords l s t) (e : u.regs = t.regs) : keepsWords l s u :=
  fun a ha => by rw [← h a ha]; unfold State.word; rw [e]

theorem State.rd_of_regs {s t : State} (e : t.regs = s.regs) (f : Fld) : t.rd f = s.rd f := by
  unfold State.rd State.word; rw [e]

theorem keepsWords_when {l : List Nat} {s t : State} {b : Bool} {f : State → State} (h : keepsWords l s t)
    (hf : ∀ t, keepsWords l s t → keepsWords l s (f t)) : keepsWords l s (t.when b f) := by
  unfold State.when; split
  · exact hf t h
  · exact h

/-! ### Parts of the state -/

theorem keepsBut_refl (l : List Part) (s : State) : keepsBut l s s := fun p _ => by cases p <;> rfl

theorem keepsBut_trans {l : List Part} {s t u : State} (h : keepsBut l s t) (h' : keepsBut l t u) : keepsBut l s u := by
  intro p hp
  have a := h p hp
  have b := h' p hp
  cases p <;> exact b.trans a

theorem keepsBut_mono {l m : List Part} {s u : State} (h : keepsBut l s u) (hm : l ⊆ m) : keepsBut m s u :=
  fun p hp => h p (fun hl => hp (hm hl))

theorem keepsBut_when {l : List Part} {s t : State} {b : Bool} {f : State → State} (h : keepsBut l s t)
    (hf : ∀ t, keepsBut l s t → keepsBut l s (f t)) : keepsBut l s (t.when b f) := by
  unfold State.when; split
  · exact hf t h
  · exact h

theorem keepsBut_forEach {A : Type} {l : List Part} {s t : State} {as : List A} {f : State → A → State} (h : keepsBut l s t)
    (hf : ∀ t a, keepsBut l s t → keepsBut l s (f t a)) : keepsBut l s (t.forEach as f) := by
  unfold State.forEach
  induction as generalizing t with
  | nil => exact h
  | cons a as ih => exact ih (hf t a h)

theorem keepsWords_forEach {A : Type} {l : List Nat} {s t : State} {as : List A} {f : State → A → State} (h : keepsWords l s t)
    (hf : ∀ t a, keepsWords l s t → keepsWords l s (f t a)) : keepsWords l s (t.forEach as f) := by
  unfold State.forEach
  induction as generalizing t with
  | nil => exact h
  | cons a as ih => exact ih (hf t a h)

theorem keepsBut_regs {l : List Part} {s t : State} {x : SMap Word} (h : keepsBut l s t) (hm : Part.regs ∈ l) :
    keepsBut l s { t with regs := x } := by
  intro p hp
  have := h p hp
  cases p <;> first | exact this | exact absurd hm hp

theorem keepsBut_tick {l : List Part} {s t : State} {x : Nat} (h : keepsBut l s t) (hm : Part.tick ∈ l) :
    keepsBut l s { t with tick := x } := by
  intro p hp
  have := h p hp
  cases p <;> first | exact this | exact absurd hm hp

theorem keepsBut_chip {l : List Part} {s t : State} {x : Chip} (h : keepsBut l s t) (hm : Part.chip ∈ l) :
    keepsBut l s { t with chip := x } := by
  intro p hp
  have := h p hp
  cases p <;> first | exact this | exact absurd hm hp

theorem keepsBut_margin {l : List Part} {s t : State} {x : Margin} (h : keepsBut l s t) (hm : Part.margin ∈ l) :
    keepsBut l s { t with margin := x } := by
  intro p hp
  have := h p hp
  cases p <;> first | exact this | exact absurd hm hp

theorem keepsBut_stamp {l : List Part} {s t : State} {x : Nat} (h : keepsBut l s t) (hm : Part.stamp ∈ l) :
    keepsBut l s { t with stamp := x } := by
  intro p hp
  have := h p hp
  cases p <;> first | exact this | exact absurd hm hp

theorem keepsBut_stampTick {l : List Part} {s t : State} {x : Nat} (h : keepsBut l s t) (hm : Part.stampTick ∈ l) :
    keepsBut l s { t with stampTick := x } := by
  intro p hp
  have := h p hp
  cases p <;> first | exact this | exact absurd hm hp

theorem keepsBut_fuse {l : List Part} {s t : State} {x : Fuse} (h : keepsBut l s t) (hm : Part.fuse ∈ l) :
    keepsBut l s { t with fuse := x } := by
  intro p hp
  have := h p hp
  cases p <;> first | exact this | exact absurd hm hp

theorem keepsBut_bed {l : List Part} {s t : State} {x : BedSt} (h : keepsBut l s t) (hm : Part.bed ∈ l) :
    keepsBut l s { t with bed := x } := by
  intro p hp
  have := h p hp
  cases p <;> first | exact this | exact absurd hm hp

theorem keepsBut_svy {l : List Part} {s t : State} {x : SvySt} (h : keepsBut l s t) (hm : Part.svy ∈ l) :
    keepsBut l s { t with svy := x } := by
  intro p hp
  have := h p hp
  cases p <;> first | exact this | exact absurd hm hp

theorem keepsBut_slb {l : List Part} {s t : State} {x : SlbSt} (h : keepsBut l s t) (hm : Part.slb ∈ l) :
    keepsBut l s { t with slb := x } := by
  intro p hp
  have := h p hp
  cases p <;> first | exact this | exact absurd hm hp

theorem keepsBut_lgr {l : List Part} {s t : State} {x : LgrSt} (h : keepsBut l s t) (hm : Part.lgr ∈ l) :
    keepsBut l s { t with lgr := x } := by
  intro p hp
  have := h p hp
  cases p <;> first | exact this | exact absurd hm hp

theorem keepsBut_adm {l : List Part} {s t : State} {x : AdmSt} (h : keepsBut l s t) (hm : Part.adm ∈ l) :
    keepsBut l s { t with adm := x } := by
  intro p hp
  have := h p hp
  cases p <;> first | exact this | exact absurd hm hp

theorem keepsBut_haul {l : List Part} {s t : State} {x : HaulSt} (h : keepsBut l s t) (hm : Part.haul ∈ l) :
    keepsBut l s { t with haul := x } := by
  intro p hp
  have := h p hp
  cases p <;> first | exact this | exact absurd hm hp

theorem keepsBut_save {l : List Part} {s t : State} {x : SaveSt} (h : keepsBut l s t) (hm : Part.save ∈ l) :
    keepsBut l s { t with save := x } := by
  intro p hp
  have := h p hp
  cases p <;> first | exact this | exact absurd hm hp

theorem keepsBut_stk {l : List Part} {s t : State} {x : StkSt} (h : keepsBut l s t) (hm : Part.stk ∈ l) :
    keepsBut l s { t with stk := x } := by
  intro p hp
  have := h p hp
  cases p <;> first | exact this | exact absurd hm hp

theorem keepsBut_saves {l : List Part} {s t : State} {x : List SaveSet} (h : keepsBut l s t) (hm : Part.saves ∈ l) :
    keepsBut l s { t with saves := x } := by
  intro p hp
  have := h p hp
  cases p <;> first | exact this | exact absurd hm hp

theorem keepsBut_res {l : List Part} {s t : State} {x : ResSt} (h : keepsBut l s t) (hm : Part.res ∈ l) :
    keepsBut l s { t with res := x } := by
  intro p hp
  have := h p hp
  cases p <;> first | exact this | exact absurd hm hp

theorem keepsBut_dch {l : List Part} {s t : State} {x : DchSt} (h : keepsBut l s t) (hm : Part.dch ∈ l) :
    keepsBut l s { t with dch := x } := by
  intro p hp
  have := h p hp
  cases p <;> first | exact this | exact absurd hm hp

theorem keepsBut_ports {l : List Part} {s t : State} {x : SMap Port} (h : keepsBut l s t) (hm : Part.ports ∈ l) :
    keepsBut l s { t with ports := x } := by
  intro p hp
  have := h p hp
  cases p <;> first | exact this | exact absurd hm hp

theorem keepsBut_nv {l : List Part} {s t : State} {x : SMap NvFace} (h : keepsBut l s t) (hm : Part.nv ∈ l) :
    keepsBut l s { t with nv := x } := by
  intro p hp
  have := h p hp
  cases p <;> first | exact this | exact absurd hm hp

theorem keepsBut_job {l : List Part} {s t : State} {x : JobSt} (h : keepsBut l s t) (hm : Part.job ∈ l) :
    keepsBut l s { t with job := x } := by
  intro p hp
  have := h p hp
  cases p <;> first | exact this | exact absurd hm hp

theorem keepsBut_cip {l : List Part} {s t : State} {x : CipSt} (h : keepsBut l s t) (hm : Part.cip ∈ l) :
    keepsBut l s { t with cip := x } := by
  intro p hp
  have := h p hp
  cases p <;> first | exact this | exact absurd hm hp

theorem keepsBut_gal {l : List Part} {s t : State} {x : GalSt} (h : keepsBut l s t) (hm : Part.gal ∈ l) :
    keepsBut l s { t with gal := x } := by
  intro p hp
  have := h p hp
  cases p <;> first | exact this | exact absurd hm hp

theorem keepsBut_seq {l : List Part} {s t : State} {x : SeqSt} (h : keepsBut l s t) (hm : Part.seq ∈ l) :
    keepsBut l s { t with seq := x } := by
  intro p hp
  have := h p hp
  cases p <;> first | exact this | exact absurd hm hp

theorem keepsBut_clk {l : List Part} {s t : State} {x : ClkSt} (h : keepsBut l s t) (hm : Part.clk ∈ l) :
    keepsBut l s { t with clk := x } := by
  intro p hp
  have := h p hp
  cases p <;> first | exact this | exact absurd hm hp

theorem keepsBut_flt {l : List Part} {s t : State} {x : FltSt} (h : keepsBut l s t) (hm : Part.flt ∈ l) :
    keepsBut l s { t with flt := x } := by
  intro p hp
  have := h p hp
  cases p <;> first | exact this | exact absurd hm hp

theorem keepsBut_clg {l : List Part} {s t : State} {x : ClgSt} (h : keepsBut l s t) (hm : Part.clg ∈ l) :
    keepsBut l s { t with clg := x } := by
  intro p hp
  have := h p hp
  cases p <;> first | exact this | exact absurd hm hp

theorem keepsBut_twb {l : List Part} {s t : State} {x : TwbSt} (h : keepsBut l s t) (hm : Part.twb ∈ l) :
    keepsBut l s { t with twb := x } := by
  intro p hp
  have := h p hp
  cases p <;> first | exact this | exact absurd hm hp

theorem keepsBut_fwm {l : List Part} {s t : State} {x : FwmSt} (h : keepsBut l s t) (hm : Part.fwm ∈ l) :
    keepsBut l s { t with fwm := x } := by
  intro p hp
  have := h p hp
  cases p <;> first | exact this | exact absurd hm hp

theorem keepsBut_pin {l : List Part} {s t : State} {x : PinSt} (h : keepsBut l s t) (hm : Part.pin ∈ l) :
    keepsBut l s { t with pin := x } := by
  intro p hp
  have := h p hp
  cases p <;> first | exact this | exact absurd hm hp

theorem keepsBut_pending {l : List Part} {s t : State} {x : List Instr} (h : keepsBut l s t) (hm : Part.pending ∈ l) :
    keepsBut l s { t with pending := x } := by
  intro p hp
  have := h p hp
  cases p <;> first | exact this | exact absurd hm hp

theorem keepsBut_out {l : List Part} {s t : State} {x : List Out} (h : keepsBut l s t) (hm : Part.out ∈ l) :
    keepsBut l s { t with out := x } := by
  intro p hp
  have := h p hp
  cases p <;> first | exact this | exact absurd hm hp

theorem keepsBut_free {l : List Part} {s t : State} {x : Nat} (h : keepsBut l s t) (hm : Part.free ∈ l) :
    keepsBut l s { t with free := x } := by
  intro p hp
  have := h p hp
  cases p <;> first | exact this | exact absurd hm hp

theorem keepsBut_setWord {l : List Part} {s t : State} {a : Nat} {w : Word} (h : keepsBut l s t) (hm : Part.regs ∈ l) :
    keepsBut l s (t.setWord a w) := keepsBut_regs h hm

theorem keepsBut_wr {l : List Part} {s t : State} {f : Fld} {v : Nat} (h : keepsBut l s t) (hm : Part.regs ∈ l) :
    keepsBut l s (t.wr f v) := keepsBut_regs h hm

theorem keepsBut_wrB {l : List Part} {s t : State} {f : Fld} {b : Bool} (h : keepsBut l s t) (hm : Part.regs ∈ l) :
    keepsBut l s (t.wrB f b) := keepsBut_regs h hm

theorem keepsBut_addSat {l : List Part} {s t : State} {f : Fld} {n : Nat} (h : keepsBut l s t) (hm : Part.regs ∈ l) :
    keepsBut l s (t.addSat f n) := keepsBut_regs h hm

theorem keepsBut_addWrap {l : List Part} {s t : State} {f : Fld} {n : Nat} (h : keepsBut l s t) (hm : Part.regs ∈ l) :
    keepsBut l s (t.addWrap f n) := keepsBut_regs h hm

theorem keepsBut_wrInt {l : List Part} {s t : State} {f : Fld} {v : Int} (h : keepsBut l s t) (hm : Part.regs ∈ l) :
    keepsBut l s (t.wrInt f v) := keepsBut_regs h hm

theorem keepsBut_setBit {l : List Part} {s t : State} {f : Fld} {i : Nat} {b : Bool} (h : keepsBut l s t) (hm : Part.regs ∈ l) :
    keepsBut l s (t.setBit f i b) := keepsBut_regs h hm

theorem keepsBut_send {l : List Part} {s t : State} {o : Out} (h : keepsBut l s t) (hm : Part.out ∈ l) :
    keepsBut l s (t.send o) := keepsBut_out h hm

theorem keepsBut_setPort {l : List Part} {s t : State} {p : Nat} {q : Port} (h : keepsBut l s t) (hm : Part.ports ∈ l) :
    keepsBut l s (t.setPort p q) := keepsBut_ports h hm

theorem keepsBut_setNv {l : List Part} {s t : State} {f : Nat} {q : NvFace} (h : keepsBut l s t) (hm : Part.nv ∈ l) :
    keepsBut l s (t.setNv f q) := keepsBut_nv h hm

theorem keepsBut_setSlab {l : List Part} {s t : State} {i : Nat} {e : SlabE} (h : keepsBut l s t) (hm : Part.slb ∈ l) :
    keepsBut l s (t.setSlab i e) := keepsBut_slb h hm

theorem keepsBut_setLoc {l : List Part} {s t : State} {k : Nat} {w : Word} (h : keepsBut l s t) (hm : Part.slb ∈ l) :
    keepsBut l s (t.setLoc k w) := keepsBut_slb h hm

theorem keepsBut_setRing {l : List Part} {s t : State} {r : Nat} {c : Ring} (h : keepsBut l s t) (hm : Part.job ∈ l) :
    keepsBut l s (t.setRing r c) := keepsBut_job h hm

theorem keepsBut_setSett {l : List Part} {s t : State} {k : Nat} {d : SMap Byte} {p : BitVec 1024} (h : keepsBut l s t) (hm : Part.dch ∈ l) :
    keepsBut l s (t.setSett k d p) := keepsBut_dch h hm

theorem keepsBut_setPoison {l : List Part} {s t : State} {k j : Nat} {b : Bool} (h : keepsBut l s t) (hm : Part.dch ∈ l) :
    keepsBut l s (t.setPoison k j b) := keepsBut_dch h hm

theorem keepsBut_raiseQ {l : List Part} {s t : State} {src : Nat} {q : Bool} (h : keepsBut l s t) (hr : Part.regs ∈ l)
    (hf : Part.flt ∈ l) : keepsBut l s (t.raiseQ src q) := keepsBut_flt (keepsBut_setBit h hr) hf

theorem keepsBut_raise {l : List Part} {s t : State} {src : Nat} (h : keepsBut l s t) (hr : Part.regs ∈ l)
    (hf : Part.flt ∈ l) : keepsBut l s (t.raise src) := keepsBut_raiseQ h hr hf

theorem State.rd_lt (s : State) (f : Fld) : s.rd f < 2 ^ f.width := Nat.mod_lt _ (by positivity)

/-- A field copied into one at least as wide. -/
theorem State.rd_wr_rd (s t : State) {f g : Fld} (h : f.lo + f.width ≤ 32) (hw : g.width ≤ f.width) :
    (s.wr f (t.rd g)).rd f = t.rd g :=
  State.rd_wr_self s h (Nat.lt_of_lt_of_le (t.rd_lt g) (Nat.pow_le_pow_right (by decide) hw))

theorem State.rd_wrB_self (s : State) {f : Fld} (h : f.lo + f.width ≤ 32) (hw : 0 < f.width) (b : Bool) :
    (s.wrB f b).rd f = if b then 1 else 0 := by
  have h2 : 2 ^ 1 ≤ 2 ^ f.width := Nat.pow_le_pow_right (by decide) hw
  refine State.rd_wr_self s h ?_
  cases b <;> simp at * <;> omega

theorem State.rd_wrB_apart (s : State) {f g : Fld} (hf : f.lo + f.width ≤ 32) (h : f.apart g) (b : Bool) :
    (s.wrB f b).rd g = s.rd g := State.rd_wr_apart s hf h _

theorem State.rd_setBit_apart (s : State) {f g : Fld} (hf : f.lo + f.width ≤ 32) (h : f.apart g) (i : Nat) (b : Bool) :
    (s.setBit f i b).rd g = s.rd g := State.rd_wr_apart s hf h _

theorem State.rd_addSat_self (s : State) {f : Fld} (h : f.lo + f.width ≤ 32) (n : Nat) :
    (s.addSat f n).rd f = min (s.rd f + n) (2 ^ f.width - 1) := by
  have hp : 0 < 2 ^ f.width := by positivity
  exact State.rd_wr_self s h (by omega)

theorem State.rd_addSat_apart (s : State) {f g : Fld} (hf : f.lo + f.width ≤ 32) (h : f.apart g) (n : Nat) :
    (s.addSat f n).rd g = s.rd g := State.rd_wr_apart s hf h _

theorem State.rd_addWrap_self (s : State) {f : Fld} (h : f.lo + f.width ≤ 32) (n : Nat) :
    (s.addWrap f n).rd f = (s.rd f + n) % 2 ^ f.width := State.rd_wr_self_mod s h _

theorem State.rd_addWrap_apart (s : State) {f g : Fld} (hf : f.lo + f.width ≤ 32) (h : f.apart g) (n : Nat) :
    (s.addWrap f n).rd g = s.rd g := State.rd_wr_apart s hf h _

theorem State.rd_setWord_ne (s : State) {a : Nat} {g : Fld} (h : g.addr ≠ a) (w : Word) : (s.setWord a w).rd g = s.rd g := by
  unfold State.rd; rw [State.word_setWord_ne s h]

/-- A field of a word that is kept reads as before. -/
theorem keepsWords.rd {l : List Nat} {s u : State} (h : keepsWords l s u) {f : Fld} (hf : f.addr ∉ l) : u.rd f = s.rd f := by
  simp only [State.rd, h _ hf]

theorem bitAt_withBit_self (i w : Nat) (b : Bool) : bitAt i (withBit i b w) = b := by
  have h := bitsOf_withBits_self i 1 (if b then 1 else 0) w
  unfold bitAt withBit
  unfold bitsOf at h
  simp only [Nat.pow_one] at h
  rw [h]
  cases b <;> simp

theorem bitAt_mod {i n w : Nat} (h : i < n) : bitAt i (w % 2 ^ n) = bitAt i w := by
  unfold bitAt
  have e := Nat.testBit_mod_two_pow w n i
  simp only [h, decide_true, Bool.true_and] at e
  simp only [Nat.testBit_eq_decide_div_mod_eq] at e
  exact e

/-- A bit just set in a field reads so. -/
theorem State.bitAt_setBit (s : State) {f : Fld} (hf : f.lo + f.width ≤ 32) {i : Nat} (hi : i < f.width) (b : Bool) :
    bitAt i ((s.setBit f i b).rd f) = b := by
  unfold State.setBit
  rw [State.rd_wr_self_mod s hf, bitAt_mod hi, bitAt_withBit_self]

theorem evsBit_fits (src : Nat) (h : src < 700) : (evsBit src).1.lo + (evsBit src).1.width ≤ 32 ∧ (evsBit src).2 < (evsBit src).1.width := by
  unfold evsBit
  repeat' split
  all_goals simp only [DCH_EVS.STATUS, NCH_EVS.STATUS, HPT_EVS.STATUS, GAL_EVS.STATUS, CIP_EVS.STATUS, LGR_EVS.STATUS,
    SEQ_EVS0.STATUS, SEQ_EVS1.STATUS, SEQ_EVS2.STATUS, TWB_EVS.STATUS, CLK_EVS.STATUS, FLT_EVS.STATUS]
  all_goals omega

theorem State.rd_raise_apart (s : State) {src : Nat} {g : Fld} (hs : src < 700) (h : (evsBit src).1.apart g) :
    (s.raise src).rd g = s.rd g := State.rd_setBit_apart s (evsBit_fits src hs).1 h _ _

/-- What a raise does (R508). -/
theorem State.raisedIn_raiseQ (s : State) {src : Nat} (h : src < 700) (q : Bool) : raisedIn src q s (s.raiseQ src q) :=
  ⟨rfl, State.bitAt_setBit s (evsBit_fits src h).1 (evsBit_fits src h).2 true⟩

theorem State.raisedIn_raise (s : State) {src : Nat} (h : src < 700) : raisedIn src false s (s.raise src) :=
  State.raisedIn_raiseQ s h false

/-- A mailbox command that no activation holds is carried out. -/
theorem State.mailHold_of_not {s : State} {f : Nat} (h : s.on FWM_STATUS.ACTIVATING = false) (i : Instr) (k : State → State) :
    s.mailHold f i k = k s := by simp [State.mailHold, h]

/-- A mailbox that is served holds no command. -/
theorem State.mailHold_of_mailOk {s : State} {f : Nat} (h : s.mailOk f = true) (i : Instr) (k : State → State) : s.mailHold f i k = k s := by
  simp only [State.mailOk, Bool.and_eq_true, Bool.not_eq_true'] at h
  exact State.mailHold_of_not h.2 i k

/-- Commands that waited come to the queue behind those that stand in it, and nothing else changes. -/
theorem State.mailServe_pending {s : State} (h : s.hubOn = true) (hr : s.fwm.running = true) (ha : s.on FWM_STATUS.ACTIVATING = false) :
    s.mailServe.pending = s.pending ++ s.fwm.waiting.map (fun c => c.2) ∧ s.mailServe.fwm.waiting = [] := by
  simp [State.mailServe, h, hr, ha]

end Sys2Proof.Machine
end

