-- ==== Sys2Proof/Laws/Memory.lean ====
section
/-! SUPPORT. Laws of DRAM contents: what a byte reads after a write, and that every operation on DRAM keeps the
canonical form. -/

namespace Sys2Proof.Machine

/-- Right after reset DRAM lists nothing, which is canonical. -/
theorem reset_mem_wf : Memory.wf State.reset.dch.mem = true := by decide

/-- A byte written reads back. -/
@[simp] theorem get_putByte_self (m : List Host.Cell) (a : Nat) (b : Byte) : SMap.get (0 : Byte) a (putByte m a b) = b := by
  simp [putByte]

/-- Writing a byte leaves every other byte alone. -/
theorem get_putByte_ne (m : List Host.Cell) {a x : Nat} (h : x ≠ a) (b : Byte) :
    SMap.get (0 : Byte) x (putByte m a b) = SMap.get 0 x m := SMap.get_put_ne 0 0 h b m

/-- Writing a byte keeps the canonical form. -/
theorem wf_putByte {m : List Host.Cell} (a : Nat) (b : Byte) (h : Memory.wf m = true) : Memory.wf (putByte m a b) = true :=
  SMap.wf_put 0 a b h

/-- Bytes written one after another keep the canonical form. -/
theorem wf_foldl_putByte (f : Nat → Nat) (g : Nat → Byte) (c : Nat → Bool) (l : List Nat) :
    ∀ {m : List Host.Cell}, Memory.wf m = true →
      Memory.wf (l.foldl (fun m i => if c i then putByte m (f i) (g i) else m) m) = true := by
  induction l with
  | nil => exact fun h => h
  | cons i l ih =>
    intro m h
    refine ih ?_
    show Memory.wf (if c i then putByte m (f i) (g i) else m) = true
    split
    · exact wf_putByte _ _ h
    · exact h

/-- Writing a line keeps the canonical form. -/
theorem wf_putLine {m : List Host.Cell} (a : Nat) (d : Line) (mask : BitVec 64) (h : Memory.wf m = true) :
    Memory.wf (putLine m a d mask) = true :=
  wf_foldl_putByte (fun i => a + i) (fun i => d.extractLsb' (i * 8) 8) (fun i => mask.getLsbD i) _ h

/-- Bytes written elsewhere leave a byte alone. -/
theorem get_foldl_putByte (f : Nat → Nat) (g : Nat → Byte) (c : Nat → Bool) (x : Nat) (l : List Nat) (hx : ∀ i ∈ l, x ≠ f i) :
    ∀ m : List Host.Cell, SMap.get (0 : Byte) x (l.foldl (fun m i => if c i then putByte m (f i) (g i) else m) m) = SMap.get 0 x m := by
  induction l with
  | nil => exact fun m => rfl
  | cons i l ih =>
    intro m
    rw [List.foldl_cons, ih (fun j hj => hx j (List.mem_cons_of_mem _ hj))]
    show SMap.get (0 : Byte) x (if c i then putByte m (f i) (g i) else m) = SMap.get 0 x m
    split
    · exact get_putByte_ne m (hx i (by simp)) _
    · rfl

/-- Writing a line leaves every byte outside its 64 bytes alone. -/
theorem get_putLine_ne (m : List Host.Cell) (a x : Nat) (d : Line) (mask : BitVec 64) (h : x < a ∨ a + 64 ≤ x) :
    SMap.get (0 : Byte) x (putLine m a d mask) = SMap.get 0 x m := by
  refine get_foldl_putByte _ _ _ x _ (fun i hi => ?_) m
  have := List.mem_range.1 hi
  show x ≠ a + i
  omega

/-- Marking a line leaves the bytes alone. -/
@[simp] theorem setPoison_mem (s : State) (k l : Nat) (b : Bool) : (s.setPoison k l b).dch.mem = s.dch.mem := rfl

/-- What a haul in flight holds of its sett is noted in the haul table, not in the bytes. -/
@[simp] theorem poisonInHaul_mem (s : State) (k : Nat) : (s.poisonInHaul k).dch.mem = s.dch.mem := rfl

/-- Writing a line of a sett: its bytes are those of `putLine`. -/
theorem writeLine_mem (s : State) (k l : Nat) (d : Line) (mask : BitVec 64) :
    (s.writeLine k l d mask).dch.mem = putLine s.dch.mem (settByte k (l * 64)) d mask := by
  unfold State.writeLine
  split <;> rfl

/-- Writing a line of a sett keeps the canonical form. -/
theorem wf_writeLine {s : State} (k l : Nat) (d : Line) (mask : BitVec 64) (h : Memory.wf s.dch.mem = true) :
    Memory.wf (s.writeLine k l d mask).dch.mem = true := by
  rw [writeLine_mem]
  exact wf_putLine _ _ _ h

/-- Writing the poison pattern keeps the canonical form. -/
theorem wf_writePoison {s : State} (k l : Nat) (h : Memory.wf s.dch.mem = true) :
    Memory.wf (s.writePoison k l).dch.mem = true := by
  unfold State.writePoison
  rw [poisonInHaul_mem, setPoison_mem]
  generalize (0 : Line) = d, fullMask = e
  show Memory.wf (putLine s.dch.mem (settByte k (l * 64)) d e) = true
  exact wf_putLine _ d e h

/-- What is read out of a sett is canonical. -/
theorem wf_settData {s : State} (k : Nat) (h : Memory.wf s.dch.mem = true) : SMap.wf (0 : Byte) (s.settData k) = true :=
  SMap.wf_slice 0 _ _ h

/-- Replacing a sett by canonical contents keeps the canonical form. -/
theorem wf_setSett {s : State} (k : Nat) {d : SMap Byte} (p : BitVec 1024) (hd : SMap.wf (0 : Byte) d = true)
    (h : Memory.wf s.dch.mem = true) : Memory.wf (s.setSett k d p).dch.mem = true := SMap.wf_paste 0 _ _ hd h

/-- Zeroing a sett keeps the canonical form. -/
theorem wf_zeroDram {s : State} (k : Nat) (h : Memory.wf s.dch.mem = true) : Memory.wf (s.zeroDram k).dch.mem = true :=
  wf_setSett k 0 rfl h

/-- Poisoning a sett keeps the canonical form. -/
theorem wf_poisonDram {s : State} (k : Nat) (h : Memory.wf s.dch.mem = true) : Memory.wf (s.poisonDram k).dch.mem = true :=
  wf_setSett k _ rfl h

end Sys2Proof.Machine
end

