-- ==== Sys2Proof/Machine/NandPage.lean ====
section
/-! DEFINITION. What the pages of NAND hold, byte by byte: descriptors, ciphertext and tags, lode stamps, codewords and parity pages, and
the pages of anchors, manifests and the intent journal (R13, R185, R186, R196, R197, R220 to R223, R226, R227). -/

namespace Sys2Proof.Machine

/-! ### Bytes -/

/-- A number as n bytes, least significant first (DEDUCED 125: fields lie in a page as they lie in words). -/
def leBytes (n v : Nat) : List Byte := (List.range n).map (fun i => BitVec.ofNat 8 (v / 256 ^ i))

/-- Zero bytes. -/
def zeroBytes (n : Nat) : List Byte := List.replicate n 0

/-- A byte string cut or filled with zeros to n bytes. -/
def fitBytes (n : Nat) (l : List Byte) : List Byte := (l ++ zeroBytes (n - l.length)).take n

/-- The blocks of sixteen bytes of a byte string. -/
def blocks16 (l : List Byte) : List (BitVec 128) := (List.range ((l.length + 15) / 16)).map (fun i => blockOf ((l.drop (16 * i)).take 16))

/-! ### AES-256-GCM (R185) -/

/-- Ciphertext and tag of a plaintext under a key, a 96-bit IV and additional authenticated data (R185; SP 800-38D). -/
def gcm (key : BitVec 256) (iv aad pt : List Byte) : List Byte × List Byte :=
  let rk := roundKeys key
  let ks (n : Nat) : List Byte := aesRounds rk (bytesOf 16 (gcmBlock (blockOf iv) n))
  let ct := xorBytes pt ((List.range ((pt.length + 15) / 16)).flatMap (fun i => ks (i + 2)))
  let h := blockOf (aesRounds rk (zeroBytes 16))
  let hash := (blocks16 aad ++ blocks16 ct ++ [gcmLengths aad.length ct.length]).foldl (fun y x => ghashMul (y ^^^ x) h) 0
  (ct, xorBytes (bytesOf 16 hash) (ks 1))

/-- The IV of a page: key epoch, then invocation counter (R185). -/
def pageIv (iv : Nat × Nat) : List Byte := leBytes 6 iv.1 ++ leBytes 6 iv.2

/-! ### Descriptors and stamps (R186, R222) -/

/-- The 64 bytes of a page descriptor (R186). -/
def descriptor (typ page key sett seq : Nat) (iv : Nat × Nat) (poison : BitVec 256) : List Byte :=
  leBytes 4 (typ % 256 + page % 4 * 256 + key % 64 * 1024) ++ leBytes 4 (sett % 2 ^ 28) ++ leBytes 4 seq ++ pageIv iv ++
    bytesOf 32 poison ++ zeroBytes 8

/-- Where a page lies in its lode: what the lode stamp says of it (R222). -/
structure StampAt where
  pseq : Nat
  lode : Nat
  group : Nat
  pslc : Bool
  pos : Nat
  stripe : Nat
  deriving DecidableEq, Repr

/-- The sixteen bytes of a lode stamp (R222). -/
def StampAt.bytes (x : StampAt) : List Byte :=
  leBytes 4 x.pseq ++ leBytes 4 (x.lode % 65536 + x.group % 8 * 65536 + x.pslc.toNat * 524288 + x.pos % 16 * 1048576) ++
    leBytes 4 (x.stripe % 65536) ++ zeroBytes 4

/-! ### Pages and codewords (R220, R221, R223) -/

/-- What LDPC protects of a page: its data bytes, and the first 96 spare bytes, which hold descriptor, tag and stamp. -/
structure PageInfo where
  data : List Byte
  spare : List Byte
  deriving DecidableEq, Repr

/-- The 4,120 information bytes of codeword k (R221). -/
def PageInfo.codeword (p : PageInfo) (k : Nat) : List Byte := (p.data.drop (k * 4096)).take 4096 ++ (p.spare.drop (k * 24)).take 24

/-- The 528 parity bytes of a codeword (R221). -/
def ldpcParity (info : List Byte) : List Byte := (List.range 528).map (Config.ldpcByte info)

/-- The bytes of a page as it is programmed: data, descriptor, tag, stamp, parity, and 0xFF to the end of the spare area (R220). -/
def State.pageBytes (s : State) (p : PageInfo) : List Byte :=
  p.data ++ p.spare ++ (List.range 4).flatMap (fun k => ldpcParity (p.codeword k)) ++
    List.replicate (s.sv ⟨secNand, 0, 16, 16⟩ - 2208) 0xff

/-- Zero bits of a page, by which an erased page is recognised before any decoding (R221). -/
def zeroBits (l : List Byte) : Nat := (l.map (fun b => ((List.range 8).filter (fun i => !b.getLsbD i)).length)).sum

/-- Byte-wise exclusive or of pages' information bytes (R13, R223). -/
def PageInfo.xor (a b : PageInfo) : PageInfo := ⟨xorBytes a.data b.data, xorBytes a.spare b.spare⟩

/-- A page of zeros. -/
def PageInfo.zero : PageInfo := ⟨zeroBytes 16384, zeroBytes 96⟩

/-- The information bytes of a parity page (R13, R223). -/
def parityInfo (l : List PageInfo) : PageInfo := l.foldr PageInfo.xor PageInfo.zero

/-- A page rebuilt from the other eight pages of its stripe, stamp included (R223, R240). -/
def rebuildInfo (others : List PageInfo) : PageInfo := parityInfo others

/-- A page: plaintext encrypted under a key with its descriptor as additional authenticated data, then the tag and the stamp (R185,
R220). -/
def sealPage (key : BitVec 256) (iv : Nat × Nat) (desc pt : List Byte) (st : StampAt) : PageInfo :=
  let c := gcm key (pageIv iv) desc pt
  ⟨c.1, desc ++ c.2 ++ st.bytes⟩

/-! ### Sett records and pads (R184 to R187) -/

/-- Plaintext of a page of a record; a poisoned line holds the poison pattern (R187). -/
def Rec.plain (r : Rec) (page : Nat) : List Byte := (List.range 16384).map (fun i => SMap.get 0 (page * 16384 + i) r.data)

/-- The descriptor of a page of a record (R186). -/
def Rec.descriptor (r : Rec) (page : Nat) : List Byte :=
  Machine.descriptor r.typ page r.key r.sett r.seq (r.ivs.getD page (0, 0)) (r.poison.extractLsb' (256 * page) 256)

/-- A page of a record with a stamp. -/
def Rec.page (r : Rec) (page : Nat) (st : StampAt) : PageInfo :=
  sealPage r.keyVal (r.ivs.getD page (0, 0)) (r.descriptor page) (r.plain page) st

/-- The stamp of data position d of a stripe with a PSEQ (R222). -/
def State.stampAt (s : State) (g num : Nat) (sump : Bool) (pseq d : Nat) : StampAt :=
  let q := s.stripeLode g num sump
  { pseq := pseq
    lode := q.1
    group := g
    pslc := sump
    pos := d
    stripe := q.2 }

/-- The nine pages of a stripe with their channels, the eight data pages first and the parity page last (R13, R184, R212, R223). -/
def State.stripePages (s : State) (g num : Nat) (sump : Bool) (a b : Rec) : List (Nat × PageInfo) :=
  let j := (s.stripeLode g num sump).2
  let data := (List.range 8).map (fun d =>
    let r := if d < 4 then a else b
    r.page (d % 4) (s.stampAt g num sump r.pseq d))
  (List.range 9).map (fun d => (s.stripeChan g j d, (data ++ [parityInfo data]).getD d PageInfo.zero))

/-! ### The save's own records (R91, R186, R197) -/

/-- The carve-out sett of a CARVE record, by its place in the carve-outs' order (R91, R186). -/
def carveSett (i : Nat) : Nat := (carveLine (i / 1024) (i % 1024 * 1024)).1

/-- Lines of a page of a CARVE record that were poison when read (R186, R312). -/
def Carve.poisonOf (c : Carve) (i page : Nat) : BitVec 256 :=
  let l := i % 1024 * 1024 + page * 256
  BitVec.ofNat 256 (((List.range 256).filter (fun x => c.lostLine (i / 1024) (l + x))).foldl (fun n x => n + 2 ^ x) 0)

/-- The header of the manifest, record 0 (R197). -/
def Manifest.header (m : Manifest) : List Byte :=
  let word (o : Nat) : List Byte := if o = 0 then leBytes 4 0xffffffff else leBytes 4 (o - 1)
  leBytes 4 0x4d414e49 ++ leBytes 4 1 ++ leBytes 4 m.seq ++ leBytes 4 (m.trig % 16) ++ leBytes 8 (m.tickTrig % 2 ^ 48) ++
    leBytes 8 (m.tickEnd % 2 ^ 48) ++ leBytes 4 (m.dirty % 2 ^ 28) ++ leBytes 4 (m.records % 2 ^ 28) ++ leBytes 4 (m.pads % 2 ^ 28) ++
    leBytes 4 (m.vol % 64) ++ groups.flatMap (fun g => word (SMap.get 0 g m.first) ++ word (SMap.get 0 g m.last)) ++
    groups.flatMap (fun g => leBytes 4 (m.carve.getD g 0)) ++ faces.flatMap (fun f => leBytes 4 (m.fdirty.getD f 0 % 2 ^ 28)) ++ zeroBytes 88

/-- The payload of MANIFEST record i: the header, or the HEAT bytes of channel i − 1's slabs (R197). -/
def Manifest.payload (m : Manifest) (i page : Nat) : List Byte :=
  if i = 0 then fitBytes 16384 (if page = 0 then m.header else [])
  else (List.range 16384).map (fun k => BitVec.ofNat 8 (SMap.get 0 ((i - 1) * 65536 + page * 16384 + k) m.heat))

/-- The sixteen bytes of a record of a poison table (R335). -/
def PoisonRec.bytes (r : PoisonRec) : List Byte := leBytes 8 ((if r.injected then 3 else 1) + r.line * 64) ++ leBytes 4 r.lines ++ leBytes 4 1

/-- The sixteen bytes of an entry of the pending-line list: face, then face DPA (R451). -/
def pendingLine (x : Nat × Nat) : List Byte := leBytes 4 (x.1 % 8) ++ zeroBytes 4 ++ leBytes 8 x.2

/-- Byte o of a table of sixteen-byte entries, if the table reaches it. -/
def tableByte {A : Type} (l : List A) (f : A → List Byte) (o : Nat) : Option Byte := (l[o / 16]?).map (fun x => (f x).getD (o % 16) 0)

/-- Byte o of the rings' share of a channel's carve-out: contexts, then the doorbell array (R376, R378, R390). -/
def RingCopy.byteAt (x : RingCopy) (c o : Nat) : Option Byte :=
  if o < 0xE4000 then
    let r := c + 36 * (o / 128)
    if r < 262144 then some (BitVec.ofNat 8 (x.word r (o % 128 / 4) / 256 ^ (o % 4))) else none
  else
    let r := c + 36 * ((o - 0xE4000) / 4)
    if r < 262144 then
      let q := x.ring r
      some (BitVec.ofNat 8 ((q.sqTail % 65536 + q.cqHead % 65536 * 65536) / 256 ^ (o % 4)))
    else none

/-- A byte of a channel's carve-out as the CARVE records hold it (R91, R108, R117, R335, R376, R378, R390, R451); the places that the
manual does not lay out are Config.carveByte (entry 138). -/
def Carve.byteAt (v : Carve) (c o : Nat) : Byte :=
  let open_ := Config.carveByte v.seq c o
  if o < 0x1000000 then BitVec.ofNat 8 ((SMap.get 0 (c * 4194304 + o / 4) v.lmap).toNat / 256 ^ (o % 4))
  else if o < 0x1100000 then (v.ctx.byteAt c (o - 0x1000000)).getD open_
  else if o < 0x2000000 then open_
  else if o < 0x2100000 then
    if c < 6 then (tableByte (v.poison.getD c []) PoisonRec.bytes (o - 0x2000000)).getD 0 else open_
  else if o < 0x21C0000 then
    let e := SMap.get (SlabE.mk 0 0) (c * 65536 + (o - 0x2100000) / 12) v.image
    let k := (o - 0x2100000) % 12
    if k < 8 then BitVec.ofNat 8 (e.mask.toNat / 256 ^ k) else BitVec.ofNat 8 (e.word.toNat / 256 ^ (k - 8))
  else if c = 0 then (tableByte v.lines pendingLine (o - 0x21C0000)).getD open_
  else open_

/-- The plaintext of a page of a save's own record. -/
def SaveSet.plain (v : SaveSet) (typ i page : Nat) : List Byte :=
  match typ, v.carve, v.manifest with
  | 4, some c, _ => (List.range 16384).map (fun k => c.byteAt (i / 1024) (i % 1024 * 65536 + page * 16384 + k))
  | 5, _, some m => m.payload i page
  | _, _, _ => zeroBytes 16384

/-- The descriptor of a page of the i-th record of a run (R186, R197). -/
def SaveSet.descriptor (v : SaveSet) (r : MetaRun) (i page : Nat) : List Byte :=
  let k := r.first + i
  Machine.descriptor r.typ page r.key (if r.typ = 4 then carveSett k else k) v.seq (r.epoch, r.ctr + 4 * i + page)
    (match v.carve with
      | some c => if r.typ = 4 then c.poisonOf k page else 0
      | none => 0)

/-- A page of the i-th record of a run, at its place (R185, R186, R197, R222). -/
def State.runPage (s : State) (v : SaveSet) (r : MetaRun) (i page : Nat) : PageInfo :=
  let q := s.runPlace r i
  sealPage r.keyVal (r.epoch, r.ctr + 4 * i + page) (v.descriptor r i page) (v.plain r.typ (r.first + i) page)
    (s.stampAt q.1 q.2 true (r.pseqOf i) (i % 2 * 4 + page))

/-! ### Boot band pages (R196, R226, R227) -/

/-- The fields of an anchor page (R196). -/
def Anchor.bytes (a : Anchor) : List Byte :=
  leBytes 4 0x414e4348 ++ leBytes 4 a.seq ++ leBytes 4 (a.phase % 4 + (if a.phase = 1 then 0 else a.trig % 16) * 16) ++
    leBytes 8 (a.tick % 2 ^ 48) ++ zeroBytes 12 ++ groups.flatMap (fun g => leBytes 4 (a.sumpStart.getD g 0)) ++ leBytes 4 (a.vol % 64) ++
    zeroBytes 188

/-- The tag of an anchor page under the device metadata key; its fields are authenticated and lie in plaintext (DESIGN CHOICE 130). -/
def Anchor.tag (a : Anchor) : List Byte := (gcm a.keyVal (pageIv a.iv) a.bytes []).2

/-- The sixteen bytes of a journal record (R227). -/
def JRec.bytes (r : JRec) : List Byte :=
  leBytes 4 (r.typ % 16 + r.group % 8 * 256 + r.channel % 128 * 65536 + r.target % 8 * 16777216) ++
    leBytes 4 (r.num % 65536 + r.slot % 65536 * 65536) ++ leBytes 4 (r.erases % 2 ^ 24) ++ leBytes 4 r.jseq

/-- A journal page: its records, then its own sequence number and a CRC-32 (R226). -/
def JPage.bytes (p : JPage) : List Byte :=
  let l := fitBytes 16376 (p.recs.flatMap JRec.bytes) ++ leBytes 4 p.jseq
  l ++ leBytes 4 (Config.crc32 l).toNat

end Sys2Proof.Machine
end

