-- ==== Sys2Proof/Laws/Pages.lean ====
section
/-! SUPPORT. Exclusive or of pages: the parity page of a stripe gives back each of its pages from the others (R13, R223). -/

namespace Sys2Proof.Machine

theorem xorBytes_comm (a b : List Byte) : xorBytes a b = xorBytes b a := by
  unfold xorBytes
  rw [List.zipWith_comm]
  congr 1
  funext x y
  exact BitVec.xor_comm _ _

theorem xorBytes_assoc (a b c : List Byte) : xorBytes (xorBytes a b) c = xorBytes a (xorBytes b c) := by
  unfold xorBytes
  induction a generalizing b c with
  | nil => rfl
  | cons x xs ih =>
    cases b with
    | nil => rfl
    | cons y ys =>
      cases c with
      | nil => rfl
      | cons z zs => simp only [List.zipWith_cons_cons, BitVec.xor_assoc, ih]

theorem xorBytes_zero (a : List Byte) : xorBytes a (zeroBytes a.length) = a := by
  unfold xorBytes zeroBytes
  induction a with
  | nil => rfl
  | cons x xs ih => simpa [List.replicate_succ] using ih

theorem xorBytes_self (a : List Byte) : xorBytes a a = zeroBytes a.length := by
  unfold xorBytes zeroBytes
  induction a with
  | nil => rfl
  | cons x xs ih => simp [List.replicate_succ]

theorem xorBytes_length (a b : List Byte) : (xorBytes a b).length = min a.length b.length := by simp [xorBytes]

/-- A page as long as a page is (R220). -/
def PageInfo.sized (p : PageInfo) : Prop := p.data.length = 16384 ∧ p.spare.length = 96

theorem PageInfo.xor_comm (a b : PageInfo) : a.xor b = b.xor a := by
  simp [PageInfo.xor, xorBytes_comm a.data, xorBytes_comm a.spare]

theorem PageInfo.xor_assoc (a b c : PageInfo) : (a.xor b).xor c = a.xor (b.xor c) := by
  simp [PageInfo.xor, xorBytes_assoc]

theorem PageInfo.xor_zero (a : PageInfo) (h : a.sized) : a.xor PageInfo.zero = a := by
  obtain ⟨h1, h2⟩ := h
  cases a with
  | mk d p =>
    simp only [PageInfo.xor, PageInfo.zero, PageInfo.mk.injEq]
    exact ⟨by rw [← h1]; exact xorBytes_zero d, by rw [← h2]; exact xorBytes_zero p⟩

theorem PageInfo.xor_self (a : PageInfo) (h : a.sized) : a.xor a = PageInfo.zero := by
  obtain ⟨h1, h2⟩ := h
  simp only [PageInfo.xor, PageInfo.zero, xorBytes_self]
  rw [h1, h2]

theorem PageInfo.zero_sized : PageInfo.zero.sized := ⟨List.length_replicate, List.length_replicate⟩

theorem PageInfo.xor_sized (a b : PageInfo) (ha : a.sized) (hb : b.sized) : (a.xor b).sized := by
  simp [PageInfo.sized, PageInfo.xor, xorBytes_length, ha.1, ha.2, hb.1, hb.2]

theorem parityInfo_sized (l : List PageInfo) (h : ∀ p ∈ l, p.sized) : (parityInfo l).sized := by
  induction l with
  | nil => exact PageInfo.zero_sized
  | cons p l ih => exact PageInfo.xor_sized _ _ (h p (by simp)) (ih (fun q hq => h q (by simp [hq])))

theorem parityInfo_append (l m : List PageInfo) (h : ∀ p ∈ l, p.sized) (hm : ∀ p ∈ m, p.sized) :
    parityInfo (l ++ m) = (parityInfo l).xor (parityInfo m) := by
  induction l with
  | nil =>
    rw [List.nil_append]
    show _ = PageInfo.zero.xor _
    rw [PageInfo.xor_comm, PageInfo.xor_zero _ (parityInfo_sized m hm)]
  | cons p l ih =>
    have := ih (fun q hq => h q (by simp [hq]))
    show p.xor (parityInfo (l ++ m)) = (p.xor (parityInfo l)).xor (parityInfo m)
    rw [this, PageInfo.xor_assoc]

/-- A page is rebuilt from the other pages of its stripe and the parity page, whatever its place (R223, R240). -/
theorem rebuildInfo_gives_page (l m : List PageInfo) (p : PageInfo) (hl : ∀ q ∈ l, q.sized) (hp : p.sized) (hm : ∀ q ∈ m, q.sized) :
    rebuildInfo (l ++ m ++ [parityInfo (l ++ p :: m)]) = p := by
  have hlm : ∀ q ∈ l ++ m, q.sized := fun q hq => (List.mem_append.1 hq).elim (hl q) (hm q)
  have hpm : ∀ q ∈ p :: m, q.sized := fun q hq => (List.mem_cons.1 hq).elim (fun e => e ▸ hp) (hm q)
  have hall : ∀ q ∈ l ++ p :: m, q.sized := fun q hq => (List.mem_append.1 hq).elim (hl q) (hpm q)
  have hpar := parityInfo_sized _ hall
  have key : ∀ a b : PageInfo, a.sized → b.sized → p.sized → (a.xor b).xor (a.xor (p.xor b)) = p := by
    intro a b ha hb hp
    rw [PageInfo.xor_comm a b, PageInfo.xor_assoc b a, ← PageInfo.xor_assoc a a, PageInfo.xor_self a ha, PageInfo.xor_comm PageInfo.zero,
      PageInfo.xor_zero _ (PageInfo.xor_sized _ _ hp hb), PageInfo.xor_comm p b, ← PageInfo.xor_assoc, PageInfo.xor_self b hb,
      PageInfo.xor_comm, PageInfo.xor_zero p hp]
  unfold rebuildInfo
  rw [parityInfo_append _ _ hlm (by simpa using hpar), parityInfo_append l m hl hm]
  show _ = p
  have e : parityInfo [parityInfo (l ++ p :: m)] = parityInfo (l ++ p :: m) := PageInfo.xor_zero _ hpar
  rw [e, parityInfo_append l (p :: m) hl hpm]
  exact key _ _ (parityInfo_sized l hl) (parityInfo_sized m hm) hp

end Sys2Proof.Machine
end

