-- ==== Sys2Proof/Tests/Slice0.lean ====
section
/-! SUPPORT. The model's own tests: ill-formed commands, published vectors of the ciphers, single steps with the result that the manual
gives, and for every statement states and operands that meet its conditions. -/

open Sys2Proof Sys2Proof.Machine

set_option maxRecDepth 20000
set_option linter.unusedVariables false
set_option Elab.async false

/-! ### Well-formedness -/

/-- An ill-formed command for each check of `Instr.wf`; the check refuses it. -/
theorem test_wf_refuses : ([
    .registerWrite .foreman (2 ^ 32) 4 0, .registerWrite .foreman 0 3 0, .deniedHostAccess 6 0 false 4 0,
    .coldReset 4 0 false, .coldReset 0 4 false, .memRd 0 65536 0 0 .none, .memRd 0 0 (2 ^ 52) 0 .none,
    .memRd 0 0 0 (2 ^ 20) .none, .cxlReset 6, .linkTrained 0 4 0, .linkTrained 0 0 3, .ideIntegrityFailure 0 65536,
    .getEventRecords 0 4, .getFwInfo 6, .transferFw 0 8 0 0 [] false false, .transferFw 0 0 256 0 [] false false,
    .transferFw 0 0 0 (2 ^ 24) [] false false, .setTimestamp 0 (2 ^ 64), .getLog 0 (2 ^ 128) 0 0,
    .getLog 0 0 0 (2 ^ 24), .getFeature 0 (2 ^ 128), .mailboxUnsupported 0 65536, .setAlertConfiguration 0 101 0 0,
    .setAlertConfiguration 0 0 65536 0, .setAlertConfiguration 0 0 0 65536, .setShutdownState 0 256 false false,
    .getPoisonList 0 0 (2 ^ 46), .addDcResponse 0 65536 false, .releaseDc 0 0 65536, .requestPackRemoval 0 2,
    .readCoreLog 0 (2 ^ 32) 0, .readCoreLog 0 0 256, .resetRankState 0 36 0 false false,
    .resetRankState 0 0 4 false false, .configureRingEnable 0 262144 0 0 0 0 0, .configureRingEnable 0 0 17 0 0 0 0,
    .configureRingEnable 0 0 0 2048 0 0 0, .configureRingEnable 0 0 0 0 65536 0 0,
    .configureRingEnable 0 0 0 0 0 (2 ^ 52) 0, .configureRingEnable 0 0 0 0 0 0 (2 ^ 52), .releaseTransformKey 0 64,
    .initiateDynamicCapacityAdd 0 65536 none, .sqTailDoorbell 0 0 (2 ^ 32) false, .jobCopy 0 [] (2 ^ 20) [],
    .checkpointPassEnd 0 (2 ^ 32), .slbSnapshot (2 ^ 22) .none, .sensorRead 5 0 none, .sensorRead 3 32 none,
    .haulSelect [] 3, .haulDramReadDone 150994944 [], .cipherPageDone 0 12 false, .stripeProgramFail 0 72,
    .wordlinePadTimeout 8, .fetchSettWritten 2359296 .ok false, .deviceRetrain 0 0 64 [],
    .repairPageReady 0 1024 .ok 0, .nchApply 72, .dieNoAnswerTimeout 0 8, .nandPatrolRead 0 0 0 65536,
    .galleryLinkTrained 2 0 0, .heartbeat 0 8 0 0 0 0, .heartbeat 0 0 4 0 0 0, .heartbeat 0 0 0 0 (2 ^ 32) 0,
    .heartbeat 0 0 0 0 0 (2 ^ 16), .galleryFence 256, .recoverReq 0 0 0 (2 ^ 52) [], .rslvData 0 0 0 64 [],
    .seqPulse 16, .dischargeTimeout 32, .pllLockLoss 18, .islandRequest 132 false, .windowRollover 9, .fltInject 704,
    .fwmStageOpen 2 false false, .tw0UnknownCommand 256, .twbGo 8, .busStuckRecovery 0 256 false,
    .twAlertInput 0 (some 128), .railset (2 ^ 32), .seamRetryExhausted 4, .foremanException 4, .rowIdleClose 0 0 32] : List Instr).all (fun i => !i.wf) = true := by decide

/-- The same commands with the operand in its range. -/
theorem test_wf_accepts : ([
    .registerWrite .foreman 0 4 0, .deniedHostAccess 0 0 false 4 0, .coldReset 0 0 false, .memRd 0 0 0 0 .none,
    .cxlReset 0, .linkTrained 0 0 0, .ideIntegrityFailure 0 0, .getEventRecords 0 0, .getFwInfo 0,
    .transferFw 0 0 0 0 [] false false, .setTimestamp 0 0, .getLog 0 0 0 0, .getFeature 0 0, .mailboxUnsupported 0 0,
    .setAlertConfiguration 0 0 0 0, .setShutdownState 0 0 false false, .getPoisonList 0 0 0, .addDcResponse 0 0 false,
    .releaseDc 0 0 0, .requestPackRemoval 0 0, .readCoreLog 0 0 0, .resetRankState 0 0 0 false false,
    .configureRingEnable 0 0 0 0 0 0 0, .releaseTransformKey 0 0, .initiateDynamicCapacityAdd 0 0 none,
    .sqTailDoorbell 0 0 0 false, .jobCopy 0 [] 0 [], .checkpointPassEnd 0 0, .slbSnapshot 0 .none,
    .sensorRead 3 0 none, .haulSelect [] 0, .haulDramReadDone 0 [], .cipherPageDone 0 0 false, .stripeProgramFail 0 0,
    .wordlinePadTimeout 0, .fetchSettWritten 0 .ok false, .deviceRetrain 0 0 0 [], .repairPageReady 0 0 .ok 0,
    .nchApply 0, .dieNoAnswerTimeout 0 0, .nandPatrolRead 0 0 0 0, .galleryLinkTrained 0 0 0, .heartbeat 0 0 0 0 0 0,
    .galleryFence 0, .recoverReq 0 0 0 0 [], .rslvData 0 0 0 0 [], .seqPulse 0, .dischargeTimeout 0, .pllLockLoss 0,
    .islandRequest 0 false, .windowRollover 0, .fltInject 0, .fwmStageOpen 0 false false, .tw0UnknownCommand 0,
    .twbGo 0, .busStuckRecovery 0 0 false, .twAlertInput 0 none, .railset 0, .seamRetryExhausted 0,
    .foremanException 0, .rowIdleClose 0 0 0] : List Instr).all (fun i => i.wf) = true := by decide

/-! ### Published vectors of the ciphers -/

/-- The bytes of a number written in hexadecimal, first byte first. -/
def hexBytes (n h : Nat) : List Byte := (List.range n).map (fun i => BitVec.ofNat 8 (h / 256 ^ (n - 1 - i)))

/-- A key written in hexadecimal. -/
def hexKey (h : Nat) : BitVec 256 := BitVec.ofNat 256 ((hexBytes 32 h).foldr (fun b n => b.toNat + 256 * n) 0)

/-- FIPS 197, appendix C.3. -/
theorem test_aes : beNat (aesEnc (hexKey 0x000102030405060708090a0b0c0d0e0f101112131415161718191a1b1c1d1e1f)
    (beBlock 0x00112233445566778899aabbccddeeff)) = 0x8ea2b7ca516745bfeafc49904b496089 := by decide +kernel

/-- The same vector the other way. -/
theorem test_aes_inverse : beNat (aesDec (hexKey 0x000102030405060708090a0b0c0d0e0f101112131415161718191a1b1c1d1e1f)
    (beBlock 0x8ea2b7ca516745bfeafc49904b496089)) = 0x00112233445566778899aabbccddeeff := by decide +kernel

/-- SP 800-38B, AES-256, a message of 16 bytes. -/
theorem test_cmac : beNat (cmac (hexKey 0x603deb1015ca71be2b73aef0857d77811f352c073b6108d72d9810a30914dff4)
    (hexBytes 16 0x6bc1bee22e409f96e93d7e117393172a)) = 0x28a7023f452e8f82bd4bf28d8c37c35c := by decide +kernel

/-- SP 800-38B, AES-256, a message of 40 bytes, the last block short. -/
theorem test_cmac_short_block : beNat (cmac (hexKey 0x603deb1015ca71be2b73aef0857d77811f352c073b6108d72d9810a30914dff4)
    (hexBytes 40 0x6bc1bee22e409f96e93d7e117393172aae2d8a571e03ac9c9eb76fac45af8e5130c81c46a35ce411)) =
      0xaaf3d8f1de5640c232f5b169b9c911e6 := by decide +kernel

/-- GCM test case 14: a key, an IV and a block of zeros. -/
theorem test_gcm : gcm 0 (zeroBytes 12) [] (zeroBytes 16) =
    (hexBytes 16 0xcea7403d4d606b6e074ec5d3baf39d18, hexBytes 16 0xd0d1c8a799996bf0265b98b5d48ab919) := by decide +kernel

/-! ### The DRAM codeword (R282, R283) -/

/-- A line as it is stored: its check symbols take every syndrome to 0. -/
def word0 : List Nat := lineCodeword 0x123456789abcdef0 false

theorem test_codeword_checks : rsSyndromes word0 = List.replicate 16 0 := by decide +kernel

/-- One symbol wrong: the device it belongs to is found and the line comes back. -/
theorem test_codeword_corrects : rsDecode (word0.set 17 5) = .corrected 2 word0 := by decide +kernel

/-- Symbols of two devices wrong: uncorrectable. -/
theorem test_codeword_uncorrectable : rsDecode ((word0.set 17 5).set 2 9) = .uncorrectable := by decide +kernel

/-- A line stored as poison reads as poison. -/
theorem test_codeword_poison : rsDecode (lineCodeword 0 true) = .poison := by decide +kernel

/-! ### A small running part: the words of a Survey image that the conditions of the statements ask for -/

/-- PROFILE, INTERLEAVE, FACES, RINGS, NAND, BANDS, BENCHES and LEDGER words of a small image, by section and offset. -/
def run0 : SMap Word := [
  (0x1000000, 1552), (0x1000004, 15), (0x1100000, 4), (0x1100004, 50462976), (0x1200000, 1), (0x1200004, 524288), (0x1200008, 8), (0x1200010, 257),
  (0x1200014, 524296), (0x1200018, 8), (0x1400000, 33152), (0x2000000, 144719872), (0x2000004, 67373056), (0x2000008, 65536072), (0x2000010, 1), (0x2000018, 1), (0x2000020, 1), (0x2000028, 1), (0x2000030, 1), (0x2000038, 1), (0x2000040, 1), (0x2000048, 1), (0x2000050, 1),
  (0x2100000, 196624), (0x2100004, 262192), (0x2100008, 262152), (0x2100010, 196624), (0x2100014, 262192), (0x2100018, 262152)] ++ [
  (0x2200000, 3), (0x3000000, 205826), (0x3000004, 6586368), (0x3000008, 209740847), (0x300000C, 1048579), (0x3000010, 100), (0x3000028, 15), (0x300002C, 276),
  (0x30000A0, 33620287), (0x30000A4, 33620287), (0x3000120, 16), (0x4000000, 1), (0x4000004, 6500), (0x4000008, 6500), (0x400000C, 180000),
  (0x4000010, 1600000), (0x4000014, 52429), (0x4000018, 4166182502), (0x400001C, 42981786), (0x4000020, 3006464246), (0x4000024, 2660762)]

/-- An open part with the image loaded, its firmware running, and face 0 linked up. -/
def open0 : State :=
  let s : State := { State.reset with
    chip := .opened
    tick := 100000
    svy := { State.reset.svy with has := [0x10, 0x11, 0x12, 0x14, 0x20, 0x21, 0x22, 0x30, 0x40], run := run0, shadow := true, loaded := true }
    slb := { State.reset.slb with ready := true, owned := true }
    nv := [(0, { NvFace.fresh with feat := 127 })]
    fwm := { State.reset.fwm with running := true } }
  s |>.wr (HPT_STATUS.LINK_UP 0) 1 |>.wr (HPT_STATUS.OPEN 0) 1 |>.wr (HPT_CFG.MGMT 0) 1 |>.wr (HPT_CFG.ENABLE 0) 1 |>.wr (CIP_SLST.STATE 0) slActive

/-- The state with a word of its Survey image replaced. -/
def withRun (s : State) (k : Nat) (w : Word) : State := { s with svy := { s.svy with run := SMap.put 0 k w s.svy.run } }

/-- A field of a DRAM channel's settings, written and in force. -/
def inForce0 (s : State) (f : Fld) (v : Nat) : State :=
  let t := s.wr f v
  { t with dch := { t.dch with inForce := SMap.put (regReset f.addr) f.addr (t.word f.addr) t.dch.inForce } }


/-- A small firmware image with its tag under the key 0. -/
def fwWit : SMap Word := [(0, 1179473746), (4, 13938), (8, 16777216), (12, 96), (16, 64), (80, 4067126949), (84, 1454669174),
  (88, 3204372938), (92, 3322990302)]

/-! ### Single steps and the manual's worked examples -/

/-- What a next state shows; a fault or a refusal shows nothing. -/
def after (o : Host.Outcome State Fault Refusal) (p : State → Bool) : Bool :=
  match o with
  | .next t => p t
  | _ => false

/-- A step on the empty queue of the reset state is a tick (R489). -/
theorem test_idle_ticks : after (step State.reset) (fun t => t.tick == 1 && t.pending.isEmpty) = true := by decide +kernel

/-- A step takes the front command and leaves the rest. -/
theorem test_front_first : after (step { State.reset with pending := [.savePark, .saveOff] }) (fun t => t.pending == [.saveOff]) = true := by
  decide +kernel

/-- The example under R134: two reference packs give E_use 10,400 J and N_E 48,888,888; one gives 5,200 J and 20,000,000. -/
theorem test_energy_example : (open0.energySetts (13000 * open0.sv LEDGER.DERATE / 65536) = 48888888 ∧
    13000 * open0.sv LEDGER.DERATE / 65536 = 10400) ∧ open0.energySetts (6500 * open0.sv LEDGER.DERATE / 65536) = 20000000 := by
  decide +kernel

/-- The Ochre interleave of the example under R67: 36 ways, channels in order, 256-byte units, F1's static range from block 6,143. -/
def ochre : State :=
  let w : SMap Word := [(0x1100000, 36), (0x1100004, 0x03020100), (0x1100008, 0x07060504), (0x110000C, 0x0b0a0908), (0x1100010, 0x0f0e0d0c),
    (0x1100014, 0x13121110), (0x1100018, 0x17161514), (0x110001C, 0x1b1a1918), (0x1100020, 0x1f1e1d1c), (0x1100024, 0x23222120),
    (0x1200010, 257), (0x1200014, 6143 + 65536 * 100)]
  { State.reset with svy := { State.reset.svy with has := [0x11, 0x12], run := w, loaded := true, shadow := true } }

/-- Face DPA 0x0001_2345_6780 of F1 is line 86 of sett 147,501,645 (R67). -/
theorem test_map_example : ochre.mapLine 1 0x123456780 = some (147501645, 86) := by decide +kernel

/-- The example under R177: an error of 200,000 gives a quota of 381 + 195 = 576. -/
def burst : State :=
  { State.reset with margin := .pearl } |>.wr ADM_DIRTY.SETTS 41755853 |>.wr LGR_TH.SETTS 41555853 |>.wr HAUL_PI_KP.KP 125
    |>.wr HAUL_PI_KI.KI 4 |>.wr HAUL_PI_INT.INT (195 * 65536) |>.wr HAUL_RATE_MAX.SETTS 762

theorem test_quota_example : burst.rateStep.rd HAUL_RATE.QUOTA = 576 ∧ burst.rateStep.rdInt HAUL_ERR.ERR = 200000 := by decide +kernel

/-- A haul and a buffered write to take the fields that a condition does not name from. -/
def haul0 : Haul := ⟨0, false, false, 0, 0, 0, 0, [], 0, 0, 0, [], 0, false, 0⟩
def wEnt0 : WEnt :=
  { tag := 0, dpa := 0, sett := 0, line := 0, data := 0, mask := 0, poison := false, wait := .admitted, done := false, fresh := false,
    since := 0, seq := 0, devs := 0 }

/-- An admitted write that is drained stands in its line, little end first (R87, R155). -/
theorem test_drain_writes : after (exec (.dataWrittenToDram 0 7) (open0.setPort 0
    { open0.port 0 with wbuf := [{ wEnt0 with tag := 7, dpa := 64, line := 1, data := 0xABCD, mask := fullMask, done := true }] }))
    (fun t => t.lineAt 0 1 == 0xABCD && t.byte (settByte 0 64) == 0xCD && t.byte (settByte 0 65) == 0xAB && (t.port 0).wbuf.isEmpty) = true := by
  decide +kernel

/-- A read beyond the face's capacity answers poison (R321). -/
theorem test_read_beyond : after (exec (.memRd 0 3 (2 ^ 40) 0 .none) open0) (fun t => t.out.contains (.poisoned 0 3)) = true := by
  decide +kernel

/-- A VERIFY with nothing staged reads VERIFYING, and after a tick MAGIC (R78, R81, R627). -/
theorem test_verify_begins : after (exec .svyVerify open0) (fun t => t.rd SVY_STATUS.STATE == 1) = true := by decide +kernel

theorem test_verify_ends : after (step { open0.svyBegin 1 with pending := [] })
    (fun t => t.rd SVY_STATUS.STATE == 0 && t.rd SVY_STATUS.RESULT == svyMagic) = true := by decide +kernel


/-! ### A Survey image that passes every check -/

/-- The words of a Survey image before its tag: 3,296 bytes. -/
def svyBase : SMap Word := [
  (0, 1398167881), (4, 4194560), (8, 3312), (12, 10), (16, 1), (20, 13938), (64, 65552), (68, 16), (80, 1552),
  (84, 15), (96, 65553), (100, 48), (112, 4), (116, 50462976), (120, 4294967295), (124, 4294967295),
  (128, 4294967295), (132, 4294967295), (136, 4294967295), (140, 4294967295), (144, 4294967295), (148, 4294967295),
  (160, 65554), (164, 96), (176, 1), (180, 524288), (184, 8), (192, 257), (196, 524296), (200, 8), (208, 512),
  (212, 524304), (216, 8), (224, 768), (228, 524312), (232, 8), (240, 1024), (244, 524320), (248, 8), (256, 1280),
  (260, 524328), (264, 8), (272, 65556), (276, 256), (288, 33152), (544, 65568), (548, 592), (560, 144719872),
  (564, 67373056), (568, 65536072), (576, 1), (584, 1), (592, 1), (600, 1), (608, 1), (616, 1), (624, 1), (632, 1),
  (640, 1), (648, 1)] ++ [
  (656, 1), (664, 1), (672, 1), (680, 1), (688, 1), (696, 1), (704, 1), (712, 1), (720, 1), (728, 1), (736, 1),
  (744, 1), (752, 1), (760, 1), (768, 1), (776, 1), (784, 1), (792, 1), (800, 1), (808, 1), (816, 1), (824, 1),
  (832, 1), (840, 1), (848, 1), (856, 1), (864, 1), (872, 1), (880, 1), (888, 1), (896, 1), (904, 1), (912, 1),
  (920, 1), (928, 1), (936, 1), (944, 1), (952, 1), (960, 1), (968, 1), (976, 1), (984, 1), (992, 1), (1000, 1),
  (1008, 1), (1016, 1), (1024, 1), (1032, 1), (1040, 1), (1048, 1), (1056, 1), (1064, 1), (1072, 1), (1080, 1),
  (1088, 1), (1096, 1), (1104, 1), (1112, 1), (1120, 1), (1128, 1)] ++ [
  (1136, 1), (1144, 1), (1152, 65569), (1156, 128), (1168, 196624), (1172, 262192), (1176, 262152), (1184, 196624),
  (1188, 262192), (1192, 262152), (1200, 196624), (1204, 262192), (1208, 262152), (1216, 196624), (1220, 262192),
  (1224, 262152), (1232, 196624), (1236, 262192), (1240, 262152), (1248, 196624), (1252, 262192), (1256, 262152),
  (1264, 196624), (1268, 262192), (1272, 262152), (1280, 196624), (1284, 262192), (1288, 262152), (1296, 65584),
  (1300, 416), (1312, 205826), (1316, 6586368), (1320, 209740847), (1324, 1048579), (1328, 100), (1352, 15),
  (1356, 276), (1360, 48), (1364, 276), (1472, 33620287), (1476, 33620287), (1480, 33620287), (1484, 33620287),
  (1488, 33620287), (1492, 33620287), (1728, 65585), (1732, 64), (1808, 16842816), (1812, 48), (1824, 1),
  (1828, 6500), (1832, 6500), (1836, 180000), (1840, 1600000), (1844, 52429), (1848, 4166182502), (1852, 42981786),
  (1856, 3006464246), (1860, 2660762), (1872, 65616)] ++ [
  (1876, 1408)]

/-- The tag of the image under the key of the part, as words. -/
def svyTagOf (c : BitVec 128) : SMap Word :=
  (List.range 4).map (fun i => (3296 + 4 * i, BitVec.ofNat 32 (c.toNat / 2 ^ (32 * i))))

/-- The image with its tag. -/
def svyWit : SMap Word := svyBase ++ svyTagOf (cmac open0.fuse.provKey (imgBytes svyBase 0 3296))

/-- A key that the second of two joined maps lacks reads in the first. -/
theorem get_append_left (k : Nat) (b : SMap Word) (h : ∀ p ∈ b, p.1 ≠ k) :
    ∀ a : SMap Word, SMap.get 0 k (a ++ b) = SMap.get 0 k a
  | [] => by
    induction b with
    | nil => rfl
    | cons p b ih =>
      simp only [List.nil_append] at ih ⊢
      have := ih (fun q hq => h q (by simp [hq]))
      simp only [SMap.get, if_neg (h p (by simp))]
      exact this
  | p :: a => by
    simp only [List.cons_append, SMap.get, get_append_left k b h a]

/-- A key that the first lacks reads in the second. -/
theorem get_append_right (k : Nat) (b : SMap Word) : ∀ a : SMap Word, (∀ p ∈ a, p.1 ≠ k) → SMap.get 0 k (a ++ b) = SMap.get 0 k b
  | [], _ => rfl
  | p :: a, h => by
    simp only [List.cons_append, SMap.get, if_neg (h p (by simp)), get_append_right k b a (fun q hq => h q (by simp [hq]))]

theorem svyTagOf_keys (c : BitVec 128) : ∀ p ∈ svyTagOf c, 3296 ≤ p.1 := by
  intro p hp
  obtain ⟨i, -, rfl⟩ := List.mem_map.1 hp
  exact Nat.le_add_right ..

theorem svyBase_keys : ∀ p ∈ svyBase, p.1 < 3296 := by decide +kernel

/-- Below the tag the image's bytes are those of the base, whatever the tag. -/
theorem svyBytes_base (c : BitVec 128) : imgBytes (svyBase ++ svyTagOf c) 0 3296 = imgBytes svyBase 0 3296 := by
  refine List.map_congr_left (fun i hi => ?_)
  have := List.mem_range.1 hi
  rw [imgWord, imgWord, get_append_left]
  intro p hp
  have := svyTagOf_keys c p hp
  omega

/-- The four words of the tag read as the tag. -/
theorem svyTag_reads (c : BitVec 128) : imgTag (svyBase ++ svyTagOf c) 3296 = c := by
  have w (i : Nat) (hi : i < 4) : imgWord (svyBase ++ svyTagOf c) (3296 + 4 * i) = c.toNat / 2 ^ (32 * i) % 2 ^ 32 := by
    rw [imgWord, get_append_right]
    · interval_cases i <;> simp [svyTagOf, List.range_succ, SMap.get]
    · intro p hp
      have := svyBase_keys p hp
      omega
  apply BitVec.eq_of_toNat_eq
  have h := c.isLt
  have h0 := w 0 (by decide)
  have h1 := w 1 (by decide)
  have h2 := w 2 (by decide)
  have h3 := w 3 (by decide)
  simp only [imgTag, BitVec.toNat_ofNat]
  simp only [Nat.mul_zero, Nat.add_zero, Nat.mul_one, Nat.reduceMul, Nat.reduceAdd] at h0 h1 h2 h3
  rw [h0, h1, h2, h3]
  omega

/-- A Survey check at its end: the image passes, and the install is to erase the copy that was not booted. -/
def installing : State :=
  { (open0.wr SVY_STATUS.STATE 1) with svy := { open0.svy with taken := svyWit, cmd := 2, live := false } }

theorem installing_tag : installing.tagOk svyWit (imgLen svyWit) = true := by
  have hl : imgLen svyWit = 3312 := by decide +kernel
  have hp : installing.provOk = true := by decide +kernel
  have hk : installing.fuse.provKey = open0.fuse.provKey := rfl
  rw [hl, State.tagOk, hp, hk]
  show (true && cmac open0.fuse.provKey (imgBytes svyWit 0 3296) == imgTag svyWit 3296) = true
  rw [svyWit, svyBytes_base, svyTag_reads]
  simp

theorem test_image_passes : installing.svyCheck installing.svy.taken = svyOk := by
  show installing.svyCheck svyWit = svyOk
  unfold State.svyCheck
  rw [if_neg (by decide +kernel), if_neg (by decide +kernel), if_neg (by decide +kernel), if_neg (by decide +kernel), installing_tag,
    if_neg (by decide), if_neg (by decide +kernel), if_neg (by decide +kernel), if_neg (by decide +kernel)]

theorem test_image_may_install : installing.mayInstall installing.svy.live = svyOk := by
  unfold State.mayInstall
  simp only [test_image_passes]
  rw [if_neg (by decide), if_neg (by decide +kernel), if_neg (by decide)]

/-! ### Every clause of every statement has states and operands that meet its conditions -/

/-- Clauses of SequencerRequests have states and operands that meet their conditions. -/
theorem test_conditions_SequencerRequests_1 :
    (∃ (bmc : Bool) (s : State), s.chip ≠ .off ∧ s.chip = .bedrock ∧ (bmc = true ∨ s.hubOn = true) ∧ s.seqPhase = phaseIdle ∧ s.seq.timed = false ∧ s.seq.minOff = true ∧ s.benchTable = true) ∧
    (∃ (bmc : Bool) (s : State), s.chip ≠ .off ∧ s.chip = .bedrock ∧ (bmc = true ∨ s.hubOn = true) ∧ s.seqPhase = phaseIdle ∧ s.seq.timed = false ∧ s.seq.minOff = false) ∧
    (∃ (bmc : Bool) (s : State), s.chip ≠ .off ∧ s.chip = .save ∧ (bmc = true ∨ s.hubOn = true) ∧ s.rd HAUL_SAVE_STAT.STEP ≠ 9) := by
  refine ⟨?_, ?_, ?_⟩
  · exact ⟨true, (let s : State := open0; let s : State := { s with chip := .bedrock }; let s : State := s.wr SEQ_STATUS.PHASE phaseIdle; let s : State := { s with seq := { s.seq with timed := false } }; let s : State := { s with seq := { s.seq with minOff := true } }; s), by decide +kernel⟩
  · exact ⟨true, (let s : State := open0; let s : State := { s with chip := .bedrock }; let s : State := s.wr SEQ_STATUS.PHASE phaseIdle; let s : State := { s with seq := { s.seq with timed := false } }; let s : State := { s with seq := { s.seq with minOff := false } }; s), by decide +kernel⟩
  · exact ⟨true, (let s : State := open0; let s : State := { s with chip := .save }; s), by decide +kernel⟩

/-- Clauses of SequencerRequests have states and operands that meet their conditions. -/
theorem test_conditions_SequencerRequests_2 :
    (∃ (bmc : Bool) (s : State), s.chip ≠ .off ∧ s.chip = .bedrock ∧ (bmc = true ∨ s.hubOn = true)) ∧
    (∃ (bmc : Bool) (s : State), s.chip ≠ .off ∧ (bmc = true ∨ s.hubOn = true)) ∧
    (∃ (s : State), s.chip ≠ .off ∧ s.chip = .save ∧ s.seq.timed = true ∧ s.seq.timedTick + msTicks (s.rd SEQ_OFFDLY.MS) ≤ s.tick ∧ s.rd HAUL_SAVE_STAT.STEP ≠ 9) := by
  refine ⟨?_, ?_, ?_⟩
  · exact ⟨true, (let s : State := open0; let s : State := { s with chip := .bedrock }; s), by decide +kernel⟩
  · exact ⟨true, (open0), by decide +kernel⟩
  · exact ⟨(let s : State := open0; let s : State := { s with chip := .save }; let s : State := { s with seq := { s.seq with timed := true } }; s), by decide +kernel⟩

/-- Clauses of SequencerRequests have states and operands that meet their conditions. -/
theorem test_conditions_SequencerRequests_3 :
    (∃ (bmc : Bool) (s : State), s.chip ≠ .off ∧ s.chip = .bedrock ∧ (bmc = true ∨ s.hubOn = true) ∧ s.seq.stage = .idle) ∧
    (∃ (pin : Nat) (s : State), s.chip ≠ .off ∧ s.benchTable = true ∧ pin < 16 ∧ s.svOn (BENCHES.RST_EN pin) = true ∧ s.sv (BENCHES.RST_BENCH pin) ≤ s.rd SEQ_STATUS.LEVEL ∧ s.latchedOrLatching = false) ∧
    (∃ (pin : Nat) (s : State), s.chip ≠ .off ∧ pin < 16 ∧ bitAt pin s.seq.pulse = true ∧ bitAt pin s.seq.stretch = false) := by
  refine ⟨?_, ?_, ?_⟩
  · exact ⟨true, (let s : State := open0; let s : State := { s with chip := .bedrock }; let s : State := { s with seq := { s.seq with stage := .idle } }; s), by decide +kernel⟩
  · exact ⟨0, (open0), by decide +kernel⟩
  · exact ⟨0, (let s : State := open0; let s : State := { s with seq := { s.seq with pulse := 1 } }; s), by decide +kernel⟩

/-- Clauses of SequencerRequests have states and operands that meet their conditions. -/
theorem test_conditions_SequencerRequests_4 :
    (∃ (s : State), s.chip ≠ .off ∧ s.chip = .bedrock ∧ s.seq.minOff = false ∧ s.seq.offTick + msTicks s.minOffMs ≤ s.tick + 1 ∧ s.on SEQ_STATUS.ON_PEND = false) ∧
    (∃ (s : State), s.chip ≠ .off ∧ s.chip = .bedrock ∧ s.seq.minOff = false ∧ s.seq.offTick + msTicks s.minOffMs ≤ s.tick + 1 ∧ s.on SEQ_STATUS.ON_PEND = true ∧ s.seqPhase = phaseIdle ∧ s.benchTable = true) := by
  refine ⟨?_, ?_⟩
  · exact ⟨(let s : State := open0; let s : State := { s with chip := .bedrock }; let s : State := { s with seq := { s.seq with minOff := false } }; let s : State := s.wr SEQ_STATUS.ON_PEND 0; s), by decide +kernel⟩
  · exact ⟨(let s : State := open0; let s : State := { s with chip := .bedrock }; let s : State := { s with seq := { s.seq with minOff := false } }; let s : State := s.wr SEQ_STATUS.ON_PEND 1; let s : State := s.wr SEQ_STATUS.PHASE phaseIdle; s), by decide +kernel⟩

/-- Clauses of BenchSequence have states and operands that meet their conditions. -/
theorem test_conditions_BenchSequence_1 :
    (∃ (b : Nat) (s : State), s.chip ≠ .off ∧ s.seq.stage = .ready b) ∧
    (∃ (b : Nat) (s : State), s.chip ≠ .off ∧ s.seq.stage = .delaying b ∧ b < s.sv BENCHES.TOP) ∧
    (∃ (b : Nat) (s : State), s.chip ≠ .off ∧ s.seq.stage = .delaying b ∧ s.sv BENCHES.TOP ≤ b) := by
  refine ⟨?_, ?_, ?_⟩
  · exact ⟨1, (let s : State := open0; let s : State := { s with seq := { s.seq with stage := .ready 1 } }; s), by decide +kernel⟩
  · exact ⟨1, (let s : State := open0; let s : State := { s with seq := { s.seq with stage := .delaying 1 } }; s), by decide +kernel⟩
  · exact ⟨15, (let s : State := open0; let s : State := { s with seq := { s.seq with stage := .delaying 15 } }; s), by decide +kernel⟩

/-- Clauses of BenchSequence have states and operands that meet their conditions. -/
theorem test_conditions_BenchSequence_2 :
    (∃ (pin : Nat) (s : State), s.chip ≠ .off ∧ pin < 16 ∧ bitAt pin s.seq.stretch = true ∧ bitAt pin s.seq.pulse = false) ∧
    (∃ (b : Nat) (n : Nat) (s : State), s.chip ≠ .off ∧ s.seq.stage = .qualifying b ∧ b ≠ 0 ∧ n ∈ s.benchRails b ∧ bitAt n (s.rd SEQ_GOOD.RAILS) = false) ∧
    (∃ (b : Nat) (s : State), s.chip ≠ .off ∧ s.seq.stage = .down b ∧ s.railsDown b ≠ []) := by
  refine ⟨?_, ?_, ?_⟩
  · exact ⟨0, (let s : State := open0; let s : State := { s with seq := { s.seq with stretch := 1 } }; s), by decide +kernel⟩
  · exact ⟨1, 0, (let s : State := open0; let s : State := { s with seq := { s.seq with stage := .qualifying 1 } }; s), by decide +kernel⟩
  · exact ⟨1, (let s : State := open0; let s : State := { s with seq := { s.seq with stage := .down 1, order := s.benchRails 1 } }; s), by decide +kernel⟩

/-- Clauses of BenchSequence have states and operands that meet their conditions. -/
theorem test_conditions_BenchSequence_3 :
    (∃ (rail : Nat) (b : Nat) (l : List Nat) (s : State), s.chip ≠ .off ∧ s.seq.stage = .discharging b l ∧ rail ∈ l ∧ rail < 32 ∧ l.filter (fun n => !(n == rail)) ≠ []) ∧
    (∃ (b : Nat) (s : State), s.chip ≠ .off ∧ s.seq.stage = .dnWait b) ∧
    (∃ (b : Nat) (s : State), s.chip ≠ .off ∧ s.seq.stage = .syncing b ∧ s.on SEQ_STATUS.SYNC_LINE = false ∧ s.sv (BENCHES.SYNC b) ≠ 1) := by
  refine ⟨?_, ?_, ?_⟩
  · exact ⟨1, 1, [1, 2], (let s : State := open0; let s : State := { s with seq := { s.seq with stage := .discharging 1 [1, 2] } }; s), by decide +kernel⟩
  · exact ⟨1, (let s : State := open0; let s : State := { s with seq := { s.seq with stage := .dnWait 1 } }; s), by decide +kernel⟩
  · exact ⟨1, (let s : State := open0; let s : State := s.wr SEQ_STATUS.SYNC_LINE 0; let s : State := { s with seq := { s.seq with stage := .syncing 1 } }; s), by decide +kernel⟩

/-- Clauses of BenchSequence have states and operands that meet their conditions. -/
theorem test_conditions_BenchSequence_4 :
    (∃ (b : Nat) (s : State), s.chip ≠ .off ∧ s.seq.stage = .syncing b ∧ s.on SEQ_STATUS.SYNC_LINE = false ∧ s.sv (BENCHES.SYNC b) = 1) ∧
    (∃ (s : State), s.chip ≠ .off ∧ s.seq.stage = .cascade ∧ s.sv BENCHES.CASCADE = 2) ∧
    (∃ (s : State), s.chip ≠ .off ∧ s.benchTable = true ∧ 0 < s.rd SEQ_STATUS.LEVEL ∧ s.sv BENCHES.CASCADE = 2) := by
  refine ⟨?_, ?_, ?_⟩
  · exact ⟨1, (let s : State := open0; let s : State := { s with svy := { s.svy with run := SMap.put 0 ((BENCHES.SYNC 1).sec * 0x100000 + (BENCHES.SYNC 1).off / 4 * 4) (BitVec.ofNat 32 (withBits (BENCHES.SYNC 1).lo (BENCHES.SYNC 1).width 1 (svWord s.svy.run (BENCHES.SYNC 1).sec (BENCHES.SYNC 1).off))) s.svy.run } } |> fun s => { s.wr SEQ_STATUS.SYNC_LINE 0 with seq := { s.seq with stage := .syncing 1 } }; s), by decide +kernel⟩
  · exact ⟨(let s : State := open0; let s : State := { s with svy := { s.svy with run := SMap.put 0 (BENCHES.CASCADE.sec * 0x100000 + BENCHES.CASCADE.off / 4 * 4) (BitVec.ofNat 32 (withBits BENCHES.CASCADE.lo BENCHES.CASCADE.width 2 (svWord s.svy.run BENCHES.CASCADE.sec BENCHES.CASCADE.off))) s.svy.run } } |> fun s => { s with seq := { s.seq with stage := .cascade } }; s), by decide +kernel⟩
  · exact ⟨(let s : State := open0; let s : State := (withRun s 0x3000014 2).wr SEQ_STATUS.LEVEL 2; s), by decide +kernel⟩

/-- Clauses of BenchSequence have states and operands that meet their conditions. -/
theorem test_conditions_BenchSequence_5 :
    (∃ (s : State), s.chip ≠ .off ∧ (s.sv BENCHES.CASCADE = 0 ∨ s.benchTable = false)) := by
  exact ⟨(open0), by decide +kernel⟩

/-- Clauses of PowerAndReset have states and operands that meet their conditions. -/
theorem test_conditions_PowerAndReset_1 :
    (∃ (bset baddr : Nat) (testen : Bool) (s : State), s.chip = .off) ∧
    (∃ (s : State), s.chip = .bedrock) ∧
    (∃ (s : State), s.chip ≠ .off ∧ s.powered = true ∧ s.serving = false ∧ s.flt.rst = none) := by
  refine ⟨?_, ?_, ?_⟩
  · exact ⟨0, 0, false, (let s : State := open0; let s : State := { s with chip := .off }; s), by decide +kernel⟩
  · exact ⟨(let s : State := open0; let s : State := { s with chip := .bedrock }; s), by decide +kernel⟩
  · exact ⟨(let s : State := open0; let s : State := { s with flt := { s.flt with rst := none } }; let s : State := { s with chip := .waking }; s), by decide +kernel⟩

/-- Clauses of PowerAndReset have states and operands that meet their conditions. -/
theorem test_conditions_PowerAndReset_2 :
    (∃ (s : State), s.chip ≠ .off ∧ s.powered = true ∧ s.serving = false ∧ s.flt.rst = none) ∧
    (∃ (inp : BootIn) (s : State), s.chip ≠ .off ∧ s.chip = .waking ∧ s.slb.ready = false ∧ s.pin.testen = false ∧ s.bootPower = true) := by
  refine ⟨?_, ?_⟩
  · exact ⟨(let s : State := open0; let s : State := { s with flt := { s.flt with rst := none } }; let s : State := { s with chip := .waking }; s), by decide +kernel⟩
  · exact ⟨{ deadRanks := [], deadNand := [], badPairs := [], noStore := false }, (let s : State := open0; let s : State := { s with chip := .waking }; let s : State := { s with slb := { s.slb with ready := false } }; let s : State := { s with pin := { s.pin with testen := false } }; let s : State := { s with chip := .waking, slb := { s.slb with ready := false } } |>.wr SEQ_GOOD.RAILS 255; s), by decide +kernel⟩

/-- Clauses of RegisterAccess have states and operands that meet their conditions. -/
theorem test_conditions_RegisterAccess_1 :
    (∃ (who : Sender) (addr bytes : Nat) (data : BitVec 64) (s : State), s.chip ≠ .off ∧ s.hubOn = true ∧ who = .foreman ∧ addr = BED_FSEL.FACE.addr ∧ bytes = 4) ∧
    (∃ (who : Sender) (addr bytes : Nat) (data : BitVec 64) (s : State), s.chip ≠ .off ∧ s.hubOn = true ∧ who = .foreman ∧ addr = SEQ_EVS2.STATUS.addr ∧ bytes = 4) ∧
    (∃ (who : Sender) (addr bytes : Nat) (data : BitVec 64) (s : State), s.chip ≠ .off ∧ s.hubOn = true ∧ who = .foreman ∧ addr = LGR_CEIL.SETTS.addr ∧ bytes = 4) := by
  refine ⟨?_, ?_, ?_⟩
  · exact ⟨.foreman, 52, 4, 0#64, (open0), by decide +kernel⟩
  · exact ⟨.foreman, 262220, 4, 0#64, (open0), by decide +kernel⟩
  · exact ⟨.foreman, 524292, 4, 0#64, (open0), by decide +kernel⟩

/-- Clauses of RegisterAccess have states and operands that meet their conditions. -/
theorem test_conditions_RegisterAccess_2 :
    (∃ (who : Sender) (addr bytes : Nat) (data : BitVec 64) (s : State), s.chip ≠ .off ∧ who = .foreman ∧ (bytes = 1 ∨ bytes = 2)) ∧
    (∃ (who : Sender) (addr bytes : Nat) (data : BitVec 64) (p : Nat) (s : State), s.chip ≠ .off ∧ who = .host p ∧ s.barLive p addr = true ∧ bytes = 4 ∧ addr % 4 = 0 ∧ hostReach p addr = false ∧ isDoorbell addr = false) ∧
    (∃ (port addr : Nat) (write : Bool) (bytes : Nat) (data : BitVec 64) (s : State), s.chip ≠ .off ∧ s.barLive port addr = true ∧ hostReach port addr = false ∧ isDoorbell addr = false ∧ write = false ∧ (bytes = 1 ∨ bytes = 2 ∨ bytes = 4)) := by
  refine ⟨?_, ?_, ?_⟩
  · exact ⟨.foreman, 0, 1, 0#64, (open0), by decide +kernel⟩
  · exact ⟨(.host 0), 262144, 4, 0#64, 0, (open0), by decide +kernel⟩
  · exact ⟨0, 262144, false, 1, 0#64, (open0), by decide +kernel⟩

/-- Clauses of RegisterAccess have states and operands that meet their conditions. -/
theorem test_conditions_RegisterAccess_3 :
    (∃ (s : State), s.chip ≠ .off) ∧
    (∃ (s : State), s.chip ≠ .off) := by
  refine ⟨?_, ?_⟩
  · exact ⟨(open0), by decide +kernel⟩
  · exact ⟨(open0), by decide +kernel⟩

/-- Clauses of TestPort have states and operands that meet their conditions. -/
theorem test_conditions_TestPort :
    (∃ (ins : Tap) (s : State), s.chip ≠ .off) ∧
    (∃ (rails : Nat) (s : State), s.chip ≠ .off ∧ s.pin.testen = false) ∧
    (∃ (rails : Nat) (s : State), s.chip ≠ .off ∧ s.pin.testen = true ∧ s.testRests = false) := by
  refine ⟨?_, ?_, ?_⟩
  · exact ⟨.bypass, (open0), by decide +kernel⟩
  · exact ⟨0, (let s : State := open0; let s : State := { s with pin := { s.pin with testen := false } }; s), by decide +kernel⟩
  · exact ⟨0, (let s : State := open0; let s : State := { s with pin := { s.pin with testen := true } }; s), by decide +kernel⟩

/-- Clauses of ClocksAndIslands have states and operands that meet their conditions. -/
theorem test_conditions_ClocksAndIslands_1 :
    (∃ (s : State), s.chip ≠ .off ∧ s.on CLK_STATUS.TICK_RC = false) ∧
    (∃ (s : State), s.chip ≠ .off) ∧
    (∃ (s : State), s.chip ≠ .off ∧ s.clk.refFail = false) := by
  refine ⟨?_, ?_, ?_⟩
  · exact ⟨(let s : State := open0; let s : State := s.wr CLK_STATUS.TICK_RC 0; s), by decide +kernel⟩
  · exact ⟨(open0), by decide +kernel⟩
  · exact ⟨(let s : State := open0; let s : State := { s with clk := { s.clk with refFail := false } }; s), by decide +kernel⟩

/-- Clauses of ClocksAndIslands have states and operands that meet their conditions. -/
theorem test_conditions_ClocksAndIslands_2 :
    (∃ (s : State), s.chip ≠ .off) ∧
    (∃ (pll : Nat) (s : State), s.chip ≠ .off ∧ s.hubOn = true ∧ s.on CLK_STATUS.REF_OK = true ∧ (pll = 0 ∨ pll = 1 ∨ (10 ≤ pll ∧ pll < 18))) ∧
    (∃ (island : Nat) (on : Bool) (s : State), s.chip ≠ .off ∧ s.hubOn = true ∧ (116 ≤ island ∧ island < 128 ∨ island = islRes) ∧ on = false) := by
  refine ⟨?_, ?_, ?_⟩
  · exact ⟨(open0), by decide +kernel⟩
  · exact ⟨0, (let s : State := open0; let s : State := s.wr CLK_STATUS.REF_OK 1; s), by decide +kernel⟩
  · exact ⟨129, false, (open0), by decide +kernel⟩

/-- Clauses of ClocksAndIslands have states and operands that meet their conditions. -/
theorem test_conditions_ClocksAndIslands_3 :
    (∃ (island : Nat) (on : Bool) (s : State), s.chip ≠ .off ∧ s.hubOn = true ∧ 108 ≤ island ∧ island < 114 ∧ s.faceOn (island - 108) = true) ∧
    (∃ (island : Nat) (on : Bool) (s : State), s.chip ≠ .off ∧ s.hubOn = true ∧ island = islJob) ∧
    (∃ (island : Nat) (s : State), s.chip ≠ .off ∧ s.islIdle island = true) := by
  refine ⟨?_, ?_, ?_⟩
  · exact ⟨108, false, (open0), by decide +kernel⟩
  · exact ⟨130, false, (open0), by decide +kernel⟩
  · exact ⟨117, (let s : State := open0; let s : State := s.wr (CLK_ISL.STATE 117) islOn; s), by decide +kernel⟩

/-- Clauses of ClocksAndIslands have states and operands that meet their conditions. -/
theorem test_conditions_ClocksAndIslands_4 :
    (∃ (island : Nat) (s : State), s.chip ≠ .off ∧ s.powering island = true ∧ island < 132 ∧ s.on (CLK_ISL.PENDING island) = false ∧ (island < 116 ∨ 128 ≤ island)) ∧
    (∃ (island : Nat) (s : State), s.chip ≠ .off ∧ s.isl island = islStopping ∧ (island < 108 ∨ 116 ≤ island) ∧ island < 132) ∧
    (∃ (island : Nat) (s : State), s.chip ≠ .off ∧ s.isl island = islRestarting ∧ s.rising island = false ∧ island < 132) := by
  refine ⟨?_, ?_, ?_⟩
  · exact ⟨0, (let island : Nat := 0; let s : State := open0; let s : State := s.wr (CLK_ISL.STATE island) islWaking; let s : State := s.wr (CLK_ISL.PENDING island) 0; s), by decide +kernel⟩
  · exact ⟨0, (let island : Nat := 0; let s : State := open0; let s : State := s.wr (CLK_ISL.STATE island) islStopping; s), by decide +kernel⟩
  · exact ⟨0, (let island : Nat := 0; let s : State := open0; let s : State := s.wr (CLK_ISL.STATE island) islRestarting; s), by decide +kernel⟩

/-- Clauses of ClocksAndIslands have states and operands that meet their conditions. -/
theorem test_conditions_ClocksAndIslands_5 :
    (∃ (island : Nat) (s : State), s.chip ≠ .off ∧ s.powering island = true ∧ 108 ≤ island ∧ (island < 116 ∨ 128 ≤ island) ∧ island < 132) := by
  exact ⟨108, (let island : Nat := 108; let s : State := open0; let s : State := s.wr (CLK_ISL.STATE island) islWaking; let s : State := s.wr (CLK_ISL.STATE 108) islWaking; s), by decide +kernel⟩

/-- Clauses of FaultCommands have states and operands that meet their conditions. -/
theorem test_conditions_FaultCommands_1 :
    (∃ (cls : Nat) (s : State), s.chip ≠ .off ∧ cls < 8 ∧ SMap.get 0 cls s.flt.win < s.clsWindow cls ∧ SMap.get 0 cls s.flt.winNew = 0) ∧
    (∃ (bad : Bool) (s : State), s.chip ≠ .off ∧ bad = true) ∧
    (∃ (src : Nat) (s : State), s.chip ≠ .off ∧ src < 704) := by
  refine ⟨?_, ?_, ?_⟩
  · exact ⟨0, (open0), by decide +kernel⟩
  · exact ⟨true, (open0), by decide +kernel⟩
  · exact ⟨0, (open0), by decide +kernel⟩

/-- Clauses of FaultCommands have states and operands that meet their conditions. -/
theorem test_conditions_FaultCommands_2 :
    (∃ (s : State), s.chip ≠ .off) ∧
    (∃ (s : State), s.chip ≠ .off ∧ s.on FLT_FFC.VALID = true) ∧
    (∃ (s : State), s.chip ≠ .off ∧ s.hubOn = true ∧ s.fwm.running = true ∧ s.rd FWM_WDT_STAT.LEFT = 0 ∧ s.on FWM_STATUS.ACTIVATING = false ∧ s.rd FWM_WDT_CFG.ACTION = 0) := by
  refine ⟨?_, ?_, ?_⟩
  · exact ⟨(open0), by decide +kernel⟩
  · exact ⟨(let s : State := open0; let s : State := s.wr FLT_FFC.VALID 1; s), by decide +kernel⟩
  · exact ⟨(let s : State := open0; let s : State := { s with fwm := { s.fwm with running := true } }; let s : State := s.wr FWM_WDT_STAT.LEFT (0); let s : State := s.wr FWM_STATUS.ACTIVATING 0; let s : State := s.wr FWM_WDT_CFG.ACTION (0); s), by decide +kernel⟩

/-- Clauses of FaultCommands have states and operands that meet their conditions. -/
theorem test_conditions_FaultCommands_3 :
    (∃ (seam : Nat) (s : State), s.chip ≠ .off ∧ s.hubOn = true ∧ seam < 4) ∧
    (∃ (core : Nat) (s : State), s.chip ≠ .off ∧ s.hubOn = true ∧ s.fwm.running = true) := by
  refine ⟨?_, ?_⟩
  · exact ⟨0, (open0), by decide +kernel⟩
  · exact ⟨0, (let s : State := open0; let s : State := { s with fwm := { s.fwm with running := true } }; s), by decide +kernel⟩

/-- Clauses of FirmwareCommands have states and operands that meet their conditions. -/
theorem test_conditions_FirmwareCommands_1 :
    (∃ (s : State), s.chip ≠ .off ∧ s.hubOn = true ∧ s.fwm.running = false ∧ s.fwm.recovery = false ∧ s.rd FWM_STATUS.STAGE = 2 ∧ s.on FWM_STATUS.ACTIVATING = false ∧ s.slotValid (s.rd FWM_STATUS.BOOTED) = true) ∧
    (∃ (key : Word) (s : State), s.chip ≠ .off ∧ s.hubOn = true ∧ s.fwm.running = true ∧ key = 0x4B49434B) ∧
    (∃ (key : Word) (s : State), s.chip ≠ .off ∧ s.hubOn = true ∧ s.fwm.running = true ∧ key ≠ 0x4B49434B ∧ s.on FWM_STATUS.ACTIVATING = false ∧ s.rd FWM_WDT_CFG.ACTION = 0) := by
  refine ⟨?_, ?_, ?_⟩
  · exact ⟨(let s : State := open0; let s : State := { s with fwm := { s.fwm with running := false } }; let s : State := { s with fwm := { s.fwm with recovery := false } }; let s : State := s.wr FWM_STATUS.STAGE (2); let s : State := s.wr FWM_STATUS.ACTIVATING 0; let s : State := { s with fwm := { s.fwm with slotB := { s.fwm.slotB with sealed := true, image := fwWit, tag := imgTag fwWit (fwLen fwWit - 16) } } } |>.wr FWM_STATUS.BOOTED 1; s), by decide +kernel⟩
  · exact ⟨0x4b49434b#32, (let s : State := open0; let s : State := { s with fwm := { s.fwm with running := true } }; s), by decide +kernel⟩
  · exact ⟨0#32, (let s : State := open0; let s : State := { s with fwm := { s.fwm with running := true } }; let s : State := s.wr FWM_STATUS.ACTIVATING 0; let s : State := s.wr FWM_WDT_CFG.ACTION (0); s), by decide +kernel⟩

/-- Clauses of FirmwareCommands have states and operands that meet their conditions. -/
theorem test_conditions_FirmwareCommands_2 :
    (∃ (key : Word) (ok0 ok36 : Bool) (s : State), s.chip ≠ .off ∧ s.hubOn = true ∧ s.fwm.running = true ∧ key = 0x414C4956 ∧ s.on FWM_STATUS.ACTIVATING = false ∧ s.on FWM_STATUS.TRIAL = true ∧ (s.healthProgram ok0 ok36).1 = true) ∧
    (∃ (slot : Nat) (ok : Bool) (ok36 : Bool) (s : State), s.chip ≠ .off ∧ s.stageable slot = true ∧ s.on FWM_STATUS.ACTIVATING = false ∧ (s.fwProgram slot (ok, ok36)).1 = true) ∧
    (∃ (data : Word) (ok : Bool) (ok36 : Bool) (k : Nat) (s : State), s.chip ≠ .off ∧ s.hubOn = true ∧ s.fwm.staging = some k ∧ (s.fwProgram k (ok, ok36)).1 = true) := by
  refine ⟨?_, ?_, ?_⟩
  · exact ⟨0x414c4956#32, true, true, (let s : State := open0; let s : State := { s with fwm := { s.fwm with running := true } }; let s : State := s.wr FWM_STATUS.ACTIVATING 0; let s : State := s.wr FWM_STATUS.TRIAL 1; s), by decide +kernel⟩
  · exact ⟨1, true, true, (let s : State := open0; let s : State := s.wr FWM_STATUS.ACTIVATING 0; s), by decide +kernel⟩
  · exact ⟨0#32, true, true, 1, (let s : State := open0; let s : State := { s with fwm := { s.fwm with staging := some 1 } }; s), by decide +kernel⟩

/-- Clauses of FirmwareCommands have states and operands that meet their conditions. -/
theorem test_conditions_FirmwareCommands_3 :
    (∃ (slot : Nat) (ok : Bool) (ok36 : Bool) (s : State), s.chip ≠ .off ∧ s.hubOn = true ∧ s.fwm.staging = some slot ∧ slot < 2 ∧ s.fwCheck (s.fwSlot slot).next = fwOk ∧ (s.fwProgram slot (ok, ok36)).1 = true) ∧
    (∃ (slot : Nat) (ok0 ok36 : Bool) (s : State), s.chip ≠ .off ∧ s.stageable slot = true ∧ s.fwm.staging ≠ some slot ∧ s.slotValid slot = true ∧ (s.healthProgram ok0 ok36).1 = true) ∧
    (∃ (s : State), s.chip ≠ .off ∧ s.hubOn = true ∧ s.fwm.running = true ∧ s.on FWM_STATUS.ACTIVATING = false ∧ s.fwm.trial = true ∧ s.slotValid (1 - s.rd FWM_STATUS.BOOTED) = true) := by
  refine ⟨?_, ?_, ?_⟩
  · exact ⟨1, true, true, (let slot : Nat := 1; let s : State := open0; let s : State := { s with fwm := { s.fwm with staging := some slot } }; let s : State := { s with fwm := { s.fwm with slotB := { s.fwm.slotB with next := fwWit }, staging := some 1 } }; s), by decide +kernel⟩
  · exact ⟨1, true, true, (let s : State := open0; let s : State := { s with fwm := { s.fwm with slotB := { s.fwm.slotB with sealed := true, image := fwWit, tag := imgTag fwWit (fwLen fwWit - 16) } } }; s), by decide +kernel⟩
  · exact ⟨(let s : State := open0; let s : State := { s with fwm := { s.fwm with running := true } }; let s : State := s.wr FWM_STATUS.ACTIVATING 0; let s : State := { s with fwm := { s.fwm with trial := true } }; let s : State := { ({ s with fwm := { s.fwm with slotB := { s.fwm.slotB with sealed := true, image := fwWit, tag := imgTag fwWit (fwLen fwWit - 16) } } }) with fwm := { ({ s with fwm := { s.fwm with slotB := { s.fwm.slotB with sealed := true, image := fwWit, tag := imgTag fwWit (fwLen fwWit - 16) } } }).fwm with trial := true } }; s), by decide +kernel⟩

/-- Clauses of FirmwareCommands have states and operands that meet their conditions. -/
theorem test_conditions_FirmwareCommands_4 :
    (∃ (face : Nat) (s : State), s.chip ≠ .off ∧ s.mailCan face = true ∧ s.on FWM_STATUS.ACTIVATING = true) ∧
    (∃ (face : Nat) (s : State), s.chip ≠ .off ∧ s.mailCan face = true ∧ s.on FWM_STATUS.ACTIVATING = true) ∧
    (∃ (face : Nat) (s : State), s.chip ≠ .off ∧ s.mailCan face = true ∧ s.on FWM_STATUS.ACTIVATING = true) := by
  refine ⟨?_, ?_, ?_⟩
  · exact ⟨0, (let s : State := open0; let s : State := s.wr FWM_STATUS.ACTIVATING 1; s), by decide +kernel⟩
  · exact ⟨0, (let s : State := open0; let s : State := s.wr FWM_STATUS.ACTIVATING 1; s), by decide +kernel⟩
  · exact ⟨0, (let s : State := open0; let s : State := s.wr FWM_STATUS.ACTIVATING 1; s), by decide +kernel⟩

/-- Clauses of FirmwareCommands have states and operands that meet their conditions. -/
theorem test_conditions_FirmwareCommands_5 :
    (∃ (s : State), s.chip ≠ .off ∧ s.hubOn = true ∧ s.fwm.staging.isSome = true) ∧
    (∃ (s : State), s.chip ≠ .off ∧ s.hubOn = true ∧ s.chip = .opened ∧ s.fuse.blown < s.fwm.svyEpoch ∧ s.fuse.blown < fwEpoch (s.fwSlot (s.rd FWM_STATUS.BOOTED)).image) := by
  refine ⟨?_, ?_⟩
  · exact ⟨(let s : State := open0; let s : State := { s with fwm := { s.fwm with staging := some 1 } }; s), by decide +kernel⟩
  · exact ⟨(let s : State := open0; let s : State := { s with chip := .opened, fuse := { s.fuse with blown := 0 }, slb := { s.slb with ready := true }, fwm := { s.fwm with svyEpoch := 3, running := true, slotA := { s.fwm.slotA with image := SMap.put 0 0x14 (0x00000201 : Word) fwWit }, slotB := { s.fwm.slotB with image := SMap.put 0 0x14 (0x00000201 : Word) fwWit } } }; s), by decide +kernel⟩

/-- Clauses of SurveyCommands have states and operands that meet their conditions. -/
theorem test_conditions_SurveyCommands_1 :
    (∃ (s : State), s.chip ≠ .off ∧ s.hubOn = true ∧ s.rd SVY_STATUS.STATE = 0) ∧
    (∃ (s : State), s.chip ≠ .off ∧ s.hubOn = true ∧ s.rd SVY_STATUS.STATE = 0) ∧
    (∃ (write : Bool) (data : Word) (s : State), s.chip ≠ .off ∧ s.hubOn = true ∧ write = true) := by
  refine ⟨?_, ?_, ?_⟩
  · exact ⟨(let s : State := open0; let s : State := s.wr SVY_STATUS.STATE (0); s), by decide +kernel⟩
  · exact ⟨(let s : State := open0; let s : State := s.wr SVY_STATUS.STATE (0); s), by decide +kernel⟩
  · exact ⟨true, 0#32, (open0), by decide +kernel⟩

/-- Clauses of SurveyCommands have states and operands that meet their conditions. -/
theorem test_conditions_SurveyCommands_2 :
    (∃ (write : Bool) (data : Word) (s : State), s.chip ≠ .off ∧ s.hubOn = true ∧ write = false) ∧
    (∃ (s : State), s.chip ≠ .off ∧ s.hubOn = true ∧ s.rd SVY_STATUS.STATE = 0) ∧
    (∃ (s : State), s.chip ≠ .off ∧ s.hubOn = true ∧ s.serving = true ∧ s.rd SVY_STATUS.STATE = 0) := by
  refine ⟨?_, ?_, ?_⟩
  · exact ⟨false, 0#32, (open0), by decide +kernel⟩
  · exact ⟨(let s : State := open0; let s : State := s.wr SVY_STATUS.STATE (0); s), by decide +kernel⟩
  · exact ⟨(let s : State := open0; let s : State := s.wr SVY_STATUS.STATE (0); s), by decide +kernel⟩

/-- Clauses of SurveyCommands have states and operands that meet their conditions. -/
theorem test_conditions_SurveyCommands_3 :
    (∃ (ok0 ok36 : Bool) (s : State), s.chip ≠ .off ∧ s.rd SVY_STATUS.STATE = 2 ∧ s.targetInsts.all (fun i => s.bootWrote (i % 2) (bootArea (i / 2)).1 (if i % 2 = 0 then ok0 else ok36)) = true ∧ s.svy.live = true ∧ s.bootFree = true) ∧
    (∃ (ok0 ok36 : Bool) (s : State), s.chip ≠ .off ∧ s.rd SVY_STATUS.STATE = 2 ∧ s.targetInsts.all (fun i => s.bootWrote (i % 2) (bootArea (i / 2)).1 (if i % 2 = 0 then ok0 else ok36)) = false ∧ s.bootFree = true) ∧
    (∃ (s : State), s.chip ≠ .off ∧ s.rd SVY_STATUS.STATE = 3 ∧ s.tick % 32 = 0 ∧ s.mayApply = true) := by
  refine ⟨?_, ?_, ?_⟩
  · exact ⟨true, true, (let s : State := open0; let s : State := { s.wr SVY_STATUS.STATE 2 with svy := { s.svy with live := true } }; s), by decide +kernel⟩
  · exact ⟨false, false, (let s : State := open0; let s : State := s.wr SVY_STATUS.STATE (2); s), by decide +kernel⟩
  · exact ⟨(let s : State := open0; let s : State := s.wr SVY_STATUS.STATE (3); s), by decide +kernel⟩

/-- Clauses of MailboxReadsFirst have states and operands that meet their conditions. -/
theorem test_conditions_MailboxReadsFirst_1 :
    (∃ (face : Nat) (s : State), s.chip ≠ .off ∧ s.mailOk face = true ∧ s.mailBusy face = false ∧ face < 6) ∧
    (∃ (face : Nat) (s : State), s.chip ≠ .off ∧ s.mailOk face = true ∧ s.mailBusy face = false ∧ (s.port face).bg = none) ∧
    (∃ (face log : Nat) (l : EvLog) (s : State), s.chip ≠ .off ∧ s.mailOk face = true ∧ s.mailBusy face = false ∧ (s.port face).logs[log]? = some l) := by
  refine ⟨?_, ?_, ?_⟩
  · exact ⟨0, (open0), by decide +kernel⟩
  · exact ⟨0, (open0), by decide +kernel⟩
  · exact ⟨0, 0, { recs := [], next := 0, overflow := 0 }, (open0), by decide +kernel⟩

/-- Clauses of MailboxReadsFirst have states and operands that meet their conditions. -/
theorem test_conditions_MailboxReadsFirst_2 :
    (∃ (face : Nat) (s : State), s.chip ≠ .off ∧ s.mailOk face = true ∧ s.mailBusy face = false) ∧
    (∃ (face : Nat) (s : State), s.chip ≠ .off ∧ s.mailOk face = true ∧ s.mailBusy face = false ∧ s.on (HPT_CFG.MGMT face) = true ∧ face < 6) ∧
    (∃ (face : Nat) (s : State), s.chip ≠ .off ∧ s.mailOk face = true ∧ s.mailBusy face = false) := by
  refine ⟨?_, ?_, ?_⟩
  · exact ⟨0, (open0), by decide +kernel⟩
  · exact ⟨0, (let face : Nat := 0; let s : State := open0; let s : State := s.wr (HPT_CFG.MGMT face) 1; s), by decide +kernel⟩
  · exact ⟨0, (open0), by decide +kernel⟩

/-- Clauses of MailboxReadsFirst have states and operands that meet their conditions. -/
theorem test_conditions_MailboxReadsFirst_3 :
    (∃ (face : Nat) (s : State), s.chip ≠ .off ∧ s.mailOk face = true ∧ s.mailBusy face = false) ∧
    (∃ (face uuid offset len : Nat) (s : State), s.chip ≠ .off ∧ s.mailOk face = true ∧ s.mailBusy face = false ∧ uuid = celUuid ∧ offset % 4 = 0 ∧ len % 4 = 0 ∧ offset + len ≤ 4 * celOpcodes.length) ∧
    (∃ (face : Nat) (s : State), s.chip ≠ .off ∧ s.mailOk face = true ∧ s.mailBusy face = false) := by
  refine ⟨?_, ?_, ?_⟩
  · exact ⟨0, (open0), by decide +kernel⟩
  · exact ⟨0, 18161370736428181875123471166518017815, 0, 0, (open0), by decide +kernel⟩
  · exact ⟨0, (open0), by decide +kernel⟩

/-- Clauses of MailboxReadsFirst have states and operands that meet their conditions. -/
theorem test_conditions_MailboxReadsFirst_4 :
    (∃ (face feature : Nat) (s : State), s.chip ≠ .off ∧ s.mailOk face = true ∧ s.mailBusy face = false ∧ feature = featJobLimits) ∧
    (∃ (face feature : Nat) (value : List Nat) (s : State), s.chip ≠ .off ∧ s.mailOk face = true ∧ s.mailBusy face = false) ∧
    (∃ (face : Nat) (s : State), s.chip ≠ .off ∧ s.mailOk face = true ∧ s.mailBusy face = false) := by
  refine ⟨?_, ?_, ?_⟩
  · exact ⟨0, 98810513503780412736540570881969472673, (open0), by decide +kernel⟩
  · exact ⟨0, 0, [], (open0), by decide +kernel⟩
  · exact ⟨0, (open0), by decide +kernel⟩

/-- Clauses of MailboxReadsFirst have states and operands that meet their conditions. -/
theorem test_conditions_MailboxReadsFirst_5 :
    (∃ (face : Nat) (s : State), s.chip ≠ .off ∧ s.mailOk face = true ∧ s.mailBusy face = false) ∧
    (∃ (face : Nat) (s : State), s.chip ≠ .off ∧ s.mailOk face = true ∧ s.mailBusy face = false) ∧
    (∃ (face opcode : Nat) (s : State), s.chip ≠ .off ∧ s.mailOk face = true ∧ s.mailBusy face = false ∧ celOpcodes.contains opcode = false) := by
  refine ⟨?_, ?_, ?_⟩
  · exact ⟨0, (open0), by decide +kernel⟩
  · exact ⟨0, (open0), by decide +kernel⟩
  · exact ⟨0, 0, (open0), by decide +kernel⟩

/-- Clauses of MailboxReadsSecond have states and operands that meet their conditions. -/
theorem test_conditions_MailboxReadsSecond_1 :
    (∃ (face offset len : Nat) (s : State), s.chip ≠ .off ∧ s.mailOk face = true ∧ s.mailBusy face = false ∧ offset + len ≤ 131072) ∧
    (∃ (face : Nat) (s : State), s.chip ≠ .off ∧ s.mailOk face = true ∧ s.mailBusy face = false) ∧
    (∃ (face : Nat) (s : State), s.chip ≠ .off ∧ s.mailOk face = true ∧ s.mailBusy face = false) := by
  refine ⟨?_, ?_, ?_⟩
  · exact ⟨0, 0, 0, (open0), by decide +kernel⟩
  · exact ⟨0, (open0), by decide +kernel⟩
  · exact ⟨0, (open0), by decide +kernel⟩

/-- Clauses of MailboxReadsSecond have states and operands that meet their conditions. -/
theorem test_conditions_MailboxReadsSecond_2 :
    (∃ (face : Nat) (s : State), s.chip ≠ .off ∧ s.mailOk face = true ∧ s.mailBusy face = false) ∧
    (∃ (face dpa lines : Nat) (s : State), s.chip ≠ .off ∧ s.mailOk face = true ∧ s.mailBusy face = false ∧ s.inCapacity face (dpa / 64) lines = true) ∧
    (∃ (face dpa lines : Nat) (s : State), s.chip ≠ .off ∧ s.mailOk face = true ∧ s.mailBusy face = false ∧ s.inCapacity face (dpa / 64) lines = true) := by
  refine ⟨?_, ?_, ?_⟩
  · exact ⟨0, (open0), by decide +kernel⟩
  · exact ⟨0, 0, 1, (open0), by decide +kernel⟩
  · exact ⟨0, 0, 1, (open0), by decide +kernel⟩

/-- Clauses of MailboxReadsSecond have states and operands that meet their conditions. -/
theorem test_conditions_MailboxReadsSecond_3 :
    (∃ (face : Nat) (s : State), s.chip ≠ .off ∧ s.mailOk face = true ∧ s.mailBusy face = false) ∧
    (∃ (face : Nat) (s : State), s.chip ≠ .off ∧ s.mailOk face = true ∧ s.mailBusy face = false) ∧
    (∃ (face : Nat) (s : State), s.chip ≠ .off ∧ s.mailOk face = true ∧ s.mailBusy face = false) := by
  refine ⟨?_, ?_, ?_⟩
  · exact ⟨0, (open0), by decide +kernel⟩
  · exact ⟨0, (open0), by decide +kernel⟩
  · exact ⟨0, (open0), by decide +kernel⟩

/-- Clauses of MailboxReadsSecond have states and operands that meet their conditions. -/
theorem test_conditions_MailboxReadsSecond_4 :
    (∃ (face : Nat) (s : State), s.chip ≠ .off ∧ s.mailOk face = true ∧ s.mailBusy face = false ∧ s.feature face featEnergy = true) ∧
    (∃ (face seq count : Nat) (r : LogRec) (l : List LogRec) (s : State), s.chip ≠ .off ∧ s.mailOk face = true ∧ s.mailBusy face = false ∧ s.on (HPT_CFG.MGMT face) = true ∧ face < 6 ∧ 1 ≤ count ∧ count ≤ 60 ∧ seq ≠ liveSeq ∧ s.logFrom seq count = r :: l) ∧
    (∃ (face ring : Nat) (s : State), s.chip ≠ .off ∧ s.mailOk face = true ∧ s.mailBusy face = false ∧ s.feature face featRings = true ∧ s.ringFace ring = some face) := by
  refine ⟨?_, ?_, ?_⟩
  · exact ⟨0, (open0), by decide +kernel⟩
  · exact ⟨0, 1, 2, { typ := 2, family := 0, merged := false, seq := 1, hours := 0, secs := 0, chip := 4, span := 0, pcyc := 0, tick := 0, body := .words [] }, [{ typ := 2, family := 0, merged := false, seq := 2, hours := 0, secs := 0, chip := 4, span := 0, pcyc := 0, tick := 0, body := .words [] }], (let face : Nat := 0; let seq : Nat := 1; let s : State := open0; let s : State := s.wr (HPT_CFG.MGMT face) 1; let s : State := ({ s with clg := { s.clg with log := [(1, some ({ typ := 2, family := 0, merged := false, seq := 1, hours := 0, secs := 0, chip := 4, span := 0, pcyc := 0, tick := 0, body := .words [] } : LogRec)), (2, some ({ typ := 2, family := 0, merged := false, seq := 2, hours := 0, secs := 0, chip := 4, span := 0, pcyc := 0, tick := 0, body := .words [] } : LogRec))] } }).wr CLG_SEQ.SEQ 2; s), by decide +kernel⟩
  · exact ⟨0, 0, (open0), by decide +kernel⟩

/-- Clauses of MailboxReadsSecond have states and operands that meet their conditions. -/
theorem test_conditions_MailboxReadsSecond_5 :
    (∃ (face : Nat) (s : State), s.chip ≠ .off ∧ s.mailOk face = true ∧ s.mailBusy face = false ∧ s.feature face featTwin = true) ∧
    (∃ (face : Nat) (s : State), s.chip ≠ .off ∧ s.hubOn = true ∧ s.fwm.running = true ∧ s.faceOn face = true) ∧
    (∃ (face : Nat) (s : State), s.chip ≠ .off ∧ s.hubOn = true ∧ s.fwm.running = true ∧ s.faceOn face = true) := by
  refine ⟨?_, ?_, ?_⟩
  · exact ⟨0, (open0), by decide +kernel⟩
  · exact ⟨0, (let s : State := open0; let s : State := { s with fwm := { s.fwm with running := true } }; s), by decide +kernel⟩
  · exact ⟨0, (let s : State := open0; let s : State := { s with fwm := { s.fwm with running := true } }; s), by decide +kernel⟩

/-- Clauses of MailboxWritesFirst have states and operands that meet their conditions. -/
theorem test_conditions_MailboxWritesFirst_1 :
    (∃ (face log : Nat) (all : Bool) (handles : List Nat) (l : EvLog) (s : State), s.chip ≠ .off ∧ s.mailOk face = true ∧ s.mailBusy face = false ∧ all = true ∧ (s.port face).logs[log]? = some l) ∧
    (∃ (face : Nat) (policy : List Nat) (s : State), s.chip ≠ .off ∧ s.mailOk face = true ∧ s.mailBusy face = false ∧ policy.length = 4 ∧ policy.all (fun p => decide (p % 4 < 2)) = true) ∧
    (∃ (face action slot offset : Nat) (words : List Word) (ok : Bool) (ok36 : Bool) (s : State), s.chip ≠ .off ∧ s.mailOk face = true ∧ s.mailBusy face = false ∧ s.on (HPT_CFG.MGMT face) = true ∧ face < 6 ∧ action = 4 ∧ (s.port face).bg = none ∧ s.fwm.xferFace = face + 1) := by
  refine ⟨?_, ?_, ?_⟩
  · exact ⟨0, 0, true, [], { recs := [], next := 0, overflow := 0 }, (open0), by decide +kernel⟩
  · exact ⟨0, [1, 0, 5, 4], (open0), by decide +kernel⟩
  · exact ⟨0, 4, 0, 0, [], false, false, (let s : State := open0; let s : State := s.wr (HPT_CFG.MGMT 0) 1 |> fun s => { s with fwm := { s.fwm with xferFace := 1 } }; s), by decide +kernel⟩

/-- Clauses of MailboxWritesFirst have states and operands that meet their conditions. -/
theorem test_conditions_MailboxWritesFirst_2 :
    (∃ (face action slot offset : Nat) (words : List Word) (ok : Bool) (ok36 : Bool) (s : State), s.chip ≠ .off ∧ s.mailOk face = true ∧ s.mailBusy face = false ∧ s.on (HPT_CFG.MGMT face) = true ∧ face < 6 ∧ action = 1 ∧ ok = true ∧ ok36 = true ∧ (s.port face).bg = none ∧ s.fwm.xferFace = 0 ∧ s.on FWM_STATUS.ACTIVATING = false ∧ 1 ≤ slot ∧ slot ≤ 2 ∧ s.stageable (slot - 1) = true ∧ offset = 0 ∧ (s.fwProgram (slot - 1) (true, true)).1 = true) ∧
    (∃ (face slot : Nat) (ok0 ok36 : Bool) (s : State), s.chip ≠ .off ∧ s.mailOk face = true ∧ s.mailBusy face = false ∧ s.on (HPT_CFG.MGMT face) = true ∧ face < 6 ∧ s.fwm.xferFace = 0 ∧ s.on FWM_STATUS.ACTIVATING = false ∧ 1 ≤ slot ∧ slot ≤ 2 ∧ s.stageable (slot - 1) = true ∧ s.slotValid (slot - 1) = true ∧ s.fwm.staging ≠ some (slot - 1) ∧ (s.healthProgram ok0 ok36).1 = true ∧ s.fwm.recovery = false) ∧
    (∃ (face slot : Nat) (ok0 ok36 : Bool) (s : State), s.chip ≠ .off ∧ s.mailOk face = true ∧ s.mailBusy face = false ∧ s.on (HPT_CFG.MGMT face) = true ∧ face < 6 ∧ s.fwm.xferFace = 0 ∧ s.on FWM_STATUS.ACTIVATING = false ∧ 1 ≤ slot ∧ slot ≤ 2 ∧ s.stageable (slot - 1) = true ∧ s.slotValid (slot - 1) = true ∧ s.fwm.staging ≠ some (slot - 1) ∧ (s.healthProgram ok0 ok36).1 = true ∧ s.fwm.recovery = false) := by
  refine ⟨?_, ?_, ?_⟩
  · exact ⟨0, 1, 2, 0, [], true, true, (let face : Nat := 0; let s : State := open0; let s : State := s.wr (HPT_CFG.MGMT face) 1; let s : State := { s with fwm := { s.fwm with xferFace := 0 } }; let s : State := s.wr FWM_STATUS.ACTIVATING 0; s), by decide +kernel⟩
  · exact ⟨0, 2, true, true, (let face : Nat := 0; let s : State := open0; let s : State := s.wr (HPT_CFG.MGMT face) 1; let s : State := { s with fwm := { s.fwm with xferFace := 0 } }; let s : State := s.wr FWM_STATUS.ACTIVATING 0; let s : State := { s with fwm := { s.fwm with recovery := false } }; let s : State := { s with fwm := { s.fwm with slotB := { s.fwm.slotB with sealed := true, image := fwWit, tag := imgTag fwWit (fwLen fwWit - 16) } } }; s), by decide +kernel⟩
  · exact ⟨0, 2, true, true, (let face : Nat := 0; let s : State := open0; let s : State := s.wr (HPT_CFG.MGMT face) 1; let s : State := { s with fwm := { s.fwm with xferFace := 0 } }; let s : State := s.wr FWM_STATUS.ACTIVATING 0; let s : State := { s with fwm := { s.fwm with recovery := false } }; let s : State := { s with fwm := { s.fwm with slotB := { s.fwm.slotB with sealed := true, image := fwWit, tag := imgTag fwWit (fwLen fwWit - 16) } } }; s), by decide +kernel⟩

/-- Clauses of MailboxWritesFirst have states and operands that meet their conditions. -/
theorem test_conditions_MailboxWritesFirst_3 :
    (∃ (face stamp : Nat) (s : State), s.chip ≠ .off ∧ s.mailOk face = true ∧ s.mailBusy face = false) ∧
    (∃ (face offset : Nat) (bytes : List Byte) (ok0 ok36 : Bool) (s : State), s.chip ≠ .off ∧ s.mailOk face = true ∧ s.mailBusy face = false ∧ offset + bytes.length ≤ 131072 ∧ (s.healthProgram ok0 ok36).1 = true ∧ s.twoSleds = false) ∧
    (∃ (face life hot cold : Nat) (s : State), s.chip ≠ .off ∧ s.mailOk face = true ∧ s.mailBusy face = false) := by
  refine ⟨?_, ?_, ?_⟩
  · exact ⟨0, 0, (open0), by decide +kernel⟩
  · exact ⟨0, 0, [], true, true, (open0), by decide +kernel⟩
  · exact ⟨0, 0, 0, 0, (open0), by decide +kernel⟩

/-- Clauses of MailboxWritesFirst have states and operands that meet their conditions. -/
theorem test_conditions_MailboxWritesFirst_4 :
    (∃ (face value : Nat) (ok0 ok36 : Bool) (s : State), s.chip ≠ .off ∧ s.mailOk face = true ∧ s.mailBusy face = false ∧ (s.healthProgram ok0 ok36).1 = true ∧ s.twoSleds = false) ∧
    (∃ (face dpa lines : Nat) (devs : SMap Nat) (s : State), s.chip ≠ .off ∧ s.mailOk face = true ∧ s.mailBusy face = false ∧ s.inCapacity face (dpa / 64) lines = true ∧ (s.port face).bg = none ∧ (s.scanSlabs face (dpa / 64) lines).filter (fun i => (s.slab i).rstate != 0) = []) ∧
    (∃ (face : Nat) (s : State), s.chip ≠ .off ∧ s.mailOk face = true ∧ s.mailBusy face = false ∧ (s.port face).bg = none ∧ (s.port face).hdm = false ∧ (s.port face).erasing = none ∧ s.twoSleds = false) := by
  refine ⟨?_, ?_, ?_⟩
  · exact ⟨0, 0, true, true, (open0), by decide +kernel⟩
  · exact ⟨0, 0, 1, [], (open0), by decide +kernel⟩
  · exact ⟨0, (open0), by decide +kernel⟩

/-- Clauses of MailboxWritesFirst have states and operands that meet their conditions. -/
theorem test_conditions_MailboxWritesFirst_5 :
    (∃ (face : Nat) (s : State), s.chip ≠ .off ∧ s.mailOk face = true ∧ s.mailBusy face = false ∧ (s.port face).hdm = false ∧ (s.port face).erasing = none ∧ s.twoSleds = false) ∧
    (∃ (face block : Nat) (accept : Bool) (s : State), s.chip ≠ .off ∧ s.mailOk face = true ∧ s.mailBusy face = false ∧ (s.port face).extents.any (fun e => e.block == block && !e.accepted) = true ∧ accept = true) := by
  refine ⟨?_, ?_⟩
  · exact ⟨0, (open0), by decide +kernel⟩
  · exact ⟨0, 8, true, (let s : State := open0; let s : State := s.setPort 0 { s.port 0 with reads := [], extents := [⟨8, [64, 65, 66], false, s.tick⟩] }; s), by decide +kernel⟩

/-- Clauses of MailboxWritesSecond have states and operands that meet their conditions. -/
theorem test_conditions_MailboxWritesSecond_1 :
    (∃ (face block count : Nat) (s : State), s.chip ≠ .off ∧ s.mailOk face = true ∧ s.mailBusy face = false ∧ s.dcHolds face block count = true ∧ s.releasing face block count = false ∧ s.twoSleds = false ∧ (s.port face).reads = []) ∧
    (∃ (face block count : Nat) (s : State), s.chip ≠ .off ∧ s.mailOk face = true ∧ s.mailBusy face = false ∧ (s.dcHolds face block count = false ∨ s.releasing face block count = true)) ∧
    (∃ (face : Nat) (request : BitVec 128) (ok0 ok36 : Bool) (s : State), s.chip ≠ .off ∧ s.mailOk face = true ∧ s.mailBusy face = false ∧ (((s.nvFace face).feat.getLsbD featRings && !(request &&& s.supported face).getLsbD featRings && s.ringsLive face) || ((s.nvFace face).feat.getLsbD featVolatile && !(request &&& s.supported face).getLsbD featVolatile && s.volatileNow face)) = false ∧ (s.healthProgram ok0 ok36).1 = true) := by
  refine ⟨?_, ?_, ?_⟩
  · exact ⟨0, 8, 1, (let s : State := open0; let s : State := s.setPort 0 { s.port 0 with reads := [], extents := [⟨8, [64, 65, 66], true, s.tick⟩] }; s), by decide +kernel⟩
  · exact ⟨0, 0, 0, (open0), by decide +kernel⟩
  · exact ⟨0, 0#128, true, true, (open0), by decide +kernel⟩

/-- Clauses of MailboxWritesSecond have states and operands that meet their conditions. -/
theorem test_conditions_MailboxWritesSecond_2 :
    (∃ (face : Nat) (hints : List (Nat × Nat)) (s : State), s.chip ≠ .off ∧ s.mailOk face = true ∧ s.mailBusy face = false ∧ s.feature face featHeat = true ∧ hints ≠ [] ∧ hints.length ≤ 2047) ∧
    (∃ (face pack : Nat) (s : State), s.chip ≠ .off ∧ s.mailOk face = true ∧ s.mailBusy face = false ∧ s.on (HPT_CFG.MGMT face) = true ∧ face < 6 ∧ s.on (removeBit (pack % 2)) = false ∧ s.rd (LGR_PSTAT.STATE (1 - pack % 2)) = pkCounted ∧ s.on (removeBit (1 - pack % 2)) = false) ∧
    (∃ (face pack : Nat) (s : State), s.chip ≠ .off ∧ s.mailOk face = true ∧ s.mailBusy face = false ∧ s.on (HPT_CFG.MGMT face) = true ∧ face < 6 ∧ s.on (removeBit (pack % 2)) = true) := by
  refine ⟨?_, ?_, ?_⟩
  · exact ⟨0, [(0, 3)], (open0), by decide +kernel⟩
  · exact ⟨0, 0, (let face : Nat := 0; let pack : Nat := 0; let s : State := open0; let s : State := s.wr (HPT_CFG.MGMT face) 1; let s : State := s.wr (removeBit (pack % 2)) 0; let s : State := s.wr (LGR_PSTAT.STATE (1 - pack % 2)) (pkCounted); let s : State := s.wr (removeBit (1 - pack % 2)) 0; s), by decide +kernel⟩
  · exact ⟨0, 0, (let face : Nat := 0; let pack : Nat := 0; let s : State := open0; let s : State := s.wr (HPT_CFG.MGMT face) 1; let s : State := s.wr (removeBit (pack % 2)) 1; s), by decide +kernel⟩

/-- Clauses of MailboxWritesSecond have states and operands that meet their conditions. -/
theorem test_conditions_MailboxWritesSecond_3 :
    (∃ (face offset : Nat) (words : List Word) (w : Word) (s : State), s.chip ≠ .off ∧ s.mailOk face = true ∧ s.mailBusy face = false ∧ s.hubOn = true ∧ s.on (HPT_CFG.MGMT face) = true ∧ face < 6 ∧ offset % 4 = 0 ∧ words = [w] ∧ offset + 4 ≤ 524288) ∧
    (∃ (face : Nat) (s : State), s.chip ≠ .off ∧ s.mailOk face = true ∧ s.mailBusy face = false ∧ s.hubOn = true ∧ s.on (HPT_CFG.MGMT face) = true ∧ face < 6 ∧ s.rd SVY_STATUS.STATE = 0) ∧
    (∃ (face : Nat) (s : State), s.chip ≠ .off ∧ s.mailOk face = true ∧ s.mailBusy face = false ∧ s.hubOn = true ∧ s.on (HPT_CFG.MGMT face) = true ∧ face < 6 ∧ s.rd SVY_STATUS.STATE = 0) := by
  refine ⟨?_, ?_, ?_⟩
  · exact ⟨0, 0, [7#32], 7#32, (let face : Nat := 0; let s : State := open0; let s : State := s.wr (HPT_CFG.MGMT face) 1; s), by decide +kernel⟩
  · exact ⟨0, (let face : Nat := 0; let s : State := open0; let s : State := s.wr (HPT_CFG.MGMT face) 1; let s : State := s.wr SVY_STATUS.STATE (0); s), by decide +kernel⟩
  · exact ⟨0, (let face : Nat := 0; let s : State := open0; let s : State := s.wr (HPT_CFG.MGMT face) 1; let s : State := s.wr SVY_STATUS.STATE (0); s), by decide +kernel⟩

/-- Clauses of MailboxWritesSecond have states and operands that meet their conditions. -/
theorem test_conditions_MailboxWritesSecond_4 :
    (∃ (face : Nat) (s : State), s.chip ≠ .off ∧ s.mailOk face = true ∧ s.mailBusy face = false ∧ s.hubOn = true ∧ s.on (HPT_CFG.MGMT face) = true ∧ face < 6 ∧ (s.port face).bg = none ∧ s.rd SVY_STATUS.STATE = 0) ∧
    (∃ (face : Nat) (s : State), s.chip ≠ .off ∧ s.mailOk face = true ∧ s.mailBusy face = false ∧ s.hubOn = true ∧ s.on (HPT_CFG.MGMT face) = true ∧ face < 6 ∧ (s.port face).bg = none ∧ s.rd SVY_STATUS.STATE = 0 ∧ s.serving = true) ∧
    (∃ (face chan rank : Nat) (ok0 : Bool) (ok36 : Bool) (s : State), s.chip ≠ .off ∧ s.mailOk face = true ∧ s.mailBusy face = false ∧ s.on (HPT_CFG.MGMT face) = true ∧ face < 6 ∧ s.anyOpen = false ∧ chan < 36 ∧ rank < 4 ∧ (s.rank chan rank = rkReplaced ∨ s.rank chan rank = rkRetired ∨ s.rank chan rank = rkDead) ∧ (s.healthProgram ok0 ok36).1 = true) := by
  refine ⟨?_, ?_, ?_⟩
  · exact ⟨0, (let face : Nat := 0; let s : State := open0; let s : State := s.wr (HPT_CFG.MGMT face) 1; let s : State := s.wr SVY_STATUS.STATE (0); s), by decide +kernel⟩
  · exact ⟨0, (let face : Nat := 0; let s : State := open0; let s : State := s.wr (HPT_CFG.MGMT face) 1; let s : State := s.wr SVY_STATUS.STATE (0); s), by decide +kernel⟩
  · exact ⟨0, 0, 0, true, true, (let chan : Nat := 0; let rank : Nat := 0; let s : State := open0; let s : State := ((s.wr (HPT_CFG.MGMT 0) 1).wr (DCH_RNKS.STATE chan rank) (6 + rank % 3)) |> fun s => faces.foldl (fun s f => s.wr (HPT_STATUS.OPEN f) 0) s; s), by decide +kernel⟩

/-- Clauses of MailboxWritesSecond have states and operands that meet their conditions. -/
theorem test_conditions_MailboxWritesSecond_5 :
    (∃ (face chan rank : Nat) (ok0 : Bool) (ok36 : Bool) (s : State), s.chip ≠ .off ∧ s.mailOk face = true ∧ s.mailBusy face = false ∧ s.on (HPT_CFG.MGMT face) = true ∧ face < 6 ∧ s.anyOpen = false ∧ chan < 36 ∧ rank < 4 ∧ (s.rank chan rank = rkReplaced ∨ s.rank chan rank = rkRetired ∨ s.rank chan rank = rkDead) ∧ (s.healthProgram ok0 ok36).1 = false) ∧
    (∃ (face ring log2 vector imod sqBase cqBase : Nat) (k : Nat) (l : Nat) (s : State), s.chip ≠ .off ∧ s.mailOk face = true ∧ s.mailBusy face = false ∧ s.feature face featRings = true ∧ s.ringFace ring = some face ∧ s.enableStatus face ring log2 vector sqBase cqBase = 0 ∧ s.job.inits = [] ∧ s.access face cqBase = some (k, l) ∧ s.settHome k = false) ∧
    (∃ (face ring log2 vector imod sqBase cqBase : Nat) (s : State), s.chip ≠ .off ∧ s.mailOk face = true ∧ s.mailBusy face = false ∧ s.feature face featRings = true ∧ s.ringFace ring = some face ∧ s.enableStatus face ring log2 vector sqBase cqBase = 0 ∧ s.job.inits = [] ∧ s.mirrors = false ∧ (List.range (2 ^ log2 / 4)).all (fun i => (s.access face (cqBase + i * 64)).any (fun x => s.settHome x.1 && !(s.slab (settSlab x.1)).jobl && (s.repairOf x.1 x.2).isNone && s.dirty x.1)) = true) := by
  refine ⟨?_, ?_, ?_⟩
  · exact ⟨0, 0, 0, false, false, (let chan : Nat := 0; let rank : Nat := 0; let s : State := open0; let s : State := ((s.wr (HPT_CFG.MGMT 0) 1).wr (DCH_RNKS.STATE chan rank) (6 + rank % 3)) |> fun s => faces.foldl (fun s f => s.wr (HPT_STATUS.OPEN f) 0) s; s), by decide +kernel⟩
  · exact ⟨0, 0, 4, 0, 0, 65536, 131072, 0, 32, (let ring : Nat := 0; let s : State := open0; let s : State := { s with job := { s.job with jobs := [], inits := [] } } |> fun s => (s.setNv 0 { s.nvFace 0 with feat := 127 }).setRing 0 { s.ring 0 with st := 0 } |>.wr GAL_STATUS.MODE 0 |>.setRstate 0 1; s), by decide +kernel⟩
  · exact ⟨0, 0, 4, 0, 0, 65536, 131072, (let ring : Nat := 0; let s : State := open0; let s : State := { s with job := { s.job with jobs := [], inits := [] } } |> fun s => (s.setNv 0 { s.nvFace 0 with feat := 127 }).setRing 0 { s.ring 0 with st := 0 } |>.wr GAL_STATUS.MODE 0 |>.setRstate 0 0 |>.setLock 0 15 false |>.setDirty 0 |>.setDirty 1 |>.setDirty 2 |>.setDirty 3; s), by decide +kernel⟩

/-- Clauses of MailboxWritesThird have states and operands that meet their conditions. -/
theorem test_conditions_MailboxWritesThird_1 :
    (∃ (face ring : Nat) (s : State), s.chip ≠ .off ∧ s.mailOk face = true ∧ s.mailBusy face = false ∧ s.feature face featRings = true ∧ s.ringFace ring = some face ∧ ((s.ring ring).st = rgEnabled ∨ (s.ring ring).st = rgHalted) ∧ s.ringJobs ring = []) ∧
    (∃ (face ring : Nat) (s : State), s.chip ≠ .off ∧ s.mailOk face = true ∧ s.mailBusy face = false ∧ s.feature face featRings = true ∧ s.ringFace ring = some face) ∧
    (∃ (face ring : Nat) (s : State), s.chip ≠ .off ∧ s.mailOk face = true ∧ s.mailBusy face = false ∧ s.feature face featRings = true ∧ s.ringFace ring = some face ∧ (s.ring ring).st = rgHalted ∧ (s.ring ring).err = 4 ∧ (s.ring ring).size < ((s.ring ring).sqTail + 65536 - (s.ring ring).sqHead) % 65536) := by
  refine ⟨?_, ?_, ?_⟩
  · exact ⟨0, 0, (let ring : Nat := 0; let s : State := open0; let s : State := { s with job := { s.job with jobs := [] } } |> fun s => s.setRing 0 { s.ring 0 with st := 1 + 2 * (s.free % 2), err := 0 }; s), by decide +kernel⟩
  · exact ⟨0, 0, (open0), by decide +kernel⟩
  · exact ⟨0, 0, (let ring : Nat := 0; let s : State := open0; let s : State := { s with job := { s.job with jobs := [] } } |> fun s => s.setRing 0 { s.ring 0 with st := 3, err := 4 } |> fun s => s.setRing 0 { s.ring 0 with sqTail := (s.ring 0).sqHead + 40000, log2 := 4 }; s), by decide +kernel⟩

/-- A drawn value is below its bound, whatever it is. -/
theorem draw_lt (s : State) {n : Nat} (h : 0 < n) : (s.draw n).1 < n := Nat.mod_lt _ h

/-- Every place in the list of free slots holds a free slot. -/
theorem free_slots : ∀ i < ((List.range 64).filter open0.slotFree).length,
    ((List.range 64).filter open0.slotFree).getD i 0 < 64 ∧
      open0.slotFree (((List.range 64).filter open0.slotFree).getD i 0) = true := by
  decide +kernel

/-- Clauses of MailboxWritesThird have states and operands that meet their conditions. -/
theorem test_conditions_MailboxWritesThird_2 :
    (∃ (face ring : Nat) (s : State), s.chip ≠ .off ∧ s.mailOk face = true ∧ s.mailBusy face = false ∧ s.feature face featRings = true ∧ s.ringFace ring = some face ∧ (s.ring ring).st = rgHalted ∧ ((s.ring ring).err = 4 ∨ (s.ring ring).err = 1) ∧ (((s.ring ring).sqTail + 65536 - (s.ring ring).sqHead) % 65536 ≤ (s.ring ring).size ∨ (s.ring ring).err = 1) ∧ (s.ring ring).sqHead < 65536) ∧
    (∃ (face : Nat) (generate : Bool) (key : BitVec 256) (k : Nat) (s : State), s.chip ≠ .off ∧ s.mailOk face = true ∧ s.mailBusy face = false ∧ s.feature face featRings = true ∧ s.txCount face < s.rd CIP_CFG.TX_PER_FACE ∧ ((List.range 64).filter s.slotFree).isEmpty = false ∧ k < 64 ∧ s.slotFree k = true ∧ ((List.range 64).filter s.slotFree).getD (s.draw ((List.range 64).filter s.slotFree).length).1 0 = k) ∧
    (∃ (face slot : Nat) (s : State), s.chip ≠ .off ∧ s.mailOk face = true ∧ s.mailBusy face = false ∧ s.feature face featRings = true ∧ slot < 64 ∧ s.txSlot slot face = true) := by
  refine ⟨?_, ?_, ?_⟩
  · exact ⟨0, 0, (let ring : Nat := 0; let s : State := open0; let s : State := { s with job := { s.job with jobs := [] } } |> fun s => s.setRing 0 { s.ring 0 with st := 3, err := 1 + 3 * (s.free % 2) } |> fun s => s.setRing 0 { s.ring 0 with sqTail := (s.ring 0).sqHead + s.free / 2 % 3 }; s), by decide +kernel⟩
  · exact ⟨0, false, 0#256, _, open0, by decide +kernel, by decide +kernel, by decide +kernel, by decide +kernel, by decide +kernel,
      by decide +kernel, (free_slots _ (draw_lt open0 (by decide +kernel))).1, (free_slots _ (draw_lt open0 (by decide +kernel))).2, rfl⟩
  · exact ⟨0, 0, (let slot : Nat := 0; let s : State := open0; let s : State := s.setSlot (slot % 64) slTransform 0; s), by decide +kernel⟩

/-- Clauses of MailboxWritesThird have states and operands that meet their conditions. -/
theorem test_conditions_MailboxWritesThird_3 :
    (∃ (face : Nat) (s : State), s.chip ≠ .off ∧ s.mailOk face = true ∧ s.mailBusy face = false ∧ s.anyKeyr face = false ∧ s.cip.rotate = [] ∧ (s.port face).bg = none) ∧
    (∃ (face : Nat) (s : State), s.chip ≠ .off ∧ s.mailOk face = true ∧ s.mailBusy face = false ∧ s.on (HPT_CFG.MGMT face) = true ∧ face < 6 ∧ s.galMode = modePaired ∧ s.gal.joinStep = 0 ∧ s.rd GAL_PEER.CHIP = 4 ∧ s.admMargin ≠ .sable ∧ s.galUp = true ∧ (s.port face).bg = none) ∧
    (∃ (face blocks : Nat) (first : Option Nat) (b : Nat) (s : State), s.chip ≠ .off ∧ s.hubOn = true ∧ s.fwm.running = true ∧ s.faceOn face = true ∧ s.twoSleds = false ∧ first = some b ∧ (s.dcPlaces face blocks).contains b = true ∧ blocks ≠ 0 ∧ blocks ≤ (s.dcFree.take blocks).length ∧ (s.port face).extents.length < 512 ∧ (s.dcFree.take blocks).all s.blockZero = true) := by
  refine ⟨?_, ?_, ?_⟩
  · exact ⟨0, (let s : State := open0; let s : State := { s with cip := { s.cip with rotate := [] } }; s), by decide +kernel⟩
  · exact ⟨0, (let s : State := open0; let s : State := let s : State := { s with svy := { s.svy with has := 0x38 :: s.svy.has, shadow := true, run := [(0x3800000, BitVec.ofNat 32 (6 + s.free % 2)), (0x3800004, BitVec.ofNat 32 4660), (0x3800008, (0x00100504 : Word)), (0x380000C, (7 : Word))].foldl (fun m p => SMap.put (0 : Word) p.1 p.2 m) s.svy.run } }; let s : State := { ((s.wr GAL_STATUS.MODE modePaired).wr GAL_STATUS.LINKS 3).wr (GAL_LINK.STATE 0) 2 |>.wr (GAL_LINK.STATE 1) 2 with chip := .opened, gal := { s.gal with hello := [true, true], joinStep := 0, held := [], sent := s.gal.sent.take 50, peerFenced := false, graceAt := 0, joinAt := 0 } }; let s : State := { s with dch := { s.dch with hard := [], repairs := [] }, adm := { s.adm with jobq := [] } }; (s) |> fun s => faces.foldl (fun s p => s.setPort p { s.port p with wbuf := [], reads := [] }) s |> fun s => { s with adm := { s.adm with jobq := [] } } |> fun s => { (s.wr (HPT_CFG.MGMT 0) 1).wr GAL_PEER.CHIP 4 |>.wr GAL_PEER.MARGIN (s.free % 3) |>.setPort 0 { s.port 0 with bg := none, perst := false } with margin := .pearl } |> fun s => s.wr (HPT_STATUS.LINK_UP 0) 1; s), by decide +kernel⟩
  · exact ⟨0, 2, (some 8), 8, (let s : State := open0; let s : State := { s.setPort 0 { s.port 0 with extents := [] } with svy := { s.svy with has := 0x13 :: s.svy.has, run := [(0x1300000, (1 : Word)), (0x1300008, BitVec.ofNat 32 (64 + 65536 * 8)), (0x1200008, BitVec.ofNat 32 (8 + 65536 * 8))].foldl (fun m p => SMap.put (0 : Word) p.1 p.2 m) s.svy.run } }; s), by decide +kernel⟩

/-- Clauses of MailboxWritesThird have states and operands that meet their conditions. -/
theorem test_conditions_MailboxWritesThird_4 :
    (∃ (face block count : Nat) (s : State), s.chip ≠ .off ∧ s.hubOn = true ∧ s.fwm.running = true ∧ s.faceOn face = true ∧ s.dcHolds face block count = true) ∧
    (∃ (face block : Nat) (s : State), s.chip ≠ .off ∧ s.hubOn = true ∧ (s.port face).extents.any (fun e => e.block == block && !e.accepted) = true) ∧
    (∃ (face dpa : Nat) (s : State), s.chip ≠ .off ∧ s.mailOk face = true ∧ s.mailBusy face = false ∧ s.access face dpa = none) := by
  refine ⟨?_, ?_, ?_⟩
  · exact ⟨0, 8, 1, (let s : State := open0; let s : State := s.setPort 0 { s.port 0 with reads := [], extents := [⟨8, [64, 65, 66], true, s.tick⟩] }; s), by decide +kernel⟩
  · exact ⟨0, 8, (let s : State := open0; let s : State := s.setPort 0 { s.port 0 with reads := [], extents := [⟨8, [64, 65, 66], false, s.tick⟩] }; s), by decide +kernel⟩
  · exact ⟨0, 1099511627776, (open0), by decide +kernel⟩

/-- Clauses of MailboxWritesThird have states and operands that meet their conditions. -/
theorem test_conditions_MailboxWritesThird_5 :
    (∃ (face dpa : Nat) (k : Nat) (l : Nat) (s : State), s.chip ≠ .off ∧ s.mailOk face = true ∧ s.mailBusy face = false ∧ s.access face dpa = some (k, l) ∧ s.injectFull face (dpa / 64) = false ∧ (s.port face).poison.length < 65536 ∧ s.settHome k = true ∧ (s.slab (settSlab k)).jobl = false ∧ s.repairOf k l = none ∧ s.dirty k = true ∧ s.mirrors = false ∧ (s.port face).wbuf = []) ∧
    (∃ (face dpa : Nat) (data : Line) (k : Nat) (l : Nat) (s : State), s.chip ≠ .off ∧ s.mailOk face = true ∧ s.mailBusy face = false ∧ s.access face dpa = some (k, l) ∧ s.settHome k = true ∧ (s.slab (settSlab k)).jobl = false ∧ s.repairOf k l = none ∧ s.dirty k = true ∧ s.mirrors = false ∧ (s.port face).wbuf = []) := by
  refine ⟨?_, ?_⟩
  · exact ⟨0, 0, 0, 0, (let s : State := open0; let s : State := s.setDirty 0; s), by decide +kernel⟩
  · exact ⟨0, 0, 0#512, 0, 0, (let s : State := open0; let s : State := s.setDirty 0; s), by decide +kernel⟩

/-- Clauses of SlabBank have states and operands that meet their conditions. -/
theorem test_conditions_SlabBank_1 :
    (∃ (sram : SramErr) (s1 : State) (i : Nat) (s : State), s.chip ≠ .off ∧ s1 = s.sramHit (s.rd SLB_CMD_IDX.INDEX) sram ∧ s1.hubOn = true ∧ s1.slb.ready = true ∧ s1.rd SLB_CMD_IDX.INDEX = i ∧ i < slabCount) ∧
    (∃ (sram : SramErr) (s1 : State) (i : Nat) (b : Nat) (s : State), s.chip ≠ .off ∧ s1 = s.sramHit (s.rd SLB_CMD_IDX.INDEX) sram ∧ s1.hubOn = true ∧ s1.slb.ready = true ∧ s1.rd SLB_CMD_IDX.INDEX = i ∧ i < slabCount ∧ s1.rd SLB_CMD_ARG0.ARG = 2 ^ b ∧ (b = 16 ∨ b = 17 ∨ b = 18 ∨ b = 19 ∨ (b = 13 ∧ s1.dch.mig = none))) ∧
    (∃ (sram : SramErr) (s1 : State) (i : Nat) (b : Nat) (s : State), s.chip ≠ .off ∧ s1 = s.sramHit (s.rd SLB_CMD_IDX.INDEX) sram ∧ s1.hubOn = true ∧ s1.slb.ready = true ∧ s1.rd SLB_CMD_IDX.INDEX = i ∧ i < slabCount ∧ s1.rd SLB_CMD_ARG0.ARG = 2 ^ b ∧ (b = 16 ∨ b = 17 ∨ b = 18 ∨ b = 19 ∨ (b = 13 ∧ s1.dch.mig = none))) := by
  refine ⟨?_, ?_, ?_⟩
  · exact ⟨.none, { regs := [(656384, 1#32), (1048576, 0x808#32), (1048580, 0x3b#32)], tick := 100000, chip := .opened, margin := .sable, stamp := 0, stampTick := 0, fuse := { step := 0, serial := 0, blown := 0, provKey := 0#256, devKey := 0#256 }, bed := { fneg := [], chipReset := 0 }, svy := { run := [(16777216, 0x610#32), (16777220, 15#32), (17825792, 4#32), (17825796, 0x3020100#32), (18874368, 1#32), (18874372, 0x80000#32), (18874376, 8#32), (18874384, 0x101#32), (18874388, 0x80008#32), (18874392, 8#32), (20971520, 0x8180#32), (33554432, 0x8a04000#32), (33554436, 0x4040800#32), (33554440, 0x3e80048#32), (33554448, 1#32), (33554456, 1#32), (33554464, 1#32), (33554472, 1#32), (33554480, 1#32), (33554488, 1#32), (33554496, 1#32), (33554504, 1#32), (33554512, 1#32), (34603008, 0x30010#32), (34603012, 0x40030#32), (34603016, 0x40008#32), (34603024, 0x30010#32), (34603028, 0x40030#32), (34603032, 0x40008#32), (35651584, 3#32), (50331648, 0x32402#32), (50331652, 0x648000#32), (50331656, 0xc80642f#32), (50331660, 0x100003#32), (50331664, 0x64#32), (50331688, 15#32), (50331692, 0x114#32), (50331808, 0x201013f#32), (50331812, 0x201013f#32), (50331936, 0x10#32), (67108864, 1#32), (67108868, 0x1964#32), (67108872, 0x1964#32), (67108876, 0x2bf20#32), (67108880, 0x186a00#32), (67108884, 0xcccd#32), (67108888, 0xf852e666#32), (67108892, 0x28fd99a#32), (67108896, 0xb33300f6#32), (67108900, 0x28999a#32)], has := [16, 17, 18, 20, 32, 33, 34, 48, 64], loaded := true, shadow := true, staging := [], inst := [], live := false, cmd := 0, taken := [], face := 0, pairDig := 0#128 }, slb := { slabs := [], ready := true, owned := true, baseR := 0, grants := [], ift := [], lmap := [], image := [] }, lgr := { packA := { ebase := 0, energy := 0, rc := 0, fcc := 0, dc := 0, chem := 0, ma := 0, gaugeMv := 0, temp := 0, debit := 0, saveDebit := 0, hiScans := 0, loScans := 0, valid := 0, last := none, esr := [], esrTick := 0, gaugeTick := 0 }, packB := { ebase := 0, energy := 0, rc := 0, fcc := 0, dc := 0, chem := 0, ma := 0, gaugeMv := 0, temp := 0, debit := 0, saveDebit := 0, hiScans := 0, loScans := 0, valid := 0, last := none, esr := [], esrTick := 0, gaugeTick := 0 }, sableCnt := 0, extra := false }, adm := { rr := 7, jobq := [], wear := 0, wearHaul := 0, wearMark := 0, day := 0, repTick := [], repDue := [], repMargin := 3 }, haul := { ptr := [], cover := [], bank := 0, started := 0, done := 0, short := false, half := false, waitStk := [], waitSump := [], group := 0, stripes := [], nextStripe := 0, pfw := false, pfwTick := 0 }, save := { off := false, short := false, trigTick := 0, walkTick := 0, walked := false, railCut := false, powerBack := false, vol := 0, sumpStart := [], first := [], last := [], carve := [], pads := 0, fdirty := [], anchor := none, session := 0, openAfter := 0, down := false, spent := none, lodes := [], aggs := [], staging := [], numbers := [], ctx := { rings := [], lost := false, owners := [], running := [], cached := [] } }, stk := { recs := [], lodes := [], blks := [], remaps := [], broken := [], pseq := [], head := [], openLode := [], wlWait := [], intents := [], jpend := [], jrnl := [], jseq := 0, jpage := 0, jsaved := 0, dies := [], silent := [], accs := [], applied := [], folding := false, reworking := false, degraded := 0, bootBad := [], bootMap := [], hblock := 0, lpage := 0, lfix := 0, anchors := [], apage := 0, patrolWin := 0, patrolled := [], patrolRead := [] }, saves := [], res := { fetch := [], demand := [], lastPort := 7, prefetch := [], bgPtr := [], bgBank := 0, rebuilt := false, filling := false, trigTick := 0, counted := 0, memRec := 0, holdRec := [], newLost := [], trained := false, noKeys := false, anchored := false, scanTick := 0 }, dch := { mem := [], poison := [], banks := [], repairs := [], hard := [], devCe := [], eqCe := [], eqTick := [], eqTemp := [], bootTemps := [], taps := [], ueRun := [], late := [], early := [], refBank := [], periodCe := 0, win := 0, limits := [3600, 4096, 256, 16, 64], mig := none, rankMap := [], crdMap := [], inForce := [], cfgNew := [], lastReq := [], actLimit := [], rankSr := [], eqRun := [], scrubTick := [], prev := [], ceTotal := [] }, ports := [], nv := [(0, { dirty := 0, shutdown := 0, feat := 0x7f#128, lsa := [] })], job := { rings := [], cache := [], jobs := [], pins := [], lost := false, fenceDue := 0, inits := [] }, cip := { keys := [], keyin := [], store := [], storeOk := false, ceiling := 0, storeSeq := 0, cmd := none, purge := [], stale := [], erasePend := 0, eraseSan := 0, rotate := [], misWin := [], next := 0, kat := [] }, gal := { epoch := 0#64, joinEpoch := 0#64, peerFenced := false, sent := [], held := [], fwds := [], nextTag := 0, lines := [], peerLines := [], joinStep := 0, listGot := false, rslvGot := false, lineWait := [], asks := [], nextAsk := 0, reqs := [], ctls := [], rslvSlab := 0, rslvSett := 0, rslvQuota := 0, kept := false, peerEpoch := 0#64, fullFor := 0, replays := [], lastFlit := [0, 0], lastBeat := 0, graceAt := 0, seen := 0, joinAt := 0, hello := [false, false], handover := 0, zeroing := [] }, seq := { stage := .idle, order := [], good := [], bad := [], low := [], high := [], glitch := [], glitchPrev := [], glitchWin := 0, latchAfter := false, offTick := 0, minOff := true, timed := false, offPend := false, noDnWait := false, inGood := 0, inLow := 0, pwrLow := false, pfwTick := 0, pfwLate := false, stretch := 0, pulse := 0, pg00Told := false, pg00Good := 0, pg00Bad := 0, pg00Ok := false, latchSave := false, syncDrive := false, lowTold := false, timedTick := 0 }, clk := { rising := [], tripSeen := false, refFail := false }, flt := { raised := [], irqq := [], win := [], esc := [], thrNew := [], winNew := [], rst := none, later := [], holdAfter := false }, clg := { live := [], staging := [], forming := [], phase := 0, pend := [], held := [], log := [], win := none, fetch := none, extDay := 0, railLogged := false, bootLogged := false, ffcAtWaking := [0, 0, 0], subSec := 0, resumed := false }, twb := { ports := [], alert := false, alertTick := 0, mctp := 0, sensTick := [] }, fwm := { slotA := { image := [], sealed := false, tag := 0#128, next := [], blk := 0 }, slotB := { image := [], sealed := false, tag := 0#128, next := [], blk := 0 }, active := 0, trial := false, tries := 0, staging := none, xfer := 0, xferFace := 0, running := true, alive := false, prev := 0, handoff := false, recovery := false, svyEpoch := 0, openCmds := [], waiting := [], bootTick := 0 }, pin := { testen := false, power := true, tap := .bypass, railset := 0, err := false }, pending := [], out := [], free := 0 }, 0, (let s : State := open0; let s : State := { s with slb := { s.slb with ready := true } }; s), by decide +kernel⟩
  · exact ⟨.none, { regs := [(656384, 1#32), (1048576, 0x808#32), (1048580, 0x3b#32), (8388660, 0x2000#32)], tick := 100000, chip := .opened, margin := .sable, stamp := 0, stampTick := 0, fuse := { step := 0, serial := 0, blown := 0, provKey := 0#256, devKey := 0#256 }, bed := { fneg := [], chipReset := 0 }, svy := { run := [(16777216, 0x610#32), (16777220, 15#32), (17825792, 4#32), (17825796, 0x3020100#32), (18874368, 1#32), (18874372, 0x80000#32), (18874376, 8#32), (18874384, 0x101#32), (18874388, 0x80008#32), (18874392, 8#32), (20971520, 0x8180#32), (33554432, 0x8a04000#32), (33554436, 0x4040800#32), (33554440, 0x3e80048#32), (33554448, 1#32), (33554456, 1#32), (33554464, 1#32), (33554472, 1#32), (33554480, 1#32), (33554488, 1#32), (33554496, 1#32), (33554504, 1#32), (33554512, 1#32), (34603008, 0x30010#32), (34603012, 0x40030#32), (34603016, 0x40008#32), (34603024, 0x30010#32), (34603028, 0x40030#32), (34603032, 0x40008#32), (35651584, 3#32), (50331648, 0x32402#32), (50331652, 0x648000#32), (50331656, 0xc80642f#32), (50331660, 0x100003#32), (50331664, 0x64#32), (50331688, 15#32), (50331692, 0x114#32), (50331808, 0x201013f#32), (50331812, 0x201013f#32), (50331936, 0x10#32), (67108864, 1#32), (67108868, 0x1964#32), (67108872, 0x1964#32), (67108876, 0x2bf20#32), (67108880, 0x186a00#32), (67108884, 0xcccd#32), (67108888, 0xf852e666#32), (67108892, 0x28fd99a#32), (67108896, 0xb33300f6#32), (67108900, 0x28999a#32)], has := [16, 17, 18, 20, 32, 33, 34, 48, 64], loaded := true, shadow := true, staging := [], inst := [], live := false, cmd := 0, taken := [], face := 0, pairDig := 0#128 }, slb := { slabs := [], ready := true, owned := true, baseR := 0, grants := [], ift := [], lmap := [], image := [] }, lgr := { packA := { ebase := 0, energy := 0, rc := 0, fcc := 0, dc := 0, chem := 0, ma := 0, gaugeMv := 0, temp := 0, debit := 0, saveDebit := 0, hiScans := 0, loScans := 0, valid := 0, last := none, esr := [], esrTick := 0, gaugeTick := 0 }, packB := { ebase := 0, energy := 0, rc := 0, fcc := 0, dc := 0, chem := 0, ma := 0, gaugeMv := 0, temp := 0, debit := 0, saveDebit := 0, hiScans := 0, loScans := 0, valid := 0, last := none, esr := [], esrTick := 0, gaugeTick := 0 }, sableCnt := 0, extra := false }, adm := { rr := 7, jobq := [], wear := 0, wearHaul := 0, wearMark := 0, day := 0, repTick := [], repDue := [], repMargin := 3 }, haul := { ptr := [], cover := [], bank := 0, started := 0, done := 0, short := false, half := false, waitStk := [], waitSump := [], group := 0, stripes := [], nextStripe := 0, pfw := false, pfwTick := 0 }, save := { off := false, short := false, trigTick := 0, walkTick := 0, walked := false, railCut := false, powerBack := false, vol := 0, sumpStart := [], first := [], last := [], carve := [], pads := 0, fdirty := [], anchor := none, session := 0, openAfter := 0, down := false, spent := none, lodes := [], aggs := [], staging := [], numbers := [], ctx := { rings := [], lost := false, owners := [], running := [], cached := [] } }, stk := { recs := [], lodes := [], blks := [], remaps := [], broken := [], pseq := [], head := [], openLode := [], wlWait := [], intents := [], jpend := [], jrnl := [], jseq := 0, jpage := 0, jsaved := 0, dies := [], silent := [], accs := [], applied := [], folding := false, reworking := false, degraded := 0, bootBad := [], bootMap := [], hblock := 0, lpage := 0, lfix := 0, anchors := [], apage := 0, patrolWin := 0, patrolled := [], patrolRead := [] }, saves := [], res := { fetch := [], demand := [], lastPort := 7, prefetch := [], bgPtr := [], bgBank := 0, rebuilt := false, filling := false, trigTick := 0, counted := 0, memRec := 0, holdRec := [], newLost := [], trained := false, noKeys := false, anchored := false, scanTick := 0 }, dch := { mem := [], poison := [], banks := [], repairs := [], hard := [], devCe := [], eqCe := [], eqTick := [], eqTemp := [], bootTemps := [], taps := [], ueRun := [], late := [], early := [], refBank := [], periodCe := 0, win := 0, limits := [3600, 4096, 256, 16, 64], mig := none, rankMap := [], crdMap := [], inForce := [], cfgNew := [], lastReq := [], actLimit := [], rankSr := [], eqRun := [], scrubTick := [], prev := [], ceTotal := [] }, ports := [], nv := [(0, { dirty := 0, shutdown := 0, feat := 0x7f#128, lsa := [] })], job := { rings := [], cache := [], jobs := [], pins := [], lost := false, fenceDue := 0, inits := [] }, cip := { keys := [], keyin := [], store := [], storeOk := false, ceiling := 0, storeSeq := 0, cmd := none, purge := [], stale := [], erasePend := 0, eraseSan := 0, rotate := [], misWin := [], next := 0, kat := [] }, gal := { epoch := 0#64, joinEpoch := 0#64, peerFenced := false, sent := [], held := [], fwds := [], nextTag := 0, lines := [], peerLines := [], joinStep := 0, listGot := false, rslvGot := false, lineWait := [], asks := [], nextAsk := 0, reqs := [], ctls := [], rslvSlab := 0, rslvSett := 0, rslvQuota := 0, kept := false, peerEpoch := 0#64, fullFor := 0, replays := [], lastFlit := [0, 0], lastBeat := 0, graceAt := 0, seen := 0, joinAt := 0, hello := [false, false], handover := 0, zeroing := [] }, seq := { stage := .idle, order := [], good := [], bad := [], low := [], high := [], glitch := [], glitchPrev := [], glitchWin := 0, latchAfter := false, offTick := 0, minOff := true, timed := false, offPend := false, noDnWait := false, inGood := 0, inLow := 0, pwrLow := false, pfwTick := 0, pfwLate := false, stretch := 0, pulse := 0, pg00Told := false, pg00Good := 0, pg00Bad := 0, pg00Ok := false, latchSave := false, syncDrive := false, lowTold := false, timedTick := 0 }, clk := { rising := [], tripSeen := false, refFail := false }, flt := { raised := [], irqq := [], win := [], esc := [], thrNew := [], winNew := [], rst := none, later := [], holdAfter := false }, clg := { live := [], staging := [], forming := [], phase := 0, pend := [], held := [], log := [], win := none, fetch := none, extDay := 0, railLogged := false, bootLogged := false, ffcAtWaking := [0, 0, 0], subSec := 0, resumed := false }, twb := { ports := [], alert := false, alertTick := 0, mctp := 0, sensTick := [] }, fwm := { slotA := { image := [], sealed := false, tag := 0#128, next := [], blk := 0 }, slotB := { image := [], sealed := false, tag := 0#128, next := [], blk := 0 }, active := 0, trial := false, tries := 0, staging := none, xfer := 0, xferFace := 0, running := true, alive := false, prev := 0, handoff := false, recovery := false, svyEpoch := 0, openCmds := [], waiting := [], bootTick := 0 }, pin := { testen := false, power := true, tap := .bypass, railset := 0, err := false }, pending := [], out := [], free := 0 }, 0, 13, (let s : State := open0; let s : State := { s.wr SLB_CMD_ARG0.ARG (2 ^ ([13, 16, 17, 18, 19].getD (s.free % 5) 13)) with dch := { s.dch with mig := none } }; s), by decide +kernel⟩
  · exact ⟨.none, { regs := [(656384, 1#32), (1048576, 0x808#32), (1048580, 0x3b#32), (8388660, 0x2000#32)], tick := 100000, chip := .opened, margin := .sable, stamp := 0, stampTick := 0, fuse := { step := 0, serial := 0, blown := 0, provKey := 0#256, devKey := 0#256 }, bed := { fneg := [], chipReset := 0 }, svy := { run := [(16777216, 0x610#32), (16777220, 15#32), (17825792, 4#32), (17825796, 0x3020100#32), (18874368, 1#32), (18874372, 0x80000#32), (18874376, 8#32), (18874384, 0x101#32), (18874388, 0x80008#32), (18874392, 8#32), (20971520, 0x8180#32), (33554432, 0x8a04000#32), (33554436, 0x4040800#32), (33554440, 0x3e80048#32), (33554448, 1#32), (33554456, 1#32), (33554464, 1#32), (33554472, 1#32), (33554480, 1#32), (33554488, 1#32), (33554496, 1#32), (33554504, 1#32), (33554512, 1#32), (34603008, 0x30010#32), (34603012, 0x40030#32), (34603016, 0x40008#32), (34603024, 0x30010#32), (34603028, 0x40030#32), (34603032, 0x40008#32), (35651584, 3#32), (50331648, 0x32402#32), (50331652, 0x648000#32), (50331656, 0xc80642f#32), (50331660, 0x100003#32), (50331664, 0x64#32), (50331688, 15#32), (50331692, 0x114#32), (50331808, 0x201013f#32), (50331812, 0x201013f#32), (50331936, 0x10#32), (67108864, 1#32), (67108868, 0x1964#32), (67108872, 0x1964#32), (67108876, 0x2bf20#32), (67108880, 0x186a00#32), (67108884, 0xcccd#32), (67108888, 0xf852e666#32), (67108892, 0x28fd99a#32), (67108896, 0xb33300f6#32), (67108900, 0x28999a#32)], has := [16, 17, 18, 20, 32, 33, 34, 48, 64], loaded := true, shadow := true, staging := [], inst := [], live := false, cmd := 0, taken := [], face := 0, pairDig := 0#128 }, slb := { slabs := [], ready := true, owned := true, baseR := 0, grants := [], ift := [], lmap := [], image := [] }, lgr := { packA := { ebase := 0, energy := 0, rc := 0, fcc := 0, dc := 0, chem := 0, ma := 0, gaugeMv := 0, temp := 0, debit := 0, saveDebit := 0, hiScans := 0, loScans := 0, valid := 0, last := none, esr := [], esrTick := 0, gaugeTick := 0 }, packB := { ebase := 0, energy := 0, rc := 0, fcc := 0, dc := 0, chem := 0, ma := 0, gaugeMv := 0, temp := 0, debit := 0, saveDebit := 0, hiScans := 0, loScans := 0, valid := 0, last := none, esr := [], esrTick := 0, gaugeTick := 0 }, sableCnt := 0, extra := false }, adm := { rr := 7, jobq := [], wear := 0, wearHaul := 0, wearMark := 0, day := 0, repTick := [], repDue := [], repMargin := 3 }, haul := { ptr := [], cover := [], bank := 0, started := 0, done := 0, short := false, half := false, waitStk := [], waitSump := [], group := 0, stripes := [], nextStripe := 0, pfw := false, pfwTick := 0 }, save := { off := false, short := false, trigTick := 0, walkTick := 0, walked := false, railCut := false, powerBack := false, vol := 0, sumpStart := [], first := [], last := [], carve := [], pads := 0, fdirty := [], anchor := none, session := 0, openAfter := 0, down := false, spent := none, lodes := [], aggs := [], staging := [], numbers := [], ctx := { rings := [], lost := false, owners := [], running := [], cached := [] } }, stk := { recs := [], lodes := [], blks := [], remaps := [], broken := [], pseq := [], head := [], openLode := [], wlWait := [], intents := [], jpend := [], jrnl := [], jseq := 0, jpage := 0, jsaved := 0, dies := [], silent := [], accs := [], applied := [], folding := false, reworking := false, degraded := 0, bootBad := [], bootMap := [], hblock := 0, lpage := 0, lfix := 0, anchors := [], apage := 0, patrolWin := 0, patrolled := [], patrolRead := [] }, saves := [], res := { fetch := [], demand := [], lastPort := 7, prefetch := [], bgPtr := [], bgBank := 0, rebuilt := false, filling := false, trigTick := 0, counted := 0, memRec := 0, holdRec := [], newLost := [], trained := false, noKeys := false, anchored := false, scanTick := 0 }, dch := { mem := [], poison := [], banks := [], repairs := [], hard := [], devCe := [], eqCe := [], eqTick := [], eqTemp := [], bootTemps := [], taps := [], ueRun := [], late := [], early := [], refBank := [], periodCe := 0, win := 0, limits := [3600, 4096, 256, 16, 64], mig := none, rankMap := [], crdMap := [], inForce := [], cfgNew := [], lastReq := [], actLimit := [], rankSr := [], eqRun := [], scrubTick := [], prev := [], ceTotal := [] }, ports := [], nv := [(0, { dirty := 0, shutdown := 0, feat := 0x7f#128, lsa := [] })], job := { rings := [], cache := [], jobs := [], pins := [], lost := false, fenceDue := 0, inits := [] }, cip := { keys := [], keyin := [], store := [], storeOk := false, ceiling := 0, storeSeq := 0, cmd := none, purge := [], stale := [], erasePend := 0, eraseSan := 0, rotate := [], misWin := [], next := 0, kat := [] }, gal := { epoch := 0#64, joinEpoch := 0#64, peerFenced := false, sent := [], held := [], fwds := [], nextTag := 0, lines := [], peerLines := [], joinStep := 0, listGot := false, rslvGot := false, lineWait := [], asks := [], nextAsk := 0, reqs := [], ctls := [], rslvSlab := 0, rslvSett := 0, rslvQuota := 0, kept := false, peerEpoch := 0#64, fullFor := 0, replays := [], lastFlit := [0, 0], lastBeat := 0, graceAt := 0, seen := 0, joinAt := 0, hello := [false, false], handover := 0, zeroing := [] }, seq := { stage := .idle, order := [], good := [], bad := [], low := [], high := [], glitch := [], glitchPrev := [], glitchWin := 0, latchAfter := false, offTick := 0, minOff := true, timed := false, offPend := false, noDnWait := false, inGood := 0, inLow := 0, pwrLow := false, pfwTick := 0, pfwLate := false, stretch := 0, pulse := 0, pg00Told := false, pg00Good := 0, pg00Bad := 0, pg00Ok := false, latchSave := false, syncDrive := false, lowTold := false, timedTick := 0 }, clk := { rising := [], tripSeen := false, refFail := false }, flt := { raised := [], irqq := [], win := [], esc := [], thrNew := [], winNew := [], rst := none, later := [], holdAfter := false }, clg := { live := [], staging := [], forming := [], phase := 0, pend := [], held := [], log := [], win := none, fetch := none, extDay := 0, railLogged := false, bootLogged := false, ffcAtWaking := [0, 0, 0], subSec := 0, resumed := false }, twb := { ports := [], alert := false, alertTick := 0, mctp := 0, sensTick := [] }, fwm := { slotA := { image := [], sealed := false, tag := 0#128, next := [], blk := 0 }, slotB := { image := [], sealed := false, tag := 0#128, next := [], blk := 0 }, active := 0, trial := false, tries := 0, staging := none, xfer := 0, xferFace := 0, running := true, alive := false, prev := 0, handoff := false, recovery := false, svyEpoch := 0, openCmds := [], waiting := [], bootTick := 0 }, pin := { testen := false, power := true, tap := .bypass, railset := 0, err := false }, pending := [], out := [], free := 0 }, 0, 13, (let s : State := open0; let s : State := { s.wr SLB_CMD_ARG0.ARG (2 ^ ([13, 16, 17, 18, 19].getD (s.free % 5) 13)) with dch := { s.dch with mig := none } }; s), by decide +kernel⟩

/-- Clauses of SlabBank have states and operands that meet their conditions. -/
theorem test_conditions_SlabBank_2 :
    (∃ (sram : SramErr) (s1 : State) (i : Nat) (v : Nat) (s : State), s.chip ≠ .off ∧ s1 = s.sramHit (s.rd SLB_CMD_IDX.INDEX) sram ∧ s1.hubOn = true ∧ s1.slb.ready = true ∧ s1.rd SLB_CMD_IDX.INDEX = i ∧ i < slabCount ∧ s1.chip = .waking ∧ v < 3 ∧ s1.rd SLB_CMD_ARG0.ARG = v * 8) ∧
    (∃ (sram : SramErr) (s1 : State) (i : Nat) (s : State), s.chip ≠ .off ∧ s1 = s.sramHit (s.rd SLB_CMD_IDX.INDEX) sram ∧ s1.hubOn = true ∧ s1.slb.ready = true ∧ s1.rd SLB_CMD_IDX.INDEX = i ∧ i < slabCount ∧ s1.slbFree = true) ∧
    (∃ (sram : SramErr) (s1 : State) (i : Nat) (v : Nat) (s : State), s.chip ≠ .off ∧ s1 = s.sramHit (s.rd SLB_CMD_IDX.INDEX) sram ∧ s1.hubOn = true ∧ s1.slb.ready = true ∧ s1.rd SLB_CMD_IDX.INDEX = i ∧ i < slabCount ∧ s1.inPool i = true ∧ s1.slabZero i = true ∧ (s1.slab i).owner = 7 ∧ s1.rd SLB_CMD_ARG0.ARG % 8 = v ∧ v < 6 ∧ s1.faceOn v = true) := by
  refine ⟨?_, ?_, ?_⟩
  · exact ⟨.none, { regs := [(656384, 1#32), (1048576, 0x808#32), (1048580, 0x3b#32)], tick := 100000, chip := .waking, margin := .sable, stamp := 0, stampTick := 0, fuse := { step := 0, serial := 0, blown := 0, provKey := 0#256, devKey := 0#256 }, bed := { fneg := [], chipReset := 0 }, svy := { run := [(16777216, 0x610#32), (16777220, 15#32), (17825792, 4#32), (17825796, 0x3020100#32), (18874368, 1#32), (18874372, 0x80000#32), (18874376, 8#32), (18874384, 0x101#32), (18874388, 0x80008#32), (18874392, 8#32), (20971520, 0x8180#32), (33554432, 0x8a04000#32), (33554436, 0x4040800#32), (33554440, 0x3e80048#32), (33554448, 1#32), (33554456, 1#32), (33554464, 1#32), (33554472, 1#32), (33554480, 1#32), (33554488, 1#32), (33554496, 1#32), (33554504, 1#32), (33554512, 1#32), (34603008, 0x30010#32), (34603012, 0x40030#32), (34603016, 0x40008#32), (34603024, 0x30010#32), (34603028, 0x40030#32), (34603032, 0x40008#32), (35651584, 3#32), (50331648, 0x32402#32), (50331652, 0x648000#32), (50331656, 0xc80642f#32), (50331660, 0x100003#32), (50331664, 0x64#32), (50331688, 15#32), (50331692, 0x114#32), (50331808, 0x201013f#32), (50331812, 0x201013f#32), (50331936, 0x10#32), (67108864, 1#32), (67108868, 0x1964#32), (67108872, 0x1964#32), (67108876, 0x2bf20#32), (67108880, 0x186a00#32), (67108884, 0xcccd#32), (67108888, 0xf852e666#32), (67108892, 0x28fd99a#32), (67108896, 0xb33300f6#32), (67108900, 0x28999a#32)], has := [16, 17, 18, 20, 32, 33, 34, 48, 64], loaded := true, shadow := true, staging := [], inst := [], live := false, cmd := 0, taken := [], face := 0, pairDig := 0#128 }, slb := { slabs := [], ready := true, owned := true, baseR := 0, grants := [], ift := [], lmap := [], image := [] }, lgr := { packA := { ebase := 0, energy := 0, rc := 0, fcc := 0, dc := 0, chem := 0, ma := 0, gaugeMv := 0, temp := 0, debit := 0, saveDebit := 0, hiScans := 0, loScans := 0, valid := 0, last := none, esr := [], esrTick := 0, gaugeTick := 0 }, packB := { ebase := 0, energy := 0, rc := 0, fcc := 0, dc := 0, chem := 0, ma := 0, gaugeMv := 0, temp := 0, debit := 0, saveDebit := 0, hiScans := 0, loScans := 0, valid := 0, last := none, esr := [], esrTick := 0, gaugeTick := 0 }, sableCnt := 0, extra := false }, adm := { rr := 7, jobq := [], wear := 0, wearHaul := 0, wearMark := 0, day := 0, repTick := [], repDue := [], repMargin := 3 }, haul := { ptr := [], cover := [], bank := 0, started := 0, done := 0, short := false, half := false, waitStk := [], waitSump := [], group := 0, stripes := [], nextStripe := 0, pfw := false, pfwTick := 0 }, save := { off := false, short := false, trigTick := 0, walkTick := 0, walked := false, railCut := false, powerBack := false, vol := 0, sumpStart := [], first := [], last := [], carve := [], pads := 0, fdirty := [], anchor := none, session := 0, openAfter := 0, down := false, spent := none, lodes := [], aggs := [], staging := [], numbers := [], ctx := { rings := [], lost := false, owners := [], running := [], cached := [] } }, stk := { recs := [], lodes := [], blks := [], remaps := [], broken := [], pseq := [], head := [], openLode := [], wlWait := [], intents := [], jpend := [], jrnl := [], jseq := 0, jpage := 0, jsaved := 0, dies := [], silent := [], accs := [], applied := [], folding := false, reworking := false, degraded := 0, bootBad := [], bootMap := [], hblock := 0, lpage := 0, lfix := 0, anchors := [], apage := 0, patrolWin := 0, patrolled := [], patrolRead := [] }, saves := [], res := { fetch := [], demand := [], lastPort := 7, prefetch := [], bgPtr := [], bgBank := 0, rebuilt := false, filling := false, trigTick := 0, counted := 0, memRec := 0, holdRec := [], newLost := [], trained := false, noKeys := false, anchored := false, scanTick := 0 }, dch := { mem := [], poison := [], banks := [], repairs := [], hard := [], devCe := [], eqCe := [], eqTick := [], eqTemp := [], bootTemps := [], taps := [], ueRun := [], late := [], early := [], refBank := [], periodCe := 0, win := 0, limits := [3600, 4096, 256, 16, 64], mig := none, rankMap := [], crdMap := [], inForce := [], cfgNew := [], lastReq := [], actLimit := [], rankSr := [], eqRun := [], scrubTick := [], prev := [], ceTotal := [] }, ports := [], nv := [(0, { dirty := 0, shutdown := 0, feat := 0x7f#128, lsa := [] })], job := { rings := [], cache := [], jobs := [], pins := [], lost := false, fenceDue := 0, inits := [] }, cip := { keys := [], keyin := [], store := [], storeOk := false, ceiling := 0, storeSeq := 0, cmd := none, purge := [], stale := [], erasePend := 0, eraseSan := 0, rotate := [], misWin := [], next := 0, kat := [] }, gal := { epoch := 0#64, joinEpoch := 0#64, peerFenced := false, sent := [], held := [], fwds := [], nextTag := 0, lines := [], peerLines := [], joinStep := 0, listGot := false, rslvGot := false, lineWait := [], asks := [], nextAsk := 0, reqs := [], ctls := [], rslvSlab := 0, rslvSett := 0, rslvQuota := 0, kept := false, peerEpoch := 0#64, fullFor := 0, replays := [], lastFlit := [0, 0], lastBeat := 0, graceAt := 0, seen := 0, joinAt := 0, hello := [false, false], handover := 0, zeroing := [] }, seq := { stage := .idle, order := [], good := [], bad := [], low := [], high := [], glitch := [], glitchPrev := [], glitchWin := 0, latchAfter := false, offTick := 0, minOff := true, timed := false, offPend := false, noDnWait := false, inGood := 0, inLow := 0, pwrLow := false, pfwTick := 0, pfwLate := false, stretch := 0, pulse := 0, pg00Told := false, pg00Good := 0, pg00Bad := 0, pg00Ok := false, latchSave := false, syncDrive := false, lowTold := false, timedTick := 0 }, clk := { rising := [], tripSeen := false, refFail := false }, flt := { raised := [], irqq := [], win := [], esc := [], thrNew := [], winNew := [], rst := none, later := [], holdAfter := false }, clg := { live := [], staging := [], forming := [], phase := 0, pend := [], held := [], log := [], win := none, fetch := none, extDay := 0, railLogged := false, bootLogged := false, ffcAtWaking := [0, 0, 0], subSec := 0, resumed := false }, twb := { ports := [], alert := false, alertTick := 0, mctp := 0, sensTick := [] }, fwm := { slotA := { image := [], sealed := false, tag := 0#128, next := [], blk := 0 }, slotB := { image := [], sealed := false, tag := 0#128, next := [], blk := 0 }, active := 0, trial := false, tries := 0, staging := none, xfer := 0, xferFace := 0, running := true, alive := false, prev := 0, handoff := false, recovery := false, svyEpoch := 0, openCmds := [], waiting := [], bootTick := 0 }, pin := { testen := false, power := true, tap := .bypass, railset := 0, err := false }, pending := [], out := [], free := 0 }, 0, 0, (let s : State := open0; let s : State := { s with slb := { s.slb with ready := true } }; let s : State := { s with chip := .waking }; s), by decide +kernel⟩
  · exact ⟨.none, { regs := [(656384, 1#32), (1048576, 0x808#32), (1048580, 0x3b#32)], tick := 100000, chip := .waking, margin := .sable, stamp := 0, stampTick := 0, fuse := { step := 0, serial := 0, blown := 0, provKey := 0#256, devKey := 0#256 }, bed := { fneg := [], chipReset := 0 }, svy := { run := [(16777216, 0x610#32), (16777220, 15#32), (17825792, 4#32), (17825796, 0x3020100#32), (18874368, 1#32), (18874372, 0x80000#32), (18874376, 8#32), (18874384, 0x101#32), (18874388, 0x80008#32), (18874392, 8#32), (20971520, 0x8180#32), (33554432, 0x8a04000#32), (33554436, 0x4040800#32), (33554440, 0x3e80048#32), (33554448, 1#32), (33554456, 1#32), (33554464, 1#32), (33554472, 1#32), (33554480, 1#32), (33554488, 1#32), (33554496, 1#32), (33554504, 1#32), (33554512, 1#32), (34603008, 0x30010#32), (34603012, 0x40030#32), (34603016, 0x40008#32), (34603024, 0x30010#32), (34603028, 0x40030#32), (34603032, 0x40008#32), (35651584, 3#32), (50331648, 0x32402#32), (50331652, 0x648000#32), (50331656, 0xc80642f#32), (50331660, 0x100003#32), (50331664, 0x64#32), (50331688, 15#32), (50331692, 0x114#32), (50331808, 0x201013f#32), (50331812, 0x201013f#32), (50331936, 0x10#32), (67108864, 1#32), (67108868, 0x1964#32), (67108872, 0x1964#32), (67108876, 0x2bf20#32), (67108880, 0x186a00#32), (67108884, 0xcccd#32), (67108888, 0xf852e666#32), (67108892, 0x28fd99a#32), (67108896, 0xb33300f6#32), (67108900, 0x28999a#32)], has := [16, 17, 18, 20, 32, 33, 34, 48, 64], loaded := true, shadow := true, staging := [], inst := [], live := false, cmd := 0, taken := [], face := 0, pairDig := 0#128 }, slb := { slabs := [], ready := true, owned := true, baseR := 0, grants := [], ift := [], lmap := [], image := [] }, lgr := { packA := { ebase := 0, energy := 0, rc := 0, fcc := 0, dc := 0, chem := 0, ma := 0, gaugeMv := 0, temp := 0, debit := 0, saveDebit := 0, hiScans := 0, loScans := 0, valid := 0, last := none, esr := [], esrTick := 0, gaugeTick := 0 }, packB := { ebase := 0, energy := 0, rc := 0, fcc := 0, dc := 0, chem := 0, ma := 0, gaugeMv := 0, temp := 0, debit := 0, saveDebit := 0, hiScans := 0, loScans := 0, valid := 0, last := none, esr := [], esrTick := 0, gaugeTick := 0 }, sableCnt := 0, extra := false }, adm := { rr := 7, jobq := [], wear := 0, wearHaul := 0, wearMark := 0, day := 0, repTick := [], repDue := [], repMargin := 3 }, haul := { ptr := [], cover := [], bank := 0, started := 0, done := 0, short := false, half := false, waitStk := [], waitSump := [], group := 0, stripes := [], nextStripe := 0, pfw := false, pfwTick := 0 }, save := { off := false, short := false, trigTick := 0, walkTick := 0, walked := false, railCut := false, powerBack := false, vol := 0, sumpStart := [], first := [], last := [], carve := [], pads := 0, fdirty := [], anchor := none, session := 0, openAfter := 0, down := false, spent := none, lodes := [], aggs := [], staging := [], numbers := [], ctx := { rings := [], lost := false, owners := [], running := [], cached := [] } }, stk := { recs := [], lodes := [], blks := [], remaps := [], broken := [], pseq := [], head := [], openLode := [], wlWait := [], intents := [], jpend := [], jrnl := [], jseq := 0, jpage := 0, jsaved := 0, dies := [], silent := [], accs := [], applied := [], folding := false, reworking := false, degraded := 0, bootBad := [], bootMap := [], hblock := 0, lpage := 0, lfix := 0, anchors := [], apage := 0, patrolWin := 0, patrolled := [], patrolRead := [] }, saves := [], res := { fetch := [], demand := [], lastPort := 7, prefetch := [], bgPtr := [], bgBank := 0, rebuilt := false, filling := false, trigTick := 0, counted := 0, memRec := 0, holdRec := [], newLost := [], trained := false, noKeys := false, anchored := false, scanTick := 0 }, dch := { mem := [], poison := [], banks := [], repairs := [], hard := [], devCe := [], eqCe := [], eqTick := [], eqTemp := [], bootTemps := [], taps := [], ueRun := [], late := [], early := [], refBank := [], periodCe := 0, win := 0, limits := [3600, 4096, 256, 16, 64], mig := none, rankMap := [], crdMap := [], inForce := [], cfgNew := [], lastReq := [], actLimit := [], rankSr := [], eqRun := [], scrubTick := [], prev := [], ceTotal := [] }, ports := [], nv := [(0, { dirty := 0, shutdown := 0, feat := 0x7f#128, lsa := [] })], job := { rings := [], cache := [], jobs := [], pins := [], lost := false, fenceDue := 0, inits := [] }, cip := { keys := [], keyin := [], store := [], storeOk := false, ceiling := 0, storeSeq := 0, cmd := none, purge := [], stale := [], erasePend := 0, eraseSan := 0, rotate := [], misWin := [], next := 0, kat := [] }, gal := { epoch := 0#64, joinEpoch := 0#64, peerFenced := false, sent := [], held := [], fwds := [], nextTag := 0, lines := [], peerLines := [], joinStep := 0, listGot := false, rslvGot := false, lineWait := [], asks := [], nextAsk := 0, reqs := [], ctls := [], rslvSlab := 0, rslvSett := 0, rslvQuota := 0, kept := false, peerEpoch := 0#64, fullFor := 0, replays := [], lastFlit := [0, 0], lastBeat := 0, graceAt := 0, seen := 0, joinAt := 0, hello := [false, false], handover := 0, zeroing := [] }, seq := { stage := .idle, order := [], good := [], bad := [], low := [], high := [], glitch := [], glitchPrev := [], glitchWin := 0, latchAfter := false, offTick := 0, minOff := true, timed := false, offPend := false, noDnWait := false, inGood := 0, inLow := 0, pwrLow := false, pfwTick := 0, pfwLate := false, stretch := 0, pulse := 0, pg00Told := false, pg00Good := 0, pg00Bad := 0, pg00Ok := false, latchSave := false, syncDrive := false, lowTold := false, timedTick := 0 }, clk := { rising := [], tripSeen := false, refFail := false }, flt := { raised := [], irqq := [], win := [], esc := [], thrNew := [], winNew := [], rst := none, later := [], holdAfter := false }, clg := { live := [], staging := [], forming := [], phase := 0, pend := [], held := [], log := [], win := none, fetch := none, extDay := 0, railLogged := false, bootLogged := false, ffcAtWaking := [0, 0, 0], subSec := 0, resumed := false }, twb := { ports := [], alert := false, alertTick := 0, mctp := 0, sensTick := [] }, fwm := { slotA := { image := [], sealed := false, tag := 0#128, next := [], blk := 0 }, slotB := { image := [], sealed := false, tag := 0#128, next := [], blk := 0 }, active := 0, trial := false, tries := 0, staging := none, xfer := 0, xferFace := 0, running := true, alive := false, prev := 0, handoff := false, recovery := false, svyEpoch := 0, openCmds := [], waiting := [], bootTick := 0 }, pin := { testen := false, power := true, tap := .bypass, railset := 0, err := false }, pending := [], out := [], free := 0 }, 0, (let s : State := open0; let s : State := { s with slb := { s.slb with ready := true } }; let s : State := { s with chip := .waking }; s), by decide +kernel⟩
  · exact ⟨.none, { regs := [(656384, 1#32), (1048576, 0x808#32), (1048580, 0x3b#32), (8388656, 0x30400#32), (8388660, 1#32)], tick := 100000, chip := .opened, margin := .sable, stamp := 0, stampTick := 0, fuse := { step := 0, serial := 0, blown := 0, provKey := 0#256, devKey := 0#256 }, bed := { fneg := [], chipReset := 0 }, svy := { run := [(16777216, 0x610#32), (16777220, 15#32), (17825792, 4#32), (17825796, 0x3020100#32), (18874368, 1#32), (18874372, 0x80000#32), (18874376, 0x80008#32), (18874384, 0x101#32), (18874388, 0x80008#32), (18874392, 8#32), (19922944, 1#32), (19922952, 0x80040#32), (20971520, 0x8180#32), (33554432, 0x8a04000#32), (33554436, 0x4040800#32), (33554440, 0x3e80048#32), (33554448, 1#32), (33554456, 1#32), (33554464, 1#32), (33554472, 1#32), (33554480, 1#32), (33554488, 1#32), (33554496, 1#32), (33554504, 1#32), (33554512, 1#32), (34603008, 0x30010#32), (34603012, 0x40030#32), (34603016, 0x40008#32), (34603024, 0x30010#32), (34603028, 0x40030#32), (34603032, 0x40008#32), (35651584, 3#32), (50331648, 0x32402#32), (50331652, 0x648000#32), (50331656, 0xc80642f#32), (50331660, 0x100003#32), (50331664, 0x64#32), (50331688, 15#32), (50331692, 0x114#32), (50331808, 0x201013f#32), (50331812, 0x201013f#32), (50331936, 0x10#32), (67108864, 1#32), (67108868, 0x1964#32), (67108872, 0x1964#32), (67108876, 0x2bf20#32), (67108880, 0x186a00#32), (67108884, 0xcccd#32), (67108888, 0xf852e666#32), (67108892, 0x28fd99a#32), (67108896, 0xb33300f6#32), (67108900, 0x28999a#32)], has := [19, 16, 17, 18, 20, 32, 33, 34, 48, 64], loaded := true, shadow := true, staging := [], inst := [], live := false, cmd := 0, taken := [], face := 0, pairDig := 0#128 }, slb := { slabs := [], ready := true, owned := true, baseR := 0, grants := [], ift := [], lmap := [], image := [] }, lgr := { packA := { ebase := 0, energy := 0, rc := 0, fcc := 0, dc := 0, chem := 0, ma := 0, gaugeMv := 0, temp := 0, debit := 0, saveDebit := 0, hiScans := 0, loScans := 0, valid := 0, last := none, esr := [], esrTick := 0, gaugeTick := 0 }, packB := { ebase := 0, energy := 0, rc := 0, fcc := 0, dc := 0, chem := 0, ma := 0, gaugeMv := 0, temp := 0, debit := 0, saveDebit := 0, hiScans := 0, loScans := 0, valid := 0, last := none, esr := [], esrTick := 0, gaugeTick := 0 }, sableCnt := 0, extra := false }, adm := { rr := 7, jobq := [], wear := 0, wearHaul := 0, wearMark := 0, day := 0, repTick := [], repDue := [], repMargin := 3 }, haul := { ptr := [], cover := [], bank := 0, started := 0, done := 0, short := false, half := false, waitStk := [], waitSump := [], group := 0, stripes := [], nextStripe := 0, pfw := false, pfwTick := 0 }, save := { off := false, short := false, trigTick := 0, walkTick := 0, walked := false, railCut := false, powerBack := false, vol := 0, sumpStart := [], first := [], last := [], carve := [], pads := 0, fdirty := [], anchor := none, session := 0, openAfter := 0, down := false, spent := none, lodes := [], aggs := [], staging := [], numbers := [], ctx := { rings := [], lost := false, owners := [], running := [], cached := [] } }, stk := { recs := [], lodes := [], blks := [], remaps := [], broken := [], pseq := [], head := [], openLode := [], wlWait := [], intents := [], jpend := [], jrnl := [], jseq := 0, jpage := 0, jsaved := 0, dies := [], silent := [], accs := [], applied := [], folding := false, reworking := false, degraded := 0, bootBad := [], bootMap := [], hblock := 0, lpage := 0, lfix := 0, anchors := [], apage := 0, patrolWin := 0, patrolled := [], patrolRead := [] }, saves := [], res := { fetch := [], demand := [], lastPort := 7, prefetch := [], bgPtr := [], bgBank := 0, rebuilt := false, filling := false, trigTick := 0, counted := 0, memRec := 0, holdRec := [], newLost := [], trained := false, noKeys := false, anchored := false, scanTick := 0 }, dch := { mem := [], poison := [], banks := [], repairs := [], hard := [], devCe := [], eqCe := [], eqTick := [], eqTemp := [], bootTemps := [], taps := [], ueRun := [], late := [], early := [], refBank := [], periodCe := 0, win := 0, limits := [3600, 4096, 256, 16, 64], mig := none, rankMap := [], crdMap := [], inForce := [], cfgNew := [], lastReq := [], actLimit := [], rankSr := [], eqRun := [], scrubTick := [], prev := [], ceTotal := [] }, ports := [], nv := [(0, { dirty := 0, shutdown := 0, feat := 0x7f#128, lsa := [] })], job := { rings := [], cache := [], jobs := [], pins := [], lost := false, fenceDue := 0, inits := [] }, cip := { keys := [], keyin := [], store := [], storeOk := false, ceiling := 0, storeSeq := 0, cmd := none, purge := [], stale := [], erasePend := 0, eraseSan := 0, rotate := [], misWin := [], next := 0, kat := [] }, gal := { epoch := 0#64, joinEpoch := 0#64, peerFenced := false, sent := [], held := [], fwds := [], nextTag := 0, lines := [], peerLines := [], joinStep := 0, listGot := false, rslvGot := false, lineWait := [], asks := [], nextAsk := 0, reqs := [], ctls := [], rslvSlab := 0, rslvSett := 0, rslvQuota := 0, kept := false, peerEpoch := 0#64, fullFor := 0, replays := [], lastFlit := [0, 0], lastBeat := 0, graceAt := 0, seen := 0, joinAt := 0, hello := [false, false], handover := 0, zeroing := [] }, seq := { stage := .idle, order := [], good := [], bad := [], low := [], high := [], glitch := [], glitchPrev := [], glitchWin := 0, latchAfter := false, offTick := 0, minOff := true, timed := false, offPend := false, noDnWait := false, inGood := 0, inLow := 0, pwrLow := false, pfwTick := 0, pfwLate := false, stretch := 0, pulse := 0, pg00Told := false, pg00Good := 0, pg00Bad := 0, pg00Ok := false, latchSave := false, syncDrive := false, lowTold := false, timedTick := 0 }, clk := { rising := [], tripSeen := false, refFail := false }, flt := { raised := [], irqq := [], win := [], esc := [], thrNew := [], winNew := [], rst := none, later := [], holdAfter := false }, clg := { live := [], staging := [], forming := [], phase := 0, pend := [], held := [], log := [], win := none, fetch := none, extDay := 0, railLogged := false, bootLogged := false, ffcAtWaking := [0, 0, 0], subSec := 0, resumed := false }, twb := { ports := [], alert := false, alertTick := 0, mctp := 0, sensTick := [] }, fwm := { slotA := { image := [], sealed := false, tag := 0#128, next := [], blk := 0 }, slotB := { image := [], sealed := false, tag := 0#128, next := [], blk := 0 }, active := 0, trial := false, tries := 0, staging := none, xfer := 0, xferFace := 0, running := true, alive := false, prev := 0, handoff := false, recovery := false, svyEpoch := 0, openCmds := [], waiting := [], bootTick := 0 }, pin := { testen := false, power := true, tap := .bypass, railset := 0, err := false }, pending := [], out := [], free := 0 }, 197632, 1, (let s : State := open0; let s : State := let s : State := { s.setPort 0 { s.port 0 with extents := [] } with svy := { s.svy with has := 0x13 :: s.svy.has, run := [(0x1300000, (1 : Word)), (0x1300008, BitVec.ofNat 32 (64 + 65536 * 8)), (0x1200008, BitVec.ofNat 32 (8 + 65536 * 8))].foldl (fun m p => SMap.put (0 : Word) p.1 p.2 m) s.svy.run } }; (s.wr SLB_CMD_ARG0.ARG 1).wr SLB_CMD_IDX.INDEX (s.blockSlab 64 3); s), by decide +kernel⟩

/-- Clauses of SlabBank have states and operands that meet their conditions. -/
theorem test_conditions_SlabBank_3 :
    (∃ (sram : SramErr) (s1 : State) (i : Nat) (s : State), s.chip ≠ .off ∧ s1 = s.sramHit (s.rd SLB_CMD_IDX.INDEX) sram ∧ s1.hubOn = true ∧ s1.slb.ready = true ∧ s1.rd SLB_CMD_IDX.INDEX = i ∧ i < slabCount ∧ s1.rd SLB_CMD_ARG0.ARG % 8 = (s1.slab i).owner) ∧
    (∃ (slab : Nat) (sram : SramErr) (s1 : State) (s : State), s.chip ≠ .off ∧ s1 = s.sramAll [(slab, sram)] ∧ s1.hubOn = true ∧ slab < slabCount) ∧
    (∃ (s : State), s.chip ≠ .off ∧ s.hubOn = true) := by
  refine ⟨?_, ?_, ?_⟩
  · exact ⟨.none, { regs := [(656384, 1#32), (1048576, 0x808#32), (1048580, 0x3b#32)], tick := 100000, chip := .opened, margin := .sable, stamp := 0, stampTick := 0, fuse := { step := 0, serial := 0, blown := 0, provKey := 0#256, devKey := 0#256 }, bed := { fneg := [], chipReset := 0 }, svy := { run := [(16777216, 0x610#32), (16777220, 15#32), (17825792, 4#32), (17825796, 0x3020100#32), (18874368, 1#32), (18874372, 0x80000#32), (18874376, 8#32), (18874384, 0x101#32), (18874388, 0x80008#32), (18874392, 8#32), (20971520, 0x8180#32), (33554432, 0x8a04000#32), (33554436, 0x4040800#32), (33554440, 0x3e80048#32), (33554448, 1#32), (33554456, 1#32), (33554464, 1#32), (33554472, 1#32), (33554480, 1#32), (33554488, 1#32), (33554496, 1#32), (33554504, 1#32), (33554512, 1#32), (34603008, 0x30010#32), (34603012, 0x40030#32), (34603016, 0x40008#32), (34603024, 0x30010#32), (34603028, 0x40030#32), (34603032, 0x40008#32), (35651584, 3#32), (50331648, 0x32402#32), (50331652, 0x648000#32), (50331656, 0xc80642f#32), (50331660, 0x100003#32), (50331664, 0x64#32), (50331688, 15#32), (50331692, 0x114#32), (50331808, 0x201013f#32), (50331812, 0x201013f#32), (50331936, 0x10#32), (67108864, 1#32), (67108868, 0x1964#32), (67108872, 0x1964#32), (67108876, 0x2bf20#32), (67108880, 0x186a00#32), (67108884, 0xcccd#32), (67108888, 0xf852e666#32), (67108892, 0x28fd99a#32), (67108896, 0xb33300f6#32), (67108900, 0x28999a#32)], has := [16, 17, 18, 20, 32, 33, 34, 48, 64], loaded := true, shadow := true, staging := [], inst := [], live := false, cmd := 0, taken := [], face := 0, pairDig := 0#128 }, slb := { slabs := [], ready := true, owned := true, baseR := 0, grants := [], ift := [], lmap := [], image := [] }, lgr := { packA := { ebase := 0, energy := 0, rc := 0, fcc := 0, dc := 0, chem := 0, ma := 0, gaugeMv := 0, temp := 0, debit := 0, saveDebit := 0, hiScans := 0, loScans := 0, valid := 0, last := none, esr := [], esrTick := 0, gaugeTick := 0 }, packB := { ebase := 0, energy := 0, rc := 0, fcc := 0, dc := 0, chem := 0, ma := 0, gaugeMv := 0, temp := 0, debit := 0, saveDebit := 0, hiScans := 0, loScans := 0, valid := 0, last := none, esr := [], esrTick := 0, gaugeTick := 0 }, sableCnt := 0, extra := false }, adm := { rr := 7, jobq := [], wear := 0, wearHaul := 0, wearMark := 0, day := 0, repTick := [], repDue := [], repMargin := 3 }, haul := { ptr := [], cover := [], bank := 0, started := 0, done := 0, short := false, half := false, waitStk := [], waitSump := [], group := 0, stripes := [], nextStripe := 0, pfw := false, pfwTick := 0 }, save := { off := false, short := false, trigTick := 0, walkTick := 0, walked := false, railCut := false, powerBack := false, vol := 0, sumpStart := [], first := [], last := [], carve := [], pads := 0, fdirty := [], anchor := none, session := 0, openAfter := 0, down := false, spent := none, lodes := [], aggs := [], staging := [], numbers := [], ctx := { rings := [], lost := false, owners := [], running := [], cached := [] } }, stk := { recs := [], lodes := [], blks := [], remaps := [], broken := [], pseq := [], head := [], openLode := [], wlWait := [], intents := [], jpend := [], jrnl := [], jseq := 0, jpage := 0, jsaved := 0, dies := [], silent := [], accs := [], applied := [], folding := false, reworking := false, degraded := 0, bootBad := [], bootMap := [], hblock := 0, lpage := 0, lfix := 0, anchors := [], apage := 0, patrolWin := 0, patrolled := [], patrolRead := [] }, saves := [], res := { fetch := [], demand := [], lastPort := 7, prefetch := [], bgPtr := [], bgBank := 0, rebuilt := false, filling := false, trigTick := 0, counted := 0, memRec := 0, holdRec := [], newLost := [], trained := false, noKeys := false, anchored := false, scanTick := 0 }, dch := { mem := [], poison := [], banks := [], repairs := [], hard := [], devCe := [], eqCe := [], eqTick := [], eqTemp := [], bootTemps := [], taps := [], ueRun := [], late := [], early := [], refBank := [], periodCe := 0, win := 0, limits := [3600, 4096, 256, 16, 64], mig := none, rankMap := [], crdMap := [], inForce := [], cfgNew := [], lastReq := [], actLimit := [], rankSr := [], eqRun := [], scrubTick := [], prev := [], ceTotal := [] }, ports := [], nv := [(0, { dirty := 0, shutdown := 0, feat := 0x7f#128, lsa := [] })], job := { rings := [], cache := [], jobs := [], pins := [], lost := false, fenceDue := 0, inits := [] }, cip := { keys := [], keyin := [], store := [], storeOk := false, ceiling := 0, storeSeq := 0, cmd := none, purge := [], stale := [], erasePend := 0, eraseSan := 0, rotate := [], misWin := [], next := 0, kat := [] }, gal := { epoch := 0#64, joinEpoch := 0#64, peerFenced := false, sent := [], held := [], fwds := [], nextTag := 0, lines := [], peerLines := [], joinStep := 0, listGot := false, rslvGot := false, lineWait := [], asks := [], nextAsk := 0, reqs := [], ctls := [], rslvSlab := 0, rslvSett := 0, rslvQuota := 0, kept := false, peerEpoch := 0#64, fullFor := 0, replays := [], lastFlit := [0, 0], lastBeat := 0, graceAt := 0, seen := 0, joinAt := 0, hello := [false, false], handover := 0, zeroing := [] }, seq := { stage := .idle, order := [], good := [], bad := [], low := [], high := [], glitch := [], glitchPrev := [], glitchWin := 0, latchAfter := false, offTick := 0, minOff := true, timed := false, offPend := false, noDnWait := false, inGood := 0, inLow := 0, pwrLow := false, pfwTick := 0, pfwLate := false, stretch := 0, pulse := 0, pg00Told := false, pg00Good := 0, pg00Bad := 0, pg00Ok := false, latchSave := false, syncDrive := false, lowTold := false, timedTick := 0 }, clk := { rising := [], tripSeen := false, refFail := false }, flt := { raised := [], irqq := [], win := [], esc := [], thrNew := [], winNew := [], rst := none, later := [], holdAfter := false }, clg := { live := [], staging := [], forming := [], phase := 0, pend := [], held := [], log := [], win := none, fetch := none, extDay := 0, railLogged := false, bootLogged := false, ffcAtWaking := [0, 0, 0], subSec := 0, resumed := false }, twb := { ports := [], alert := false, alertTick := 0, mctp := 0, sensTick := [] }, fwm := { slotA := { image := [], sealed := false, tag := 0#128, next := [], blk := 0 }, slotB := { image := [], sealed := false, tag := 0#128, next := [], blk := 0 }, active := 0, trial := false, tries := 0, staging := none, xfer := 0, xferFace := 0, running := true, alive := false, prev := 0, handoff := false, recovery := false, svyEpoch := 0, openCmds := [], waiting := [], bootTick := 0 }, pin := { testen := false, power := true, tap := .bypass, railset := 0, err := false }, pending := [], out := [], free := 0 }, 0, (let s : State := open0; let s : State := { s with slb := { s.slb with ready := true } }; s), by decide +kernel⟩
  · exact ⟨0, .none, { regs := [(656384, 1#32), (1048576, 0x808#32), (1048580, 0x3b#32)], tick := 100000, chip := .opened, margin := .sable, stamp := 0, stampTick := 0, fuse := { step := 0, serial := 0, blown := 0, provKey := 0#256, devKey := 0#256 }, bed := { fneg := [], chipReset := 0 }, svy := { run := [(16777216, 0x610#32), (16777220, 15#32), (17825792, 4#32), (17825796, 0x3020100#32), (18874368, 1#32), (18874372, 0x80000#32), (18874376, 8#32), (18874384, 0x101#32), (18874388, 0x80008#32), (18874392, 8#32), (20971520, 0x8180#32), (33554432, 0x8a04000#32), (33554436, 0x4040800#32), (33554440, 0x3e80048#32), (33554448, 1#32), (33554456, 1#32), (33554464, 1#32), (33554472, 1#32), (33554480, 1#32), (33554488, 1#32), (33554496, 1#32), (33554504, 1#32), (33554512, 1#32), (34603008, 0x30010#32), (34603012, 0x40030#32), (34603016, 0x40008#32), (34603024, 0x30010#32), (34603028, 0x40030#32), (34603032, 0x40008#32), (35651584, 3#32), (50331648, 0x32402#32), (50331652, 0x648000#32), (50331656, 0xc80642f#32), (50331660, 0x100003#32), (50331664, 0x64#32), (50331688, 15#32), (50331692, 0x114#32), (50331808, 0x201013f#32), (50331812, 0x201013f#32), (50331936, 0x10#32), (67108864, 1#32), (67108868, 0x1964#32), (67108872, 0x1964#32), (67108876, 0x2bf20#32), (67108880, 0x186a00#32), (67108884, 0xcccd#32), (67108888, 0xf852e666#32), (67108892, 0x28fd99a#32), (67108896, 0xb33300f6#32), (67108900, 0x28999a#32)], has := [16, 17, 18, 20, 32, 33, 34, 48, 64], loaded := true, shadow := true, staging := [], inst := [], live := false, cmd := 0, taken := [], face := 0, pairDig := 0#128 }, slb := { slabs := [], ready := true, owned := true, baseR := 0, grants := [], ift := [], lmap := [], image := [] }, lgr := { packA := { ebase := 0, energy := 0, rc := 0, fcc := 0, dc := 0, chem := 0, ma := 0, gaugeMv := 0, temp := 0, debit := 0, saveDebit := 0, hiScans := 0, loScans := 0, valid := 0, last := none, esr := [], esrTick := 0, gaugeTick := 0 }, packB := { ebase := 0, energy := 0, rc := 0, fcc := 0, dc := 0, chem := 0, ma := 0, gaugeMv := 0, temp := 0, debit := 0, saveDebit := 0, hiScans := 0, loScans := 0, valid := 0, last := none, esr := [], esrTick := 0, gaugeTick := 0 }, sableCnt := 0, extra := false }, adm := { rr := 7, jobq := [], wear := 0, wearHaul := 0, wearMark := 0, day := 0, repTick := [], repDue := [], repMargin := 3 }, haul := { ptr := [], cover := [], bank := 0, started := 0, done := 0, short := false, half := false, waitStk := [], waitSump := [], group := 0, stripes := [], nextStripe := 0, pfw := false, pfwTick := 0 }, save := { off := false, short := false, trigTick := 0, walkTick := 0, walked := false, railCut := false, powerBack := false, vol := 0, sumpStart := [], first := [], last := [], carve := [], pads := 0, fdirty := [], anchor := none, session := 0, openAfter := 0, down := false, spent := none, lodes := [], aggs := [], staging := [], numbers := [], ctx := { rings := [], lost := false, owners := [], running := [], cached := [] } }, stk := { recs := [], lodes := [], blks := [], remaps := [], broken := [], pseq := [], head := [], openLode := [], wlWait := [], intents := [], jpend := [], jrnl := [], jseq := 0, jpage := 0, jsaved := 0, dies := [], silent := [], accs := [], applied := [], folding := false, reworking := false, degraded := 0, bootBad := [], bootMap := [], hblock := 0, lpage := 0, lfix := 0, anchors := [], apage := 0, patrolWin := 0, patrolled := [], patrolRead := [] }, saves := [], res := { fetch := [], demand := [], lastPort := 7, prefetch := [], bgPtr := [], bgBank := 0, rebuilt := false, filling := false, trigTick := 0, counted := 0, memRec := 0, holdRec := [], newLost := [], trained := false, noKeys := false, anchored := false, scanTick := 0 }, dch := { mem := [], poison := [], banks := [], repairs := [], hard := [], devCe := [], eqCe := [], eqTick := [], eqTemp := [], bootTemps := [], taps := [], ueRun := [], late := [], early := [], refBank := [], periodCe := 0, win := 0, limits := [3600, 4096, 256, 16, 64], mig := none, rankMap := [], crdMap := [], inForce := [], cfgNew := [], lastReq := [], actLimit := [], rankSr := [], eqRun := [], scrubTick := [], prev := [], ceTotal := [] }, ports := [], nv := [(0, { dirty := 0, shutdown := 0, feat := 0x7f#128, lsa := [] })], job := { rings := [], cache := [], jobs := [], pins := [], lost := false, fenceDue := 0, inits := [] }, cip := { keys := [], keyin := [], store := [], storeOk := false, ceiling := 0, storeSeq := 0, cmd := none, purge := [], stale := [], erasePend := 0, eraseSan := 0, rotate := [], misWin := [], next := 0, kat := [] }, gal := { epoch := 0#64, joinEpoch := 0#64, peerFenced := false, sent := [], held := [], fwds := [], nextTag := 0, lines := [], peerLines := [], joinStep := 0, listGot := false, rslvGot := false, lineWait := [], asks := [], nextAsk := 0, reqs := [], ctls := [], rslvSlab := 0, rslvSett := 0, rslvQuota := 0, kept := false, peerEpoch := 0#64, fullFor := 0, replays := [], lastFlit := [0, 0], lastBeat := 0, graceAt := 0, seen := 0, joinAt := 0, hello := [false, false], handover := 0, zeroing := [] }, seq := { stage := .idle, order := [], good := [], bad := [], low := [], high := [], glitch := [], glitchPrev := [], glitchWin := 0, latchAfter := false, offTick := 0, minOff := true, timed := false, offPend := false, noDnWait := false, inGood := 0, inLow := 0, pwrLow := false, pfwTick := 0, pfwLate := false, stretch := 0, pulse := 0, pg00Told := false, pg00Good := 0, pg00Bad := 0, pg00Ok := false, latchSave := false, syncDrive := false, lowTold := false, timedTick := 0 }, clk := { rising := [], tripSeen := false, refFail := false }, flt := { raised := [], irqq := [], win := [], esc := [], thrNew := [], winNew := [], rst := none, later := [], holdAfter := false }, clg := { live := [], staging := [], forming := [], phase := 0, pend := [], held := [], log := [], win := none, fetch := none, extDay := 0, railLogged := false, bootLogged := false, ffcAtWaking := [0, 0, 0], subSec := 0, resumed := false }, twb := { ports := [], alert := false, alertTick := 0, mctp := 0, sensTick := [] }, fwm := { slotA := { image := [], sealed := false, tag := 0#128, next := [], blk := 0 }, slotB := { image := [], sealed := false, tag := 0#128, next := [], blk := 0 }, active := 0, trial := false, tries := 0, staging := none, xfer := 0, xferFace := 0, running := true, alive := false, prev := 0, handoff := false, recovery := false, svyEpoch := 0, openCmds := [], waiting := [], bootTick := 0 }, pin := { testen := false, power := true, tap := .bypass, railset := 0, err := false }, pending := [], out := [], free := 0 }, (open0), by decide +kernel⟩
  · exact ⟨(open0), by decide +kernel⟩

/-- Clauses of SlabBank have states and operands that meet their conditions. -/
theorem test_conditions_SlabBank_4 :
    (∃ (sram : List (Nat × SramErr)) (s1 : State) (i : Nat) (e : SlabE) (s : State), s.chip ≠ .off ∧ s1 = s.sramAll sram ∧ s1.hubOn = true ∧ s1.slb.ready = true ∧ s1.on SLB_HEATCFG.ENABLE = true ∧ s1.tick % Nat.max 1 (s1.rd SLB_HEATCFG.PERIOD) = 0 ∧ SMap.wf (0 : Nat) (s1.slb.slabs.map (fun p => (p.1, 1))) = true ∧ s1.slb.slabs.contains (i, e) = true) := by
  exact ⟨[], { regs := [(589828, 1#32), (656384, 1#32), (1048576, 0x808#32), (1048580, 0x3b#32), (8388616, 0x10001#32), (8388688, 1#32)], tick := 100000, chip := .opened, margin := .sable, stamp := 0, stampTick := 0, fuse := { step := 0, serial := 0, blown := 0, provKey := 0#256, devKey := 0#256 }, bed := { fneg := [], chipReset := 0 }, svy := { run := [(16777216, 0x610#32), (16777220, 15#32), (17825792, 4#32), (17825796, 0x3020100#32), (18874368, 1#32), (18874372, 0x80000#32), (18874376, 8#32), (18874384, 0x101#32), (18874388, 0x80008#32), (18874392, 8#32), (20971520, 0x8180#32), (33554432, 0x8a04000#32), (33554436, 0x4040800#32), (33554440, 0x3e80048#32), (33554448, 1#32), (33554456, 1#32), (33554464, 1#32), (33554472, 1#32), (33554480, 1#32), (33554488, 1#32), (33554496, 1#32), (33554504, 1#32), (33554512, 1#32), (34603008, 0x30010#32), (34603012, 0x40030#32), (34603016, 0x40008#32), (34603024, 0x30010#32), (34603028, 0x40030#32), (34603032, 0x40008#32), (35651584, 3#32), (50331648, 0x32402#32), (50331652, 0x648000#32), (50331656, 0xc80642f#32), (50331660, 0x100003#32), (50331664, 0x64#32), (50331688, 15#32), (50331692, 0x114#32), (50331808, 0x201013f#32), (50331812, 0x201013f#32), (50331936, 0x10#32), (67108864, 1#32), (67108868, 0x1964#32), (67108872, 0x1964#32), (67108876, 0x2bf20#32), (67108880, 0x186a00#32), (67108884, 0xcccd#32), (67108888, 0xf852e666#32), (67108892, 0x28fd99a#32), (67108896, 0xb33300f6#32), (67108900, 0x28999a#32)], has := [16, 17, 18, 20, 32, 33, 34, 48, 64], loaded := true, shadow := true, staging := [], inst := [], live := false, cmd := 0, taken := [], face := 0, pairDig := 0#128 }, slb := { slabs := [(0, { mask := 2#64, word := 0#32 })], ready := true, owned := true, baseR := 0, grants := [], ift := [], lmap := [], image := [] }, lgr := { packA := { ebase := 0, energy := 0, rc := 0, fcc := 0, dc := 0, chem := 0, ma := 0, gaugeMv := 0, temp := 0, debit := 0, saveDebit := 0, hiScans := 0, loScans := 0, valid := 0, last := none, esr := [], esrTick := 0, gaugeTick := 0 }, packB := { ebase := 0, energy := 0, rc := 0, fcc := 0, dc := 0, chem := 0, ma := 0, gaugeMv := 0, temp := 0, debit := 0, saveDebit := 0, hiScans := 0, loScans := 0, valid := 0, last := none, esr := [], esrTick := 0, gaugeTick := 0 }, sableCnt := 0, extra := false }, adm := { rr := 7, jobq := [], wear := 0, wearHaul := 0, wearMark := 0, day := 0, repTick := [], repDue := [], repMargin := 3 }, haul := { ptr := [], cover := [], bank := 0, started := 0, done := 0, short := false, half := false, waitStk := [], waitSump := [], group := 0, stripes := [], nextStripe := 0, pfw := false, pfwTick := 0 }, save := { off := false, short := false, trigTick := 0, walkTick := 0, walked := false, railCut := false, powerBack := false, vol := 0, sumpStart := [], first := [], last := [], carve := [], pads := 0, fdirty := [], anchor := none, session := 0, openAfter := 0, down := false, spent := none, lodes := [], aggs := [], staging := [], numbers := [], ctx := { rings := [], lost := false, owners := [], running := [], cached := [] } }, stk := { recs := [], lodes := [], blks := [], remaps := [], broken := [], pseq := [], head := [], openLode := [], wlWait := [], intents := [], jpend := [], jrnl := [], jseq := 0, jpage := 0, jsaved := 0, dies := [], silent := [], accs := [], applied := [], folding := false, reworking := false, degraded := 0, bootBad := [], bootMap := [], hblock := 0, lpage := 0, lfix := 0, anchors := [], apage := 0, patrolWin := 0, patrolled := [], patrolRead := [] }, saves := [], res := { fetch := [], demand := [], lastPort := 7, prefetch := [], bgPtr := [], bgBank := 0, rebuilt := false, filling := false, trigTick := 0, counted := 0, memRec := 0, holdRec := [], newLost := [], trained := false, noKeys := false, anchored := false, scanTick := 0 }, dch := { mem := [], poison := [], banks := [], repairs := [], hard := [], devCe := [], eqCe := [], eqTick := [], eqTemp := [], bootTemps := [], taps := [], ueRun := [], late := [], early := [], refBank := [], periodCe := 0, win := 0, limits := [3600, 4096, 256, 16, 64], mig := none, rankMap := [], crdMap := [], inForce := [], cfgNew := [], lastReq := [], actLimit := [], rankSr := [], eqRun := [], scrubTick := [], prev := [], ceTotal := [] }, ports := [], nv := [(0, { dirty := 0, shutdown := 0, feat := 0x7f#128, lsa := [] })], job := { rings := [], cache := [], jobs := [], pins := [], lost := false, fenceDue := 0, inits := [] }, cip := { keys := [], keyin := [], store := [], storeOk := false, ceiling := 0, storeSeq := 0, cmd := none, purge := [], stale := [], erasePend := 0, eraseSan := 0, rotate := [], misWin := [], next := 0, kat := [] }, gal := { epoch := 0#64, joinEpoch := 0#64, peerFenced := false, sent := [], held := [], fwds := [], nextTag := 0, lines := [], peerLines := [], joinStep := 0, listGot := false, rslvGot := false, lineWait := [], asks := [], nextAsk := 0, reqs := [], ctls := [], rslvSlab := 0, rslvSett := 0, rslvQuota := 0, kept := false, peerEpoch := 0#64, fullFor := 0, replays := [], lastFlit := [0, 0], lastBeat := 0, graceAt := 0, seen := 0, joinAt := 0, hello := [false, false], handover := 0, zeroing := [] }, seq := { stage := .idle, order := [], good := [], bad := [], low := [], high := [], glitch := [], glitchPrev := [], glitchWin := 0, latchAfter := false, offTick := 0, minOff := true, timed := false, offPend := false, noDnWait := false, inGood := 0, inLow := 0, pwrLow := false, pfwTick := 0, pfwLate := false, stretch := 0, pulse := 0, pg00Told := false, pg00Good := 0, pg00Bad := 0, pg00Ok := false, latchSave := false, syncDrive := false, lowTold := false, timedTick := 0 }, clk := { rising := [], tripSeen := false, refFail := false }, flt := { raised := [], irqq := [], win := [], esc := [], thrNew := [], winNew := [], rst := none, later := [], holdAfter := false }, clg := { live := [], staging := [], forming := [], phase := 0, pend := [], held := [], log := [], win := none, fetch := none, extDay := 0, railLogged := false, bootLogged := false, ffcAtWaking := [0, 0, 0], subSec := 0, resumed := false }, twb := { ports := [], alert := false, alertTick := 0, mctp := 0, sensTick := [] }, fwm := { slotA := { image := [], sealed := false, tag := 0#128, next := [], blk := 0 }, slotB := { image := [], sealed := false, tag := 0#128, next := [], blk := 0 }, active := 0, trial := false, tries := 0, staging := none, xfer := 0, xferFace := 0, running := true, alive := false, prev := 0, handoff := false, recovery := false, svyEpoch := 0, openCmds := [], waiting := [], bootTick := 0 }, pin := { testen := false, power := true, tap := .bypass, railset := 0, err := false }, pending := [], out := [], free := 0 }, 0, { mask := 2#64, word := 0#32 }, (let s : State := open0; let s : State := { s with slb := { s.slb with ready := true } }; let s : State := s.wr SLB_HEATCFG.ENABLE 1; let s : State := (s.wr SLB_HEATCFG.PERIOD 1).setSlab 0 ⟨0, 0⟩ |> fun s => s.setDirty 1; s), by decide +kernel⟩

/-- Clauses of DramCommands have states and operands that meet their conditions. -/
theorem test_conditions_DramCommands_1 :
    (∃ (chan rank : Nat) (s : State), s.chip ≠ .off ∧ s.rankLive chan rank = true ∧ s.chanAwake chan = true ∧ s.rankQueued chan rank = false ∧ SMap.get 0 (rankKey chan rank) s.dch.early = 0 ∧ chan < 36 ∧ s.dch.cfgNew.contains chan = false ∧ s.inForce (DCH_REF.MODE chan) = 0) ∧
    (∃ (chan : Nat) (temps : List Int) (t : Int) (s : State), s.chip ≠ .off ∧ chan < 36 ∧ s.chanAwake chan = true ∧ temps = [t] ∧ -128 ≤ t ∧ t < 128) ∧
    (∃ (chan : Nat) (abort : Bool) (s : State), s.chip ≠ .off ∧ chan < 36 ∧ abort = false ∧ s.chanAwake chan = true ∧ s.inForce (DCH_SR.EN chan) = 1 ∧ SMap.get 0 chan s.dch.lastReq + s.inForce (DCH_SR.IDLE chan) ≤ s.tick + 1 ∧ s.on (DCH_STATUS.EQ_BUSY chan) = false ∧ s.on (DCH_STATUS.SCRUB_BUSY chan) = false ∧ s.chanQueued chan = false ∧ (∀ k ∈ List.range 4, SMap.get 0 (rankKey chan k) s.dch.late = 0)) := by
  refine ⟨?_, ?_, ?_⟩
  · exact ⟨0, 0, (let chan : Nat := 0; let rank : Nat := 0; let s : State := open0; let s : State := s.wr (DCH_RNKS.STATE chan rank) 1; let s : State := s.wr (DCH_STATUS.STATE chan) 2; let s : State := inForce0 s (DCH_REF.MODE chan) 0; s), by decide +kernel⟩
  · exact ⟨0, [45], 45, (let chan : Nat := 0; let s : State := open0; let s : State := s.wr (DCH_STATUS.STATE chan) 2; s), by decide +kernel⟩
  · exact ⟨0, false, (let chan : Nat := 0; let s : State := open0; let s : State := s.wr (DCH_STATUS.STATE chan) 2; let s : State := inForce0 s (DCH_SR.EN chan) 1; let s : State := s.wr (DCH_STATUS.EQ_BUSY chan) 0; let s : State := s.wr (DCH_STATUS.SCRUB_BUSY chan) 0; s), by decide +kernel⟩

/-- Clauses of DramCommands have states and operands that meet their conditions. -/
theorem test_conditions_DramCommands_2 :
    (∃ (chan : Nat) (late : Bool) (s : State), s.chip ≠ .off ∧ chan < 36 ∧ s.rd (DCH_STATUS.STATE chan) = 3 ∧ s.working = true) ∧
    (∃ (chan rank sensor : Nat) (margins : List (List Nat)) (s : State), s.chip ≠ .off ∧ s.working = true ∧ s.inForce (DCH_EQ.EN chan) = 1 ∧ chan < 36 ∧ s.rankLive chan rank = true ∧ s.retrainDue chan rank sensor = true ∧ s.on (DCH_STATUS.EQ_BUSY chan) = false) ∧
    (∃ (chan : Nat) (devs : SMap Nat) (n : Nat) (s : State), s.chip ≠ .off ∧ s.working = true ∧ chan < 36 ∧ s.inForce (DCH_SCRUB.EN chan) = 1 ∧ s.scrubDue chan = true ∧ s.canPay 7 1 false = true ∧ s.rank chan (s.slabRank (settSlab (chan * 4194304 + n))) = rkAbsent ∧ s.settHeld (s.scrubTarget (chan * 4194304 + n)) = false ∧ s.rd (DCH_SCRUB_PTR.LINE chan) / 1024 = n ∧ n < 4194303) := by
  refine ⟨?_, ?_, ?_⟩
  · exact ⟨0, false, (let chan : Nat := 0; let s : State := open0; let s : State := s.wr (DCH_STATUS.STATE chan) (3); s), by decide +kernel⟩
  · exact ⟨0, 0, 0, [], (let chan : Nat := 0; let rank : Nat := 0; let s : State := open0; let s : State := inForce0 s (DCH_EQ.EN chan) 1; let s : State := s.wr (DCH_RNKS.STATE chan rank) 1; let s : State := s.wr (DCH_STATUS.EQ_BUSY chan) 0; s), by decide +kernel⟩
  · exact ⟨0, [], 0, (let chan : Nat := 0; let s : State := open0; let s : State := inForce0 s (DCH_SCRUB.EN chan) 1; let s : State := s.wr (ADM_CLS.BUCKET 7) 99; s), by decide +kernel⟩

/-- Clauses of DramCommands have states and operands that meet their conditions. -/
theorem test_conditions_DramCommands_3 :
    (∃ (chan : Nat) (devs : SMap Nat) (n : Nat) (s : State), s.chip ≠ .off ∧ s.working = true ∧ chan < 32 ∧ s.inForce (DCH_SCRUB.EN chan) = 1 ∧ s.scrubDue chan = true ∧ s.canPay 7 1 false = true ∧ devs = [] ∧ s.rank chan (s.slabRank (settSlab (chan * 4194304 + n))) = rkActive ∧ s.settHeld (s.scrubTarget (chan * 4194304 + n)) = false ∧ s.rankAnswers (s.scrubTarget (chan * 4194304 + n)) = true ∧ s.rd (DCH_SCRUB_PTR.LINE chan) / 1024 = n ∧ n < 4194303 ∧ s.dch.hard = []) ∧
    (∃ (sett line : Nat) (page : PageRead) (devs : Nat) (r : Repair) (x : Rec) (s : State), s.chip ≠ .off ∧ s.working = true ∧ line < 1024 ∧ s.repairOf sett line = some r ∧ r.twin = false ∧ s.repairWaits r = false ∧ (s.slab (settSlab sett)).relq = false ∧ (s.slab (settSlab sett)).retire = false ∧ s.recAt r.entry = some x ∧ page = .ok ∧ s.decrypts x = true ∧ s.repairHolds r = true ∧ x.poison.getLsbD line = false ∧ popCount 10 devs < 2 ∧ s.rankAnswers sett = true) ∧
    (∃ (chan rank bank : Nat) (s : State), s.chip ≠ .off ∧ s.inForce (DCH_PRED.MODE chan) ≠ 1 ∧ bank < 512) := by
  refine ⟨?_, ?_, ?_⟩
  · exact ⟨0, [], 0, (let chan : Nat := 0; let s : State := open0; let s : State := inForce0 s (DCH_SCRUB.EN chan) 1; let s : State := s.wr (ADM_CLS.BUCKET 7) 99; let s : State := { s with dch := { s.dch with hard := [] } }; let s : State := s.wr (DCH_RNKS.STATE chan 0) rkActive; s), by decide +kernel⟩
  · exact ⟨1, 2, .ok, 0, { sett := 1, line := 2, entry := 0x40000004#32, fresh := true, twin := false, devs := 0, asked := false, who := 0 }, { typ := 1, sett := 1, seq := 0, key := 0, ivs := [(0, 1)], pseq := 0, keyVal := 0#256, data := [(5, 7#8)], poison := 0#1024 }, (let sett : Nat := 0; let devs : Nat := 0; let s : State := open0; let s : State := ({ (s.setLoc 1 (locStk 0 2 0)).clearDirty 1 with stk := { s.stk with recs := SMap.put none (locStk 0 2 0).toNat (some { typ := 1, sett := 1, seq := 0, key := 0, ivs := [(0, 1)], pseq := 0, keyVal := s.slotKey 0, data := [(5, 7)], poison := 0 }) s.stk.recs } }) |> fun s => { s with dch := { s.dch with repairs := [⟨1, 2, s.loc 1, decide (devs % 2 = 0), false, 0, false, 0⟩] } }; s), by decide +kernel⟩
  · exact ⟨0, 0, 0, (open0), by decide +kernel⟩

/-- Clauses of DramCommands have states and operands that meet their conditions. -/
theorem test_conditions_DramCommands_4 :
    (∃ (chan rank : Nat) (s : State), s.chip ≠ .off ∧ s.rankLive chan rank = true ∧ s.hubOn = true) := by
  exact ⟨0, 0, (let chan : Nat := 0; let rank : Nat := 0; let s : State := open0; let s : State := s.wr (DCH_RNKS.STATE chan rank) 1; s), by decide +kernel⟩

/-- Clauses of MigrationCommands have states and operands that meet their conditions. -/
theorem test_conditions_MigrationCommands_1 :
    (∃ (chan : Nat) (ok0 : Bool) (ok36 : Bool) (k : Nat) (dc : Nat) (dk : Nat) (s : State), s.chip ≠ .off ∧ s.woLive (DCH_MIG_CTL.OP chan).addr = true ∧ s.hubOn = true ∧ chan < 36 ∧ s.rd (DCH_MIG_CTL.RANK chan) = k ∧ s.rd (DCH_MIG_DST.CHANNEL chan) = dc ∧ s.rd (DCH_MIG_DST.RANK chan) = dk ∧ s.startResult chan k dc dk = 0) ∧
    (∃ (chan : Nat) (ok0 : Bool) (ok36 : Bool) (s : State), s.chip ≠ .off ∧ s.woLive (DCH_MIG_CTL.OP chan).addr = true ∧ s.hubOn = true ∧ chan < 36 ∧ s.dch.mig.isSome = true) ∧
    (∃ (chan : Nat) (ok0 : Bool) (ok36 : Bool) (k : Nat) (s : State), s.chip ≠ .off ∧ s.woLive (DCH_MIG_CTL.OP chan).addr = true ∧ s.hubOn = true ∧ chan < 36 ∧ s.rd (DCH_MIG_CTL.RANK chan) = k ∧ s.dch.mig = none ∧ (s.rank chan k = rkActive ∨ s.rank chan k = rkDead)) := by
  refine ⟨?_, ?_, ?_⟩
  · exact ⟨0, false, false, 0, 32, 0, (let s : State := open0; let s : State := { (((((s.wr (DCH_RNKS.STATE 0 (s.free % 2)) 1).wr (DCH_RNKS.STATE 32 0) 2).wr (DCH_RNKS.STATE 33 1) 3).wr (DCH_MIG_DST.CHANNEL 0) 32).wr (DCH_MIG_DST.RANK 0) 0).wr (DCH_MIG_CTL.RANK 0) (s.free % 2) with chip := .opened, svy := { s.svy with run := SMap.put (0 : Word) 0x1000000 (BitVec.ofNat 32 (withBits 0 2 1 (svWord s.svy.run 0x10 0))) s.svy.run }, dch := { s.dch with mig := none } }; let chan : Nat := 0; let s : State := (islandsOf ((DCH_MIG_CTL.OP chan).addr)).foldl (fun s n => s.wr (CLK_ISL.STATE n) 2) s; s), by decide +kernel⟩
  · exact ⟨0, false, false, (let chan : Nat := 0; let s : State := open0; let s : State := (islandsOf ((DCH_MIG_CTL.OP chan).addr)).foldl (fun s n => s.wr (CLK_ISL.STATE n) 2) s; let s : State := { s with dch := { s.dch with mig := some ({ chan := chan, rank := 0, dstChan := 33, dstRank := 0, homeChan := 32, homeRank := 1, retire := false, quota := 0, paused := false } : Mig) } }; s), by decide +kernel⟩
  · exact ⟨0, false, false, 0, (let chan : Nat := 0; let s : State := open0; let s : State := (islandsOf ((DCH_MIG_CTL.OP chan).addr)).foldl (fun s n => s.wr (CLK_ISL.STATE n) 2) s; let s : State := { s with dch := { s.dch with mig := none } }; let s : State := s.wr (DCH_RNKS.STATE 0 0) rkActive; s), by decide +kernel⟩

/-- Clauses of MigrationCommands have states and operands that meet their conditions. -/
theorem test_conditions_MigrationCommands_2 :
    (∃ (chan : Nat) (m : Mig) (s : State), s.chip ≠ .off ∧ s.woLive (DCH_MIG_CTL.OP chan).addr = true ∧ s.hubOn = true ∧ chan < 36 ∧ s.dch.mig = some m ∧ m.chan = chan ∧ m.retire = false ∧ s.rank chan m.rank = rkSource ∧ m.rank < 4 ∧ m.dstChan < 36 ∧ m.dstRank < 4) ∧
    (∃ (devs : SMap Nat) (ok0 : Bool) (ok36 : Bool) (m : Mig) (n : Nat) (s : State), s.chip ≠ .off ∧ s.working = true ∧ s.dch.mig = some m ∧ m.chan < 36 ∧ m.retire = false ∧ m.paused = false ∧ s.rank m.chan m.rank = rkSource ∧ m.quota < Nat.max 1 (s.rd (DCH_MIG_RATE.SETTS m.chan)) ∧ s.canPay 4 1 false = true ∧ s.rd (DCH_MIG_PTR.SETT m.chan) = n ∧ n < 63 ∧ devs = [] ∧ s.dch.hard = []) := by
  refine ⟨?_, ?_⟩
  · exact ⟨0, { chan := 0, rank := 0, dstChan := 33, dstRank := 0, homeChan := 32, homeRank := 1, retire := false, quota := 0, paused := false }, (let chan : Nat := 0; let s : State := open0; let s : State := { s.wr (DCH_MIG_CTL.RANK chan) 0 with slb := { s.slb with ready := true }, dch := { s.dch with mig := some { chan := chan, rank := 0, dstChan := 33, dstRank := 0, homeChan := 32, homeRank := 1, retire := false, quota := 0, paused := false } } } |> fun s => s.wr (CLK_ISL.STATE chan) islOn; let chan : Nat := chan % 32; let s : State := s.wr (DCH_RNKS.STATE chan 0) rkSource; s), by decide +kernel⟩
  · exact ⟨[], false, false, { chan := 0, rank := 0, dstChan := 33, dstRank := 0, homeChan := 32, homeRank := 1, retire := false, quota := 0, paused := false }, 0, (let s : State := open0; let s : State := s.wr (ADM_CLS.BUCKET 4) 99; let s : State := { s with dch := { s.dch with hard := [] } }; let s : State := { s with dch := { s.dch with mig := some ({ chan := 0, rank := 0, dstChan := 33, dstRank := 0, homeChan := 32, homeRank := 1, retire := false, quota := 0, paused := false } : Mig) } } |>.wr (DCH_RNKS.STATE 0 0) rkSource |>.wr (ADM_CLS.BUCKET 4) 99; s), by decide +kernel⟩

/-- Clauses of NandChannelFirst have states and operands that meet their conditions. -/
theorem test_conditions_NandChannelFirst_1 :
    (∃ (chan : Nat) (s : State), s.chip ≠ .off ∧ s.woLive (NCH_CTL.APPLY chan).addr = true ∧ s.hubOn = true ∧ chan < 72) ∧
    (∃ (chan : Nat) (s : State), s.chip ≠ .off ∧ s.woLive (NCH_CWMAX.CLEAR chan).addr = true ∧ s.hubOn = true ∧ chan < 72) ∧
    (∃ (inp : NandRead) (patrol : Bool) (s : State), s.chip ≠ .off ∧ s.hubOn = true ∧ inp.channel < 72 ∧ (s.die inp.channel inp.target).busy = false ∧ s.canRead inp.channel inp.target inp.block = true ∧ inp.page0.erased = false ∧ s.decodes inp.channel inp.page0 = true) := by
  refine ⟨?_, ?_, ?_⟩
  · exact ⟨0, (let chan : Nat := 0; let s : State := open0; let s : State := (islandsOf ((NCH_CTL.APPLY chan).addr)).foldl (fun s n => s.wr (CLK_ISL.STATE n) 2) s; s), by decide +kernel⟩
  · exact ⟨0, (let chan : Nat := 0; let s : State := open0; let s : State := (islandsOf ((NCH_CWMAX.CLEAR chan).addr)).foldl (fun s n => s.wr (CLK_ISL.STATE n) 2) s; s), by decide +kernel⟩
  · exact ⟨{ channel := 0, target := 0, block := 0, page := 0, page0 := { erased := false, rung := some 0, cw := [0, 0, 0, 0], dir := [] }, others := [], demand := true }, false, (open0), by decide +kernel⟩

/-- Clauses of NandChannelFirst have states and operands that meet their conditions. -/
theorem test_conditions_NandChannelFirst_2 :
    (∃ (inp : NandRead) (patrol : Bool) (s : State), s.chip ≠ .off ∧ s.hubOn = true ∧ inp.channel < 72 ∧ (s.die inp.channel inp.target).busy = false ∧ s.canRead inp.channel inp.target inp.block = true ∧ s.decodes inp.channel inp.page0 = false ∧ inp.page0.erased = false ∧ s.blockServes inp.channel inp.target inp.block = true ∧ (s.stripeMates inp.channel inp.target inp.block).zipIdx.all (fun x => s.canRead x.1.1 x.1.2.1 x.1.2.2 && s.decodes x.1.1 (inp.others.getD x.2 ⟨false, none, [], []⟩)) = true) ∧
    (∃ (inp : NandRead) (patrol : Bool) (s : State), s.chip ≠ .off ∧ s.hubOn = true ∧ inp.channel < 72 ∧ (s.die inp.channel inp.target).busy = false ∧ s.canRead inp.channel inp.target inp.block = true ∧ s.decodes inp.channel inp.page0 = false ∧ inp.page0.erased = false ∧ s.blockServes inp.channel inp.target inp.block = false) ∧
    (∃ (inp : NandRead) (patrol : Bool) (s : State), s.chip ≠ .off ∧ s.hubOn = true ∧ inp.channel < 72 ∧ (s.die inp.channel inp.target).busy = true ∧ (s.die inp.channel inp.target).suspended = false ∧ inp.demand = true ∧ s.maySuspend inp.channel (s.die inp.channel inp.target) = true ∧ s.resumeOver inp.channel (s.die inp.channel inp.target) = true) := by
  refine ⟨?_, ?_, ?_⟩
  · exact ⟨{ channel := 1, target := 0, block := 100, page := 3, page0 := { erased := false, rung := none, cw := [0, 1], dir := [] }, others := [{ erased := false, rung := some 0, cw := [], dir := [] }, { erased := false, rung := some 0, cw := [], dir := [] }, { erased := false, rung := some 0, cw := [], dir := [] }, { erased := false, rung := some 0, cw := [], dir := [] }, { erased := false, rung := some 0, cw := [], dir := [] }, { erased := false, rung := some 0, cw := [], dir := [] }, { erased := false, rung := some 0, cw := [], dir := [] }, { erased := false, rung := some 0, cw := [], dir := [] }], demand := true }, false, (open0), by decide +kernel⟩
  · exact ⟨{ channel := 9, target := 0, block := 4000, page := 3, page0 := { erased := false, rung := none, cw := [0, 1], dir := [] }, others := [{ erased := false, rung := some 0, cw := [], dir := [] }, { erased := false, rung := some 0, cw := [], dir := [] }, { erased := false, rung := some 0, cw := [], dir := [] }, { erased := false, rung := some 0, cw := [], dir := [] }, { erased := false, rung := some 0, cw := [], dir := [] }, { erased := false, rung := some 0, cw := [], dir := [] }, { erased := false, rung := some 0, cw := [], dir := [] }, { erased := false, rung := some 0, cw := [], dir := [] }], demand := true }, false, (open0), by decide +kernel⟩
  · exact ⟨{ channel := 9, target := 0, block := 20, page := 3, page0 := { erased := false, rung := some 0, cw := [0, 1], dir := [] }, others := [], demand := true }, false, (let s : State := open0; let s : State := { s with svy := { s.svy with run := SMap.put 0 0x200000C (1 : Word) s.svy.run } } |> fun s => (s.wr (NCH_CTL.SUSP_EN 9) 1).wr (NCH_CTL.SUSP_MAX 9) 5 |>.setDie 9 0 { DieErase.idle with busy := true }; s), by decide +kernel⟩

/-- Clauses of NandChannelFirst have states and operands that meet their conditions. -/
theorem test_conditions_NandChannelFirst_3 :
    (∃ (inp : NandRead) (patrol : Bool) (s : State), s.chip ≠ .off ∧ s.hubOn = true ∧ inp.channel < 72 ∧ (s.die inp.channel inp.target).busy = true ∧ inp.demand = false) ∧
    (∃ (what : EraseOf) (g : Nat) (n : Nat) (s : State), s.chip ≠ .off ∧ s.hubOn = true ∧ what = .lode g n ∧ s.mayErase g n = true) ∧
    (∃ (what : EraseOf) (c : Nat) (t : Nat) (b : Nat) (s : State), s.chip ≠ .off ∧ s.hubOn = true ∧ what = .block c t b ∧ c < 72 ∧ s.loneBlock c t b = true ∧ s.stk.intents.any (fun i => !i.lode && i.channel == c && i.target == t && i.num == b) = false) := by
  refine ⟨?_, ?_, ?_⟩
  · exact ⟨{ channel := 9, target := 0, block := 20, page := 3, page0 := { erased := false, rung := some 0, cw := [0, 1], dir := [] }, others := [], demand := false }, false, (let s : State := open0; let s : State := s.setDie 9 0 { DieErase.idle with busy := true }; s), by decide +kernel⟩
  · exact ⟨(.lode 0 16), 0, 16, (let s : State := open0; let s : State := let g := s.free % 2; let n := (List.range 300).find? (fun n => (s.isSump g n || s.isStock g n) && s.validCount g n == 0 && !s.saveHolds g n && !s.lodeRead g n && !s.lodeBusy g n); (n.map (fun n => s.setLode g n { s.lode g n with st := lodeSealed })).getD s; s), by decide +kernel⟩
  · exact ⟨(.block 1 1 9), 1, 1, 9, (let s : State := open0; let s : State := { s.setBlk 1 1 9 { Blk.fresh with st := 5 } with stk := { (s.setBlk 1 1 9 { Blk.fresh with st := 5 }).stk with intents := [] } }; s), by decide +kernel⟩

/-- Clauses of NandChannelFirst have states and operands that meet their conditions. -/
theorem test_conditions_NandChannelFirst_4 :
    (∃ (ok0 ok36 : Bool) (s : State), s.chip ≠ .off ∧ s.hubOn = true ∧ s.bootFree = true ∧ s.stk.jpend ≠ [] ∧ s.journalRoom = true ∧ s.bootWrote 0 (s.bootPageBlock bootJournal s.stk.jpage) ok0 = true ∧ s.bootWrote 1 (s.bootPageBlock bootJournal s.stk.jpage) ok36 = true) ∧
    (∃ (ok0 ok36 : Bool) (s : State), s.chip ≠ .off ∧ s.hubOn = true ∧ s.bootFree = true ∧ s.stk.jpend ≠ [] ∧ s.journalRoom = true ∧ (s.bootWrote 0 (s.bootPageBlock bootJournal s.stk.jpage) ok0 = false ∨ s.bootWrote 1 (s.bootPageBlock bootJournal s.stk.jpage) ok36 = false)) := by
  refine ⟨?_, ?_⟩
  · exact ⟨true, true, (let s : State := open0; let s : State := { s with stk := { s.stk with jpend := [⟨1, 0, 1, 1, 9, 0, 3, 5⟩] } }; s), by decide +kernel⟩
  · exact ⟨false, false, (let s : State := open0; let s : State := { s with stk := { s.stk with jpend := [⟨1, 0, 1, 1, 9, 0, 3, 5⟩] } }; s), by decide +kernel⟩

/-- Clauses of NandChannelSecond have states and operands that meet their conditions. -/
theorem test_conditions_NandChannelSecond_1 :
    (∃ (what : EraseOf) (failed : List (Nat × Nat × Nat)) (c : Nat) (t : Nat) (b : Nat) (i : Intent) (s : State), s.chip ≠ .off ∧ s.hubOn = true ∧ what = .block c t b ∧ failed = [] ∧ s.intentOf what = some i ∧ (s.die c t).suspended = false ∧ (s.die c t).queued = [] ∧ s.stk.intents.filter (fun x => x.st == 1) = [i] ∧ (s.blk c t b).st ≠ 6 ∧ s.mayEraseBlock c t b false = true) ∧
    (∃ (what : EraseOf) (failed : List (Nat × Nat × Nat)) (g : Nat) (n : Nat) (i : Intent) (s : State), s.chip ≠ .off ∧ s.hubOn = true ∧ what = .lode g n ∧ g < 8 ∧ failed = [] ∧ s.intentOf what = some i ∧ (∀ x ∈ s.lodeSlots g n, (s.die x.1 x.2.1).suspended = false ∧ (s.die x.1 x.2.1).queued = [])) ∧
    (∃ (channel target : Nat) (n : Nat) (s : State), s.chip ≠ .off ∧ s.hubOn = true ∧ channel < 72 ∧ target ∈ s.targets channel ∧ SMap.get 0 (dieKey channel target) s.stk.silent = n ∧ n ≠ 2) := by
  refine ⟨?_, ?_, ?_⟩
  · exact ⟨(.block 1 1 9), [], 1, 1, 9, { lode := false, group := 0, channel := 1, target := 1, num := 9, st := 1 }, (let s : State := open0; let s : State := { s with stk := { s.stk with intents := [{ lode := false, group := 0, channel := 1, target := 1, num := 9, st := 1 }] } }; let s : State := { s with stk := { s.stk with intents := [{ lode := false, group := 0, channel := 1, target := 1, num := 9, st := 1 }] } }; s), by decide +kernel⟩
  · exact ⟨(.lode 0 70), [], 0, 70, { lode := true, group := 0, channel := 0, target := 0, num := 70, st := 1 }, (let s : State := open0; let s : State := { s with stk := { s.stk with intents := [{ lode := true, group := 0, channel := 0, target := 0, num := 70, st := 1 }, { lode := false, group := 0, channel := 1, target := 1, num := 9, st := 1 }] } }; s), by decide +kernel⟩
  · exact ⟨0, 0, 0, (let s : State := open0; let s : State := withRun s 0x2000010 1; s), by decide +kernel⟩

/-- Clauses of NandChannelSecond have states and operands that meet their conditions. -/
theorem test_conditions_NandChannelSecond_2 :
    (∃ (channel target : Nat) (s : State), s.chip ≠ .off ∧ s.hubOn = true ∧ channel < 72 ∧ target < 8 ∧ target ∈ s.targets channel ∧ SMap.get 0 (dieKey channel target) s.stk.silent = 2) ∧
    (∃ (channel target block page : Nat) (s : State), s.chip ≠ .off ∧ s.hubOn = true ∧ channel < 72 ∧ s.blockState channel target block = 2 ∧ s.blockServes channel target block = true ∧ page < (if s.blkPslc channel target block then s.sv NAND.WORDLINES else 3 * s.sv NAND.WORDLINES) ∧ s.patrolDue channel target block = true ∧ s.canPay 7 1 false = true) ∧
    (∃ (sett : Nat) (n : Nat) (c : Nat) (r : Rec) (g : Nat) (s : State), s.chip ≠ .off ∧ s.movesRun = true ∧ locKind (s.loc sett) = 1 ∧ s.moving sett = false ∧ (s.reworkNow (locGroup (s.loc sett))).find? (fun x => x.1 == (s.locLode (s.loc sett)).2) = some (n, c) ∧ s.recAt (s.loc sett) = some r ∧ s.moveGroup (locGroup (s.loc sett)) = some g ∧ s.mayIssue g false = true ∧ s.canPay c 1 (decide (c = 1) && s.overRate) = true) := by
  refine ⟨?_, ?_, ?_⟩
  · exact ⟨0, 0, (let channel : Nat := 0; let target : Nat := 0; let s : State := open0; let s : State := { s with stk := { s.stk with silent := [(dieKey channel target, 2)] } }; let s : State := withRun s 0x2000010 1; s), by decide +kernel⟩
  · exact ⟨1, 0, 100, 3, (let s : State := open0; let s : State := s.wr (ADM_CLS.BUCKET 7) 99; let s : State := (s.setLode 0 (s.blockLode 1 0 100) { Lode.fresh with st := lodeSealed, used := 9 }).wr (ADM_CLS.BUCKET 7) 99; s), by decide +kernel⟩
  · exact ⟨1, 19, 6, { typ := 1, sett := 1, seq := 0, key := 0, ivs := [(0, 1)], pseq := 0, keyVal := 0#256, data := [(5, 7#8)], poison := 0#1024 }, 0, (let sett : Nat := 0; let s : State := open0; let s : State := { (s.setLoc 1 (locStk 0 2 0)).clearDirty 1 with chip := .opened, stk := { s.stk with recs := SMap.put none (locStk 0 2 0).toNat (some { typ := 1, sett := 1, seq := 0, key := 0, ivs := [(0, 1)], pseq := 0, keyVal := 0, data := [(5, 7)], poison := 0 }) s.stk.recs } } |> fun s => (s.setRstate 0 0) |>.wr (ADM_CLS.BUCKET 1) 99 |>.wr (ADM_CLS.BUCKET 5) 99 |>.wr (ADM_CLS.BUCKET 6) 99 |> fun s => { s with haul := { s.haul with stripes := s.haul.stripes.filter (fun x => x.kind == 0) } } |> fun s => let l := s.locLode (locStk 0 2 0); s.setLode 0 l.2 { Lode.fresh with st := lodeSealed, early := true, used := 5 }; s), by decide +kernel⟩

/-- Clauses of NandChannelSecond have states and operands that meet their conditions. -/
theorem test_conditions_NandChannelSecond_3 :
    (∃ (sett : Nat) (k : Nat) (g : Nat) (s : State), s.chip ≠ .off ∧ s.movesRun = true ∧ s.foldable sett = true ∧ s.settSlot sett = some k ∧ s.nextGroup false = some g ∧ s.mayEncrypt k false = true ∧ s.pairsIn ≠ 0 ∧ s.mayIssue g false = true ∧ s.canPay (if s.on LGR_STATUS.SUMP_BOUND then 1 else 5) 1 (s.on LGR_STATUS.SUMP_BOUND && s.overRate) = true) ∧
    (∃ (sett : Nat) (k : Nat) (g : Nat) (s : State), s.chip ≠ .off ∧ s.movesRun = true ∧ s.wrappable sett = true ∧ s.settSlot sett = some k ∧ s.nextGroup false = some g ∧ s.mayEncrypt k false = true ∧ s.pairsIn ≠ 0 ∧ s.mayIssue g false = true ∧ s.canPay 6 1 false = true) ∧
    (∃ (channel target : Nat) (s : State), s.chip ≠ .off ∧ (s.die channel target).busy = true ∧ (s.die channel target).suspended = false ∧ (s.die channel target).queued.any (fun r => r.1.demand) = true ∧ s.maySuspend channel (s.die channel target) = true ∧ s.resumeOver channel (s.die channel target) = true ∧ channel < 72) := by
  refine ⟨?_, ?_, ?_⟩
  · exact ⟨1, 0, 0, (let sett : Nat := 0; let s : State := open0; let s : State := { (s.setLoc 1 (locSump 0 2)).clearDirty 1 with chip := .opened, stk := { s.stk with recs := SMap.put none (locSump 0 2).toNat (some { typ := 1, sett := 1, seq := 0, key := 0, ivs := [(0, 1)], pseq := 0, keyVal := 0, data := [(5, 7)], poison := 0 }) s.stk.recs } } |> fun s => (s.setRstate 0 0) |>.wr (ADM_CLS.BUCKET 1) 99 |>.wr (ADM_CLS.BUCKET 5) 99 |>.wr (ADM_CLS.BUCKET 6) 99 |> fun s => { s with haul := { s.haul with stripes := s.haul.stripes.filter (fun x => x.kind == 0) } }; s), by decide +kernel⟩
  · exact ⟨1, 0, 0, (let sett : Nat := 0; let s : State := open0; let s : State := { (s.setLoc 1 (locStk 0 2 0)).clearDirty 1 with chip := .opened, stk := { s.stk with recs := SMap.put none (locStk 0 2 0).toNat (some { typ := 1, sett := 1, seq := 0, key := 0, ivs := [(0, 1)], pseq := 0, keyVal := 1, data := [(5, 7)], poison := 0 }) s.stk.recs } } |> fun s => (s.setRstate 0 0) |>.wr (ADM_CLS.BUCKET 1) 99 |>.wr (ADM_CLS.BUCKET 5) 99 |>.wr (ADM_CLS.BUCKET 6) 99 |> fun s => { s with haul := { s.haul with stripes := s.haul.stripes.filter (fun x => x.kind == 0) } } |> fun s => s.setLock 0 18 true; s), by decide +kernel⟩
  · exact ⟨0, 1, (let s : State := open0; let s : State := { s with svy := { s.svy with run := SMap.put 0 (NAND.ERS_SUSP.sec * 0x100000 + NAND.ERS_SUSP.off / 4 * 4) (BitVec.ofNat 32 (withBits NAND.ERS_SUSP.lo NAND.ERS_SUSP.width 1 (svWord s.svy.run NAND.ERS_SUSP.sec NAND.ERS_SUSP.off))) s.svy.run } } |> fun s => (s.wr (NCH_CTL.SUSP_EN 0) 1).wr (NCH_CTL.SUSP_MAX 0) 5 |>.wr (NCH_CTL.RESUME_MIN 0) 0 |>.setDie 0 1 { DieErase.idle with busy := true, queued := [(⟨0, 1, 3, 2, ⟨false, some 0, [], []⟩, [], true⟩, false)] }; s), by decide +kernel⟩

/-- Clauses of HostMemory have states and operands that meet their conditions. -/
theorem test_conditions_HostMemory_1 :
    (∃ (port tag dpa devs : Nat) (sram : SramErr) (s1 : State) (k : Nat) (l : Nat) (s : State), s.chip ≠ .off ∧ s1 = s.lookupSlab port dpa sram ∧ s1.memOk port = true ∧ s1.access port (dpa / 64 * 64) = some (k, l) ∧ s1.settHome k = true ∧ s1.readBlock port k l (s1.port port).arrivals = none ∧ s1.repairOf k l = none ∧ (s1.pendingTo port k).filter (fun e => e.line == l) = [] ∧ popCount 10 devs = 0 ∧ s1.rankAnswers k = true ∧ SMap.get false (k * 1024 + l) s1.dch.hard = false ∧ s1.poisoned k l = false) ∧
    (∃ (port tag dpa devs : Nat) (sram : SramErr) (s1 : State) (s : State), s.chip ≠ .off ∧ s1 = s.lookupSlab port dpa sram ∧ s1.memOk port = true ∧ s1.access port (dpa / 64 * 64) = none) ∧
    (∃ (port tag dpa devs : Nat) (sram : SramErr) (s1 : State) (k : Nat) (l : Nat) (s : State), s.chip ≠ .off ∧ s1 = s.lookupSlab port dpa sram ∧ s1.memOk port = true ∧ s1.access port (dpa / 64 * 64) = some (k, l) ∧ s1.settHome k = false) := by
  refine ⟨?_, ?_, ?_⟩
  · exact ⟨0, 0, 0, 0, .none, { regs := [(656384, 1#32), (1048576, 0x808#32), (1048580, 0x3b#32)], tick := 100000, chip := .opened, margin := .sable, stamp := 0, stampTick := 0, fuse := { step := 0, serial := 0, blown := 0, provKey := 0#256, devKey := 0#256 }, bed := { fneg := [], chipReset := 0 }, svy := { run := [(16777216, 0x610#32), (16777220, 15#32), (17825792, 4#32), (17825796, 0x3020100#32), (18874368, 1#32), (18874372, 0x80000#32), (18874376, 8#32), (18874384, 0x101#32), (18874388, 0x80008#32), (18874392, 8#32), (20971520, 0x8180#32), (33554432, 0x8a04000#32), (33554436, 0x4040800#32), (33554440, 0x3e80048#32), (33554448, 1#32), (33554456, 1#32), (33554464, 1#32), (33554472, 1#32), (33554480, 1#32), (33554488, 1#32), (33554496, 1#32), (33554504, 1#32), (33554512, 1#32), (34603008, 0x30010#32), (34603012, 0x40030#32), (34603016, 0x40008#32), (34603024, 0x30010#32), (34603028, 0x40030#32), (34603032, 0x40008#32), (35651584, 3#32), (50331648, 0x32402#32), (50331652, 0x648000#32), (50331656, 0xc80642f#32), (50331660, 0x100003#32), (50331664, 0x64#32), (50331688, 15#32), (50331692, 0x114#32), (50331808, 0x201013f#32), (50331812, 0x201013f#32), (50331936, 0x10#32), (67108864, 1#32), (67108868, 0x1964#32), (67108872, 0x1964#32), (67108876, 0x2bf20#32), (67108880, 0x186a00#32), (67108884, 0xcccd#32), (67108888, 0xf852e666#32), (67108892, 0x28fd99a#32), (67108896, 0xb33300f6#32), (67108900, 0x28999a#32)], has := [16, 17, 18, 20, 32, 33, 34, 48, 64], loaded := true, shadow := true, staging := [], inst := [], live := false, cmd := 0, taken := [], face := 0, pairDig := 0#128 }, slb := { slabs := [], ready := true, owned := true, baseR := 0, grants := [], ift := [], lmap := [], image := [] }, lgr := { packA := { ebase := 0, energy := 0, rc := 0, fcc := 0, dc := 0, chem := 0, ma := 0, gaugeMv := 0, temp := 0, debit := 0, saveDebit := 0, hiScans := 0, loScans := 0, valid := 0, last := none, esr := [], esrTick := 0, gaugeTick := 0 }, packB := { ebase := 0, energy := 0, rc := 0, fcc := 0, dc := 0, chem := 0, ma := 0, gaugeMv := 0, temp := 0, debit := 0, saveDebit := 0, hiScans := 0, loScans := 0, valid := 0, last := none, esr := [], esrTick := 0, gaugeTick := 0 }, sableCnt := 0, extra := false }, adm := { rr := 7, jobq := [], wear := 0, wearHaul := 0, wearMark := 0, day := 0, repTick := [], repDue := [], repMargin := 3 }, haul := { ptr := [], cover := [], bank := 0, started := 0, done := 0, short := false, half := false, waitStk := [], waitSump := [], group := 0, stripes := [], nextStripe := 0, pfw := false, pfwTick := 0 }, save := { off := false, short := false, trigTick := 0, walkTick := 0, walked := false, railCut := false, powerBack := false, vol := 0, sumpStart := [], first := [], last := [], carve := [], pads := 0, fdirty := [], anchor := none, session := 0, openAfter := 0, down := false, spent := none, lodes := [], aggs := [], staging := [], numbers := [], ctx := { rings := [], lost := false, owners := [], running := [], cached := [] } }, stk := { recs := [], lodes := [], blks := [], remaps := [], broken := [], pseq := [], head := [], openLode := [], wlWait := [], intents := [], jpend := [], jrnl := [], jseq := 0, jpage := 0, jsaved := 0, dies := [], silent := [], accs := [], applied := [], folding := false, reworking := false, degraded := 0, bootBad := [], bootMap := [], hblock := 0, lpage := 0, lfix := 0, anchors := [], apage := 0, patrolWin := 0, patrolled := [], patrolRead := [] }, saves := [], res := { fetch := [], demand := [], lastPort := 7, prefetch := [], bgPtr := [], bgBank := 0, rebuilt := false, filling := false, trigTick := 0, counted := 0, memRec := 0, holdRec := [], newLost := [], trained := false, noKeys := false, anchored := false, scanTick := 0 }, dch := { mem := [], poison := [], banks := [], repairs := [], hard := [], devCe := [], eqCe := [], eqTick := [], eqTemp := [], bootTemps := [], taps := [], ueRun := [], late := [], early := [], refBank := [], periodCe := 0, win := 0, limits := [3600, 4096, 256, 16, 64], mig := none, rankMap := [], crdMap := [], inForce := [], cfgNew := [], lastReq := [], actLimit := [], rankSr := [], eqRun := [], scrubTick := [], prev := [], ceTotal := [] }, ports := [], nv := [(0, { dirty := 0, shutdown := 0, feat := 0x7f#128, lsa := [] })], job := { rings := [], cache := [], jobs := [], pins := [], lost := false, fenceDue := 0, inits := [] }, cip := { keys := [], keyin := [], store := [], storeOk := false, ceiling := 0, storeSeq := 0, cmd := none, purge := [], stale := [], erasePend := 0, eraseSan := 0, rotate := [], misWin := [], next := 0, kat := [] }, gal := { epoch := 0#64, joinEpoch := 0#64, peerFenced := false, sent := [], held := [], fwds := [], nextTag := 0, lines := [], peerLines := [], joinStep := 0, listGot := false, rslvGot := false, lineWait := [], asks := [], nextAsk := 0, reqs := [], ctls := [], rslvSlab := 0, rslvSett := 0, rslvQuota := 0, kept := false, peerEpoch := 0#64, fullFor := 0, replays := [], lastFlit := [0, 0], lastBeat := 0, graceAt := 0, seen := 0, joinAt := 0, hello := [false, false], handover := 0, zeroing := [] }, seq := { stage := .idle, order := [], good := [], bad := [], low := [], high := [], glitch := [], glitchPrev := [], glitchWin := 0, latchAfter := false, offTick := 0, minOff := true, timed := false, offPend := false, noDnWait := false, inGood := 0, inLow := 0, pwrLow := false, pfwTick := 0, pfwLate := false, stretch := 0, pulse := 0, pg00Told := false, pg00Good := 0, pg00Bad := 0, pg00Ok := false, latchSave := false, syncDrive := false, lowTold := false, timedTick := 0 }, clk := { rising := [], tripSeen := false, refFail := false }, flt := { raised := [], irqq := [], win := [], esc := [], thrNew := [], winNew := [], rst := none, later := [], holdAfter := false }, clg := { live := [], staging := [], forming := [], phase := 0, pend := [], held := [], log := [], win := none, fetch := none, extDay := 0, railLogged := false, bootLogged := false, ffcAtWaking := [0, 0, 0], subSec := 0, resumed := false }, twb := { ports := [], alert := false, alertTick := 0, mctp := 0, sensTick := [] }, fwm := { slotA := { image := [], sealed := false, tag := 0#128, next := [], blk := 0 }, slotB := { image := [], sealed := false, tag := 0#128, next := [], blk := 0 }, active := 0, trial := false, tries := 0, staging := none, xfer := 0, xferFace := 0, running := true, alive := false, prev := 0, handoff := false, recovery := false, svyEpoch := 0, openCmds := [], waiting := [], bootTick := 0 }, pin := { testen := false, power := true, tap := .bypass, railset := 0, err := false }, pending := [], out := [], free := 0 }, 0, 0, (open0), by decide +kernel⟩
  · exact ⟨0, 0, 1099511627776, 0, .none, { regs := [(656384, 1#32), (1048576, 0x808#32), (1048580, 0x3b#32)], tick := 100000, chip := .opened, margin := .sable, stamp := 0, stampTick := 0, fuse := { step := 0, serial := 0, blown := 0, provKey := 0#256, devKey := 0#256 }, bed := { fneg := [], chipReset := 0 }, svy := { run := [(16777216, 0x610#32), (16777220, 15#32), (17825792, 4#32), (17825796, 0x3020100#32), (18874368, 1#32), (18874372, 0x80000#32), (18874376, 8#32), (18874384, 0x101#32), (18874388, 0x80008#32), (18874392, 8#32), (20971520, 0x8180#32), (33554432, 0x8a04000#32), (33554436, 0x4040800#32), (33554440, 0x3e80048#32), (33554448, 1#32), (33554456, 1#32), (33554464, 1#32), (33554472, 1#32), (33554480, 1#32), (33554488, 1#32), (33554496, 1#32), (33554504, 1#32), (33554512, 1#32), (34603008, 0x30010#32), (34603012, 0x40030#32), (34603016, 0x40008#32), (34603024, 0x30010#32), (34603028, 0x40030#32), (34603032, 0x40008#32), (35651584, 3#32), (50331648, 0x32402#32), (50331652, 0x648000#32), (50331656, 0xc80642f#32), (50331660, 0x100003#32), (50331664, 0x64#32), (50331688, 15#32), (50331692, 0x114#32), (50331808, 0x201013f#32), (50331812, 0x201013f#32), (50331936, 0x10#32), (67108864, 1#32), (67108868, 0x1964#32), (67108872, 0x1964#32), (67108876, 0x2bf20#32), (67108880, 0x186a00#32), (67108884, 0xcccd#32), (67108888, 0xf852e666#32), (67108892, 0x28fd99a#32), (67108896, 0xb33300f6#32), (67108900, 0x28999a#32)], has := [16, 17, 18, 20, 32, 33, 34, 48, 64], loaded := true, shadow := true, staging := [], inst := [], live := false, cmd := 0, taken := [], face := 0, pairDig := 0#128 }, slb := { slabs := [], ready := true, owned := true, baseR := 0, grants := [], ift := [], lmap := [], image := [] }, lgr := { packA := { ebase := 0, energy := 0, rc := 0, fcc := 0, dc := 0, chem := 0, ma := 0, gaugeMv := 0, temp := 0, debit := 0, saveDebit := 0, hiScans := 0, loScans := 0, valid := 0, last := none, esr := [], esrTick := 0, gaugeTick := 0 }, packB := { ebase := 0, energy := 0, rc := 0, fcc := 0, dc := 0, chem := 0, ma := 0, gaugeMv := 0, temp := 0, debit := 0, saveDebit := 0, hiScans := 0, loScans := 0, valid := 0, last := none, esr := [], esrTick := 0, gaugeTick := 0 }, sableCnt := 0, extra := false }, adm := { rr := 7, jobq := [], wear := 0, wearHaul := 0, wearMark := 0, day := 0, repTick := [], repDue := [], repMargin := 3 }, haul := { ptr := [], cover := [], bank := 0, started := 0, done := 0, short := false, half := false, waitStk := [], waitSump := [], group := 0, stripes := [], nextStripe := 0, pfw := false, pfwTick := 0 }, save := { off := false, short := false, trigTick := 0, walkTick := 0, walked := false, railCut := false, powerBack := false, vol := 0, sumpStart := [], first := [], last := [], carve := [], pads := 0, fdirty := [], anchor := none, session := 0, openAfter := 0, down := false, spent := none, lodes := [], aggs := [], staging := [], numbers := [], ctx := { rings := [], lost := false, owners := [], running := [], cached := [] } }, stk := { recs := [], lodes := [], blks := [], remaps := [], broken := [], pseq := [], head := [], openLode := [], wlWait := [], intents := [], jpend := [], jrnl := [], jseq := 0, jpage := 0, jsaved := 0, dies := [], silent := [], accs := [], applied := [], folding := false, reworking := false, degraded := 0, bootBad := [], bootMap := [], hblock := 0, lpage := 0, lfix := 0, anchors := [], apage := 0, patrolWin := 0, patrolled := [], patrolRead := [] }, saves := [], res := { fetch := [], demand := [], lastPort := 7, prefetch := [], bgPtr := [], bgBank := 0, rebuilt := false, filling := false, trigTick := 0, counted := 0, memRec := 0, holdRec := [], newLost := [], trained := false, noKeys := false, anchored := false, scanTick := 0 }, dch := { mem := [], poison := [], banks := [], repairs := [], hard := [], devCe := [], eqCe := [], eqTick := [], eqTemp := [], bootTemps := [], taps := [], ueRun := [], late := [], early := [], refBank := [], periodCe := 0, win := 0, limits := [3600, 4096, 256, 16, 64], mig := none, rankMap := [], crdMap := [], inForce := [], cfgNew := [], lastReq := [], actLimit := [], rankSr := [], eqRun := [], scrubTick := [], prev := [], ceTotal := [] }, ports := [], nv := [(0, { dirty := 0, shutdown := 0, feat := 0x7f#128, lsa := [] })], job := { rings := [], cache := [], jobs := [], pins := [], lost := false, fenceDue := 0, inits := [] }, cip := { keys := [], keyin := [], store := [], storeOk := false, ceiling := 0, storeSeq := 0, cmd := none, purge := [], stale := [], erasePend := 0, eraseSan := 0, rotate := [], misWin := [], next := 0, kat := [] }, gal := { epoch := 0#64, joinEpoch := 0#64, peerFenced := false, sent := [], held := [], fwds := [], nextTag := 0, lines := [], peerLines := [], joinStep := 0, listGot := false, rslvGot := false, lineWait := [], asks := [], nextAsk := 0, reqs := [], ctls := [], rslvSlab := 0, rslvSett := 0, rslvQuota := 0, kept := false, peerEpoch := 0#64, fullFor := 0, replays := [], lastFlit := [0, 0], lastBeat := 0, graceAt := 0, seen := 0, joinAt := 0, hello := [false, false], handover := 0, zeroing := [] }, seq := { stage := .idle, order := [], good := [], bad := [], low := [], high := [], glitch := [], glitchPrev := [], glitchWin := 0, latchAfter := false, offTick := 0, minOff := true, timed := false, offPend := false, noDnWait := false, inGood := 0, inLow := 0, pwrLow := false, pfwTick := 0, pfwLate := false, stretch := 0, pulse := 0, pg00Told := false, pg00Good := 0, pg00Bad := 0, pg00Ok := false, latchSave := false, syncDrive := false, lowTold := false, timedTick := 0 }, clk := { rising := [], tripSeen := false, refFail := false }, flt := { raised := [], irqq := [], win := [], esc := [], thrNew := [], winNew := [], rst := none, later := [], holdAfter := false }, clg := { live := [], staging := [], forming := [], phase := 0, pend := [], held := [], log := [], win := none, fetch := none, extDay := 0, railLogged := false, bootLogged := false, ffcAtWaking := [0, 0, 0], subSec := 0, resumed := false }, twb := { ports := [], alert := false, alertTick := 0, mctp := 0, sensTick := [] }, fwm := { slotA := { image := [], sealed := false, tag := 0#128, next := [], blk := 0 }, slotB := { image := [], sealed := false, tag := 0#128, next := [], blk := 0 }, active := 0, trial := false, tries := 0, staging := none, xfer := 0, xferFace := 0, running := true, alive := false, prev := 0, handoff := false, recovery := false, svyEpoch := 0, openCmds := [], waiting := [], bootTick := 0 }, pin := { testen := false, power := true, tap := .bypass, railset := 0, err := false }, pending := [], out := [], free := 0 }, (open0), by decide +kernel⟩
  · exact ⟨0, 0, 0, 0, .none, { regs := [(656384, 1#32), (1048576, 0x808#32), (1048580, 0x3b#32)], tick := 100000, chip := .opened, margin := .sable, stamp := 0, stampTick := 0, fuse := { step := 0, serial := 0, blown := 0, provKey := 0#256, devKey := 0#256 }, bed := { fneg := [], chipReset := 0 }, svy := { run := [(16777216, 0x610#32), (16777220, 15#32), (17825792, 4#32), (17825796, 0x3020100#32), (18874368, 1#32), (18874372, 0x80000#32), (18874376, 8#32), (18874384, 0x101#32), (18874388, 0x80008#32), (18874392, 8#32), (20971520, 0x8180#32), (33554432, 0x8a04000#32), (33554436, 0x4040800#32), (33554440, 0x3e80048#32), (33554448, 1#32), (33554456, 1#32), (33554464, 1#32), (33554472, 1#32), (33554480, 1#32), (33554488, 1#32), (33554496, 1#32), (33554504, 1#32), (33554512, 1#32), (34603008, 0x30010#32), (34603012, 0x40030#32), (34603016, 0x40008#32), (34603024, 0x30010#32), (34603028, 0x40030#32), (34603032, 0x40008#32), (35651584, 3#32), (50331648, 0x32402#32), (50331652, 0x648000#32), (50331656, 0xc80642f#32), (50331660, 0x100003#32), (50331664, 0x64#32), (50331688, 15#32), (50331692, 0x114#32), (50331808, 0x201013f#32), (50331812, 0x201013f#32), (50331936, 0x10#32), (67108864, 1#32), (67108868, 0x1964#32), (67108872, 0x1964#32), (67108876, 0x2bf20#32), (67108880, 0x186a00#32), (67108884, 0xcccd#32), (67108888, 0xf852e666#32), (67108892, 0x28fd99a#32), (67108896, 0xb33300f6#32), (67108900, 0x28999a#32)], has := [16, 17, 18, 20, 32, 33, 34, 48, 64], loaded := true, shadow := true, staging := [], inst := [], live := false, cmd := 0, taken := [], face := 0, pairDig := 0#128 }, slb := { slabs := [(0, { mask := 0#64, word := 8#32 })], ready := true, owned := true, baseR := 0, grants := [], ift := [], lmap := [], image := [] }, lgr := { packA := { ebase := 0, energy := 0, rc := 0, fcc := 0, dc := 0, chem := 0, ma := 0, gaugeMv := 0, temp := 0, debit := 0, saveDebit := 0, hiScans := 0, loScans := 0, valid := 0, last := none, esr := [], esrTick := 0, gaugeTick := 0 }, packB := { ebase := 0, energy := 0, rc := 0, fcc := 0, dc := 0, chem := 0, ma := 0, gaugeMv := 0, temp := 0, debit := 0, saveDebit := 0, hiScans := 0, loScans := 0, valid := 0, last := none, esr := [], esrTick := 0, gaugeTick := 0 }, sableCnt := 0, extra := false }, adm := { rr := 7, jobq := [], wear := 0, wearHaul := 0, wearMark := 0, day := 0, repTick := [], repDue := [], repMargin := 3 }, haul := { ptr := [], cover := [], bank := 0, started := 0, done := 0, short := false, half := false, waitStk := [], waitSump := [], group := 0, stripes := [], nextStripe := 0, pfw := false, pfwTick := 0 }, save := { off := false, short := false, trigTick := 0, walkTick := 0, walked := false, railCut := false, powerBack := false, vol := 0, sumpStart := [], first := [], last := [], carve := [], pads := 0, fdirty := [], anchor := none, session := 0, openAfter := 0, down := false, spent := none, lodes := [], aggs := [], staging := [], numbers := [], ctx := { rings := [], lost := false, owners := [], running := [], cached := [] } }, stk := { recs := [], lodes := [], blks := [], remaps := [], broken := [], pseq := [], head := [], openLode := [], wlWait := [], intents := [], jpend := [], jrnl := [], jseq := 0, jpage := 0, jsaved := 0, dies := [], silent := [], accs := [], applied := [], folding := false, reworking := false, degraded := 0, bootBad := [], bootMap := [], hblock := 0, lpage := 0, lfix := 0, anchors := [], apage := 0, patrolWin := 0, patrolled := [], patrolRead := [] }, saves := [], res := { fetch := [], demand := [], lastPort := 7, prefetch := [], bgPtr := [], bgBank := 0, rebuilt := false, filling := false, trigTick := 0, counted := 0, memRec := 0, holdRec := [], newLost := [], trained := false, noKeys := false, anchored := false, scanTick := 0 }, dch := { mem := [], poison := [], banks := [], repairs := [], hard := [], devCe := [], eqCe := [], eqTick := [], eqTemp := [], bootTemps := [], taps := [], ueRun := [], late := [], early := [], refBank := [], periodCe := 0, win := 0, limits := [3600, 4096, 256, 16, 64], mig := none, rankMap := [], crdMap := [], inForce := [], cfgNew := [], lastReq := [], actLimit := [], rankSr := [], eqRun := [], scrubTick := [], prev := [], ceTotal := [] }, ports := [], nv := [(0, { dirty := 0, shutdown := 0, feat := 0x7f#128, lsa := [] })], job := { rings := [], cache := [], jobs := [], pins := [], lost := false, fenceDue := 0, inits := [] }, cip := { keys := [], keyin := [], store := [], storeOk := false, ceiling := 0, storeSeq := 0, cmd := none, purge := [], stale := [], erasePend := 0, eraseSan := 0, rotate := [], misWin := [], next := 0, kat := [] }, gal := { epoch := 0#64, joinEpoch := 0#64, peerFenced := false, sent := [], held := [], fwds := [], nextTag := 0, lines := [], peerLines := [], joinStep := 0, listGot := false, rslvGot := false, lineWait := [], asks := [], nextAsk := 0, reqs := [], ctls := [], rslvSlab := 0, rslvSett := 0, rslvQuota := 0, kept := false, peerEpoch := 0#64, fullFor := 0, replays := [], lastFlit := [0, 0], lastBeat := 0, graceAt := 0, seen := 0, joinAt := 0, hello := [false, false], handover := 0, zeroing := [] }, seq := { stage := .idle, order := [], good := [], bad := [], low := [], high := [], glitch := [], glitchPrev := [], glitchWin := 0, latchAfter := false, offTick := 0, minOff := true, timed := false, offPend := false, noDnWait := false, inGood := 0, inLow := 0, pwrLow := false, pfwTick := 0, pfwLate := false, stretch := 0, pulse := 0, pg00Told := false, pg00Good := 0, pg00Bad := 0, pg00Ok := false, latchSave := false, syncDrive := false, lowTold := false, timedTick := 0 }, clk := { rising := [], tripSeen := false, refFail := false }, flt := { raised := [], irqq := [], win := [], esc := [], thrNew := [], winNew := [], rst := none, later := [], holdAfter := false }, clg := { live := [], staging := [], forming := [], phase := 0, pend := [], held := [], log := [], win := none, fetch := none, extDay := 0, railLogged := false, bootLogged := false, ffcAtWaking := [0, 0, 0], subSec := 0, resumed := false }, twb := { ports := [], alert := false, alertTick := 0, mctp := 0, sensTick := [] }, fwm := { slotA := { image := [], sealed := false, tag := 0#128, next := [], blk := 0 }, slotB := { image := [], sealed := false, tag := 0#128, next := [], blk := 0 }, active := 0, trial := false, tries := 0, staging := none, xfer := 0, xferFace := 0, running := true, alive := false, prev := 0, handoff := false, recovery := false, svyEpoch := 0, openCmds := [], waiting := [], bootTick := 0 }, pin := { testen := false, power := true, tap := .bypass, railset := 0, err := false }, pending := [], out := [], free := 0 }, 0, 0, (let s : State := open0; let s : State := (s.wr (HPT_STATUS.OPEN 0) 1).setRstate 0 1; s), by decide +kernel⟩

/-- Clauses of HostMemory have states and operands that meet their conditions. -/
theorem test_conditions_HostMemory_2 :
    (∃ (port tag dpa : Nat) (data : Line) (poison : Bool) (sram : SramErr) (s1 : State) (k : Nat) (l : Nat) (s : State), s.chip ≠ .off ∧ s1 = s.lookupSlab port dpa sram ∧ s1.memOk port = true ∧ (s1.port port).wbuf.length < 4096 ∧ (s1.port port).owed < portCredits ∧ s1.write? port tag = none ∧ s1.access port (dpa / 64 * 64) = some (k, l) ∧ s1.settHome k = true ∧ (s1.slab (settSlab k)).jobl = false ∧ s1.repairOf k l = none ∧ s1.mirrors = false ∧ (s1.port port).wbuf.any (fun x => (x.wait == .parked || x.wait == .queueFull) && x.sett == k && x.line == l) = false ∧ tag < mailTag ∧ s1.dirty k = true) ∧
    (∃ (port tag dpa : Nat) (data : Line) (poison : Bool) (sram : SramErr) (s1 : State) (k : Nat) (l : Nat) (s : State), s.chip ≠ .off ∧ s1 = s.lookupSlab port dpa sram ∧ s1.memOk port = true ∧ (s1.port port).wbuf.length < 4096 ∧ (s1.port port).owed < portCredits ∧ s1.write? port tag = none ∧ s1.access port (dpa / 64 * 64) = some (k, l) ∧ s1.settHome k = true ∧ (s1.slab (settSlab k)).jobl = false ∧ s1.repairOf k l = none ∧ s1.mirrors = false ∧ (s1.port port).wbuf.any (fun x => (x.wait == .parked || x.wait == .queueFull) && x.sett == k && x.line == l) = false ∧ tag < mailTag ∧ s1.dirty k = false ∧ s1.admits port = false) ∧
    (∃ (port tag dpa : Nat) (data : Line) (mask : BitVec 64) (devs : Nat) (sram : SramErr) (s1 : State) (k : Nat) (l : Nat) (s : State), s.chip ≠ .off ∧ s1 = s.lookupSlab port dpa sram ∧ s1.memOk port = true ∧ (s1.port port).wbuf.length < 4096 ∧ (s1.port port).owed < portCredits ∧ s1.write? port tag = none ∧ s1.access port (dpa / 64 * 64) = some (k, l) ∧ s1.settHome k = true ∧ (s1.slab (settSlab k)).jobl = false ∧ s1.repairOf k l = none ∧ s1.mirrors = false ∧ (s1.port port).wbuf.any (fun x => (x.wait == .parked || x.wait == .queueFull) && x.sett == k && x.line == l) = false ∧ tag < mailTag ∧ s1.dirty k = true) := by
  refine ⟨?_, ?_, ?_⟩
  · exact ⟨0, 0, 0, 0#512, false, .none, { regs := [(589828, 2#32), (656384, 1#32), (1048576, 0x808#32), (1048580, 0x3b#32), (8388688, 2#32)], tick := 100000, chip := .opened, margin := .amber, stamp := 0, stampTick := 0, fuse := { step := 0, serial := 0, blown := 0, provKey := 0#256, devKey := 0#256 }, bed := { fneg := [], chipReset := 0 }, svy := { run := [(16777216, 0x610#32), (16777220, 15#32), (17825792, 4#32), (17825796, 0x3020100#32), (18874368, 1#32), (18874372, 0x80000#32), (18874376, 8#32), (18874384, 0x101#32), (18874388, 0x80008#32), (18874392, 8#32), (20971520, 0x8180#32), (33554432, 0x8a04000#32), (33554436, 0x4040800#32), (33554440, 0x3e80048#32), (33554448, 1#32), (33554456, 1#32), (33554464, 1#32), (33554472, 1#32), (33554480, 1#32), (33554488, 1#32), (33554496, 1#32), (33554504, 1#32), (33554512, 1#32), (34603008, 0x30010#32), (34603012, 0x40030#32), (34603016, 0x40008#32), (34603024, 0x30010#32), (34603028, 0x40030#32), (34603032, 0x40008#32), (35651584, 3#32), (50331648, 0x32402#32), (50331652, 0x648000#32), (50331656, 0xc80642f#32), (50331660, 0x100003#32), (50331664, 0x64#32), (50331688, 15#32), (50331692, 0x114#32), (50331808, 0x201013f#32), (50331812, 0x201013f#32), (50331936, 0x10#32), (67108864, 1#32), (67108868, 0x1964#32), (67108872, 0x1964#32), (67108876, 0x2bf20#32), (67108880, 0x186a00#32), (67108884, 0xcccd#32), (67108888, 0xf852e666#32), (67108892, 0x28fd99a#32), (67108896, 0xb33300f6#32), (67108900, 0x28999a#32)], has := [16, 17, 18, 20, 32, 33, 34, 48, 64], loaded := true, shadow := true, staging := [], inst := [], live := false, cmd := 0, taken := [], face := 0, pairDig := 0#128 }, slb := { slabs := [(0, { mask := 3#64, word := 0#32 })], ready := true, owned := true, baseR := 0, grants := [], ift := [], lmap := [], image := [] }, lgr := { packA := { ebase := 0, energy := 0, rc := 0, fcc := 0, dc := 0, chem := 0, ma := 0, gaugeMv := 0, temp := 0, debit := 0, saveDebit := 0, hiScans := 0, loScans := 0, valid := 0, last := none, esr := [], esrTick := 0, gaugeTick := 0 }, packB := { ebase := 0, energy := 0, rc := 0, fcc := 0, dc := 0, chem := 0, ma := 0, gaugeMv := 0, temp := 0, debit := 0, saveDebit := 0, hiScans := 0, loScans := 0, valid := 0, last := none, esr := [], esrTick := 0, gaugeTick := 0 }, sableCnt := 0, extra := false }, adm := { rr := 7, jobq := [], wear := 0, wearHaul := 0, wearMark := 0, day := 0, repTick := [], repDue := [], repMargin := 3 }, haul := { ptr := [], cover := [], bank := 0, started := 0, done := 0, short := false, half := false, waitStk := [], waitSump := [], group := 0, stripes := [], nextStripe := 0, pfw := false, pfwTick := 0 }, save := { off := false, short := false, trigTick := 0, walkTick := 0, walked := false, railCut := false, powerBack := false, vol := 0, sumpStart := [], first := [], last := [], carve := [], pads := 0, fdirty := [], anchor := none, session := 0, openAfter := 0, down := false, spent := none, lodes := [], aggs := [], staging := [], numbers := [], ctx := { rings := [], lost := false, owners := [], running := [], cached := [] } }, stk := { recs := [], lodes := [], blks := [], remaps := [], broken := [], pseq := [], head := [], openLode := [], wlWait := [], intents := [], jpend := [], jrnl := [], jseq := 0, jpage := 0, jsaved := 0, dies := [], silent := [], accs := [], applied := [], folding := false, reworking := false, degraded := 0, bootBad := [], bootMap := [], hblock := 0, lpage := 0, lfix := 0, anchors := [], apage := 0, patrolWin := 0, patrolled := [], patrolRead := [] }, saves := [], res := { fetch := [], demand := [], lastPort := 7, prefetch := [], bgPtr := [], bgBank := 0, rebuilt := false, filling := false, trigTick := 0, counted := 0, memRec := 0, holdRec := [], newLost := [], trained := false, noKeys := false, anchored := false, scanTick := 0 }, dch := { mem := [], poison := [], banks := [], repairs := [], hard := [], devCe := [], eqCe := [], eqTick := [], eqTemp := [], bootTemps := [], taps := [], ueRun := [], late := [], early := [], refBank := [], periodCe := 0, win := 0, limits := [3600, 4096, 256, 16, 64], mig := none, rankMap := [], crdMap := [], inForce := [], cfgNew := [], lastReq := [], actLimit := [], rankSr := [], eqRun := [], scrubTick := [], prev := [], ceTotal := [] }, ports := [], nv := [(0, { dirty := 0, shutdown := 0, feat := 0x7f#128, lsa := [] })], job := { rings := [], cache := [], jobs := [], pins := [], lost := false, fenceDue := 0, inits := [] }, cip := { keys := [], keyin := [], store := [], storeOk := false, ceiling := 0, storeSeq := 0, cmd := none, purge := [], stale := [], erasePend := 0, eraseSan := 0, rotate := [], misWin := [], next := 0, kat := [] }, gal := { epoch := 0#64, joinEpoch := 0#64, peerFenced := false, sent := [], held := [], fwds := [], nextTag := 0, lines := [], peerLines := [], joinStep := 0, listGot := false, rslvGot := false, lineWait := [], asks := [], nextAsk := 0, reqs := [], ctls := [], rslvSlab := 0, rslvSett := 0, rslvQuota := 0, kept := false, peerEpoch := 0#64, fullFor := 0, replays := [], lastFlit := [0, 0], lastBeat := 0, graceAt := 0, seen := 0, joinAt := 0, hello := [false, false], handover := 0, zeroing := [] }, seq := { stage := .idle, order := [], good := [], bad := [], low := [], high := [], glitch := [], glitchPrev := [], glitchWin := 0, latchAfter := false, offTick := 0, minOff := true, timed := false, offPend := false, noDnWait := false, inGood := 0, inLow := 0, pwrLow := false, pfwTick := 0, pfwLate := false, stretch := 0, pulse := 0, pg00Told := false, pg00Good := 0, pg00Bad := 0, pg00Ok := false, latchSave := false, syncDrive := false, lowTold := false, timedTick := 0 }, clk := { rising := [], tripSeen := false, refFail := false }, flt := { raised := [], irqq := [], win := [], esc := [], thrNew := [], winNew := [], rst := none, later := [], holdAfter := false }, clg := { live := [], staging := [], forming := [], phase := 0, pend := [], held := [], log := [], win := none, fetch := none, extDay := 0, railLogged := false, bootLogged := false, ffcAtWaking := [0, 0, 0], subSec := 0, resumed := false }, twb := { ports := [], alert := false, alertTick := 0, mctp := 0, sensTick := [] }, fwm := { slotA := { image := [], sealed := false, tag := 0#128, next := [], blk := 0 }, slotB := { image := [], sealed := false, tag := 0#128, next := [], blk := 0 }, active := 0, trial := false, tries := 0, staging := none, xfer := 0, xferFace := 0, running := true, alive := false, prev := 0, handoff := false, recovery := false, svyEpoch := 0, openCmds := [], waiting := [], bootTick := 0 }, pin := { testen := false, power := true, tap := .bypass, railset := 0, err := false }, pending := [], out := [], free := 0 }, 0, 0, (let port : Nat := 0; let tag : Nat := 0; let s : State := open0; let s : State := { ((s.wr (HPT_STATUS.OPEN 0) 1).setRstate 0 0).setPort 0 { s.port 0 with wbuf := (s.port 0).wbuf.filter (fun e => e.tag != tag % 60 && e.wait != .parked) } with margin := .amber, dch := { s.dch with repairs := [] } } |> fun s => s.wr GAL_STATUS.MODE (s.free % 2) |>.setLock 0 15 false |> fun s => s.setDirty (settSlab 0 + 0) |>.setDirty 1; s), by decide +kernel⟩
  · exact ⟨0, 0, 0, 0#512, false, .none, { regs := [(656384, 1#32), (1048576, 0x808#32), (1048580, 0x3b#32)], tick := 100000, chip := .opened, margin := .sable, stamp := 0, stampTick := 0, fuse := { step := 0, serial := 0, blown := 0, provKey := 0#256, devKey := 0#256 }, bed := { fneg := [], chipReset := 0 }, svy := { run := [(16777216, 0x610#32), (16777220, 15#32), (17825792, 4#32), (17825796, 0x3020100#32), (18874368, 1#32), (18874372, 0x80000#32), (18874376, 8#32), (18874384, 0x101#32), (18874388, 0x80008#32), (18874392, 8#32), (20971520, 0x8180#32), (33554432, 0x8a04000#32), (33554436, 0x4040800#32), (33554440, 0x3e80048#32), (33554448, 1#32), (33554456, 1#32), (33554464, 1#32), (33554472, 1#32), (33554480, 1#32), (33554488, 1#32), (33554496, 1#32), (33554504, 1#32), (33554512, 1#32), (34603008, 0x30010#32), (34603012, 0x40030#32), (34603016, 0x40008#32), (34603024, 0x30010#32), (34603028, 0x40030#32), (34603032, 0x40008#32), (35651584, 3#32), (50331648, 0x32402#32), (50331652, 0x648000#32), (50331656, 0xc80642f#32), (50331660, 0x100003#32), (50331664, 0x64#32), (50331688, 15#32), (50331692, 0x114#32), (50331808, 0x201013f#32), (50331812, 0x201013f#32), (50331936, 0x10#32), (67108864, 1#32), (67108868, 0x1964#32), (67108872, 0x1964#32), (67108876, 0x2bf20#32), (67108880, 0x186a00#32), (67108884, 0xcccd#32), (67108888, 0xf852e666#32), (67108892, 0x28fd99a#32), (67108896, 0xb33300f6#32), (67108900, 0x28999a#32)], has := [16, 17, 18, 20, 32, 33, 34, 48, 64], loaded := true, shadow := true, staging := [], inst := [], live := false, cmd := 0, taken := [], face := 0, pairDig := 0#128 }, slb := { slabs := [], ready := true, owned := true, baseR := 0, grants := [], ift := [], lmap := [], image := [] }, lgr := { packA := { ebase := 0, energy := 0, rc := 0, fcc := 0, dc := 0, chem := 0, ma := 0, gaugeMv := 0, temp := 0, debit := 0, saveDebit := 0, hiScans := 0, loScans := 0, valid := 0, last := none, esr := [], esrTick := 0, gaugeTick := 0 }, packB := { ebase := 0, energy := 0, rc := 0, fcc := 0, dc := 0, chem := 0, ma := 0, gaugeMv := 0, temp := 0, debit := 0, saveDebit := 0, hiScans := 0, loScans := 0, valid := 0, last := none, esr := [], esrTick := 0, gaugeTick := 0 }, sableCnt := 0, extra := false }, adm := { rr := 7, jobq := [], wear := 0, wearHaul := 0, wearMark := 0, day := 0, repTick := [], repDue := [], repMargin := 3 }, haul := { ptr := [], cover := [], bank := 0, started := 0, done := 0, short := false, half := false, waitStk := [], waitSump := [], group := 0, stripes := [], nextStripe := 0, pfw := false, pfwTick := 0 }, save := { off := false, short := false, trigTick := 0, walkTick := 0, walked := false, railCut := false, powerBack := false, vol := 0, sumpStart := [], first := [], last := [], carve := [], pads := 0, fdirty := [], anchor := none, session := 0, openAfter := 0, down := false, spent := none, lodes := [], aggs := [], staging := [], numbers := [], ctx := { rings := [], lost := false, owners := [], running := [], cached := [] } }, stk := { recs := [], lodes := [], blks := [], remaps := [], broken := [], pseq := [], head := [], openLode := [], wlWait := [], intents := [], jpend := [], jrnl := [], jseq := 0, jpage := 0, jsaved := 0, dies := [], silent := [], accs := [], applied := [], folding := false, reworking := false, degraded := 0, bootBad := [], bootMap := [], hblock := 0, lpage := 0, lfix := 0, anchors := [], apage := 0, patrolWin := 0, patrolled := [], patrolRead := [] }, saves := [], res := { fetch := [], demand := [], lastPort := 7, prefetch := [], bgPtr := [], bgBank := 0, rebuilt := false, filling := false, trigTick := 0, counted := 0, memRec := 0, holdRec := [], newLost := [], trained := false, noKeys := false, anchored := false, scanTick := 0 }, dch := { mem := [], poison := [], banks := [], repairs := [], hard := [], devCe := [], eqCe := [], eqTick := [], eqTemp := [], bootTemps := [], taps := [], ueRun := [], late := [], early := [], refBank := [], periodCe := 0, win := 0, limits := [3600, 4096, 256, 16, 64], mig := none, rankMap := [], crdMap := [], inForce := [], cfgNew := [], lastReq := [], actLimit := [], rankSr := [], eqRun := [], scrubTick := [], prev := [], ceTotal := [] }, ports := [], nv := [(0, { dirty := 0, shutdown := 0, feat := 0x7f#128, lsa := [] })], job := { rings := [], cache := [], jobs := [], pins := [], lost := false, fenceDue := 0, inits := [] }, cip := { keys := [], keyin := [], store := [], storeOk := false, ceiling := 0, storeSeq := 0, cmd := none, purge := [], stale := [], erasePend := 0, eraseSan := 0, rotate := [], misWin := [], next := 0, kat := [] }, gal := { epoch := 0#64, joinEpoch := 0#64, peerFenced := false, sent := [], held := [], fwds := [], nextTag := 0, lines := [], peerLines := [], joinStep := 0, listGot := false, rslvGot := false, lineWait := [], asks := [], nextAsk := 0, reqs := [], ctls := [], rslvSlab := 0, rslvSett := 0, rslvQuota := 0, kept := false, peerEpoch := 0#64, fullFor := 0, replays := [], lastFlit := [0, 0], lastBeat := 0, graceAt := 0, seen := 0, joinAt := 0, hello := [false, false], handover := 0, zeroing := [] }, seq := { stage := .idle, order := [], good := [], bad := [], low := [], high := [], glitch := [], glitchPrev := [], glitchWin := 0, latchAfter := false, offTick := 0, minOff := true, timed := false, offPend := false, noDnWait := false, inGood := 0, inLow := 0, pwrLow := false, pfwTick := 0, pfwLate := false, stretch := 0, pulse := 0, pg00Told := false, pg00Good := 0, pg00Bad := 0, pg00Ok := false, latchSave := false, syncDrive := false, lowTold := false, timedTick := 0 }, clk := { rising := [], tripSeen := false, refFail := false }, flt := { raised := [], irqq := [], win := [], esc := [], thrNew := [], winNew := [], rst := none, later := [], holdAfter := false }, clg := { live := [], staging := [], forming := [], phase := 0, pend := [], held := [], log := [], win := none, fetch := none, extDay := 0, railLogged := false, bootLogged := false, ffcAtWaking := [0, 0, 0], subSec := 0, resumed := false }, twb := { ports := [], alert := false, alertTick := 0, mctp := 0, sensTick := [] }, fwm := { slotA := { image := [], sealed := false, tag := 0#128, next := [], blk := 0 }, slotB := { image := [], sealed := false, tag := 0#128, next := [], blk := 0 }, active := 0, trial := false, tries := 0, staging := none, xfer := 0, xferFace := 0, running := true, alive := false, prev := 0, handoff := false, recovery := false, svyEpoch := 0, openCmds := [], waiting := [], bootTick := 0 }, pin := { testen := false, power := true, tap := .bypass, railset := 0, err := false }, pending := [], out := [], free := 0 }, 0, 0, (open0), by decide +kernel⟩
  · exact ⟨0, 0, 0, 0#512, 0#64, 0, .none, { regs := [(589828, 2#32), (656384, 1#32), (1048576, 0x808#32), (1048580, 0x3b#32), (8388688, 2#32)], tick := 100000, chip := .opened, margin := .amber, stamp := 0, stampTick := 0, fuse := { step := 0, serial := 0, blown := 0, provKey := 0#256, devKey := 0#256 }, bed := { fneg := [], chipReset := 0 }, svy := { run := [(16777216, 0x610#32), (16777220, 15#32), (17825792, 4#32), (17825796, 0x3020100#32), (18874368, 1#32), (18874372, 0x80000#32), (18874376, 8#32), (18874384, 0x101#32), (18874388, 0x80008#32), (18874392, 8#32), (20971520, 0x8180#32), (33554432, 0x8a04000#32), (33554436, 0x4040800#32), (33554440, 0x3e80048#32), (33554448, 1#32), (33554456, 1#32), (33554464, 1#32), (33554472, 1#32), (33554480, 1#32), (33554488, 1#32), (33554496, 1#32), (33554504, 1#32), (33554512, 1#32), (34603008, 0x30010#32), (34603012, 0x40030#32), (34603016, 0x40008#32), (34603024, 0x30010#32), (34603028, 0x40030#32), (34603032, 0x40008#32), (35651584, 3#32), (50331648, 0x32402#32), (50331652, 0x648000#32), (50331656, 0xc80642f#32), (50331660, 0x100003#32), (50331664, 0x64#32), (50331688, 15#32), (50331692, 0x114#32), (50331808, 0x201013f#32), (50331812, 0x201013f#32), (50331936, 0x10#32), (67108864, 1#32), (67108868, 0x1964#32), (67108872, 0x1964#32), (67108876, 0x2bf20#32), (67108880, 0x186a00#32), (67108884, 0xcccd#32), (67108888, 0xf852e666#32), (67108892, 0x28fd99a#32), (67108896, 0xb33300f6#32), (67108900, 0x28999a#32)], has := [16, 17, 18, 20, 32, 33, 34, 48, 64], loaded := true, shadow := true, staging := [], inst := [], live := false, cmd := 0, taken := [], face := 0, pairDig := 0#128 }, slb := { slabs := [(0, { mask := 3#64, word := 0#32 })], ready := true, owned := true, baseR := 0, grants := [], ift := [], lmap := [], image := [] }, lgr := { packA := { ebase := 0, energy := 0, rc := 0, fcc := 0, dc := 0, chem := 0, ma := 0, gaugeMv := 0, temp := 0, debit := 0, saveDebit := 0, hiScans := 0, loScans := 0, valid := 0, last := none, esr := [], esrTick := 0, gaugeTick := 0 }, packB := { ebase := 0, energy := 0, rc := 0, fcc := 0, dc := 0, chem := 0, ma := 0, gaugeMv := 0, temp := 0, debit := 0, saveDebit := 0, hiScans := 0, loScans := 0, valid := 0, last := none, esr := [], esrTick := 0, gaugeTick := 0 }, sableCnt := 0, extra := false }, adm := { rr := 7, jobq := [], wear := 0, wearHaul := 0, wearMark := 0, day := 0, repTick := [], repDue := [], repMargin := 3 }, haul := { ptr := [], cover := [], bank := 0, started := 0, done := 0, short := false, half := false, waitStk := [], waitSump := [], group := 0, stripes := [], nextStripe := 0, pfw := false, pfwTick := 0 }, save := { off := false, short := false, trigTick := 0, walkTick := 0, walked := false, railCut := false, powerBack := false, vol := 0, sumpStart := [], first := [], last := [], carve := [], pads := 0, fdirty := [], anchor := none, session := 0, openAfter := 0, down := false, spent := none, lodes := [], aggs := [], staging := [], numbers := [], ctx := { rings := [], lost := false, owners := [], running := [], cached := [] } }, stk := { recs := [], lodes := [], blks := [], remaps := [], broken := [], pseq := [], head := [], openLode := [], wlWait := [], intents := [], jpend := [], jrnl := [], jseq := 0, jpage := 0, jsaved := 0, dies := [], silent := [], accs := [], applied := [], folding := false, reworking := false, degraded := 0, bootBad := [], bootMap := [], hblock := 0, lpage := 0, lfix := 0, anchors := [], apage := 0, patrolWin := 0, patrolled := [], patrolRead := [] }, saves := [], res := { fetch := [], demand := [], lastPort := 7, prefetch := [], bgPtr := [], bgBank := 0, rebuilt := false, filling := false, trigTick := 0, counted := 0, memRec := 0, holdRec := [], newLost := [], trained := false, noKeys := false, anchored := false, scanTick := 0 }, dch := { mem := [], poison := [], banks := [], repairs := [], hard := [], devCe := [], eqCe := [], eqTick := [], eqTemp := [], bootTemps := [], taps := [], ueRun := [], late := [], early := [], refBank := [], periodCe := 0, win := 0, limits := [3600, 4096, 256, 16, 64], mig := none, rankMap := [], crdMap := [], inForce := [], cfgNew := [], lastReq := [], actLimit := [], rankSr := [], eqRun := [], scrubTick := [], prev := [], ceTotal := [] }, ports := [], nv := [(0, { dirty := 0, shutdown := 0, feat := 0x7f#128, lsa := [] })], job := { rings := [], cache := [], jobs := [], pins := [], lost := false, fenceDue := 0, inits := [] }, cip := { keys := [], keyin := [], store := [], storeOk := false, ceiling := 0, storeSeq := 0, cmd := none, purge := [], stale := [], erasePend := 0, eraseSan := 0, rotate := [], misWin := [], next := 0, kat := [] }, gal := { epoch := 0#64, joinEpoch := 0#64, peerFenced := false, sent := [], held := [], fwds := [], nextTag := 0, lines := [], peerLines := [], joinStep := 0, listGot := false, rslvGot := false, lineWait := [], asks := [], nextAsk := 0, reqs := [], ctls := [], rslvSlab := 0, rslvSett := 0, rslvQuota := 0, kept := false, peerEpoch := 0#64, fullFor := 0, replays := [], lastFlit := [0, 0], lastBeat := 0, graceAt := 0, seen := 0, joinAt := 0, hello := [false, false], handover := 0, zeroing := [] }, seq := { stage := .idle, order := [], good := [], bad := [], low := [], high := [], glitch := [], glitchPrev := [], glitchWin := 0, latchAfter := false, offTick := 0, minOff := true, timed := false, offPend := false, noDnWait := false, inGood := 0, inLow := 0, pwrLow := false, pfwTick := 0, pfwLate := false, stretch := 0, pulse := 0, pg00Told := false, pg00Good := 0, pg00Bad := 0, pg00Ok := false, latchSave := false, syncDrive := false, lowTold := false, timedTick := 0 }, clk := { rising := [], tripSeen := false, refFail := false }, flt := { raised := [], irqq := [], win := [], esc := [], thrNew := [], winNew := [], rst := none, later := [], holdAfter := false }, clg := { live := [], staging := [], forming := [], phase := 0, pend := [], held := [], log := [], win := none, fetch := none, extDay := 0, railLogged := false, bootLogged := false, ffcAtWaking := [0, 0, 0], subSec := 0, resumed := false }, twb := { ports := [], alert := false, alertTick := 0, mctp := 0, sensTick := [] }, fwm := { slotA := { image := [], sealed := false, tag := 0#128, next := [], blk := 0 }, slotB := { image := [], sealed := false, tag := 0#128, next := [], blk := 0 }, active := 0, trial := false, tries := 0, staging := none, xfer := 0, xferFace := 0, running := true, alive := false, prev := 0, handoff := false, recovery := false, svyEpoch := 0, openCmds := [], waiting := [], bootTick := 0 }, pin := { testen := false, power := true, tap := .bypass, railset := 0, err := false }, pending := [], out := [], free := 0 }, 0, 0, (let port : Nat := 0; let tag : Nat := 0; let s : State := open0; let s : State := { ((s.wr (HPT_STATUS.OPEN 0) 1).setRstate 0 0).setPort 0 { s.port 0 with wbuf := (s.port 0).wbuf.filter (fun e => e.tag != tag % 60 && e.wait != .parked) } with margin := .amber, dch := { s.dch with repairs := [] } } |> fun s => s.wr GAL_STATUS.MODE (s.free % 2) |>.setLock 0 15 false |> fun s => s.setDirty (settSlab 0 + 0) |>.setDirty 1; s), by decide +kernel⟩

/-- Clauses of HostMemory have states and operands that meet their conditions. -/
theorem test_conditions_HostMemory_3 :
    (∃ (port tag dpa : Nat) (data : Line) (mask : BitVec 64) (devs : Nat) (sram : SramErr) (s1 : State) (k : Nat) (l : Nat) (s : State), s.chip ≠ .off ∧ s1 = s.lookupSlab port dpa sram ∧ s1.memOk port = true ∧ (s1.port port).wbuf.length < 4096 ∧ (s1.port port).owed < portCredits ∧ s1.write? port tag = none ∧ s1.access port (dpa / 64 * 64) = some (k, l) ∧ s1.settHome k = true ∧ (s1.slab (settSlab k)).jobl = false ∧ s1.repairOf k l = none ∧ s1.mirrors = false ∧ (s1.port port).wbuf.any (fun x => (x.wait == .parked || x.wait == .queueFull) && x.sett == k && x.line == l) = false ∧ tag < mailTag ∧ s1.dirty k = false ∧ s1.admits port = false) ∧
    (∃ (port tag dpa : Nat) (data : Line) (poison : Bool) (sram : SramErr) (s1 : State) (k : Nat) (l : Nat) (s : State), s.chip ≠ .off ∧ s1 = s.lookupSlab port dpa sram ∧ s1.memOk port = true ∧ (s1.port port).wbuf.length < 4096 ∧ (s1.port port).owed < portCredits ∧ s1.write? port tag = none ∧ s1.access port (dpa / 64 * 64) = some (k, l) ∧ s1.settHome k = true ∧ (s1.slab (settSlab k)).jobl = false ∧ s1.repairOf k l = none ∧ s1.mirrors = false ∧ (s1.port port).wbuf.any (fun x => (x.wait == .parked || x.wait == .queueFull) && x.sett == k && x.line == l) = false ∧ tag < mailTag ∧ s1.dirty k = false ∧ s1.admits port = true ∧ s1.fqCount port = 0) ∧
    (∃ (bad : Bool) (s1 : State) (p : Nat) (e : WEnt) (k : Nat) (l : Nat) (s : State), s.chip ≠ .off ∧ s1 = s.hubErr bad ∧ s1.working = true ∧ s1.turns.find? s1.headAdmits = some p ∧ p < 6 ∧ s1.fqHead p = some e ∧ s1.access p e.dpa = some (k, l) ∧ s1.settHome k = true ∧ (s1.slab (settSlab k)).jobl = false ∧ s1.repairOf k l = none ∧ s1.mirrors = false ∧ (s1.port p).wbuf.filter (fun x => x.tag == e.tag) = [e] ∧ (s1.port p).perst = false ∧ s1.on (HPT_STATUS.LINK_UP p) = true ∧ e.tag < mailTag ∧ e.done = false) := by
  refine ⟨?_, ?_, ?_⟩
  · exact ⟨0, 0, 0, 0#512, 0#64, 0, .none, { regs := [(656384, 1#32), (1048576, 0x808#32), (1048580, 0x3b#32)], tick := 100000, chip := .opened, margin := .sable, stamp := 0, stampTick := 0, fuse := { step := 0, serial := 0, blown := 0, provKey := 0#256, devKey := 0#256 }, bed := { fneg := [], chipReset := 0 }, svy := { run := [(16777216, 0x610#32), (16777220, 15#32), (17825792, 4#32), (17825796, 0x3020100#32), (18874368, 1#32), (18874372, 0x80000#32), (18874376, 8#32), (18874384, 0x101#32), (18874388, 0x80008#32), (18874392, 8#32), (20971520, 0x8180#32), (33554432, 0x8a04000#32), (33554436, 0x4040800#32), (33554440, 0x3e80048#32), (33554448, 1#32), (33554456, 1#32), (33554464, 1#32), (33554472, 1#32), (33554480, 1#32), (33554488, 1#32), (33554496, 1#32), (33554504, 1#32), (33554512, 1#32), (34603008, 0x30010#32), (34603012, 0x40030#32), (34603016, 0x40008#32), (34603024, 0x30010#32), (34603028, 0x40030#32), (34603032, 0x40008#32), (35651584, 3#32), (50331648, 0x32402#32), (50331652, 0x648000#32), (50331656, 0xc80642f#32), (50331660, 0x100003#32), (50331664, 0x64#32), (50331688, 15#32), (50331692, 0x114#32), (50331808, 0x201013f#32), (50331812, 0x201013f#32), (50331936, 0x10#32), (67108864, 1#32), (67108868, 0x1964#32), (67108872, 0x1964#32), (67108876, 0x2bf20#32), (67108880, 0x186a00#32), (67108884, 0xcccd#32), (67108888, 0xf852e666#32), (67108892, 0x28fd99a#32), (67108896, 0xb33300f6#32), (67108900, 0x28999a#32)], has := [16, 17, 18, 20, 32, 33, 34, 48, 64], loaded := true, shadow := true, staging := [], inst := [], live := false, cmd := 0, taken := [], face := 0, pairDig := 0#128 }, slb := { slabs := [], ready := true, owned := true, baseR := 0, grants := [], ift := [], lmap := [], image := [] }, lgr := { packA := { ebase := 0, energy := 0, rc := 0, fcc := 0, dc := 0, chem := 0, ma := 0, gaugeMv := 0, temp := 0, debit := 0, saveDebit := 0, hiScans := 0, loScans := 0, valid := 0, last := none, esr := [], esrTick := 0, gaugeTick := 0 }, packB := { ebase := 0, energy := 0, rc := 0, fcc := 0, dc := 0, chem := 0, ma := 0, gaugeMv := 0, temp := 0, debit := 0, saveDebit := 0, hiScans := 0, loScans := 0, valid := 0, last := none, esr := [], esrTick := 0, gaugeTick := 0 }, sableCnt := 0, extra := false }, adm := { rr := 7, jobq := [], wear := 0, wearHaul := 0, wearMark := 0, day := 0, repTick := [], repDue := [], repMargin := 3 }, haul := { ptr := [], cover := [], bank := 0, started := 0, done := 0, short := false, half := false, waitStk := [], waitSump := [], group := 0, stripes := [], nextStripe := 0, pfw := false, pfwTick := 0 }, save := { off := false, short := false, trigTick := 0, walkTick := 0, walked := false, railCut := false, powerBack := false, vol := 0, sumpStart := [], first := [], last := [], carve := [], pads := 0, fdirty := [], anchor := none, session := 0, openAfter := 0, down := false, spent := none, lodes := [], aggs := [], staging := [], numbers := [], ctx := { rings := [], lost := false, owners := [], running := [], cached := [] } }, stk := { recs := [], lodes := [], blks := [], remaps := [], broken := [], pseq := [], head := [], openLode := [], wlWait := [], intents := [], jpend := [], jrnl := [], jseq := 0, jpage := 0, jsaved := 0, dies := [], silent := [], accs := [], applied := [], folding := false, reworking := false, degraded := 0, bootBad := [], bootMap := [], hblock := 0, lpage := 0, lfix := 0, anchors := [], apage := 0, patrolWin := 0, patrolled := [], patrolRead := [] }, saves := [], res := { fetch := [], demand := [], lastPort := 7, prefetch := [], bgPtr := [], bgBank := 0, rebuilt := false, filling := false, trigTick := 0, counted := 0, memRec := 0, holdRec := [], newLost := [], trained := false, noKeys := false, anchored := false, scanTick := 0 }, dch := { mem := [], poison := [], banks := [], repairs := [], hard := [], devCe := [], eqCe := [], eqTick := [], eqTemp := [], bootTemps := [], taps := [], ueRun := [], late := [], early := [], refBank := [], periodCe := 0, win := 0, limits := [3600, 4096, 256, 16, 64], mig := none, rankMap := [], crdMap := [], inForce := [], cfgNew := [], lastReq := [], actLimit := [], rankSr := [], eqRun := [], scrubTick := [], prev := [], ceTotal := [] }, ports := [], nv := [(0, { dirty := 0, shutdown := 0, feat := 0x7f#128, lsa := [] })], job := { rings := [], cache := [], jobs := [], pins := [], lost := false, fenceDue := 0, inits := [] }, cip := { keys := [], keyin := [], store := [], storeOk := false, ceiling := 0, storeSeq := 0, cmd := none, purge := [], stale := [], erasePend := 0, eraseSan := 0, rotate := [], misWin := [], next := 0, kat := [] }, gal := { epoch := 0#64, joinEpoch := 0#64, peerFenced := false, sent := [], held := [], fwds := [], nextTag := 0, lines := [], peerLines := [], joinStep := 0, listGot := false, rslvGot := false, lineWait := [], asks := [], nextAsk := 0, reqs := [], ctls := [], rslvSlab := 0, rslvSett := 0, rslvQuota := 0, kept := false, peerEpoch := 0#64, fullFor := 0, replays := [], lastFlit := [0, 0], lastBeat := 0, graceAt := 0, seen := 0, joinAt := 0, hello := [false, false], handover := 0, zeroing := [] }, seq := { stage := .idle, order := [], good := [], bad := [], low := [], high := [], glitch := [], glitchPrev := [], glitchWin := 0, latchAfter := false, offTick := 0, minOff := true, timed := false, offPend := false, noDnWait := false, inGood := 0, inLow := 0, pwrLow := false, pfwTick := 0, pfwLate := false, stretch := 0, pulse := 0, pg00Told := false, pg00Good := 0, pg00Bad := 0, pg00Ok := false, latchSave := false, syncDrive := false, lowTold := false, timedTick := 0 }, clk := { rising := [], tripSeen := false, refFail := false }, flt := { raised := [], irqq := [], win := [], esc := [], thrNew := [], winNew := [], rst := none, later := [], holdAfter := false }, clg := { live := [], staging := [], forming := [], phase := 0, pend := [], held := [], log := [], win := none, fetch := none, extDay := 0, railLogged := false, bootLogged := false, ffcAtWaking := [0, 0, 0], subSec := 0, resumed := false }, twb := { ports := [], alert := false, alertTick := 0, mctp := 0, sensTick := [] }, fwm := { slotA := { image := [], sealed := false, tag := 0#128, next := [], blk := 0 }, slotB := { image := [], sealed := false, tag := 0#128, next := [], blk := 0 }, active := 0, trial := false, tries := 0, staging := none, xfer := 0, xferFace := 0, running := true, alive := false, prev := 0, handoff := false, recovery := false, svyEpoch := 0, openCmds := [], waiting := [], bootTick := 0 }, pin := { testen := false, power := true, tap := .bypass, railset := 0, err := false }, pending := [], out := [], free := 0 }, 0, 0, (open0), by decide +kernel⟩
  · exact ⟨0, 0, 0, 0#512, false, .none, { regs := [(524312, 0x1869f#32), (656384, 1#32), (1048576, 0x808#32), (1048580, 0x3b#32)], tick := 100000, chip := .opened, margin := .pearl, stamp := 0, stampTick := 0, fuse := { step := 0, serial := 0, blown := 0, provKey := 0#256, devKey := 0#256 }, bed := { fneg := [], chipReset := 0 }, svy := { run := [(16777216, 0x610#32), (16777220, 15#32), (17825792, 4#32), (17825796, 0x3020100#32), (18874368, 1#32), (18874372, 0x80000#32), (18874376, 8#32), (18874384, 0x101#32), (18874388, 0x80008#32), (18874392, 8#32), (20971520, 0x8180#32), (33554432, 0x8a04000#32), (33554436, 0x4040800#32), (33554440, 0x3e80048#32), (33554448, 1#32), (33554456, 1#32), (33554464, 1#32), (33554472, 1#32), (33554480, 1#32), (33554488, 1#32), (33554496, 1#32), (33554504, 1#32), (33554512, 1#32), (34603008, 0x30010#32), (34603012, 0x40030#32), (34603016, 0x40008#32), (34603024, 0x30010#32), (34603028, 0x40030#32), (34603032, 0x40008#32), (35651584, 3#32), (50331648, 0x32402#32), (50331652, 0x648000#32), (50331656, 0xc80642f#32), (50331660, 0x100003#32), (50331664, 0x64#32), (50331688, 15#32), (50331692, 0x114#32), (50331808, 0x201013f#32), (50331812, 0x201013f#32), (50331936, 0x10#32), (67108864, 1#32), (67108868, 0x1964#32), (67108872, 0x1964#32), (67108876, 0x2bf20#32), (67108880, 0x186a00#32), (67108884, 0xcccd#32), (67108888, 0xf852e666#32), (67108892, 0x28fd99a#32), (67108896, 0xb33300f6#32), (67108900, 0x28999a#32)], has := [16, 17, 18, 20, 32, 33, 34, 48, 64], loaded := true, shadow := true, staging := [], inst := [], live := false, cmd := 0, taken := [], face := 0, pairDig := 0#128 }, slb := { slabs := [], ready := true, owned := true, baseR := 0, grants := [], ift := [], lmap := [], image := [] }, lgr := { packA := { ebase := 0, energy := 0, rc := 0, fcc := 0, dc := 0, chem := 0, ma := 0, gaugeMv := 0, temp := 0, debit := 0, saveDebit := 0, hiScans := 0, loScans := 0, valid := 0, last := none, esr := [], esrTick := 0, gaugeTick := 0 }, packB := { ebase := 0, energy := 0, rc := 0, fcc := 0, dc := 0, chem := 0, ma := 0, gaugeMv := 0, temp := 0, debit := 0, saveDebit := 0, hiScans := 0, loScans := 0, valid := 0, last := none, esr := [], esrTick := 0, gaugeTick := 0 }, sableCnt := 0, extra := false }, adm := { rr := 7, jobq := [], wear := 0, wearHaul := 0, wearMark := 0, day := 0, repTick := [], repDue := [], repMargin := 3 }, haul := { ptr := [], cover := [], bank := 0, started := 0, done := 0, short := false, half := false, waitStk := [], waitSump := [], group := 0, stripes := [], nextStripe := 0, pfw := false, pfwTick := 0 }, save := { off := false, short := false, trigTick := 0, walkTick := 0, walked := false, railCut := false, powerBack := false, vol := 0, sumpStart := [], first := [], last := [], carve := [], pads := 0, fdirty := [], anchor := none, session := 0, openAfter := 0, down := false, spent := none, lodes := [], aggs := [], staging := [], numbers := [], ctx := { rings := [], lost := false, owners := [], running := [], cached := [] } }, stk := { recs := [], lodes := [], blks := [], remaps := [], broken := [], pseq := [], head := [], openLode := [], wlWait := [], intents := [], jpend := [], jrnl := [], jseq := 0, jpage := 0, jsaved := 0, dies := [], silent := [], accs := [], applied := [], folding := false, reworking := false, degraded := 0, bootBad := [], bootMap := [], hblock := 0, lpage := 0, lfix := 0, anchors := [], apage := 0, patrolWin := 0, patrolled := [], patrolRead := [] }, saves := [], res := { fetch := [], demand := [], lastPort := 7, prefetch := [], bgPtr := [], bgBank := 0, rebuilt := false, filling := false, trigTick := 0, counted := 0, memRec := 0, holdRec := [], newLost := [], trained := false, noKeys := false, anchored := false, scanTick := 0 }, dch := { mem := [], poison := [], banks := [], repairs := [], hard := [], devCe := [], eqCe := [], eqTick := [], eqTemp := [], bootTemps := [], taps := [], ueRun := [], late := [], early := [], refBank := [], periodCe := 0, win := 0, limits := [3600, 4096, 256, 16, 64], mig := none, rankMap := [], crdMap := [], inForce := [], cfgNew := [], lastReq := [], actLimit := [], rankSr := [], eqRun := [], scrubTick := [], prev := [], ceTotal := [] }, ports := [], nv := [(0, { dirty := 0, shutdown := 0, feat := 0x7f#128, lsa := [] })], job := { rings := [], cache := [], jobs := [], pins := [], lost := false, fenceDue := 0, inits := [] }, cip := { keys := [], keyin := [], store := [], storeOk := false, ceiling := 0, storeSeq := 0, cmd := none, purge := [], stale := [], erasePend := 0, eraseSan := 0, rotate := [], misWin := [], next := 0, kat := [] }, gal := { epoch := 0#64, joinEpoch := 0#64, peerFenced := false, sent := [], held := [], fwds := [], nextTag := 0, lines := [], peerLines := [], joinStep := 0, listGot := false, rslvGot := false, lineWait := [], asks := [], nextAsk := 0, reqs := [], ctls := [], rslvSlab := 0, rslvSett := 0, rslvQuota := 0, kept := false, peerEpoch := 0#64, fullFor := 0, replays := [], lastFlit := [0, 0], lastBeat := 0, graceAt := 0, seen := 0, joinAt := 0, hello := [false, false], handover := 0, zeroing := [] }, seq := { stage := .idle, order := [], good := [], bad := [], low := [], high := [], glitch := [], glitchPrev := [], glitchWin := 0, latchAfter := false, offTick := 0, minOff := true, timed := false, offPend := false, noDnWait := false, inGood := 0, inLow := 0, pwrLow := false, pfwTick := 0, pfwLate := false, stretch := 0, pulse := 0, pg00Told := false, pg00Good := 0, pg00Bad := 0, pg00Ok := false, latchSave := false, syncDrive := false, lowTold := false, timedTick := 0 }, clk := { rising := [], tripSeen := false, refFail := false }, flt := { raised := [], irqq := [], win := [], esc := [], thrNew := [], winNew := [], rst := none, later := [], holdAfter := false }, clg := { live := [], staging := [], forming := [], phase := 0, pend := [], held := [], log := [], win := none, fetch := none, extDay := 0, railLogged := false, bootLogged := false, ffcAtWaking := [0, 0, 0], subSec := 0, resumed := false }, twb := { ports := [], alert := false, alertTick := 0, mctp := 0, sensTick := [] }, fwm := { slotA := { image := [], sealed := false, tag := 0#128, next := [], blk := 0 }, slotB := { image := [], sealed := false, tag := 0#128, next := [], blk := 0 }, active := 0, trial := false, tries := 0, staging := none, xfer := 0, xferFace := 0, running := true, alive := false, prev := 0, handoff := false, recovery := false, svyEpoch := 0, openCmds := [], waiting := [], bootTick := 0 }, pin := { testen := false, power := true, tap := .bypass, railset := 0, err := false }, pending := [], out := [], free := 0 }, 0, 0, (let port : Nat := 0; let tag : Nat := 0; let s : State := open0; let s : State := { ((s.wr (HPT_STATUS.OPEN 0) 1).setRstate 0 0).setPort 0 { s.port 0 with wbuf := (s.port 0).wbuf.filter (fun e => e.tag != tag % 60 && e.wait != .parked) } with margin := .pearl, dch := { s.dch with repairs := [] } } |> fun s => s.wr GAL_STATUS.MODE (s.free % 2) |>.setLock 0 15 false |> fun s => (s.wr LGR_TV.SETTS 99999).clearDirty 1; s), by decide +kernel⟩
  · exact ⟨false, { regs := [(524312, 0x1869f#32), (656384, 1#32), (1048576, 0x808#32), (1048580, 0x3b#32)], tick := 100000, chip := .opened, margin := .pearl, stamp := 0, stampTick := 0, fuse := { step := 0, serial := 0, blown := 0, provKey := 0#256, devKey := 0#256 }, bed := { fneg := [], chipReset := 0 }, svy := { run := [(16777216, 0x610#32), (16777220, 15#32), (17825792, 4#32), (17825796, 0x3020100#32), (18874368, 1#32), (18874372, 0x80000#32), (18874376, 8#32), (18874384, 0x101#32), (18874388, 0x80008#32), (18874392, 8#32), (20971520, 0x8180#32), (33554432, 0x8a04000#32), (33554436, 0x4040800#32), (33554440, 0x3e80048#32), (33554448, 1#32), (33554456, 1#32), (33554464, 1#32), (33554472, 1#32), (33554480, 1#32), (33554488, 1#32), (33554496, 1#32), (33554504, 1#32), (33554512, 1#32), (34603008, 0x30010#32), (34603012, 0x40030#32), (34603016, 0x40008#32), (34603024, 0x30010#32), (34603028, 0x40030#32), (34603032, 0x40008#32), (35651584, 3#32), (50331648, 0x32402#32), (50331652, 0x648000#32), (50331656, 0xc80642f#32), (50331660, 0x100003#32), (50331664, 0x64#32), (50331688, 15#32), (50331692, 0x114#32), (50331808, 0x201013f#32), (50331812, 0x201013f#32), (50331936, 0x10#32), (67108864, 1#32), (67108868, 0x1964#32), (67108872, 0x1964#32), (67108876, 0x2bf20#32), (67108880, 0x186a00#32), (67108884, 0xcccd#32), (67108888, 0xf852e666#32), (67108892, 0x28fd99a#32), (67108896, 0xb33300f6#32), (67108900, 0x28999a#32)], has := [16, 17, 18, 20, 32, 33, 34, 48, 64], loaded := true, shadow := true, staging := [], inst := [], live := false, cmd := 0, taken := [], face := 0, pairDig := 0#128 }, slb := { slabs := [], ready := true, owned := true, baseR := 0, grants := [], ift := [], lmap := [], image := [] }, lgr := { packA := { ebase := 0, energy := 0, rc := 0, fcc := 0, dc := 0, chem := 0, ma := 0, gaugeMv := 0, temp := 0, debit := 0, saveDebit := 0, hiScans := 0, loScans := 0, valid := 0, last := none, esr := [], esrTick := 0, gaugeTick := 0 }, packB := { ebase := 0, energy := 0, rc := 0, fcc := 0, dc := 0, chem := 0, ma := 0, gaugeMv := 0, temp := 0, debit := 0, saveDebit := 0, hiScans := 0, loScans := 0, valid := 0, last := none, esr := [], esrTick := 0, gaugeTick := 0 }, sableCnt := 0, extra := false }, adm := { rr := 7, jobq := [], wear := 0, wearHaul := 0, wearMark := 0, day := 0, repTick := [], repDue := [], repMargin := 3 }, haul := { ptr := [], cover := [], bank := 0, started := 0, done := 0, short := false, half := false, waitStk := [], waitSump := [], group := 0, stripes := [], nextStripe := 0, pfw := false, pfwTick := 0 }, save := { off := false, short := false, trigTick := 0, walkTick := 0, walked := false, railCut := false, powerBack := false, vol := 0, sumpStart := [], first := [], last := [], carve := [], pads := 0, fdirty := [], anchor := none, session := 0, openAfter := 0, down := false, spent := none, lodes := [], aggs := [], staging := [], numbers := [], ctx := { rings := [], lost := false, owners := [], running := [], cached := [] } }, stk := { recs := [], lodes := [], blks := [], remaps := [], broken := [], pseq := [], head := [], openLode := [], wlWait := [], intents := [], jpend := [], jrnl := [], jseq := 0, jpage := 0, jsaved := 0, dies := [], silent := [], accs := [], applied := [], folding := false, reworking := false, degraded := 0, bootBad := [], bootMap := [], hblock := 0, lpage := 0, lfix := 0, anchors := [], apage := 0, patrolWin := 0, patrolled := [], patrolRead := [] }, saves := [], res := { fetch := [], demand := [], lastPort := 7, prefetch := [], bgPtr := [], bgBank := 0, rebuilt := false, filling := false, trigTick := 0, counted := 0, memRec := 0, holdRec := [], newLost := [], trained := false, noKeys := false, anchored := false, scanTick := 0 }, dch := { mem := [], poison := [], banks := [], repairs := [], hard := [], devCe := [], eqCe := [], eqTick := [], eqTemp := [], bootTemps := [], taps := [], ueRun := [], late := [], early := [], refBank := [], periodCe := 0, win := 0, limits := [3600, 4096, 256, 16, 64], mig := none, rankMap := [], crdMap := [], inForce := [], cfgNew := [], lastReq := [], actLimit := [], rankSr := [], eqRun := [], scrubTick := [], prev := [], ceTotal := [] }, ports := [(0, { wbuf := [{ tag := 5, dpa := 64, sett := 0, line := 1, data := 3#512, mask := 0xffffffffffffffff#64, poison := false, wait := .parked, done := false, fresh := false, since := 0, seq := 0, devs := 0, arr := 0 }], reads := [], creditQ := false, creditF := false, perst := false, spdm := false, ideKeys := false, hdm := false, wasOpen := false, logs := [{ recs := [], next := 0, overflow := 0 }, { recs := [], next := 0, overflow := 0 }, { recs := [], next := 0, overflow := 0 }, { recs := [], next := 0, overflow := 0 }], evPolicy := [0, 0, 0, 0], bg := none, bgLast := 0, bgRet := 0, scan := [], scanWait := none, alert := [0, 0, 0], extents := [], poison := [], poisonOvf := false, poisonOvfTick := 0, oorTick := 0, lost := 0, holds := 0, erasing := none, lifeSeen := 0, arrivals := 0, gpf := false, owed := 0, ioStreams := [], bgVend := 0, rels := [] })], nv := [(0, { dirty := 0, shutdown := 0, feat := 0x7f#128, lsa := [] })], job := { rings := [], cache := [], jobs := [], pins := [], lost := false, fenceDue := 0, inits := [] }, cip := { keys := [], keyin := [], store := [], storeOk := false, ceiling := 0, storeSeq := 0, cmd := none, purge := [], stale := [], erasePend := 0, eraseSan := 0, rotate := [], misWin := [], next := 0, kat := [] }, gal := { epoch := 0#64, joinEpoch := 0#64, peerFenced := false, sent := [], held := [], fwds := [], nextTag := 0, lines := [], peerLines := [], joinStep := 0, listGot := false, rslvGot := false, lineWait := [], asks := [], nextAsk := 0, reqs := [], ctls := [], rslvSlab := 0, rslvSett := 0, rslvQuota := 0, kept := false, peerEpoch := 0#64, fullFor := 0, replays := [], lastFlit := [0, 0], lastBeat := 0, graceAt := 0, seen := 0, joinAt := 0, hello := [false, false], handover := 0, zeroing := [] }, seq := { stage := .idle, order := [], good := [], bad := [], low := [], high := [], glitch := [], glitchPrev := [], glitchWin := 0, latchAfter := false, offTick := 0, minOff := true, timed := false, offPend := false, noDnWait := false, inGood := 0, inLow := 0, pwrLow := false, pfwTick := 0, pfwLate := false, stretch := 0, pulse := 0, pg00Told := false, pg00Good := 0, pg00Bad := 0, pg00Ok := false, latchSave := false, syncDrive := false, lowTold := false, timedTick := 0 }, clk := { rising := [], tripSeen := false, refFail := false }, flt := { raised := [], irqq := [], win := [], esc := [], thrNew := [], winNew := [], rst := none, later := [], holdAfter := false }, clg := { live := [], staging := [], forming := [], phase := 0, pend := [], held := [], log := [], win := none, fetch := none, extDay := 0, railLogged := false, bootLogged := false, ffcAtWaking := [0, 0, 0], subSec := 0, resumed := false }, twb := { ports := [], alert := false, alertTick := 0, mctp := 0, sensTick := [] }, fwm := { slotA := { image := [], sealed := false, tag := 0#128, next := [], blk := 0 }, slotB := { image := [], sealed := false, tag := 0#128, next := [], blk := 0 }, active := 0, trial := false, tries := 0, staging := none, xfer := 0, xferFace := 0, running := true, alive := false, prev := 0, handoff := false, recovery := false, svyEpoch := 0, openCmds := [], waiting := [], bootTick := 0 }, pin := { testen := false, power := true, tap := .bypass, railset := 0, err := false }, pending := [], out := [], free := 0 }, 0, { tag := 5, dpa := 64, sett := 0, line := 1, data := 3#512, mask := 0xffffffffffffffff#64, poison := false, wait := .parked, done := false, fresh := false, since := 0, seq := 0, devs := 0, arr := 0 }, 0, 1, (let s : State := open0; let s : State := { (s.setRstate 0 0).setPort 0 { s.port 0 with perst := false, wbuf := [{ tag := 5, dpa := 0x40, sett := 0, line := 1, data := 3, mask := fullMask, poison := false, wait := .parked, done := false, fresh := false, since := 0, seq := 0, devs := 0, arr := 0 }] } with chip := .opened, margin := .pearl, dch := { s.dch with repairs := [] } } |> fun s => (s.wr (HPT_STATUS.LINK_UP 0) 1).wr LGR_TV.SETTS 99999 |>.wr GAL_STATUS.MODE 0 |>.setLock 0 15 false; s), by decide +kernel⟩

/-- Clauses of HostMemory have states and operands that meet their conditions. -/
theorem test_conditions_HostMemory_4 :
    (∃ (port tag : Nat) (crc : Bool) (bufErr : Bool) (e : WEnt) (s : State), s.chip ≠ .off ∧ s.write? port tag = some e ∧ bufErr = true ∧ e.wait = .admitted ∧ e.line < 1024 ∧ s.repairOf e.sett e.line = none ∧ (s.port port).wbuf = [e]) ∧
    (∃ (port tag : Nat) (crc : Bool) (bufErr : Bool) (e : WEnt) (s : State), s.chip ≠ .off ∧ s.write? port tag = some e ∧ bufErr = false ∧ e.wait = .admitted ∧ e.mask = fullMask ∧ e.poison = false ∧ e.done = true ∧ e.line < 1024 ∧ s.repairOf e.sett e.line = none ∧ (s.port port).wbuf.filter (fun x => x.wait == .admitted && x.sett == e.sett && x.line == e.line) = [e]) ∧
    (∃ (port : Nat) (s : State), s.chip ≠ .off ∧ port < 6 ∧ (s.fqHead port).isSome = true ∧ s.rd ADM_FQCFG.WARN_AGE < s.fqAge port ∧ s.on (ADM_FQ.OLD port) = false) := by
  refine ⟨?_, ?_, ?_⟩
  · exact ⟨0, 5, false, true, { tag := 5, dpa := 64, sett := 0, line := 1, data := 0#512, mask := 0xffffffffffffffff#64, poison := false, wait := .admitted, done := true, fresh := false, since := 0, seq := 0, devs := 0, arr := 0 }, (let port : Nat := 0; let tag : Nat := 0; let s : State := open0; let s : State := { s.setPort 0 { s.port 0 with wbuf := [{ tag := 5, dpa := 0x40, sett := 0, line := 1, data := BitVec.ofNat 512 (s.free * 77777), mask := fullMask, poison := false, wait := .admitted, done := true, fresh := false, since := 0, seq := 0, devs := 0, arr := 0 }] } with dch := { s.dch with repairs := [] } }; s), by decide +kernel⟩
  · exact ⟨0, 5, false, false, { tag := 5, dpa := 64, sett := 0, line := 1, data := 0#512, mask := 0xffffffffffffffff#64, poison := false, wait := .admitted, done := true, fresh := false, since := 0, seq := 0, devs := 0, arr := 0 }, (let port : Nat := 0; let tag : Nat := 0; let s : State := open0; let s : State := { s.setPort 0 { s.port 0 with wbuf := [{ tag := 5, dpa := 0x40, sett := 0, line := 1, data := BitVec.ofNat 512 (s.free * 77777), mask := fullMask, poison := false, wait := .admitted, done := true, fresh := false, since := 0, seq := 0, devs := 0, arr := 0 }] } with dch := { s.dch with repairs := [] } }; s), by decide +kernel⟩
  · exact ⟨0, (let port : Nat := 0; let s : State := open0; let s : State := { s.setPort 0 { s.port 0 with wbuf := [{ tag := 5, dpa := 0x40, sett := 0, line := 1, data := 3, mask := fullMask, poison := false, wait := .parked, done := false, fresh := false, since := 0, seq := 0, devs := 0, arr := 0 }] } with tick := s.tick + 99 } |> fun s => s.wr ADM_FQCFG.WARN_AGE 7; s), by decide +kernel⟩

/-- Clauses of HostLink have states and operands that meet their conditions. -/
theorem test_conditions_HostLink_1 :
    (∃ (port : Nat) (s : State), s.chip ≠ .off ∧ s.portAnswers port = true) ∧
    (∃ (port : Nat) (s : State), s.chip ≠ .off ∧ s.portAnswers port = true ∧ (s.port port).wbuf = []) ∧
    (∃ (port : Nat) (e : WEnt) (s : State), s.chip ≠ .off ∧ s.portAnswers port = true ∧ (s.port port).wbuf = [e] ∧ e.wait = .admitted ∧ e.mask = fullMask ∧ e.poison = false ∧ e.done = true ∧ e.line < 1024 ∧ s.repairOf e.sett e.line = none) := by
  refine ⟨?_, ?_, ?_⟩
  · exact ⟨0, (open0), by decide +kernel⟩
  · exact ⟨0, (open0), by decide +kernel⟩
  · exact ⟨0, { tag := 5, dpa := 64, sett := 0, line := 1, data := 0#512, mask := 0xffffffffffffffff#64, poison := false, wait := .admitted, done := true, fresh := false, since := 0, seq := 0, devs := 0, arr := 0 }, (let port : Nat := 0; let s : State := open0; let s : State := { s.setPort 0 { s.port 0 with wbuf := [{ tag := 5, dpa := 0x40, sett := 0, line := 1, data := BitVec.ofNat 512 (s.free * 77777), mask := fullMask, poison := false, wait := .admitted, done := true, fresh := false, since := 0, seq := 0, devs := 0, arr := 0 }] } with dch := { s.dch with repairs := [] } }; s), by decide +kernel⟩

/-- Clauses of HostLink have states and operands that meet their conditions. -/
theorem test_conditions_HostLink_2 :
    (∃ (face : Nat) (s : State), s.chip ≠ .off ∧ s.portAnswers face = true ∧ s.liveRings face = []) ∧
    (∃ (port : Nat) (s : State), s.chip ≠ .off ∧ port < 6 ∧ s.linkUp port = true) ∧
    (∃ (port rate width : Nat) (s : State), s.chip ≠ .off ∧ s.mayTrain port = true ∧ rate ≠ 0 ∧ width ≠ 0) := by
  refine ⟨?_, ?_, ?_⟩
  · exact ⟨0, (open0), by decide +kernel⟩
  · exact ⟨0, (open0), by decide +kernel⟩
  · exact ⟨0, 3, 2, (let s : State := open0; let s : State := (s.wr (HPT_STATUS.LINK_UP 0) 0).wr (HPT_STATUS.ISLAND 0) islOn; s), by decide +kernel⟩

/-- Clauses of HostLink have states and operands that meet their conditions. -/
theorem test_conditions_HostLink_3 :
    (∃ (port : Nat) (s : State), s.chip ≠ .off ∧ s.mayTrain port = true) ∧
    (∃ (port : Nat) (s : State), s.chip ≠ .off ∧ s.faceOn port = true) ∧
    (∃ (port : Nat) (s : State), s.chip ≠ .off ∧ s.faceOn port = true) := by
  refine ⟨?_, ?_, ?_⟩
  · exact ⟨0, (let s : State := open0; let s : State := (s.wr (HPT_STATUS.LINK_UP 0) 0).wr (HPT_STATUS.ISLAND 0) islOn; s), by decide +kernel⟩
  · exact ⟨0, (open0), by decide +kernel⟩
  · exact ⟨0, (open0), by decide +kernel⟩

/-- Clauses of HostLink have states and operands that meet their conditions. -/
theorem test_conditions_HostLink_4 :
    (∃ (port : Nat) (io : Option Nat) (n : Nat) (s : State), s.chip ≠ .off ∧ port < 6 ∧ s.linkUp port = true ∧ (s.port port).spdm = true ∧ io = some n) ∧
    (∃ (port : Nat) (io : Option Nat) (s : State), s.chip ≠ .off ∧ port < 6 ∧ s.linkUp port = true ∧ (s.port port).spdm = true ∧ io = none) ∧
    (∃ (port : Nat) (held : Nat) (s : State), s.chip ≠ .off ∧ port < 6 ∧ s.linkUp port = true ∧ s.rd (HPT_IDE.STATE port) = 2) := by
  refine ⟨?_, ?_, ?_⟩
  · exact ⟨0, (some 3), 3, (let port : Nat := 0; let s : State := open0; let s : State := { (s.wr (HPT_STATUS.LINK_UP 0) 1).setPort 0 { s.port 0 with spdm := true } with free := s.free }; let port : Nat := 0; let s : State := s.setPort 0 { s.port 0 with spdm := true }; s), by decide +kernel⟩
  · exact ⟨0, none, (let port : Nat := 0; let s : State := open0; let s : State := (s.wr (HPT_STATUS.LINK_UP 0) 1).setPort 0 { s.port 0 with spdm := true }; s), by decide +kernel⟩
  · exact ⟨0, 0, (let port : Nat := 0; let s : State := open0; let s : State := s.wr (HPT_IDE.STATE port) (2); s), by decide +kernel⟩

/-- Clauses of HostLink have states and operands that meet their conditions. -/
theorem test_conditions_HostLink_5 :
    (∃ (port code : Nat) (session : Bool) (cdat : Option Nat) (n : Nat) (s : State), s.chip ≠ .off ∧ port < 6 ∧ s.linkUp port = true ∧ cdat = some n) ∧
    (∃ (port code : Nat) (session : Bool) (cdat : Option Nat) (s : State), s.chip ≠ .off ∧ port < 6 ∧ s.linkUp port = true ∧ cdat = none) := by
  refine ⟨?_, ?_⟩
  · exact ⟨0, 0, false, (some 2), 2, (let s : State := open0; let s : State := s.wr (HPT_STATUS.LINK_UP 0) 1; s), by decide +kernel⟩
  · exact ⟨0, 0, false, none, (open0), by decide +kernel⟩

/-- Clauses of RingDoorbells have states and operands that meet their conditions. -/
theorem test_conditions_RingDoorbells_1 :
    (∃ (port ring value : Nat) (bad : Bool) (s1 : State) (s : State), s.chip ≠ .off ∧ s1 = s.ringErr ring bad ∧ s1.hubOn = true ∧ s1.linkUp port = true ∧ s1.bellOk port ring = true ∧ ((value + 65536 - (s1.ring ring).sqHead) % 65536 ≤ (s1.ring ring).size ∨ (s1.ring ring).st ≠ rgEnabled)) ∧
    (∃ (port ring value : Nat) (bad : Bool) (s1 : State) (s : State), s.chip ≠ .off ∧ s1 = s.ringErr ring bad ∧ s1.hubOn = true ∧ s1.linkUp port = true ∧ s1.bellOk port ring = true ∧ (s1.ring ring).size < (value + 65536 - (s1.ring ring).sqHead) % 65536 ∧ (s1.ring ring).st = rgEnabled) ∧
    (∃ (port ring value : Nat) (bad : Bool) (s1 : State) (s : State), s.chip ≠ .off ∧ s1 = s.ringErr ring bad ∧ s1.hubOn = true ∧ s1.linkUp port = true ∧ s1.bellOk port ring = false) := by
  refine ⟨?_, ?_, ?_⟩
  · exact ⟨0, 0, 0, false, { regs := [(656384, 1#32), (1048576, 0x808#32), (1048580, 0x3b#32)], tick := 100000, chip := .opened, margin := .sable, stamp := 0, stampTick := 0, fuse := { step := 0, serial := 0, blown := 0, provKey := 0#256, devKey := 0#256 }, bed := { fneg := [], chipReset := 0 }, svy := { run := [(16777216, 0x610#32), (16777220, 15#32), (17825792, 4#32), (17825796, 0x3020100#32), (18874368, 1#32), (18874372, 0x80000#32), (18874376, 8#32), (18874384, 0x101#32), (18874388, 0x80008#32), (18874392, 8#32), (20971520, 0x8180#32), (33554432, 0x8a04000#32), (33554436, 0x4040800#32), (33554440, 0x3e80048#32), (33554448, 1#32), (33554456, 1#32), (33554464, 1#32), (33554472, 1#32), (33554480, 1#32), (33554488, 1#32), (33554496, 1#32), (33554504, 1#32), (33554512, 1#32), (34603008, 0x30010#32), (34603012, 0x40030#32), (34603016, 0x40008#32), (34603024, 0x30010#32), (34603028, 0x40030#32), (34603032, 0x40008#32), (35651584, 3#32), (50331648, 0x32402#32), (50331652, 0x648000#32), (50331656, 0xc80642f#32), (50331660, 0x100003#32), (50331664, 0x64#32), (50331688, 15#32), (50331692, 0x114#32), (50331808, 0x201013f#32), (50331812, 0x201013f#32), (50331936, 0x10#32), (67108864, 1#32), (67108868, 0x1964#32), (67108872, 0x1964#32), (67108876, 0x2bf20#32), (67108880, 0x186a00#32), (67108884, 0xcccd#32), (67108888, 0xf852e666#32), (67108892, 0x28fd99a#32), (67108896, 0xb33300f6#32), (67108900, 0x28999a#32)], has := [16, 17, 18, 20, 32, 33, 34, 48, 64], loaded := true, shadow := true, staging := [], inst := [], live := false, cmd := 0, taken := [], face := 0, pairDig := 0#128 }, slb := { slabs := [], ready := true, owned := true, baseR := 0, grants := [], ift := [], lmap := [], image := [] }, lgr := { packA := { ebase := 0, energy := 0, rc := 0, fcc := 0, dc := 0, chem := 0, ma := 0, gaugeMv := 0, temp := 0, debit := 0, saveDebit := 0, hiScans := 0, loScans := 0, valid := 0, last := none, esr := [], esrTick := 0, gaugeTick := 0 }, packB := { ebase := 0, energy := 0, rc := 0, fcc := 0, dc := 0, chem := 0, ma := 0, gaugeMv := 0, temp := 0, debit := 0, saveDebit := 0, hiScans := 0, loScans := 0, valid := 0, last := none, esr := [], esrTick := 0, gaugeTick := 0 }, sableCnt := 0, extra := false }, adm := { rr := 7, jobq := [], wear := 0, wearHaul := 0, wearMark := 0, day := 0, repTick := [], repDue := [], repMargin := 3 }, haul := { ptr := [], cover := [], bank := 0, started := 0, done := 0, short := false, half := false, waitStk := [], waitSump := [], group := 0, stripes := [], nextStripe := 0, pfw := false, pfwTick := 0 }, save := { off := false, short := false, trigTick := 0, walkTick := 0, walked := false, railCut := false, powerBack := false, vol := 0, sumpStart := [], first := [], last := [], carve := [], pads := 0, fdirty := [], anchor := none, session := 0, openAfter := 0, down := false, spent := none, lodes := [], aggs := [], staging := [], numbers := [], ctx := { rings := [], lost := false, owners := [], running := [], cached := [] } }, stk := { recs := [], lodes := [], blks := [], remaps := [], broken := [], pseq := [], head := [], openLode := [], wlWait := [], intents := [], jpend := [], jrnl := [], jseq := 0, jpage := 0, jsaved := 0, dies := [], silent := [], accs := [], applied := [], folding := false, reworking := false, degraded := 0, bootBad := [], bootMap := [], hblock := 0, lpage := 0, lfix := 0, anchors := [], apage := 0, patrolWin := 0, patrolled := [], patrolRead := [] }, saves := [], res := { fetch := [], demand := [], lastPort := 7, prefetch := [], bgPtr := [], bgBank := 0, rebuilt := false, filling := false, trigTick := 0, counted := 0, memRec := 0, holdRec := [], newLost := [], trained := false, noKeys := false, anchored := false, scanTick := 0 }, dch := { mem := [], poison := [], banks := [], repairs := [], hard := [], devCe := [], eqCe := [], eqTick := [], eqTemp := [], bootTemps := [], taps := [], ueRun := [], late := [], early := [], refBank := [], periodCe := 0, win := 0, limits := [3600, 4096, 256, 16, 64], mig := none, rankMap := [], crdMap := [], inForce := [], cfgNew := [], lastReq := [], actLimit := [], rankSr := [], eqRun := [], scrubTick := [], prev := [], ceTotal := [] }, ports := [], nv := [(0, { dirty := 0, shutdown := 0, feat := 0x7f#128, lsa := [] })], job := { rings := [(0, { st := 1, err := 0, log2 := 4, vector := 0, imod := 0, sqHead := 0, sqTail := 0, cqTail := 0, cqHead := 0, sqBase := 0, cqBase := 0, done := 0, errors := 0, pend := false, irqDue := false, irqRun := false })], cache := [], jobs := [], pins := [], lost := false, fenceDue := 0, inits := [] }, cip := { keys := [], keyin := [], store := [], storeOk := false, ceiling := 0, storeSeq := 0, cmd := none, purge := [], stale := [], erasePend := 0, eraseSan := 0, rotate := [], misWin := [], next := 0, kat := [] }, gal := { epoch := 0#64, joinEpoch := 0#64, peerFenced := false, sent := [], held := [], fwds := [], nextTag := 0, lines := [], peerLines := [], joinStep := 0, listGot := false, rslvGot := false, lineWait := [], asks := [], nextAsk := 0, reqs := [], ctls := [], rslvSlab := 0, rslvSett := 0, rslvQuota := 0, kept := false, peerEpoch := 0#64, fullFor := 0, replays := [], lastFlit := [0, 0], lastBeat := 0, graceAt := 0, seen := 0, joinAt := 0, hello := [false, false], handover := 0, zeroing := [] }, seq := { stage := .idle, order := [], good := [], bad := [], low := [], high := [], glitch := [], glitchPrev := [], glitchWin := 0, latchAfter := false, offTick := 0, minOff := true, timed := false, offPend := false, noDnWait := false, inGood := 0, inLow := 0, pwrLow := false, pfwTick := 0, pfwLate := false, stretch := 0, pulse := 0, pg00Told := false, pg00Good := 0, pg00Bad := 0, pg00Ok := false, latchSave := false, syncDrive := false, lowTold := false, timedTick := 0 }, clk := { rising := [], tripSeen := false, refFail := false }, flt := { raised := [], irqq := [], win := [], esc := [], thrNew := [], winNew := [], rst := none, later := [], holdAfter := false }, clg := { live := [], staging := [], forming := [], phase := 0, pend := [], held := [], log := [], win := none, fetch := none, extDay := 0, railLogged := false, bootLogged := false, ffcAtWaking := [0, 0, 0], subSec := 0, resumed := false }, twb := { ports := [], alert := false, alertTick := 0, mctp := 0, sensTick := [] }, fwm := { slotA := { image := [], sealed := false, tag := 0#128, next := [], blk := 0 }, slotB := { image := [], sealed := false, tag := 0#128, next := [], blk := 0 }, active := 0, trial := false, tries := 0, staging := none, xfer := 0, xferFace := 0, running := true, alive := false, prev := 0, handoff := false, recovery := false, svyEpoch := 0, openCmds := [], waiting := [], bootTick := 0 }, pin := { testen := false, power := true, tap := .bypass, railset := 0, err := false }, pending := [], out := [], free := 0 }, (let ring : Nat := 0; let s : State := open0; let s : State := { s.setNv 0 { s.nvFace 0 with feat := 127 } with slb := { s.slb with ready := true } } |> fun s => (s.wr (HPT_STATUS.LINK_UP 0) 1).setRing 0 { s.ring 0 with st := 1 + s.free % 3, log2 := 4 }; s), by decide +kernel⟩
  · exact ⟨0, 0, 17, false, { regs := [(656384, 1#32), (1048576, 0x808#32), (1048580, 0x3b#32)], tick := 100000, chip := .opened, margin := .sable, stamp := 0, stampTick := 0, fuse := { step := 0, serial := 0, blown := 0, provKey := 0#256, devKey := 0#256 }, bed := { fneg := [], chipReset := 0 }, svy := { run := [(16777216, 0x610#32), (16777220, 15#32), (17825792, 4#32), (17825796, 0x3020100#32), (18874368, 1#32), (18874372, 0x80000#32), (18874376, 8#32), (18874384, 0x101#32), (18874388, 0x80008#32), (18874392, 8#32), (20971520, 0x8180#32), (33554432, 0x8a04000#32), (33554436, 0x4040800#32), (33554440, 0x3e80048#32), (33554448, 1#32), (33554456, 1#32), (33554464, 1#32), (33554472, 1#32), (33554480, 1#32), (33554488, 1#32), (33554496, 1#32), (33554504, 1#32), (33554512, 1#32), (34603008, 0x30010#32), (34603012, 0x40030#32), (34603016, 0x40008#32), (34603024, 0x30010#32), (34603028, 0x40030#32), (34603032, 0x40008#32), (35651584, 3#32), (50331648, 0x32402#32), (50331652, 0x648000#32), (50331656, 0xc80642f#32), (50331660, 0x100003#32), (50331664, 0x64#32), (50331688, 15#32), (50331692, 0x114#32), (50331808, 0x201013f#32), (50331812, 0x201013f#32), (50331936, 0x10#32), (67108864, 1#32), (67108868, 0x1964#32), (67108872, 0x1964#32), (67108876, 0x2bf20#32), (67108880, 0x186a00#32), (67108884, 0xcccd#32), (67108888, 0xf852e666#32), (67108892, 0x28fd99a#32), (67108896, 0xb33300f6#32), (67108900, 0x28999a#32)], has := [16, 17, 18, 20, 32, 33, 34, 48, 64], loaded := true, shadow := true, staging := [], inst := [], live := false, cmd := 0, taken := [], face := 0, pairDig := 0#128 }, slb := { slabs := [], ready := true, owned := true, baseR := 0, grants := [], ift := [], lmap := [], image := [] }, lgr := { packA := { ebase := 0, energy := 0, rc := 0, fcc := 0, dc := 0, chem := 0, ma := 0, gaugeMv := 0, temp := 0, debit := 0, saveDebit := 0, hiScans := 0, loScans := 0, valid := 0, last := none, esr := [], esrTick := 0, gaugeTick := 0 }, packB := { ebase := 0, energy := 0, rc := 0, fcc := 0, dc := 0, chem := 0, ma := 0, gaugeMv := 0, temp := 0, debit := 0, saveDebit := 0, hiScans := 0, loScans := 0, valid := 0, last := none, esr := [], esrTick := 0, gaugeTick := 0 }, sableCnt := 0, extra := false }, adm := { rr := 7, jobq := [], wear := 0, wearHaul := 0, wearMark := 0, day := 0, repTick := [], repDue := [], repMargin := 3 }, haul := { ptr := [], cover := [], bank := 0, started := 0, done := 0, short := false, half := false, waitStk := [], waitSump := [], group := 0, stripes := [], nextStripe := 0, pfw := false, pfwTick := 0 }, save := { off := false, short := false, trigTick := 0, walkTick := 0, walked := false, railCut := false, powerBack := false, vol := 0, sumpStart := [], first := [], last := [], carve := [], pads := 0, fdirty := [], anchor := none, session := 0, openAfter := 0, down := false, spent := none, lodes := [], aggs := [], staging := [], numbers := [], ctx := { rings := [], lost := false, owners := [], running := [], cached := [] } }, stk := { recs := [], lodes := [], blks := [], remaps := [], broken := [], pseq := [], head := [], openLode := [], wlWait := [], intents := [], jpend := [], jrnl := [], jseq := 0, jpage := 0, jsaved := 0, dies := [], silent := [], accs := [], applied := [], folding := false, reworking := false, degraded := 0, bootBad := [], bootMap := [], hblock := 0, lpage := 0, lfix := 0, anchors := [], apage := 0, patrolWin := 0, patrolled := [], patrolRead := [] }, saves := [], res := { fetch := [], demand := [], lastPort := 7, prefetch := [], bgPtr := [], bgBank := 0, rebuilt := false, filling := false, trigTick := 0, counted := 0, memRec := 0, holdRec := [], newLost := [], trained := false, noKeys := false, anchored := false, scanTick := 0 }, dch := { mem := [], poison := [], banks := [], repairs := [], hard := [], devCe := [], eqCe := [], eqTick := [], eqTemp := [], bootTemps := [], taps := [], ueRun := [], late := [], early := [], refBank := [], periodCe := 0, win := 0, limits := [3600, 4096, 256, 16, 64], mig := none, rankMap := [], crdMap := [], inForce := [], cfgNew := [], lastReq := [], actLimit := [], rankSr := [], eqRun := [], scrubTick := [], prev := [], ceTotal := [] }, ports := [], nv := [(0, { dirty := 0, shutdown := 0, feat := 0x7f#128, lsa := [] })], job := { rings := [(0, { st := 1, err := 0, log2 := 4, vector := 0, imod := 0, sqHead := 0, sqTail := 0, cqTail := 0, cqHead := 0, sqBase := 0, cqBase := 0, done := 0, errors := 0, pend := false, irqDue := false, irqRun := false })], cache := [], jobs := [], pins := [], lost := false, fenceDue := 0, inits := [] }, cip := { keys := [], keyin := [], store := [], storeOk := false, ceiling := 0, storeSeq := 0, cmd := none, purge := [], stale := [], erasePend := 0, eraseSan := 0, rotate := [], misWin := [], next := 0, kat := [] }, gal := { epoch := 0#64, joinEpoch := 0#64, peerFenced := false, sent := [], held := [], fwds := [], nextTag := 0, lines := [], peerLines := [], joinStep := 0, listGot := false, rslvGot := false, lineWait := [], asks := [], nextAsk := 0, reqs := [], ctls := [], rslvSlab := 0, rslvSett := 0, rslvQuota := 0, kept := false, peerEpoch := 0#64, fullFor := 0, replays := [], lastFlit := [0, 0], lastBeat := 0, graceAt := 0, seen := 0, joinAt := 0, hello := [false, false], handover := 0, zeroing := [] }, seq := { stage := .idle, order := [], good := [], bad := [], low := [], high := [], glitch := [], glitchPrev := [], glitchWin := 0, latchAfter := false, offTick := 0, minOff := true, timed := false, offPend := false, noDnWait := false, inGood := 0, inLow := 0, pwrLow := false, pfwTick := 0, pfwLate := false, stretch := 0, pulse := 0, pg00Told := false, pg00Good := 0, pg00Bad := 0, pg00Ok := false, latchSave := false, syncDrive := false, lowTold := false, timedTick := 0 }, clk := { rising := [], tripSeen := false, refFail := false }, flt := { raised := [], irqq := [], win := [], esc := [], thrNew := [], winNew := [], rst := none, later := [], holdAfter := false }, clg := { live := [], staging := [], forming := [], phase := 0, pend := [], held := [], log := [], win := none, fetch := none, extDay := 0, railLogged := false, bootLogged := false, ffcAtWaking := [0, 0, 0], subSec := 0, resumed := false }, twb := { ports := [], alert := false, alertTick := 0, mctp := 0, sensTick := [] }, fwm := { slotA := { image := [], sealed := false, tag := 0#128, next := [], blk := 0 }, slotB := { image := [], sealed := false, tag := 0#128, next := [], blk := 0 }, active := 0, trial := false, tries := 0, staging := none, xfer := 0, xferFace := 0, running := true, alive := false, prev := 0, handoff := false, recovery := false, svyEpoch := 0, openCmds := [], waiting := [], bootTick := 0 }, pin := { testen := false, power := true, tap := .bypass, railset := 0, err := false }, pending := [], out := [], free := 0 }, (let ring : Nat := 0; let s : State := open0; let s : State := { s.setNv 0 { s.nvFace 0 with feat := 127 } with slb := { s.slb with ready := true } } |> fun s => (s.wr (HPT_STATUS.LINK_UP 0) 1).setRing 0 { s.ring 0 with st := 1, log2 := 4 }; s), by decide +kernel⟩
  · exact ⟨0, 0, 0, false, { regs := [(656384, 1#32), (1048576, 0x808#32), (1048580, 0x3b#32)], tick := 100000, chip := .opened, margin := .sable, stamp := 0, stampTick := 0, fuse := { step := 0, serial := 0, blown := 0, provKey := 0#256, devKey := 0#256 }, bed := { fneg := [], chipReset := 0 }, svy := { run := [(16777216, 0x610#32), (16777220, 15#32), (17825792, 4#32), (17825796, 0x3020100#32), (18874368, 1#32), (18874372, 0x80000#32), (18874376, 8#32), (18874384, 0x101#32), (18874388, 0x80008#32), (18874392, 8#32), (20971520, 0x8180#32), (33554432, 0x8a04000#32), (33554436, 0x4040800#32), (33554440, 0x3e80048#32), (33554448, 1#32), (33554456, 1#32), (33554464, 1#32), (33554472, 1#32), (33554480, 1#32), (33554488, 1#32), (33554496, 1#32), (33554504, 1#32), (33554512, 1#32), (34603008, 0x30010#32), (34603012, 0x40030#32), (34603016, 0x40008#32), (34603024, 0x30010#32), (34603028, 0x40030#32), (34603032, 0x40008#32), (35651584, 3#32), (50331648, 0x32402#32), (50331652, 0x648000#32), (50331656, 0xc80642f#32), (50331660, 0x100003#32), (50331664, 0x64#32), (50331688, 15#32), (50331692, 0x114#32), (50331808, 0x201013f#32), (50331812, 0x201013f#32), (50331936, 0x10#32), (67108864, 1#32), (67108868, 0x1964#32), (67108872, 0x1964#32), (67108876, 0x2bf20#32), (67108880, 0x186a00#32), (67108884, 0xcccd#32), (67108888, 0xf852e666#32), (67108892, 0x28fd99a#32), (67108896, 0xb33300f6#32), (67108900, 0x28999a#32)], has := [16, 17, 18, 20, 32, 33, 34, 48, 64], loaded := true, shadow := true, staging := [], inst := [], live := false, cmd := 0, taken := [], face := 0, pairDig := 0#128 }, slb := { slabs := [], ready := true, owned := true, baseR := 0, grants := [], ift := [], lmap := [], image := [] }, lgr := { packA := { ebase := 0, energy := 0, rc := 0, fcc := 0, dc := 0, chem := 0, ma := 0, gaugeMv := 0, temp := 0, debit := 0, saveDebit := 0, hiScans := 0, loScans := 0, valid := 0, last := none, esr := [], esrTick := 0, gaugeTick := 0 }, packB := { ebase := 0, energy := 0, rc := 0, fcc := 0, dc := 0, chem := 0, ma := 0, gaugeMv := 0, temp := 0, debit := 0, saveDebit := 0, hiScans := 0, loScans := 0, valid := 0, last := none, esr := [], esrTick := 0, gaugeTick := 0 }, sableCnt := 0, extra := false }, adm := { rr := 7, jobq := [], wear := 0, wearHaul := 0, wearMark := 0, day := 0, repTick := [], repDue := [], repMargin := 3 }, haul := { ptr := [], cover := [], bank := 0, started := 0, done := 0, short := false, half := false, waitStk := [], waitSump := [], group := 0, stripes := [], nextStripe := 0, pfw := false, pfwTick := 0 }, save := { off := false, short := false, trigTick := 0, walkTick := 0, walked := false, railCut := false, powerBack := false, vol := 0, sumpStart := [], first := [], last := [], carve := [], pads := 0, fdirty := [], anchor := none, session := 0, openAfter := 0, down := false, spent := none, lodes := [], aggs := [], staging := [], numbers := [], ctx := { rings := [], lost := false, owners := [], running := [], cached := [] } }, stk := { recs := [], lodes := [], blks := [], remaps := [], broken := [], pseq := [], head := [], openLode := [], wlWait := [], intents := [], jpend := [], jrnl := [], jseq := 0, jpage := 0, jsaved := 0, dies := [], silent := [], accs := [], applied := [], folding := false, reworking := false, degraded := 0, bootBad := [], bootMap := [], hblock := 0, lpage := 0, lfix := 0, anchors := [], apage := 0, patrolWin := 0, patrolled := [], patrolRead := [] }, saves := [], res := { fetch := [], demand := [], lastPort := 7, prefetch := [], bgPtr := [], bgBank := 0, rebuilt := false, filling := false, trigTick := 0, counted := 0, memRec := 0, holdRec := [], newLost := [], trained := false, noKeys := false, anchored := false, scanTick := 0 }, dch := { mem := [], poison := [], banks := [], repairs := [], hard := [], devCe := [], eqCe := [], eqTick := [], eqTemp := [], bootTemps := [], taps := [], ueRun := [], late := [], early := [], refBank := [], periodCe := 0, win := 0, limits := [3600, 4096, 256, 16, 64], mig := none, rankMap := [], crdMap := [], inForce := [], cfgNew := [], lastReq := [], actLimit := [], rankSr := [], eqRun := [], scrubTick := [], prev := [], ceTotal := [] }, ports := [], nv := [(0, { dirty := 0, shutdown := 0, feat := 0x7f#128, lsa := [] })], job := { rings := [], cache := [], jobs := [], pins := [], lost := false, fenceDue := 0, inits := [] }, cip := { keys := [], keyin := [], store := [], storeOk := false, ceiling := 0, storeSeq := 0, cmd := none, purge := [], stale := [], erasePend := 0, eraseSan := 0, rotate := [], misWin := [], next := 0, kat := [] }, gal := { epoch := 0#64, joinEpoch := 0#64, peerFenced := false, sent := [], held := [], fwds := [], nextTag := 0, lines := [], peerLines := [], joinStep := 0, listGot := false, rslvGot := false, lineWait := [], asks := [], nextAsk := 0, reqs := [], ctls := [], rslvSlab := 0, rslvSett := 0, rslvQuota := 0, kept := false, peerEpoch := 0#64, fullFor := 0, replays := [], lastFlit := [0, 0], lastBeat := 0, graceAt := 0, seen := 0, joinAt := 0, hello := [false, false], handover := 0, zeroing := [] }, seq := { stage := .idle, order := [], good := [], bad := [], low := [], high := [], glitch := [], glitchPrev := [], glitchWin := 0, latchAfter := false, offTick := 0, minOff := true, timed := false, offPend := false, noDnWait := false, inGood := 0, inLow := 0, pwrLow := false, pfwTick := 0, pfwLate := false, stretch := 0, pulse := 0, pg00Told := false, pg00Good := 0, pg00Bad := 0, pg00Ok := false, latchSave := false, syncDrive := false, lowTold := false, timedTick := 0 }, clk := { rising := [], tripSeen := false, refFail := false }, flt := { raised := [], irqq := [], win := [], esc := [], thrNew := [], winNew := [], rst := none, later := [], holdAfter := false }, clg := { live := [], staging := [], forming := [], phase := 0, pend := [], held := [], log := [], win := none, fetch := none, extDay := 0, railLogged := false, bootLogged := false, ffcAtWaking := [0, 0, 0], subSec := 0, resumed := false }, twb := { ports := [], alert := false, alertTick := 0, mctp := 0, sensTick := [] }, fwm := { slotA := { image := [], sealed := false, tag := 0#128, next := [], blk := 0 }, slotB := { image := [], sealed := false, tag := 0#128, next := [], blk := 0 }, active := 0, trial := false, tries := 0, staging := none, xfer := 0, xferFace := 0, running := true, alive := false, prev := 0, handoff := false, recovery := false, svyEpoch := 0, openCmds := [], waiting := [], bootTick := 0 }, pin := { testen := false, power := true, tap := .bypass, railset := 0, err := false }, pending := [], out := [], free := 0 }, (open0), by decide +kernel⟩

/-- Clauses of RingDoorbells have states and operands that meet their conditions. -/
theorem test_conditions_RingDoorbells_2 :
    (∃ (port ring value : Nat) (bad : Bool) (s1 : State) (s : State), s.chip ≠ .off ∧ s1 = s.ringErr ring bad ∧ s1.hubOn = true ∧ s1.linkUp port = true ∧ s1.bellOk port ring = true ∧ ((s1.ring ring).cqTail + 65536 - value % 65536) % 65536 ≤ (s1.ring ring).size) ∧
    (∃ (port ring value : Nat) (bad : Bool) (s1 : State) (s : State), s.chip ≠ .off ∧ s1 = s.ringErr ring bad ∧ s1.hubOn = true ∧ s1.linkUp port = true ∧ s1.bellOk port ring = true ∧ (s1.ring ring).size < ((s1.ring ring).cqTail + 65536 - value % 65536) % 65536) ∧
    (∃ (port ring value : Nat) (bad : Bool) (s : State), s.chip ≠ .off ∧ bad = true ∧ s.hubOn = true ∧ ring < 262144) := by
  refine ⟨?_, ?_, ?_⟩
  · exact ⟨0, 0, 65530, false, { regs := [(656384, 1#32), (1048576, 0x808#32), (1048580, 0x3b#32)], tick := 100000, chip := .opened, margin := .sable, stamp := 0, stampTick := 0, fuse := { step := 0, serial := 0, blown := 0, provKey := 0#256, devKey := 0#256 }, bed := { fneg := [], chipReset := 0 }, svy := { run := [(16777216, 0x610#32), (16777220, 15#32), (17825792, 4#32), (17825796, 0x3020100#32), (18874368, 1#32), (18874372, 0x80000#32), (18874376, 8#32), (18874384, 0x101#32), (18874388, 0x80008#32), (18874392, 8#32), (20971520, 0x8180#32), (33554432, 0x8a04000#32), (33554436, 0x4040800#32), (33554440, 0x3e80048#32), (33554448, 1#32), (33554456, 1#32), (33554464, 1#32), (33554472, 1#32), (33554480, 1#32), (33554488, 1#32), (33554496, 1#32), (33554504, 1#32), (33554512, 1#32), (34603008, 0x30010#32), (34603012, 0x40030#32), (34603016, 0x40008#32), (34603024, 0x30010#32), (34603028, 0x40030#32), (34603032, 0x40008#32), (35651584, 3#32), (50331648, 0x32402#32), (50331652, 0x648000#32), (50331656, 0xc80642f#32), (50331660, 0x100003#32), (50331664, 0x64#32), (50331688, 15#32), (50331692, 0x114#32), (50331808, 0x201013f#32), (50331812, 0x201013f#32), (50331936, 0x10#32), (67108864, 1#32), (67108868, 0x1964#32), (67108872, 0x1964#32), (67108876, 0x2bf20#32), (67108880, 0x186a00#32), (67108884, 0xcccd#32), (67108888, 0xf852e666#32), (67108892, 0x28fd99a#32), (67108896, 0xb33300f6#32), (67108900, 0x28999a#32)], has := [16, 17, 18, 20, 32, 33, 34, 48, 64], loaded := true, shadow := true, staging := [], inst := [], live := false, cmd := 0, taken := [], face := 0, pairDig := 0#128 }, slb := { slabs := [], ready := true, owned := true, baseR := 0, grants := [], ift := [], lmap := [], image := [] }, lgr := { packA := { ebase := 0, energy := 0, rc := 0, fcc := 0, dc := 0, chem := 0, ma := 0, gaugeMv := 0, temp := 0, debit := 0, saveDebit := 0, hiScans := 0, loScans := 0, valid := 0, last := none, esr := [], esrTick := 0, gaugeTick := 0 }, packB := { ebase := 0, energy := 0, rc := 0, fcc := 0, dc := 0, chem := 0, ma := 0, gaugeMv := 0, temp := 0, debit := 0, saveDebit := 0, hiScans := 0, loScans := 0, valid := 0, last := none, esr := [], esrTick := 0, gaugeTick := 0 }, sableCnt := 0, extra := false }, adm := { rr := 7, jobq := [], wear := 0, wearHaul := 0, wearMark := 0, day := 0, repTick := [], repDue := [], repMargin := 3 }, haul := { ptr := [], cover := [], bank := 0, started := 0, done := 0, short := false, half := false, waitStk := [], waitSump := [], group := 0, stripes := [], nextStripe := 0, pfw := false, pfwTick := 0 }, save := { off := false, short := false, trigTick := 0, walkTick := 0, walked := false, railCut := false, powerBack := false, vol := 0, sumpStart := [], first := [], last := [], carve := [], pads := 0, fdirty := [], anchor := none, session := 0, openAfter := 0, down := false, spent := none, lodes := [], aggs := [], staging := [], numbers := [], ctx := { rings := [], lost := false, owners := [], running := [], cached := [] } }, stk := { recs := [], lodes := [], blks := [], remaps := [], broken := [], pseq := [], head := [], openLode := [], wlWait := [], intents := [], jpend := [], jrnl := [], jseq := 0, jpage := 0, jsaved := 0, dies := [], silent := [], accs := [], applied := [], folding := false, reworking := false, degraded := 0, bootBad := [], bootMap := [], hblock := 0, lpage := 0, lfix := 0, anchors := [], apage := 0, patrolWin := 0, patrolled := [], patrolRead := [] }, saves := [], res := { fetch := [], demand := [], lastPort := 7, prefetch := [], bgPtr := [], bgBank := 0, rebuilt := false, filling := false, trigTick := 0, counted := 0, memRec := 0, holdRec := [], newLost := [], trained := false, noKeys := false, anchored := false, scanTick := 0 }, dch := { mem := [], poison := [], banks := [], repairs := [], hard := [], devCe := [], eqCe := [], eqTick := [], eqTemp := [], bootTemps := [], taps := [], ueRun := [], late := [], early := [], refBank := [], periodCe := 0, win := 0, limits := [3600, 4096, 256, 16, 64], mig := none, rankMap := [], crdMap := [], inForce := [], cfgNew := [], lastReq := [], actLimit := [], rankSr := [], eqRun := [], scrubTick := [], prev := [], ceTotal := [] }, ports := [], nv := [(0, { dirty := 0, shutdown := 0, feat := 0x7f#128, lsa := [] })], job := { rings := [(0, { st := 1, err := 0, log2 := 4, vector := 0, imod := 0, sqHead := 0, sqTail := 0, cqTail := 0, cqHead := 0, sqBase := 0, cqBase := 0, done := 0, errors := 0, pend := false, irqDue := false, irqRun := false })], cache := [], jobs := [], pins := [], lost := false, fenceDue := 0, inits := [] }, cip := { keys := [], keyin := [], store := [], storeOk := false, ceiling := 0, storeSeq := 0, cmd := none, purge := [], stale := [], erasePend := 0, eraseSan := 0, rotate := [], misWin := [], next := 0, kat := [] }, gal := { epoch := 0#64, joinEpoch := 0#64, peerFenced := false, sent := [], held := [], fwds := [], nextTag := 0, lines := [], peerLines := [], joinStep := 0, listGot := false, rslvGot := false, lineWait := [], asks := [], nextAsk := 0, reqs := [], ctls := [], rslvSlab := 0, rslvSett := 0, rslvQuota := 0, kept := false, peerEpoch := 0#64, fullFor := 0, replays := [], lastFlit := [0, 0], lastBeat := 0, graceAt := 0, seen := 0, joinAt := 0, hello := [false, false], handover := 0, zeroing := [] }, seq := { stage := .idle, order := [], good := [], bad := [], low := [], high := [], glitch := [], glitchPrev := [], glitchWin := 0, latchAfter := false, offTick := 0, minOff := true, timed := false, offPend := false, noDnWait := false, inGood := 0, inLow := 0, pwrLow := false, pfwTick := 0, pfwLate := false, stretch := 0, pulse := 0, pg00Told := false, pg00Good := 0, pg00Bad := 0, pg00Ok := false, latchSave := false, syncDrive := false, lowTold := false, timedTick := 0 }, clk := { rising := [], tripSeen := false, refFail := false }, flt := { raised := [], irqq := [], win := [], esc := [], thrNew := [], winNew := [], rst := none, later := [], holdAfter := false }, clg := { live := [], staging := [], forming := [], phase := 0, pend := [], held := [], log := [], win := none, fetch := none, extDay := 0, railLogged := false, bootLogged := false, ffcAtWaking := [0, 0, 0], subSec := 0, resumed := false }, twb := { ports := [], alert := false, alertTick := 0, mctp := 0, sensTick := [] }, fwm := { slotA := { image := [], sealed := false, tag := 0#128, next := [], blk := 0 }, slotB := { image := [], sealed := false, tag := 0#128, next := [], blk := 0 }, active := 0, trial := false, tries := 0, staging := none, xfer := 0, xferFace := 0, running := true, alive := false, prev := 0, handoff := false, recovery := false, svyEpoch := 0, openCmds := [], waiting := [], bootTick := 0 }, pin := { testen := false, power := true, tap := .bypass, railset := 0, err := false }, pending := [], out := [], free := 0 }, (let ring : Nat := 0; let s : State := open0; let s : State := { s.setNv 0 { s.nvFace 0 with feat := 127 } with slb := { s.slb with ready := true } } |> fun s => (s.wr (HPT_STATUS.LINK_UP 0) 1).setRing 0 { s.ring 0 with st := 1, log2 := 4 }; s), by decide +kernel⟩
  · exact ⟨0, 0, 1, false, { regs := [(656384, 1#32), (1048576, 0x808#32), (1048580, 0x3b#32)], tick := 100000, chip := .opened, margin := .sable, stamp := 0, stampTick := 0, fuse := { step := 0, serial := 0, blown := 0, provKey := 0#256, devKey := 0#256 }, bed := { fneg := [], chipReset := 0 }, svy := { run := [(16777216, 0x610#32), (16777220, 15#32), (17825792, 4#32), (17825796, 0x3020100#32), (18874368, 1#32), (18874372, 0x80000#32), (18874376, 8#32), (18874384, 0x101#32), (18874388, 0x80008#32), (18874392, 8#32), (20971520, 0x8180#32), (33554432, 0x8a04000#32), (33554436, 0x4040800#32), (33554440, 0x3e80048#32), (33554448, 1#32), (33554456, 1#32), (33554464, 1#32), (33554472, 1#32), (33554480, 1#32), (33554488, 1#32), (33554496, 1#32), (33554504, 1#32), (33554512, 1#32), (34603008, 0x30010#32), (34603012, 0x40030#32), (34603016, 0x40008#32), (34603024, 0x30010#32), (34603028, 0x40030#32), (34603032, 0x40008#32), (35651584, 3#32), (50331648, 0x32402#32), (50331652, 0x648000#32), (50331656, 0xc80642f#32), (50331660, 0x100003#32), (50331664, 0x64#32), (50331688, 15#32), (50331692, 0x114#32), (50331808, 0x201013f#32), (50331812, 0x201013f#32), (50331936, 0x10#32), (67108864, 1#32), (67108868, 0x1964#32), (67108872, 0x1964#32), (67108876, 0x2bf20#32), (67108880, 0x186a00#32), (67108884, 0xcccd#32), (67108888, 0xf852e666#32), (67108892, 0x28fd99a#32), (67108896, 0xb33300f6#32), (67108900, 0x28999a#32)], has := [16, 17, 18, 20, 32, 33, 34, 48, 64], loaded := true, shadow := true, staging := [], inst := [], live := false, cmd := 0, taken := [], face := 0, pairDig := 0#128 }, slb := { slabs := [], ready := true, owned := true, baseR := 0, grants := [], ift := [], lmap := [], image := [] }, lgr := { packA := { ebase := 0, energy := 0, rc := 0, fcc := 0, dc := 0, chem := 0, ma := 0, gaugeMv := 0, temp := 0, debit := 0, saveDebit := 0, hiScans := 0, loScans := 0, valid := 0, last := none, esr := [], esrTick := 0, gaugeTick := 0 }, packB := { ebase := 0, energy := 0, rc := 0, fcc := 0, dc := 0, chem := 0, ma := 0, gaugeMv := 0, temp := 0, debit := 0, saveDebit := 0, hiScans := 0, loScans := 0, valid := 0, last := none, esr := [], esrTick := 0, gaugeTick := 0 }, sableCnt := 0, extra := false }, adm := { rr := 7, jobq := [], wear := 0, wearHaul := 0, wearMark := 0, day := 0, repTick := [], repDue := [], repMargin := 3 }, haul := { ptr := [], cover := [], bank := 0, started := 0, done := 0, short := false, half := false, waitStk := [], waitSump := [], group := 0, stripes := [], nextStripe := 0, pfw := false, pfwTick := 0 }, save := { off := false, short := false, trigTick := 0, walkTick := 0, walked := false, railCut := false, powerBack := false, vol := 0, sumpStart := [], first := [], last := [], carve := [], pads := 0, fdirty := [], anchor := none, session := 0, openAfter := 0, down := false, spent := none, lodes := [], aggs := [], staging := [], numbers := [], ctx := { rings := [], lost := false, owners := [], running := [], cached := [] } }, stk := { recs := [], lodes := [], blks := [], remaps := [], broken := [], pseq := [], head := [], openLode := [], wlWait := [], intents := [], jpend := [], jrnl := [], jseq := 0, jpage := 0, jsaved := 0, dies := [], silent := [], accs := [], applied := [], folding := false, reworking := false, degraded := 0, bootBad := [], bootMap := [], hblock := 0, lpage := 0, lfix := 0, anchors := [], apage := 0, patrolWin := 0, patrolled := [], patrolRead := [] }, saves := [], res := { fetch := [], demand := [], lastPort := 7, prefetch := [], bgPtr := [], bgBank := 0, rebuilt := false, filling := false, trigTick := 0, counted := 0, memRec := 0, holdRec := [], newLost := [], trained := false, noKeys := false, anchored := false, scanTick := 0 }, dch := { mem := [], poison := [], banks := [], repairs := [], hard := [], devCe := [], eqCe := [], eqTick := [], eqTemp := [], bootTemps := [], taps := [], ueRun := [], late := [], early := [], refBank := [], periodCe := 0, win := 0, limits := [3600, 4096, 256, 16, 64], mig := none, rankMap := [], crdMap := [], inForce := [], cfgNew := [], lastReq := [], actLimit := [], rankSr := [], eqRun := [], scrubTick := [], prev := [], ceTotal := [] }, ports := [], nv := [(0, { dirty := 0, shutdown := 0, feat := 0x7f#128, lsa := [] })], job := { rings := [(0, { st := 1, err := 0, log2 := 4, vector := 0, imod := 0, sqHead := 0, sqTail := 0, cqTail := 0, cqHead := 0, sqBase := 0, cqBase := 0, done := 0, errors := 0, pend := false, irqDue := false, irqRun := false })], cache := [], jobs := [], pins := [], lost := false, fenceDue := 0, inits := [] }, cip := { keys := [], keyin := [], store := [], storeOk := false, ceiling := 0, storeSeq := 0, cmd := none, purge := [], stale := [], erasePend := 0, eraseSan := 0, rotate := [], misWin := [], next := 0, kat := [] }, gal := { epoch := 0#64, joinEpoch := 0#64, peerFenced := false, sent := [], held := [], fwds := [], nextTag := 0, lines := [], peerLines := [], joinStep := 0, listGot := false, rslvGot := false, lineWait := [], asks := [], nextAsk := 0, reqs := [], ctls := [], rslvSlab := 0, rslvSett := 0, rslvQuota := 0, kept := false, peerEpoch := 0#64, fullFor := 0, replays := [], lastFlit := [0, 0], lastBeat := 0, graceAt := 0, seen := 0, joinAt := 0, hello := [false, false], handover := 0, zeroing := [] }, seq := { stage := .idle, order := [], good := [], bad := [], low := [], high := [], glitch := [], glitchPrev := [], glitchWin := 0, latchAfter := false, offTick := 0, minOff := true, timed := false, offPend := false, noDnWait := false, inGood := 0, inLow := 0, pwrLow := false, pfwTick := 0, pfwLate := false, stretch := 0, pulse := 0, pg00Told := false, pg00Good := 0, pg00Bad := 0, pg00Ok := false, latchSave := false, syncDrive := false, lowTold := false, timedTick := 0 }, clk := { rising := [], tripSeen := false, refFail := false }, flt := { raised := [], irqq := [], win := [], esc := [], thrNew := [], winNew := [], rst := none, later := [], holdAfter := false }, clg := { live := [], staging := [], forming := [], phase := 0, pend := [], held := [], log := [], win := none, fetch := none, extDay := 0, railLogged := false, bootLogged := false, ffcAtWaking := [0, 0, 0], subSec := 0, resumed := false }, twb := { ports := [], alert := false, alertTick := 0, mctp := 0, sensTick := [] }, fwm := { slotA := { image := [], sealed := false, tag := 0#128, next := [], blk := 0 }, slotB := { image := [], sealed := false, tag := 0#128, next := [], blk := 0 }, active := 0, trial := false, tries := 0, staging := none, xfer := 0, xferFace := 0, running := true, alive := false, prev := 0, handoff := false, recovery := false, svyEpoch := 0, openCmds := [], waiting := [], bootTick := 0 }, pin := { testen := false, power := true, tap := .bypass, railset := 0, err := false }, pending := [], out := [], free := 0 }, (let ring : Nat := 0; let s : State := open0; let s : State := { s.setNv 0 { s.nvFace 0 with feat := 127 } with slb := { s.slb with ready := true } } |> fun s => (s.wr (HPT_STATUS.LINK_UP 0) 1).setRing 0 { s.ring 0 with st := 1, log2 := 4 }; s), by decide +kernel⟩
  · exact ⟨0, 0, 0, true, (open0), by decide +kernel⟩

/-- Clauses of RingDoorbells have states and operands that meet their conditions. -/
theorem test_conditions_RingDoorbells_3 :
    (∃ (port ring value : Nat) (bad : Bool) (s : State), s.chip ≠ .off ∧ bad = true ∧ s.hubOn = true ∧ ring < 262144) ∧
    (∃ (ring : Nat) (f : Nat) (s : State), s.chip ≠ .off ∧ (s.ring ring).irqRun = true ∧ (s.ring ring).irqDue = true ∧ s.ringFace ring = some f) ∧
    (∃ (ring : Nat) (s : State), s.chip ≠ .off ∧ (s.ring ring).irqRun = true ∧ (s.ring ring).irqDue = false) := by
  refine ⟨?_, ?_, ?_⟩
  · exact ⟨0, 0, 0, true, (open0), by decide +kernel⟩
  · exact ⟨0, 0, (let ring : Nat := 0; let s : State := open0; let s : State := s.setRing 0 { s.ring 0 with irqRun := true, irqDue := true }; s), by decide +kernel⟩
  · exact ⟨0, (let ring : Nat := 0; let s : State := open0; let s : State := s.setRing 0 { s.ring 0 with irqRun := true, irqDue := false }; s), by decide +kernel⟩

/-- Clauses of Jobs have states and operands that meet their conditions. -/
theorem test_conditions_Jobs_1 :
    (∃ (ring : Nat) (desc : Nat) (sram : List (Nat × SramErr)) (s1 : State) (f : Nat) (j : Job) (k : Nat) (l : Nat) (s : State), s.chip ≠ .off ∧ s1 = s.sramAll sram ∧ s1.ringFace ring = some f ∧ s1.jobsRun ring = true ∧ (s1.ringJobs ring).find? (fun j => j.op == 2 && j.fin.isNone) = some j ∧ (s1.ringJobs ring).any (fun x => x.parked) = false ∧ j.len = 1 ∧ j.pos = 0 ∧ j.pass = 0 ∧ s1.canPay 3 1 false = true ∧ j.aux = 0 ∧ s1.access f j.dst = some (k, l) ∧ s1.settHome k = true ∧ (s1.slab (settSlab k)).jobl = false ∧ s1.repairOf k l = none ∧ s1.mirrors = false ∧ s1.dirty k = true ∧ l < 1024 ∧ (∀ p ∈ faces, s1.pendingTo p k = [])) ∧
    (∃ (ring : Nat) (devs : SMap Nat) (desc : Nat) (sram : List (Nat × SramErr)) (s1 : State) (f : Nat) (j : Job) (k0 : Nat) (l0 : Nat) (k : Nat) (l : Nat) (s : State), s.chip ≠ .off ∧ s1 = s.sramAll sram ∧ s1.ringFace ring = some f ∧ s1.jobsRun ring = true ∧ (s1.ringJobs ring).find? (fun j => j.op == 1 && j.fin.isNone) = some j ∧ (s1.ringJobs ring).any (fun x => x.parked) = false ∧ j.len = 1 ∧ j.pos = 0 ∧ j.pass = 0 ∧ s1.canPay 3 1 false = true ∧ j.aux = 0 ∧ SMap.get 0 0 devs = 0 ∧ s1.access f j.src = some (k0, l0) ∧ s1.settHome k0 = true ∧ s1.repairOf k0 l0 = none ∧ (s1.pendingTo f k0).filter (fun e => e.line == l0) = [] ∧ s1.poisoned k0 l0 = false ∧ s1.dch.hard = [] ∧ s1.rankAnswers k0 = true ∧ s1.access f j.dst = some (k, l) ∧ s1.settHome k = true ∧ (s1.slab (settSlab k)).jobl = false ∧ s1.repairOf k l = none ∧ s1.mirrors = false ∧ s1.dirty k = true ∧ l < 1024 ∧ (∀ p ∈ faces, s1.pendingTo p k = [])) ∧
    (∃ (ring : Nat) (bad : List Nat) (devs : SMap Nat) (desc : Nat) (sram : List (Nat × SramErr)) (s1 : State) (f : Nat) (j : Job) (k0 : Nat) (l0 : Nat) (k : Nat) (l : Nat) (s : State), s.chip ≠ .off ∧ s1 = s.sramAll sram ∧ s1.ringFace ring = some f ∧ s1.jobsRun ring = true ∧ (s1.ringJobs ring).find? (fun j => j.op == 6 && j.fin.isNone) = some j ∧ (s1.ringJobs ring).any (fun x => x.parked) = false ∧ j.len = 1 ∧ j.pos = 0 ∧ j.pass = 0 ∧ s1.canPay 3 1 false = true ∧ j.gcm = false ∧ bad.contains 0 = false ∧ SMap.get 0 0 devs = 0 ∧ (List.range 12).any s1.pairServes = true ∧ s1.txSlot j.slot f = true ∧ s1.access f j.src = some (k0, l0) ∧ s1.settHome k0 = true ∧ s1.repairOf k0 l0 = none ∧ (s1.pendingTo f k0).filter (fun e => e.line == l0) = [] ∧ s1.poisoned k0 l0 = false ∧ s1.dch.hard = [] ∧ s1.rankAnswers k0 = true ∧ s1.access f j.dst = some (k, l) ∧ s1.settHome k = true ∧ (s1.slab (settSlab k)).jobl = false ∧ s1.repairOf k l = none ∧ s1.mirrors = false ∧ s1.dirty k = true ∧ l < 1024 ∧ (∀ p ∈ faces, s1.pendingTo p k = [])) := by
  refine ⟨?_, ?_, ?_⟩
  · exact ⟨0, 0, [], { regs := [(393992, 0x2002#32), (589828, 4#32), (589896, 0x630000#32), (656384, 1#32), (1048576, 0x808#32), (1048580, 0x3b#32), (8388688, 4#32)], tick := 100000, chip := .opened, margin := .sable, stamp := 0, stampTick := 0, fuse := { step := 0, serial := 0, blown := 0, provKey := 0#256, devKey := 0#256 }, bed := { fneg := [], chipReset := 0 }, svy := { run := [(16777216, 0x610#32), (16777220, 15#32), (17825792, 4#32), (17825796, 0x3020100#32), (18874368, 1#32), (18874372, 0x80000#32), (18874376, 8#32), (18874384, 0x101#32), (18874388, 0x80008#32), (18874392, 8#32), (20971520, 0x8180#32), (33554432, 0x8a04000#32), (33554436, 0x4040800#32), (33554440, 0x3e80048#32), (33554448, 1#32), (33554456, 1#32), (33554464, 1#32), (33554472, 1#32), (33554480, 1#32), (33554488, 1#32), (33554496, 1#32), (33554504, 1#32), (33554512, 1#32), (34603008, 0x30010#32), (34603012, 0x40030#32), (34603016, 0x40008#32), (34603024, 0x30010#32), (34603028, 0x40030#32), (34603032, 0x40008#32), (35651584, 3#32), (50331648, 0x32402#32), (50331652, 0x648000#32), (50331656, 0xc80642f#32), (50331660, 0x100003#32), (50331664, 0x64#32), (50331688, 15#32), (50331692, 0x114#32), (50331808, 0x201013f#32), (50331812, 0x201013f#32), (50331936, 0x10#32), (67108864, 1#32), (67108868, 0x1964#32), (67108872, 0x1964#32), (67108876, 0x2bf20#32), (67108880, 0x186a00#32), (67108884, 0xcccd#32), (67108888, 0xf852e666#32), (67108892, 0x28fd99a#32), (67108896, 0xb33300f6#32), (67108900, 0x28999a#32)], has := [16, 17, 18, 20, 32, 33, 34, 48, 64], loaded := true, shadow := true, staging := [], inst := [], live := false, cmd := 0, taken := [], face := 0, pairDig := 0#128 }, slb := { slabs := [(0, { mask := 15#64, word := 0#32 })], ready := true, owned := true, baseR := 0, grants := [], ift := [], lmap := [], image := [] }, lgr := { packA := { ebase := 0, energy := 0, rc := 0, fcc := 0, dc := 0, chem := 0, ma := 0, gaugeMv := 0, temp := 0, debit := 0, saveDebit := 0, hiScans := 0, loScans := 0, valid := 0, last := none, esr := [], esrTick := 0, gaugeTick := 0 }, packB := { ebase := 0, energy := 0, rc := 0, fcc := 0, dc := 0, chem := 0, ma := 0, gaugeMv := 0, temp := 0, debit := 0, saveDebit := 0, hiScans := 0, loScans := 0, valid := 0, last := none, esr := [], esrTick := 0, gaugeTick := 0 }, sableCnt := 0, extra := false }, adm := { rr := 7, jobq := [], wear := 0, wearHaul := 0, wearMark := 0, day := 0, repTick := [], repDue := [], repMargin := 3 }, haul := { ptr := [], cover := [], bank := 0, started := 0, done := 0, short := false, half := false, waitStk := [], waitSump := [], group := 0, stripes := [], nextStripe := 0, pfw := false, pfwTick := 0 }, save := { off := false, short := false, trigTick := 0, walkTick := 0, walked := false, railCut := false, powerBack := false, vol := 0, sumpStart := [], first := [], last := [], carve := [], pads := 0, fdirty := [], anchor := none, session := 0, openAfter := 0, down := false, spent := none, lodes := [], aggs := [], staging := [], numbers := [], ctx := { rings := [], lost := false, owners := [], running := [], cached := [] } }, stk := { recs := [], lodes := [], blks := [], remaps := [], broken := [], pseq := [], head := [], openLode := [], wlWait := [], intents := [], jpend := [], jrnl := [], jseq := 0, jpage := 0, jsaved := 0, dies := [], silent := [], accs := [], applied := [], folding := false, reworking := false, degraded := 0, bootBad := [], bootMap := [], hblock := 0, lpage := 0, lfix := 0, anchors := [], apage := 0, patrolWin := 0, patrolled := [], patrolRead := [] }, saves := [], res := { fetch := [], demand := [], lastPort := 7, prefetch := [], bgPtr := [], bgBank := 0, rebuilt := false, filling := false, trigTick := 0, counted := 0, memRec := 0, holdRec := [], newLost := [], trained := false, noKeys := false, anchored := false, scanTick := 0 }, dch := { mem := [], poison := [], banks := [], repairs := [], hard := [], devCe := [], eqCe := [], eqTick := [], eqTemp := [], bootTemps := [], taps := [], ueRun := [], late := [], early := [], refBank := [], periodCe := 0, win := 0, limits := [3600, 4096, 256, 16, 64], mig := none, rankMap := [], crdMap := [], inForce := [], cfgNew := [], lastReq := [], actLimit := [], rankSr := [], eqRun := [], scrubTick := [], prev := [], ceTotal := [] }, ports := [], nv := [(0, { dirty := 0, shutdown := 0, feat := 0x7f#128, lsa := [] })], job := { rings := [(0, { st := 1, err := 0, log2 := 4, vector := 0, imod := 0, sqHead := 0, sqTail := 0, cqTail := 0, cqHead := 0, sqBase := 65536, cqBase := 131072, done := 0, errors := 0, pend := false, irqDue := false, irqRun := false })], cache := [], jobs := [{ ring := 0, idx := 3, op := 2, tag := 7, notify := false, len := 1, src := 0, dst := 64, arg0 := 0, arg1 := 0, iv := 0#128, pos := 0, aux := 0, pass := 0, parked := false, chain := 0#128, hash := 0#128, seq := 0, fin := none, slabs := [0, 65536, 131072, 196608, 1, 65537, 131073, 196609, 2, 65538, 131074, 196610, 3, 65539, 131075, 196611, 4, 65540, 131076, 196612, 5, 65541, 131077, 196613, 6, 65542, 131078, 196614, 7, 65543, 131079, 196615, 8, 65544, 131080, 196616, 9, 65545, 131081, 196617, 10, 65546, 131082, 196618, 11, 65547, 131083, 196619, 12, 65548, 131084, 196620, 13, 65549, 131085, 196621, 14, 65550, 131086, 196622, 15, 65551, 131087, 196623, 16, 65552, 131088, 196624, 17, 65553, 131089, 196625, 18, 65554, 131090, 196626, 19, 65555, 131091, 196627, 20, 65556, 131092, 196628, 21, 65557, 131093, 196629, 22, 65558, 131094, 196630, 23, 65559, 131095, 196631, 24, 65560, 131096, 196632, 25, 65561, 131097, 196633, 26, 65562, 131098, 196634, 27, 65563, 131099, 196635, 28, 65564, 131100, 196636, 29, 65565, 131101, 196637, 30, 65566, 131102, 196638, 31, 65567, 131103, 196639, 32, 65568, 131104, 196640, 33, 65569, 131105, 196641, 34, 65570, 131106, 196642, 35, 65571, 131107, 196643, 36, 65572, 131108, 196644, 37, 65573, 131109, 196645, 38, 65574, 131110, 196646, 39, 65575, 131111, 196647, 40, 65576, 131112, 196648, 41, 65577, 131113, 196649, 42, 65578, 131114, 196650, 43, 65579, 131115, 196651, 44, 65580, 131116, 196652, 45, 65581, 131117, 196653, 46, 65582, 131118, 196654, 47, 65583, 131119, 196655, 48, 65584, 131120, 196656, 49, 65585, 131121, 196657, 50, 65586, 131122, 196658, 51, 65587, 131123, 196659, 52, 65588, 131124, 196660, 53, 65589, 131125, 196661, 54, 65590, 131126, 196662, 55, 65591, 131127, 196663, 56, 65592, 131128, 196664, 57, 65593, 131129, 196665, 58, 65594, 131130, 196666, 59, 65595, 131131, 196667, 60, 65596, 131132, 196668, 61, 65597, 131133, 196669, 62, 65598, 131134, 196670, 63, 65599, 131135, 196671, 64, 65600, 131136, 196672, 65, 65601, 131137, 196673, 66, 65602, 131138, 196674, 67, 65603, 131139, 196675, 68, 65604, 131140, 196676, 69, 65605, 131141, 196677, 70, 65606, 131142, 196678, 71, 65607, 131143, 196679, 72, 65608, 131144, 196680, 73, 65609, 131145, 196681, 74, 65610, 131146, 196682, 75, 65611, 131147, 196683, 76, 65612, 131148, 196684, 77, 65613, 131149, 196685, 78, 65614, 131150, 196686, 79, 65615, 131151, 196687, 80, 65616, 131152, 196688, 81, 65617, 131153, 196689, 82, 65618, 131154, 196690, 83, 65619, 131155, 196691, 84, 65620, 131156, 196692, 85, 65621, 131157, 196693, 86, 65622, 131158, 196694, 87, 65623, 131159, 196695, 88, 65624, 131160, 196696, 89, 65625, 131161, 196697, 90, 65626, 131162, 196698, 91, 65627, 131163, 196699, 92, 65628, 131164, 196700, 93, 65629, 131165, 196701, 94, 65630, 131166, 196702, 95, 65631, 131167, 196703, 96, 65632, 131168, 196704, 97, 65633, 131169, 196705, 98, 65634, 131170, 196706, 99, 65635, 131171, 196707, 100, 65636, 131172, 196708, 101, 65637, 131173, 196709, 102, 65638, 131174, 196710, 103, 65639, 131175, 196711, 104, 65640, 131176, 196712, 105, 65641, 131177, 196713, 106, 65642, 131178, 196714, 107, 65643, 131179, 196715, 108, 65644, 131180, 196716, 109, 65645, 131181, 196717, 110, 65646, 131182, 196718, 111, 65647, 131183, 196719, 112, 65648, 131184, 196720, 113, 65649, 131185, 196721, 114, 65650, 131186, 196722, 115, 65651, 131187, 196723, 116, 65652, 131188, 196724, 117, 65653, 131189, 196725, 118, 65654, 131190, 196726, 119, 65655, 131191, 196727, 120, 65656, 131192, 196728, 121, 65657, 131193, 196729, 122, 65658, 131194, 196730, 123, 65659, 131195, 196731, 124, 65660, 131196, 196732, 125, 65661, 131197, 196733, 126, 65662, 131198, 196734, 127, 65663, 131199, 196735] }], pins := [], lost := false, fenceDue := 0, inits := [] }, cip := { keys := [], keyin := [], store := [], storeOk := false, ceiling := 0, storeSeq := 0, cmd := none, purge := [], stale := [], erasePend := 0, eraseSan := 0, rotate := [], misWin := [], next := 0, kat := [] }, gal := { epoch := 0#64, joinEpoch := 0#64, peerFenced := false, sent := [], held := [], fwds := [], nextTag := 0, lines := [], peerLines := [], joinStep := 0, listGot := false, rslvGot := false, lineWait := [], asks := [], nextAsk := 0, reqs := [], ctls := [], rslvSlab := 0, rslvSett := 0, rslvQuota := 0, kept := false, peerEpoch := 0#64, fullFor := 0, replays := [], lastFlit := [0, 0], lastBeat := 0, graceAt := 0, seen := 0, joinAt := 0, hello := [false, false], handover := 0, zeroing := [] }, seq := { stage := .idle, order := [], good := [], bad := [], low := [], high := [], glitch := [], glitchPrev := [], glitchWin := 0, latchAfter := false, offTick := 0, minOff := true, timed := false, offPend := false, noDnWait := false, inGood := 0, inLow := 0, pwrLow := false, pfwTick := 0, pfwLate := false, stretch := 0, pulse := 0, pg00Told := false, pg00Good := 0, pg00Bad := 0, pg00Ok := false, latchSave := false, syncDrive := false, lowTold := false, timedTick := 0 }, clk := { rising := [], tripSeen := false, refFail := false }, flt := { raised := [], irqq := [], win := [], esc := [], thrNew := [], winNew := [], rst := none, later := [], holdAfter := false }, clg := { live := [], staging := [], forming := [], phase := 0, pend := [], held := [], log := [], win := none, fetch := none, extDay := 0, railLogged := false, bootLogged := false, ffcAtWaking := [0, 0, 0], subSec := 0, resumed := false }, twb := { ports := [], alert := false, alertTick := 0, mctp := 0, sensTick := [] }, fwm := { slotA := { image := [], sealed := false, tag := 0#128, next := [], blk := 0 }, slotB := { image := [], sealed := false, tag := 0#128, next := [], blk := 0 }, active := 0, trial := false, tries := 0, staging := none, xfer := 0, xferFace := 0, running := true, alive := false, prev := 0, handoff := false, recovery := false, svyEpoch := 0, openCmds := [], waiting := [], bootTick := 0 }, pin := { testen := false, power := true, tap := .bypass, railset := 0, err := false }, pending := [], out := [], free := 0 }, 0, { ring := 0, idx := 3, op := 2, tag := 7, notify := false, len := 1, src := 0, dst := 64, arg0 := 0, arg1 := 0, iv := 0#128, pos := 0, aux := 0, pass := 0, parked := false, chain := 0#128, hash := 0#128, seq := 0, fin := none, slabs := [0, 65536, 131072, 196608, 1, 65537, 131073, 196609, 2, 65538, 131074, 196610, 3, 65539, 131075, 196611, 4, 65540, 131076, 196612, 5, 65541, 131077, 196613, 6, 65542, 131078, 196614, 7, 65543, 131079, 196615, 8, 65544, 131080, 196616, 9, 65545, 131081, 196617, 10, 65546, 131082, 196618, 11, 65547, 131083, 196619, 12, 65548, 131084, 196620, 13, 65549, 131085, 196621, 14, 65550, 131086, 196622, 15, 65551, 131087, 196623, 16, 65552, 131088, 196624, 17, 65553, 131089, 196625, 18, 65554, 131090, 196626, 19, 65555, 131091, 196627, 20, 65556, 131092, 196628, 21, 65557, 131093, 196629, 22, 65558, 131094, 196630, 23, 65559, 131095, 196631, 24, 65560, 131096, 196632, 25, 65561, 131097, 196633, 26, 65562, 131098, 196634, 27, 65563, 131099, 196635, 28, 65564, 131100, 196636, 29, 65565, 131101, 196637, 30, 65566, 131102, 196638, 31, 65567, 131103, 196639, 32, 65568, 131104, 196640, 33, 65569, 131105, 196641, 34, 65570, 131106, 196642, 35, 65571, 131107, 196643, 36, 65572, 131108, 196644, 37, 65573, 131109, 196645, 38, 65574, 131110, 196646, 39, 65575, 131111, 196647, 40, 65576, 131112, 196648, 41, 65577, 131113, 196649, 42, 65578, 131114, 196650, 43, 65579, 131115, 196651, 44, 65580, 131116, 196652, 45, 65581, 131117, 196653, 46, 65582, 131118, 196654, 47, 65583, 131119, 196655, 48, 65584, 131120, 196656, 49, 65585, 131121, 196657, 50, 65586, 131122, 196658, 51, 65587, 131123, 196659, 52, 65588, 131124, 196660, 53, 65589, 131125, 196661, 54, 65590, 131126, 196662, 55, 65591, 131127, 196663, 56, 65592, 131128, 196664, 57, 65593, 131129, 196665, 58, 65594, 131130, 196666, 59, 65595, 131131, 196667, 60, 65596, 131132, 196668, 61, 65597, 131133, 196669, 62, 65598, 131134, 196670, 63, 65599, 131135, 196671, 64, 65600, 131136, 196672, 65, 65601, 131137, 196673, 66, 65602, 131138, 196674, 67, 65603, 131139, 196675, 68, 65604, 131140, 196676, 69, 65605, 131141, 196677, 70, 65606, 131142, 196678, 71, 65607, 131143, 196679, 72, 65608, 131144, 196680, 73, 65609, 131145, 196681, 74, 65610, 131146, 196682, 75, 65611, 131147, 196683, 76, 65612, 131148, 196684, 77, 65613, 131149, 196685, 78, 65614, 131150, 196686, 79, 65615, 131151, 196687, 80, 65616, 131152, 196688, 81, 65617, 131153, 196689, 82, 65618, 131154, 196690, 83, 65619, 131155, 196691, 84, 65620, 131156, 196692, 85, 65621, 131157, 196693, 86, 65622, 131158, 196694, 87, 65623, 131159, 196695, 88, 65624, 131160, 196696, 89, 65625, 131161, 196697, 90, 65626, 131162, 196698, 91, 65627, 131163, 196699, 92, 65628, 131164, 196700, 93, 65629, 131165, 196701, 94, 65630, 131166, 196702, 95, 65631, 131167, 196703, 96, 65632, 131168, 196704, 97, 65633, 131169, 196705, 98, 65634, 131170, 196706, 99, 65635, 131171, 196707, 100, 65636, 131172, 196708, 101, 65637, 131173, 196709, 102, 65638, 131174, 196710, 103, 65639, 131175, 196711, 104, 65640, 131176, 196712, 105, 65641, 131177, 196713, 106, 65642, 131178, 196714, 107, 65643, 131179, 196715, 108, 65644, 131180, 196716, 109, 65645, 131181, 196717, 110, 65646, 131182, 196718, 111, 65647, 131183, 196719, 112, 65648, 131184, 196720, 113, 65649, 131185, 196721, 114, 65650, 131186, 196722, 115, 65651, 131187, 196723, 116, 65652, 131188, 196724, 117, 65653, 131189, 196725, 118, 65654, 131190, 196726, 119, 65655, 131191, 196727, 120, 65656, 131192, 196728, 121, 65657, 131193, 196729, 122, 65658, 131194, 196730, 123, 65659, 131195, 196731, 124, 65660, 131196, 196732, 125, 65661, 131197, 196733, 126, 65662, 131198, 196734, 127, 65663, 131199, 196735] }, 0, 1, (let ring : Nat := 0; let s : State := open0; let s : State := { (s.setNv 0 { s.nvFace 0 with feat := 127 }).setRstate 0 0 with chip := .opened, dch := { s.dch with hard := [], repairs := [] }, job := { s.job with jobs := [{ ring := 0, idx := 3, op := 2, tag := 7, notify := false, len := 1, src := 0, dst := 64, arg0 := s.free * 77, arg1 := 0, iv := 0, pos := 0, aux := 0, pass := 0, parked := false, chain := 0, hash := 0, seq := 0, fin := none, slabs := s.faceSlabs 0 }] } } |> fun s => ((s.wr (CLK_ISL.STATE islJob) islOn).wr JOB_STATUS.FENCED 0).wr (HPT_STATUS.OPEN 0) 1 |>.wr GAL_STATUS.MODE 0 |>.setLock 0 15 false |>.wr (ADM_CLS.BUCKET 3) 99 |> fun s => s.setRing 0 { s.ring 0 with st := 1, log2 := 4, sqBase := 0x10000, cqBase := 0x20000 } |> fun s => faces.foldl (fun s p => s.setPort p { s.port p with wbuf := [], reads := [] }) s |> fun s => { s with adm := { s.adm with jobq := [] } } |> fun s => s.setDirty 0 |>.setDirty 1 |>.setDirty 2 |>.setDirty 3; s), by decide +kernel⟩
  · exact ⟨0, [], 0, [], { regs := [(393992, 0x2002#32), (589828, 4#32), (589896, 0x630000#32), (656384, 1#32), (1048576, 0x808#32), (1048580, 0x3b#32), (8388688, 4#32)], tick := 100000, chip := .opened, margin := .sable, stamp := 0, stampTick := 0, fuse := { step := 0, serial := 0, blown := 0, provKey := 0#256, devKey := 0#256 }, bed := { fneg := [], chipReset := 0 }, svy := { run := [(16777216, 0x610#32), (16777220, 15#32), (17825792, 4#32), (17825796, 0x3020100#32), (18874368, 1#32), (18874372, 0x80000#32), (18874376, 8#32), (18874384, 0x101#32), (18874388, 0x80008#32), (18874392, 8#32), (20971520, 0x8180#32), (33554432, 0x8a04000#32), (33554436, 0x4040800#32), (33554440, 0x3e80048#32), (33554448, 1#32), (33554456, 1#32), (33554464, 1#32), (33554472, 1#32), (33554480, 1#32), (33554488, 1#32), (33554496, 1#32), (33554504, 1#32), (33554512, 1#32), (34603008, 0x30010#32), (34603012, 0x40030#32), (34603016, 0x40008#32), (34603024, 0x30010#32), (34603028, 0x40030#32), (34603032, 0x40008#32), (35651584, 3#32), (50331648, 0x32402#32), (50331652, 0x648000#32), (50331656, 0xc80642f#32), (50331660, 0x100003#32), (50331664, 0x64#32), (50331688, 15#32), (50331692, 0x114#32), (50331808, 0x201013f#32), (50331812, 0x201013f#32), (50331936, 0x10#32), (67108864, 1#32), (67108868, 0x1964#32), (67108872, 0x1964#32), (67108876, 0x2bf20#32), (67108880, 0x186a00#32), (67108884, 0xcccd#32), (67108888, 0xf852e666#32), (67108892, 0x28fd99a#32), (67108896, 0xb33300f6#32), (67108900, 0x28999a#32)], has := [16, 17, 18, 20, 32, 33, 34, 48, 64], loaded := true, shadow := true, staging := [], inst := [], live := false, cmd := 0, taken := [], face := 0, pairDig := 0#128 }, slb := { slabs := [(0, { mask := 15#64, word := 0#32 })], ready := true, owned := true, baseR := 0, grants := [], ift := [], lmap := [], image := [] }, lgr := { packA := { ebase := 0, energy := 0, rc := 0, fcc := 0, dc := 0, chem := 0, ma := 0, gaugeMv := 0, temp := 0, debit := 0, saveDebit := 0, hiScans := 0, loScans := 0, valid := 0, last := none, esr := [], esrTick := 0, gaugeTick := 0 }, packB := { ebase := 0, energy := 0, rc := 0, fcc := 0, dc := 0, chem := 0, ma := 0, gaugeMv := 0, temp := 0, debit := 0, saveDebit := 0, hiScans := 0, loScans := 0, valid := 0, last := none, esr := [], esrTick := 0, gaugeTick := 0 }, sableCnt := 0, extra := false }, adm := { rr := 7, jobq := [], wear := 0, wearHaul := 0, wearMark := 0, day := 0, repTick := [], repDue := [], repMargin := 3 }, haul := { ptr := [], cover := [], bank := 0, started := 0, done := 0, short := false, half := false, waitStk := [], waitSump := [], group := 0, stripes := [], nextStripe := 0, pfw := false, pfwTick := 0 }, save := { off := false, short := false, trigTick := 0, walkTick := 0, walked := false, railCut := false, powerBack := false, vol := 0, sumpStart := [], first := [], last := [], carve := [], pads := 0, fdirty := [], anchor := none, session := 0, openAfter := 0, down := false, spent := none, lodes := [], aggs := [], staging := [], numbers := [], ctx := { rings := [], lost := false, owners := [], running := [], cached := [] } }, stk := { recs := [], lodes := [], blks := [], remaps := [], broken := [], pseq := [], head := [], openLode := [], wlWait := [], intents := [], jpend := [], jrnl := [], jseq := 0, jpage := 0, jsaved := 0, dies := [], silent := [], accs := [], applied := [], folding := false, reworking := false, degraded := 0, bootBad := [], bootMap := [], hblock := 0, lpage := 0, lfix := 0, anchors := [], apage := 0, patrolWin := 0, patrolled := [], patrolRead := [] }, saves := [], res := { fetch := [], demand := [], lastPort := 7, prefetch := [], bgPtr := [], bgBank := 0, rebuilt := false, filling := false, trigTick := 0, counted := 0, memRec := 0, holdRec := [], newLost := [], trained := false, noKeys := false, anchored := false, scanTick := 0 }, dch := { mem := [], poison := [], banks := [], repairs := [], hard := [], devCe := [], eqCe := [], eqTick := [], eqTemp := [], bootTemps := [], taps := [], ueRun := [], late := [], early := [], refBank := [], periodCe := 0, win := 0, limits := [3600, 4096, 256, 16, 64], mig := none, rankMap := [], crdMap := [], inForce := [], cfgNew := [], lastReq := [], actLimit := [], rankSr := [], eqRun := [], scrubTick := [], prev := [], ceTotal := [] }, ports := [], nv := [(0, { dirty := 0, shutdown := 0, feat := 0x7f#128, lsa := [] })], job := { rings := [(0, { st := 1, err := 0, log2 := 4, vector := 0, imod := 0, sqHead := 0, sqTail := 0, cqTail := 0, cqHead := 0, sqBase := 65536, cqBase := 131072, done := 0, errors := 0, pend := false, irqDue := false, irqRun := false })], cache := [], jobs := [{ ring := 0, idx := 3, op := 1, tag := 7, notify := false, len := 1, src := 0, dst := 192, arg0 := 0, arg1 := 0, iv := 0#128, pos := 0, aux := 0, pass := 0, parked := false, chain := 0#128, hash := 0#128, seq := 0, fin := none, slabs := [0, 65536, 131072, 196608, 1, 65537, 131073, 196609, 2, 65538, 131074, 196610, 3, 65539, 131075, 196611, 4, 65540, 131076, 196612, 5, 65541, 131077, 196613, 6, 65542, 131078, 196614, 7, 65543, 131079, 196615, 8, 65544, 131080, 196616, 9, 65545, 131081, 196617, 10, 65546, 131082, 196618, 11, 65547, 131083, 196619, 12, 65548, 131084, 196620, 13, 65549, 131085, 196621, 14, 65550, 131086, 196622, 15, 65551, 131087, 196623, 16, 65552, 131088, 196624, 17, 65553, 131089, 196625, 18, 65554, 131090, 196626, 19, 65555, 131091, 196627, 20, 65556, 131092, 196628, 21, 65557, 131093, 196629, 22, 65558, 131094, 196630, 23, 65559, 131095, 196631, 24, 65560, 131096, 196632, 25, 65561, 131097, 196633, 26, 65562, 131098, 196634, 27, 65563, 131099, 196635, 28, 65564, 131100, 196636, 29, 65565, 131101, 196637, 30, 65566, 131102, 196638, 31, 65567, 131103, 196639, 32, 65568, 131104, 196640, 33, 65569, 131105, 196641, 34, 65570, 131106, 196642, 35, 65571, 131107, 196643, 36, 65572, 131108, 196644, 37, 65573, 131109, 196645, 38, 65574, 131110, 196646, 39, 65575, 131111, 196647, 40, 65576, 131112, 196648, 41, 65577, 131113, 196649, 42, 65578, 131114, 196650, 43, 65579, 131115, 196651, 44, 65580, 131116, 196652, 45, 65581, 131117, 196653, 46, 65582, 131118, 196654, 47, 65583, 131119, 196655, 48, 65584, 131120, 196656, 49, 65585, 131121, 196657, 50, 65586, 131122, 196658, 51, 65587, 131123, 196659, 52, 65588, 131124, 196660, 53, 65589, 131125, 196661, 54, 65590, 131126, 196662, 55, 65591, 131127, 196663, 56, 65592, 131128, 196664, 57, 65593, 131129, 196665, 58, 65594, 131130, 196666, 59, 65595, 131131, 196667, 60, 65596, 131132, 196668, 61, 65597, 131133, 196669, 62, 65598, 131134, 196670, 63, 65599, 131135, 196671, 64, 65600, 131136, 196672, 65, 65601, 131137, 196673, 66, 65602, 131138, 196674, 67, 65603, 131139, 196675, 68, 65604, 131140, 196676, 69, 65605, 131141, 196677, 70, 65606, 131142, 196678, 71, 65607, 131143, 196679, 72, 65608, 131144, 196680, 73, 65609, 131145, 196681, 74, 65610, 131146, 196682, 75, 65611, 131147, 196683, 76, 65612, 131148, 196684, 77, 65613, 131149, 196685, 78, 65614, 131150, 196686, 79, 65615, 131151, 196687, 80, 65616, 131152, 196688, 81, 65617, 131153, 196689, 82, 65618, 131154, 196690, 83, 65619, 131155, 196691, 84, 65620, 131156, 196692, 85, 65621, 131157, 196693, 86, 65622, 131158, 196694, 87, 65623, 131159, 196695, 88, 65624, 131160, 196696, 89, 65625, 131161, 196697, 90, 65626, 131162, 196698, 91, 65627, 131163, 196699, 92, 65628, 131164, 196700, 93, 65629, 131165, 196701, 94, 65630, 131166, 196702, 95, 65631, 131167, 196703, 96, 65632, 131168, 196704, 97, 65633, 131169, 196705, 98, 65634, 131170, 196706, 99, 65635, 131171, 196707, 100, 65636, 131172, 196708, 101, 65637, 131173, 196709, 102, 65638, 131174, 196710, 103, 65639, 131175, 196711, 104, 65640, 131176, 196712, 105, 65641, 131177, 196713, 106, 65642, 131178, 196714, 107, 65643, 131179, 196715, 108, 65644, 131180, 196716, 109, 65645, 131181, 196717, 110, 65646, 131182, 196718, 111, 65647, 131183, 196719, 112, 65648, 131184, 196720, 113, 65649, 131185, 196721, 114, 65650, 131186, 196722, 115, 65651, 131187, 196723, 116, 65652, 131188, 196724, 117, 65653, 131189, 196725, 118, 65654, 131190, 196726, 119, 65655, 131191, 196727, 120, 65656, 131192, 196728, 121, 65657, 131193, 196729, 122, 65658, 131194, 196730, 123, 65659, 131195, 196731, 124, 65660, 131196, 196732, 125, 65661, 131197, 196733, 126, 65662, 131198, 196734, 127, 65663, 131199, 196735] }], pins := [], lost := false, fenceDue := 0, inits := [] }, cip := { keys := [], keyin := [], store := [], storeOk := false, ceiling := 0, storeSeq := 0, cmd := none, purge := [], stale := [], erasePend := 0, eraseSan := 0, rotate := [], misWin := [], next := 0, kat := [] }, gal := { epoch := 0#64, joinEpoch := 0#64, peerFenced := false, sent := [], held := [], fwds := [], nextTag := 0, lines := [], peerLines := [], joinStep := 0, listGot := false, rslvGot := false, lineWait := [], asks := [], nextAsk := 0, reqs := [], ctls := [], rslvSlab := 0, rslvSett := 0, rslvQuota := 0, kept := false, peerEpoch := 0#64, fullFor := 0, replays := [], lastFlit := [0, 0], lastBeat := 0, graceAt := 0, seen := 0, joinAt := 0, hello := [false, false], handover := 0, zeroing := [] }, seq := { stage := .idle, order := [], good := [], bad := [], low := [], high := [], glitch := [], glitchPrev := [], glitchWin := 0, latchAfter := false, offTick := 0, minOff := true, timed := false, offPend := false, noDnWait := false, inGood := 0, inLow := 0, pwrLow := false, pfwTick := 0, pfwLate := false, stretch := 0, pulse := 0, pg00Told := false, pg00Good := 0, pg00Bad := 0, pg00Ok := false, latchSave := false, syncDrive := false, lowTold := false, timedTick := 0 }, clk := { rising := [], tripSeen := false, refFail := false }, flt := { raised := [], irqq := [], win := [], esc := [], thrNew := [], winNew := [], rst := none, later := [], holdAfter := false }, clg := { live := [], staging := [], forming := [], phase := 0, pend := [], held := [], log := [], win := none, fetch := none, extDay := 0, railLogged := false, bootLogged := false, ffcAtWaking := [0, 0, 0], subSec := 0, resumed := false }, twb := { ports := [], alert := false, alertTick := 0, mctp := 0, sensTick := [] }, fwm := { slotA := { image := [], sealed := false, tag := 0#128, next := [], blk := 0 }, slotB := { image := [], sealed := false, tag := 0#128, next := [], blk := 0 }, active := 0, trial := false, tries := 0, staging := none, xfer := 0, xferFace := 0, running := true, alive := false, prev := 0, handoff := false, recovery := false, svyEpoch := 0, openCmds := [], waiting := [], bootTick := 0 }, pin := { testen := false, power := true, tap := .bypass, railset := 0, err := false }, pending := [], out := [], free := 0 }, 0, { ring := 0, idx := 3, op := 1, tag := 7, notify := false, len := 1, src := 0, dst := 192, arg0 := 0, arg1 := 0, iv := 0#128, pos := 0, aux := 0, pass := 0, parked := false, chain := 0#128, hash := 0#128, seq := 0, fin := none, slabs := [0, 65536, 131072, 196608, 1, 65537, 131073, 196609, 2, 65538, 131074, 196610, 3, 65539, 131075, 196611, 4, 65540, 131076, 196612, 5, 65541, 131077, 196613, 6, 65542, 131078, 196614, 7, 65543, 131079, 196615, 8, 65544, 131080, 196616, 9, 65545, 131081, 196617, 10, 65546, 131082, 196618, 11, 65547, 131083, 196619, 12, 65548, 131084, 196620, 13, 65549, 131085, 196621, 14, 65550, 131086, 196622, 15, 65551, 131087, 196623, 16, 65552, 131088, 196624, 17, 65553, 131089, 196625, 18, 65554, 131090, 196626, 19, 65555, 131091, 196627, 20, 65556, 131092, 196628, 21, 65557, 131093, 196629, 22, 65558, 131094, 196630, 23, 65559, 131095, 196631, 24, 65560, 131096, 196632, 25, 65561, 131097, 196633, 26, 65562, 131098, 196634, 27, 65563, 131099, 196635, 28, 65564, 131100, 196636, 29, 65565, 131101, 196637, 30, 65566, 131102, 196638, 31, 65567, 131103, 196639, 32, 65568, 131104, 196640, 33, 65569, 131105, 196641, 34, 65570, 131106, 196642, 35, 65571, 131107, 196643, 36, 65572, 131108, 196644, 37, 65573, 131109, 196645, 38, 65574, 131110, 196646, 39, 65575, 131111, 196647, 40, 65576, 131112, 196648, 41, 65577, 131113, 196649, 42, 65578, 131114, 196650, 43, 65579, 131115, 196651, 44, 65580, 131116, 196652, 45, 65581, 131117, 196653, 46, 65582, 131118, 196654, 47, 65583, 131119, 196655, 48, 65584, 131120, 196656, 49, 65585, 131121, 196657, 50, 65586, 131122, 196658, 51, 65587, 131123, 196659, 52, 65588, 131124, 196660, 53, 65589, 131125, 196661, 54, 65590, 131126, 196662, 55, 65591, 131127, 196663, 56, 65592, 131128, 196664, 57, 65593, 131129, 196665, 58, 65594, 131130, 196666, 59, 65595, 131131, 196667, 60, 65596, 131132, 196668, 61, 65597, 131133, 196669, 62, 65598, 131134, 196670, 63, 65599, 131135, 196671, 64, 65600, 131136, 196672, 65, 65601, 131137, 196673, 66, 65602, 131138, 196674, 67, 65603, 131139, 196675, 68, 65604, 131140, 196676, 69, 65605, 131141, 196677, 70, 65606, 131142, 196678, 71, 65607, 131143, 196679, 72, 65608, 131144, 196680, 73, 65609, 131145, 196681, 74, 65610, 131146, 196682, 75, 65611, 131147, 196683, 76, 65612, 131148, 196684, 77, 65613, 131149, 196685, 78, 65614, 131150, 196686, 79, 65615, 131151, 196687, 80, 65616, 131152, 196688, 81, 65617, 131153, 196689, 82, 65618, 131154, 196690, 83, 65619, 131155, 196691, 84, 65620, 131156, 196692, 85, 65621, 131157, 196693, 86, 65622, 131158, 196694, 87, 65623, 131159, 196695, 88, 65624, 131160, 196696, 89, 65625, 131161, 196697, 90, 65626, 131162, 196698, 91, 65627, 131163, 196699, 92, 65628, 131164, 196700, 93, 65629, 131165, 196701, 94, 65630, 131166, 196702, 95, 65631, 131167, 196703, 96, 65632, 131168, 196704, 97, 65633, 131169, 196705, 98, 65634, 131170, 196706, 99, 65635, 131171, 196707, 100, 65636, 131172, 196708, 101, 65637, 131173, 196709, 102, 65638, 131174, 196710, 103, 65639, 131175, 196711, 104, 65640, 131176, 196712, 105, 65641, 131177, 196713, 106, 65642, 131178, 196714, 107, 65643, 131179, 196715, 108, 65644, 131180, 196716, 109, 65645, 131181, 196717, 110, 65646, 131182, 196718, 111, 65647, 131183, 196719, 112, 65648, 131184, 196720, 113, 65649, 131185, 196721, 114, 65650, 131186, 196722, 115, 65651, 131187, 196723, 116, 65652, 131188, 196724, 117, 65653, 131189, 196725, 118, 65654, 131190, 196726, 119, 65655, 131191, 196727, 120, 65656, 131192, 196728, 121, 65657, 131193, 196729, 122, 65658, 131194, 196730, 123, 65659, 131195, 196731, 124, 65660, 131196, 196732, 125, 65661, 131197, 196733, 126, 65662, 131198, 196734, 127, 65663, 131199, 196735] }, 0, 0, 0, 3, (let ring : Nat := 0; let s : State := open0; let s : State := { (s.setNv 0 { s.nvFace 0 with feat := 127 }).setRstate 0 0 with chip := .opened, dch := { s.dch with hard := [], repairs := [] }, job := { s.job with jobs := [{ ring := 0, idx := 3, op := 1, tag := 7, notify := false, len := 1, src := 64 * (s.free % 3), dst := 64 * 3, arg0 := 0, arg1 := 0, iv := 0, pos := 0, aux := 0, pass := 0, parked := false, chain := 0, hash := 0, seq := 0, fin := none, slabs := s.faceSlabs 0 }] } } |> fun s => ((s.wr (CLK_ISL.STATE islJob) islOn).wr JOB_STATUS.FENCED 0).wr (HPT_STATUS.OPEN 0) 1 |>.wr GAL_STATUS.MODE 0 |>.setLock 0 15 false |>.wr (ADM_CLS.BUCKET 3) 99 |> fun s => s.setRing 0 { s.ring 0 with st := 1, log2 := 4, sqBase := 0x10000, cqBase := 0x20000 } |> fun s => faces.foldl (fun s p => s.setPort p { s.port p with wbuf := [], reads := [] }) s |> fun s => { s with adm := { s.adm with jobq := [] } } |> fun s => s.setDirty 0 |>.setDirty 1 |>.setDirty 2 |>.setDirty 3; s), by decide +kernel⟩
  · exact ⟨0, [], [], 0, [], { regs := [(393992, 0x2002#32), (589828, 4#32), (589896, 0x630000#32), (656384, 3#32), (1048576, 0x808#32), (1048580, 0x3b#32), (8388688, 4#32)], tick := 100000, chip := .opened, margin := .sable, stamp := 0, stampTick := 0, fuse := { step := 0, serial := 0, blown := 0, provKey := 0#256, devKey := 0#256 }, bed := { fneg := [], chipReset := 0 }, svy := { run := [(16777216, 0x610#32), (16777220, 15#32), (17825792, 4#32), (17825796, 0x3020100#32), (18874368, 1#32), (18874372, 0x80000#32), (18874376, 8#32), (18874384, 0x101#32), (18874388, 0x80008#32), (18874392, 8#32), (20971520, 0x8180#32), (33554432, 0x8a04000#32), (33554436, 0x4040800#32), (33554440, 0x3e80048#32), (33554448, 1#32), (33554456, 1#32), (33554464, 1#32), (33554472, 1#32), (33554480, 1#32), (33554488, 1#32), (33554496, 1#32), (33554504, 1#32), (33554512, 1#32), (34603008, 0x30010#32), (34603012, 0x40030#32), (34603016, 0x40008#32), (34603024, 0x30010#32), (34603028, 0x40030#32), (34603032, 0x40008#32), (35651584, 3#32), (50331648, 0x32402#32), (50331652, 0x648000#32), (50331656, 0xc80642f#32), (50331660, 0x100003#32), (50331664, 0x64#32), (50331688, 15#32), (50331692, 0x114#32), (50331808, 0x201013f#32), (50331812, 0x201013f#32), (50331936, 0x10#32), (67108864, 1#32), (67108868, 0x1964#32), (67108872, 0x1964#32), (67108876, 0x2bf20#32), (67108880, 0x186a00#32), (67108884, 0xcccd#32), (67108888, 0xf852e666#32), (67108892, 0x28fd99a#32), (67108896, 0xb33300f6#32), (67108900, 0x28999a#32)], has := [16, 17, 18, 20, 32, 33, 34, 48, 64], loaded := true, shadow := true, staging := [], inst := [], live := false, cmd := 0, taken := [], face := 0, pairDig := 0#128 }, slb := { slabs := [(0, { mask := 15#64, word := 0#32 })], ready := true, owned := true, baseR := 0, grants := [], ift := [], lmap := [], image := [] }, lgr := { packA := { ebase := 0, energy := 0, rc := 0, fcc := 0, dc := 0, chem := 0, ma := 0, gaugeMv := 0, temp := 0, debit := 0, saveDebit := 0, hiScans := 0, loScans := 0, valid := 0, last := none, esr := [], esrTick := 0, gaugeTick := 0 }, packB := { ebase := 0, energy := 0, rc := 0, fcc := 0, dc := 0, chem := 0, ma := 0, gaugeMv := 0, temp := 0, debit := 0, saveDebit := 0, hiScans := 0, loScans := 0, valid := 0, last := none, esr := [], esrTick := 0, gaugeTick := 0 }, sableCnt := 0, extra := false }, adm := { rr := 7, jobq := [], wear := 0, wearHaul := 0, wearMark := 0, day := 0, repTick := [], repDue := [], repMargin := 3 }, haul := { ptr := [], cover := [], bank := 0, started := 0, done := 0, short := false, half := false, waitStk := [], waitSump := [], group := 0, stripes := [], nextStripe := 0, pfw := false, pfwTick := 0 }, save := { off := false, short := false, trigTick := 0, walkTick := 0, walked := false, railCut := false, powerBack := false, vol := 0, sumpStart := [], first := [], last := [], carve := [], pads := 0, fdirty := [], anchor := none, session := 0, openAfter := 0, down := false, spent := none, lodes := [], aggs := [], staging := [], numbers := [], ctx := { rings := [], lost := false, owners := [], running := [], cached := [] } }, stk := { recs := [], lodes := [], blks := [], remaps := [], broken := [], pseq := [], head := [], openLode := [], wlWait := [], intents := [], jpend := [], jrnl := [], jseq := 0, jpage := 0, jsaved := 0, dies := [], silent := [], accs := [], applied := [], folding := false, reworking := false, degraded := 0, bootBad := [], bootMap := [], hblock := 0, lpage := 0, lfix := 0, anchors := [], apage := 0, patrolWin := 0, patrolled := [], patrolRead := [] }, saves := [], res := { fetch := [], demand := [], lastPort := 7, prefetch := [], bgPtr := [], bgBank := 0, rebuilt := false, filling := false, trigTick := 0, counted := 0, memRec := 0, holdRec := [], newLost := [], trained := false, noKeys := false, anchored := false, scanTick := 0 }, dch := { mem := [], poison := [], banks := [], repairs := [], hard := [], devCe := [], eqCe := [], eqTick := [], eqTemp := [], bootTemps := [], taps := [], ueRun := [], late := [], early := [], refBank := [], periodCe := 0, win := 0, limits := [3600, 4096, 256, 16, 64], mig := none, rankMap := [], crdMap := [], inForce := [], cfgNew := [], lastReq := [], actLimit := [], rankSr := [], eqRun := [], scrubTick := [], prev := [], ceTotal := [] }, ports := [], nv := [(0, { dirty := 0, shutdown := 0, feat := 0x7f#128, lsa := [] })], job := { rings := [(0, { st := 1, err := 0, log2 := 4, vector := 0, imod := 0, sqHead := 0, sqTail := 0, cqTail := 0, cqHead := 0, sqBase := 65536, cqBase := 131072, done := 0, errors := 0, pend := false, irqDue := false, irqRun := false })], cache := [], jobs := [{ ring := 0, idx := 3, op := 6, tag := 7, notify := false, len := 1, src := 0, dst := 192, arg0 := 0, arg1 := 0, iv := 0#128, pos := 0, aux := 0, pass := 0, parked := false, chain := 0#128, hash := 0#128, seq := 0, fin := none, slabs := [0, 65536, 131072, 196608, 1, 65537, 131073, 196609, 2, 65538, 131074, 196610, 3, 65539, 131075, 196611, 4, 65540, 131076, 196612, 5, 65541, 131077, 196613, 6, 65542, 131078, 196614, 7, 65543, 131079, 196615, 8, 65544, 131080, 196616, 9, 65545, 131081, 196617, 10, 65546, 131082, 196618, 11, 65547, 131083, 196619, 12, 65548, 131084, 196620, 13, 65549, 131085, 196621, 14, 65550, 131086, 196622, 15, 65551, 131087, 196623, 16, 65552, 131088, 196624, 17, 65553, 131089, 196625, 18, 65554, 131090, 196626, 19, 65555, 131091, 196627, 20, 65556, 131092, 196628, 21, 65557, 131093, 196629, 22, 65558, 131094, 196630, 23, 65559, 131095, 196631, 24, 65560, 131096, 196632, 25, 65561, 131097, 196633, 26, 65562, 131098, 196634, 27, 65563, 131099, 196635, 28, 65564, 131100, 196636, 29, 65565, 131101, 196637, 30, 65566, 131102, 196638, 31, 65567, 131103, 196639, 32, 65568, 131104, 196640, 33, 65569, 131105, 196641, 34, 65570, 131106, 196642, 35, 65571, 131107, 196643, 36, 65572, 131108, 196644, 37, 65573, 131109, 196645, 38, 65574, 131110, 196646, 39, 65575, 131111, 196647, 40, 65576, 131112, 196648, 41, 65577, 131113, 196649, 42, 65578, 131114, 196650, 43, 65579, 131115, 196651, 44, 65580, 131116, 196652, 45, 65581, 131117, 196653, 46, 65582, 131118, 196654, 47, 65583, 131119, 196655, 48, 65584, 131120, 196656, 49, 65585, 131121, 196657, 50, 65586, 131122, 196658, 51, 65587, 131123, 196659, 52, 65588, 131124, 196660, 53, 65589, 131125, 196661, 54, 65590, 131126, 196662, 55, 65591, 131127, 196663, 56, 65592, 131128, 196664, 57, 65593, 131129, 196665, 58, 65594, 131130, 196666, 59, 65595, 131131, 196667, 60, 65596, 131132, 196668, 61, 65597, 131133, 196669, 62, 65598, 131134, 196670, 63, 65599, 131135, 196671, 64, 65600, 131136, 196672, 65, 65601, 131137, 196673, 66, 65602, 131138, 196674, 67, 65603, 131139, 196675, 68, 65604, 131140, 196676, 69, 65605, 131141, 196677, 70, 65606, 131142, 196678, 71, 65607, 131143, 196679, 72, 65608, 131144, 196680, 73, 65609, 131145, 196681, 74, 65610, 131146, 196682, 75, 65611, 131147, 196683, 76, 65612, 131148, 196684, 77, 65613, 131149, 196685, 78, 65614, 131150, 196686, 79, 65615, 131151, 196687, 80, 65616, 131152, 196688, 81, 65617, 131153, 196689, 82, 65618, 131154, 196690, 83, 65619, 131155, 196691, 84, 65620, 131156, 196692, 85, 65621, 131157, 196693, 86, 65622, 131158, 196694, 87, 65623, 131159, 196695, 88, 65624, 131160, 196696, 89, 65625, 131161, 196697, 90, 65626, 131162, 196698, 91, 65627, 131163, 196699, 92, 65628, 131164, 196700, 93, 65629, 131165, 196701, 94, 65630, 131166, 196702, 95, 65631, 131167, 196703, 96, 65632, 131168, 196704, 97, 65633, 131169, 196705, 98, 65634, 131170, 196706, 99, 65635, 131171, 196707, 100, 65636, 131172, 196708, 101, 65637, 131173, 196709, 102, 65638, 131174, 196710, 103, 65639, 131175, 196711, 104, 65640, 131176, 196712, 105, 65641, 131177, 196713, 106, 65642, 131178, 196714, 107, 65643, 131179, 196715, 108, 65644, 131180, 196716, 109, 65645, 131181, 196717, 110, 65646, 131182, 196718, 111, 65647, 131183, 196719, 112, 65648, 131184, 196720, 113, 65649, 131185, 196721, 114, 65650, 131186, 196722, 115, 65651, 131187, 196723, 116, 65652, 131188, 196724, 117, 65653, 131189, 196725, 118, 65654, 131190, 196726, 119, 65655, 131191, 196727, 120, 65656, 131192, 196728, 121, 65657, 131193, 196729, 122, 65658, 131194, 196730, 123, 65659, 131195, 196731, 124, 65660, 131196, 196732, 125, 65661, 131197, 196733, 126, 65662, 131198, 196734, 127, 65663, 131199, 196735] }], pins := [], lost := false, fenceDue := 0, inits := [] }, cip := { keys := [], keyin := [], store := [], storeOk := false, ceiling := 0, storeSeq := 0, cmd := none, purge := [], stale := [], erasePend := 0, eraseSan := 0, rotate := [], misWin := [], next := 0, kat := [] }, gal := { epoch := 0#64, joinEpoch := 0#64, peerFenced := false, sent := [], held := [], fwds := [], nextTag := 0, lines := [], peerLines := [], joinStep := 0, listGot := false, rslvGot := false, lineWait := [], asks := [], nextAsk := 0, reqs := [], ctls := [], rslvSlab := 0, rslvSett := 0, rslvQuota := 0, kept := false, peerEpoch := 0#64, fullFor := 0, replays := [], lastFlit := [0, 0], lastBeat := 0, graceAt := 0, seen := 0, joinAt := 0, hello := [false, false], handover := 0, zeroing := [] }, seq := { stage := .idle, order := [], good := [], bad := [], low := [], high := [], glitch := [], glitchPrev := [], glitchWin := 0, latchAfter := false, offTick := 0, minOff := true, timed := false, offPend := false, noDnWait := false, inGood := 0, inLow := 0, pwrLow := false, pfwTick := 0, pfwLate := false, stretch := 0, pulse := 0, pg00Told := false, pg00Good := 0, pg00Bad := 0, pg00Ok := false, latchSave := false, syncDrive := false, lowTold := false, timedTick := 0 }, clk := { rising := [], tripSeen := false, refFail := false }, flt := { raised := [], irqq := [], win := [], esc := [], thrNew := [], winNew := [], rst := none, later := [], holdAfter := false }, clg := { live := [], staging := [], forming := [], phase := 0, pend := [], held := [], log := [], win := none, fetch := none, extDay := 0, railLogged := false, bootLogged := false, ffcAtWaking := [0, 0, 0], subSec := 0, resumed := false }, twb := { ports := [], alert := false, alertTick := 0, mctp := 0, sensTick := [] }, fwm := { slotA := { image := [], sealed := false, tag := 0#128, next := [], blk := 0 }, slotB := { image := [], sealed := false, tag := 0#128, next := [], blk := 0 }, active := 0, trial := false, tries := 0, staging := none, xfer := 0, xferFace := 0, running := true, alive := false, prev := 0, handoff := false, recovery := false, svyEpoch := 0, openCmds := [], waiting := [], bootTick := 0 }, pin := { testen := false, power := true, tap := .bypass, railset := 0, err := false }, pending := [], out := [], free := 0 }, 0, { ring := 0, idx := 3, op := 6, tag := 7, notify := false, len := 1, src := 0, dst := 192, arg0 := 0, arg1 := 0, iv := 0#128, pos := 0, aux := 0, pass := 0, parked := false, chain := 0#128, hash := 0#128, seq := 0, fin := none, slabs := [0, 65536, 131072, 196608, 1, 65537, 131073, 196609, 2, 65538, 131074, 196610, 3, 65539, 131075, 196611, 4, 65540, 131076, 196612, 5, 65541, 131077, 196613, 6, 65542, 131078, 196614, 7, 65543, 131079, 196615, 8, 65544, 131080, 196616, 9, 65545, 131081, 196617, 10, 65546, 131082, 196618, 11, 65547, 131083, 196619, 12, 65548, 131084, 196620, 13, 65549, 131085, 196621, 14, 65550, 131086, 196622, 15, 65551, 131087, 196623, 16, 65552, 131088, 196624, 17, 65553, 131089, 196625, 18, 65554, 131090, 196626, 19, 65555, 131091, 196627, 20, 65556, 131092, 196628, 21, 65557, 131093, 196629, 22, 65558, 131094, 196630, 23, 65559, 131095, 196631, 24, 65560, 131096, 196632, 25, 65561, 131097, 196633, 26, 65562, 131098, 196634, 27, 65563, 131099, 196635, 28, 65564, 131100, 196636, 29, 65565, 131101, 196637, 30, 65566, 131102, 196638, 31, 65567, 131103, 196639, 32, 65568, 131104, 196640, 33, 65569, 131105, 196641, 34, 65570, 131106, 196642, 35, 65571, 131107, 196643, 36, 65572, 131108, 196644, 37, 65573, 131109, 196645, 38, 65574, 131110, 196646, 39, 65575, 131111, 196647, 40, 65576, 131112, 196648, 41, 65577, 131113, 196649, 42, 65578, 131114, 196650, 43, 65579, 131115, 196651, 44, 65580, 131116, 196652, 45, 65581, 131117, 196653, 46, 65582, 131118, 196654, 47, 65583, 131119, 196655, 48, 65584, 131120, 196656, 49, 65585, 131121, 196657, 50, 65586, 131122, 196658, 51, 65587, 131123, 196659, 52, 65588, 131124, 196660, 53, 65589, 131125, 196661, 54, 65590, 131126, 196662, 55, 65591, 131127, 196663, 56, 65592, 131128, 196664, 57, 65593, 131129, 196665, 58, 65594, 131130, 196666, 59, 65595, 131131, 196667, 60, 65596, 131132, 196668, 61, 65597, 131133, 196669, 62, 65598, 131134, 196670, 63, 65599, 131135, 196671, 64, 65600, 131136, 196672, 65, 65601, 131137, 196673, 66, 65602, 131138, 196674, 67, 65603, 131139, 196675, 68, 65604, 131140, 196676, 69, 65605, 131141, 196677, 70, 65606, 131142, 196678, 71, 65607, 131143, 196679, 72, 65608, 131144, 196680, 73, 65609, 131145, 196681, 74, 65610, 131146, 196682, 75, 65611, 131147, 196683, 76, 65612, 131148, 196684, 77, 65613, 131149, 196685, 78, 65614, 131150, 196686, 79, 65615, 131151, 196687, 80, 65616, 131152, 196688, 81, 65617, 131153, 196689, 82, 65618, 131154, 196690, 83, 65619, 131155, 196691, 84, 65620, 131156, 196692, 85, 65621, 131157, 196693, 86, 65622, 131158, 196694, 87, 65623, 131159, 196695, 88, 65624, 131160, 196696, 89, 65625, 131161, 196697, 90, 65626, 131162, 196698, 91, 65627, 131163, 196699, 92, 65628, 131164, 196700, 93, 65629, 131165, 196701, 94, 65630, 131166, 196702, 95, 65631, 131167, 196703, 96, 65632, 131168, 196704, 97, 65633, 131169, 196705, 98, 65634, 131170, 196706, 99, 65635, 131171, 196707, 100, 65636, 131172, 196708, 101, 65637, 131173, 196709, 102, 65638, 131174, 196710, 103, 65639, 131175, 196711, 104, 65640, 131176, 196712, 105, 65641, 131177, 196713, 106, 65642, 131178, 196714, 107, 65643, 131179, 196715, 108, 65644, 131180, 196716, 109, 65645, 131181, 196717, 110, 65646, 131182, 196718, 111, 65647, 131183, 196719, 112, 65648, 131184, 196720, 113, 65649, 131185, 196721, 114, 65650, 131186, 196722, 115, 65651, 131187, 196723, 116, 65652, 131188, 196724, 117, 65653, 131189, 196725, 118, 65654, 131190, 196726, 119, 65655, 131191, 196727, 120, 65656, 131192, 196728, 121, 65657, 131193, 196729, 122, 65658, 131194, 196730, 123, 65659, 131195, 196731, 124, 65660, 131196, 196732, 125, 65661, 131197, 196733, 126, 65662, 131198, 196734, 127, 65663, 131199, 196735] }, 0, 0, 0, 3, (let ring : Nat := 0; let s : State := open0; let s : State := { (s.setNv 0 { s.nvFace 0 with feat := 127 }).setRstate 0 0 with chip := .opened, dch := { s.dch with hard := [], repairs := [] }, job := { s.job with jobs := [{ ring := 0, idx := 3, op := 6, tag := 7, notify := false, len := 1, src := 64 * (s.free % 3), dst := 64 * 3, arg0 := s.free % 8, arg1 := 0, iv := 0, pos := 0, aux := 0, pass := 0, parked := false, chain := 0, hash := 0, seq := 0, fin := none, slabs := s.faceSlabs 0 }] } } |> fun s => ((s.wr (CLK_ISL.STATE islJob) islOn).wr JOB_STATUS.FENCED 0).wr (HPT_STATUS.OPEN 0) 1 |>.wr GAL_STATUS.MODE 0 |>.setLock 0 15 false |>.wr (ADM_CLS.BUCKET 3) 99 |> fun s => s.setRing 0 { s.ring 0 with st := 1, log2 := 4, sqBase := 0x10000, cqBase := 0x20000 } |> fun s => faces.foldl (fun s p => s.setPort p { s.port p with wbuf := [], reads := [] }) s |> fun s => { s with adm := { s.adm with jobq := [] } } |> fun s => s.setDirty 0 |>.setDirty 1 |>.setDirty 2 |>.setDirty 3 |>.setSlot 0 slTransform 0; s), by decide +kernel⟩

/-- Clauses of Jobs have states and operands that meet their conditions. -/
theorem test_conditions_Jobs_2 :
    (∃ (ring : Nat) (src : SMap Nat) (dst : SMap Nat) (desc : Nat) (sram : List (Nat × SramErr)) (s1 : State) (f : Nat) (j : Job) (k0 : Nat) (l0 : Nat) (k : Nat) (l : Nat) (s : State), s.chip ≠ .off ∧ s1 = s.sramAll sram ∧ s1.ringFace ring = some f ∧ s1.jobsRun ring = true ∧ (s1.ringJobs ring).find? (fun j => j.op == 7 && j.fin.isNone) = some j ∧ (s1.ringJobs ring).any (fun x => x.parked) = false ∧ j.len = 1 ∧ j.pos = 0 ∧ j.pass = 0 ∧ s1.canPay 3 1 false = true ∧ SMap.get 0 0 src = 0 ∧ SMap.get 0 0 dst = 0 ∧ s1.access f j.src = some (k0, l0) ∧ s1.settHome k0 = true ∧ s1.repairOf k0 l0 = none ∧ (s1.pendingTo f k0).filter (fun e => e.line == l0) = [] ∧ s1.poisoned k0 l0 = false ∧ s1.dch.hard = [] ∧ s1.rankAnswers k0 = true ∧ s1.rankAnswers k = true ∧ s1.access f j.dst = some (k, l) ∧ s1.settHome k = true ∧ s1.repairOf k l = none ∧ (s1.pendingTo f k).filter (fun e => e.line == l) = [] ∧ s1.poisoned k l = false) ∧
    (∃ (ring : Nat) (desc : Nat) (sram : List (Nat × SramErr)) (s1 : State) (f : Nat) (j : Job) (k : Nat) (s : State), s.chip ≠ .off ∧ s1 = s.sramAll sram ∧ s1.ringFace ring = some f ∧ s1.jobsRun ring = true ∧ (s1.ringJobs ring).find? (fun j => j.op == 3 && j.fin.isNone) = some j ∧ (s1.ringJobs ring).any (fun x => x.parked) = false ∧ s1.rangeSetts f j.src j.len = [some k] ∧ j.pos = 0 ∧ j.pass = 0 ∧ s1.canPay 3 1 false = true ∧ s1.dirty k = true ∧ s1.haulOf k = none ∧ (s1.slab (settSlab k)).rstate = 0 ∧ (s1.settSlot k).isSome = true ∧ s1.ckptWear = true ∧ s1.slb.ift.length < 8192) ∧
    (∃ (ring tag : Nat) (f : Nat) (j : Job) (s : State), s.chip ≠ .off ∧ s.ringFace ring = some f ∧ s.jobsRun ring = true ∧ (s.ringJobs ring).find? (fun j => j.op == 3 && j.tag == tag && j.fin.isNone) = some j ∧ ((s.rangeSetts f j.src j.len).filterMap id).length ≤ j.pos ∧ ((s.rangeSetts f j.src j.len).filterMap id).all (fun k => (s.haulOf k).isNone && !s.dirty k) = true) := by
  refine ⟨?_, ?_, ?_⟩
  · exact ⟨0, [], [], 0, [], { regs := [(393992, 0x2002#32), (589896, 0x630000#32), (656384, 1#32), (1048576, 0x808#32), (1048580, 0x3b#32)], tick := 100000, chip := .opened, margin := .sable, stamp := 0, stampTick := 0, fuse := { step := 0, serial := 0, blown := 0, provKey := 0#256, devKey := 0#256 }, bed := { fneg := [], chipReset := 0 }, svy := { run := [(16777216, 0x610#32), (16777220, 15#32), (17825792, 4#32), (17825796, 0x3020100#32), (18874368, 1#32), (18874372, 0x80000#32), (18874376, 8#32), (18874384, 0x101#32), (18874388, 0x80008#32), (18874392, 8#32), (20971520, 0x8180#32), (33554432, 0x8a04000#32), (33554436, 0x4040800#32), (33554440, 0x3e80048#32), (33554448, 1#32), (33554456, 1#32), (33554464, 1#32), (33554472, 1#32), (33554480, 1#32), (33554488, 1#32), (33554496, 1#32), (33554504, 1#32), (33554512, 1#32), (34603008, 0x30010#32), (34603012, 0x40030#32), (34603016, 0x40008#32), (34603024, 0x30010#32), (34603028, 0x40030#32), (34603032, 0x40008#32), (35651584, 3#32), (50331648, 0x32402#32), (50331652, 0x648000#32), (50331656, 0xc80642f#32), (50331660, 0x100003#32), (50331664, 0x64#32), (50331688, 15#32), (50331692, 0x114#32), (50331808, 0x201013f#32), (50331812, 0x201013f#32), (50331936, 0x10#32), (67108864, 1#32), (67108868, 0x1964#32), (67108872, 0x1964#32), (67108876, 0x2bf20#32), (67108880, 0x186a00#32), (67108884, 0xcccd#32), (67108888, 0xf852e666#32), (67108892, 0x28fd99a#32), (67108896, 0xb33300f6#32), (67108900, 0x28999a#32)], has := [16, 17, 18, 20, 32, 33, 34, 48, 64], loaded := true, shadow := true, staging := [], inst := [], live := false, cmd := 0, taken := [], face := 0, pairDig := 0#128 }, slb := { slabs := [], ready := true, owned := true, baseR := 0, grants := [], ift := [], lmap := [], image := [] }, lgr := { packA := { ebase := 0, energy := 0, rc := 0, fcc := 0, dc := 0, chem := 0, ma := 0, gaugeMv := 0, temp := 0, debit := 0, saveDebit := 0, hiScans := 0, loScans := 0, valid := 0, last := none, esr := [], esrTick := 0, gaugeTick := 0 }, packB := { ebase := 0, energy := 0, rc := 0, fcc := 0, dc := 0, chem := 0, ma := 0, gaugeMv := 0, temp := 0, debit := 0, saveDebit := 0, hiScans := 0, loScans := 0, valid := 0, last := none, esr := [], esrTick := 0, gaugeTick := 0 }, sableCnt := 0, extra := false }, adm := { rr := 7, jobq := [], wear := 0, wearHaul := 0, wearMark := 0, day := 0, repTick := [], repDue := [], repMargin := 3 }, haul := { ptr := [], cover := [], bank := 0, started := 0, done := 0, short := false, half := false, waitStk := [], waitSump := [], group := 0, stripes := [], nextStripe := 0, pfw := false, pfwTick := 0 }, save := { off := false, short := false, trigTick := 0, walkTick := 0, walked := false, railCut := false, powerBack := false, vol := 0, sumpStart := [], first := [], last := [], carve := [], pads := 0, fdirty := [], anchor := none, session := 0, openAfter := 0, down := false, spent := none, lodes := [], aggs := [], staging := [], numbers := [], ctx := { rings := [], lost := false, owners := [], running := [], cached := [] } }, stk := { recs := [], lodes := [], blks := [], remaps := [], broken := [], pseq := [], head := [], openLode := [], wlWait := [], intents := [], jpend := [], jrnl := [], jseq := 0, jpage := 0, jsaved := 0, dies := [], silent := [], accs := [], applied := [], folding := false, reworking := false, degraded := 0, bootBad := [], bootMap := [], hblock := 0, lpage := 0, lfix := 0, anchors := [], apage := 0, patrolWin := 0, patrolled := [], patrolRead := [] }, saves := [], res := { fetch := [], demand := [], lastPort := 7, prefetch := [], bgPtr := [], bgBank := 0, rebuilt := false, filling := false, trigTick := 0, counted := 0, memRec := 0, holdRec := [], newLost := [], trained := false, noKeys := false, anchored := false, scanTick := 0 }, dch := { mem := [], poison := [], banks := [], repairs := [], hard := [], devCe := [], eqCe := [], eqTick := [], eqTemp := [], bootTemps := [], taps := [], ueRun := [], late := [], early := [], refBank := [], periodCe := 0, win := 0, limits := [3600, 4096, 256, 16, 64], mig := none, rankMap := [], crdMap := [], inForce := [], cfgNew := [], lastReq := [], actLimit := [], rankSr := [], eqRun := [], scrubTick := [], prev := [], ceTotal := [] }, ports := [], nv := [(0, { dirty := 0, shutdown := 0, feat := 0x7f#128, lsa := [] })], job := { rings := [(0, { st := 1, err := 0, log2 := 4, vector := 0, imod := 0, sqHead := 0, sqTail := 0, cqTail := 0, cqHead := 0, sqBase := 65536, cqBase := 131072, done := 0, errors := 0, pend := false, irqDue := false, irqRun := false })], cache := [], jobs := [{ ring := 0, idx := 3, op := 7, tag := 7, notify := false, len := 1, src := 0, dst := 0, arg0 := 0, arg1 := 0, iv := 0#128, pos := 0, aux := 0, pass := 0, parked := false, chain := 0#128, hash := 0#128, seq := 0, fin := none, slabs := [0, 65536, 131072, 196608, 1, 65537, 131073, 196609, 2, 65538, 131074, 196610, 3, 65539, 131075, 196611, 4, 65540, 131076, 196612, 5, 65541, 131077, 196613, 6, 65542, 131078, 196614, 7, 65543, 131079, 196615, 8, 65544, 131080, 196616, 9, 65545, 131081, 196617, 10, 65546, 131082, 196618, 11, 65547, 131083, 196619, 12, 65548, 131084, 196620, 13, 65549, 131085, 196621, 14, 65550, 131086, 196622, 15, 65551, 131087, 196623, 16, 65552, 131088, 196624, 17, 65553, 131089, 196625, 18, 65554, 131090, 196626, 19, 65555, 131091, 196627, 20, 65556, 131092, 196628, 21, 65557, 131093, 196629, 22, 65558, 131094, 196630, 23, 65559, 131095, 196631, 24, 65560, 131096, 196632, 25, 65561, 131097, 196633, 26, 65562, 131098, 196634, 27, 65563, 131099, 196635, 28, 65564, 131100, 196636, 29, 65565, 131101, 196637, 30, 65566, 131102, 196638, 31, 65567, 131103, 196639, 32, 65568, 131104, 196640, 33, 65569, 131105, 196641, 34, 65570, 131106, 196642, 35, 65571, 131107, 196643, 36, 65572, 131108, 196644, 37, 65573, 131109, 196645, 38, 65574, 131110, 196646, 39, 65575, 131111, 196647, 40, 65576, 131112, 196648, 41, 65577, 131113, 196649, 42, 65578, 131114, 196650, 43, 65579, 131115, 196651, 44, 65580, 131116, 196652, 45, 65581, 131117, 196653, 46, 65582, 131118, 196654, 47, 65583, 131119, 196655, 48, 65584, 131120, 196656, 49, 65585, 131121, 196657, 50, 65586, 131122, 196658, 51, 65587, 131123, 196659, 52, 65588, 131124, 196660, 53, 65589, 131125, 196661, 54, 65590, 131126, 196662, 55, 65591, 131127, 196663, 56, 65592, 131128, 196664, 57, 65593, 131129, 196665, 58, 65594, 131130, 196666, 59, 65595, 131131, 196667, 60, 65596, 131132, 196668, 61, 65597, 131133, 196669, 62, 65598, 131134, 196670, 63, 65599, 131135, 196671, 64, 65600, 131136, 196672, 65, 65601, 131137, 196673, 66, 65602, 131138, 196674, 67, 65603, 131139, 196675, 68, 65604, 131140, 196676, 69, 65605, 131141, 196677, 70, 65606, 131142, 196678, 71, 65607, 131143, 196679, 72, 65608, 131144, 196680, 73, 65609, 131145, 196681, 74, 65610, 131146, 196682, 75, 65611, 131147, 196683, 76, 65612, 131148, 196684, 77, 65613, 131149, 196685, 78, 65614, 131150, 196686, 79, 65615, 131151, 196687, 80, 65616, 131152, 196688, 81, 65617, 131153, 196689, 82, 65618, 131154, 196690, 83, 65619, 131155, 196691, 84, 65620, 131156, 196692, 85, 65621, 131157, 196693, 86, 65622, 131158, 196694, 87, 65623, 131159, 196695, 88, 65624, 131160, 196696, 89, 65625, 131161, 196697, 90, 65626, 131162, 196698, 91, 65627, 131163, 196699, 92, 65628, 131164, 196700, 93, 65629, 131165, 196701, 94, 65630, 131166, 196702, 95, 65631, 131167, 196703, 96, 65632, 131168, 196704, 97, 65633, 131169, 196705, 98, 65634, 131170, 196706, 99, 65635, 131171, 196707, 100, 65636, 131172, 196708, 101, 65637, 131173, 196709, 102, 65638, 131174, 196710, 103, 65639, 131175, 196711, 104, 65640, 131176, 196712, 105, 65641, 131177, 196713, 106, 65642, 131178, 196714, 107, 65643, 131179, 196715, 108, 65644, 131180, 196716, 109, 65645, 131181, 196717, 110, 65646, 131182, 196718, 111, 65647, 131183, 196719, 112, 65648, 131184, 196720, 113, 65649, 131185, 196721, 114, 65650, 131186, 196722, 115, 65651, 131187, 196723, 116, 65652, 131188, 196724, 117, 65653, 131189, 196725, 118, 65654, 131190, 196726, 119, 65655, 131191, 196727, 120, 65656, 131192, 196728, 121, 65657, 131193, 196729, 122, 65658, 131194, 196730, 123, 65659, 131195, 196731, 124, 65660, 131196, 196732, 125, 65661, 131197, 196733, 126, 65662, 131198, 196734, 127, 65663, 131199, 196735] }], pins := [], lost := false, fenceDue := 0, inits := [] }, cip := { keys := [], keyin := [], store := [], storeOk := false, ceiling := 0, storeSeq := 0, cmd := none, purge := [], stale := [], erasePend := 0, eraseSan := 0, rotate := [], misWin := [], next := 0, kat := [] }, gal := { epoch := 0#64, joinEpoch := 0#64, peerFenced := false, sent := [], held := [], fwds := [], nextTag := 0, lines := [], peerLines := [], joinStep := 0, listGot := false, rslvGot := false, lineWait := [], asks := [], nextAsk := 0, reqs := [], ctls := [], rslvSlab := 0, rslvSett := 0, rslvQuota := 0, kept := false, peerEpoch := 0#64, fullFor := 0, replays := [], lastFlit := [0, 0], lastBeat := 0, graceAt := 0, seen := 0, joinAt := 0, hello := [false, false], handover := 0, zeroing := [] }, seq := { stage := .idle, order := [], good := [], bad := [], low := [], high := [], glitch := [], glitchPrev := [], glitchWin := 0, latchAfter := false, offTick := 0, minOff := true, timed := false, offPend := false, noDnWait := false, inGood := 0, inLow := 0, pwrLow := false, pfwTick := 0, pfwLate := false, stretch := 0, pulse := 0, pg00Told := false, pg00Good := 0, pg00Bad := 0, pg00Ok := false, latchSave := false, syncDrive := false, lowTold := false, timedTick := 0 }, clk := { rising := [], tripSeen := false, refFail := false }, flt := { raised := [], irqq := [], win := [], esc := [], thrNew := [], winNew := [], rst := none, later := [], holdAfter := false }, clg := { live := [], staging := [], forming := [], phase := 0, pend := [], held := [], log := [], win := none, fetch := none, extDay := 0, railLogged := false, bootLogged := false, ffcAtWaking := [0, 0, 0], subSec := 0, resumed := false }, twb := { ports := [], alert := false, alertTick := 0, mctp := 0, sensTick := [] }, fwm := { slotA := { image := [], sealed := false, tag := 0#128, next := [], blk := 0 }, slotB := { image := [], sealed := false, tag := 0#128, next := [], blk := 0 }, active := 0, trial := false, tries := 0, staging := none, xfer := 0, xferFace := 0, running := true, alive := false, prev := 0, handoff := false, recovery := false, svyEpoch := 0, openCmds := [], waiting := [], bootTick := 0 }, pin := { testen := false, power := true, tap := .bypass, railset := 0, err := false }, pending := [], out := [], free := 0 }, 0, { ring := 0, idx := 3, op := 7, tag := 7, notify := false, len := 1, src := 0, dst := 0, arg0 := 0, arg1 := 0, iv := 0#128, pos := 0, aux := 0, pass := 0, parked := false, chain := 0#128, hash := 0#128, seq := 0, fin := none, slabs := [0, 65536, 131072, 196608, 1, 65537, 131073, 196609, 2, 65538, 131074, 196610, 3, 65539, 131075, 196611, 4, 65540, 131076, 196612, 5, 65541, 131077, 196613, 6, 65542, 131078, 196614, 7, 65543, 131079, 196615, 8, 65544, 131080, 196616, 9, 65545, 131081, 196617, 10, 65546, 131082, 196618, 11, 65547, 131083, 196619, 12, 65548, 131084, 196620, 13, 65549, 131085, 196621, 14, 65550, 131086, 196622, 15, 65551, 131087, 196623, 16, 65552, 131088, 196624, 17, 65553, 131089, 196625, 18, 65554, 131090, 196626, 19, 65555, 131091, 196627, 20, 65556, 131092, 196628, 21, 65557, 131093, 196629, 22, 65558, 131094, 196630, 23, 65559, 131095, 196631, 24, 65560, 131096, 196632, 25, 65561, 131097, 196633, 26, 65562, 131098, 196634, 27, 65563, 131099, 196635, 28, 65564, 131100, 196636, 29, 65565, 131101, 196637, 30, 65566, 131102, 196638, 31, 65567, 131103, 196639, 32, 65568, 131104, 196640, 33, 65569, 131105, 196641, 34, 65570, 131106, 196642, 35, 65571, 131107, 196643, 36, 65572, 131108, 196644, 37, 65573, 131109, 196645, 38, 65574, 131110, 196646, 39, 65575, 131111, 196647, 40, 65576, 131112, 196648, 41, 65577, 131113, 196649, 42, 65578, 131114, 196650, 43, 65579, 131115, 196651, 44, 65580, 131116, 196652, 45, 65581, 131117, 196653, 46, 65582, 131118, 196654, 47, 65583, 131119, 196655, 48, 65584, 131120, 196656, 49, 65585, 131121, 196657, 50, 65586, 131122, 196658, 51, 65587, 131123, 196659, 52, 65588, 131124, 196660, 53, 65589, 131125, 196661, 54, 65590, 131126, 196662, 55, 65591, 131127, 196663, 56, 65592, 131128, 196664, 57, 65593, 131129, 196665, 58, 65594, 131130, 196666, 59, 65595, 131131, 196667, 60, 65596, 131132, 196668, 61, 65597, 131133, 196669, 62, 65598, 131134, 196670, 63, 65599, 131135, 196671, 64, 65600, 131136, 196672, 65, 65601, 131137, 196673, 66, 65602, 131138, 196674, 67, 65603, 131139, 196675, 68, 65604, 131140, 196676, 69, 65605, 131141, 196677, 70, 65606, 131142, 196678, 71, 65607, 131143, 196679, 72, 65608, 131144, 196680, 73, 65609, 131145, 196681, 74, 65610, 131146, 196682, 75, 65611, 131147, 196683, 76, 65612, 131148, 196684, 77, 65613, 131149, 196685, 78, 65614, 131150, 196686, 79, 65615, 131151, 196687, 80, 65616, 131152, 196688, 81, 65617, 131153, 196689, 82, 65618, 131154, 196690, 83, 65619, 131155, 196691, 84, 65620, 131156, 196692, 85, 65621, 131157, 196693, 86, 65622, 131158, 196694, 87, 65623, 131159, 196695, 88, 65624, 131160, 196696, 89, 65625, 131161, 196697, 90, 65626, 131162, 196698, 91, 65627, 131163, 196699, 92, 65628, 131164, 196700, 93, 65629, 131165, 196701, 94, 65630, 131166, 196702, 95, 65631, 131167, 196703, 96, 65632, 131168, 196704, 97, 65633, 131169, 196705, 98, 65634, 131170, 196706, 99, 65635, 131171, 196707, 100, 65636, 131172, 196708, 101, 65637, 131173, 196709, 102, 65638, 131174, 196710, 103, 65639, 131175, 196711, 104, 65640, 131176, 196712, 105, 65641, 131177, 196713, 106, 65642, 131178, 196714, 107, 65643, 131179, 196715, 108, 65644, 131180, 196716, 109, 65645, 131181, 196717, 110, 65646, 131182, 196718, 111, 65647, 131183, 196719, 112, 65648, 131184, 196720, 113, 65649, 131185, 196721, 114, 65650, 131186, 196722, 115, 65651, 131187, 196723, 116, 65652, 131188, 196724, 117, 65653, 131189, 196725, 118, 65654, 131190, 196726, 119, 65655, 131191, 196727, 120, 65656, 131192, 196728, 121, 65657, 131193, 196729, 122, 65658, 131194, 196730, 123, 65659, 131195, 196731, 124, 65660, 131196, 196732, 125, 65661, 131197, 196733, 126, 65662, 131198, 196734, 127, 65663, 131199, 196735] }, 0, 0, 0, 0, (let ring : Nat := 0; let src : SMap Nat := default; let dst : SMap Nat := default; let s : State := open0; let s : State := { (s.setNv 0 { s.nvFace 0 with feat := 127 }).setRstate 0 0 with chip := .opened, dch := { s.dch with hard := [], repairs := [] }, job := { s.job with jobs := [{ ring := 0, idx := 3, op := 7, tag := 7, notify := false, len := 1, src := 64 * (s.free % 3), dst := 64 * (s.free % 2), arg0 := 0, arg1 := 0, iv := 0, pos := 0, aux := 0, pass := 0, parked := false, chain := 0, hash := 0, seq := 0, fin := none, slabs := s.faceSlabs 0 }] } } |> fun s => ((s.wr (CLK_ISL.STATE islJob) islOn).wr JOB_STATUS.FENCED 0).wr (HPT_STATUS.OPEN 0) 1 |>.wr GAL_STATUS.MODE 0 |>.setLock 0 15 false |>.wr (ADM_CLS.BUCKET 3) 99 |> fun s => s.setRing 0 { s.ring 0 with st := 1, log2 := 4, sqBase := 0x10000, cqBase := 0x20000 } |> fun s => faces.foldl (fun s p => s.setPort p { s.port p with wbuf := [], reads := [] }) s |> fun s => { s with adm := { s.adm with jobq := [] } }; s), by decide +kernel⟩
  · exact ⟨0, 0, [], { regs := [(393992, 0x2002#32), (589828, 1#32), (589896, 0x630000#32), (589920, 0xf4240#32), (589928, 0x63#32), (656384, 1#32), (1048576, 0x808#32), (1048580, 0x3b#32), (8388688, 1#32)], tick := 100000, chip := .opened, margin := .sable, stamp := 0, stampTick := 0, fuse := { step := 0, serial := 0, blown := 0, provKey := 0#256, devKey := 0#256 }, bed := { fneg := [], chipReset := 0 }, svy := { run := [(16777216, 0x610#32), (16777220, 15#32), (17825792, 4#32), (17825796, 0x3020100#32), (18874368, 1#32), (18874372, 0x80000#32), (18874376, 8#32), (18874384, 0x101#32), (18874388, 0x80008#32), (18874392, 8#32), (20971520, 0x8180#32), (33554432, 0x8a04000#32), (33554436, 0x4040800#32), (33554440, 0x3e80048#32), (33554448, 1#32), (33554456, 1#32), (33554464, 1#32), (33554472, 1#32), (33554480, 1#32), (33554488, 1#32), (33554496, 1#32), (33554504, 1#32), (33554512, 1#32), (34603008, 0x30010#32), (34603012, 0x40030#32), (34603016, 0x40008#32), (34603024, 0x30010#32), (34603028, 0x40030#32), (34603032, 0x40008#32), (35651584, 3#32), (50331648, 0x32402#32), (50331652, 0x648000#32), (50331656, 0xc80642f#32), (50331660, 0x100003#32), (50331664, 0x64#32), (50331688, 15#32), (50331692, 0x114#32), (50331808, 0x201013f#32), (50331812, 0x201013f#32), (50331936, 0x10#32), (67108864, 1#32), (67108868, 0x1964#32), (67108872, 0x1964#32), (67108876, 0x2bf20#32), (67108880, 0x186a00#32), (67108884, 0xcccd#32), (67108888, 0xf852e666#32), (67108892, 0x28fd99a#32), (67108896, 0xb33300f6#32), (67108900, 0x28999a#32)], has := [16, 17, 18, 20, 32, 33, 34, 48, 64], loaded := true, shadow := true, staging := [], inst := [], live := false, cmd := 0, taken := [], face := 0, pairDig := 0#128 }, slb := { slabs := [(0, { mask := 1#64, word := 0#32 })], ready := true, owned := true, baseR := 0, grants := [], ift := [], lmap := [], image := [] }, lgr := { packA := { ebase := 0, energy := 0, rc := 0, fcc := 0, dc := 0, chem := 0, ma := 0, gaugeMv := 0, temp := 0, debit := 0, saveDebit := 0, hiScans := 0, loScans := 0, valid := 0, last := none, esr := [], esrTick := 0, gaugeTick := 0 }, packB := { ebase := 0, energy := 0, rc := 0, fcc := 0, dc := 0, chem := 0, ma := 0, gaugeMv := 0, temp := 0, debit := 0, saveDebit := 0, hiScans := 0, loScans := 0, valid := 0, last := none, esr := [], esrTick := 0, gaugeTick := 0 }, sableCnt := 0, extra := false }, adm := { rr := 7, jobq := [], wear := 0, wearHaul := 0, wearMark := 0, day := 0, repTick := [], repDue := [], repMargin := 3 }, haul := { ptr := [], cover := [], bank := 0, started := 0, done := 0, short := false, half := false, waitStk := [], waitSump := [], group := 0, stripes := [], nextStripe := 0, pfw := false, pfwTick := 0 }, save := { off := false, short := false, trigTick := 0, walkTick := 0, walked := false, railCut := false, powerBack := false, vol := 0, sumpStart := [], first := [], last := [], carve := [], pads := 0, fdirty := [], anchor := none, session := 0, openAfter := 0, down := false, spent := none, lodes := [], aggs := [], staging := [], numbers := [], ctx := { rings := [], lost := false, owners := [], running := [], cached := [] } }, stk := { recs := [], lodes := [], blks := [], remaps := [], broken := [], pseq := [], head := [], openLode := [], wlWait := [], intents := [], jpend := [], jrnl := [], jseq := 0, jpage := 0, jsaved := 0, dies := [], silent := [], accs := [], applied := [], folding := false, reworking := false, degraded := 0, bootBad := [], bootMap := [], hblock := 0, lpage := 0, lfix := 0, anchors := [], apage := 0, patrolWin := 0, patrolled := [], patrolRead := [] }, saves := [], res := { fetch := [], demand := [], lastPort := 7, prefetch := [], bgPtr := [], bgBank := 0, rebuilt := false, filling := false, trigTick := 0, counted := 0, memRec := 0, holdRec := [], newLost := [], trained := false, noKeys := false, anchored := false, scanTick := 0 }, dch := { mem := [], poison := [], banks := [], repairs := [], hard := [], devCe := [], eqCe := [], eqTick := [], eqTemp := [], bootTemps := [], taps := [], ueRun := [], late := [], early := [], refBank := [], periodCe := 0, win := 0, limits := [3600, 4096, 256, 16, 64], mig := none, rankMap := [], crdMap := [], inForce := [], cfgNew := [], lastReq := [], actLimit := [], rankSr := [], eqRun := [], scrubTick := [], prev := [], ceTotal := [] }, ports := [], nv := [(0, { dirty := 0, shutdown := 0, feat := 0x7f#128, lsa := [] })], job := { rings := [(0, { st := 1, err := 0, log2 := 4, vector := 0, imod := 0, sqHead := 0, sqTail := 0, cqTail := 0, cqHead := 0, sqBase := 65536, cqBase := 131072, done := 0, errors := 0, pend := false, irqDue := false, irqRun := false })], cache := [], jobs := [{ ring := 0, idx := 3, op := 3, tag := 7, notify := false, len := 2, src := 0, dst := 0, arg0 := 0, arg1 := 0, iv := 0#128, pos := 0, aux := 0, pass := 0, parked := false, chain := 0#128, hash := 0#128, seq := 0, fin := none, slabs := [0, 65536, 131072, 196608, 1, 65537, 131073, 196609, 2, 65538, 131074, 196610, 3, 65539, 131075, 196611, 4, 65540, 131076, 196612, 5, 65541, 131077, 196613, 6, 65542, 131078, 196614, 7, 65543, 131079, 196615, 8, 65544, 131080, 196616, 9, 65545, 131081, 196617, 10, 65546, 131082, 196618, 11, 65547, 131083, 196619, 12, 65548, 131084, 196620, 13, 65549, 131085, 196621, 14, 65550, 131086, 196622, 15, 65551, 131087, 196623, 16, 65552, 131088, 196624, 17, 65553, 131089, 196625, 18, 65554, 131090, 196626, 19, 65555, 131091, 196627, 20, 65556, 131092, 196628, 21, 65557, 131093, 196629, 22, 65558, 131094, 196630, 23, 65559, 131095, 196631, 24, 65560, 131096, 196632, 25, 65561, 131097, 196633, 26, 65562, 131098, 196634, 27, 65563, 131099, 196635, 28, 65564, 131100, 196636, 29, 65565, 131101, 196637, 30, 65566, 131102, 196638, 31, 65567, 131103, 196639, 32, 65568, 131104, 196640, 33, 65569, 131105, 196641, 34, 65570, 131106, 196642, 35, 65571, 131107, 196643, 36, 65572, 131108, 196644, 37, 65573, 131109, 196645, 38, 65574, 131110, 196646, 39, 65575, 131111, 196647, 40, 65576, 131112, 196648, 41, 65577, 131113, 196649, 42, 65578, 131114, 196650, 43, 65579, 131115, 196651, 44, 65580, 131116, 196652, 45, 65581, 131117, 196653, 46, 65582, 131118, 196654, 47, 65583, 131119, 196655, 48, 65584, 131120, 196656, 49, 65585, 131121, 196657, 50, 65586, 131122, 196658, 51, 65587, 131123, 196659, 52, 65588, 131124, 196660, 53, 65589, 131125, 196661, 54, 65590, 131126, 196662, 55, 65591, 131127, 196663, 56, 65592, 131128, 196664, 57, 65593, 131129, 196665, 58, 65594, 131130, 196666, 59, 65595, 131131, 196667, 60, 65596, 131132, 196668, 61, 65597, 131133, 196669, 62, 65598, 131134, 196670, 63, 65599, 131135, 196671, 64, 65600, 131136, 196672, 65, 65601, 131137, 196673, 66, 65602, 131138, 196674, 67, 65603, 131139, 196675, 68, 65604, 131140, 196676, 69, 65605, 131141, 196677, 70, 65606, 131142, 196678, 71, 65607, 131143, 196679, 72, 65608, 131144, 196680, 73, 65609, 131145, 196681, 74, 65610, 131146, 196682, 75, 65611, 131147, 196683, 76, 65612, 131148, 196684, 77, 65613, 131149, 196685, 78, 65614, 131150, 196686, 79, 65615, 131151, 196687, 80, 65616, 131152, 196688, 81, 65617, 131153, 196689, 82, 65618, 131154, 196690, 83, 65619, 131155, 196691, 84, 65620, 131156, 196692, 85, 65621, 131157, 196693, 86, 65622, 131158, 196694, 87, 65623, 131159, 196695, 88, 65624, 131160, 196696, 89, 65625, 131161, 196697, 90, 65626, 131162, 196698, 91, 65627, 131163, 196699, 92, 65628, 131164, 196700, 93, 65629, 131165, 196701, 94, 65630, 131166, 196702, 95, 65631, 131167, 196703, 96, 65632, 131168, 196704, 97, 65633, 131169, 196705, 98, 65634, 131170, 196706, 99, 65635, 131171, 196707, 100, 65636, 131172, 196708, 101, 65637, 131173, 196709, 102, 65638, 131174, 196710, 103, 65639, 131175, 196711, 104, 65640, 131176, 196712, 105, 65641, 131177, 196713, 106, 65642, 131178, 196714, 107, 65643, 131179, 196715, 108, 65644, 131180, 196716, 109, 65645, 131181, 196717, 110, 65646, 131182, 196718, 111, 65647, 131183, 196719, 112, 65648, 131184, 196720, 113, 65649, 131185, 196721, 114, 65650, 131186, 196722, 115, 65651, 131187, 196723, 116, 65652, 131188, 196724, 117, 65653, 131189, 196725, 118, 65654, 131190, 196726, 119, 65655, 131191, 196727, 120, 65656, 131192, 196728, 121, 65657, 131193, 196729, 122, 65658, 131194, 196730, 123, 65659, 131195, 196731, 124, 65660, 131196, 196732, 125, 65661, 131197, 196733, 126, 65662, 131198, 196734, 127, 65663, 131199, 196735] }], pins := [], lost := false, fenceDue := 0, inits := [] }, cip := { keys := [], keyin := [], store := [], storeOk := false, ceiling := 0, storeSeq := 0, cmd := none, purge := [], stale := [], erasePend := 0, eraseSan := 0, rotate := [], misWin := [], next := 0, kat := [] }, gal := { epoch := 0#64, joinEpoch := 0#64, peerFenced := false, sent := [], held := [], fwds := [], nextTag := 0, lines := [], peerLines := [], joinStep := 0, listGot := false, rslvGot := false, lineWait := [], asks := [], nextAsk := 0, reqs := [], ctls := [], rslvSlab := 0, rslvSett := 0, rslvQuota := 0, kept := false, peerEpoch := 0#64, fullFor := 0, replays := [], lastFlit := [0, 0], lastBeat := 0, graceAt := 0, seen := 0, joinAt := 0, hello := [false, false], handover := 0, zeroing := [] }, seq := { stage := .idle, order := [], good := [], bad := [], low := [], high := [], glitch := [], glitchPrev := [], glitchWin := 0, latchAfter := false, offTick := 0, minOff := true, timed := false, offPend := false, noDnWait := false, inGood := 0, inLow := 0, pwrLow := false, pfwTick := 0, pfwLate := false, stretch := 0, pulse := 0, pg00Told := false, pg00Good := 0, pg00Bad := 0, pg00Ok := false, latchSave := false, syncDrive := false, lowTold := false, timedTick := 0 }, clk := { rising := [], tripSeen := false, refFail := false }, flt := { raised := [], irqq := [], win := [], esc := [], thrNew := [], winNew := [], rst := none, later := [], holdAfter := false }, clg := { live := [], staging := [], forming := [], phase := 0, pend := [], held := [], log := [], win := none, fetch := none, extDay := 0, railLogged := false, bootLogged := false, ffcAtWaking := [0, 0, 0], subSec := 0, resumed := false }, twb := { ports := [], alert := false, alertTick := 0, mctp := 0, sensTick := [] }, fwm := { slotA := { image := [], sealed := false, tag := 0#128, next := [], blk := 0 }, slotB := { image := [], sealed := false, tag := 0#128, next := [], blk := 0 }, active := 0, trial := false, tries := 0, staging := none, xfer := 0, xferFace := 0, running := true, alive := false, prev := 0, handoff := false, recovery := false, svyEpoch := 0, openCmds := [], waiting := [], bootTick := 0 }, pin := { testen := false, power := true, tap := .bypass, railset := 0, err := false }, pending := [], out := [], free := 0 }, 0, { ring := 0, idx := 3, op := 3, tag := 7, notify := false, len := 2, src := 0, dst := 0, arg0 := 0, arg1 := 0, iv := 0#128, pos := 0, aux := 0, pass := 0, parked := false, chain := 0#128, hash := 0#128, seq := 0, fin := none, slabs := [0, 65536, 131072, 196608, 1, 65537, 131073, 196609, 2, 65538, 131074, 196610, 3, 65539, 131075, 196611, 4, 65540, 131076, 196612, 5, 65541, 131077, 196613, 6, 65542, 131078, 196614, 7, 65543, 131079, 196615, 8, 65544, 131080, 196616, 9, 65545, 131081, 196617, 10, 65546, 131082, 196618, 11, 65547, 131083, 196619, 12, 65548, 131084, 196620, 13, 65549, 131085, 196621, 14, 65550, 131086, 196622, 15, 65551, 131087, 196623, 16, 65552, 131088, 196624, 17, 65553, 131089, 196625, 18, 65554, 131090, 196626, 19, 65555, 131091, 196627, 20, 65556, 131092, 196628, 21, 65557, 131093, 196629, 22, 65558, 131094, 196630, 23, 65559, 131095, 196631, 24, 65560, 131096, 196632, 25, 65561, 131097, 196633, 26, 65562, 131098, 196634, 27, 65563, 131099, 196635, 28, 65564, 131100, 196636, 29, 65565, 131101, 196637, 30, 65566, 131102, 196638, 31, 65567, 131103, 196639, 32, 65568, 131104, 196640, 33, 65569, 131105, 196641, 34, 65570, 131106, 196642, 35, 65571, 131107, 196643, 36, 65572, 131108, 196644, 37, 65573, 131109, 196645, 38, 65574, 131110, 196646, 39, 65575, 131111, 196647, 40, 65576, 131112, 196648, 41, 65577, 131113, 196649, 42, 65578, 131114, 196650, 43, 65579, 131115, 196651, 44, 65580, 131116, 196652, 45, 65581, 131117, 196653, 46, 65582, 131118, 196654, 47, 65583, 131119, 196655, 48, 65584, 131120, 196656, 49, 65585, 131121, 196657, 50, 65586, 131122, 196658, 51, 65587, 131123, 196659, 52, 65588, 131124, 196660, 53, 65589, 131125, 196661, 54, 65590, 131126, 196662, 55, 65591, 131127, 196663, 56, 65592, 131128, 196664, 57, 65593, 131129, 196665, 58, 65594, 131130, 196666, 59, 65595, 131131, 196667, 60, 65596, 131132, 196668, 61, 65597, 131133, 196669, 62, 65598, 131134, 196670, 63, 65599, 131135, 196671, 64, 65600, 131136, 196672, 65, 65601, 131137, 196673, 66, 65602, 131138, 196674, 67, 65603, 131139, 196675, 68, 65604, 131140, 196676, 69, 65605, 131141, 196677, 70, 65606, 131142, 196678, 71, 65607, 131143, 196679, 72, 65608, 131144, 196680, 73, 65609, 131145, 196681, 74, 65610, 131146, 196682, 75, 65611, 131147, 196683, 76, 65612, 131148, 196684, 77, 65613, 131149, 196685, 78, 65614, 131150, 196686, 79, 65615, 131151, 196687, 80, 65616, 131152, 196688, 81, 65617, 131153, 196689, 82, 65618, 131154, 196690, 83, 65619, 131155, 196691, 84, 65620, 131156, 196692, 85, 65621, 131157, 196693, 86, 65622, 131158, 196694, 87, 65623, 131159, 196695, 88, 65624, 131160, 196696, 89, 65625, 131161, 196697, 90, 65626, 131162, 196698, 91, 65627, 131163, 196699, 92, 65628, 131164, 196700, 93, 65629, 131165, 196701, 94, 65630, 131166, 196702, 95, 65631, 131167, 196703, 96, 65632, 131168, 196704, 97, 65633, 131169, 196705, 98, 65634, 131170, 196706, 99, 65635, 131171, 196707, 100, 65636, 131172, 196708, 101, 65637, 131173, 196709, 102, 65638, 131174, 196710, 103, 65639, 131175, 196711, 104, 65640, 131176, 196712, 105, 65641, 131177, 196713, 106, 65642, 131178, 196714, 107, 65643, 131179, 196715, 108, 65644, 131180, 196716, 109, 65645, 131181, 196717, 110, 65646, 131182, 196718, 111, 65647, 131183, 196719, 112, 65648, 131184, 196720, 113, 65649, 131185, 196721, 114, 65650, 131186, 196722, 115, 65651, 131187, 196723, 116, 65652, 131188, 196724, 117, 65653, 131189, 196725, 118, 65654, 131190, 196726, 119, 65655, 131191, 196727, 120, 65656, 131192, 196728, 121, 65657, 131193, 196729, 122, 65658, 131194, 196730, 123, 65659, 131195, 196731, 124, 65660, 131196, 196732, 125, 65661, 131197, 196733, 126, 65662, 131198, 196734, 127, 65663, 131199, 196735] }, 0, (let ring : Nat := 0; let s : State := open0; let s : State := { (s.setNv 0 { s.nvFace 0 with feat := 127 }).setRstate 0 0 with chip := .opened, dch := { s.dch with hard := [], repairs := [] }, job := { s.job with jobs := [{ ring := 0, idx := 3, op := 3, tag := 7, notify := false, len := 2, src := 0, dst := 0, arg0 := 0, arg1 := 0, iv := 0, pos := 0, aux := 0, pass := 0, parked := false, chain := 0, hash := 0, seq := 0, fin := none, slabs := s.faceSlabs 0 }] } } |> fun s => ((s.wr (CLK_ISL.STATE islJob) islOn).wr JOB_STATUS.FENCED 0).wr (HPT_STATUS.OPEN 0) 1 |>.wr GAL_STATUS.MODE 0 |>.setLock 0 15 false |>.wr (ADM_CLS.BUCKET 3) 99 |> fun s => s.setRing 0 { s.ring 0 with st := 1, log2 := 4, sqBase := 0x10000, cqBase := 0x20000 } |> fun s => ({ s with slb := { s.slb with ift := [] } }).setDirty 0 |>.wr ADM_WEAR_ALLOW.MIB 99 |>.wr ADM_WEAR_SPENT.MIB 9; let s : State := (s.wr ADM_WEAR_BUD.MIB 1000000).wr ADM_WEAR_SPENT.MIB 0; s), by decide +kernel⟩
  · exact ⟨0, 7, 0, { ring := 0, idx := 3, op := 3, tag := 7, notify := false, len := 2, src := 0, dst := 0, arg0 := 0, arg1 := 0, iv := 0#128, pos := 1, aux := 0, pass := 0, parked := false, chain := 0#128, hash := 0#128, seq := 0, fin := none, slabs := [0, 65536, 131072, 196608, 1, 65537, 131073, 196609, 2, 65538, 131074, 196610, 3, 65539, 131075, 196611, 4, 65540, 131076, 196612, 5, 65541, 131077, 196613, 6, 65542, 131078, 196614, 7, 65543, 131079, 196615, 8, 65544, 131080, 196616, 9, 65545, 131081, 196617, 10, 65546, 131082, 196618, 11, 65547, 131083, 196619, 12, 65548, 131084, 196620, 13, 65549, 131085, 196621, 14, 65550, 131086, 196622, 15, 65551, 131087, 196623, 16, 65552, 131088, 196624, 17, 65553, 131089, 196625, 18, 65554, 131090, 196626, 19, 65555, 131091, 196627, 20, 65556, 131092, 196628, 21, 65557, 131093, 196629, 22, 65558, 131094, 196630, 23, 65559, 131095, 196631, 24, 65560, 131096, 196632, 25, 65561, 131097, 196633, 26, 65562, 131098, 196634, 27, 65563, 131099, 196635, 28, 65564, 131100, 196636, 29, 65565, 131101, 196637, 30, 65566, 131102, 196638, 31, 65567, 131103, 196639, 32, 65568, 131104, 196640, 33, 65569, 131105, 196641, 34, 65570, 131106, 196642, 35, 65571, 131107, 196643, 36, 65572, 131108, 196644, 37, 65573, 131109, 196645, 38, 65574, 131110, 196646, 39, 65575, 131111, 196647, 40, 65576, 131112, 196648, 41, 65577, 131113, 196649, 42, 65578, 131114, 196650, 43, 65579, 131115, 196651, 44, 65580, 131116, 196652, 45, 65581, 131117, 196653, 46, 65582, 131118, 196654, 47, 65583, 131119, 196655, 48, 65584, 131120, 196656, 49, 65585, 131121, 196657, 50, 65586, 131122, 196658, 51, 65587, 131123, 196659, 52, 65588, 131124, 196660, 53, 65589, 131125, 196661, 54, 65590, 131126, 196662, 55, 65591, 131127, 196663, 56, 65592, 131128, 196664, 57, 65593, 131129, 196665, 58, 65594, 131130, 196666, 59, 65595, 131131, 196667, 60, 65596, 131132, 196668, 61, 65597, 131133, 196669, 62, 65598, 131134, 196670, 63, 65599, 131135, 196671, 64, 65600, 131136, 196672, 65, 65601, 131137, 196673, 66, 65602, 131138, 196674, 67, 65603, 131139, 196675, 68, 65604, 131140, 196676, 69, 65605, 131141, 196677, 70, 65606, 131142, 196678, 71, 65607, 131143, 196679, 72, 65608, 131144, 196680, 73, 65609, 131145, 196681, 74, 65610, 131146, 196682, 75, 65611, 131147, 196683, 76, 65612, 131148, 196684, 77, 65613, 131149, 196685, 78, 65614, 131150, 196686, 79, 65615, 131151, 196687, 80, 65616, 131152, 196688, 81, 65617, 131153, 196689, 82, 65618, 131154, 196690, 83, 65619, 131155, 196691, 84, 65620, 131156, 196692, 85, 65621, 131157, 196693, 86, 65622, 131158, 196694, 87, 65623, 131159, 196695, 88, 65624, 131160, 196696, 89, 65625, 131161, 196697, 90, 65626, 131162, 196698, 91, 65627, 131163, 196699, 92, 65628, 131164, 196700, 93, 65629, 131165, 196701, 94, 65630, 131166, 196702, 95, 65631, 131167, 196703, 96, 65632, 131168, 196704, 97, 65633, 131169, 196705, 98, 65634, 131170, 196706, 99, 65635, 131171, 196707, 100, 65636, 131172, 196708, 101, 65637, 131173, 196709, 102, 65638, 131174, 196710, 103, 65639, 131175, 196711, 104, 65640, 131176, 196712, 105, 65641, 131177, 196713, 106, 65642, 131178, 196714, 107, 65643, 131179, 196715, 108, 65644, 131180, 196716, 109, 65645, 131181, 196717, 110, 65646, 131182, 196718, 111, 65647, 131183, 196719, 112, 65648, 131184, 196720, 113, 65649, 131185, 196721, 114, 65650, 131186, 196722, 115, 65651, 131187, 196723, 116, 65652, 131188, 196724, 117, 65653, 131189, 196725, 118, 65654, 131190, 196726, 119, 65655, 131191, 196727, 120, 65656, 131192, 196728, 121, 65657, 131193, 196729, 122, 65658, 131194, 196730, 123, 65659, 131195, 196731, 124, 65660, 131196, 196732, 125, 65661, 131197, 196733, 126, 65662, 131198, 196734, 127, 65663, 131199, 196735] }, (let ring : Nat := 0; let tag : Nat := 0; let s : State := open0; let s : State := { (s.setNv 0 { s.nvFace 0 with feat := 127 }).setRstate 0 0 with chip := .opened, dch := { s.dch with hard := [], repairs := [] }, job := { s.job with jobs := [{ ring := 0, idx := 3, op := 3, tag := 7, notify := false, len := 2, src := 0, dst := 0, arg0 := 0, arg1 := 0, iv := 0, pos := 1, aux := 0, pass := 0, parked := false, chain := 0, hash := 0, seq := 0, fin := none, slabs := s.faceSlabs 0 }] } } |> fun s => ((s.wr (CLK_ISL.STATE islJob) islOn).wr JOB_STATUS.FENCED 0).wr (HPT_STATUS.OPEN 0) 1 |>.wr GAL_STATUS.MODE 0 |>.setLock 0 15 false |>.wr (ADM_CLS.BUCKET 3) 99 |> fun s => s.setRing 0 { s.ring 0 with st := 1, log2 := 4, sqBase := 0x10000, cqBase := 0x20000 } |> fun s => ({ s with slb := { s.slb with ift := [] } }).clearDirty 0; s), by decide +kernel⟩

/-- Clauses of Jobs have states and operands that meet their conditions. -/
theorem test_conditions_Jobs_3 :
    (∃ (ring tag : Nat) (f : Nat) (j : Job) (n : Nat) (s : State), s.chip ≠ .off ∧ s.ringFace ring = some f ∧ s.jobsRun ring = true ∧ (s.ringJobs ring).find? (fun j => j.op == 3 && j.tag == tag && j.fin.isNone) = some j ∧ ((s.rangeSetts f j.src j.len).filterMap id).length ≤ j.pos ∧ ((s.rangeSetts f j.src j.len).filterMap id).any (fun k => (s.haulOf k).isSome) = false ∧ s.dirtyOf ((s.rangeSetts f j.src j.len).filterMap id) = n ∧ 0 < n ∧ Nat.max 1 (s.rd JOB_CKPT.PASSES) ≤ j.pass + 1) ∧
    (∃ (ring : Nat) (desc : Nat) (sram : List (Nat × SramErr)) (s1 : State) (f : Nat) (j : Job) (s : State), s.chip ≠ .off ∧ s1 = s.sramAll sram ∧ s1.ringFace ring = some f ∧ s1.jobsRun ring = true ∧ (s1.ringJobs ring).find? (fun j => (j.op == 4 && !bitAt 0 j.arg0) && j.fin.isNone) = some j ∧ (s1.ringJobs ring).any (fun x => x.parked) = false ∧ s1.rangeStop f j.src j.len = none ∧ s1.pinned + ((s1.rangeSlabs f j.src j.len).filter (fun i => !(s1.slab i).pin)).length ≤ s1.rd JOB_PINCFG.MAX_SLABS ∧ s1.job.pins.length < 4096) ∧
    (∃ (ring : Nat) (desc : Nat) (sram : List (Nat × SramErr)) (s1 : State) (f : Nat) (j : Job) (s : State), s.chip ≠ .off ∧ s1 = s.sramAll sram ∧ s1.ringFace ring = some f ∧ s1.jobsRun ring = true ∧ (s1.ringJobs ring).find? (fun j => (j.op == 4 && !bitAt 0 j.arg0) && j.fin.isNone) = some j ∧ (s1.ringJobs ring).any (fun x => x.parked) = false ∧ s1.rangeStop f j.src j.len = none ∧ s1.rd JOB_PINCFG.MAX_SLABS < s1.pinned + ((s1.rangeSlabs f j.src j.len).filter (fun i => !(s1.slab i).pin)).length) := by
  refine ⟨?_, ?_, ?_⟩
  · exact ⟨0, 7, 0, { ring := 0, idx := 3, op := 3, tag := 7, notify := false, len := 2, src := 0, dst := 0, arg0 := 0, arg1 := 0, iv := 0#128, pos := 1, aux := 0, pass := 9, parked := false, chain := 0#128, hash := 0#128, seq := 0, fin := none, slabs := [0, 65536, 131072, 196608, 1, 65537, 131073, 196609, 2, 65538, 131074, 196610, 3, 65539, 131075, 196611, 4, 65540, 131076, 196612, 5, 65541, 131077, 196613, 6, 65542, 131078, 196614, 7, 65543, 131079, 196615, 8, 65544, 131080, 196616, 9, 65545, 131081, 196617, 10, 65546, 131082, 196618, 11, 65547, 131083, 196619, 12, 65548, 131084, 196620, 13, 65549, 131085, 196621, 14, 65550, 131086, 196622, 15, 65551, 131087, 196623, 16, 65552, 131088, 196624, 17, 65553, 131089, 196625, 18, 65554, 131090, 196626, 19, 65555, 131091, 196627, 20, 65556, 131092, 196628, 21, 65557, 131093, 196629, 22, 65558, 131094, 196630, 23, 65559, 131095, 196631, 24, 65560, 131096, 196632, 25, 65561, 131097, 196633, 26, 65562, 131098, 196634, 27, 65563, 131099, 196635, 28, 65564, 131100, 196636, 29, 65565, 131101, 196637, 30, 65566, 131102, 196638, 31, 65567, 131103, 196639, 32, 65568, 131104, 196640, 33, 65569, 131105, 196641, 34, 65570, 131106, 196642, 35, 65571, 131107, 196643, 36, 65572, 131108, 196644, 37, 65573, 131109, 196645, 38, 65574, 131110, 196646, 39, 65575, 131111, 196647, 40, 65576, 131112, 196648, 41, 65577, 131113, 196649, 42, 65578, 131114, 196650, 43, 65579, 131115, 196651, 44, 65580, 131116, 196652, 45, 65581, 131117, 196653, 46, 65582, 131118, 196654, 47, 65583, 131119, 196655, 48, 65584, 131120, 196656, 49, 65585, 131121, 196657, 50, 65586, 131122, 196658, 51, 65587, 131123, 196659, 52, 65588, 131124, 196660, 53, 65589, 131125, 196661, 54, 65590, 131126, 196662, 55, 65591, 131127, 196663, 56, 65592, 131128, 196664, 57, 65593, 131129, 196665, 58, 65594, 131130, 196666, 59, 65595, 131131, 196667, 60, 65596, 131132, 196668, 61, 65597, 131133, 196669, 62, 65598, 131134, 196670, 63, 65599, 131135, 196671, 64, 65600, 131136, 196672, 65, 65601, 131137, 196673, 66, 65602, 131138, 196674, 67, 65603, 131139, 196675, 68, 65604, 131140, 196676, 69, 65605, 131141, 196677, 70, 65606, 131142, 196678, 71, 65607, 131143, 196679, 72, 65608, 131144, 196680, 73, 65609, 131145, 196681, 74, 65610, 131146, 196682, 75, 65611, 131147, 196683, 76, 65612, 131148, 196684, 77, 65613, 131149, 196685, 78, 65614, 131150, 196686, 79, 65615, 131151, 196687, 80, 65616, 131152, 196688, 81, 65617, 131153, 196689, 82, 65618, 131154, 196690, 83, 65619, 131155, 196691, 84, 65620, 131156, 196692, 85, 65621, 131157, 196693, 86, 65622, 131158, 196694, 87, 65623, 131159, 196695, 88, 65624, 131160, 196696, 89, 65625, 131161, 196697, 90, 65626, 131162, 196698, 91, 65627, 131163, 196699, 92, 65628, 131164, 196700, 93, 65629, 131165, 196701, 94, 65630, 131166, 196702, 95, 65631, 131167, 196703, 96, 65632, 131168, 196704, 97, 65633, 131169, 196705, 98, 65634, 131170, 196706, 99, 65635, 131171, 196707, 100, 65636, 131172, 196708, 101, 65637, 131173, 196709, 102, 65638, 131174, 196710, 103, 65639, 131175, 196711, 104, 65640, 131176, 196712, 105, 65641, 131177, 196713, 106, 65642, 131178, 196714, 107, 65643, 131179, 196715, 108, 65644, 131180, 196716, 109, 65645, 131181, 196717, 110, 65646, 131182, 196718, 111, 65647, 131183, 196719, 112, 65648, 131184, 196720, 113, 65649, 131185, 196721, 114, 65650, 131186, 196722, 115, 65651, 131187, 196723, 116, 65652, 131188, 196724, 117, 65653, 131189, 196725, 118, 65654, 131190, 196726, 119, 65655, 131191, 196727, 120, 65656, 131192, 196728, 121, 65657, 131193, 196729, 122, 65658, 131194, 196730, 123, 65659, 131195, 196731, 124, 65660, 131196, 196732, 125, 65661, 131197, 196733, 126, 65662, 131198, 196734, 127, 65663, 131199, 196735] }, 1, (let ring : Nat := 0; let tag : Nat := 0; let s : State := open0; let s : State := { (s.setNv 0 { s.nvFace 0 with feat := 127 }).setRstate 0 0 with chip := .opened, dch := { s.dch with hard := [], repairs := [] }, job := { s.job with jobs := [{ ring := 0, idx := 3, op := 3, tag := 7, notify := false, len := 2, src := 0, dst := 0, arg0 := 0, arg1 := 0, iv := 0, pos := 1, aux := 0, pass := 9, parked := false, chain := 0, hash := 0, seq := 0, fin := none, slabs := s.faceSlabs 0 }] } } |> fun s => ((s.wr (CLK_ISL.STATE islJob) islOn).wr JOB_STATUS.FENCED 0).wr (HPT_STATUS.OPEN 0) 1 |>.wr GAL_STATUS.MODE 0 |>.setLock 0 15 false |>.wr (ADM_CLS.BUCKET 3) 99 |> fun s => s.setRing 0 { s.ring 0 with st := 1, log2 := 4, sqBase := 0x10000, cqBase := 0x20000 } |> fun s => ({ s with slb := { s.slb with ift := [] } }).setDirty 0; s), by decide +kernel⟩
  · exact ⟨0, 0, [], { regs := [(393992, 0x2002#32), (589896, 0x630000#32), (656384, 1#32), (1048576, 0x808#32), (1048580, 0x3b#32), (18874400, 0x63#32)], tick := 100000, chip := .opened, margin := .sable, stamp := 0, stampTick := 0, fuse := { step := 0, serial := 0, blown := 0, provKey := 0#256, devKey := 0#256 }, bed := { fneg := [], chipReset := 0 }, svy := { run := [(16777216, 0x610#32), (16777220, 15#32), (17825792, 4#32), (17825796, 0x3020100#32), (18874368, 1#32), (18874372, 0x80000#32), (18874376, 8#32), (18874384, 0x101#32), (18874388, 0x80008#32), (18874392, 8#32), (20971520, 0x8180#32), (33554432, 0x8a04000#32), (33554436, 0x4040800#32), (33554440, 0x3e80048#32), (33554448, 1#32), (33554456, 1#32), (33554464, 1#32), (33554472, 1#32), (33554480, 1#32), (33554488, 1#32), (33554496, 1#32), (33554504, 1#32), (33554512, 1#32), (34603008, 0x30010#32), (34603012, 0x40030#32), (34603016, 0x40008#32), (34603024, 0x30010#32), (34603028, 0x40030#32), (34603032, 0x40008#32), (35651584, 3#32), (50331648, 0x32402#32), (50331652, 0x648000#32), (50331656, 0xc80642f#32), (50331660, 0x100003#32), (50331664, 0x64#32), (50331688, 15#32), (50331692, 0x114#32), (50331808, 0x201013f#32), (50331812, 0x201013f#32), (50331936, 0x10#32), (67108864, 1#32), (67108868, 0x1964#32), (67108872, 0x1964#32), (67108876, 0x2bf20#32), (67108880, 0x186a00#32), (67108884, 0xcccd#32), (67108888, 0xf852e666#32), (67108892, 0x28fd99a#32), (67108896, 0xb33300f6#32), (67108900, 0x28999a#32)], has := [16, 17, 18, 20, 32, 33, 34, 48, 64], loaded := true, shadow := true, staging := [], inst := [], live := false, cmd := 0, taken := [], face := 0, pairDig := 0#128 }, slb := { slabs := [], ready := true, owned := true, baseR := 0, grants := [], ift := [], lmap := [], image := [] }, lgr := { packA := { ebase := 0, energy := 0, rc := 0, fcc := 0, dc := 0, chem := 0, ma := 0, gaugeMv := 0, temp := 0, debit := 0, saveDebit := 0, hiScans := 0, loScans := 0, valid := 0, last := none, esr := [], esrTick := 0, gaugeTick := 0 }, packB := { ebase := 0, energy := 0, rc := 0, fcc := 0, dc := 0, chem := 0, ma := 0, gaugeMv := 0, temp := 0, debit := 0, saveDebit := 0, hiScans := 0, loScans := 0, valid := 0, last := none, esr := [], esrTick := 0, gaugeTick := 0 }, sableCnt := 0, extra := false }, adm := { rr := 7, jobq := [], wear := 0, wearHaul := 0, wearMark := 0, day := 0, repTick := [], repDue := [], repMargin := 3 }, haul := { ptr := [], cover := [], bank := 0, started := 0, done := 0, short := false, half := false, waitStk := [], waitSump := [], group := 0, stripes := [], nextStripe := 0, pfw := false, pfwTick := 0 }, save := { off := false, short := false, trigTick := 0, walkTick := 0, walked := false, railCut := false, powerBack := false, vol := 0, sumpStart := [], first := [], last := [], carve := [], pads := 0, fdirty := [], anchor := none, session := 0, openAfter := 0, down := false, spent := none, lodes := [], aggs := [], staging := [], numbers := [], ctx := { rings := [], lost := false, owners := [], running := [], cached := [] } }, stk := { recs := [], lodes := [], blks := [], remaps := [], broken := [], pseq := [], head := [], openLode := [], wlWait := [], intents := [], jpend := [], jrnl := [], jseq := 0, jpage := 0, jsaved := 0, dies := [], silent := [], accs := [], applied := [], folding := false, reworking := false, degraded := 0, bootBad := [], bootMap := [], hblock := 0, lpage := 0, lfix := 0, anchors := [], apage := 0, patrolWin := 0, patrolled := [], patrolRead := [] }, saves := [], res := { fetch := [], demand := [], lastPort := 7, prefetch := [], bgPtr := [], bgBank := 0, rebuilt := false, filling := false, trigTick := 0, counted := 0, memRec := 0, holdRec := [], newLost := [], trained := false, noKeys := false, anchored := false, scanTick := 0 }, dch := { mem := [], poison := [], banks := [], repairs := [], hard := [], devCe := [], eqCe := [], eqTick := [], eqTemp := [], bootTemps := [], taps := [], ueRun := [], late := [], early := [], refBank := [], periodCe := 0, win := 0, limits := [3600, 4096, 256, 16, 64], mig := none, rankMap := [], crdMap := [], inForce := [], cfgNew := [], lastReq := [], actLimit := [], rankSr := [], eqRun := [], scrubTick := [], prev := [], ceTotal := [] }, ports := [], nv := [(0, { dirty := 0, shutdown := 0, feat := 0x7f#128, lsa := [] })], job := { rings := [(0, { st := 1, err := 0, log2 := 4, vector := 0, imod := 0, sqHead := 0, sqTail := 0, cqTail := 0, cqHead := 0, sqBase := 65536, cqBase := 131072, done := 0, errors := 0, pend := false, irqDue := false, irqRun := false })], cache := [], jobs := [{ ring := 0, idx := 3, op := 4, tag := 7, notify := false, len := 2000, src := 0, dst := 0, arg0 := 0, arg1 := 0, iv := 0#128, pos := 0, aux := 0, pass := 0, parked := false, chain := 0#128, hash := 0#128, seq := 0, fin := none, slabs := [0, 65536, 131072, 196608, 1, 65537, 131073, 196609, 2, 65538, 131074, 196610, 3, 65539, 131075, 196611, 4, 65540, 131076, 196612, 5, 65541, 131077, 196613, 6, 65542, 131078, 196614, 7, 65543, 131079, 196615, 8, 65544, 131080, 196616, 9, 65545, 131081, 196617, 10, 65546, 131082, 196618, 11, 65547, 131083, 196619, 12, 65548, 131084, 196620, 13, 65549, 131085, 196621, 14, 65550, 131086, 196622, 15, 65551, 131087, 196623, 16, 65552, 131088, 196624, 17, 65553, 131089, 196625, 18, 65554, 131090, 196626, 19, 65555, 131091, 196627, 20, 65556, 131092, 196628, 21, 65557, 131093, 196629, 22, 65558, 131094, 196630, 23, 65559, 131095, 196631, 24, 65560, 131096, 196632, 25, 65561, 131097, 196633, 26, 65562, 131098, 196634, 27, 65563, 131099, 196635, 28, 65564, 131100, 196636, 29, 65565, 131101, 196637, 30, 65566, 131102, 196638, 31, 65567, 131103, 196639, 32, 65568, 131104, 196640, 33, 65569, 131105, 196641, 34, 65570, 131106, 196642, 35, 65571, 131107, 196643, 36, 65572, 131108, 196644, 37, 65573, 131109, 196645, 38, 65574, 131110, 196646, 39, 65575, 131111, 196647, 40, 65576, 131112, 196648, 41, 65577, 131113, 196649, 42, 65578, 131114, 196650, 43, 65579, 131115, 196651, 44, 65580, 131116, 196652, 45, 65581, 131117, 196653, 46, 65582, 131118, 196654, 47, 65583, 131119, 196655, 48, 65584, 131120, 196656, 49, 65585, 131121, 196657, 50, 65586, 131122, 196658, 51, 65587, 131123, 196659, 52, 65588, 131124, 196660, 53, 65589, 131125, 196661, 54, 65590, 131126, 196662, 55, 65591, 131127, 196663, 56, 65592, 131128, 196664, 57, 65593, 131129, 196665, 58, 65594, 131130, 196666, 59, 65595, 131131, 196667, 60, 65596, 131132, 196668, 61, 65597, 131133, 196669, 62, 65598, 131134, 196670, 63, 65599, 131135, 196671, 64, 65600, 131136, 196672, 65, 65601, 131137, 196673, 66, 65602, 131138, 196674, 67, 65603, 131139, 196675, 68, 65604, 131140, 196676, 69, 65605, 131141, 196677, 70, 65606, 131142, 196678, 71, 65607, 131143, 196679, 72, 65608, 131144, 196680, 73, 65609, 131145, 196681, 74, 65610, 131146, 196682, 75, 65611, 131147, 196683, 76, 65612, 131148, 196684, 77, 65613, 131149, 196685, 78, 65614, 131150, 196686, 79, 65615, 131151, 196687, 80, 65616, 131152, 196688, 81, 65617, 131153, 196689, 82, 65618, 131154, 196690, 83, 65619, 131155, 196691, 84, 65620, 131156, 196692, 85, 65621, 131157, 196693, 86, 65622, 131158, 196694, 87, 65623, 131159, 196695, 88, 65624, 131160, 196696, 89, 65625, 131161, 196697, 90, 65626, 131162, 196698, 91, 65627, 131163, 196699, 92, 65628, 131164, 196700, 93, 65629, 131165, 196701, 94, 65630, 131166, 196702, 95, 65631, 131167, 196703, 96, 65632, 131168, 196704, 97, 65633, 131169, 196705, 98, 65634, 131170, 196706, 99, 65635, 131171, 196707, 100, 65636, 131172, 196708, 101, 65637, 131173, 196709, 102, 65638, 131174, 196710, 103, 65639, 131175, 196711, 104, 65640, 131176, 196712, 105, 65641, 131177, 196713, 106, 65642, 131178, 196714, 107, 65643, 131179, 196715, 108, 65644, 131180, 196716, 109, 65645, 131181, 196717, 110, 65646, 131182, 196718, 111, 65647, 131183, 196719, 112, 65648, 131184, 196720, 113, 65649, 131185, 196721, 114, 65650, 131186, 196722, 115, 65651, 131187, 196723, 116, 65652, 131188, 196724, 117, 65653, 131189, 196725, 118, 65654, 131190, 196726, 119, 65655, 131191, 196727, 120, 65656, 131192, 196728, 121, 65657, 131193, 196729, 122, 65658, 131194, 196730, 123, 65659, 131195, 196731, 124, 65660, 131196, 196732, 125, 65661, 131197, 196733, 126, 65662, 131198, 196734, 127, 65663, 131199, 196735] }], pins := [], lost := false, fenceDue := 0, inits := [] }, cip := { keys := [], keyin := [], store := [], storeOk := false, ceiling := 0, storeSeq := 0, cmd := none, purge := [], stale := [], erasePend := 0, eraseSan := 0, rotate := [], misWin := [], next := 0, kat := [] }, gal := { epoch := 0#64, joinEpoch := 0#64, peerFenced := false, sent := [], held := [], fwds := [], nextTag := 0, lines := [], peerLines := [], joinStep := 0, listGot := false, rslvGot := false, lineWait := [], asks := [], nextAsk := 0, reqs := [], ctls := [], rslvSlab := 0, rslvSett := 0, rslvQuota := 0, kept := false, peerEpoch := 0#64, fullFor := 0, replays := [], lastFlit := [0, 0], lastBeat := 0, graceAt := 0, seen := 0, joinAt := 0, hello := [false, false], handover := 0, zeroing := [] }, seq := { stage := .idle, order := [], good := [], bad := [], low := [], high := [], glitch := [], glitchPrev := [], glitchWin := 0, latchAfter := false, offTick := 0, minOff := true, timed := false, offPend := false, noDnWait := false, inGood := 0, inLow := 0, pwrLow := false, pfwTick := 0, pfwLate := false, stretch := 0, pulse := 0, pg00Told := false, pg00Good := 0, pg00Bad := 0, pg00Ok := false, latchSave := false, syncDrive := false, lowTold := false, timedTick := 0 }, clk := { rising := [], tripSeen := false, refFail := false }, flt := { raised := [], irqq := [], win := [], esc := [], thrNew := [], winNew := [], rst := none, later := [], holdAfter := false }, clg := { live := [], staging := [], forming := [], phase := 0, pend := [], held := [], log := [], win := none, fetch := none, extDay := 0, railLogged := false, bootLogged := false, ffcAtWaking := [0, 0, 0], subSec := 0, resumed := false }, twb := { ports := [], alert := false, alertTick := 0, mctp := 0, sensTick := [] }, fwm := { slotA := { image := [], sealed := false, tag := 0#128, next := [], blk := 0 }, slotB := { image := [], sealed := false, tag := 0#128, next := [], blk := 0 }, active := 0, trial := false, tries := 0, staging := none, xfer := 0, xferFace := 0, running := true, alive := false, prev := 0, handoff := false, recovery := false, svyEpoch := 0, openCmds := [], waiting := [], bootTick := 0 }, pin := { testen := false, power := true, tap := .bypass, railset := 0, err := false }, pending := [], out := [], free := 0 }, 0, { ring := 0, idx := 3, op := 4, tag := 7, notify := false, len := 2000, src := 0, dst := 0, arg0 := 0, arg1 := 0, iv := 0#128, pos := 0, aux := 0, pass := 0, parked := false, chain := 0#128, hash := 0#128, seq := 0, fin := none, slabs := [0, 65536, 131072, 196608, 1, 65537, 131073, 196609, 2, 65538, 131074, 196610, 3, 65539, 131075, 196611, 4, 65540, 131076, 196612, 5, 65541, 131077, 196613, 6, 65542, 131078, 196614, 7, 65543, 131079, 196615, 8, 65544, 131080, 196616, 9, 65545, 131081, 196617, 10, 65546, 131082, 196618, 11, 65547, 131083, 196619, 12, 65548, 131084, 196620, 13, 65549, 131085, 196621, 14, 65550, 131086, 196622, 15, 65551, 131087, 196623, 16, 65552, 131088, 196624, 17, 65553, 131089, 196625, 18, 65554, 131090, 196626, 19, 65555, 131091, 196627, 20, 65556, 131092, 196628, 21, 65557, 131093, 196629, 22, 65558, 131094, 196630, 23, 65559, 131095, 196631, 24, 65560, 131096, 196632, 25, 65561, 131097, 196633, 26, 65562, 131098, 196634, 27, 65563, 131099, 196635, 28, 65564, 131100, 196636, 29, 65565, 131101, 196637, 30, 65566, 131102, 196638, 31, 65567, 131103, 196639, 32, 65568, 131104, 196640, 33, 65569, 131105, 196641, 34, 65570, 131106, 196642, 35, 65571, 131107, 196643, 36, 65572, 131108, 196644, 37, 65573, 131109, 196645, 38, 65574, 131110, 196646, 39, 65575, 131111, 196647, 40, 65576, 131112, 196648, 41, 65577, 131113, 196649, 42, 65578, 131114, 196650, 43, 65579, 131115, 196651, 44, 65580, 131116, 196652, 45, 65581, 131117, 196653, 46, 65582, 131118, 196654, 47, 65583, 131119, 196655, 48, 65584, 131120, 196656, 49, 65585, 131121, 196657, 50, 65586, 131122, 196658, 51, 65587, 131123, 196659, 52, 65588, 131124, 196660, 53, 65589, 131125, 196661, 54, 65590, 131126, 196662, 55, 65591, 131127, 196663, 56, 65592, 131128, 196664, 57, 65593, 131129, 196665, 58, 65594, 131130, 196666, 59, 65595, 131131, 196667, 60, 65596, 131132, 196668, 61, 65597, 131133, 196669, 62, 65598, 131134, 196670, 63, 65599, 131135, 196671, 64, 65600, 131136, 196672, 65, 65601, 131137, 196673, 66, 65602, 131138, 196674, 67, 65603, 131139, 196675, 68, 65604, 131140, 196676, 69, 65605, 131141, 196677, 70, 65606, 131142, 196678, 71, 65607, 131143, 196679, 72, 65608, 131144, 196680, 73, 65609, 131145, 196681, 74, 65610, 131146, 196682, 75, 65611, 131147, 196683, 76, 65612, 131148, 196684, 77, 65613, 131149, 196685, 78, 65614, 131150, 196686, 79, 65615, 131151, 196687, 80, 65616, 131152, 196688, 81, 65617, 131153, 196689, 82, 65618, 131154, 196690, 83, 65619, 131155, 196691, 84, 65620, 131156, 196692, 85, 65621, 131157, 196693, 86, 65622, 131158, 196694, 87, 65623, 131159, 196695, 88, 65624, 131160, 196696, 89, 65625, 131161, 196697, 90, 65626, 131162, 196698, 91, 65627, 131163, 196699, 92, 65628, 131164, 196700, 93, 65629, 131165, 196701, 94, 65630, 131166, 196702, 95, 65631, 131167, 196703, 96, 65632, 131168, 196704, 97, 65633, 131169, 196705, 98, 65634, 131170, 196706, 99, 65635, 131171, 196707, 100, 65636, 131172, 196708, 101, 65637, 131173, 196709, 102, 65638, 131174, 196710, 103, 65639, 131175, 196711, 104, 65640, 131176, 196712, 105, 65641, 131177, 196713, 106, 65642, 131178, 196714, 107, 65643, 131179, 196715, 108, 65644, 131180, 196716, 109, 65645, 131181, 196717, 110, 65646, 131182, 196718, 111, 65647, 131183, 196719, 112, 65648, 131184, 196720, 113, 65649, 131185, 196721, 114, 65650, 131186, 196722, 115, 65651, 131187, 196723, 116, 65652, 131188, 196724, 117, 65653, 131189, 196725, 118, 65654, 131190, 196726, 119, 65655, 131191, 196727, 120, 65656, 131192, 196728, 121, 65657, 131193, 196729, 122, 65658, 131194, 196730, 123, 65659, 131195, 196731, 124, 65660, 131196, 196732, 125, 65661, 131197, 196733, 126, 65662, 131198, 196734, 127, 65663, 131199, 196735] }, (let ring : Nat := 0; let s : State := open0; let s : State := { (s.setNv 0 { s.nvFace 0 with feat := 127 }).setRstate 0 0 with chip := .opened, dch := { s.dch with hard := [], repairs := [] }, job := { s.job with jobs := [{ ring := 0, idx := 3, op := 4, tag := 7, notify := false, len := 2000, src := 0, dst := 0, arg0 := 0, arg1 := 0, iv := 0, pos := 0, aux := 0, pass := 0, parked := false, chain := 0, hash := 0, seq := 0, fin := none, slabs := s.faceSlabs 0 }] } } |> fun s => ((s.wr (CLK_ISL.STATE islJob) islOn).wr JOB_STATUS.FENCED 0).wr (HPT_STATUS.OPEN 0) 1 |>.wr GAL_STATUS.MODE 0 |>.setLock 0 15 false |>.wr (ADM_CLS.BUCKET 3) 99 |> fun s => s.setRing 0 { s.ring 0 with st := 1, log2 := 4, sqBase := 0x10000, cqBase := 0x20000 } |> fun s => s.wr JOB_PINCFG.MAX_SLABS 99 ; s), by decide +kernel⟩
  · exact ⟨0, 0, [], { regs := [(393992, 0x2002#32), (589896, 0x630000#32), (656384, 1#32), (1048576, 0x808#32), (1048580, 0x3b#32), (18874400, 0#32)], tick := 100000, chip := .opened, margin := .sable, stamp := 0, stampTick := 0, fuse := { step := 0, serial := 0, blown := 0, provKey := 0#256, devKey := 0#256 }, bed := { fneg := [], chipReset := 0 }, svy := { run := [(16777216, 0x610#32), (16777220, 15#32), (17825792, 4#32), (17825796, 0x3020100#32), (18874368, 1#32), (18874372, 0x80000#32), (18874376, 8#32), (18874384, 0x101#32), (18874388, 0x80008#32), (18874392, 8#32), (20971520, 0x8180#32), (33554432, 0x8a04000#32), (33554436, 0x4040800#32), (33554440, 0x3e80048#32), (33554448, 1#32), (33554456, 1#32), (33554464, 1#32), (33554472, 1#32), (33554480, 1#32), (33554488, 1#32), (33554496, 1#32), (33554504, 1#32), (33554512, 1#32), (34603008, 0x30010#32), (34603012, 0x40030#32), (34603016, 0x40008#32), (34603024, 0x30010#32), (34603028, 0x40030#32), (34603032, 0x40008#32), (35651584, 3#32), (50331648, 0x32402#32), (50331652, 0x648000#32), (50331656, 0xc80642f#32), (50331660, 0x100003#32), (50331664, 0x64#32), (50331688, 15#32), (50331692, 0x114#32), (50331808, 0x201013f#32), (50331812, 0x201013f#32), (50331936, 0x10#32), (67108864, 1#32), (67108868, 0x1964#32), (67108872, 0x1964#32), (67108876, 0x2bf20#32), (67108880, 0x186a00#32), (67108884, 0xcccd#32), (67108888, 0xf852e666#32), (67108892, 0x28fd99a#32), (67108896, 0xb33300f6#32), (67108900, 0x28999a#32)], has := [16, 17, 18, 20, 32, 33, 34, 48, 64], loaded := true, shadow := true, staging := [], inst := [], live := false, cmd := 0, taken := [], face := 0, pairDig := 0#128 }, slb := { slabs := [], ready := true, owned := true, baseR := 0, grants := [], ift := [], lmap := [], image := [] }, lgr := { packA := { ebase := 0, energy := 0, rc := 0, fcc := 0, dc := 0, chem := 0, ma := 0, gaugeMv := 0, temp := 0, debit := 0, saveDebit := 0, hiScans := 0, loScans := 0, valid := 0, last := none, esr := [], esrTick := 0, gaugeTick := 0 }, packB := { ebase := 0, energy := 0, rc := 0, fcc := 0, dc := 0, chem := 0, ma := 0, gaugeMv := 0, temp := 0, debit := 0, saveDebit := 0, hiScans := 0, loScans := 0, valid := 0, last := none, esr := [], esrTick := 0, gaugeTick := 0 }, sableCnt := 0, extra := false }, adm := { rr := 7, jobq := [], wear := 0, wearHaul := 0, wearMark := 0, day := 0, repTick := [], repDue := [], repMargin := 3 }, haul := { ptr := [], cover := [], bank := 0, started := 0, done := 0, short := false, half := false, waitStk := [], waitSump := [], group := 0, stripes := [], nextStripe := 0, pfw := false, pfwTick := 0 }, save := { off := false, short := false, trigTick := 0, walkTick := 0, walked := false, railCut := false, powerBack := false, vol := 0, sumpStart := [], first := [], last := [], carve := [], pads := 0, fdirty := [], anchor := none, session := 0, openAfter := 0, down := false, spent := none, lodes := [], aggs := [], staging := [], numbers := [], ctx := { rings := [], lost := false, owners := [], running := [], cached := [] } }, stk := { recs := [], lodes := [], blks := [], remaps := [], broken := [], pseq := [], head := [], openLode := [], wlWait := [], intents := [], jpend := [], jrnl := [], jseq := 0, jpage := 0, jsaved := 0, dies := [], silent := [], accs := [], applied := [], folding := false, reworking := false, degraded := 0, bootBad := [], bootMap := [], hblock := 0, lpage := 0, lfix := 0, anchors := [], apage := 0, patrolWin := 0, patrolled := [], patrolRead := [] }, saves := [], res := { fetch := [], demand := [], lastPort := 7, prefetch := [], bgPtr := [], bgBank := 0, rebuilt := false, filling := false, trigTick := 0, counted := 0, memRec := 0, holdRec := [], newLost := [], trained := false, noKeys := false, anchored := false, scanTick := 0 }, dch := { mem := [], poison := [], banks := [], repairs := [], hard := [], devCe := [], eqCe := [], eqTick := [], eqTemp := [], bootTemps := [], taps := [], ueRun := [], late := [], early := [], refBank := [], periodCe := 0, win := 0, limits := [3600, 4096, 256, 16, 64], mig := none, rankMap := [], crdMap := [], inForce := [], cfgNew := [], lastReq := [], actLimit := [], rankSr := [], eqRun := [], scrubTick := [], prev := [], ceTotal := [] }, ports := [], nv := [(0, { dirty := 0, shutdown := 0, feat := 0x7f#128, lsa := [] })], job := { rings := [(0, { st := 1, err := 0, log2 := 4, vector := 0, imod := 0, sqHead := 0, sqTail := 0, cqTail := 0, cqHead := 0, sqBase := 65536, cqBase := 131072, done := 0, errors := 0, pend := false, irqDue := false, irqRun := false })], cache := [], jobs := [{ ring := 0, idx := 3, op := 4, tag := 7, notify := false, len := 2000, src := 0, dst := 0, arg0 := 0, arg1 := 0, iv := 0#128, pos := 0, aux := 0, pass := 0, parked := false, chain := 0#128, hash := 0#128, seq := 0, fin := none, slabs := [0, 65536, 131072, 196608, 1, 65537, 131073, 196609, 2, 65538, 131074, 196610, 3, 65539, 131075, 196611, 4, 65540, 131076, 196612, 5, 65541, 131077, 196613, 6, 65542, 131078, 196614, 7, 65543, 131079, 196615, 8, 65544, 131080, 196616, 9, 65545, 131081, 196617, 10, 65546, 131082, 196618, 11, 65547, 131083, 196619, 12, 65548, 131084, 196620, 13, 65549, 131085, 196621, 14, 65550, 131086, 196622, 15, 65551, 131087, 196623, 16, 65552, 131088, 196624, 17, 65553, 131089, 196625, 18, 65554, 131090, 196626, 19, 65555, 131091, 196627, 20, 65556, 131092, 196628, 21, 65557, 131093, 196629, 22, 65558, 131094, 196630, 23, 65559, 131095, 196631, 24, 65560, 131096, 196632, 25, 65561, 131097, 196633, 26, 65562, 131098, 196634, 27, 65563, 131099, 196635, 28, 65564, 131100, 196636, 29, 65565, 131101, 196637, 30, 65566, 131102, 196638, 31, 65567, 131103, 196639, 32, 65568, 131104, 196640, 33, 65569, 131105, 196641, 34, 65570, 131106, 196642, 35, 65571, 131107, 196643, 36, 65572, 131108, 196644, 37, 65573, 131109, 196645, 38, 65574, 131110, 196646, 39, 65575, 131111, 196647, 40, 65576, 131112, 196648, 41, 65577, 131113, 196649, 42, 65578, 131114, 196650, 43, 65579, 131115, 196651, 44, 65580, 131116, 196652, 45, 65581, 131117, 196653, 46, 65582, 131118, 196654, 47, 65583, 131119, 196655, 48, 65584, 131120, 196656, 49, 65585, 131121, 196657, 50, 65586, 131122, 196658, 51, 65587, 131123, 196659, 52, 65588, 131124, 196660, 53, 65589, 131125, 196661, 54, 65590, 131126, 196662, 55, 65591, 131127, 196663, 56, 65592, 131128, 196664, 57, 65593, 131129, 196665, 58, 65594, 131130, 196666, 59, 65595, 131131, 196667, 60, 65596, 131132, 196668, 61, 65597, 131133, 196669, 62, 65598, 131134, 196670, 63, 65599, 131135, 196671, 64, 65600, 131136, 196672, 65, 65601, 131137, 196673, 66, 65602, 131138, 196674, 67, 65603, 131139, 196675, 68, 65604, 131140, 196676, 69, 65605, 131141, 196677, 70, 65606, 131142, 196678, 71, 65607, 131143, 196679, 72, 65608, 131144, 196680, 73, 65609, 131145, 196681, 74, 65610, 131146, 196682, 75, 65611, 131147, 196683, 76, 65612, 131148, 196684, 77, 65613, 131149, 196685, 78, 65614, 131150, 196686, 79, 65615, 131151, 196687, 80, 65616, 131152, 196688, 81, 65617, 131153, 196689, 82, 65618, 131154, 196690, 83, 65619, 131155, 196691, 84, 65620, 131156, 196692, 85, 65621, 131157, 196693, 86, 65622, 131158, 196694, 87, 65623, 131159, 196695, 88, 65624, 131160, 196696, 89, 65625, 131161, 196697, 90, 65626, 131162, 196698, 91, 65627, 131163, 196699, 92, 65628, 131164, 196700, 93, 65629, 131165, 196701, 94, 65630, 131166, 196702, 95, 65631, 131167, 196703, 96, 65632, 131168, 196704, 97, 65633, 131169, 196705, 98, 65634, 131170, 196706, 99, 65635, 131171, 196707, 100, 65636, 131172, 196708, 101, 65637, 131173, 196709, 102, 65638, 131174, 196710, 103, 65639, 131175, 196711, 104, 65640, 131176, 196712, 105, 65641, 131177, 196713, 106, 65642, 131178, 196714, 107, 65643, 131179, 196715, 108, 65644, 131180, 196716, 109, 65645, 131181, 196717, 110, 65646, 131182, 196718, 111, 65647, 131183, 196719, 112, 65648, 131184, 196720, 113, 65649, 131185, 196721, 114, 65650, 131186, 196722, 115, 65651, 131187, 196723, 116, 65652, 131188, 196724, 117, 65653, 131189, 196725, 118, 65654, 131190, 196726, 119, 65655, 131191, 196727, 120, 65656, 131192, 196728, 121, 65657, 131193, 196729, 122, 65658, 131194, 196730, 123, 65659, 131195, 196731, 124, 65660, 131196, 196732, 125, 65661, 131197, 196733, 126, 65662, 131198, 196734, 127, 65663, 131199, 196735] }], pins := [], lost := false, fenceDue := 0, inits := [] }, cip := { keys := [], keyin := [], store := [], storeOk := false, ceiling := 0, storeSeq := 0, cmd := none, purge := [], stale := [], erasePend := 0, eraseSan := 0, rotate := [], misWin := [], next := 0, kat := [] }, gal := { epoch := 0#64, joinEpoch := 0#64, peerFenced := false, sent := [], held := [], fwds := [], nextTag := 0, lines := [], peerLines := [], joinStep := 0, listGot := false, rslvGot := false, lineWait := [], asks := [], nextAsk := 0, reqs := [], ctls := [], rslvSlab := 0, rslvSett := 0, rslvQuota := 0, kept := false, peerEpoch := 0#64, fullFor := 0, replays := [], lastFlit := [0, 0], lastBeat := 0, graceAt := 0, seen := 0, joinAt := 0, hello := [false, false], handover := 0, zeroing := [] }, seq := { stage := .idle, order := [], good := [], bad := [], low := [], high := [], glitch := [], glitchPrev := [], glitchWin := 0, latchAfter := false, offTick := 0, minOff := true, timed := false, offPend := false, noDnWait := false, inGood := 0, inLow := 0, pwrLow := false, pfwTick := 0, pfwLate := false, stretch := 0, pulse := 0, pg00Told := false, pg00Good := 0, pg00Bad := 0, pg00Ok := false, latchSave := false, syncDrive := false, lowTold := false, timedTick := 0 }, clk := { rising := [], tripSeen := false, refFail := false }, flt := { raised := [], irqq := [], win := [], esc := [], thrNew := [], winNew := [], rst := none, later := [], holdAfter := false }, clg := { live := [], staging := [], forming := [], phase := 0, pend := [], held := [], log := [], win := none, fetch := none, extDay := 0, railLogged := false, bootLogged := false, ffcAtWaking := [0, 0, 0], subSec := 0, resumed := false }, twb := { ports := [], alert := false, alertTick := 0, mctp := 0, sensTick := [] }, fwm := { slotA := { image := [], sealed := false, tag := 0#128, next := [], blk := 0 }, slotB := { image := [], sealed := false, tag := 0#128, next := [], blk := 0 }, active := 0, trial := false, tries := 0, staging := none, xfer := 0, xferFace := 0, running := true, alive := false, prev := 0, handoff := false, recovery := false, svyEpoch := 0, openCmds := [], waiting := [], bootTick := 0 }, pin := { testen := false, power := true, tap := .bypass, railset := 0, err := false }, pending := [], out := [], free := 0 }, 0, { ring := 0, idx := 3, op := 4, tag := 7, notify := false, len := 2000, src := 0, dst := 0, arg0 := 0, arg1 := 0, iv := 0#128, pos := 0, aux := 0, pass := 0, parked := false, chain := 0#128, hash := 0#128, seq := 0, fin := none, slabs := [0, 65536, 131072, 196608, 1, 65537, 131073, 196609, 2, 65538, 131074, 196610, 3, 65539, 131075, 196611, 4, 65540, 131076, 196612, 5, 65541, 131077, 196613, 6, 65542, 131078, 196614, 7, 65543, 131079, 196615, 8, 65544, 131080, 196616, 9, 65545, 131081, 196617, 10, 65546, 131082, 196618, 11, 65547, 131083, 196619, 12, 65548, 131084, 196620, 13, 65549, 131085, 196621, 14, 65550, 131086, 196622, 15, 65551, 131087, 196623, 16, 65552, 131088, 196624, 17, 65553, 131089, 196625, 18, 65554, 131090, 196626, 19, 65555, 131091, 196627, 20, 65556, 131092, 196628, 21, 65557, 131093, 196629, 22, 65558, 131094, 196630, 23, 65559, 131095, 196631, 24, 65560, 131096, 196632, 25, 65561, 131097, 196633, 26, 65562, 131098, 196634, 27, 65563, 131099, 196635, 28, 65564, 131100, 196636, 29, 65565, 131101, 196637, 30, 65566, 131102, 196638, 31, 65567, 131103, 196639, 32, 65568, 131104, 196640, 33, 65569, 131105, 196641, 34, 65570, 131106, 196642, 35, 65571, 131107, 196643, 36, 65572, 131108, 196644, 37, 65573, 131109, 196645, 38, 65574, 131110, 196646, 39, 65575, 131111, 196647, 40, 65576, 131112, 196648, 41, 65577, 131113, 196649, 42, 65578, 131114, 196650, 43, 65579, 131115, 196651, 44, 65580, 131116, 196652, 45, 65581, 131117, 196653, 46, 65582, 131118, 196654, 47, 65583, 131119, 196655, 48, 65584, 131120, 196656, 49, 65585, 131121, 196657, 50, 65586, 131122, 196658, 51, 65587, 131123, 196659, 52, 65588, 131124, 196660, 53, 65589, 131125, 196661, 54, 65590, 131126, 196662, 55, 65591, 131127, 196663, 56, 65592, 131128, 196664, 57, 65593, 131129, 196665, 58, 65594, 131130, 196666, 59, 65595, 131131, 196667, 60, 65596, 131132, 196668, 61, 65597, 131133, 196669, 62, 65598, 131134, 196670, 63, 65599, 131135, 196671, 64, 65600, 131136, 196672, 65, 65601, 131137, 196673, 66, 65602, 131138, 196674, 67, 65603, 131139, 196675, 68, 65604, 131140, 196676, 69, 65605, 131141, 196677, 70, 65606, 131142, 196678, 71, 65607, 131143, 196679, 72, 65608, 131144, 196680, 73, 65609, 131145, 196681, 74, 65610, 131146, 196682, 75, 65611, 131147, 196683, 76, 65612, 131148, 196684, 77, 65613, 131149, 196685, 78, 65614, 131150, 196686, 79, 65615, 131151, 196687, 80, 65616, 131152, 196688, 81, 65617, 131153, 196689, 82, 65618, 131154, 196690, 83, 65619, 131155, 196691, 84, 65620, 131156, 196692, 85, 65621, 131157, 196693, 86, 65622, 131158, 196694, 87, 65623, 131159, 196695, 88, 65624, 131160, 196696, 89, 65625, 131161, 196697, 90, 65626, 131162, 196698, 91, 65627, 131163, 196699, 92, 65628, 131164, 196700, 93, 65629, 131165, 196701, 94, 65630, 131166, 196702, 95, 65631, 131167, 196703, 96, 65632, 131168, 196704, 97, 65633, 131169, 196705, 98, 65634, 131170, 196706, 99, 65635, 131171, 196707, 100, 65636, 131172, 196708, 101, 65637, 131173, 196709, 102, 65638, 131174, 196710, 103, 65639, 131175, 196711, 104, 65640, 131176, 196712, 105, 65641, 131177, 196713, 106, 65642, 131178, 196714, 107, 65643, 131179, 196715, 108, 65644, 131180, 196716, 109, 65645, 131181, 196717, 110, 65646, 131182, 196718, 111, 65647, 131183, 196719, 112, 65648, 131184, 196720, 113, 65649, 131185, 196721, 114, 65650, 131186, 196722, 115, 65651, 131187, 196723, 116, 65652, 131188, 196724, 117, 65653, 131189, 196725, 118, 65654, 131190, 196726, 119, 65655, 131191, 196727, 120, 65656, 131192, 196728, 121, 65657, 131193, 196729, 122, 65658, 131194, 196730, 123, 65659, 131195, 196731, 124, 65660, 131196, 196732, 125, 65661, 131197, 196733, 126, 65662, 131198, 196734, 127, 65663, 131199, 196735] }, (let ring : Nat := 0; let s : State := open0; let s : State := { (s.setNv 0 { s.nvFace 0 with feat := 127 }).setRstate 0 0 with chip := .opened, dch := { s.dch with hard := [], repairs := [] }, job := { s.job with jobs := [{ ring := 0, idx := 3, op := 4, tag := 7, notify := false, len := 2000, src := 0, dst := 0, arg0 := 0, arg1 := 0, iv := 0, pos := 0, aux := 0, pass := 0, parked := false, chain := 0, hash := 0, seq := 0, fin := none, slabs := s.faceSlabs 0 }] } } |> fun s => ((s.wr (CLK_ISL.STATE islJob) islOn).wr JOB_STATUS.FENCED 0).wr (HPT_STATUS.OPEN 0) 1 |>.wr GAL_STATUS.MODE 0 |>.setLock 0 15 false |>.wr (ADM_CLS.BUCKET 3) 99 |> fun s => s.setRing 0 { s.ring 0 with st := 1, log2 := 4, sqBase := 0x10000, cqBase := 0x20000 } |> fun s => s.wr JOB_PINCFG.MAX_SLABS 0 ; s), by decide +kernel⟩

/-- Clauses of Jobs have states and operands that meet their conditions. -/
theorem test_conditions_Jobs_4 :
    (∃ (ring : Nat) (desc : Nat) (sram : List (Nat × SramErr)) (s1 : State) (f : Nat) (j : Job) (p : Pin) (s : State), s.chip ≠ .off ∧ s1 = s.sramAll sram ∧ s1.ringFace ring = some f ∧ s1.jobsRun ring = true ∧ (s1.ringJobs ring).find? (fun j => (j.op == 4 && bitAt 0 j.arg0) && j.fin.isNone) = some j ∧ (s1.ringJobs ring).any (fun x => x.parked) = false ∧ s1.job.pins = [p] ∧ p.names f j.src j.len = true) ∧
    (∃ (ring : Nat) (desc : Nat) (sram : List (Nat × SramErr)) (s1 : State) (f : Nat) (j : Job) (p : Pin) (s : State), s.chip ≠ .off ∧ s1 = s.sramAll sram ∧ s1.ringFace ring = some f ∧ s1.jobsRun ring = true ∧ (s1.ringJobs ring).find? (fun j => (j.op == 4 && bitAt 0 j.arg0) && j.fin.isNone) = some j ∧ (s1.ringJobs ring).any (fun x => x.parked) = false ∧ s1.job.pins = [p, p] ∧ p.names f j.src j.len = true ∧ p.slabs ≠ []) ∧
    (∃ (ring : Nat) (desc : Nat) (sram : List (Nat × SramErr)) (s1 : State) (f : Nat) (j : Job) (s : State), s.chip ≠ .off ∧ s1 = s.sramAll sram ∧ s1.ringFace ring = some f ∧ s1.jobsRun ring = true ∧ (s1.ringJobs ring).find? (fun j => (j.op == 4 && bitAt 0 j.arg0) && j.fin.isNone) = some j ∧ (s1.ringJobs ring).any (fun x => x.parked) = false ∧ s1.job.pins.any (fun p => p.names f j.src j.len) = false) := by
  refine ⟨?_, ?_, ?_⟩
  · exact ⟨0, 0, [], { regs := [(393992, 0x2002#32), (589896, 0x630000#32), (656384, 1#32), (1048576, 0x808#32), (1048580, 0x3b#32)], tick := 100000, chip := .opened, margin := .sable, stamp := 0, stampTick := 0, fuse := { step := 0, serial := 0, blown := 0, provKey := 0#256, devKey := 0#256 }, bed := { fneg := [], chipReset := 0 }, svy := { run := [(16777216, 0x610#32), (16777220, 15#32), (17825792, 4#32), (17825796, 0x3020100#32), (18874368, 1#32), (18874372, 0x80000#32), (18874376, 8#32), (18874384, 0x101#32), (18874388, 0x80008#32), (18874392, 8#32), (20971520, 0x8180#32), (33554432, 0x8a04000#32), (33554436, 0x4040800#32), (33554440, 0x3e80048#32), (33554448, 1#32), (33554456, 1#32), (33554464, 1#32), (33554472, 1#32), (33554480, 1#32), (33554488, 1#32), (33554496, 1#32), (33554504, 1#32), (33554512, 1#32), (34603008, 0x30010#32), (34603012, 0x40030#32), (34603016, 0x40008#32), (34603024, 0x30010#32), (34603028, 0x40030#32), (34603032, 0x40008#32), (35651584, 3#32), (50331648, 0x32402#32), (50331652, 0x648000#32), (50331656, 0xc80642f#32), (50331660, 0x100003#32), (50331664, 0x64#32), (50331688, 15#32), (50331692, 0x114#32), (50331808, 0x201013f#32), (50331812, 0x201013f#32), (50331936, 0x10#32), (67108864, 1#32), (67108868, 0x1964#32), (67108872, 0x1964#32), (67108876, 0x2bf20#32), (67108880, 0x186a00#32), (67108884, 0xcccd#32), (67108888, 0xf852e666#32), (67108892, 0x28fd99a#32), (67108896, 0xb33300f6#32), (67108900, 0x28999a#32)], has := [16, 17, 18, 20, 32, 33, 34, 48, 64], loaded := true, shadow := true, staging := [], inst := [], live := false, cmd := 0, taken := [], face := 0, pairDig := 0#128 }, slb := { slabs := [], ready := true, owned := true, baseR := 0, grants := [], ift := [], lmap := [], image := [] }, lgr := { packA := { ebase := 0, energy := 0, rc := 0, fcc := 0, dc := 0, chem := 0, ma := 0, gaugeMv := 0, temp := 0, debit := 0, saveDebit := 0, hiScans := 0, loScans := 0, valid := 0, last := none, esr := [], esrTick := 0, gaugeTick := 0 }, packB := { ebase := 0, energy := 0, rc := 0, fcc := 0, dc := 0, chem := 0, ma := 0, gaugeMv := 0, temp := 0, debit := 0, saveDebit := 0, hiScans := 0, loScans := 0, valid := 0, last := none, esr := [], esrTick := 0, gaugeTick := 0 }, sableCnt := 0, extra := false }, adm := { rr := 7, jobq := [], wear := 0, wearHaul := 0, wearMark := 0, day := 0, repTick := [], repDue := [], repMargin := 3 }, haul := { ptr := [], cover := [], bank := 0, started := 0, done := 0, short := false, half := false, waitStk := [], waitSump := [], group := 0, stripes := [], nextStripe := 0, pfw := false, pfwTick := 0 }, save := { off := false, short := false, trigTick := 0, walkTick := 0, walked := false, railCut := false, powerBack := false, vol := 0, sumpStart := [], first := [], last := [], carve := [], pads := 0, fdirty := [], anchor := none, session := 0, openAfter := 0, down := false, spent := none, lodes := [], aggs := [], staging := [], numbers := [], ctx := { rings := [], lost := false, owners := [], running := [], cached := [] } }, stk := { recs := [], lodes := [], blks := [], remaps := [], broken := [], pseq := [], head := [], openLode := [], wlWait := [], intents := [], jpend := [], jrnl := [], jseq := 0, jpage := 0, jsaved := 0, dies := [], silent := [], accs := [], applied := [], folding := false, reworking := false, degraded := 0, bootBad := [], bootMap := [], hblock := 0, lpage := 0, lfix := 0, anchors := [], apage := 0, patrolWin := 0, patrolled := [], patrolRead := [] }, saves := [], res := { fetch := [], demand := [], lastPort := 7, prefetch := [], bgPtr := [], bgBank := 0, rebuilt := false, filling := false, trigTick := 0, counted := 0, memRec := 0, holdRec := [], newLost := [], trained := false, noKeys := false, anchored := false, scanTick := 0 }, dch := { mem := [], poison := [], banks := [], repairs := [], hard := [], devCe := [], eqCe := [], eqTick := [], eqTemp := [], bootTemps := [], taps := [], ueRun := [], late := [], early := [], refBank := [], periodCe := 0, win := 0, limits := [3600, 4096, 256, 16, 64], mig := none, rankMap := [], crdMap := [], inForce := [], cfgNew := [], lastReq := [], actLimit := [], rankSr := [], eqRun := [], scrubTick := [], prev := [], ceTotal := [] }, ports := [], nv := [(0, { dirty := 0, shutdown := 0, feat := 0x7f#128, lsa := [] })], job := { rings := [(0, { st := 1, err := 0, log2 := 4, vector := 0, imod := 0, sqHead := 0, sqTail := 0, cqTail := 0, cqHead := 0, sqBase := 65536, cqBase := 131072, done := 0, errors := 0, pend := false, irqDue := false, irqRun := false })], cache := [], jobs := [{ ring := 0, idx := 3, op := 4, tag := 7, notify := false, len := 2000, src := 0, dst := 0, arg0 := 1, arg1 := 0, iv := 0#128, pos := 0, aux := 0, pass := 0, parked := false, chain := 0#128, hash := 0#128, seq := 0, fin := none, slabs := [0, 65536, 131072, 196608, 1, 65537, 131073, 196609, 2, 65538, 131074, 196610, 3, 65539, 131075, 196611, 4, 65540, 131076, 196612, 5, 65541, 131077, 196613, 6, 65542, 131078, 196614, 7, 65543, 131079, 196615, 8, 65544, 131080, 196616, 9, 65545, 131081, 196617, 10, 65546, 131082, 196618, 11, 65547, 131083, 196619, 12, 65548, 131084, 196620, 13, 65549, 131085, 196621, 14, 65550, 131086, 196622, 15, 65551, 131087, 196623, 16, 65552, 131088, 196624, 17, 65553, 131089, 196625, 18, 65554, 131090, 196626, 19, 65555, 131091, 196627, 20, 65556, 131092, 196628, 21, 65557, 131093, 196629, 22, 65558, 131094, 196630, 23, 65559, 131095, 196631, 24, 65560, 131096, 196632, 25, 65561, 131097, 196633, 26, 65562, 131098, 196634, 27, 65563, 131099, 196635, 28, 65564, 131100, 196636, 29, 65565, 131101, 196637, 30, 65566, 131102, 196638, 31, 65567, 131103, 196639, 32, 65568, 131104, 196640, 33, 65569, 131105, 196641, 34, 65570, 131106, 196642, 35, 65571, 131107, 196643, 36, 65572, 131108, 196644, 37, 65573, 131109, 196645, 38, 65574, 131110, 196646, 39, 65575, 131111, 196647, 40, 65576, 131112, 196648, 41, 65577, 131113, 196649, 42, 65578, 131114, 196650, 43, 65579, 131115, 196651, 44, 65580, 131116, 196652, 45, 65581, 131117, 196653, 46, 65582, 131118, 196654, 47, 65583, 131119, 196655, 48, 65584, 131120, 196656, 49, 65585, 131121, 196657, 50, 65586, 131122, 196658, 51, 65587, 131123, 196659, 52, 65588, 131124, 196660, 53, 65589, 131125, 196661, 54, 65590, 131126, 196662, 55, 65591, 131127, 196663, 56, 65592, 131128, 196664, 57, 65593, 131129, 196665, 58, 65594, 131130, 196666, 59, 65595, 131131, 196667, 60, 65596, 131132, 196668, 61, 65597, 131133, 196669, 62, 65598, 131134, 196670, 63, 65599, 131135, 196671, 64, 65600, 131136, 196672, 65, 65601, 131137, 196673, 66, 65602, 131138, 196674, 67, 65603, 131139, 196675, 68, 65604, 131140, 196676, 69, 65605, 131141, 196677, 70, 65606, 131142, 196678, 71, 65607, 131143, 196679, 72, 65608, 131144, 196680, 73, 65609, 131145, 196681, 74, 65610, 131146, 196682, 75, 65611, 131147, 196683, 76, 65612, 131148, 196684, 77, 65613, 131149, 196685, 78, 65614, 131150, 196686, 79, 65615, 131151, 196687, 80, 65616, 131152, 196688, 81, 65617, 131153, 196689, 82, 65618, 131154, 196690, 83, 65619, 131155, 196691, 84, 65620, 131156, 196692, 85, 65621, 131157, 196693, 86, 65622, 131158, 196694, 87, 65623, 131159, 196695, 88, 65624, 131160, 196696, 89, 65625, 131161, 196697, 90, 65626, 131162, 196698, 91, 65627, 131163, 196699, 92, 65628, 131164, 196700, 93, 65629, 131165, 196701, 94, 65630, 131166, 196702, 95, 65631, 131167, 196703, 96, 65632, 131168, 196704, 97, 65633, 131169, 196705, 98, 65634, 131170, 196706, 99, 65635, 131171, 196707, 100, 65636, 131172, 196708, 101, 65637, 131173, 196709, 102, 65638, 131174, 196710, 103, 65639, 131175, 196711, 104, 65640, 131176, 196712, 105, 65641, 131177, 196713, 106, 65642, 131178, 196714, 107, 65643, 131179, 196715, 108, 65644, 131180, 196716, 109, 65645, 131181, 196717, 110, 65646, 131182, 196718, 111, 65647, 131183, 196719, 112, 65648, 131184, 196720, 113, 65649, 131185, 196721, 114, 65650, 131186, 196722, 115, 65651, 131187, 196723, 116, 65652, 131188, 196724, 117, 65653, 131189, 196725, 118, 65654, 131190, 196726, 119, 65655, 131191, 196727, 120, 65656, 131192, 196728, 121, 65657, 131193, 196729, 122, 65658, 131194, 196730, 123, 65659, 131195, 196731, 124, 65660, 131196, 196732, 125, 65661, 131197, 196733, 126, 65662, 131198, 196734, 127, 65663, 131199, 196735] }], pins := [{ face := 0, src := 0, len := 2000, slabs := [13, 65549, 131085, 196621, 14, 65550, 131086, 196622, 15, 65551, 131087, 196623, 0, 65536, 131072, 196608, 1, 65537, 131073, 196609, 2, 65538, 131074, 196610, 3, 65539, 131075, 196611, 4, 65540, 131076, 196612, 5, 65541, 131077, 196613, 6, 65542, 131078, 196614, 7, 65543, 131079, 196615, 8, 65544, 131080, 196616, 9, 65545, 131081, 196617, 10, 65546, 131082, 196618, 11, 65547, 131083, 196619, 12, 65548, 131084, 196620] }], lost := false, fenceDue := 0, inits := [] }, cip := { keys := [], keyin := [], store := [], storeOk := false, ceiling := 0, storeSeq := 0, cmd := none, purge := [], stale := [], erasePend := 0, eraseSan := 0, rotate := [], misWin := [], next := 0, kat := [] }, gal := { epoch := 0#64, joinEpoch := 0#64, peerFenced := false, sent := [], held := [], fwds := [], nextTag := 0, lines := [], peerLines := [], joinStep := 0, listGot := false, rslvGot := false, lineWait := [], asks := [], nextAsk := 0, reqs := [], ctls := [], rslvSlab := 0, rslvSett := 0, rslvQuota := 0, kept := false, peerEpoch := 0#64, fullFor := 0, replays := [], lastFlit := [0, 0], lastBeat := 0, graceAt := 0, seen := 0, joinAt := 0, hello := [false, false], handover := 0, zeroing := [] }, seq := { stage := .idle, order := [], good := [], bad := [], low := [], high := [], glitch := [], glitchPrev := [], glitchWin := 0, latchAfter := false, offTick := 0, minOff := true, timed := false, offPend := false, noDnWait := false, inGood := 0, inLow := 0, pwrLow := false, pfwTick := 0, pfwLate := false, stretch := 0, pulse := 0, pg00Told := false, pg00Good := 0, pg00Bad := 0, pg00Ok := false, latchSave := false, syncDrive := false, lowTold := false, timedTick := 0 }, clk := { rising := [], tripSeen := false, refFail := false }, flt := { raised := [], irqq := [], win := [], esc := [], thrNew := [], winNew := [], rst := none, later := [], holdAfter := false }, clg := { live := [], staging := [], forming := [], phase := 0, pend := [], held := [], log := [], win := none, fetch := none, extDay := 0, railLogged := false, bootLogged := false, ffcAtWaking := [0, 0, 0], subSec := 0, resumed := false }, twb := { ports := [], alert := false, alertTick := 0, mctp := 0, sensTick := [] }, fwm := { slotA := { image := [], sealed := false, tag := 0#128, next := [], blk := 0 }, slotB := { image := [], sealed := false, tag := 0#128, next := [], blk := 0 }, active := 0, trial := false, tries := 0, staging := none, xfer := 0, xferFace := 0, running := true, alive := false, prev := 0, handoff := false, recovery := false, svyEpoch := 0, openCmds := [], waiting := [], bootTick := 0 }, pin := { testen := false, power := true, tap := .bypass, railset := 0, err := false }, pending := [], out := [], free := 0 }, 0, { ring := 0, idx := 3, op := 4, tag := 7, notify := false, len := 2000, src := 0, dst := 0, arg0 := 1, arg1 := 0, iv := 0#128, pos := 0, aux := 0, pass := 0, parked := false, chain := 0#128, hash := 0#128, seq := 0, fin := none, slabs := [0, 65536, 131072, 196608, 1, 65537, 131073, 196609, 2, 65538, 131074, 196610, 3, 65539, 131075, 196611, 4, 65540, 131076, 196612, 5, 65541, 131077, 196613, 6, 65542, 131078, 196614, 7, 65543, 131079, 196615, 8, 65544, 131080, 196616, 9, 65545, 131081, 196617, 10, 65546, 131082, 196618, 11, 65547, 131083, 196619, 12, 65548, 131084, 196620, 13, 65549, 131085, 196621, 14, 65550, 131086, 196622, 15, 65551, 131087, 196623, 16, 65552, 131088, 196624, 17, 65553, 131089, 196625, 18, 65554, 131090, 196626, 19, 65555, 131091, 196627, 20, 65556, 131092, 196628, 21, 65557, 131093, 196629, 22, 65558, 131094, 196630, 23, 65559, 131095, 196631, 24, 65560, 131096, 196632, 25, 65561, 131097, 196633, 26, 65562, 131098, 196634, 27, 65563, 131099, 196635, 28, 65564, 131100, 196636, 29, 65565, 131101, 196637, 30, 65566, 131102, 196638, 31, 65567, 131103, 196639, 32, 65568, 131104, 196640, 33, 65569, 131105, 196641, 34, 65570, 131106, 196642, 35, 65571, 131107, 196643, 36, 65572, 131108, 196644, 37, 65573, 131109, 196645, 38, 65574, 131110, 196646, 39, 65575, 131111, 196647, 40, 65576, 131112, 196648, 41, 65577, 131113, 196649, 42, 65578, 131114, 196650, 43, 65579, 131115, 196651, 44, 65580, 131116, 196652, 45, 65581, 131117, 196653, 46, 65582, 131118, 196654, 47, 65583, 131119, 196655, 48, 65584, 131120, 196656, 49, 65585, 131121, 196657, 50, 65586, 131122, 196658, 51, 65587, 131123, 196659, 52, 65588, 131124, 196660, 53, 65589, 131125, 196661, 54, 65590, 131126, 196662, 55, 65591, 131127, 196663, 56, 65592, 131128, 196664, 57, 65593, 131129, 196665, 58, 65594, 131130, 196666, 59, 65595, 131131, 196667, 60, 65596, 131132, 196668, 61, 65597, 131133, 196669, 62, 65598, 131134, 196670, 63, 65599, 131135, 196671, 64, 65600, 131136, 196672, 65, 65601, 131137, 196673, 66, 65602, 131138, 196674, 67, 65603, 131139, 196675, 68, 65604, 131140, 196676, 69, 65605, 131141, 196677, 70, 65606, 131142, 196678, 71, 65607, 131143, 196679, 72, 65608, 131144, 196680, 73, 65609, 131145, 196681, 74, 65610, 131146, 196682, 75, 65611, 131147, 196683, 76, 65612, 131148, 196684, 77, 65613, 131149, 196685, 78, 65614, 131150, 196686, 79, 65615, 131151, 196687, 80, 65616, 131152, 196688, 81, 65617, 131153, 196689, 82, 65618, 131154, 196690, 83, 65619, 131155, 196691, 84, 65620, 131156, 196692, 85, 65621, 131157, 196693, 86, 65622, 131158, 196694, 87, 65623, 131159, 196695, 88, 65624, 131160, 196696, 89, 65625, 131161, 196697, 90, 65626, 131162, 196698, 91, 65627, 131163, 196699, 92, 65628, 131164, 196700, 93, 65629, 131165, 196701, 94, 65630, 131166, 196702, 95, 65631, 131167, 196703, 96, 65632, 131168, 196704, 97, 65633, 131169, 196705, 98, 65634, 131170, 196706, 99, 65635, 131171, 196707, 100, 65636, 131172, 196708, 101, 65637, 131173, 196709, 102, 65638, 131174, 196710, 103, 65639, 131175, 196711, 104, 65640, 131176, 196712, 105, 65641, 131177, 196713, 106, 65642, 131178, 196714, 107, 65643, 131179, 196715, 108, 65644, 131180, 196716, 109, 65645, 131181, 196717, 110, 65646, 131182, 196718, 111, 65647, 131183, 196719, 112, 65648, 131184, 196720, 113, 65649, 131185, 196721, 114, 65650, 131186, 196722, 115, 65651, 131187, 196723, 116, 65652, 131188, 196724, 117, 65653, 131189, 196725, 118, 65654, 131190, 196726, 119, 65655, 131191, 196727, 120, 65656, 131192, 196728, 121, 65657, 131193, 196729, 122, 65658, 131194, 196730, 123, 65659, 131195, 196731, 124, 65660, 131196, 196732, 125, 65661, 131197, 196733, 126, 65662, 131198, 196734, 127, 65663, 131199, 196735] }, { face := 0, src := 0, len := 2000, slabs := [13, 65549, 131085, 196621, 14, 65550, 131086, 196622, 15, 65551, 131087, 196623, 0, 65536, 131072, 196608, 1, 65537, 131073, 196609, 2, 65538, 131074, 196610, 3, 65539, 131075, 196611, 4, 65540, 131076, 196612, 5, 65541, 131077, 196613, 6, 65542, 131078, 196614, 7, 65543, 131079, 196615, 8, 65544, 131080, 196616, 9, 65545, 131081, 196617, 10, 65546, 131082, 196618, 11, 65547, 131083, 196619, 12, 65548, 131084, 196620] }, (let ring : Nat := 0; let s : State := open0; let s : State := { (s.setNv 0 { s.nvFace 0 with feat := 127 }).setRstate 0 0 with chip := .opened, dch := { s.dch with hard := [], repairs := [] }, job := { s.job with jobs := [{ ring := 0, idx := 3, op := 4, tag := 7, notify := false, len := 2000, src := 0, dst := 0, arg0 := 1, arg1 := 0, iv := 0, pos := 0, aux := 0, pass := 0, parked := false, chain := 0, hash := 0, seq := 0, fin := none, slabs := s.faceSlabs 0 }] } } |> fun s => ((s.wr (CLK_ISL.STATE islJob) islOn).wr JOB_STATUS.FENCED 0).wr (HPT_STATUS.OPEN 0) 1 |>.wr GAL_STATUS.MODE 0 |>.setLock 0 15 false |>.wr (ADM_CLS.BUCKET 3) 99 |> fun s => s.setRing 0 { s.ring 0 with st := 1, log2 := 4, sqBase := 0x10000, cqBase := 0x20000 } |> fun s => { s with job := { s.job with pins := [⟨0, 0, 2000, s.rangeSlabs 0 0 2000⟩] } }; s), by decide +kernel⟩
  · exact ⟨0, 0, [], { regs := [(393992, 0x2002#32), (589896, 0x630000#32), (656384, 1#32), (1048576, 0x808#32), (1048580, 0x3b#32)], tick := 100000, chip := .opened, margin := .sable, stamp := 0, stampTick := 0, fuse := { step := 0, serial := 0, blown := 0, provKey := 0#256, devKey := 0#256 }, bed := { fneg := [], chipReset := 0 }, svy := { run := [(16777216, 0x610#32), (16777220, 15#32), (17825792, 4#32), (17825796, 0x3020100#32), (18874368, 1#32), (18874372, 0x80000#32), (18874376, 8#32), (18874384, 0x101#32), (18874388, 0x80008#32), (18874392, 8#32), (20971520, 0x8180#32), (33554432, 0x8a04000#32), (33554436, 0x4040800#32), (33554440, 0x3e80048#32), (33554448, 1#32), (33554456, 1#32), (33554464, 1#32), (33554472, 1#32), (33554480, 1#32), (33554488, 1#32), (33554496, 1#32), (33554504, 1#32), (33554512, 1#32), (34603008, 0x30010#32), (34603012, 0x40030#32), (34603016, 0x40008#32), (34603024, 0x30010#32), (34603028, 0x40030#32), (34603032, 0x40008#32), (35651584, 3#32), (50331648, 0x32402#32), (50331652, 0x648000#32), (50331656, 0xc80642f#32), (50331660, 0x100003#32), (50331664, 0x64#32), (50331688, 15#32), (50331692, 0x114#32), (50331808, 0x201013f#32), (50331812, 0x201013f#32), (50331936, 0x10#32), (67108864, 1#32), (67108868, 0x1964#32), (67108872, 0x1964#32), (67108876, 0x2bf20#32), (67108880, 0x186a00#32), (67108884, 0xcccd#32), (67108888, 0xf852e666#32), (67108892, 0x28fd99a#32), (67108896, 0xb33300f6#32), (67108900, 0x28999a#32)], has := [16, 17, 18, 20, 32, 33, 34, 48, 64], loaded := true, shadow := true, staging := [], inst := [], live := false, cmd := 0, taken := [], face := 0, pairDig := 0#128 }, slb := { slabs := [], ready := true, owned := true, baseR := 0, grants := [], ift := [], lmap := [], image := [] }, lgr := { packA := { ebase := 0, energy := 0, rc := 0, fcc := 0, dc := 0, chem := 0, ma := 0, gaugeMv := 0, temp := 0, debit := 0, saveDebit := 0, hiScans := 0, loScans := 0, valid := 0, last := none, esr := [], esrTick := 0, gaugeTick := 0 }, packB := { ebase := 0, energy := 0, rc := 0, fcc := 0, dc := 0, chem := 0, ma := 0, gaugeMv := 0, temp := 0, debit := 0, saveDebit := 0, hiScans := 0, loScans := 0, valid := 0, last := none, esr := [], esrTick := 0, gaugeTick := 0 }, sableCnt := 0, extra := false }, adm := { rr := 7, jobq := [], wear := 0, wearHaul := 0, wearMark := 0, day := 0, repTick := [], repDue := [], repMargin := 3 }, haul := { ptr := [], cover := [], bank := 0, started := 0, done := 0, short := false, half := false, waitStk := [], waitSump := [], group := 0, stripes := [], nextStripe := 0, pfw := false, pfwTick := 0 }, save := { off := false, short := false, trigTick := 0, walkTick := 0, walked := false, railCut := false, powerBack := false, vol := 0, sumpStart := [], first := [], last := [], carve := [], pads := 0, fdirty := [], anchor := none, session := 0, openAfter := 0, down := false, spent := none, lodes := [], aggs := [], staging := [], numbers := [], ctx := { rings := [], lost := false, owners := [], running := [], cached := [] } }, stk := { recs := [], lodes := [], blks := [], remaps := [], broken := [], pseq := [], head := [], openLode := [], wlWait := [], intents := [], jpend := [], jrnl := [], jseq := 0, jpage := 0, jsaved := 0, dies := [], silent := [], accs := [], applied := [], folding := false, reworking := false, degraded := 0, bootBad := [], bootMap := [], hblock := 0, lpage := 0, lfix := 0, anchors := [], apage := 0, patrolWin := 0, patrolled := [], patrolRead := [] }, saves := [], res := { fetch := [], demand := [], lastPort := 7, prefetch := [], bgPtr := [], bgBank := 0, rebuilt := false, filling := false, trigTick := 0, counted := 0, memRec := 0, holdRec := [], newLost := [], trained := false, noKeys := false, anchored := false, scanTick := 0 }, dch := { mem := [], poison := [], banks := [], repairs := [], hard := [], devCe := [], eqCe := [], eqTick := [], eqTemp := [], bootTemps := [], taps := [], ueRun := [], late := [], early := [], refBank := [], periodCe := 0, win := 0, limits := [3600, 4096, 256, 16, 64], mig := none, rankMap := [], crdMap := [], inForce := [], cfgNew := [], lastReq := [], actLimit := [], rankSr := [], eqRun := [], scrubTick := [], prev := [], ceTotal := [] }, ports := [], nv := [(0, { dirty := 0, shutdown := 0, feat := 0x7f#128, lsa := [] })], job := { rings := [(0, { st := 1, err := 0, log2 := 4, vector := 0, imod := 0, sqHead := 0, sqTail := 0, cqTail := 0, cqHead := 0, sqBase := 65536, cqBase := 131072, done := 0, errors := 0, pend := false, irqDue := false, irqRun := false })], cache := [], jobs := [{ ring := 0, idx := 3, op := 4, tag := 7, notify := false, len := 2000, src := 0, dst := 0, arg0 := 1, arg1 := 0, iv := 0#128, pos := 0, aux := 0, pass := 0, parked := false, chain := 0#128, hash := 0#128, seq := 0, fin := none, slabs := [0, 65536, 131072, 196608, 1, 65537, 131073, 196609, 2, 65538, 131074, 196610, 3, 65539, 131075, 196611, 4, 65540, 131076, 196612, 5, 65541, 131077, 196613, 6, 65542, 131078, 196614, 7, 65543, 131079, 196615, 8, 65544, 131080, 196616, 9, 65545, 131081, 196617, 10, 65546, 131082, 196618, 11, 65547, 131083, 196619, 12, 65548, 131084, 196620, 13, 65549, 131085, 196621, 14, 65550, 131086, 196622, 15, 65551, 131087, 196623, 16, 65552, 131088, 196624, 17, 65553, 131089, 196625, 18, 65554, 131090, 196626, 19, 65555, 131091, 196627, 20, 65556, 131092, 196628, 21, 65557, 131093, 196629, 22, 65558, 131094, 196630, 23, 65559, 131095, 196631, 24, 65560, 131096, 196632, 25, 65561, 131097, 196633, 26, 65562, 131098, 196634, 27, 65563, 131099, 196635, 28, 65564, 131100, 196636, 29, 65565, 131101, 196637, 30, 65566, 131102, 196638, 31, 65567, 131103, 196639, 32, 65568, 131104, 196640, 33, 65569, 131105, 196641, 34, 65570, 131106, 196642, 35, 65571, 131107, 196643, 36, 65572, 131108, 196644, 37, 65573, 131109, 196645, 38, 65574, 131110, 196646, 39, 65575, 131111, 196647, 40, 65576, 131112, 196648, 41, 65577, 131113, 196649, 42, 65578, 131114, 196650, 43, 65579, 131115, 196651, 44, 65580, 131116, 196652, 45, 65581, 131117, 196653, 46, 65582, 131118, 196654, 47, 65583, 131119, 196655, 48, 65584, 131120, 196656, 49, 65585, 131121, 196657, 50, 65586, 131122, 196658, 51, 65587, 131123, 196659, 52, 65588, 131124, 196660, 53, 65589, 131125, 196661, 54, 65590, 131126, 196662, 55, 65591, 131127, 196663, 56, 65592, 131128, 196664, 57, 65593, 131129, 196665, 58, 65594, 131130, 196666, 59, 65595, 131131, 196667, 60, 65596, 131132, 196668, 61, 65597, 131133, 196669, 62, 65598, 131134, 196670, 63, 65599, 131135, 196671, 64, 65600, 131136, 196672, 65, 65601, 131137, 196673, 66, 65602, 131138, 196674, 67, 65603, 131139, 196675, 68, 65604, 131140, 196676, 69, 65605, 131141, 196677, 70, 65606, 131142, 196678, 71, 65607, 131143, 196679, 72, 65608, 131144, 196680, 73, 65609, 131145, 196681, 74, 65610, 131146, 196682, 75, 65611, 131147, 196683, 76, 65612, 131148, 196684, 77, 65613, 131149, 196685, 78, 65614, 131150, 196686, 79, 65615, 131151, 196687, 80, 65616, 131152, 196688, 81, 65617, 131153, 196689, 82, 65618, 131154, 196690, 83, 65619, 131155, 196691, 84, 65620, 131156, 196692, 85, 65621, 131157, 196693, 86, 65622, 131158, 196694, 87, 65623, 131159, 196695, 88, 65624, 131160, 196696, 89, 65625, 131161, 196697, 90, 65626, 131162, 196698, 91, 65627, 131163, 196699, 92, 65628, 131164, 196700, 93, 65629, 131165, 196701, 94, 65630, 131166, 196702, 95, 65631, 131167, 196703, 96, 65632, 131168, 196704, 97, 65633, 131169, 196705, 98, 65634, 131170, 196706, 99, 65635, 131171, 196707, 100, 65636, 131172, 196708, 101, 65637, 131173, 196709, 102, 65638, 131174, 196710, 103, 65639, 131175, 196711, 104, 65640, 131176, 196712, 105, 65641, 131177, 196713, 106, 65642, 131178, 196714, 107, 65643, 131179, 196715, 108, 65644, 131180, 196716, 109, 65645, 131181, 196717, 110, 65646, 131182, 196718, 111, 65647, 131183, 196719, 112, 65648, 131184, 196720, 113, 65649, 131185, 196721, 114, 65650, 131186, 196722, 115, 65651, 131187, 196723, 116, 65652, 131188, 196724, 117, 65653, 131189, 196725, 118, 65654, 131190, 196726, 119, 65655, 131191, 196727, 120, 65656, 131192, 196728, 121, 65657, 131193, 196729, 122, 65658, 131194, 196730, 123, 65659, 131195, 196731, 124, 65660, 131196, 196732, 125, 65661, 131197, 196733, 126, 65662, 131198, 196734, 127, 65663, 131199, 196735] }], pins := [{ face := 0, src := 0, len := 2000, slabs := [0] }, { face := 0, src := 0, len := 2000, slabs := [0] }], lost := false, fenceDue := 0, inits := [] }, cip := { keys := [], keyin := [], store := [], storeOk := false, ceiling := 0, storeSeq := 0, cmd := none, purge := [], stale := [], erasePend := 0, eraseSan := 0, rotate := [], misWin := [], next := 0, kat := [] }, gal := { epoch := 0#64, joinEpoch := 0#64, peerFenced := false, sent := [], held := [], fwds := [], nextTag := 0, lines := [], peerLines := [], joinStep := 0, listGot := false, rslvGot := false, lineWait := [], asks := [], nextAsk := 0, reqs := [], ctls := [], rslvSlab := 0, rslvSett := 0, rslvQuota := 0, kept := false, peerEpoch := 0#64, fullFor := 0, replays := [], lastFlit := [0, 0], lastBeat := 0, graceAt := 0, seen := 0, joinAt := 0, hello := [false, false], handover := 0, zeroing := [] }, seq := { stage := .idle, order := [], good := [], bad := [], low := [], high := [], glitch := [], glitchPrev := [], glitchWin := 0, latchAfter := false, offTick := 0, minOff := true, timed := false, offPend := false, noDnWait := false, inGood := 0, inLow := 0, pwrLow := false, pfwTick := 0, pfwLate := false, stretch := 0, pulse := 0, pg00Told := false, pg00Good := 0, pg00Bad := 0, pg00Ok := false, latchSave := false, syncDrive := false, lowTold := false, timedTick := 0 }, clk := { rising := [], tripSeen := false, refFail := false }, flt := { raised := [], irqq := [], win := [], esc := [], thrNew := [], winNew := [], rst := none, later := [], holdAfter := false }, clg := { live := [], staging := [], forming := [], phase := 0, pend := [], held := [], log := [], win := none, fetch := none, extDay := 0, railLogged := false, bootLogged := false, ffcAtWaking := [0, 0, 0], subSec := 0, resumed := false }, twb := { ports := [], alert := false, alertTick := 0, mctp := 0, sensTick := [] }, fwm := { slotA := { image := [], sealed := false, tag := 0#128, next := [], blk := 0 }, slotB := { image := [], sealed := false, tag := 0#128, next := [], blk := 0 }, active := 0, trial := false, tries := 0, staging := none, xfer := 0, xferFace := 0, running := true, alive := false, prev := 0, handoff := false, recovery := false, svyEpoch := 0, openCmds := [], waiting := [], bootTick := 0 }, pin := { testen := false, power := true, tap := .bypass, railset := 0, err := false }, pending := [], out := [], free := 0 }, 0, { ring := 0, idx := 3, op := 4, tag := 7, notify := false, len := 2000, src := 0, dst := 0, arg0 := 1, arg1 := 0, iv := 0#128, pos := 0, aux := 0, pass := 0, parked := false, chain := 0#128, hash := 0#128, seq := 0, fin := none, slabs := [0, 65536, 131072, 196608, 1, 65537, 131073, 196609, 2, 65538, 131074, 196610, 3, 65539, 131075, 196611, 4, 65540, 131076, 196612, 5, 65541, 131077, 196613, 6, 65542, 131078, 196614, 7, 65543, 131079, 196615, 8, 65544, 131080, 196616, 9, 65545, 131081, 196617, 10, 65546, 131082, 196618, 11, 65547, 131083, 196619, 12, 65548, 131084, 196620, 13, 65549, 131085, 196621, 14, 65550, 131086, 196622, 15, 65551, 131087, 196623, 16, 65552, 131088, 196624, 17, 65553, 131089, 196625, 18, 65554, 131090, 196626, 19, 65555, 131091, 196627, 20, 65556, 131092, 196628, 21, 65557, 131093, 196629, 22, 65558, 131094, 196630, 23, 65559, 131095, 196631, 24, 65560, 131096, 196632, 25, 65561, 131097, 196633, 26, 65562, 131098, 196634, 27, 65563, 131099, 196635, 28, 65564, 131100, 196636, 29, 65565, 131101, 196637, 30, 65566, 131102, 196638, 31, 65567, 131103, 196639, 32, 65568, 131104, 196640, 33, 65569, 131105, 196641, 34, 65570, 131106, 196642, 35, 65571, 131107, 196643, 36, 65572, 131108, 196644, 37, 65573, 131109, 196645, 38, 65574, 131110, 196646, 39, 65575, 131111, 196647, 40, 65576, 131112, 196648, 41, 65577, 131113, 196649, 42, 65578, 131114, 196650, 43, 65579, 131115, 196651, 44, 65580, 131116, 196652, 45, 65581, 131117, 196653, 46, 65582, 131118, 196654, 47, 65583, 131119, 196655, 48, 65584, 131120, 196656, 49, 65585, 131121, 196657, 50, 65586, 131122, 196658, 51, 65587, 131123, 196659, 52, 65588, 131124, 196660, 53, 65589, 131125, 196661, 54, 65590, 131126, 196662, 55, 65591, 131127, 196663, 56, 65592, 131128, 196664, 57, 65593, 131129, 196665, 58, 65594, 131130, 196666, 59, 65595, 131131, 196667, 60, 65596, 131132, 196668, 61, 65597, 131133, 196669, 62, 65598, 131134, 196670, 63, 65599, 131135, 196671, 64, 65600, 131136, 196672, 65, 65601, 131137, 196673, 66, 65602, 131138, 196674, 67, 65603, 131139, 196675, 68, 65604, 131140, 196676, 69, 65605, 131141, 196677, 70, 65606, 131142, 196678, 71, 65607, 131143, 196679, 72, 65608, 131144, 196680, 73, 65609, 131145, 196681, 74, 65610, 131146, 196682, 75, 65611, 131147, 196683, 76, 65612, 131148, 196684, 77, 65613, 131149, 196685, 78, 65614, 131150, 196686, 79, 65615, 131151, 196687, 80, 65616, 131152, 196688, 81, 65617, 131153, 196689, 82, 65618, 131154, 196690, 83, 65619, 131155, 196691, 84, 65620, 131156, 196692, 85, 65621, 131157, 196693, 86, 65622, 131158, 196694, 87, 65623, 131159, 196695, 88, 65624, 131160, 196696, 89, 65625, 131161, 196697, 90, 65626, 131162, 196698, 91, 65627, 131163, 196699, 92, 65628, 131164, 196700, 93, 65629, 131165, 196701, 94, 65630, 131166, 196702, 95, 65631, 131167, 196703, 96, 65632, 131168, 196704, 97, 65633, 131169, 196705, 98, 65634, 131170, 196706, 99, 65635, 131171, 196707, 100, 65636, 131172, 196708, 101, 65637, 131173, 196709, 102, 65638, 131174, 196710, 103, 65639, 131175, 196711, 104, 65640, 131176, 196712, 105, 65641, 131177, 196713, 106, 65642, 131178, 196714, 107, 65643, 131179, 196715, 108, 65644, 131180, 196716, 109, 65645, 131181, 196717, 110, 65646, 131182, 196718, 111, 65647, 131183, 196719, 112, 65648, 131184, 196720, 113, 65649, 131185, 196721, 114, 65650, 131186, 196722, 115, 65651, 131187, 196723, 116, 65652, 131188, 196724, 117, 65653, 131189, 196725, 118, 65654, 131190, 196726, 119, 65655, 131191, 196727, 120, 65656, 131192, 196728, 121, 65657, 131193, 196729, 122, 65658, 131194, 196730, 123, 65659, 131195, 196731, 124, 65660, 131196, 196732, 125, 65661, 131197, 196733, 126, 65662, 131198, 196734, 127, 65663, 131199, 196735] }, { face := 0, src := 0, len := 2000, slabs := [0] }, (let ring : Nat := 0; let s : State := open0; let s : State := { (s.setNv 0 { s.nvFace 0 with feat := 127 }).setRstate 0 0 with chip := .opened, dch := { s.dch with hard := [], repairs := [] }, job := { s.job with jobs := [{ ring := 0, idx := 3, op := 4, tag := 7, notify := false, len := 2000, src := 0, dst := 0, arg0 := 1, arg1 := 0, iv := 0, pos := 0, aux := 0, pass := 0, parked := false, chain := 0, hash := 0, seq := 0, fin := none, slabs := s.faceSlabs 0 }] } } |> fun s => ((s.wr (CLK_ISL.STATE islJob) islOn).wr JOB_STATUS.FENCED 0).wr (HPT_STATUS.OPEN 0) 1 |>.wr GAL_STATUS.MODE 0 |>.setLock 0 15 false |>.wr (ADM_CLS.BUCKET 3) 99 |> fun s => s.setRing 0 { s.ring 0 with st := 1, log2 := 4, sqBase := 0x10000, cqBase := 0x20000 } |> fun s => { s with job := { s.job with pins := [⟨0, 0, 2000, [0]⟩, ⟨0, 0, 2000, [0]⟩] } }; s), by decide +kernel⟩
  · exact ⟨0, 0, [], { regs := [(393992, 0x2002#32), (589896, 0x630000#32), (656384, 1#32), (1048576, 0x808#32), (1048580, 0x3b#32)], tick := 100000, chip := .opened, margin := .sable, stamp := 0, stampTick := 0, fuse := { step := 0, serial := 0, blown := 0, provKey := 0#256, devKey := 0#256 }, bed := { fneg := [], chipReset := 0 }, svy := { run := [(16777216, 0x610#32), (16777220, 15#32), (17825792, 4#32), (17825796, 0x3020100#32), (18874368, 1#32), (18874372, 0x80000#32), (18874376, 8#32), (18874384, 0x101#32), (18874388, 0x80008#32), (18874392, 8#32), (20971520, 0x8180#32), (33554432, 0x8a04000#32), (33554436, 0x4040800#32), (33554440, 0x3e80048#32), (33554448, 1#32), (33554456, 1#32), (33554464, 1#32), (33554472, 1#32), (33554480, 1#32), (33554488, 1#32), (33554496, 1#32), (33554504, 1#32), (33554512, 1#32), (34603008, 0x30010#32), (34603012, 0x40030#32), (34603016, 0x40008#32), (34603024, 0x30010#32), (34603028, 0x40030#32), (34603032, 0x40008#32), (35651584, 3#32), (50331648, 0x32402#32), (50331652, 0x648000#32), (50331656, 0xc80642f#32), (50331660, 0x100003#32), (50331664, 0x64#32), (50331688, 15#32), (50331692, 0x114#32), (50331808, 0x201013f#32), (50331812, 0x201013f#32), (50331936, 0x10#32), (67108864, 1#32), (67108868, 0x1964#32), (67108872, 0x1964#32), (67108876, 0x2bf20#32), (67108880, 0x186a00#32), (67108884, 0xcccd#32), (67108888, 0xf852e666#32), (67108892, 0x28fd99a#32), (67108896, 0xb33300f6#32), (67108900, 0x28999a#32)], has := [16, 17, 18, 20, 32, 33, 34, 48, 64], loaded := true, shadow := true, staging := [], inst := [], live := false, cmd := 0, taken := [], face := 0, pairDig := 0#128 }, slb := { slabs := [], ready := true, owned := true, baseR := 0, grants := [], ift := [], lmap := [], image := [] }, lgr := { packA := { ebase := 0, energy := 0, rc := 0, fcc := 0, dc := 0, chem := 0, ma := 0, gaugeMv := 0, temp := 0, debit := 0, saveDebit := 0, hiScans := 0, loScans := 0, valid := 0, last := none, esr := [], esrTick := 0, gaugeTick := 0 }, packB := { ebase := 0, energy := 0, rc := 0, fcc := 0, dc := 0, chem := 0, ma := 0, gaugeMv := 0, temp := 0, debit := 0, saveDebit := 0, hiScans := 0, loScans := 0, valid := 0, last := none, esr := [], esrTick := 0, gaugeTick := 0 }, sableCnt := 0, extra := false }, adm := { rr := 7, jobq := [], wear := 0, wearHaul := 0, wearMark := 0, day := 0, repTick := [], repDue := [], repMargin := 3 }, haul := { ptr := [], cover := [], bank := 0, started := 0, done := 0, short := false, half := false, waitStk := [], waitSump := [], group := 0, stripes := [], nextStripe := 0, pfw := false, pfwTick := 0 }, save := { off := false, short := false, trigTick := 0, walkTick := 0, walked := false, railCut := false, powerBack := false, vol := 0, sumpStart := [], first := [], last := [], carve := [], pads := 0, fdirty := [], anchor := none, session := 0, openAfter := 0, down := false, spent := none, lodes := [], aggs := [], staging := [], numbers := [], ctx := { rings := [], lost := false, owners := [], running := [], cached := [] } }, stk := { recs := [], lodes := [], blks := [], remaps := [], broken := [], pseq := [], head := [], openLode := [], wlWait := [], intents := [], jpend := [], jrnl := [], jseq := 0, jpage := 0, jsaved := 0, dies := [], silent := [], accs := [], applied := [], folding := false, reworking := false, degraded := 0, bootBad := [], bootMap := [], hblock := 0, lpage := 0, lfix := 0, anchors := [], apage := 0, patrolWin := 0, patrolled := [], patrolRead := [] }, saves := [], res := { fetch := [], demand := [], lastPort := 7, prefetch := [], bgPtr := [], bgBank := 0, rebuilt := false, filling := false, trigTick := 0, counted := 0, memRec := 0, holdRec := [], newLost := [], trained := false, noKeys := false, anchored := false, scanTick := 0 }, dch := { mem := [], poison := [], banks := [], repairs := [], hard := [], devCe := [], eqCe := [], eqTick := [], eqTemp := [], bootTemps := [], taps := [], ueRun := [], late := [], early := [], refBank := [], periodCe := 0, win := 0, limits := [3600, 4096, 256, 16, 64], mig := none, rankMap := [], crdMap := [], inForce := [], cfgNew := [], lastReq := [], actLimit := [], rankSr := [], eqRun := [], scrubTick := [], prev := [], ceTotal := [] }, ports := [], nv := [(0, { dirty := 0, shutdown := 0, feat := 0x7f#128, lsa := [] })], job := { rings := [(0, { st := 1, err := 0, log2 := 4, vector := 0, imod := 0, sqHead := 0, sqTail := 0, cqTail := 0, cqHead := 0, sqBase := 65536, cqBase := 131072, done := 0, errors := 0, pend := false, irqDue := false, irqRun := false })], cache := [], jobs := [{ ring := 0, idx := 3, op := 4, tag := 7, notify := false, len := 2000, src := 0, dst := 0, arg0 := 1, arg1 := 0, iv := 0#128, pos := 0, aux := 0, pass := 0, parked := false, chain := 0#128, hash := 0#128, seq := 0, fin := none, slabs := [0, 65536, 131072, 196608, 1, 65537, 131073, 196609, 2, 65538, 131074, 196610, 3, 65539, 131075, 196611, 4, 65540, 131076, 196612, 5, 65541, 131077, 196613, 6, 65542, 131078, 196614, 7, 65543, 131079, 196615, 8, 65544, 131080, 196616, 9, 65545, 131081, 196617, 10, 65546, 131082, 196618, 11, 65547, 131083, 196619, 12, 65548, 131084, 196620, 13, 65549, 131085, 196621, 14, 65550, 131086, 196622, 15, 65551, 131087, 196623, 16, 65552, 131088, 196624, 17, 65553, 131089, 196625, 18, 65554, 131090, 196626, 19, 65555, 131091, 196627, 20, 65556, 131092, 196628, 21, 65557, 131093, 196629, 22, 65558, 131094, 196630, 23, 65559, 131095, 196631, 24, 65560, 131096, 196632, 25, 65561, 131097, 196633, 26, 65562, 131098, 196634, 27, 65563, 131099, 196635, 28, 65564, 131100, 196636, 29, 65565, 131101, 196637, 30, 65566, 131102, 196638, 31, 65567, 131103, 196639, 32, 65568, 131104, 196640, 33, 65569, 131105, 196641, 34, 65570, 131106, 196642, 35, 65571, 131107, 196643, 36, 65572, 131108, 196644, 37, 65573, 131109, 196645, 38, 65574, 131110, 196646, 39, 65575, 131111, 196647, 40, 65576, 131112, 196648, 41, 65577, 131113, 196649, 42, 65578, 131114, 196650, 43, 65579, 131115, 196651, 44, 65580, 131116, 196652, 45, 65581, 131117, 196653, 46, 65582, 131118, 196654, 47, 65583, 131119, 196655, 48, 65584, 131120, 196656, 49, 65585, 131121, 196657, 50, 65586, 131122, 196658, 51, 65587, 131123, 196659, 52, 65588, 131124, 196660, 53, 65589, 131125, 196661, 54, 65590, 131126, 196662, 55, 65591, 131127, 196663, 56, 65592, 131128, 196664, 57, 65593, 131129, 196665, 58, 65594, 131130, 196666, 59, 65595, 131131, 196667, 60, 65596, 131132, 196668, 61, 65597, 131133, 196669, 62, 65598, 131134, 196670, 63, 65599, 131135, 196671, 64, 65600, 131136, 196672, 65, 65601, 131137, 196673, 66, 65602, 131138, 196674, 67, 65603, 131139, 196675, 68, 65604, 131140, 196676, 69, 65605, 131141, 196677, 70, 65606, 131142, 196678, 71, 65607, 131143, 196679, 72, 65608, 131144, 196680, 73, 65609, 131145, 196681, 74, 65610, 131146, 196682, 75, 65611, 131147, 196683, 76, 65612, 131148, 196684, 77, 65613, 131149, 196685, 78, 65614, 131150, 196686, 79, 65615, 131151, 196687, 80, 65616, 131152, 196688, 81, 65617, 131153, 196689, 82, 65618, 131154, 196690, 83, 65619, 131155, 196691, 84, 65620, 131156, 196692, 85, 65621, 131157, 196693, 86, 65622, 131158, 196694, 87, 65623, 131159, 196695, 88, 65624, 131160, 196696, 89, 65625, 131161, 196697, 90, 65626, 131162, 196698, 91, 65627, 131163, 196699, 92, 65628, 131164, 196700, 93, 65629, 131165, 196701, 94, 65630, 131166, 196702, 95, 65631, 131167, 196703, 96, 65632, 131168, 196704, 97, 65633, 131169, 196705, 98, 65634, 131170, 196706, 99, 65635, 131171, 196707, 100, 65636, 131172, 196708, 101, 65637, 131173, 196709, 102, 65638, 131174, 196710, 103, 65639, 131175, 196711, 104, 65640, 131176, 196712, 105, 65641, 131177, 196713, 106, 65642, 131178, 196714, 107, 65643, 131179, 196715, 108, 65644, 131180, 196716, 109, 65645, 131181, 196717, 110, 65646, 131182, 196718, 111, 65647, 131183, 196719, 112, 65648, 131184, 196720, 113, 65649, 131185, 196721, 114, 65650, 131186, 196722, 115, 65651, 131187, 196723, 116, 65652, 131188, 196724, 117, 65653, 131189, 196725, 118, 65654, 131190, 196726, 119, 65655, 131191, 196727, 120, 65656, 131192, 196728, 121, 65657, 131193, 196729, 122, 65658, 131194, 196730, 123, 65659, 131195, 196731, 124, 65660, 131196, 196732, 125, 65661, 131197, 196733, 126, 65662, 131198, 196734, 127, 65663, 131199, 196735] }], pins := [{ face := 0, src := 0, len := 200, slabs := [] }], lost := false, fenceDue := 0, inits := [] }, cip := { keys := [], keyin := [], store := [], storeOk := false, ceiling := 0, storeSeq := 0, cmd := none, purge := [], stale := [], erasePend := 0, eraseSan := 0, rotate := [], misWin := [], next := 0, kat := [] }, gal := { epoch := 0#64, joinEpoch := 0#64, peerFenced := false, sent := [], held := [], fwds := [], nextTag := 0, lines := [], peerLines := [], joinStep := 0, listGot := false, rslvGot := false, lineWait := [], asks := [], nextAsk := 0, reqs := [], ctls := [], rslvSlab := 0, rslvSett := 0, rslvQuota := 0, kept := false, peerEpoch := 0#64, fullFor := 0, replays := [], lastFlit := [0, 0], lastBeat := 0, graceAt := 0, seen := 0, joinAt := 0, hello := [false, false], handover := 0, zeroing := [] }, seq := { stage := .idle, order := [], good := [], bad := [], low := [], high := [], glitch := [], glitchPrev := [], glitchWin := 0, latchAfter := false, offTick := 0, minOff := true, timed := false, offPend := false, noDnWait := false, inGood := 0, inLow := 0, pwrLow := false, pfwTick := 0, pfwLate := false, stretch := 0, pulse := 0, pg00Told := false, pg00Good := 0, pg00Bad := 0, pg00Ok := false, latchSave := false, syncDrive := false, lowTold := false, timedTick := 0 }, clk := { rising := [], tripSeen := false, refFail := false }, flt := { raised := [], irqq := [], win := [], esc := [], thrNew := [], winNew := [], rst := none, later := [], holdAfter := false }, clg := { live := [], staging := [], forming := [], phase := 0, pend := [], held := [], log := [], win := none, fetch := none, extDay := 0, railLogged := false, bootLogged := false, ffcAtWaking := [0, 0, 0], subSec := 0, resumed := false }, twb := { ports := [], alert := false, alertTick := 0, mctp := 0, sensTick := [] }, fwm := { slotA := { image := [], sealed := false, tag := 0#128, next := [], blk := 0 }, slotB := { image := [], sealed := false, tag := 0#128, next := [], blk := 0 }, active := 0, trial := false, tries := 0, staging := none, xfer := 0, xferFace := 0, running := true, alive := false, prev := 0, handoff := false, recovery := false, svyEpoch := 0, openCmds := [], waiting := [], bootTick := 0 }, pin := { testen := false, power := true, tap := .bypass, railset := 0, err := false }, pending := [], out := [], free := 0 }, 0, { ring := 0, idx := 3, op := 4, tag := 7, notify := false, len := 2000, src := 0, dst := 0, arg0 := 1, arg1 := 0, iv := 0#128, pos := 0, aux := 0, pass := 0, parked := false, chain := 0#128, hash := 0#128, seq := 0, fin := none, slabs := [0, 65536, 131072, 196608, 1, 65537, 131073, 196609, 2, 65538, 131074, 196610, 3, 65539, 131075, 196611, 4, 65540, 131076, 196612, 5, 65541, 131077, 196613, 6, 65542, 131078, 196614, 7, 65543, 131079, 196615, 8, 65544, 131080, 196616, 9, 65545, 131081, 196617, 10, 65546, 131082, 196618, 11, 65547, 131083, 196619, 12, 65548, 131084, 196620, 13, 65549, 131085, 196621, 14, 65550, 131086, 196622, 15, 65551, 131087, 196623, 16, 65552, 131088, 196624, 17, 65553, 131089, 196625, 18, 65554, 131090, 196626, 19, 65555, 131091, 196627, 20, 65556, 131092, 196628, 21, 65557, 131093, 196629, 22, 65558, 131094, 196630, 23, 65559, 131095, 196631, 24, 65560, 131096, 196632, 25, 65561, 131097, 196633, 26, 65562, 131098, 196634, 27, 65563, 131099, 196635, 28, 65564, 131100, 196636, 29, 65565, 131101, 196637, 30, 65566, 131102, 196638, 31, 65567, 131103, 196639, 32, 65568, 131104, 196640, 33, 65569, 131105, 196641, 34, 65570, 131106, 196642, 35, 65571, 131107, 196643, 36, 65572, 131108, 196644, 37, 65573, 131109, 196645, 38, 65574, 131110, 196646, 39, 65575, 131111, 196647, 40, 65576, 131112, 196648, 41, 65577, 131113, 196649, 42, 65578, 131114, 196650, 43, 65579, 131115, 196651, 44, 65580, 131116, 196652, 45, 65581, 131117, 196653, 46, 65582, 131118, 196654, 47, 65583, 131119, 196655, 48, 65584, 131120, 196656, 49, 65585, 131121, 196657, 50, 65586, 131122, 196658, 51, 65587, 131123, 196659, 52, 65588, 131124, 196660, 53, 65589, 131125, 196661, 54, 65590, 131126, 196662, 55, 65591, 131127, 196663, 56, 65592, 131128, 196664, 57, 65593, 131129, 196665, 58, 65594, 131130, 196666, 59, 65595, 131131, 196667, 60, 65596, 131132, 196668, 61, 65597, 131133, 196669, 62, 65598, 131134, 196670, 63, 65599, 131135, 196671, 64, 65600, 131136, 196672, 65, 65601, 131137, 196673, 66, 65602, 131138, 196674, 67, 65603, 131139, 196675, 68, 65604, 131140, 196676, 69, 65605, 131141, 196677, 70, 65606, 131142, 196678, 71, 65607, 131143, 196679, 72, 65608, 131144, 196680, 73, 65609, 131145, 196681, 74, 65610, 131146, 196682, 75, 65611, 131147, 196683, 76, 65612, 131148, 196684, 77, 65613, 131149, 196685, 78, 65614, 131150, 196686, 79, 65615, 131151, 196687, 80, 65616, 131152, 196688, 81, 65617, 131153, 196689, 82, 65618, 131154, 196690, 83, 65619, 131155, 196691, 84, 65620, 131156, 196692, 85, 65621, 131157, 196693, 86, 65622, 131158, 196694, 87, 65623, 131159, 196695, 88, 65624, 131160, 196696, 89, 65625, 131161, 196697, 90, 65626, 131162, 196698, 91, 65627, 131163, 196699, 92, 65628, 131164, 196700, 93, 65629, 131165, 196701, 94, 65630, 131166, 196702, 95, 65631, 131167, 196703, 96, 65632, 131168, 196704, 97, 65633, 131169, 196705, 98, 65634, 131170, 196706, 99, 65635, 131171, 196707, 100, 65636, 131172, 196708, 101, 65637, 131173, 196709, 102, 65638, 131174, 196710, 103, 65639, 131175, 196711, 104, 65640, 131176, 196712, 105, 65641, 131177, 196713, 106, 65642, 131178, 196714, 107, 65643, 131179, 196715, 108, 65644, 131180, 196716, 109, 65645, 131181, 196717, 110, 65646, 131182, 196718, 111, 65647, 131183, 196719, 112, 65648, 131184, 196720, 113, 65649, 131185, 196721, 114, 65650, 131186, 196722, 115, 65651, 131187, 196723, 116, 65652, 131188, 196724, 117, 65653, 131189, 196725, 118, 65654, 131190, 196726, 119, 65655, 131191, 196727, 120, 65656, 131192, 196728, 121, 65657, 131193, 196729, 122, 65658, 131194, 196730, 123, 65659, 131195, 196731, 124, 65660, 131196, 196732, 125, 65661, 131197, 196733, 126, 65662, 131198, 196734, 127, 65663, 131199, 196735] }, (let ring : Nat := 0; let s : State := open0; let s : State := { (s.setNv 0 { s.nvFace 0 with feat := 127 }).setRstate 0 0 with chip := .opened, dch := { s.dch with hard := [], repairs := [] }, job := { s.job with jobs := [{ ring := 0, idx := 3, op := 4, tag := 7, notify := false, len := 2000, src := 0, dst := 0, arg0 := 1, arg1 := 0, iv := 0, pos := 0, aux := 0, pass := 0, parked := false, chain := 0, hash := 0, seq := 0, fin := none, slabs := s.faceSlabs 0 }] } } |> fun s => ((s.wr (CLK_ISL.STATE islJob) islOn).wr JOB_STATUS.FENCED 0).wr (HPT_STATUS.OPEN 0) 1 |>.wr GAL_STATUS.MODE 0 |>.setLock 0 15 false |>.wr (ADM_CLS.BUCKET 3) 99 |> fun s => s.setRing 0 { s.ring 0 with st := 1, log2 := 4, sqBase := 0x10000, cqBase := 0x20000 } |> fun s => { s with job := { s.job with pins := [⟨0, 0, 200, []⟩] } }; s), by decide +kernel⟩

/-- Clauses of Jobs have states and operands that meet their conditions. -/
theorem test_conditions_Jobs_5 :
    (∃ (ring : Nat) (desc : Nat) (sram : List (Nat × SramErr)) (s1 : State) (f : Nat) (j : Job) (s : State), s.chip ≠ .off ∧ s1 = s.sramAll sram ∧ s1.ringFace ring = some f ∧ s1.jobsRun ring = true ∧ (s1.ringJobs ring).find? (fun j => j.op == 5 && j.fin.isNone) = some j ∧ (s1.ringJobs ring).any (fun x => x.parked) = false ∧ s1.rangeStop f j.src j.len = none ∧ (s1.rangeSlabs f j.src j.len).all (fun i => (s1.slab i).rstate == 0) = true) ∧
    (∃ (ring : Nat) (desc : Nat) (sram : List (Nat × SramErr)) (s1 : State) (f : Nat) (j : Job) (i : Nat) (s : State), s.chip ≠ .off ∧ s1 = s.sramAll sram ∧ s1.ringFace ring = some f ∧ s1.jobsRun ring = true ∧ (s1.ringJobs ring).find? (fun j => j.op == 5 && j.fin.isNone) = some j ∧ (s1.ringJobs ring).any (fun x => x.parked) = false ∧ s1.rangeStop f j.src j.len = none ∧ s1.rangeSlabs f j.src j.len = [i] ∧ (s1.slab i).rstate = 1) ∧
    (∃ (ring : Nat) (desc : Nat) (sram : List (Nat × SramErr)) (s1 : State) (f : Nat) (j : Job) (i : Nat) (s : State), s.chip ≠ .off ∧ s1 = s.sramAll sram ∧ s1.ringFace ring = some f ∧ s1.jobsRun ring = true ∧ (s1.ringJobs ring).find? (fun j => j.op == 8 && j.fin.isNone) = some j ∧ (s1.ringJobs ring).any (fun x => x.parked) = false ∧ 0 < j.pass ∧ j.slabs = [i] ∧ (s1.slab i).owner = f ∧ j.pos = 63 ∧ (s1.slab i).rstate = 0 ∧ s1.haulOf (i * 64 + 63) = none ∧ s1.canPay 3 1 false = true ∧ s1.ctrlWaits 3 f = false ∧ (∀ p ∈ faces, (s1.port p).wbuf = [] ∧ (s1.port p).reads = []) ∧ s1.adm.jobq = []) := by
  refine ⟨?_, ?_, ?_⟩
  · exact ⟨0, 0, [], { regs := [(393992, 0x2002#32), (589896, 0x630000#32), (656384, 1#32), (1048576, 0x808#32), (1048580, 0x3b#32)], tick := 100000, chip := .opened, margin := .sable, stamp := 0, stampTick := 0, fuse := { step := 0, serial := 0, blown := 0, provKey := 0#256, devKey := 0#256 }, bed := { fneg := [], chipReset := 0 }, svy := { run := [(16777216, 0x610#32), (16777220, 15#32), (17825792, 4#32), (17825796, 0x3020100#32), (18874368, 1#32), (18874372, 0x80000#32), (18874376, 8#32), (18874384, 0x101#32), (18874388, 0x80008#32), (18874392, 8#32), (20971520, 0x8180#32), (33554432, 0x8a04000#32), (33554436, 0x4040800#32), (33554440, 0x3e80048#32), (33554448, 1#32), (33554456, 1#32), (33554464, 1#32), (33554472, 1#32), (33554480, 1#32), (33554488, 1#32), (33554496, 1#32), (33554504, 1#32), (33554512, 1#32), (34603008, 0x30010#32), (34603012, 0x40030#32), (34603016, 0x40008#32), (34603024, 0x30010#32), (34603028, 0x40030#32), (34603032, 0x40008#32), (35651584, 3#32), (50331648, 0x32402#32), (50331652, 0x648000#32), (50331656, 0xc80642f#32), (50331660, 0x100003#32), (50331664, 0x64#32), (50331688, 15#32), (50331692, 0x114#32), (50331808, 0x201013f#32), (50331812, 0x201013f#32), (50331936, 0x10#32), (67108864, 1#32), (67108868, 0x1964#32), (67108872, 0x1964#32), (67108876, 0x2bf20#32), (67108880, 0x186a00#32), (67108884, 0xcccd#32), (67108888, 0xf852e666#32), (67108892, 0x28fd99a#32), (67108896, 0xb33300f6#32), (67108900, 0x28999a#32)], has := [16, 17, 18, 20, 32, 33, 34, 48, 64], loaded := true, shadow := true, staging := [], inst := [], live := false, cmd := 0, taken := [], face := 0, pairDig := 0#128 }, slb := { slabs := [], ready := true, owned := true, baseR := 0, grants := [], ift := [], lmap := [], image := [] }, lgr := { packA := { ebase := 0, energy := 0, rc := 0, fcc := 0, dc := 0, chem := 0, ma := 0, gaugeMv := 0, temp := 0, debit := 0, saveDebit := 0, hiScans := 0, loScans := 0, valid := 0, last := none, esr := [], esrTick := 0, gaugeTick := 0 }, packB := { ebase := 0, energy := 0, rc := 0, fcc := 0, dc := 0, chem := 0, ma := 0, gaugeMv := 0, temp := 0, debit := 0, saveDebit := 0, hiScans := 0, loScans := 0, valid := 0, last := none, esr := [], esrTick := 0, gaugeTick := 0 }, sableCnt := 0, extra := false }, adm := { rr := 7, jobq := [], wear := 0, wearHaul := 0, wearMark := 0, day := 0, repTick := [], repDue := [], repMargin := 3 }, haul := { ptr := [], cover := [], bank := 0, started := 0, done := 0, short := false, half := false, waitStk := [], waitSump := [], group := 0, stripes := [], nextStripe := 0, pfw := false, pfwTick := 0 }, save := { off := false, short := false, trigTick := 0, walkTick := 0, walked := false, railCut := false, powerBack := false, vol := 0, sumpStart := [], first := [], last := [], carve := [], pads := 0, fdirty := [], anchor := none, session := 0, openAfter := 0, down := false, spent := none, lodes := [], aggs := [], staging := [], numbers := [], ctx := { rings := [], lost := false, owners := [], running := [], cached := [] } }, stk := { recs := [], lodes := [], blks := [], remaps := [], broken := [], pseq := [], head := [], openLode := [], wlWait := [], intents := [], jpend := [], jrnl := [], jseq := 0, jpage := 0, jsaved := 0, dies := [], silent := [], accs := [], applied := [], folding := false, reworking := false, degraded := 0, bootBad := [], bootMap := [], hblock := 0, lpage := 0, lfix := 0, anchors := [], apage := 0, patrolWin := 0, patrolled := [], patrolRead := [] }, saves := [], res := { fetch := [], demand := [], lastPort := 7, prefetch := [], bgPtr := [], bgBank := 0, rebuilt := false, filling := false, trigTick := 0, counted := 0, memRec := 0, holdRec := [], newLost := [], trained := false, noKeys := false, anchored := false, scanTick := 0 }, dch := { mem := [], poison := [], banks := [], repairs := [], hard := [], devCe := [], eqCe := [], eqTick := [], eqTemp := [], bootTemps := [], taps := [], ueRun := [], late := [], early := [], refBank := [], periodCe := 0, win := 0, limits := [3600, 4096, 256, 16, 64], mig := none, rankMap := [], crdMap := [], inForce := [], cfgNew := [], lastReq := [], actLimit := [], rankSr := [], eqRun := [], scrubTick := [], prev := [], ceTotal := [] }, ports := [], nv := [(0, { dirty := 0, shutdown := 0, feat := 0x7f#128, lsa := [] })], job := { rings := [(0, { st := 1, err := 0, log2 := 4, vector := 0, imod := 0, sqHead := 0, sqTail := 0, cqTail := 0, cqHead := 0, sqBase := 65536, cqBase := 131072, done := 0, errors := 0, pend := false, irqDue := false, irqRun := false })], cache := [], jobs := [{ ring := 0, idx := 3, op := 5, tag := 7, notify := false, len := 2000, src := 0, dst := 0, arg0 := 0, arg1 := 0, iv := 0#128, pos := 0, aux := 0, pass := 0, parked := false, chain := 0#128, hash := 0#128, seq := 0, fin := none, slabs := [0, 65536, 131072, 196608, 1, 65537, 131073, 196609, 2, 65538, 131074, 196610, 3, 65539, 131075, 196611, 4, 65540, 131076, 196612, 5, 65541, 131077, 196613, 6, 65542, 131078, 196614, 7, 65543, 131079, 196615, 8, 65544, 131080, 196616, 9, 65545, 131081, 196617, 10, 65546, 131082, 196618, 11, 65547, 131083, 196619, 12, 65548, 131084, 196620, 13, 65549, 131085, 196621, 14, 65550, 131086, 196622, 15, 65551, 131087, 196623, 16, 65552, 131088, 196624, 17, 65553, 131089, 196625, 18, 65554, 131090, 196626, 19, 65555, 131091, 196627, 20, 65556, 131092, 196628, 21, 65557, 131093, 196629, 22, 65558, 131094, 196630, 23, 65559, 131095, 196631, 24, 65560, 131096, 196632, 25, 65561, 131097, 196633, 26, 65562, 131098, 196634, 27, 65563, 131099, 196635, 28, 65564, 131100, 196636, 29, 65565, 131101, 196637, 30, 65566, 131102, 196638, 31, 65567, 131103, 196639, 32, 65568, 131104, 196640, 33, 65569, 131105, 196641, 34, 65570, 131106, 196642, 35, 65571, 131107, 196643, 36, 65572, 131108, 196644, 37, 65573, 131109, 196645, 38, 65574, 131110, 196646, 39, 65575, 131111, 196647, 40, 65576, 131112, 196648, 41, 65577, 131113, 196649, 42, 65578, 131114, 196650, 43, 65579, 131115, 196651, 44, 65580, 131116, 196652, 45, 65581, 131117, 196653, 46, 65582, 131118, 196654, 47, 65583, 131119, 196655, 48, 65584, 131120, 196656, 49, 65585, 131121, 196657, 50, 65586, 131122, 196658, 51, 65587, 131123, 196659, 52, 65588, 131124, 196660, 53, 65589, 131125, 196661, 54, 65590, 131126, 196662, 55, 65591, 131127, 196663, 56, 65592, 131128, 196664, 57, 65593, 131129, 196665, 58, 65594, 131130, 196666, 59, 65595, 131131, 196667, 60, 65596, 131132, 196668, 61, 65597, 131133, 196669, 62, 65598, 131134, 196670, 63, 65599, 131135, 196671, 64, 65600, 131136, 196672, 65, 65601, 131137, 196673, 66, 65602, 131138, 196674, 67, 65603, 131139, 196675, 68, 65604, 131140, 196676, 69, 65605, 131141, 196677, 70, 65606, 131142, 196678, 71, 65607, 131143, 196679, 72, 65608, 131144, 196680, 73, 65609, 131145, 196681, 74, 65610, 131146, 196682, 75, 65611, 131147, 196683, 76, 65612, 131148, 196684, 77, 65613, 131149, 196685, 78, 65614, 131150, 196686, 79, 65615, 131151, 196687, 80, 65616, 131152, 196688, 81, 65617, 131153, 196689, 82, 65618, 131154, 196690, 83, 65619, 131155, 196691, 84, 65620, 131156, 196692, 85, 65621, 131157, 196693, 86, 65622, 131158, 196694, 87, 65623, 131159, 196695, 88, 65624, 131160, 196696, 89, 65625, 131161, 196697, 90, 65626, 131162, 196698, 91, 65627, 131163, 196699, 92, 65628, 131164, 196700, 93, 65629, 131165, 196701, 94, 65630, 131166, 196702, 95, 65631, 131167, 196703, 96, 65632, 131168, 196704, 97, 65633, 131169, 196705, 98, 65634, 131170, 196706, 99, 65635, 131171, 196707, 100, 65636, 131172, 196708, 101, 65637, 131173, 196709, 102, 65638, 131174, 196710, 103, 65639, 131175, 196711, 104, 65640, 131176, 196712, 105, 65641, 131177, 196713, 106, 65642, 131178, 196714, 107, 65643, 131179, 196715, 108, 65644, 131180, 196716, 109, 65645, 131181, 196717, 110, 65646, 131182, 196718, 111, 65647, 131183, 196719, 112, 65648, 131184, 196720, 113, 65649, 131185, 196721, 114, 65650, 131186, 196722, 115, 65651, 131187, 196723, 116, 65652, 131188, 196724, 117, 65653, 131189, 196725, 118, 65654, 131190, 196726, 119, 65655, 131191, 196727, 120, 65656, 131192, 196728, 121, 65657, 131193, 196729, 122, 65658, 131194, 196730, 123, 65659, 131195, 196731, 124, 65660, 131196, 196732, 125, 65661, 131197, 196733, 126, 65662, 131198, 196734, 127, 65663, 131199, 196735] }], pins := [], lost := false, fenceDue := 0, inits := [] }, cip := { keys := [], keyin := [], store := [], storeOk := false, ceiling := 0, storeSeq := 0, cmd := none, purge := [], stale := [], erasePend := 0, eraseSan := 0, rotate := [], misWin := [], next := 0, kat := [] }, gal := { epoch := 0#64, joinEpoch := 0#64, peerFenced := false, sent := [], held := [], fwds := [], nextTag := 0, lines := [], peerLines := [], joinStep := 0, listGot := false, rslvGot := false, lineWait := [], asks := [], nextAsk := 0, reqs := [], ctls := [], rslvSlab := 0, rslvSett := 0, rslvQuota := 0, kept := false, peerEpoch := 0#64, fullFor := 0, replays := [], lastFlit := [0, 0], lastBeat := 0, graceAt := 0, seen := 0, joinAt := 0, hello := [false, false], handover := 0, zeroing := [] }, seq := { stage := .idle, order := [], good := [], bad := [], low := [], high := [], glitch := [], glitchPrev := [], glitchWin := 0, latchAfter := false, offTick := 0, minOff := true, timed := false, offPend := false, noDnWait := false, inGood := 0, inLow := 0, pwrLow := false, pfwTick := 0, pfwLate := false, stretch := 0, pulse := 0, pg00Told := false, pg00Good := 0, pg00Bad := 0, pg00Ok := false, latchSave := false, syncDrive := false, lowTold := false, timedTick := 0 }, clk := { rising := [], tripSeen := false, refFail := false }, flt := { raised := [], irqq := [], win := [], esc := [], thrNew := [], winNew := [], rst := none, later := [], holdAfter := false }, clg := { live := [], staging := [], forming := [], phase := 0, pend := [], held := [], log := [], win := none, fetch := none, extDay := 0, railLogged := false, bootLogged := false, ffcAtWaking := [0, 0, 0], subSec := 0, resumed := false }, twb := { ports := [], alert := false, alertTick := 0, mctp := 0, sensTick := [] }, fwm := { slotA := { image := [], sealed := false, tag := 0#128, next := [], blk := 0 }, slotB := { image := [], sealed := false, tag := 0#128, next := [], blk := 0 }, active := 0, trial := false, tries := 0, staging := none, xfer := 0, xferFace := 0, running := true, alive := false, prev := 0, handoff := false, recovery := false, svyEpoch := 0, openCmds := [], waiting := [], bootTick := 0 }, pin := { testen := false, power := true, tap := .bypass, railset := 0, err := false }, pending := [], out := [], free := 0 }, 0, { ring := 0, idx := 3, op := 5, tag := 7, notify := false, len := 2000, src := 0, dst := 0, arg0 := 0, arg1 := 0, iv := 0#128, pos := 0, aux := 0, pass := 0, parked := false, chain := 0#128, hash := 0#128, seq := 0, fin := none, slabs := [0, 65536, 131072, 196608, 1, 65537, 131073, 196609, 2, 65538, 131074, 196610, 3, 65539, 131075, 196611, 4, 65540, 131076, 196612, 5, 65541, 131077, 196613, 6, 65542, 131078, 196614, 7, 65543, 131079, 196615, 8, 65544, 131080, 196616, 9, 65545, 131081, 196617, 10, 65546, 131082, 196618, 11, 65547, 131083, 196619, 12, 65548, 131084, 196620, 13, 65549, 131085, 196621, 14, 65550, 131086, 196622, 15, 65551, 131087, 196623, 16, 65552, 131088, 196624, 17, 65553, 131089, 196625, 18, 65554, 131090, 196626, 19, 65555, 131091, 196627, 20, 65556, 131092, 196628, 21, 65557, 131093, 196629, 22, 65558, 131094, 196630, 23, 65559, 131095, 196631, 24, 65560, 131096, 196632, 25, 65561, 131097, 196633, 26, 65562, 131098, 196634, 27, 65563, 131099, 196635, 28, 65564, 131100, 196636, 29, 65565, 131101, 196637, 30, 65566, 131102, 196638, 31, 65567, 131103, 196639, 32, 65568, 131104, 196640, 33, 65569, 131105, 196641, 34, 65570, 131106, 196642, 35, 65571, 131107, 196643, 36, 65572, 131108, 196644, 37, 65573, 131109, 196645, 38, 65574, 131110, 196646, 39, 65575, 131111, 196647, 40, 65576, 131112, 196648, 41, 65577, 131113, 196649, 42, 65578, 131114, 196650, 43, 65579, 131115, 196651, 44, 65580, 131116, 196652, 45, 65581, 131117, 196653, 46, 65582, 131118, 196654, 47, 65583, 131119, 196655, 48, 65584, 131120, 196656, 49, 65585, 131121, 196657, 50, 65586, 131122, 196658, 51, 65587, 131123, 196659, 52, 65588, 131124, 196660, 53, 65589, 131125, 196661, 54, 65590, 131126, 196662, 55, 65591, 131127, 196663, 56, 65592, 131128, 196664, 57, 65593, 131129, 196665, 58, 65594, 131130, 196666, 59, 65595, 131131, 196667, 60, 65596, 131132, 196668, 61, 65597, 131133, 196669, 62, 65598, 131134, 196670, 63, 65599, 131135, 196671, 64, 65600, 131136, 196672, 65, 65601, 131137, 196673, 66, 65602, 131138, 196674, 67, 65603, 131139, 196675, 68, 65604, 131140, 196676, 69, 65605, 131141, 196677, 70, 65606, 131142, 196678, 71, 65607, 131143, 196679, 72, 65608, 131144, 196680, 73, 65609, 131145, 196681, 74, 65610, 131146, 196682, 75, 65611, 131147, 196683, 76, 65612, 131148, 196684, 77, 65613, 131149, 196685, 78, 65614, 131150, 196686, 79, 65615, 131151, 196687, 80, 65616, 131152, 196688, 81, 65617, 131153, 196689, 82, 65618, 131154, 196690, 83, 65619, 131155, 196691, 84, 65620, 131156, 196692, 85, 65621, 131157, 196693, 86, 65622, 131158, 196694, 87, 65623, 131159, 196695, 88, 65624, 131160, 196696, 89, 65625, 131161, 196697, 90, 65626, 131162, 196698, 91, 65627, 131163, 196699, 92, 65628, 131164, 196700, 93, 65629, 131165, 196701, 94, 65630, 131166, 196702, 95, 65631, 131167, 196703, 96, 65632, 131168, 196704, 97, 65633, 131169, 196705, 98, 65634, 131170, 196706, 99, 65635, 131171, 196707, 100, 65636, 131172, 196708, 101, 65637, 131173, 196709, 102, 65638, 131174, 196710, 103, 65639, 131175, 196711, 104, 65640, 131176, 196712, 105, 65641, 131177, 196713, 106, 65642, 131178, 196714, 107, 65643, 131179, 196715, 108, 65644, 131180, 196716, 109, 65645, 131181, 196717, 110, 65646, 131182, 196718, 111, 65647, 131183, 196719, 112, 65648, 131184, 196720, 113, 65649, 131185, 196721, 114, 65650, 131186, 196722, 115, 65651, 131187, 196723, 116, 65652, 131188, 196724, 117, 65653, 131189, 196725, 118, 65654, 131190, 196726, 119, 65655, 131191, 196727, 120, 65656, 131192, 196728, 121, 65657, 131193, 196729, 122, 65658, 131194, 196730, 123, 65659, 131195, 196731, 124, 65660, 131196, 196732, 125, 65661, 131197, 196733, 126, 65662, 131198, 196734, 127, 65663, 131199, 196735] }, (let ring : Nat := 0; let s : State := open0; let s : State := { (s.setNv 0 { s.nvFace 0 with feat := 127 }).setRstate 0 0 with chip := .opened, dch := { s.dch with hard := [], repairs := [] }, job := { s.job with jobs := [{ ring := 0, idx := 3, op := 5, tag := 7, notify := false, len := 2000, src := 0, dst := 0, arg0 := 0, arg1 := 0, iv := 0, pos := 0, aux := 0, pass := 0, parked := false, chain := 0, hash := 0, seq := 0, fin := none, slabs := s.faceSlabs 0 }] } } |> fun s => ((s.wr (CLK_ISL.STATE islJob) islOn).wr JOB_STATUS.FENCED 0).wr (HPT_STATUS.OPEN 0) 1 |>.wr GAL_STATUS.MODE 0 |>.setLock 0 15 false |>.wr (ADM_CLS.BUCKET 3) 99 |> fun s => s.setRing 0 { s.ring 0 with st := 1, log2 := 4, sqBase := 0x10000, cqBase := 0x20000 }; s), by decide +kernel⟩
  · exact ⟨0, 0, [], { regs := [(393992, 0x2002#32), (589896, 0x630000#32), (656384, 1#32), (1048576, 0x808#32), (1048580, 0x3b#32)], tick := 100000, chip := .opened, margin := .sable, stamp := 0, stampTick := 0, fuse := { step := 0, serial := 0, blown := 0, provKey := 0#256, devKey := 0#256 }, bed := { fneg := [], chipReset := 0 }, svy := { run := [(16777216, 0x610#32), (16777220, 15#32), (17825792, 4#32), (17825796, 0x3020100#32), (18874368, 1#32), (18874372, 0x80000#32), (18874376, 8#32), (18874384, 0x101#32), (18874388, 0x80008#32), (18874392, 8#32), (20971520, 0x8180#32), (33554432, 0x8a04000#32), (33554436, 0x4040800#32), (33554440, 0x3e80048#32), (33554448, 1#32), (33554456, 1#32), (33554464, 1#32), (33554472, 1#32), (33554480, 1#32), (33554488, 1#32), (33554496, 1#32), (33554504, 1#32), (33554512, 1#32), (34603008, 0x30010#32), (34603012, 0x40030#32), (34603016, 0x40008#32), (34603024, 0x30010#32), (34603028, 0x40030#32), (34603032, 0x40008#32), (35651584, 3#32), (50331648, 0x32402#32), (50331652, 0x648000#32), (50331656, 0xc80642f#32), (50331660, 0x100003#32), (50331664, 0x64#32), (50331688, 15#32), (50331692, 0x114#32), (50331808, 0x201013f#32), (50331812, 0x201013f#32), (50331936, 0x10#32), (67108864, 1#32), (67108868, 0x1964#32), (67108872, 0x1964#32), (67108876, 0x2bf20#32), (67108880, 0x186a00#32), (67108884, 0xcccd#32), (67108888, 0xf852e666#32), (67108892, 0x28fd99a#32), (67108896, 0xb33300f6#32), (67108900, 0x28999a#32)], has := [16, 17, 18, 20, 32, 33, 34, 48, 64], loaded := true, shadow := true, staging := [], inst := [], live := false, cmd := 0, taken := [], face := 0, pairDig := 0#128 }, slb := { slabs := [(0, { mask := 0#64, word := 8#32 })], ready := true, owned := true, baseR := 0, grants := [], ift := [], lmap := [], image := [] }, lgr := { packA := { ebase := 0, energy := 0, rc := 0, fcc := 0, dc := 0, chem := 0, ma := 0, gaugeMv := 0, temp := 0, debit := 0, saveDebit := 0, hiScans := 0, loScans := 0, valid := 0, last := none, esr := [], esrTick := 0, gaugeTick := 0 }, packB := { ebase := 0, energy := 0, rc := 0, fcc := 0, dc := 0, chem := 0, ma := 0, gaugeMv := 0, temp := 0, debit := 0, saveDebit := 0, hiScans := 0, loScans := 0, valid := 0, last := none, esr := [], esrTick := 0, gaugeTick := 0 }, sableCnt := 0, extra := false }, adm := { rr := 7, jobq := [], wear := 0, wearHaul := 0, wearMark := 0, day := 0, repTick := [], repDue := [], repMargin := 3 }, haul := { ptr := [], cover := [], bank := 0, started := 0, done := 0, short := false, half := false, waitStk := [], waitSump := [], group := 0, stripes := [], nextStripe := 0, pfw := false, pfwTick := 0 }, save := { off := false, short := false, trigTick := 0, walkTick := 0, walked := false, railCut := false, powerBack := false, vol := 0, sumpStart := [], first := [], last := [], carve := [], pads := 0, fdirty := [], anchor := none, session := 0, openAfter := 0, down := false, spent := none, lodes := [], aggs := [], staging := [], numbers := [], ctx := { rings := [], lost := false, owners := [], running := [], cached := [] } }, stk := { recs := [], lodes := [], blks := [], remaps := [], broken := [], pseq := [], head := [], openLode := [], wlWait := [], intents := [], jpend := [], jrnl := [], jseq := 0, jpage := 0, jsaved := 0, dies := [], silent := [], accs := [], applied := [], folding := false, reworking := false, degraded := 0, bootBad := [], bootMap := [], hblock := 0, lpage := 0, lfix := 0, anchors := [], apage := 0, patrolWin := 0, patrolled := [], patrolRead := [] }, saves := [], res := { fetch := [], demand := [], lastPort := 7, prefetch := [], bgPtr := [], bgBank := 0, rebuilt := false, filling := false, trigTick := 0, counted := 0, memRec := 0, holdRec := [], newLost := [], trained := false, noKeys := false, anchored := false, scanTick := 0 }, dch := { mem := [], poison := [], banks := [], repairs := [], hard := [], devCe := [], eqCe := [], eqTick := [], eqTemp := [], bootTemps := [], taps := [], ueRun := [], late := [], early := [], refBank := [], periodCe := 0, win := 0, limits := [3600, 4096, 256, 16, 64], mig := none, rankMap := [], crdMap := [], inForce := [], cfgNew := [], lastReq := [], actLimit := [], rankSr := [], eqRun := [], scrubTick := [], prev := [], ceTotal := [] }, ports := [], nv := [(0, { dirty := 0, shutdown := 0, feat := 0x7f#128, lsa := [] })], job := { rings := [(0, { st := 1, err := 0, log2 := 4, vector := 0, imod := 0, sqHead := 0, sqTail := 0, cqTail := 0, cqHead := 0, sqBase := 65536, cqBase := 131072, done := 0, errors := 0, pend := false, irqDue := false, irqRun := false })], cache := [], jobs := [{ ring := 0, idx := 3, op := 5, tag := 7, notify := false, len := 1, src := 0, dst := 0, arg0 := 0, arg1 := 0, iv := 0#128, pos := 0, aux := 0, pass := 0, parked := false, chain := 0#128, hash := 0#128, seq := 0, fin := none, slabs := [0, 65536, 131072, 196608, 1, 65537, 131073, 196609, 2, 65538, 131074, 196610, 3, 65539, 131075, 196611, 4, 65540, 131076, 196612, 5, 65541, 131077, 196613, 6, 65542, 131078, 196614, 7, 65543, 131079, 196615, 8, 65544, 131080, 196616, 9, 65545, 131081, 196617, 10, 65546, 131082, 196618, 11, 65547, 131083, 196619, 12, 65548, 131084, 196620, 13, 65549, 131085, 196621, 14, 65550, 131086, 196622, 15, 65551, 131087, 196623, 16, 65552, 131088, 196624, 17, 65553, 131089, 196625, 18, 65554, 131090, 196626, 19, 65555, 131091, 196627, 20, 65556, 131092, 196628, 21, 65557, 131093, 196629, 22, 65558, 131094, 196630, 23, 65559, 131095, 196631, 24, 65560, 131096, 196632, 25, 65561, 131097, 196633, 26, 65562, 131098, 196634, 27, 65563, 131099, 196635, 28, 65564, 131100, 196636, 29, 65565, 131101, 196637, 30, 65566, 131102, 196638, 31, 65567, 131103, 196639, 32, 65568, 131104, 196640, 33, 65569, 131105, 196641, 34, 65570, 131106, 196642, 35, 65571, 131107, 196643, 36, 65572, 131108, 196644, 37, 65573, 131109, 196645, 38, 65574, 131110, 196646, 39, 65575, 131111, 196647, 40, 65576, 131112, 196648, 41, 65577, 131113, 196649, 42, 65578, 131114, 196650, 43, 65579, 131115, 196651, 44, 65580, 131116, 196652, 45, 65581, 131117, 196653, 46, 65582, 131118, 196654, 47, 65583, 131119, 196655, 48, 65584, 131120, 196656, 49, 65585, 131121, 196657, 50, 65586, 131122, 196658, 51, 65587, 131123, 196659, 52, 65588, 131124, 196660, 53, 65589, 131125, 196661, 54, 65590, 131126, 196662, 55, 65591, 131127, 196663, 56, 65592, 131128, 196664, 57, 65593, 131129, 196665, 58, 65594, 131130, 196666, 59, 65595, 131131, 196667, 60, 65596, 131132, 196668, 61, 65597, 131133, 196669, 62, 65598, 131134, 196670, 63, 65599, 131135, 196671, 64, 65600, 131136, 196672, 65, 65601, 131137, 196673, 66, 65602, 131138, 196674, 67, 65603, 131139, 196675, 68, 65604, 131140, 196676, 69, 65605, 131141, 196677, 70, 65606, 131142, 196678, 71, 65607, 131143, 196679, 72, 65608, 131144, 196680, 73, 65609, 131145, 196681, 74, 65610, 131146, 196682, 75, 65611, 131147, 196683, 76, 65612, 131148, 196684, 77, 65613, 131149, 196685, 78, 65614, 131150, 196686, 79, 65615, 131151, 196687, 80, 65616, 131152, 196688, 81, 65617, 131153, 196689, 82, 65618, 131154, 196690, 83, 65619, 131155, 196691, 84, 65620, 131156, 196692, 85, 65621, 131157, 196693, 86, 65622, 131158, 196694, 87, 65623, 131159, 196695, 88, 65624, 131160, 196696, 89, 65625, 131161, 196697, 90, 65626, 131162, 196698, 91, 65627, 131163, 196699, 92, 65628, 131164, 196700, 93, 65629, 131165, 196701, 94, 65630, 131166, 196702, 95, 65631, 131167, 196703, 96, 65632, 131168, 196704, 97, 65633, 131169, 196705, 98, 65634, 131170, 196706, 99, 65635, 131171, 196707, 100, 65636, 131172, 196708, 101, 65637, 131173, 196709, 102, 65638, 131174, 196710, 103, 65639, 131175, 196711, 104, 65640, 131176, 196712, 105, 65641, 131177, 196713, 106, 65642, 131178, 196714, 107, 65643, 131179, 196715, 108, 65644, 131180, 196716, 109, 65645, 131181, 196717, 110, 65646, 131182, 196718, 111, 65647, 131183, 196719, 112, 65648, 131184, 196720, 113, 65649, 131185, 196721, 114, 65650, 131186, 196722, 115, 65651, 131187, 196723, 116, 65652, 131188, 196724, 117, 65653, 131189, 196725, 118, 65654, 131190, 196726, 119, 65655, 131191, 196727, 120, 65656, 131192, 196728, 121, 65657, 131193, 196729, 122, 65658, 131194, 196730, 123, 65659, 131195, 196731, 124, 65660, 131196, 196732, 125, 65661, 131197, 196733, 126, 65662, 131198, 196734, 127, 65663, 131199, 196735] }], pins := [], lost := false, fenceDue := 0, inits := [] }, cip := { keys := [], keyin := [], store := [], storeOk := false, ceiling := 0, storeSeq := 0, cmd := none, purge := [], stale := [], erasePend := 0, eraseSan := 0, rotate := [], misWin := [], next := 0, kat := [] }, gal := { epoch := 0#64, joinEpoch := 0#64, peerFenced := false, sent := [], held := [], fwds := [], nextTag := 0, lines := [], peerLines := [], joinStep := 0, listGot := false, rslvGot := false, lineWait := [], asks := [], nextAsk := 0, reqs := [], ctls := [], rslvSlab := 0, rslvSett := 0, rslvQuota := 0, kept := false, peerEpoch := 0#64, fullFor := 0, replays := [], lastFlit := [0, 0], lastBeat := 0, graceAt := 0, seen := 0, joinAt := 0, hello := [false, false], handover := 0, zeroing := [] }, seq := { stage := .idle, order := [], good := [], bad := [], low := [], high := [], glitch := [], glitchPrev := [], glitchWin := 0, latchAfter := false, offTick := 0, minOff := true, timed := false, offPend := false, noDnWait := false, inGood := 0, inLow := 0, pwrLow := false, pfwTick := 0, pfwLate := false, stretch := 0, pulse := 0, pg00Told := false, pg00Good := 0, pg00Bad := 0, pg00Ok := false, latchSave := false, syncDrive := false, lowTold := false, timedTick := 0 }, clk := { rising := [], tripSeen := false, refFail := false }, flt := { raised := [], irqq := [], win := [], esc := [], thrNew := [], winNew := [], rst := none, later := [], holdAfter := false }, clg := { live := [], staging := [], forming := [], phase := 0, pend := [], held := [], log := [], win := none, fetch := none, extDay := 0, railLogged := false, bootLogged := false, ffcAtWaking := [0, 0, 0], subSec := 0, resumed := false }, twb := { ports := [], alert := false, alertTick := 0, mctp := 0, sensTick := [] }, fwm := { slotA := { image := [], sealed := false, tag := 0#128, next := [], blk := 0 }, slotB := { image := [], sealed := false, tag := 0#128, next := [], blk := 0 }, active := 0, trial := false, tries := 0, staging := none, xfer := 0, xferFace := 0, running := true, alive := false, prev := 0, handoff := false, recovery := false, svyEpoch := 0, openCmds := [], waiting := [], bootTick := 0 }, pin := { testen := false, power := true, tap := .bypass, railset := 0, err := false }, pending := [], out := [], free := 0 }, 0, { ring := 0, idx := 3, op := 5, tag := 7, notify := false, len := 1, src := 0, dst := 0, arg0 := 0, arg1 := 0, iv := 0#128, pos := 0, aux := 0, pass := 0, parked := false, chain := 0#128, hash := 0#128, seq := 0, fin := none, slabs := [0, 65536, 131072, 196608, 1, 65537, 131073, 196609, 2, 65538, 131074, 196610, 3, 65539, 131075, 196611, 4, 65540, 131076, 196612, 5, 65541, 131077, 196613, 6, 65542, 131078, 196614, 7, 65543, 131079, 196615, 8, 65544, 131080, 196616, 9, 65545, 131081, 196617, 10, 65546, 131082, 196618, 11, 65547, 131083, 196619, 12, 65548, 131084, 196620, 13, 65549, 131085, 196621, 14, 65550, 131086, 196622, 15, 65551, 131087, 196623, 16, 65552, 131088, 196624, 17, 65553, 131089, 196625, 18, 65554, 131090, 196626, 19, 65555, 131091, 196627, 20, 65556, 131092, 196628, 21, 65557, 131093, 196629, 22, 65558, 131094, 196630, 23, 65559, 131095, 196631, 24, 65560, 131096, 196632, 25, 65561, 131097, 196633, 26, 65562, 131098, 196634, 27, 65563, 131099, 196635, 28, 65564, 131100, 196636, 29, 65565, 131101, 196637, 30, 65566, 131102, 196638, 31, 65567, 131103, 196639, 32, 65568, 131104, 196640, 33, 65569, 131105, 196641, 34, 65570, 131106, 196642, 35, 65571, 131107, 196643, 36, 65572, 131108, 196644, 37, 65573, 131109, 196645, 38, 65574, 131110, 196646, 39, 65575, 131111, 196647, 40, 65576, 131112, 196648, 41, 65577, 131113, 196649, 42, 65578, 131114, 196650, 43, 65579, 131115, 196651, 44, 65580, 131116, 196652, 45, 65581, 131117, 196653, 46, 65582, 131118, 196654, 47, 65583, 131119, 196655, 48, 65584, 131120, 196656, 49, 65585, 131121, 196657, 50, 65586, 131122, 196658, 51, 65587, 131123, 196659, 52, 65588, 131124, 196660, 53, 65589, 131125, 196661, 54, 65590, 131126, 196662, 55, 65591, 131127, 196663, 56, 65592, 131128, 196664, 57, 65593, 131129, 196665, 58, 65594, 131130, 196666, 59, 65595, 131131, 196667, 60, 65596, 131132, 196668, 61, 65597, 131133, 196669, 62, 65598, 131134, 196670, 63, 65599, 131135, 196671, 64, 65600, 131136, 196672, 65, 65601, 131137, 196673, 66, 65602, 131138, 196674, 67, 65603, 131139, 196675, 68, 65604, 131140, 196676, 69, 65605, 131141, 196677, 70, 65606, 131142, 196678, 71, 65607, 131143, 196679, 72, 65608, 131144, 196680, 73, 65609, 131145, 196681, 74, 65610, 131146, 196682, 75, 65611, 131147, 196683, 76, 65612, 131148, 196684, 77, 65613, 131149, 196685, 78, 65614, 131150, 196686, 79, 65615, 131151, 196687, 80, 65616, 131152, 196688, 81, 65617, 131153, 196689, 82, 65618, 131154, 196690, 83, 65619, 131155, 196691, 84, 65620, 131156, 196692, 85, 65621, 131157, 196693, 86, 65622, 131158, 196694, 87, 65623, 131159, 196695, 88, 65624, 131160, 196696, 89, 65625, 131161, 196697, 90, 65626, 131162, 196698, 91, 65627, 131163, 196699, 92, 65628, 131164, 196700, 93, 65629, 131165, 196701, 94, 65630, 131166, 196702, 95, 65631, 131167, 196703, 96, 65632, 131168, 196704, 97, 65633, 131169, 196705, 98, 65634, 131170, 196706, 99, 65635, 131171, 196707, 100, 65636, 131172, 196708, 101, 65637, 131173, 196709, 102, 65638, 131174, 196710, 103, 65639, 131175, 196711, 104, 65640, 131176, 196712, 105, 65641, 131177, 196713, 106, 65642, 131178, 196714, 107, 65643, 131179, 196715, 108, 65644, 131180, 196716, 109, 65645, 131181, 196717, 110, 65646, 131182, 196718, 111, 65647, 131183, 196719, 112, 65648, 131184, 196720, 113, 65649, 131185, 196721, 114, 65650, 131186, 196722, 115, 65651, 131187, 196723, 116, 65652, 131188, 196724, 117, 65653, 131189, 196725, 118, 65654, 131190, 196726, 119, 65655, 131191, 196727, 120, 65656, 131192, 196728, 121, 65657, 131193, 196729, 122, 65658, 131194, 196730, 123, 65659, 131195, 196731, 124, 65660, 131196, 196732, 125, 65661, 131197, 196733, 126, 65662, 131198, 196734, 127, 65663, 131199, 196735] }, 0, (let ring : Nat := 0; let s : State := open0; let s : State := { (s.setNv 0 { s.nvFace 0 with feat := 127 }).setRstate 0 0 with chip := .opened, dch := { s.dch with hard := [], repairs := [] }, job := { s.job with jobs := [{ ring := 0, idx := 3, op := 5, tag := 7, notify := false, len := 1, src := 0, dst := 0, arg0 := 0, arg1 := 0, iv := 0, pos := 0, aux := 0, pass := 0, parked := false, chain := 0, hash := 0, seq := 0, fin := none, slabs := s.faceSlabs 0 }] } } |> fun s => ((s.wr (CLK_ISL.STATE islJob) islOn).wr JOB_STATUS.FENCED 0).wr (HPT_STATUS.OPEN 0) 1 |>.wr GAL_STATUS.MODE 0 |>.setLock 0 15 false |>.wr (ADM_CLS.BUCKET 3) 99 |> fun s => s.setRing 0 { s.ring 0 with st := 1, log2 := 4, sqBase := 0x10000, cqBase := 0x20000 } |> fun s => s.setRstate 0 1; s), by decide +kernel⟩
  · exact ⟨0, 0, [], { regs := [(393992, 0x2002#32), (589896, 0x630000#32), (656384, 1#32), (1048576, 0x808#32), (1048580, 0x3b#32)], tick := 100000, chip := .opened, margin := .sable, stamp := 0, stampTick := 0, fuse := { step := 0, serial := 0, blown := 0, provKey := 0#256, devKey := 0#256 }, bed := { fneg := [], chipReset := 0 }, svy := { run := [(16777216, 0x610#32), (16777220, 15#32), (17825792, 4#32), (17825796, 0x3020100#32), (18874368, 1#32), (18874372, 0x10000#32), (18874376, 8#32), (18874384, 0x101#32), (18874388, 0x80008#32), (18874392, 8#32), (20971520, 0x8180#32), (33554432, 0x8a04000#32), (33554436, 0x4040800#32), (33554440, 0x3e80048#32), (33554448, 1#32), (33554456, 1#32), (33554464, 1#32), (33554472, 1#32), (33554480, 1#32), (33554488, 1#32), (33554496, 1#32), (33554504, 1#32), (33554512, 1#32), (34603008, 0x30010#32), (34603012, 0x40030#32), (34603016, 0x40008#32), (34603024, 0x30010#32), (34603028, 0x40030#32), (34603032, 0x40008#32), (35651584, 3#32), (50331648, 0x32402#32), (50331652, 0x648000#32), (50331656, 0xc80642f#32), (50331660, 0x100003#32), (50331664, 0x64#32), (50331688, 15#32), (50331692, 0x114#32), (50331808, 0x201013f#32), (50331812, 0x201013f#32), (50331936, 0x10#32), (67108864, 1#32), (67108868, 0x1964#32), (67108872, 0x1964#32), (67108876, 0x2bf20#32), (67108880, 0x186a00#32), (67108884, 0xcccd#32), (67108888, 0xf852e666#32), (67108892, 0x28fd99a#32), (67108896, 0xb33300f6#32), (67108900, 0x28999a#32)], has := [16, 17, 18, 20, 32, 33, 34, 48, 64], loaded := true, shadow := true, staging := [], inst := [], live := false, cmd := 0, taken := [], face := 0, pairDig := 0#128 }, slb := { slabs := [(1, { mask := 0#64, word := 7#32 }), (2, { mask := 0#64, word := 7#32 }), (3, { mask := 0#64, word := 7#32 }), (4, { mask := 0#64, word := 7#32 }), (5, { mask := 0#64, word := 7#32 }), (6, { mask := 0#64, word := 7#32 }), (7, { mask := 0#64, word := 7#32 }), (8, { mask := 0#64, word := 7#32 }), (9, { mask := 0#64, word := 7#32 }), (10, { mask := 0#64, word := 7#32 }), (11, { mask := 0#64, word := 7#32 }), (12, { mask := 0#64, word := 7#32 }), (13, { mask := 0#64, word := 7#32 }), (14, { mask := 0#64, word := 7#32 }), (15, { mask := 0#64, word := 7#32 }), (65536, { mask := 0#64, word := 7#32 }), (65537, { mask := 0#64, word := 7#32 }), (65538, { mask := 0#64, word := 7#32 }), (65539, { mask := 0#64, word := 7#32 }), (65540, { mask := 0#64, word := 7#32 }), (65541, { mask := 0#64, word := 7#32 }), (65542, { mask := 0#64, word := 7#32 }), (65543, { mask := 0#64, word := 7#32 }), (65544, { mask := 0#64, word := 7#32 }), (65545, { mask := 0#64, word := 7#32 }), (65546, { mask := 0#64, word := 7#32 }), (65547, { mask := 0#64, word := 7#32 }), (65548, { mask := 0#64, word := 7#32 }), (65549, { mask := 0#64, word := 7#32 }), (65550, { mask := 0#64, word := 7#32 }), (65551, { mask := 0#64, word := 7#32 }), (131072, { mask := 0#64, word := 7#32 }), (131073, { mask := 0#64, word := 7#32 }), (131074, { mask := 0#64, word := 7#32 }), (131075, { mask := 0#64, word := 7#32 }), (131076, { mask := 0#64, word := 7#32 }), (131077, { mask := 0#64, word := 7#32 }), (131078, { mask := 0#64, word := 7#32 }), (131079, { mask := 0#64, word := 7#32 }), (131080, { mask := 0#64, word := 7#32 }), (131081, { mask := 0#64, word := 7#32 }), (131082, { mask := 0#64, word := 7#32 }), (131083, { mask := 0#64, word := 7#32 }), (131084, { mask := 0#64, word := 7#32 }), (131085, { mask := 0#64, word := 7#32 }), (131086, { mask := 0#64, word := 7#32 }), (131087, { mask := 0#64, word := 7#32 }), (196608, { mask := 0#64, word := 7#32 }), (196609, { mask := 0#64, word := 7#32 }), (196610, { mask := 0#64, word := 7#32 }), (196611, { mask := 0#64, word := 7#32 }), (196612, { mask := 0#64, word := 7#32 }), (196613, { mask := 0#64, word := 7#32 }), (196614, { mask := 0#64, word := 7#32 }), (196615, { mask := 0#64, word := 7#32 }), (196616, { mask := 0#64, word := 7#32 }), (196617, { mask := 0#64, word := 7#32 }), (196618, { mask := 0#64, word := 7#32 }), (196619, { mask := 0#64, word := 7#32 }), (196620, { mask := 0#64, word := 7#32 }), (196621, { mask := 0#64, word := 7#32 }), (196622, { mask := 0#64, word := 7#32 }), (196623, { mask := 0#64, word := 7#32 })], ready := true, owned := true, baseR := 0, grants := [], ift := [], lmap := [], image := [] }, lgr := { packA := { ebase := 0, energy := 0, rc := 0, fcc := 0, dc := 0, chem := 0, ma := 0, gaugeMv := 0, temp := 0, debit := 0, saveDebit := 0, hiScans := 0, loScans := 0, valid := 0, last := none, esr := [], esrTick := 0, gaugeTick := 0 }, packB := { ebase := 0, energy := 0, rc := 0, fcc := 0, dc := 0, chem := 0, ma := 0, gaugeMv := 0, temp := 0, debit := 0, saveDebit := 0, hiScans := 0, loScans := 0, valid := 0, last := none, esr := [], esrTick := 0, gaugeTick := 0 }, sableCnt := 0, extra := false }, adm := { rr := 7, jobq := [], wear := 0, wearHaul := 0, wearMark := 0, day := 0, repTick := [], repDue := [], repMargin := 3 }, haul := { ptr := [], cover := [], bank := 0, started := 0, done := 0, short := false, half := false, waitStk := [], waitSump := [], group := 0, stripes := [], nextStripe := 0, pfw := false, pfwTick := 0 }, save := { off := false, short := false, trigTick := 0, walkTick := 0, walked := false, railCut := false, powerBack := false, vol := 0, sumpStart := [], first := [], last := [], carve := [], pads := 0, fdirty := [], anchor := none, session := 0, openAfter := 0, down := false, spent := none, lodes := [], aggs := [], staging := [], numbers := [], ctx := { rings := [], lost := false, owners := [], running := [], cached := [] } }, stk := { recs := [], lodes := [], blks := [], remaps := [], broken := [], pseq := [], head := [], openLode := [], wlWait := [], intents := [], jpend := [], jrnl := [], jseq := 0, jpage := 0, jsaved := 0, dies := [], silent := [], accs := [], applied := [], folding := false, reworking := false, degraded := 0, bootBad := [], bootMap := [], hblock := 0, lpage := 0, lfix := 0, anchors := [], apage := 0, patrolWin := 0, patrolled := [], patrolRead := [] }, saves := [], res := { fetch := [], demand := [], lastPort := 7, prefetch := [], bgPtr := [], bgBank := 0, rebuilt := false, filling := false, trigTick := 0, counted := 0, memRec := 0, holdRec := [], newLost := [], trained := false, noKeys := false, anchored := false, scanTick := 0 }, dch := { mem := [], poison := [], banks := [], repairs := [], hard := [], devCe := [], eqCe := [], eqTick := [], eqTemp := [], bootTemps := [], taps := [], ueRun := [], late := [], early := [], refBank := [], periodCe := 0, win := 0, limits := [3600, 4096, 256, 16, 64], mig := none, rankMap := [], crdMap := [], inForce := [], cfgNew := [], lastReq := [], actLimit := [], rankSr := [], eqRun := [], scrubTick := [], prev := [], ceTotal := [] }, ports := [], nv := [(0, { dirty := 0, shutdown := 0, feat := 0x7f#128, lsa := [] })], job := { rings := [(0, { st := 1, err := 0, log2 := 4, vector := 0, imod := 0, sqHead := 0, sqTail := 0, cqTail := 0, cqHead := 0, sqBase := 65536, cqBase := 131072, done := 0, errors := 0, pend := false, irqDue := false, irqRun := false })], cache := [], jobs := [{ ring := 0, idx := 3, op := 8, tag := 7, notify := false, len := 0, src := 0, dst := 0, arg0 := 0, arg1 := 0, iv := 0#128, pos := 63, aux := 0, pass := 1, parked := false, chain := 0#128, hash := 0#128, seq := 0, fin := none, slabs := [0] }], pins := [], lost := false, fenceDue := 0, inits := [] }, cip := { keys := [], keyin := [], store := [], storeOk := false, ceiling := 0, storeSeq := 0, cmd := none, purge := [], stale := [], erasePend := 0, eraseSan := 0, rotate := [], misWin := [], next := 0, kat := [] }, gal := { epoch := 0#64, joinEpoch := 0#64, peerFenced := false, sent := [], held := [], fwds := [], nextTag := 0, lines := [], peerLines := [], joinStep := 0, listGot := false, rslvGot := false, lineWait := [], asks := [], nextAsk := 0, reqs := [], ctls := [], rslvSlab := 0, rslvSett := 0, rslvQuota := 0, kept := false, peerEpoch := 0#64, fullFor := 0, replays := [], lastFlit := [0, 0], lastBeat := 0, graceAt := 0, seen := 0, joinAt := 0, hello := [false, false], handover := 0, zeroing := [] }, seq := { stage := .idle, order := [], good := [], bad := [], low := [], high := [], glitch := [], glitchPrev := [], glitchWin := 0, latchAfter := false, offTick := 0, minOff := true, timed := false, offPend := false, noDnWait := false, inGood := 0, inLow := 0, pwrLow := false, pfwTick := 0, pfwLate := false, stretch := 0, pulse := 0, pg00Told := false, pg00Good := 0, pg00Bad := 0, pg00Ok := false, latchSave := false, syncDrive := false, lowTold := false, timedTick := 0 }, clk := { rising := [], tripSeen := false, refFail := false }, flt := { raised := [], irqq := [], win := [], esc := [], thrNew := [], winNew := [], rst := none, later := [], holdAfter := false }, clg := { live := [], staging := [], forming := [], phase := 0, pend := [], held := [], log := [], win := none, fetch := none, extDay := 0, railLogged := false, bootLogged := false, ffcAtWaking := [0, 0, 0], subSec := 0, resumed := false }, twb := { ports := [], alert := false, alertTick := 0, mctp := 0, sensTick := [] }, fwm := { slotA := { image := [], sealed := false, tag := 0#128, next := [], blk := 0 }, slotB := { image := [], sealed := false, tag := 0#128, next := [], blk := 0 }, active := 0, trial := false, tries := 0, staging := none, xfer := 0, xferFace := 0, running := true, alive := false, prev := 0, handoff := false, recovery := false, svyEpoch := 0, openCmds := [], waiting := [], bootTick := 0 }, pin := { testen := false, power := true, tap := .bypass, railset := 0, err := false }, pending := [], out := [], free := 0 }, 0, { ring := 0, idx := 3, op := 8, tag := 7, notify := false, len := 0, src := 0, dst := 0, arg0 := 0, arg1 := 0, iv := 0#128, pos := 63, aux := 0, pass := 1, parked := false, chain := 0#128, hash := 0#128, seq := 0, fin := none, slabs := [0] }, 0, (let ring : Nat := 0; let s : State := open0; let s : State := withRun s 0x1200004 65536; let s : State := { (s.setNv 0 { s.nvFace 0 with feat := 127 }).setRstate 0 0 with chip := .opened, dch := { s.dch with hard := [], repairs := [] }, job := { s.job with jobs := [{ ring := 0, idx := 3, op := 8, tag := 7, notify := false, len := 0, src := 0, dst := 0, arg0 := 0, arg1 := 0, iv := 0, pos := 63, aux := 0, pass := 1, parked := false, chain := 0, hash := 0, seq := 0, fin := none, slabs := s.faceSlabs 0 }] } } |> fun s => ((s.wr (CLK_ISL.STATE islJob) islOn).wr JOB_STATUS.FENCED 0).wr (HPT_STATUS.OPEN 0) 1 |>.wr GAL_STATUS.MODE 0 |>.setLock 0 15 false |>.wr (ADM_CLS.BUCKET 3) 99 |> fun s => s.setRing 0 { s.ring 0 with st := 1, log2 := 4, sqBase := 0x10000, cqBase := 0x20000 } |> fun s => faces.foldl (fun s p => s.setPort p { s.port p with wbuf := [], reads := [] }) s |> fun s => { s with adm := { s.adm with jobq := [] } } |> fun s => let l := (s.faceSlabs 0); { s with slb := { s.slb with owned := true } } |> fun s => (l.drop 1).foldl (fun s i => s.setOwner i 7) s |> fun s => { s with job := { s.job with jobs := s.job.jobs.map (fun j => { j with slabs := l.take 1 }) } }; s), by decide +kernel⟩

/-- Clauses of Jobs have states and operands that meet their conditions. -/
theorem test_conditions_Jobs_6 :
    (∃ (ring : Nat) (desc : Nat) (sram : List (Nat × SramErr)) (s1 : State) (f : Nat) (d : Line) (s : State), s.chip ≠ .off ∧ s1 = s.sramAll sram ∧ s1.ringFace ring = some f ∧ s1.jobsRun ring = true ∧ s1.ringJobs ring = [] ∧ s1.mayStart ring = true ∧ (s1.access f ((s1.ring ring).cqAddr (s1.ring ring).sqHead)).isSome = true ∧ (s1.jobRead f ((s1.ring ring).sqAddr (s1.ring ring).sqHead) desc).2 = .data d ∧ 8 < bitsOf 0 8 d.toNat) := by
  exact ⟨0, 0, [], { regs := [(393992, 0x2002#32), (589896, 0x630000#32), (656384, 1#32), (1048576, 0x808#32), (1048580, 0x3b#32)], tick := 100000, chip := .opened, margin := .sable, stamp := 0, stampTick := 0, fuse := { step := 0, serial := 0, blown := 0, provKey := 0#256, devKey := 0#256 }, bed := { fneg := [], chipReset := 0 }, svy := { run := [(16777216, 0x610#32), (16777220, 15#32), (17825792, 4#32), (17825796, 0x3020100#32), (18874368, 1#32), (18874372, 0x80000#32), (18874376, 8#32), (18874384, 0x101#32), (18874388, 0x80008#32), (18874392, 8#32), (20971520, 0x8180#32), (33554432, 0x8a04000#32), (33554436, 0x4040800#32), (33554440, 0x3e80048#32), (33554448, 1#32), (33554456, 1#32), (33554464, 1#32), (33554472, 1#32), (33554480, 1#32), (33554488, 1#32), (33554496, 1#32), (33554504, 1#32), (33554512, 1#32), (34603008, 0x30010#32), (34603012, 0x40030#32), (34603016, 0x40008#32), (34603024, 0x30010#32), (34603028, 0x40030#32), (34603032, 0x40008#32), (35651584, 3#32), (50331648, 0x32402#32), (50331652, 0x648000#32), (50331656, 0xc80642f#32), (50331660, 0x100003#32), (50331664, 0x64#32), (50331688, 15#32), (50331692, 0x114#32), (50331808, 0x201013f#32), (50331812, 0x201013f#32), (50331936, 0x10#32), (67108864, 1#32), (67108868, 0x1964#32), (67108872, 0x1964#32), (67108876, 0x2bf20#32), (67108880, 0x186a00#32), (67108884, 0xcccd#32), (67108888, 0xf852e666#32), (67108892, 0x28fd99a#32), (67108896, 0xb33300f6#32), (67108900, 0x28999a#32)], has := [16, 17, 18, 20, 32, 33, 34, 48, 64], loaded := true, shadow := true, staging := [], inst := [], live := false, cmd := 0, taken := [], face := 0, pairDig := 0#128 }, slb := { slabs := [], ready := true, owned := true, baseR := 0, grants := [], ift := [], lmap := [], image := [] }, lgr := { packA := { ebase := 0, energy := 0, rc := 0, fcc := 0, dc := 0, chem := 0, ma := 0, gaugeMv := 0, temp := 0, debit := 0, saveDebit := 0, hiScans := 0, loScans := 0, valid := 0, last := none, esr := [], esrTick := 0, gaugeTick := 0 }, packB := { ebase := 0, energy := 0, rc := 0, fcc := 0, dc := 0, chem := 0, ma := 0, gaugeMv := 0, temp := 0, debit := 0, saveDebit := 0, hiScans := 0, loScans := 0, valid := 0, last := none, esr := [], esrTick := 0, gaugeTick := 0 }, sableCnt := 0, extra := false }, adm := { rr := 7, jobq := [], wear := 0, wearHaul := 0, wearMark := 0, day := 0, repTick := [], repDue := [], repMargin := 3 }, haul := { ptr := [], cover := [], bank := 0, started := 0, done := 0, short := false, half := false, waitStk := [], waitSump := [], group := 0, stripes := [], nextStripe := 0, pfw := false, pfwTick := 0 }, save := { off := false, short := false, trigTick := 0, walkTick := 0, walked := false, railCut := false, powerBack := false, vol := 0, sumpStart := [], first := [], last := [], carve := [], pads := 0, fdirty := [], anchor := none, session := 0, openAfter := 0, down := false, spent := none, lodes := [], aggs := [], staging := [], numbers := [], ctx := { rings := [], lost := false, owners := [], running := [], cached := [] } }, stk := { recs := [], lodes := [], blks := [], remaps := [], broken := [], pseq := [], head := [], openLode := [], wlWait := [], intents := [], jpend := [], jrnl := [], jseq := 0, jpage := 0, jsaved := 0, dies := [], silent := [], accs := [], applied := [], folding := false, reworking := false, degraded := 0, bootBad := [], bootMap := [], hblock := 0, lpage := 0, lfix := 0, anchors := [], apage := 0, patrolWin := 0, patrolled := [], patrolRead := [] }, saves := [], res := { fetch := [], demand := [], lastPort := 7, prefetch := [], bgPtr := [], bgBank := 0, rebuilt := false, filling := false, trigTick := 0, counted := 0, memRec := 0, holdRec := [], newLost := [], trained := false, noKeys := false, anchored := false, scanTick := 0 }, dch := { mem := [(0, 9#8)], poison := [], banks := [], repairs := [], hard := [], devCe := [], eqCe := [], eqTick := [], eqTemp := [], bootTemps := [], taps := [], ueRun := [], late := [], early := [], refBank := [], periodCe := 0, win := 0, limits := [3600, 4096, 256, 16, 64], mig := none, rankMap := [], crdMap := [], inForce := [], cfgNew := [], lastReq := [], actLimit := [], rankSr := [], eqRun := [], scrubTick := [], prev := [], ceTotal := [] }, ports := [], nv := [(0, { dirty := 0, shutdown := 0, feat := 0x7f#128, lsa := [] })], job := { rings := [(0, { st := 1, err := 0, log2 := 4, vector := 0, imod := 0, sqHead := 0, sqTail := 1, cqTail := 0, cqHead := 0, sqBase := 0, cqBase := 131072, done := 0, errors := 0, pend := false, irqDue := false, irqRun := false })], cache := [0], jobs := [], pins := [], lost := false, fenceDue := 0, inits := [] }, cip := { keys := [], keyin := [], store := [], storeOk := false, ceiling := 0, storeSeq := 0, cmd := none, purge := [], stale := [], erasePend := 0, eraseSan := 0, rotate := [], misWin := [], next := 0, kat := [] }, gal := { epoch := 0#64, joinEpoch := 0#64, peerFenced := false, sent := [], held := [], fwds := [], nextTag := 0, lines := [], peerLines := [], joinStep := 0, listGot := false, rslvGot := false, lineWait := [], asks := [], nextAsk := 0, reqs := [], ctls := [], rslvSlab := 0, rslvSett := 0, rslvQuota := 0, kept := false, peerEpoch := 0#64, fullFor := 0, replays := [], lastFlit := [0, 0], lastBeat := 0, graceAt := 0, seen := 0, joinAt := 0, hello := [false, false], handover := 0, zeroing := [] }, seq := { stage := .idle, order := [], good := [], bad := [], low := [], high := [], glitch := [], glitchPrev := [], glitchWin := 0, latchAfter := false, offTick := 0, minOff := true, timed := false, offPend := false, noDnWait := false, inGood := 0, inLow := 0, pwrLow := false, pfwTick := 0, pfwLate := false, stretch := 0, pulse := 0, pg00Told := false, pg00Good := 0, pg00Bad := 0, pg00Ok := false, latchSave := false, syncDrive := false, lowTold := false, timedTick := 0 }, clk := { rising := [], tripSeen := false, refFail := false }, flt := { raised := [], irqq := [], win := [], esc := [], thrNew := [], winNew := [], rst := none, later := [], holdAfter := false }, clg := { live := [], staging := [], forming := [], phase := 0, pend := [], held := [], log := [], win := none, fetch := none, extDay := 0, railLogged := false, bootLogged := false, ffcAtWaking := [0, 0, 0], subSec := 0, resumed := false }, twb := { ports := [], alert := false, alertTick := 0, mctp := 0, sensTick := [] }, fwm := { slotA := { image := [], sealed := false, tag := 0#128, next := [], blk := 0 }, slotB := { image := [], sealed := false, tag := 0#128, next := [], blk := 0 }, active := 0, trial := false, tries := 0, staging := none, xfer := 0, xferFace := 0, running := true, alive := false, prev := 0, handoff := false, recovery := false, svyEpoch := 0, openCmds := [], waiting := [], bootTick := 0 }, pin := { testen := false, power := true, tap := .bypass, railset := 0, err := false }, pending := [], out := [], free := 0 }, 0, 9#512, (let ring : Nat := 0; let s : State := open0; let s : State := { (s.setNv 0 { s.nvFace 0 with feat := 127 }).setRstate 0 0 with chip := .opened, dch := { s.dch with hard := [], repairs := [] }, job := { s.job with jobs := [{ ring := 0, idx := 3, op := 2, tag := 7, notify := false, len := 1, src := 0, dst := 64, arg0 := 0, arg1 := 0, iv := 0, pos := 0, aux := 0, pass := 0, parked := false, chain := 0, hash := 0, seq := 0, fin := none, slabs := s.faceSlabs 0 }] } } |> fun s => ((s.wr (CLK_ISL.STATE islJob) islOn).wr JOB_STATUS.FENCED 0).wr (HPT_STATUS.OPEN 0) 1 |>.wr GAL_STATUS.MODE 0 |>.setLock 0 15 false |>.wr (ADM_CLS.BUCKET 3) 99 |> fun s => s.setRing 0 { s.ring 0 with st := 1, log2 := 4, sqBase := 0x10000, cqBase := 0x20000 } |> fun s => { s with job := { s.job with jobs := [] } } |> fun s => (s.setRing 0 { s.ring 0 with sqHead := 0, sqTail := 1, cqHead := 0, cqTail := 0, sqBase := 0x0, cqBase := 0x20000 }).writeLine 0 0 9 fullMask |>.wr JOB_CFG.MAX_RUN 4 |> fun s => { s with job := { s.job with cache := [0] } }; s), by decide +kernel⟩

/-- Clauses of LedgerUpdates have states and operands that meet their conditions. -/
theorem test_conditions_LedgerUpdates_1 :
    (∃ (inp : LedgerIn) (s : State), s.chip ≠ .off ∧ s.tick % 32 = 0 ∧ s.ledgerParams = true ∧ s.clk.tripSeen = false) ∧
    (∃ (inp : LedgerIn) (s : State), s.chip ≠ .off ∧ s.tick % 32 = 0 ∧ s.ledgerParams = false ∧ s.clk.tripSeen = false) ∧
    (∃ (s : State), s.chip ≠ .off ∧ s.lgr.extra = true ∧ s.ledgerParams = true) := by
  refine ⟨?_, ?_, ?_⟩
  · exact ⟨{ die := [50, 50, 50, 50, 50], cap := [0, 0, 0, 0, 0, 0, 0] }, (let s : State := open0; let s : State := { s with clk := { s.clk with tripSeen := false } }; s), by decide +kernel⟩
  · exact ⟨{ die := [50, 50, 50, 50, 50], cap := [0, 0, 0, 0, 0, 0, 0] }, (let s : State := open0; let s : State := { s with clk := { s.clk with tripSeen := false }, svy := { s.svy with shadow := false } }; s), by decide +kernel⟩
  · exact ⟨(let s : State := open0; let s : State := { s with lgr := { s.lgr with extra := true } }; s), by decide +kernel⟩

/-- Clauses of LedgerUpdates have states and operands that meet their conditions. -/
theorem test_conditions_LedgerUpdates_2 :
    (∃ (s : State), s.chip ≠ .off ∧ s.lgr.extra = false) ∧
    (∃ (face : Nat) (l : EvLog) (s : State), s.chip ≠ .off ∧ SMap.get false face s.adm.repDue = true ∧ SMap.get 0 face s.adm.repTick + 32767 ≤ s.tick ∧ (s.port face).logs[0]? = some l ∧ l.recs.length < 256) ∧
    (∃ (inp : ScanIn) (s : State), s.chip ≠ .off ∧ s.rd SEQ_EN.RAILS = 0 ∧ s.seq.stage = .idle ∧ s.rd (LGR_PSTAT.STATE 0) = pkAbsent ∧ s.rd (LGR_PSTAT.STATE 1) = pkAbsent ∧ s.lgr.packA.hiScans < 7 ∧ s.lgr.packB.hiScans < 7 ∧ s.rd SEQ_STRAP.BSET ≠ 3) := by
  refine ⟨?_, ?_, ?_⟩
  · exact ⟨(let s : State := open0; let s : State := { s with lgr := { s.lgr with extra := false } }; s), by decide +kernel⟩
  · exact ⟨0, { recs := [], next := 0, overflow := 0 }, (let s : State := open0; let s : State := { s with adm := { s.adm with repDue := [(0, true)], repTick := [(0, 5)] }, tick := s.tick + 32800 }; s), by decide +kernel⟩
  · exact ⟨{ codes := [], pg := 0, sync := false, up := false, pwrOk := true, gaugeA := true, gaugeB := true }, (let s : State := open0; let s : State := s.wr SEQ_EN.RAILS (0); let s : State := { s with seq := { s.seq with stage := .idle } }; let s : State := s.wr (LGR_PSTAT.STATE 0) (pkAbsent); let s : State := s.wr (LGR_PSTAT.STATE 1) (pkAbsent); s), by decide +kernel⟩

/-- Clauses of PackCommands have states and operands that meet their conditions. -/
theorem test_conditions_PackCommands_1 :
    (∃ (pack : Nat) (ans : Option GaugeIn) (g : GaugeIn) (s : State), s.chip ≠ .off ∧ pack < 2 ∧ s.ledgerParams = true ∧ s.rd (LGR_PSTAT.STATE pack) = pkQualifying ∧ ans = some g ∧ (s.takeGauge pack g).gaugeCause pack g = none ∧ (s.pack pack).valid < 9) ∧
    (∃ (pack : Nat) (ans : Option GaugeIn) (g : GaugeIn) (s : State), s.chip ≠ .off ∧ pack < 2 ∧ s.ledgerParams = true ∧ s.rd (LGR_PSTAT.STATE pack) = pkQualifying ∧ ans = some g ∧ (s.takeGauge pack g).gaugeCause pack g = none ∧ 9 ≤ (s.pack pack).valid) ∧
    (∃ (pack : Nat) (ans : Option GaugeIn) (s : State), s.chip ≠ .off ∧ pack < 2 ∧ s.ledgerParams = true ∧ s.rd (LGR_PSTAT.STATE pack) ≠ pkAbsent ∧ ans = none) := by
  refine ⟨?_, ?_, ?_⟩
  · exact ⟨0, (some { mv := 48000, ma := -20, rc := 190, fcc := 200, dc := 200, temp := 2981, status := 0, cycles := 3, chem := 1, mode := true }), { mv := 48000, ma := -20, rc := 190, fcc := 200, dc := 200, temp := 2981, status := 0, cycles := 3, chem := 1, mode := true }, (let pack : Nat := 0; let s : State := open0; let s : State := s.wr (LGR_PSTAT.STATE pack) (pkQualifying); let s : State := (s.wr (LGR_PSTAT.STATE 0) 1).putPack 0 { s.pack 0 with chem := s.sv (LEDGER.CHEM 0), fcc := 200, dc := 200, valid := 3 }; s), by decide +kernel⟩
  · exact ⟨0, (some { mv := 48000, ma := -20, rc := 190, fcc := 200, dc := 200, temp := 2981, status := 0, cycles := 3, chem := 1, mode := true }), { mv := 48000, ma := -20, rc := 190, fcc := 200, dc := 200, temp := 2981, status := 0, cycles := 3, chem := 1, mode := true }, (let pack : Nat := 0; let s : State := open0; let s : State := s.wr (LGR_PSTAT.STATE pack) (pkQualifying); let s : State := (s.wr (LGR_PSTAT.STATE 0) 1).putPack 0 { s.pack 0 with chem := s.sv (LEDGER.CHEM 0), fcc := 200, dc := 200, valid := 9 }; s), by decide +kernel⟩
  · exact ⟨0, none, (let s : State := open0; let s : State := s.wr (LGR_PSTAT.STATE 0) pkCounted; s), by decide +kernel⟩

/-- Clauses of PackCommands have states and operands that meet their conditions. -/
theorem test_conditions_PackCommands_2 :
    (∃ (pack : Nat) (s : State), s.chip ≠ .off ∧ pack < 2 ∧ s.packLive pack = true ∧ (s.pack pack).gaugeTick + 60 * 32768 ≤ s.tick) ∧
    (∃ (pack : Nat) (s : State), s.chip ≠ .off ∧ pack < 2 ∧ s.rd (LGR_PSTAT.STATE pack) = pkCounted ∧ (s.pack pack).gaugeTick + 10 * 32768 ≤ s.tick) ∧
    (∃ (pack : Nat) (s : State), s.chip ≠ .off ∧ pack < 2 ∧ (s.pack pack).esr ≠ [] ∧ (s.pack pack).esrTick + 604800 * 32768 ≤ s.tick ∧ s.on (LGR_PSTAT.ESR_STALE pack) = false) := by
  refine ⟨?_, ?_, ?_⟩
  · exact ⟨0, (let s : State := open0; let s : State := { s.wr (LGR_PSTAT.STATE 0) 2 with tick := s.tick + 60 * 32768 }; s), by decide +kernel⟩
  · exact ⟨0, (let s : State := open0; let s : State := { s.wr (LGR_PSTAT.STATE 0) 2 with tick := s.tick + 60 * 32768 }; s), by decide +kernel⟩
  · exact ⟨0, (let pack : Nat := 0; let s : State := open0; let s : State := { (s.wr (LGR_PSTAT.ESR_STALE 0) 0).putPack 0 { s.pack 0 with esr := [3] } with tick := s.tick + 604801 * 32768 }; s), by decide +kernel⟩

/-- Clauses of PackCommands have states and operands that meet their conditions. -/
theorem test_conditions_PackCommands_3 :
    (∃ (pack : Nat) (s : State), s.chip ≠ .off ∧ pack < 2 ∧ s.rd (LGR_PSTAT.STATE (1 - pack)) = pkCounted ∧ s.on (removeBit (1 - pack)) = false) ∧
    (∃ (pack : Nat) (s : State), s.chip ≠ .off ∧ pack < 2 ∧ s.rd (LGR_PSTAT.STATE (1 - pack)) ≠ pkCounted) ∧
    (∃ (pack : Nat) (s : State), s.chip ≠ .off ∧ pack < 2 ∧ s.on (removeBit pack) = true) := by
  refine ⟨?_, ?_, ?_⟩
  · exact ⟨0, (let pack : Nat := 0; let s : State := open0; let s : State := s.wr (LGR_PSTAT.STATE (1 - pack)) (pkCounted); let s : State := s.wr (removeBit (1 - pack)) 0; s), by decide +kernel⟩
  · exact ⟨0, (open0), by decide +kernel⟩
  · exact ⟨0, (let pack : Nat := 0; let s : State := open0; let s : State := s.wr (removeBit pack) 1; s), by decide +kernel⟩

/-- Clauses of PackCommands have states and operands that meet their conditions. -/
theorem test_conditions_PackCommands_4 :
    (∃ (s : State), s.chip ≠ .off) ∧
    (∃ (port sensor : Nat) (raw : Option Nat) (w : Nat) (s : State), s.chip ≠ .off ∧ (port = 3 ∨ port = 4) ∧ sensor < 32 ∧ s.twLive port = true ∧ s.on (TWB_SENS.VALID port sensor) = true ∧ raw = some w) ∧
    (∃ (port sensor : Nat) (raw : Option Nat) (s : State), s.chip ≠ .off ∧ (port = 3 ∨ port = 4) ∧ sensor < 32 ∧ s.twLive port = true ∧ s.on (TWB_SENS.VALID port sensor) = true ∧ raw = none) := by
  refine ⟨?_, ?_, ?_⟩
  · exact ⟨(open0), by decide +kernel⟩
  · exact ⟨4, 0, (some 0), 0, (let port : Nat := 3; let sensor : Nat := 0; let s : State := open0; let s : State := s.wr (TWB_SENS.VALID port sensor) 1; let port : Nat := 3 + port % 2; let s : State := s.wr (TWB_SENS.VALID port sensor) 1; s), by decide +kernel⟩
  · exact ⟨3, 0, none, (let port : Nat := 3; let sensor : Nat := 0; let s : State := open0; let s : State := s.wr (TWB_SENS.VALID port sensor) 1; s), by decide +kernel⟩

/-- Clauses of PackCommands have states and operands that meet their conditions. -/
theorem test_conditions_PackCommands_5 :
    (∃ (port sensor : Nat) (s : State), s.chip ≠ .off ∧ (port = 3 ∨ port = 4) ∧ sensor < 32 ∧ s.on (TWB_SENS.VALID port sensor) = true ∧ s.on (TWB_SENS.STALE port sensor) = false ∧ SMap.get 0 (port * 32 + sensor) s.twb.sensTick + 65536 ≤ s.tick + 1) := by
  exact ⟨3, 0, (let port : Nat := 3; let sensor : Nat := 0; let s : State := open0; let s : State := s.wr (TWB_SENS.VALID port sensor) 1; let s : State := s.wr (TWB_SENS.STALE port sensor) 0; s), by decide +kernel⟩

/-- Clauses of HaulCommands have states and operands that meet their conditions. -/
theorem test_conditions_HaulCommands_1 :
    (∃ (sram : List (Nat × SramErr)) (haul : Nat) (s1 : State) (k : Nat) (s : State), s.chip ≠ .off ∧ s1 = (s.sramAll sram).haulErr haul ∧ s1.haulRuns = true ∧ s1.haul.started < s1.rd HAUL_RATE.QUOTA ∧ s1.slb.ift.length < 8192 ∧ s1.canPay 1 1 s1.overRate = true ∧ groups.any (fun g => s1.canTake g s1.sumpDest) = true ∧ s1.haul.bank < 36 ∧ (s1.sweep s1.haul.bank (s1.rd HAUL_STATUS.LCLASS)).1 = some k) ∧
    (∃ (sram : List (Nat × SramErr)) (haul : Nat) (s : State), s.chip ≠ .off ∧ s.hubOn = true ∧ haul ≠ 0 ∧ sram = []) ∧
    (∃ (sett : Nat) (devs : SMap Nat) (h : Haul) (k : Nat) (s : State), s.chip ≠ .off ∧ s.haulOf sett = some h ∧ h.stage = 0 ∧ devs = [] ∧ s.dch.hard = [] ∧ s.rankAnswers sett = true ∧ s.dch.repairs = [] ∧ s.settData sett ≠ [] ∧ groups.any (fun g => s.canTake g h.sump) = true ∧ s.settSlot sett = some k ∧ s.mayEncrypt k false = true) := by
  refine ⟨?_, ?_, ?_⟩
  · exact ⟨[], 0, { regs := [(589828, 1#32), (589888, 0x630000#32), (656384, 1#32), (851968, 0xf8#32), (851992, 9#32), (1048576, 0x808#32), (1048580, 0x3b#32), (8388688, 1#32)], tick := 100000, chip := .opened, margin := .sable, stamp := 0, stampTick := 0, fuse := { step := 0, serial := 0, blown := 0, provKey := 0#256, devKey := 0#256 }, bed := { fneg := [], chipReset := 0 }, svy := { run := [(16777216, 0x610#32), (16777220, 15#32), (17825792, 4#32), (17825796, 0x3020100#32), (18874368, 1#32), (18874372, 0x80000#32), (18874376, 8#32), (18874384, 0x101#32), (18874388, 0x80008#32), (18874392, 8#32), (20971520, 0x8180#32), (33554432, 0x8a04000#32), (33554436, 0x4040800#32), (33554440, 0x3e80048#32), (33554448, 1#32), (33554456, 1#32), (33554464, 1#32), (33554472, 1#32), (33554480, 1#32), (33554488, 1#32), (33554496, 1#32), (33554504, 1#32), (33554512, 1#32), (34603008, 0x30010#32), (34603012, 0x40030#32), (34603016, 0x40008#32), (34603024, 0x30010#32), (34603028, 0x40030#32), (34603032, 0x40008#32), (35651584, 3#32), (50331648, 0x32402#32), (50331652, 0x648000#32), (50331656, 0xc80642f#32), (50331660, 0x100003#32), (50331664, 0x64#32), (50331688, 15#32), (50331692, 0x114#32), (50331808, 0x201013f#32), (50331812, 0x201013f#32), (50331936, 0x10#32), (67108864, 1#32), (67108868, 0x1964#32), (67108872, 0x1964#32), (67108876, 0x2bf20#32), (67108880, 0x186a00#32), (67108884, 0xcccd#32), (67108888, 0xf852e666#32), (67108892, 0x28fd99a#32), (67108896, 0xb33300f6#32), (67108900, 0x28999a#32)], has := [16, 17, 18, 20, 32, 33, 34, 48, 64], loaded := true, shadow := true, staging := [], inst := [], live := false, cmd := 0, taken := [], face := 0, pairDig := 0#128 }, slb := { slabs := [(0, { mask := 2#64, word := 0#32 })], ready := true, owned := true, baseR := 0, grants := [], ift := [], lmap := [], image := [] }, lgr := { packA := { ebase := 0, energy := 0, rc := 0, fcc := 0, dc := 0, chem := 0, ma := 0, gaugeMv := 0, temp := 0, debit := 0, saveDebit := 0, hiScans := 0, loScans := 0, valid := 0, last := none, esr := [], esrTick := 0, gaugeTick := 0 }, packB := { ebase := 0, energy := 0, rc := 0, fcc := 0, dc := 0, chem := 0, ma := 0, gaugeMv := 0, temp := 0, debit := 0, saveDebit := 0, hiScans := 0, loScans := 0, valid := 0, last := none, esr := [], esrTick := 0, gaugeTick := 0 }, sableCnt := 0, extra := false }, adm := { rr := 7, jobq := [], wear := 0, wearHaul := 0, wearMark := 0, day := 0, repTick := [], repDue := [], repMargin := 3 }, haul := { ptr := [], cover := [], bank := 0, started := 0, done := 0, short := false, half := false, waitStk := [], waitSump := [], group := 0, stripes := [], nextStripe := 0, pfw := false, pfwTick := 0 }, save := { off := false, short := false, trigTick := 0, walkTick := 0, walked := false, railCut := false, powerBack := false, vol := 0, sumpStart := [], first := [], last := [], carve := [], pads := 0, fdirty := [], anchor := none, session := 0, openAfter := 0, down := false, spent := none, lodes := [], aggs := [], staging := [], numbers := [], ctx := { rings := [], lost := false, owners := [], running := [], cached := [] } }, stk := { recs := [], lodes := [], blks := [], remaps := [], broken := [], pseq := [], head := [], openLode := [], wlWait := [], intents := [], jpend := [], jrnl := [], jseq := 0, jpage := 0, jsaved := 0, dies := [], silent := [], accs := [], applied := [], folding := false, reworking := false, degraded := 0, bootBad := [], bootMap := [], hblock := 0, lpage := 0, lfix := 0, anchors := [], apage := 0, patrolWin := 0, patrolled := [], patrolRead := [] }, saves := [], res := { fetch := [], demand := [], lastPort := 7, prefetch := [], bgPtr := [], bgBank := 0, rebuilt := false, filling := false, trigTick := 0, counted := 0, memRec := 0, holdRec := [], newLost := [], trained := false, noKeys := false, anchored := false, scanTick := 0 }, dch := { mem := [], poison := [], banks := [], repairs := [], hard := [], devCe := [], eqCe := [], eqTick := [], eqTemp := [], bootTemps := [], taps := [], ueRun := [], late := [], early := [], refBank := [], periodCe := 0, win := 0, limits := [3600, 4096, 256, 16, 64], mig := none, rankMap := [], crdMap := [], inForce := [], cfgNew := [], lastReq := [], actLimit := [], rankSr := [], eqRun := [], scrubTick := [], prev := [], ceTotal := [] }, ports := [], nv := [(0, { dirty := 0, shutdown := 0, feat := 0x7f#128, lsa := [] })], job := { rings := [], cache := [], jobs := [], pins := [], lost := false, fenceDue := 0, inits := [] }, cip := { keys := [], keyin := [], store := [], storeOk := false, ceiling := 0, storeSeq := 0, cmd := none, purge := [], stale := [], erasePend := 0, eraseSan := 0, rotate := [], misWin := [], next := 0, kat := [] }, gal := { epoch := 0#64, joinEpoch := 0#64, peerFenced := false, sent := [], held := [], fwds := [], nextTag := 0, lines := [], peerLines := [], joinStep := 0, listGot := false, rslvGot := false, lineWait := [], asks := [], nextAsk := 0, reqs := [], ctls := [], rslvSlab := 0, rslvSett := 0, rslvQuota := 0, kept := false, peerEpoch := 0#64, fullFor := 0, replays := [], lastFlit := [0, 0], lastBeat := 0, graceAt := 0, seen := 0, joinAt := 0, hello := [false, false], handover := 0, zeroing := [] }, seq := { stage := .idle, order := [], good := [], bad := [], low := [], high := [], glitch := [], glitchPrev := [], glitchWin := 0, latchAfter := false, offTick := 0, minOff := true, timed := false, offPend := false, noDnWait := false, inGood := 0, inLow := 0, pwrLow := false, pfwTick := 0, pfwLate := false, stretch := 0, pulse := 0, pg00Told := false, pg00Good := 0, pg00Bad := 0, pg00Ok := false, latchSave := false, syncDrive := false, lowTold := false, timedTick := 0 }, clk := { rising := [], tripSeen := false, refFail := false }, flt := { raised := [], irqq := [], win := [], esc := [], thrNew := [], winNew := [], rst := none, later := [], holdAfter := false }, clg := { live := [], staging := [], forming := [], phase := 0, pend := [], held := [], log := [], win := none, fetch := none, extDay := 0, railLogged := false, bootLogged := false, ffcAtWaking := [0, 0, 0], subSec := 0, resumed := false }, twb := { ports := [], alert := false, alertTick := 0, mctp := 0, sensTick := [] }, fwm := { slotA := { image := [], sealed := false, tag := 0#128, next := [], blk := 0 }, slotB := { image := [], sealed := false, tag := 0#128, next := [], blk := 0 }, active := 0, trial := false, tries := 0, staging := none, xfer := 0, xferFace := 0, running := true, alive := false, prev := 0, handoff := false, recovery := false, svyEpoch := 0, openCmds := [], waiting := [], bootTick := 0 }, pin := { testen := false, power := true, tap := .bypass, railset := 0, err := false }, pending := [], out := [], free := 0 }, 1, (let haul : Nat := 0; let s : State := open0; let s : State := { (s.setRstate 0 0).setDirty 1 with chip := .opened, dch := { s.dch with hard := [], repairs := [] } } |> fun s => { s with slb := { s.slb with ift := [] }, haul := { s.haul with started := 0, stripes := [], waitStk := [], waitSump := [], pfw := false, bank := 0, ptr := [] } } |> fun s => s.wr HAUL_CTL.ENABLE 1 |>.wr HAUL_RATE.QUOTA 9 |>.wr HAUL_STATUS.LCLASS 31 |>.wr (ADM_CLS.BUCKET 1) 99; s), by decide +kernel⟩
  · exact ⟨[], 1, (open0), by decide +kernel⟩
  · exact ⟨1, [], { sett := 1, rewr := true, sump := false, key := 0, stage := 0, since := 0, newloc := 0, data := [(5, 6#8)], poison := 0#1024, pages := 0, ready := 0, ivs := [], keyVal := 0#256, ckpt := false, stripe := 4 }, 0, (let sett : Nat := 0; let s : State := open0; let s : State := { (s.setRstate 0 0).setDirty 1 with chip := .opened, dch := { s.dch with hard := [], repairs := [] } } |> fun s => { s with slb := { s.slb with ift := [] }, haul := { s.haul with started := 0, stripes := [], waitStk := [], waitSump := [], pfw := false, bank := 0, ptr := [] } } |> fun s => s.wr HAUL_CTL.ENABLE 1 |>.wr HAUL_RATE.QUOTA 9 |>.wr HAUL_STATUS.LCLASS 31 |>.wr (ADM_CLS.BUCKET 1) 99 |> fun s => { s with slb := { s.slb with ift := [{ sett := 1, rewr := s.free % 2 = 0, sump := false, key := 0, stage := 0, since := 0, newloc := 0, data := [(5, 6)], poison := 0, pages := 0, ready := 0, ivs := [], keyVal := 0, ckpt := false, stripe := 4 }] } } |> fun s => s.writeLine 1 3 77 fullMask; s), by decide +kernel⟩

/-- Clauses of HaulCommands have states and operands that meet their conditions. -/
theorem test_conditions_HaulCommands_2 :
    (∃ (sett : Nat) (devs : SMap Nat) (h : Haul) (s : State), s.chip ≠ .off ∧ s.haulOf sett = some h ∧ h.stage = 0 ∧ devs = [] ∧ s.dch.hard = [] ∧ s.rankAnswers sett = true ∧ s.dch.repairs = [] ∧ s.settData sett = [] ∧ s.settPoison sett = 0) ∧
    (∃ (k : Nat) (h : Haul) (g : Nat) (s : State), s.chip ≠ .off ∧ s.haul.pfw = false ∧ s.haul.waitStk = [k] ∧ s.haul.waitSump = [] ∧ s.haulOf k = some h ∧ h.sump = false ∧ h.ready + Nat.max 1 (s.rd HAUL_SAVE_CFG.PAD_WAIT) ≤ s.tick ∧ s.nextGroup false = some g ∧ s.mayIssue g false = true) ∧
    (∃ (sett pair : Nat) (agree : Bool) (h : Haul) (s : State), s.chip ≠ .off ∧ s.haulOf sett = some h ∧ h.stage = 1 ∧ h.pages < 3 ∧ pair < 12 ∧ s.pairServes pair = true ∧ agree = true ∧ s.mayEncrypt h.key false = true ∧ h.key < 64) := by
  refine ⟨?_, ?_, ?_⟩
  · exact ⟨1, [], { sett := 1, rewr := false, sump := false, key := 0, stage := 0, since := 0, newloc := 0, data := [(5, 6#8)], poison := 0#1024, pages := 0, ready := 0, ivs := [], keyVal := 0#256, ckpt := false, stripe := 4 }, (let sett : Nat := 0; let s : State := open0; let s : State := { (s.setRstate 0 0).setDirty 1 with chip := .opened, dch := { s.dch with hard := [], repairs := [] } } |> fun s => { s with slb := { s.slb with ift := [] }, haul := { s.haul with started := 0, stripes := [], waitStk := [], waitSump := [], pfw := false, bank := 0, ptr := [] } } |> fun s => s.wr HAUL_CTL.ENABLE 1 |>.wr HAUL_RATE.QUOTA 9 |>.wr HAUL_STATUS.LCLASS 31 |>.wr (ADM_CLS.BUCKET 1) 99 |> fun s => { s with slb := { s.slb with ift := [{ sett := 1, rewr := false, sump := false, key := 0, stage := 0, since := 0, newloc := 0, data := [(5, 6)], poison := 0, pages := 0, ready := 0, ivs := [], keyVal := 0, ckpt := false, stripe := 4 }] } } |> fun s => s.setSett 1 [] 0; s), by decide +kernel⟩
  · exact ⟨1, { sett := 1, rewr := false, sump := false, key := 0, stage := 1, since := 0, newloc := 0, data := [(5, 6#8)], poison := 0#1024, pages := 4, ready := 0, ivs := [], keyVal := 0#256, ckpt := false, stripe := 4 }, 0, (let s : State := open0; let s : State := { (s.setRstate 0 0).setDirty 1 with chip := .opened, dch := { s.dch with hard := [], repairs := [] } } |> fun s => { s with slb := { s.slb with ift := [] }, haul := { s.haul with started := 0, stripes := [], waitStk := [], waitSump := [], pfw := false, bank := 0, ptr := [] } } |> fun s => s.wr HAUL_CTL.ENABLE 1 |>.wr HAUL_RATE.QUOTA 9 |>.wr HAUL_STATUS.LCLASS 31 |>.wr (ADM_CLS.BUCKET 1) 99 |> fun s => { s with slb := { s.slb with ift := [{ sett := 1, rewr := false, sump := false, key := 0, stage := 1, since := 0, newloc := 0, data := [(5, 6)], poison := 0, pages := 4, ready := 0, ivs := [], keyVal := 0, ckpt := false, stripe := 4 }] } } |> fun s => { s with haul := { s.haul with waitStk := [1] } }; s), by decide +kernel⟩
  · exact ⟨1, 0, true, { sett := 1, rewr := false, sump := false, key := 0, stage := 1, since := 0, newloc := 0, data := [(5, 6#8)], poison := 0#1024, pages := 0, ready := 0, ivs := [], keyVal := 0#256, ckpt := false, stripe := 4 }, (let sett : Nat := 0; let s : State := open0; let s : State := { (s.setRstate 0 0).setDirty 1 with chip := .opened, dch := { s.dch with hard := [], repairs := [] } } |> fun s => { s with slb := { s.slb with ift := [] }, haul := { s.haul with started := 0, stripes := [], waitStk := [], waitSump := [], pfw := false, bank := 0, ptr := [] } } |> fun s => s.wr HAUL_CTL.ENABLE 1 |>.wr HAUL_RATE.QUOTA 9 |>.wr HAUL_STATUS.LCLASS 31 |>.wr (ADM_CLS.BUCKET 1) 99 |> fun s => { s with slb := { s.slb with ift := [{ sett := 1, rewr := false, sump := false, key := 0, stage := 1, since := 0, newloc := 0, data := [(5, 6)], poison := 0, pages := s.free % 3, ready := 0, ivs := [], keyVal := 0, ckpt := false, stripe := 4 }] } }; s), by decide +kernel⟩

/-- Clauses of HaulCommands have states and operands that meet their conditions. -/
theorem test_conditions_HaulCommands_3 :
    (∃ (sett pair : Nat) (agree : Bool) (h : Haul) (s : State), s.chip ≠ .off ∧ s.haulOf sett = some h ∧ h.stage = 1 ∧ h.pages < 4 ∧ pair < 12 ∧ s.pairServes pair = true ∧ agree = false) ∧
    (∃ (pair : Nat) (pass : Bool) (s : State), s.chip ≠ .off ∧ s.hubOn = true ∧ pair < 12 ∧ s.rd (CIP_PAIR.STATE pair) = pairTesting ∧ pass = true ∧ SMap.get false pair s.cip.kat = false ∧ s.cip.cmd = none) ∧
    (∃ (pair : Nat) (pass : Bool) (s : State), s.chip ≠ .off ∧ s.hubOn = true ∧ pair < 12 ∧ s.rd (CIP_PAIR.STATE pair) = pairTesting ∧ pass = false ∧ s.cip.cmd = none) := by
  refine ⟨?_, ?_, ?_⟩
  · exact ⟨1, 0, false, { sett := 1, rewr := false, sump := false, key := 0, stage := 1, since := 0, newloc := 0, data := [(5, 6#8)], poison := 0#1024, pages := 0, ready := 0, ivs := [], keyVal := 0#256, ckpt := false, stripe := 4 }, (let sett : Nat := 0; let s : State := open0; let s : State := { (s.setRstate 0 0).setDirty 1 with chip := .opened, dch := { s.dch with hard := [], repairs := [] } } |> fun s => { s with slb := { s.slb with ift := [] }, haul := { s.haul with started := 0, stripes := [], waitStk := [], waitSump := [], pfw := false, bank := 0, ptr := [] } } |> fun s => s.wr HAUL_CTL.ENABLE 1 |>.wr HAUL_RATE.QUOTA 9 |>.wr HAUL_STATUS.LCLASS 31 |>.wr (ADM_CLS.BUCKET 1) 99 |> fun s => { s with slb := { s.slb with ift := [{ sett := 1, rewr := false, sump := false, key := 0, stage := 1, since := 0, newloc := 0, data := [(5, 6)], poison := 0, pages := s.free % 4, ready := 0, ivs := [], keyVal := 0, ckpt := false, stripe := 4 }] } }; s), by decide +kernel⟩
  · exact ⟨0, true, (let pair : Nat := 0; let s : State := open0; let s : State := s.wr (CIP_PAIR.STATE pair) (pairTesting); let s : State := { s with cip := { s.cip with cmd := none } }; s), by decide +kernel⟩
  · exact ⟨0, false, (let pair : Nat := 0; let s : State := open0; let s : State := s.wr (CIP_PAIR.STATE pair) (pairTesting); let s : State := { s with cip := { s.cip with cmd := none } }; s), by decide +kernel⟩

/-- Clauses of HaulCommands have states and operands that meet their conditions. -/
theorem test_conditions_HaulCommands_4 :
    (∃ (stripe : Nat) (st : Stripe) (k : Nat) (h : Haul) (r : Rec) (s : State), s.chip ≠ .off ∧ s.haul.stripes.find? (fun x => x.id == stripe) = some st ∧ s.programmed st = true ∧ st.kind = 0 ∧ st.a = some k ∧ st.b = none ∧ s.haulOf k = some h ∧ h.stage = 2 ∧ h.stripe = st.id + 1 ∧ st.recA = some r ∧ s.diesFree st = true) ∧
    (∃ (stripe channel : Nat) (st : Stripe) (s : State), s.chip ≠ .off ∧ s.haul.stripes.find? (fun x => x.id == stripe) = some st ∧ channel < 72 ∧ chanGroup channel = st.group) ∧
    (∃ (group : Nat) (n : Nat) (s : State), s.chip ≠ .off ∧ s.waitLodes group = [n] ∧ SMap.get 0 (lodeKey group n) s.stk.wlWait ≠ 0 ∧ SMap.get 0 (lodeKey group n) s.stk.wlWait + 31 ≤ s.tick ∧ (s.lode group n).used % 3 = 2 ∧ s.stockS group % 3 = 0 ∧ (s.lode group n).used < s.stockS group ∧ ((s.takeIn group n).2.stripeBlocks group (s.takeIn group n).1 false).all (fun x => (s.takeIn group n).2.mayProgram x.1 x.2.1 x.2.2 false) = true) := by
  refine ⟨?_, ?_, ?_⟩
  · exact ⟨3, { id := 3, sump := true, group := 0, num := 4, a := some 1, b := none, cls := 1, kind := 0, oldA := 0#32, oldB := 0#32, recA := some { typ := 1, sett := 1, seq := 0, key := 0, ivs := [(0, 1)], pseq := 0, keyVal := 0#256, data := [(5, 7#8)], poison := 0#1024 }, recB := none }, 1, { sett := 1, rewr := false, sump := false, key := 0, stage := 2, since := 0, newloc := 0, data := [(5, 6#8)], poison := 0#1024, pages := 4, ready := 0, ivs := [], keyVal := 0#256, ckpt := false, stripe := 4 }, { typ := 1, sett := 1, seq := 0, key := 0, ivs := [(0, 1)], pseq := 0, keyVal := 0#256, data := [(5, 7#8)], poison := 0#1024 }, (let stripe : Nat := 0; let s : State := open0; let s : State := { (s.setRstate 0 0).setDirty 1 with chip := .opened, dch := { s.dch with hard := [], repairs := [] } } |> fun s => { s with slb := { s.slb with ift := [] }, haul := { s.haul with started := 0, stripes := [], waitStk := [], waitSump := [], pfw := false, bank := 0, ptr := [] } } |> fun s => s.wr HAUL_CTL.ENABLE 1 |>.wr HAUL_RATE.QUOTA 9 |>.wr HAUL_STATUS.LCLASS 31 |>.wr (ADM_CLS.BUCKET 1) 99 |> fun s => { s with slb := { s.slb with ift := [{ sett := 1, rewr := false, sump := false, key := 0, stage := 2, since := 0, newloc := 0, data := [(5, 6)], poison := 0, pages := 4, ready := 0, ivs := [], keyVal := 0, ckpt := false, stripe := 4 }] } } |> fun s => { s with haul := { s.haul with stripes := [{ id := 3, sump := s.free % 2 = 0, group := s.free % 8, num := 4 + s.free % 7, a := some 1, b := none, cls := 1, kind := 0, oldA := 0, oldB := 0, recA := some { typ := 1, sett := 1, seq := 0, key := 0, ivs := [(0, 1)], pseq := 0, keyVal := 0, data := [(5, 7)], poison := 0 }, recB := none }] } }; s), by decide +kernel⟩
  · exact ⟨3, 0, { id := 3, sump := true, group := 0, num := 4, a := some 1, b := none, cls := 1, kind := 0, oldA := 0#32, oldB := 0#32, recA := some { typ := 1, sett := 1, seq := 0, key := 0, ivs := [(0, 1)], pseq := 0, keyVal := 0#256, data := [(5, 7#8)], poison := 0#1024 }, recB := none }, (let stripe : Nat := 0; let s : State := open0; let s : State := { (s.setRstate 0 0).setDirty 1 with chip := .opened, dch := { s.dch with hard := [], repairs := [] } } |> fun s => { s with slb := { s.slb with ift := [] }, haul := { s.haul with started := 0, stripes := [], waitStk := [], waitSump := [], pfw := false, bank := 0, ptr := [] } } |> fun s => s.wr HAUL_CTL.ENABLE 1 |>.wr HAUL_RATE.QUOTA 9 |>.wr HAUL_STATUS.LCLASS 31 |>.wr (ADM_CLS.BUCKET 1) 99 |> fun s => { s with slb := { s.slb with ift := [{ sett := 1, rewr := false, sump := false, key := 0, stage := 2, since := 0, newloc := 0, data := [(5, 6)], poison := 0, pages := 4, ready := 0, ivs := [], keyVal := 0, ckpt := false, stripe := 4 }] } } |> fun s => { s with haul := { s.haul with stripes := [{ id := 3, sump := s.free % 2 = 0, group := s.free % 8, num := 4 + s.free % 7, a := some 1, b := none, cls := 1, kind := 0, oldA := 0, oldB := 0, recA := some { typ := 1, sett := 1, seq := 0, key := 0, ivs := [(0, 1)], pseq := 0, keyVal := 0, data := [(5, 7)], poison := 0 }, recB := none }] } }; s), by decide +kernel⟩
  · exact ⟨0, 23, (let group : Nat := 0; let s : State := open0; let s : State := s.setLode 0 (s.stockBase 0 + 4) { Lode.fresh with st := 1, used := 2 } |> fun s => { s with haul := { s.haul with stripes := [{ id := 3, sump := false, group := 0, num := 4 * s.stockS 0, a := none, b := none, cls := 1, kind := 4, oldA := 0, oldB := 0, recA := none, recB := none }] }, stk := { s.stk with wlWait := [(lodeKey 0 (s.stockBase 0 + 4), 3)], openLode := [(0, s.stockBase 0 + 5)] }, tick := s.tick + 99 }; s), by decide +kernel⟩

/-- Clauses of HaulCommands have states and operands that meet their conditions. -/
theorem test_conditions_HaulCommands_5 :
    (∃ (s : State), s.chip ≠ .off ∧ s.haul.pfw = false) ∧
    (∃ (s : State), s.chip ≠ .off ∧ s.haul.pfw = true ∧ s.haul.waitStk = []) ∧
    (∃ (s : State), s.chip ≠ .off ∧ s.haul.pfw = true ∧ s.seq.pfwLate = false ∧ s.benchTable = true ∧ s.seq.pfwTick + (s.sv BENCHES.PFW_MAX * 32768 + 999) / 1000 ≤ s.tick) := by
  refine ⟨?_, ?_, ?_⟩
  · exact ⟨(let s : State := open0; let s : State := { s with haul := { s.haul with pfw := false } }; s), by decide +kernel⟩
  · exact ⟨(let s : State := open0; let s : State := { s with haul := { s.haul with pfw := true } }; let s : State := { s with haul := { s.haul with waitStk := [] } }; s), by decide +kernel⟩
  · exact ⟨(let s : State := open0; let s : State := { s with haul := { s.haul with pfw := true } }; let s : State := { s with seq := { s.seq with pfwLate := false } }; s), by decide +kernel⟩

/-- Clauses of SaveTriggers have states and operands that meet their conditions. -/
theorem test_conditions_SaveTriggers_1 :
    (∃ (s : State), s.chip ≠ .off ∧ s.chip = .opened) ∧
    (∃ (s : State), s.chip ≠ .off ∧ s.chip = .save) ∧
    (∃ (s : State), s.chip ≠ .off ∧ s.chip = .opened ∧ s.benchTable = true ∧ s.svOn BENCHES.INPUT_EN = true ∧ s.sv BENCHES.INPUT_COUNT ≤ s.seq.inLow ∧ s.seq.lowTold = false) := by
  refine ⟨?_, ?_, ?_⟩
  · exact ⟨(let s : State := open0; let s : State := { s with chip := .opened }; s), by decide +kernel⟩
  · exact ⟨(let s : State := open0; let s : State := { s with chip := .save }; s), by decide +kernel⟩
  · exact ⟨(let s : State := open0; let s : State := { s with chip := .opened, seq := { s.seq with inLow := 15, lowTold := false } }; let s : State := withRun s 0x3000008 209740975; s), by decide +kernel⟩

/-- Clauses of SaveTriggers have states and operands that meet their conditions. -/
theorem test_conditions_SaveTriggers_2 :
    (∃ (s : State), s.chip ≠ .off ∧ s.woLive HAUL_SAVE_CMD.OP.addr = true ∧ s.hubOn = true ∧ s.chip = .opened) ∧
    (∃ (s : State), s.chip ≠ .off ∧ s.woLive HAUL_SAVE_CMD.OP.addr = true ∧ s.hubOn = true ∧ s.chip = .opened) ∧
    (∃ (s : State), s.chip ≠ .off ∧ s.retScans ≤ s.seq.inGood ∧ s.on SEQ_STATUS.INPUT_GOOD = false ∧ s.on SEQ_STATUS.OFF_HELD = true ∧ s.chip = .save) := by
  refine ⟨?_, ?_, ?_⟩
  · exact ⟨(let s : State := open0; let s : State := (islandsOf (HAUL_SAVE_CMD.OP.addr)).foldl (fun s n => s.wr (CLK_ISL.STATE n) 2) s; let s : State := { s with chip := .opened }; s), by decide +kernel⟩
  · exact ⟨(let s : State := open0; let s : State := (islandsOf (HAUL_SAVE_CMD.OP.addr)).foldl (fun s n => s.wr (CLK_ISL.STATE n) 2) s; let s : State := { s with chip := .opened }; s), by decide +kernel⟩
  · exact ⟨(let s : State := open0; let s : State := { (s.wr SEQ_STATUS.INPUT_GOOD 0).wr SEQ_STATUS.OFF_HELD 1 with seq := { s.seq with inGood := 9999 } , chip := .save }; s), by decide +kernel⟩

/-- Clauses of SaveTriggers have states and operands that meet their conditions. -/
theorem test_conditions_SaveTriggers_3 :
    (∃ (s : State), s.chip ≠ .off ∧ s.retScans ≤ s.seq.inGood ∧ s.on SEQ_STATUS.INPUT_GOOD = false ∧ s.on SEQ_STATUS.OFF_HELD = true ∧ s.chip ≠ .save) ∧
    (∃ (s : State), s.chip ≠ .off ∧ s.rd SEQ_STRAP.BSET = 3 ∧ s.seqPhase = phaseBootset ∧ s.seq.pg00Ok = false ∧ s.seq.pg00Told = false) := by
  refine ⟨?_, ?_⟩
  · exact ⟨(let s : State := open0; let s : State := { (s.wr SEQ_STATUS.INPUT_GOOD 0).wr SEQ_STATUS.OFF_HELD 1 with seq := { s.seq with inGood := 9999 } }; s), by decide +kernel⟩
  · exact ⟨(let s : State := open0; let s : State := s.wr SEQ_STRAP.BSET (3); let s : State := s.wr SEQ_STATUS.PHASE phaseBootset; let s : State := { s with seq := { s.seq with pg00Ok := false } }; let s : State := { s with seq := { s.seq with pg00Told := false } }; s), by decide +kernel⟩

/-- Clauses of SaveSteps have states and operands that meet their conditions. -/
theorem test_conditions_SaveSteps_1 :
    (∃ (s : State), s.chip ≠ .off ∧ s.inStep 2 = true ∧ (∀ p ∈ faces, (s.port p).wbuf = []) ∧ s.slb.ift = [] ∧ s.gal.held = [] ∧ s.adm.jobq = []) ∧
    (∃ (s : State), s.chip ≠ .off ∧ s.inStep 3 = true) ∧
    (∃ (s : State), s.chip ≠ .off ∧ s.inStep 4 = true ∧ s.save.anchor = none ∧ s.clg.phase = 0) := by
  refine ⟨?_, ?_, ?_⟩
  · exact ⟨(let s : State := open0; let s : State := ({ s.wr HAUL_SAVE_STAT.STEP 2 with chip := .save }) |> fun s => faces.foldl (fun s p => s.setPort p { s.port p with wbuf := [], reads := [] }) s |> fun s => { s with adm := { s.adm with jobq := [] } } |> fun s => { s with slb := { s.slb with ift := [] } }; s), by decide +kernel⟩
  · exact ⟨(let s : State := open0; let s : State := { s.wr HAUL_SAVE_STAT.STEP 3 with chip := .save }; s), by decide +kernel⟩
  · exact ⟨(let s : State := open0; let s : State := { s.wr HAUL_SAVE_STAT.STEP 4 with chip := .save, save := { s.save with anchor := none }, clg := { s.clg with phase := 0 } }; s), by decide +kernel⟩

/-- Clauses of SaveSteps have states and operands that meet their conditions. -/
theorem test_conditions_SaveSteps_2 :
    (∃ (ok0 ok36 : Bool) (a : Anchor) (p : Nat) (b : Nat) (t : State) (s : State), s.chip ≠ .off ∧ s.save.anchor = some a ∧ a.phase = 2 ∧ s.bootFree = true ∧ s.anchorPage = p ∧ s.bootPageBlock bootAnchors p = b ∧ (s.anchorErase 0 p).1 = true ∧ (s.anchorErase 0 p).2.bootWrote 0 b ok0 = true ∧ (s.anchorErase 0 p).2.bootProgram b [(0, ok0)] = t ∧ (t.anchorErase 1 p).1 = true ∧ (t.anchorErase 1 p).2.bootWrote 1 b ok36 = true ∧ s.inStep 4 = true) ∧
    (∃ (ok0 ok36 : Bool) (a : Anchor) (p : Nat) (b : Nat) (t : State) (s : State), s.chip ≠ .off ∧ s.save.anchor = some a ∧ a.phase = 3 ∧ s.bootFree = true ∧ s.anchorPage = p ∧ s.bootPageBlock bootAnchors p = b ∧ (s.anchorErase 0 p).1 = true ∧ (s.anchorErase 0 p).2.bootWrote 0 b ok0 = true ∧ (s.anchorErase 0 p).2.bootProgram b [(0, ok0)] = t ∧ (t.anchorErase 1 p).1 = true ∧ (t.anchorErase 1 p).2.bootWrote 1 b ok36 = true ∧ s.inStep 5 = true) ∧
    (∃ (ok0 ok36 : Bool) (a : Anchor) (p : Nat) (b : Nat) (t : State) (f : Nat) (s : State), s.chip ≠ .off ∧ s.save.anchor = some a ∧ a.phase = 1 ∧ s.bootFree = true ∧ s.anchorPage = p ∧ s.bootPageBlock bootAnchors p = b ∧ (s.anchorErase 0 p).1 = true ∧ (s.anchorErase 0 p).2.bootWrote 0 b ok0 = true ∧ (s.anchorErase 0 p).2.bootProgram b [(0, ok0)] = t ∧ (t.anchorErase 1 p).1 = true ∧ (t.anchorErase 1 p).2.bootWrote 1 b ok36 = true ∧ s.rd RES_STATUS.CASE ≠ 5 ∧ s.galCloses = false ∧ f ∈ faces ∧ bitAt f s.save.openAfter = true ∧ s.faceOn f = true ∧ (∀ q ∈ faces, (s.port q).erasing = none ∧ (s.port q).wasOpen = false)) := by
  refine ⟨?_, ?_, ?_⟩
  · exact ⟨true, true, { seq := 4, phase := 2, trig := 1, tick := 5, sumpStart := [], vol := 0, ok0 := false, ok36 := false, iv := (0, 0), keyVal := 0#256, page := 0, blank := false }, 0, 16, { regs := [(656384, 1#32), (852040, 4#32), (1048576, 0x808#32), (1048580, 0x3b#32)], tick := 100000, chip := .save, margin := .sable, stamp := 0, stampTick := 0, fuse := { step := 0, serial := 0, blown := 0, provKey := 0#256, devKey := 0#256 }, bed := { fneg := [], chipReset := 0 }, svy := { run := [(16777216, 0x610#32), (16777220, 15#32), (17825792, 4#32), (17825796, 0x3020100#32), (18874368, 1#32), (18874372, 0x80000#32), (18874376, 8#32), (18874384, 0x101#32), (18874388, 0x80008#32), (18874392, 8#32), (20971520, 0x8180#32), (33554432, 0x8a04000#32), (33554436, 0x4040800#32), (33554440, 0x3e80048#32), (33554448, 1#32), (33554456, 1#32), (33554464, 1#32), (33554472, 1#32), (33554480, 1#32), (33554488, 1#32), (33554496, 1#32), (33554504, 1#32), (33554512, 1#32), (34603008, 0x30010#32), (34603012, 0x40030#32), (34603016, 0x40008#32), (34603024, 0x30010#32), (34603028, 0x40030#32), (34603032, 0x40008#32), (35651584, 3#32), (50331648, 0x32402#32), (50331652, 0x648000#32), (50331656, 0xc80642f#32), (50331660, 0x100003#32), (50331664, 0x64#32), (50331688, 15#32), (50331692, 0x114#32), (50331808, 0x201013f#32), (50331812, 0x201013f#32), (50331936, 0x10#32), (67108864, 1#32), (67108868, 0x1964#32), (67108872, 0x1964#32), (67108876, 0x2bf20#32), (67108880, 0x186a00#32), (67108884, 0xcccd#32), (67108888, 0xf852e666#32), (67108892, 0x28fd99a#32), (67108896, 0xb33300f6#32), (67108900, 0x28999a#32)], has := [16, 17, 18, 20, 32, 33, 34, 48, 64], loaded := true, shadow := true, staging := [], inst := [], live := false, cmd := 0, taken := [], face := 0, pairDig := 0#128 }, slb := { slabs := [], ready := true, owned := true, baseR := 0, grants := [], ift := [], lmap := [], image := [] }, lgr := { packA := { ebase := 0, energy := 0, rc := 0, fcc := 0, dc := 0, chem := 0, ma := 0, gaugeMv := 0, temp := 0, debit := 0, saveDebit := 0, hiScans := 0, loScans := 0, valid := 0, last := none, esr := [], esrTick := 0, gaugeTick := 0 }, packB := { ebase := 0, energy := 0, rc := 0, fcc := 0, dc := 0, chem := 0, ma := 0, gaugeMv := 0, temp := 0, debit := 0, saveDebit := 0, hiScans := 0, loScans := 0, valid := 0, last := none, esr := [], esrTick := 0, gaugeTick := 0 }, sableCnt := 0, extra := false }, adm := { rr := 7, jobq := [], wear := 0, wearHaul := 0, wearMark := 0, day := 0, repTick := [], repDue := [], repMargin := 3 }, haul := { ptr := [], cover := [], bank := 0, started := 0, done := 0, short := false, half := false, waitStk := [], waitSump := [], group := 0, stripes := [], nextStripe := 0, pfw := false, pfwTick := 0 }, save := { off := false, short := false, trigTick := 0, walkTick := 0, walked := false, railCut := false, powerBack := false, vol := 0, sumpStart := [], first := [], last := [], carve := [], pads := 0, fdirty := [], anchor := some { seq := 4, phase := 2, trig := 1, tick := 5, sumpStart := [], vol := 0, ok0 := false, ok36 := false, iv := (0, 0), keyVal := 0#256, page := 0, blank := false }, session := 0, openAfter := 0, down := false, spent := none, lodes := [], aggs := [], staging := [], numbers := [], ctx := { rings := [], lost := false, owners := [], running := [], cached := [] } }, stk := { recs := [], lodes := [], blks := [], remaps := [], broken := [], pseq := [], head := [], openLode := [], wlWait := [], intents := [], jpend := [], jrnl := [], jseq := 0, jpage := 0, jsaved := 0, dies := [], silent := [], accs := [], applied := [], folding := false, reworking := false, degraded := 0, bootBad := [], bootMap := [], hblock := 0, lpage := 0, lfix := 0, anchors := [], apage := 0, patrolWin := 0, patrolled := [], patrolRead := [] }, saves := [], res := { fetch := [], demand := [], lastPort := 7, prefetch := [], bgPtr := [], bgBank := 0, rebuilt := false, filling := false, trigTick := 0, counted := 0, memRec := 0, holdRec := [], newLost := [], trained := false, noKeys := false, anchored := false, scanTick := 0 }, dch := { mem := [], poison := [], banks := [], repairs := [], hard := [], devCe := [], eqCe := [], eqTick := [], eqTemp := [], bootTemps := [], taps := [], ueRun := [], late := [], early := [], refBank := [], periodCe := 0, win := 0, limits := [3600, 4096, 256, 16, 64], mig := none, rankMap := [], crdMap := [], inForce := [], cfgNew := [], lastReq := [], actLimit := [], rankSr := [], eqRun := [], scrubTick := [], prev := [], ceTotal := [] }, ports := [], nv := [(0, { dirty := 0, shutdown := 0, feat := 0x7f#128, lsa := [] })], job := { rings := [], cache := [], jobs := [], pins := [], lost := false, fenceDue := 0, inits := [] }, cip := { keys := [], keyin := [], store := [], storeOk := false, ceiling := 0, storeSeq := 0, cmd := none, purge := [], stale := [], erasePend := 0, eraseSan := 0, rotate := [], misWin := [], next := 0, kat := [] }, gal := { epoch := 0#64, joinEpoch := 0#64, peerFenced := false, sent := [], held := [], fwds := [], nextTag := 0, lines := [], peerLines := [], joinStep := 0, listGot := false, rslvGot := false, lineWait := [], asks := [], nextAsk := 0, reqs := [], ctls := [], rslvSlab := 0, rslvSett := 0, rslvQuota := 0, kept := false, peerEpoch := 0#64, fullFor := 0, replays := [], lastFlit := [0, 0], lastBeat := 0, graceAt := 0, seen := 0, joinAt := 0, hello := [false, false], handover := 0, zeroing := [] }, seq := { stage := .idle, order := [], good := [], bad := [], low := [], high := [], glitch := [], glitchPrev := [], glitchWin := 0, latchAfter := false, offTick := 0, minOff := true, timed := false, offPend := false, noDnWait := false, inGood := 0, inLow := 0, pwrLow := false, pfwTick := 0, pfwLate := false, stretch := 0, pulse := 0, pg00Told := false, pg00Good := 0, pg00Bad := 0, pg00Ok := false, latchSave := false, syncDrive := false, lowTold := false, timedTick := 0 }, clk := { rising := [], tripSeen := false, refFail := false }, flt := { raised := [], irqq := [], win := [], esc := [], thrNew := [], winNew := [], rst := none, later := [], holdAfter := false }, clg := { live := [], staging := [], forming := [], phase := 0, pend := [], held := [], log := [], win := none, fetch := none, extDay := 0, railLogged := false, bootLogged := false, ffcAtWaking := [0, 0, 0], subSec := 0, resumed := false }, twb := { ports := [], alert := false, alertTick := 0, mctp := 0, sensTick := [] }, fwm := { slotA := { image := [], sealed := false, tag := 0#128, next := [], blk := 0 }, slotB := { image := [], sealed := false, tag := 0#128, next := [], blk := 0 }, active := 0, trial := false, tries := 0, staging := none, xfer := 0, xferFace := 0, running := true, alive := false, prev := 0, handoff := false, recovery := false, svyEpoch := 0, openCmds := [], waiting := [], bootTick := 0 }, pin := { testen := false, power := true, tap := .bypass, railset := 0, err := false }, pending := [], out := [], free := 0 }, (let ok0 : Bool := false; let ok36 : Bool := false; let s : State := open0; let s : State := { s.wr HAUL_SAVE_STAT.STEP 4 with chip := .save, save := { s.save with anchor := some { seq := 4, phase := 2, trig := 1, tick := 5, sumpStart := [], vol := 0, ok0 := false, ok36 := false, iv := (0, 0), keyVal := 0, page := 0, blank := false } } }; s), by decide +kernel⟩
  · exact ⟨true, true, { seq := 4, phase := 3, trig := 1, tick := 5, sumpStart := [], vol := 0, ok0 := false, ok36 := false, iv := (0, 0), keyVal := 0#256, page := 0, blank := false }, 0, 16, { regs := [(656384, 1#32), (852040, 5#32), (1048576, 0x808#32), (1048580, 0x3b#32)], tick := 100000, chip := .save, margin := .sable, stamp := 0, stampTick := 0, fuse := { step := 0, serial := 0, blown := 0, provKey := 0#256, devKey := 0#256 }, bed := { fneg := [], chipReset := 0 }, svy := { run := [(16777216, 0x610#32), (16777220, 15#32), (17825792, 4#32), (17825796, 0x3020100#32), (18874368, 1#32), (18874372, 0x80000#32), (18874376, 8#32), (18874384, 0x101#32), (18874388, 0x80008#32), (18874392, 8#32), (20971520, 0x8180#32), (33554432, 0x8a04000#32), (33554436, 0x4040800#32), (33554440, 0x3e80048#32), (33554448, 1#32), (33554456, 1#32), (33554464, 1#32), (33554472, 1#32), (33554480, 1#32), (33554488, 1#32), (33554496, 1#32), (33554504, 1#32), (33554512, 1#32), (34603008, 0x30010#32), (34603012, 0x40030#32), (34603016, 0x40008#32), (34603024, 0x30010#32), (34603028, 0x40030#32), (34603032, 0x40008#32), (35651584, 3#32), (50331648, 0x32402#32), (50331652, 0x648000#32), (50331656, 0xc80642f#32), (50331660, 0x100003#32), (50331664, 0x64#32), (50331688, 15#32), (50331692, 0x114#32), (50331808, 0x201013f#32), (50331812, 0x201013f#32), (50331936, 0x10#32), (67108864, 1#32), (67108868, 0x1964#32), (67108872, 0x1964#32), (67108876, 0x2bf20#32), (67108880, 0x186a00#32), (67108884, 0xcccd#32), (67108888, 0xf852e666#32), (67108892, 0x28fd99a#32), (67108896, 0xb33300f6#32), (67108900, 0x28999a#32)], has := [16, 17, 18, 20, 32, 33, 34, 48, 64], loaded := true, shadow := true, staging := [], inst := [], live := false, cmd := 0, taken := [], face := 0, pairDig := 0#128 }, slb := { slabs := [], ready := true, owned := true, baseR := 0, grants := [], ift := [], lmap := [], image := [] }, lgr := { packA := { ebase := 0, energy := 0, rc := 0, fcc := 0, dc := 0, chem := 0, ma := 0, gaugeMv := 0, temp := 0, debit := 0, saveDebit := 0, hiScans := 0, loScans := 0, valid := 0, last := none, esr := [], esrTick := 0, gaugeTick := 0 }, packB := { ebase := 0, energy := 0, rc := 0, fcc := 0, dc := 0, chem := 0, ma := 0, gaugeMv := 0, temp := 0, debit := 0, saveDebit := 0, hiScans := 0, loScans := 0, valid := 0, last := none, esr := [], esrTick := 0, gaugeTick := 0 }, sableCnt := 0, extra := false }, adm := { rr := 7, jobq := [], wear := 0, wearHaul := 0, wearMark := 0, day := 0, repTick := [], repDue := [], repMargin := 3 }, haul := { ptr := [], cover := [], bank := 0, started := 0, done := 0, short := false, half := false, waitStk := [], waitSump := [], group := 0, stripes := [], nextStripe := 0, pfw := false, pfwTick := 0 }, save := { off := false, short := false, trigTick := 0, walkTick := 0, walked := false, railCut := false, powerBack := false, vol := 0, sumpStart := [], first := [], last := [], carve := [], pads := 0, fdirty := [], anchor := some { seq := 4, phase := 3, trig := 1, tick := 5, sumpStart := [], vol := 0, ok0 := false, ok36 := false, iv := (0, 0), keyVal := 0#256, page := 0, blank := false }, session := 0, openAfter := 0, down := false, spent := none, lodes := [], aggs := [], staging := [], numbers := [], ctx := { rings := [], lost := false, owners := [], running := [], cached := [] } }, stk := { recs := [], lodes := [], blks := [], remaps := [], broken := [], pseq := [], head := [], openLode := [], wlWait := [], intents := [], jpend := [], jrnl := [], jseq := 0, jpage := 0, jsaved := 0, dies := [], silent := [], accs := [], applied := [], folding := false, reworking := false, degraded := 0, bootBad := [], bootMap := [], hblock := 0, lpage := 0, lfix := 0, anchors := [], apage := 0, patrolWin := 0, patrolled := [], patrolRead := [] }, saves := [], res := { fetch := [], demand := [], lastPort := 7, prefetch := [], bgPtr := [], bgBank := 0, rebuilt := false, filling := false, trigTick := 0, counted := 0, memRec := 0, holdRec := [], newLost := [], trained := false, noKeys := false, anchored := false, scanTick := 0 }, dch := { mem := [], poison := [], banks := [], repairs := [], hard := [], devCe := [], eqCe := [], eqTick := [], eqTemp := [], bootTemps := [], taps := [], ueRun := [], late := [], early := [], refBank := [], periodCe := 0, win := 0, limits := [3600, 4096, 256, 16, 64], mig := none, rankMap := [], crdMap := [], inForce := [], cfgNew := [], lastReq := [], actLimit := [], rankSr := [], eqRun := [], scrubTick := [], prev := [], ceTotal := [] }, ports := [], nv := [(0, { dirty := 0, shutdown := 0, feat := 0x7f#128, lsa := [] })], job := { rings := [], cache := [], jobs := [], pins := [], lost := false, fenceDue := 0, inits := [] }, cip := { keys := [], keyin := [], store := [], storeOk := false, ceiling := 0, storeSeq := 0, cmd := none, purge := [], stale := [], erasePend := 0, eraseSan := 0, rotate := [], misWin := [], next := 0, kat := [] }, gal := { epoch := 0#64, joinEpoch := 0#64, peerFenced := false, sent := [], held := [], fwds := [], nextTag := 0, lines := [], peerLines := [], joinStep := 0, listGot := false, rslvGot := false, lineWait := [], asks := [], nextAsk := 0, reqs := [], ctls := [], rslvSlab := 0, rslvSett := 0, rslvQuota := 0, kept := false, peerEpoch := 0#64, fullFor := 0, replays := [], lastFlit := [0, 0], lastBeat := 0, graceAt := 0, seen := 0, joinAt := 0, hello := [false, false], handover := 0, zeroing := [] }, seq := { stage := .idle, order := [], good := [], bad := [], low := [], high := [], glitch := [], glitchPrev := [], glitchWin := 0, latchAfter := false, offTick := 0, minOff := true, timed := false, offPend := false, noDnWait := false, inGood := 0, inLow := 0, pwrLow := false, pfwTick := 0, pfwLate := false, stretch := 0, pulse := 0, pg00Told := false, pg00Good := 0, pg00Bad := 0, pg00Ok := false, latchSave := false, syncDrive := false, lowTold := false, timedTick := 0 }, clk := { rising := [], tripSeen := false, refFail := false }, flt := { raised := [], irqq := [], win := [], esc := [], thrNew := [], winNew := [], rst := none, later := [], holdAfter := false }, clg := { live := [], staging := [], forming := [], phase := 0, pend := [], held := [], log := [], win := none, fetch := none, extDay := 0, railLogged := false, bootLogged := false, ffcAtWaking := [0, 0, 0], subSec := 0, resumed := false }, twb := { ports := [], alert := false, alertTick := 0, mctp := 0, sensTick := [] }, fwm := { slotA := { image := [], sealed := false, tag := 0#128, next := [], blk := 0 }, slotB := { image := [], sealed := false, tag := 0#128, next := [], blk := 0 }, active := 0, trial := false, tries := 0, staging := none, xfer := 0, xferFace := 0, running := true, alive := false, prev := 0, handoff := false, recovery := false, svyEpoch := 0, openCmds := [], waiting := [], bootTick := 0 }, pin := { testen := false, power := true, tap := .bypass, railset := 0, err := false }, pending := [], out := [], free := 0 }, (let ok0 : Bool := false; let ok36 : Bool := false; let s : State := open0; let s : State := { s.wr HAUL_SAVE_STAT.STEP 5 with chip := .save, save := { s.save with anchor := some { seq := 4, phase := 3, trig := 1, tick := 5, sumpStart := [], vol := 0, ok0 := false, ok36 := false, iv := (0, 0), keyVal := 0, page := 0, blank := false } } }; s), by decide +kernel⟩
  · exact ⟨true, true, { seq := 4, phase := 1, trig := 1, tick := 5, sumpStart := [], vol := 0, ok0 := false, ok36 := false, iv := (0, 0), keyVal := 0#256, page := 0, blank := false }, 0, 16, { regs := [(656384, 1#32), (1048576, 0x808#32), (1048580, 0x3b#32)], tick := 100000, chip := .opened, margin := .sable, stamp := 0, stampTick := 0, fuse := { step := 0, serial := 0, blown := 0, provKey := 0#256, devKey := 0#256 }, bed := { fneg := [], chipReset := 0 }, svy := { run := [(16777216, 0x610#32), (16777220, 15#32), (17825792, 4#32), (17825796, 0x3020100#32), (18874368, 1#32), (18874372, 0x80000#32), (18874376, 8#32), (18874384, 0x101#32), (18874388, 0x80008#32), (18874392, 8#32), (20971520, 0x8180#32), (33554432, 0x8a04000#32), (33554436, 0x4040800#32), (33554440, 0x3e80048#32), (33554448, 1#32), (33554456, 1#32), (33554464, 1#32), (33554472, 1#32), (33554480, 1#32), (33554488, 1#32), (33554496, 1#32), (33554504, 1#32), (33554512, 1#32), (34603008, 0x30010#32), (34603012, 0x40030#32), (34603016, 0x40008#32), (34603024, 0x30010#32), (34603028, 0x40030#32), (34603032, 0x40008#32), (35651584, 3#32), (50331648, 0x32402#32), (50331652, 0x648000#32), (50331656, 0xc80642f#32), (50331660, 0x100003#32), (50331664, 0x64#32), (50331688, 15#32), (50331692, 0x114#32), (50331808, 0x201013f#32), (50331812, 0x201013f#32), (50331936, 0x10#32), (67108864, 1#32), (67108868, 0x1964#32), (67108872, 0x1964#32), (67108876, 0x2bf20#32), (67108880, 0x186a00#32), (67108884, 0xcccd#32), (67108888, 0xf852e666#32), (67108892, 0x28fd99a#32), (67108896, 0xb33300f6#32), (67108900, 0x28999a#32)], has := [16, 17, 18, 20, 32, 33, 34, 48, 64], loaded := true, shadow := true, staging := [], inst := [], live := false, cmd := 0, taken := [], face := 0, pairDig := 0#128 }, slb := { slabs := [], ready := true, owned := true, baseR := 0, grants := [], ift := [], lmap := [], image := [] }, lgr := { packA := { ebase := 0, energy := 0, rc := 0, fcc := 0, dc := 0, chem := 0, ma := 0, gaugeMv := 0, temp := 0, debit := 0, saveDebit := 0, hiScans := 0, loScans := 0, valid := 0, last := none, esr := [], esrTick := 0, gaugeTick := 0 }, packB := { ebase := 0, energy := 0, rc := 0, fcc := 0, dc := 0, chem := 0, ma := 0, gaugeMv := 0, temp := 0, debit := 0, saveDebit := 0, hiScans := 0, loScans := 0, valid := 0, last := none, esr := [], esrTick := 0, gaugeTick := 0 }, sableCnt := 0, extra := false }, adm := { rr := 7, jobq := [], wear := 0, wearHaul := 0, wearMark := 0, day := 0, repTick := [], repDue := [], repMargin := 3 }, haul := { ptr := [], cover := [], bank := 0, started := 0, done := 0, short := false, half := false, waitStk := [], waitSump := [], group := 0, stripes := [], nextStripe := 0, pfw := false, pfwTick := 0 }, save := { off := false, short := false, trigTick := 0, walkTick := 0, walked := false, railCut := false, powerBack := false, vol := 0, sumpStart := [], first := [], last := [], carve := [], pads := 0, fdirty := [], anchor := some { seq := 4, phase := 1, trig := 1, tick := 5, sumpStart := [], vol := 0, ok0 := false, ok36 := false, iv := (0, 0), keyVal := 0#256, page := 0, blank := false }, session := 0, openAfter := 1, down := false, spent := none, lodes := [], aggs := [], staging := [], numbers := [], ctx := { rings := [], lost := false, owners := [], running := [], cached := [] } }, stk := { recs := [], lodes := [], blks := [], remaps := [], broken := [], pseq := [], head := [], openLode := [], wlWait := [], intents := [], jpend := [], jrnl := [], jseq := 0, jpage := 0, jsaved := 0, dies := [], silent := [], accs := [], applied := [], folding := false, reworking := false, degraded := 0, bootBad := [], bootMap := [], hblock := 0, lpage := 0, lfix := 0, anchors := [], apage := 0, patrolWin := 0, patrolled := [], patrolRead := [] }, saves := [], res := { fetch := [], demand := [], lastPort := 7, prefetch := [], bgPtr := [], bgBank := 0, rebuilt := false, filling := false, trigTick := 0, counted := 0, memRec := 0, holdRec := [], newLost := [], trained := false, noKeys := false, anchored := false, scanTick := 0 }, dch := { mem := [], poison := [], banks := [], repairs := [], hard := [], devCe := [], eqCe := [], eqTick := [], eqTemp := [], bootTemps := [], taps := [], ueRun := [], late := [], early := [], refBank := [], periodCe := 0, win := 0, limits := [3600, 4096, 256, 16, 64], mig := none, rankMap := [], crdMap := [], inForce := [], cfgNew := [], lastReq := [], actLimit := [], rankSr := [], eqRun := [], scrubTick := [], prev := [], ceTotal := [] }, ports := [], nv := [(0, { dirty := 0, shutdown := 0, feat := 0x7f#128, lsa := [] })], job := { rings := [], cache := [], jobs := [], pins := [], lost := false, fenceDue := 0, inits := [] }, cip := { keys := [], keyin := [], store := [], storeOk := false, ceiling := 0, storeSeq := 0, cmd := none, purge := [], stale := [], erasePend := 0, eraseSan := 0, rotate := [], misWin := [], next := 0, kat := [] }, gal := { epoch := 0#64, joinEpoch := 0#64, peerFenced := false, sent := [], held := [], fwds := [], nextTag := 0, lines := [], peerLines := [], joinStep := 0, listGot := false, rslvGot := false, lineWait := [], asks := [], nextAsk := 0, reqs := [], ctls := [], rslvSlab := 0, rslvSett := 0, rslvQuota := 0, kept := false, peerEpoch := 0#64, fullFor := 0, replays := [], lastFlit := [0, 0], lastBeat := 0, graceAt := 0, seen := 0, joinAt := 0, hello := [false, false], handover := 0, zeroing := [] }, seq := { stage := .idle, order := [], good := [], bad := [], low := [], high := [], glitch := [], glitchPrev := [], glitchWin := 0, latchAfter := false, offTick := 0, minOff := true, timed := false, offPend := false, noDnWait := false, inGood := 0, inLow := 0, pwrLow := false, pfwTick := 0, pfwLate := false, stretch := 0, pulse := 0, pg00Told := false, pg00Good := 0, pg00Bad := 0, pg00Ok := false, latchSave := false, syncDrive := false, lowTold := false, timedTick := 0 }, clk := { rising := [], tripSeen := false, refFail := false }, flt := { raised := [], irqq := [], win := [], esc := [], thrNew := [], winNew := [], rst := none, later := [], holdAfter := false }, clg := { live := [], staging := [], forming := [], phase := 0, pend := [], held := [], log := [], win := none, fetch := none, extDay := 0, railLogged := false, bootLogged := false, ffcAtWaking := [0, 0, 0], subSec := 0, resumed := false }, twb := { ports := [], alert := false, alertTick := 0, mctp := 0, sensTick := [] }, fwm := { slotA := { image := [], sealed := false, tag := 0#128, next := [], blk := 0 }, slotB := { image := [], sealed := false, tag := 0#128, next := [], blk := 0 }, active := 0, trial := false, tries := 0, staging := none, xfer := 0, xferFace := 0, running := true, alive := false, prev := 0, handoff := false, recovery := false, svyEpoch := 0, openCmds := [], waiting := [], bootTick := 0 }, pin := { testen := false, power := true, tap := .bypass, railset := 0, err := false }, pending := [], out := [], free := 0 }, 0, (let ok0 : Bool := false; let ok36 : Bool := false; let s : State := open0; let s : State := { s with save := { s.save with anchor := some { seq := 4, phase := 1, trig := 1, tick := 5, sumpStart := [], vol := 0, ok0 := false, ok36 := false, iv := (0, 0), keyVal := 0, page := 0, blank := false }, openAfter := 1 + s.free % 63 } } |> fun s => faces.foldl (fun s f => s.setPort f { s.port f with erasing := none, wasOpen := false }) s; s), by decide +kernel⟩

/-- Clauses of SaveSteps have states and operands that meet their conditions. -/
theorem test_conditions_SaveSteps_3 :
    (∃ (ok0 ok36 : Bool) (a : Anchor) (p : Nat) (s : State), s.chip ≠ .off ∧ s.save.anchor = some a ∧ s.bootFree = true ∧ s.anchorPage = p ∧ p % s.bootPages ≠ 0 ∧ s.bootWrote 0 (s.bootPageBlock bootAnchors p) ok0 = false) ∧
    (∃ (ok0 ok36 : Bool) (a : Anchor) (p : Nat) (b : Nat) (s : State), s.chip ≠ .off ∧ s.save.anchor = some a ∧ s.bootFree = true ∧ s.anchorPage = p ∧ s.bootPageBlock bootAnchors p = b ∧ p % s.bootPages ≠ 0 ∧ s.bootWrote 0 b ok0 = true ∧ s.bootWrote 1 b ok36 = false) ∧
    (∃ (inp : CarveIn) (s : State), s.chip ≠ .off ∧ s.inStep 5 = true ∧ s.save.anchor = none ∧ inp.bad = [] ∧ inp.failed = [] ∧ inp.mismatch = [] ∧ s.deadCarve = []) := by
  refine ⟨?_, ?_, ?_⟩
  · exact ⟨false, false, { seq := 4, phase := 1, trig := 1, tick := 5, sumpStart := [], vol := 0, ok0 := false, ok36 := false, iv := (0, 0), keyVal := 0#256, page := 0, blank := false }, 1, (let ok0 : Bool := false; let ok36 : Bool := false; let s : State := open0; let s : State := { s with save := { s.save with anchor := some { seq := 4, phase := 1, trig := 1, tick := 5, sumpStart := [], vol := 0, ok0 := false, ok36 := false, iv := (0, 0), keyVal := 0, page := 0, blank := false }, openAfter := 1 }, stk := { s.stk with apage := 1 + s.free % 20 } }; s), by decide +kernel⟩
  · exact ⟨true, false, { seq := 4, phase := 1, trig := 1, tick := 5, sumpStart := [], vol := 0, ok0 := false, ok36 := false, iv := (0, 0), keyVal := 0#256, page := 0, blank := false }, 1, 16, (let ok0 : Bool := false; let ok36 : Bool := false; let s : State := open0; let s : State := { s with save := { s.save with anchor := some { seq := 4, phase := 1, trig := 1, tick := 5, sumpStart := [], vol := 0, ok0 := false, ok36 := false, iv := (0, 0), keyVal := 0, page := 0, blank := false }, openAfter := 1 }, stk := { s.stk with apage := 1 + s.free % 20 } }; s), by decide +kernel⟩
  · exact ⟨{ bad := [], failed := [], mismatch := [] }, (let s : State := open0; let s : State := { s.wr HAUL_SAVE_STAT.STEP 5 with chip := .save, save := { s.save with anchor := none } }; s), by decide +kernel⟩

/-- Clauses of SaveSteps have states and operands that meet their conditions. -/
theorem test_conditions_SaveSteps_4 :
    (∃ (inp : WalkIn) (s : State), s.chip ≠ .off ∧ s.inStep 6 = true) ∧
    (∃ (failed : List RecFail) (miss : List (Nat × Bool)) (s : State), s.chip ≠ .off ∧ s.inStep 7 = true ∧ s.resumes = false ∧ failed.any (fun f => f.again) = false ∧ miss.any (fun x => x.2) = false) ∧
    (∃ (s : State), s.chip ≠ .off ∧ s.inStep 8 = true ∧ s.resumes = false) := by
  refine ⟨?_, ?_, ?_⟩
  · exact ⟨{ bad := [], issued := 0, dch := [], nch := [], failed := [], mismatch := [] }, (let s : State := open0; let s : State := { s.wr HAUL_SAVE_STAT.STEP 6 with chip := .save }; s), by decide +kernel⟩
  · exact ⟨[], [], (let s : State := open0; let s : State := { s.wr HAUL_SAVE_STAT.STEP 7 with chip := .save, save := { s.save with powerBack := false } } |> fun s => s.wr HAUL_SAVE_DIRTY.SETTS (s.free % 2); s), by decide +kernel⟩
  · exact ⟨(let s : State := open0; let s : State := { s.wr HAUL_SAVE_STAT.STEP 8 with chip := .save, save := { s.save with powerBack := false } }; s), by decide +kernel⟩

/-- Clauses of SaveSteps have states and operands that meet their conditions. -/
theorem test_conditions_SaveSteps_5 :
    (∃ (s : State), s.chip ≠ .off ∧ s.inStep 9 = true ∧ s.save.railCut = false ∧ s.seq.latchSave = false ∧ s.rd HAUL_SAVE_STAT.TRIGGER = trigCmd ∧ s.save.off = false ∧ s.seq.offPend = false ∧ s.flt.holdAfter = false) ∧
    (∃ (s : State), s.chip ≠ .off ∧ s.inStep 9 = true ∧ s.save.railCut = false ∧ s.seq.latchSave = false ∧ s.rd HAUL_SAVE_STAT.TRIGGER = trigPwr) := by
  refine ⟨?_, ?_⟩
  · exact ⟨(let s : State := open0; let s : State := { s.wr HAUL_SAVE_STAT.STEP 9 with chip := .save, save := { s.save with railCut := false, off := false }, seq := { s.seq with latchSave := false, offPend := false }, flt := { s.flt with holdAfter := false } } |> fun s => s.wr HAUL_SAVE_STAT.TRIGGER trigCmd; s), by decide +kernel⟩
  · exact ⟨(let s : State := open0; let s : State := { s.wr HAUL_SAVE_STAT.STEP 9 with chip := .save, save := { s.save with railCut := false, off := false }, seq := { s.seq with latchSave := false, offPend := false }, flt := { s.flt with holdAfter := false } } |> fun s => s.wr HAUL_SAVE_STAT.TRIGGER trigPwr; s), by decide +kernel⟩

/-- Clauses of RestoreCommands have states and operands that meet their conditions. -/
theorem test_conditions_RestoreCommands_1 :
    (∃ (inp : ResIn) (s : State), s.chip ≠ .off ∧ s.woLive RES_CMD.OP.addr = true ∧ s.hubOn = true ∧ s.startOk = true ∧ s.on RES_CMD_STATUS.BUSY = false ∧ s.res.noKeys = false ∧ s.hasSec secTwin = false ∧ inp.anchorBad = false ∧ inp.carveBad = false ∧ inp.sram = [] ∧ s.stk.anchors = [] ∧ s.cip.erasePend = 0) ∧
    (∃ (inp : ResIn) (s : State), s.chip ≠ .off ∧ s.woLive RES_CMD.OP.addr = true ∧ s.hubOn = true ∧ s.startOk = false ∧ s.on RES_CMD_STATUS.BUSY = false) ∧
    (∃ (s : State), s.chip ≠ .off ∧ s.woLive RES_CMD.OP.addr = true ∧ s.hubOn = true ∧ s.on RES_CMD_STATUS.BUSY = false ∧ s.chip = .restoring ∧ s.res.rebuilt = true ∧ s.res.filling = false ∧ 0 < s.visibleCount ∧ s.visibleCount < 2 ^ RES_UNREST.SLABS.width) := by
  refine ⟨?_, ?_, ?_⟩
  · exact ⟨{ anchorBad := false, carveBad := false, manBad := false, markBad := false, badSaves := [], badRecs := [], sram := [] }, (let s : State := open0; let s : State := { s with chip := .waking, res := { s.res with trained := true, noKeys := false }, svy := { s.svy with has := s.svy.has.filter (fun x => x != secTwin) }, stk := { s.stk with anchors := [] }, cip := { s.cip with erasePend := 0 } }; s), by decide +kernel⟩
  · exact ⟨{ anchorBad := false, carveBad := false, manBad := false, markBad := false, badSaves := [], badRecs := [], sram := [] }, (let s : State := open0; let s : State := (islandsOf (RES_CMD.OP.addr)).foldl (fun s n => s.wr (CLK_ISL.STATE n) 2) s; let s : State := s.wr RES_CMD_STATUS.BUSY 0; s), by decide +kernel⟩
  · exact ⟨(let s : State := open0; let s : State := (islandsOf (RES_CMD.OP.addr)).foldl (fun s n => s.wr (CLK_ISL.STATE n) 2) s; let s : State := s.wr RES_CMD_STATUS.BUSY 0; let s : State := { s with chip := .restoring }; let s : State := { s with res := { s.res with rebuilt := true } }; let s : State := { s with res := { s.res with filling := false } }; s), by decide +kernel⟩

/-- Clauses of RestoreCommands have states and operands that meet their conditions. -/
theorem test_conditions_RestoreCommands_2 :
    (∃ (s : State), s.chip ≠ .off ∧ s.woLive RES_CMD.OP.addr = true ∧ s.hubOn = true ∧ s.chip = .parked) ∧
    (∃ (s : State), s.chip ≠ .off ∧ s.woLive RES_CMD.OP.addr = true ∧ s.hubOn = true ∧ s.chip ≠ .parked) ∧
    (∃ (slab : Nat) (page : PageRead) (bad : Bool) (s1 : State) (f : Fetch) (k : Nat) (s : State), s.chip ≠ .off ∧ s1 = s.hubErr bad ∧ s1.chip = .restoring ∧ s1.res.fetch.find? (fun f => f.slab == slab) = some f ∧ s1.fetchNext f = some k ∧ s1.dirty k = false ∧ s1.canPay 2 1 (decide (f.why = 1)) = true ∧ (∀ p ∈ faces, (s1.port p).wbuf = [] ∧ (s1.port p).reads = []) ∧ locKind (s1.loc k) = 0) := by
  refine ⟨?_, ?_, ?_⟩
  · exact ⟨(let s : State := open0; let s : State := (islandsOf (RES_CMD.OP.addr)).foldl (fun s n => s.wr (CLK_ISL.STATE n) 2) s; let s : State := { s with chip := .parked }; s), by decide +kernel⟩
  · exact ⟨(let s : State := open0; let s : State := (islandsOf (RES_CMD.OP.addr)).foldl (fun s n => s.wr (CLK_ISL.STATE n) 2) s; s), by decide +kernel⟩
  · exact ⟨0, .ok, false, { regs := [(589892, 0x630000#32), (656384, 1#32), (1048576, 0x808#32), (1048580, 0x3b#32)], tick := 100000, chip := .restoring, margin := .sable, stamp := 0, stampTick := 0, fuse := { step := 0, serial := 0, blown := 0, provKey := 0#256, devKey := 0#256 }, bed := { fneg := [], chipReset := 0 }, svy := { run := [(16777216, 0x610#32), (16777220, 15#32), (17825792, 4#32), (17825796, 0x3020100#32), (18874368, 1#32), (18874372, 0x80000#32), (18874376, 8#32), (18874384, 0x101#32), (18874388, 0x80008#32), (18874392, 8#32), (20971520, 0x8180#32), (33554432, 0x8a04000#32), (33554436, 0x4040800#32), (33554440, 0x3e80048#32), (33554448, 1#32), (33554456, 1#32), (33554464, 1#32), (33554472, 1#32), (33554480, 1#32), (33554488, 1#32), (33554496, 1#32), (33554504, 1#32), (33554512, 1#32), (34603008, 0x30010#32), (34603012, 0x40030#32), (34603016, 0x40008#32), (34603024, 0x30010#32), (34603028, 0x40030#32), (34603032, 0x40008#32), (35651584, 3#32), (50331648, 0x32402#32), (50331652, 0x648000#32), (50331656, 0xc80642f#32), (50331660, 0x100003#32), (50331664, 0x64#32), (50331688, 15#32), (50331692, 0x114#32), (50331808, 0x201013f#32), (50331812, 0x201013f#32), (50331936, 0x10#32), (67108864, 1#32), (67108868, 0x1964#32), (67108872, 0x1964#32), (67108876, 0x2bf20#32), (67108880, 0x186a00#32), (67108884, 0xcccd#32), (67108888, 0xf852e666#32), (67108892, 0x28fd99a#32), (67108896, 0xb33300f6#32), (67108900, 0x28999a#32)], has := [16, 17, 18, 20, 32, 33, 34, 48, 64], loaded := true, shadow := true, staging := [], inst := [], live := false, cmd := 0, taken := [], face := 0, pairDig := 0#128 }, slb := { slabs := [], ready := true, owned := true, baseR := 0, grants := [], ift := [], lmap := [], image := [] }, lgr := { packA := { ebase := 0, energy := 0, rc := 0, fcc := 0, dc := 0, chem := 0, ma := 0, gaugeMv := 0, temp := 0, debit := 0, saveDebit := 0, hiScans := 0, loScans := 0, valid := 0, last := none, esr := [], esrTick := 0, gaugeTick := 0 }, packB := { ebase := 0, energy := 0, rc := 0, fcc := 0, dc := 0, chem := 0, ma := 0, gaugeMv := 0, temp := 0, debit := 0, saveDebit := 0, hiScans := 0, loScans := 0, valid := 0, last := none, esr := [], esrTick := 0, gaugeTick := 0 }, sableCnt := 0, extra := false }, adm := { rr := 7, jobq := [], wear := 0, wearHaul := 0, wearMark := 0, day := 0, repTick := [], repDue := [], repMargin := 3 }, haul := { ptr := [], cover := [], bank := 0, started := 0, done := 0, short := false, half := false, waitStk := [], waitSump := [], group := 0, stripes := [], nextStripe := 0, pfw := false, pfwTick := 0 }, save := { off := false, short := false, trigTick := 0, walkTick := 0, walked := false, railCut := false, powerBack := false, vol := 0, sumpStart := [], first := [], last := [], carve := [], pads := 0, fdirty := [], anchor := none, session := 0, openAfter := 0, down := false, spent := none, lodes := [], aggs := [], staging := [], numbers := [], ctx := { rings := [], lost := false, owners := [], running := [], cached := [] } }, stk := { recs := [], lodes := [], blks := [], remaps := [], broken := [], pseq := [], head := [], openLode := [], wlWait := [], intents := [], jpend := [], jrnl := [], jseq := 0, jpage := 0, jsaved := 0, dies := [], silent := [], accs := [], applied := [], folding := false, reworking := false, degraded := 0, bootBad := [], bootMap := [], hblock := 0, lpage := 0, lfix := 0, anchors := [], apage := 0, patrolWin := 0, patrolled := [], patrolRead := [] }, saves := [], res := { fetch := [{ slab := 0, why := 0, want := 0, done := 0#64 }], demand := [], lastPort := 7, prefetch := [], bgPtr := [], bgBank := 0, rebuilt := false, filling := false, trigTick := 0, counted := 0, memRec := 0, holdRec := [], newLost := [], trained := false, noKeys := false, anchored := false, scanTick := 0 }, dch := { mem := [], poison := [], banks := [], repairs := [], hard := [], devCe := [], eqCe := [], eqTick := [], eqTemp := [], bootTemps := [], taps := [], ueRun := [], late := [], early := [], refBank := [], periodCe := 0, win := 0, limits := [3600, 4096, 256, 16, 64], mig := none, rankMap := [], crdMap := [], inForce := [], cfgNew := [], lastReq := [], actLimit := [], rankSr := [], eqRun := [], scrubTick := [], prev := [], ceTotal := [] }, ports := [], nv := [(0, { dirty := 0, shutdown := 0, feat := 0x7f#128, lsa := [] })], job := { rings := [], cache := [], jobs := [], pins := [], lost := false, fenceDue := 0, inits := [] }, cip := { keys := [], keyin := [], store := [], storeOk := false, ceiling := 0, storeSeq := 0, cmd := none, purge := [], stale := [], erasePend := 0, eraseSan := 0, rotate := [], misWin := [], next := 0, kat := [] }, gal := { epoch := 0#64, joinEpoch := 0#64, peerFenced := false, sent := [], held := [], fwds := [], nextTag := 0, lines := [], peerLines := [], joinStep := 0, listGot := false, rslvGot := false, lineWait := [], asks := [], nextAsk := 0, reqs := [], ctls := [], rslvSlab := 0, rslvSett := 0, rslvQuota := 0, kept := false, peerEpoch := 0#64, fullFor := 0, replays := [], lastFlit := [0, 0], lastBeat := 0, graceAt := 0, seen := 0, joinAt := 0, hello := [false, false], handover := 0, zeroing := [] }, seq := { stage := .idle, order := [], good := [], bad := [], low := [], high := [], glitch := [], glitchPrev := [], glitchWin := 0, latchAfter := false, offTick := 0, minOff := true, timed := false, offPend := false, noDnWait := false, inGood := 0, inLow := 0, pwrLow := false, pfwTick := 0, pfwLate := false, stretch := 0, pulse := 0, pg00Told := false, pg00Good := 0, pg00Bad := 0, pg00Ok := false, latchSave := false, syncDrive := false, lowTold := false, timedTick := 0 }, clk := { rising := [], tripSeen := false, refFail := false }, flt := { raised := [], irqq := [], win := [], esc := [], thrNew := [], winNew := [], rst := none, later := [], holdAfter := false }, clg := { live := [], staging := [], forming := [], phase := 0, pend := [], held := [], log := [], win := none, fetch := none, extDay := 0, railLogged := false, bootLogged := false, ffcAtWaking := [0, 0, 0], subSec := 0, resumed := false }, twb := { ports := [], alert := false, alertTick := 0, mctp := 0, sensTick := [] }, fwm := { slotA := { image := [], sealed := false, tag := 0#128, next := [], blk := 0 }, slotB := { image := [], sealed := false, tag := 0#128, next := [], blk := 0 }, active := 0, trial := false, tries := 0, staging := none, xfer := 0, xferFace := 0, running := true, alive := false, prev := 0, handoff := false, recovery := false, svyEpoch := 0, openCmds := [], waiting := [], bootTick := 0 }, pin := { testen := false, power := true, tap := .bypass, railset := 0, err := false }, pending := [], out := [], free := 0 }, { slab := 0, why := 0, want := 0, done := 0#64 }, 0, (let s : State := open0; let s : State := { s.wr (ADM_CLS.BUCKET 2) 99 with chip := .restoring, res := { s.res with fetch := [⟨0, 0, 0, BitVec.ofNat 64 (s.free * 2)⟩] } } |> fun s => faces.foldl (fun s p => s.setPort p { s.port p with wbuf := [], reads := [] }) s |> fun s => { s with adm := { s.adm with jobq := [] } } |> fun s => { s with slb := { s.slb with lmap := [] } } |>.clearDirty 0 |>.clearDirty 1; s), by decide +kernel⟩

/-- Clauses of RestoreCommands have states and operands that meet their conditions. -/
theorem test_conditions_RestoreCommands_3 :
    (∃ (slab : Nat) (page : PageRead) (bad : Bool) (s1 : State) (f : Fetch) (k : Nat) (r : Rec) (s : State), s.chip ≠ .off ∧ s1 = s.hubErr bad ∧ s1.chip = .restoring ∧ s1.res.fetch.find? (fun f => f.slab == slab) = some f ∧ s1.fetchNext f = some k ∧ s1.dirty k = false ∧ s1.canPay 2 1 (decide (f.why = 1)) = true ∧ (∀ p ∈ faces, (s1.port p).wbuf = [] ∧ (s1.port p).reads = []) ∧ (locKind (s1.loc k) = 1 ∨ locKind (s1.loc k) = 2) ∧ s1.recAt (s1.loc k) = some r ∧ s1.decrypts r = true ∧ page = .ok) ∧
    (∃ (i : Nat) (l : List Nat) (s : State), s.chip ≠ .off ∧ s.chip = .restoring ∧ s.res.filling = true ∧ s.res.fetch.length + 64 ≤ 1024 ∧ s.canPay 2 1 false = true ∧ s.res.prefetch.filter (fun i => (s.slab i).rstate == 1) = i :: l) ∧
    (∃ (port tag : Nat) (r : REnt) (s : State), s.chip ≠ .off ∧ (s.port port).reads.find? (fun r => r.tag == tag && r.wait == .fetch) = some r ∧ s.rd RES_HOLD.TICKS ≠ 0 ∧ r.since + s.rd RES_HOLD.TICKS ≤ s.tick) := by
  refine ⟨?_, ?_, ?_⟩
  · exact ⟨0, .ok, false, { regs := [(589892, 0x630000#32), (656384, 1#32), (1048576, 0x808#32), (1048580, 0x3b#32)], tick := 100000, chip := .restoring, margin := .sable, stamp := 0, stampTick := 0, fuse := { step := 0, serial := 0, blown := 0, provKey := 0#256, devKey := 0#256 }, bed := { fneg := [], chipReset := 0 }, svy := { run := [(16777216, 0x610#32), (16777220, 15#32), (17825792, 4#32), (17825796, 0x3020100#32), (18874368, 1#32), (18874372, 0x80000#32), (18874376, 8#32), (18874384, 0x101#32), (18874388, 0x80008#32), (18874392, 8#32), (20971520, 0x8180#32), (33554432, 0x8a04000#32), (33554436, 0x4040800#32), (33554440, 0x3e80048#32), (33554448, 1#32), (33554456, 1#32), (33554464, 1#32), (33554472, 1#32), (33554480, 1#32), (33554488, 1#32), (33554496, 1#32), (33554504, 1#32), (33554512, 1#32), (34603008, 0x30010#32), (34603012, 0x40030#32), (34603016, 0x40008#32), (34603024, 0x30010#32), (34603028, 0x40030#32), (34603032, 0x40008#32), (35651584, 3#32), (50331648, 0x32402#32), (50331652, 0x648000#32), (50331656, 0xc80642f#32), (50331660, 0x100003#32), (50331664, 0x64#32), (50331688, 15#32), (50331692, 0x114#32), (50331808, 0x201013f#32), (50331812, 0x201013f#32), (50331936, 0x10#32), (67108864, 1#32), (67108868, 0x1964#32), (67108872, 0x1964#32), (67108876, 0x2bf20#32), (67108880, 0x186a00#32), (67108884, 0xcccd#32), (67108888, 0xf852e666#32), (67108892, 0x28fd99a#32), (67108896, 0xb33300f6#32), (67108900, 0x28999a#32)], has := [16, 17, 18, 20, 32, 33, 34, 48, 64], loaded := true, shadow := true, staging := [], inst := [], live := false, cmd := 0, taken := [], face := 0, pairDig := 0#128 }, slb := { slabs := [], ready := true, owned := true, baseR := 0, grants := [], ift := [], lmap := [(0, 0x40000004#32)], image := [] }, lgr := { packA := { ebase := 0, energy := 0, rc := 0, fcc := 0, dc := 0, chem := 0, ma := 0, gaugeMv := 0, temp := 0, debit := 0, saveDebit := 0, hiScans := 0, loScans := 0, valid := 0, last := none, esr := [], esrTick := 0, gaugeTick := 0 }, packB := { ebase := 0, energy := 0, rc := 0, fcc := 0, dc := 0, chem := 0, ma := 0, gaugeMv := 0, temp := 0, debit := 0, saveDebit := 0, hiScans := 0, loScans := 0, valid := 0, last := none, esr := [], esrTick := 0, gaugeTick := 0 }, sableCnt := 0, extra := false }, adm := { rr := 7, jobq := [], wear := 0, wearHaul := 0, wearMark := 0, day := 0, repTick := [], repDue := [], repMargin := 3 }, haul := { ptr := [], cover := [], bank := 0, started := 0, done := 0, short := false, half := false, waitStk := [], waitSump := [], group := 0, stripes := [], nextStripe := 0, pfw := false, pfwTick := 0 }, save := { off := false, short := false, trigTick := 0, walkTick := 0, walked := false, railCut := false, powerBack := false, vol := 0, sumpStart := [], first := [], last := [], carve := [], pads := 0, fdirty := [], anchor := none, session := 0, openAfter := 0, down := false, spent := none, lodes := [], aggs := [], staging := [], numbers := [], ctx := { rings := [], lost := false, owners := [], running := [], cached := [] } }, stk := { recs := [(1073741828, some { typ := 1, sett := 0, seq := 0, key := 0, ivs := [(0, 1)], pseq := 0, keyVal := 0#256, data := [(5, 7#8)], poison := 0#1024 })], lodes := [], blks := [], remaps := [], broken := [], pseq := [], head := [], openLode := [], wlWait := [], intents := [], jpend := [], jrnl := [], jseq := 0, jpage := 0, jsaved := 0, dies := [], silent := [], accs := [], applied := [], folding := false, reworking := false, degraded := 0, bootBad := [], bootMap := [], hblock := 0, lpage := 0, lfix := 0, anchors := [], apage := 0, patrolWin := 0, patrolled := [], patrolRead := [] }, saves := [], res := { fetch := [{ slab := 0, why := 0, want := 0, done := 0#64 }], demand := [], lastPort := 7, prefetch := [], bgPtr := [], bgBank := 0, rebuilt := false, filling := false, trigTick := 0, counted := 0, memRec := 0, holdRec := [], newLost := [], trained := false, noKeys := false, anchored := false, scanTick := 0 }, dch := { mem := [], poison := [], banks := [], repairs := [], hard := [], devCe := [], eqCe := [], eqTick := [], eqTemp := [], bootTemps := [], taps := [], ueRun := [], late := [], early := [], refBank := [], periodCe := 0, win := 0, limits := [3600, 4096, 256, 16, 64], mig := none, rankMap := [], crdMap := [], inForce := [], cfgNew := [], lastReq := [], actLimit := [], rankSr := [], eqRun := [], scrubTick := [], prev := [], ceTotal := [] }, ports := [], nv := [(0, { dirty := 0, shutdown := 0, feat := 0x7f#128, lsa := [] })], job := { rings := [], cache := [], jobs := [], pins := [], lost := false, fenceDue := 0, inits := [] }, cip := { keys := [], keyin := [], store := [], storeOk := false, ceiling := 0, storeSeq := 0, cmd := none, purge := [], stale := [], erasePend := 0, eraseSan := 0, rotate := [], misWin := [], next := 0, kat := [] }, gal := { epoch := 0#64, joinEpoch := 0#64, peerFenced := false, sent := [], held := [], fwds := [], nextTag := 0, lines := [], peerLines := [], joinStep := 0, listGot := false, rslvGot := false, lineWait := [], asks := [], nextAsk := 0, reqs := [], ctls := [], rslvSlab := 0, rslvSett := 0, rslvQuota := 0, kept := false, peerEpoch := 0#64, fullFor := 0, replays := [], lastFlit := [0, 0], lastBeat := 0, graceAt := 0, seen := 0, joinAt := 0, hello := [false, false], handover := 0, zeroing := [] }, seq := { stage := .idle, order := [], good := [], bad := [], low := [], high := [], glitch := [], glitchPrev := [], glitchWin := 0, latchAfter := false, offTick := 0, minOff := true, timed := false, offPend := false, noDnWait := false, inGood := 0, inLow := 0, pwrLow := false, pfwTick := 0, pfwLate := false, stretch := 0, pulse := 0, pg00Told := false, pg00Good := 0, pg00Bad := 0, pg00Ok := false, latchSave := false, syncDrive := false, lowTold := false, timedTick := 0 }, clk := { rising := [], tripSeen := false, refFail := false }, flt := { raised := [], irqq := [], win := [], esc := [], thrNew := [], winNew := [], rst := none, later := [], holdAfter := false }, clg := { live := [], staging := [], forming := [], phase := 0, pend := [], held := [], log := [], win := none, fetch := none, extDay := 0, railLogged := false, bootLogged := false, ffcAtWaking := [0, 0, 0], subSec := 0, resumed := false }, twb := { ports := [], alert := false, alertTick := 0, mctp := 0, sensTick := [] }, fwm := { slotA := { image := [], sealed := false, tag := 0#128, next := [], blk := 0 }, slotB := { image := [], sealed := false, tag := 0#128, next := [], blk := 0 }, active := 0, trial := false, tries := 0, staging := none, xfer := 0, xferFace := 0, running := true, alive := false, prev := 0, handoff := false, recovery := false, svyEpoch := 0, openCmds := [], waiting := [], bootTick := 0 }, pin := { testen := false, power := true, tap := .bypass, railset := 0, err := false }, pending := [], out := [], free := 0 }, { slab := 0, why := 0, want := 0, done := 0#64 }, 0, { typ := 1, sett := 0, seq := 0, key := 0, ivs := [(0, 1)], pseq := 0, keyVal := 0#256, data := [(5, 7#8)], poison := 0#1024 }, (let s : State := open0; let s : State := { s.wr (ADM_CLS.BUCKET 2) 99 with chip := .restoring, res := { s.res with fetch := [⟨0, 0, 0, BitVec.ofNat 64 (s.free * 2)⟩] } } |> fun s => faces.foldl (fun s p => s.setPort p { s.port p with wbuf := [], reads := [] }) s |> fun s => { s with adm := { s.adm with jobq := [] } } |> fun s => let k := (s.fetchNext (s.res.fetch.headD ⟨0, 0, 0, 0⟩)).getD 0; (s.clearDirty k).setLoc k (locStk 0 2 0) |> fun s => { s with stk := { s.stk with recs := SMap.put none (locStk 0 2 0).toNat (some { typ := 1, sett := k, seq := 0, key := 0, ivs := [(0, 1)], pseq := 0, keyVal := s.slotKey 0, data := [(5, 7)], poison := 0 }) s.stk.recs } }; s), by decide +kernel⟩
  · exact ⟨5, [], (let s : State := open0; let s : State := { (s.setRstate 5 1).wr (ADM_CLS.BUCKET 2) 99 with chip := .restoring, res := { s.res with filling := true, fetch := [], prefetch := [3, 5] } }; s), by decide +kernel⟩
  · exact ⟨0, 7, { tag := 7, dpa := 64, sett := 0, line := 1, wait := .fetch, since := 0, arr := 0 }, (let port : Nat := 0; let s : State := open0; let s : State := { (s.wr RES_HOLD.TICKS 5).setPort 0 { s.port 0 with reads := [⟨7, 64, 0, 1, .fetch, 0, 0⟩] } with tick := s.tick + 50 }; s), by decide +kernel⟩

/-- Clauses of KeySlotsFirst have states and operands that meet their conditions. -/
theorem test_conditions_KeySlotsFirst_1 :
    (∃ (s : State), s.chip ≠ .off ∧ s.hubOn = true ∧ s.on CIP_CMD_STATUS.BUSY = false ∧ s.genRefused (s.rd CIP_CMD_SLOT.SLOT) = 0) ∧
    (∃ (s : State), s.chip ≠ .off ∧ s.hubOn = true ∧ s.on CIP_CMD_STATUS.BUSY = false ∧ (s.slotState (s.rd CIP_CMD_SLOT.SLOT) = slActive ∨ s.slotState (s.rd CIP_CMD_SLOT.SLOT) = slTransform)) ∧
    (∃ (s : State), s.chip ≠ .off ∧ s.hubOn = true ∧ s.on CIP_CMD_STATUS.BUSY = false ∧ s.slotState (s.rd CIP_CMD_SLOT.SLOT) = slPartner ∧ s.slotRefs (s.rd CIP_CMD_SLOT.SLOT) ≠ 0) := by
  refine ⟨?_, ?_, ?_⟩
  · exact ⟨(let s : State := open0; let s : State := let s : State := { (s.wr CIP_CMD_STATUS.BUSY 0) with cip := { s.cip with cmd := none } }; let k := s.free % 64; let s := (s.wr CIP_CMD_SLOT.SLOT k).wr CIP_CMD_SLOT.FACE (s.free % 7) |>.wr CIP_CMD_SLOT.GEN (s.free / 3 % 2) |>.wr CIP_CFG.TX_PER_FACE 2; s.wr (CIP_SLST.STATE k) (2 * (s.free % 2)) |> fun s => { s with slb := { s.slb with ift := [] } }; s), by decide +kernel⟩
  · exact ⟨(let s : State := open0; let s : State := s.wr CIP_CMD_STATUS.BUSY 0; s), by decide +kernel⟩
  · exact ⟨(let s : State := open0; let s : State := let s : State := { (s.wr CIP_CMD_STATUS.BUSY 0) with cip := { s.cip with cmd := none } }; let k := s.free % 64; let s := (s.wr CIP_CMD_SLOT.SLOT k).wr CIP_CMD_SLOT.FACE (s.free % 7) |>.wr CIP_CMD_SLOT.GEN (s.free / 3 % 2) |>.wr CIP_CFG.TX_PER_FACE 2; s.wr (CIP_SLST.STATE k) 2 |> fun s => { s with slb := { s.slb with ift := [{ haul0 with sett := 1, stage := 1, key := s.rd CIP_CMD_SLOT.SLOT, pages := 1 }] } }; s), by decide +kernel⟩

/-- Clauses of KeySlotsFirst have states and operands that meet their conditions. -/
theorem test_conditions_KeySlotsFirst_2 :
    (∃ (s : State), s.chip ≠ .off ∧ s.hubOn = true ∧ s.on CIP_CMD_STATUS.BUSY = true) ∧
    (∃ (s : State), s.chip ≠ .off ∧ s.hubOn = true ∧ s.on CIP_CMD_STATUS.BUSY = true) ∧
    (∃ (s : State), s.chip ≠ .off ∧ s.hubOn = true ∧ s.on CIP_CMD_STATUS.BUSY = true) := by
  refine ⟨?_, ?_, ?_⟩
  · exact ⟨(let s : State := open0; let s : State := s.wr CIP_CMD_STATUS.BUSY 1; s), by decide +kernel⟩
  · exact ⟨(let s : State := open0; let s : State := s.wr CIP_CMD_STATUS.BUSY 1; s), by decide +kernel⟩
  · exact ⟨(let s : State := open0; let s : State := s.wr CIP_CMD_STATUS.BUSY 1; s), by decide +kernel⟩

/-- Clauses of KeySlotsFirst have states and operands that meet their conditions. -/
theorem test_conditions_KeySlotsFirst_3 :
    (∃ (s : State), s.chip ≠ .off ∧ s.hubOn = true ∧ s.on CIP_CMD_STATUS.BUSY = true) ∧
    (∃ (s : State), s.chip ≠ .off ∧ s.hubOn = true ∧ s.on CIP_CMD_STATUS.BUSY = true) ∧
    (∃ (s : State), s.chip ≠ .off ∧ s.hubOn = true ∧ s.on CIP_CMD_STATUS.BUSY = true) := by
  refine ⟨?_, ?_, ?_⟩
  · exact ⟨(let s : State := open0; let s : State := s.wr CIP_CMD_STATUS.BUSY 1; s), by decide +kernel⟩
  · exact ⟨(let s : State := open0; let s : State := s.wr CIP_CMD_STATUS.BUSY 1; s), by decide +kernel⟩
  · exact ⟨(let s : State := open0; let s : State := s.wr CIP_CMD_STATUS.BUSY 1; s), by decide +kernel⟩

/-- Clauses of KeySlotsFirst have states and operands that meet their conditions. -/
theorem test_conditions_KeySlotsFirst_4 :
    (∃ (s : State), s.chip ≠ .off ∧ s.hubOn = true ∧ s.on CIP_CMD_STATUS.BUSY = true) ∧
    (∃ (s : State), s.chip ≠ .off ∧ s.hubOn = true ∧ s.on CIP_CMD_STATUS.BUSY = false ∧ s.slotState (s.rd CIP_CMD_SLOT.SLOT) = slPartner) ∧
    (∃ (s : State), s.chip ≠ .off ∧ s.hubOn = true ∧ s.on CIP_CMD_STATUS.BUSY = false ∧ s.slotState (s.rd CIP_CMD_SLOT.SLOT) ≠ slPartner) := by
  refine ⟨?_, ?_, ?_⟩
  · exact ⟨(let s : State := open0; let s : State := s.wr CIP_CMD_STATUS.BUSY 1; s), by decide +kernel⟩
  · exact ⟨(let s : State := open0; let s : State := let s : State := { (s.wr CIP_CMD_STATUS.BUSY 0) with cip := { s.cip with cmd := none } }; let k := s.free % 64; let s := (s.wr CIP_CMD_SLOT.SLOT k).wr CIP_CMD_SLOT.FACE (s.free % 7) |>.wr CIP_CMD_SLOT.GEN (s.free / 3 % 2) |>.wr CIP_CFG.TX_PER_FACE 2; s.wr (CIP_SLST.STATE k) 2; s), by decide +kernel⟩
  · exact ⟨(let s : State := open0; let s : State := s.wr CIP_CMD_STATUS.BUSY 0; s), by decide +kernel⟩

/-- Clauses of KeySlotsFirst have states and operands that meet their conditions. -/
theorem test_conditions_KeySlotsFirst_5 :
    (∃ (s : State), s.chip ≠ .off ∧ s.hubOn = true ∧ s.on CIP_CMD_STATUS.BUSY = false ∧ s.slotState (s.rd CIP_CMD_SLOT.SLOT) ≠ slActive) ∧
    (∃ (s : State), s.chip ≠ .off ∧ s.hubOn = true ∧ s.on CIP_CMD_STATUS.BUSY = false ∧ s.slotState (s.rd CIP_CMD_SLOT.SLOT) = slActive) := by
  refine ⟨?_, ?_⟩
  · exact ⟨(let s : State := open0; let s : State := let s : State := { (s.wr CIP_CMD_STATUS.BUSY 0) with cip := { s.cip with cmd := none } }; let k := s.free % 64; let s := (s.wr CIP_CMD_SLOT.SLOT k).wr CIP_CMD_SLOT.FACE (s.free % 7) |>.wr CIP_CMD_SLOT.GEN (s.free / 3 % 2) |>.wr CIP_CFG.TX_PER_FACE 2; s.wr (CIP_SLST.STATE k) (2 + s.free % 2) |> fun s => s.wr (CIP_SLST.STORED (s.rd CIP_CMD_SLOT.SLOT)) (s.free / 5 % 2); s), by decide +kernel⟩
  · exact ⟨(let s : State := open0; let s : State := s.wr CIP_CMD_STATUS.BUSY 0; s), by decide +kernel⟩

/-- Clauses of KeySlotsSecond have states and operands that meet their conditions. -/
theorem test_conditions_KeySlotsSecond_1 :
    (∃ (s : State), s.chip ≠ .off ∧ s.hubOn = true ∧ s.on CIP_CMD_STATUS.BUSY = false ∧ s.rd CIP_CMD_SLOT.SLOT / 2 ≠ 31) ∧
    (∃ (s : State), s.chip ≠ .off ∧ s.hubOn = true ∧ s.on CIP_CMD_STATUS.BUSY = false ∧ s.rd CIP_CMD_SLOT.SLOT / 2 = 31) ∧
    (∃ (s : State), s.chip ≠ .off ∧ s.hubOn = true ∧ s.on CIP_CMD_STATUS.BUSY = false ∧ s.slotFree (s.rd CIP_CMD_SLOT.SLOT) = true ∧ s.txCount (s.rd CIP_CMD_SLOT.FACE) < s.rd CIP_CFG.TX_PER_FACE ∧ s.on CIP_CMD_SLOT.GEN = false) := by
  refine ⟨?_, ?_, ?_⟩
  · exact ⟨(let s : State := open0; let s : State := s.wr CIP_CMD_STATUS.BUSY 0; s), by decide +kernel⟩
  · exact ⟨(let s : State := open0; let s : State := let s : State := { (s.wr CIP_CMD_STATUS.BUSY 0) with cip := { s.cip with cmd := none } }; let k := 62 + s.free % 2; let s := (s.wr CIP_CMD_SLOT.SLOT k).wr CIP_CMD_SLOT.FACE (s.free % 7) |>.wr CIP_CMD_SLOT.GEN (s.free / 3 % 2) |>.wr CIP_CFG.TX_PER_FACE 2; s.wr (CIP_SLST.STATE k) 1; s), by decide +kernel⟩
  · exact ⟨(let s : State := open0; let s : State := let s : State := { (s.wr CIP_CMD_STATUS.BUSY 0) with cip := { s.cip with cmd := none } }; let k := 20 + s.free % 40; let s := (s.wr CIP_CMD_SLOT.SLOT k).wr CIP_CMD_SLOT.FACE (s.free % 7) |>.wr CIP_CMD_SLOT.GEN (s.free / 3 % 2) |>.wr CIP_CFG.TX_PER_FACE 2; s.wr (CIP_SLST.STATE k) 0 |> fun s => { s.wr CIP_CMD_SLOT.GEN 0 with cip := { s.cip with keyin := [(0,5),(7,9)] } }; s), by decide +kernel⟩

/-- Clauses of KeySlotsSecond have states and operands that meet their conditions. -/
theorem test_conditions_KeySlotsSecond_2 :
    (∃ (s : State), s.chip ≠ .off ∧ s.hubOn = true ∧ s.on CIP_CMD_STATUS.BUSY = false ∧ s.slotFree (s.rd CIP_CMD_SLOT.SLOT) = true ∧ s.txCount (s.rd CIP_CMD_SLOT.FACE) < s.rd CIP_CFG.TX_PER_FACE ∧ s.on CIP_CMD_SLOT.GEN = true) ∧
    (∃ (s : State), s.chip ≠ .off ∧ s.hubOn = true ∧ s.on CIP_CMD_STATUS.BUSY = false ∧ s.slotFree (s.rd CIP_CMD_SLOT.SLOT) = true ∧ s.rd CIP_CFG.TX_PER_FACE ≤ s.txCount (s.rd CIP_CMD_SLOT.FACE)) ∧
    (∃ (s : State), s.chip ≠ .off ∧ s.hubOn = true ∧ s.on CIP_CMD_STATUS.BUSY = false ∧ s.slotState (s.rd CIP_CMD_SLOT.SLOT) = slTransform) := by
  refine ⟨?_, ?_, ?_⟩
  · exact ⟨(let s : State := open0; let s : State := let s : State := { (s.wr CIP_CMD_STATUS.BUSY 0) with cip := { s.cip with cmd := none } }; let k := 20 + s.free % 40; let s := (s.wr CIP_CMD_SLOT.SLOT k).wr CIP_CMD_SLOT.FACE (s.free % 7) |>.wr CIP_CMD_SLOT.GEN (s.free / 3 % 2) |>.wr CIP_CFG.TX_PER_FACE 2; s.wr (CIP_SLST.STATE k) 0 |> fun s => { s.wr CIP_CMD_SLOT.GEN 1 with cip := { s.cip with keyin := [(0,5),(7,9)] } }; s), by decide +kernel⟩
  · exact ⟨(let s : State := open0; let s : State := let s : State := { (s.wr CIP_CMD_STATUS.BUSY 0) with cip := { s.cip with cmd := none } }; let k := 20 + s.free % 40; let s := (s.wr CIP_CMD_SLOT.SLOT k).wr CIP_CMD_SLOT.FACE (s.free % 7) |>.wr CIP_CMD_SLOT.GEN (s.free / 3 % 2) |>.wr CIP_CFG.TX_PER_FACE 2; s.wr (CIP_SLST.STATE k) 0 |> fun s => s.wr CIP_CFG.TX_PER_FACE 0; s), by decide +kernel⟩
  · exact ⟨(let s : State := open0; let s : State := let s : State := { (s.wr CIP_CMD_STATUS.BUSY 0) with cip := { s.cip with cmd := none } }; let k := s.free % 64; let s := (s.wr CIP_CMD_SLOT.SLOT k).wr CIP_CMD_SLOT.FACE (s.free % 7) |>.wr CIP_CMD_SLOT.GEN (s.free / 3 % 2) |>.wr CIP_CFG.TX_PER_FACE 2; s.wr (CIP_SLST.STATE k) 3; s), by decide +kernel⟩

/-- Clauses of KeySlotsSecond have states and operands that meet their conditions. -/
theorem test_conditions_KeySlotsSecond_3 :
    (∃ (s : State), s.chip ≠ .off ∧ s.hubOn = true ∧ s.on CIP_CMD_STATUS.BUSY = false ∧ s.slotState (s.rd CIP_CMD_SLOT.SLOT) ≠ slTransform) ∧
    (∃ (s : State), s.chip ≠ .off ∧ s.hubOn = true ∧ s.on CIP_CMD_STATUS.BUSY = false ∧ (s.rd (CIP_PAIR.STATE (s.rd CIP_CMD_SLOT.SLOT % 12)) = pairIn ∨ s.rd (CIP_PAIR.STATE (s.rd CIP_CMD_SLOT.SLOT % 12)) = pairOut)) ∧
    (∃ (ok0 ok36 : Bool) (c : CipCmd) (s : State), s.chip ≠ .off ∧ s.bootFree = true ∧ s.storeRuns = true ∧ s.cip.cmd = some c ∧ c.face = 0 ∧ c.slot < 64 ∧ (s.bootBoth ((bootArea bootHealth).1 + (if s.cip.purge.isEmpty then s.stk.hblock else 1 - s.stk.hblock)) ok0 ok36).1 = true ∧ c.op = 1 ∧ s.slotState (pairMate c.slot) = slEmpty) := by
  refine ⟨?_, ?_, ?_⟩
  · exact ⟨(let s : State := open0; let s : State := s.wr CIP_CMD_STATUS.BUSY 0; s), by decide +kernel⟩
  · exact ⟨(let s : State := open0; let s : State := s.wr CIP_CMD_STATUS.BUSY 0; let s : State := s.wr (CIP_PAIR.STATE (s.rd CIP_CMD_SLOT.SLOT % 12)) (pairIn); s), by decide +kernel⟩
  · exact ⟨true, false, { op := 1, slot := 0, key := 0x4d#256, face := 0 }, (let s : State := open0; let s : State := let k := s.free % 64; { (s.wr (CIP_SLST.STATE k) (if 1 = 2 then 2 else 0)).wr (CIP_SLST.STATE (pairMate k)) 0 with cip := { s.cip with cmd := some ⟨1, k, 77, 0⟩ } }; s), by decide +kernel⟩

/-- Clauses of KeySlotsSecond have states and operands that meet their conditions. -/
theorem test_conditions_KeySlotsSecond_4 :
    (∃ (ok0 ok36 : Bool) (c : CipCmd) (s : State), s.chip ≠ .off ∧ s.bootFree = true ∧ s.storeRuns = true ∧ s.cip.cmd = some c ∧ c.face = 0 ∧ c.slot < 64 ∧ (s.bootBoth ((bootArea bootHealth).1 + (if s.cip.purge.isEmpty then s.stk.hblock else 1 - s.stk.hblock)) ok0 ok36).1 = true ∧ c.op = 1 ∧ s.slotState (pairMate c.slot) ≠ slEmpty) ∧
    (∃ (ok0 ok36 : Bool) (c : CipCmd) (s : State), s.chip ≠ .off ∧ s.bootFree = true ∧ s.storeRuns = true ∧ s.cip.cmd = some c ∧ c.face = 0 ∧ c.slot < 64 ∧ (s.bootBoth ((bootArea bootHealth).1 + (if s.cip.purge.isEmpty then s.stk.hblock else 1 - s.stk.hblock)) ok0 ok36).1 = true ∧ c.op = 2 ∧ s.slotState (pairMate c.slot) = slActive) ∧
    (∃ (ok0 ok36 : Bool) (c : CipCmd) (s : State), s.chip ≠ .off ∧ s.bootFree = true ∧ s.storeRuns = true ∧ s.cip.cmd = some c ∧ (c.op = 1 ∨ c.op = 2) ∧ (s.bootBoth ((bootArea bootHealth).1 + (if s.cip.purge.isEmpty then s.stk.hblock else 1 - s.stk.hblock)) ok0 ok36).1 = false) := by
  refine ⟨?_, ?_, ?_⟩
  · exact ⟨false, true, { op := 1, slot := 0, key := 0x4d#256, face := 0 }, (let s : State := open0; let s : State := let k := s.free % 64; { (s.wr (CIP_SLST.STATE k) (if 1 = 2 then 2 else 0)).wr (CIP_SLST.STATE (pairMate k)) 1 with cip := { s.cip with cmd := some ⟨1, k, 77, 0⟩ } }; s), by decide +kernel⟩
  · exact ⟨true, false, { op := 2, slot := 0, key := 0x4d#256, face := 0 }, (let s : State := open0; let s : State := let k := s.free % 64; { (s.wr (CIP_SLST.STATE k) (if 2 = 2 then 2 else 0)).wr (CIP_SLST.STATE (pairMate k)) 1 with cip := { s.cip with cmd := some ⟨2, k, 77, 0⟩ } }; s), by decide +kernel⟩
  · exact ⟨false, false, { op := 1, slot := 0, key := 0x4d#256, face := 0 }, (let s : State := open0; let s : State := let k := s.free % 64; { (s.wr (CIP_SLST.STATE k) (if 1 = 2 then 2 else 0)).wr (CIP_SLST.STATE (pairMate k)) 1 with cip := { s.cip with cmd := some ⟨1, k, 77, 0⟩ } }; s), by decide +kernel⟩

/-- Clauses of KeySlotsSecond have states and operands that meet their conditions. -/
theorem test_conditions_KeySlotsSecond_5 :
    (∃ (s : State), s.chip ≠ .off ∧ s.storeRuns = true ∧ s.cip.purge ≠ [] ∧ s.cip.stale = [] ∧ (s.bootErase 0 ((bootArea bootHealth).1 + s.stk.hblock)).1 = true ∧ ((s.bootErase 0 ((bootArea bootHealth).1 + s.stk.hblock)).2.bootErase 1 ((bootArea bootHealth).1 + s.stk.hblock)).1 = true) ∧
    (∃ (s : State), s.chip ≠ .off ∧ s.storeRuns = true ∧ s.cip.purge ≠ [] ∧ s.cip.stale = [] ∧ (s.bootErase 0 ((bootArea bootHealth).1 + s.stk.hblock)).1 = false) ∧
    (∃ (s : State), s.chip ≠ .off ∧ s.hubOn = true) := by
  refine ⟨?_, ?_, ?_⟩
  · exact ⟨(let s : State := open0; let s : State := { s with cip := { s.cip with stale := [] } }; let s : State := { s with cip := { s.cip with stale := [], purge := [3] } }; s), by decide +kernel⟩
  · exact ⟨(let s : State := open0; let s : State := { s with cip := { s.cip with stale := [] } }; let s : State := { ((s.wr (NCH_WPHI.VALID 0 0) 1).wr (NCH_WPHI.MODE 0 0) 1).wr (NCH_WPLO.LAST 0 0) 4000 with cip := { s.cip with stale := [], purge := [3] } }; s), by decide +kernel⟩
  · exact ⟨(open0), by decide +kernel⟩

/-- Clauses of CoreLog have states and operands that meet their conditions. -/
theorem test_conditions_CoreLog_1 :
    (∃ (s : State), s.chip ≠ .off ∧ s.hubOn = true ∧ s.clg.phase = 0 ∧ s.on CLG_STATUS.READY = true ∧ s.chip ≠ .save) ∧
    (∃ (s : State), s.chip ≠ .off ∧ s.hubOn = true ∧ s.clg.phase ≠ 0) ∧
    (∃ (s : State), s.chip ≠ .off ∧ s.hubOn = true ∧ s.clg.phase = 0 ∧ (s.on CLG_STATUS.READY = false ∨ s.chip = .save)) := by
  refine ⟨?_, ?_, ?_⟩
  · exact ⟨(let s : State := open0; let s : State := { s with clg := { s.clg with phase := 0 } }; let s : State := s.wr CLG_STATUS.READY 1; s), by decide +kernel⟩
  · exact ⟨(let s : State := open0; let s : State := { s with clg := { s.clg with phase := 1, pend := (if s.free % 2 = 0 then s.clg.pend else s.clg.pend ++ [⟨4, 0, false, 0, 0, 0, 0, 0, 0, 0, .words [3]⟩]) } }; s), by decide +kernel⟩
  · exact ⟨(let s : State := open0; let s : State := { s with clg := { s.clg with phase := 0 } }; let s : State := s.wr CLG_STATUS.READY 0; s), by decide +kernel⟩

/-- Clauses of CoreLog have states and operands that meet their conditions. -/
theorem test_conditions_CoreLog_2 :
    (∃ (s : State), s.chip ≠ .off ∧ s.hubOn = true ∧ s.clg.phase = 0 ∧ s.on CLG_STATUS.READY = true ∧ s.chip ≠ .save) ∧
    (∃ (s : State), s.chip ≠ .off ∧ s.hubOn = true ∧ s.clg.phase ≠ 0) ∧
    (∃ (s : State), s.chip ≠ .off ∧ s.hubOn = true ∧ s.clg.phase = 0 ∧ (s.on CLG_STATUS.READY = false ∨ s.chip = .save)) := by
  refine ⟨?_, ?_, ?_⟩
  · exact ⟨(let s : State := open0; let s : State := { s with clg := { s.clg with phase := 0 } }; let s : State := s.wr CLG_STATUS.READY 1; s), by decide +kernel⟩
  · exact ⟨(let s : State := open0; let s : State := { s with clg := { s.clg with phase := 1, pend := (if s.free % 2 = 0 then s.clg.pend else s.clg.pend ++ [⟨4, 0, false, 0, 0, 0, 0, 0, 0, 0, .words [3]⟩]) } }; s), by decide +kernel⟩
  · exact ⟨(let s : State := open0; let s : State := { s with clg := { s.clg with phase := 0 } }; let s : State := s.wr CLG_STATUS.READY 0; s), by decide +kernel⟩

/-- Clauses of CoreLog have states and operands that meet their conditions. -/
theorem test_conditions_CoreLog_3 :
    (∃ (s : State), s.chip ≠ .off ∧ s.hubOn = true ∧ s.opSeconds ≠ 0 ∧ s.opSeconds % (60 * Nat.max 1 (s.rd CLG_CFG.CADENCE)) = 0) ∧
    (∃ (ok0 ok36 : Bool) (s : State), s.chip ≠ .off ∧ s.bootFree = true ∧ s.clg.phase ≠ 0 ∧ (s.bootBoth s.logBlock ok0 ok36).1 = true) ∧
    (∃ (ok0 ok36 : Bool) (s : State), s.chip ≠ .off ∧ s.bootFree = true ∧ s.clg.phase = 3 ∧ (s.bootBoth s.logBlock ok0 ok36).1 = false) := by
  refine ⟨?_, ?_, ?_⟩
  · exact ⟨(let s : State := open0; let s : State := (s.wr CLG_HOURS.HOURS 2).wr CLG_CFG.CADENCE 15; s), by decide +kernel⟩
  · exact ⟨true, true, (let s : State := open0; let s : State := let s := (s.wr CLG_SEQ.SEQ (s.free % 5)); let s : State := { s with clg := { s.clg with phase := 0 } }; let s := s.wr CLG_STATUS.READY 1 |>.commit s.cadenceAggs true; { s with clg := { s.clg with phase := 2 } }; s), by decide +kernel⟩
  · exact ⟨false, false, (let s : State := open0; let s : State := { s with clg := { s.clg with phase := 3 } }; s), by decide +kernel⟩

/-- Clauses of CoreLog have states and operands that meet their conditions. -/
theorem test_conditions_CoreLog_4 :
    (∃ (ok0 ok36 : Bool) (s : State), s.chip ≠ .off ∧ s.bootFree = true ∧ (s.clg.phase = 1 ∨ s.clg.phase = 2) ∧ (s.bootBoth s.logBlock ok0 ok36).1 = false) ∧
    (∃ (seq : Nat) (s : State), s.chip ≠ .off ∧ s.hubOn = true ∧ seq = liveSeq) ∧
    (∃ (seq : Nat) (s : State), s.chip ≠ .off ∧ s.hubOn = true ∧ s.rd CLG_SEQ.SEQ < seq ∧ seq < liveSeq) := by
  refine ⟨?_, ?_, ?_⟩
  · exact ⟨false, false, (let s : State := open0; let s : State := { s with clg := { s.clg with phase := 1 } }; s), by decide +kernel⟩
  · exact ⟨4294967295, (open0), by decide +kernel⟩
  · exact ⟨9, (open0), by decide +kernel⟩

/-- Clauses of CoreLog have states and operands that meet their conditions. -/
theorem test_conditions_CoreLog_5 :
    (∃ (seq : Nat) (s : State), s.chip ≠ .off ∧ s.hubOn = true ∧ seq < liveSeq ∧ readable (s.rd CLG_SEQ.SEQ) seq = true) ∧
    (∃ (seq : Nat) (s : State), s.chip ≠ .off ∧ s.hubOn = true ∧ seq ≤ s.rd CLG_SEQ.SEQ ∧ seq < liveSeq ∧ readable (s.rd CLG_SEQ.SEQ) seq = false) ∧
    (∃ (bad : Bool) (n : Nat) (s : State), s.chip ≠ .off ∧ s.clg.fetch = some n ∧ bad = false) := by
  refine ⟨?_, ?_, ?_⟩
  · exact ⟨1, (let s : State := open0; let s : State := s.wr CLG_SEQ.SEQ 40; s), by decide +kernel⟩
  · exact ⟨0, (open0), by decide +kernel⟩
  · exact ⟨false, 0, (let s : State := open0; let s : State := { s with clg := { s.clg with fetch := some (s.free % 4) } }; s), by decide +kernel⟩

/-- Clauses of CoreLog have states and operands that meet their conditions. -/
theorem test_conditions_CoreLog_6 :
    (∃ (bad : Bool) (s : State), s.chip ≠ .off ∧ s.clg.fetch.isSome = true ∧ bad = true) := by
  exact ⟨true, (let s : State := open0; let s : State := { s with clg := { s.clg with fetch := some 1 } }; s), by decide +kernel⟩

/-- Clauses of TwoWireTargetFirst have states and operands that meet their conditions. -/
theorem test_conditions_TwoWireTargetFirst_1 :
    (∃ (bytes : List Byte) (pec : PecIn) (s : State), s.chip ≠ .off ∧ s.pecRefused pec = false ∧ s.mctpTakes = true) ∧
    (∃ (bytes : List Byte) (pec : PecIn) (s : State), s.chip ≠ .off ∧ s.mctpTakes = false) ∧
    (∃ (addr : Nat) (pec : PecIn) (s : State), s.chip ≠ .off ∧ s.pecRefused pec = true) := by
  refine ⟨?_, ?_, ?_⟩
  · exact ⟨[], .good, (open0), by decide +kernel⟩
  · exact ⟨[], .good, (let s : State := open0; let s : State := { s with twb := { s.twb with mctp := 16 } }; s), by decide +kernel⟩
  · exact ⟨0, .bad, (let s : State := open0; let s : State := withRun ({ s with svy := { s.svy with has := 0x31 :: s.svy.has } }) 0x310001C 1; s), by decide +kernel⟩

/-- Clauses of TwoWireTargetFirst have states and operands that meet their conditions. -/
theorem test_conditions_TwoWireTargetFirst_2 :
    (∃ (data : Word) (pec : PecIn) (s : State), s.chip ≠ .off ∧ s.pecRefused pec = true) ∧
    (∃ (addr : Nat) (pec : PecIn) (s : State), s.chip ≠ .off ∧ s.pecRefused pec = false ∧ addr % 4 = 0 ∧ addr < 2 ^ 26) ∧
    (∃ (data : Word) (pec : PecIn) (s : State), s.chip ≠ .off ∧ s.pecRefused pec = false ∧ bmcWrites s.regAddr = false) := by
  refine ⟨?_, ?_, ?_⟩
  · exact ⟨0#32, .bad, (let s : State := open0; let s : State := withRun ({ s with svy := { s.svy with has := 0x31 :: s.svy.has } }) 0x310001C 1; s), by decide +kernel⟩
  · exact ⟨0, .good, (open0), by decide +kernel⟩
  · exact ⟨0#32, .good, (open0), by decide +kernel⟩

/-- Clauses of TwoWireTargetFirst have states and operands that meet their conditions. -/
theorem test_conditions_TwoWireTargetFirst_3 :
    (∃ (data : Word) (pec : PecIn) (s : State), s.chip ≠ .off ∧ s.pecRefused pec = false ∧ s.regAddr = 0x50054 ∧ 0 < data.toNat % 2 ^ 16) ∧
    (∃ (s : State), s.chip ≠ .off ∧ bmcReads s.regAddr = true) ∧
    (∃ (s : State), s.chip ≠ .off ∧ bmcReads s.regAddr = false) := by
  refine ⟨?_, ?_, ?_⟩
  · exact ⟨5#32, .good, (let s : State := open0; let s : State := s.wr TWB_REGADDR.ADDR (0x50054 / 4); s), by decide +kernel⟩
  · exact ⟨(open0), by decide +kernel⟩
  · exact ⟨(let s : State := open0; let s : State := s.wr TWB_REGADDR.ADDR (0x90000 / 4); s), by decide +kernel⟩

/-- Clauses of TwoWireTargetSecond have states and operands that meet their conditions. -/
theorem test_conditions_TwoWireTargetSecond_1 :
    (∃ (s : State), s.chip ≠ .off) ∧
    (∃ (code : Nat) (s : State), s.chip ≠ .off ∧ code ∉ [0x0F, 0x10, 0x11, 0x12]) ∧
    (∃ (won : Bool) (s : State), s.chip ≠ .off ∧ s.twb.alert = true ∧ won = true) := by
  refine ⟨?_, ?_, ?_⟩
  · exact ⟨(open0), by decide +kernel⟩
  · exact ⟨0, (open0), by decide +kernel⟩
  · exact ⟨true, (let s : State := open0; let s : State := { s with twb := { s.twb with alert := true } }; s), by decide +kernel⟩

/-- Clauses of TwoWireTargetSecond have states and operands that meet their conditions. -/
theorem test_conditions_TwoWireTargetSecond_2 :
    (∃ (won : Bool) (s : State), s.chip ≠ .off ∧ (s.twb.alert = false ∨ won = false)) ∧
    (∃ (s : State), s.chip ≠ .off ∧ Nat.land (s.rd TWB_ALRT_CAUSE.CAUSE) (s.rd TWB_ALRT_EN.EN) ≠ 0 ∧ s.twb.alertTick + s.rd TWB_ALRT_CTL.REARM * 32768 / 1000 ≤ s.tick + 1) ∧
    (∃ (s : State), s.chip ≠ .off ∧ (s.tw 0).cur = none) := by
  refine ⟨?_, ?_, ?_⟩
  · exact ⟨false, (let s : State := open0; let s : State := { s with twb := { s.twb with alert := false } }; s), by decide +kernel⟩
  · exact ⟨(let s : State := open0; let s : State := { (s.wr TWB_ALRT_CAUSE.CAUSE 5).wr TWB_ALRT_EN.EN 4 |>.wr TWB_ALRT_CTL.REARM 1 with tick := s.tick + 99 }; s), by decide +kernel⟩
  · exact ⟨(open0), by decide +kernel⟩

/-- Clauses of TwoWireTargetSecond have states and operands that meet their conditions. -/
theorem test_conditions_TwoWireTargetSecond_3 :
    (∃ (s : State), s.chip ≠ .off ∧ (s.tw 0).timeouts ≠ 2) ∧
    (∃ (s : State), s.chip ≠ .off ∧ (s.tw 0).timeouts = 2) := by
  refine ⟨?_, ?_⟩
  · exact ⟨(open0), by decide +kernel⟩
  · exact ⟨(let s : State := open0; let s : State := s.setTw 0 { s.tw 0 with timeouts := 2 }; s), by decide +kernel⟩

/-- Clauses of TwoWireControllerFirst have states and operands that meet their conditions. -/
theorem test_conditions_TwoWireControllerFirst_1 :
    (∃ (port : Nat) (s : State), s.chip ≠ .off ∧ port < 8 ∧ s.twLive port = true ∧ s.hubOn = true ∧ s.on (TWB_XSTAT.BUSY port) = false ∧ s.rd (TWB_STATUS.STATE port) ≠ twStuck) ∧
    (∃ (port : Nat) (s : State), s.chip ≠ .off ∧ port < 8 ∧ s.twLive port = true ∧ s.hubOn = true ∧ s.on (TWB_XSTAT.BUSY port) = true) ∧
    (∃ (port : Nat) (s : State), s.chip ≠ .off ∧ port < 8 ∧ s.twLive port = true ∧ s.hubOn = true ∧ s.on (TWB_XSTAT.BUSY port) = false ∧ s.rd (TWB_STATUS.STATE port) = twStuck) := by
  refine ⟨?_, ?_, ?_⟩
  · exact ⟨0, (let port : Nat := 0; let s : State := open0; let s : State := s.wr (TWB_XSTAT.BUSY port) 0; s), by decide +kernel⟩
  · exact ⟨0, (let port : Nat := 0; let s : State := open0; let s : State := s.wr (TWB_XSTAT.BUSY port) 1; s), by decide +kernel⟩
  · exact ⟨0, (let port : Nat := 0; let s : State := open0; let s : State := s.wr (TWB_XSTAT.BUSY port) 0; let s : State := s.wr (TWB_STATUS.STATE port) (twStuck); s), by decide +kernel⟩

/-- Clauses of TwoWireControllerFirst have states and operands that meet their conditions. -/
theorem test_conditions_TwoWireControllerFirst_2 :
    (∃ (port : Nat) (res : TwRes) (bytes : List Byte) (x : TwXact) (n : Nat) (s : State), s.chip ≠ .off ∧ port < 8 ∧ (s.tw port).cur = some x ∧ x.waiting = false ∧ res = .ok ∧ bytes.length = 4 * n ∧ bytes.length ≤ s.rd (TWB_XFER.RLEN port)) ∧
    (∃ (port : Nat) (res : TwRes) (bytes : List Byte) (x : TwXact) (s : State), s.chip ≠ .off ∧ port < 8 ∧ (s.tw port).cur = some x ∧ x.waiting = false ∧ res = .nackAddr ∧ x.nacks < 2) ∧
    (∃ (port : Nat) (res : TwRes) (bytes : List Byte) (x : TwXact) (s : State), s.chip ≠ .off ∧ port < 8 ∧ (s.tw port).cur = some x ∧ x.waiting = false ∧ res = .nackAddr ∧ 2 ≤ x.nacks) := by
  refine ⟨?_, ?_, ?_⟩
  · exact ⟨0, .ok, [], { nacks := 0, losses := 0, waiting := false }, 0, (let port : Nat := 0; let s : State := open0; let s : State := s.setTw port { s.tw port with cur := some ⟨0, 0, false⟩ } |>.wr (TWB_XFER.RLEN port) 255 |>.wr (TWB_STATUS.STATE port) (2 * (s.free % 2)); s), by decide +kernel⟩
  · exact ⟨0, .nackAddr, [], { nacks := 0, losses := 0, waiting := false }, (let port : Nat := 0; let s : State := open0; let s : State := s.setTw port { s.tw port with cur := some ⟨s.free % 2, 0, false⟩ } |>.wr (TWB_XFER.RLEN port) 255 |>.wr (TWB_STATUS.STATE port) (2 * (s.free % 2)); s), by decide +kernel⟩
  · exact ⟨0, .nackAddr, [], { nacks := 2, losses := 0, waiting := false }, (let port : Nat := 0; let s : State := open0; let s : State := s.setTw port { s.tw port with cur := some ⟨2, 0, false⟩ } |>.wr (TWB_XFER.RLEN port) 255 |>.wr (TWB_STATUS.STATE port) (2 * (s.free % 2)); s), by decide +kernel⟩

/-- Clauses of TwoWireControllerFirst have states and operands that meet their conditions. -/
theorem test_conditions_TwoWireControllerFirst_3 :
    (∃ (port : Nat) (res : TwRes) (bytes : List Byte) (x : TwXact) (s : State), s.chip ≠ .off ∧ port < 8 ∧ (s.tw port).cur = some x ∧ x.waiting = false ∧ (res = .nackData ∨ (res = .pec ∧ s.on (TWB_XFER.PEC port) = true))) ∧
    (∃ (port : Nat) (x : TwXact) (s : State), s.chip ≠ .off ∧ port < 8 ∧ (s.tw port).cur = some x ∧ x.waiting = true) ∧
    (∃ (port : Nat) (x : TwXact) (s : State), s.chip ≠ .off ∧ port < 8 ∧ (s.tw port).cur = some x ∧ x.waiting = false) := by
  refine ⟨?_, ?_, ?_⟩
  · exact ⟨0, .nackData, [], { nacks := 1, losses := 0, waiting := false }, (let port : Nat := 0; let s : State := open0; let s : State := s.setTw port { s.tw port with cur := some ⟨1, 0, false⟩ } |>.wr (TWB_XFER.RLEN port) 255 |>.wr (TWB_STATUS.STATE port) (2 * (s.free % 2)); s), by decide +kernel⟩
  · exact ⟨0, { nacks := 1, losses := 0, waiting := true }, (let port : Nat := 0; let s : State := open0; let s : State := s.setTw port { s.tw port with cur := some ⟨1, 0, true⟩ } |>.wr (TWB_XFER.RLEN port) 255 |>.wr (TWB_STATUS.STATE port) (2 * (s.free % 2)); s), by decide +kernel⟩
  · exact ⟨0, { nacks := 1, losses := 0, waiting := false }, (let port : Nat := 0; let s : State := open0; let s : State := s.setTw port { s.tw port with cur := some ⟨1, 0, false⟩ } |>.wr (TWB_XFER.RLEN port) 255 |>.wr (TWB_STATUS.STATE port) (2 * (s.free % 2)); s), by decide +kernel⟩

/-- Clauses of TwoWireControllerSecond have states and operands that meet their conditions. -/
theorem test_conditions_TwoWireControllerSecond_1 :
    (∃ (port : Nat) (res : TwRes) (bytes : List Byte) (x : TwXact) (s : State), s.chip ≠ .off ∧ port < 8 ∧ (s.tw port).cur = some x ∧ x.waiting = false ∧ res = .pec ∧ s.on (TWB_XFER.PEC port) = false) ∧
    (∃ (port : Nat) (own : Bool) (x : TwXact) (s : State), s.chip ≠ .off ∧ port < 8 ∧ s.twLive port = true ∧ own = false ∧ (s.tw port).cur = some x ∧ x.losses < 8) ∧
    (∃ (port : Nat) (own : Bool) (x : TwXact) (s : State), s.chip ≠ .off ∧ port < 8 ∧ s.twLive port = true ∧ own = false ∧ (s.tw port).cur = some x ∧ 8 ≤ x.losses) := by
  refine ⟨?_, ?_, ?_⟩
  · exact ⟨1, .pec, [], { nacks := 0, losses := 0, waiting := false }, (let port : Nat := 1; let s : State := open0; let s : State := s.wr (TWB_XFER.PEC port) 0; let s : State := s.setTw 1 { s.tw 1 with cur := some { nacks := 0, losses := 0, waiting := false } }; s), by decide +kernel⟩
  · exact ⟨0, false, { nacks := 1, losses := 0, waiting := true }, (let port : Nat := 0; let s : State := open0; let s : State := s.setTw port { s.tw port with cur := some ⟨1, s.free % 8, (s.free % 2 == 0)⟩ } |>.wr (TWB_XFER.RLEN port) 255 |>.wr (TWB_STATUS.STATE port) (2 * (s.free % 2)); s), by decide +kernel⟩
  · exact ⟨0, false, { nacks := 1, losses := 8, waiting := true }, (let port : Nat := 0; let s : State := open0; let s : State := s.setTw port { s.tw port with cur := some ⟨1, 8, (s.free % 2 == 0)⟩ } |>.wr (TWB_XFER.RLEN port) 255 |>.wr (TWB_STATUS.STATE port) (2 * (s.free % 2)); s), by decide +kernel⟩

/-- Clauses of TwoWireControllerSecond have states and operands that meet their conditions. -/
theorem test_conditions_TwoWireControllerSecond_2 :
    (∃ (port : Nat) (own : Bool) (s : State), s.chip ≠ .off ∧ port = 7 ∧ s.twLive port = true ∧ own = true ∧ (s.tw port).cur = none) ∧
    (∃ (port rounds : Nat) (freed : Bool) (s : State), s.chip ≠ .off ∧ port < 8 ∧ s.twLive port = true ∧ port ≠ 0 ∧ freed = true) ∧
    (∃ (port rounds : Nat) (freed : Bool) (s : State), s.chip ≠ .off ∧ port < 8 ∧ s.twLive port = true ∧ port ≠ 0 ∧ freed = false) := by
  refine ⟨?_, ?_, ?_⟩
  · exact ⟨7, true, (open0), by decide +kernel⟩
  · exact ⟨1, 0, true, (open0), by decide +kernel⟩
  · exact ⟨1, 0, false, (open0), by decide +kernel⟩

/-- Clauses of TwoWireControllerSecond have states and operands that meet their conditions. -/
theorem test_conditions_TwoWireControllerSecond_3 :
    (∃ (port rounds : Nat) (freed : Bool) (s : State), s.chip ≠ .off ∧ port < 8 ∧ s.twLive port = true ∧ s.rd (TWB_STATUS.STATE port) = twStuck ∧ freed = true) ∧
    (∃ (port rounds : Nat) (freed : Bool) (s : State), s.chip ≠ .off ∧ port < 8 ∧ s.twLive port = true ∧ s.rd (TWB_STATUS.STATE port) = twStuck ∧ freed = false) ∧
    (∃ (port : Nat) (addr : Option Nat) (n : Nat) (s : State), s.chip ≠ .off ∧ port < 8 ∧ s.twLive port = true ∧ port ≠ 0 ∧ addr = some n ∧ n < 128) := by
  refine ⟨?_, ?_, ?_⟩
  · exact ⟨0, 0, true, (let port : Nat := 0; let s : State := open0; let s : State := s.wr (TWB_STATUS.STATE port) (twStuck); s), by decide +kernel⟩
  · exact ⟨0, 0, false, (let port : Nat := 0; let s : State := open0; let s : State := s.wr (TWB_STATUS.STATE port) (twStuck); s), by decide +kernel⟩
  · exact ⟨1, (some 12), 12, (open0), by decide +kernel⟩

/-- Clauses of TwoWireControllerSecond have states and operands that meet their conditions. -/
theorem test_conditions_TwoWireControllerSecond_4 :
    (∃ (port : Nat) (addr : Option Nat) (s : State), s.chip ≠ .off ∧ port < 8 ∧ s.twLive port = true ∧ port ≠ 0 ∧ addr = none) := by
  exact ⟨1, none, (open0), by decide +kernel⟩

/-- Clauses of GalleryLinksFirst have states and operands that meet their conditions. -/
theorem test_conditions_GalleryLinksFirst_1 :
    (∃ (link rate width : Nat) (s : State), s.chip ≠ .off ∧ link < 2 ∧ s.isl (islGal link) = islOn ∧ s.hasSec secTwin = true ∧ s.svOn (TWIN.GL_EN link) = true ∧ (s.rd (GAL_LINK.STATE link) = 0 ∨ s.rd (GAL_LINK.STATE link) = 1) ∧ rate ≠ 0 ∧ width ≠ 0) ∧
    (∃ (link rate width : Nat) (s : State), s.chip ≠ .off ∧ link < 2 ∧ s.isl (islGal link) = islOn ∧ s.hasSec secTwin = true ∧ s.svOn (TWIN.GL_EN link) = true ∧ (s.rd (GAL_LINK.STATE link) = 0 ∨ s.rd (GAL_LINK.STATE link) = 1) ∧ (rate = 0 ∨ width = 0)) ∧
    (∃ (link : Nat) (h : HelloIn) (s : State), s.chip ≠ .off ∧ link < 2 ∧ s.working = true ∧ s.rd (GAL_LINK.STATE link) = 2 ∧ s.gal.hello.getD link false = false ∧ (h.pairId ≠ s.sv TWIN.PAIR_ID ∨ h.role ≠ 1 - s.sv TWIN.ROLE ∨ h.digest ≠ s.svy.pairDig)) := by
  refine ⟨?_, ?_, ?_⟩
  · exact ⟨0, 2, 2, (let link : Nat := 0; let s : State := open0; let s : State := let s : State := { s with svy := { s.svy with has := 0x38 :: s.svy.has, shadow := true, run := [(0x3800000, BitVec.ofNat 32 (6 + s.free % 2)), (0x3800004, BitVec.ofNat 32 4660), (0x3800008, (0x00100504 : Word)), (0x380000C, (7 : Word))].foldl (fun m p => SMap.put (0 : Word) p.1 p.2 m) s.svy.run } }; ((s.wr (CLK_ISL.STATE (islGal link)) islOn).wr (GAL_LINK.STATE link) (s.free % 2)); s), by decide +kernel⟩
  · exact ⟨0, 0, 0, (let link : Nat := 0; let s : State := open0; let s : State := let s : State := { s with svy := { s.svy with has := 0x38 :: s.svy.has, shadow := true, run := [(0x3800000, BitVec.ofNat 32 (6 + s.free % 2)), (0x3800004, BitVec.ofNat 32 4660), (0x3800008, (0x00100504 : Word)), (0x380000C, (7 : Word))].foldl (fun m p => SMap.put (0 : Word) p.1 p.2 m) s.svy.run } }; ((s.wr (CLK_ISL.STATE (islGal link)) islOn).wr (GAL_LINK.STATE link) (s.free % 2)); s), by decide +kernel⟩
  · exact ⟨0, { pairId := 0, role := 0, digest := 0#128, epoch := 0#64, solo := false, chip := 0, fresh := false }, (let link : Nat := 0; let s : State := open0; let s : State := s.wr (GAL_LINK.STATE link) (2); s), by decide +kernel⟩

/-- Clauses of GalleryLinksFirst have states and operands that meet their conditions. -/
theorem test_conditions_GalleryLinksFirst_2 :
    (∃ (link : Nat) (h : HelloIn) (s : State), s.chip ≠ .off ∧ link < 2 ∧ s.working = true ∧ s.rd (GAL_LINK.STATE link) = 2 ∧ s.gal.hello.getD link false = false ∧ h.pairId = s.sv TWIN.PAIR_ID ∧ h.role = 1 - s.sv TWIN.ROLE ∧ h.digest = s.svy.pairDig ∧ (s.galUp = true ∨ s.galMode = modeLeft)) ∧
    (∃ (link : Nat) (h : HelloIn) (s : State), s.chip ≠ .off ∧ link < 2 ∧ s.working = true ∧ s.rd (GAL_LINK.STATE link) = 2 ∧ s.gal.hello.getD link false = false ∧ h.pairId = s.sv TWIN.PAIR_ID ∧ h.role = 1 - s.sv TWIN.ROLE ∧ h.digest = s.svy.pairDig ∧ s.galUp = false ∧ s.galMode ≠ modeLeft ∧ s.on GAL_STATUS.SOLO = true ∧ h.solo = false) ∧
    (∃ (link : Nat) (h : HelloIn) (s : State), s.chip ≠ .off ∧ link < 2 ∧ s.working = true ∧ s.rd (GAL_LINK.STATE link) = 2 ∧ s.gal.hello.getD link false = false ∧ h.pairId = s.sv TWIN.PAIR_ID ∧ h.role = 1 - s.sv TWIN.ROLE ∧ h.digest = s.svy.pairDig ∧ s.galUp = false ∧ s.galMode ≠ modeLeft ∧ s.on GAL_STATUS.SOLO = false ∧ h.solo = true) := by
  refine ⟨?_, ?_, ?_⟩
  · exact ⟨0, { pairId := 4660, role := 1, digest := 0#128, epoch := 0#64, solo := false, chip := 0, fresh := false }, (let link : Nat := 0; let s : State := open0; let s : State := let s : State := { s with svy := { s.svy with has := 0x38 :: s.svy.has, shadow := true, run := [(0x3800000, BitVec.ofNat 32 (6 + s.free % 2)), (0x3800004, BitVec.ofNat 32 4660), (0x3800008, (0x00100504 : Word)), (0x380000C, (7 : Word))].foldl (fun m p => SMap.put (0 : Word) p.1 p.2 m) s.svy.run } }; let s : State := { ((s.wr GAL_STATUS.MODE modeJoining).wr GAL_STATUS.LINKS 3).wr (GAL_LINK.STATE 0) 2 |>.wr (GAL_LINK.STATE 1) 2 with chip := .opened, gal := { s.gal with hello := [true, true], joinStep := 0, held := [], sent := s.gal.sent.take 50, peerFenced := false, graceAt := 0, joinAt := 0 } }; let s : State := { s with dch := { s.dch with hard := [], repairs := [] }, adm := { s.adm with jobq := [] } }; (s) |> fun s => faces.foldl (fun s p => s.setPort p { s.port p with wbuf := [], reads := [] }) s |> fun s => { s with adm := { s.adm with jobq := [] } } |> fun s => { ((s.wr (GAL_LINK.STATE link) 2).wr GAL_STATUS.LINKS (2 ^ link)).wr GAL_STATUS.SOLO 0 |>.wr GAL_STATUS.DIVERGED 0 with gal := { s.gal with hello := [(link == 1), (link == 0)], kept := false, epoch := 7, joinEpoch := 6 } } |> fun s => s.wr GAL_STATUS.LINKS 3; s), by decide +kernel⟩
  · exact ⟨0, { pairId := 4660, role := 1, digest := 0#128, epoch := 6#64, solo := false, chip := 0, fresh := false }, (let link : Nat := 0; let s : State := open0; let s : State := let s : State := { s with svy := { s.svy with has := 0x38 :: s.svy.has, shadow := true, run := [(0x3800000, BitVec.ofNat 32 (6 + s.free % 2)), (0x3800004, BitVec.ofNat 32 4660), (0x3800008, (0x00100504 : Word)), (0x380000C, (7 : Word))].foldl (fun m p => SMap.put (0 : Word) p.1 p.2 m) s.svy.run } }; let s : State := { ((s.wr GAL_STATUS.MODE modeJoining).wr GAL_STATUS.LINKS 3).wr (GAL_LINK.STATE 0) 2 |>.wr (GAL_LINK.STATE 1) 2 with chip := .opened, gal := { s.gal with hello := [true, true], joinStep := 0, held := [], sent := s.gal.sent.take 50, peerFenced := false, graceAt := 0, joinAt := 0 } }; let s : State := { s with dch := { s.dch with hard := [], repairs := [] }, adm := { s.adm with jobq := [] } }; (s) |> fun s => faces.foldl (fun s p => s.setPort p { s.port p with wbuf := [], reads := [] }) s |> fun s => { s with adm := { s.adm with jobq := [] } } |> fun s => { ((s.wr (GAL_LINK.STATE link) 2).wr GAL_STATUS.LINKS (2 ^ link)).wr GAL_STATUS.SOLO 1 |>.wr GAL_STATUS.DIVERGED 0 with gal := { s.gal with hello := [false, false], kept := false, epoch := 7, joinEpoch := 6 } }; s), by decide +kernel⟩
  · exact ⟨0, { pairId := 4660, role := 1, digest := 0#128, epoch := 8#64, solo := true, chip := 0, fresh := false }, (let link : Nat := 0; let s : State := open0; let s : State := let s : State := { s with svy := { s.svy with has := 0x38 :: s.svy.has, shadow := true, run := [(0x3800000, BitVec.ofNat 32 (6 + s.free % 2)), (0x3800004, BitVec.ofNat 32 4660), (0x3800008, (0x00100504 : Word)), (0x380000C, (7 : Word))].foldl (fun m p => SMap.put (0 : Word) p.1 p.2 m) s.svy.run } }; let s : State := { ((s.wr GAL_STATUS.MODE modeJoining).wr GAL_STATUS.LINKS 3).wr (GAL_LINK.STATE 0) 2 |>.wr (GAL_LINK.STATE 1) 2 with chip := .opened, gal := { s.gal with hello := [true, true], joinStep := 0, held := [], sent := s.gal.sent.take 50, peerFenced := false, graceAt := 0, joinAt := 0 } }; let s : State := { s with dch := { s.dch with hard := [], repairs := [] }, adm := { s.adm with jobq := [] } }; (s) |> fun s => faces.foldl (fun s p => s.setPort p { s.port p with wbuf := [], reads := [] }) s |> fun s => { s with adm := { s.adm with jobq := [] } } |> fun s => { ((s.wr (GAL_LINK.STATE link) 2).wr GAL_STATUS.LINKS (2 ^ link)).wr GAL_STATUS.SOLO 0 |>.wr GAL_STATUS.DIVERGED 0 with gal := { s.gal with hello := [false, false], kept := false, epoch := 7, joinEpoch := 6 } } |> fun s => s.wr RES_STATUS.CASE (1 + s.free / 5 % 2); s), by decide +kernel⟩

/-- Clauses of GalleryLinksFirst have states and operands that meet their conditions. -/
theorem test_conditions_GalleryLinksFirst_3 :
    (∃ (link : Nat) (h : HelloIn) (s : State), s.chip ≠ .off ∧ link < 2 ∧ s.working = true ∧ s.rd (GAL_LINK.STATE link) = 2 ∧ s.gal.hello.getD link false = false ∧ h.pairId = s.sv TWIN.PAIR_ID ∧ h.role = 1 - s.sv TWIN.ROLE ∧ h.digest = s.svy.pairDig ∧ s.galUp = false ∧ s.galMode ≠ modeLeft ∧ s.on GAL_STATUS.SOLO = true ∧ h.solo = true ∧ s.gal.kept = false ∧ s.on GAL_STATUS.DIVERGED = false) ∧
    (∃ (link : Nat) (h : HelloIn) (s : State), s.chip ≠ .off ∧ link < 2 ∧ s.working = true ∧ s.rd (GAL_LINK.STATE link) = 2 ∧ s.gal.hello.getD link false = false ∧ h.pairId = s.sv TWIN.PAIR_ID ∧ h.role = 1 - s.sv TWIN.ROLE ∧ h.digest = s.svy.pairDig ∧ s.galUp = false ∧ s.galMode ≠ modeLeft ∧ s.on GAL_STATUS.SOLO = false ∧ h.solo = false ∧ h.epoch = s.gal.epoch) ∧
    (∃ (link chip margin : Nat) (epoch : BitVec 64) (next : Nat) (replays : Nat) (s1 : State) (s : State), s.chip ≠ .off ∧ s1 = s.noteReplays link replays ∧ link < 2 ∧ s1.gal.hello.getD link false = true ∧ s1.rd (GAL_LINK.STATE link) = 2) := by
  refine ⟨?_, ?_, ?_⟩
  · exact ⟨0, { pairId := 4660, role := 1, digest := 0#128, epoch := 0#64, solo := true, chip := 0, fresh := false }, (let link : Nat := 0; let s : State := open0; let s : State := let s : State := { s with svy := { s.svy with has := 0x38 :: s.svy.has, shadow := true, run := [(0x3800000, BitVec.ofNat 32 (6 + s.free % 2)), (0x3800004, BitVec.ofNat 32 4660), (0x3800008, (0x00100504 : Word)), (0x380000C, (7 : Word))].foldl (fun m p => SMap.put (0 : Word) p.1 p.2 m) s.svy.run } }; let s : State := { ((s.wr GAL_STATUS.MODE modeJoining).wr GAL_STATUS.LINKS 3).wr (GAL_LINK.STATE 0) 2 |>.wr (GAL_LINK.STATE 1) 2 with chip := .opened, gal := { s.gal with hello := [true, true], joinStep := 0, held := [], sent := s.gal.sent.take 50, peerFenced := false, graceAt := 0, joinAt := 0 } }; let s : State := { s with dch := { s.dch with hard := [], repairs := [] }, adm := { s.adm with jobq := [] } }; (s) |> fun s => faces.foldl (fun s p => s.setPort p { s.port p with wbuf := [], reads := [] }) s |> fun s => { s with adm := { s.adm with jobq := [] } } |> fun s => { ((s.wr (GAL_LINK.STATE link) 2).wr GAL_STATUS.LINKS (2 ^ link)).wr GAL_STATUS.SOLO 1 |>.wr GAL_STATUS.DIVERGED 0 with gal := { s.gal with hello := [false, false], kept := false, epoch := 7, joinEpoch := 6 } }; s), by decide +kernel⟩
  · exact ⟨0, { pairId := 4660, role := 1, digest := 0#128, epoch := 7#64, solo := false, chip := 0, fresh := false }, (let link : Nat := 0; let s : State := open0; let s : State := let s : State := { s with svy := { s.svy with has := 0x38 :: s.svy.has, shadow := true, run := [(0x3800000, BitVec.ofNat 32 (6 + s.free % 2)), (0x3800004, BitVec.ofNat 32 4660), (0x3800008, (0x00100504 : Word)), (0x380000C, (7 : Word))].foldl (fun m p => SMap.put (0 : Word) p.1 p.2 m) s.svy.run } }; let s : State := { ((s.wr GAL_STATUS.MODE modeJoining).wr GAL_STATUS.LINKS 3).wr (GAL_LINK.STATE 0) 2 |>.wr (GAL_LINK.STATE 1) 2 with chip := .opened, gal := { s.gal with hello := [true, true], joinStep := 0, held := [], sent := s.gal.sent.take 50, peerFenced := false, graceAt := 0, joinAt := 0 } }; let s : State := { s with dch := { s.dch with hard := [], repairs := [] }, adm := { s.adm with jobq := [] } }; (s) |> fun s => faces.foldl (fun s p => s.setPort p { s.port p with wbuf := [], reads := [] }) s |> fun s => { s with adm := { s.adm with jobq := [] } } |> fun s => { ((s.wr (GAL_LINK.STATE link) 2).wr GAL_STATUS.LINKS (2 ^ link)).wr GAL_STATUS.SOLO 0 |>.wr GAL_STATUS.DIVERGED 0 with gal := { s.gal with hello := [false, false], kept := false, epoch := 7, joinEpoch := 6 } }; s), by decide +kernel⟩
  · exact ⟨0, 0, 0, 0#64, 0, 0, { regs := [(656384, 1#32), (720896, 0x32#32), (720912, 2#32), (720916, 2#32), (1048576, 0x808#32), (1048580, 0x3b#32)], tick := 100000, chip := .opened, margin := .sable, stamp := 0, stampTick := 0, fuse := { step := 0, serial := 0, blown := 0, provKey := 0#256, devKey := 0#256 }, bed := { fneg := [], chipReset := 0 }, svy := { run := [(16777216, 0x610#32), (16777220, 15#32), (17825792, 4#32), (17825796, 0x3020100#32), (18874368, 1#32), (18874372, 0x80000#32), (18874376, 8#32), (18874384, 0x101#32), (18874388, 0x80008#32), (18874392, 8#32), (20971520, 0x8180#32), (33554432, 0x8a04000#32), (33554436, 0x4040800#32), (33554440, 0x3e80048#32), (33554448, 1#32), (33554456, 1#32), (33554464, 1#32), (33554472, 1#32), (33554480, 1#32), (33554488, 1#32), (33554496, 1#32), (33554504, 1#32), (33554512, 1#32), (34603008, 0x30010#32), (34603012, 0x40030#32), (34603016, 0x40008#32), (34603024, 0x30010#32), (34603028, 0x40030#32), (34603032, 0x40008#32), (35651584, 3#32), (50331648, 0x32402#32), (50331652, 0x648000#32), (50331656, 0xc80642f#32), (50331660, 0x100003#32), (50331664, 0x64#32), (50331688, 15#32), (50331692, 0x114#32), (50331808, 0x201013f#32), (50331812, 0x201013f#32), (50331936, 0x10#32), (58720256, 6#32), (58720260, 0x1234#32), (58720264, 0x100504#32), (58720268, 7#32), (67108864, 1#32), (67108868, 0x1964#32), (67108872, 0x1964#32), (67108876, 0x2bf20#32), (67108880, 0x186a00#32), (67108884, 0xcccd#32), (67108888, 0xf852e666#32), (67108892, 0x28fd99a#32), (67108896, 0xb33300f6#32), (67108900, 0x28999a#32)], has := [56, 16, 17, 18, 20, 32, 33, 34, 48, 64], loaded := true, shadow := true, staging := [], inst := [], live := false, cmd := 0, taken := [], face := 0, pairDig := 0#128 }, slb := { slabs := [], ready := true, owned := true, baseR := 0, grants := [], ift := [], lmap := [], image := [] }, lgr := { packA := { ebase := 0, energy := 0, rc := 0, fcc := 0, dc := 0, chem := 0, ma := 0, gaugeMv := 0, temp := 0, debit := 0, saveDebit := 0, hiScans := 0, loScans := 0, valid := 0, last := none, esr := [], esrTick := 0, gaugeTick := 0 }, packB := { ebase := 0, energy := 0, rc := 0, fcc := 0, dc := 0, chem := 0, ma := 0, gaugeMv := 0, temp := 0, debit := 0, saveDebit := 0, hiScans := 0, loScans := 0, valid := 0, last := none, esr := [], esrTick := 0, gaugeTick := 0 }, sableCnt := 0, extra := false }, adm := { rr := 7, jobq := [], wear := 0, wearHaul := 0, wearMark := 0, day := 0, repTick := [], repDue := [], repMargin := 3 }, haul := { ptr := [], cover := [], bank := 0, started := 0, done := 0, short := false, half := false, waitStk := [], waitSump := [], group := 0, stripes := [], nextStripe := 0, pfw := false, pfwTick := 0 }, save := { off := false, short := false, trigTick := 0, walkTick := 0, walked := false, railCut := false, powerBack := false, vol := 0, sumpStart := [], first := [], last := [], carve := [], pads := 0, fdirty := [], anchor := none, session := 0, openAfter := 0, down := false, spent := none, lodes := [], aggs := [], staging := [], numbers := [], ctx := { rings := [], lost := false, owners := [], running := [], cached := [] } }, stk := { recs := [], lodes := [], blks := [], remaps := [], broken := [], pseq := [], head := [], openLode := [], wlWait := [], intents := [], jpend := [], jrnl := [], jseq := 0, jpage := 0, jsaved := 0, dies := [], silent := [], accs := [], applied := [], folding := false, reworking := false, degraded := 0, bootBad := [], bootMap := [], hblock := 0, lpage := 0, lfix := 0, anchors := [], apage := 0, patrolWin := 0, patrolled := [], patrolRead := [] }, saves := [], res := { fetch := [], demand := [], lastPort := 7, prefetch := [], bgPtr := [], bgBank := 0, rebuilt := false, filling := false, trigTick := 0, counted := 0, memRec := 0, holdRec := [], newLost := [], trained := false, noKeys := false, anchored := false, scanTick := 0 }, dch := { mem := [], poison := [], banks := [], repairs := [], hard := [], devCe := [], eqCe := [], eqTick := [], eqTemp := [], bootTemps := [], taps := [], ueRun := [], late := [], early := [], refBank := [], periodCe := 0, win := 0, limits := [3600, 4096, 256, 16, 64], mig := none, rankMap := [], crdMap := [], inForce := [], cfgNew := [], lastReq := [], actLimit := [], rankSr := [], eqRun := [], scrubTick := [], prev := [], ceTotal := [] }, ports := [], nv := [(0, { dirty := 0, shutdown := 0, feat := 0x7f#128, lsa := [] })], job := { rings := [], cache := [], jobs := [], pins := [], lost := false, fenceDue := 0, inits := [] }, cip := { keys := [], keyin := [], store := [], storeOk := false, ceiling := 0, storeSeq := 0, cmd := none, purge := [], stale := [], erasePend := 0, eraseSan := 0, rotate := [], misWin := [], next := 0, kat := [] }, gal := { epoch := 0#64, joinEpoch := 0#64, peerFenced := false, sent := [], held := [], fwds := [], nextTag := 0, lines := [], peerLines := [], joinStep := 0, listGot := false, rslvGot := false, lineWait := [], asks := [], nextAsk := 0, reqs := [], ctls := [], rslvSlab := 0, rslvSett := 0, rslvQuota := 0, kept := false, peerEpoch := 0#64, fullFor := 0, replays := [], lastFlit := [0, 0], lastBeat := 0, graceAt := 0, seen := 0, joinAt := 0, hello := [true, true], handover := 0, zeroing := [] }, seq := { stage := .idle, order := [], good := [], bad := [], low := [], high := [], glitch := [], glitchPrev := [], glitchWin := 0, latchAfter := false, offTick := 0, minOff := true, timed := false, offPend := false, noDnWait := false, inGood := 0, inLow := 0, pwrLow := false, pfwTick := 0, pfwLate := false, stretch := 0, pulse := 0, pg00Told := false, pg00Good := 0, pg00Bad := 0, pg00Ok := false, latchSave := false, syncDrive := false, lowTold := false, timedTick := 0 }, clk := { rising := [], tripSeen := false, refFail := false }, flt := { raised := [], irqq := [], win := [], esc := [], thrNew := [], winNew := [], rst := none, later := [], holdAfter := false }, clg := { live := [], staging := [], forming := [], phase := 0, pend := [], held := [], log := [], win := none, fetch := none, extDay := 0, railLogged := false, bootLogged := false, ffcAtWaking := [0, 0, 0], subSec := 0, resumed := false }, twb := { ports := [], alert := false, alertTick := 0, mctp := 0, sensTick := [] }, fwm := { slotA := { image := [], sealed := false, tag := 0#128, next := [], blk := 0 }, slotB := { image := [], sealed := false, tag := 0#128, next := [], blk := 0 }, active := 0, trial := false, tries := 0, staging := none, xfer := 0, xferFace := 0, running := true, alive := false, prev := 0, handoff := false, recovery := false, svyEpoch := 0, openCmds := [], waiting := [], bootTick := 0 }, pin := { testen := false, power := true, tap := .bypass, railset := 0, err := false }, pending := [], out := [], free := 0 }, (let chip : Nat := 0; let s : State := open0; let s : State := let s : State := { s with svy := { s.svy with has := 0x38 :: s.svy.has, shadow := true, run := [(0x3800000, BitVec.ofNat 32 (6 + s.free % 2)), (0x3800004, BitVec.ofNat 32 4660), (0x3800008, (0x00100504 : Word)), (0x380000C, (7 : Word))].foldl (fun m p => SMap.put (0 : Word) p.1 p.2 m) s.svy.run } }; let s : State := { ((s.wr GAL_STATUS.MODE modePaired).wr GAL_STATUS.LINKS 3).wr (GAL_LINK.STATE 0) 2 |>.wr (GAL_LINK.STATE 1) 2 with chip := .opened, gal := { s.gal with hello := [true, true], joinStep := 0, held := [], sent := s.gal.sent.take 50, peerFenced := false, graceAt := 0, joinAt := 0 } }; let s : State := { s with dch := { s.dch with hard := [], repairs := [] }, adm := { s.adm with jobq := [] } }; (s) |> fun s => faces.foldl (fun s p => s.setPort p { s.port p with wbuf := [], reads := [] }) s |> fun s => { s with adm := { s.adm with jobq := [] } }; s), by decide +kernel⟩

/-- Clauses of GalleryLinksFirst have states and operands that meet their conditions. -/
theorem test_conditions_GalleryLinksFirst_4 :
    (∃ (s : State), s.chip ≠ .off ∧ s.galUp = true ∧ s.galFull = false) ∧
    (∃ (s : State), s.chip ≠ .off ∧ s.galUp = true ∧ s.galFull = true) := by
  refine ⟨?_, ?_⟩
  · exact ⟨(let s : State := open0; let s : State := let s : State := { s with svy := { s.svy with has := 0x38 :: s.svy.has, shadow := true, run := [(0x3800000, BitVec.ofNat 32 (6 + s.free % 2)), (0x3800004, BitVec.ofNat 32 4660), (0x3800008, (0x00100504 : Word)), (0x380000C, (7 : Word))].foldl (fun m p => SMap.put (0 : Word) p.1 p.2 m) s.svy.run } }; let s : State := { ((s.wr GAL_STATUS.MODE modePaired).wr GAL_STATUS.LINKS 3).wr (GAL_LINK.STATE 0) 2 |>.wr (GAL_LINK.STATE 1) 2 with chip := .opened, gal := { s.gal with hello := [true, true], joinStep := 0, held := [], sent := s.gal.sent.take 50, peerFenced := false, graceAt := 0, joinAt := 0 } }; let s : State := { s with dch := { s.dch with hard := [], repairs := [] }, adm := { s.adm with jobq := [] } }; (s) |> fun s => faces.foldl (fun s p => s.setPort p { s.port p with wbuf := [], reads := [] }) s |> fun s => { s with adm := { s.adm with jobq := [] } }; s), by decide +kernel⟩
  · exact ⟨(let s : State := open0; let s : State := let s : State := { s with svy := { s.svy with has := 0x38 :: s.svy.has, shadow := true, run := [(0x3800000, BitVec.ofNat 32 (6 + s.free % 2)), (0x3800004, BitVec.ofNat 32 4660), (0x3800008, (0x00100504 : Word)), (0x380000C, (7 : Word))].foldl (fun m p => SMap.put (0 : Word) p.1 p.2 m) s.svy.run } }; let s : State := { ((s.wr GAL_STATUS.MODE modePaired).wr GAL_STATUS.LINKS 3).wr (GAL_LINK.STATE 0) 2 |>.wr (GAL_LINK.STATE 1) 2 with chip := .opened, gal := { s.gal with hello := [true, true], joinStep := 0, held := [], sent := s.gal.sent.take 50, peerFenced := false, graceAt := 0, joinAt := 0 } }; let s : State := { s with dch := { s.dch with hard := [], repairs := [] }, adm := { s.adm with jobq := [] } }; (s) |> fun s => faces.foldl (fun s p => s.setPort p { s.port p with wbuf := [], reads := [] }) s |> fun s => { s with adm := { s.adm with jobq := [] } } |> fun s => { s with gal := { s.gal with fullFor := s.free % 6, held := (List.range 513).map (fun i => GalIn.mk i 0 0 i 0 0 0 false 7 0 0) } }; s), by decide +kernel⟩

/-- Clauses of GalleryLinksSecond have states and operands that meet their conditions. -/
theorem test_conditions_GalleryLinksSecond_1 :
    (∃ (link : Nat) (s : State), s.chip ≠ .off ∧ link < 2 ∧ s.hubOn = true ∧ (s.rd (GAL_LINK.STATE link) = 2 ∨ s.rd (GAL_LINK.STATE link) = 4 ∨ s.rd (GAL_LINK.STATE link) = 5) ∧ bitAt (1 - link) (s.rd GAL_STATUS.LINKS) = true ∧ s.gal.hello.getD (1 - link) false = true) ∧
    (∃ (link : Nat) (s : State), s.chip ≠ .off ∧ link < 2 ∧ s.hubOn = true ∧ s.rd (GAL_LINK.STATE link) = 2 ∧ bitAt link (s.rd GAL_STATUS.LINKS) = true ∧ s.gal.hello = [link == 0, link == 1] ∧ s.working = true ∧ s.galMode = modePaired ∧ s.twinA = true) ∧
    (∃ (link : Nat) (s : State), s.chip ≠ .off ∧ link < 2 ∧ s.hubOn = true ∧ s.rd (GAL_LINK.STATE link) = 2 ∧ bitAt link (s.rd GAL_STATUS.LINKS) = true ∧ s.gal.hello = [link == 0, link == 1] ∧ s.working = true ∧ s.galMode = modePaired ∧ s.twinA = false) := by
  refine ⟨?_, ?_, ?_⟩
  · exact ⟨0, (let link : Nat := 0; let s : State := open0; let s : State := let s : State := { s with svy := { s.svy with has := 0x38 :: s.svy.has, shadow := true, run := [(0x3800000, BitVec.ofNat 32 (6 + s.free % 2)), (0x3800004, BitVec.ofNat 32 4660), (0x3800008, (0x00100504 : Word)), (0x380000C, (7 : Word))].foldl (fun m p => SMap.put (0 : Word) p.1 p.2 m) s.svy.run } }; let s : State := { ((s.wr GAL_STATUS.MODE modePaired).wr GAL_STATUS.LINKS 3).wr (GAL_LINK.STATE 0) 2 |>.wr (GAL_LINK.STATE 1) 2 with chip := .opened, gal := { s.gal with hello := [true, true], joinStep := 0, held := [], sent := s.gal.sent.take 50, peerFenced := false, graceAt := 0, joinAt := 0 } }; let s : State := { s with dch := { s.dch with hard := [], repairs := [] }, adm := { s.adm with jobq := [] } }; (s) |> fun s => faces.foldl (fun s p => s.setPort p { s.port p with wbuf := [], reads := [] }) s |> fun s => { s with adm := { s.adm with jobq := [] } } |> fun s => s.wr (GAL_LINK.STATE link) ([2,4,5].getD (s.free % 3) 2); s), by decide +kernel⟩
  · exact ⟨0, (let link : Nat := 0; let s : State := open0; let s : State := let s : State := { s with svy := { s.svy with has := 0x38 :: s.svy.has, shadow := true, run := [(0x3800000, BitVec.ofNat 32 (6 + s.free % 2)), (0x3800004, BitVec.ofNat 32 4660), (0x3800008, (0x00100504 : Word)), (0x380000C, (7 : Word))].foldl (fun m p => SMap.put (0 : Word) p.1 p.2 m) s.svy.run } }; let s : State := { ((s.wr GAL_STATUS.MODE modePaired).wr GAL_STATUS.LINKS 3).wr (GAL_LINK.STATE 0) 2 |>.wr (GAL_LINK.STATE 1) 2 with chip := .opened, gal := { s.gal with hello := [true, true], joinStep := 0, held := [], sent := s.gal.sent.take 50, peerFenced := false, graceAt := 0, joinAt := 0 } }; let s : State := { s with dch := { s.dch with hard := [], repairs := [] }, adm := { s.adm with jobq := [] } }; (s) |> fun s => faces.foldl (fun s p => s.setPort p { s.port p with wbuf := [], reads := [] }) s |> fun s => { s with adm := { s.adm with jobq := [] } } |> fun s => { s.wr GAL_STATUS.LINKS (2 ^ link) with gal := { s.gal with hello := [link == 0, link == 1] } }; s), by decide +kernel⟩
  · exact ⟨0, (let link : Nat := 0; let s : State := { open0 with free := 1 }; let s : State := let s : State := { s with svy := { s.svy with has := 0x38 :: s.svy.has, shadow := true, run := [(0x3800000, BitVec.ofNat 32 (6 + s.free % 2)), (0x3800004, BitVec.ofNat 32 4660), (0x3800008, (0x00100504 : Word)), (0x380000C, (7 : Word))].foldl (fun m p => SMap.put (0 : Word) p.1 p.2 m) s.svy.run } }; let s : State := { ((s.wr GAL_STATUS.MODE modePaired).wr GAL_STATUS.LINKS 3).wr (GAL_LINK.STATE 0) 2 |>.wr (GAL_LINK.STATE 1) 2 with chip := .opened, gal := { s.gal with hello := [true, true], joinStep := 0, held := [], sent := s.gal.sent.take 50, peerFenced := false, graceAt := 0, joinAt := 0 } }; let s : State := { s with dch := { s.dch with hard := [], repairs := [] }, adm := { s.adm with jobq := [] } }; (s) |> fun s => faces.foldl (fun s p => s.setPort p { s.port p with wbuf := [], reads := [] }) s |> fun s => { s with adm := { s.adm with jobq := [] } } |> fun s => { s.wr GAL_STATUS.LINKS (2 ^ link) with gal := { s.gal with hello := [link == 0, link == 1] } }; s), by decide +kernel⟩

/-- Clauses of GalleryLinksSecond have states and operands that meet their conditions. -/
theorem test_conditions_GalleryLinksSecond_2 :
    (∃ (link : Nat) (s : State), s.chip ≠ .off ∧ link < 2 ∧ s.isl (islGal link) = islOn ∧ s.rd (GAL_LINK.STATE link) = 3) ∧
    (∃ (s : State), s.chip ≠ .off ∧ s.hasTw7 = true) ∧
    (∃ (word : Option Word) (absent : Bool) (w : Word) (s : State), s.chip ≠ .off ∧ s.hasTw7 = true ∧ s.hubOn = true ∧ word = some w ∧ s.gal.graceAt = 0) := by
  refine ⟨?_, ?_, ?_⟩
  · exact ⟨0, (let link : Nat := 0; let s : State := open0; let s : State := s.wr (CLK_ISL.STATE (islGal link)) islOn; let s : State := s.wr (GAL_LINK.STATE link) (3); s), by decide +kernel⟩
  · exact ⟨(let s : State := open0; let s : State := let s : State := { s with svy := { s.svy with has := 0x38 :: s.svy.has, shadow := true, run := [(0x3800000, BitVec.ofNat 32 (6 + s.free % 2)), (0x3800004, BitVec.ofNat 32 4660), (0x3800008, (0x00100504 : Word)), (0x380000C, (7 : Word))].foldl (fun m p => SMap.put (0 : Word) p.1 p.2 m) s.svy.run } }; s; s), by decide +kernel⟩
  · exact ⟨(some 0x12340000#32), false, 0x12340000#32, (let s : State := open0; let s : State := let s : State := { s with svy := { s.svy with has := 0x38 :: s.svy.has, shadow := true, run := [(0x3800000, BitVec.ofNat 32 (6 + s.free % 2)), (0x3800004, BitVec.ofNat 32 4660), (0x3800008, (0x00100504 : Word)), (0x380000C, (7 : Word))].foldl (fun m p => SMap.put (0 : Word) p.1 p.2 m) s.svy.run } }; let s : State := { ((s.wr GAL_STATUS.MODE modePaired).wr GAL_STATUS.LINKS 3).wr (GAL_LINK.STATE 0) 2 |>.wr (GAL_LINK.STATE 1) 2 with chip := .opened, gal := { s.gal with hello := [true, true], joinStep := 0, held := [], sent := s.gal.sent.take 50, peerFenced := false, graceAt := 0, joinAt := 0 } }; let s : State := { s with dch := { s.dch with hard := [], repairs := [] }, adm := { s.adm with jobq := [] } }; (s) |> fun s => faces.foldl (fun s p => s.setPort p { s.port p with wbuf := [], reads := [] }) s |> fun s => { s with adm := { s.adm with jobq := [] } }; s), by decide +kernel⟩

/-- Clauses of GalleryLinksSecond have states and operands that meet their conditions. -/
theorem test_conditions_GalleryLinksSecond_3 :
    (∃ (word : Option Word) (absent : Bool) (s : State), s.chip ≠ .off ∧ s.hasTw7 = true ∧ s.hubOn = true ∧ word = none ∧ s.gal.graceAt = 0) ∧
    (∃ (word : Option Word) (absent : Bool) (w : Word) (s : State), s.chip ≠ .off ∧ s.hasTw7 = true ∧ s.hubOn = true ∧ word = some w ∧ s.gal.graceAt = 0) ∧
    (∃ (word : Option Word) (absent : Bool) (s : State), s.chip ≠ .off ∧ s.hasTw7 = true ∧ s.hubOn = true ∧ word = none ∧ s.gal.graceAt = 0) := by
  refine ⟨?_, ?_, ?_⟩
  · exact ⟨none, false, (let s : State := open0; let s : State := let s : State := { s with svy := { s.svy with has := 0x38 :: s.svy.has, shadow := true, run := [(0x3800000, BitVec.ofNat 32 (6 + s.free % 2)), (0x3800004, BitVec.ofNat 32 4660), (0x3800008, (0x00100504 : Word)), (0x380000C, (7 : Word))].foldl (fun m p => SMap.put (0 : Word) p.1 p.2 m) s.svy.run } }; let s : State := { ((s.wr GAL_STATUS.MODE modePaired).wr GAL_STATUS.LINKS 3).wr (GAL_LINK.STATE 0) 2 |>.wr (GAL_LINK.STATE 1) 2 with chip := .opened, gal := { s.gal with hello := [true, true], joinStep := 0, held := [], sent := s.gal.sent.take 50, peerFenced := false, graceAt := 0, joinAt := 0 } }; let s : State := { s with dch := { s.dch with hard := [], repairs := [] }, adm := { s.adm with jobq := [] } }; (s) |> fun s => faces.foldl (fun s p => s.setPort p { s.port p with wbuf := [], reads := [] }) s |> fun s => { s with adm := { s.adm with jobq := [] } }; s), by decide +kernel⟩
  · exact ⟨(some 0x12340000#32), false, 0x12340000#32, (let s : State := open0; let s : State := let s : State := { s with svy := { s.svy with has := 0x38 :: s.svy.has, shadow := true, run := [(0x3800000, BitVec.ofNat 32 (6 + s.free % 2)), (0x3800004, BitVec.ofNat 32 4660), (0x3800008, (0x00100504 : Word)), (0x380000C, (7 : Word))].foldl (fun m p => SMap.put (0 : Word) p.1 p.2 m) s.svy.run } }; let s : State := { ((s.wr GAL_STATUS.MODE modePaired).wr GAL_STATUS.LINKS 3).wr (GAL_LINK.STATE 0) 2 |>.wr (GAL_LINK.STATE 1) 2 with chip := .opened, gal := { s.gal with hello := [true, true], joinStep := 0, held := [], sent := s.gal.sent.take 50, peerFenced := false, graceAt := 0, joinAt := 0 } }; let s : State := { s with dch := { s.dch with hard := [], repairs := [] }, adm := { s.adm with jobq := [] } }; (s) |> fun s => faces.foldl (fun s p => s.setPort p { s.port p with wbuf := [], reads := [] }) s |> fun s => { s with adm := { s.adm with jobq := [] } }; s), by decide +kernel⟩
  · exact ⟨none, false, (let s : State := open0; let s : State := let s : State := { s with svy := { s.svy with has := 0x38 :: s.svy.has, shadow := true, run := [(0x3800000, BitVec.ofNat 32 (6 + s.free % 2)), (0x3800004, BitVec.ofNat 32 4660), (0x3800008, (0x00100504 : Word)), (0x380000C, (7 : Word))].foldl (fun m p => SMap.put (0 : Word) p.1 p.2 m) s.svy.run } }; let s : State := { ((s.wr GAL_STATUS.MODE modePaired).wr GAL_STATUS.LINKS 3).wr (GAL_LINK.STATE 0) 2 |>.wr (GAL_LINK.STATE 1) 2 with chip := .opened, gal := { s.gal with hello := [true, true], joinStep := 0, held := [], sent := s.gal.sent.take 50, peerFenced := false, graceAt := 0, joinAt := 0 } }; let s : State := { s with dch := { s.dch with hard := [], repairs := [] }, adm := { s.adm with jobq := [] } }; (s) |> fun s => faces.foldl (fun s p => s.setPort p { s.port p with wbuf := [], reads := [] }) s |> fun s => { s with adm := { s.adm with jobq := [] } }; s), by decide +kernel⟩

/-- Clauses of GalleryLinksSecond have states and operands that meet their conditions. -/
theorem test_conditions_GalleryLinksSecond_4 :
    (∃ (word : Option Word) (absent : Bool) (s : State), s.chip ≠ .off ∧ s.hasTw7 = true ∧ s.hubOn = true ∧ word = none ∧ absent = true ∧ s.gal.graceAt ≠ 0 ∧ s.twinA = true) := by
  exact ⟨none, true, (let s : State := open0; let s : State := let s : State := { s with svy := { s.svy with has := 0x38 :: s.svy.has, shadow := true, run := [(0x3800000, BitVec.ofNat 32 (6 + s.free % 2)), (0x3800004, BitVec.ofNat 32 4660), (0x3800008, (0x00100504 : Word)), (0x380000C, (7 : Word))].foldl (fun m p => SMap.put (0 : Word) p.1 p.2 m) s.svy.run } }; let s : State := { ((s.wr GAL_STATUS.MODE modePaired).wr GAL_STATUS.LINKS 3).wr (GAL_LINK.STATE 0) 2 |>.wr (GAL_LINK.STATE 1) 2 with chip := .opened, gal := { s.gal with hello := [true, true], joinStep := 0, held := [], sent := s.gal.sent.take 50, peerFenced := false, graceAt := 0, joinAt := 0 } }; let s : State := { s with dch := { s.dch with hard := [], repairs := [] }, adm := { s.adm with jobq := [] } }; (s) |> fun s => faces.foldl (fun s p => s.setPort p { s.port p with wbuf := [], reads := [] }) s |> fun s => { s with adm := { s.adm with jobq := [] } } |> fun s => { s with gal := { s.gal with graceAt := 5 } }; s), by decide +kernel⟩

/-- Clauses of GalleryStream have states and operands that meet their conditions. -/
theorem test_conditions_GalleryStream_1 :
    (∃ (seq face dpa : Nat) (data : Line) (mask : BitVec 64) (poison : Bool) (devs : Nat) (sram : List (Nat × SramErr)) (bad : Bool) (s1 : State) (k : Nat) (l : Nat) (s : State), s.chip ≠ .off ∧ s1 = (s.sramAll sram).hubErr bad ∧ s1.galTakes = true ∧ s1.galPairs = true ∧ seq = s1.rd GAL_RXSEQ.SEQ ∧ s1.galFull = false ∧ s1.mapLine face dpa = some (k, l) ∧ s1.dirty k = true ∧ (s1.slab (settSlab k)).jobl = false ∧ (∀ p ∈ faces, (s1.port p).wbuf = [] ∧ (s1.port p).reads = []) ∧ s1.gal.held = [] ∧ s1.dch.repairs = [] ∧ s1.adm.jobq = [] ∧ mask = fullMask ∧ poison = false ∧ s1.preOpen = false) ∧
    (∃ (seq face dpa : Nat) (data : Line) (mask : BitVec 64) (poison : Bool) (devs : Nat) (sram : List (Nat × SramErr)) (bad : Bool) (s1 : State) (k : Nat) (l : Nat) (s : State), s.chip ≠ .off ∧ s1 = (s.sramAll sram).hubErr bad ∧ s1.galTakes = true ∧ s1.galPairs = true ∧ seq = s1.rd GAL_RXSEQ.SEQ ∧ s1.galFull = false ∧ s1.mapLine face dpa = some (k, l) ∧ s1.dirty k = true ∧ (s1.slab (settSlab k)).jobl = true ∧ s1.gal.held = []) ∧
    (∃ (tag face dpa : Nat) (data : Line) (mask : BitVec 64) (poison : Bool) (devs : Nat) (sram : List (Nat × SramErr)) (s1 : State) (k : Nat) (l : Nat) (s : State), s.chip ≠ .off ∧ s1 = s.sramAll sram ∧ s1.galTakes = true ∧ s1.mirrors = true ∧ s1.galRoom = true ∧ s1.mapLine face dpa = some (k, l) ∧ s1.dirty k = true ∧ (s1.slab (settSlab k)).jobl = false ∧ (∀ p ∈ faces, (s1.port p).wbuf = [] ∧ (s1.port p).reads = []) ∧ s1.gal.held = [] ∧ s1.dch.repairs = [] ∧ s1.adm.jobq = [] ∧ mask = fullMask ∧ poison = false ∧ s1.preOpen = false) := by
  refine ⟨?_, ?_, ?_⟩
  · exact ⟨0, 0, 0, 0#512, 0xffffffffffffffff#64, false, 0, [], false, { regs := [(589828, 1#32), (656384, 1#32), (720896, 0x32#32), (720912, 2#32), (720916, 2#32), (1048576, 0x808#32), (1048580, 0x3b#32), (8388688, 1#32)], tick := 100000, chip := .opened, margin := .sable, stamp := 0, stampTick := 0, fuse := { step := 0, serial := 0, blown := 0, provKey := 0#256, devKey := 0#256 }, bed := { fneg := [], chipReset := 0 }, svy := { run := [(16777216, 0x610#32), (16777220, 15#32), (17825792, 4#32), (17825796, 0x3020100#32), (18874368, 1#32), (18874372, 0x80000#32), (18874376, 8#32), (18874384, 0x101#32), (18874388, 0x80008#32), (18874392, 8#32), (20971520, 0x8180#32), (33554432, 0x8a04000#32), (33554436, 0x4040800#32), (33554440, 0x3e80048#32), (33554448, 1#32), (33554456, 1#32), (33554464, 1#32), (33554472, 1#32), (33554480, 1#32), (33554488, 1#32), (33554496, 1#32), (33554504, 1#32), (33554512, 1#32), (34603008, 0x30010#32), (34603012, 0x40030#32), (34603016, 0x40008#32), (34603024, 0x30010#32), (34603028, 0x40030#32), (34603032, 0x40008#32), (35651584, 3#32), (50331648, 0x32402#32), (50331652, 0x648000#32), (50331656, 0xc80642f#32), (50331660, 0x100003#32), (50331664, 0x64#32), (50331688, 15#32), (50331692, 0x114#32), (50331808, 0x201013f#32), (50331812, 0x201013f#32), (50331936, 0x10#32), (58720256, 6#32), (58720260, 0x1234#32), (58720264, 0x100504#32), (58720268, 7#32), (67108864, 1#32), (67108868, 0x1964#32), (67108872, 0x1964#32), (67108876, 0x2bf20#32), (67108880, 0x186a00#32), (67108884, 0xcccd#32), (67108888, 0xf852e666#32), (67108892, 0x28fd99a#32), (67108896, 0xb33300f6#32), (67108900, 0x28999a#32)], has := [56, 16, 17, 18, 20, 32, 33, 34, 48, 64], loaded := true, shadow := true, staging := [], inst := [], live := false, cmd := 0, taken := [], face := 0, pairDig := 0#128 }, slb := { slabs := [(0, { mask := 1#64, word := 0#32 })], ready := true, owned := true, baseR := 0, grants := [], ift := [], lmap := [], image := [] }, lgr := { packA := { ebase := 0, energy := 0, rc := 0, fcc := 0, dc := 0, chem := 0, ma := 0, gaugeMv := 0, temp := 0, debit := 0, saveDebit := 0, hiScans := 0, loScans := 0, valid := 0, last := none, esr := [], esrTick := 0, gaugeTick := 0 }, packB := { ebase := 0, energy := 0, rc := 0, fcc := 0, dc := 0, chem := 0, ma := 0, gaugeMv := 0, temp := 0, debit := 0, saveDebit := 0, hiScans := 0, loScans := 0, valid := 0, last := none, esr := [], esrTick := 0, gaugeTick := 0 }, sableCnt := 0, extra := false }, adm := { rr := 7, jobq := [], wear := 0, wearHaul := 0, wearMark := 0, day := 0, repTick := [], repDue := [], repMargin := 3 }, haul := { ptr := [], cover := [], bank := 0, started := 0, done := 0, short := false, half := false, waitStk := [], waitSump := [], group := 0, stripes := [], nextStripe := 0, pfw := false, pfwTick := 0 }, save := { off := false, short := false, trigTick := 0, walkTick := 0, walked := false, railCut := false, powerBack := false, vol := 0, sumpStart := [], first := [], last := [], carve := [], pads := 0, fdirty := [], anchor := none, session := 0, openAfter := 0, down := false, spent := none, lodes := [], aggs := [], staging := [], numbers := [], ctx := { rings := [], lost := false, owners := [], running := [], cached := [] } }, stk := { recs := [], lodes := [], blks := [], remaps := [], broken := [], pseq := [], head := [], openLode := [], wlWait := [], intents := [], jpend := [], jrnl := [], jseq := 0, jpage := 0, jsaved := 0, dies := [], silent := [], accs := [], applied := [], folding := false, reworking := false, degraded := 0, bootBad := [], bootMap := [], hblock := 0, lpage := 0, lfix := 0, anchors := [], apage := 0, patrolWin := 0, patrolled := [], patrolRead := [] }, saves := [], res := { fetch := [], demand := [], lastPort := 7, prefetch := [], bgPtr := [], bgBank := 0, rebuilt := false, filling := false, trigTick := 0, counted := 0, memRec := 0, holdRec := [], newLost := [], trained := false, noKeys := false, anchored := false, scanTick := 0 }, dch := { mem := [], poison := [], banks := [], repairs := [], hard := [], devCe := [], eqCe := [], eqTick := [], eqTemp := [], bootTemps := [], taps := [], ueRun := [], late := [], early := [], refBank := [], periodCe := 0, win := 0, limits := [3600, 4096, 256, 16, 64], mig := none, rankMap := [], crdMap := [], inForce := [], cfgNew := [], lastReq := [], actLimit := [], rankSr := [], eqRun := [], scrubTick := [], prev := [], ceTotal := [] }, ports := [], nv := [(0, { dirty := 0, shutdown := 0, feat := 0x7f#128, lsa := [] })], job := { rings := [], cache := [], jobs := [], pins := [], lost := false, fenceDue := 0, inits := [] }, cip := { keys := [], keyin := [], store := [], storeOk := false, ceiling := 0, storeSeq := 0, cmd := none, purge := [], stale := [], erasePend := 0, eraseSan := 0, rotate := [], misWin := [], next := 0, kat := [] }, gal := { epoch := 0#64, joinEpoch := 0#64, peerFenced := false, sent := [], held := [], fwds := [], nextTag := 0, lines := [], peerLines := [], joinStep := 0, listGot := false, rslvGot := false, lineWait := [], asks := [], nextAsk := 0, reqs := [], ctls := [], rslvSlab := 0, rslvSett := 0, rslvQuota := 0, kept := false, peerEpoch := 0#64, fullFor := 0, replays := [], lastFlit := [0, 0], lastBeat := 0, graceAt := 0, seen := 0, joinAt := 0, hello := [true, true], handover := 0, zeroing := [] }, seq := { stage := .idle, order := [], good := [], bad := [], low := [], high := [], glitch := [], glitchPrev := [], glitchWin := 0, latchAfter := false, offTick := 0, minOff := true, timed := false, offPend := false, noDnWait := false, inGood := 0, inLow := 0, pwrLow := false, pfwTick := 0, pfwLate := false, stretch := 0, pulse := 0, pg00Told := false, pg00Good := 0, pg00Bad := 0, pg00Ok := false, latchSave := false, syncDrive := false, lowTold := false, timedTick := 0 }, clk := { rising := [], tripSeen := false, refFail := false }, flt := { raised := [], irqq := [], win := [], esc := [], thrNew := [], winNew := [], rst := none, later := [], holdAfter := false }, clg := { live := [], staging := [], forming := [], phase := 0, pend := [], held := [], log := [], win := none, fetch := none, extDay := 0, railLogged := false, bootLogged := false, ffcAtWaking := [0, 0, 0], subSec := 0, resumed := false }, twb := { ports := [], alert := false, alertTick := 0, mctp := 0, sensTick := [] }, fwm := { slotA := { image := [], sealed := false, tag := 0#128, next := [], blk := 0 }, slotB := { image := [], sealed := false, tag := 0#128, next := [], blk := 0 }, active := 0, trial := false, tries := 0, staging := none, xfer := 0, xferFace := 0, running := true, alive := false, prev := 0, handoff := false, recovery := false, svyEpoch := 0, openCmds := [], waiting := [], bootTick := 0 }, pin := { testen := false, power := true, tap := .bypass, railset := 0, err := false }, pending := [], out := [], free := 0 }, 0, 0, (let face : Nat := 0; let dpa : Nat := 0; let s : State := open0; let s : State := let s : State := { s with svy := { s.svy with has := 0x38 :: s.svy.has, shadow := true, run := [(0x3800000, BitVec.ofNat 32 (6 + s.free % 2)), (0x3800004, BitVec.ofNat 32 4660), (0x3800008, (0x00100504 : Word)), (0x380000C, (7 : Word))].foldl (fun m p => SMap.put (0 : Word) p.1 p.2 m) s.svy.run } }; let s : State := { ((s.wr GAL_STATUS.MODE ([2,5,6].getD (s.free % 3) 2)).wr GAL_STATUS.LINKS 3).wr (GAL_LINK.STATE 0) 2 |>.wr (GAL_LINK.STATE 1) 2 with chip := .opened, gal := { s.gal with hello := [true, true], joinStep := 0, held := [], sent := s.gal.sent.take 50, peerFenced := false, graceAt := 0, joinAt := 0 } }; let s : State := { s with dch := { s.dch with hard := [], repairs := [] }, adm := { s.adm with jobq := [] } }; (s) |> fun s => faces.foldl (fun s p => s.setPort p { s.port p with wbuf := [], reads := [] }) s |> fun s => { s with adm := { s.adm with jobq := [] } } |> fun s => ((s.mapLine face dpa).map (fun p => s.setDirty p.1)).getD s; s), by decide +kernel⟩
  · exact ⟨0, 0, 0, 0#512, 0#64, false, 0, [], false, { regs := [(589828, 1#32), (656384, 1#32), (720896, 0x32#32), (720912, 2#32), (720916, 2#32), (1048576, 0x808#32), (1048580, 0x3b#32), (8388688, 1#32)], tick := 100000, chip := .opened, margin := .sable, stamp := 0, stampTick := 0, fuse := { step := 0, serial := 0, blown := 0, provKey := 0#256, devKey := 0#256 }, bed := { fneg := [], chipReset := 0 }, svy := { run := [(16777216, 0x610#32), (16777220, 15#32), (17825792, 4#32), (17825796, 0x3020100#32), (18874368, 1#32), (18874372, 0x80000#32), (18874376, 8#32), (18874384, 0x101#32), (18874388, 0x80008#32), (18874392, 8#32), (20971520, 0x8180#32), (33554432, 0x8a04000#32), (33554436, 0x4040800#32), (33554440, 0x3e80048#32), (33554448, 1#32), (33554456, 1#32), (33554464, 1#32), (33554472, 1#32), (33554480, 1#32), (33554488, 1#32), (33554496, 1#32), (33554504, 1#32), (33554512, 1#32), (34603008, 0x30010#32), (34603012, 0x40030#32), (34603016, 0x40008#32), (34603024, 0x30010#32), (34603028, 0x40030#32), (34603032, 0x40008#32), (35651584, 3#32), (50331648, 0x32402#32), (50331652, 0x648000#32), (50331656, 0xc80642f#32), (50331660, 0x100003#32), (50331664, 0x64#32), (50331688, 15#32), (50331692, 0x114#32), (50331808, 0x201013f#32), (50331812, 0x201013f#32), (50331936, 0x10#32), (58720256, 6#32), (58720260, 0x1234#32), (58720264, 0x100504#32), (58720268, 7#32), (67108864, 1#32), (67108868, 0x1964#32), (67108872, 0x1964#32), (67108876, 0x2bf20#32), (67108880, 0x186a00#32), (67108884, 0xcccd#32), (67108888, 0xf852e666#32), (67108892, 0x28fd99a#32), (67108896, 0xb33300f6#32), (67108900, 0x28999a#32)], has := [56, 16, 17, 18, 20, 32, 33, 34, 48, 64], loaded := true, shadow := true, staging := [], inst := [], live := false, cmd := 0, taken := [], face := 0, pairDig := 0#128 }, slb := { slabs := [(0, { mask := 1#64, word := 0x8000#32 })], ready := true, owned := true, baseR := 0, grants := [], ift := [], lmap := [], image := [] }, lgr := { packA := { ebase := 0, energy := 0, rc := 0, fcc := 0, dc := 0, chem := 0, ma := 0, gaugeMv := 0, temp := 0, debit := 0, saveDebit := 0, hiScans := 0, loScans := 0, valid := 0, last := none, esr := [], esrTick := 0, gaugeTick := 0 }, packB := { ebase := 0, energy := 0, rc := 0, fcc := 0, dc := 0, chem := 0, ma := 0, gaugeMv := 0, temp := 0, debit := 0, saveDebit := 0, hiScans := 0, loScans := 0, valid := 0, last := none, esr := [], esrTick := 0, gaugeTick := 0 }, sableCnt := 0, extra := false }, adm := { rr := 7, jobq := [], wear := 0, wearHaul := 0, wearMark := 0, day := 0, repTick := [], repDue := [], repMargin := 3 }, haul := { ptr := [], cover := [], bank := 0, started := 0, done := 0, short := false, half := false, waitStk := [], waitSump := [], group := 0, stripes := [], nextStripe := 0, pfw := false, pfwTick := 0 }, save := { off := false, short := false, trigTick := 0, walkTick := 0, walked := false, railCut := false, powerBack := false, vol := 0, sumpStart := [], first := [], last := [], carve := [], pads := 0, fdirty := [], anchor := none, session := 0, openAfter := 0, down := false, spent := none, lodes := [], aggs := [], staging := [], numbers := [], ctx := { rings := [], lost := false, owners := [], running := [], cached := [] } }, stk := { recs := [], lodes := [], blks := [], remaps := [], broken := [], pseq := [], head := [], openLode := [], wlWait := [], intents := [], jpend := [], jrnl := [], jseq := 0, jpage := 0, jsaved := 0, dies := [], silent := [], accs := [], applied := [], folding := false, reworking := false, degraded := 0, bootBad := [], bootMap := [], hblock := 0, lpage := 0, lfix := 0, anchors := [], apage := 0, patrolWin := 0, patrolled := [], patrolRead := [] }, saves := [], res := { fetch := [], demand := [], lastPort := 7, prefetch := [], bgPtr := [], bgBank := 0, rebuilt := false, filling := false, trigTick := 0, counted := 0, memRec := 0, holdRec := [], newLost := [], trained := false, noKeys := false, anchored := false, scanTick := 0 }, dch := { mem := [], poison := [], banks := [], repairs := [], hard := [], devCe := [], eqCe := [], eqTick := [], eqTemp := [], bootTemps := [], taps := [], ueRun := [], late := [], early := [], refBank := [], periodCe := 0, win := 0, limits := [3600, 4096, 256, 16, 64], mig := none, rankMap := [], crdMap := [], inForce := [], cfgNew := [], lastReq := [], actLimit := [], rankSr := [], eqRun := [], scrubTick := [], prev := [], ceTotal := [] }, ports := [], nv := [(0, { dirty := 0, shutdown := 0, feat := 0x7f#128, lsa := [] })], job := { rings := [], cache := [], jobs := [], pins := [], lost := false, fenceDue := 0, inits := [] }, cip := { keys := [], keyin := [], store := [], storeOk := false, ceiling := 0, storeSeq := 0, cmd := none, purge := [], stale := [], erasePend := 0, eraseSan := 0, rotate := [], misWin := [], next := 0, kat := [] }, gal := { epoch := 0#64, joinEpoch := 0#64, peerFenced := false, sent := [], held := [], fwds := [], nextTag := 0, lines := [], peerLines := [], joinStep := 0, listGot := false, rslvGot := false, lineWait := [], asks := [], nextAsk := 0, reqs := [], ctls := [], rslvSlab := 0, rslvSett := 0, rslvQuota := 0, kept := false, peerEpoch := 0#64, fullFor := 0, replays := [], lastFlit := [0, 0], lastBeat := 0, graceAt := 0, seen := 0, joinAt := 0, hello := [true, true], handover := 0, zeroing := [] }, seq := { stage := .idle, order := [], good := [], bad := [], low := [], high := [], glitch := [], glitchPrev := [], glitchWin := 0, latchAfter := false, offTick := 0, minOff := true, timed := false, offPend := false, noDnWait := false, inGood := 0, inLow := 0, pwrLow := false, pfwTick := 0, pfwLate := false, stretch := 0, pulse := 0, pg00Told := false, pg00Good := 0, pg00Bad := 0, pg00Ok := false, latchSave := false, syncDrive := false, lowTold := false, timedTick := 0 }, clk := { rising := [], tripSeen := false, refFail := false }, flt := { raised := [], irqq := [], win := [], esc := [], thrNew := [], winNew := [], rst := none, later := [], holdAfter := false }, clg := { live := [], staging := [], forming := [], phase := 0, pend := [], held := [], log := [], win := none, fetch := none, extDay := 0, railLogged := false, bootLogged := false, ffcAtWaking := [0, 0, 0], subSec := 0, resumed := false }, twb := { ports := [], alert := false, alertTick := 0, mctp := 0, sensTick := [] }, fwm := { slotA := { image := [], sealed := false, tag := 0#128, next := [], blk := 0 }, slotB := { image := [], sealed := false, tag := 0#128, next := [], blk := 0 }, active := 0, trial := false, tries := 0, staging := none, xfer := 0, xferFace := 0, running := true, alive := false, prev := 0, handoff := false, recovery := false, svyEpoch := 0, openCmds := [], waiting := [], bootTick := 0 }, pin := { testen := false, power := true, tap := .bypass, railset := 0, err := false }, pending := [], out := [], free := 0 }, 0, 0, (let face : Nat := 0; let dpa : Nat := 0; let s : State := open0; let s : State := let s : State := { s with svy := { s.svy with has := 0x38 :: s.svy.has, shadow := true, run := [(0x3800000, BitVec.ofNat 32 (6 + s.free % 2)), (0x3800004, BitVec.ofNat 32 4660), (0x3800008, (0x00100504 : Word)), (0x380000C, (7 : Word))].foldl (fun m p => SMap.put (0 : Word) p.1 p.2 m) s.svy.run } }; let s : State := { ((s.wr GAL_STATUS.MODE modePaired).wr GAL_STATUS.LINKS 3).wr (GAL_LINK.STATE 0) 2 |>.wr (GAL_LINK.STATE 1) 2 with chip := .opened, gal := { s.gal with hello := [true, true], joinStep := 0, held := [], sent := s.gal.sent.take 50, peerFenced := false, graceAt := 0, joinAt := 0 } }; let s : State := { s with dch := { s.dch with hard := [], repairs := [] }, adm := { s.adm with jobq := [] } }; (s) |> fun s => faces.foldl (fun s p => s.setPort p { s.port p with wbuf := [], reads := [] }) s |> fun s => { s with adm := { s.adm with jobq := [] } } |> fun s => ((s.mapLine face dpa).map (fun p => s.setDirty p.1)).getD s |> fun s => ((s.mapLine face dpa).map (fun p => s.setLock (settSlab p.1) 15 true)).getD s; s), by decide +kernel⟩
  · exact ⟨0, 0, 0, 0#512, 0xffffffffffffffff#64, false, 0, [], { regs := [(589828, 1#32), (656384, 1#32), (720896, 0x32#32), (720912, 2#32), (720916, 2#32), (1048576, 0x808#32), (1048580, 0x3b#32), (8388688, 1#32)], tick := 100000, chip := .opened, margin := .sable, stamp := 0, stampTick := 0, fuse := { step := 0, serial := 0, blown := 0, provKey := 0#256, devKey := 0#256 }, bed := { fneg := [], chipReset := 0 }, svy := { run := [(16777216, 0x610#32), (16777220, 15#32), (17825792, 4#32), (17825796, 0x3020100#32), (18874368, 1#32), (18874372, 0x80000#32), (18874376, 8#32), (18874384, 0x101#32), (18874388, 0x80008#32), (18874392, 8#32), (20971520, 0x8180#32), (33554432, 0x8a04000#32), (33554436, 0x4040800#32), (33554440, 0x3e80048#32), (33554448, 1#32), (33554456, 1#32), (33554464, 1#32), (33554472, 1#32), (33554480, 1#32), (33554488, 1#32), (33554496, 1#32), (33554504, 1#32), (33554512, 1#32), (34603008, 0x30010#32), (34603012, 0x40030#32), (34603016, 0x40008#32), (34603024, 0x30010#32), (34603028, 0x40030#32), (34603032, 0x40008#32), (35651584, 3#32), (50331648, 0x32402#32), (50331652, 0x648000#32), (50331656, 0xc80642f#32), (50331660, 0x100003#32), (50331664, 0x64#32), (50331688, 15#32), (50331692, 0x114#32), (50331808, 0x201013f#32), (50331812, 0x201013f#32), (50331936, 0x10#32), (58720256, 6#32), (58720260, 0x1234#32), (58720264, 0x100504#32), (58720268, 7#32), (67108864, 1#32), (67108868, 0x1964#32), (67108872, 0x1964#32), (67108876, 0x2bf20#32), (67108880, 0x186a00#32), (67108884, 0xcccd#32), (67108888, 0xf852e666#32), (67108892, 0x28fd99a#32), (67108896, 0xb33300f6#32), (67108900, 0x28999a#32)], has := [56, 16, 17, 18, 20, 32, 33, 34, 48, 64], loaded := true, shadow := true, staging := [], inst := [], live := false, cmd := 0, taken := [], face := 0, pairDig := 0#128 }, slb := { slabs := [(0, { mask := 1#64, word := 0#32 })], ready := true, owned := true, baseR := 0, grants := [], ift := [], lmap := [], image := [] }, lgr := { packA := { ebase := 0, energy := 0, rc := 0, fcc := 0, dc := 0, chem := 0, ma := 0, gaugeMv := 0, temp := 0, debit := 0, saveDebit := 0, hiScans := 0, loScans := 0, valid := 0, last := none, esr := [], esrTick := 0, gaugeTick := 0 }, packB := { ebase := 0, energy := 0, rc := 0, fcc := 0, dc := 0, chem := 0, ma := 0, gaugeMv := 0, temp := 0, debit := 0, saveDebit := 0, hiScans := 0, loScans := 0, valid := 0, last := none, esr := [], esrTick := 0, gaugeTick := 0 }, sableCnt := 0, extra := false }, adm := { rr := 7, jobq := [], wear := 0, wearHaul := 0, wearMark := 0, day := 0, repTick := [], repDue := [], repMargin := 3 }, haul := { ptr := [], cover := [], bank := 0, started := 0, done := 0, short := false, half := false, waitStk := [], waitSump := [], group := 0, stripes := [], nextStripe := 0, pfw := false, pfwTick := 0 }, save := { off := false, short := false, trigTick := 0, walkTick := 0, walked := false, railCut := false, powerBack := false, vol := 0, sumpStart := [], first := [], last := [], carve := [], pads := 0, fdirty := [], anchor := none, session := 0, openAfter := 0, down := false, spent := none, lodes := [], aggs := [], staging := [], numbers := [], ctx := { rings := [], lost := false, owners := [], running := [], cached := [] } }, stk := { recs := [], lodes := [], blks := [], remaps := [], broken := [], pseq := [], head := [], openLode := [], wlWait := [], intents := [], jpend := [], jrnl := [], jseq := 0, jpage := 0, jsaved := 0, dies := [], silent := [], accs := [], applied := [], folding := false, reworking := false, degraded := 0, bootBad := [], bootMap := [], hblock := 0, lpage := 0, lfix := 0, anchors := [], apage := 0, patrolWin := 0, patrolled := [], patrolRead := [] }, saves := [], res := { fetch := [], demand := [], lastPort := 7, prefetch := [], bgPtr := [], bgBank := 0, rebuilt := false, filling := false, trigTick := 0, counted := 0, memRec := 0, holdRec := [], newLost := [], trained := false, noKeys := false, anchored := false, scanTick := 0 }, dch := { mem := [], poison := [], banks := [], repairs := [], hard := [], devCe := [], eqCe := [], eqTick := [], eqTemp := [], bootTemps := [], taps := [], ueRun := [], late := [], early := [], refBank := [], periodCe := 0, win := 0, limits := [3600, 4096, 256, 16, 64], mig := none, rankMap := [], crdMap := [], inForce := [], cfgNew := [], lastReq := [], actLimit := [], rankSr := [], eqRun := [], scrubTick := [], prev := [], ceTotal := [] }, ports := [], nv := [(0, { dirty := 0, shutdown := 0, feat := 0x7f#128, lsa := [] })], job := { rings := [], cache := [], jobs := [], pins := [], lost := false, fenceDue := 0, inits := [] }, cip := { keys := [], keyin := [], store := [], storeOk := false, ceiling := 0, storeSeq := 0, cmd := none, purge := [], stale := [], erasePend := 0, eraseSan := 0, rotate := [], misWin := [], next := 0, kat := [] }, gal := { epoch := 0#64, joinEpoch := 0#64, peerFenced := false, sent := [], held := [], fwds := [], nextTag := 0, lines := [], peerLines := [], joinStep := 0, listGot := false, rslvGot := false, lineWait := [], asks := [], nextAsk := 0, reqs := [], ctls := [], rslvSlab := 0, rslvSett := 0, rslvQuota := 0, kept := false, peerEpoch := 0#64, fullFor := 0, replays := [], lastFlit := [0, 0], lastBeat := 0, graceAt := 0, seen := 0, joinAt := 0, hello := [true, true], handover := 0, zeroing := [] }, seq := { stage := .idle, order := [], good := [], bad := [], low := [], high := [], glitch := [], glitchPrev := [], glitchWin := 0, latchAfter := false, offTick := 0, minOff := true, timed := false, offPend := false, noDnWait := false, inGood := 0, inLow := 0, pwrLow := false, pfwTick := 0, pfwLate := false, stretch := 0, pulse := 0, pg00Told := false, pg00Good := 0, pg00Bad := 0, pg00Ok := false, latchSave := false, syncDrive := false, lowTold := false, timedTick := 0 }, clk := { rising := [], tripSeen := false, refFail := false }, flt := { raised := [], irqq := [], win := [], esc := [], thrNew := [], winNew := [], rst := none, later := [], holdAfter := false }, clg := { live := [], staging := [], forming := [], phase := 0, pend := [], held := [], log := [], win := none, fetch := none, extDay := 0, railLogged := false, bootLogged := false, ffcAtWaking := [0, 0, 0], subSec := 0, resumed := false }, twb := { ports := [], alert := false, alertTick := 0, mctp := 0, sensTick := [] }, fwm := { slotA := { image := [], sealed := false, tag := 0#128, next := [], blk := 0 }, slotB := { image := [], sealed := false, tag := 0#128, next := [], blk := 0 }, active := 0, trial := false, tries := 0, staging := none, xfer := 0, xferFace := 0, running := true, alive := false, prev := 0, handoff := false, recovery := false, svyEpoch := 0, openCmds := [], waiting := [], bootTick := 0 }, pin := { testen := false, power := true, tap := .bypass, railset := 0, err := false }, pending := [], out := [], free := 0 }, 0, 0, (let face : Nat := 0; let dpa : Nat := 0; let s : State := open0; let s : State := let s : State := { s with svy := { s.svy with has := 0x38 :: s.svy.has, shadow := true, run := [(0x3800000, BitVec.ofNat 32 (6 + s.free % 2)), (0x3800004, BitVec.ofNat 32 4660), (0x3800008, (0x00100504 : Word)), (0x380000C, (7 : Word))].foldl (fun m p => SMap.put (0 : Word) p.1 p.2 m) s.svy.run } }; let s : State := { ((s.wr GAL_STATUS.MODE modePaired).wr GAL_STATUS.LINKS 3).wr (GAL_LINK.STATE 0) 2 |>.wr (GAL_LINK.STATE 1) 2 with chip := .opened, gal := { s.gal with hello := [true, true], joinStep := 0, held := [], sent := s.gal.sent.take 50, peerFenced := false, graceAt := 0, joinAt := 0 } }; let s : State := { s with dch := { s.dch with hard := [], repairs := [] }, adm := { s.adm with jobq := [] } }; (s) |> fun s => faces.foldl (fun s p => s.setPort p { s.port p with wbuf := [], reads := [] }) s |> fun s => { s with adm := { s.adm with jobq := [] } } |> fun s => ((s.mapLine face dpa).map (fun p => s.setDirty p.1)).getD s; s), by decide +kernel⟩

/-- Clauses of GalleryStream have states and operands that meet their conditions. -/
theorem test_conditions_GalleryStream_2 :
    (∃ (tag face dpa : Nat) (data : Line) (mask : BitVec 64) (poison : Bool) (devs : Nat) (sram : List (Nat × SramErr)) (s1 : State) (s : State), s.chip ≠ .off ∧ s1 = s.sramAll sram ∧ s1.galTakes = true ∧ s1.mirrors = true ∧ s1.mapLine face dpa = none) ∧
    (∃ (seq tag : Nat) (x : GalFwd) (e : WEnt) (s : State), s.chip ≠ .off ∧ s.galTakes = true ∧ s.galPairs = true ∧ seq = s.rd GAL_RXSEQ.SEQ ∧ s.galFull = false ∧ s.gal.fwds.find? (fun x => x.tag == tag) = some x ∧ x.port < 6 ∧ (s.port x.port).wbuf = [e] ∧ e.tag = x.wtag ∧ x.wtag < mailTag ∧ (s.port x.port).perst = false ∧ s.on (HPT_STATUS.LINK_UP x.port) = true ∧ e.done = false ∧ e.wait ≠ .fetch ∧ s.dirty e.sett = true ∧ (s.slab (settSlab e.sett)).jobl = false ∧ s.gal.held = [] ∧ s.dch.repairs = []) ∧
    (∃ (seq tag : Nat) (s : State), s.chip ≠ .off ∧ s.galTakes = true ∧ s.galPairs = true ∧ seq = s.rd GAL_RXSEQ.SEQ ∧ s.galFull = false ∧ s.gal.fwds.all (fun x => x.tag != tag) = true) := by
  refine ⟨?_, ?_, ?_⟩
  · exact ⟨0, 0, 1099511627776, 0#512, 0#64, false, 0, [], { regs := [(656384, 1#32), (720896, 0x32#32), (720912, 2#32), (720916, 2#32), (1048576, 0x808#32), (1048580, 0x3b#32)], tick := 100000, chip := .opened, margin := .sable, stamp := 0, stampTick := 0, fuse := { step := 0, serial := 0, blown := 0, provKey := 0#256, devKey := 0#256 }, bed := { fneg := [], chipReset := 0 }, svy := { run := [(16777216, 0x610#32), (16777220, 15#32), (17825792, 4#32), (17825796, 0x3020100#32), (18874368, 1#32), (18874372, 0x80000#32), (18874376, 8#32), (18874384, 0x101#32), (18874388, 0x80008#32), (18874392, 8#32), (20971520, 0x8180#32), (33554432, 0x8a04000#32), (33554436, 0x4040800#32), (33554440, 0x3e80048#32), (33554448, 1#32), (33554456, 1#32), (33554464, 1#32), (33554472, 1#32), (33554480, 1#32), (33554488, 1#32), (33554496, 1#32), (33554504, 1#32), (33554512, 1#32), (34603008, 0x30010#32), (34603012, 0x40030#32), (34603016, 0x40008#32), (34603024, 0x30010#32), (34603028, 0x40030#32), (34603032, 0x40008#32), (35651584, 3#32), (50331648, 0x32402#32), (50331652, 0x648000#32), (50331656, 0xc80642f#32), (50331660, 0x100003#32), (50331664, 0x64#32), (50331688, 15#32), (50331692, 0x114#32), (50331808, 0x201013f#32), (50331812, 0x201013f#32), (50331936, 0x10#32), (58720256, 6#32), (58720260, 0x1234#32), (58720264, 0x100504#32), (58720268, 7#32), (67108864, 1#32), (67108868, 0x1964#32), (67108872, 0x1964#32), (67108876, 0x2bf20#32), (67108880, 0x186a00#32), (67108884, 0xcccd#32), (67108888, 0xf852e666#32), (67108892, 0x28fd99a#32), (67108896, 0xb33300f6#32), (67108900, 0x28999a#32)], has := [56, 16, 17, 18, 20, 32, 33, 34, 48, 64], loaded := true, shadow := true, staging := [], inst := [], live := false, cmd := 0, taken := [], face := 0, pairDig := 0#128 }, slb := { slabs := [], ready := true, owned := true, baseR := 0, grants := [], ift := [], lmap := [], image := [] }, lgr := { packA := { ebase := 0, energy := 0, rc := 0, fcc := 0, dc := 0, chem := 0, ma := 0, gaugeMv := 0, temp := 0, debit := 0, saveDebit := 0, hiScans := 0, loScans := 0, valid := 0, last := none, esr := [], esrTick := 0, gaugeTick := 0 }, packB := { ebase := 0, energy := 0, rc := 0, fcc := 0, dc := 0, chem := 0, ma := 0, gaugeMv := 0, temp := 0, debit := 0, saveDebit := 0, hiScans := 0, loScans := 0, valid := 0, last := none, esr := [], esrTick := 0, gaugeTick := 0 }, sableCnt := 0, extra := false }, adm := { rr := 7, jobq := [], wear := 0, wearHaul := 0, wearMark := 0, day := 0, repTick := [], repDue := [], repMargin := 3 }, haul := { ptr := [], cover := [], bank := 0, started := 0, done := 0, short := false, half := false, waitStk := [], waitSump := [], group := 0, stripes := [], nextStripe := 0, pfw := false, pfwTick := 0 }, save := { off := false, short := false, trigTick := 0, walkTick := 0, walked := false, railCut := false, powerBack := false, vol := 0, sumpStart := [], first := [], last := [], carve := [], pads := 0, fdirty := [], anchor := none, session := 0, openAfter := 0, down := false, spent := none, lodes := [], aggs := [], staging := [], numbers := [], ctx := { rings := [], lost := false, owners := [], running := [], cached := [] } }, stk := { recs := [], lodes := [], blks := [], remaps := [], broken := [], pseq := [], head := [], openLode := [], wlWait := [], intents := [], jpend := [], jrnl := [], jseq := 0, jpage := 0, jsaved := 0, dies := [], silent := [], accs := [], applied := [], folding := false, reworking := false, degraded := 0, bootBad := [], bootMap := [], hblock := 0, lpage := 0, lfix := 0, anchors := [], apage := 0, patrolWin := 0, patrolled := [], patrolRead := [] }, saves := [], res := { fetch := [], demand := [], lastPort := 7, prefetch := [], bgPtr := [], bgBank := 0, rebuilt := false, filling := false, trigTick := 0, counted := 0, memRec := 0, holdRec := [], newLost := [], trained := false, noKeys := false, anchored := false, scanTick := 0 }, dch := { mem := [], poison := [], banks := [], repairs := [], hard := [], devCe := [], eqCe := [], eqTick := [], eqTemp := [], bootTemps := [], taps := [], ueRun := [], late := [], early := [], refBank := [], periodCe := 0, win := 0, limits := [3600, 4096, 256, 16, 64], mig := none, rankMap := [], crdMap := [], inForce := [], cfgNew := [], lastReq := [], actLimit := [], rankSr := [], eqRun := [], scrubTick := [], prev := [], ceTotal := [] }, ports := [], nv := [(0, { dirty := 0, shutdown := 0, feat := 0x7f#128, lsa := [] })], job := { rings := [], cache := [], jobs := [], pins := [], lost := false, fenceDue := 0, inits := [] }, cip := { keys := [], keyin := [], store := [], storeOk := false, ceiling := 0, storeSeq := 0, cmd := none, purge := [], stale := [], erasePend := 0, eraseSan := 0, rotate := [], misWin := [], next := 0, kat := [] }, gal := { epoch := 0#64, joinEpoch := 0#64, peerFenced := false, sent := [], held := [], fwds := [], nextTag := 0, lines := [], peerLines := [], joinStep := 0, listGot := false, rslvGot := false, lineWait := [], asks := [], nextAsk := 0, reqs := [], ctls := [], rslvSlab := 0, rslvSett := 0, rslvQuota := 0, kept := false, peerEpoch := 0#64, fullFor := 0, replays := [], lastFlit := [0, 0], lastBeat := 0, graceAt := 0, seen := 0, joinAt := 0, hello := [true, true], handover := 0, zeroing := [] }, seq := { stage := .idle, order := [], good := [], bad := [], low := [], high := [], glitch := [], glitchPrev := [], glitchWin := 0, latchAfter := false, offTick := 0, minOff := true, timed := false, offPend := false, noDnWait := false, inGood := 0, inLow := 0, pwrLow := false, pfwTick := 0, pfwLate := false, stretch := 0, pulse := 0, pg00Told := false, pg00Good := 0, pg00Bad := 0, pg00Ok := false, latchSave := false, syncDrive := false, lowTold := false, timedTick := 0 }, clk := { rising := [], tripSeen := false, refFail := false }, flt := { raised := [], irqq := [], win := [], esc := [], thrNew := [], winNew := [], rst := none, later := [], holdAfter := false }, clg := { live := [], staging := [], forming := [], phase := 0, pend := [], held := [], log := [], win := none, fetch := none, extDay := 0, railLogged := false, bootLogged := false, ffcAtWaking := [0, 0, 0], subSec := 0, resumed := false }, twb := { ports := [], alert := false, alertTick := 0, mctp := 0, sensTick := [] }, fwm := { slotA := { image := [], sealed := false, tag := 0#128, next := [], blk := 0 }, slotB := { image := [], sealed := false, tag := 0#128, next := [], blk := 0 }, active := 0, trial := false, tries := 0, staging := none, xfer := 0, xferFace := 0, running := true, alive := false, prev := 0, handoff := false, recovery := false, svyEpoch := 0, openCmds := [], waiting := [], bootTick := 0 }, pin := { testen := false, power := true, tap := .bypass, railset := 0, err := false }, pending := [], out := [], free := 0 }, (let s : State := open0; let s : State := let s : State := { s with svy := { s.svy with has := 0x38 :: s.svy.has, shadow := true, run := [(0x3800000, BitVec.ofNat 32 (6 + s.free % 2)), (0x3800004, BitVec.ofNat 32 4660), (0x3800008, (0x00100504 : Word)), (0x380000C, (7 : Word))].foldl (fun m p => SMap.put (0 : Word) p.1 p.2 m) s.svy.run } }; let s : State := { ((s.wr GAL_STATUS.MODE modePaired).wr GAL_STATUS.LINKS 3).wr (GAL_LINK.STATE 0) 2 |>.wr (GAL_LINK.STATE 1) 2 with chip := .opened, gal := { s.gal with hello := [true, true], joinStep := 0, held := [], sent := s.gal.sent.take 50, peerFenced := false, graceAt := 0, joinAt := 0 } }; let s : State := { s with dch := { s.dch with hard := [], repairs := [] }, adm := { s.adm with jobq := [] } }; (s) |> fun s => faces.foldl (fun s p => s.setPort p { s.port p with wbuf := [], reads := [] }) s |> fun s => { s with adm := { s.adm with jobq := [] } }; s), by decide +kernel⟩
  · exact ⟨0, 0, { tag := 0, port := 0, wtag := 9 }, { tag := 9, dpa := 64, sett := 1, line := 1, data := 5#512, mask := 0xffffffffffffffff#64, poison := false, wait := .parked, done := false, fresh := false, since := 100000, seq := 0, devs := 0, arr := 0 }, (let tag : Nat := 0; let s : State := open0; let s : State := let s : State := { s with svy := { s.svy with has := 0x38 :: s.svy.has, shadow := true, run := [(0x3800000, BitVec.ofNat 32 (6 + s.free % 2)), (0x3800004, BitVec.ofNat 32 4660), (0x3800008, (0x00100504 : Word)), (0x380000C, (7 : Word))].foldl (fun m p => SMap.put (0 : Word) p.1 p.2 m) s.svy.run } }; let s : State := { ((s.wr GAL_STATUS.MODE modePaired).wr GAL_STATUS.LINKS 3).wr (GAL_LINK.STATE 0) 2 |>.wr (GAL_LINK.STATE 1) 2 with chip := .opened, gal := { s.gal with hello := [true, true], joinStep := 0, held := [], sent := s.gal.sent.take 50, peerFenced := false, graceAt := 0, joinAt := 0 } }; let s : State := { s with dch := { s.dch with hard := [], repairs := [] }, adm := { s.adm with jobq := [] } }; (s) |> fun s => faces.foldl (fun s p => s.setPort p { s.port p with wbuf := [], reads := [] }) s |> fun s => { s with adm := { s.adm with jobq := [] } } |> fun s => { (s.setPort 0 { s.port 0 with wbuf := [{ wEnt0 with tag := 9, dpa := 0x40, sett := 1, line := 1, data := 5, mask := fullMask, wait := .parked, done := false, since := s.tick }] }).setDirty 1 with gal := { s.gal with fwds := [⟨tag, 0, 9⟩] } }; s), by decide +kernel⟩
  · exact ⟨0, 0, (let s : State := open0; let s : State := let s : State := { s with svy := { s.svy with has := 0x38 :: s.svy.has, shadow := true, run := [(0x3800000, BitVec.ofNat 32 (6 + s.free % 2)), (0x3800004, BitVec.ofNat 32 4660), (0x3800008, (0x00100504 : Word)), (0x380000C, (7 : Word))].foldl (fun m p => SMap.put (0 : Word) p.1 p.2 m) s.svy.run } }; let s : State := { ((s.wr GAL_STATUS.MODE modePaired).wr GAL_STATUS.LINKS 3).wr (GAL_LINK.STATE 0) 2 |>.wr (GAL_LINK.STATE 1) 2 with chip := .opened, gal := { s.gal with hello := [true, true], joinStep := 0, held := [], sent := s.gal.sent.take 50, peerFenced := false, graceAt := 0, joinAt := 0 } }; let s : State := { s with dch := { s.dch with hard := [], repairs := [] }, adm := { s.adm with jobq := [] } }; (s) |> fun s => faces.foldl (fun s p => s.setPort p { s.port p with wbuf := [], reads := [] }) s |> fun s => { s with adm := { s.adm with jobq := [] } } |> fun s => { s with gal := { s.gal with fwds := [] } }; s), by decide +kernel⟩

/-- Clauses of GalleryStream have states and operands that meet their conditions. -/
theorem test_conditions_GalleryStream_3 :
    (∃ (seq : Nat) (map : BitVec 512) (s : State), s.chip ≠ .off ∧ s.galTakes = true ∧ s.galPairs = true ∧ seq < 2 ^ 32 ∧ (∀ p ∈ faces, (s.port p).wbuf = [] ∧ (s.port p).reads = [])) ∧
    (∃ (tag sub face addr : Nat) (devs : SMap Nat) (s : State), s.chip ≠ .off ∧ s.galTakes = true ∧ s.galPairs = true ∧ sub = 1 ∧ s.mapLine face addr = none) ∧
    (∃ (tag sub face addr : Nat) (devs : SMap Nat) (k : Nat) (l : Nat) (s : State), s.chip ≠ .off ∧ s.galTakes = true ∧ s.galPairs = true ∧ sub = 1 ∧ s.mapLine face addr = some (k, l) ∧ s.gal.joinStep = 0 ∧ s.faceOpen (s.slab (settSlab k)).owner = false) := by
  refine ⟨?_, ?_, ?_⟩
  · exact ⟨0, 0#512, (let s : State := open0; let s : State := let s : State := { s with svy := { s.svy with has := 0x38 :: s.svy.has, shadow := true, run := [(0x3800000, BitVec.ofNat 32 (6 + s.free % 2)), (0x3800004, BitVec.ofNat 32 4660), (0x3800008, (0x00100504 : Word)), (0x380000C, (7 : Word))].foldl (fun m p => SMap.put (0 : Word) p.1 p.2 m) s.svy.run } }; let s : State := { ((s.wr GAL_STATUS.MODE modePaired).wr GAL_STATUS.LINKS 3).wr (GAL_LINK.STATE 0) 2 |>.wr (GAL_LINK.STATE 1) 2 with chip := .opened, gal := { s.gal with hello := [true, true], joinStep := 0, held := [], sent := s.gal.sent.take 50, peerFenced := false, graceAt := 0, joinAt := 0 } }; let s : State := { s with dch := { s.dch with hard := [], repairs := [] }, adm := { s.adm with jobq := [] } }; (s) |> fun s => faces.foldl (fun s p => s.setPort p { s.port p with wbuf := [], reads := [] }) s |> fun s => { s with adm := { s.adm with jobq := [] } }; s), by decide +kernel⟩
  · exact ⟨0, 1, 0, 1152921504606846976, [], (let s : State := open0; let s : State := let s : State := { s with svy := { s.svy with has := 0x38 :: s.svy.has, shadow := true, run := [(0x3800000, BitVec.ofNat 32 (6 + s.free % 2)), (0x3800004, BitVec.ofNat 32 4660), (0x3800008, (0x00100504 : Word)), (0x380000C, (7 : Word))].foldl (fun m p => SMap.put (0 : Word) p.1 p.2 m) s.svy.run } }; let s : State := { ((s.wr GAL_STATUS.MODE modePaired).wr GAL_STATUS.LINKS 3).wr (GAL_LINK.STATE 0) 2 |>.wr (GAL_LINK.STATE 1) 2 with chip := .opened, gal := { s.gal with hello := [true, true], joinStep := 0, held := [], sent := s.gal.sent.take 50, peerFenced := false, graceAt := 0, joinAt := 0 } }; let s : State := { s with dch := { s.dch with hard := [], repairs := [] }, adm := { s.adm with jobq := [] } }; (s) |> fun s => faces.foldl (fun s p => s.setPort p { s.port p with wbuf := [], reads := [] }) s |> fun s => { s with adm := { s.adm with jobq := [] } }; s), by decide +kernel⟩
  · exact ⟨0, 1, 0, 0, [], 0, 0, (let s : State := open0; let s : State := let s : State := { s with svy := { s.svy with has := 0x38 :: s.svy.has, shadow := true, run := [(0x3800000, BitVec.ofNat 32 (6 + s.free % 2)), (0x3800004, BitVec.ofNat 32 4660), (0x3800008, (0x00100504 : Word)), (0x380000C, (7 : Word))].foldl (fun m p => SMap.put (0 : Word) p.1 p.2 m) s.svy.run } }; let s : State := { ((s.wr GAL_STATUS.MODE modePaired).wr GAL_STATUS.LINKS 3).wr (GAL_LINK.STATE 0) 2 |>.wr (GAL_LINK.STATE 1) 2 with chip := .opened, gal := { s.gal with hello := [true, true], joinStep := 0, held := [], sent := s.gal.sent.take 50, peerFenced := false, graceAt := 0, joinAt := 0 } }; let s : State := { s with dch := { s.dch with hard := [], repairs := [] }, adm := { s.adm with jobq := [] } }; (s) |> fun s => faces.foldl (fun s p => s.setPort p { s.port p with wbuf := [], reads := [] }) s |> fun s => { s with adm := { s.adm with jobq := [] } } |> fun s => s |> fun s => faces.foldl (fun s f => s.wr (HPT_STATUS.OPEN f) 0) s; s), by decide +kernel⟩

/-- Clauses of GalleryStream have states and operands that meet their conditions. -/
theorem test_conditions_GalleryStream_4 :
    (∃ (tag sub face addr : Nat) (devs : SMap Nat) (k : Nat) (l : Nat) (s : State), s.chip ≠ .off ∧ s.galTakes = true ∧ s.galPairs = true ∧ sub = 1 ∧ s.mapLine face addr = some (k, l) ∧ s.gal.joinStep = 0 ∧ s.faceOpen (s.slab (settSlab k)).owner = true ∧ s.settHome k = true ∧ s.settState k = .dirty ∧ s.preOpen = false ∧ SMap.get 0 l devs = 0 ∧ s.dch.hard = [] ∧ s.rankAnswers k = true ∧ s.poisoned k l = false ∧ (∀ p ∈ faces, (s.port p).wbuf = [] ∧ (s.port p).reads = [])) ∧
    (∃ (tag sub face addr : Nat) (devs : SMap Nat) (k : Nat) (l : Nat) (s : State), s.chip ≠ .off ∧ s.galTakes = true ∧ s.galPairs = true ∧ sub = 1 ∧ s.mapLine face addr = some (k, l) ∧ s.gal.joinStep = 0 ∧ s.faceOpen (s.slab (settSlab k)).owner = true ∧ (s.slab (settSlab k)).rstate = 1 ∧ s.chip = .opened) ∧
    (∃ (tag sub offset : Nat) (lines : List Line) (a : GalAsk) (s : State), s.chip ≠ .off ∧ s.galTakes = true ∧ s.gal.asks.find? (fun a => a.tag == tag) = some a ∧ sub ≠ 0 ∧ a.line = 0 ∧ (∀ f ∈ s.res.fetch, f.slab ≠ settSlab a.sett)) := by
  refine ⟨?_, ?_, ?_⟩
  · exact ⟨0, 1, 0, 0, [], 0, 0, (let face : Nat := 0; let addr : Nat := 0; let s : State := open0; let s : State := let s : State := { s with svy := { s.svy with has := 0x38 :: s.svy.has, shadow := true, run := [(0x3800000, BitVec.ofNat 32 (6 + s.free % 2)), (0x3800004, BitVec.ofNat 32 4660), (0x3800008, (0x00100504 : Word)), (0x380000C, (7 : Word))].foldl (fun m p => SMap.put (0 : Word) p.1 p.2 m) s.svy.run } }; let s : State := { ((s.wr GAL_STATUS.MODE modePaired).wr GAL_STATUS.LINKS 3).wr (GAL_LINK.STATE 0) 2 |>.wr (GAL_LINK.STATE 1) 2 with chip := .opened, gal := { s.gal with hello := [true, true], joinStep := 0, held := [], sent := s.gal.sent.take 50, peerFenced := false, graceAt := 0, joinAt := 0 } }; let s : State := { s with dch := { s.dch with hard := [], repairs := [] }, adm := { s.adm with jobq := [] } }; (s) |> fun s => faces.foldl (fun s p => s.setPort p { s.port p with wbuf := [], reads := [] }) s |> fun s => { s with adm := { s.adm with jobq := [] } } |> fun s => ((s.mapLine face addr).map (fun p => s.setDirty p.1)).getD s |> fun s => faces.foldl (fun s f => s.wr (HPT_STATUS.OPEN f) 1) s; s), by decide +kernel⟩
  · exact ⟨0, 1, 0, 0, [], 0, 0, (let face : Nat := 0; let addr : Nat := 0; let s : State := open0; let s : State := let s : State := { s with svy := { s.svy with has := 0x38 :: s.svy.has, shadow := true, run := [(0x3800000, BitVec.ofNat 32 (6 + s.free % 2)), (0x3800004, BitVec.ofNat 32 4660), (0x3800008, (0x00100504 : Word)), (0x380000C, (7 : Word))].foldl (fun m p => SMap.put (0 : Word) p.1 p.2 m) s.svy.run } }; let s : State := { ((s.wr GAL_STATUS.MODE modePaired).wr GAL_STATUS.LINKS 3).wr (GAL_LINK.STATE 0) 2 |>.wr (GAL_LINK.STATE 1) 2 with chip := .opened, gal := { s.gal with hello := [true, true], joinStep := 0, held := [], sent := s.gal.sent.take 50, peerFenced := false, graceAt := 0, joinAt := 0 } }; let s : State := { s with dch := { s.dch with hard := [], repairs := [] }, adm := { s.adm with jobq := [] } }; (s) |> fun s => faces.foldl (fun s p => s.setPort p { s.port p with wbuf := [], reads := [] }) s |> fun s => { s with adm := { s.adm with jobq := [] } } |> fun s => ((s.mapLine face addr).map (fun p => s.setRstate (settSlab p.1) 1)).getD s |> fun s => faces.foldl (fun s f => s.wr (HPT_STATUS.OPEN f) 1) s; s), by decide +kernel⟩
  · exact ⟨0, 2, 0, [], { tag := 0, sett := 1, line := 0, got := 0 }, (let tag : Nat := 0; let s : State := open0; let s : State := let s : State := { s with svy := { s.svy with has := 0x38 :: s.svy.has, shadow := true, run := [(0x3800000, BitVec.ofNat 32 (6 + s.free % 2)), (0x3800004, BitVec.ofNat 32 4660), (0x3800008, (0x00100504 : Word)), (0x380000C, (7 : Word))].foldl (fun m p => SMap.put (0 : Word) p.1 p.2 m) s.svy.run } }; let s : State := { ((s.wr GAL_STATUS.MODE modePaired).wr GAL_STATUS.LINKS 3).wr (GAL_LINK.STATE 0) 2 |>.wr (GAL_LINK.STATE 1) 2 with chip := .opened, gal := { s.gal with hello := [true, true], joinStep := 0, held := [], sent := s.gal.sent.take 50, peerFenced := false, graceAt := 0, joinAt := 0 } }; let s : State := { s with dch := { s.dch with hard := [], repairs := [] }, adm := { s.adm with jobq := [] } }; (s) |> fun s => faces.foldl (fun s p => s.setPort p { s.port p with wbuf := [], reads := [] }) s |> fun s => { s with adm := { s.adm with jobq := [] } } |> fun s => { s with gal := { s.gal with asks := [⟨tag, 1, 0, 0⟩] }, res := { s.res with fetch := [] } }; s), by decide +kernel⟩

/-- Clauses of GalleryStream have states and operands that meet their conditions. -/
theorem test_conditions_GalleryStream_5 :
    (∃ (tag sub offset : Nat) (lines : List Line) (a : GalAsk) (n : Nat) (d : Line) (t : List Line) (s : State), s.chip ≠ .off ∧ s.galTakes = true ∧ s.gal.asks.find? (fun a => a.tag == tag) = some a ∧ sub = 0 ∧ a.line = n + 1 ∧ (s.repairOf a.sett n = none ∨ (s.repairOf a.sett n).isSome = true) ∧ s.dirty a.sett = true ∧ (s.slab (settSlab a.sett)).jobl = false ∧ s.preOpen = false ∧ lines = d :: t ∧ (∀ p ∈ faces, (s.port p).wbuf = [] ∧ (s.port p).reads = []) ∧ s.gal.held = [] ∧ s.adm.jobq = []) := by
  exact ⟨0, 0, 0, [5#512], { tag := 0, sett := 1, line := 1, got := 0 }, 0, 5#512, [], (let tag : Nat := 0; let s : State := open0; let s : State := let s : State := { s with svy := { s.svy with has := 0x38 :: s.svy.has, shadow := true, run := [(0x3800000, BitVec.ofNat 32 (6 + s.free % 2)), (0x3800004, BitVec.ofNat 32 4660), (0x3800008, (0x00100504 : Word)), (0x380000C, (7 : Word))].foldl (fun m p => SMap.put (0 : Word) p.1 p.2 m) s.svy.run } }; let s : State := { ((s.wr GAL_STATUS.MODE modePaired).wr GAL_STATUS.LINKS 3).wr (GAL_LINK.STATE 0) 2 |>.wr (GAL_LINK.STATE 1) 2 with chip := .opened, gal := { s.gal with hello := [true, true], joinStep := 0, held := [], sent := s.gal.sent.take 50, peerFenced := false, graceAt := 0, joinAt := 0 } }; let s : State := { s with dch := { s.dch with hard := [], repairs := [] }, adm := { s.adm with jobq := [] } }; (s) |> fun s => faces.foldl (fun s p => s.setPort p { s.port p with wbuf := [], reads := [] }) s |> fun s => { s with adm := { s.adm with jobq := [] } } |> fun s => { (s.setDirty 1) with gal := { s.gal with asks := [⟨tag, 1, (1 + s.free % 5), 0⟩] }, res := { s.res with fetch := [] } } |> fun s => if s.free % 2 = 0 then { s with dch := { s.dch with repairs := [⟨1, s.free % 5, 0, true, false, 0, false, 0⟩] } } else s; s), by decide +kernel⟩

/-- Clauses of GalleryJoinFirst have states and operands that meet their conditions. -/
theorem test_conditions_GalleryJoinFirst_1 :
    (∃ (seq sub sett chunk : Nat) (lines : List Line) (s : State), s.chip ≠ .off ∧ s.galTakes = true ∧ s.galPairs = true ∧ seq = s.rd GAL_RXSEQ.SEQ ∧ s.galFull = false ∧ s.galMode = modeRslvDst ∧ sub = 1 ∧ sett < slabCount * 64 ∧ (∀ p ∈ faces, (s.port p).wbuf = [] ∧ (s.port p).reads = []) ∧ s.haulOf sett = none) ∧
    (∃ (seq sub sett chunk : Nat) (lines : List Line) (s : State), s.chip ≠ .off ∧ s.galTakes = true ∧ s.galPairs = true ∧ seq = s.rd GAL_RXSEQ.SEQ ∧ s.galFull = false ∧ s.galMode = modeRslvDst ∧ sub = 2 ∧ sett < slabCount * 64 ∧ (∀ p ∈ faces, (s.port p).wbuf = [] ∧ (s.port p).reads = []) ∧ s.haulOf sett = none) ∧
    (∃ (seq sub sett chunk : Nat) (lines : List Line) (d : Line) (s : State), s.chip ≠ .off ∧ s.galTakes = true ∧ s.galPairs = true ∧ seq = s.rd GAL_RXSEQ.SEQ ∧ s.galFull = false ∧ s.galMode = modeRslvDst ∧ sub = 0 ∧ lines = [d] ∧ chunk < 64 ∧ s.dirty sett = true ∧ (s.slab (settSlab sett)).jobl = false ∧ (∀ p ∈ faces, (s.port p).wbuf = [] ∧ (s.port p).reads = []) ∧ s.gal.held = [] ∧ s.dch.repairs = [] ∧ s.adm.jobq = []) := by
  refine ⟨?_, ?_, ?_⟩
  · exact ⟨0, 1, 1, 0, [], (let s : State := open0; let s : State := let s : State := { s with svy := { s.svy with has := 0x38 :: s.svy.has, shadow := true, run := [(0x3800000, BitVec.ofNat 32 (6 + s.free % 2)), (0x3800004, BitVec.ofNat 32 4660), (0x3800008, (0x00100504 : Word)), (0x380000C, (7 : Word))].foldl (fun m p => SMap.put (0 : Word) p.1 p.2 m) s.svy.run } }; let s : State := { ((s.wr GAL_STATUS.MODE modeRslvDst).wr GAL_STATUS.LINKS 3).wr (GAL_LINK.STATE 0) 2 |>.wr (GAL_LINK.STATE 1) 2 with chip := .opened, gal := { s.gal with hello := [true, true], joinStep := 0, held := [], sent := s.gal.sent.take 50, peerFenced := false, graceAt := 0, joinAt := 0 } }; let s : State := { s with dch := { s.dch with hard := [], repairs := [] }, adm := { s.adm with jobq := [] } }; (s) |> fun s => faces.foldl (fun s p => s.setPort p { s.port p with wbuf := [], reads := [] }) s |> fun s => { s with adm := { s.adm with jobq := [] } } |> fun s => { s.setDirty 1 with slb := { s.slb with ift := [] } }; s), by decide +kernel⟩
  · exact ⟨0, 2, 1, 0, [], (let s : State := open0; let s : State := let s : State := { s with svy := { s.svy with has := 0x38 :: s.svy.has, shadow := true, run := [(0x3800000, BitVec.ofNat 32 (6 + s.free % 2)), (0x3800004, BitVec.ofNat 32 4660), (0x3800008, (0x00100504 : Word)), (0x380000C, (7 : Word))].foldl (fun m p => SMap.put (0 : Word) p.1 p.2 m) s.svy.run } }; let s : State := { ((s.wr GAL_STATUS.MODE modeRslvDst).wr GAL_STATUS.LINKS 3).wr (GAL_LINK.STATE 0) 2 |>.wr (GAL_LINK.STATE 1) 2 with chip := .opened, gal := { s.gal with hello := [true, true], joinStep := 0, held := [], sent := s.gal.sent.take 50, peerFenced := false, graceAt := 0, joinAt := 0 } }; let s : State := { s with dch := { s.dch with hard := [], repairs := [] }, adm := { s.adm with jobq := [] } }; (s) |> fun s => faces.foldl (fun s p => s.setPort p { s.port p with wbuf := [], reads := [] }) s |> fun s => { s with adm := { s.adm with jobq := [] } } |> fun s => { s.setDirty 1 with slb := { s.slb with ift := [] } }; s), by decide +kernel⟩
  · exact ⟨0, 0, 1, 3, [0x4d#512], 0x4d#512, (let s : State := open0; let s : State := let s : State := { s with svy := { s.svy with has := 0x38 :: s.svy.has, shadow := true, run := [(0x3800000, BitVec.ofNat 32 (6 + s.free % 2)), (0x3800004, BitVec.ofNat 32 4660), (0x3800008, (0x00100504 : Word)), (0x380000C, (7 : Word))].foldl (fun m p => SMap.put (0 : Word) p.1 p.2 m) s.svy.run } }; let s : State := { ((s.wr GAL_STATUS.MODE modeRslvDst).wr GAL_STATUS.LINKS 3).wr (GAL_LINK.STATE 0) 2 |>.wr (GAL_LINK.STATE 1) 2 with chip := .opened, gal := { s.gal with hello := [true, true], joinStep := 0, held := [], sent := s.gal.sent.take 50, peerFenced := false, graceAt := 0, joinAt := 0 } }; let s : State := { s with dch := { s.dch with hard := [], repairs := [] }, adm := { s.adm with jobq := [] } }; (s) |> fun s => faces.foldl (fun s p => s.setPort p { s.port p with wbuf := [], reads := [] }) s |> fun s => { s with adm := { s.adm with jobq := [] } } |> fun s => { s.setDirty 1 with slb := { s.slb with ift := [] } }; let s : State := s.setDirty 1; s), by decide +kernel⟩

/-- Clauses of GalleryJoinFirst have states and operands that meet their conditions. -/
theorem test_conditions_GalleryJoinFirst_2 :
    (∃ (seq slab : Nat) (s : State), s.chip ≠ .off ∧ s.galTakes = true ∧ s.galPairs = true ∧ seq = s.rd GAL_RXSEQ.SEQ ∧ s.galFull = false ∧ s.galMode = modeRslvDst ∧ slab < slabCount) ∧
    (∃ (slabs : List Nat) (last : Bool) (s : State), s.chip ≠ .off ∧ s.galTakes = true ∧ s.galMode = modeRslvSrc) ∧
    (∃ (slabs : List Nat) (last : Bool) (s : State), s.chip ≠ .off ∧ s.galTakes = true ∧ s.galMode = modeRslvDst ∧ slabs = [] ∧ last = true ∧ s.rd GAL_RSLV.SLABS = 0) := by
  refine ⟨?_, ?_, ?_⟩
  · exact ⟨0, 0, (let s : State := open0; let s : State := let s : State := { s with svy := { s.svy with has := 0x38 :: s.svy.has, shadow := true, run := [(0x3800000, BitVec.ofNat 32 (6 + s.free % 2)), (0x3800004, BitVec.ofNat 32 4660), (0x3800008, (0x00100504 : Word)), (0x380000C, (7 : Word))].foldl (fun m p => SMap.put (0 : Word) p.1 p.2 m) s.svy.run } }; let s : State := { ((s.wr GAL_STATUS.MODE modeRslvDst).wr GAL_STATUS.LINKS 3).wr (GAL_LINK.STATE 0) 2 |>.wr (GAL_LINK.STATE 1) 2 with chip := .opened, gal := { s.gal with hello := [true, true], joinStep := 0, held := [], sent := s.gal.sent.take 50, peerFenced := false, graceAt := 0, joinAt := 0 } }; let s : State := { s with dch := { s.dch with hard := [], repairs := [] }, adm := { s.adm with jobq := [] } }; (s) |> fun s => faces.foldl (fun s p => s.setPort p { s.port p with wbuf := [], reads := [] }) s |> fun s => { s with adm := { s.adm with jobq := [] } } |> fun s => s.setRslv 0; s), by decide +kernel⟩
  · exact ⟨[], false, (let s : State := open0; let s : State := let s : State := { s with svy := { s.svy with has := 0x38 :: s.svy.has, shadow := true, run := [(0x3800000, BitVec.ofNat 32 (6 + s.free % 2)), (0x3800004, BitVec.ofNat 32 4660), (0x3800008, (0x00100504 : Word)), (0x380000C, (7 : Word))].foldl (fun m p => SMap.put (0 : Word) p.1 p.2 m) s.svy.run } }; let s : State := { ((s.wr GAL_STATUS.MODE modeRslvSrc).wr GAL_STATUS.LINKS 3).wr (GAL_LINK.STATE 0) 2 |>.wr (GAL_LINK.STATE 1) 2 with chip := .opened, gal := { s.gal with hello := [true, true], joinStep := 0, held := [], sent := s.gal.sent.take 50, peerFenced := false, graceAt := 0, joinAt := 0 } }; let s : State := { s with dch := { s.dch with hard := [], repairs := [] }, adm := { s.adm with jobq := [] } }; (s) |> fun s => faces.foldl (fun s p => s.setPort p { s.port p with wbuf := [], reads := [] }) s |> fun s => { s with adm := { s.adm with jobq := [] } }; s), by decide +kernel⟩
  · exact ⟨[], true, (let s : State := open0; let s : State := let s : State := { s with svy := { s.svy with has := 0x38 :: s.svy.has, shadow := true, run := [(0x3800000, BitVec.ofNat 32 (6 + s.free % 2)), (0x3800004, BitVec.ofNat 32 4660), (0x3800008, (0x00100504 : Word)), (0x380000C, (7 : Word))].foldl (fun m p => SMap.put (0 : Word) p.1 p.2 m) s.svy.run } }; let s : State := { ((s.wr GAL_STATUS.MODE modeRslvDst).wr GAL_STATUS.LINKS 3).wr (GAL_LINK.STATE 0) 2 |>.wr (GAL_LINK.STATE 1) 2 with chip := .opened, gal := { s.gal with hello := [true, true], joinStep := 0, held := [], sent := s.gal.sent.take 50, peerFenced := false, graceAt := 0, joinAt := 0 } }; let s : State := { s with dch := { s.dch with hard := [], repairs := [] }, adm := { s.adm with jobq := [] } }; (s) |> fun s => faces.foldl (fun s p => s.setPort p { s.port p with wbuf := [], reads := [] }) s |> fun s => { s with adm := { s.adm with jobq := [] } } |> fun s => s.wr GAL_RSLV.SLABS 0; s), by decide +kernel⟩

/-- Clauses of GalleryJoinFirst have states and operands that meet their conditions. -/
theorem test_conditions_GalleryJoinFirst_3 :
    (∃ (lines : List (Nat × Nat)) (last : Bool) (s : State), s.chip ≠ .off ∧ s.galTakes = true ∧ s.gal.joinStep = 1 ∧ s.gal.listGot = false ∧ last = false) ∧
    (∃ (lines : List (Nat × Nat)) (last : Bool) (s : State), s.chip ≠ .off ∧ s.galTakes = true ∧ s.gal.joinStep = 1 ∧ s.gal.listGot = false ∧ last = true) ∧
    (∃ (seq face dpa : Nat) (data : Line) (poison : Bool) (k : Nat) (l : Nat) (s : State), s.chip ≠ .off ∧ s.galTakes = true ∧ s.galPairs = true ∧ seq = s.rd GAL_RXSEQ.SEQ ∧ s.galFull = false ∧ s.mapLine face dpa = some (k, l) ∧ s.dirty k = true ∧ (s.slab (settSlab k)).jobl = false ∧ (∀ p ∈ faces, (s.port p).wbuf = [] ∧ (s.port p).reads = []) ∧ s.gal.held = [] ∧ s.dch.repairs = [] ∧ s.adm.jobq = [] ∧ poison = false ∧ s.preOpen = false) := by
  refine ⟨?_, ?_, ?_⟩
  · exact ⟨[], false, (let s : State := open0; let s : State := let s : State := { s with svy := { s.svy with has := 0x38 :: s.svy.has, shadow := true, run := [(0x3800000, BitVec.ofNat 32 (6 + s.free % 2)), (0x3800004, BitVec.ofNat 32 4660), (0x3800008, (0x00100504 : Word)), (0x380000C, (7 : Word))].foldl (fun m p => SMap.put (0 : Word) p.1 p.2 m) s.svy.run } }; let s : State := { ((s.wr GAL_STATUS.MODE modePaired).wr GAL_STATUS.LINKS 3).wr (GAL_LINK.STATE 0) 2 |>.wr (GAL_LINK.STATE 1) 2 with chip := .opened, gal := { s.gal with hello := [true, true], joinStep := 1, held := [], sent := s.gal.sent.take 50, peerFenced := false, graceAt := 0, joinAt := 0 } }; let s : State := { s with dch := { s.dch with hard := [], repairs := [] }, adm := { s.adm with jobq := [] } }; (s) |> fun s => faces.foldl (fun s p => s.setPort p { s.port p with wbuf := [], reads := [] }) s |> fun s => { s with adm := { s.adm with jobq := [] } } |> fun s => { s with gal := { s.gal with listGot := false, lines := [(0, 64)] } }; s), by decide +kernel⟩
  · exact ⟨[], true, (let s : State := open0; let s : State := let s : State := { s with svy := { s.svy with has := 0x38 :: s.svy.has, shadow := true, run := [(0x3800000, BitVec.ofNat 32 (6 + s.free % 2)), (0x3800004, BitVec.ofNat 32 4660), (0x3800008, (0x00100504 : Word)), (0x380000C, (7 : Word))].foldl (fun m p => SMap.put (0 : Word) p.1 p.2 m) s.svy.run } }; let s : State := { ((s.wr GAL_STATUS.MODE modePaired).wr GAL_STATUS.LINKS 3).wr (GAL_LINK.STATE 0) 2 |>.wr (GAL_LINK.STATE 1) 2 with chip := .opened, gal := { s.gal with hello := [true, true], joinStep := 1, held := [], sent := s.gal.sent.take 50, peerFenced := false, graceAt := 0, joinAt := 0 } }; let s : State := { s with dch := { s.dch with hard := [], repairs := [] }, adm := { s.adm with jobq := [] } }; (s) |> fun s => faces.foldl (fun s p => s.setPort p { s.port p with wbuf := [], reads := [] }) s |> fun s => { s with adm := { s.adm with jobq := [] } } |> fun s => { s with gal := { s.gal with listGot := false, lines := [(0, 64)] } }; s), by decide +kernel⟩
  · exact ⟨0, 0, 0, 0#512, false, 0, 0, (let face : Nat := 0; let dpa : Nat := 0; let s : State := open0; let s : State := let s : State := { s with svy := { s.svy with has := 0x38 :: s.svy.has, shadow := true, run := [(0x3800000, BitVec.ofNat 32 (6 + s.free % 2)), (0x3800004, BitVec.ofNat 32 4660), (0x3800008, (0x00100504 : Word)), (0x380000C, (7 : Word))].foldl (fun m p => SMap.put (0 : Word) p.1 p.2 m) s.svy.run } }; let s : State := { ((s.wr GAL_STATUS.MODE modePaired).wr GAL_STATUS.LINKS 3).wr (GAL_LINK.STATE 0) 2 |>.wr (GAL_LINK.STATE 1) 2 with chip := .opened, gal := { s.gal with hello := [true, true], joinStep := 1, held := [], sent := s.gal.sent.take 50, peerFenced := false, graceAt := 0, joinAt := 0 } }; let s : State := { s with dch := { s.dch with hard := [], repairs := [] }, adm := { s.adm with jobq := [] } }; (s) |> fun s => faces.foldl (fun s p => s.setPort p { s.port p with wbuf := [], reads := [] }) s |> fun s => { s with adm := { s.adm with jobq := [] } } |> fun s => { ((s.mapLine face dpa).map (fun p => s.setDirty p.1)).getD s with gal := { s.gal with lineWait := [(0, 64), (0, 128)] } }; s), by decide +kernel⟩

/-- Clauses of GalleryJoinSecond have states and operands that meet their conditions. -/
theorem test_conditions_GalleryJoinSecond_1 :
    (∃ (devs : SMap Nat) (i : Nat) (s : State), s.chip ≠ .off ∧ s.galTakes = true ∧ s.galMode = modeRslvSrc ∧ s.on GAL_CTL.RSLV_EN = true ∧ s.gal.rslvQuota < s.rd GAL_RSLV_RATE.SETTS ∧ s.gal.sent.length + 1100 ≤ 65536 ∧ s.canPay 4 1 false = true ∧ s.nextRslv = some i ∧ s.gal.rslvSlab = i ∧ s.gal.rslvSett < 63 ∧ s.settHome (i * 64 + s.gal.rslvSett) = true ∧ (s.settState (i * 64 + s.gal.rslvSett) = .zero ∨ s.settState (i * 64 + s.gal.rslvSett) = .lost) ∧ s.dch.repairs = [] ∧ (∀ p ∈ faces, (s.port p).wbuf = [] ∧ (s.port p).reads = [])) ∧
    (∃ (sub : Nat) (s : State), s.chip ≠ .off ∧ s.galTakes = true ∧ s.galMode = modePaired) ∧
    (∃ (sub : Nat) (s : State), s.chip ≠ .off ∧ s.galTakes = true ∧ s.galMode = modeRslvDst) := by
  refine ⟨?_, ?_, ?_⟩
  · exact ⟨[], 7, (let s : State := open0; let s : State := let s : State := { s with svy := { s.svy with has := 0x38 :: s.svy.has, shadow := true, run := [(0x3800000, BitVec.ofNat 32 (6 + s.free % 2)), (0x3800004, BitVec.ofNat 32 4660), (0x3800008, (0x00100504 : Word)), (0x380000C, (7 : Word))].foldl (fun m p => SMap.put (0 : Word) p.1 p.2 m) s.svy.run } }; let s : State := { ((s.wr GAL_STATUS.MODE modeRslvSrc).wr GAL_STATUS.LINKS 3).wr (GAL_LINK.STATE 0) 2 |>.wr (GAL_LINK.STATE 1) 2 with chip := .opened, gal := { s.gal with hello := [true, true], joinStep := 0, held := [], sent := s.gal.sent.take 50, peerFenced := false, graceAt := 0, joinAt := 0 } }; let s : State := { s with dch := { s.dch with hard := [], repairs := [] }, adm := { s.adm with jobq := [] } }; (s) |> fun s => faces.foldl (fun s p => s.setPort p { s.port p with wbuf := [], reads := [] }) s |> fun s => { s with adm := { s.adm with jobq := [] } } |> fun s => { (s.setRslv 7).wr GAL_CTL.RSLV_EN 1 |>.wr GAL_RSLV_RATE.SETTS 9 |>.wr (ADM_CLS.BUCKET 4) 9 |>.setRstate 7 0 with gal := { s.gal with rslvSlab := 7, rslvSett := s.free % 63, rslvQuota := s.free % 9 } } |> fun s => { s with slb := { s.slb with slabs := s.slb.slabs.filter (fun p => p.1 == 7) } } |> fun s => if s.free % 2 = 0 then s else s.setLoc (7 * 64 + s.gal.rslvSett) locLost; s), by decide +kernel⟩
  · exact ⟨0, (let s : State := open0; let s : State := let s : State := { s with svy := { s.svy with has := 0x38 :: s.svy.has, shadow := true, run := [(0x3800000, BitVec.ofNat 32 (6 + s.free % 2)), (0x3800004, BitVec.ofNat 32 4660), (0x3800008, (0x00100504 : Word)), (0x380000C, (7 : Word))].foldl (fun m p => SMap.put (0 : Word) p.1 p.2 m) s.svy.run } }; let s : State := { ((s.wr GAL_STATUS.MODE modePaired).wr GAL_STATUS.LINKS 3).wr (GAL_LINK.STATE 0) 2 |>.wr (GAL_LINK.STATE 1) 2 with chip := .opened, gal := { s.gal with hello := [true, true], joinStep := 0, held := [], sent := s.gal.sent.take 50, peerFenced := false, graceAt := 0, joinAt := 0 } }; let s : State := { s with dch := { s.dch with hard := [], repairs := [] }, adm := { s.adm with jobq := [] } }; (s) |> fun s => faces.foldl (fun s p => s.setPort p { s.port p with wbuf := [], reads := [] }) s |> fun s => { s with adm := { s.adm with jobq := [] } }; s), by decide +kernel⟩
  · exact ⟨0, (let s : State := open0; let s : State := let s : State := { s with svy := { s.svy with has := 0x38 :: s.svy.has, shadow := true, run := [(0x3800000, BitVec.ofNat 32 (6 + s.free % 2)), (0x3800004, BitVec.ofNat 32 4660), (0x3800008, (0x00100504 : Word)), (0x380000C, (7 : Word))].foldl (fun m p => SMap.put (0 : Word) p.1 p.2 m) s.svy.run } }; let s : State := { ((s.wr GAL_STATUS.MODE modeRslvDst).wr GAL_STATUS.LINKS 3).wr (GAL_LINK.STATE 0) 2 |>.wr (GAL_LINK.STATE 1) 2 with chip := .opened, gal := { s.gal with hello := [true, true], joinStep := 0, held := [], sent := s.gal.sent.take 50, peerFenced := false, graceAt := 0, joinAt := 0 } }; let s : State := { s with dch := { s.dch with hard := [], repairs := [] }, adm := { s.adm with jobq := [] } }; (s) |> fun s => faces.foldl (fun s p => s.setPort p { s.port p with wbuf := [], reads := [] }) s |> fun s => { s with adm := { s.adm with jobq := [] } }; s), by decide +kernel⟩

/-- Clauses of GalleryJoinSecond have states and operands that meet their conditions. -/
theorem test_conditions_GalleryJoinSecond_2 :
    (∃ (s : State), s.chip ≠ .off ∧ s.working = true ∧ s.gal.graceAt ≠ 0 ∧ s.galUp = false ∧ s.twinA = true) ∧
    (∃ (s : State), s.chip ≠ .off ∧ s.working = true ∧ s.gal.graceAt ≠ 0 ∧ s.galUp = false ∧ s.twinA = false ∧ s.gal.seen ≠ 3) ∧
    (∃ (s : State), s.chip ≠ .off ∧ s.galMode = modeJoining ∧ s.gal.joinAt ≠ 0 ∧ s.gal.seen = 0) := by
  refine ⟨?_, ?_, ?_⟩
  · exact ⟨(let s : State := open0; let s : State := let s : State := { s with svy := { s.svy with has := 0x38 :: s.svy.has, shadow := true, run := [(0x3800000, BitVec.ofNat 32 (6 + s.free % 2)), (0x3800004, BitVec.ofNat 32 4660), (0x3800008, (0x00100504 : Word)), (0x380000C, (7 : Word))].foldl (fun m p => SMap.put (0 : Word) p.1 p.2 m) s.svy.run } }; let s : State := { ((s.wr GAL_STATUS.MODE (1 + s.free / 2 % 2)).wr GAL_STATUS.LINKS 3).wr (GAL_LINK.STATE 0) 2 |>.wr (GAL_LINK.STATE 1) 2 with chip := .opened, gal := { s.gal with hello := [true, true], joinStep := 0, held := [], sent := s.gal.sent.take 50, peerFenced := false, graceAt := 0, joinAt := 0 } }; let s : State := { s with dch := { s.dch with hard := [], repairs := [] }, adm := { s.adm with jobq := [] } }; (s) |> fun s => faces.foldl (fun s p => s.setPort p { s.port p with wbuf := [], reads := [] }) s |> fun s => { s with adm := { s.adm with jobq := [] } } |> fun s => { s.wr GAL_STATUS.LINKS 0 with gal := { s.gal with graceAt := 4, seen := s.free / 3 % 5 } }; s), by decide +kernel⟩
  · exact ⟨(let s : State := { open0 with free := 1 }; let s : State := let s : State := { s with svy := { s.svy with has := 0x38 :: s.svy.has, shadow := true, run := [(0x3800000, BitVec.ofNat 32 (6 + s.free % 2)), (0x3800004, BitVec.ofNat 32 4660), (0x3800008, (0x00100504 : Word)), (0x380000C, (7 : Word))].foldl (fun m p => SMap.put (0 : Word) p.1 p.2 m) s.svy.run } }; let s : State := { ((s.wr GAL_STATUS.MODE (1 + s.free / 2 % 2)).wr GAL_STATUS.LINKS 3).wr (GAL_LINK.STATE 0) 2 |>.wr (GAL_LINK.STATE 1) 2 with chip := .opened, gal := { s.gal with hello := [true, true], joinStep := 0, held := [], sent := s.gal.sent.take 50, peerFenced := false, graceAt := 0, joinAt := 0 } }; let s : State := { s with dch := { s.dch with hard := [], repairs := [] }, adm := { s.adm with jobq := [] } }; (s) |> fun s => faces.foldl (fun s p => s.setPort p { s.port p with wbuf := [], reads := [] }) s |> fun s => { s with adm := { s.adm with jobq := [] } } |> fun s => { s.wr GAL_STATUS.LINKS 0 with gal := { s.gal with graceAt := 4, seen := s.free / 3 % 5 } }; s), by decide +kernel⟩
  · exact ⟨(let s : State := open0; let s : State := let s : State := { s with svy := { s.svy with has := 0x38 :: s.svy.has, shadow := true, run := [(0x3800000, BitVec.ofNat 32 (6 + s.free % 2)), (0x3800004, BitVec.ofNat 32 4660), (0x3800008, (0x00100504 : Word)), (0x380000C, (7 : Word))].foldl (fun m p => SMap.put (0 : Word) p.1 p.2 m) s.svy.run } }; let s : State := { ((s.wr GAL_STATUS.MODE modeJoining).wr GAL_STATUS.LINKS 3).wr (GAL_LINK.STATE 0) 2 |>.wr (GAL_LINK.STATE 1) 2 with chip := .opened, gal := { s.gal with hello := [true, true], joinStep := 0, held := [], sent := s.gal.sent.take 50, peerFenced := false, graceAt := 0, joinAt := 0 } }; let s : State := { s with dch := { s.dch with hard := [], repairs := [] }, adm := { s.adm with jobq := [] } }; (s) |> fun s => faces.foldl (fun s p => s.setPort p { s.port p with wbuf := [], reads := [] }) s |> fun s => { s with adm := { s.adm with jobq := [] } } |> fun s => { s.wr GAL_STATUS.LINKS 0 with gal := { s.gal with joinAt := 4, seen := 0 } }; s), by decide +kernel⟩

/-- Clauses of GalleryJoinSecond have states and operands that meet their conditions. -/
theorem test_conditions_GalleryJoinSecond_3 :
    (∃ (s : State), s.chip ≠ .off ∧ s.galMode = modeJoining ∧ s.gal.joinAt ≠ 0 ∧ s.gal.seen = 1) ∧
    (∃ (key : Word) (s : State), s.chip ≠ .off ∧ s.woLive GAL_TAKEOVER.KEY.addr = true ∧ s.hubOn = true ∧ key = 0x54414B45 ∧ (s.galMode = modeFenced ∨ s.on GAL_STATUS.DIVERGED = true)) ∧
    (∃ (key : Word) (s : State), s.chip ≠ .off ∧ s.woLive GAL_TAKEOVER.KEY.addr = true ∧ key ≠ 0x54414B45) := by
  refine ⟨?_, ?_, ?_⟩
  · exact ⟨(let s : State := open0; let s : State := let s : State := { s with svy := { s.svy with has := 0x38 :: s.svy.has, shadow := true, run := [(0x3800000, BitVec.ofNat 32 (6 + s.free % 2)), (0x3800004, BitVec.ofNat 32 4660), (0x3800008, (0x00100504 : Word)), (0x380000C, (7 : Word))].foldl (fun m p => SMap.put (0 : Word) p.1 p.2 m) s.svy.run } }; let s : State := { ((s.wr GAL_STATUS.MODE modeJoining).wr GAL_STATUS.LINKS 3).wr (GAL_LINK.STATE 0) 2 |>.wr (GAL_LINK.STATE 1) 2 with chip := .opened, gal := { s.gal with hello := [true, true], joinStep := 0, held := [], sent := s.gal.sent.take 50, peerFenced := false, graceAt := 0, joinAt := 0 } }; let s : State := { s with dch := { s.dch with hard := [], repairs := [] }, adm := { s.adm with jobq := [] } }; (s) |> fun s => faces.foldl (fun s p => s.setPort p { s.port p with wbuf := [], reads := [] }) s |> fun s => { s with adm := { s.adm with jobq := [] } } |> fun s => { s.wr GAL_STATUS.LINKS 0 with gal := { s.gal with joinAt := 4, seen := 1 } }; s), by decide +kernel⟩
  · exact ⟨0x54414b45#32, (let s : State := open0; let s : State := (islandsOf (GAL_TAKEOVER.KEY.addr)).foldl (fun s n => s.wr (CLK_ISL.STATE n) 2) s; let s : State := s.wr GAL_STATUS.MODE modeFenced; s), by decide +kernel⟩
  · exact ⟨0#32, (let s : State := open0; let s : State := (islandsOf (GAL_TAKEOVER.KEY.addr)).foldl (fun s n => s.wr (CLK_ISL.STATE n) 2) s; s), by decide +kernel⟩

/-- Clauses of GalleryControl have states and operands that meet their conditions. -/
theorem test_conditions_GalleryControl_1 :
    (∃ (seq face first : Nat) (pool : List Nat) (s : State), s.chip ≠ .off ∧ s.galTakes = true ∧ s.galPairs = true ∧ seq = s.rd GAL_RXSEQ.SEQ ∧ s.galFull = false ∧ face < 6 ∧ (s.port face).extents.length < 512 ∧ pool.all (fun b => s.dcFree.contains b && s.blockZero b) = true ∧ (s.dcPlaces face pool.length).contains first = true) ∧
    (∃ (seq face first : Nat) (pool : List Nat) (s : State), s.chip ≠ .off ∧ s.galTakes = true ∧ s.galPairs = true ∧ seq = s.rd GAL_RXSEQ.SEQ ∧ s.galFull = false ∧ face < 6 ∧ (s.dcPlaces face pool.length).contains first = false) ∧
    (∃ (seq face block count : Nat) (s : State), s.chip ≠ .off ∧ s.galTakes = true ∧ s.galPairs = true ∧ seq = s.rd GAL_RXSEQ.SEQ ∧ s.galFull = false ∧ face < 6 ∧ s.dcHolds face block count = false) := by
  refine ⟨?_, ?_, ?_⟩
  · exact ⟨0, 0, 8, [64], (let s : State := open0; let s : State := let s : State := { s with svy := { s.svy with has := 0x38 :: s.svy.has, shadow := true, run := [(0x3800000, BitVec.ofNat 32 (6 + s.free % 2)), (0x3800004, BitVec.ofNat 32 4660), (0x3800008, (0x00100504 : Word)), (0x380000C, (7 : Word))].foldl (fun m p => SMap.put (0 : Word) p.1 p.2 m) s.svy.run } }; let s : State := { ((s.wr GAL_STATUS.MODE modePaired).wr GAL_STATUS.LINKS 3).wr (GAL_LINK.STATE 0) 2 |>.wr (GAL_LINK.STATE 1) 2 with chip := .opened, gal := { s.gal with hello := [true, true], joinStep := 0, held := [], sent := s.gal.sent.take 50, peerFenced := false, graceAt := 0, joinAt := 0 } }; let s : State := { s with dch := { s.dch with hard := [], repairs := [] }, adm := { s.adm with jobq := [] } }; (s) |> fun s => faces.foldl (fun s p => s.setPort p { s.port p with wbuf := [], reads := [] }) s |> fun s => { s with adm := { s.adm with jobq := [] } } |> fun s => { s.setPort 0 { s.port 0 with extents := [] } with svy := { s.svy with has := 0x13 :: s.svy.has, run := [(0x1300000, (1 : Word)), (0x1300008, BitVec.ofNat 32 (64 + 65536 * 8)), (0x1200008, BitVec.ofNat 32 (8 + 65536 * 8))].foldl (fun m p => SMap.put (0 : Word) p.1 p.2 m) s.svy.run } }; s), by decide +kernel⟩
  · exact ⟨0, 0, 0, [], (let s : State := open0; let s : State := let s : State := { s with svy := { s.svy with has := 0x38 :: s.svy.has, shadow := true, run := [(0x3800000, BitVec.ofNat 32 (6 + s.free % 2)), (0x3800004, BitVec.ofNat 32 4660), (0x3800008, (0x00100504 : Word)), (0x380000C, (7 : Word))].foldl (fun m p => SMap.put (0 : Word) p.1 p.2 m) s.svy.run } }; let s : State := { ((s.wr GAL_STATUS.MODE modePaired).wr GAL_STATUS.LINKS 3).wr (GAL_LINK.STATE 0) 2 |>.wr (GAL_LINK.STATE 1) 2 with chip := .opened, gal := { s.gal with hello := [true, true], joinStep := 0, held := [], sent := s.gal.sent.take 50, peerFenced := false, graceAt := 0, joinAt := 0 } }; let s : State := { s with dch := { s.dch with hard := [], repairs := [] }, adm := { s.adm with jobq := [] } }; (s) |> fun s => faces.foldl (fun s p => s.setPort p { s.port p with wbuf := [], reads := [] }) s |> fun s => { s with adm := { s.adm with jobq := [] } }; s), by decide +kernel⟩
  · exact ⟨0, 0, 0, 0, (let s : State := open0; let s : State := let s : State := { s with svy := { s.svy with has := 0x38 :: s.svy.has, shadow := true, run := [(0x3800000, BitVec.ofNat 32 (6 + s.free % 2)), (0x3800004, BitVec.ofNat 32 4660), (0x3800008, (0x00100504 : Word)), (0x380000C, (7 : Word))].foldl (fun m p => SMap.put (0 : Word) p.1 p.2 m) s.svy.run } }; let s : State := { ((s.wr GAL_STATUS.MODE modePaired).wr GAL_STATUS.LINKS 3).wr (GAL_LINK.STATE 0) 2 |>.wr (GAL_LINK.STATE 1) 2 with chip := .opened, gal := { s.gal with hello := [true, true], joinStep := 0, held := [], sent := s.gal.sent.take 50, peerFenced := false, graceAt := 0, joinAt := 0 } }; let s : State := { s with dch := { s.dch with hard := [], repairs := [] }, adm := { s.adm with jobq := [] } }; (s) |> fun s => faces.foldl (fun s p => s.setPort p { s.port p with wbuf := [], reads := [] }) s |> fun s => { s with adm := { s.adm with jobq := [] } }; s), by decide +kernel⟩

/-- Clauses of GalleryControl have states and operands that meet their conditions. -/
theorem test_conditions_GalleryControl_2 :
    (∃ (seq face block count : Nat) (s : State), s.chip ≠ .off ∧ s.galTakes = true ∧ s.galPairs = true ∧ seq = s.rd GAL_RXSEQ.SEQ ∧ s.galFull = false ∧ face < 6 ∧ s.dcHolds face block count = true ∧ (∀ p ∈ faces, (s.port p).wbuf = [] ∧ (s.port p).reads = [])) ∧
    (∃ (seq face : Nat) (s : State), s.chip ≠ .off ∧ s.galTakes = true ∧ s.galPairs = true ∧ seq = s.rd GAL_RXSEQ.SEQ ∧ s.galFull = false ∧ face < 6) ∧
    (∃ (seq face opcode : Nat) (s : State), s.chip ≠ .off ∧ s.galTakes = true ∧ s.galPairs = true ∧ seq = s.rd GAL_RXSEQ.SEQ ∧ s.galFull = false ∧ face < 6 ∧ (s.port face).erasing = none) := by
  refine ⟨?_, ?_, ?_⟩
  · exact ⟨0, 0, 8, 1, (let s : State := open0; let s : State := let s : State := { s with svy := { s.svy with has := 0x38 :: s.svy.has, shadow := true, run := [(0x3800000, BitVec.ofNat 32 (6 + s.free % 2)), (0x3800004, BitVec.ofNat 32 4660), (0x3800008, (0x00100504 : Word)), (0x380000C, (7 : Word))].foldl (fun m p => SMap.put (0 : Word) p.1 p.2 m) s.svy.run } }; let s : State := { ((s.wr GAL_STATUS.MODE modePaired).wr GAL_STATUS.LINKS 3).wr (GAL_LINK.STATE 0) 2 |>.wr (GAL_LINK.STATE 1) 2 with chip := .opened, gal := { s.gal with hello := [true, true], joinStep := 0, held := [], sent := s.gal.sent.take 50, peerFenced := false, graceAt := 0, joinAt := 0 } }; let s : State := { s with dch := { s.dch with hard := [], repairs := [] }, adm := { s.adm with jobq := [] } }; (s) |> fun s => faces.foldl (fun s p => s.setPort p { s.port p with wbuf := [], reads := [] }) s |> fun s => { s with adm := { s.adm with jobq := [] } } |> fun s => s.setPort 0 { s.port 0 with reads := [], extents := [⟨8, [64, 65, 66], true, s.tick⟩] } |> fun s => s.setPort 0 { s.port 0 with wbuf := [] }; s), by decide +kernel⟩
  · exact ⟨0, 0, (let s : State := open0; let s : State := let s : State := { s with svy := { s.svy with has := 0x38 :: s.svy.has, shadow := true, run := [(0x3800000, BitVec.ofNat 32 (6 + s.free % 2)), (0x3800004, BitVec.ofNat 32 4660), (0x3800008, (0x00100504 : Word)), (0x380000C, (7 : Word))].foldl (fun m p => SMap.put (0 : Word) p.1 p.2 m) s.svy.run } }; let s : State := { ((s.wr GAL_STATUS.MODE modePaired).wr GAL_STATUS.LINKS 3).wr (GAL_LINK.STATE 0) 2 |>.wr (GAL_LINK.STATE 1) 2 with chip := .opened, gal := { s.gal with hello := [true, true], joinStep := 0, held := [], sent := s.gal.sent.take 50, peerFenced := false, graceAt := 0, joinAt := 0 } }; let s : State := { s with dch := { s.dch with hard := [], repairs := [] }, adm := { s.adm with jobq := [] } }; (s) |> fun s => faces.foldl (fun s p => s.setPort p { s.port p with wbuf := [], reads := [] }) s |> fun s => { s with adm := { s.adm with jobq := [] } } |> fun s => s.setDirty 1; s), by decide +kernel⟩
  · exact ⟨0, 0, 0, (let s : State := open0; let s : State := let s : State := { s with svy := { s.svy with has := 0x38 :: s.svy.has, shadow := true, run := [(0x3800000, BitVec.ofNat 32 (6 + s.free % 2)), (0x3800004, BitVec.ofNat 32 4660), (0x3800008, (0x00100504 : Word)), (0x380000C, (7 : Word))].foldl (fun m p => SMap.put (0 : Word) p.1 p.2 m) s.svy.run } }; let s : State := { ((s.wr GAL_STATUS.MODE modePaired).wr GAL_STATUS.LINKS 3).wr (GAL_LINK.STATE 0) 2 |>.wr (GAL_LINK.STATE 1) 2 with chip := .opened, gal := { s.gal with hello := [true, true], joinStep := 0, held := [], sent := s.gal.sent.take 50, peerFenced := false, graceAt := 0, joinAt := 0 } }; let s : State := { s with dch := { s.dch with hard := [], repairs := [] }, adm := { s.adm with jobq := [] } }; (s) |> fun s => faces.foldl (fun s p => s.setPort p { s.port p with wbuf := [], reads := [] }) s |> fun s => { s with adm := { s.adm with jobq := [] } } |> fun s => s.setPort 0 { s.port 0 with erasing := none }; s), by decide +kernel⟩

/-- Clauses of GalleryControl have states and operands that meet their conditions. -/
theorem test_conditions_GalleryControl_3 :
    (∃ (seq face opcode : Nat) (s : State), s.chip ≠ .off ∧ s.galTakes = true ∧ s.galPairs = true ∧ seq = s.rd GAL_RXSEQ.SEQ ∧ s.galFull = false ∧ face < 6 ∧ (s.port face).erasing.isSome = true) ∧
    (∃ (seq face offset : Nat) (bytes : List Byte) (ok0 ok36 : Bool) (s : State), s.chip ≠ .off ∧ s.galTakes = true ∧ s.galPairs = true ∧ seq = s.rd GAL_RXSEQ.SEQ ∧ s.galFull = false ∧ face < 6 ∧ (s.healthProgram ok0 ok36).1 = true) ∧
    (∃ (seq face offset : Nat) (bytes : List Byte) (ok0 ok36 : Bool) (s : State), s.chip ≠ .off ∧ s.galTakes = true ∧ s.galPairs = true ∧ seq = s.rd GAL_RXSEQ.SEQ ∧ s.galFull = false ∧ face < 6 ∧ (s.healthProgram ok0 ok36).1 = false) := by
  refine ⟨?_, ?_, ?_⟩
  · exact ⟨0, 0, 0, (let s : State := open0; let s : State := let s : State := { s with svy := { s.svy with has := 0x38 :: s.svy.has, shadow := true, run := [(0x3800000, BitVec.ofNat 32 (6 + s.free % 2)), (0x3800004, BitVec.ofNat 32 4660), (0x3800008, (0x00100504 : Word)), (0x380000C, (7 : Word))].foldl (fun m p => SMap.put (0 : Word) p.1 p.2 m) s.svy.run } }; let s : State := { ((s.wr GAL_STATUS.MODE modePaired).wr GAL_STATUS.LINKS 3).wr (GAL_LINK.STATE 0) 2 |>.wr (GAL_LINK.STATE 1) 2 with chip := .opened, gal := { s.gal with hello := [true, true], joinStep := 0, held := [], sent := s.gal.sent.take 50, peerFenced := false, graceAt := 0, joinAt := 0 } }; let s : State := { s with dch := { s.dch with hard := [], repairs := [] }, adm := { s.adm with jobq := [] } }; (s) |> fun s => faces.foldl (fun s p => s.setPort p { s.port p with wbuf := [], reads := [] }) s |> fun s => { s with adm := { s.adm with jobq := [] } } |> fun s => s.setPort 0 { s.port 0 with erasing := some ⟨0x4401, 1, false⟩ }; s), by decide +kernel⟩
  · exact ⟨0, 0, 0, [], true, false, (let s : State := open0; let s : State := let s : State := { s with svy := { s.svy with has := 0x38 :: s.svy.has, shadow := true, run := [(0x3800000, BitVec.ofNat 32 (6 + s.free % 2)), (0x3800004, BitVec.ofNat 32 4660), (0x3800008, (0x00100504 : Word)), (0x380000C, (7 : Word))].foldl (fun m p => SMap.put (0 : Word) p.1 p.2 m) s.svy.run } }; let s : State := { ((s.wr GAL_STATUS.MODE modePaired).wr GAL_STATUS.LINKS 3).wr (GAL_LINK.STATE 0) 2 |>.wr (GAL_LINK.STATE 1) 2 with chip := .opened, gal := { s.gal with hello := [true, true], joinStep := 0, held := [], sent := s.gal.sent.take 50, peerFenced := false, graceAt := 0, joinAt := 0 } }; let s : State := { s with dch := { s.dch with hard := [], repairs := [] }, adm := { s.adm with jobq := [] } }; (s) |> fun s => faces.foldl (fun s p => s.setPort p { s.port p with wbuf := [], reads := [] }) s |> fun s => { s with adm := { s.adm with jobq := [] } }; s), by decide +kernel⟩
  · exact ⟨0, 0, 0, [], false, false, (let s : State := open0; let s : State := let s : State := { s with svy := { s.svy with has := 0x38 :: s.svy.has, shadow := true, run := [(0x3800000, BitVec.ofNat 32 (6 + s.free % 2)), (0x3800004, BitVec.ofNat 32 4660), (0x3800008, (0x00100504 : Word)), (0x380000C, (7 : Word))].foldl (fun m p => SMap.put (0 : Word) p.1 p.2 m) s.svy.run } }; let s : State := { ((s.wr GAL_STATUS.MODE modePaired).wr GAL_STATUS.LINKS 3).wr (GAL_LINK.STATE 0) 2 |>.wr (GAL_LINK.STATE 1) 2 with chip := .opened, gal := { s.gal with hello := [true, true], joinStep := 0, held := [], sent := s.gal.sent.take 50, peerFenced := false, graceAt := 0, joinAt := 0 } }; let s : State := { s with dch := { s.dch with hard := [], repairs := [] }, adm := { s.adm with jobq := [] } }; (s) |> fun s => faces.foldl (fun s p => s.setPort p { s.port p with wbuf := [], reads := [] }) s |> fun s => { s with adm := { s.adm with jobq := [] } }; s), by decide +kernel⟩

/-- Clauses of GalleryControl have states and operands that meet their conditions. -/
theorem test_conditions_GalleryControl_4 :
    (∃ (seq face value : Nat) (ok0 ok36 : Bool) (s : State), s.chip ≠ .off ∧ s.galTakes = true ∧ s.galPairs = true ∧ seq = s.rd GAL_RXSEQ.SEQ ∧ s.galFull = false ∧ face < 6 ∧ (s.healthProgram ok0 ok36).1 = true) ∧
    (∃ (seq face value : Nat) (ok0 ok36 : Bool) (s : State), s.chip ≠ .off ∧ s.galTakes = true ∧ s.galPairs = true ∧ seq = s.rd GAL_RXSEQ.SEQ ∧ s.galFull = false ∧ face < 6 ∧ (s.healthProgram ok0 ok36).1 = false) ∧
    (∃ (seq sub face : Nat) (ok : Bool) (c : GalCtl) (s : State), s.chip ≠ .off ∧ s.galTakes = true ∧ s.galPairs = true ∧ seq = s.rd GAL_RXSEQ.SEQ ∧ s.galFull = false ∧ s.gal.ctls.find? (fun c => c.sub == sub && c.face == face) = some c) := by
  refine ⟨?_, ?_, ?_⟩
  · exact ⟨0, 0, 0, true, false, (let s : State := open0; let s : State := let s : State := { s with svy := { s.svy with has := 0x38 :: s.svy.has, shadow := true, run := [(0x3800000, BitVec.ofNat 32 (6 + s.free % 2)), (0x3800004, BitVec.ofNat 32 4660), (0x3800008, (0x00100504 : Word)), (0x380000C, (7 : Word))].foldl (fun m p => SMap.put (0 : Word) p.1 p.2 m) s.svy.run } }; let s : State := { ((s.wr GAL_STATUS.MODE modePaired).wr GAL_STATUS.LINKS 3).wr (GAL_LINK.STATE 0) 2 |>.wr (GAL_LINK.STATE 1) 2 with chip := .opened, gal := { s.gal with hello := [true, true], joinStep := 0, held := [], sent := s.gal.sent.take 50, peerFenced := false, graceAt := 0, joinAt := 0 } }; let s : State := { s with dch := { s.dch with hard := [], repairs := [] }, adm := { s.adm with jobq := [] } }; (s) |> fun s => faces.foldl (fun s p => s.setPort p { s.port p with wbuf := [], reads := [] }) s |> fun s => { s with adm := { s.adm with jobq := [] } }; s), by decide +kernel⟩
  · exact ⟨0, 0, 0, false, false, (let s : State := open0; let s : State := let s : State := { s with svy := { s.svy with has := 0x38 :: s.svy.has, shadow := true, run := [(0x3800000, BitVec.ofNat 32 (6 + s.free % 2)), (0x3800004, BitVec.ofNat 32 4660), (0x3800008, (0x00100504 : Word)), (0x380000C, (7 : Word))].foldl (fun m p => SMap.put (0 : Word) p.1 p.2 m) s.svy.run } }; let s : State := { ((s.wr GAL_STATUS.MODE modePaired).wr GAL_STATUS.LINKS 3).wr (GAL_LINK.STATE 0) 2 |>.wr (GAL_LINK.STATE 1) 2 with chip := .opened, gal := { s.gal with hello := [true, true], joinStep := 0, held := [], sent := s.gal.sent.take 50, peerFenced := false, graceAt := 0, joinAt := 0 } }; let s : State := { s with dch := { s.dch with hard := [], repairs := [] }, adm := { s.adm with jobq := [] } }; (s) |> fun s => faces.foldl (fun s p => s.setPort p { s.port p with wbuf := [], reads := [] }) s |> fun s => { s with adm := { s.adm with jobq := [] } }; s), by decide +kernel⟩
  · exact ⟨0, 1, 0, true, { sub := 1, face := 0, opcode := 16641, args := [8, 64] }, (let sub : Nat := 1; let face : Nat := 0; let s : State := open0; let s : State := let s : State := { s with svy := { s.svy with has := 0x38 :: s.svy.has, shadow := true, run := [(0x3800000, BitVec.ofNat 32 (6 + s.free % 2)), (0x3800004, BitVec.ofNat 32 4660), (0x3800008, (0x00100504 : Word)), (0x380000C, (7 : Word))].foldl (fun m p => SMap.put (0 : Word) p.1 p.2 m) s.svy.run } }; let s : State := { ((s.wr GAL_STATUS.MODE modePaired).wr GAL_STATUS.LINKS 3).wr (GAL_LINK.STATE 0) 2 |>.wr (GAL_LINK.STATE 1) 2 with chip := .opened, gal := { s.gal with hello := [true, true], joinStep := 0, held := [], sent := s.gal.sent.take 50, peerFenced := false, graceAt := 0, joinAt := 0 } }; let s : State := { s with dch := { s.dch with hard := [], repairs := [] }, adm := { s.adm with jobq := [] } }; (s) |> fun s => faces.foldl (fun s p => s.setPort p { s.port p with wbuf := [], reads := [] }) s |> fun s => { s with adm := { s.adm with jobq := [] } } |> fun s => { s with gal := { s.gal with ctls := [⟨sub, face, 0x4101, [8, 64]⟩, ⟨sub, 1 + face, 0x4101, []⟩] }, fwm := { s.fwm with openCmds := [(0, 0x4101)] } }; let s : State := { s with gal := { s.gal with ctls := [⟨1, 0, 0x4101, [8, 64]⟩] }, fwm := { s.fwm with openCmds := [(0, 0x4101)] } }; s), by decide +kernel⟩

/-- Clauses of GalleryControl have states and operands that meet their conditions. -/
theorem test_conditions_GalleryControl_5 :
    (∃ (seq sub face : Nat) (ok : Bool) (c : GalCtl) (s : State), s.chip ≠ .off ∧ s.galTakes = true ∧ s.galPairs = true ∧ seq = s.rd GAL_RXSEQ.SEQ ∧ s.galFull = false ∧ s.gal.ctls.find? (fun c => c.sub == sub && c.face == face) = some c ∧ sub = 1 ∧ ok = true ∧ face < 6) ∧
    (∃ (seq sub face : Nat) (ok : Bool) (c : GalCtl) (s : State), s.chip ≠ .off ∧ s.galTakes = true ∧ s.galPairs = true ∧ seq = s.rd GAL_RXSEQ.SEQ ∧ s.galFull = false ∧ s.gal.ctls.find? (fun c => c.sub == sub && c.face == face) = some c ∧ (sub = 5 ∨ sub = 6) ∧ s.fwm.openCmds.contains (face, c.opcode) = true) := by
  refine ⟨?_, ?_⟩
  · exact ⟨0, 1, 0, true, { sub := 1, face := 0, opcode := 16641, args := [8, 64] }, (let sub : Nat := 1; let face : Nat := 0; let s : State := open0; let s : State := let s : State := { s with svy := { s.svy with has := 0x38 :: s.svy.has, shadow := true, run := [(0x3800000, BitVec.ofNat 32 (6 + s.free % 2)), (0x3800004, BitVec.ofNat 32 4660), (0x3800008, (0x00100504 : Word)), (0x380000C, (7 : Word))].foldl (fun m p => SMap.put (0 : Word) p.1 p.2 m) s.svy.run } }; let s : State := { ((s.wr GAL_STATUS.MODE modePaired).wr GAL_STATUS.LINKS 3).wr (GAL_LINK.STATE 0) 2 |>.wr (GAL_LINK.STATE 1) 2 with chip := .opened, gal := { s.gal with hello := [true, true], joinStep := 0, held := [], sent := s.gal.sent.take 50, peerFenced := false, graceAt := 0, joinAt := 0 } }; let s : State := { s with dch := { s.dch with hard := [], repairs := [] }, adm := { s.adm with jobq := [] } }; (s) |> fun s => faces.foldl (fun s p => s.setPort p { s.port p with wbuf := [], reads := [] }) s |> fun s => { s with adm := { s.adm with jobq := [] } } |> fun s => { s with gal := { s.gal with ctls := [⟨sub, face, 0x4101, [8, 64]⟩, ⟨sub, 1 + face, 0x4101, []⟩] }, fwm := { s.fwm with openCmds := [(0, 0x4101)] } }; let s : State := { s with gal := { s.gal with ctls := [⟨1, 0, 0x4101, [8, 64]⟩] }, fwm := { s.fwm with openCmds := [(0, 0x4101)] } }; s), by decide +kernel⟩
  · exact ⟨0, 5, 0, true, { sub := 5, face := 0, opcode := 16641, args := [8, 64] }, (let sub : Nat := 5; let face : Nat := 0; let s : State := open0; let s : State := let s : State := { s with svy := { s.svy with has := 0x38 :: s.svy.has, shadow := true, run := [(0x3800000, BitVec.ofNat 32 (6 + s.free % 2)), (0x3800004, BitVec.ofNat 32 4660), (0x3800008, (0x00100504 : Word)), (0x380000C, (7 : Word))].foldl (fun m p => SMap.put (0 : Word) p.1 p.2 m) s.svy.run } }; let s : State := { ((s.wr GAL_STATUS.MODE modePaired).wr GAL_STATUS.LINKS 3).wr (GAL_LINK.STATE 0) 2 |>.wr (GAL_LINK.STATE 1) 2 with chip := .opened, gal := { s.gal with hello := [true, true], joinStep := 0, held := [], sent := s.gal.sent.take 50, peerFenced := false, graceAt := 0, joinAt := 0 } }; let s : State := { s with dch := { s.dch with hard := [], repairs := [] }, adm := { s.adm with jobq := [] } }; (s) |> fun s => faces.foldl (fun s p => s.setPort p { s.port p with wbuf := [], reads := [] }) s |> fun s => { s with adm := { s.adm with jobq := [] } } |> fun s => { s with gal := { s.gal with ctls := [⟨sub, face, 0x4101, [8, 64]⟩, ⟨sub, 1 + face, 0x4101, []⟩] }, fwm := { s.fwm with openCmds := [(0, 0x4101)] } }; let s : State := { s with gal := { s.gal with ctls := [⟨5, 0, 0x4101, [8, 64]⟩] }, fwm := { s.fwm with openCmds := [(0, 0x4101)] } }; s), by decide +kernel⟩

/-- Clauses of LiveLoadConditions have states and operands that meet their conditions. -/
theorem test_conditions_LiveLoadConditions_1 :
    (∃ (s : State), s.chip ≠ .off ∧ s.hubOn = true ∧ (s.chip = .restoring ∨ s.chip = .opened) ∧ s.rd SVY_STATUS.STATE = 0) ∧
    (∃ (s : State), s.chip ≠ .off ∧ s.hubOn = true ∧ s.chip ≠ .restoring ∧ s.chip ≠ .opened ∧ s.rd SVY_STATUS.STATE = 0) ∧
    (∃ (s : State), s.chip ≠ .off ∧ s.hubOn = true ∧ s.rd SVY_STATUS.STATE ≠ 0) := by
  refine ⟨?_, ?_, ?_⟩
  · exact ⟨(let s : State := open0; let s : State := { s with chip := .restoring }; let s : State := s.wr SVY_STATUS.STATE (0); s), by decide +kernel⟩
  · exact ⟨(let s : State := open0; let s : State := { s.wr SVY_STATUS.STATE 0 with chip := .waking }; s), by decide +kernel⟩
  · exact ⟨(let s : State := open0; let s : State := s.wr SVY_STATUS.STATE 2; s), by decide +kernel⟩

/-- Clauses of LiveLoadConditions have states and operands that meet their conditions. -/
theorem test_conditions_LiveLoadConditions_2 :
    (∃ (s : State), s.chip ≠ .off ∧ s.hubOn = true ∧ s.rd SVY_STATUS.STATE ≠ 0) ∧
    (∃ (s : State), s.chip ≠ .off ∧ s.hubOn = true ∧ s.rd SVY_STATUS.STATE ≠ 0) ∧
    (∃ (s : State), s.chip ≠ .off ∧ s.hubOn = true ∧ s.rd SVY_STATUS.STATE ≠ 0) := by
  refine ⟨?_, ?_, ?_⟩
  · exact ⟨(let s : State := open0; let s : State := s.wr SVY_STATUS.STATE (1 + s.free % 3); s), by decide +kernel⟩
  · exact ⟨(let s : State := open0; let s : State := s.wr SVY_STATUS.STATE (1 + s.free % 3); s), by decide +kernel⟩
  · exact ⟨(let s : State := open0; let s : State := s.wr SVY_STATUS.STATE (1 + s.free % 3); s), by decide +kernel⟩

/-- Clauses of ResetRankAnswers have states and operands that meet their conditions. -/
theorem test_conditions_ResetRankAnswers_1 :
    (∃ (face chan rank : Nat) (ok0 : Bool) (ok36 : Bool) (s : State), s.chip ≠ .off ∧ s.mailOk face = true ∧ s.mailBusy face = false ∧ s.on (HPT_CFG.MGMT face) = true ∧ face < 6 ∧ s.anyOpen = true) ∧
    (∃ (face chan rank : Nat) (ok0 : Bool) (ok36 : Bool) (s : State), s.chip ≠ .off ∧ s.mailOk face = true ∧ s.mailBusy face = false ∧ s.on (HPT_CFG.MGMT face) = true ∧ face < 6 ∧ s.anyOpen = false ∧ chan < 36 ∧ rank < 4 ∧ s.rank chan rank = rkActive) := by
  refine ⟨?_, ?_⟩
  · exact ⟨0, 0, 0, false, false, (let face : Nat := 0; let s : State := open0; let s : State := s.wr (HPT_CFG.MGMT face) 1; s), by decide +kernel⟩
  · exact ⟨0, 0, 0, false, false, (let chan : Nat := 0; let rank : Nat := 0; let s : State := open0; let s : State := ((s.wr (HPT_CFG.MGMT 0) 1).wr (DCH_RNKS.STATE chan rank) (1)) |> fun s => faces.foldl (fun s f => s.wr (HPT_STATUS.OPEN f) 0) s; s), by decide +kernel⟩

/-- Clauses of ResetRankAnswers have states and operands that meet their conditions. -/
theorem test_conditions_ResetRankAnswers_2 :
    (∃ (face chan rank : Nat) (ok0 : Bool) (ok36 : Bool) (s : State), s.chip ≠ .off ∧ s.mailOk face = true ∧ s.mailBusy face = false ∧ s.on (HPT_CFG.MGMT face) = true ∧ face < 6 ∧ s.anyOpen = false ∧ chan < 36 ∧ rank < 4 ∧ s.rank chan rank = rkAbsent) ∧
    (∃ (face chan rank : Nat) (ok0 : Bool) (ok36 : Bool) (s : State), s.chip ≠ .off ∧ s.mailOk face = true ∧ s.mailBusy face = false ∧ s.on (HPT_CFG.MGMT face) = true ∧ face < 6 ∧ s.anyOpen = false ∧ chan < 36 ∧ rank < 4 ∧ (s.rank chan rank = rkReplaced ∨ s.rank chan rank = rkRetired ∨ s.rank chan rank = rkDead) ∧ (s.healthProgram ok0 ok36).1 = true) := by
  refine ⟨?_, ?_⟩
  · exact ⟨0, 0, 0, false, false, (let chan : Nat := 0; let rank : Nat := 0; let s : State := open0; let s : State := ((s.wr (HPT_CFG.MGMT 0) 1).wr (DCH_RNKS.STATE chan rank) (0)) |> fun s => faces.foldl (fun s f => s.wr (HPT_STATUS.OPEN f) 0) s; s), by decide +kernel⟩
  · exact ⟨0, 0, 0, true, true, (let chan : Nat := 0; let rank : Nat := 0; let s : State := open0; let s : State := ((s.wr (HPT_CFG.MGMT 0) 1).wr (DCH_RNKS.STATE chan rank) (6 + rank % 3)) |> fun s => faces.foldl (fun s f => s.wr (HPT_STATUS.OPEN f) 0) s; s), by decide +kernel⟩

/-- Clauses of DoorbellBounds have states and operands that meet their conditions. -/
theorem test_conditions_DoorbellBounds_1 :
    (∃ (port ring value : Nat) (bad : Bool) (s1 : State) (s : State), s.chip ≠ .off ∧ s1 = s.ringErr ring bad ∧ s1.hubOn = true ∧ s1.linkUp port = true ∧ s1.bellOk port ring = true ∧ value < 65536 ∧ (s1.ring ring).st = rgEnabled ∧ 2 ^ (s1.ring ring).log2 < (value + 65536 - (s1.ring ring).sqHead) % 65536) ∧
    (∃ (port ring value : Nat) (bad : Bool) (s1 : State) (s : State), s.chip ≠ .off ∧ s1 = s.ringErr ring bad ∧ s1.hubOn = true ∧ s1.linkUp port = true ∧ s1.bellOk port ring = true ∧ value < 65536 ∧ (s1.ring ring).st = rgEnabled ∧ (value + 65536 - (s1.ring ring).sqHead) % 65536 ≤ 2 ^ (s1.ring ring).log2) := by
  refine ⟨?_, ?_⟩
  · exact ⟨0, 0, 17, false, { regs := [(656384, 1#32), (1048576, 0x808#32), (1048580, 0x3b#32)], tick := 100000, chip := .opened, margin := .sable, stamp := 0, stampTick := 0, fuse := { step := 0, serial := 0, blown := 0, provKey := 0#256, devKey := 0#256 }, bed := { fneg := [], chipReset := 0 }, svy := { run := [(16777216, 0x610#32), (16777220, 15#32), (17825792, 4#32), (17825796, 0x3020100#32), (18874368, 1#32), (18874372, 0x80000#32), (18874376, 8#32), (18874384, 0x101#32), (18874388, 0x80008#32), (18874392, 8#32), (20971520, 0x8180#32), (33554432, 0x8a04000#32), (33554436, 0x4040800#32), (33554440, 0x3e80048#32), (33554448, 1#32), (33554456, 1#32), (33554464, 1#32), (33554472, 1#32), (33554480, 1#32), (33554488, 1#32), (33554496, 1#32), (33554504, 1#32), (33554512, 1#32), (34603008, 0x30010#32), (34603012, 0x40030#32), (34603016, 0x40008#32), (34603024, 0x30010#32), (34603028, 0x40030#32), (34603032, 0x40008#32), (35651584, 3#32), (50331648, 0x32402#32), (50331652, 0x648000#32), (50331656, 0xc80642f#32), (50331660, 0x100003#32), (50331664, 0x64#32), (50331688, 15#32), (50331692, 0x114#32), (50331808, 0x201013f#32), (50331812, 0x201013f#32), (50331936, 0x10#32), (67108864, 1#32), (67108868, 0x1964#32), (67108872, 0x1964#32), (67108876, 0x2bf20#32), (67108880, 0x186a00#32), (67108884, 0xcccd#32), (67108888, 0xf852e666#32), (67108892, 0x28fd99a#32), (67108896, 0xb33300f6#32), (67108900, 0x28999a#32)], has := [16, 17, 18, 20, 32, 33, 34, 48, 64], loaded := true, shadow := true, staging := [], inst := [], live := false, cmd := 0, taken := [], face := 0, pairDig := 0#128 }, slb := { slabs := [], ready := true, owned := true, baseR := 0, grants := [], ift := [], lmap := [], image := [] }, lgr := { packA := { ebase := 0, energy := 0, rc := 0, fcc := 0, dc := 0, chem := 0, ma := 0, gaugeMv := 0, temp := 0, debit := 0, saveDebit := 0, hiScans := 0, loScans := 0, valid := 0, last := none, esr := [], esrTick := 0, gaugeTick := 0 }, packB := { ebase := 0, energy := 0, rc := 0, fcc := 0, dc := 0, chem := 0, ma := 0, gaugeMv := 0, temp := 0, debit := 0, saveDebit := 0, hiScans := 0, loScans := 0, valid := 0, last := none, esr := [], esrTick := 0, gaugeTick := 0 }, sableCnt := 0, extra := false }, adm := { rr := 7, jobq := [], wear := 0, wearHaul := 0, wearMark := 0, day := 0, repTick := [], repDue := [], repMargin := 3 }, haul := { ptr := [], cover := [], bank := 0, started := 0, done := 0, short := false, half := false, waitStk := [], waitSump := [], group := 0, stripes := [], nextStripe := 0, pfw := false, pfwTick := 0 }, save := { off := false, short := false, trigTick := 0, walkTick := 0, walked := false, railCut := false, powerBack := false, vol := 0, sumpStart := [], first := [], last := [], carve := [], pads := 0, fdirty := [], anchor := none, session := 0, openAfter := 0, down := false, spent := none, lodes := [], aggs := [], staging := [], numbers := [], ctx := { rings := [], lost := false, owners := [], running := [], cached := [] } }, stk := { recs := [], lodes := [], blks := [], remaps := [], broken := [], pseq := [], head := [], openLode := [], wlWait := [], intents := [], jpend := [], jrnl := [], jseq := 0, jpage := 0, jsaved := 0, dies := [], silent := [], accs := [], applied := [], folding := false, reworking := false, degraded := 0, bootBad := [], bootMap := [], hblock := 0, lpage := 0, lfix := 0, anchors := [], apage := 0, patrolWin := 0, patrolled := [], patrolRead := [] }, saves := [], res := { fetch := [], demand := [], lastPort := 7, prefetch := [], bgPtr := [], bgBank := 0, rebuilt := false, filling := false, trigTick := 0, counted := 0, memRec := 0, holdRec := [], newLost := [], trained := false, noKeys := false, anchored := false, scanTick := 0 }, dch := { mem := [], poison := [], banks := [], repairs := [], hard := [], devCe := [], eqCe := [], eqTick := [], eqTemp := [], bootTemps := [], taps := [], ueRun := [], late := [], early := [], refBank := [], periodCe := 0, win := 0, limits := [3600, 4096, 256, 16, 64], mig := none, rankMap := [], crdMap := [], inForce := [], cfgNew := [], lastReq := [], actLimit := [], rankSr := [], eqRun := [], scrubTick := [], prev := [], ceTotal := [] }, ports := [], nv := [(0, { dirty := 0, shutdown := 0, feat := 0x7f#128, lsa := [] })], job := { rings := [(0, { st := 1, err := 0, log2 := 4, vector := 0, imod := 0, sqHead := 0, sqTail := 0, cqTail := 0, cqHead := 0, sqBase := 0, cqBase := 0, done := 0, errors := 0, pend := false, irqDue := false, irqRun := false })], cache := [], jobs := [], pins := [], lost := false, fenceDue := 0, inits := [] }, cip := { keys := [], keyin := [], store := [], storeOk := false, ceiling := 0, storeSeq := 0, cmd := none, purge := [], stale := [], erasePend := 0, eraseSan := 0, rotate := [], misWin := [], next := 0, kat := [] }, gal := { epoch := 0#64, joinEpoch := 0#64, peerFenced := false, sent := [], held := [], fwds := [], nextTag := 0, lines := [], peerLines := [], joinStep := 0, listGot := false, rslvGot := false, lineWait := [], asks := [], nextAsk := 0, reqs := [], ctls := [], rslvSlab := 0, rslvSett := 0, rslvQuota := 0, kept := false, peerEpoch := 0#64, fullFor := 0, replays := [], lastFlit := [0, 0], lastBeat := 0, graceAt := 0, seen := 0, joinAt := 0, hello := [false, false], handover := 0, zeroing := [] }, seq := { stage := .idle, order := [], good := [], bad := [], low := [], high := [], glitch := [], glitchPrev := [], glitchWin := 0, latchAfter := false, offTick := 0, minOff := true, timed := false, offPend := false, noDnWait := false, inGood := 0, inLow := 0, pwrLow := false, pfwTick := 0, pfwLate := false, stretch := 0, pulse := 0, pg00Told := false, pg00Good := 0, pg00Bad := 0, pg00Ok := false, latchSave := false, syncDrive := false, lowTold := false, timedTick := 0 }, clk := { rising := [], tripSeen := false, refFail := false }, flt := { raised := [], irqq := [], win := [], esc := [], thrNew := [], winNew := [], rst := none, later := [], holdAfter := false }, clg := { live := [], staging := [], forming := [], phase := 0, pend := [], held := [], log := [], win := none, fetch := none, extDay := 0, railLogged := false, bootLogged := false, ffcAtWaking := [0, 0, 0], subSec := 0, resumed := false }, twb := { ports := [], alert := false, alertTick := 0, mctp := 0, sensTick := [] }, fwm := { slotA := { image := [], sealed := false, tag := 0#128, next := [], blk := 0 }, slotB := { image := [], sealed := false, tag := 0#128, next := [], blk := 0 }, active := 0, trial := false, tries := 0, staging := none, xfer := 0, xferFace := 0, running := true, alive := false, prev := 0, handoff := false, recovery := false, svyEpoch := 0, openCmds := [], waiting := [], bootTick := 0 }, pin := { testen := false, power := true, tap := .bypass, railset := 0, err := false }, pending := [], out := [], free := 0 }, (let ring : Nat := 0; let s : State := open0; let s : State := s.setRing 0 { s.ring 0 with st := rgEnabled, log2 := 4 }; s), by decide +kernel⟩
  · exact ⟨0, 0, 16, false, { regs := [(656384, 1#32), (1048576, 0x808#32), (1048580, 0x3b#32)], tick := 100000, chip := .opened, margin := .sable, stamp := 0, stampTick := 0, fuse := { step := 0, serial := 0, blown := 0, provKey := 0#256, devKey := 0#256 }, bed := { fneg := [], chipReset := 0 }, svy := { run := [(16777216, 0x610#32), (16777220, 15#32), (17825792, 4#32), (17825796, 0x3020100#32), (18874368, 1#32), (18874372, 0x80000#32), (18874376, 8#32), (18874384, 0x101#32), (18874388, 0x80008#32), (18874392, 8#32), (20971520, 0x8180#32), (33554432, 0x8a04000#32), (33554436, 0x4040800#32), (33554440, 0x3e80048#32), (33554448, 1#32), (33554456, 1#32), (33554464, 1#32), (33554472, 1#32), (33554480, 1#32), (33554488, 1#32), (33554496, 1#32), (33554504, 1#32), (33554512, 1#32), (34603008, 0x30010#32), (34603012, 0x40030#32), (34603016, 0x40008#32), (34603024, 0x30010#32), (34603028, 0x40030#32), (34603032, 0x40008#32), (35651584, 3#32), (50331648, 0x32402#32), (50331652, 0x648000#32), (50331656, 0xc80642f#32), (50331660, 0x100003#32), (50331664, 0x64#32), (50331688, 15#32), (50331692, 0x114#32), (50331808, 0x201013f#32), (50331812, 0x201013f#32), (50331936, 0x10#32), (67108864, 1#32), (67108868, 0x1964#32), (67108872, 0x1964#32), (67108876, 0x2bf20#32), (67108880, 0x186a00#32), (67108884, 0xcccd#32), (67108888, 0xf852e666#32), (67108892, 0x28fd99a#32), (67108896, 0xb33300f6#32), (67108900, 0x28999a#32)], has := [16, 17, 18, 20, 32, 33, 34, 48, 64], loaded := true, shadow := true, staging := [], inst := [], live := false, cmd := 0, taken := [], face := 0, pairDig := 0#128 }, slb := { slabs := [], ready := true, owned := true, baseR := 0, grants := [], ift := [], lmap := [], image := [] }, lgr := { packA := { ebase := 0, energy := 0, rc := 0, fcc := 0, dc := 0, chem := 0, ma := 0, gaugeMv := 0, temp := 0, debit := 0, saveDebit := 0, hiScans := 0, loScans := 0, valid := 0, last := none, esr := [], esrTick := 0, gaugeTick := 0 }, packB := { ebase := 0, energy := 0, rc := 0, fcc := 0, dc := 0, chem := 0, ma := 0, gaugeMv := 0, temp := 0, debit := 0, saveDebit := 0, hiScans := 0, loScans := 0, valid := 0, last := none, esr := [], esrTick := 0, gaugeTick := 0 }, sableCnt := 0, extra := false }, adm := { rr := 7, jobq := [], wear := 0, wearHaul := 0, wearMark := 0, day := 0, repTick := [], repDue := [], repMargin := 3 }, haul := { ptr := [], cover := [], bank := 0, started := 0, done := 0, short := false, half := false, waitStk := [], waitSump := [], group := 0, stripes := [], nextStripe := 0, pfw := false, pfwTick := 0 }, save := { off := false, short := false, trigTick := 0, walkTick := 0, walked := false, railCut := false, powerBack := false, vol := 0, sumpStart := [], first := [], last := [], carve := [], pads := 0, fdirty := [], anchor := none, session := 0, openAfter := 0, down := false, spent := none, lodes := [], aggs := [], staging := [], numbers := [], ctx := { rings := [], lost := false, owners := [], running := [], cached := [] } }, stk := { recs := [], lodes := [], blks := [], remaps := [], broken := [], pseq := [], head := [], openLode := [], wlWait := [], intents := [], jpend := [], jrnl := [], jseq := 0, jpage := 0, jsaved := 0, dies := [], silent := [], accs := [], applied := [], folding := false, reworking := false, degraded := 0, bootBad := [], bootMap := [], hblock := 0, lpage := 0, lfix := 0, anchors := [], apage := 0, patrolWin := 0, patrolled := [], patrolRead := [] }, saves := [], res := { fetch := [], demand := [], lastPort := 7, prefetch := [], bgPtr := [], bgBank := 0, rebuilt := false, filling := false, trigTick := 0, counted := 0, memRec := 0, holdRec := [], newLost := [], trained := false, noKeys := false, anchored := false, scanTick := 0 }, dch := { mem := [], poison := [], banks := [], repairs := [], hard := [], devCe := [], eqCe := [], eqTick := [], eqTemp := [], bootTemps := [], taps := [], ueRun := [], late := [], early := [], refBank := [], periodCe := 0, win := 0, limits := [3600, 4096, 256, 16, 64], mig := none, rankMap := [], crdMap := [], inForce := [], cfgNew := [], lastReq := [], actLimit := [], rankSr := [], eqRun := [], scrubTick := [], prev := [], ceTotal := [] }, ports := [], nv := [(0, { dirty := 0, shutdown := 0, feat := 0x7f#128, lsa := [] })], job := { rings := [(0, { st := 1, err := 0, log2 := 4, vector := 0, imod := 0, sqHead := 0, sqTail := 0, cqTail := 0, cqHead := 0, sqBase := 0, cqBase := 0, done := 0, errors := 0, pend := false, irqDue := false, irqRun := false })], cache := [], jobs := [], pins := [], lost := false, fenceDue := 0, inits := [] }, cip := { keys := [], keyin := [], store := [], storeOk := false, ceiling := 0, storeSeq := 0, cmd := none, purge := [], stale := [], erasePend := 0, eraseSan := 0, rotate := [], misWin := [], next := 0, kat := [] }, gal := { epoch := 0#64, joinEpoch := 0#64, peerFenced := false, sent := [], held := [], fwds := [], nextTag := 0, lines := [], peerLines := [], joinStep := 0, listGot := false, rslvGot := false, lineWait := [], asks := [], nextAsk := 0, reqs := [], ctls := [], rslvSlab := 0, rslvSett := 0, rslvQuota := 0, kept := false, peerEpoch := 0#64, fullFor := 0, replays := [], lastFlit := [0, 0], lastBeat := 0, graceAt := 0, seen := 0, joinAt := 0, hello := [false, false], handover := 0, zeroing := [] }, seq := { stage := .idle, order := [], good := [], bad := [], low := [], high := [], glitch := [], glitchPrev := [], glitchWin := 0, latchAfter := false, offTick := 0, minOff := true, timed := false, offPend := false, noDnWait := false, inGood := 0, inLow := 0, pwrLow := false, pfwTick := 0, pfwLate := false, stretch := 0, pulse := 0, pg00Told := false, pg00Good := 0, pg00Bad := 0, pg00Ok := false, latchSave := false, syncDrive := false, lowTold := false, timedTick := 0 }, clk := { rising := [], tripSeen := false, refFail := false }, flt := { raised := [], irqq := [], win := [], esc := [], thrNew := [], winNew := [], rst := none, later := [], holdAfter := false }, clg := { live := [], staging := [], forming := [], phase := 0, pend := [], held := [], log := [], win := none, fetch := none, extDay := 0, railLogged := false, bootLogged := false, ffcAtWaking := [0, 0, 0], subSec := 0, resumed := false }, twb := { ports := [], alert := false, alertTick := 0, mctp := 0, sensTick := [] }, fwm := { slotA := { image := [], sealed := false, tag := 0#128, next := [], blk := 0 }, slotB := { image := [], sealed := false, tag := 0#128, next := [], blk := 0 }, active := 0, trial := false, tries := 0, staging := none, xfer := 0, xferFace := 0, running := true, alive := false, prev := 0, handoff := false, recovery := false, svyEpoch := 0, openCmds := [], waiting := [], bootTick := 0 }, pin := { testen := false, power := true, tap := .bypass, railset := 0, err := false }, pending := [], out := [], free := 0 }, (let ring : Nat := 0; let s : State := open0; let s : State := s.setRing 0 { s.ring 0 with st := rgEnabled, log2 := 4 }; s), by decide +kernel⟩

/-- Clauses of DoorbellBounds have states and operands that meet their conditions. -/
theorem test_conditions_DoorbellBounds_2 :
    (∃ (port ring value : Nat) (bad : Bool) (s1 : State) (s : State), s.chip ≠ .off ∧ s1 = s.ringErr ring bad ∧ s1.hubOn = true ∧ s1.linkUp port = true ∧ s1.bellOk port ring = true ∧ value < 65536 ∧ 2 ^ (s1.ring ring).log2 < ((s1.ring ring).cqTail + 65536 - value) % 65536) ∧
    (∃ (port ring value : Nat) (bad : Bool) (s1 : State) (s : State), s.chip ≠ .off ∧ s1 = s.ringErr ring bad ∧ s1.hubOn = true ∧ s1.linkUp port = true ∧ s1.bellOk port ring = true ∧ value < 65536 ∧ ((s1.ring ring).cqTail + 65536 - value) % 65536 ≤ 2 ^ (s1.ring ring).log2) := by
  refine ⟨?_, ?_⟩
  · exact ⟨0, 0, 1, false, { regs := [(656384, 1#32), (1048576, 0x808#32), (1048580, 0x3b#32)], tick := 100000, chip := .opened, margin := .sable, stamp := 0, stampTick := 0, fuse := { step := 0, serial := 0, blown := 0, provKey := 0#256, devKey := 0#256 }, bed := { fneg := [], chipReset := 0 }, svy := { run := [(16777216, 0x610#32), (16777220, 15#32), (17825792, 4#32), (17825796, 0x3020100#32), (18874368, 1#32), (18874372, 0x80000#32), (18874376, 8#32), (18874384, 0x101#32), (18874388, 0x80008#32), (18874392, 8#32), (20971520, 0x8180#32), (33554432, 0x8a04000#32), (33554436, 0x4040800#32), (33554440, 0x3e80048#32), (33554448, 1#32), (33554456, 1#32), (33554464, 1#32), (33554472, 1#32), (33554480, 1#32), (33554488, 1#32), (33554496, 1#32), (33554504, 1#32), (33554512, 1#32), (34603008, 0x30010#32), (34603012, 0x40030#32), (34603016, 0x40008#32), (34603024, 0x30010#32), (34603028, 0x40030#32), (34603032, 0x40008#32), (35651584, 3#32), (50331648, 0x32402#32), (50331652, 0x648000#32), (50331656, 0xc80642f#32), (50331660, 0x100003#32), (50331664, 0x64#32), (50331688, 15#32), (50331692, 0x114#32), (50331808, 0x201013f#32), (50331812, 0x201013f#32), (50331936, 0x10#32), (67108864, 1#32), (67108868, 0x1964#32), (67108872, 0x1964#32), (67108876, 0x2bf20#32), (67108880, 0x186a00#32), (67108884, 0xcccd#32), (67108888, 0xf852e666#32), (67108892, 0x28fd99a#32), (67108896, 0xb33300f6#32), (67108900, 0x28999a#32)], has := [16, 17, 18, 20, 32, 33, 34, 48, 64], loaded := true, shadow := true, staging := [], inst := [], live := false, cmd := 0, taken := [], face := 0, pairDig := 0#128 }, slb := { slabs := [], ready := true, owned := true, baseR := 0, grants := [], ift := [], lmap := [], image := [] }, lgr := { packA := { ebase := 0, energy := 0, rc := 0, fcc := 0, dc := 0, chem := 0, ma := 0, gaugeMv := 0, temp := 0, debit := 0, saveDebit := 0, hiScans := 0, loScans := 0, valid := 0, last := none, esr := [], esrTick := 0, gaugeTick := 0 }, packB := { ebase := 0, energy := 0, rc := 0, fcc := 0, dc := 0, chem := 0, ma := 0, gaugeMv := 0, temp := 0, debit := 0, saveDebit := 0, hiScans := 0, loScans := 0, valid := 0, last := none, esr := [], esrTick := 0, gaugeTick := 0 }, sableCnt := 0, extra := false }, adm := { rr := 7, jobq := [], wear := 0, wearHaul := 0, wearMark := 0, day := 0, repTick := [], repDue := [], repMargin := 3 }, haul := { ptr := [], cover := [], bank := 0, started := 0, done := 0, short := false, half := false, waitStk := [], waitSump := [], group := 0, stripes := [], nextStripe := 0, pfw := false, pfwTick := 0 }, save := { off := false, short := false, trigTick := 0, walkTick := 0, walked := false, railCut := false, powerBack := false, vol := 0, sumpStart := [], first := [], last := [], carve := [], pads := 0, fdirty := [], anchor := none, session := 0, openAfter := 0, down := false, spent := none, lodes := [], aggs := [], staging := [], numbers := [], ctx := { rings := [], lost := false, owners := [], running := [], cached := [] } }, stk := { recs := [], lodes := [], blks := [], remaps := [], broken := [], pseq := [], head := [], openLode := [], wlWait := [], intents := [], jpend := [], jrnl := [], jseq := 0, jpage := 0, jsaved := 0, dies := [], silent := [], accs := [], applied := [], folding := false, reworking := false, degraded := 0, bootBad := [], bootMap := [], hblock := 0, lpage := 0, lfix := 0, anchors := [], apage := 0, patrolWin := 0, patrolled := [], patrolRead := [] }, saves := [], res := { fetch := [], demand := [], lastPort := 7, prefetch := [], bgPtr := [], bgBank := 0, rebuilt := false, filling := false, trigTick := 0, counted := 0, memRec := 0, holdRec := [], newLost := [], trained := false, noKeys := false, anchored := false, scanTick := 0 }, dch := { mem := [], poison := [], banks := [], repairs := [], hard := [], devCe := [], eqCe := [], eqTick := [], eqTemp := [], bootTemps := [], taps := [], ueRun := [], late := [], early := [], refBank := [], periodCe := 0, win := 0, limits := [3600, 4096, 256, 16, 64], mig := none, rankMap := [], crdMap := [], inForce := [], cfgNew := [], lastReq := [], actLimit := [], rankSr := [], eqRun := [], scrubTick := [], prev := [], ceTotal := [] }, ports := [], nv := [(0, { dirty := 0, shutdown := 0, feat := 0x7f#128, lsa := [] })], job := { rings := [(0, { st := 1, err := 0, log2 := 4, vector := 0, imod := 0, sqHead := 0, sqTail := 0, cqTail := 0, cqHead := 0, sqBase := 0, cqBase := 0, done := 0, errors := 0, pend := false, irqDue := false, irqRun := false })], cache := [], jobs := [], pins := [], lost := false, fenceDue := 0, inits := [] }, cip := { keys := [], keyin := [], store := [], storeOk := false, ceiling := 0, storeSeq := 0, cmd := none, purge := [], stale := [], erasePend := 0, eraseSan := 0, rotate := [], misWin := [], next := 0, kat := [] }, gal := { epoch := 0#64, joinEpoch := 0#64, peerFenced := false, sent := [], held := [], fwds := [], nextTag := 0, lines := [], peerLines := [], joinStep := 0, listGot := false, rslvGot := false, lineWait := [], asks := [], nextAsk := 0, reqs := [], ctls := [], rslvSlab := 0, rslvSett := 0, rslvQuota := 0, kept := false, peerEpoch := 0#64, fullFor := 0, replays := [], lastFlit := [0, 0], lastBeat := 0, graceAt := 0, seen := 0, joinAt := 0, hello := [false, false], handover := 0, zeroing := [] }, seq := { stage := .idle, order := [], good := [], bad := [], low := [], high := [], glitch := [], glitchPrev := [], glitchWin := 0, latchAfter := false, offTick := 0, minOff := true, timed := false, offPend := false, noDnWait := false, inGood := 0, inLow := 0, pwrLow := false, pfwTick := 0, pfwLate := false, stretch := 0, pulse := 0, pg00Told := false, pg00Good := 0, pg00Bad := 0, pg00Ok := false, latchSave := false, syncDrive := false, lowTold := false, timedTick := 0 }, clk := { rising := [], tripSeen := false, refFail := false }, flt := { raised := [], irqq := [], win := [], esc := [], thrNew := [], winNew := [], rst := none, later := [], holdAfter := false }, clg := { live := [], staging := [], forming := [], phase := 0, pend := [], held := [], log := [], win := none, fetch := none, extDay := 0, railLogged := false, bootLogged := false, ffcAtWaking := [0, 0, 0], subSec := 0, resumed := false }, twb := { ports := [], alert := false, alertTick := 0, mctp := 0, sensTick := [] }, fwm := { slotA := { image := [], sealed := false, tag := 0#128, next := [], blk := 0 }, slotB := { image := [], sealed := false, tag := 0#128, next := [], blk := 0 }, active := 0, trial := false, tries := 0, staging := none, xfer := 0, xferFace := 0, running := true, alive := false, prev := 0, handoff := false, recovery := false, svyEpoch := 0, openCmds := [], waiting := [], bootTick := 0 }, pin := { testen := false, power := true, tap := .bypass, railset := 0, err := false }, pending := [], out := [], free := 0 }, (let ring : Nat := 0; let s : State := open0; let s : State := s.setRing 0 { s.ring 0 with st := rgEnabled, log2 := 4 }; s), by decide +kernel⟩
  · exact ⟨0, 0, 0, false, { regs := [(656384, 1#32), (1048576, 0x808#32), (1048580, 0x3b#32)], tick := 100000, chip := .opened, margin := .sable, stamp := 0, stampTick := 0, fuse := { step := 0, serial := 0, blown := 0, provKey := 0#256, devKey := 0#256 }, bed := { fneg := [], chipReset := 0 }, svy := { run := [(16777216, 0x610#32), (16777220, 15#32), (17825792, 4#32), (17825796, 0x3020100#32), (18874368, 1#32), (18874372, 0x80000#32), (18874376, 8#32), (18874384, 0x101#32), (18874388, 0x80008#32), (18874392, 8#32), (20971520, 0x8180#32), (33554432, 0x8a04000#32), (33554436, 0x4040800#32), (33554440, 0x3e80048#32), (33554448, 1#32), (33554456, 1#32), (33554464, 1#32), (33554472, 1#32), (33554480, 1#32), (33554488, 1#32), (33554496, 1#32), (33554504, 1#32), (33554512, 1#32), (34603008, 0x30010#32), (34603012, 0x40030#32), (34603016, 0x40008#32), (34603024, 0x30010#32), (34603028, 0x40030#32), (34603032, 0x40008#32), (35651584, 3#32), (50331648, 0x32402#32), (50331652, 0x648000#32), (50331656, 0xc80642f#32), (50331660, 0x100003#32), (50331664, 0x64#32), (50331688, 15#32), (50331692, 0x114#32), (50331808, 0x201013f#32), (50331812, 0x201013f#32), (50331936, 0x10#32), (67108864, 1#32), (67108868, 0x1964#32), (67108872, 0x1964#32), (67108876, 0x2bf20#32), (67108880, 0x186a00#32), (67108884, 0xcccd#32), (67108888, 0xf852e666#32), (67108892, 0x28fd99a#32), (67108896, 0xb33300f6#32), (67108900, 0x28999a#32)], has := [16, 17, 18, 20, 32, 33, 34, 48, 64], loaded := true, shadow := true, staging := [], inst := [], live := false, cmd := 0, taken := [], face := 0, pairDig := 0#128 }, slb := { slabs := [], ready := true, owned := true, baseR := 0, grants := [], ift := [], lmap := [], image := [] }, lgr := { packA := { ebase := 0, energy := 0, rc := 0, fcc := 0, dc := 0, chem := 0, ma := 0, gaugeMv := 0, temp := 0, debit := 0, saveDebit := 0, hiScans := 0, loScans := 0, valid := 0, last := none, esr := [], esrTick := 0, gaugeTick := 0 }, packB := { ebase := 0, energy := 0, rc := 0, fcc := 0, dc := 0, chem := 0, ma := 0, gaugeMv := 0, temp := 0, debit := 0, saveDebit := 0, hiScans := 0, loScans := 0, valid := 0, last := none, esr := [], esrTick := 0, gaugeTick := 0 }, sableCnt := 0, extra := false }, adm := { rr := 7, jobq := [], wear := 0, wearHaul := 0, wearMark := 0, day := 0, repTick := [], repDue := [], repMargin := 3 }, haul := { ptr := [], cover := [], bank := 0, started := 0, done := 0, short := false, half := false, waitStk := [], waitSump := [], group := 0, stripes := [], nextStripe := 0, pfw := false, pfwTick := 0 }, save := { off := false, short := false, trigTick := 0, walkTick := 0, walked := false, railCut := false, powerBack := false, vol := 0, sumpStart := [], first := [], last := [], carve := [], pads := 0, fdirty := [], anchor := none, session := 0, openAfter := 0, down := false, spent := none, lodes := [], aggs := [], staging := [], numbers := [], ctx := { rings := [], lost := false, owners := [], running := [], cached := [] } }, stk := { recs := [], lodes := [], blks := [], remaps := [], broken := [], pseq := [], head := [], openLode := [], wlWait := [], intents := [], jpend := [], jrnl := [], jseq := 0, jpage := 0, jsaved := 0, dies := [], silent := [], accs := [], applied := [], folding := false, reworking := false, degraded := 0, bootBad := [], bootMap := [], hblock := 0, lpage := 0, lfix := 0, anchors := [], apage := 0, patrolWin := 0, patrolled := [], patrolRead := [] }, saves := [], res := { fetch := [], demand := [], lastPort := 7, prefetch := [], bgPtr := [], bgBank := 0, rebuilt := false, filling := false, trigTick := 0, counted := 0, memRec := 0, holdRec := [], newLost := [], trained := false, noKeys := false, anchored := false, scanTick := 0 }, dch := { mem := [], poison := [], banks := [], repairs := [], hard := [], devCe := [], eqCe := [], eqTick := [], eqTemp := [], bootTemps := [], taps := [], ueRun := [], late := [], early := [], refBank := [], periodCe := 0, win := 0, limits := [3600, 4096, 256, 16, 64], mig := none, rankMap := [], crdMap := [], inForce := [], cfgNew := [], lastReq := [], actLimit := [], rankSr := [], eqRun := [], scrubTick := [], prev := [], ceTotal := [] }, ports := [], nv := [(0, { dirty := 0, shutdown := 0, feat := 0x7f#128, lsa := [] })], job := { rings := [(0, { st := 1, err := 0, log2 := 4, vector := 0, imod := 0, sqHead := 0, sqTail := 0, cqTail := 0, cqHead := 0, sqBase := 0, cqBase := 0, done := 0, errors := 0, pend := false, irqDue := false, irqRun := false })], cache := [], jobs := [], pins := [], lost := false, fenceDue := 0, inits := [] }, cip := { keys := [], keyin := [], store := [], storeOk := false, ceiling := 0, storeSeq := 0, cmd := none, purge := [], stale := [], erasePend := 0, eraseSan := 0, rotate := [], misWin := [], next := 0, kat := [] }, gal := { epoch := 0#64, joinEpoch := 0#64, peerFenced := false, sent := [], held := [], fwds := [], nextTag := 0, lines := [], peerLines := [], joinStep := 0, listGot := false, rslvGot := false, lineWait := [], asks := [], nextAsk := 0, reqs := [], ctls := [], rslvSlab := 0, rslvSett := 0, rslvQuota := 0, kept := false, peerEpoch := 0#64, fullFor := 0, replays := [], lastFlit := [0, 0], lastBeat := 0, graceAt := 0, seen := 0, joinAt := 0, hello := [false, false], handover := 0, zeroing := [] }, seq := { stage := .idle, order := [], good := [], bad := [], low := [], high := [], glitch := [], glitchPrev := [], glitchWin := 0, latchAfter := false, offTick := 0, minOff := true, timed := false, offPend := false, noDnWait := false, inGood := 0, inLow := 0, pwrLow := false, pfwTick := 0, pfwLate := false, stretch := 0, pulse := 0, pg00Told := false, pg00Good := 0, pg00Bad := 0, pg00Ok := false, latchSave := false, syncDrive := false, lowTold := false, timedTick := 0 }, clk := { rising := [], tripSeen := false, refFail := false }, flt := { raised := [], irqq := [], win := [], esc := [], thrNew := [], winNew := [], rst := none, later := [], holdAfter := false }, clg := { live := [], staging := [], forming := [], phase := 0, pend := [], held := [], log := [], win := none, fetch := none, extDay := 0, railLogged := false, bootLogged := false, ffcAtWaking := [0, 0, 0], subSec := 0, resumed := false }, twb := { ports := [], alert := false, alertTick := 0, mctp := 0, sensTick := [] }, fwm := { slotA := { image := [], sealed := false, tag := 0#128, next := [], blk := 0 }, slotB := { image := [], sealed := false, tag := 0#128, next := [], blk := 0 }, active := 0, trial := false, tries := 0, staging := none, xfer := 0, xferFace := 0, running := true, alive := false, prev := 0, handoff := false, recovery := false, svyEpoch := 0, openCmds := [], waiting := [], bootTick := 0 }, pin := { testen := false, power := true, tap := .bypass, railset := 0, err := false }, pending := [], out := [], free := 0 }, (let ring : Nat := 0; let s : State := open0; let s : State := s.setRing 0 { s.ring 0 with st := rgEnabled, log2 := 4 }; s), by decide +kernel⟩

/-- Clauses of PackBaseEnergy have states and operands that meet their conditions. -/
theorem test_conditions_PackBaseEnergy :
    (∃ (pack : Nat) (ans : Option GaugeIn) (g : GaugeIn) (s : State), s.chip ≠ .off ∧ pack < 2 ∧ s.ledgerParams = true ∧ s.rd (LGR_PSTAT.STATE pack) = pkQualifying ∧ ans = some g ∧ g.dc ≠ 0) ∧
    (∃ (pack : Nat) (ans : Option GaugeIn) (g : GaugeIn) (s : State), s.chip ≠ .off ∧ pack < 2 ∧ s.ledgerParams = true ∧ s.rd (LGR_PSTAT.STATE pack) ≠ pkAbsent ∧ s.rd (LGR_PSTAT.STATE pack) ≠ pkQualifying ∧ ans = some g ∧ (s.pack pack).dc ≠ 0) := by
  refine ⟨?_, ?_⟩
  · exact ⟨0, (some { mv := 48000, ma := -20, rc := 190, fcc := 200, dc := 200, temp := 2981, status := 0, cycles := 3, chem := 1, mode := true }), { mv := 48000, ma := -20, rc := 190, fcc := 200, dc := 200, temp := 2981, status := 0, cycles := 3, chem := 1, mode := true }, (let pack : Nat := 0; let s : State := open0; let s : State := s.wr (LGR_PSTAT.STATE pack) (pkQualifying); let s : State := (s.wr (LGR_PSTAT.STATE 0) 1).putPack 0 { s.pack 0 with chem := s.sv (LEDGER.CHEM 0), fcc := 200, dc := 200, valid := 3 }; s), by decide +kernel⟩
  · exact ⟨0, (some { mv := 48000, ma := -20, rc := 190, fcc := 200, dc := 200, temp := 2981, status := 0, cycles := 3, chem := 1, mode := true }), { mv := 48000, ma := -20, rc := 190, fcc := 200, dc := 200, temp := 2981, status := 0, cycles := 3, chem := 1, mode := true }, (let pack : Nat := 0; let s : State := open0; let s : State := (s.wr (LGR_PSTAT.STATE 0) 2).putPack 0 { s.pack 0 with chem := s.sv (LEDGER.CHEM 0), fcc := 200, dc := 200, valid := 3 }; s), by decide +kernel⟩


/-! ### Conditions of the statements that are not made of commands' clauses -/

/-- IdleStep and TimeEndsWork: a state with no command waiting, in Off and out of it; and one in which a mailbox command has waited for
an activation. -/
theorem test_conditions_IdleStep : (∃ s : State, s.pending = [] ∧ s.chip = .off ∧ s.idle.fwm.waiting = []) ∧
    (∃ s : State, s.pending = [] ∧ s.chip ≠ .off) ∧
    (∃ s : State, s.hubOn = true ∧ s.fwm.running = true ∧ s.on FWM_STATUS.ACTIVATING = false ∧ s.fwm.waiting ≠ []) :=
  ⟨⟨{ State.reset with chip := .off }, rfl, rfl, rfl⟩, ⟨State.reset, rfl, by decide⟩,
    ⟨{ open0 with fwm := { open0.fwm with running := true, waiting := [(0, .identify 0)] } }, by decide, rfl, by decide, nofun⟩⟩

/-- TickStaysInRange: a step from a state with its tick count in range, at the end of the range. -/
theorem test_conditions_TickStaysInRange : ∃ s t : State, s.tick < 2 ^ 48 ∧ s.tick = 2 ^ 48 - 1 ∧ step s = .next t :=
  ⟨{ State.reset with tick := 2 ^ 48 - 1 }, _, by decide, by decide, rfl⟩

/-- OffTakesNothing: a command other than COLD_RESET and ALL_POWER_CUT in Off. -/
theorem test_conditions_OffTakesNothing :
    ∃ (c : Instr) (s : State), s.chip = .off ∧ (∀ b a x, c ≠ .coldReset b a x) ∧ c ≠ .allPowerCut :=
  ⟨.savePark, { State.reset with chip := .off }, rfl, nofun, nofun⟩

/-- CommandsLeaveTimeAndFuses: a command that is none of the three and answers a next state. -/
theorem test_conditions_CommandsLeaveTimeAndFuses : ∃ (c : Instr) (s t : State),
    (∀ b a x, c ≠ .coldReset b a x) ∧ c ≠ .bedrockPowerLoss ∧ c ≠ .allPowerCut ∧ exec c s = .next t :=
  ⟨.savePark, State.reset, _, nofun, nofun, nofun, rfl⟩

/-- ColdResetRegisters: Off. -/
theorem test_conditions_ColdResetRegisters : ∃ s : State, s.chip = .off := ⟨{ State.reset with chip := .off }, rfl⟩

/-- AccessCodes: a field of each access code, before and after an image has loaded, and another field of the word. -/
theorem test_conditions_AccessCodes :
    (∀ c : Acc, ∃ r : FRow, r.lo + r.width ≤ 32 ∧ r.acc = c) ∧ (∃ s : State, s.svy.loaded = false) ∧ (∃ s : State, s.svy.loaded = true) ∧
      (∃ (r : FRow) (g : Fld) (a : Nat), r.lo + r.width ≤ 32 ∧ g.addr = a ∧ (g.lo + g.width ≤ r.lo ∨ r.lo + r.width ≤ g.lo)) :=
  ⟨fun c => ⟨⟨0, 0, 1, 0, 32, c, 0, .any⟩, Nat.le_refl _, rfl⟩, ⟨State.reset, rfl⟩, ⟨open0, rfl⟩,
    ⟨⟨0, 0, 1, 8, 8, .rw, 0, .any⟩, ⟨0, 16, 16⟩, 0, by decide, rfl, .inr (by decide)⟩⟩

/-- FaceFeatureReads: the last face and the last word. -/
theorem test_conditions_FaceFeatureReads : ∃ f i : Nat, f < 6 ∧ i < 4 ∧ f + i = 8 := ⟨5, 3, by decide⟩

/-- KeeperOfBlock: twin A and twin B in a pair, and a sled that serves alone. -/
theorem test_conditions_KeeperOfBlock : (∃ s : State, s.galMode = modePaired ∧ s.sv TWIN.ROLE = 0) ∧
    (∃ s : State, s.galMode = modePaired ∧ s.sv TWIN.ROLE = 1) ∧ (∃ s : State, s.galMode = modeAlone ∨ s.galMode = modeSingle) :=
  ⟨⟨open0.wr GAL_STATUS.MODE modePaired, by decide +kernel⟩,
    ⟨withRun (open0.wr GAL_STATUS.MODE modePaired) (secTwin * 0x100000) 1, by decide +kernel⟩, ⟨State.reset, by decide +kernel⟩⟩

/-- LineWrite: a byte inside the line, one outside it on each side, and full enables. -/
theorem test_conditions_LineWrite : (∃ i : Nat, i < 64 ∧ i = 63) ∧ (∃ b : Nat, b < settByte 1 64) ∧ (∃ b : Nat, settByte 1 64 + 64 ≤ b) ∧
    (∃ mask : BitVec 64, mask = fullMask) :=
  ⟨⟨63, by decide⟩, ⟨0, by decide⟩, ⟨settByte 1 64 + 64, Nat.le_refl _⟩, ⟨_, rfl⟩⟩

/-- A haul of sett 1 whose map update has begun. -/
def mapping : State :=
  let s := (open0.setDirty 1).insertHaul 1 false false
  s.beginMap 1 (locStk 0 2 0)

/-- TimeEndsWork: each of its clauses. -/
theorem test_conditions_TimeEndsWork :
    (∃ (s : State) (h : Haul), s.slb.ift.filter (fun x => x.stage == 3) = [h] ∧ slabCarve (settSlab h.sett) = false ∧ s.dirty h.sett = true) ∧
    (∃ s : State, s.hubOn = true ∧ s.rd SVY_STATUS.STATE = 1 ∧ s.svy.cmd = 1) ∧
    (∃ s : State, s.hubOn = true ∧ s.rd SVY_STATUS.STATE = 1 ∧ s.svy.cmd ≠ 1 ∧ s.mayInstall s.svy.live ≠ svyOk) ∧
    (∃ s : State, s.hubOn = true ∧ s.rd SVY_STATUS.STATE = 1 ∧ s.svy.cmd ≠ 1 ∧ s.mayInstall s.svy.live = svyOk ∧
      ∀ i ∈ s.targetInsts, (s.bootErase (i % 2) (bootArea (i / 2)).1).1 = true) ∧
    (∃ (s : State) (c t : Nat), t < 8 ∧ c < 72 ∧ (s.die c t).suspended = true) ∧
    (∃ (s : State) (n : Nat), n < 72 ∧ (s.rd (NCH_STATUS.STATE n) = 1 ∨ s.rd (NCH_STATUS.STATE n) = 5)) := by
  refine ⟨⟨mapping, (mapping.slb.ift.head?).getD ⟨0, false, false, 0, 0, 0, 0, [], 0, 0, 0, [], 0, false, 0⟩, ?_⟩,
    ⟨open0.svyBegin 1, ?_⟩, ⟨open0.svyBegin 2, ?_⟩,
    ⟨installing, by decide +kernel, by decide +kernel, by decide +kernel, test_image_may_install, by decide +kernel⟩, ⟨open0.setDie 71 7 { DieErase.idle with suspended := true }, 71, 7, ?_⟩,
    ⟨open0.wr (NCH_STATUS.STATE 71) 5, 71, ?_⟩⟩ <;> decide +kernel
end

section
/-! PROOFS. Access codes, register writes and denied accesses, and what power and resets do (R4, R7, R8, R36, R500, R586, R587, R589). -/

namespace Sys2Proof.Machine

/-! ### Writes by access code (R7, R629) -/

/-- Taking from a number the bits that it shares with another one clears just these. -/
theorem testBit_sub_land (m n i : Nat) : (m - Nat.land m n).testBit i = (m.testBit i && !n.testBit i) := by
  change (m - (m &&& n)).testBit i = _
  induction i generalizing m n with
  | zero =>
    have hle : m &&& n ≤ m := Nat.and_le_left
    have hm : (m &&& n) % 2 = (m % 2) &&& (n % 2) := Nat.and_mod_two_pow (n := 1)
    have hb : (m % 2) &&& (n % 2) ≤ m % 2 := Nat.and_le_left
    have e : (m - (m &&& n)) % 2 = m % 2 - (m % 2 &&& n % 2) := by omega
    simp only [Nat.testBit_zero, e]
    rcases Nat.mod_two_eq_zero_or_one m with h | h <;> rcases Nat.mod_two_eq_zero_or_one n with h' | h' <;> simp [h, h']
  | succ i ih =>
    have hle : m &&& n ≤ m := Nat.and_le_left
    have hd : (m &&& n) / 2 = m / 2 &&& n / 2 := Nat.and_div_two
    have hm : (m &&& n) % 2 = (m % 2) &&& (n % 2) := Nat.and_mod_two_pow (n := 1)
    have hb : (m % 2) &&& (n % 2) ≤ m % 2 := Nat.and_le_left
    have e : (m - (m &&& n)) / 2 = m / 2 - (m / 2 &&& n / 2) := by omega
    rw [Nat.testBit_succ, e, ih, Nat.testBit_succ, Nat.testBit_succ]

/-- Under a code that stores, a field takes the value in its range (R7, R629). -/
theorem State.writeField_of_stores {s : State} {r : FRow} (a v : Nat)
    (h : r.acc = .rw ∨ r.acc = .rws ∨ (r.acc = .rwl ∧ s.svy.loaded = false)) :
    s.writeField a v r = s.wr ⟨a, r.lo, r.width⟩ (r.lim.apply (s.rd ⟨a, r.lo, r.width⟩) (bitsOf r.lo r.width v)) := by
  rcases h with h | h | ⟨h, hl⟩
  · simp [State.writeField, h]
  · simp [State.writeField, h]
  · simp [State.writeField, h, hl]

/-- A W1C field loses the bits written as 1 (R7). -/
theorem State.writeField_of_w1c {s : State} {r : FRow} (a v : Nat) (h : r.acc = .w1c) :
    s.writeField a v r =
      s.wr ⟨a, r.lo, r.width⟩ (s.rd ⟨a, r.lo, r.width⟩ - Nat.land (s.rd ⟨a, r.lo, r.width⟩) (bitsOf r.lo r.width v)) := by
  simp [State.writeField, h]

/-- Once an image has loaded an RWL field ignores writes (R7, R77). -/
theorem State.writeField_of_locked {s : State} {r : FRow} (a v : Nat) (h : r.acc = .rwl) (hl : s.svy.loaded = true) :
    s.writeField a v r = s := by simp [State.writeField, h, hl]

/-- RO, WO and LIVE fields store nothing of a write (R7). -/
theorem State.writeField_of_fixed {s : State} {r : FRow} (a v : Nat) (h : r.acc = .ro ∨ r.acc = .wo ∨ r.acc = .live) :
    s.writeField a v r = s := by
  rcases h with h | h | h <;> simp [State.writeField, h]

/-- A write meets a field by a write of it, or not at all (R7). -/
theorem State.writeField_cases (s : State) (a v : Nat) (r : FRow) :
    s.writeField a v r = s ∨ ∃ x, s.writeField a v r = s.wr ⟨a, r.lo, r.width⟩ x := by
  by_cases hs : r.acc = .rw ∨ r.acc = .rws ∨ (r.acc = .rwl ∧ s.svy.loaded = false)
  · exact .inr ⟨_, State.writeField_of_stores a v hs⟩
  · cases ha : r.acc with
    | w1c => exact .inr ⟨_, State.writeField_of_w1c a v ha⟩
    | rwl => exact .inl (State.writeField_of_locked a v ha (by simpa [ha] using hs))
    | ro => exact .inl (State.writeField_of_fixed a v (.inl ha))
    | wo => exact .inl (State.writeField_of_fixed a v (.inr (.inl ha)))
    | live => exact .inl (State.writeField_of_fixed a v (.inr (.inr ha)))
    | rw => exact absurd (.inl ha) hs
    | rws => exact absurd (.inr (.inl ha)) hs

/-- A write of a word's field reaches nothing but that word. -/
theorem State.writeField_onlyWords (s : State) (a v : Nat) (r : FRow) : onlyWords [a] s (s.writeField a v r) := by
  rcases s.writeField_cases a v r with h | ⟨x, h⟩ <;> rw [h]
  · exact ⟨keepsBut_refl _ s, keepsWords_refl _ s⟩
  · exact ⟨keepsBut_wr (keepsBut_refl _ s) (by simp), keepsWords_wr (keepsWords_refl _ s) (by simp)⟩

/-- A write of a word's field leaves its fields elsewhere in the word alone. -/
theorem State.rd_writeField_apart (s : State) (v : Nat) {r : FRow} {g : Fld} (hr : r.lo + r.width ≤ 32)
    (hg : g.lo + g.width ≤ r.lo ∨ r.lo + r.width ≤ g.lo) : (s.writeField g.addr v r).rd g = s.rd g := by
  rcases s.writeField_cases g.addr v r with h | ⟨x, h⟩ <;> rw [h]
  exact State.rd_wr_apart s (f := ⟨g.addr, r.lo, r.width⟩) hr (.inr hg.symm) x

/-- Settles O56: a field is written by its access code, whatever the word. -/
theorem accessCodes : Obligations.AccessCodes := by
  intro s a v r hr
  refine ⟨fun h => ?_, fun h => State.writeField_of_locked a v h.1 h.2, fun h i hi => ?_,
    State.writeField_of_fixed a v, (s.writeField_onlyWords a v r).1, (s.writeField_onlyWords a v r).2, ?_⟩
  · rw [State.writeField_of_stores a v h, State.rd_wr_self_mod s hr]
  · rw [State.writeField_of_w1c a v h, State.rd_wr_self s hr (Nat.lt_of_le_of_lt (Nat.sub_le ..) (s.rd_lt _)), testBit_sub_land]
  · rintro g rfl hg
    exact s.rd_writeField_apart v hr hg

/-! ### Writes to words that start nothing, and denied accesses (R4, R7, R586, R587, R589) -/

/-- A word of the Bedrock blocks below 0x50000 or of the ledger whose writes start no command (R7, R628). -/
abbrev startsNothing (a : Nat) : Prop :=
  startOnly a = false ∧ (a < 0x50000 ∨ 0x80000 ≤ a ∧ a < 0x90000) ∧ a ∉ [BED_DENY.CLEAR.addr, BED_DROP.CLEAR.addr, SVY_CMD.CMD.addr,
    FLT_CMD.OP.addr, FLT_IRQQ_POP.POP.addr, CLG_CMD.OP.addr, SEQ_CMD.OP.addr]

/-- None of the branches of a low write's start is met by such a word. -/
theorem State.startLow_of_startsNothing {a : Nat} (h : startsNothing a) (s : State) (v : Nat) (bmc : Bool) :
    s.startLow a v bmc = s := by
  obtain ⟨honly, hrange, hcmd⟩ := h
  have htw : ¬(0x50000 ≤ a ∧ a < 0x58000 ∧ a % 0x1000 = 8) := by omega
  have halert : ¬(a = TWB_ALRT_CAUSE.CAUSE.addr ∨ a = TWB_ALRT_EN.EN.addr) := by
    simp only [TWB_ALRT_CAUSE.CAUSE, TWB_ALRT_EN.EN]; omega
  have hfwm : a ≠ FWM_CMD.OP.addr := by simp only [FWM_CMD.OP]; omega
  have hkick : a ≠ FWM_WDT_KICK.KEY.addr := by simp only [FWM_WDT_KICK.KEY]; omega
  simp only [startOnly, Bool.or_eq_false_iff, beq_eq_false_iff_ne, ne_eq] at honly
  obtain ⟨⟨⟨⟨⟨hstage, hffc⟩, hpin⟩, hpack⟩, -⟩, hcur⟩ := honly
  simp only [List.mem_cons, List.not_mem_nil, or_false, not_or] at hcmd
  obtain ⟨hdeny, hdrop, hsvy, hflt, hirq, hclg, hseq⟩ := hcmd
  unfold State.startLow
  rw [if_neg hdeny, if_neg hdrop, if_neg hstage, if_neg hsvy, if_neg hffc, if_neg hpin, if_neg hflt, if_neg hirq, if_neg hclg,
    if_neg hcur, if_neg hseq, if_neg htw, if_neg halert, if_neg hfwm, if_neg hkick, if_neg hpack]

/-- Below the DRAM channels no write reaches their settings (R313). -/
theorem State.cfgWritten_of_lt {a : Nat} (h : a < 0x200000) (s : State) : s.cfgWritten a = s := by
  unfold State.cfgWritten
  rw [if_neg (by omega)]

/-- The effect of a write on a word that starts nothing is the plain one. -/
theorem State.regWrite_of_startsNothing {a : Nat} (h : startsNothing a) (s : State) (v : Nat) (bmc : Bool) :
    s.regWrite a v bmc = s.writePlain a v := by
  have ha : a < 0x90000 := by have := h.2.1; omega
  simp only [State.regWrite, h.1, ha, if_true, Bool.false_eq_true, if_false]
  rw [State.cfgWritten_of_lt (by omega), State.startLow_of_startsNothing h]

/-- A word below the ports is no word of HPT_CFG (R351). -/
theorem State.enableShut_of_lt {a : Nat} (h : a < 0x100000) (s : State) (r : FRow) : s.enableShut a r = false := by
  simp only [State.enableShut, Bool.and_eq_false_iff]
  refine .inr (List.any_eq_false.2 fun f _ => ?_)
  have hne : (HPT_CFG.ENABLE f).addr ≠ a := by simp only [HPT_CFG.ENABLE]; omega
  simp [hne]

/-- The plain effect on a word of one field. -/
theorem State.writePlain_of_single {a : Nat} {r : FRow} (h : writable a = [r]) (ha : a < 0x90000) (s : State) (v : Nat) :
    s.writePlain a v = s.writeField a v r := by
  have hw : breaksWait a v = false := by
    have hne : (a == RES_WAIT.HIGH.addr) = false := by simp only [RES_WAIT.HIGH, beq_eq_false_iff_ne]; omega
    simp [breaksWait, hne]
  simp [State.writePlain, hw, h, s.enableShut_of_lt (show a < 0x100000 by omega), State.forEach]

/-- An aligned 32-bit write of the Foreman cluster (R4). -/
theorem State.doRegisterWrite_foreman {s : State} (h : s.hubOn = true) {a : Nat} (ha : a % 4 = 0) (data : BitVec 64) :
    s.doRegisterWrite .foreman a 4 data = s.regWrite a (data.toNat % 2 ^ 32) false := by
  simp [State.doRegisterWrite, State.writeOne, h, ha]

/-- A sub-word write of the cluster is ignored (R4). -/
theorem State.doRegisterWrite_subword (s : State) (a : Nat) {bytes : Nat} (h : bytes = 1 ∨ bytes = 2) (data : BitVec 64) :
    s.doRegisterWrite .foreman a bytes data = s := by
  rcases h with rfl | rfl <;> simp [State.doRegisterWrite, State.writeOne]

/-- A write of the cluster to a word of one field that starts nothing is a write of that field. -/
theorem State.doRegisterWrite_of_single {s : State} (h : s.hubOn = true) {a : Nat} {r : FRow} (ha : a % 4 = 0)
    (hs : startsNothing a) (hl : a < 0x90000) (hr : writable a = [r]) (data : BitVec 64) :
    s.doRegisterWrite .foreman a 4 data = s.writeField a (data.toNat % 2 ^ 32) r := by
  rw [State.doRegisterWrite_foreman h ha, State.regWrite_of_startsNothing hs, State.writePlain_of_single hr hl]

/-- The low bits of a word written are those of the data. -/
theorem bitsOf_zero_mod_word {n : Nat} (h : n ≤ 32) (v : Nat) : bitsOf 0 n (v % 2 ^ 32) = v % 2 ^ n := by
  rw [bitsOf, Nat.pow_zero, Nat.div_one, Nat.mod_mod_of_dvd _ (Nat.pow_dvd_pow 2 h)]

/-- A command in power does `P` where its effect, worked out as `u`, meets `P`. -/
theorem State.does_of_eq {s u : State} {c : Instr} {f : State → State} {P : State → Prop} (h : s.chip ≠ .off)
    (he : exec c s = run f s) (hu : f s = u) (hp : P u) : s.does c P :=
  State.does_of_run h he (hu ▸ hp)

/-- A denied access counts, up to the register's end (R587, R589). -/
theorem State.rd_deny_count (s : State) (p a : Nat) (write : Bool) :
    (s.deny p a write).rd BED_DENY.COUNT = min (s.rd BED_DENY.COUNT + 1) 65535 := by
  unfold State.deny
  rw [State.rd_wrB_apart _ (by decide) (by decide), State.rd_wr_apart _ (by decide) (by decide),
    State.rd_wr_apart _ (by decide) (by decide), State.rd_addSat_self _ (by decide)]
  rfl

/-- The face of the access denied last is shown (R587). -/
theorem State.rd_deny_face (s : State) (p a : Nat) (write : Bool) : (s.deny p a write).rd BED_DENY.FACE = p % 8 := by
  unfold State.deny
  rw [State.rd_wrB_apart _ (by decide) (by decide), State.rd_wr_apart _ (by decide) (by decide), State.rd_wr_self_mod _ (by decide)]
  rfl

/-- So is its address (R587). -/
theorem State.rd_deny_addr (s : State) (p a : Nat) (write : Bool) :
    (s.deny p a write).rd BED_DENY_ADDR.ADDR = a / 4 % 2 ^ 24 := by
  unfold State.deny
  rw [State.rd_wrB_apart _ (by decide) (by decide), State.rd_wr_self_mod _ (by decide)]
  rfl

/-- And whether it was a write (R587). -/
theorem State.rd_deny_write (s : State) (p a : Nat) (write : Bool) :
    (s.deny p a write).rd BED_DENY_ADDR.WRITE = if write then 1 else 0 :=
  State.rd_wrB_self _ (by decide) (by decide) write

/-- A denied access reaches nothing but the two words that count and show it. -/
theorem State.deny_onlyWords (s : State) (p a : Nat) (write : Bool) :
    onlyWords [BED_DENY.COUNT.addr, BED_DENY_ADDR.ADDR.addr] s (s.deny p a write) :=
  ⟨keepsBut_wrB (keepsBut_wr (keepsBut_wr (keepsBut_addSat (keepsBut_refl _ s) (by simp)) (by simp)) (by simp)) (by simp),
    keepsWords_wrB (keepsWords_wr (keepsWords_wr (keepsWords_addSat (keepsWords_refl _ s) (by decide)) (by decide)) (by decide)) (by decide)⟩

/-- A denied read reaches these, and what is sent for it. -/
theorem State.deny_send_keeps (s : State) (p a : Nat) (write : Bool) (o : Out) :
    ((s.deny p a write).send o).out = o :: s.out ∧ keepsBut [.regs, .out] s ((s.deny p a write).send o) ∧
      keepsWords [BED_DENY.COUNT.addr, BED_DENY_ADDR.ADDR.addr] s ((s.deny p a write).send o) := by
  obtain ⟨hparts, hwords⟩ := s.deny_onlyWords p a write
  refine ⟨?_, ?_, ?_⟩
  · exact congrArg (List.cons o) (hparts .out (by decide))
  · exact keepsBut_send (keepsBut_mono hparts (by simp)) (by simp)
  · exact keepsWords_of_regs hwords rfl

/-- A write of a host outside its ranges is denied (R586, R587). -/
theorem State.doRegisterWrite_denied {s : State} {p a : Nat} (hl : s.barLive p a = true) (ha : a % 4 = 0)
    (hr : hostReach p a = false) (hd : isDoorbell a = false) (data : BitVec 64) :
    s.doRegisterWrite (.host p) a 4 data = s.deny p a true := by
  simp [State.doRegisterWrite, State.writeOne, State.hostWrite, hl, ha, hr, hd]

/-- A read of a host outside its ranges is denied and returns 0 (R586, R587). -/
theorem State.doDeniedHostAccess_read {s : State} {p a bytes : Nat} (hl : s.barLive p a = true) (hr : hostReach p a = false)
    (hd : isDoorbell a = false) (hb : bytes = 1 ∨ bytes = 2 ∨ bytes = 4) (data : BitVec 64) :
    s.doDeniedHostAccess p a false bytes data = (s.deny p a false).send (.barData p 0) := by
  rcases hb with rfl | rfl | rfl <;>
    simp [State.doDeniedHostAccess, State.hostRead, State.hostReads, hl, hr, hd]

/-- A field cleared reads 0. -/
theorem State.rd_wr_zero (s : State) {f : Fld} (h : f.lo + f.width ≤ 32) : (s.wr f 0).rd f = 0 := by
  rw [State.rd_wr_self_mod s h, Nat.zero_mod]

/-- A command without effect reaches no word. -/
theorem onlyWords_refl (l : List Nat) (s : State) : onlyWords l s s := ⟨keepsBut_refl _ s, keepsWords_refl _ s⟩

/-- A field's write reaches only the word that holds it. -/
theorem onlyWords_wr {l : List Nat} (s : State) {f : Fld} {v : Nat} (h : f.addr ∈ l) : onlyWords l s (s.wr f v) :=
  ⟨keepsBut_wr (keepsBut_refl _ s) (by simp), keepsWords_wr (keepsWords_refl _ s) h⟩

/-- Settles O12: a write is that of the fields of its word, and a denied access is counted. -/
theorem registerAccess : Obligations.RegisterAccess := by
  refine ⟨?_, ?_, ?_, ?_, ?_, ?_, ?_, ?_⟩
  · rintro - - - data s hoff hhub rfl rfl rfl
    refine State.does_of_eq hoff (exec_registerWrite ..) (State.doRegisterWrite_of_single hhub (r := ⟨0x34, 4, 1, 0, 3, .rw, 0, .any⟩)
      (by decide) (by decide) (by decide) (by decide) data) ⟨?_, ?_⟩
    · rw [State.writeField_of_stores _ _ (.inl rfl)]
      refine (State.rd_wr_self_mod s (f := BED_FSEL.FACE) (by decide) _).trans ?_
      rw [Lim.apply, bitsOf_zero_mod_word (by decide)]
      exact Nat.mod_mod _ 8
    · exact State.writeField_onlyWords ..
  · rintro - - - data s hoff hhub rfl rfl rfl
    refine State.does_of_eq hoff (exec_registerWrite ..) (State.doRegisterWrite_of_single hhub (r := ⟨0x4c, 4, 1, 0, 8, .w1c, 0, .any⟩)
      (by decide) (by decide) (by decide) (by decide) data) ⟨?_, ?_⟩
    · rw [State.writeField_of_w1c _ _ rfl, bitsOf_zero_mod_word (by decide)]
      exact State.rd_wr_self s (f := SEQ_EVS2.STATUS) (by decide) (Nat.lt_of_le_of_lt (Nat.sub_le ..) (s.rd_lt SEQ_EVS2.STATUS))
    · exact State.writeField_onlyWords ..
  · rintro - - - data s hoff hhub rfl rfl rfl
    refine State.does_of_eq hoff (exec_registerWrite ..) ((State.doRegisterWrite_of_single hhub (r := ⟨4, 4, 1, 0, 28, .live, 0, .any⟩)
      (by decide) (by decide) (by decide) (by decide) data).trans (State.writeField_of_fixed _ _ (.inr (.inr rfl))))
      ⟨rfl, onlyWords_refl _ s⟩
  · rintro - addr bytes data s hoff rfl hb
    exact State.does_of_eq hoff (exec_registerWrite ..) (s.doRegisterWrite_subword addr hb data) rfl
  · rintro - addr - data p s hoff rfl hlive rfl halign hreach hbell
    exact State.does_of_eq hoff (exec_registerWrite ..) (State.doRegisterWrite_denied hlive halign hreach hbell data)
      ⟨s.rd_deny_count .., s.rd_deny_face .., s.rd_deny_addr .., s.rd_deny_write .., s.deny_onlyWords ..⟩
  · rintro port addr - bytes data s hoff hlive hreach hbell rfl hb
    obtain ⟨hout, hparts, hwords⟩ := s.deny_send_keeps port addr false (.barData port 0)
    exact State.does_of_eq hoff (exec_deniedHostAccess ..) (State.doDeniedHostAccess_read hlive hreach hbell hb data)
      ⟨(State.send_rd ..).trans (s.rd_deny_count ..), (State.send_rd ..).trans (s.rd_deny_face ..),
        (State.send_rd ..).trans (s.rd_deny_addr ..), (State.send_rd ..).trans (s.rd_deny_write ..), hout, hparts, hwords⟩
  · intro s hoff
    have he : s.doBedDenyClear = s.wr BED_DENY.COUNT 0 := by simp [State.doBedDenyClear, hoff]
    exact State.does_of_eq hoff (exec_bedDenyClear s) he ⟨State.rd_wr_zero s (by decide), State.rd_wr_apart s (by decide) (by decide) 0,
      onlyWords_wr s (List.mem_singleton_self _)⟩
  · intro s hoff
    have he : s.doBedDropClear = s.wr BED_DROP.COUNT 0 := by simp [State.doBedDropClear, hoff]
    exact State.does_of_eq hoff (exec_bedDropClear s) he ⟨State.rd_wr_zero s (by decide), onlyWords_wr s (List.mem_singleton_self _)⟩

/-! ### Loss of power and a cold reset (R8, R16, R36, R500) -/

/-- Without power no register word but those that NAND keeps holds anything else than its reset value (R6, R16). -/
theorem State.word_nandOnly (s : State) (a : Nat) : s.nandOnly.word a = regReset a := rfl

/-- Off leaves every register word at its reset value but GAL_STATUS (R16, R500). -/
theorem State.word_powerOff (s : State) {a : Nat} (h : a ≠ GAL_STATUS.SOLO.addr) : s.powerOff.word a = regReset a :=
  s.nandOnly.word_wr_ne GAL_STATUS.SOLO (s.rd GAL_STATUS.SOLO) h

/-- SOLO is kept in NAND (R448). -/
theorem State.solo_powerOff (s : State) : s.powerOff.rd GAL_STATUS.SOLO = s.rd GAL_STATUS.SOLO :=
  State.rd_wr_rd s.nandOnly s (by decide) (Nat.le_refl _)

/-- The Bedrock domain has power and its strap for the test state is sampled; no register has been written yet (R8, R603). -/
def State.coldStart (s : State) (testen : Bool) : State :=
  { s.powerOff with chip := .bedrock, pin := { s.powerOff.pin with testen := testen, power := true } }

/-- A cold reset in Off is a start from no power, and the chip state and the straps as registers show them (R8). -/
theorem State.doColdReset_of_off {s : State} (h : s.chip = .off) (bset baddr : Nat) (testen : Bool) :
    s.doColdReset bset baddr testen = (((s.coldStart testen).wr BED_STATE.CHIP Chip.bedrock.code).wr SEQ_STRAP.BSET (bset % 4)).wr
      TWB_T0.ADDR (0x58 + baddr % 4) := by
  simp [State.doColdReset, State.coldStart, h]

/-- COLD_RESET answers what it does, with nothing else in that step. -/
theorem exec_coldReset_of_off {s : State} (h : s.chip = .off) (bset baddr : Nat) (testen : Bool) :
    exec (.coldReset bset baddr testen) s = .next ((((s.coldStart testen).wr BED_STATE.CHIP Chip.bedrock.code).wr SEQ_STRAP.BSET
      (bset % 4)).wr TWB_T0.ADDR (0x58 + baddr % 4)) := by
  rw [exec_coldReset, runPower, State.doColdReset_of_off h]

/-- Settles O55: from no power every word reads its reset value, and a cold reset then writes three of them. -/
theorem coldResetRegisters : Obligations.ColdResetRegisters := by
  intro bset baddr testen s h
  refine ⟨_, exec_coldReset_of_off h bset baddr testen, rfl, fun a ha => ?_, ?_, rfl, rfl, rfl, rfl, rfl, rfl⟩
  · simp only [List.mem_cons, List.not_mem_nil, or_false, not_or] at ha
    obtain ⟨hchip, hbset, haddr, hsolo⟩ := ha
    rw [State.word_wr_ne _ _ _ haddr, State.word_wr_ne _ _ _ hbset, State.word_wr_ne _ _ _ hchip]
    exact s.word_powerOff hsolo
  · rw [State.rd_wr_ne _ (by decide), State.rd_wr_ne _ (by decide), State.rd_wr_ne _ (by decide)]
    exact s.solo_powerOff

end Sys2Proof.Machine
end

section
/-! PROOFS. Reads and writes of a host (R21, R352): what the hub clock leaves alone in Bedrock, where the hub base has no power, and that
a write whose data is in DRAM stays in the buffer until it has completed. -/

namespace Sys2Proof.Machine

/-! ### What the hub clock leaves alone in Bedrock (R16, R500) -/

/-- The parts of the state that the hub clock may reach in Bedrock. -/
def bedrockParts : List Part := [.regs, .margin, .adm, .ports, .gal, .seq, .flt, .clg, .twb, .pin, .out]

/-- `t` is `s` after work that the hub clock may do in Bedrock: no other part has changed, and no port's write buffer. -/
structure State.BedrockStep (s t : State) : Prop where
  parts : keepsBut bedrockParts s t
  buffers : ∀ p, (t.port p).wbuf = (s.port p).wbuf

/-- The hub base has no power in Bedrock (R16). -/
theorem State.hubOn_of_bedrock {s : State} (h : s.chip = .bedrock) : s.hubOn = false := by
  simp [State.hubOn, State.powered, h]

namespace State.BedrockStep

variable {s t u : State}

theorem refl (s : State) : s.BedrockStep s := ⟨keepsBut_refl _ s, fun _ => rfl⟩

theorem chip (h : s.BedrockStep t) : t.chip = s.chip := h.parts .chip (by decide)

theorem hubOn (h : s.BedrockStep t) (hs : s.chip = .bedrock) : t.hubOn = false := State.hubOn_of_bedrock (h.chip.trans hs)

theorem write? (h : s.BedrockStep t) (p tag : Nat) : t.write? p tag = s.write? p tag := by
  rw [State.write?, h.buffers, State.write?]

theorem ite {c : Prop} [Decidable c] (ht : s.BedrockStep t) (hu : s.BedrockStep u) : s.BedrockStep (if c then t else u) := by
  split
  · exact ht
  · exact hu

theorem when {b : Bool} {f : State → State} (h : s.BedrockStep t) (hf : ∀ t, s.BedrockStep t → s.BedrockStep (f t)) :
    s.BedrockStep (t.when b f) := ite (hf t h) h

theorem forEach {A : Type} {as : List A} {f : State → A → State} (h : s.BedrockStep t)
    (hf : ∀ t a, s.BedrockStep t → s.BedrockStep (f t a)) : s.BedrockStep (t.forEach as f) := by
  unfold State.forEach
  induction as generalizing t with
  | nil => exact h
  | cons a as ih => exact ih (hf t a h)

/-! Parts of the state that no write buffer depends on -/

/-- Work within the listed parts that leaves the ports as they are. -/
theorem of_parts (h : s.BedrockStep t) (hparts : keepsBut bedrockParts t u) (hports : u.ports = t.ports) : s.BedrockStep u :=
  ⟨keepsBut_trans h.parts hparts, fun p => by rw [State.port, hports, ← State.port, h.buffers]⟩

theorem flt {x : FltSt} (h : s.BedrockStep t) : s.BedrockStep { t with flt := x } :=
  h.of_parts (keepsBut_flt (keepsBut_refl _ t) (by decide)) rfl

theorem adm {x : AdmSt} (h : s.BedrockStep t) : s.BedrockStep { t with adm := x } :=
  h.of_parts (keepsBut_adm (keepsBut_refl _ t) (by decide)) rfl

theorem clg {x : ClgSt} (h : s.BedrockStep t) : s.BedrockStep { t with clg := x } :=
  h.of_parts (keepsBut_clg (keepsBut_refl _ t) (by decide)) rfl

theorem gal {x : GalSt} (h : s.BedrockStep t) : s.BedrockStep { t with gal := x } :=
  h.of_parts (keepsBut_gal (keepsBut_refl _ t) (by decide)) rfl

theorem seq {x : SeqSt} (h : s.BedrockStep t) : s.BedrockStep { t with seq := x } :=
  h.of_parts (keepsBut_seq (keepsBut_refl _ t) (by decide)) rfl

theorem twb {x : TwbSt} (h : s.BedrockStep t) : s.BedrockStep { t with twb := x } :=
  h.of_parts (keepsBut_twb (keepsBut_refl _ t) (by decide)) rfl

theorem pin {x : PinSt} (h : s.BedrockStep t) : s.BedrockStep { t with pin := x } :=
  h.of_parts (keepsBut_pin (keepsBut_refl _ t) (by decide)) rfl

theorem margin {x : Margin} (h : s.BedrockStep t) : s.BedrockStep { t with margin := x } :=
  h.of_parts (keepsBut_margin (keepsBut_refl _ t) (by decide)) rfl

theorem wr {f : Fld} {v : Nat} (h : s.BedrockStep t) : s.BedrockStep (t.wr f v) :=
  h.of_parts (keepsBut_wr (keepsBut_refl _ t) (by decide)) rfl

theorem send {o : Out} (h : s.BedrockStep t) : s.BedrockStep (t.send o) :=
  h.of_parts (keepsBut_send (keepsBut_refl _ t) (by decide)) rfl

theorem raiseQ {src : Nat} {q : Bool} (h : s.BedrockStep t) : s.BedrockStep (t.raiseQ src q) := h.wr.flt

theorem alert {c : Nat} (h : s.BedrockStep t) : s.BedrockStep (t.alert c) := ite h.wr.twb h.wr

/-! What the faces are told (R329, R331) -/

/-- A change of a port that leaves its write buffer alone. -/
theorem setPort {p : Nat} {q : Port} (h : s.BedrockStep t) (hq : q.wbuf = (t.port p).wbuf) : s.BedrockStep (t.setPort p q) := by
  refine ⟨keepsBut_setPort h.parts (by decide), fun j => ?_⟩
  rw [← h.buffers j]
  by_cases hj : j = p
  · subst hj
    rw [← hq, State.port, State.setPort, SMap.get_put_self]
  · rw [State.port, State.setPort, SMap.get_put_ne _ _ hj, State.port]

/-- An event record goes into a log of the face; a full log is raised. -/
theorem postEvent {f log : Nat} {b : EvBody} (h : s.BedrockStep t) : s.BedrockStep (t.postEvent f log b) :=
  have hlog (l : EvLog) : s.BedrockStep (t.setLog f log l) := h.setPort rfl
  ite (ite (hlog _).send (hlog _)) (raiseQ (wr (hlog _)))

theorem postFaces {p : Nat → Bool} {log : Nat} {b : State → Nat → EvBody} (h : s.BedrockStep t) :
    s.BedrockStep (t.postFaces p log b) := h.forEach fun _ _ h => h.postEvent

theorem postVendor {f kind aux : Nat} (h : s.BedrockStep t) : s.BedrockStep (t.postVendor f kind aux) := ite h.postEvent h

/-! The margin state, OVERHANG and the packs (R139, R145, R147, R161) -/

theorem enterSable (h : s.BedrockStep t) : s.BedrockStep t.enterSable :=
  alert (postFaces (h.forEach fun _ _ h => h.wr.postVendor))

theorem leaveSable (h : s.BedrockStep t) : s.BedrockStep t.leaveSable := h.postFaces.alert

theorem enterPearl (h : s.BedrockStep t) : s.BedrockStep t.enterPearl := h.forEach fun _ _ h => h.wr.postVendor

theorem changeMargin {m : Margin} (h : s.BedrockStep t) : s.BedrockStep (t.changeMargin m) :=
  ite h <| when (when (when (raiseQ (wr (wr (wr h.margin)))) fun _ => enterSable) fun _ => leaveSable) fun _ => enterPearl

theorem updOverhang (h : s.BedrockStep t) : s.BedrockStep t.updOverhang := ite (raiseQ (wr h)) (wr h)

theorem formRec {typ family : Nat} {ws : List Nat} (h : s.BedrockStep t) : s.BedrockStep (t.formRec typ family ws) :=
  ite h.clg (ite h.clg (wr h.clg))

theorem updRemoval {k : Nat} (h : s.BedrockStep t) : s.BedrockStep (t.updRemoval k) :=
  ite (ite h (formRec (alert (raiseQ (wr h))))) h

theorem reportChange {f : Nat} (h : s.BedrockStep t) : s.BedrockStep (t.reportChange f) :=
  ite (ite (adm (postEvent h)) h.adm) h

theorem reportMargins (h : s.BedrockStep t) : s.BedrockStep t.reportMargins :=
  ite h (forEach h.adm fun _ _ => reportChange)

theorem extreme {i : Nat} {v : Int} (h : s.BedrockStep t) : s.BedrockStep (t.extreme i v) := by
  refine ite ?_ h
  dsimp only
  split
  · exact h.clg
  · exact h

theorem admClock (h : s.BedrockStep t) : s.BedrockStep t.admClock :=
  extreme (reportMargins (forEach (updOverhang (changeMargin h)) fun _ _ => updRemoval))

/-! The steps of a handover (R456) -/

/-- A command starts no save in Bedrock (R500). -/
theorem saveTrigger_trigCmd {off : Bool} (h : s.chip = .bedrock) : s.saveTrigger trigCmd off = s := by
  simp [State.saveTrigger, h, trigCmd, trigPwr, trigRail]

theorem handoverClock (h : s.BedrockStep t) (hs : s.chip = .bedrock) : s.BedrockStep t.handoverClock := by
  unfold State.handoverClock
  split
  · exact ite h.gal h
  · refine ite ?_ h
    rw [saveTrigger_trigCmd (h.gal.chip.trans hs)]
    exact h.gal
  · exact ite (wr h.gal) h
  · exact h

/-! Raises that wait: counted, captured, acted on (R508 to R525) -/

theorem rollDue {cls : Nat} (h : s.BedrockStep t) : s.BedrockStep (t.rollDue cls) := by
  refine ite ?_ h
  unfold State.rollTo
  exact when (flt (when (forEach (h.forEach fun _ _ h => h.wr.wr) fun _ _ => wr) fun _ => wr)) fun _ => wr

theorem tally {src tick rank : Nat} (h : s.BedrockStep t) : s.BedrockStep (t.tally src tick rank) := by
  refine ite ?_ h
  dsimp only
  split
  · exact h.clg
  · exact h

theorem takeRaise {r : Raise} (h : s.BedrockStep t) : s.BedrockStep (t.takeRaise r).2 := by
  unfold State.takeRaise
  exact tally (when (wr (wr (rollDue h))) fun _ => flt)

theorem takeAll {l : List Raise} (h : s.BedrockStep t) : s.BedrockStep (State.takeAll l t).2 := by
  induction l generalizing t with
  | nil => exact h
  | cons r l ih =>
    rw [State.takeAll]
    exact ih h.takeRaise

theorem updErr (h : s.BedrockStep t) : s.BedrockStep t.updErr := when (wr (wr (wr h.pin))) fun _ => alert

theorem capture {rs : List React} (h : s.BedrockStep t) : s.BedrockStep (t.capture rs) := by
  unfold State.capture
  dsimp only
  split
  · exact h
  · refine ite (wr (wr h)) (alert ?_)
    repeat apply wr
    exact h

/-- In Bedrock an action drives ERR_N at most: no Hold begins, and no reset is asked for (R502, R523). -/
theorem chipAction {rs : List React} (h : s.BedrockStep t) (hs : s.chip = .bedrock) : s.BedrockStep (t.chipAction rs) := by
  have ht : t.chip = .bedrock := h.chip.trans hs
  have hhold : t.enterHold = (t.wr FLT_ERR.PIN 1).updErr := by simp [State.enterHold, ht]
  have hreset : t.askReset .creset = t := by simp [State.askReset, State.powered, ht]
  unfold State.chipAction
  rw [hhold, hreset]
  exact ite h.wr.updErr (ite h (ite h.wr.updErr h))

theorem queueIrq {r : React} (h : s.BedrockStep t) : s.BedrockStep (t.queueIrq r) := ite (ite h.flt h.wr) h

theorem twReset {n : Nat} (h : s.BedrockStep t) : s.BedrockStep (t.twReset n) :=
  ite (forEach h.wr fun _ _ h => ite (wr h.seq) h) h

/-- Of the blocks whose sources stand outside the hub base only the two-wire ports are reset; the cluster has no power (R518). -/
theorem blockReset {src : Nat} (h : s.BedrockStep t) (hs : s.chip = .bedrock) (hsrc : 576 ≤ src) : s.BedrockStep (t.blockReset src) := by
  have hcores : t.foremanReset = t := by simp [State.foremanReset, h.hubOn hs]
  unfold State.blockReset
  rw [if_neg (by omega), if_neg (by omega), if_neg (by omega), if_neg (by omega), if_neg (by omega), if_neg (by omega), hcores]
  exact ite h.twReset (ite h h)

theorem brWait {src : Nat} (h : s.BedrockStep t) : s.BedrockStep (t.brWait src) := h.flt

theorem breset {src : Nat} (h : s.BedrockStep t) (hs : s.chip = .bedrock) : s.BedrockStep (t.breset src) := by
  unfold State.breset
  rw [if_neg (by simp [h.chip, hs]), h.hubOn hs]
  split
  next hsrc => exact ite h.brWait (h.blockReset hs (hsrc.resolve_left Bool.false_ne_true))
  next => exact h

theorem act {rs : List React} (h : s.BedrockStep t) (hs : s.chip = .bedrock) : s.BedrockStep (t.act rs) := by
  have hqueued : s.BedrockStep ((t.chipAction rs).forEach rs State.queueIrq) := forEach (h.chipAction hs) fun _ _ => queueIrq
  exact ite h (ite hqueued (forEach hqueued fun _ _ h => h.breset hs))

theorem fltPass (h : s.BedrockStep t) (hs : s.chip = .bedrock) : s.BedrockStep t.fltPass :=
  ite h (act (capture (takeAll h.flt)) hs)

theorem fltClock (h : s.BedrockStep t) (hs : s.chip = .bedrock) : s.BedrockStep t.fltClock :=
  (((h.fltPass hs).fltPass hs).fltPass hs).fltPass hs

theorem laterClock (h : s.BedrockStep t) (hs : s.chip = .bedrock) : s.BedrockStep t.laterClock := by
  have hlate (l : List Nat) (hl : ∀ src ∈ l, 576 ≤ src) (f : State → Nat → Bool) (u : State) (hu : s.BedrockStep u) :
      s.BedrockStep (u.forEach l fun t src => if f t src then t.brWait src else t.blockReset src) := by
    induction l generalizing u with
    | nil => exact hu
    | cons src l ih => exact ih (fun x hx => hl x (.tail _ hx)) _ (ite hu.brWait (hu.blockReset hs (hl src (.head _))))
  refine ite h (hlate _ (fun src hsrc => ?_) _ _ h.flt)
  simpa [h.hubOn hs] using (List.mem_filter.1 hsrc).2

end State.BedrockStep

/-- A warm chip reset that waits is not carried out in Bedrock (R500, R502). -/
theorem State.resetClock_of_bedrock {s : State} (h : s.chip = .bedrock) (hreset : s.bed.chipReset = 0) : s.resetClock = s := by
  have hwaits : s.rstClock = s := by
    unfold State.rstClock
    split
    · rfl
    · simp [h]
  simp [State.resetClock, State.when, hwaits, hreset]

/-- The hub clock in Bedrock, with no live load and no chip reset under way, reaches no write buffer. -/
theorem State.hubClock_bedrockStep {s : State} (h : s.chip = .bedrock) (hlive : s.svy.cmd ≠ 4) (hreset : s.bed.chipReset = 0) :
    s.BedrockStep s.hubClock := by
  have hsvy : s.svyClock = s := by simp [State.svyClock, State.when, hlive]
  have hadm : s.BedrockStep s.admClock := .admClock (.refl s)
  have hhub : s.admClock.hubWork = s.admClock := by simp [State.hubWork, State.when, hadm.hubOn h]
  have hhand := hadm.handoverClock h
  have hisl : s.admClock.handoverClock.islClock = s.admClock.handoverClock := by simp [State.islClock, hhand.hubOn h]
  have hlater := (hhand.fltClock h).laterClock h
  have hbed : s.admClock.handoverClock.fltClock.laterClock.bed = s.bed := hlater.parts .bed (by decide)
  rw [State.hubClock, hsvy, hhub, hisl, State.resetClock_of_bedrock (hlater.chip.trans h) (by rw [hbed, hreset])]
  exact hlater

/-- So what a command leaves in a write buffer in Bedrock stands there at the end of its hub clock. -/
theorem State.settled_write? {s u : State} (h : u.chip = .bedrock) (hlive : u.svy.cmd ≠ 4) (hreset : u.bed.chipReset = 0) (p tag : Nat) :
    (s.settled u).write? p tag = u.write? p tag := (State.hubClock_bedrockStep h hlive hreset).write? p tag

/-! ### A write whose data is in DRAM before it has completed (R21, R352, R440) -/

/-- A write that is admitted and not yet completed, as one that waits for the twin's acknowledgement. -/
def admittedWrite : WEnt :=
  { tag := 7, dpa := 0, sett := 0, line := 0, data := 0xABCD, mask := fullMask, poison := false, wait := .admitted, done := false,
    fresh := false, since := 0, seq := 1, devs := 0 }

/-- The state after a cold reset, with that write in the buffer of port H0. -/
def admittedState : State := State.reset.setPort 0 { Port.reset with wbuf := [admittedWrite] }

/-- Its data is written to DRAM, as poison since its buffer entry cannot be corrected, and the entry stays until it has completed. -/
theorem admittedState_doDataWritten : (admittedState.doDataWritten 0 7 false true).write? 0 7 =
    some { admittedWrite with poison := true, wait := .drained } := by decide +kernel

/-- Refutes O28: DATA_WRITTEN_TO_DRAM with an uncorrectable buffer entry (`bufErr`) need not free that entry, as its clause says: an
admitted write that has not completed stays in the buffer as drained (R21), and the clause does not ask that it has completed. In
Bedrock the hub clock that follows reaches no write buffer, so no other effect of the command leads to the same next state either. -/
theorem not_hostMemory : ¬ Obligations.HostMemory := by
  rintro ⟨-, -, -, -, -, -, -, -, -, hdata, -, -⟩
  obtain ⟨u, hu, -, hfreed, -, hkeeps⟩ := hdata 0 7 false true admittedWrite admittedState (by decide) (by decide +kernel) rfl rfl
    (by decide) (by decide +kernel) (by decide +kernel)
  rw [exec_dataWrittenToDram, run_of_ne_off (by decide)] at hu
  have hsettled := Host.Outcome.next.inj hu
  have hchip : u.chip = .bedrock := hkeeps .chip (by decide)
  have hsvy : u.svy = admittedState.svy := hkeeps .svy (by decide)
  have hbed : u.bed = admittedState.bed := hkeeps .bed (by decide)
  have hstays : (admittedState.settled (admittedState.doDataWritten 0 7 false true)).write? 0 7 =
      some { admittedWrite with poison := true, wait := .drained } :=
    (State.settled_write? (by decide +kernel) (by decide +kernel) (by decide +kernel) 0 7).trans admittedState_doDataWritten
  have hgone : (admittedState.settled u).write? 0 7 = none :=
    (State.settled_write? hchip (by rw [hsvy]; decide) (by rw [hbed]; rfl) 0 7).trans hfreed
  rw [hsettled, hgone] at hstays
  cases hstays

end Sys2Proof.Machine
end

section
/-! PROOFS. A write of a line in DRAM, byte by byte (R25, R31). -/

namespace Sys2Proof.Machine

/-! ### The bytes of a line (R25) -/

/-- Bytes written one after another, each at a place of its own: what a place reads that is among them. -/
theorem get_foldl_putByte_of_mem {f : Nat → Nat} (hf : f.Injective) (g : Nat → Byte) (c : Nat → Bool) {j : Nat} {l : List Nat}
    (hl : l.Nodup) (hj : j ∈ l) (m : List Host.Cell) :
    SMap.get (0 : Byte) (f j) (l.foldl (fun m i => if c i then putByte m (f i) (g i) else m) m) =
      if c j then g j else SMap.get 0 (f j) m := by
  induction l generalizing m with
  | nil => cases hj
  | cons i l ih =>
    obtain ⟨hi, hl⟩ := List.nodup_cons.1 hl
    rw [List.foldl_cons]
    rcases List.mem_cons.1 hj with rfl | hj
    · rw [get_foldl_putByte f g c _ l fun x hx e => hi (by rwa [hf e])]
      split
      · exact get_putByte_self ..
      · rfl
    · have hne : f j ≠ f i := fun e => hi (hf e ▸ hj)
      rw [ih hl hj]
      congr 1
      split
      · exact get_putByte_ne m hne _
      · rfl

/-- A byte of a line just written is the data's where its enable is set, else as before. -/
theorem get_putLine (m : List Host.Cell) (a : Nat) (d : Line) (mask : BitVec 64) {i : Nat} (h : i < 64) :
    SMap.get (0 : Byte) (a + i) (putLine m a d mask) = if mask.getLsbD i then d.extractLsb' (i * 8) 8 else SMap.get 0 (a + i) m :=
  get_foldl_putByte_of_mem (add_right_injective a) (fun i => d.extractLsb' (i * 8) 8) (fun i => mask.getLsbD i)
    List.nodup_range (List.mem_range.2 h) m

/-- The digits of a number to the base 256, put together again. -/
theorem foldr_digits (x j n : Nat) :
    (List.range' j n).foldr (fun i acc => acc * 256 + x / 256 ^ i % 256) 0 = x / 256 ^ j % 256 ^ n := by
  induction n generalizing j with
  | zero => simp [Nat.mod_one]
  | succ n ih =>
    rw [List.range'_succ, List.foldr_cons, ih, pow_succ, ← Nat.div_div_eq_div_mul, Nat.pow_succ' (n := n), Nat.mod_mul]
    omega

/-- A word of so many bytes lies below that power of 256. -/
theorem toNat_mod_bytes {n : Nat} (x : BitVec (8 * n)) : x.toNat % 256 ^ n = x.toNat :=
  Nat.mod_eq_of_lt (x.isLt.trans_eq (Nat.pow_mul 2 8 n))

/-- A line is known by its bytes. -/
theorem lineOfMem_eq {m : List Host.Cell} {a : Nat} {d : Line}
    (h : ∀ i < 64, SMap.get (0 : Byte) (a + i) m = d.extractLsb' (i * 8) 8) : lineOfMem m a = d := by
  have hdigits : (List.range 64).foldr (fun i acc => acc * 256 + (SMap.get (0 : Byte) (a + i) m).toNat) 0 = d.toNat := by
    calc _ = (List.range 64).foldr (fun i acc => acc * 256 + d.toNat / 256 ^ i % 256) 0 :=
          List.foldr_ext _ _ _ fun i hi acc => by
            rw [h i (List.mem_range.1 hi), BitVec.extractLsb'_toNat, Nat.shiftRight_eq_div_pow, Nat.mul_comm i, Nat.pow_mul]
      _ = d.toNat % 256 ^ 64 := by rw [List.range_eq_range', foldr_digits, Nat.pow_zero, Nat.div_one]
      _ = d.toNat := toNat_mod_bytes (n := 64) d
  rw [lineOfMem, hdigits, BitVec.ofNat_toNat, BitVec.setWidth_eq]

/-! ### Writes of a line of a sett (R25, R31) -/

/-- A line that is unmarked is not poisoned. -/
theorem State.poisoned_setPoison_false (s : State) (k l : Nat) : (s.setPoison k l false).poisoned k l = false := by
  simp only [State.poisoned, State.setPoison, SMap.get_put_self]
  by_cases hl : l < 1024
  · simp [-BitVec.ofNat_pow, BitVec.getLsbD_ofNat, hl]
  · exact BitVec.getLsbD_of_ge _ _ (Nat.le_of_not_lt hl)

/-- A byte of a line just written. -/
theorem State.byte_writeLine (s : State) (k l : Nat) (d : Line) (mask : BitVec 64) {i : Nat} (h : i < 64) :
    (s.writeLine k l d mask).byte (settByte k (l * 64) + i) =
      if mask.getLsbD i then d.extractLsb' (i * 8) 8 else s.byte (settByte k (l * 64) + i) := by
  rw [State.byte, writeLine_mem, get_putLine _ _ _ _ h, State.byte]

/-- A byte outside the line just written. -/
theorem State.byte_writeLine_of_outside (s : State) (k l : Nat) (d : Line) (mask : BitVec 64) {b : Nat}
    (h : b < settByte k (l * 64) ∨ settByte k (l * 64) + 64 ≤ b) : (s.writeLine k l d mask).byte b = s.byte b := by
  rw [State.byte, writeLine_mem, get_putLine_ne _ _ _ _ _ h, State.byte]

/-- A line written whole reads the data. -/
theorem State.lineAt_writeLine_full (s : State) (k l : Nat) (d : Line) : (s.writeLine k l d fullMask).lineAt k l = d :=
  lineOfMem_eq fun i hi => (s.byte_writeLine k l d fullMask hi).trans (if_pos (by rw [fullMask, BitVec.getLsbD_allOnes, decide_eq_true hi]))

/-- A line written whole is not poisoned (R31). -/
theorem State.poisoned_writeLine_full (s : State) (k l : Nat) (d : Line) : (s.writeLine k l d fullMask).poisoned k l = false := by
  rw [State.writeLine, if_pos rfl]
  exact State.poisoned_setPoison_false _ k l

/-- Settles O59: a byte of the line follows its enable, every other byte is left alone, and a full write ends poison. -/
theorem lineWrite : Obligations.LineWrite := by
  intro s k l d mask
  refine ⟨fun i hi => s.byte_writeLine k l d mask hi, fun b hb => s.byte_writeLine_of_outside k l d mask hb, ?_⟩
  rintro rfl
  exact ⟨s.lineAt_writeLine_full k l d, s.poisoned_writeLine_full k l d⟩

end Sys2Proof.Machine
end

section
/-! PROOFS. Links, flushes and resets of a host port (R33): a Phase 2 flush that stands at a port when the host asks for one. -/

namespace Sys2Proof.Machine

/-- A state that differs only in what is sent. -/
theorem eq_of_keepsBut_out {s u : State} (h : keepsBut [.out] s u) : u = { s with out := u.out } := by
  have hsame (p : Part) (hp : p ≠ .out) : p.same s u := h p (by simpa using hp)
  cases u
  simp only [State.mk.injEq]
  exact ⟨hsame .regs nofun, hsame .tick nofun, hsame .chip nofun, hsame .margin nofun, hsame .stamp nofun, hsame .stampTick nofun,
    hsame .fuse nofun, hsame .bed nofun, hsame .svy nofun, hsame .slb nofun, hsame .lgr nofun, hsame .adm nofun, hsame .haul nofun,
    hsame .save nofun, hsame .stk nofun, hsame .saves nofun, hsame .res nofun, hsame .dch nofun, hsame .ports nofun, hsame .nv nofun,
    hsame .job nofun, hsame .cip nofun, hsame .gal nofun, hsame .seq nofun, hsame .clk nofun, hsame .flt nofun, hsame .clg nofun,
    hsame .twb nofun, hsame .fwm nofun, hsame .pin nofun, hsame .pending nofun, trivial, hsame .free nofun⟩

/-- An open part with an empty write buffer at port H0, whose Phase 2 flush stands unanswered; the clause asks nothing of `gpf`. -/
def flushingState : State :=
  (({ State.reset with chip := .opened, slb := { State.reset.slb with ready := true } }).wr (HPT_STATUS.LINK_UP 0) 1).setPort 0
    { Port.reset with gpf := true }

/-- The effect that the clause asks for: the flush is answered, and nothing but the output tells so. -/
def flushAnswered : State := { flushingState with out := .gpf 0 2 false :: flushingState.out }

/-- GPF_PHASE2 takes the flush that stands for its own, answers it and ends it: one response in all. -/
theorem flushingState_doGpf2 : (flushingState.settled (flushingState.doGpf2 0)).out = [.gpf 0 2 false] := by decide +kernel

/-- A flush that stands is answered in the hub clock, so one that was answered but left standing is answered twice. -/
theorem flushAnswered_settled : (flushingState.settled flushAnswered).out = [.gpf 0 2 false, .gpf 0 2 false] := by decide +kernel

/-- Refutes O29: GPF_PHASE2 at a port with no write in its buffer need not leave every part but the outputs alone, as its clause says: where a
flush stands already (`gpf`) the command ends it. The one state that the clause admits leaves it standing, and the hub clock
that follows then answers it once more, which the command's next state does not show. -/
theorem not_hostLink : ¬ Obligations.HostLink := by
  rintro ⟨-, hphase2, -⟩
  obtain ⟨u, hu, hout, hkeeps⟩ := hphase2 0 flushingState (by decide) (by decide +kernel) (by decide +kernel)
  have hanswered : u = flushAnswered := by rw [eq_of_keepsBut_out hkeeps, hout, flushAnswered]
  rw [exec_gpfPhase2, run_of_ne_off (by decide), hanswered] at hu
  have hsettled := congrArg State.out (Host.Outcome.next.inj hu)
  rw [flushingState_doGpf2, flushAnswered_settled] at hsettled
  cases hsettled

end Sys2Proof.Machine
end

section
/-! PROOFS. The Survey loader: commands that begin, are refused and end, the installation of a copy, and the live load (R75, R76, R78,
R80 to R83, R86). -/

namespace Sys2Proof.Machine

/-! ### A command that begins or is refused (R78, R80, R81) -/

/-- A command that begins reads VERIFYING and takes the staged image, and reaches nothing else (R81 step 1; entry 40). -/
theorem State.svyBegin_effect (s : State) (cmd : Nat) : (s.svyBegin cmd).rd SVY_STATUS.STATE = 1 ∧
    (s.svyBegin cmd).svy = { s.svy with cmd := cmd, live := cmd == 3, taken := s.svy.staging } ∧
    keepsBut [.regs, .svy] s (s.svyBegin cmd) ∧ keepsWords [SVY_STATUS.STATE.addr] s (s.svyBegin cmd) :=
  ⟨State.rd_wr_self _ (by decide) (by decide), rfl, keepsBut_wr (keepsBut_svy (keepsBut_refl _ s) (by decide)) (by decide),
    keepsWords_wr (keepsWords_of_regs (keepsWords_refl _ s) rfl) (by decide)⟩

/-- A refusal that is reported shows its code, leaves STATE alone, and reaches nothing but the status words and FLT (R80, R510). -/
theorem State.svyRefuse_effect (s : State) {code : Nat} (h : code < 2 ^ SVY_STATUS.RESULT.width) :
    ((s.wr SVY_STATUS.RESULT code).raise 683).rd SVY_STATUS.RESULT = code ∧
    ((s.wr SVY_STATUS.RESULT code).raise 683).rd SVY_STATUS.STATE = s.rd SVY_STATUS.STATE ∧
    keepsBut [.regs, .flt] s ((s.wr SVY_STATUS.RESULT code).raise 683) ∧
    keepsWords [SVY_STATUS.STATE.addr, (evsBit 683).1.addr] s ((s.wr SVY_STATUS.RESULT code).raise 683) := by
  refine ⟨?_, ?_, ?_, ?_⟩
  · rw [State.rd_raise_apart _ (by decide) (by decide), State.rd_wr_self _ (by decide) h]
  · rw [State.rd_raise_apart _ (by decide) (by decide), State.rd_wr_apart _ (by decide) (by decide)]
  · exact keepsBut_raise (keepsBut_wr (keepsBut_refl _ s) (by decide)) (by decide) (by decide)
  · exact keepsWords_raise (keepsWords_wr (keepsWords_refl _ s) (by decide)) (by decide)

/-- A refusal that is not reported shows BUSY and leaves STATE alone, in the one word (R80). -/
theorem State.svyBusy_effect (s : State) : (s.wr SVY_STATUS.RESULT svyBusy).rd SVY_STATUS.RESULT = 10 ∧
    (s.wr SVY_STATUS.RESULT svyBusy).rd SVY_STATUS.STATE = s.rd SVY_STATUS.STATE ∧
    onlyWords [SVY_STATUS.STATE.addr] s (s.wr SVY_STATUS.RESULT svyBusy) :=
  ⟨State.rd_wr_self _ (by decide) (by decide), State.rd_wr_apart (f := SVY_STATUS.RESULT) s (by decide) (by decide) _,
    onlyWords_wr s (by decide)⟩

/-- LIVE_LOAD may run in Restoring and Open (R80). -/
theorem State.serving_iff {s : State} : s.serving = true ↔ s.chip = .restoring ∨ s.chip = .opened := by simp [State.serving]

/-- A change of the loader's state and a write of a field do not meet. -/
theorem State.wr_with_svy (s : State) (f : Fld) (v : Nat) (x : SvySt) : { s.wr f v with svy := x } = ({ s with svy := x }).wr f v := rfl

/-- Nor do a write of a field and what is sent. -/
theorem State.wr_send (s : State) (f : Fld) (v : Nat) (o : Out) : (s.wr f v).send o = (s.send o).wr f v := rfl

section
variable {s : State} (hhub : s.hubOn = true)
include hhub

theorem State.doSvyVerify_of_idle (hidle : s.rd SVY_STATUS.STATE = 0) : s.doSvyVerify = s.svyBegin 1 := by
  simp [State.doSvyVerify, hhub, hidle]

theorem State.doSvyVerify_of_busy (hbusy : s.rd SVY_STATUS.STATE ≠ 0) : s.doSvyVerify = s.wr SVY_STATUS.RESULT svyBusy := by
  simp [State.doSvyVerify, hhub, hbusy]

theorem State.doSvyClear_of_idle (hidle : s.rd SVY_STATUS.STATE = 0) : s.doSvyClear =
    (({ s with svy := { s.svy with staging := [] } }).wr SVY_STAGE_ADDR.ADDR 0).wr SVY_STATUS.RESULT svyOk := by
  simp [State.doSvyClear, hhub, hidle]

theorem State.doSvyClear_of_busy (hbusy : s.rd SVY_STATUS.STATE ≠ 0) : s.doSvyClear = s.wr SVY_STATUS.RESULT svyBusy := by
  simp [State.doSvyClear, hhub, hbusy]

/-- INSTALL begins in every chip state, LIVE_LOAD only in Restoring and Open (R80). -/
theorem State.svyInstall_of_idle {live : Bool} (hidle : s.rd SVY_STATUS.STATE = 0) (hserving : live = true → s.serving = true) :
    s.svyInstall live = s.svyBegin (if live then 3 else 2) := by
  cases live
  · simp [State.svyInstall, hhub, hidle]
  · simp [State.svyInstall, hhub, hidle, hserving rfl]

theorem State.svyInstall_of_busy (live : Bool) (hbusy : s.rd SVY_STATUS.STATE ≠ 0) :
    s.svyInstall live = (s.wr SVY_STATUS.RESULT svyBusy).raise 683 := by simp [State.svyInstall, hhub, hbusy]

theorem State.svyInstall_of_not_serving (hidle : s.rd SVY_STATUS.STATE = 0) (hserving : s.serving = false) :
    s.svyInstall true = (s.wr SVY_STATUS.RESULT svyState).raise 683 := by simp [State.svyInstall, hhub, hidle, hserving]

/-- A write of the staging buffer goes to the word at ADDR, which advances (R86). -/
theorem State.doStageSvy_write (w : Word) : s.doStageSvy true w =
    ({ s with svy := { s.svy with staging := SMap.put 0 (s.rd SVY_STAGE_ADDR.ADDR * 4) w s.svy.staging } }).wr SVY_STAGE_ADDR.ADDR
      (s.rd SVY_STAGE_ADDR.ADDR + 1) := by
  rw [State.doStageSvy, if_neg (by simp [hhub]), if_pos rfl, State.wr_svy, State.wr_with_svy]

/-- A read of the staging buffer returns the word at ADDR, which advances (R86). -/
theorem State.doStageSvy_read (w : Word) : s.doStageSvy false w =
    (s.send (.regData (SMap.get 0 (s.rd SVY_STAGE_ADDR.ADDR * 4) s.svy.staging))).wr SVY_STAGE_ADDR.ADDR
      (s.rd SVY_STAGE_ADDR.ADDR + 1) := by
  rw [State.doStageSvy, if_neg (by simp [hhub]), if_neg Bool.false_ne_true, State.wr_svy, State.wr_send]

end

/-! ### A command that ends (R83, R346, R510) -/

/-- The registers of an end: IDLE with a RESULT, and a failure reported (R83, R510). -/
def State.svyShows (s : State) (res : Nat) (report : Bool) : State :=
  ((s.wr SVY_STATUS.STATE 0).wr SVY_STATUS.RESULT res).raiseIf (report && res != svyOk) 683

/-- The loader holds no command and no image taken any more. -/
def State.svyDrops (s : State) : State := { s with svy := { s.svy with live := false, cmd := 0, taken := [], face := 0 } }

section
variable {s t : State} {b : Bool} {src : Nat}

/-- A report on a condition reaches no field but the source's status bit (R508). -/
theorem State.rd_raiseIf_apart {g : Fld} (hs : src < 700) (h : (evsBit src).1.apart g) : (s.raiseIf b src).rd g = s.rd g := by
  cases b
  · rfl
  · exact State.rd_raise_apart s hs h

theorem keepsWords_raiseIf {l : List Nat} (h : keepsWords l s t) (ha : (evsBit src).1.addr ∈ l) : keepsWords l s (t.raiseIf b src) := by
  cases b
  · exact h
  · exact keepsWords_raise h ha

theorem keepsBut_raiseIf {l : List Part} (h : keepsBut l s t) (hr : .regs ∈ l) (hf : .flt ∈ l) : keepsBut l s (t.raiseIf b src) := by
  cases b
  · exact h
  · exact keepsBut_raise h hr hf

end

/-- A return with Success reaches nothing but what is sent (R336). -/
theorem State.vreply_eq_send (s : State) (f op st : Nat) (out : List Nat) :
    s.vreply f op st out = s.send (.reply f op .success (st :: out)) := rfl

section
variable (s : State) (res : Nat) (report : Bool)

theorem State.svyShows_keepsBut : keepsBut [.regs, .flt] s (s.svyShows res report) :=
  keepsBut_raiseIf (keepsBut_wr (keepsBut_wr (keepsBut_refl _ s) (by decide)) (by decide)) (by decide) (by decide)

/-- Beyond registers and loader an end answers the mailbox: open commands are closed and answered, and background commands end (R346). -/
theorem State.svyEnd_keepsBut_mail : keepsBut [.ports, .fwm, .out] (s.svyShows res report).svyDrops (s.svyEnd res report) := by
  have htold (t : State) (f : Nat) (l : List Nat) (h : keepsBut [.ports, .fwm, .out] (s.svyShows res report).svyDrops t) :
      keepsBut [.ports, .fwm, .out] (s.svyShows res report).svyDrops ((t.closeCmd f 0xC030).vreply f 0xC030 0 l) := by
    rw [State.vreply_eq_send]
    exact keepsBut_send (keepsBut_fwm h (by decide)) (by decide)
  exact keepsBut_forEach (keepsBut_when (keepsBut_refl _ _) fun t => htold t _ _) fun _ _ h => keepsBut_setPort h (by decide)

theorem State.svyEnd_regs : (s.svyEnd res report).regs = (s.svyShows res report).regs :=
  s.svyEnd_keepsBut_mail res report .regs (by decide)

theorem State.svyEnd_svy : (s.svyEnd res report).svy = { s.svy with live := false, cmd := 0, taken := [], face := 0 } := by
  have hloader : (s.svyEnd res report).svy = (s.svyShows res report).svyDrops.svy := s.svyEnd_keepsBut_mail res report .svy (by decide)
  have hshows : (s.svyShows res report).svy = s.svy := s.svyShows_keepsBut res report .svy (by decide)
  rw [hloader, State.svyDrops, hshows]

theorem State.rd_svyEnd_state : (s.svyEnd res report).rd SVY_STATUS.STATE = 0 := by
  rw [State.rd_of_regs (s.svyEnd_regs res report), State.svyShows, State.rd_raiseIf_apart (by decide) (by decide),
    State.rd_wr_apart _ (by decide) (by decide), State.rd_wr_zero _ (by decide)]

theorem State.rd_svyEnd_result (h : res < 2 ^ SVY_STATUS.RESULT.width) : (s.svyEnd res report).rd SVY_STATUS.RESULT = res := by
  rw [State.rd_of_regs (s.svyEnd_regs res report), State.svyShows, State.rd_raiseIf_apart (by decide) (by decide),
    State.rd_wr_self _ (by decide) h]

theorem State.svyEnd_keepsWords : keepsWords [SVY_STATUS.STATE.addr, (evsBit 683).1.addr] s (s.svyEnd res report) := by
  refine keepsWords_of_regs (keepsWords_raiseIf ?_ (by decide)) (s.svyEnd_regs res report)
  exact keepsWords_wr (keepsWords_wr (keepsWords_refl _ s) (by decide)) (by decide)

theorem State.svyEnd_keepsBut : keepsBut [.regs, .svy, .ports, .flt, .fwm, .out] s (s.svyEnd res report) :=
  keepsBut_trans (keepsBut_svy (keepsBut_mono (s.svyShows_keepsBut res report) (by decide)) (by decide))
    (keepsBut_mono (s.svyEnd_keepsBut_mail res report) (by decide))

end

/-! ### The programs of an installation (R81, R83, R217, R233) -/

/-- No status word of an event source lies below FLT's (R509). -/
theorem evsBit_addr_ge (src : Nat) : 0x20000 ≤ (evsBit src).1.addr := by
  unfold evsBit
  repeat' refine iteInduction (motive := fun b : Fld × Nat => 0x20000 ≤ b.1.addr) (fun _ => ?_) fun _ => ?_
  all_goals simp only [DCH_EVS.STATUS, NCH_EVS.STATUS, HPT_EVS.STATUS, GAL_EVS.STATUS, CIP_EVS.STATUS, LGR_EVS.STATUS,
    SEQ_EVS0.STATUS, SEQ_EVS1.STATUS, SEQ_EVS2.STATUS, TWB_EVS.STATUS, CLK_EVS.STATUS, FLT_EVS.STATUS]
  all_goals omega

/-- `t` is `s` after programs of Survey copies: of the loader's own state only what the copies hold has changed, none of its registers,
and beside it the Boot band's blocks and what is raised. -/
structure State.InstallStep (s t : State) : Prop where
  parts : keepsBut [.regs, .svy, .stk, .flt] s t
  image : t.svy = { s.svy with inst := t.svy.inst }
  words : ∀ a < 0x20000, t.word a = s.word a

namespace State.InstallStep

variable {s t : State}

theorem refl (s : State) : s.InstallStep s := ⟨keepsBut_refl _ s, rfl, fun _ _ => rfl⟩

theorem rd (h : s.InstallStep t) {f : Fld} (hf : f.addr < 0x20000) : t.rd f = s.rd f := by rw [State.rd, h.words _ hf, State.rd]

theorem ite {c : Prop} [Decidable c] {u : State} (ht : s.InstallStep t) (hu : s.InstallStep u) : s.InstallStep (if c then t else u) := by
  split
  · exact ht
  · exact hu

theorem when {b : Bool} {f : State → State} (h : s.InstallStep t) (hf : ∀ t, s.InstallStep t → s.InstallStep (f t)) :
    s.InstallStep (t.when b f) := ite (hf t h) h

theorem forEach {A : Type} {as : List A} {f : State → A → State} (h : s.InstallStep t)
    (hf : ∀ t a, s.InstallStep t → s.InstallStep (f t a)) : s.InstallStep (t.forEach as f) := by
  unfold State.forEach
  induction as generalizing t with
  | nil => exact h
  | cons a as ih => exact ih (hf t a h)

theorem wr {f : Fld} {v : Nat} (h : s.InstallStep t) (hf : 0x20000 ≤ f.addr) : s.InstallStep (t.wr f v) :=
  ⟨keepsBut_wr h.parts (by decide), h.image, fun a ha => by rw [State.word_wr_ne _ _ _ (by omega), h.words a ha]⟩

theorem raise {src : Nat} (h : s.InstallStep t) : s.InstallStep (t.raise src) :=
  have hbit := h.wr (evsBit_addr_ge src)
  ⟨keepsBut_flt hbit.parts (by decide), h.image, hbit.words⟩

theorem stk {x : StkSt} (h : s.InstallStep t) : s.InstallStep { t with stk := x } :=
  ⟨keepsBut_stk h.parts (by decide), h.image, h.words⟩

theorem setInst {i : Nat} {m : SMap Word} (h : s.InstallStep t) : s.InstallStep (t.setInst i m) :=
  ⟨keepsBut_svy h.parts (by decide), by rw [State.setInst, h.image], h.words⟩

theorem wpRefuse {n : Nat} (h : s.InstallStep t) : s.InstallStep (t.wpRefuse n) :=
  raise (h.wr (by simp only [NCH_STATUS.WP_VIOL]; omega))

theorem bootFail {copy b : Nat} (h : s.InstallStep t) : s.InstallStep (t.bootFail copy b) := by
  have hraised : s.InstallStep ((t.addSat (NCH_CNT_FAIL.PROG (bootChan copy)) 1).raise (217 + 4 * bootChan copy)) :=
    raise (h.wr (by simp only [NCH_CNT_FAIL.PROG]; omega))
  unfold State.bootFail
  extract_lets u bad v
  have hbad : s.InstallStep v := hraised.stk
  split
  · exact hbad
  · exact hbad.stk

theorem bootProgram {b : Nat} {l : List (Nat × Bool)} (h : s.InstallStep t) : s.InstallStep (t.bootProgram b l) :=
  h.forEach fun _ _ h => ite h.wpRefuse (h.when fun _ h => h.bootFail)

end State.InstallStep

/-- The copy has been programmed: the command fails with one of its programs, a LIVE_LOAD awaits its tick, an INSTALL ends (R81). -/
theorem State.doInstalled_of_programmed {s : State} (hstate : s.rd SVY_STATUS.STATE = 2) (hfree : s.bootFree = true) (ok0 ok36 : Bool)
    (reset : State → State) : ∃ t, s.InstallStep t ∧ s.doInstalled ok0 ok36 reset =
      if !s.targetInsts.all (fun i => s.bootWrote (i % 2) (bootArea (i / 2)).1 (if i % 2 = 0 then ok0 else ok36)) then
        t.svyEnd svyInstallFail true
      else if s.svy.live then t.wr SVY_STATUS.STATE 3
      else (t.svyEnd svyOk false).when t.fwm.recovery reset := by
  have hstep (m : Nat → SMap Word) (may : Nat → Bool) : s.InstallStep (s.forEach s.targetInsts fun t i =>
      (t.bootProgram (bootArea (i / 2)).1 [(i % 2, if i % 2 = 0 then ok0 else ok36)]).when (may i) fun t => t.setInst i (m i)) :=
    .forEach (.refl s) fun _ _ h => h.bootProgram.when fun _ h => h.setInst
  rw [State.doInstalled, if_neg (by simp [hstate, hfree])]
  extract_lets m wrote all may t
  have ht : s.InstallStep t := hstep _ _
  have hlive : t.svy.live = s.svy.live := by rw [ht.image]
  exact ⟨t, ht, by rw [hlive]⟩

/-! ### The live load (R81, R82) -/

/-- A window that rolls over moves counts and takes up the thresholds that waited (R512, R513). -/
theorem State.rollDue_keepsBut (s : State) (cls : Nat) : keepsBut [.regs, .flt] s (s.rollDue cls) := by
  unfold State.rollDue State.rollTo
  split
  · have hwr (t : State) (f : Fld) (v : Nat) (h : keepsBut [.regs, .flt] s t) : keepsBut [.regs, .flt] s (t.wr f v) :=
      keepsBut_wr h (by decide)
    exact keepsBut_when (keepsBut_flt (keepsBut_when (keepsBut_forEach (keepsBut_forEach (keepsBut_refl _ s)
      fun _ _ h => hwr _ _ _ (hwr _ _ _ h)) fun _ _ h => hwr _ _ _ h) fun _ h => hwr _ _ _ h) (by decide)) fun _ h => hwr _ _ _ h
  · exact keepsBut_refl _ s

/-- So do the windows of the DRAM counts (R303). -/
theorem State.dramRoll_keepsBut (s : State) : keepsBut [.regs, .dch] s s.dramRoll := by
  have hzero : keepsBut [.regs, .dch] s s.zeroCounts :=
    keepsBut_dch (keepsBut_forEach (keepsBut_refl _ s) fun _ _ h =>
      keepsBut_wr (keepsBut_wr (keepsBut_wr h (by decide)) (by decide)) (by decide)) (by decide)
  unfold State.dramRoll
  split
  · exact keepsBut_dch (keepsBut_dch hzero (by decide)) (by decide)
  · exact keepsBut_refl _ s

theorem State.schLoad_keepsBut (s : State) : keepsBut [.regs] s s.schLoad :=
  keepsBut_forEach (keepsBut_wr (keepsBut_refl _ s) (by decide)) fun _ _ h => keepsBut_wr h (by decide)

theorem State.fltLive_keepsBut (s : State) : keepsBut [.flt] s s.fltLive := keepsBut_flt (keepsBut_refl _ s) (by decide)

/-- A live load applied: windows roll, the live sections and the registers that show the image are replaced, the tick is noted, and the
command ends with OK (R81, R82). -/
theorem State.applyLive_eq_svyEnd (s : State) : ∃ t, keepsBut [.regs, .svy, .dch, .flt] s t ∧
    s.applyLive = (t.wr SVY_LIVE.TICK (s.tick / 32)).svyEnd svyOk false := by
  have hrolled : keepsBut [.regs, .svy, .dch, .flt] s ((List.range 8).foldl State.rollDue s).dramRoll :=
    keepsBut_trans (keepsBut_forEach (keepsBut_refl _ s) fun t cls h =>
        keepsBut_trans h (keepsBut_mono (t.rollDue_keepsBut cls) (by decide)))
      (keepsBut_mono (State.dramRoll_keepsBut _) (by decide))
  unfold State.applyLive
  extract_lets rolled m isLive old new run has svy loaded shown
  have hloaded : keepsBut [.regs, .svy, .dch, .flt] s loaded :=
    keepsBut_trans (keepsBut_trans (keepsBut_svy hrolled (by decide)) (keepsBut_mono (State.fltLive_keepsBut _) (by decide)))
      (keepsBut_mono (State.schLoad_keepsBut _) (by decide))
  have htick : loaded.tick = s.tick := hloaded .tick (by decide)
  rw [← htick]
  refine ⟨_, ?_, rfl⟩
  have hgen : keepsBut [.regs, .svy, .dch, .flt] s
      ((loaded.wr SVY_GEN.GENERATION (imgGen m)).wr BED_SVYGEN.GENERATION (imgGen m)) :=
    keepsBut_wr (keepsBut_wr hloaded (by decide)) (by decide)
  exact keepsBut_addSat (keepsBut_wr (keepsBut_wr hgen (by decide)) (by decide)) (by decide)

/-! ### The commands of the loader (R75, R76, R78, R80, R86) -/

/-- Settles O17: VERIFY, INSTALL and LIVE_LOAD begin alike, CLEAR and the staging words are writes of the loader's own state, a copy that
has been programmed awaits its tick or fails the command, and a live load that is applied ends it. -/
theorem surveyCommands : Obligations.SurveyCommands := by
  refine ⟨?_, ?_, ?_, ?_, ?_, ?_, ?_, ?_, ?_⟩
  · intro s hoff hhub hidle
    exact State.does_of_eq hoff (exec_svyVerify s) (State.doSvyVerify_of_idle hhub hidle) (s.svyBegin_effect 1)
  · intro s hoff hhub hidle
    refine State.does_of_eq hoff (exec_svyClear s) (State.doSvyClear_of_idle hhub hidle) ⟨rfl, ?_, ?_, ?_, ?_⟩
    · rw [State.rd_wr_apart _ (by decide) (by decide), State.rd_wr_zero _ (by decide)]
    · exact State.rd_wr_self _ (by decide) (by decide)
    · exact keepsBut_wr (keepsBut_wr (keepsBut_svy (keepsBut_refl _ s) (by decide)) (by decide)) (by decide)
    · exact keepsWords_wr (keepsWords_wr (keepsWords_of_regs (keepsWords_refl _ s) rfl) (by decide)) (by decide)
  · rintro _ data s hoff hhub rfl
    refine State.does_of_eq hoff (exec_svyStageData ..) (State.doStageSvy_write hhub data)
      ⟨State.wr_svy .., State.rd_wr_self_mod _ (by decide) _, ?_, ?_⟩
    · exact keepsBut_wr (keepsBut_svy (keepsBut_refl _ s) (by decide)) (by decide)
    · exact keepsWords_wr (keepsWords_of_regs (keepsWords_refl _ s) rfl) (by decide)
  · rintro _ data s hoff hhub rfl
    refine State.does_of_eq hoff (exec_svyStageData ..) (State.doStageSvy_read hhub data)
      ⟨State.wr_out .., State.rd_wr_self_mod _ (by decide) _, ?_, ?_⟩
    · exact keepsBut_wr (keepsBut_send (keepsBut_refl _ s) (by decide)) (by decide)
    · exact keepsWords_wr (keepsWords_of_regs (keepsWords_refl _ s) rfl) (by decide)
  · intro s hoff hhub hidle
    exact State.does_of_eq hoff (exec_svyInstall s) (State.svyInstall_of_idle hhub hidle nofun) (s.svyBegin_effect 2)
  · intro s hoff hhub hserving hidle
    exact State.does_of_eq hoff (exec_svyLiveLoad s) (State.svyInstall_of_idle hhub hidle fun _ => hserving) (s.svyBegin_effect 3)
  · intro ok0 ok36 s hoff hstate hwrote hlive hfree
    obtain ⟨t, ht, heq⟩ := State.doInstalled_of_programmed hstate hfree ok0 ok36 (fun s => s.askReset .command)
    rw [hwrote, Bool.not_true, if_neg Bool.false_ne_true, if_pos hlive] at heq
    refine State.does_of_eq hoff (exec_surveyInstallProgrammed ok0 ok36 s) heq ⟨State.rd_wr_self _ (by decide) (by decide), ?_, ?_⟩
    · rw [State.wr_svy, ht.image]
    · exact keepsBut_wr (keepsBut_mono ht.parts (by decide)) (by decide)
  · intro ok0 ok36 s hoff hstate hfails hfree
    obtain ⟨t, ht, heq⟩ := State.doInstalled_of_programmed hstate hfree ok0 ok36 (fun s => s.askReset .command)
    rw [hfails, Bool.not_false, if_pos rfl] at heq
    refine State.does_of_eq hoff (exec_surveyInstallProgrammed ok0 ok36 s) heq
      ⟨t.rd_svyEnd_state _ _, t.rd_svyEnd_result _ _ (by decide), ?_, ?_, ?_⟩
    · rw [State.svyEnd_svy, ht.image]
    · rw [(t.svyEnd_keepsWords _ _).rd (by decide), ht.rd (by decide)]
    · exact keepsBut_trans (keepsBut_mono ht.parts (by decide)) (keepsBut_mono (t.svyEnd_keepsBut _ _) (by decide))
  · intro s hoff hstate htick hmay
    obtain ⟨t, ht, heq⟩ := s.applyLive_eq_svyEnd
    have hcmd : s.doLiveApply = (t.wr SVY_LIVE.TICK (s.tick / 32)).svyEnd svyOk false := (if_pos ⟨hstate, htick, hmay⟩).trans heq
    refine State.does_of_eq hoff (exec_liveLoadApply s) hcmd
      ⟨State.rd_svyEnd_state .., State.rd_svyEnd_result _ _ _ (by decide), ?_, ?_, ?_⟩
    · rw [(State.svyEnd_keepsWords _ _ _).rd (by decide), State.rd_wr_self_mod _ (by decide)]
    · rw [State.svyEnd_svy]
    · exact keepsBut_trans (keepsBut_wr (keepsBut_mono ht (by decide)) (by decide))
        (keepsBut_mono (State.svyEnd_keepsBut _ _ _) (by decide))

/-- Settles O51: a command in its conditions begins, and every other one is refused with STATE or BUSY, which leaves the one that runs
alone. -/
theorem liveLoadConditions : Obligations.LiveLoadConditions := by
  refine ⟨?_, ?_, ?_, ?_, ?_, ?_⟩
  · intro s hoff hhub hchip hidle
    exact State.does_of_eq hoff (exec_svyLiveLoad s) (State.svyInstall_of_idle hhub hidle fun _ => State.serving_iff.2 hchip)
      (s.svyBegin_effect 3)
  · intro s hoff hhub hrestoring hopened hidle
    have hserving : s.serving = false := Bool.eq_false_iff.2 fun h => (State.serving_iff.1 h).elim hrestoring hopened
    obtain ⟨hresult, hstate, hkeeps⟩ := s.svyRefuse_effect (code := svyState) (by decide)
    exact State.does_of_eq hoff (exec_svyLiveLoad s) (State.svyInstall_of_not_serving hhub hidle hserving)
      ⟨hresult, hstate.trans hidle, hkeeps⟩
  · intro s hoff hhub hbusy
    exact State.does_of_eq hoff (exec_svyLiveLoad s) (State.svyInstall_of_busy hhub true hbusy) (s.svyRefuse_effect (by decide))
  · intro s hoff hhub hbusy
    exact State.does_of_eq hoff (exec_svyInstall s) (State.svyInstall_of_busy hhub false hbusy) (s.svyRefuse_effect (by decide))
  · intro s hoff hhub hbusy
    exact State.does_of_eq hoff (exec_svyVerify s) (State.doSvyVerify_of_busy hhub hbusy) s.svyBusy_effect
  · intro s hoff hhub hbusy
    exact State.does_of_eq hoff (exec_svyClear s) (State.doSvyClear_of_busy hhub hbusy) s.svyBusy_effect

end Sys2Proof.Machine
end

section
/-! PROOFS. Wordlines that wait for pads (R213): a group that takes no stripes gets none (R252). -/

namespace Sys2Proof.Machine

/-- Pads are issued only in a group that takes stripes (R252). -/
theorem State.padLode_of_closed {s : State} {g : Nat} (h : s.groupTakes g = false) (l n : Nat) : s.padLode g l n = s := by
  cases n with
  | zero => rfl
  | succ n => simp [State.padLode, h]

/-- Work that leaves the state as it is, for one thing after another. -/
theorem State.forEach_self {A : Type} {s : State} {l : List A} {f : State → A → State} (hf : ∀ a ∈ l, f s a = s) : s.forEach l f = s := by
  induction l with
  | nil => rfl
  | cons a l ih =>
    obtain ⟨ha, hl⟩ := List.forall_mem_cons.1 hf
    rw [State.forEach, List.foldl_cons, ha, ← State.forEach, ih hl]

/-- So the timeout of a wordline leaves a group that takes none as it is. -/
theorem State.doWordlinePad_of_closed {s : State} {g : Nat} (h : s.groupTakes g = false) : s.doWordlinePad g = s :=
  State.forEach_self fun l _ => State.padLode_of_closed h l 2

/-- What a command leaves of the Stockpile's state in Bedrock stands there at the end of its hub clock. -/
theorem State.settled_stk_of_bedrock {s u : State} (h : u.chip = .bedrock) (hlive : u.svy.cmd ≠ 4) (hreset : u.bed.chipReset = 0) :
    (s.settled u).stk = u.stk := (State.hubClock_bedrockStep h hlive hreset).parts .stk (by decide)

/-- A Stockpile stripe on its way, the second of its wordline. -/
def waitingStripe : Stripe :=
  { id := 0, sump := false, group := 0, num := 1, a := none, b := none, cls := 1, kind := 4,
    oldA := 0, oldB := 0, recA := none, recB := none }

/-- Group 0 has one wordline of one plane and one target, which has waited 32 ticks for its third stripe, and is DEGRADED. -/
def degradedWaiting : State :=
  { State.reset with
    tick := 32
    svy := { State.reset.svy with run := [(secNand * 0x100000 + 4, 0x10001), (secNand * 0x100000 + 16, 1)] }
    haul := { State.reset.haul with stripes := [waitingStripe] }
    stk := { State.reset.stk with
      lodes := [(lodeKey 0 0, { Lode.fresh with st := lodeOpen, used := 2 })]
      wlWait := [(lodeKey 0 0, 1)]
      degraded := 1 } }

/-- Refutes O34: WORDLINE_PAD_TIMEOUT need not end the wait of a wordline, as its clause says: in a group that is disabled or DEGRADED no
pad is issued (R252), and the clause does not ask that the group takes stripes. In Bedrock the hub clock that follows leaves the
Stockpile's state alone, so no other effect of the command leads to the same next state either. -/
theorem not_haulCommands : ¬ Obligations.HaulCommands := by
  rintro ⟨-, -, -, -, -, -, -, -, -, -, -, htimeout, -⟩
  obtain ⟨u, hu, hended, -, -, -, hkeeps⟩ := htimeout 0 0 degradedWaiting (by decide) (by decide +kernel) (by decide +kernel)
    (by decide +kernel) (by decide +kernel) (by decide +kernel) (by decide +kernel) (by decide +kernel)
  have hchip : u.chip = .bedrock := hkeeps .chip (by decide)
  have hsvy : u.svy = degradedWaiting.svy := hkeeps .svy (by decide)
  have hbed : u.bed = degradedWaiting.bed := hkeeps .bed (by decide)
  rw [exec_wordlinePadTimeout, run_of_ne_off (by decide), State.doWordlinePad_of_closed (by decide +kernel)] at hu
  have hstk : degradedWaiting.stk = u.stk :=
    calc degradedWaiting.stk = (degradedWaiting.settled degradedWaiting).stk :=
          (State.settled_stk_of_bedrock (by decide) (by decide) (by decide)).symm
      _ = (degradedWaiting.settled u).stk := congrArg State.stk (Host.Outcome.next.inj hu)
      _ = u.stk := State.settled_stk_of_bedrock hchip (by rw [hsvy]; decide) (by rw [hbed]; rfl)
  rw [← hstk] at hended
  exact absurd hended (by decide)

end Sys2Proof.Machine
end

section
/-! PROOFS. What ends with a tick: map updates, Survey checks, suspended erases, and channels that train or restart (R78, R81, R101,
R107, R234, R241, R254). -/

namespace Sys2Proof

variable {V : Type}

/-- A key that is not listed reads the default. -/
theorem SMap.get_of_unlisted (d : V) {k : Nat} {m : SMap V} (h : ∀ p ∈ m, p.1 ≠ k) : SMap.get d k m = d := by
  induction m with
  | nil => rfl
  | cons p m ih =>
    rw [SMap.get, if_neg (h p (List.mem_cons_self ..)), ih fun q hq => h q (List.mem_cons_of_mem _ hq)]

/-- What a key that is listed reads is listed. -/
theorem SMap.mem_of_get_ne (d : V) {k : Nat} {m : SMap V} (h : SMap.get d k m ≠ d) : (k, SMap.get d k m) ∈ m := by
  induction m with
  | nil => exact absurd rfl h
  | cons p m ih =>
    obtain ⟨a, v⟩ := p
    by_cases hk : a = k
    · subst hk
      simp [SMap.get]
    · simp only [SMap.get, hk, if_false] at h ⊢
      exact List.mem_cons_of_mem _ (ih h)

/-- A change of every value that fixes the default changes what a key reads. -/
theorem SMap.get_map (d : V) {f : V → V} (hf : f d = d) (k : Nat) (m : SMap V) :
    SMap.get d k (m.map fun p => (p.1, f p.2)) = f (SMap.get d k m) := by
  induction m with
  | nil => exact hf.symm
  | cons p m ih =>
    obtain ⟨a, v⟩ := p
    by_cases hk : a = k <;> simp [SMap.get, hk, ih]

/-- Pasting nothing takes the keys of the range out. -/
theorem SMap.mem_paste_nil {lo n : Nat} {m : SMap V} {p : Nat × V} : p ∈ SMap.paste lo n [] m ↔
    p ∈ m ∧ (p.1 < lo ∨ lo + n ≤ p.1) := by
  simp [SMap.paste, and_or_left]

end Sys2Proof

namespace Sys2Proof.Machine

/-! ### Map updates that end (R101, R103, R107) -/

/-- A slab entry depends on the slab table and on the image alone. -/
theorem State.slab_of_parts {s t : State} (hslb : t.slb = s.slb) (hsvy : t.svy = s.svy) (i : Nat) : t.slab i = s.slab i := by
  cases s; cases t; cases hslb; cases hsvy; rfl

/-- A slab entry just set reads back, and every other one as before. -/
theorem State.slab_setSlab (s : State) (i j : Nat) (e : SlabE) : (s.setSlab i e).slab j = if j = i then e else s.slab j := by
  change SMap.get (s.slabBase j) j (SMap.put (s.slabBase i) i e s.slb.slabs) = _
  split
  next h => rw [h, SMap.get_put_self]
  next h => rw [SMap.get_put_ne _ _ h, State.slab]

/-- The dirty counts are registers. -/
theorem State.countDirty_keepsBut (s : State) (i n : Nat) (up : Bool) : keepsBut [.regs] s (s.countDirty i n up) := by
  unfold State.countDirty
  extract_lets adj t f
  have ht : keepsBut [.regs] s t := keepsBut_wr (keepsBut_refl _ s) (by decide)
  split
  · exact keepsBut_wr ht (by decide)
  · exact ht

/-- A mask that is replaced is that of its slab's entry, and the counts follow in registers (R103). -/
theorem State.setMask_keepsBut (s : State) (i : Nat) (m : BitVec 64) :
    keepsBut [.regs] (s.setSlab i { s.slab i with mask := m }) (s.setMask i m) := by
  unfold State.setMask
  extract_lets
  split <;> exact State.countDirty_keepsBut _ _ _ _

/-- A dirty bit under a mask that is replaced. -/
theorem State.dirty_setMask (s : State) (i j : Nat) (m : BitVec 64) :
    (s.setMask i m).dirty j = if settSlab j = i then m.getLsbD (j % 64) else s.dirty j := by
  have hkeeps := s.setMask_keepsBut i m
  rw [State.dirty, State.slab_of_parts (hkeeps .slb (by decide)) (hkeeps .svy (by decide)), State.slab_setSlab, State.dirty]
  split <;> rfl

/-- Clearing a dirty bit clears that one (R101). -/
theorem State.dirty_clearDirty (s : State) (k j : Nat) : (s.clearDirty k).dirty j = (s.dirty j && decide (j ≠ k)) := by
  unfold State.clearDirty
  extract_lets i
  by_cases hk : s.dirty k
  · rw [if_pos hk, State.dirty_setMask]
    have hbit : (BitVec.ofNat 64 (2 ^ (k % 64))).getLsbD (j % 64) = decide (j % 64 = k % 64) := by
      have : j % 64 < 64 := Nat.mod_lt _ (by decide)
      rw [BitVec.getLsbD_ofNat, Nat.testBit_two_pow]
      simp [this, eq_comm]
    split
    next hj =>
      have hsame : j % 64 = k % 64 ↔ j = k := by simp only [settSlab, i] at hj; omega
      rw [BitVec.getLsbD_and, BitVec.getLsbD_not, hbit, ← hj]
      simp [State.dirty, hsame, Nat.mod_lt]
    next hj =>
      have hne : j ≠ k := fun e => hj (by rw [e])
      simp [hne]
  · rw [if_neg hk]
    by_cases hj : j = k
    · simp [hj, hk]
    · simp [hj]

/-- An entry that leaves the in-flight table is found no more, and every other one as before (R104). -/
theorem State.haulOf_dropHaul (s : State) (k j : Nat) : (s.dropHaul k).haulOf j = if j = k then none else s.haulOf j := by
  change (s.slb.ift.filter fun h => h.sett != k).find? (fun h => h.sett == j) = _
  rw [List.find?_filter]
  split
  next hj =>
    rw [List.find?_eq_none]
    simp [hj]
  next hj =>
    rw [State.haulOf]
    congr 1
    funext h
    by_cases hs : h.sett = j <;> simp [hs, hj]

/-- The end of a haul beyond registers and counts: the map entry, the dirty bit where REWR is 0, and the table (R107). -/
def State.mapped (s : State) (h : Haul) : State :=
  ((s.setLoc h.sett (BitVec.ofNat 32 h.newloc)).when (!h.rewr) fun s => s.clearDirty h.sett).dropHaul h.sett

/-- The rest of a haul's end is counts, in registers and of the engine (R176). -/
theorem State.endHaul_keepsBut (s : State) (h : Haul) : keepsBut [.regs, .haul] (s.mapped h) (s.endHaul h) := by
  unfold State.endHaul
  extract_lets m c t
  have hc : keepsBut [.regs, .haul] (s.mapped h) c := keepsBut_addWrap (keepsBut_refl _ _) (by decide)
  refine keepsBut_haul ?_ (by decide)
  change keepsBut _ _ (if _ then _ else _)
  split
  · exact keepsBut_addWrap hc (by decide)
  · exact hc


/-- Of the Slab State Array and the tables with it a cleared dirty bit reaches the slab entries alone. -/
theorem State.clearDirty_slb (s : State) (k : Nat) : (s.clearDirty k).slb = { s.slb with slabs := (s.clearDirty k).slb.slabs } := by
  unfold State.clearDirty
  extract_lets i
  split
  · have hslb (m : BitVec 64) : (s.setMask i m).slb = (s.setSlab i { s.slab i with mask := m }).slb :=
      s.setMask_keepsBut i m .slb (by decide)
    rw [hslb]
    rfl
  · rfl

/-- It writes the one map entry and takes the one table entry out. -/
theorem State.mapped_tables (s : State) (h : Haul) : (s.mapped h).slb.lmap = (s.setLoc h.sett (BitVec.ofNat 32 h.newloc)).slb.lmap ∧
    (s.mapped h).slb.ift = (s.dropHaul h.sett).slb.ift := by
  unfold State.mapped State.when
  split
  · unfold State.dropHaul
    rw [State.clearDirty_slb]
    exact ⟨rfl, rfl⟩
  · exact ⟨rfl, rfl⟩

section
variable (s : State) (h : Haul)

theorem State.slb_endHaul : (s.endHaul h).slb = (s.mapped h).slb := s.endHaul_keepsBut h .slb (by decide)

/-- The map entry of the haul's sett is written, and no other (R107). -/
theorem State.loc_endHaul (k : Nat) : (s.endHaul h).loc k = (s.setLoc h.sett (BitVec.ofNat 32 h.newloc)).loc k := by
  rw [State.loc, State.slb_endHaul, (s.mapped_tables h).1, State.loc]

/-- The haul's sett stays Dirty where REWR is 1; every other dirty bit is left alone (R105, R107). -/
theorem State.dirty_endHaul (k : Nat) : (s.endHaul h).dirty k = (s.dirty k && (h.rewr || decide (k ≠ h.sett))) := by
  have hslab : (s.endHaul h).slab (settSlab k) = (s.mapped h).slab (settSlab k) :=
    State.slab_of_parts (s.slb_endHaul h) (s.endHaul_keepsBut h .svy (by decide)) _
  rw [State.dirty, hslab, ← State.dirty]
  cases hrewr : h.rewr
  · have hmapped : s.mapped h = ((s.setLoc h.sett (BitVec.ofNat 32 h.newloc)).clearDirty h.sett).dropHaul h.sett := by
      simp [State.mapped, State.when, hrewr]
    rw [hmapped, Bool.false_or]
    exact State.dirty_clearDirty ..
  · have hmapped : s.mapped h = (s.setLoc h.sett (BitVec.ofNat 32 h.newloc)).dropHaul h.sett := by
      simp [State.mapped, State.when, hrewr]
    rw [hmapped, Bool.true_or, Bool.and_true]
    rfl

/-- The haul's entry leaves the in-flight table, and no other (R107). -/
theorem State.haulOf_endHaul (k : Nat) : (s.endHaul h).haulOf k = if k = h.sett then none else s.haulOf k := by
  rw [State.haulOf, State.slb_endHaul, (s.mapped_tables h).2, ← State.haulOf, State.haulOf_dropHaul]

end

/-- A map entry just written reads back outside the carve-outs (R91, R108). -/
theorem State.loc_setLoc_self (s : State) {k : Nat} (hk : slabCarve (settSlab k) = false) (w : Word) : (s.setLoc k w).loc k = w := by
  simp [State.loc, State.setLoc, hk]

/-- Every other map entry reads as before. -/
theorem State.loc_setLoc_ne (s : State) {k j : Nat} (hj : j ≠ k) (w : Word) : (s.setLoc k w).loc j = s.loc j := by
  simp [State.loc, State.setLoc, SMap.get_put_ne _ _ hj]

/-- With one map update begun a tick ends that haul (R107; entry 113). -/
theorem State.endMaps_of_one {s : State} {h : Haul} (hone : s.slb.ift.filter (fun x => x.stage == 3) = [h]) : s.endMaps = s.endHaul h := by
  rw [State.endMaps, hone]
  rfl

/-! ### Survey checks that end (R78, R81, R83) -/

/-- A check that runs ends with the tick (entry 111). -/
theorem State.svyTick_of_checking {s : State} (hhub : s.hubOn = true) (hstate : s.rd SVY_STATUS.STATE = 1) : s.svyTick = s.svyVerified := by
  simp [State.svyTick, State.when, hhub, hstate]

/-- A command that ends shows its result and leaves the copies alone. -/
theorem State.svyEnd_shows (s : State) (res : Nat) (report : Bool) : (s.svyEnd res report).rd SVY_STATUS.STATE = 0 ∧
    (s.svyEnd res report).rd SVY_STATUS.RESULT = res % 16 ∧ (s.svyEnd res report).svy.inst = s.svy.inst := by
  refine ⟨s.rd_svyEnd_state res report, ?_, by rw [State.svyEnd_svy]⟩
  rw [State.rd_of_regs (s.svyEnd_regs res report), State.svyShows, State.rd_raiseIf_apart (by decide) (by decide),
    State.rd_wr_self_mod _ (by decide)]
  rfl

/-- Instances erased one after another (R216). -/
def State.blankInsts (s : State) (l : List Nat) : State := s.forEach l fun s i => s.setInst i []

/-- A word that is still listed stood before, and in none of what was erased. -/
theorem State.mem_blankInsts {l : List Nat} {s : State} {p : Nat × Word} (hp : p ∈ (s.blankInsts l).svy.inst) :
    p ∈ s.svy.inst ∧ ∀ i ∈ l, p.1 < i * 0x100000 ∨ i * 0x100000 + 0x100000 ≤ p.1 := by
  induction l generalizing s with
  | nil => exact ⟨hp, nofun⟩
  | cons i l ih =>
    obtain ⟨hmem, hl⟩ := ih hp
    obtain ⟨hstood, hi⟩ := SMap.mem_paste_nil.1 hmem
    exact ⟨hstood, List.forall_mem_cons.2 ⟨hi, hl⟩⟩

/-- So every word of what was erased reads 0. -/
theorem State.get_blankInsts (s : State) {l : List Nat} {i a : Nat} (hi : i ∈ l) (ha : a < 0x100000) :
    SMap.get 0 (i * 0x100000 + a) (s.blankInsts l).svy.inst = 0 := by
  refine SMap.get_of_unlisted 0 fun p hp => ?_
  have := (State.mem_blankInsts hp).2 i hi
  omega

/-- An erase leaves the image that runs alone. -/
theorem State.blankInsts_run (s : State) (l : List Nat) : (s.blankInsts l).svy.run = s.svy.run := by
  induction l generalizing s with
  | nil => rfl
  | cons i l ih => exact ih (s.setInst i [])

/-- Whether the sectors let an erase in does not depend on what the copies hold. -/
theorem State.bootErase_setInst (s : State) (i : Nat) (m : SMap Word) (copy b : Nat) :
    ((s.setInst i m).bootErase copy b).1 = (s.bootErase copy b).1 := by
  have hmay : (s.setInst i m).mayEraseBlock (bootChan copy) 0 ((s.setInst i m).bootAt copy b) true =
      s.mayEraseBlock (bootChan copy) 0 (s.bootAt copy b) true := rfl
  simp only [State.bootErase, apply_ite Prod.fst, hmay]

/-- Where no sector refuses an erase of the copy to be written, a check that passes erases all of it and reads PROGRAMMING (R81). -/
theorem State.svyVerified_of_passed {s : State} (hcmd : s.svy.cmd ≠ 1) (hpass : s.mayInstall s.svy.live = svyOk)
    (herase : ∀ i ∈ s.targetInsts, (s.bootErase (i % 2) (bootArea (i / 2)).1).1 = true) :
    s.svyVerified = (s.blankInsts s.targetInsts).wr SVY_STATUS.STATE 2 := by
  have herased (l : List Nat) (t : State) (ht : ∀ i ∈ l, (t.bootErase (i % 2) (bootArea (i / 2)).1).1 = true) :
      (t.forEach l fun t i => if (t.bootErase (i % 2) (bootArea (i / 2)).1).1 then t.setInst i []
        else (t.bootErase (i % 2) (bootArea (i / 2)).1).2) = t.blankInsts l := by
    induction l generalizing t with
    | nil => rfl
    | cons i l ih =>
      obtain ⟨hi, hl⟩ := List.forall_mem_cons.1 ht
      refine Eq.trans ?_ (ih (t.setInst i []) fun j hj => (t.bootErase_setInst ..).trans (hl j hj))
      rw [State.forEach, List.foldl_cons, if_pos hi, State.forEach]
  rw [State.svyVerified, if_neg hcmd]
  extract_lets r
  rw [if_neg (by simpa [r] using hpass), ← herased _ _ herase]

/-! ### Erases and channels (R234, R241, R254) -/

/-- A die that a tick resumes (R241; entry 123). -/
def DieErase.resume (tick : Nat) (d : DieErase) : DieErase :=
  if d.suspended then { d with suspended := false, resumed := tick + 1 } else d

/-- The channels with a suspended erase. -/
def State.suspendedChans (s : State) : List Nat := ((s.stk.dies.filter (fun p => p.2.suspended)).map (fun p => p.1 / 8)).dedup

/-- Suspended erases resume, and their channels show it. -/
theorem State.resumeErases_eq (s : State) : s.resumeErases =
    ({ s with stk := { s.stk with dies := s.stk.dies.map fun p : Nat × DieErase => (p.1, p.2.resume s.tick) } }).forEach s.suspendedChans
      fun s n => s.wr (NCH_STATUS.SUSPENDED n) 0 := by
  unfold State.resumeErases
  extract_lets up ns
  have hup : up = fun p : Nat × DieErase => (p.1, p.2.resume s.tick) := by
    funext p
    simp only [up, DieErase.resume]
    split <;> rfl
  rw [hup]
  rfl

/-- Writes of registers leave the dies alone. -/
theorem State.forEach_wr_stk (s : State) (l : List Nat) (f : Nat → Fld) (v : State → Nat → Nat) :
    (s.forEach l fun s n => s.wr (f n) (v s n)).stk = s.stk :=
  keepsBut_forEach (keepsBut_refl [.regs] s) (fun _ _ h => keepsBut_wr h (by decide)) .stk (by decide)

/-- Each die resumes on its own (R241). -/
theorem State.die_resumeErases (s : State) (c t : Nat) : s.resumeErases.die c t = (s.die c t).resume s.tick := by
  rw [State.die, State.resumeErases_eq, State.forEach_wr_stk]
  exact SMap.get_map DieErase.idle (f := DieErase.resume s.tick) rfl _ _

/-- A suspended erase stands in the list, under its channel. -/
theorem State.mem_suspendedChans {s : State} {c t : Nat} (ht : t < 8) (hsusp : (s.die c t).suspended = true) : c ∈ s.suspendedChans := by
  have hlisted : (dieKey c t, s.die c t) ∈ s.stk.dies := SMap.mem_of_get_ne _ fun e => by
    rw [State.die, e] at hsusp
    cases hsusp
  rw [State.suspendedChans, List.mem_dedup, List.mem_map]
  refine ⟨_, List.mem_filter.2 ⟨hlisted, hsusp⟩, ?_⟩
  simp only [dieKey]
  omega

section
variable {f : Nat → Fld} (hfit : ∀ n, (f n).lo + (f n).width ≤ 32) (hne : ∀ m n, m ≠ n → (f n).addr ≠ (f m).addr)
  {v : State → Nat → Nat}
include hne

/-- It reads as before where its channel has no turn. -/
theorem State.rd_forEach_wr_of_not_mem {l : List Nat} {n : Nat} (hn : n ∉ l) (s : State) :
    (s.forEach l fun s n => s.wr (f n) (v s n)).rd (f n) = s.rd (f n) := by
  induction l generalizing s with
  | nil => rfl
  | cons m l ih =>
    rw [List.mem_cons, not_or] at hn
    obtain ⟨hm, hl⟩ := hn
    exact (ih hl _).trans (State.rd_wr_ne s (hne m n (Ne.symm hm)) _)

include hfit

/-- A field of each channel, written for one channel after another, reads what its channel's turn gave it. -/
theorem State.rd_forEach_wr (hv : ∀ s m n w, m ≠ n → v (s.wr (f m) w) n = v s n) {l : List Nat} (hl : l.Nodup) {n : Nat}
    (hn : n ∈ l) (s : State) : (s.forEach l fun s n => s.wr (f n) (v s n)).rd (f n) = v s n % 2 ^ (f n).width := by
  induction l generalizing s with
  | nil => cases hn
  | cons m l ih =>
    obtain ⟨hm, hl⟩ := List.nodup_cons.1 hl
    rcases List.mem_cons.1 hn with rfl | hmem
    · exact (State.rd_forEach_wr_of_not_mem hne hm _).trans (State.rd_wr_self_mod s (hfit n) _)
    · have hmn : m ≠ n := fun e => hm (e ▸ hmem)
      exact (ih hl hmem _).trans (by rw [hv s m n _ hmn])

end

/-- The words of NCH_STATUS of two channels are two words. -/
theorem nchStatus_addr_ne (m n : Nat) (h : m ≠ n) : 0x300000 + n * 0x2000 ≠ 0x300000 + m * 0x2000 := by omega

/-- A channel with a suspended erase reads that none is suspended any more (R241). -/
theorem State.rd_resumeErases_suspended {s : State} {c : Nat} (hc : c ∈ s.suspendedChans) :
    s.resumeErases.rd (NCH_STATUS.SUSPENDED c) = 0 := by
  rw [State.resumeErases_eq]
  exact State.rd_forEach_wr (f := NCH_STATUS.SUSPENDED) (v := fun _ _ => 0) (fun _ => Nat.le_of_ble_eq_true rfl) nchStatus_addr_ne
    (fun _ _ _ _ _ => rfl) (List.nodup_dedup _) hc _

/-- A channel that trains or restarts is READY, or DEGRADED with a target retired, at the end of the tick (R234, R254; entry 120). -/
theorem State.rd_nandTick_state {s : State} {n : Nat} (hn : n < 72)
    (hstate : s.rd (NCH_STATUS.STATE n) = 1 ∨ s.rd (NCH_STATUS.STATE n) = 5) :
    s.nandTick.rd (NCH_STATUS.STATE n) = if s.rd (NCH_STATUS.TGT_RETIRED n) = 0 then 2 else 3 := by
  have hmem : n ∈ (List.range 72).filter (fun n => s.rd (NCH_STATUS.STATE n) == 1 || s.rd (NCH_STATUS.STATE n) == 5) := by
    simp [hn, hstate]
  refine (State.rd_forEach_wr (f := NCH_STATUS.STATE) (v := fun s n => if s.rd (NCH_STATUS.TGT_RETIRED n) = 0 then 2 else 3)
    (fun _ => Nat.le_of_ble_eq_true rfl) nchStatus_addr_ne ?_ (List.nodup_range.filter _) hmem s).trans ?_
  · intro s m n w hmn
    rw [State.rd_wr_ne s (nchStatus_addr_ne m n hmn)]
  · split <;> rfl

/-- Settles O60: what has been begun ends with the tick, each by the lemma that says what it leaves. -/
theorem timeEndsWork : Obligations.TimeEndsWork := by
  refine ⟨?_, fun s => State.mailServe_pending, ?_, ?_, ?_, ?_, ?_, fun s n hn => State.rd_nandTick_state hn⟩
  · intro s hpending hoff
    rw [step, hpending, State.idle, if_neg hoff]
  · intro s h hone hcarve
    rw [State.endMaps_of_one hone]
    refine ⟨?_, ?_, ?_, fun k hk => ⟨?_, ?_, ?_⟩⟩
    · rw [State.loc_endHaul, State.loc_setLoc_self _ hcarve]
    · rw [State.dirty_endHaul, decide_eq_false (not_not.2 rfl), Bool.or_false, Bool.and_comm]
    · rw [State.haulOf_endHaul, if_pos rfl]
    · rw [State.loc_endHaul, State.loc_setLoc_ne _ hk]
    · rw [State.dirty_endHaul, decide_eq_true hk, Bool.or_true, Bool.and_true]
    · rw [State.haulOf_endHaul, if_neg hk]
  · intro s hhub hstate hcmd
    rw [State.svyTick_of_checking hhub hstate, State.svyVerified, if_pos hcmd]
    exact s.svyEnd_shows ..
  · intro s hhub hstate hcmd hfails
    rw [State.svyTick_of_checking hhub hstate, State.svyVerified, if_neg hcmd]
    extract_lets r
    rw [if_pos hfails]
    exact s.svyEnd_shows ..
  · intro s hhub hstate hcmd hpass herase
    rw [State.svyTick_of_checking hhub hstate, State.svyVerified_of_passed hcmd hpass herase, State.wr_svy]
    exact ⟨State.rd_wr_self _ (by decide) (by decide), s.blankInsts_run _, fun i hi a ha => s.get_blankInsts hi ha⟩
  · intro s c t ht _ hsusp
    refine ⟨?_, State.rd_resumeErases_suspended (State.mem_suspendedChans ht hsusp)⟩
    rw [State.die_resumeErases, DieErase.resume, if_pos hsusp]

end Sys2Proof.Machine
end

section
/-! PROOFS. Commands of the slab bank (R119, R120): one that comes while another runs, in a part whose hub clock leaves RESULT alone. -/

namespace Sys2Proof.Machine

/-- A part in Parked with its hub base in power, every block's queues empty and all twelve pairs in service, whose slab bank still runs a
command; the argument of the next one is OWNER 7. -/
def busyBank : State :=
  let s : State := { State.reset with chip := .parked, slb := { State.reset.slb with ready := true } }
  ((s.wr CIP_STATUS.INSERVICE 12).wr SLB_CMD_ARG0.ARG 7).wr SLB_CMD_STATUS.BUSY 1

/-- The words that the hub clock may write there. -/
abbrev restingWords : List Nat := [SLB_CMD_STATUS.RESULT.addr, LGR_STATUS.OVERHANG.addr]

/-- `t` is that part with a RESULT, after work that the hub clock may do in it. -/
structure State.RestsWith (result : Nat) (t : State) : Prop where
  parts : keepsBut [.regs, .clg, .free] busyBank t
  words : keepsWords restingWords busyBank t
  shows : t.rd SLB_CMD_STATUS.RESULT = result

namespace State.RestsWith

variable {t : State} {r : Nat}

/-- A field elsewhere reads as it stands in `busyBank`. -/
theorem rd (h : t.RestsWith r) {f : Fld} {v : Nat} (hf : f.addr ∉ restingWords) (hv : busyBank.rd f = v) : t.rd f = v :=
  (h.words.rd hf).trans hv

theorem wr (h : t.RestsWith r) {f : Fld} {v : Nat} (hf : f.addr ∈ restingWords) (hfit : f.lo + f.width ≤ 32)
    (hres : f.apart SLB_CMD_STATUS.RESULT) : (t.wr f v).RestsWith r :=
  ⟨keepsBut_wr h.parts (by decide), keepsWords_wr h.words hf, (State.rd_wr_apart t hfit hres v).trans h.shows⟩

theorem clg {x : ClgSt} (h : t.RestsWith r) : State.RestsWith r { t with clg := x } :=
  ⟨keepsBut_clg h.parts (by decide), keepsWords_of_regs h.words rfl, h.shows⟩

theorem free {n : Nat} (h : t.RestsWith r) : State.RestsWith r { t with free := n } :=
  ⟨keepsBut_free h.parts (by decide), keepsWords_of_regs h.words rfl, h.shows⟩

theorem ite {c : Prop} [Decidable c] {u : State} (ht : t.RestsWith r) (hu : u.RestsWith r) : (if c then t else u).RestsWith r := by
  split
  · exact ht
  · exact hu

/-! The margin state and what ADM reports: Sable, with nothing over the ceiling and no pack to be removed (R139, R145, R147, R161) -/

theorem changeMargin (h : t.RestsWith r) : t.changeMargin (t.marginIn.next t.margin) = t := by
  have hne : t.marginIn.ne = 0 := h.rd (by decide) (by decide)
  have hmargin : t.margin = .sable := h.parts .margin (by decide)
  rw [MarginIn.next, hne, if_pos (by decide), State.changeMargin, hmargin]
  rfl

theorem overhang (h : t.RestsWith r) : t.overhang = false := by
  have hceil : t.rd LGR_CEIL.SETTS = 0 := h.rd (by decide) (by decide)
  have hdirty : t.rd ADM_DIRTY.SETTS = 0 := h.rd (by decide) (by decide)
  have ha : t.rd LGR_PACK_CTL.REMOVE_A = 0 := h.rd (by decide) (by decide)
  have hb : t.rd LGR_PACK_CTL.REMOVE_B = 0 := h.rd (by decide) (by decide)
  simp [State.overhang, State.removalPending, State.on, hceil, hdirty, ha, hb]

theorem updOverhang (h : t.RestsWith r) : t.updOverhang.RestsWith r := by
  unfold State.updOverhang
  rw [h.overhang]
  exact h.wr (by decide) (by decide) (by decide)

theorem updRemoval (h : t.RestsWith r) {k : Nat} (hk : k = 0 ∨ k = 1) : t.updRemoval k = t := by
  have hst : t.rd (LGR_PSTAT.STATE k) = 0 := by
    rcases hk with rfl | rfl <;> exact h.rd (by decide) (by decide)
  simp [State.updRemoval, hst, pkRemoving, pkSafe]

theorem reportMargins (h : t.RestsWith r) : t.reportMargins = t := by
  have hmode : t.galMode = 0 := h.rd (by decide) (by decide)
  have hmargin : t.margin = .sable := h.parts .margin (by decide)
  have hadm : t.adm = AdmSt.reset := h.parts .adm (by decide)
  have hcode : t.admMargin = .sable := by simp [State.admMargin, hmode, hmargin, modePaired]
  unfold State.reportMargins
  extract_lets c
  rw [if_pos (by rw [hadm]; simp only [c, hcode]; rfl)]

theorem extreme (h : t.RestsWith r) (i : Nat) (v : Int) : (t.extreme i v).RestsWith r := by
  refine ite ?_ h
  dsimp only
  split
  · exact h.clg
  · exact h

theorem admClock (h : t.RestsWith r) : t.admClock.RestsWith r := by
  have hover := h.updOverhang
  unfold State.admClock
  rw [h.changeMargin]
  simp only [State.forEach, List.foldl_cons, List.foldl_nil]
  rw [hover.updRemoval (.inl rfl), hover.updRemoval (.inr rfl), hover.reportMargins]
  exact hover.extreme _ _

/-! The hub blocks: nothing waits, and only the slab bank's own command may end (R119) -/

theorem chip (h : t.RestsWith r) : t.chip = .parked := h.parts .chip (by decide)

theorem hubOn (h : t.RestsWith r) : t.hubOn = true := by
  have hslb : t.slb = busyBank.slb := h.parts .slb (by decide)
  rw [State.hubOn, State.powered, h.chip, hslb]
  rfl

theorem working (h : t.RestsWith r) : t.working = false := by rw [State.working, h.chip]; rfl

theorem jobClock (h : t.RestsWith r) : t.jobClock = t := by
  have hjob : t.job = JobSt.reset := h.parts .job (by decide)
  simp [State.jobClock, State.pendClock, hjob, JobSt.reset, State.forEach, bitAt]

theorem guardHauls (h : t.RestsWith r) : t.guardHauls = t := by
  have hslb : t.slb = busyBank.slb := h.parts .slb (by decide)
  rw [State.guardHauls, hslb]
  rfl

theorem port (h : t.RestsWith r) (f : Nat) : t.port f = Port.reset := by
  have hports : t.ports = [] := h.parts .ports (by decide)
  rw [State.port, hports]
  rfl

theorem scanClock (h : t.RestsWith r) : t.scanClock = t := by
  have hnone : (Port.reset).scanWait = none := rfl
  simp [State.scanClock, State.forEach, faces, h.port, hnone]

theorem lifeCheck (h : t.RestsWith r) : t.lifeCheck = t := by
  have hsvy : t.svy = busyBank.svy := h.parts .svy (by decide)
  have hoff (f : Nat) : t.svOn (FACES.ENABLE f) = false := by
    rw [State.svOn, State.sv, hsvy]
    simp [busyBank, svField, svWord, bitsOf, SMap.get, State.reset, SvySt.reset]
  simp [State.lifeCheck, State.faceOn, hoff, State.forEach]

theorem slbClock (h : t.RestsWith r) : t.slbClock.RestsWith r := by
  have hsweep (u : State) (hu : u.RestsWith r) : u.on SLB_STATUS.SWEEP = false := by
    have : u.rd SLB_STATUS.SWEEP = 0 := hu.rd (by decide) (by decide)
    simp [State.on, this]
  unfold State.slbClock
  extract_lets done
  have hdone : (done t SLB_CMD_STATUS.BUSY).RestsWith r :=
    ite (ite (h.free.wr (by decide) (by decide) (by decide)) h.free) h
  have hidle : done (done t SLB_CMD_STATUS.BUSY) SLB_STATUS.SWEEP = done t SLB_CMD_STATUS.BUSY := by
    simp only [done] at hdone ⊢
    rw [if_neg (by rw [hsweep _ hdone]; decide)]
  rw [hidle]
  exact hdone

theorem hubWork (h : t.RestsWith r) : t.hubWork.RestsWith r := by
  have hrepair : t.repairClock = t := by simp [State.repairClock, State.when, h.working]
  have hport : t.portClock = t := by simp [State.portClock, State.when, h.working]
  have hgal : t.galClock = t := by simp [State.galClock, h.working]
  have hrotate : t.rotateClock = t := by simp [State.rotateClock, h.working]
  have herase : t.eraseClock = t := by simp [State.eraseClock, h.working, h.chip]
  rw [State.hubWork, h.hubOn, State.when, if_pos rfl, hrepair, hport, hgal, h.jobClock, h.guardHauls, h.scanClock, hrotate, herase,
    h.lifeCheck]
  exact h.slbClock

/-! Islands: the pairs serve, and no island is asked on (R413, R495, R496) -/

theorem rd_clkIsl {f : Nat → Fld} (h : t.RestsWith r) (haddr : ∀ n, (f n).addr = 0x60100 + n * 4) {n : Nat} (hn : n < 132)
    (hv : busyBank.rd (f n) = 0) : t.rd (f n) = 0 := by
  refine h.rd ?_ hv
  simp only [haddr, SLB_CMD_STATUS.RESULT, LGR_STATUS.OVERHANG, List.mem_cons, List.not_mem_nil, or_false]
  omega

theorem rd_pairState (h : t.RestsWith r) {p : Nat} (hp : p < 12) : t.rd (CIP_PAIR.STATE p) = 0 := by
  have hv : ∀ p < 12, busyBank.rd (CIP_PAIR.STATE p) = 0 := by decide +kernel
  refine h.rd ?_ (hv p hp)
  simp only [CIP_PAIR.STATE, SLB_CMD_STATUS.RESULT, LGR_STATUS.OVERHANG, List.mem_cons, List.not_mem_nil, or_false]
  omega

theorem rd_islMode (h : t.RestsWith r) {n : Nat} (hn : n < 132) : t.rd (CLK_ISL.MODE n) = 0 := by
  have hv : ∀ n < 132, busyBank.rd (CLK_ISL.MODE n) = 0 := by decide +kernel
  exact h.rd_clkIsl (f := CLK_ISL.MODE) (fun _ => rfl) hn (hv n hn)

theorem isl (h : t.RestsWith r) {n : Nat} (hn : n < 132) : t.isl n = islOff := by
  have hv : ∀ n < 132, busyBank.rd (CLK_ISL.STATE n) = 0 := by decide +kernel
  exact h.rd_clkIsl (f := CLK_ISL.STATE) (fun _ => rfl) hn (hv n hn)

theorem pairMode (h : t.RestsWith r) {p : Nat} (hp : p < 12) : t.pairMode p = t := by
  have hout : t.rd CIP_OUT.OUT = 0 := h.rd (by decide) (by decide)
  have hmode : t.rd (CLK_ISL.MODE (islPair p)) = 0 := h.rd_islMode (by simp only [islPair]; omega)
  simp [State.pairMode, hmode, h.rd_pairState hp, hout, bitAt]

theorem pairsIn (h : t.RestsWith r) : t.pairsIn = 12 := by
  have hout : t.rd CIP_OUT.OUT = 0 := h.rd (by decide) (by decide)
  have hserves : ∀ p ∈ List.range 12, t.pairServes p = true := fun p hp => by
    have hp : p < 12 := List.mem_range.1 hp
    simp [State.pairServes, h.rd_pairState hp, h.rd_islMode (show 116 + p < 132 by omega), hout, bitAt]
  rw [State.pairsIn, List.filter_eq_self.2 hserves, List.length_range]

theorem islAsked (h : t.RestsWith r) {n : Nat} (hn : n < 131) : t.islAsked n ≠ some true := by
  have hjob : t.rd JOB_CFG.ENABLE = 0 := h.rd (by decide) (by decide)
  have hres : t.res = ResSt.reset := h.parts .res (by decide)
  have hwork : t.resWork = false := by rw [State.resWork, h.chip, hres]; rfl
  have hserving : t.serving = false := by rw [State.serving, h.chip]; rfl
  have hwanted : t.islWanted islJob = false := by simp [State.islWanted, islJob, State.on, hjob]
  by_cases hn' : n = islJob
  · simp [State.islAsked, h.chip, hn', islJob, h.hubOn, ← hwanted]
  · simp [State.islAsked, h.chip, hn', hserving, hwork, h.rd_islMode (show n < 132 by omega)]

theorem islSettle (h : t.RestsWith r) {n : Nat} (hn : n < 131) : t.islSettle n = t := by
  have hpower : t.powering n = false := by
    simp [State.powering, h.isl (show n < 132 by omega), islOff, islWaking, islRestarting]
  unfold State.islSettle
  split
  · exact absurd ‹_› (h.islAsked hn)
  · simp [State.islDisable, hpower, h.isl (show n < 132 by omega), islOff, islOn, islRestarting]
  · rfl

theorem islClock (h : t.RestsWith r) : t.islClock = t := by
  have hpairs : t.forEach (List.range 12) (fun s p => s.pairMode p) = t :=
    State.forEach_self fun p hp => h.pairMode (List.mem_range.1 hp)
  have hisl : t.forEach (List.range' 108 23) (fun s n => s.islSettle n) = t :=
    State.forEach_self fun n hn => h.islSettle (by simp only [List.mem_range'_1] at hn; omega)
  have hcount : t.rd CIP_STATUS.INSERVICE = 12 := h.rd (by decide) (by decide)
  have hskip : t.when (t.rd CIP_STATUS.INSERVICE != t.pairsIn) State.updPairs = t := by simp [State.when, hcount, h.pairsIn]
  have hopen (b : Bool) : t.when (t.chip == .hold && b) State.parkIslands = t := by simp [State.when, h.chip]
  unfold State.islClock
  simp only [h.hubOn, if_true, hpairs, hskip, hisl, hopen]

/-! The rest of the hub clock: no handover, nothing raised, no reset due -/

theorem hubClock (h : t.RestsWith r) : t.hubClock.RestsWith r := by
  have hsvy : t.svy = busyBank.svy := h.parts .svy (by decide)
  have hlive : t.svyClock = t := by rw [State.svyClock, State.when, hsvy, if_neg (by decide)]
  have hwork := h.admClock.hubWork
  unfold State.hubClock
  rw [hlive]
  generalize t.admClock.hubWork = u at hwork ⊢
  have hgal : u.gal = GalSt.reset := hwork.parts .gal (by decide)
  have hflt : u.flt = FltSt.reset := hwork.parts .flt (by decide)
  have hbed : u.bed = BedSt.reset := hwork.parts .bed (by decide)
  have hhand : u.handoverClock = u := by rw [State.handoverClock, hgal]; rfl
  have hpass : u.fltPass = u := by rw [State.fltPass, if_pos (by rw [hflt]; rfl)]
  have hlater : u.laterClock = u := by rw [State.laterClock, if_pos (by rw [hflt]; rfl)]
  have hrst : u.rstClock = u := by rw [State.rstClock, hflt]; rfl
  have hreset : u.resetClock = u := by simp [State.resetClock, hrst, State.when, hbed, BedSt.reset]
  rw [hhand, hwork.islClock, State.fltClock, hpass, hpass, hpass, hpass, hlater, hreset]
  exact hwork

/-- So the RESULT that a command leaves there stands at the end of its step. -/
theorem rd_settled (h : t.RestsWith r) (s : State) : (s.settled t).rd SLB_CMD_STATUS.RESULT = r :=
  (State.rd_of_regs (s := t.hubClock) rfl _).trans h.hubClock.shows

end State.RestsWith

/-- A command of the slab bank that comes while another one runs ends with BUSY, and reaches nothing else (R119, R120; entry 153). -/
theorem State.slbCmd_of_busy {s : State} (hhub : s.hubOn = true) (hready : s.slb.ready = true) (hbusy : s.on SLB_CMD_STATUS.BUSY = true)
    (e : SramErr) (k : State → Nat → State) : s.slbCmd e k = s.slbRes slbBusy := by
  simp [State.slbCmd, hhub, hready, hbusy]

/-- A read of the slab SRAM that finds no error reaches nothing (R122). -/
theorem State.sramHit_none (s : State) (i : Nat) : s.sramHit i .none = s := rfl

/-- Refutes O23: SLB_SET_OWNER with the OWNER that the slab has need not read OK, as its clause says: while BUSY reads 1 a command of
the bank ends with BUSY (R119), and the clause does not ask that BUSY reads 0. In `busyBank` the hub clock that follows leaves RESULT
alone, so no other effect of the command leads to the same next state either. -/
theorem not_slabBank : ¬ Obligations.SlabBank := by
  rintro ⟨-, -, -, -, -, -, howner, -⟩
  obtain ⟨u, hu, -, hok, hparts, hwords⟩ := howner .none busyBank 0 busyBank (by decide) (busyBank.sramHit_none _).symm
    (by decide) (by decide) (by decide) (by decide) (by decide +kernel)
  have hbusy : (busyBank.slbRes slbBusy).RestsWith slbBusy :=
    ⟨keepsBut_wr (keepsBut_refl _ _) (by decide), keepsWords_wr (keepsWords_refl _ _) (by decide),
      State.rd_wr_self _ (by decide) (by decide)⟩
  have hends : u.RestsWith slbOk :=
    ⟨keepsBut_mono hparts (by decide), fun a ha => hwords a fun hmem => ha (List.mem_cons.2 (.inl (List.mem_singleton.1 hmem))), hok⟩
  rw [exec_slbSetOwner, run_of_ne_off (by decide), State.doSetOwner, State.slbCmd_of_busy (by decide) (by decide) (by decide)] at hu
  have hshown := hends.rd_settled busyBank
  rw [← Host.Outcome.next.inj hu, hbusy.rd_settled] at hshown
  exact absurd hshown (by decide)

end Sys2Proof.Machine
end

section
/-! PROOFS. Gauge readings (R126, R128, R133, R146): the base energy that a pack takes from a reading, whatever the reading then does to
the pack's state. -/

namespace Sys2Proof.Machine

/-! ### The record of a pack -/

theorem State.pack_putPack_self (s : State) (k : Nat) (p : Pack) : (s.putPack k p).pack k = p := by
  by_cases hk : k = 0 <;> simp [State.pack, State.putPack, hk]

theorem State.pack_of_lgr {s t : State} (h : t.lgr = s.lgr) (k : Nat) : t.pack k = s.pack k := by
  rw [State.pack, h, ← State.pack]

@[simp] theorem State.pack_wr (s : State) (f : Fld) (v k : Nat) : (s.wr f v).pack k = s.pack k := State.pack_of_lgr rfl k

@[simp] theorem State.pack_wrInt (s : State) (f : Fld) (v : Int) (k : Nat) : (s.wrInt f v).pack k = s.pack k := State.pack_of_lgr rfl k

theorem State.sv_putPack (s : State) (k : Nat) (p : Pack) : (s.putPack k p).sv = s.sv := by
  by_cases hk : k = 0 <;> simp only [State.putPack, hk, if_true, if_false] <;> rfl

theorem keepsBut_putPack {l : List Part} {s t : State} {k : Nat} {p : Pack} (h : keepsBut l s t) (hm : .lgr ∈ l) :
    keepsBut l s (t.putPack k p) := by
  unfold State.putPack
  split <;> exact keepsBut_lgr h hm

/-! ### What a change of a pack's state reaches (R133, R148, R510, R534, R553) -/

theorem State.alert_keepsBut (s : State) (c : Nat) : keepsBut [.regs, .twb] s (s.alert c) := by
  have hset : keepsBut [.regs, .twb] s (s.setBit TWB_ALRT_CAUSE.CAUSE c true) := keepsBut_setBit (keepsBut_refl _ s) (by decide)
  unfold State.alert
  extract_lets was u
  split
  · exact keepsBut_twb hset (by decide)
  · exact hset

theorem State.formRec_keepsBut (s : State) (typ family : Nat) (ws : List Nat) : keepsBut [.regs, .clg] s (s.formRec typ family ws) := by
  have hclg (x : ClgSt) : keepsBut [.regs, .clg] s { s with clg := x } := keepsBut_clg (keepsBut_refl _ s) (by decide)
  unfold State.formRec
  extract_lets r
  split
  · exact hclg _
  · split
    · exact hclg _
    · exact keepsBut_addSat (hclg _) (by decide)

/-- The parts that a change of a pack's state may reach. -/
abbrev packParts : List Part := [.regs, .flt, .clg, .twb]

theorem State.setPack_keepsBut (s : State) (k st : Nat) : keepsBut packParts s (s.setPack k st) := by
  unfold State.setPack
  split
  · exact keepsBut_refl _ s
  · have hraised : keepsBut packParts s ((s.wr (LGR_PSTAT.STATE k) st).raise (576 + 2 * k)) :=
      keepsBut_raise (keepsBut_wr (keepsBut_refl _ s) (by decide)) (by decide) (by decide)
    exact keepsBut_trans hraised (keepsBut_trans (keepsBut_mono (State.alert_keepsBut _ 3) (by decide))
      (keepsBut_mono (State.formRec_keepsBut _ _ _ _) (by decide)))

theorem State.failPack_keepsBut (s : State) (k cause : Nat) : keepsBut packParts s (s.failPack k cause) := by
  have hset := keepsBut_trans (keepsBut_wr (f := LGR_PSTAT.CAUSE k) (v := cause) (keepsBut_refl packParts s) (by decide))
    (State.setPack_keepsBut _ k pkFailed)
  have hraised := keepsBut_raiseQ (src := 577 + 2 * k) (q := true) hset (by decide) (by decide)
  unfold State.failPack State.cancelOther
  split
  · exact keepsBut_wr (keepsBut_wr hraised (by decide)) (by decide)
  · exact hraised

/-! ### A reading that the gauge answers (R126, R128) -/

theorem State.sohWarn_keepsBut (s : State) (k : Nat) : keepsBut packParts s (s.sohWarn k) :=
  keepsBut_raiseIf (keepsBut_wrB (keepsBut_refl _ s) (by decide)) (by decide) (by decide)

theorem State.takeGauge_keepsBut (s : State) (k : Nat) (g : GaugeIn) : keepsBut [.regs, .lgr] s (s.takeGauge k g) := by
  have hput (t : State) (p : Pack) (h : keepsBut [.regs, .lgr] s t) : keepsBut [.regs, .lgr] s (t.putPack k p) :=
    keepsBut_putPack h (by decide)
  exact keepsBut_wr (keepsBut_wrInt (keepsBut_wr (hput _ _ (hput _ _ (keepsBut_refl _ s))) (by decide)) (by decide)) (by decide)

/-- The design capacity that a reading is taken against: while the pack qualifies, that of the reading itself (R128, R146). -/
def State.gaugeDc (s : State) (k : Nat) (g : GaugeIn) : Nat := if s.qualifying k then g.dc else (s.pack k).dc

/-- The base energy that a reading gives a pack (R128). -/
theorem State.takeGauge_pack (s : State) (k : Nat) (g : GaugeIn) : ((s.takeGauge k g).pack k).dc = s.gaugeDc k g ∧
    ((s.takeGauge k g).pack k).ebase = min (quot (s.sv (LEDGER.EBOL k) * g.rc) (s.gaugeDc k g)) (s.sv (LEDGER.EBOL k)) := by
  unfold State.takeGauge
  extract_lets p q dc read r based
  have hread : read.pack k = _ := s.pack_putPack_self k _
  have hbased : based.pack k = { r with ebase := read.baseEnergy k } := read.pack_putPack_self k _
  have hsv : read.sv = s.sv := s.sv_putPack k _
  rw [State.pack_wr, State.pack_wrInt, State.pack_wr, hbased, State.baseEnergy, hsv]
  simp only [r, hread]
  exact ⟨rfl, rfl⟩

/-- A reading that is counted leaves the base energy and the design capacity as it found them. -/
theorem State.countValid_pack (s : State) (k : Nat) : ((s.countValid k).pack k).ebase = (s.pack k).ebase ∧
    ((s.countValid k).pack k).dc = (s.pack k).dc := by
  have hcounted (p : Pack) (st : Nat) : ((s.putPack k p).setPack k st).pack k = p :=
    (State.pack_of_lgr (State.setPack_keepsBut _ k st .lgr (by decide)) k).trans (s.pack_putPack_self k p)
  unfold State.countValid
  extract_lets p u
  split
  · split
    · rw [hcounted]; exact ⟨rfl, rfl⟩
    · rw [State.pack_putPack_self]; exact ⟨rfl, rfl⟩
  · exact ⟨rfl, rfl⟩

theorem State.countValid_keepsBut (s : State) (k : Nat) : keepsBut (.lgr :: packParts) s (s.countValid k) := by
  have hput (p : Pack) : keepsBut (.lgr :: packParts) s (s.putPack k p) := keepsBut_putPack (keepsBut_refl _ s) (by decide)
  unfold State.countValid
  extract_lets p u
  split
  · split
    · exact keepsBut_trans (hput _) (keepsBut_mono (State.setPack_keepsBut _ k pkCounted) (by decide))
    · exact hput _
  · exact keepsBut_refl _ s

/-- What follows a reading — a failure of the pack, a valid reading counted, or nothing — leaves the pack the base energy and the design
capacity of the reading (R128, R133, R146). -/
theorem State.doGaugeRead_pack {s : State} {k : Nat} (hparams : s.ledgerParams = true) (hfitted : s.rd (LGR_PSTAT.STATE k) ≠ pkAbsent)
    (g : GaugeIn) : ((s.doGaugeRead k (some g)).pack k).ebase = ((s.takeGauge k g).pack k).ebase ∧
      ((s.doGaugeRead k (some g)).pack k).dc = ((s.takeGauge k g).pack k).dc ∧
      keepsBut (.lgr :: packParts) s (s.doGaugeRead k (some g)) := by
  have htaken : keepsBut (.lgr :: packParts) s (s.takeGauge k g) := keepsBut_mono (s.takeGauge_keepsBut k g) (by decide)
  have hwarn := (s.takeGauge k g).sohWarn_keepsBut k
  have hpack := State.pack_of_lgr (hwarn .lgr (by decide)) k
  have hkeeps := keepsBut_trans htaken (keepsBut_mono hwarn (by decide))
  simp only [State.doGaugeRead, hparams, hfitted, Bool.not_true, Bool.false_eq_true, decide_false, Bool.or_self, if_false]
  generalize (s.takeGauge k g).sohWarn k = t at hpack hkeeps ⊢
  rw [← hpack]
  split
  · exact ⟨rfl, rfl, hkeeps⟩
  · split
    next c _ =>
      have hfail := t.failPack_keepsBut k c
      rw [State.pack_of_lgr (hfail .lgr (by decide)) k]
      exact ⟨rfl, rfl, keepsBut_trans hkeeps (keepsBut_mono hfail (by decide))⟩
    next =>
      obtain ⟨hebase, hdc⟩ := t.countValid_pack k
      exact ⟨hebase, hdc, keepsBut_trans hkeeps (t.countValid_keepsBut k)⟩

/-- So GAUGE_READ at a fitted pack sets the base energy against a design capacity that is not 0 (R128). -/
theorem State.does_gaugeRead {s : State} {k d : Nat} {g : GaugeIn} (hchip : s.chip ≠ .off) (hparams : s.ledgerParams = true)
    (hfitted : s.rd (LGR_PSTAT.STATE k) ≠ pkAbsent) (hd : s.gaugeDc k g = d) (hd0 : d ≠ 0) :
    s.does (.gaugeRead k (some g)) fun u => (u.pack k).ebase = min (s.sv (LEDGER.EBOL k) * g.rc / d) (s.sv (LEDGER.EBOL k)) ∧
      (u.pack k).dc = d ∧ keepsBut [.regs, .tick, .chip, .lgr, .seq, .flt, .clg, .twb] s u := by
  obtain ⟨hebase, hdc, hkeeps⟩ := State.doGaugeRead_pack hparams hfitted g
  obtain ⟨htdc, htebase⟩ := s.takeGauge_pack k g
  refine State.does_of_run hchip (exec_gaugeRead k (some g) s) ⟨?_, ?_, keepsBut_mono hkeeps (by decide)⟩
  · rw [hebase, htebase, hd, quot, if_neg hd0]
  · rw [hdc, htdc, hd]

/-- Settles O54: a reading sets the base energy, against its own design capacity while the pack qualifies and against that of qualification
afterwards, and nothing that follows the reading changes it. -/
theorem packBaseEnergy : Obligations.PackBaseEnergy := by
  unfold Obligations.PackBaseEnergy
  refine ⟨fun k _ g s hchip _ hparams hstate hans hdc => ?_, fun k _ g s hchip _ hparams hfitted hstate hans hdc => ?_⟩ <;> subst hans
  · have hown : s.gaugeDc k g = g.dc := by simp [State.gaugeDc, State.qualifying, hstate]
    exact State.does_gaugeRead hchip hparams (by rw [hstate]; decide) hown hdc
  · have hheld : s.gaugeDc k g = (s.pack k).dc := by simp [State.gaugeDc, State.qualifying, hstate]
    exact State.does_gaugeRead hchip hparams hfitted hheld hdc

end Sys2Proof.Machine
end

section
/-! PROOFS. The ADC scan and BENCH_SYNC (R462, R472): a part that pulls the line low samples it low, and the hub clock that follows
leaves SYNC_LINE alone. -/

namespace Sys2Proof.Machine

/-! ### Steps of the hub clock that find nothing to do -/

theorem State.svyClock_of_idle {s : State} (h : s.svy.cmd ≠ 4) : s.svyClock = s := by simp [State.svyClock, State.when, h]

theorem State.handoverClock_of_none {s : State} (h : s.gal.handover = 0) : s.handoverClock = s := by
  rw [State.handoverClock, h]
  rfl

theorem State.fltPass_of_none {s : State} (h : s.flt.raised = []) : s.fltPass = s := by simp [State.fltPass, h]

theorem State.laterClock_of_none {s : State} (h : s.flt.later = []) : s.laterClock = s := by simp [State.laterClock, h]

theorem State.resetClock_of_none {s : State} (hrst : s.flt.rst = none) (hbed : s.bed.chipReset = 0) : s.resetClock = s := by
  have hnone : s.rstClock = s := by rw [State.rstClock, hrst]
  simp [State.resetClock, State.when, hnone, hbed]

/-! ### A part in Hold that pulls BENCH_SYNC low -/

/-- A part in Hold whose hub base has no power, with no bench step in progress, that pulls BENCH_SYNC low. -/
def pullingPart : State := { State.reset with chip := .hold, seq := { SeqSt.reset with syncDrive := true } }

/-- A scan at whose end BENCH_SYNC reads high but for the part's own pull. -/
def highScan : ScanIn := { codes := [], pg := 0, sync := true, up := false, pwrOk := true, gaugeA := true, gaugeB := true }

/-- Nothing waits in FLT but raises of sources that exist: no block reset, no chip reset, no threshold of a live load. -/
def FltSt.calm (x : FltSt) : Prop := x.later = [] ∧ x.rst = none ∧ x.thrNew = [] ∧ ∀ r ∈ x.raised, r.src < 704

/-- `t` is that part with a value of SYNC_LINE, whatever its other register words hold, after work that the hub clock may do in it. -/
structure State.ShowsLine (v : Nat) (t : State) : Prop where
  parts : keepsBut [.regs, .margin, .lgr, .adm, .seq, .flt, .clg, .twb, .free] pullingPart t
  calm : t.flt.calm
  line : t.rd SEQ_STATUS.SYNC_LINE = v

theorem evsBit_addr_ne_seqStatus (src : Nat) : SEQ_STATUS.SYNC_LINE.addr ≠ (evsBit src).1.addr := by
  unfold evsBit
  repeat' refine iteInduction (motive := fun b : Fld × Nat => SEQ_STATUS.SYNC_LINE.addr ≠ b.1.addr) (fun _ => ?_) fun _ => ?_
  all_goals simp only [SEQ_STATUS.SYNC_LINE, DCH_EVS.STATUS, NCH_EVS.STATUS, HPT_EVS.STATUS, GAL_EVS.STATUS, CIP_EVS.STATUS,
    LGR_EVS.STATUS, SEQ_EVS0.STATUS, SEQ_EVS1.STATUS, SEQ_EVS2.STATUS, TWB_EVS.STATUS, CLK_EVS.STATUS, FLT_EVS.STATUS]
  all_goals omega

/-- Only sources that exist hold a count. -/
theorem State.lt_of_mem_counted {s : State} {src : Nat} (h : src ∈ s.counted) : src < 704 := by
  obtain ⟨p, hp, rfl⟩ := List.mem_map.1 h
  obtain ⟨-, hp⟩ := List.mem_filter.1 hp
  simp only [Bool.and_eq_true, decide_eq_true_eq] at hp
  omega

/-- There are eight classes of windows (R511). -/
theorem State.srcClass_lt (s : State) (src : Nat) : s.srcClass src < 8 := Nat.mod_lt _ (by decide)

/-- In Hold a raise has no action (R519). -/
theorem State.act_of_hold {s : State} (h : s.chip = .hold) (rs : List React) : s.act rs = s := if_pos h

namespace State.ShowsLine

variable {t u : State} {v : Nat}

theorem ite {c : Prop} [Decidable c] (ht : t.ShowsLine v) (hu : u.ShowsLine v) : (if c then t else u).ShowsLine v := by
  split
  · exact ht
  · exact hu

theorem when {b : Bool} {f : State → State} (h : t.ShowsLine v) (hf : ∀ t : State, t.ShowsLine v → (f t).ShowsLine v) :
    (t.when b f).ShowsLine v := ite (hf t h) h

theorem forEach {A : Type} {as : List A} {f : State → A → State} (h : t.ShowsLine v)
    (hf : ∀ t : State, ∀ a ∈ as, t.ShowsLine v → (f t a).ShowsLine v) : (t.forEach as f).ShowsLine v := by
  unfold State.forEach
  induction as generalizing t with
  | nil => exact h
  | cons a as ih => exact ih (hf t a (.head _) h) fun t a ha => hf t a (.tail _ ha)

theorem wr {f : Fld} {x : Nat} (h : t.ShowsLine v) (hf : SEQ_STATUS.SYNC_LINE.addr ≠ f.addr := by decide) : (t.wr f x).ShowsLine v :=
  ⟨keepsBut_wr h.parts (by decide), h.calm, (State.rd_wr_ne t hf x).trans h.line⟩

theorem margin {x : Margin} (h : t.ShowsLine v) : State.ShowsLine v { t with margin := x } :=
  ⟨keepsBut_margin h.parts (by decide), h.calm, h.line⟩

theorem adm {x : AdmSt} (h : t.ShowsLine v) : State.ShowsLine v { t with adm := x } :=
  ⟨keepsBut_adm h.parts (by decide), h.calm, h.line⟩

theorem clg {x : ClgSt} (h : t.ShowsLine v) : State.ShowsLine v { t with clg := x } :=
  ⟨keepsBut_clg h.parts (by decide), h.calm, h.line⟩

theorem twb {x : TwbSt} (h : t.ShowsLine v) : State.ShowsLine v { t with twb := x } :=
  ⟨keepsBut_twb h.parts (by decide), h.calm, h.line⟩

theorem flt {x : FltSt} (h : t.ShowsLine v) (hx : x.calm) : State.ShowsLine v { t with flt := x } :=
  ⟨keepsBut_flt h.parts (by decide), hx, h.line⟩

theorem raiseQ {src : Nat} {q : Bool} (h : t.ShowsLine v) (hs : src < 704 := by decide) : (t.raiseQ src q).ShowsLine v := by
  obtain ⟨hlater, hrst, hthr, hraised⟩ := h.calm
  refine flt (h.wr (evsBit_addr_ne_seqStatus src)) ⟨hlater, hrst, hthr, fun r hr => ?_⟩
  rcases List.mem_append.1 hr with hr | hr
  · exact hraised r hr
  · rw [List.mem_singleton.1 hr]
    exact hs

theorem alert {c : Nat} (h : t.ShowsLine v) : (t.alert c).ShowsLine v := ite h.wr.twb h.wr

/-! No face is enabled and none has negotiated a feature, so none is told anything (R68, R340) -/

theorem faceOn (h : t.ShowsLine v) (f : Nat) : t.faceOn f = false := by
  have hsvy : t.svy = SvySt.reset := h.parts .svy (by decide)
  rw [State.faceOn, State.svOn, State.sv, hsvy]
  simp [SvySt.reset, svField, svWord, bitsOf, SMap.get]

theorem postFaces (h : t.ShowsLine v) (p : Nat → Bool) (log : Nat) (b : State → Nat → EvBody) :
    t.postFaces (fun f => t.faceOn f && p f) log b = t := by simp [State.postFaces, h.faceOn]

theorem postVendor (h : t.ShowsLine v) (f aux : Nat) : t.postVendor f 3 aux = t := by
  have hnv : t.nv = [] := h.parts .nv (by decide)
  have hnone : t.feature f featVolatile = false := by
    rw [State.feature, State.nvFace, hnv]
    simp [SMap.get, NvFace.fresh]
  simp [State.postVendor, vendorFeature, hnone]

theorem enterSable (h : t.ShowsLine v) : t.enterSable.ShowsLine v := by
  have hnone : faces.filter t.volatilePolicy = [] := by simp [State.volatilePolicy, h.faceOn]
  have hpost := h.postFaces (fun f => !t.volatilePolicy f) logWarn fun _ _ => .health true
  simp only [State.enterSable, State.forEach, hnone, List.foldl_nil, hpost]
  exact h.alert

theorem leaveSable (h : t.ShowsLine v) : t.leaveSable.ShowsLine v := by
  rw [State.leaveSable, h.postFaces]
  exact h.alert

theorem enterPearl (h : t.ShowsLine v) : t.enterPearl.ShowsLine v := h.forEach fun t f _ h => by
  have hset : (t.setBit BED_STATE.VOLATILE f false).ShowsLine v := h.wr
  rw [hset.postVendor]
  exact hset

/-! The margin state, OVERHANG and the packs (R139, R145, R147, R161) -/

theorem changeMargin {m : Margin} (h : t.ShowsLine v) : (t.changeMargin m).ShowsLine v :=
  ite h <| when (when (when (raiseQ (wr (wr (wr h.margin)))) fun _ => enterSable) fun _ => leaveSable) fun _ => enterPearl

theorem updOverhang (h : t.ShowsLine v) : t.updOverhang.ShowsLine v := ite (raiseQ (wr h)) (wr h)

theorem formRec {typ family : Nat} {ws : List Nat} (h : t.ShowsLine v) : (t.formRec typ family ws).ShowsLine v :=
  ite h.clg (ite h.clg (wr h.clg))

theorem updRemoval {k : Nat} (h : t.ShowsLine v) (hk : k < 2) : (t.updRemoval k).ShowsLine v := by
  have hstat : SEQ_STATUS.SYNC_LINE.addr ≠ (LGR_PSTAT.STATE k).addr := by simp only [SEQ_STATUS.SYNC_LINE, LGR_PSTAT.STATE]; omega
  exact ite (ite h (formRec (alert (raiseQ (wr h hstat) (by omega))))) h

theorem reportMargins (h : t.ShowsLine v) : t.reportMargins.ShowsLine v :=
  ite h <| forEach h.adm fun t f _ h => by
    rw [State.reportChange, h.faceOn]
    exact h

theorem extreme {i : Nat} {x : Int} (h : t.ShowsLine v) : (t.extreme i x).ShowsLine v := by
  refine ite ?_ h
  dsimp only
  split
  · exact h.clg
  · exact h

theorem admClock (h : t.ShowsLine v) : t.admClock.ShowsLine v :=
  extreme <| reportMargins <| forEach (updOverhang (changeMargin h)) fun _ k hk h =>
    h.updRemoval (by simp only [List.mem_cons, List.not_mem_nil, or_false] at hk; omega)

/-! Raises that wait are counted and captured; in Hold no action follows (R512, R519, R521) -/

/-- The words in which FLT counts a source lie below the sequencer's. -/
theorem fltCount {src x : Nat} (h : t.ShowsLine v) (hs : src < 704) : (t.wr (FLT_CNT.CUR src) x).ShowsLine v ∧
    (t.wr (FLT_CNT.PREV src) x).ShowsLine v ∧ (t.wr (FLT_TOT.TOTAL src) x).ShowsLine v := by
  refine ⟨h.wr ?_, h.wr ?_, h.wr ?_⟩ <;> simp only [SEQ_STATUS.SYNC_LINE, FLT_CNT.CUR, FLT_CNT.PREV, FLT_TOT.TOTAL] <;> omega

theorem rollTo {cls k : Nat} (h : t.ShowsLine v) (hcls : cls < 8) : (t.rollTo cls k).ShowsLine v := by
  unfold State.rollTo
  extract_lets next l s esc mine rest w s' s'' k' s'''
  have hs : s.ShowsLine v := h.forEach fun t src hsrc h =>
    have hlt : src < 704 := State.lt_of_mem_counted (List.mem_filter.1 hsrc).1
    ((h.fltCount hlt).2.1.fltCount hlt).1
  obtain ⟨-, -, hthr, -⟩ := hs.calm
  have hmine : mine = [] := by simp [mine, hthr]
  have hs' : s'.ShowsLine v := by simpa [s', hmine, State.forEach] using hs
  have hs'' : s''.ShowsLine v := hs'.when fun _ h => h.wr (by simp only [SEQ_STATUS.SYNC_LINE, FLT_WIN.TICKS]; omega)
  obtain ⟨hlater, hrst, -, hraised⟩ := hs''.calm
  have hrest : rest = [] := by simp [rest, hthr]
  exact when (flt hs'' ⟨hlater, hrst, hrest, hraised⟩) fun _ h => h.wr

theorem tally {src tick rank : Nat} (h : t.ShowsLine v) : (t.tally src tick rank).ShowsLine v := by
  refine ite ?_ h
  dsimp only
  split
  · exact h.clg
  · exact h

theorem takeRaise {r : Raise} (h : t.ShowsLine v) (hr : r.src < 704) : (t.takeRaise r).2.ShowsLine v := by
  have hroll : (t.rollDue (t.srcClass r.src)).ShowsLine v := ite (h.rollTo (State.srcClass_lt t r.src)) h
  have hcount (x y : Nat) : (((t.rollDue (t.srcClass r.src)).wr (FLT_TOT.TOTAL r.src) x).wr (FLT_CNT.CUR r.src) y).ShowsLine v :=
    ((hroll.fltCount hr).2.2.fltCount hr).1
  unfold State.takeRaise
  exact tally (when (hcount _ _) fun _ h => h.flt h.calm)

theorem takeAll {l : List Raise} (h : t.ShowsLine v) (hl : ∀ r ∈ l, r.src < 704) : (State.takeAll l t).2.ShowsLine v := by
  induction l generalizing t with
  | nil => exact h
  | cons r l ih =>
    obtain ⟨hr, hl⟩ := List.forall_mem_cons.1 hl
    rw [State.takeAll]
    exact ih (h.takeRaise hr) hl

theorem capture {rs : List React} (h : t.ShowsLine v) : (t.capture rs).ShowsLine v := by
  unfold State.capture
  dsimp only
  split
  · exact h
  · exact ite (wr (wr h)) (alert (wr (wr (wr (wr (wr (wr (wr (wr (wr (wr (wr h))))))))))))

theorem fltPass (h : t.ShowsLine v) : t.fltPass.ShowsLine v := by
  obtain ⟨hlater, hrst, hthr, hraised⟩ := h.calm
  have htaken := takeAll (flt (x := { t.flt with raised := [] }) h ⟨hlater, hrst, hthr, by simp⟩) hraised
  refine ite h ?_
  dsimp only
  rw [State.act_of_hold (htaken.capture.parts .chip (by decide))]
  exact htaken.capture

theorem hubOn (h : t.ShowsLine v) : t.hubOn = false := by
  have hslb : t.slb = SlbSt.reset := h.parts .slb (by decide)
  rw [State.hubOn, hslb]
  exact Bool.and_false _

theorem hubClock (h : t.ShowsLine v) : t.hubClock.ShowsLine v := by
  have hsvy : t.svy = SvySt.reset := h.parts .svy (by decide)
  have hadm := h.admClock
  have hhub : t.admClock.hubWork = t.admClock := by simp [State.hubWork, State.when, hadm.hubOn]
  have hgal : t.admClock.gal = GalSt.reset := hadm.parts .gal (by decide)
  have hisl : t.admClock.islClock = t.admClock := by simp [State.islClock, hadm.hubOn]
  have hflt : t.admClock.fltClock.ShowsLine v := hadm.fltPass.fltPass.fltPass.fltPass
  obtain ⟨hlater, hrst, -, -⟩ := hflt.calm
  have hbed : t.admClock.fltClock.bed = BedSt.reset := hflt.parts .bed (by decide)
  rw [State.hubClock, State.svyClock_of_idle (by rw [hsvy]; decide), hhub, State.handoverClock_of_none (by rw [hgal]; rfl), hisl,
    State.laterClock_of_none hlater, State.resetClock_of_none hrst (by rw [hbed]; rfl)]
  exact hflt

/-- So what SYNC_LINE shows stands at the end of the command's step. -/
theorem rd_settled (h : t.ShowsLine v) (s : State) : (s.settled t).rd SEQ_STATUS.SYNC_LINE = v :=
  (State.rd_of_regs (s := t.hubClock) rfl _).trans h.hubClock.line

end State.ShowsLine

/-- The part samples the line low at the end of its scan, since it pulls it low itself (R472). -/
theorem pullingPart_doAdcScan : (pullingPart.settled (pullingPart.doAdcScan highScan)).rd SEQ_STATUS.SYNC_LINE = 0 := by decide +kernel

/-- Refutes O32: after ADC_SCAN, SYNC_LINE need not show what the scan finds on BENCH_SYNC (`sync`), as its clause says: while the part
itself pulls the line low it reads low (R472), and the clause does not ask that it has let go of the line (`syncDrive`). In `pullingPart`
the hub clock that follows leaves SYNC_LINE alone, whatever the other words hold, so no other effect of the command leads to the same next
state either. -/
theorem not_ledgerUpdates : ¬ Obligations.LedgerUpdates := by
  rintro ⟨-, -, -, -, -, hscan⟩
  obtain ⟨u, hu, ⟨-, -, -, hline, -⟩, hparts⟩ := hscan highScan pullingPart (by decide) (by decide) rfl (by decide) (by decide)
    (by decide) (by decide) (by decide)
  have hflt : u.flt = FltSt.reset := hparts .flt (by decide)
  have hshows : u.ShowsLine 1 := ⟨keepsBut_mono hparts (by decide), by rw [hflt]; simp [FltSt.calm, FltSt.reset], hline⟩
  rw [exec_adcScan, run_of_ne_off (by decide)] at hu
  have hhigh := hshows.rd_settled pullingPart
  rw [← Host.Outcome.next.inj hu, pullingPart_doAdcScan] at hhigh
  cases hhigh

end Sys2Proof.Machine
end

section
/-! PROOFS. Sensor readings and the Core log (R536, R557): a sample that is counted with a chance draws a free value, and in a part
that saves the hub clock that follows draws none. -/

namespace Sys2Proof.Machine

/-- A part in a save whose hub base has power and whose blocks hold no work; its Core log counts one in two readings of the sensors, of
which one is listed at TW3. -/
def samplingPart : State :=
  let s : State := { State.reset with
    chip := .save
    svy := { SvySt.reset with shadow := true }
    slb := { SlbSt.reset with ready := true } }
  (((s.wr CLG_CFG.ENABLE 1).wr (CLG_HCFG.EN 18) 1).wr (CLG_HCFG.K 18) 1).wr (TWB_SENS.VALID 3 0) 1

/-- The words that the reading and what follows it may write there, before the islands. -/
abbrev sensorWords : List Nat := [(TWB_SENS.TEMP 3 0).addr, LGR_STATUS.OVERHANG.addr]

/-- `t` is that part after a reading of the sensor and what ADM and the ledger then decide. -/
structure State.SensorStep (t : State) : Prop where
  parts : keepsBut [.regs, .clg, .twb] samplingPart t
  words : keepsWords sensorWords samplingPart t

namespace State.SensorStep

variable {t : State}

/-- A field elsewhere reads as it stands in `samplingPart`. -/
theorem rd (h : t.SensorStep) {f : Fld} {v : Nat} (hf : f.addr ∉ sensorWords)
    (hv : samplingPart.rd f = v) : t.rd f = v := (h.words.rd hf).trans hv

theorem clg {x : ClgSt} (h : t.SensorStep) : State.SensorStep { t with clg := x } :=
  ⟨keepsBut_clg h.parts (by decide), keepsWords_of_regs h.words rfl⟩

theorem chip (h : t.SensorStep) : t.chip = .save := h.parts .chip (by decide)

theorem margin (h : t.SensorStep) : t.margin = .sable := h.parts .margin (by decide)

/-! Sable stays, with nothing over the ceiling and no pack fitted (R139, R145, R147, R161) -/

theorem changeMargin (h : t.SensorStep) : t.changeMargin (t.marginIn.next t.margin) = t := by
  have hne : t.marginIn.ne = 0 := h.rd (by decide) (by decide)
  rw [MarginIn.next, if_pos (by rw [hne]; decide), State.changeMargin, h.margin]
  rfl

theorem updOverhang (h : t.SensorStep) : t.updOverhang.SensorStep := by
  have hceil : t.rd LGR_CEIL.SETTS = 0 := h.rd (by decide) (by decide)
  have hdirty : t.rd ADM_DIRTY.SETTS = 0 := h.rd (by decide) (by decide)
  have ha : t.rd LGR_PACK_CTL.REMOVE_A = 0 := h.rd (by decide) (by decide)
  have hb : t.rd LGR_PACK_CTL.REMOVE_B = 0 := h.rd (by decide) (by decide)
  have hover : t.overhang = false := by simp [State.overhang, State.removalPending, State.on, hceil, hdirty, ha, hb]
  rw [State.updOverhang, hover]
  exact ⟨keepsBut_wrB h.parts (by decide), keepsWords_wrB h.words (by decide)⟩

theorem updRemovals (h : t.SensorStep) : t.forEach [0, 1] (fun s k => s.updRemoval k) = t :=
  State.forEach_self fun k hk => by
    have hstate : t.rd (LGR_PSTAT.STATE k) = 0 := by
      rcases List.mem_pair.1 hk with rfl | rfl <;> exact h.rd (by decide) (by decide)
    simp [State.updRemoval, hstate, pkRemoving, pkSafe]

theorem reportMargins (h : t.SensorStep) : t.reportMargins = t := by
  have hmode : t.galMode = 0 := h.rd (by decide) (by decide)
  have hadm : t.adm = AdmSt.reset := h.parts .adm (by decide)
  have hcode : t.admMargin = .sable := by simp [State.admMargin, hmode, h.margin, modePaired]
  exact if_pos (by rw [hadm, hcode]; rfl)

theorem extreme (h : t.SensorStep) (i : Nat) (v : Int) : (t.extreme i v).SensorStep := by
  unfold State.extreme
  split
  · dsimp only
    split
    · exact h.clg
    · exact h
  · exact h

theorem admClock (h : t.SensorStep) : t.admClock.SensorStep := by
  have hover := h.updOverhang
  rw [State.admClock, h.changeMargin, hover.updRemovals, hover.reportMargins]
  exact hover.extreme _ _

/-! The hub blocks: the part serves no host, and nothing waits -/

theorem hubOn (h : t.SensorStep) : t.hubOn = true := by
  have hslb : t.slb = samplingPart.slb := h.parts .slb (by decide)
  rw [State.hubOn, State.powered, h.chip, hslb]
  rfl

theorem working (h : t.SensorStep) : t.working = false := by rw [State.working, h.chip]; rfl

theorem jobClock (h : t.SensorStep) : t.jobClock = t := by
  have hjob : t.job = JobSt.reset := h.parts .job (by decide)
  simp [State.jobClock, State.pendClock, hjob, JobSt.reset, State.forEach, bitAt]

theorem guardHauls (h : t.SensorStep) : t.guardHauls = t := by
  have hslb : t.slb = samplingPart.slb := h.parts .slb (by decide)
  rw [State.guardHauls, hslb]
  rfl

theorem scanClock (h : t.SensorStep) : t.scanClock = t := by
  have hports : t.ports = [] := h.parts .ports (by decide)
  refine State.forEach_self fun f _ => ?_
  rw [State.port, hports]
  rfl

theorem lifeCheck (h : t.SensorStep) : t.lifeCheck = t := by
  have hsvy : t.svy = samplingPart.svy := h.parts .svy (by decide)
  have hoff (f : Nat) : t.faceOn f = false := by
    rw [State.faceOn, State.svOn, State.sv, hsvy]
    simp [samplingPart, svField, svWord, bitsOf, SMap.get, SvySt.reset]
  simp [State.lifeCheck, hoff, State.forEach]

theorem slbClock (h : t.SensorStep) : t.slbClock = t := by
  have hbusy : t.rd SLB_CMD_STATUS.BUSY = 0 := h.rd (by decide) (by decide)
  have hsweep : t.rd SLB_STATUS.SWEEP = 0 := h.rd (by decide) (by decide)
  simp [State.slbClock, State.on, hbusy, hsweep]

theorem hubWork (h : t.SensorStep) : t.hubWork = t := by
  have hrepair : t.repairClock = t := by simp [State.repairClock, State.when, h.working]
  have hport : t.portClock = t := by simp [State.portClock, State.when, h.working]
  have hgal : t.galClock = t := by simp [State.galClock, h.working]
  have hrotate : t.rotateClock = t := by simp [State.rotateClock, h.working]
  have herase : t.eraseClock = t := by simp [State.eraseClock, h.working, h.chip]
  rw [State.hubWork, h.hubOn, State.when, if_pos rfl, hrepair, hport, hgal, h.jobClock, h.guardHauls, h.scanClock, hrotate, herase,
    h.lifeCheck, h.slbClock]

/-! Islands: only registers change, since a pair serves (R413, R415, R496) -/

theorem pairModes (h : t.SensorStep) : t.forEach (List.range 12) (fun s p => s.pairMode p) = t :=
  State.forEach_self fun p _ => by
    have hout : t.rd CIP_OUT.OUT = 0 := h.rd (by decide) (by decide)
    simp [State.pairMode, h.chip, hout, bitAt]

theorem pairsIn_ne_zero (h : t.SensorStep) : t.pairsIn ≠ 0 := by
  have hout : t.rd CIP_OUT.OUT = 0 := h.rd (by decide) (by decide)
  have hstate : t.rd (CIP_PAIR.STATE 0) = 0 := h.rd (by decide) (by decide)
  have hmode : t.rd (CLK_ISL.MODE 116) = 0 := h.rd (by decide) (by decide)
  have hserves : t.pairServes 0 = true := by simp [State.pairServes, hout, hstate, hmode, bitAt]
  exact (List.length_pos_of_mem (List.mem_filter.2 ⟨List.mem_range.2 (by decide), hserves⟩)).ne'

theorem updPairs (h : t.SensorStep) : keepsBut [.regs] t t.updPairs := by
  rw [State.updPairs, State.when, if_neg (by simpa using h.pairsIn_ne_zero)]
  exact keepsBut_wrB (keepsBut_wr (keepsBut_refl _ t) (by decide)) (by decide)

end State.SensorStep

theorem State.setIsl_keepsBut (s : State) (n st : Nat) : keepsBut [.regs] s (s.setIsl n st) := by
  have hset : keepsBut [.regs] s (s.wr (CLK_ISL.STATE n) st) := keepsBut_wr (keepsBut_refl _ s) (by decide)
  have hwake := keepsBut_when (b := decide (st = islOn ∧ s.isl n ≠ islOn)) hset fun _ h =>
    keepsBut_addSat (f := CLK_ISL.WAKES n) (n := 1) h (by decide)
  unfold State.setIsl
  extract_lets up u
  split
  · exact keepsBut_wr hwake (by decide)
  · split
    · exact keepsBut_wr hwake (by decide)
    · exact hwake

theorem State.islEnable_keepsBut (s : State) (n : Nat) : keepsBut [.regs] s (s.islEnable n) := by
  unfold State.islEnable
  split
  · exact keepsBut_wr (keepsBut_refl _ s) (by decide)
  · split
    · split
      · exact keepsBut_refl _ s
      · exact s.setIsl_keepsBut n _
    · split
      · exact keepsBut_wr (s.setIsl_keepsBut n _) (by decide)
      · exact keepsBut_refl _ s

/-- In a save no island is asked off (R499, R505). -/
theorem State.islSettle_keepsBut {s : State} (h : s.chip = .save) (n : Nat) : keepsBut [.regs] s (s.islSettle n) := by
  have hask : s.islAsked n = some true ∨ s.islAsked n = none := by
    rw [State.islAsked, if_pos h]
    split
    · exact .inl rfl
    · exact .inr rfl
  unfold State.islSettle
  rcases hask with hask | hask <;> rw [hask]
  · exact s.islEnable_keepsBut n
  · exact keepsBut_refl _ s

namespace State.SensorStep

variable {t : State}

theorem islClock (h : t.SensorStep) : keepsBut [.regs] t t.islClock := by
  have hpairs : keepsBut [.regs] t (t.when (t.rd CIP_STATUS.INSERVICE != t.pairsIn) State.updPairs) := by
    unfold State.when
    split
    · exact h.updPairs
    · exact keepsBut_refl _ t
  have hisl := keepsBut_forEach (as := List.range' 108 23) (f := fun s n => s.islSettle n) hpairs fun u n hu =>
    keepsBut_trans hu (State.islSettle_keepsBut ((hu .chip (by decide)).trans h.chip) n)
  unfold State.islClock
  simp only [h.hubOn, if_true, h.pairModes]
  generalize State.forEach _ _ _ = u at hisl ⊢
  have hchip : u.chip = .save := (hisl .chip (by decide)).trans h.chip
  rw [State.when, if_neg (by simp [hchip])]
  exact hisl

/-- The hub clock after the reading draws no free value. -/
theorem free_hubClock (h : t.SensorStep) : t.hubClock.free = 0 := by
  have hadm := h.admClock
  have hsvy : t.svy = samplingPart.svy := h.parts .svy (by decide)
  have hgal : t.admClock.gal = GalSt.reset := hadm.parts .gal (by decide)
  have hends : keepsBut [.regs, .clg, .twb] samplingPart t.admClock.islClock :=
    keepsBut_trans hadm.parts (keepsBut_mono hadm.islClock (by decide))
  have hflt : t.admClock.islClock.flt = FltSt.reset := hends .flt (by decide)
  have hbed : t.admClock.islClock.bed = BedSt.reset := hends .bed (by decide)
  have hpass : t.admClock.islClock.fltPass = t.admClock.islClock := State.fltPass_of_none (by rw [hflt]; rfl)
  rw [State.hubClock, State.svyClock_of_idle (by rw [hsvy]; decide), hadm.hubWork, State.handoverClock_of_none (by rw [hgal]; rfl),
    State.fltClock, hpass, hpass, hpass, hpass, State.laterClock_of_none (by rw [hflt]; rfl),
    State.resetClock_of_none (by rw [hflt]; rfl) (by rw [hbed]; rfl)]
  exact hends .free (by decide)

end State.SensorStep

/-- The sample of the reading is counted with a chance of one in two, which draws a free value (R536). -/
theorem samplingPart_doSensorRead : (samplingPart.settled (samplingPart.doSensorRead 3 0 (some 0))).free = 1 := by decide +kernel

/-- Refutes O33: SENSOR_READ need not leave the count of free values alone, as its clause says: where the Core log counts only a part of the
readings (CLG_HCFG.K), the sample draws one (R536). In `samplingPart` the hub clock that follows draws none, so no other effect of the
command leads to the same next state either. -/
theorem not_packCommands : ¬ Obligations.PackCommands := by
  rintro ⟨-, -, -, -, -, -, -, -, -, -, hread, -, -⟩
  obtain ⟨u, hu, -, -, -, hparts, hwords⟩ := hread 3 0 (some 0) 0 samplingPart (by decide) (.inl rfl) (by decide) (by decide)
    (by decide) rfl
  have hstep : u.SensorStep := ⟨hparts, fun a ha => hwords a fun hmem => ha (List.mem_cons.2 (.inl (List.mem_singleton.1 hmem)))⟩
  rw [exec_sensorRead, run_of_ne_off (by decide)] at hu
  have hdrawn := samplingPart_doSensorRead
  rw [Host.Outcome.next.inj hu] at hdrawn
  exact absurd (hdrawn.symm.trans hstep.free_hubClock) (by decide)

end Sys2Proof.Machine
end

section
/-! PROOFS. What starts a save, and what later triggers do (R190 to R192, R484): step 1 of a save, fence by fence. -/

namespace Sys2Proof.Machine

/-! ### The fences of step 1 (R192, R253, R262, R296, R302, R308, R401, R431) -/

/-- The parts of the state that the fences reach: neither the chip state nor what the save keeps of its trigger is among them. -/
def fencedParts : List Part :=
  [.regs, .svy, .slb, .lgr, .adm, .haul, .stk, .res, .dch, .ports, .job, .cip, .gal, .flt, .clg, .twb, .fwm, .out]

/-- The fields that show a trigger and the fence of the faces and of the Job engine, as the fences behind that of the Job engine leave
them. -/
def fenceShown : List Fld :=
  [HAUL_SAVE_STAT.TRIGGER, SEQ_STATUS.PWR_LOSS, SEQ_STATUS.INPUT_GOOD, SEQ_INPUT.LOSSES, JOB_STATUS.FENCED, HPT_STATUS.OPEN 0,
    HPT_STATUS.OPEN 1, HPT_STATUS.OPEN 2, HPT_STATUS.OPEN 3, HPT_STATUS.OPEN 4, HPT_STATUS.OPEN 5]

/-- `t` is `s` after work of a fence: the location map and the fields `l` stand. -/
structure State.FenceStep (l : List Fld) (s t : State) : Prop where
  parts : keepsBut fencedParts s t
  lmap : t.slb.lmap = s.slb.lmap
  shown : ∀ g ∈ l, t.rd g = s.rd g

namespace State.FenceStep

variable {l : List Fld} {s t u : State}

theorem refl (l : List Fld) (s : State) : s.FenceStep l s := ⟨keepsBut_refl _ s, rfl, fun _ _ => rfl⟩

theorem trans (h : t.FenceStep l s) (h' : s.FenceStep l u) : t.FenceStep l u :=
  ⟨keepsBut_trans h.parts h'.parts, h'.lmap.trans h.lmap, fun g hg => (h'.shown g hg).trans (h.shown g hg)⟩

theorem ite {c : Prop} [Decidable c] (ht : s.FenceStep l t) (hu : s.FenceStep l u) : s.FenceStep l (if c then t else u) := by
  split
  · exact ht
  · exact hu

theorem when {b : Bool} {f : State → State} (h : s.FenceStep l t) (hf : ∀ t, s.FenceStep l t → s.FenceStep l (f t)) :
    s.FenceStep l (t.when b f) := ite (hf t h) h

theorem forEach {A : Type} {as : List A} {f : State → A → State} (h : s.FenceStep l t)
    (hf : ∀ t, ∀ a ∈ as, s.FenceStep l t → s.FenceStep l (f t a)) : s.FenceStep l (t.forEach as f) := by
  unfold State.forEach
  induction as generalizing t with
  | nil => exact h
  | cons a as ih => exact ih (hf t a (.head _) h) fun t b hb => hf t b (.tail _ hb)

/-- Work on the fenced parts that leaves the location map and the registers as they are. -/
theorem of_parts (h : s.FenceStep l t) (hparts : keepsBut fencedParts t u) (hmap : u.slb.lmap = t.slb.lmap) (hregs : u.regs = t.regs) :
    s.FenceStep l u :=
  ⟨keepsBut_trans h.parts hparts, hmap.trans h.lmap, fun g hg => (State.rd_of_regs hregs g).trans (h.shown g hg)⟩

/-- A write of a field that shares no bit with those shown. -/
theorem wr {f : Fld} {v : Nat} (h : s.FenceStep l t) (hf : f.lo + f.width ≤ 32) (hl : ∀ g ∈ l, f.apart g) :
    s.FenceStep l (t.wr f v) :=
  ⟨keepsBut_wr h.parts (by decide), h.lmap, fun g hg => (State.rd_wr_apart t hf (hl g hg) v).trans (h.shown g hg)⟩

theorem raiseQ {src : Nat} {q : Bool} (h : s.FenceStep l t) (hs : src < 700) (hl : ∀ g ∈ l, (evsBit src).1.apart g) :
    s.FenceStep l (t.raiseQ src q) :=
  (h.wr (evsBit_fits src hs).1 hl).of_parts (keepsBut_flt (keepsBut_refl _ _) (by decide)) rfl rfl

theorem dch {x : DchSt} (h : s.FenceStep l t) : s.FenceStep l { t with dch := x } :=
  h.of_parts (keepsBut_dch (keepsBut_refl _ t) (by decide)) rfl rfl

theorem setPort {p : Nat} {q : Port} (h : s.FenceStep l t) : s.FenceStep l (t.setPort p q) :=
  h.of_parts (keepsBut_setPort (keepsBut_refl _ t) (by decide)) rfl rfl

theorem send {o : Out} (h : s.FenceStep l t) : s.FenceStep l (t.send o) :=
  h.of_parts (keepsBut_send (keepsBut_refl _ t) (by decide)) rfl rfl

theorem gal {x : GalSt} (h : s.FenceStep l t) : s.FenceStep l { t with gal := x } :=
  h.of_parts (keepsBut_gal (keepsBut_refl _ t) (by decide)) rfl rfl

theorem fwm {x : FwmSt} (h : s.FenceStep l t) : s.FenceStep l { t with fwm := x } :=
  h.of_parts (keepsBut_fwm (keepsBut_refl _ t) (by decide)) rfl rfl

theorem svy {x : SvySt} (h : s.FenceStep l t) : s.FenceStep l { t with svy := x } :=
  h.of_parts (keepsBut_svy (keepsBut_refl _ t) (by decide)) rfl rfl

theorem clg {x : ClgSt} (h : s.FenceStep l t) : s.FenceStep l { t with clg := x } :=
  h.of_parts (keepsBut_clg (keepsBut_refl _ t) (by decide)) rfl rfl

theorem cip {x : CipSt} (h : s.FenceStep l t) : s.FenceStep l { t with cip := x } :=
  h.of_parts (keepsBut_cip (keepsBut_refl _ t) (by decide)) rfl rfl

theorem res {x : ResSt} (h : s.FenceStep l t) : s.FenceStep l { t with res := x } :=
  h.of_parts (keepsBut_res (keepsBut_refl _ t) (by decide)) rfl rfl

theorem fenceGallery {sub : Nat} (h : s.FenceStep l t) : s.FenceStep l (t.fenceGallery sub) := gal (gal (ite h.send h))

theorem fenceMoves (h : s.FenceStep l t) : s.FenceStep l t.fenceMoves :=
  h.of_parts (keepsBut_stk (keepsBut_haul (keepsBut_dch (keepsBut_refl _ t) (by decide)) (by decide)) (by decide)) rfl rfl

/-! A repair that is abandoned: poison is written to its line and reported (R284, R302, R329) -/

/-- The registers of a DRAM channel, whichever it is, show none of them. -/
theorem apart_of_dch {f : Fld} {c : Nat} (h : f.addr = 0x200000 + c * 0x4000 ∧ (f.lo + f.width ≤ 3 ∨ 4 ≤ f.lo) ∨
    f.addr = 0x200008 + c * 0x4000 ∨ f.addr = 0x20000c + c * 0x4000) : ∀ g ∈ fenceShown, f.apart g := by
  simp only [fenceShown, List.forall_mem_cons, List.not_mem_nil, false_implies, implies_true, and_true, Fld.apart,
    HAUL_SAVE_STAT.TRIGGER, SEQ_STATUS.PWR_LOSS, SEQ_STATUS.INPUT_GOOD, SEQ_INPUT.LOSSES, JOB_STATUS.FENCED, HPT_STATUS.OPEN]
  omega

theorem wakeChan {c : Nat} (h : s.FenceStep fenceShown t) : s.FenceStep fenceShown (t.wakeChan c) :=
  ite (h.dch.wr (by simp [DCH_STATUS.STATE]) (apart_of_dch (c := c) (.inl ⟨rfl, .inl (by simp [DCH_STATUS.STATE])⟩))) h.dch

theorem columnOn {k j n : Nat} {r : Nat × Nat} (h : s.FenceStep fenceShown t) : s.FenceStep fenceShown (t.columnOn k j n r) :=
  dch <| wr (wr h.wakeChan (by simp [DCH_PRED_HIT.COUNT]) (apart_of_dch (c := r.1) (.inr (.inl rfl))))
    (by simp [DCH_PRED_MISS.COUNT]) (apart_of_dch (c := r.1) (.inr (.inr rfl)))

theorem writePoison {k j : Nat} (h : s.FenceStep l t) : s.FenceStep l (t.writePoison k j) := by
  unfold State.writePoison
  generalize (0 : Line) = d, fullMask = mask
  have hpoison (x : DchSt) : s.FenceStep l (({ t with dch := x }).setPoison k j true) := h.dch.dch
  exact (hpoison _).of_parts (keepsBut_slb (keepsBut_refl _ _) (by decide)) rfl rfl

theorem enginePoison {k j : Nat} (h : s.FenceStep fenceShown t) : s.FenceStep fenceShown (t.enginePoison k j) :=
  writePoison (dch (h.forEach fun _ _ _ h => h.columnOn))

theorem postEvent {f log : Nat} {b : EvBody} (hf : f < 6) (h : s.FenceStep fenceShown t) : s.FenceStep fenceShown (t.postEvent f log b) := by
  have hlog (x : EvLog) : s.FenceStep fenceShown (t.setLog f log x) := h.setPort
  have hovf : ∀ f < 6, (∀ g ∈ fenceShown, (HPT_EVOVF.OVF f).apart g) ∧ ∀ g ∈ fenceShown, (evsBit (511 + 8 * f)).1.apart g := by decide
  exact ite (ite (hlog _).send (hlog _)) (raiseQ (wr (hlog _) (by simp [HPT_EVOVF.OVF]) (hovf f hf).1) (by omega) (hovf f hf).2)

theorem addPoison {f line n : Nat} {inj : Bool} (h : s.FenceStep l t) : s.FenceStep l (t.addPoison f line n inj) := ite h.setPort h.setPort

theorem reportPoison {k j : Nat} {media : Option Nat} (h : s.FenceStep fenceShown t) : s.FenceStep fenceShown (t.reportPoison k j media) := by
  unfold State.reportPoison
  dsimp only
  split
  next hface =>
    split
    · split
      · exact h.addPoison.postEvent hface
      · exact h.addPoison
    · exact h
  next => exact h

theorem fenceRepairs (h : s.FenceStep fenceShown t) : s.FenceStep fenceShown t.fenceRepairs :=
  h.forEach fun _ _ _ h => ite h.dch.enginePoison.reportPoison h.dch

/-! The other fences -/

theorem fenceTrains (h : s.FenceStep fenceShown t) : s.FenceStep fenceShown t.fenceTrains := by
  unfold State.fenceTrains
  split
  · exact h
  · exact h.dch.forEach fun _ r _ h =>
      h.wr (by simp [DCH_STATUS.EQ_BUSY]) (apart_of_dch (c := r.chan) (.inl ⟨rfl, .inr (by simp [DCH_STATUS.EQ_BUSY])⟩))

theorem fenceCip (h : s.FenceStep fenceShown t) : s.FenceStep fenceShown t.fenceCip := by
  unfold State.fenceCip
  split
  · exact ite (((h.cip.wr (by decide) (by decide)).wr (by decide) (by decide)).wr (by decide) (by decide)) h
  · exact h

theorem mergeStaging (h : s.FenceStep fenceShown t) : s.FenceStep fenceShown t.mergeStaging :=
  ((h.forEach (as := t.clg.staging) fun _ a _ h => (h.clg : s.FenceStep _ (State.mergeBack _ a))).clg).wr (by decide) (by decide)

theorem fenceScan (h : s.FenceStep fenceShown t) : s.FenceStep fenceShown t.fenceScan :=
  wr (wr (res h) (by decide) (by decide)) (by decide) (by decide)

theorem fenceSvy (h : s.FenceStep fenceShown t) : s.FenceStep fenceShown t.fenceSvy :=
  ite h <| ite h.svy <| ite (raiseQ (((h.svy.fwm).wr (by decide) (by decide)).wr (by decide) (by decide)) (by decide) (by decide))
    (((h.svy.fwm).wr (by decide) (by decide)).wr (by decide) (by decide))

/-- The fences behind that of the Job engine. -/
theorem fenceRest {sub : Nat} {merge : Bool} (h : s.FenceStep fenceShown t) : s.FenceStep fenceShown (t.fenceGallery sub |>.fenceRepairs
    |>.fenceTrains |>.fenceCip |>.when merge State.mergeStaging |>.fenceMoves |>.fenceScan |>.fenceSvy) :=
  fenceSvy (fenceScan (fenceMoves (when (fenceCip (fenceTrains (fenceRepairs (fenceGallery h)))) fun _ => mergeStaging)))

end State.FenceStep

/-! ### The faces and the Job engine -/

/-- The fields that the fence of a port writes. -/
def portFenceFlds (p : Nat) : List Fld :=
  [HPT_DISCARD.PARKED p, HPT_DISCARD.WAITING p, HPT_STATUS.FENCED p, HPT_STATUS.OPEN p, BED_STATE.OPEN, RES_STATUS.OPEN, ADM_STATUS.HELD]

/-- The fence of a port reaches its own registers and the bits of its face (R27, R401). -/
theorem State.fencePort_step {l : List Fld} {s t : State} {p : Nat} (hl : ∀ f ∈ portFenceFlds p, ∀ g ∈ l, f.apart g)
    (h : s.FenceStep l t) : s.FenceStep l (t.fencePort p) := by
  simp only [portFenceFlds, List.forall_mem_cons, List.not_mem_nil, false_implies, implies_true, and_true] at hl
  obtain ⟨hparked, hwaiting, hfenced, hopen, hbed, hres, hheld⟩ := hl
  have hcount (t : State) (es : List WEnt) (h : s.FenceStep l t) : s.FenceStep l (t.countDiscard p es) :=
    (h.wr (by simp [HPT_DISCARD.PARKED]) hparked).wr (by simp [HPT_DISCARD.WAITING]) hwaiting
  have hdiscard (pick : WEnt → Bool) : s.FenceStep l (t.discard p pick) := (hcount _ _ h.fwm).setPort
  have hbits (u : State) (h : s.FenceStep l u) : s.FenceStep l (u.wr (HPT_STATUS.FENCED p) 1 |>.wr (HPT_STATUS.OPEN p) 0
      |>.setBit BED_STATE.OPEN p false |>.setBit RES_STATUS.OPEN p false |>.setBit ADM_STATUS.HELD p false) :=
    ((((h.wr (by simp [HPT_STATUS.FENCED]) hfenced).wr (by simp [HPT_STATUS.OPEN]) hopen).wr (by decide) hbed).wr (by decide) hres).wr
      (by decide) hheld
  exact hbits _ (State.FenceStep.setPort (State.FenceStep.fwm (hdiscard _)))

/-- The fence of a port closes its face and no other (R192). -/
theorem State.rd_fencePort_open {p q : Nat} (hp : p < 6) (hq : q < 6) (s : State) :
    (s.fencePort p).rd (HPT_STATUS.OPEN q) = if q = p then 0 else s.rd (HPT_STATUS.OPEN q) := by
  split
  next heq =>
    subst heq
    have hbits : BED_STATE.OPEN.apart (HPT_STATUS.OPEN q) ∧ RES_STATUS.OPEN.apart (HPT_STATUS.OPEN q) ∧
        ADM_STATUS.HELD.apart (HPT_STATUS.OPEN q) := by revert q; decide
    obtain ⟨hbed, hres, hheld⟩ := hbits
    unfold State.fencePort
    extract_lets
    rw [State.rd_setBit_apart _ (by decide) hheld, State.rd_setBit_apart _ (by decide) hres, State.rd_setBit_apart _ (by decide) hbed,
      State.rd_wr_zero _ (by simp [HPT_STATUS.OPEN])]
  next hne =>
    have hapart : ∀ p < 6, ∀ q < 6, q ≠ p → ∀ f ∈ portFenceFlds p, f.apart (HPT_STATUS.OPEN q) := by decide
    have hstep : s.FenceStep [HPT_STATUS.OPEN q] (s.fencePort p) :=
      State.fencePort_step (fun f hf => List.forall_mem_singleton.2 (hapart p hp q hq hne f hf)) (.refl _ s)
    exact hstep.shown _ (List.mem_singleton_self _)

/-- With all ports fenced no face is open (R192). -/
theorem State.rd_fencePorts_open (s : State) {f : Nat} (hf : f < 6) :
    (s.forEach faces fun s p => s.fencePort p).rd (HPT_STATUS.OPEN f) = 0 := by
  simp only [State.forEach, faces, List.foldl_cons, List.foldl_nil]
  rw [State.rd_fencePort_open (by decide) hf, State.rd_fencePort_open (by decide) hf, State.rd_fencePort_open (by decide) hf,
    State.rd_fencePort_open (by decide) hf, State.rd_fencePort_open (by decide) hf, State.rd_fencePort_open (by decide) hf]
  split_ifs <;> omega

/-- The fence of the Job engine writes JOB_STATUS.FENCED, and no other field (R380, R401). -/
theorem State.fenceJobs_step {l : List Fld} {s t : State} (hl : ∀ g ∈ l, JOB_STATUS.FENCED.apart g) (h : s.FenceStep l t) :
    s.FenceStep l t.fenceJobs :=
  State.FenceStep.wr (h.of_parts (keepsBut_job (keepsBut_adm (keepsBut_refl _ t) (by decide)) (by decide)) rfl rfl) (by decide) hl

/-! ### Step 1 as a whole (R190 to R192) -/

/-- The parts of the state that step 1 of a save reaches. -/
def saveStartParts : List Part := [.regs, .chip, .bed, .svy, .slb, .lgr, .adm, .haul, .save, .stk, .res, .dch, .ports, .job, .cip, .gal,
  .seq, .clk, .flt, .clg, .twb, .fwm, .out]

/-- The fields of the supply's sequencer that step 1 leaves as the trigger wrote them (R482, R483). -/
def supplyShown : List Fld := [SEQ_STATUS.PWR_LOSS, SEQ_STATUS.INPUT_GOOD, SEQ_INPUT.LOSSES]

/-- The save has begun, and no fence stands yet: its chip state, its registers, and what it keeps of its trigger. -/
def State.saveBegun (s : State) (trig : Nat) (off : Bool) : State :=
  (((s.setChip .save).saveRegs trig s.noFaceSince).when (!s.noFaceSince) State.saveCounts)
    |>.setSave (s.save.start off s.noFaceSince s.tick (s.rd BED_STATE.VOLATILE)) |>.saveEnergy

theorem State.saveFence_eq (s : State) (trig : Nat) (off : Bool) : s.saveFence trig off =
    (((s.saveBegun trig off).forEach faces fun s p => s.fencePort p).fenceJobs
      |>.fenceGallery (if trig = trigHold then 2 else 1) |>.fenceRepairs |>.fenceTrains |>.fenceCip
      |>.when (s.clg.phase == 1) State.mergeStaging |>.fenceMoves |>.fenceScan |>.fenceSvy) := rfl

theorem State.setChip_keepsBut (s : State) (c : Chip) : keepsBut [.regs, .chip, .bed, .slb, .fwm, .out] s (s.setChip c) := by
  have hclock (b : Prop) [Decidable b] (x : SlbSt) (y : BedSt) (z : FwmSt) :
      keepsBut [.regs, .chip, .bed, .slb, .fwm, .out] s (if b then { s with slb := x, bed := y, fwm := z } else { s with slb := x, bed := y }) := by
    have hslb : keepsBut [.regs, .chip, .bed, .slb, .fwm, .out] s { s with slb := x } := keepsBut_slb (keepsBut_refl _ s) (by decide)
    have hbed : keepsBut [.regs, .chip, .bed, .slb, .fwm, .out] s { s with slb := x, bed := y } := keepsBut_bed hslb (by decide)
    split
    · exact keepsBut_fwm hbed (by decide)
    · exact hbed
  exact keepsBut_when (keepsBut_wr (keepsBut_chip (hclock _ _ _ _) (by decide)) (by decide)) fun _ h => keepsBut_send h (by decide)

/-- A change of the chip state shows in BED_STATE, and the hub base may have to boot again; nothing else of the registers and of the bank
changes (R499, R500). -/
theorem State.setChip_effect (s : State) (c : Chip) : (s.setChip c).chip = c ∧ (s.setChip c).slb.lmap = s.slb.lmap ∧
    (s.setChip c).regs = (s.wr BED_STATE.CHIP c.code).regs := by
  simp only [State.setChip, State.when]
  split_ifs <;> exact ⟨rfl, rfl, rfl⟩

theorem State.FenceStep.alert {l : List Fld} {s t : State} {c : Nat} (hl : ∀ g ∈ l, TWB_ALRT_CAUSE.CAUSE.apart g) (h : s.FenceStep l t) :
    s.FenceStep l (t.alert c) :=
  have hbit (b : Nat) := h.wr (f := TWB_ALRT_CAUSE.CAUSE) (v := b) (by decide) hl
  ite ((hbit _).of_parts (keepsBut_twb (keepsBut_refl _ _) (by decide)) rfl rfl) (hbit _)

theorem State.saveRegs_step (s : State) (trig : Nat) (short : Bool) : s.FenceStep supplyShown (s.saveRegs trig short) :=
  have hwr (t : State) (v : Nat) (f : Fld) (hf : f.lo + f.width ≤ 32) (hl : ∀ g ∈ supplyShown, f.apart g)
      (h : s.FenceStep supplyShown t) := h.wr (v := v) hf hl
  .alert (by decide) <| hwr _ _ HAUL_SAVE_STAT.RETRIG (by decide) (by decide) <| hwr _ _ HAUL_SAVE_STAT.RESUMED (by decide) (by decide) <|
    hwr _ _ HAUL_SAVE_STAT.END (by decide) (by decide) <| hwr _ _ HAUL_SAVE_STAT.STEP (by decide) (by decide) <|
      hwr _ _ HAUL_SAVE_STAT.TRIGGER (by decide) (by decide) (.refl _ s)

theorem State.rd_saveRegs_trigger (s : State) {trig : Nat} (h : trig < 16) (short : Bool) :
    (s.saveRegs trig short).rd HAUL_SAVE_STAT.TRIGGER = trig := by
  have halert (t : State) : (t.alert 2).rd HAUL_SAVE_STAT.TRIGGER = t.rd HAUL_SAVE_STAT.TRIGGER :=
    (State.FenceStep.alert (l := [HAUL_SAVE_STAT.TRIGGER]) (by decide) (.refl _ t)).shown _ (List.mem_singleton_self _)
  rw [State.saveRegs, halert, State.rd_wr_apart _ (by decide) (by decide), State.rd_wr_apart _ (by decide) (by decide),
    State.rd_wr_apart _ (by decide) (by decide), State.rd_wr_apart _ (by decide) (by decide), State.rd_wr_self _ (by decide) h]

theorem State.saveCounts_step (s : State) : s.FenceStep (HAUL_SAVE_STAT.TRIGGER :: supplyShown) s.saveCounts := by
  unfold State.saveCounts
  repeat' refine State.FenceStep.wr ?_ (by decide) (by decide)
  exact .refl _ s

/-- What the beginning of a save leaves for its fences (R190, R205). -/
theorem State.saveBegun_effect (s : State) {trig : Nat} (h : trig < 16) (off : Bool) :
    (s.saveBegun trig off).chip = .save ∧ (s.saveBegun trig off).rd HAUL_SAVE_STAT.TRIGGER = trig ∧
    (s.saveBegun trig off).slb.lmap = s.slb.lmap ∧ (s.saveBegun trig off).save.off = off ∧
    (∀ g ∈ supplyShown, (s.saveBegun trig off).rd g = s.rd g) ∧ keepsBut saveStartParts s (s.saveBegun trig off) := by
  obtain ⟨hchip, hmap, hregs⟩ := s.setChip_effect .save
  have hregd := (s.setChip .save).saveRegs_step trig s.noFaceSince
  have htrig := (s.setChip .save).rd_saveRegs_trigger h s.noFaceSince
  have hcounted : ((s.setChip .save).saveRegs trig s.noFaceSince).FenceStep (HAUL_SAVE_STAT.TRIGGER :: supplyShown)
      (((s.setChip .save).saveRegs trig s.noFaceSince).when (!s.noFaceSince) State.saveCounts) :=
    .when (.refl _ _) fun u hu => hu.trans u.saveCounts_step
  refine ⟨(hcounted.parts .chip (by decide)).trans ((hregd.parts .chip (by decide)).trans hchip),
    (hcounted.shown _ (.head _)).trans htrig, hcounted.lmap.trans (hregd.lmap.trans hmap), rfl, fun g hg => ?_, ?_⟩
  · have hbed : BED_STATE.CHIP.apart g := (by decide : ∀ g ∈ supplyShown, BED_STATE.CHIP.apart g) g hg
    calc (s.saveBegun trig off).rd g = ((s.setChip .save).saveRegs trig s.noFaceSince).rd g := hcounted.shown g (.tail _ hg)
      _ = (s.setChip .save).rd g := hregd.shown g hg
      _ = s.rd g := (State.rd_of_regs hregs g).trans (State.rd_wr_apart s (by decide) hbed _)
  · refine keepsBut_lgr (keepsBut_save (keepsBut_trans (keepsBut_trans (keepsBut_mono (s.setChip_keepsBut .save) (by decide))
      (keepsBut_mono hregd.parts (by decide))) (keepsBut_mono hcounted.parts (by decide))) (by decide)) (by decide)

/-- Step 1 of a save (R190 to R192): the chip is in Save with the trigger shown, the Job engine and the faces are fenced, and the location
map stands. -/
theorem State.saveFence_effect (s : State) {trig : Nat} (h : trig < 16) (off : Bool) :
    (s.saveFence trig off).chip = .save ∧ (s.saveFence trig off).rd HAUL_SAVE_STAT.TRIGGER = trig ∧
    (s.saveFence trig off).rd JOB_STATUS.FENCED = 1 ∧ (∀ f ∈ faces, (s.saveFence trig off).faceOpen f = false) ∧
    (s.saveFence trig off).slb.lmap = s.slb.lmap ∧ (s.saveFence trig off).save.off = off ∧
    (∀ g ∈ supplyShown, (s.saveFence trig off).rd g = s.rd g) ∧ keepsBut saveStartParts s (s.saveFence trig off) := by
  obtain ⟨hchip, htrig, hmap, hoff, hsupply, hparts⟩ := s.saveBegun_effect h off
  have hportsApart : ∀ p ∈ faces, ∀ f ∈ portFenceFlds p, ∀ g ∈ HAUL_SAVE_STAT.TRIGGER :: supplyShown, f.apart g := by decide
  have hports : (s.saveBegun trig off).FenceStep (HAUL_SAVE_STAT.TRIGGER :: supplyShown)
      ((s.saveBegun trig off).forEach faces fun s p => s.fencePort p) :=
    .forEach (.refl _ _) fun t p hp ht => State.fencePort_step (hportsApart p hp) ht
  have hjobs : ((s.saveBegun trig off).forEach faces fun s p => s.fencePort p).FenceStep
      (HAUL_SAVE_STAT.TRIGGER :: supplyShown ++ faces.map HPT_STATUS.OPEN)
      ((s.saveBegun trig off).forEach faces fun s p => s.fencePort p).fenceJobs := State.fenceJobs_step (by decide) (.refl _ _)
  have hfenced : ((s.saveBegun trig off).forEach faces fun s p => s.fencePort p).fenceJobs.rd JOB_STATUS.FENCED = 1 :=
    State.rd_wr_self _ (by decide) (by decide)
  have hrest := (State.FenceStep.refl fenceShown ((s.saveBegun trig off).forEach faces fun s p => s.fencePort p).fenceJobs).fenceRest
    (sub := if trig = trigHold then 2 else 1) (merge := s.clg.phase == 1)
  rw [← State.saveFence_eq] at hrest
  have hopen : ∀ f ∈ faces, HPT_STATUS.OPEN f ∈ fenceShown ∧ f < 6 := by decide
  have hshown : ∀ g ∈ supplyShown, g ∈ fenceShown := by decide
  have hall := keepsBut_trans hports.parts (keepsBut_trans hjobs.parts hrest.parts)
  refine ⟨(hall .chip (by decide)).trans hchip, ?_, (hrest.shown _ (by decide)).trans hfenced, fun f hf => ?_,
    hrest.lmap.trans (hjobs.lmap.trans (hports.lmap.trans hmap)), ?_, fun g hg => ?_, keepsBut_trans hparts (keepsBut_mono hall (by decide))⟩
  · rw [hrest.shown _ (by decide), hjobs.shown _ (by decide), hports.shown _ (by decide), htrig]
  · have hzero := State.rd_fencePorts_open (s.saveBegun trig off) (hopen f hf).2
    rw [State.faceOpen, State.on, hrest.shown _ (hopen f hf).1, hjobs.shown _ (List.mem_append_right _ (List.mem_map_of_mem hf)), hzero]
    rfl
  · have hsave : (s.saveFence trig off).save = (s.saveBegun trig off).save := hall .save (by decide)
    rw [hsave, hoff]
  · rw [hrest.shown _ (hshown g hg), hjobs.shown _ (List.mem_append_left _ (.tail _ hg)), hports.shown _ (.tail _ hg), hsupply g hg]

/-! ### The triggers (R190, R191, R466, R469, R482 to R484) -/

/-- In Open a trigger starts step 1 (R190). -/
theorem State.saveTrigger_of_opened {s : State} (h : s.chip = .opened) (trig : Nat) (off : Bool) :
    s.saveTrigger trig off = s.saveFence trig off := by simp [State.saveTrigger, h]

/-- In a save a later trigger is counted, and changes nothing else (R191). -/
theorem State.saveTrigger_of_save {s : State} (h : s.chip = .save) (trig : Nat) (off : Bool) :
    s.saveTrigger trig off = s.addSat HAUL_SAVE_STAT.RETRIG 1 := by simp [State.saveTrigger, h]

/-- The loss of input power as the sequencer notes it (R482). -/
def State.pwrLost (s : State) : State :=
  (({ s with seq := { s.seq with inGood := 0, pwrLow := true } }).wr SEQ_STATUS.PWR_LOSS 1).wr SEQ_STATUS.INPUT_GOOD 0

theorem State.doPwrLoss_eq (s : State) : s.doPwrLoss = s.pwrLost.saveTrigger trigPwr false := rfl

theorem State.pwrLost_effect (s : State) : s.pwrLost.rd SEQ_STATUS.PWR_LOSS = 1 ∧ s.pwrLost.rd SEQ_STATUS.INPUT_GOOD = 0 ∧
    s.pwrLost.rd HAUL_SAVE_STAT.RETRIG = s.rd HAUL_SAVE_STAT.RETRIG ∧ keepsBut [.regs, .seq] s s.pwrLost ∧
    keepsWords [SEQ_STATUS.PWR_LOSS.addr, HAUL_SAVE_STAT.RETRIG.addr] s s.pwrLost := by
  refine ⟨?_, State.rd_wr_zero _ (by decide), ?_, keepsBut_wr (keepsBut_wr (keepsBut_seq (keepsBut_refl _ s) (by decide)) (by decide)) (by decide),
    keepsWords_wr (keepsWords_wr (keepsWords_of_regs (keepsWords_refl _ s) rfl) (by decide)) (by decide)⟩
  · rw [State.pwrLost, State.rd_wr_apart _ (by decide) (by decide), State.rd_wr_self _ (by decide) (by decide)]
  · rw [State.pwrLost, State.rd_wr_apart _ (by decide) (by decide), State.rd_wr_apart _ (by decide) (by decide)]
    exact State.rd_of_regs rfl _

/-- The loss of an input rail as the sequencer notes it (R483). -/
def State.inputLost (s : State) : State :=
  ((({ s with seq := { s.seq with inGood := 0, lowTold := true } }).wr SEQ_STATUS.INPUT_GOOD 0).addSat SEQ_INPUT.LOSSES 1).raise 656

theorem State.doInputLoss_eq {s : State} (htable : s.benchTable = true) (hon : s.svOn BENCHES.INPUT_EN = true)
    (hlow : s.sv BENCHES.INPUT_COUNT ≤ s.seq.inLow) (htold : s.seq.lowTold = false) :
    s.doInputLoss = s.inputLost.saveTrigger trigRail false := by
  rw [State.doInputLoss, if_pos (by simp [htable, hon, hlow, htold]), State.inputLost]

theorem State.inputLost_effect (s : State) : s.inputLost.rd SEQ_STATUS.INPUT_GOOD = 0 ∧
    s.inputLost.rd SEQ_INPUT.LOSSES = min (s.rd SEQ_INPUT.LOSSES + 1) (2 ^ SEQ_INPUT.LOSSES.width - 1) ∧
    keepsBut [.regs, .seq, .flt] s s.inputLost := by
  refine ⟨?_, ?_, keepsBut_raise (keepsBut_addSat (keepsBut_wr (keepsBut_seq (keepsBut_refl _ s) (by decide)) (by decide)) (by decide))
    (by decide) (by decide)⟩
  · rw [State.inputLost, State.rd_raise_apart _ (by decide) (by decide), State.rd_addSat_apart _ (by decide) (by decide),
      State.rd_wr_zero _ (by decide)]
  · rw [State.inputLost, State.rd_raise_apart _ (by decide) (by decide), State.rd_addSat_self _ (by decide),
      State.rd_wr_apart _ (by decide) (by decide)]
    exact congrArg (fun n => min (n + 1) (2 ^ SEQ_INPUT.LOSSES.width - 1)) (State.rd_of_regs rfl _)

/-- HAUL_SAVE_CMD is reached while the hub base has power (R588). -/
theorem State.woGate_doSaveCmd {s : State} (hlive : s.woLive HAUL_SAVE_CMD.OP.addr = true) (hhub : s.hubOn = true) (off : Bool) :
    s.woGate HAUL_SAVE_CMD.OP.addr (fun s => s.doSaveCmd off) = s.saveTrigger trigCmd off := by
  simp [State.woGate, hlive, State.doSaveCmd, hhub]

/-- SAVE_PARK and SAVE_OFF in Open (R203). -/
theorem State.saveCmd_effect {s : State} (h : s.chip = .opened) (off : Bool) :
    ((s.saveTrigger trigCmd off).chip = .save ∧ (s.saveTrigger trigCmd off).rd HAUL_SAVE_STAT.TRIGGER = trigCmd ∧
      (s.saveTrigger trigCmd off).rd JOB_STATUS.FENCED = 1 ∧ (∀ f ∈ faces, (s.saveTrigger trigCmd off).faceOpen f = false) ∧
      (s.saveTrigger trigCmd off).slb.lmap = s.slb.lmap ∧ (s.saveTrigger trigCmd off).save.off = off) ∧
    keepsBut saveStartParts s (s.saveTrigger trigCmd off) := by
  obtain ⟨hchip, htrig, hjobs, hopen, hmap, hoff, -, hparts⟩ := s.saveFence_effect (trig := trigCmd) (by decide) off
  rw [State.saveTrigger_of_opened h]
  exact ⟨⟨hchip, htrig, hjobs, hopen, hmap, hoff⟩, hparts⟩

/-- Input power that is good again, as the sequencer notes it (R484). -/
def State.inputBack (s : State) : State := (s.wr SEQ_STATUS.INPUT_GOOD 1).raise 657

theorem State.inputBack_effect (s : State) : s.inputBack.rd SEQ_STATUS.INPUT_GOOD = 1 ∧ raisedIn 657 false s s.inputBack ∧
    keepsBut [.regs, .flt] s s.inputBack ∧ keepsWords [SEQ_STATUS.INPUT_GOOD.addr, SEQ_EVS2.STATUS.addr] s s.inputBack := by
  obtain ⟨hflt, hbit⟩ := (s.wr SEQ_STATUS.INPUT_GOOD 1).raisedIn_raise (src := 657) (by decide)
  exact ⟨(State.rd_raise_apart _ (by decide) (by decide)).trans (State.rd_wr_self _ (by decide) (by decide)), ⟨hflt, hbit⟩,
    keepsBut_raise (keepsBut_wr (keepsBut_refl _ s) (by decide)) (by decide) (by decide),
    keepsWords_raise (keepsWords_wr (keepsWords_refl _ s) (by decide)) (by decide)⟩

/-- A power return while an off request is held brings no on request; a save remembers it (R201, R484). -/
theorem State.doInputGood_of_offHeld {s : State} (hscans : s.retScans ≤ s.seq.inGood) (hgood : s.on SEQ_STATUS.INPUT_GOOD = false)
    (hheld : s.on SEQ_STATUS.OFF_HELD = true) : s.doInputGood =
      if s.chip = .save then { s.inputBack with save := { s.save with powerBack := true } } else s.inputBack := by
  have hback : s.inputBack.on SEQ_STATUS.OFF_HELD = true := by
    rw [State.on, State.inputBack, State.rd_raise_apart _ (by decide) (by decide), State.rd_wr_apart _ (by decide) (by decide), ← State.on, hheld]
  have hsave (x : SaveSt) : ({ s.inputBack with save := x } : State).on SEQ_STATUS.OFF_HELD = true := hback
  have hchip : s.inputBack.chip = s.chip := rfl
  rw [State.doInputGood, if_pos ⟨hscans, by simp [hgood]⟩]
  simp only [← State.inputBack.eq_def, hchip]
  split_ifs with hsaving hoff
  · rfl
  · exact absurd hback hoff
  · rfl

/-- The loss of input power in Open (R190, R482). -/
theorem State.pwrLoss_opened {s : State} (h : s.chip = .opened) :
    (s.doPwrLoss.chip = .save ∧ s.doPwrLoss.rd HAUL_SAVE_STAT.TRIGGER = trigPwr ∧ s.doPwrLoss.rd JOB_STATUS.FENCED = 1 ∧
      (∀ f ∈ faces, s.doPwrLoss.faceOpen f = false) ∧ s.doPwrLoss.slb.lmap = s.slb.lmap ∧ s.doPwrLoss.rd SEQ_STATUS.PWR_LOSS = 1 ∧
      s.doPwrLoss.rd SEQ_STATUS.INPUT_GOOD = 0) ∧ keepsBut saveStartParts s s.doPwrLoss := by
  obtain ⟨hloss, hgood, -, hnoted, -⟩ := s.pwrLost_effect
  obtain ⟨hchip, htrig, hjobs, hopen, hmap, -, hsupply, hparts⟩ := s.pwrLost.saveFence_effect (trig := trigPwr) (by decide) false
  have hslb : s.pwrLost.slb = s.slb := hnoted .slb (by decide)
  rw [State.doPwrLoss_eq, State.saveTrigger_of_opened ((hnoted .chip (by decide)).trans h)]
  exact ⟨⟨hchip, htrig, hjobs, hopen, hmap.trans (congrArg _ hslb), (hsupply _ (by decide)).trans hloss,
    (hsupply _ (by decide)).trans hgood⟩, keepsBut_trans (keepsBut_mono hnoted (by decide)) hparts⟩

/-- The loss of input power in a save (R191). -/
theorem State.pwrLoss_saving {s : State} (h : s.chip = .save) :
    s.doPwrLoss.chip = .save ∧ s.doPwrLoss.rd SEQ_STATUS.PWR_LOSS = 1 ∧ s.doPwrLoss.rd SEQ_STATUS.INPUT_GOOD = 0 ∧
    s.doPwrLoss.rd HAUL_SAVE_STAT.RETRIG = min (s.rd HAUL_SAVE_STAT.RETRIG + 1) (2 ^ HAUL_SAVE_STAT.RETRIG.width - 1) ∧
    keepsBut [.regs, .seq] s s.doPwrLoss ∧ keepsWords [SEQ_STATUS.PWR_LOSS.addr, HAUL_SAVE_STAT.RETRIG.addr] s s.doPwrLoss := by
  obtain ⟨hloss, hgood, hretrig, hnoted, hwords⟩ := s.pwrLost_effect
  have hchip : s.pwrLost.chip = .save := (hnoted .chip (by decide)).trans h
  have hparts : keepsBut [.regs, .seq] s (s.pwrLost.addSat HAUL_SAVE_STAT.RETRIG 1) := keepsBut_addSat hnoted (by decide)
  rw [State.doPwrLoss_eq, State.saveTrigger_of_save hchip]
  refine ⟨(hparts .chip (by decide)).trans h, ?_, ?_, ?_, hparts, keepsWords_addSat hwords (by decide)⟩
  · rw [State.rd_addSat_apart _ (by decide) (by decide), hloss]
  · rw [State.rd_addSat_apart _ (by decide) (by decide), hgood]
  · rw [State.rd_addSat_self _ (by decide), hretrig]

/-- The loss of an input rail in Open (R190, R483). -/
theorem State.inputLoss_opened {s : State} (h : s.chip = .opened) (he : s.doInputLoss = s.inputLost.saveTrigger trigRail false) :
    (s.doInputLoss.chip = .save ∧ s.doInputLoss.rd HAUL_SAVE_STAT.TRIGGER = trigRail ∧ s.doInputLoss.rd JOB_STATUS.FENCED = 1 ∧
      (∀ f ∈ faces, s.doInputLoss.faceOpen f = false) ∧ s.doInputLoss.slb.lmap = s.slb.lmap ∧ s.doInputLoss.rd SEQ_STATUS.INPUT_GOOD = 0 ∧
      s.doInputLoss.rd SEQ_INPUT.LOSSES = min (s.rd SEQ_INPUT.LOSSES + 1) (2 ^ SEQ_INPUT.LOSSES.width - 1)) ∧
    keepsBut saveStartParts s s.doInputLoss := by
  obtain ⟨hgood, hlosses, hnoted⟩ := s.inputLost_effect
  obtain ⟨hchip, htrig, hjobs, hopen, hmap, -, hsupply, hparts⟩ := s.inputLost.saveFence_effect (trig := trigRail) (by decide) false
  have hslb : s.inputLost.slb = s.slb := hnoted .slb (by decide)
  rw [he, State.saveTrigger_of_opened ((hnoted .chip (by decide)).trans h)]
  exact ⟨⟨hchip, htrig, hjobs, hopen, hmap.trans (congrArg _ hslb), (hsupply _ (by decide)).trans hgood,
    (hsupply _ (by decide)).trans hlosses⟩, keepsBut_trans (keepsBut_mono hnoted (by decide)) hparts⟩

/-- The wait for PG00 runs out (R466). -/
theorem State.doPg00Wait_told {s : State} (hbset : s.rd SEQ_STRAP.BSET = 3) (hphase : s.seqPhase = phaseBootset) (hok : s.seq.pg00Ok = false)
    (htold : s.seq.pg00Told = false) : s.doPg00Wait = ({ s with seq := { s.seq with pg00Told := true } }).raise 618 := by
  rw [State.doPg00Wait, if_pos ⟨hbset, hphase, by simp [hok], by simp [htold]⟩]

/-- Settles O35: in Open each trigger is step 1 behind what the sequencer notes; in a save a trigger is only counted; and a power return or
the wait for PG00 is noted by itself. -/
theorem saveTriggers : Obligations.SaveTriggers := by
  refine ⟨fun s hoff hopened => ?_, fun s hoff hsave => ?_, fun s hoff hopened htable hon hlow htold => ?_, fun s hoff hlive hhub hopened => ?_,
    fun s hoff hlive hhub hopened => ?_, fun s hoff hscans hgood hheld hsave => ?_, fun s hoff hscans hgood hheld hsave => ?_,
    fun s hoff hbset hphase hok htold => ?_⟩
  · exact State.does_of_run hoff (exec_pwrLoss s) (State.pwrLoss_opened hopened)
  · exact State.does_of_run hoff (exec_pwrLoss s) (State.pwrLoss_saving hsave)
  · exact State.does_of_run hoff (exec_inputRailLoss s) (State.inputLoss_opened hopened (State.doInputLoss_eq htable hon hlow htold))
  · exact State.does_of_eq hoff (exec_savePark s) (State.woGate_doSaveCmd hlive hhub false) (State.saveCmd_effect hopened false)
  · exact State.does_of_eq hoff (exec_saveOff s) (State.woGate_doSaveCmd hlive hhub true) (State.saveCmd_effect hopened true)
  · obtain ⟨hback, hraised, hparts, hwords⟩ := s.inputBack_effect
    have he := (State.doInputGood_of_offHeld hscans hgood hheld).trans (if_pos hsave)
    exact State.does_of_eq hoff (exec_inputPowerGood s) he ⟨hback, hraised, rfl,
      keepsBut_save (keepsBut_mono hparts (by decide)) (by decide), keepsWords_of_regs hwords rfl⟩
  · exact State.does_of_eq hoff (exec_inputPowerGood s) ((State.doInputGood_of_offHeld hscans hgood hheld).trans (if_neg hsave)) s.inputBack_effect
  · exact State.does_of_eq hoff (exec_pg00WaitExpiry s) (State.doPg00Wait_told hbset hphase hok htold) ⟨State.raisedIn_raise _ (by decide), rfl,
      keepsBut_raise (keepsBut_seq (keepsBut_refl _ s) (by decide)) (by decide) (by decide),
      keepsWords_raise (keepsWords_of_regs (keepsWords_refl _ s) rfl) (by decide)⟩

end Sys2Proof.Machine
end

section
/-! PROOFS. The steps of a save (R192 to R203): the record of a carve-out stays with its save, and what it holds is taken once the
carve-out's stripes have their lodes (R195, R231). -/

namespace Sys2Proof.Machine

/-! ### What the hub clock leaves of the saves (R195, R276)

Of all that the hub clock reaches only the release of the saves writes to them, and it marks them only. So each function that it reaches
has one lemma here, in the order of the model. -/

/-- The carve-out of each save, newest first, is that of `cs`. -/
def State.HoldsCarves (cs : List (Option Carve)) (t : State) : Prop := t.saves.map (fun v => v.carve) = cs

namespace State.HoldsCarves

variable {cs : List (Option Carve)} {t u : State}

theorem ite {c : Prop} [Decidable c] (ht : t.HoldsCarves cs) (hu : u.HoldsCarves cs) : (if c then t else u).HoldsCarves cs := by
  split
  · exact ht
  · exact hu

theorem ite_fst {A : Type} {c : Prop} [Decidable c] {x y : State × A} (hx : x.1.HoldsCarves cs) (hy : y.1.HoldsCarves cs) :
    (if c then x else y).1.HoldsCarves cs := by
  split
  · exact hx
  · exact hy

theorem ite_snd {A : Type} {c : Prop} [Decidable c] {x y : A × State} (hx : x.2.HoldsCarves cs) (hy : y.2.HoldsCarves cs) :
    (if c then x else y).2.HoldsCarves cs := by
  split
  · exact hx
  · exact hy

theorem elim {A : Type} {o : Option A} {f : A → State} (h : t.HoldsCarves cs) (hf : ∀ a, (f a).HoldsCarves cs) :
    (o.elim t f).HoldsCarves cs := by
  cases o with
  | none => exact h
  | some a => exact hf a

theorem when {b : Bool} {f : State → State} (h : t.HoldsCarves cs) (hf : ∀ t : State, t.HoldsCarves cs → (f t).HoldsCarves cs) :
    (t.when b f).HoldsCarves cs := ite (hf t h) h

theorem foldl_fst {A B : Type} {as : List A} {x : State × B} {f : State × B → A → State × B} (h : x.1.HoldsCarves cs)
    (hf : ∀ x a, x.1.HoldsCarves cs → (f x a).1.HoldsCarves cs) : (as.foldl f x).1.HoldsCarves cs := by
  induction as generalizing x with
  | nil => exact h
  | cons a as ih => exact ih (hf x a h)

theorem foldl_snd {A B : Type} {as : List A} {x : B × State} {f : B × State → A → B × State} (h : x.2.HoldsCarves cs)
    (hf : ∀ x a, x.2.HoldsCarves cs → (f x a).2.HoldsCarves cs) : (as.foldl f x).2.HoldsCarves cs := by
  induction as generalizing x with
  | nil => exact h
  | cons a as ih => exact ih (hf x a h)

theorem forEach {A : Type} {as : List A} {f : State → A → State} (h : t.HoldsCarves cs)
    (hf : ∀ t a, t.HoldsCarves cs → (f t a).HoldsCarves cs) : (t.forEach as f).HoldsCarves cs := by
  unfold State.forEach
  induction as generalizing t with
  | nil => exact h
  | cons a as ih => exact ih (hf t a h)

/-! Work on a part of the state that holds no save -/

theorem regs {x : SMap Word} (h : t.HoldsCarves cs) : State.HoldsCarves cs { t with regs := x } := h

theorem chip {x : Chip} (h : t.HoldsCarves cs) : State.HoldsCarves cs { t with chip := x } := h

theorem margin {x : Margin} (h : t.HoldsCarves cs) : State.HoldsCarves cs { t with margin := x } := h

theorem bed {x : BedSt} (h : t.HoldsCarves cs) : State.HoldsCarves cs { t with bed := x } := h

theorem svy {x : SvySt} (h : t.HoldsCarves cs) : State.HoldsCarves cs { t with svy := x } := h

theorem slb {x : SlbSt} (h : t.HoldsCarves cs) : State.HoldsCarves cs { t with slb := x } := h

theorem lgr {x : LgrSt} (h : t.HoldsCarves cs) : State.HoldsCarves cs { t with lgr := x } := h

theorem adm {x : AdmSt} (h : t.HoldsCarves cs) : State.HoldsCarves cs { t with adm := x } := h

theorem haul {x : HaulSt} (h : t.HoldsCarves cs) : State.HoldsCarves cs { t with haul := x } := h

theorem save {x : SaveSt} (h : t.HoldsCarves cs) : State.HoldsCarves cs { t with save := x } := h

theorem stk {x : StkSt} (h : t.HoldsCarves cs) : State.HoldsCarves cs { t with stk := x } := h

theorem res {x : ResSt} (h : t.HoldsCarves cs) : State.HoldsCarves cs { t with res := x } := h

theorem dch {x : DchSt} (h : t.HoldsCarves cs) : State.HoldsCarves cs { t with dch := x } := h

theorem ports {x : SMap Port} (h : t.HoldsCarves cs) : State.HoldsCarves cs { t with ports := x } := h

theorem nv {x : SMap NvFace} (h : t.HoldsCarves cs) : State.HoldsCarves cs { t with nv := x } := h

theorem job {x : JobSt} (h : t.HoldsCarves cs) : State.HoldsCarves cs { t with job := x } := h

theorem cip {x : CipSt} (h : t.HoldsCarves cs) : State.HoldsCarves cs { t with cip := x } := h

theorem gal {x : GalSt} (h : t.HoldsCarves cs) : State.HoldsCarves cs { t with gal := x } := h

theorem seq {x : SeqSt} (h : t.HoldsCarves cs) : State.HoldsCarves cs { t with seq := x } := h

theorem clk {x : ClkSt} (h : t.HoldsCarves cs) : State.HoldsCarves cs { t with clk := x } := h

theorem flt {x : FltSt} (h : t.HoldsCarves cs) : State.HoldsCarves cs { t with flt := x } := h

theorem clg {x : ClgSt} (h : t.HoldsCarves cs) : State.HoldsCarves cs { t with clg := x } := h

theorem twb {x : TwbSt} (h : t.HoldsCarves cs) : State.HoldsCarves cs { t with twb := x } := h

theorem fwm {x : FwmSt} (h : t.HoldsCarves cs) : State.HoldsCarves cs { t with fwm := x } := h

theorem pin {x : PinSt} (h : t.HoldsCarves cs) : State.HoldsCarves cs { t with pin := x } := h

theorem out {x : List Out} (h : t.HoldsCarves cs) : State.HoldsCarves cs { t with out := x } := h

theorem free {x : Nat} (h : t.HoldsCarves cs) : State.HoldsCarves cs { t with free := x } := h

/-! Register fields, free values and what is sent -/

theorem setWord {a : Nat} {w : Word} (h : t.HoldsCarves cs) : (t.setWord a w).HoldsCarves cs := h.regs

theorem wr {f : Fld} {v : Nat} (h : t.HoldsCarves cs) : (t.wr f v).HoldsCarves cs := setWord h

theorem wrIf {c : Prop} [Decidable c] {f : Fld} {v : Nat} (h : t.HoldsCarves cs) : (if c then t.wr f v else t).HoldsCarves cs :=
  ite (wr h) h

theorem stkIf {c : Prop} [Decidable c] {x : StkSt} (h : t.HoldsCarves cs) :
    (if c then { t with stk := x } else t).HoldsCarves cs := ite h.stk h

theorem wrB {f : Fld} {b : Bool} (h : t.HoldsCarves cs) : (t.wrB f b).HoldsCarves cs := wr h

theorem addSat {f : Fld} {n : Nat} (h : t.HoldsCarves cs) : (t.addSat f n).HoldsCarves cs := wr h

theorem addWrap {f : Fld} {n : Nat} (h : t.HoldsCarves cs) : (t.addWrap f n).HoldsCarves cs := wr h

theorem setBit {f : Fld} {i : Nat} {b : Bool} (h : t.HoldsCarves cs) : (t.setBit f i b).HoldsCarves cs := wr h

theorem draw {n : Nat} (h : t.HoldsCarves cs) : (t.draw n).2.HoldsCarves cs := h.free

theorem drawKey (h : t.HoldsCarves cs) : t.drawKey.2.HoldsCarves cs := h.free

theorem send {o : Out} (h : t.HoldsCarves cs) : (t.send o).HoldsCarves cs := h.out

theorem setPort {p : Nat} {q : Port} (h : t.HoldsCarves cs) : (t.setPort p q).HoldsCarves cs := h.ports

theorem setNv {f : Nat} {q : NvFace} (h : t.HoldsCarves cs) : (t.setNv f q).HoldsCarves cs := h.nv

theorem raiseQ {src : Nat} {qual : Bool} (h : t.HoldsCarves cs) : (t.raiseQ src qual).HoldsCarves cs := flt (setBit h)

theorem raise {src : Nat} (h : t.HoldsCarves cs) : (t.raise src).HoldsCarves cs := raiseQ h

theorem raiseIf {b : Bool} {src : Nat} (h : t.HoldsCarves cs) : (t.raiseIf b src).HoldsCarves cs := ite (raise h) h

theorem setSlab {i : Nat} {e : SlabE} (h : t.HoldsCarves cs) : (t.setSlab i e).HoldsCarves cs := h.slb

theorem setOwner {i v : Nat} (h : t.HoldsCarves cs) : (t.setOwner i v).HoldsCarves cs := setSlab h

theorem setRstate {i v : Nat} (h : t.HoldsCarves cs) : (t.setRstate i v).HoldsCarves cs := setSlab h

theorem setHeat {i v : Nat} (h : t.HoldsCarves cs) : (t.setHeat i v).HoldsCarves cs := setSlab h

theorem setLock {i b : Nat} {v : Bool} (h : t.HoldsCarves cs) : (t.setLock i b v).HoldsCarves cs := setSlab h

theorem countDirty {i n : Nat} {up : Bool} (h : t.HoldsCarves cs) : (t.countDirty i n up).HoldsCarves cs := wrIf (wr h)

theorem setMask {i : Nat} {m : BitVec 64} (h : t.HoldsCarves cs) : (t.setMask i m).HoldsCarves cs :=
  ite (countDirty (setSlab h)) (countDirty (setSlab h))

theorem setDirty {k : Nat} (h : t.HoldsCarves cs) : (t.setDirty k).HoldsCarves cs := ite h (setMask h)

theorem clearDirty {k : Nat} (h : t.HoldsCarves cs) : (t.clearDirty k).HoldsCarves cs := ite (setMask h) h

theorem setLoc {k : Nat} {w : Word} (h : t.HoldsCarves cs) : (t.setLoc k w).HoldsCarves cs := h.slb

theorem setRewr {k : Nat} (h : t.HoldsCarves cs) : (t.setRewr k).HoldsCarves cs := h.slb

theorem mapHaul {k : Nat} {f : Haul → Haul} (h : t.HoldsCarves cs) : (t.mapHaul k f).HoldsCarves cs := h.slb

theorem dropHaul {k : Nat} (h : t.HoldsCarves cs) : (t.dropHaul k).HoldsCarves cs := h.slb

theorem setRing {r : Nat} {c : Ring} (h : t.HoldsCarves cs) : (t.setRing r c).HoldsCarves cs := h.job

theorem setPoison {k l : Nat} {b : Bool} (h : t.HoldsCarves cs) : (t.setPoison k l b).HoldsCarves cs := h.dch

theorem writeLine {k l : Nat} {d : Line} {mask : BitVec 64} (h : t.HoldsCarves cs) : (t.writeLine k l d mask).HoldsCarves cs :=
  ite (setPoison h.dch) h.dch

theorem poisonInHaul {k : Nat} (h : t.HoldsCarves cs) : (t.poisonInHaul k).HoldsCarves cs := mapHaul h

theorem writePoison {k l : Nat} (h : t.HoldsCarves cs) : (t.writePoison k l).HoldsCarves cs := poisonInHaul (setPoison h.dch)

theorem setSett {k : Nat} {d : SMap Byte} {p : BitVec 1024} (h : t.HoldsCarves cs) : (t.setSett k d p).HoldsCarves cs := h.dch

theorem zeroDram {k : Nat} (h : t.HoldsCarves cs) : (t.zeroDram k).HoldsCarves cs := setSett h

theorem poisonDram {k : Nat} (h : t.HoldsCarves cs) : (t.poisonDram k).HoldsCarves cs := setSett h

/-! What a face is told and keeps (chapters 02, 11) -/

theorem setLog {f log : Nat} {l : EvLog} (h : t.HoldsCarves cs) : (t.setLog f log l).HoldsCarves cs := setPort h

theorem postEvent {f log : Nat} {b : EvBody} (h : t.HoldsCarves cs) : (t.postEvent f log b).HoldsCarves cs :=
  ite (ite (send (setLog h)) (setLog h)) (raise (setBit (setLog h)))

theorem postFaces {p : Nat → Bool} {log : Nat} {b : State → Nat → EvBody} (h : t.HoldsCarves cs) :
    (t.postFaces p log b).HoldsCarves cs := forEach h fun _ _ => postEvent

theorem postVendor {f kind aux : Nat} (h : t.HoldsCarves cs) : (t.postVendor f kind aux).HoldsCarves cs := ite (postEvent h) h

theorem postVendorAll {kind aux : Nat} (h : t.HoldsCarves cs) : (t.postVendorAll kind aux).HoldsCarves cs :=
  forEach h fun _ _ => postVendor

theorem addPoison {f line n : Nat} {inj : Bool} (h : t.HoldsCarves cs) : (t.addPoison f line n inj).HoldsCarves cs :=
  ite (setPort h) (setPort h)

theorem reportLines {f : Nat} {dpas : List Nat} (h : t.HoldsCarves cs) : (t.reportLines f dpas).HoldsCarves cs :=
  forEach h fun _ _ => addPoison

theorem delPoison {f line : Nat} (h : t.HoldsCarves cs) : (t.delPoison f line).HoldsCarves cs := ite (ite (setPort h) h) h

theorem reportPoison {k l : Nat} {media : Option Nat} (h : t.HoldsCarves cs) : (t.reportPoison k l media).HoldsCarves cs := by
  refine ite ?_ h
  split
  · split
    · exact postEvent (addPoison h)
    · exact addPoison h
  · exact h

theorem reportAllLost {f : Nat} {ks : List Nat} (h : t.HoldsCarves cs) : (t.reportAllLost f ks).HoldsCarves cs := reportLines h

theorem reportLost {k : Nat} (h : t.HoldsCarves cs) : (t.reportLost k).HoldsCarves cs := by
  unfold State.reportLost
  exact when h fun _ => reportAllLost

theorem clearPoisonOf {k l : Nat} (h : t.HoldsCarves cs) : (t.clearPoisonOf k l).HoldsCarves cs := by
  refine ite ?_ h
  split
  · exact delPoison h
  · exact h

theorem storeLine {k l : Nat} {d : Line} {mask : BitVec 64} {poison : Bool} (h : t.HoldsCarves cs) :
    (t.storeLine k l d mask poison).HoldsCarves cs :=
  ite (reportPoison (writePoison h)) (writeLine (dch (ite (clearPoisonOf h) h)))

theorem outOfCapacity {f dpa : Nat} (h : t.HoldsCarves cs) : (t.outOfCapacity f dpa).HoldsCarves cs :=
  ite (raise (setPort (wr (wr (addSat h))))) (wr (wr (addSat h)))

/-! DRAM accesses (chapter 10) -/

theorem zeroCounts (h : t.HoldsCarves cs) : t.zeroCounts.HoldsCarves cs := dch (forEach h fun _ _ h => wr (wr (wr h)))

theorem dramRoll (h : t.HoldsCarves cs) : t.dramRoll.HoldsCarves cs := ite (dch (dch (zeroCounts h))) h

theorem setBank {key : Nat} {b : Bank} (h : t.HoldsCarves cs) : (t.setBank key b).HoldsCarves cs := h.dch

theorem chanUp {c : Nat} (h : t.HoldsCarves cs) : (t.chanUp c).HoldsCarves cs := ite (wr h) h

theorem wakeChan {c : Nat} (h : t.HoldsCarves cs) : (t.wakeChan c).HoldsCarves cs := chanUp h.dch

theorem closeRows {c k : Nat} {p : Nat → Bool} (h : t.HoldsCarves cs) : (t.closeRows c k p).HoldsCarves cs := forEach h fun _ _ => setBank

theorem chanSleep {c : Nat} (h : t.HoldsCarves cs) : (t.chanSleep c).HoldsCarves cs := addSat (wr (forEach h fun _ _ => closeRows))

theorem dramSleep (h : t.HoldsCarves cs) : t.dramSleep.HoldsCarves cs := forEach h fun _ _ => chanSleep

theorem columnOn {sett line n : Nat} {r : Nat × Nat} (h : t.HoldsCarves cs) : (t.columnOn sett line n r).HoldsCarves cs :=
  setBank (addWrap (addWrap (wakeChan h)))

theorem column {sett line : Nat} (h : t.HoldsCarves cs) : (t.column sett line).HoldsCarves cs := columnOn h

theorem columnWr {sett line : Nat} (h : t.HoldsCarves cs) : (t.columnWr sett line).HoldsCarves cs := forEach h fun _ _ => columnOn

theorem columnSett {sett : Nat} (h : t.HoldsCarves cs) : (t.columnSett sett).HoldsCarves cs :=
  forEach h fun _ _ h => forEach h fun _ _ => columnOn

theorem clearHard {p : Nat → Bool} (h : t.HoldsCarves cs) : (t.clearHard p).HoldsCarves cs := h.dch

theorem wholeLine {k l : Nat} (h : t.HoldsCarves cs) : (t.wholeLine k l).HoldsCarves cs := clearHard (columnWr h)

theorem wholeSett {k : Nat} (h : t.HoldsCarves cs) : (t.wholeSett k).HoldsCarves cs := clearHard (columnSett h)

theorem engineZeroLine {k l : Nat} (h : t.HoldsCarves cs) : (t.engineZeroLine k l).HoldsCarves cs := writeLine (wholeLine h)

theorem enginePoison {k l : Nat} (h : t.HoldsCarves cs) : (t.enginePoison k l).HoldsCarves cs := writePoison (wholeLine h)

theorem engineZero {k : Nat} (h : t.HoldsCarves cs) : (t.engineZero k).HoldsCarves cs := zeroDram (wholeSett h)

theorem enginePoisonSett {k : Nat} (h : t.HoldsCarves cs) : (t.enginePoisonSett k).HoldsCarves cs := poisonDram (wholeSett h)

theorem engineSett {k : Nat} {d : SMap Byte} {p : BitVec 1024} (h : t.HoldsCarves cs) : (t.engineSett k d p).HoldsCarves cs :=
  setSett (wholeSett h)

theorem dramRecords {c k : Nat} (h : t.HoldsCarves cs) : (t.dramRecords c k).HoldsCarves cs := postFaces h

theorem endMig {m : Mig} (h : t.HoldsCarves cs) : (t.endMig m).HoldsCarves cs := when (when h fun _ => wr) fun _ => wr

theorem dropMig {c k : Nat} (h : t.HoldsCarves cs) : (t.dropMig c k).HoldsCarves cs := by
  unfold State.dropMig
  split
  · exact ite (dch (endMig (wr (setLock h)))) h
  · exact h

theorem rankDead {c k : Nat} (h : t.HoldsCarves cs) : (t.rankDead c k).HoldsCarves cs := dramRecords (raise (wr (dropMig h)))

theorem countCorrected {c k dev : Nat} (h : t.HoldsCarves cs) : (t.countCorrected c k dev).HoldsCarves cs :=
  have hworst (u : State) (c : Prop) [Decidable c] (f g : Fld) (v w : Nat) (hu : u.HoldsCarves cs) :
      (if c then (u.wr f v).wr g w else u).HoldsCarves cs := ite (wr (wr hu)) hu
  raiseIf (wrIf (wrIf (hworst _ _ _ _ _ _ (addWrap (addSat (dch (dramRoll h)))))))

theorem endUeRun {c k : Nat} (h : t.HoldsCarves cs) : (t.endUeRun c k).HoldsCarves cs := h.dch

theorem noteUe {c k sett line case_ : Nat} (h : t.HoldsCarves cs) : (t.noteUe c k sett line case_).HoldsCarves cs :=
  raiseQ (wr (wr (wr h)))

theorem countUncorrected {c k sett line case_ : Nat} (h : t.HoldsCarves cs) : (t.countUncorrected c k sett line case_).HoldsCarves cs :=
  when (when (noteUe (addSat (addSat (dch (dramRoll h))))) fun _ h => raise (wr h)) fun _ => rankDead

theorem dropRepair {k l : Nat} (h : t.HoldsCarves cs) : (t.dropRepair k l).HoldsCarves cs := h.dch

theorem abandonRepair {r : Repair} (h : t.HoldsCarves cs) : (t.abandonRepair r).HoldsCarves cs :=
  ite (reportPoison (enginePoison (dropRepair h))) (dropRepair h)

theorem uncorrectable {k l devs who : Nat} {st : SettState} {fresh : Bool} (h : t.HoldsCarves cs) :
    (t.uncorrectable k l devs st fresh who).1.HoldsCarves cs := by
  unfold State.uncorrectable
  cases st with
  | zero => exact column (engineZeroLine h)
  | clean => exact ite_fst h h.dch
  | dirty =>
    dsimp only
    exact reportPoison (enginePoison h)
  | lost => exact enginePoison h

theorem loseBlks {p : Nat → Bool} (h : t.HoldsCarves cs) : (t.loseBlks p).HoldsCarves cs := h.stk

theorem carveLoss {slab off : Nat} (h : t.HoldsCarves cs) : (t.carveLoss slab off).HoldsCarves cs :=
  ite (when h fun _ => setPort) (ite (loseBlks h) (forEach h fun _ _ => setRing))

theorem badLine {k l devs : Nat} {r : Nat × Nat} {st : SettState} {fresh : Bool} {who : Nat} (h : t.HoldsCarves cs) :
    (t.badLine k l devs r st fresh who).1.HoldsCarves cs :=
  ite_fst (carveLoss (countUncorrected h)) (ite_fst (enginePoison (countUncorrected h)) (uncorrectable (countUncorrected h)))

theorem readOn {r : Nat × Nat} {k l devs : Nat} {st : SettState} {fresh : Bool} {who : Nat} (h : t.HoldsCarves cs) :
    (t.readOn r k l devs st fresh who).1.HoldsCarves cs :=
  ite_fst (ite_fst (endUeRun h) (ite_fst (columnWr (countCorrected h)) (endUeRun h))) (ite_fst h (badLine h))

theorem readAs {k l devs : Nat} {st : SettState} {fresh : Bool} {who : Nat} (h : t.HoldsCarves cs) :
    (t.readAs k l devs st fresh who).1.HoldsCarves cs :=
  ite_fst (readOn (columnOn (column h))) (readOn (column h))

theorem readLine {k l devs who : Nat} (h : t.HoldsCarves cs) : (t.readLine k l devs who).1.HoldsCarves cs := readAs h

theorem engineWrite {k l : Nat} {d : Line} {mask : BitVec 64} {poison : Bool} (h : t.HoldsCarves cs) :
    (t.engineWrite k l d mask poison).HoldsCarves cs :=
  storeLine (columnWr h)

/-! Sending on the Gallery (chapter 15) -/

theorem galSend {typ face sub seq addr : Nat} {lines : List Line} {words : List Nat} {mask : BitVec 64} (h : t.HoldsCarves cs) :
    (t.galSend typ face sub seq addr lines words mask).HoldsCarves cs :=
  send h

theorem galOrdered {m : GalMsg} {typ face sub addr : Nat} {lines : List Line} {words : List Nat} {mask : BitVec 64} (h : t.HoldsCarves cs) :
    (t.galOrdered m typ face sub addr lines words mask).HoldsCarves cs :=
  addWrap (galSend h.gal)

theorem galAck (h : t.HoldsCarves cs) : t.galAck.HoldsCarves cs := galSend h

theorem setRslv {i : Nat} (h : t.HoldsCarves cs) : (t.setRslv i).HoldsCarves cs := ite h (wr (setLock h))

theorem touch {k : Nat} (h : t.HoldsCarves cs) : (t.touch k).HoldsCarves cs := ite (setRslv h) h

/-! Slabs, heat and promotions (chapters 04, 09) -/

theorem raiseHeat {i : Nat} (h : t.HoldsCarves cs) : (t.raiseHeat i).HoldsCarves cs := ite (ite (setHeat (draw h)) (draw h)) h

theorem takeFetch {i why want : Nat} (h : t.HoldsCarves cs) : (t.takeFetch i why want).HoldsCarves cs := wr (addSat (res (setRstate h)))

theorem serveDemand {n : Nat} (h : t.HoldsCarves cs) : (t.serveDemand n).HoldsCarves cs := by
  induction n generalizing t with
  | zero => exact h
  | succ n ih =>
    refine ite ?_ h
    split
    · exact h
    · exact ih (ite (takeFetch h.res) h.res)

theorem promote {port k : Nat} (h : t.HoldsCarves cs) : (t.promote port k).HoldsCarves cs := by
  unfold State.promote
  dsimp only
  split
  · exact ite h (serveDemand (addWrap h.res))
  · exact h.res
  · exact h

/-! Rings and completions (chapter 12) -/

theorem disableRing {r : Nat} (h : t.HoldsCarves cs) : (t.disableRing r).HoldsCarves cs :=
  ite (send (fwm (setPort (setRing h)))) (setRing h)

theorem notifyRing {r : Nat} (h : t.HoldsCarves cs) : (t.notifyRing r).HoldsCarves cs := by
  unfold State.notifyRing
  split
  · exact h
  · exact ite h (ite (send h) (ite (setRing h) (send (setRing h))))

theorem countCompletion {r st : Nat} (h : t.HoldsCarves cs) : (t.countCompletion r st).HoldsCarves cs :=
  when (addWrap (setRing h)) fun _ h => wr (wr (addWrap h))

theorem jobOver {j : Job} {st : Nat} (h : t.HoldsCarves cs) : (t.jobOver j st).HoldsCarves cs :=
  ite (disableRing (when (countCompletion h.job) fun _ => notifyRing)) (ite (disableRing (when (countCompletion h.job)
    fun _ => notifyRing)) (when (countCompletion h.job) fun _ => notifyRing))

theorem jobWrote {r idx : Nat} (h : t.HoldsCarves cs) : (t.jobWrote r idx).HoldsCarves cs := by
  unfold State.jobWrote
  dsimp only
  split
  · exact h.job
  · split
    · exact jobOver h.job
    · exact h.job

theorem freeJobs {l : List Parked} (h : t.HoldsCarves cs) : (t.freeJobs l).HoldsCarves cs := h.job

/-! Lookups, admission and parking (chapters 06, 11, 13) -/

theorem setWrite {p : Nat} {e : WEnt} (h : t.HoldsCarves cs) : (t.setWrite p e).HoldsCarves cs := setPort h

theorem dropWrite {p tag : Nat} (h : t.HoldsCarves cs) : (t.dropWrite p tag).HoldsCarves cs := setPort h

theorem updCredits {p : Nat} (h : t.HoldsCarves cs) : (t.updCredits p).HoldsCarves cs :=
  raiseIf (setBit (ite (setPort h) (setPort (setPort h))))

theorem mailDone {p op dpa : Nat} (h : t.HoldsCarves cs) : (t.mailDone p op dpa).HoldsCarves cs :=
  ite (send (fwm (ite (addPoison h) (delPoison h)))) (ite (addPoison h) (delPoison h))

theorem complete {p tag : Nat} (h : t.HoldsCarves cs) : (t.complete p tag).HoldsCarves cs := by
  unfold State.complete
  split
  · exact h
  · exact ite h (ite (mailDone (ite (dropWrite h) (setWrite h))) (addWrap (ite (ite (dropWrite h) (setWrite h)) (send (send (ite
      (dropWrite h) (setWrite h)))))))

theorem wroteDram {p : Nat} {e : WEnt} (h : t.HoldsCarves cs) : (t.wroteDram p e).HoldsCarves cs :=
  ite (dropWrite (ite (enginePoison h) (engineWrite h))) (setWrite (ite (enginePoison h) (engineWrite h)))

theorem drainWrite {p : Nat} {e : WEnt} (h : t.HoldsCarves cs) : (t.drainWrite p e).HoldsCarves cs := by
  refine ite h (ite (wroteDram h) ?_)
  dsimp only
  split
  · exact ite (wroteDram (elim (readAs h) fun _ => abandonRepair (readAs h))) (setWrite (readAs h))
  · exact wroteDram (readAs h)

theorem settle {k : Nat} (h : t.HoldsCarves cs) : (t.settle k).HoldsCarves cs := forEach h fun _ _ h => forEach h fun _ _ => drainWrite

theorem lookedUp {k : Nat} (h : t.HoldsCarves cs) : (t.lookedUp k).HoldsCarves cs := touch (setDirty (setRewr h))

theorem passWrite {p : Nat} {e : WEnt} (h : t.HoldsCarves cs) : (t.passWrite p e).HoldsCarves cs :=
  ite (addWrap (galOrdered (setWrite (lookedUp (ite (addWrap (addWrap h)) h))))) (complete (setWrite (lookedUp (ite (addWrap
    (addWrap h)) h))))

theorem forwardWrite {p : Nat} {e : WEnt} (h : t.HoldsCarves cs) : (t.forwardWrite p e).HoldsCarves cs :=
  addWrap (galSend (setWrite h.gal))

theorem goWrite {p : Nat} {e : WEnt} (h : t.HoldsCarves cs) : (t.goWrite p e).HoldsCarves cs :=
  ite (setWrite h) (ite (forwardWrite h) (passWrite h))

theorem jobRelease {j : Parked} (h : t.HoldsCarves cs) : (t.jobRelease j).HoldsCarves cs :=
  jobWrote (ite (addWrap (galOrdered (job (engineWrite (lookedUp (settle h)))))) (engineWrite (lookedUp (settle h))))

theorem releaseParked {k : Nat} (h : t.HoldsCarves cs) : (t.releaseParked k).HoldsCarves cs :=
  forEach (adm (forEach h fun _ _ h => forEach h fun _ _ => goWrite)) fun _ _ => jobRelease

theorem makeDirty {k : Nat} (h : t.HoldsCarves cs) : (t.makeDirty k).HoldsCarves cs := ite h (releaseParked (setDirty h))

theorem parkWrite {p : Nat} {e : WEnt} (h : t.HoldsCarves cs) : (t.parkWrite p e).HoldsCarves cs := setWrite h

theorem lookupRaw {p tag : Nat} {first : Bool} (h : t.HoldsCarves cs) : (t.lookupRaw p tag first).HoldsCarves cs := by
  unfold State.lookupRaw
  split
  · exact h
  · split
    · exact dropWrite (complete (outOfCapacity h))
    · extract_lets e u
      have hu : u.HoldsCarves cs := ite (raiseHeat h) h
      exact ite (promote (setWrite hu)) (ite (setWrite hu) (ite (setWrite hu) (ite (parkWrite hu) (ite (goWrite hu)
        (ite (ite (releaseParked (goWrite hu)) (goWrite hu)) (parkWrite hu))))))

theorem countDiscard {p : Nat} {es : List WEnt} (h : t.HoldsCarves cs) : (t.countDiscard p es).HoldsCarves cs := addSat (addSat h)

theorem lookupWrite {p tag : Nat} {first : Bool} (h : t.HoldsCarves cs) : (t.lookupWrite p tag first).HoldsCarves cs :=
  ite (dropWrite (countDiscard (lookupRaw h))) (lookupRaw h)

theorem enterQueue {p : Nat} (h : t.HoldsCarves cs) : (t.enterQueue p).HoldsCarves cs := forEach h fun _ _ h => ite (lookupWrite h) h

theorem lineValue {p k l devs : Nat} (h : t.HoldsCarves cs) : (t.lineValue p k l devs).1.HoldsCarves cs := ite_fst h (readLine h)

theorem answer {p tag : Nat} {r : LineRes} (h : t.HoldsCarves cs) : (t.answer p tag r).HoldsCarves cs := by
  refine send ?_
  split
  · exact send (addWrap h)
  · exact send (addWrap h)
  · exact send (addWrap h)

theorem waitRead {p : Nat} {r : REnt} {w : Wait} (h : t.HoldsCarves cs) : (t.waitRead p r w).HoldsCarves cs := setPort h

theorem tryRead {p devs : Nat} {r : REnt} {first : Bool} (h : t.HoldsCarves cs) : (t.tryRead p r devs first).HoldsCarves cs := by
  unfold State.tryRead
  split
  next => exact answer (outOfCapacity h)
  next k l _ =>
    have hheat : (if first then t.raiseHeat (settSlab k) else t).HoldsCarves cs := ite (raiseHeat h) h
    dsimp only
    generalize (if first then t.raiseHeat (settSlab k) else t) = u at hheat ⊢
    refine ite (promote (waitRead hheat)) ?_
    split
    · exact waitRead hheat
    · refine ite (waitRead hheat) ?_
      split
      · exact waitRead (lineValue hheat)
      · exact answer (lineValue hheat)

theorem retryRead {p : Nat} {r : REnt} (h : t.HoldsCarves cs) : (t.retryRead p r).HoldsCarves cs := ite h (tryRead (setPort h))

theorem retryPort {p : Nat} (h : t.HoldsCarves cs) : (t.retryPort p).HoldsCarves cs := by
  refine updCredits (forEach (enterQueue (forEach h fun _ _ h => ?_)) fun _ _ => retryRead)
  split
  · exact retryRead h
  · exact lookupWrite h

theorem retryPorts (h : t.HoldsCarves cs) : t.retryPorts.HoldsCarves cs := forEach h fun _ _ => retryPort

theorem discard {p : Nat} {pick : WEnt → Bool} (h : t.HoldsCarves cs) : (t.discard p pick).HoldsCarves cs := setPort (countDiscard h.fwm)

theorem drainPort {p : Nat} (h : t.HoldsCarves cs) : (t.drainPort p).HoldsCarves cs := forEach h fun _ _ => drainWrite

theorem lateLookups {p : Nat} (h : t.HoldsCarves cs) : (t.lateLookups p).HoldsCarves cs := forEach (setPort h) fun _ _ => lookupWrite

theorem dropLink {p : Nat} (h : t.HoldsCarves cs) : (t.dropLink p).HoldsCarves cs :=
  updCredits (setPort (drainPort (lateLookups (discard h))))

/-! What feeds the Core log (chapter 19) -/

theorem setAgg {a : Agg} (h : t.HoldsCarves cs) : (t.setAgg a).HoldsCarves cs := h.clg

theorem sample {f : Nat} {v : Int} (h : t.HoldsCarves cs) : (t.sample f v).HoldsCarves cs := ite (setAgg (ite_snd h (draw h))) h

theorem extreme {i : Nat} {v : Int} (h : t.HoldsCarves cs) : (t.extreme i v).HoldsCarves cs := by
  refine ite ?_ h
  dsimp only
  split
  · exact setAgg h
  · exact h

theorem tally {src tick rank : Nat} (h : t.HoldsCarves cs) : (t.tally src tick rank).HoldsCarves cs := by
  refine ite ?_ h
  dsimp only
  split
  · exact setAgg h
  · exact h

theorem formRec {typ family : Nat} {ws : List Nat} (h : t.HoldsCarves cs) : (t.formRec typ family ws).HoldsCarves cs :=
  ite h.clg (ite h.clg (addSat h.clg))

theorem alert {c : Nat} (h : t.HoldsCarves cs) : (t.alert c).HoldsCarves cs := ite (twb (setBit h)) (setBit h)

theorem mergeBack {a : Agg} (h : t.HoldsCarves cs) : (t.mergeBack a).HoldsCarves cs := setAgg h

theorem mergeStaging (h : t.HoldsCarves cs) : t.mergeStaging.HoldsCarves cs := wr (clg (forEach h fun _ _ => mergeBack))

/-! The chip state and ERR_N (chapters 17, 18) -/

theorem updErr (h : t.HoldsCarves cs) : t.updErr.HoldsCarves cs := when (wrB (wrB (wrB h.pin))) fun _ => alert

theorem setChip {c : Chip} (h : t.HoldsCarves cs) : (t.setChip c).HoldsCarves cs :=
  have hbed (x : SlbSt) (y : BedSt) : State.HoldsCarves cs { t with slb := x, bed := y } := h
  when (wr (chip (ite (hbed _ _).fwm (hbed _ _)))) fun _ => send

/-! Stepping down (chapter 16) -/

theorem nextDown {b : Nat} {first : Bool} (h : t.HoldsCarves cs) : (t.nextDown b first).HoldsCarves cs := h.seq

theorem beginDown {latching noWait : Bool} (h : t.HoldsCarves cs) : (t.beginDown latching noWait).HoldsCarves cs := by
  unfold State.beginDown
  dsimp only
  cases t.benchInProgress with
  | none => exact nextDown (seq (wr (wr (wr (wr h)))))
  | some b => exact seq (wr (wr (wr (wr h))))

/-! The fence of a save (chapter 07) -/

theorem fencePort {p : Nat} (h : t.HoldsCarves cs) : (t.fencePort p).HoldsCarves cs :=
  setBit (setBit (setBit (wr (wr (setPort (fwm (discard h)))))))

theorem fenceJobs (h : t.HoldsCarves cs) : t.fenceJobs.HoldsCarves cs := wr h.adm.job

theorem fenceGallery {sub : Nat} (h : t.HoldsCarves cs) : (t.fenceGallery sub).HoldsCarves cs := gal (gal (ite (galSend h) h))

theorem fenceRepairs (h : t.HoldsCarves cs) : t.fenceRepairs.HoldsCarves cs := forEach h fun _ _ => abandonRepair

theorem fenceTrains (h : t.HoldsCarves cs) : t.fenceTrains.HoldsCarves cs := by
  unfold State.fenceTrains
  split
  · exact h
  · exact forEach h.dch fun _ _ => wr

theorem fenceCip (h : t.HoldsCarves cs) : t.fenceCip.HoldsCarves cs := by
  unfold State.fenceCip
  split
  · exact ite (wrB (wr (wr h.cip))) h
  · exact h

theorem saveRegs {trig : Nat} {short : Bool} (h : t.HoldsCarves cs) : (t.saveRegs trig short).HoldsCarves cs :=
  alert (wr (wr (wr (wr (wr h)))))

theorem saveCounts (h : t.HoldsCarves cs) : t.saveCounts.HoldsCarves cs := wr (wr (wr (wr (wr (wr (wr (wr (wr h))))))))

theorem setSave {v : SaveSt} (h : t.HoldsCarves cs) : (t.setSave v).HoldsCarves cs := h.save

theorem saveEnergy (h : t.HoldsCarves cs) : t.saveEnergy.HoldsCarves cs := h.lgr

theorem fenceMoves (h : t.HoldsCarves cs) : t.fenceMoves.HoldsCarves cs := h.dch.haul.stk

theorem fenceScan (h : t.HoldsCarves cs) : t.fenceScan.HoldsCarves cs := wr (wr h.res)

theorem fenceSvy (h : t.HoldsCarves cs) : t.fenceSvy.HoldsCarves cs := ite h (ite h.svy (raiseIf (wr (wr h.svy.fwm))))

theorem saveFence {trig : Nat} {off : Bool} (h : t.HoldsCarves cs) : (t.saveFence trig off).HoldsCarves cs :=
  fenceSvy (fenceScan (fenceMoves (when (fenceCip (fenceTrains (fenceRepairs (fenceGallery (fenceJobs (forEach (saveEnergy (setSave (when
    (saveRegs (setChip h)) fun _ => saveCounts))) fun _ _ => fencePort)))))) fun _ => mergeStaging)))

theorem stepDownFor {abort : Bool} (h : t.HoldsCarves cs) : (t.stepDownFor abort).HoldsCarves cs :=
  ite (beginDown (raiseIf h)) (ite (beginDown h) h)

theorem saveTrigger {trig : Nat} {off : Bool} (h : t.HoldsCarves cs) : (t.saveTrigger trig off).HoldsCarves cs := by
  unfold State.saveTrigger
  split
  · exact addSat h
  · exact saveFence h
  · exact saveFence h
  · exact saveFence h
  · exact ite (stepDownFor (wr h)) h
  · exact ite (stepDownFor h) h
  · exact ite (stepDownFor (wr h)) h

theorem inHold (h : t.HoldsCarves cs) : t.inHold.HoldsCarves cs := updErr (alert (wr (dramSleep (setChip h))))

theorem enterHold (h : t.HoldsCarves cs) : t.enterHold.HoldsCarves cs := by
  unfold State.enterHold
  split
  · exact updErr (wr (saveFence h))
  · exact updErr (wr (saveFence h))
  · exact updErr (wr (addSat (ite h.flt h)))
  · exact inHold h
  · exact inHold h
  · exact updErr (wr h)
  · exact h
  · exact h

/-! ADM and the ledger (chapters 05, 06) -/

theorem enterSable (h : t.HoldsCarves cs) : t.enterSable.HoldsCarves cs :=
  alert (postFaces (forEach h fun _ _ h => postVendor (setBit h)))

theorem leaveSable (h : t.HoldsCarves cs) : t.leaveSable.HoldsCarves cs := alert (postFaces h)

theorem enterPearl (h : t.HoldsCarves cs) : t.enterPearl.HoldsCarves cs := forEach h fun _ _ h => postVendor (setBit h)

theorem setMargin {m : Margin} (h : t.HoldsCarves cs) : (t.setMargin m).HoldsCarves cs := wr (wr (wr h.margin))

theorem changeMargin {m : Margin} (h : t.HoldsCarves cs) : (t.changeMargin m).HoldsCarves cs :=
  ite h (when (when (when (raiseQ (setMargin h)) fun _ => enterSable) fun _ => leaveSable) fun _ => enterPearl)

theorem reportMargin {f : Nat} (h : t.HoldsCarves cs) : (t.reportMargin f).HoldsCarves cs := adm (postEvent h)

theorem reportChange {f : Nat} (h : t.HoldsCarves cs) : (t.reportChange f).HoldsCarves cs := ite (ite (reportMargin h) h.adm) h

theorem reportMargins (h : t.HoldsCarves cs) : t.reportMargins.HoldsCarves cs := ite h (forEach h.adm fun _ _ => reportChange)

theorem updOverhang (h : t.HoldsCarves cs) : t.updOverhang.HoldsCarves cs := raiseIf (wrB h)

theorem packRecord {k : Nat} (h : t.HoldsCarves cs) : (t.packRecord k).HoldsCarves cs := formRec h

theorem setPack {k st : Nat} (h : t.HoldsCarves cs) : (t.setPack k st).HoldsCarves cs := ite h (packRecord (alert (raise (wr h))))

theorem updRemoval {k : Nat} (h : t.HoldsCarves cs) : (t.updRemoval k).HoldsCarves cs := ite (setPack h) h

theorem admClock (h : t.HoldsCarves cs) : t.admClock.HoldsCarves cs :=
  extreme (reportMargins (forEach (updOverhang (changeMargin h)) fun _ _ => updRemoval))

/-! Stripes, spare blocks and failures of NAND (chapter 08) -/

theorem setLode {g n : Nat} {l : Lode} (h : t.HoldsCarves cs) : (t.setLode g n l).HoldsCarves cs := h.stk

theorem setBlk {n tg b : Nat} {e : Blk} (h : t.HoldsCarves cs) : (t.setBlk n tg b e).HoldsCarves cs := h.stk

theorem setBlkSt {n tg b st cause : Nat} (h : t.HoldsCarves cs) : (t.setBlkSt n tg b st cause).HoldsCarves cs := setBlk h

theorem markBad {n tg b cause : Nat} (h : t.HoldsCarves cs) : (t.markBad n tg b cause).HoldsCarves cs := setBlkSt h

theorem unsettle {n tg b : Nat} (h : t.HoldsCarves cs) : (t.unsettle n tg b).HoldsCarves cs := ite h (setBlkSt h)

theorem abortHaul {k : Nat} (h : t.HoldsCarves cs) : (t.abortHaul k).HoldsCarves cs := haul (dropHaul (addWrap h))

theorem dropStripe {st : Stripe} (h : t.HoldsCarves cs) : (t.dropStripe st).HoldsCarves cs :=
  ite (forEach h.haul fun _ _ h => ite (abortHaul h) h) h.haul

theorem sealGroup {g : Nat} (h : t.HoldsCarves cs) : (t.sealGroup g).HoldsCarves cs := h.stk

theorem closeGroup {g : Nat} (h : t.HoldsCarves cs) : (t.closeGroup g).HoldsCarves cs := forEach h.stk fun _ _ => dropStripe

theorem degrade {g : Nat} (h : t.HoldsCarves cs) : (t.degrade g).HoldsCarves cs := ite h (closeGroup (sealGroup (raise (wr (wr h.stk)))))

theorem breakOne {g : Nat} (h : t.HoldsCarves cs) : (t.breakOne g).HoldsCarves cs := h.stk

theorem breakUp {g n : Nat} (h : t.HoldsCarves cs) : (t.breakUp g n).HoldsCarves cs := by
  induction n generalizing t with
  | zero => exact h
  | succ n ih => exact ite (ih (breakOne h)) h

theorem keepSpares {g : Nat} (h : t.HoldsCarves cs) : (t.keepSpares g).HoldsCarves cs := breakUp h

theorem chanLost {n : Nat} (h : t.HoldsCarves cs) : (t.chanLost n).HoldsCarves cs := degrade (raiseQ (wr h))

theorem retireDie {n tg : Nat} (h : t.HoldsCarves cs) : (t.retireDie n tg).HoldsCarves cs :=
  ite h (ite (chanLost (sealGroup (forEach (setBit (setBit h)) fun _ _ => markBad)))
    (keepSpares (raise (wrIf (sealGroup (forEach (setBit (setBit h)) fun _ _ => markBad))))))

theorem checkDie {n tg : Nat} (h : t.HoldsCarves cs) : (t.checkDie n tg).HoldsCarves cs := ite (retireDie h) h

theorem dieAnswers {n tg : Nat} (h : t.HoldsCarves cs) : (t.dieAnswers n tg).HoldsCarves cs := h.stk

theorem programFailed {g num n : Nat} {sump : Bool} (h : t.HoldsCarves cs) : (t.programFailed g num sump n).HoldsCarves cs :=
  checkDie (raise (stkIf (stkIf (setLode (addSat (markBad h))))))

/-! Reads of NAND pages (chapter 08) -/

theorem putAcc {n key : Nat} {a : List Int} (h : t.HoldsCarves cs) : (t.putAcc n key a).HoldsCarves cs := h.stk

theorem trackRead {n tg b page : Nat} {dir : List Int} (h : t.HoldsCarves cs) : (t.trackRead n tg b page dir).HoldsCarves cs :=
  ite (setBlk (putAcc h)) h

theorem climb {n tg b page : Nat} {rung : Option Nat} (h : t.HoldsCarves cs) : (t.climb n tg b page rung).HoldsCarves cs :=
  addSat (addSat (setBlk h))

theorem countCw {n tg b : Nat} {cw : List Nat} (h : t.HoldsCarves cs) : (t.countCw n tg b cw).HoldsCarves cs :=
  forEach (when (addWrap (addWrap (setBlk h))) fun _ => wr) fun _ _ => sample

theorem flagRefresh {n tg b : Nat} {cw : List Nat} (h : t.HoldsCarves cs) : (t.flagRefresh n tg b cw).HoldsCarves cs := ite (setLode h) h

theorem sense {n tg b page : Nat} {p : PageTry} (h : t.HoldsCarves cs) : (t.sense n tg b page p).HoldsCarves cs :=
  flagRefresh (trackRead (ite (dieAnswers (setBlk h)) (climb (countCw (dieAnswers (setBlk h))))))

theorem rebuildPage {inp : NandRead} (h : t.HoldsCarves cs) : (t.rebuildPage inp).2.HoldsCarves cs :=
  ite_snd (forEach h fun _ _ => sense) h

theorem patrolEnds {n tg b : Nat} (h : t.HoldsCarves cs) : (t.patrolEnds n tg b).HoldsCarves cs := h.stk

theorem readPage {inp : NandRead} (h : t.HoldsCarves cs) : (t.readPage inp).2.HoldsCarves cs :=
  ite_snd h (ite_snd (when h fun _ => sense) (ite_snd (when h fun _ => sense) (ite_snd (addSat (rebuildPage (when h fun _ => sense)))
    (raiseQ (addSat (rebuildPage (when h fun _ => sense)))))))

theorem pageRead {inp : NandRead} {patrol : Bool} (h : t.HoldsCarves cs) : (t.pageRead inp patrol).HoldsCarves cs :=
  readPage (when h fun _ => patrolEnds)

theorem setDie {n tg : Nat} {d : DieErase} (h : t.HoldsCarves cs) : (t.setDie n tg d).HoldsCarves cs := h.stk

theorem suspend {n tg : Nat} (h : t.HoldsCarves cs) : (t.suspend n tg).HoldsCarves cs :=
  forEach (addWrap (wr (setDie h))) fun _ _ => pageRead

/-! Key slots and lane pairs (chapter 14) -/

theorem wr48 {lo hi : Fld} {v : Nat} (h : t.HoldsCarves cs) : (t.wr48 lo hi v).HoldsCarves cs := wr (wr h)

theorem countPage {k pair : Nat} (h : t.HoldsCarves cs) : (t.countPage k pair).HoldsCarves cs :=
  when (when (wr48 h) fun _ h => raise (wr h)) fun _ => wr

theorem updPairs (h : t.HoldsCarves cs) : t.updPairs.HoldsCarves cs := when (wrB (wr h)) fun _ => enterHold

theorem setPair {p st : Nat} (h : t.HoldsCarves cs) : (t.setPair p st).HoldsCarves cs := updPairs (setBit (wr h))

theorem testPair {p : Nat} (h : t.HoldsCarves cs) : (t.testPair p).HoldsCarves cs := ite h (setPair h)

theorem wakePair {p : Nat} (h : t.HoldsCarves cs) : (t.wakePair p).HoldsCarves cs := ite (wr h) h

theorem nextPair (h : t.HoldsCarves cs) : t.nextPair.2.HoldsCarves cs := cip (wakePair h)

theorem encPages {slot n : Nat} (h : t.HoldsCarves cs) : (t.encPages slot n).2.HoldsCarves cs :=
  foldl_snd h fun _ _ h => countPage (nextPair h)

theorem setSlot {k st face : Nat} (h : t.HoldsCarves cs) : (t.setSlot k st face).HoldsCarves cs := wr (wr h)

theorem putKey {k : Nat} {key : BitVec 256} (h : t.HoldsCarves cs) : (t.putKey k key).HoldsCarves cs := h.cip

theorem updStore (h : t.HoldsCarves cs) : t.updStore.HoldsCarves cs := wrB h

/-! Stripes and dies (chapters 07, 08) -/

theorem guardHauls (h : t.HoldsCarves cs) : t.guardHauls.HoldsCarves cs := forEach h fun _ _ => abortHaul

theorem stripeAnswers {st : Stripe} (h : t.HoldsCarves cs) : (t.stripeAnswers st).HoldsCarves cs := forEach h fun _ _ => dieAnswers

theorem updMoves (h : t.HoldsCarves cs) : t.updMoves.HoldsCarves cs := h.stk

theorem doStripeFail {id chan : Nat} (h : t.HoldsCarves cs) : (t.doStripeFail id chan).HoldsCarves cs := by
  unfold State.doStripeFail
  split
  · exact h
  · exact ite (updMoves (forEach (programFailed (stripeAnswers h)) fun _ _ => dropStripe)) h

/-! Islands, faces, and the release of saves (chapters 07, 09, 11) -/

theorem setIsl {n st : Nat} (h : t.HoldsCarves cs) : (t.setIsl n st).HoldsCarves cs :=
  have hwoken := when (b := decide (st = islOn ∧ t.isl n ≠ islOn)) (wr (f := CLK_ISL.STATE n) (v := st) h) fun _ => addSat
  ite (wr hwoken) (wrIf hwoken)

theorem force {n : Nat} {on : Bool} (h : t.HoldsCarves cs) : (t.force n on).HoldsCarves cs := wr (setIsl h.clk)

theorem portOff {p : Nat} (h : t.HoldsCarves cs) : (t.portOff p).HoldsCarves cs := wr (wr (wr (wr (force h))))

theorem galOff {l : Nat} (h : t.HoldsCarves cs) : (t.galOff l).HoldsCarves cs := setBit (wr (force h))

theorem portsDown (h : t.HoldsCarves cs) : t.portsDown.HoldsCarves cs := forEach (forEach h fun _ _ => portOff) fun _ _ => galOff

theorem coreIslands {on : Bool} (h : t.HoldsCarves cs) : (t.coreIslands on).HoldsCarves cs := forEach h fun _ _ => force

theorem beginAnchor {phase : Nat} (h : t.HoldsCarves cs) : (t.beginAnchor phase).HoldsCarves cs := save (ite_snd (encPages h) h)

theorem clearJobl {f : Nat} (h : t.HoldsCarves cs) : (t.clearJobl f).HoldsCarves cs := forEach h fun _ _ => setLock

theorem postMemRec {f : Nat} (h : t.HoldsCarves cs) : (t.postMemRec f).HoldsCarves cs := ite (postVendor (postEvent h.res)) h

theorem volatileOpen {f : Nat} (h : t.HoldsCarves cs) : (t.volatileOpen f).HoldsCarves cs := when h fun _ h => postVendor (setBit h)

theorem openFace {f : Nat} (h : t.HoldsCarves cs) : (t.openFace f).HoldsCarves cs :=
  ite h (ite (setPort h) (when (setBit (setBit (wr (wr (setPort (clearJobl (volatileOpen (postMemRec h)))))))) fun _ => wr))

theorem closeFace {f : Nat} (h : t.HoldsCarves cs) : (t.closeFace f).HoldsCarves cs := setBit (setBit (wr h))

theorem openSet {m : Nat} (h : t.HoldsCarves cs) : (t.openSet m).HoldsCarves cs := forEach h fun _ _ h => when h fun _ => openFace

theorem openVia {m : Nat} (h : t.HoldsCarves cs) : (t.openVia m).HoldsCarves cs := ite (openSet h) (save (res (ite h (beginAnchor h))))

theorem bootRecord (h : t.HoldsCarves cs) : t.bootRecord.HoldsCarves cs := ite h (clg (formRec h))

theorem metaReleased (h : t.HoldsCarves cs) : t.metaReleased.HoldsCarves cs := by
  unfold State.metaReleased
  split
  · exact h.cip
  · exact h.cip
  · exact h

/-- The release marks the saves, and leaves what their records hold (R276). -/
theorem releaseSaves (h : t.HoldsCarves cs) : t.releaseSaves.HoldsCarves cs :=
  when (List.map_map.trans h) fun _ => metaReleased

theorem checkHome (h : t.HoldsCarves cs) : t.checkHome.HoldsCarves cs :=
  ite (openVia (releaseSaves (bootRecord (raiseIf (wr (wr (wr (wr (setChip h.res))))))))) h

/-! A save ends in Hold (chapter 07) -/

theorem parkIslands (h : t.HoldsCarves cs) : t.parkIslands.HoldsCarves cs := portsDown (coreIslands h)

/-! Fetches and repairs from NAND (chapter 09) -/

theorem askTwin {k line : Nat} (h : t.HoldsCarves cs) : (t.askTwin k line).HoldsCarves cs := ite (galSend h.gal) (galSend h.gal)

theorem countShutdown {f : Nat} (h : t.HoldsCarves cs) : (t.countShutdown f).HoldsCarves cs := ite h (res (setNv h))

theorem reportFace {r36 : Bool} {f : Nat} (h : t.HoldsCarves cs) : (t.reportFace r36 f).HoldsCarves cs :=
  when (setPort (when h fun _ => reportAllLost)) fun _ => countShutdown

theorem rebuildEnd (h : t.HoldsCarves cs) : t.rebuildEnd.HoldsCarves cs := wr (res (forEach h fun _ _ => reportFace))

theorem fetchDone {slab k : Nat} (h : t.HoldsCarves cs) : (t.fetchDone slab k).HoldsCarves cs := addSat h.res

theorem noteHolds (h : t.HoldsCarves cs) : t.noteHolds.HoldsCarves cs := forEach h fun _ _ h => forEach h fun _ _ => extreme

theorem fetchEnd {slab : Nat} (h : t.HoldsCarves cs) : (t.fetchEnd slab).HoldsCarves cs :=
  checkHome (retryPorts (noteHolds (ite (serveDemand (wr (setRstate h.res))) h)))

theorem fetchLost {k : Nat} (h : t.HoldsCarves cs) : (t.fetchLost k).HoldsCarves cs :=
  have hlost := reportLost (k := k) (addSat (f := RES_FLOST.SETTS) (n := 1) (enginePoisonSett (k := k) (setLoc (k := k) (w := locLost) h)))
  ite (ite (postMemRec (countShutdown (setPort hlost))) (countShutdown (setPort hlost))) (when hlost fun _ => setPort)

/-! The latched shutdown (chapter 16) -/

theorem pinAssert {r : Nat} {b : Bool} (h : t.HoldsCarves cs) : (t.pinAssert r b).HoldsCarves cs := setBit h

theorem pulsePin {r : Nat} (h : t.HoldsCarves cs) : (t.pulsePin r).HoldsCarves cs := ite (pinAssert h.seq) h

theorem chipRstPins (h : t.HoldsCarves cs) : t.chipRstPins.HoldsCarves cs := forEach h fun _ _ h => pinAssert h.seq

/-! Erases and page reads (chapter 08) -/

theorem freeDies {l : List (Nat × Nat × Nat)} (h : t.HoldsCarves cs) : (t.freeDies l).HoldsCarves cs :=
  forEach h fun _ _ h => forEach (setDie h) fun _ _ => pageRead

/-! Migration, sleep and retirement (chapter 10) -/

theorem askPage {r : Repair} (h : t.HoldsCarves cs) : (t.askPage r).HoldsCarves cs := by
  unfold State.askPage
  split
  · exact h
  · exact ite (ite (suspend h) h) (dch (ite (suspend h) h))

theorem repairClock (h : t.HoldsCarves cs) : t.repairClock.HoldsCarves cs := when h fun _ h => forEach h fun _ _ => askPage

theorem repairFails {k l : Nat} (h : t.HoldsCarves cs) : (t.repairFails k l).HoldsCarves cs :=
  retryPorts (makeDirty (dropRepair (addSat (reportPoison (enginePoison h)))))

/-! Links of the host ports (chapters 11, 13) -/

theorem linkOff {p : Nat} (h : t.HoldsCarves cs) : (t.linkOff p).HoldsCarves cs := wr (wr (wr (wr h)))

theorem linkDown {p : Nat} (h : t.HoldsCarves cs) : (t.linkDown p).HoldsCarves cs := ite (raise (addSat (dropLink (linkOff h)))) h

theorem doLinkDown {p : Nat} (h : t.HoldsCarves cs) : (t.doLinkDown p).HoldsCarves cs := ite (linkDown h) h

theorem gpfPort {p : Nat} (h : t.HoldsCarves cs) : (t.gpfPort p).HoldsCarves cs := ite (ite (drainPort h) (send (setPort (drainPort h)))) h

/-! Mailboxes (chapter 11) -/

theorem reply {f op : Nat} {r : Ret} {out : List Nat} (h : t.HoldsCarves cs) : (t.reply f op r out).HoldsCarves cs := raiseIf (send h)

theorem vreply {f op st : Nat} {out : List Nat} (h : t.HoldsCarves cs) : (t.vreply f op st out).HoldsCarves cs := reply h

theorem bgEndWith {f op ret vend : Nat} (h : t.HoldsCarves cs) : (t.bgEndWith f op ret vend).HoldsCarves cs := setPort h

theorem bgEnd {f op ret : Nat} (h : t.HoldsCarves cs) : (t.bgEnd f op ret).HoldsCarves cs := bgEndWith h

theorem closeCmd {f op : Nat} (h : t.HoldsCarves cs) : (t.closeCmd f op).HoldsCarves cs := h.fwm

theorem makeZero {k : Nat} (h : t.HoldsCarves cs) : (t.makeZero k).HoldsCarves cs := touch (setLoc (clearDirty (engineZero h)))

/-! Jobs, fences and rings (chapter 12) -/

theorem jobPromote {k : Nat} (h : t.HoldsCarves cs) : (t.jobPromote k).HoldsCarves cs := ite h.res h

theorem jobRead {f dpa devs : Nat} (h : t.HoldsCarves cs) : (t.jobRead f dpa devs).1.HoldsCarves cs := by
  unfold State.jobRead
  split
  · exact h
  · exact ite_fst (jobPromote h) (ite_fst h (lineValue h))

theorem jobForward {j : Job} {f dpa k l : Nat} {d : Line} {mask : BitVec 64} {poison : Bool} (h : t.HoldsCarves cs) :
    (t.jobForward j f dpa k l d mask poison).1.HoldsCarves cs :=
  addWrap (galSend h.gal.adm)

theorem jobPass {j : Job} {f dpa k l : Nat} {d : Line} {mask : BitVec 64} {poison : Bool} (h : t.HoldsCarves cs) :
    (t.jobPass j f dpa k l d mask poison).1.HoldsCarves cs := by
  unfold State.jobPass
  extract_lets fresh admitted written q mirrored acked
  have hwritten : written.HoldsCarves cs := engineWrite (lookedUp (settle (when h fun _ => addWrap)))
  have hmirrored : mirrored.HoldsCarves cs := ite (addWrap (galOrdered hwritten)) hwritten
  dsimp only
  exact when hmirrored fun _ => releaseParked

theorem jobPut {j : Job} {f dpa : Nat} {d : Line} {mask : BitVec 64} {poison : Bool} (h : t.HoldsCarves cs) :
    (t.jobPut j f dpa d mask poison).1.HoldsCarves cs := by
  unfold State.jobPut
  split
  · exact h
  · exact ite_fst (jobPromote h) (ite_fst h (ite_fst (jobForward h) (ite_fst (jobPass h) (ite_fst h.adm h))))

theorem cacheRing {r : Nat} (h : t.HoldsCarves cs) : (t.cacheRing r).HoldsCarves cs := h.job

theorem fetchRing {r : Nat} (h : t.HoldsCarves cs) : (t.fetchRing r).HoldsCarves cs := by
  refine ite h (ite (addWrap (cacheRing h)) ?_)
  split
  · exact addWrap (cacheRing h.job)
  · exact h

theorem pendClock (h : t.HoldsCarves cs) : t.pendClock.HoldsCarves cs :=
  ite (forEach h fun _ _ h => when (fetchRing h) fun _ => setRing) h

theorem haltRing {r err : Nat} (h : t.HoldsCarves cs) : (t.haltRing r err).HoldsCarves cs := setRing h

theorem setJob {j : Job} (h : t.HoldsCarves cs) : (t.setJob j).HoldsCarves cs := h.job

theorem keyLostJobs {k : Nat} (h : t.HoldsCarves cs) : (t.keyLostJobs k).HoldsCarves cs := h.adm.job

theorem setPins {l : List Pin} (h : t.HoldsCarves cs) : (t.setPins l).HoldsCarves cs := forEach h.job fun _ _ => setLock

theorem dropPins {gone : Pin → Bool} (h : t.HoldsCarves cs) : (t.dropPins gone).HoldsCarves cs := setPins h

theorem zeroFaceEnd {f : Nat} (h : t.HoldsCarves cs) : (t.zeroFaceEnd f).HoldsCarves cs := retryPorts (clearJobl (dropPins (setPort h)))

theorem refresh {f st : Nat} {j : Job} (h : t.HoldsCarves cs) : (t.refresh f j st).1.HoldsCarves cs := by
  refine ite_fst ?_ h
  dsimp only
  generalize (t.jobRead f ((t.ring j.ring).sqAddr j.idx) 0).2 = answer
  cases answer with
  | data d => exact jobRead h
  | wait => exact jobRead h
  | poison => exact jobRead h
  | outside => exact jobRead h

theorem flushOne {r f : Nat} (h : t.HoldsCarves cs) : (t.flushOne r f).1.HoldsCarves cs := by
  unfold State.flushOne
  split
  · exact h
  · split
    · exact h
    · refine ite_fst h ?_
      dsimp only
      split
      · exact refresh h
      · split
        · exact jobOver (setJob (jobPut (setJob (refresh h))))
        · exact setJob (jobPut (setJob (refresh h)))
        · exact jobPut (setJob (refresh h))
        · exact haltRing (job (jobPut (setJob (refresh h))))

theorem flushRing {r f n : Nat} (h : t.HoldsCarves cs) : (t.flushRing r f n).HoldsCarves cs := by
  induction n generalizing t with
  | zero => exact h
  | succ n ih => exact ite (ih (flushOne h)) (flushOne h)

theorem fenceRing {r : Nat} (h : t.HoldsCarves cs) : (t.fenceRing r).HoldsCarves cs := ite (setRing h.job) h

theorem fenceFace {f : Nat} (h : t.HoldsCarves cs) : (t.fenceFace f).HoldsCarves cs := forEach h.job fun _ _ => fenceRing

theorem enableReply {f st state : Nat} (h : t.HoldsCarves cs) : (t.enableReply f st state).HoldsCarves cs := ite (vreply (closeCmd h)) h

theorem dropInit {r : Nat} (h : t.HoldsCarves cs) : (t.dropInit r).HoldsCarves cs := h.job

theorem initRun {x : RingInit} {n : Nat} (h : t.HoldsCarves cs) : (State.initRun x n t).HoldsCarves cs := by
  induction n generalizing x t with
  | zero => exact h
  | succ n ih =>
    refine ite (enableReply (setRing (dropInit h))) ?_
    dsimp only
    split
    · exact ih (jobPut h).job
    · exact (jobPut h).job
    · exact jobPut h
    · exact enableReply (dropInit (jobPut h))

theorem initClock {x : RingInit} (h : t.HoldsCarves cs) : (t.initClock x).HoldsCarves cs := initRun h

theorem jobClock (h : t.HoldsCarves cs) : t.jobClock.HoldsCarves cs := by
  refine pendClock (forEach (forEach (forEach h fun _ _ => fenceFace) fun _ _ h => ?_) fun _ _ h => when h fun _ => initClock)
  split
  · exact when h fun _ => flushRing
  · exact h

/-! Commands of a mailbox (chapter 11) -/

theorem lifeCheck (h : t.HoldsCarves cs) : t.lifeCheck.HoldsCarves cs := forEach h fun _ _ h => postEvent (setPort h)

theorem scanLine {f line devs : Nat} {runs : List (Nat × Nat)} (h : t.HoldsCarves cs) :
    (t.scanLine f line devs runs).1.HoldsCarves cs := by
  unfold State.scanLine
  split
  · exact h
  · dsimp only
    split
    · dsimp only
      exact addPoison (readLine (settle h))
    · dsimp only
      exact readLine (settle h)

theorem scanLines {f line n : Nat} {devs : SMap Nat} {runs : List (Nat × Nat)} (h : t.HoldsCarves cs) :
    (t.scanLines f line devs n runs).1.HoldsCarves cs := by
  induction n generalizing t line runs with
  | zero => exact h
  | succ n ih => exact ih (scanLine h)

theorem scanEnd {f line lines : Nat} {runs : List (Nat × Nat)} (h : t.HoldsCarves cs) : (t.scanEnd f line lines runs).HoldsCarves cs :=
  bgEnd (setPort h)

theorem scanRun {f line lines : Nat} {devs : SMap Nat} (h : t.HoldsCarves cs) : (t.scanRun f line lines devs).HoldsCarves cs :=
  ite (scanEnd (scanLines h)) (forEach (setPort h) fun _ _ => promote)

theorem scanClock (h : t.HoldsCarves cs) : t.scanClock.HoldsCarves cs := by
  refine forEach h fun _ _ h => ?_
  split
  · exact ite (scanRun h) h
  · exact h

theorem giveBlock {b f : Nat} (h : t.HoldsCarves cs) : (t.giveBlock b f).HoldsCarves cs :=
  forEach h.slb fun _ _ h => when (setOwner h) fun _ => setHeat

theorem grantExtent {f first : Nat} {pool : List Nat} (h : t.HoldsCarves cs) : (t.grantExtent f first pool).HoldsCarves cs :=
  postEvent (setPort (forEach h fun _ _ => giveBlock))

theorem stopFetch {i : Nat} (h : t.HoldsCarves cs) : (t.stopFetch i).HoldsCarves cs := by
  unfold State.stopFetch
  split
  · exact h
  · exact setRstate (res (ite (wr h) (wr h)))

/-! Transform keys, rotation and erase (chapter 14) -/

theorem cipBegin {op slot : Nat} {key : BitVec 256} {face : Nat} (h : t.HoldsCarves cs) : (t.cipBegin op slot key face).HoldsCarves cs :=
  updStore (wr h.cip)

theorem generate {k face : Nat} (h : t.HoldsCarves cs) : (t.generate k face).HoldsCarves cs := cipBegin (drawKey h)

theorem clearSlot {k : Nat} (h : t.HoldsCarves cs) : (t.clearSlot k).HoldsCarves cs :=
  updStore (keyLostJobs (forEach (when (wr (wr (setSlot (putKey h)))) fun _ h => h.cip) fun _ _ => abortHaul))

theorem setRotate {f n : Nat} (h : t.HoldsCarves cs) : (t.setRotate f n).HoldsCarves cs := h.cip

theorem rotateEnd {f : Nat} (h : t.HoldsCarves cs) : (t.rotateEnd f).HoldsCarves cs :=
  ite (vreply (bgEnd (setRotate (clearSlot h)))) (setRotate (clearSlot h))

theorem rewrapMove {f k : Nat} (h : t.HoldsCarves cs) : (t.rewrapMove f k).HoldsCarves cs :=
  ite (ite h (setRotate (forEach h fun _ _ => setLock))) (ite (forEach h fun _ _ => setLock) (rotateEnd (forEach h fun _ _ => setLock)))

theorem rotateMove {f : Nat} (h : t.HoldsCarves cs) : (t.rotateMove f).HoldsCarves cs := by
  unfold State.rotateMove
  split
  · exact ite (setRotate (generate h)) h
  · exact ite (setRotate h) h
  · exact ite (setRotate (cipBegin h)) h
  · exact ite (setRotate h) h
  · exact ite h (rewrapMove h)
  · exact ite h (rewrapMove h)
  · exact setRotate (clearSlot h)
  · exact h

theorem warnRotate (h : t.HoldsCarves cs) : t.warnRotate.HoldsCarves cs := forEach h fun _ _ h => when h fun _ => setRotate

theorem warnMeta (h : t.HoldsCarves cs) : t.warnMeta.HoldsCarves cs := when (when h fun _ => setRotate) fun _ => rotateMove

theorem rotateClock (h : t.HoldsCarves cs) : t.rotateClock.HoldsCarves cs :=
  ite (warnMeta (forEach (warnRotate h) fun _ _ => rotateMove)) h

theorem zeroSetts {f : Nat} (h : t.HoldsCarves cs) : (t.zeroSetts f).HoldsCarves cs :=
  checkHome (retryPorts (setPort (forEach h fun _ _ h => forEach (dch (stopFetch (forEach h fun _ _ => settle))) fun _ _ => makeZero)))

theorem forceLodes {f : Nat} (h : t.HoldsCarves cs) : (t.forceLodes f).HoldsCarves cs := forEach h fun _ _ h => setLode (ite h.stk h)

theorem eraseEnd {f : Nat} {e : Erase} (h : t.HoldsCarves cs) : (t.eraseEnd f e).HoldsCarves cs :=
  have hopened (u : State) (hu : u.HoldsCarves cs) : (if (u.port f).wasOpen then u.openVia (2 ^ f) else u).HoldsCarves cs :=
    ite (openVia hu) hu
  have hanswered (u : State) (hu : u.HoldsCarves cs) : (if e.op = 0x4400 ∧ !e.twin then u.bgEnd f 0x4400 0
      else if u.fwm.openCmds.contains (f, e.op) then (u.closeCmd f e.op).reply f e.op .success [] else u).HoldsCarves cs :=
    ite (bgEnd hu) (ite (reply (closeCmd hu)) hu)
  hopened _ (hanswered _ (ite (galOrdered (cip (setPort h))) (cip (setPort h))))

theorem eraseMove {f : Nat} {e : Erase} (h : t.HoldsCarves cs) : (t.eraseMove f e).HoldsCarves cs := by
  unfold State.eraseMove
  split
  · exact ite (setPort h) (ite (setPort (generate h)) h)
  · exact ite (ite h (ite (forceLodes (zeroSetts (setPort h))) (zeroSetts (setPort h)))) (ite (setPort h) h)
  · exact ite h (eraseEnd h)

theorem eraseClock (h : t.HoldsCarves cs) : t.eraseClock.HoldsCarves cs := by
  refine ite (forEach h fun _ _ h => ?_) h
  split
  · exact eraseMove h
  · exact h

/-! The Gallery (chapter 15) -/

theorem bringSett {k : Nat} (h : t.HoldsCarves cs) : (t.bringSett k).HoldsCarves cs := by
  refine ite h ?_
  split
  · exact engineZero h
  · exact enginePoisonSett h
  · split
    · exact ite (engineSett h) (enginePoisonSett h)
    · exact enginePoisonSett h

theorem dropHeld {x : GalIn} (h : t.HoldsCarves cs) : (t.dropHeld x).HoldsCarves cs := h.gal

theorem galLook {x : GalIn} (h : t.HoldsCarves cs) : (t.galLook x).HoldsCarves cs :=
  lookedUp (when (settle (when h fun _ => bringSett)) fun _ => addWrap)

theorem galStore {x : GalIn} (h : t.HoldsCarves cs) : (t.galStore x).HoldsCarves cs := by
  unfold State.galStore
  exact when (engineWrite (galLook h)) fun _ => releaseParked

theorem galRead {x : GalIn} (h : t.HoldsCarves cs) : (t.galRead x).1.HoldsCarves cs := by
  refine ite_fst ?_ h
  dsimp only
  split
  · dsimp only
    exact when (readAs (galLook h)).gal fun _ => releaseParked
  · dsimp only
    exact when (readAs (galLook h)) fun _ => releaseParked

theorem orderStore {x : GalIn} (h : t.HoldsCarves cs) : (t.orderStore x).HoldsCarves cs := by
  refine ite ?_ ?_
  · split
    · exact h
    · exact when (complete (setWrite (lookedUp (when (when h fun _ => addWrap) fun _ => addWrap)))) fun _ => releaseParked
  · split
    · exact h
    · exact when (jobWrote (engineWrite (lookedUp (settle (when h.adm fun _ => addWrap))))) fun _ => releaseParked

theorem rslvWhole {k : Nat} {zero : Bool} (h : t.HoldsCarves cs) : (t.rslvWhole k zero).HoldsCarves cs :=
  have hlost := reportLost (k := k) (enginePoisonSett (k := k) (setLoc (k := k) (w := locLost) (clearDirty (k := k) (settle (k := k) h))))
  ite (makeZero (settle h)) (ite (countShutdown hlost) hlost)

theorem applyHeld {x : GalIn} (h : t.HoldsCarves cs) : (t.applyHeld x).HoldsCarves cs := by
  refine ite (galRead h) ?_
  split
  · exact orderStore (dropHeld (galRead h))
  · exact galOrdered (galStore (dropHeld (galRead h)))
  · exact retryPorts (dropRepair (galStore (dropHeld (galRead h))))
  · exact rslvWhole (dropHeld (galRead h))
  · exact rslvWhole (dropHeld (galRead h))
  · exact galStore (dropHeld (galRead h))

theorem retryHeld (h : t.HoldsCarves cs) : t.retryHeld.HoldsCarves cs := forEach h fun _ _ h => ite (applyHeld h) h

theorem clearStreams (h : t.HoldsCarves cs) : t.clearStreams.HoldsCarves cs := h.gal

theorem askFails {a : GalAsk} (h : t.HoldsCarves cs) : (t.askFails a).HoldsCarves cs :=
  ite (ite (repairFails (raise (addSat h.gal))) (raise (addSat h.gal))) (ite (fetchEnd (fetchDone (fetchLost (raise (addSat h.gal)))))
    (raise (addSat h.gal)))

theorem ctlEnd {c : GalCtl} {ok : Bool} (h : t.HoldsCarves cs) : (t.ctlEnd c ok).HoldsCarves cs := by
  unfold State.ctlEnd
  split
  · exact ite (send (grantExtent h.gal)) (send h.gal)
  · exact ite (ite (reply (closeCmd h.gal)) h.gal) h.gal
  · exact ite (reply (closeCmd h.gal)) h.gal
  · exact ite (reply (closeCmd h.gal)) h.gal
  · exact h.gal

theorem openWaiting (h : t.HoldsCarves cs) : t.openWaiting.HoldsCarves cs := ite (openVia h) h

theorem endWait (h : t.HoldsCarves cs) : t.endWait.HoldsCarves cs := ite (rebuildEnd h) h

theorem aloneWrites {fwds : List GalFwd} (h : t.HoldsCarves cs) : (t.aloneWrites fwds).HoldsCarves cs := by
  refine forEach (forEach h fun _ _ h => ?_) fun _ _ h => forEach h fun _ _ => complete
  split
  · exact orderStore h
  · exact h

theorem goAlone (h : t.HoldsCarves cs) : t.goAlone.HoldsCarves cs :=
  wr (forEach (forEach (aloneWrites (gal (wr (clearStreams (forEach h fun _ _ => setRslv))))) fun _ _ => ctlEnd) fun _ _ => askFails)

theorem galFencePort {p : Nat} (h : t.HoldsCarves cs) : (t.galFencePort p).HoldsCarves cs :=
  updCredits (setPort (closeFace (drainPort (discard h))))

theorem galFence (h : t.HoldsCarves cs) : t.galFence.HoldsCarves cs :=
  wr (wr (forEach (clearStreams (freeJobs (adm (forEach (forEach h fun _ _ => setRslv) fun _ _ => galFencePort)))) fun _ _ => askFails))

theorem rslvStop (h : t.HoldsCarves cs) : t.rslvStop.HoldsCarves cs := raise (wr h)

theorem galLost (h : t.HoldsCarves cs) : t.galLost.HoldsCarves cs :=
  ite h.gal (ite (ite h.gal.gal (galFence h.gal.gal)) (ite (retryPorts (goAlone (rslvStop h.gal))) (ite (raise (galFence
    (rslvStop h.gal))) h.gal)))

theorem doGalDown {l : Nat} (h : t.HoldsCarves cs) : (t.doGalDown l).HoldsCarves cs :=
  ite (ite (galLost (raise (gal (setBit (wr (wr (wr h))))))) (raise (gal (setBit (wr (wr (wr h))))))) h

theorem doGalRetrain {l : Nat} (h : t.HoldsCarves cs) : (t.doGalRetrain l).HoldsCarves cs := ite (wr h) h

theorem sendList {typ n k : Nat} {l : List Nat} (h : t.HoldsCarves cs) : (t.sendList typ n l k).HoldsCarves cs := by
  induction k generalizing t l with
  | zero => exact h
  | succ k ih => exact ite (galSend h) (ih (galSend h))

theorem sendRslvList {l : List Nat} (h : t.HoldsCarves cs) : (t.sendRslvList l).HoldsCarves cs := sendList h

theorem pairUp_ (h : t.HoldsCarves cs) : t.pairUp_.HoldsCarves cs := wr (wr h)

theorem endExchange (h : t.HoldsCarves cs) : t.endExchange.HoldsCarves cs :=
  ite (openWaiting (endWait (pairUp_ h.gal))) (ite (openWaiting (endWait (raise (gal (wr (wr (wr h.gal))))))) (endWait (raise (wr
    (wr h.gal)))))

theorem exchangeClock (h : t.HoldsCarves cs) : t.exchangeClock.HoldsCarves cs :=
  ite (forEach h.gal fun _ _ => askTwin) (ite (endExchange h) h)

theorem recoverNo {tag sub : Nat} (h : t.HoldsCarves cs) : (t.recoverNo tag sub).HoldsCarves cs := galSend h

theorem settLines {k : Nat} {devs : SMap Nat} (h : t.HoldsCarves cs) : (t.settLines k devs).1.HoldsCarves cs := by
  refine foldl_fst h fun x l hx => ?_
  have hread : (if x.1.preOpen then (x.1, x.1.imageLine k l) else (x.1.settle k).readLine k l (SMap.get 0 l devs)).1.HoldsCarves cs :=
    ite_fst hx (readLine (settle hx))
  dsimp only
  split
  · exact hread
  · exact hread

theorem sendChunks {tag : Nat} {ls : List Line} (h : t.HoldsCarves cs) : (t.sendChunks tag ls).HoldsCarves cs :=
  forEach h fun _ _ => galSend

theorem recoverWait {r : GalReq} (h : t.HoldsCarves cs) : (t.recoverWait r).HoldsCarves cs := ite (recoverNo h) h.gal

theorem recoverAnswer {r : GalReq} {devs : SMap Nat} (h : t.HoldsCarves cs) : (t.recoverAnswer r devs).HoldsCarves cs := by
  have hread : (if t.preOpen then (t, t.imageLine r.sett (r.line - 1))
      else (t.settle r.sett).readLine r.sett (r.line - 1) (SMap.get 0 (r.line - 1) devs)).1.HoldsCarves cs :=
    ite_fst h (readLine (settle h))
  unfold State.recoverAnswer
  split
  · refine ite (recoverNo h) ?_
    dsimp only
    split
    · exact sendChunks (settLines h)
    · exact ite (recoverNo (settLines h)) (recoverWait (settLines h))
  · dsimp only
    split
    · exact galSend hread
    · exact recoverNo hread
    · exact recoverWait hread

theorem reqClock (h : t.HoldsCarves cs) : t.reqClock.HoldsCarves cs := ite h (forEach h.gal fun _ _ => recoverAnswer)

theorem askDone {a : GalAsk} (h : t.HoldsCarves cs) : (t.askDone a).HoldsCarves cs :=
  ite (addSat h.gal) (ite (wr (res (addSat h.gal))) (ite (fetchEnd (fetchDone (addSat h.gal))) (addSat h.gal)))

theorem askClock (h : t.HoldsCarves cs) : t.askClock.HoldsCarves cs := forEach h fun _ _ h => ite h (askDone h)

theorem rslvDone (h : t.HoldsCarves cs) : t.rslvDone.HoldsCarves cs := retryPorts (openWaiting (postVendorAll (raise (wr (pairUp_ h)))))

theorem rslvClock (h : t.HoldsCarves cs) : t.rslvClock.HoldsCarves cs := ite (rslvDone (raise (sendRslvList h))) h

theorem ctrlReply {sub f : Nat} {ok : Bool} (h : t.HoldsCarves cs) : (t.ctrlReply sub f ok).HoldsCarves cs := galOrdered h

theorem zeroTwin {f : Nat} (h : t.HoldsCarves cs) : (t.zeroTwin f).HoldsCarves cs := by
  unfold State.zeroTwin
  extract_lets zeroed
  have hzeroed : zeroed.HoldsCarves cs := forEach h fun _ _ h => ite (jobPromote h) (forEach h fun _ _ h => makeZero (settle h))
  exact ite (ctrlReply (zeroFaceEnd hzeroed.gal)) hzeroed

theorem handoverClock (h : t.HoldsCarves cs) : t.handoverClock.HoldsCarves cs := by
  unfold State.handoverClock
  split
  · exact ite h.gal h
  · exact ite (saveTrigger h.gal) h
  · exact ite (wr h.gal) h
  · exact h

theorem galClock (h : t.HoldsCarves cs) : t.galClock.HoldsCarves cs :=
  ite (forEach (rslvClock (exchangeClock (askClock (reqClock (when h fun _ h => ite (galAck (retryHeld h)) (retryHeld h))))))
    fun _ _ => zeroTwin) h

/-! Islands (chapter 17) -/

theorem beginStop {n : Nat} (h : t.HoldsCarves cs) : (t.beginStop n).HoldsCarves cs :=
  ite (linkDown (wr (setIsl h))) (ite (doGalDown (wr (setIsl h))) (wr (setIsl h)))

theorem islEnable {n : Nat} (h : t.HoldsCarves cs) : (t.islEnable n).HoldsCarves cs :=
  ite (wr h) (ite (ite h (setIsl h)) (ite (wr (setIsl h)) h))

theorem islDisable {n : Nat} (h : t.HoldsCarves cs) : (t.islDisable n).HoldsCarves cs :=
  ite (wr h) (ite (beginStop h) (ite (wr (setIsl h)) h))

theorem islSettle {n : Nat} (h : t.HoldsCarves cs) : (t.islSettle n).HoldsCarves cs := by
  unfold State.islSettle
  split
  · exact islEnable h
  · exact islDisable h
  · exact h

theorem pairMode {p : Nat} (h : t.HoldsCarves cs) : (t.pairMode p).HoldsCarves cs := ite (wr h) (ite (wr h) h)

theorem islClock (h : t.HoldsCarves cs) : t.islClock.HoldsCarves cs :=
  ite (when (forEach (when (forEach h fun _ _ => pairMode) fun _ => updPairs) fun _ _ => islSettle) fun _ => parkIslands) h

/-! Two-wire ports (chapter 20) -/

theorem twLoad (h : t.HoldsCarves cs) : t.twLoad.HoldsCarves cs :=
  forEach (forEach h fun _ _ h => when (when h fun _ h => wr (wr h)) fun _ => wr) fun _ _ h => forEach h fun _ _ h => wr (wr h)

theorem twPulse {tg : Nat} (h : t.HoldsCarves cs) : (t.twPulse tg).HoldsCarves cs := forEach h fun _ _ => pulsePin

theorem twReset {tg : Nat} (h : t.HoldsCarves cs) : (t.twReset tg).HoldsCarves cs := ite (twPulse (wr h)) h

/-! The Foreman cluster (chapter 21) -/

theorem endOpenCmds (h : t.HoldsCarves cs) : t.endOpenCmds.HoldsCarves cs := forEach h.fwm fun _ _ => reply

theorem holdCores (h : t.HoldsCarves cs) : t.holdCores.HoldsCarves cs := wr h.fwm.twb

theorem endStaging (h : t.HoldsCarves cs) : t.endStaging.HoldsCarves cs := h.fwm

theorem stopRebuild (h : t.HoldsCarves cs) : t.stopRebuild.HoldsCarves cs := ite (wr (wr h.res)) h

theorem foremanReset (h : t.HoldsCarves cs) : t.foremanReset.HoldsCarves cs :=
  ite (addSat (stopRebuild (endStaging (holdCores (endOpenCmds h))))) h

/-! Faults and their actions (chapter 18) -/

theorem fltLoad (h : t.HoldsCarves cs) : t.fltLoad.HoldsCarves cs :=
  wr (flt (forEach (forEach (forEach h fun _ _ => setWord) fun _ _ => wr) fun _ _ => wr))

theorem fltLive (h : t.HoldsCarves cs) : t.fltLive.HoldsCarves cs := h.flt

theorem rollTo {cls k : Nat} (h : t.HoldsCarves cs) : (t.rollTo cls k).HoldsCarves cs :=
  when (flt (when (forEach (forEach h fun _ _ h => wr (wr h)) fun _ _ => wr) fun _ => wr)) fun _ => wr

theorem rollDue {cls : Nat} (h : t.HoldsCarves cs) : (t.rollDue cls).HoldsCarves cs := ite (rollTo h) h

theorem takeRaise {r : Raise} (h : t.HoldsCarves cs) : (t.takeRaise r).2.HoldsCarves cs :=
  tally (when (addSat (addWrap (rollDue h))) fun _ h => h.flt)

theorem capture {rs : List React} (h : t.HoldsCarves cs) : (t.capture rs).HoldsCarves cs := by
  unfold State.capture
  dsimp only
  split
  · exact h
  · exact ite (wr (addSat h)) (alert (wr (wr (wr (wr (wr (wr (wrB (wrB (wrB (wr (wr h))))))))))))

theorem nchReset {n : Nat} (h : t.HoldsCarves cs) : (t.nchReset n).HoldsCarves cs :=
  when (wr (freeDies (stk (forEach (forEach h fun _ _ => doStripeFail) fun _ _ h => when (forEach h fun _ _ => unsettle)
    fun _ => setLode)))) fun _ => wr

theorem dchReset {c : Nat} (h : t.HoldsCarves cs) : (t.dchReset c).HoldsCarves cs := when (forEach h fun _ _ => closeRows) fun _ => wr

theorem blockReset {src : Nat} (h : t.HoldsCarves cs) : (t.blockReset src).HoldsCarves cs :=
  ite (dchReset h) (ite (nchReset h) (ite (doLinkDown h) (ite (doGalRetrain (doGalDown h)) (ite h (ite (testPair h) (ite (twReset h) (ite
    (foremanReset h) h)))))))

theorem brWait {src : Nat} (h : t.HoldsCarves cs) : (t.brWait src).HoldsCarves cs := h.flt

theorem breset {src : Nat} (h : t.HoldsCarves cs) : (t.breset src).HoldsCarves cs :=
  ite (ite (brWait h) (ite h (ite (brWait h) (blockReset h)))) (ite (ite (brWait h) (blockReset h)) h)

theorem laterClock (h : t.HoldsCarves cs) : t.laterClock.HoldsCarves cs :=
  ite h (forEach h.flt fun _ _ h => ite (brWait h) (blockReset h))

theorem askReset {why : RstWhy} (h : t.HoldsCarves cs) : (t.askReset why).HoldsCarves cs :=
  ite h (ite (saveTrigger (ite h h.flt)) (ite h h.flt))

theorem chipAction {rs : List React} (h : t.HoldsCarves cs) : (t.chipAction rs).HoldsCarves cs :=
  ite (enterHold h) (ite (askReset h) (ite (updErr (wr h)) h))

theorem queueIrq {r : React} (h : t.HoldsCarves cs) : (t.queueIrq r).HoldsCarves cs := ite (ite h.flt (wr h)) h

theorem act {rs : List React} (h : t.HoldsCarves cs) : (t.act rs).HoldsCarves cs :=
  have hacted : ((t.chipAction rs).forEach rs State.queueIrq).HoldsCarves cs := forEach (chipAction h) fun _ _ => queueIrq
  ite h (ite hacted (forEach hacted fun _ _ => breset))

theorem takeAll {l : List Raise} (h : t.HoldsCarves cs) : (State.takeAll l t).2.HoldsCarves cs := by
  induction l generalizing t with
  | nil => exact h
  | cons r l ih =>
    rw [State.takeAll]
    exact ih (takeRaise h)

theorem fltPass (h : t.HoldsCarves cs) : t.fltPass.HoldsCarves cs := ite h (act (capture (takeAll h.flt)))

theorem fltClock (h : t.HoldsCarves cs) : t.fltClock.HoldsCarves cs := fltPass (fltPass (fltPass (fltPass h)))

/-! Live loads of the Survey (chapter 03) -/

theorem schLoad (h : t.HoldsCarves cs) : t.schLoad.HoldsCarves cs := forEach (wr h) fun _ _ => wr

theorem svyEnd {res : Nat} {report : Bool} (h : t.HoldsCarves cs) : (t.svyEnd res report).HoldsCarves cs :=
  forEach (when (svy (raiseIf (wr (wr h)))) fun _ h => vreply (closeCmd h)) fun _ _ => bgEndWith

theorem applyLive (h : t.HoldsCarves cs) : t.applyLive.HoldsCarves cs :=
  svyEnd (wr (addSat (wr (wr (wr (wr (schLoad (fltLive (svy (dramRoll (forEach h fun _ _ => rollDue)))))))))))

theorem svyClock (h : t.HoldsCarves cs) : t.svyClock.HoldsCarves cs := when h fun _ => applyLive

/-! Commands of the slab bank (chapter 04) -/

theorem slbClock (h : t.HoldsCarves cs) : t.slbClock.HoldsCarves cs :=
  have hdone (f : Fld) (u : State) (hu : u.HoldsCarves cs) :
      (if u.on f then (if (u.draw 2).1 = 0 then (u.draw 2).2.wr f 0 else (u.draw 2).2) else u).HoldsCarves cs := ite (wrIf (draw hu)) hu
  hdone _ _ (hdone _ _ h)

/-! Warm chip reset (chapters 01, 17) -/

theorem keeping {s' : State} {f : Fld} (h : t.HoldsCarves cs) : (State.keeping s' t f).HoldsCarves cs := wr h

theorem resetRegs (h : t.HoldsCarves cs) : t.resetRegs.HoldsCarves cs :=
  forEach (when (keeping (keeping (forEach h fun _ _ => setWord))) fun _ => keeping) fun _ _ h => forEach (setWord h) fun _ _ => setWord

theorem hubFresh (h : t.HoldsCarves cs) : t.hubFresh.HoldsCarves cs := by
  have hports : (t.forEach faces fun t p => t.setPort p (t.port p).chipReset).HoldsCarves cs := forEach h fun _ _ => setPort
  unfold State.hubFresh
  generalize State.forEach _ _ _ = u at hports ⊢
  exact hports

theorem powerUp (h : t.HoldsCarves cs) : t.powerUp.HoldsCarves cs := clg (wr (wr (wr (wr (wr (wr (adm (addWrap h))))))))

theorem galWake (h : t.HoldsCarves cs) : t.galWake.HoldsCarves cs := wr (forEach h fun _ _ => galOff)

theorem shadowLoad (h : t.HoldsCarves cs) : t.shadowLoad.HoldsCarves cs := ite (twLoad (fltLoad h)) h

theorem chipReset (h : t.HoldsCarves cs) : t.chipReset.HoldsCarves cs :=
  wr (shadowLoad (galWake (clg (forEach (hubFresh (portsDown (forEach (resetRegs (when h.bed fun _ => powerUp)) fun _ _ => wr)))
    fun _ _ h => when h fun _ => force))))

theorem rstClock (h : t.HoldsCarves cs) : t.rstClock.HoldsCarves cs := by
  unfold State.rstClock
  split
  · exact h
  · exact ite (updErr (setChip (chipRstPins (when h.flt fun _ => addSat)))) h

theorem resetClock (h : t.HoldsCarves cs) : t.resetClock.HoldsCarves cs := when (rstClock h) fun _ => chipReset

/-! The hub clock -/

theorem portClock (h : t.HoldsCarves cs) : t.portClock.HoldsCarves cs := when h fun _ h => forEach (retryPorts h) fun _ _ => gpfPort

theorem hubWork (h : t.HoldsCarves cs) : t.hubWork.HoldsCarves cs :=
  when h fun _ h => slbClock (lifeCheck (eraseClock (rotateClock (scanClock (guardHauls (jobClock (galClock (portClock
    (repairClock h)))))))))

/-- The hub clock leaves the carve-out of every save as it was. -/
theorem hubClock (h : t.HoldsCarves cs) : t.hubClock.HoldsCarves cs :=
  resetClock (laterClock (fltClock (islClock (handoverClock (hubWork (admClock (svyClock h)))))))

end State.HoldsCarves

/-- What follows from a command in its hub clock leaves the carve-out of every save as the command's effect has it. -/
theorem State.carves_settled (s u : State) : (s.settled u).saves.map (fun v => v.carve) = u.saves.map (fun v => v.carve) := by
  have hclock : u.hubClock.HoldsCarves (u.saves.map fun v => v.carve) := .hubClock rfl
  rw [State.settled, State.beyond]
  exact hclock

/-! ### What a carve-out holds (R195, R200) -/

/-- The carve-out written: no line was uncorrectable, and no program failed. -/
def cleanCarve : CarveIn := ⟨[], [], []⟩

/-- The state in which the CARVE records begin. -/
def State.carveBegun (s : State) : State := { s with save := { s.save with carve := s.heads } }

/-- The state in which the stripes of the CARVE records have their places. -/
def State.carveWritten (s : State) : State := (s.carveBegun.writeRun 4 0 carveSetts s.carveBegun.saveGroups).2

/-- The carve-out holds what stands once its stripes have their places. -/
theorem State.carve_doCarveDone {s : State} (hstep : s.inStep 5 = true) (hanchor : s.save.anchor = none) (hdead : s.deadCarve = []) :
    ((s.doCarveDone cleanCarve).saves.map fun v => v.carve).head? = some (some (s.carveWritten.carveOf [] false)) := by
  have hlines : s.carveBad [] = [] := by simp [State.carveBad, hdead]
  have hrun (t : State) (r : MetaRun) : t.retryRun r [] = (t, [], false) := rfl
  rw [State.doCarveDone, if_pos (by simp [hstep, hanchor])]
  simp only [cleanCarve, hlines, hrun, State.forEach, List.filter_nil, List.foldl_nil, List.any_nil, Bool.or_false]
  refine congrArg List.head? (a₂ := some (s.carveWritten.carveOf [] false) :: s.carveWritten.saves.map fun v => v.carve) ?_
  exact State.HoldsCarves.beginAnchor rfl

/-! ### A carve-out whose lode has a BAD block (R227, R250) -/

/-- NAND of two channels with one target each, two blocks to a target and one page to a block: a spare lode and a lode of the Sump band
(R209, R215). -/
def twoLodes : SMap Word :=
  [(secNand * 0x100000 + 4, 0x10001), (secNand * 0x100000 + 8, 2), (secNand * 0x100000 + 16, 1), (secNand * 0x100000 + 24, 1),
    (secBands * 0x100000, 0x10001)]

/-- A save at its carve-out: the lode that the carve-out's stripes take first has a BAD block on channel 1. -/
def badLodeState : State :=
  ({ State.reset with
      chip := .save
      svy := { SvySt.reset with run := twoLodes }
      stk := { StkSt.reset with blks := [(blkKey 1 0 1, { Blk.fresh with st := 6 })] } } : State).wr HAUL_SAVE_STAT.STEP 5

/-- The stripes of the carve-out give the slot of the BAD block a spare. -/
theorem badLodeState_carveWritten : badLodeState.carveWritten.stk.remaps = [(slotKey 1 1 0 0, 1)] := by decide +kernel

/-- The registers of a DRAM channel reset to the same values in each of the 36 channels (R583). -/
theorem rowsAt_dch {c o : Nat} (hc : c < 36) (ho : o < 0x4000) : rowsAt (0x200000 + c * 0x4000 + o) = (o, dchRows) := by
  have hblock : 0x20 ≤ (0x200000 + c * 0x4000 + o) / 0x10000 := by omega
  have hin : 0x200000 ≤ 0x200000 + c * 0x4000 + o ∧ 0x200000 + c * 0x4000 + o < 0x290000 := by omega
  have hoff : (0x200000 + c * 0x4000 + o - 0x200000) % 0x4000 = o := by omega
  unfold rowsAt
  generalize 0x200000 + c * 0x4000 + o = a at hblock hin hoff ⊢
  dsimp only
  split
  case h_15 => rw [if_neg (by omega), if_pos hin, hoff]
  all_goals omega

theorem regReset_dch {c o : Nat} (hc : c < 36) (ho : o < 0x4000) : regReset (0x200000 + c * 0x4000 + o) = regReset (0x200000 + o) := by
  have hrows := rowsAt_dch hc ho
  have hfirst : rowsAt (0x200000 + o) = (o, dchRows) := rowsAt_dch (c := 0) (by decide) ho
  simp only [regReset, fieldsAt, hrows, hfirst]
  rw [if_neg (by omega), if_neg (by omega)]

theorem badLodeState_rd_dch {c o : Nat} (hc : c < 36) (ho : o < 0x4000) (lo width : Nat) :
    badLodeState.rd ⟨0x200000 + c * 0x4000 + o, lo, width⟩ = badLodeState.rd ⟨0x200000 + o, lo, width⟩ := by
  have hword {a : Nat} (ha : 0x200000 ≤ a) : badLodeState.word a = regReset a :=
    State.word_wr_ne _ HAUL_SAVE_STAT.STEP 5 (Nat.ne_of_gt (Nat.lt_of_lt_of_le (by decide) ha))
  rw [State.rd, State.rd, hword (by dsimp only; omega), hword (by dsimp only; omega), regReset_dch hc ho]

/-- The channels have not been set up: no rank has a state (R310). -/
theorem badLodeState_rankState {c k : Nat} (hc : c < 36) (hk : k < 4) : badLodeState.rd (DCH_RNKS.STATE c k) = rkAbsent := by
  have hfirst : ∀ k < 4, badLodeState.rd ⟨0x200000 + (0x40 + k * 16), 0, 4⟩ = rkAbsent := by decide +kernel
  rw [← hfirst k hk, ← badLodeState_rd_dch hc (by omega), DCH_RNKS.STATE]
  congr 2
  omega

/-- A carve-out slab lies on the channel that its number names (R91, R109). -/
theorem slabChan_carve (c : Nat) {n : Nat} (hn : n < 16) : slabChan (c * 65536 + 65520 + n) = c := by
  unfold slabChan
  omega

/-- And every carve-out slab lies in its own place (R311). -/
theorem badLodeState_homeOf {c n : Nat} (hc : c < 36) (hn : n < 16) :
    badLodeState.homeOf (c * 65536 + 65520 + n) = c * 65536 + 65520 + n := by
  have hfirst : ∀ n < 16, badLodeState.rd ⟨0x200000 + (0xc0 + n * 4), 31, 1⟩ = 0 := by decide +kernel
  have hvalid : badLodeState.rd (DCH_CRD.VALID c n) = 0 := by
    rw [← hfirst n hn, ← badLodeState_rd_dch hc (by omega), DCH_CRD.VALID]
    congr 2
    omega
  have hplace : (c * 65536 + 65520 + n) % 65536 - 65520 = n := by omega
  simp [State.homeOf, slabChan_carve c hn, hplace, State.on, hvalid]

theorem State.slabRank_lt (s : State) (i : Nat) : s.slabRank i < 4 := by
  unfold State.slabRank
  dsimp only
  split <;> omega

theorem badLodeState_onDead {c n : Nat} (hc : c < 36) (hn : n < 16) : badLodeState.onDead (c * 65536 + 65520 + n) = false := by
  have hstate := badLodeState_rankState hc (badLodeState.slabRank_lt (c * 65536 + 65520 + n))
  simp [State.onDead, State.servingRank, badLodeState_homeOf hc hn, slabChan_carve c hn, hstate, rkAbsent, rkReplaced, rkDead]

/-- No slab of the carve-out lies on a dead rank (R312). -/
theorem badLodeState_deadCarve : badLodeState.deadCarve = [] := by
  refine List.filter_eq_nil_iff.2 fun x hx => ?_
  simp only [List.mem_flatMap, List.mem_map, List.mem_range] at hx
  obtain ⟨c, hc, n, hn, rfl⟩ := hx
  simp [badLodeState_onDead hc hn]

/-- Refutes O36: SAVE_CARVE_DONE need not leave a carve-out with what the state held before the command, as its clause says. In
`badLodeState` the stripes of the carve-out open a lode with a BAD block, a spare takes its slot, and the carve-out holds that remap; the
hub clock that follows changes no carve-out, so no other effect of the command leads to the same next state either. -/
theorem not_saveSteps : ¬ Obligations.SaveSteps := by
  rintro ⟨-, -, -, -, -, -, -, -, hcarve, -⟩
  obtain ⟨u, hu, -, hheld, -⟩ := hcarve cleanCarve badLodeState (by decide) (by decide) rfl rfl rfl rfl badLodeState_deadCarve
  rw [exec_saveCarveDone, run_of_ne_off (by decide)] at hu
  have hsame : (badLodeState.doCarveDone cleanCarve).saves.map (fun v => v.carve) = u.saves.map (fun v => v.carve) := by
    rw [← State.carves_settled badLodeState, Host.Outcome.next.inj hu, State.carves_settled]
  have hwritten := State.carve_doCarveDone (s := badLodeState) (by decide) rfl badLodeState_deadCarve
  rw [hsame, List.head?_map] at hwritten
  obtain ⟨v, hv, hcarved⟩ := Option.map_eq_some_iff.1 hwritten
  rw [hv] at hheld
  have hremaps : badLodeState.carveWritten.stk.remaps = badLodeState.stk.remaps :=
    congrArg Carve.remaps (Option.some.inj (hcarved.symm.trans hheld))
  exact absurd (badLodeState_carveWritten.symm.trans hremaps) (by decide)

end Sys2Proof.Machine
end

section
/-! PROOFS. The NAND channels and the Stockpile: page reads, erases and their journal, dies that do not answer, patrol, and the moves of
rework, fold and rewrap (R219, R222, R226 to R228, R230, R233, R236 to R254). -/

namespace Sys2Proof.Machine

/-! ### Entries of the Stockpile's tables just written -/

/-- Of a block's entries the one just written reads back, and every other one as before. -/
theorem State.blk_setBlk (s : State) (n t b n' t' b' : Nat) (e : Blk) :
    (s.setBlk n t b e).blk n' t' b' = if blkKey n' t' b' = blkKey n t b then e else s.blk n' t' b' := by
  unfold State.blk State.setBlk
  split
  next h => rw [h, SMap.get_put_self]
  next h => exact SMap.get_put_ne _ _ h _ _

theorem State.blk_setBlk_self (s : State) (n t b : Nat) (e : Blk) : (s.setBlk n t b e).blk n t b = e := SMap.get_put_self ..

/-- The erase of a die just written reads back, and every other one as before. -/
theorem State.die_setDie (s : State) (n t n' t' : Nat) (d : DieErase) :
    (s.setDie n t d).die n' t' = if dieKey n' t' = dieKey n t then d else s.die n' t' := by
  unfold State.die State.setDie
  split
  next h => rw [h, SMap.get_put_self]
  next h => exact SMap.get_put_ne _ _ h _ _

theorem State.die_setDie_self (s : State) (n t : Nat) (d : DieErase) : (s.setDie n t d).die n t = d := SMap.get_put_self ..

/-- The entry of a lode just written reads back, and every other one as before. -/
theorem State.lode_setLode (s : State) (g n g' n' : Nat) (l : Lode) :
    (s.setLode g n l).lode g' n' = if lodeKey g' n' = lodeKey g n then l else s.lode g' n' := by
  unfold State.lode State.setLode
  split
  next h => rw [h, SMap.get_put_self]
  next h => exact SMap.get_put_ne _ _ h _ _

theorem State.lode_setLode_self (s : State) (g n : Nat) (l : Lode) : (s.setLode g n l).lode g n = l := SMap.get_put_self ..

section
variable {l : List Part} {s t : State} (h : keepsBut l s t) (hm : Part.stk ∈ l)
include h hm

theorem keepsBut_setLode {g n : Nat} {x : Lode} : keepsBut l s (t.setLode g n x) := keepsBut_stk h hm

theorem keepsBut_setBlk {n d b : Nat} {e : Blk} : keepsBut l s (t.setBlk n d b e) := keepsBut_stk h hm

theorem keepsBut_setDie {n d : Nat} {e : DieErase} : keepsBut l s (t.setDie n d e) := keepsBut_stk h hm

theorem keepsBut_journal {r : JRec} : keepsBut l s (t.journal r) := keepsBut_stk h hm

theorem keepsBut_addIntent {i : Intent} {r : JRec} : keepsBut l s (t.addIntent i r) := keepsBut_journal (keepsBut_stk h hm) hm

end

/-! ### What a page read leaves alone (R221, R237 to R240, R247)

A page read counts at its channels' registers, in the block's entry and in the Core log's samples. The registers of a channel lie at the
same offsets on every channel, so the words that stay are named by offset. -/

/-- The words of an event's status bit lie at none of the offsets of NCH_STATUS, NCH_CNT_REBUILD and NCH_CNT_SUSP. -/
theorem evsBit_offset (src : Nat) : (evsBit src).1.addr % 0x2000 ≠ 0 ∧ (evsBit src).1.addr % 0x2000 ≠ 0xc ∧
    (evsBit src).1.addr % 0x2000 ≠ 0x1c ∧ (evsBit src).1.addr % 0x2000 ≠ 0x24 := by
  unfold evsBit
  repeat' split
  all_goals simp only [DCH_EVS.STATUS, NCH_EVS.STATUS, HPT_EVS.STATUS, GAL_EVS.STATUS, CIP_EVS.STATUS, LGR_EVS.STATUS,
    SEQ_EVS0.STATUS, SEQ_EVS1.STATUS, SEQ_EVS2.STATUS, TWB_EVS.STATUS, CLK_EVS.STATUS, FLT_EVS.STATUS]
  all_goals omega

/-- Page reads lead from `s` to `t`: the words at the offsets `l` of a channel, the dies that erase, and where a block stands in its
lode are as before. -/
structure State.ReadStep (l : List Nat) (s t : State) : Prop where
  parts : keepsBut [.regs, .stk, .flt, .clg, .free] s t
  words : ∀ a, a % 0x2000 ∈ l → t.word a = s.word a
  dies : t.stk.dies = s.stk.dies
  remaps : t.stk.remaps = s.stk.remaps
  broken : t.stk.broken = s.stk.broken
  blk : ∀ n d b, (t.blk n d b).st = (s.blk n d b).st ∧ (t.blk n d b).slot = (s.blk n d b).slot ∧
    (t.blk n d b).slotLode = (s.blk n d b).slotLode

/-- The offsets of NCH_STATUS, NCH_RLV, NCH_CNT_REBUILD and NCH_CNT_SUSP. -/
abbrev senseKeeps : List Nat := [0, 0xc, 0x1c, 0x24]

/-- What the sense of a page does once the read is counted at the block and its die has answered. -/
structure State.SenseStep (s t : State) : Prop extends State.ReadStep senseKeeps s t where
  silent : t.stk.silent = s.stk.silent
  reads : ∀ n d b, (t.blk n d b).reads = (s.blk n d b).reads

namespace State.ReadStep

variable {l m : List Nat} {s t u : State}

theorem refl (l : List Nat) (s : State) : State.ReadStep l s s :=
  ⟨keepsBut_refl _ s, fun _ _ => rfl, rfl, rfl, rfl, fun _ _ _ => ⟨rfl, rfl, rfl⟩⟩

theorem mono (h : State.ReadStep l s t) (hm : m ⊆ l) : State.ReadStep m s t :=
  ⟨h.parts, fun a ha => h.words a (hm ha), h.dies, h.remaps, h.broken, h.blk⟩

theorem trans (h : State.ReadStep l s t) (h' : State.ReadStep l t u) : State.ReadStep l s u where
  parts := keepsBut_trans h.parts h'.parts
  words a ha := (h'.words a ha).trans (h.words a ha)
  dies := h'.dies.trans h.dies
  remaps := h'.remaps.trans h.remaps
  broken := h'.broken.trans h.broken
  blk n d b :=
    have ⟨hst, hslot, hlode⟩ := h.blk n d b
    have ⟨hst', hslot', hlode'⟩ := h'.blk n d b
    ⟨hst'.trans hst, hslot'.trans hslot, hlode'.trans hlode⟩

theorem forEach {A : Type} {as : List A} {f : State → A → State} (h : State.ReadStep l s t)
    (hf : ∀ t a, State.ReadStep l s t → State.ReadStep l s (f t a)) : State.ReadStep l s (t.forEach as f) := by
  unfold State.forEach
  induction as generalizing t with
  | nil => exact h
  | cons a as ih => exact ih (hf t a h)

theorem setWord {a : Nat} {w : Word} (h : State.ReadStep l s t) (ha : a % 0x2000 ∉ l) : State.ReadStep l s (t.setWord a w) where
  parts := keepsBut_setWord h.parts (by decide)
  words b hb := (State.word_setWord_ne t (fun e : b = a => ha (e ▸ hb)) w).trans (h.words b hb)
  dies := h.dies
  remaps := h.remaps
  broken := h.broken
  blk := h.blk

theorem raiseQ {src : Nat} {q : Bool} (h : State.ReadStep l s t) (hl : l ⊆ senseKeeps) : State.ReadStep l s (t.raiseQ src q) := by
  obtain ⟨h0, hc, h1c, h24⟩ := evsBit_offset src
  have hw : State.ReadStep l s (t.setBit (evsBit src).1 (evsBit src).2 true) := h.setWord fun hm => by
    have := hl hm
    simp only [List.mem_cons, List.not_mem_nil, or_false] at this
    omega
  exact ⟨keepsBut_flt hw.parts (by decide), hw.words, hw.dies, hw.remaps, hw.broken, hw.blk⟩

theorem patrolEnds {n d b : Nat} (h : State.ReadStep l s t) : State.ReadStep l s (t.patrolEnds n d b) :=
  ⟨keepsBut_stk h.parts (by decide), h.words, h.dies, h.remaps, h.broken, h.blk⟩

theorem dieAnswers {n d : Nat} (h : State.ReadStep l s t) : State.ReadStep l s (t.dieAnswers n d) :=
  ⟨keepsBut_stk h.parts (by decide), h.words, h.dies, h.remaps, h.broken, h.blk⟩

theorem setBlk {n d b : Nat} {e : Blk} (h : State.ReadStep l s t) (he : e.st = (t.blk n d b).st ∧ e.slot = (t.blk n d b).slot ∧
    e.slotLode = (t.blk n d b).slotLode) : State.ReadStep l s (t.setBlk n d b e) where
  parts := keepsBut_stk h.parts (by decide)
  words := h.words
  dies := h.dies
  remaps := h.remaps
  broken := h.broken
  blk n' d' b' := by
    rw [State.blk_setBlk]
    split
    next hk =>
      have hsame : t.blk n d b = t.blk n' d' b' := by rw [State.blk, State.blk, hk]
      obtain ⟨hst, hslot, hlode⟩ := h.blk n' d' b'
      rw [he.1, he.2.1, he.2.2, hsame]
      exact ⟨hst, hslot, hlode⟩
    next => exact h.blk n' d' b'

end State.ReadStep

namespace State.SenseStep

variable {s t : State}

theorem refl (s : State) : State.SenseStep s s := ⟨.refl _ s, rfl, fun _ _ _ => rfl⟩

theorem ite {c : Prop} [Decidable c] {u : State} (ht : State.SenseStep s t) (hu : State.SenseStep s u) :
    State.SenseStep s (if c then t else u) := by
  split
  · exact ht
  · exact hu

theorem forEach {A : Type} {as : List A} {f : State → A → State} (h : State.SenseStep s t)
    (hf : ∀ t a, State.SenseStep s t → State.SenseStep s (f t a)) : State.SenseStep s (t.forEach as f) := by
  unfold State.forEach
  induction as generalizing t with
  | nil => exact h
  | cons a as ih => exact ih (hf t a h)

theorem setWord {a : Nat} {w : Word} (h : State.SenseStep s t) (ha : a % 0x2000 ∉ senseKeeps) : State.SenseStep s (t.setWord a w) :=
  ⟨h.toReadStep.setWord ha, h.silent, h.reads⟩

theorem addWrap {f : Fld} {n : Nat} (h : State.SenseStep s t) (hf : f.addr % 0x2000 ∉ senseKeeps) :
    State.SenseStep s (t.addWrap f n) := h.setWord hf

theorem when {b : Bool} {f : State → State} (h : State.SenseStep s t) (hf : ∀ t, State.SenseStep s t → State.SenseStep s (f t)) :
    State.SenseStep s (t.when b f) := ite (hf t h) h

theorem clg {x : ClgSt} (h : State.SenseStep s t) : State.SenseStep s { t with clg := x } :=
  ⟨⟨keepsBut_clg h.parts (by decide), h.words, h.dies, h.remaps, h.broken, h.blk⟩, h.silent, h.reads⟩

theorem draw {n : Nat} (h : State.SenseStep s t) : State.SenseStep s (t.draw n).2 :=
  ⟨⟨keepsBut_free h.parts (by decide), h.words, h.dies, h.remaps, h.broken, h.blk⟩, h.silent, h.reads⟩

theorem setLode {g n : Nat} {x : Lode} (h : State.SenseStep s t) : State.SenseStep s (t.setLode g n x) :=
  ⟨⟨keepsBut_stk h.parts (by decide), h.words, h.dies, h.remaps, h.broken, h.blk⟩, h.silent, h.reads⟩

theorem putAcc {n key : Nat} {a : List Int} (h : State.SenseStep s t) : State.SenseStep s (t.putAcc n key a) :=
  ⟨⟨keepsBut_stk h.parts (by decide), h.words, h.dies, h.remaps, h.broken, h.blk⟩, h.silent, h.reads⟩

theorem setBlk {n d b : Nat} {e : Blk} (h : State.SenseStep s t) (he : e.st = (t.blk n d b).st ∧ e.slot = (t.blk n d b).slot ∧
    e.slotLode = (t.blk n d b).slotLode) (hr : e.reads = (t.blk n d b).reads) : State.SenseStep s (t.setBlk n d b e) where
  toReadStep := h.toReadStep.setBlk he
  silent := h.silent
  reads n' d' b' := by
    rw [State.blk_setBlk]
    split
    next hk => rw [hr, ← h.reads, State.blk, State.blk, hk]
    next => exact h.reads n' d' b'

theorem sample {f : Nat} {v : Int} (h : State.SenseStep s t) : State.SenseStep s (t.sample f v) := by
  unfold State.sample
  extract_lets k d a
  have hd : State.SenseStep s d.2 := by
    change State.SenseStep s (if k = 0 then (0, t) else t.draw (2 ^ k)).2
    split
    · exact h
    · exact h.draw
  exact ite hd.clg h

/-- The words in which decoded codewords and retries are counted are none that stay. -/
theorem counted (n : Nat) : (NCH_CNT_CW.COUNT n).addr % 0x2000 ∉ senseKeeps ∧ (NCH_CNT_BITS.COUNT n).addr % 0x2000 ∉ senseKeeps ∧
    (NCH_CWMAX.BITS n).addr % 0x2000 ∉ senseKeeps ∧ (NCH_CNT_RETRY.RETRY n).addr % 0x2000 ∉ senseKeeps := by
  simp only [NCH_CNT_CW.COUNT, NCH_CNT_BITS.COUNT, NCH_CWMAX.BITS, NCH_CNT_RETRY.RETRY, Nat.add_mul_mod_self_right]
  decide

theorem countCw {n d b : Nat} {cw : List Nat} (h : State.SenseStep s t) : State.SenseStep s (t.countCw n d b cw) := by
  obtain ⟨hcw, hbits, hmax, -⟩ := counted n
  refine forEach (when (addWrap (addWrap (setBlk h ?_ ?_) hcw) hbits) fun _ h => h.setWord hmax) fun _ _ => sample
  · exact ⟨rfl, rfl, rfl⟩
  · rfl

theorem climb {n d b page : Nat} {rung : Option Nat} (h : State.SenseStep s t) : State.SenseStep s (t.climb n d b page rung) := by
  obtain ⟨-, -, -, hretry⟩ := counted n
  refine setWord (setWord (setBlk h ?_ ?_) hretry) hretry
  · exact ⟨rfl, rfl, rfl⟩
  · rfl

theorem trackRead {n d b page : Nat} {dir : List Int} (h : State.SenseStep s t) : State.SenseStep s (t.trackRead n d b page dir) :=
  ite (h.putAcc.setBlk ⟨rfl, rfl, rfl⟩ rfl) h

theorem flagRefresh {n d b : Nat} {cw : List Nat} (h : State.SenseStep s t) : State.SenseStep s (t.flagRefresh n d b cw) :=
  ite h.setLode h

end State.SenseStep

/-- A block's page read is counted, and its die has answered. -/
def State.readCounted (s : State) (n t b : Nat) : State :=
  (s.setBlk n t b { s.blk n t b with reads := (s.blk n t b).reads + 1 }).dieAnswers n t

/-- The rest of a page's sense leaves these counts alone. -/
theorem State.sense_senseStep (s : State) (n t b page : Nat) (p : PageTry) : State.SenseStep (s.readCounted n t b) (s.sense n t b page p) :=
  .flagRefresh (.trackRead (.ite (.refl _) (.climb (.countCw (.refl _)))))

/-- The sense of a page adds one to its block's reads (R247). -/
theorem State.reads_sense (s : State) (n t b page : Nat) (p : PageTry) :
    ((s.sense n t b page p).blk n t b).reads = (s.blk n t b).reads + 1 :=
  ((s.sense_senseStep n t b page p).reads n t b).trans (congrArg Blk.reads (State.blk_setBlk_self ..))

/-- And its die answers (R251). -/
theorem State.silent_sense (s : State) (n t b page : Nat) (p : PageTry) :
    SMap.get 0 (dieKey n t) (s.sense n t b page p).stk.silent = 0 := by
  rw [(s.sense_senseStep n t b page p).silent]
  exact SMap.get_put_self 0 (dieKey n t) 0 s.stk.silent

namespace State.ReadStep

variable {l : List Nat} {s t : State}

theorem sense {n d b page : Nat} {p : PageTry} (h : State.ReadStep senseKeeps s t) : State.ReadStep senseKeeps s (t.sense n d b page p) :=
  have hcounted : State.ReadStep senseKeeps s (t.readCounted n d b) := dieAnswers (h.setBlk ⟨rfl, rfl, rfl⟩)
  hcounted.trans (t.sense_senseStep n d b page p).toReadStep

theorem rd (h : State.ReadStep l s t) {f : Fld} (hf : f.addr % 0x2000 ∈ l) : t.rd f = s.rd f := by
  rw [State.rd, State.rd, h.words _ hf]


end State.ReadStep

/-- Lodes, spare pools and REMAPs lie in `t` where they lie in `s` (R209 to R215, R227). -/
structure State.SameMap (s t : State) : Prop where
  svy : t.svy = s.svy
  remaps : t.stk.remaps = s.stk.remaps
  broken : t.stk.broken = s.stk.broken

namespace State.SameMap

variable {s t : State} (h : State.SameMap s t)
include h

theorem sv (f : SFld) : t.sv f = s.sv f := by rw [State.sv, State.sv, h.svy]

theorem targets (n : Nat) : t.targets n = s.targets n := by rw [State.targets, State.targets, h.sv]

theorem slotBlock (n lode d p : Nat) : t.slotBlock n lode d p = s.slotBlock n lode d p := by
  rw [State.slotBlock, State.slotBlock, h.remaps, h.sv]

theorem sumpBase (g : Nat) : t.sumpBase g = s.sumpBase g := h.sv _

theorem stockBase (g : Nat) : t.stockBase g = s.stockBase g := by rw [State.stockBase, State.stockBase, h.sumpBase, h.sv]

theorem fallowBase (g : Nat) : t.fallowBase g = s.fallowBase g := by rw [State.fallowBase, State.fallowBase, h.stockBase, h.sv]

theorem brokenUp (g n : Nat) : t.brokenUp g n = s.brokenUp g n := by
  rw [State.brokenUp, State.brokenUp, h.fallowBase, h.sv, h.broken]

theorem inSparePool (n d b : Nat) : t.inSparePool n d b = s.inSparePool n d b := by
  unfold State.inSparePool
  dsimp only
  rw [h.sv, h.sumpBase, h.brokenUp]

/-- A block whose SLOT stands fills the slot that it filled, of the same lode. -/
theorem blockPlace {n d b : Nat} (hslot : (t.blk n d b).slot = (s.blk n d b).slot)
    (hlode : (t.blk n d b).slotLode = (s.blk n d b).slotLode) :
    t.blockSlot n d b = s.blockSlot n d b ∧ t.blockLode n d b = s.blockLode n d b := by
  unfold State.blockSlot State.blockLode
  dsimp only
  rw [h.sv, hslot, hlode]
  exact ⟨rfl, rfl⟩

/-- And serves it as before. -/
theorem blockServes {n d b : Nat} (hslot : (t.blk n d b).slot = (s.blk n d b).slot)
    (hlode : (t.blk n d b).slotLode = (s.blk n d b).slotLode) : t.blockServes n d b = s.blockServes n d b := by
  obtain ⟨hplace, hof⟩ := h.blockPlace hslot hlode
  unfold State.blockServes
  dsimp only
  rw [h.sv, hplace, hof, h.slotBlock, h.inSparePool, h.fallowBase, hslot]

end State.SameMap

namespace State.ReadStep

variable {l : List Nat} {s t : State}

theorem map (h : State.ReadStep l s t) : State.SameMap s t := ⟨h.parts .svy (by decide), h.remaps, h.broken⟩

theorem canRead (h : State.ReadStep senseKeeps s t) (n d b : Nat) : t.canRead n d b = s.canRead n d b := by
  have hstate := h.rd (f := NCH_STATUS.STATE n) (by simp [NCH_STATUS.STATE])
  have hretired := h.rd (f := NCH_STATUS.TGT_RETIRED n) (by simp [NCH_STATUS.TGT_RETIRED])
  obtain ⟨hst, -, -⟩ := h.blk n d b
  simp only [State.canRead, State.blkReadable, hstate, hretired, hst]

theorem decodes (h : State.ReadStep senseKeeps s t) (n : Nat) (p : PageTry) : t.decodes n p = s.decodes n p := by
  have hmax := h.rd (f := NCH_RLV.RETRY_MAX n) (by simp [NCH_RLV.RETRY_MAX])
  have hsoft := h.rd (f := NCH_RLV.SOFT_EN n) (by simp [NCH_RLV.SOFT_EN])
  simp only [State.decodes, State.on, hmax, hsoft]

theorem blockServes (h : State.ReadStep l s t) (n d b : Nat) : t.blockServes n d b = s.blockServes n d b := by
  obtain ⟨-, hslot, hlode⟩ := h.blk n d b
  exact h.map.blockServes hslot hlode

theorem stripeMates (h : State.ReadStep l s t) (n d b : Nat) : t.stripeMates n d b = s.stripeMates n d b := by
  obtain ⟨-, hslot, hlode⟩ := h.blk n d b
  obtain ⟨hplace, hof⟩ := h.map.blockPlace hslot hlode
  simp only [State.stripeMates, hplace, hof, h.map.slotBlock]

theorem rebuildPage {inp : NandRead} (h : State.ReadStep senseKeeps s t) : State.ReadStep senseKeeps s (t.rebuildPage inp).2 := by
  unfold State.rebuildPage
  split
  · exact h.forEach fun _ _ => sense
  · exact h

end State.ReadStep

/-- The other eight pages of a page's stripe can be read, and decode (R240). -/
def State.matesDecode (s : State) (inp : NandRead) : Bool :=
  (s.stripeMates inp.channel inp.target inp.block).zipIdx.all (fun x =>
    s.canRead x.1.1 x.1.2.1 x.1.2.2 && s.decodes x.1.1 (inp.others.getD x.2 ⟨false, none, [], []⟩))

/-- A page is rebuilt where its block serves a lode and the other eight pages decode (R240). -/
theorem State.rebuildPage_fst (s : State) (inp : NandRead) :
    (s.rebuildPage inp).1 = (s.blockServes inp.channel inp.target inp.block && s.matesDecode inp) := by
  unfold State.rebuildPage State.matesDecode
  split
  next h => simp [h, List.all_map, Function.comp_def]
  next h => simp [h]

theorem State.ReadStep.rebuildPage_fst {s t : State} (h : State.ReadStep senseKeeps s t) (inp : NandRead) :
    (t.rebuildPage inp).1 = (s.rebuildPage inp).1 := by
  simp only [State.rebuildPage_fst, State.matesDecode, h.blockServes, h.stripeMates, h.canRead, h.decodes]

/-- A block whose pages can be read is not UNSETTLED. -/
theorem State.blkReadable_of_canRead {s : State} {n t b : Nat} (h : s.canRead n t b = true) : s.blkReadable n t b = true := by
  simp only [State.canRead, Bool.and_eq_true] at h
  exact h.2

/-- The state once a page that can be read has been sensed. -/
def State.sensed (s : State) (inp : NandRead) : State := s.sense inp.channel inp.target inp.block inp.page inp.page0

section
variable {s : State} {inp : NandRead} (hread : s.canRead inp.channel inp.target inp.block = true)
include hread

/-- A page that decodes is had by its own ladder (R239). -/
theorem State.readPage_of_decodes (hdec : s.decodes inp.channel inp.page0 = true) : s.readPage inp = (true, s.sensed inp) := by
  simp [State.readPage, hread, hdec, State.blkReadable_of_canRead hread, State.when, State.sensed]

/-- One that does not, and that can be rebuilt, is counted so (R240). -/
theorem State.readPage_of_rebuilt (hdec : s.decodes inp.channel inp.page0 = false) (her : inp.page0.erased = false)
    (hmates : ((s.sensed inp).rebuildPage inp).1 = true) :
    s.readPage inp = (true, ((s.sensed inp).rebuildPage inp).2.addSat (NCH_CNT_REBUILD.PAGES inp.channel) 1) := by
  simp only [State.sensed] at hmates ⊢
  simp [State.readPage, hread, hdec, her, State.blkReadable_of_canRead hread, State.when, hmates]

/-- And one that cannot be rebuilt is unreadable, and raised (R240, R510). -/
theorem State.readPage_of_unreadable (hdec : s.decodes inp.channel inp.page0 = false) (her : inp.page0.erased = false)
    (hmates : ((s.sensed inp).rebuildPage inp).1 = false) :
    s.readPage inp = (false, (((s.sensed inp).rebuildPage inp).2.addSat (NCH_CNT_REBUILD.UNREAD inp.channel) 1).raiseQ
      (216 + 4 * inp.channel) inp.demand) := by
  simp only [State.sensed] at hmates ⊢
  simp [State.readPage, hread, hdec, her, State.blkReadable_of_canRead hread, State.when, hmates]

end

namespace State.ReadStep

variable {s t : State}

theorem sensed {inp : NandRead} (h : State.ReadStep senseKeeps s t) : State.ReadStep senseKeeps s (t.sensed inp) := h.sense

/-- What of the senses' words stays through the count of a page rebuilt or unreadable: those of NCH_STATUS and NCH_CNT_SUSP. -/
theorem countRebuild {f : Fld} (h : State.ReadStep senseKeeps s t) (hf : f.addr % 0x2000 = 0x1c) (n : Nat) :
    State.ReadStep [0, 0x24] s (t.addSat f n) := (h.mono (by decide)).setWord (by simp [hf])

theorem ite_snd {A : Type} {l : List Nat} {c : Prop} [Decidable c] {x y : A × State} (hx : State.ReadStep l s x.2)
    (hy : State.ReadStep l s y.2) : State.ReadStep l s (if c then x else y).2 := by
  split
  · exact hx
  · exact hy

theorem readPage {inp : NandRead} (h : State.ReadStep senseKeeps s t) : State.ReadStep [0, 0x24] s (t.readPage inp).2 := by
  have hstay := h.mono (m := [0, 0x24]) (by decide)
  have hsense : State.ReadStep senseKeeps s (t.when (t.canRead inp.channel inp.target inp.block)
      fun s => s.sensed inp) := by
    unfold State.when
    split
    · exact h.sensed
    · exact h
  have hpages : (NCH_CNT_REBUILD.PAGES inp.channel).addr % 0x2000 = 0x1c := by simp [NCH_CNT_REBUILD.PAGES]
  have hunread : (NCH_CNT_REBUILD.UNREAD inp.channel).addr % 0x2000 = 0x1c := by simp [NCH_CNT_REBUILD.UNREAD]
  unfold State.readPage
  extract_lets n own u r
  refine ite_snd hstay (ite_snd (hsense.mono (by decide)) (ite_snd (hsense.mono (by decide)) (ite_snd ?_ ?_)))
  · exact hsense.rebuildPage.countRebuild hpages 1
  · exact (hsense.rebuildPage.countRebuild hunread 1).raiseQ (by decide)

theorem ite {l : List Nat} {u : State} {c : Prop} [Decidable c] (ht : State.ReadStep l s t) (hu : State.ReadStep l s u) :
    State.ReadStep l s (if c then t else u) := by
  split
  · exact ht
  · exact hu

theorem pageRead {inp : NandRead} {patrol : Bool} (t : State) : State.ReadStep [0, 0x24] t (t.pageRead inp patrol) :=
  readPage (ite (patrolEnds (.refl _ t)) (.refl _ t))

end State.ReadStep

/-! ### Page reads and suspended erases (R237 to R242, R247) -/

/-- The state in which a page read begins: patrol's hold on the lode has ended (R248). -/
def State.readBegun (s : State) (inp : NandRead) (patrol : Bool) : State :=
  s.when patrol (fun s => s.patrolEnds inp.channel inp.target inp.block)

theorem State.readStep_readBegun (l : List Nat) (s : State) (inp : NandRead) (patrol : Bool) :
    State.ReadStep l s (s.readBegun inp patrol) := .ite (.patrolEnds (.refl l s)) (.refl l s)

theorem State.readBegun_blk (s : State) (inp : NandRead) (patrol : Bool) (n t b : Nat) : (s.readBegun inp patrol).blk n t b = s.blk n t b := by
  cases patrol <;> rfl

/-- A read of a die that does not erase is served (R241). -/
theorem State.doNandRead_of_idle {s : State} {inp : NandRead} (hhub : s.hubOn = true) (hchan : inp.channel < 72)
    (hidle : (s.die inp.channel inp.target).busy = false) (patrol : Bool) :
    s.doNandRead inp patrol = ((s.readBegun inp patrol).readPage inp).2 := by
  simp only [State.doNandRead, hhub, hchan, hidle, decide_true, Bool.and_self, Bool.not_false, Bool.true_or, if_true]
  rfl

/-- A read waits for a die that erases, behind those that wait already. -/
def State.readQueued (s : State) (inp : NandRead) (patrol : Bool) : State :=
  s.setDie inp.channel inp.target
    { s.die inp.channel inp.target with queued := (s.die inp.channel inp.target).queued ++ [(inp, patrol)] }

/-- A read that no demand stands behind waits for the erase (R241). -/
theorem State.doNandRead_of_waits {s : State} {inp : NandRead} (hhub : s.hubOn = true) (hchan : inp.channel < 72)
    (hbusy : (s.die inp.channel inp.target).busy = true) (hdemand : inp.demand = false) (patrol : Bool) :
    s.doNandRead inp patrol = s.readQueued inp patrol := by
  simp [State.doNandRead, hhub, hchan, hbusy, hdemand, State.when, State.readQueued]

@[simp] theorem State.setDie_maySuspend (s : State) (n t m : Nat) (d e : DieErase) : (s.setDie n t d).maySuspend m e = s.maySuspend m e := rfl

@[simp] theorem State.setDie_resumeOver (s : State) (n t m : Nat) (d e : DieErase) : (s.setDie n t d).resumeOver m e = s.resumeOver m e := rfl

/-- A demand read suspends an erase that may be suspended (R241). -/
theorem State.doNandRead_of_suspends {s : State} {inp : NandRead} (hhub : s.hubOn = true) (hchan : inp.channel < 72)
    (hbusy : (s.die inp.channel inp.target).busy = true) (hrun : (s.die inp.channel inp.target).suspended = false)
    (hdemand : inp.demand = true) (hmay : s.maySuspend inp.channel (s.die inp.channel inp.target) = true)
    (hover : s.resumeOver inp.channel (s.die inp.channel inp.target) = true) (patrol : Bool) :
    s.doNandRead inp patrol = (s.readQueued inp patrol).suspend inp.channel inp.target := by
  simp [State.doNandRead, State.readQueued, hhub, hchan, hbusy, hrun, hdemand, State.when, hmay, hover]

/-- The parts of the state that page reads reach. -/
abbrev readParts : List Part := [.regs, .stk, .flt, .clg, .free]

/-- An erase that is suspended once more; the demand reads that waited for it do so no longer (R241). -/
def DieErase.suspend (d : DieErase) : DieErase :=
  { d with suspended := true, count := d.count + 1, queued := d.queued.filter (fun r => !r.1.demand) }

section
variable (s : State) (n t : Nat)

/-- A suspended erase, before the demand reads that waited for it are served. -/
def State.suspendNoted (s : State) (n t : Nat) : State :=
  ((s.setDie n t (s.die n t).suspend).wr (NCH_STATUS.SUSPENDED n) 1).addWrap (NCH_CNT_SUSP.COUNT n) 1

/-- The reads served within a suspension leave alone what it shows. -/
theorem State.suspend_readStep : State.ReadStep [0, 0x24] (s.suspendNoted n t) (s.suspend n t) :=
  .forEach (.refl _ _) fun t _ h => h.trans (.pageRead t)

theorem State.die_suspend : (s.suspend n t).die n t = (s.die n t).suspend := by
  rw [State.die, (s.suspend_readStep n t).dies]
  exact State.die_setDie_self s n t (s.die n t).suspend

theorem State.rd_suspend_suspended : (s.suspend n t).rd (NCH_STATUS.SUSPENDED n) = 1 := by
  rw [(s.suspend_readStep n t).rd (by simp [NCH_STATUS.SUSPENDED]), State.suspendNoted,
    State.rd_addWrap_apart _ (Nat.le_of_ble_eq_true rfl) (.inl (by simp only [NCH_STATUS.SUSPENDED, NCH_CNT_SUSP.COUNT]; omega))]
  exact State.rd_wr_self _ (by simp [NCH_STATUS.SUSPENDED]) (by simp [NCH_STATUS.SUSPENDED])

theorem State.rd_suspend_count : (s.suspend n t).rd (NCH_CNT_SUSP.COUNT n) =
    (s.rd (NCH_CNT_SUSP.COUNT n) + 1) % 2 ^ (NCH_CNT_SUSP.COUNT n).width := by
  have hne : (NCH_CNT_SUSP.COUNT n).addr ≠ (NCH_STATUS.SUSPENDED n).addr := by
    simp only [NCH_STATUS.SUSPENDED, NCH_CNT_SUSP.COUNT]; omega
  rw [(s.suspend_readStep n t).rd (by simp [NCH_CNT_SUSP.COUNT]), State.suspendNoted,
    State.rd_addWrap_self _ (Nat.le_of_ble_eq_true rfl), State.rd_wr_ne _ hne]
  rfl

theorem State.suspend_keepsBut : keepsBut readParts s (s.suspend n t) := by
  have hnoted : keepsBut readParts s (s.suspendNoted n t) :=
    keepsBut_addWrap (keepsBut_wr (keepsBut_stk (keepsBut_refl _ s) (by decide)) (by decide)) (by decide)
  exact keepsBut_trans hnoted (s.suspend_readStep n t).parts

end

section
variable {s : State} {inp : NandRead}

/-- What a read whose page decodes counts, and that no rebuild is counted (R239, R247). -/
theorem State.readPage_decodes_shows (hread : s.canRead inp.channel inp.target inp.block = true)
    (hdec : s.decodes inp.channel inp.page0 = true) :
    ((s.readPage inp).2.blk inp.channel inp.target inp.block).reads = (s.blk inp.channel inp.target inp.block).reads + 1 ∧
      SMap.get 0 (dieKey inp.channel inp.target) (s.readPage inp).2.stk.silent = 0 ∧ State.ReadStep senseKeeps s (s.readPage inp).2 := by
  rw [State.readPage_of_decodes hread hdec]
  exact ⟨State.reads_sense .., State.silent_sense .., .sense (.refl _ s)⟩

/-- A page rebuilt is counted, and shows as no unreadable one (R240). -/
theorem State.readPage_rebuilt_shows (hread : s.canRead inp.channel inp.target inp.block = true)
    (hdec : s.decodes inp.channel inp.page0 = false) (her : inp.page0.erased = false)
    (hserves : s.blockServes inp.channel inp.target inp.block = true) (hmates : s.matesDecode inp = true) :
    (s.readPage inp).2.rd (NCH_CNT_REBUILD.PAGES inp.channel) = min (s.rd (NCH_CNT_REBUILD.PAGES inp.channel) + 1)
        (2 ^ (NCH_CNT_REBUILD.PAGES inp.channel).width - 1) ∧
      (s.readPage inp).2.rd (NCH_CNT_REBUILD.UNREAD inp.channel) = s.rd (NCH_CNT_REBUILD.UNREAD inp.channel) := by
  have hsensed : State.ReadStep senseKeeps s (s.sensed inp) := .sensed (.refl _ s)
  have hrebuilt : ((s.sensed inp).rebuildPage inp).1 = true := by
    rw [hsensed.rebuildPage_fst, State.rebuildPage_fst, hserves, hmates]; rfl
  rw [State.readPage_of_rebuilt hread hdec her hrebuilt]
  refine ⟨(State.rd_addSat_self _ (Nat.le_of_ble_eq_true rfl) _).trans ?_, (State.rd_addSat_apart _ (Nat.le_of_ble_eq_true rfl) ?_ _).trans ?_⟩
  · rw [hsensed.rebuildPage.rd (by simp [NCH_CNT_REBUILD.PAGES])]
  · exact .inr (.inl (Nat.le_of_ble_eq_true rfl))
  · exact hsensed.rebuildPage.rd (by simp [NCH_CNT_REBUILD.UNREAD])

/-- A page that no stripe can rebuild is counted unreadable, and shows as no rebuilt one (R240). -/
theorem State.readPage_unreadable_shows (hread : s.canRead inp.channel inp.target inp.block = true)
    (hdec : s.decodes inp.channel inp.page0 = false) (her : inp.page0.erased = false)
    (hserves : s.blockServes inp.channel inp.target inp.block = false) :
    (s.readPage inp).2.rd (NCH_CNT_REBUILD.UNREAD inp.channel) = min (s.rd (NCH_CNT_REBUILD.UNREAD inp.channel) + 1)
        (2 ^ (NCH_CNT_REBUILD.UNREAD inp.channel).width - 1) ∧
      (s.readPage inp).2.rd (NCH_CNT_REBUILD.PAGES inp.channel) = s.rd (NCH_CNT_REBUILD.PAGES inp.channel) := by
  have hsensed : State.ReadStep senseKeeps s (s.sensed inp) := .sensed (.refl _ s)
  have hnone : ((s.sensed inp).rebuildPage inp).1 = false := by
    rw [hsensed.rebuildPage_fst, State.rebuildPage_fst, hserves]; rfl
  have hraise (t : State) (f : Fld) (hf : f.addr % 0x2000 = 0x1c) (src : Nat) (q : Bool) : (t.raiseQ src q).rd f = t.rd f := by
    obtain ⟨-, -, hoff, -⟩ := evsBit_offset src
    exact State.rd_wr_ne t (fun e => hoff (e ▸ hf)) _
  rw [State.readPage_of_unreadable hread hdec her hnone]
  dsimp only
  rw [hraise _ _ (by simp [NCH_CNT_REBUILD.UNREAD]), hraise _ _ (by simp [NCH_CNT_REBUILD.PAGES])]
  refine ⟨(State.rd_addSat_self _ (Nat.le_of_ble_eq_true rfl) _).trans ?_, (State.rd_addSat_apart _ (Nat.le_of_ble_eq_true rfl) ?_ _).trans ?_⟩
  · rw [hsensed.rebuildPage.rd (by simp [NCH_CNT_REBUILD.UNREAD])]
  · exact .inr (.inr (Nat.le_of_ble_eq_true rfl))
  · exact hsensed.rebuildPage.rd (by simp [NCH_CNT_REBUILD.PAGES])

end

/-! ### Intents and journal pages (R216, R217, R226, R227) -/

/-- What the intent journal keeps: its sequence number, the records that wait, the pages on NAND, the next page, and the intents. -/
def State.journalTables (s : State) : Nat × List JRec × List JPage × Nat × List Intent :=
  (s.stk.jseq, s.stk.jpend, s.stk.jrnl, s.stk.jpage, s.stk.intents)

/-- Erases that are issued, and programs that are refused or fail, lead from `s` to `t`: the journal is as before. -/
structure State.JournalStays (s t : State) : Prop where
  parts : keepsBut [.regs, .tick, .stk, .flt] s t
  tables : t.journalTables = s.journalTables

namespace State.JournalStays

variable {s t u : State}

theorem refl (s : State) : State.JournalStays s s := ⟨keepsBut_refl _ s, rfl⟩

theorem ite {c : Prop} [Decidable c] (ht : State.JournalStays s t) (hu : State.JournalStays s u) :
    State.JournalStays s (if c then t else u) := by
  split
  · exact ht
  · exact hu

theorem when {b : Bool} {f : State → State} (h : State.JournalStays s t)
    (hf : ∀ t, State.JournalStays s t → State.JournalStays s (f t)) : State.JournalStays s (t.when b f) := ite (hf t h) h

theorem forEach {A : Type} {as : List A} {f : State → A → State} (h : State.JournalStays s t)
    (hf : ∀ t a, State.JournalStays s t → State.JournalStays s (f t a)) : State.JournalStays s (t.forEach as f) := by
  unfold State.forEach
  induction as generalizing t with
  | nil => exact h
  | cons a as ih => exact ih (hf t a h)

theorem wr {f : Fld} {v : Nat} (h : State.JournalStays s t) : State.JournalStays s (t.wr f v) :=
  ⟨keepsBut_wr h.parts (by decide), h.tables⟩

theorem raise {src : Nat} (h : State.JournalStays s t) : State.JournalStays s (t.raise src) :=
  ⟨keepsBut_raise h.parts (by decide) (by decide), h.tables⟩

theorem setBlk {n d b : Nat} {e : Blk} (h : State.JournalStays s t) : State.JournalStays s (t.setBlk n d b e) :=
  ⟨keepsBut_stk h.parts (by decide), h.tables⟩

theorem setLode {g n : Nat} {l : Lode} (h : State.JournalStays s t) : State.JournalStays s (t.setLode g n l) :=
  ⟨keepsBut_stk h.parts (by decide), h.tables⟩

theorem setDie {n d : Nat} {e : DieErase} (h : State.JournalStays s t) : State.JournalStays s (t.setDie n d e) :=
  ⟨keepsBut_stk h.parts (by decide), h.tables⟩

theorem bootTables {l : List Nat} {m : SMap Nat} (h : State.JournalStays s t) :
    State.JournalStays s { t with stk := { t.stk with bootBad := l, bootMap := m } } :=
  ⟨keepsBut_stk h.parts (by decide), h.tables⟩

theorem wpRefuse {n : Nat} (h : State.JournalStays s t) : State.JournalStays s (t.wpRefuse n) := h.wr.raise

theorem bootFail {copy b : Nat} (h : State.JournalStays s t) : State.JournalStays s (t.bootFail copy b) := by
  unfold State.bootFail
  extract_lets x k y
  have hy : State.JournalStays s y := bootTables (m := t.stk.bootMap) (raise (wr h))
  split
  · exact hy
  · exact bootTables (l := y.stk.bootBad) hy

theorem bootProgram {b : Nat} {l : List (Nat × Bool)} (h : State.JournalStays s t) : State.JournalStays s (t.bootProgram b l) :=
  forEach h fun _ _ h => ite (wpRefuse h) (when h fun _ => bootFail)

theorem issueErase {i : Intent} (h : State.JournalStays s t) : State.JournalStays s (t.issueErase i) :=
  forEach (ite (setLode (forEach h fun _ _ => setBlk)) (setBlk (setBlk (forEach h fun _ _ => setBlk))))
    fun _ _ h => ite (when h fun _ => setDie) (wpRefuse h)

end State.JournalStays

section
variable {s : State} {ok0 ok36 : Bool}

/-- Where a journal page is due it is programmed on both channels, and counts as written where both took it (R226). -/
theorem State.doJournal_of_due (hhub : s.hubOn = true) (hfree : s.bootFree = true) (hpend : s.stk.jpend ≠ [])
    (hroom : s.journalRoom = true) : s.doJournal ok0 ok36 =
      (s.bootProgram (s.bootPageBlock bootJournal s.stk.jpage) [(0, ok0), (1, ok36)]).when
        (s.bootWrote 0 (s.bootPageBlock bootJournal s.stk.jpage) ok0 && s.bootWrote 1 (s.bootPageBlock bootJournal s.stk.jpage) ok36)
        State.journalWritten := by
  have hsome : s.stk.jpend.isEmpty = false := by simpa using hpend
  simp [State.doJournal, hhub, hfree, hsome, hroom]

/-- A page that both channels take is programmed without more ado (R217). -/
theorem State.bootProgram_of_wrote {b : Nat} (h0 : s.bootWrote 0 b ok0 = true) (h36 : s.bootWrote 1 b ok36 = true) :
    s.bootProgram b [(0, ok0), (1, ok36)] = s := by
  simp only [State.bootWrote, Bool.and_eq_true] at h0 h36
  simp [State.bootProgram, State.forEach, State.when, h0, h36]

end

/-- The journal once its next page is on NAND, before the erases whose INTENT it holds are issued (R226, R227). -/
def State.journalPaged (s : State) : State :=
  { s with stk := { s.stk with
      jseq := s.stk.jseq + 1
      jpage := s.bootPageNext bootJournal s.stk.jpage
      jpend := []
      jrnl := ⟨s.stk.jpage, s.stk.jseq + 1, s.stk.jpend.map (fun r => { r with jseq := s.stk.jseq + 1 })⟩ :: s.journalKept
      intents := (s.stk.intents.filter (fun i => i.st != 2)).map (fun i => if i.st = 0 then { i with st := 1 } else i) } }

theorem State.journalWritten_stays (s : State) : State.JournalStays s.journalPaged s.journalWritten :=
  .forEach (.refl _) fun _ _ => .issueErase

/-- No intent waits for its INTENT record any more. -/
theorem State.intents_journalPaged (s : State) : s.journalPaged.stk.intents.all (fun i => i.st != 0) = true := by
  rw [State.journalPaged]
  simp only [List.all_map, List.all_eq_true, List.mem_filter, Function.comp_apply]
  rintro i -
  split
  · rfl
  next h => simpa using h

/-- Settles O26: a command at a NAND channel or the Stockpile has the effect that the lemma for its case gives. -/
theorem nandChannelFirst : Obligations.NandChannelFirst := by
  refine ⟨?_, ?_, ?_, ?_, ?_, ?_, ?_, ?_, ?_, ?_, ?_⟩
  · intro chan s hoff hlive hhub hchan
    have he : s.woGate (NCH_CTL.APPLY chan).addr (fun s => s.doNchApply chan) = { s with stk := { s.stk with
        applied := SMap.put 0 chan (s.word (NCH_IFCFG.RATE chan).addr) s.stk.applied } } := by
      simp [State.woGate, hlive, State.doNchApply, hhub, hchan]
    exact State.does_of_eq hoff (exec_nchApply ..) he ⟨SMap.get_put_self .., keepsBut_stk (keepsBut_refl _ s) (by decide)⟩
  · intro chan s hoff hlive hhub hchan
    have he : s.woGate (NCH_CWMAX.CLEAR chan).addr (fun s => s.doCwmaxClear chan) = s.wr (NCH_CWMAX.BITS chan) 0 := by
      simp [State.woGate, hlive, State.doCwmaxClear, hhub, hchan]
    exact State.does_of_eq hoff (exec_nchCwmaxClear ..) he
      ⟨State.rd_wr_zero s (Nat.le_of_ble_eq_true rfl), onlyWords_wr s (List.mem_singleton_self _)⟩
  · intro inp patrol s hoff hhub hchan hidle hread _ hdec
    have hbegun := s.readStep_readBegun senseKeeps inp patrol
    obtain ⟨hreads, hsilent, hstep⟩ := State.readPage_decodes_shows ((hbegun.canRead ..).trans hread) ((hbegun.decodes ..).trans hdec)
    have hkeeps := hbegun.trans hstep
    exact State.does_of_eq hoff (exec_nandPageReadDone ..) (State.doNandRead_of_idle hhub hchan hidle patrol)
      ⟨s.readBegun_blk inp patrol .. ▸ hreads, hsilent, hkeeps.rd (by simp [NCH_CNT_REBUILD.PAGES]),
        hkeeps.rd (by simp [NCH_CNT_REBUILD.UNREAD]), hkeeps.parts⟩
  · intro inp patrol s hoff hhub hchan hidle hread hdec her hserves hmates
    have hbegun := s.readStep_readBegun senseKeeps inp patrol
    have hmates' : (s.readBegun inp patrol).matesDecode inp = true := by
      simpa only [State.matesDecode, hbegun.stripeMates, hbegun.canRead, hbegun.decodes] using hmates
    obtain ⟨hpages, hunread⟩ := State.readPage_rebuilt_shows ((hbegun.canRead ..).trans hread) ((hbegun.decodes ..).trans hdec) her
      ((hbegun.blockServes ..).trans hserves) hmates'
    rw [hbegun.rd (by simp [NCH_CNT_REBUILD.PAGES])] at hpages
    rw [hbegun.rd (by simp [NCH_CNT_REBUILD.UNREAD])] at hunread
    exact State.does_of_eq hoff (exec_nandPageReadDone ..) (State.doNandRead_of_idle hhub hchan hidle patrol)
      ⟨hpages, hunread, hbegun.readPage.parts⟩
  · intro inp patrol s hoff hhub hchan hidle hread hdec her hserves
    have hbegun := s.readStep_readBegun senseKeeps inp patrol
    obtain ⟨hunread, hpages⟩ := State.readPage_unreadable_shows ((hbegun.canRead ..).trans hread) ((hbegun.decodes ..).trans hdec) her
      ((hbegun.blockServes ..).trans hserves)
    rw [hbegun.rd (by simp [NCH_CNT_REBUILD.PAGES])] at hpages
    rw [hbegun.rd (by simp [NCH_CNT_REBUILD.UNREAD])] at hunread
    exact State.does_of_eq hoff (exec_nandPageReadDone ..) (State.doNandRead_of_idle hhub hchan hidle patrol)
      ⟨hunread, hpages, hbegun.readPage.parts⟩
  · intro inp patrol s hoff hhub hchan hbusy hrun hdemand hmay hover
    have hdie : (s.readQueued inp patrol).die inp.channel inp.target = { s.die inp.channel inp.target with
        queued := (s.die inp.channel inp.target).queued ++ [(inp, patrol)] } := State.die_setDie_self ..
    have hsusp := (s.readQueued inp patrol).die_suspend inp.channel inp.target
    rw [hdie] at hsusp
    refine State.does_of_eq hoff (exec_nandPageReadDone ..)
      (State.doNandRead_of_suspends hhub hchan hbusy hrun hdemand hmay hover patrol)
      ⟨congrArg DieErase.suspended hsusp, congrArg DieErase.count hsusp, (congrArg DieErase.queued hsusp).trans ?_,
        State.rd_suspend_suspended .., State.rd_suspend_count ..,
        keepsBut_trans (keepsBut_setDie (keepsBut_refl _ s) (by decide)) (State.suspend_keepsBut _ _ _)⟩
    simp [DieErase.suspend, hdemand]
  · intro inp patrol s hoff hhub hchan hbusy hdemand
    exact State.does_of_eq hoff (exec_nandPageReadDone ..) (State.doNandRead_of_waits hhub hchan hbusy hdemand patrol)
      ⟨State.die_setDie_self .., keepsBut_stk (keepsBut_refl _ s) (by decide)⟩
  · rintro - g n s hoff hhub rfl hmay
    have he : s.doEraseStart (.lode g n) =
        (s.setLode g n { s.lode g n with st := lodeErasing }).addIntent (intentLode g n) (JRec.erase 1 (intentLode g n) 0) := by
      simp [State.doEraseStart, hhub, hmay]
    exact State.does_of_eq hoff (exec_lodeEraseStart ..) he
      ⟨congrArg Lode.st (State.lode_setLode_self s g n { s.lode g n with st := lodeErasing }), rfl, rfl,
        keepsBut_addIntent (keepsBut_setLode (keepsBut_refl _ s) (by decide)) (by decide)⟩
  · rintro - c t b s hoff hhub rfl _ hlone _
    have he : s.doEraseStart (.block c t b) =
        s.addIntent (intentBlock c t b) (JRec.erase 3 (intentBlock c t b) (s.blockErases c t b + 1)) := by
      simp [State.doEraseStart, hhub, State.eraseBlock, hlone]
    exact State.does_of_eq hoff (exec_lodeEraseStart ..) he
      ⟨rfl, rfl, rfl, keepsBut_addIntent (keepsBut_refl _ s) (by decide)⟩
  · intro ok0 ok36 s hoff hhub hfree hpend hroom h0 h36
    have he : s.doJournal ok0 ok36 = s.journalWritten := by
      rw [State.doJournal_of_due hhub hfree hpend hroom, State.bootProgram_of_wrote h0 h36, h0, h36]; rfl
    obtain ⟨hparts, htables⟩ := s.journalWritten_stays
    simp only [State.journalTables, Prod.mk.injEq] at htables
    obtain ⟨hseq, hjpend, hjrnl, hpage, hintents⟩ := htables
    exact State.does_of_eq hoff (exec_journalPageProgrammed ..) he ⟨hseq, hjpend, hjrnl, hpage, hintents ▸ s.intents_journalPaged,
      keepsBut_trans (keepsBut_stk (keepsBut_refl _ s) (by decide)) hparts⟩
  · intro ok0 ok36 s hoff hhub hfree hpend hroom hfails
    have hnot : (s.bootWrote 0 (s.bootPageBlock bootJournal s.stk.jpage) ok0 &&
        s.bootWrote 1 (s.bootPageBlock bootJournal s.stk.jpage) ok36) = false := Bool.and_eq_false_iff.2 hfails
    have he := State.doJournal_of_due (ok0 := ok0) (ok36 := ok36) hhub hfree hpend hroom
    rw [hnot] at he
    obtain ⟨hparts, htables⟩ : State.JournalStays s (s.bootProgram (s.bootPageBlock bootJournal s.stk.jpage) [(0, ok0), (1, ok36)]) :=
      .bootProgram (.refl s)
    simp only [State.journalTables, Prod.mk.injEq] at htables
    obtain ⟨hseq, hjpend, hjrnl, hpage, hintents⟩ := htables
    exact State.does_of_eq hoff (exec_journalPageProgrammed ..) he ⟨hseq, hjpend, hjrnl, hpage, hintents, hparts⟩

end Sys2Proof.Machine
end

section
/-! PROOFS. The NAND channels and the Stockpile: dies that do not answer, erases that end, patrol, and the moves of rework, fold and
rewrap (R225 to R228, R241 to R253). -/

namespace Sys2Proof.Machine

/-! ### What spare blocks, lost channels and DEGRADED groups leave alone (R215, R227, R250 to R252) -/

/-- The stripes a lode has taken since its last erase, and its erases. -/
def Lode.counts (l : Lode) : Nat × Nat := (l.used, l.erases)

/-- A change of listed values that leaves a reading of each of them alone leaves that of every key alone. -/
theorem get_map_reading {V A : Type} (d : V) (r : V → A) {f : Nat × V → Nat × V} (hkey : ∀ p, (f p).1 = p.1) (hr : ∀ p, r (f p).2 = r p.2)
    (k : Nat) (m : SMap V) : r (SMap.get d k (m.map f)) = r (SMap.get d k m) := by
  induction m with
  | nil => rfl
  | cons p m ih =>
    have hp : f p = (p.1, (f p).2) := Prod.ext (hkey p) rfl
    rw [List.map_cons, hp, SMap.get, SMap.get]
    split
    · exact hr p
    · exact ih

/-- What becomes of blocks, spares and groups leads from `s` to `t`: NCH_STATUS of every channel, the map entries, the dies that erase,
the intents and the counts of every lode are as before. -/
structure State.StockStep (s t : State) : Prop where
  parts : keepsBut [.regs, .slb, .haul, .stk, .flt] s t
  status : ∀ a, a % 0x2000 = 0 → 0x300000 ≤ a → a < 0x390000 → t.word a = s.word a
  lmap : t.slb.lmap = s.slb.lmap
  dies : t.stk.dies = s.stk.dies
  intents : t.stk.intents = s.stk.intents
  lodes : ∀ g n, (t.lode g n).counts = (s.lode g n).counts

namespace State.StockStep

variable {s t u : State}

theorem refl (s : State) : State.StockStep s s := ⟨keepsBut_refl _ s, fun _ _ _ _ => rfl, rfl, rfl, rfl, fun _ _ => rfl⟩

/-- A field of NCH_STATUS reads as before. -/
theorem rd (h : State.StockStep s t) {n : Nat} (hn : n < 72) {f : Fld} (hf : f.addr = 0x300000 + n * 0x2000) : t.rd f = s.rd f := by
  rw [State.rd, State.rd, h.status f.addr (by omega) (by omega) (by omega)]

theorem ite {c : Prop} [Decidable c] (ht : State.StockStep s t) (hu : State.StockStep s u) : State.StockStep s (if c then t else u) := by
  split
  · exact ht
  · exact hu

theorem when {b : Bool} {f : State → State} (h : State.StockStep s t) (hf : ∀ t, State.StockStep s t → State.StockStep s (f t)) :
    State.StockStep s (t.when b f) := ite (hf t h) h

theorem forEach {A : Type} {as : List A} {f : State → A → State} (h : State.StockStep s t)
    (hf : ∀ t a, State.StockStep s t → State.StockStep s (f t a)) : State.StockStep s (t.forEach as f) := by
  unfold State.forEach
  induction as generalizing t with
  | nil => exact h
  | cons a as ih => exact ih (hf t a h)

theorem wr {f : Fld} {v : Nat} (h : State.StockStep s t) (hf : f.addr < 0x300000 ∨ f.addr % 0x2000 ≠ 0 ∨ 0x390000 ≤ f.addr) :
    State.StockStep s (t.wr f v) where
  parts := keepsBut_wr h.parts (by decide)
  status a ho hlo hhi := (State.word_wr_ne t f v (by omega)).trans (h.status a ho hlo hhi)
  lmap := h.lmap
  dies := h.dies
  intents := h.intents
  lodes := h.lodes

theorem raiseQ {src : Nat} {q : Bool} (h : State.StockStep s t) : State.StockStep s (t.raiseQ src q) := by
  have hw : State.StockStep s (t.setBit (evsBit src).1 (evsBit src).2 true) := h.wr (.inr (.inl (evsBit_offset src).1))
  exact ⟨keepsBut_flt hw.parts (by decide), hw.status, hw.lmap, hw.dies, hw.intents, hw.lodes⟩

theorem raise {src : Nat} (h : State.StockStep s t) : State.StockStep s (t.raise src) := h.raiseQ

theorem stk {x : StkSt} (h : State.StockStep s t) (hdies : x.dies = t.stk.dies := by rfl) (hintents : x.intents = t.stk.intents := by rfl)
    (hlodes : x.lodes = t.stk.lodes := by rfl) : State.StockStep s { t with stk := x } where
  parts := keepsBut_stk h.parts (by decide)
  status := h.status
  lmap := h.lmap
  dies := hdies.trans h.dies
  intents := hintents.trans h.intents
  lodes g n := by rw [← h.lodes, State.lode, State.lode, hlodes]

theorem setBlk {n d b : Nat} {e : Blk} (h : State.StockStep s t) : State.StockStep s (t.setBlk n d b e) := h.stk

theorem setBlkSt {n d b st cause : Nat} (h : State.StockStep s t) : State.StockStep s (t.setBlkSt n d b st cause) := h.setBlk

theorem unsettle {n d b : Nat} (h : State.StockStep s t) : State.StockStep s (t.unsettle n d b) := ite h h.setBlkSt

theorem dieAnswers {n d : Nat} (h : State.StockStep s t) : State.StockStep s (t.dieAnswers n d) := h.stk

theorem blockErased {n d b : Nat} (h : State.StockStep s t) : State.StockStep s (t.blockErased n d b) := h.setBlk

theorem haul {x : HaulSt} (h : State.StockStep s t) : State.StockStep s { t with haul := x } :=
  ⟨keepsBut_haul h.parts (by decide), h.status, h.lmap, h.dies, h.intents, h.lodes⟩

theorem dropHaul {k : Nat} (h : State.StockStep s t) : State.StockStep s (t.dropHaul k) :=
  ⟨keepsBut_slb h.parts (by decide), h.status, h.lmap, h.dies, h.intents, h.lodes⟩

theorem abortHaul {k : Nat} (h : State.StockStep s t) : State.StockStep s (t.abortHaul k) :=
  haul (dropHaul (wr h (.inl (by simp [HAUL_CNT_ABORT.COUNT]))))

theorem dropStripe {x : Stripe} (h : State.StockStep s t) : State.StockStep s (t.dropStripe x) :=
  ite (forEach (haul h) fun _ _ h => ite (abortHaul h) h) (haul h)

/-- Lodes that become rework sources, or are SEALED, keep their counts (R245, R252). -/
theorem mapLodes {f : Nat × Lode → Nat × Lode} {m : SMap Nat} (h : State.StockStep s t) (hkey : ∀ p, (f p).1 = p.1)
    (hcounts : ∀ p, (f p).2.counts = p.2.counts) :
    State.StockStep s { t with stk := { t.stk with lodes := t.stk.lodes.map f, openLode := m } } where
  parts := keepsBut_stk h.parts (by decide)
  status := h.status
  lmap := h.lmap
  dies := h.dies
  intents := h.intents
  lodes g n := (get_map_reading _ Lode.counts hkey hcounts _ _).trans (h.lodes g n)

theorem sealGroup {g : Nat} (h : State.StockStep s t) : State.StockStep s (t.sealGroup g) :=
  mapLodes (m := t.stk.openLode) h (fun p => by split <;> rfl) (fun p => by split <;> rfl)

theorem closeGroup {g : Nat} (h : State.StockStep s t) : State.StockStep s (t.closeGroup g) :=
  forEach (mapLodes h (fun p => by dsimp only; split <;> rfl) (fun p => by dsimp only; split <;> rfl)) fun _ _ => dropStripe

theorem degrade {g : Nat} (h : State.StockStep s t) : State.StockStep s (t.degrade g) :=
  ite h (closeGroup (sealGroup (raise (wr (wr h.stk (.inr (.inr (by decide)))) (.inr (.inr (by simp only [STK_GRPA.STATE]; omega)))))))

theorem breakOne {g : Nat} (h : State.StockStep s t) : State.StockStep s (t.breakOne g) := h.stk

theorem breakUp {g n : Nat} (h : State.StockStep s t) : State.StockStep s (t.breakUp g n) := by
  induction n generalizing t with
  | zero => exact h
  | succ n ih => exact ite (ih h.breakOne) h

theorem keepSpares {g : Nat} (h : State.StockStep s t) : State.StockStep s (t.keepSpares g) := breakUp h

theorem useSpare {n lode d p d' b : Nat} (h : State.StockStep s t) : State.StockStep s (t.useSpare n lode d p d' b) :=
  stk (stk (setBlk (setBlk h)))

theorem remapSlot {n lode d p : Nat} (h : State.StockStep s t) : State.StockStep s (t.remapSlot n lode d p) := by
  unfold State.remapSlot
  extract_lets g u
  have hu : State.StockStep s u := ite h.breakOne h
  split
  · exact hu.degrade
  · exact hu.useSpare.keepSpares

theorem remapBad {g lode : Nat} (h : State.StockStep s t) : State.StockStep s (t.remapBad g lode) :=
  forEach h fun _ _ h => when h fun _ => remapSlot

end State.StockStep

/-! ### A die that does not answer (R251, R252) -/

/-- The blocks of a retired die turn BAD, and lodes with stripes on it become rework sources (R251). -/
theorem State.stockStep_blocksRetired (s : State) (n t g : Nat) (l : List Nat) :
    State.StockStep s ((s.forEach l fun s b => s.markBad n t b 5).sealGroup g) :=
  .sealGroup (.forEach (.refl s) fun _ _ => .setBlkSt)

/-- A retired die shows in NCH_STATUS, whether or not its channel is lost with it (R251, R252). -/
theorem State.bitAt_retireDie (s : State) {n t : Nat} (hn : n < 72) (ht : t < 8) :
    bitAt t ((s.retireDie n t).rd (NCH_STATUS.TGT_RETIRED n)) = true := by
  unfold State.retireDie
  split
  · assumption
  · extract_lets m u v
    have hapart (s : State) (x : Nat) : (s.wr (NCH_STATUS.STATE n) x).rd (NCH_STATUS.TGT_RETIRED n) = s.rd (NCH_STATUS.TGT_RETIRED n) :=
      State.rd_wr_apart s (Nat.le_of_ble_eq_true rfl) (.inr (.inl (Nat.le_of_ble_eq_true rfl))) x
    have hm : bitAt t (m.rd (NCH_STATUS.TGT_RETIRED n)) = true := by
      rw [State.rd_setBit_apart _ (Nat.le_of_ble_eq_true rfl) (.inr (.inl (Nat.le_of_ble_eq_true rfl)))]
      exact State.bitAt_setBit s (Nat.le_of_ble_eq_true rfl) ht true
    have hv : bitAt t (v.rd (NCH_STATUS.TGT_RETIRED n)) = true := by
      rw [(m.stockStep_blocksRetired n t (chanGroup n) _).rd hn rfl]
      exact hm
    split
    · have hlost : State.StockStep (v.wr (NCH_STATUS.STATE n) 4) (v.chanLost n) := .degrade (.raiseQ (.refl _))
      rw [hlost.rd hn rfl, hapart]
      exact hv
    · have hkept (t : State) : State.StockStep t ((t.raise (219 + 4 * n)).keepSpares (chanGroup n)) := .keepSpares (.raise (.refl _))
      rw [(hkept _).rd hn rfl]
      split
      · rw [hapart]
        exact hv
      · exact hv

/-- What else a die's retirement reaches. -/
theorem State.retireDie_keepsBut (s : State) (n t : Nat) : keepsBut [.regs, .slb, .haul, .stk, .flt] s (s.retireDie n t) := by
  unfold State.retireDie
  split
  · exact keepsBut_refl _ s
  · extract_lets m u v
    have hv : keepsBut [.regs, .slb, .haul, .stk, .flt] s v :=
      keepsBut_trans (keepsBut_setBit (keepsBut_setBit (keepsBut_refl _ s) (by decide)) (by decide))
        (m.stockStep_blocksRetired n t (chanGroup n) _).parts
    split
    · have hlost : State.StockStep (v.wr (NCH_STATUS.STATE n) 4) (v.chanLost n) := .degrade (.raiseQ (.refl _))
      exact keepsBut_trans (keepsBut_wr hv (by decide)) hlost.parts
    · have hkept (t : State) : State.StockStep t ((t.raise (219 + 4 * n)).keepSpares (chanGroup n)) := .keepSpares (.raise (.refl _))
      refine keepsBut_trans ?_ (hkept _).parts
      split
      · exact keepsBut_wr hv (by decide)
      · exact hv

/-- An operation that a die does not answer is noted; the third one in a row retires it (R251). -/
theorem State.doDieSilent_of_fitted {s : State} {n t : Nat} (hhub : s.hubOn = true) (hn : n < 72) (ht : t ∈ s.targets n) :
    s.doDieSilent n t = ({ s with stk := { s.stk with
      silent := SMap.put 0 (dieKey n t) (SMap.get 0 (dieKey n t) s.stk.silent + 1) s.stk.silent } }).when
        (SMap.get 0 (dieKey n t) s.stk.silent + 1 == 3) (fun s => s.retireDie n t) := by
  simp [State.doDieSilent, hhub, hn, ht]

/-! ### Erases that end (R224 to R228, R241) -/

/-- The dies that an erase's end frees: those of its blocks on which no other erase is issued (R241). -/
def State.diesFreed (s : State) (l : List (Nat × Nat × Nat)) : List (Nat × Nat) :=
  (l.map (fun b => (b.1, b.2.1))).dedup.filter (fun x =>
    !((s.stk.intents.filter (fun i => i.st == 1)).flatMap s.intentBlocks).any (fun b => b.1 == x.1 && b.2.1 == x.2))

/-- Dies turn idle. -/
def State.idleDies (s : State) (l : List (Nat × Nat)) : State := s.forEach l fun s x => s.setDie x.1 x.2 DieErase.idle

/-- A die that waits for nothing goes on doing so when another turns idle. -/
theorem State.queued_setDie_idle {s : State} {n t n' t' : Nat} (h : (s.die n' t').queued = []) :
    ((s.setDie n t DieErase.idle).die n' t').queued = [] := by
  rw [State.die_setDie]
  split
  · rfl
  · exact h

/-- A die turns idle, and the reads that waited for it are served (R241). -/
def State.freeDie (s : State) (x : Nat × Nat) : State :=
  (s.setDie x.1 x.2 DieErase.idle).forEach (s.die x.1 x.2).queued fun s r => s.pageRead r.1 r.2

theorem State.freeDie_of_quiet {s : State} {x : Nat × Nat} (h : (s.die x.1 x.2).queued = []) :
    s.freeDie x = s.setDie x.1 x.2 DieErase.idle := by
  rw [State.freeDie, h]
  rfl

theorem State.forEach_freeDie {s : State} {as : List (Nat × Nat)} (h : ∀ x ∈ as, (s.die x.1 x.2).queued = []) :
    s.forEach as State.freeDie = s.idleDies as := by
  induction as generalizing s with
  | nil => rfl
  | cons x as ih =>
    obtain ⟨hx, has⟩ := List.forall_mem_cons.1 h
    rw [State.forEach, List.foldl_cons, State.freeDie_of_quiet hx]
    exact ih fun y hy => State.queued_setDie_idle (has y hy)

/-- With no read that waits for them, dies that are freed turn idle and nothing else happens (R241). -/
theorem State.freeDies_of_quiet {s : State} {l : List (Nat × Nat × Nat)} (h : ∀ x ∈ l, (s.die x.1 x.2.1).queued = []) :
    s.freeDies l = s.idleDies (s.diesFreed l) := by
  refine State.forEach_freeDie fun x hx => ?_
  simp only [List.mem_filter, List.mem_dedup, List.mem_map] at hx
  obtain ⟨⟨b, hb, rfl⟩, -⟩ := hx
  exact h b hb

/-- Of the Stockpile's tables idle dies are all that differs. -/
theorem State.idleDies_stk (s : State) (l : List (Nat × Nat)) :
    (s.idleDies l).stk = { s.stk with dies := (s.idleDies l).stk.dies } := by
  induction l generalizing s with
  | nil => rfl
  | cons x l ih => exact ih (s.setDie x.1 x.2 DieErase.idle)

theorem State.idleDies_keepsBut (s : State) (l : List (Nat × Nat)) : keepsBut [.stk] s (s.idleDies l) :=
  keepsBut_forEach (keepsBut_refl _ s) fun _ _ h => keepsBut_setDie h (by decide)

/-- The intent whose DONE record is to be written (R226). -/
def Intent.doneIf (i x : Intent) : Intent := if x = i then { x with st := 2 } else x

/-- An intent is done, and its DONE record waits (R226). -/
def State.intentDone (s : State) (i : Intent) (r : JRec) : State :=
  ({ s with stk := { s.stk with intents := s.stk.intents.map i.doneIf } }).journal r

/-- An intent that is done is issued no more. -/
theorem Intent.doneIf_ne {i : Intent} (hi : i.st = 1) (x : Intent) : i.doneIf x ≠ i := by
  unfold Intent.doneIf
  split
  · intro h
    have hst : 2 = i.st := congrArg Intent.st h
    omega
  · assumption

theorem State.intentOf_lode {s : State} {g n : Nat} {i : Intent} (h : s.intentOf (.lode g n) = some i) :
    i.st = 1 ∧ i.lode = true ∧ i.group = g ∧ i.num = n := by
  have := List.find?_some h
  simpa [and_assoc] using this

theorem State.intentOf_block {s : State} {c t b : Nat} {i : Intent} (h : s.intentOf (.block c t b) = some i) :
    i.st = 1 ∧ i.lode = false ∧ i.channel = c ∧ i.target = t ∧ i.num = b := by
  have := List.find?_some h
  simpa [and_assoc] using this

section
variable {s : State} (hhub : s.hubOn = true) {i : Intent}
include hhub

/-- The end of a lode's erase whose dies are not suspended (R225, R226). -/
theorem State.doEraseDone_of_lode {g n : Nat} (hint : s.intentOf (.lode g n) = some i)
    (hrun : ∀ x ∈ s.lodeSlots g n, (s.die x.1 x.2.1).suspended = false) (failed : List (Nat × Nat × Nat)) :
    s.doEraseDone (.lode g n) failed =
      ((s.lodeErased g n failed).intentDone i (JRec.erase 2 i 0)).freeDies (s.lodeSlots g n) := by
  obtain ⟨-, hlode, rfl, rfl⟩ := State.intentOf_lode hint
  have hany : (s.lodeSlots i.group i.num).any (fun b => (s.die b.1 b.2.1).suspended) = false := by
    simpa using hrun
  unfold State.doEraseDone
  rw [hint]
  simp [State.intentBlocks, hlode, hany, hhub]
  rfl

/-- The end of one block's erase whose die is not suspended (R226). -/
theorem State.doEraseDone_of_block {c t b : Nat} (hint : s.intentOf (.block c t b) = some i)
    (hrun : (s.die c t).suspended = false) :
    s.doEraseDone (.block c t b) [] = ((s.blockReports c t b none false).intentDone i
      (JRec.erase 4 i ((s.blockReports c t b none false).blockErases c t b))).freeDies [(c, t, b)] := by
  obtain ⟨-, hblock, rfl, rfl, rfl⟩ := State.intentOf_block hint
  unfold State.doEraseDone
  rw [hint]
  simp [State.intentBlocks, hblock, hrun, hhub]
  rfl

end

/-- A block whose erase its channel allows, and that is not BAD, is ERASED (R226, R230, R233). -/
theorem State.blockReports_of_erased {s : State} {c t b : Nat} (hgood : (s.blk c t b).st ≠ 6) (hmay : s.mayEraseBlock c t b false = true)
    (slot : Option (Nat × Nat × Nat)) : s.blockReports c t b slot false = (s.dieAnswers c t).blockErased c t b := by
  have hgood' : ((s.dieAnswers c t).blk c t b).st ≠ 6 := hgood
  have hmay' : (s.dieAnswers c t).mayEraseBlock c t b false = true := hmay
  unfold State.blockReports
  extract_lets u
  rw [if_neg hgood', hmay']
  rfl

/-- The entry of a block that has been erased (R230). -/
theorem State.blk_blockErased (s : State) (c t b : Nat) : (s.blockErased c t b).blk c t b = { Blk.fresh with
    erases := (s.blk c t b).erases
    slot := (s.blk c t b).slot
    slotLode := (s.blk c t b).slotLode
    slotBase := (s.blk c t b).slotBase
    pslc := (s.blkFirst c t b).1 } := State.blk_setBlk_self ..

/-- Its erases stand (R226). -/
theorem State.blockErases_blockErased (s : State) (c t b : Nat) : (s.blockErased c t b).blockErases c t b = s.blockErases c t b := by
  have he := s.blk_blockErased c t b
  have hmap : State.SameMap s (s.blockErased c t b) := ⟨rfl, rfl, rfl⟩
  have hslot := congrArg Blk.slot he
  have hof := congrArg Blk.slotLode he
  have hlode (g n : Nat) : (s.blockErased c t b).lode g n = s.lode g n := rfl
  unfold State.blockErases
  dsimp only
  rw [hmap.blockServes hslot hof, (hmap.blockPlace hslot hof).2, hlode, congrArg Blk.erases he, congrArg Blk.slotBase he]

theorem State.StockStep.blockReports {s t : State} {c d b : Nat} {slot : Option (Nat × Nat × Nat)} (h : State.StockStep s t) :
    State.StockStep s (t.blockReports c d b slot false) := by
  have hanswers : State.StockStep s (t.dieAnswers c d) := h.dieAnswers
  unfold State.blockReports
  extract_lets u
  split
  · split
    · exact hanswers.remapSlot
    · exact hanswers
  · exact .ite hanswers.unsettle hanswers.blockErased

/-- The records of a lode are gone, and nothing but records and saves (R248, R276). -/
theorem State.clearLode_keepsBut (s : State) (g n : Nat) : keepsBut [.stk, .saves] s (s.clearLode g n) :=
  keepsBut_saves (keepsBut_stk (keepsBut_refl _ s) (by decide)) (by decide)

/-- The blocks of a lode's slots have reported, all with success. -/
def State.blocksReported (s : State) (g n : Nat) : State :=
  (s.clearLode g n).forEach (s.slotsOf g) fun s x =>
    s.blockReports x.1 (s.slotBlock x.1 n x.2.1 x.2.2).1 (s.slotBlock x.1 n x.2.1 x.2.2).2 (some (n, x.2)) false

/-- Every slot of a lode holds an ERASED block. -/
def State.lodeWhole (s : State) (g n : Nat) : Bool := (s.lodeSlots g n).all fun b => (s.blk b.1 b.2.1 b.2.2).st == 0

/-- In a lode that is not whole the ERASED blocks show it themselves (R224, R225). -/
def State.erasedShown (s : State) (g n : Nat) : State :=
  s.when (!s.lodeWhole g n) fun s => s.forEach ((s.lodeSlots g n).filter fun b => (s.blk b.1 b.2.1 b.2.2).st == 0) fun s b =>
    s.setBlk b.1 b.2.1 b.2.2 { s.blk b.1 b.2.1 b.2.2 with st := 1 }

theorem State.StockStep.erasedShown {s t : State} {g n : Nat} (h : State.StockStep s t) : State.StockStep s (t.erasedShown g n) :=
  when h fun _ h => forEach h fun _ _ => setBlk

/-- A lode whose erases have reported, before its entry is written (R224, R225). -/
def State.lodeReported (s : State) (g n : Nat) : State := (s.blocksReported g n).erasedShown g n

theorem State.lodeReported_stockStep (s : State) (g n : Nat) : State.StockStep (s.clearLode g n) (s.lodeReported g n) := by
  have hreported : State.StockStep (s.clearLode g n) (s.blocksReported g n) := .forEach (.refl _) fun _ _ => .blockReports
  exact hreported.erasedShown

/-- A lode whose erases have all succeeded is FREE, or in RECLAIM while a block of it is not ERASED; its erases stand (R224 to R226). -/
theorem State.lodeErased_nil (s : State) (g n : Nat) : s.lodeErased g n [] = (s.lodeReported g n).setLode g n
    { Lode.fresh with erases := (s.lode g n).erases, st := if (s.blocksReported g n).lodeWhole g n then lodeFree else lodeReclaim } := by
  have herases : ((s.lodeReported g n).lode g n).erases = (s.lode g n).erases :=
    congrArg Prod.snd ((s.lodeReported_stockStep g n).lodes g n)
  rw [← herases]
  rfl

section
variable {s : State} {i : Intent}

/-- Once the only erase that is issued is done none is issued any more. -/
theorem Intent.none_issued {l : List Intent} (hone : l.filter (fun x => x.st == 1) = [i]) {x : Intent} (hx : x ∈ l) :
    (i.doneIf x).st ≠ 1 := by
  unfold Intent.doneIf
  split
  · show 2 ≠ 1
    decide
  next hne =>
    intro hst
    have hmem : x ∈ l.filter (fun x => x.st == 1) := List.mem_filter.2 ⟨hx, by simp [hst]⟩
    rw [hone] at hmem
    exact hne (List.mem_singleton.1 hmem)

/-- What the end of the only erase shows, of one block (R226, R230, R241). -/
theorem State.blockDone_shows {c t b : Nat} (hquiet : (s.die c t).queued = [])
    (hone : s.stk.intents.filter (fun x => x.st == 1) = [i]) (hgood : (s.blk c t b).st ≠ 6) (hmay : s.mayEraseBlock c t b false = true)
    {u : State} (hu : u = ((s.blockReports c t b none false).intentDone i
      (JRec.erase 4 i ((s.blockReports c t b none false).blockErases c t b))).freeDies [(c, t, b)]) :
    u.die c t = DieErase.idle ∧ (u.blk c t b).st = 0 ∧ (u.blk c t b).erases = (s.blk c t b).erases ∧ (u.blk c t b).reads = 0 ∧
      u.stk.jpend = s.stk.jpend ++ [JRec.erase 4 i (s.blockErases c t b)] ∧ u.stk.intents.all (fun x => x.st != 1) = true ∧
      keepsBut [.stk] s u := by
  rw [State.blockReports_of_erased hgood hmay, State.blockErases_blockErased] at hu
  have hleft : (s.stk.intents.map i.doneIf).all (fun x => x.st != 1) = true := by
    simpa using fun x hx => Intent.none_issued hone hx
  have hnone : (s.stk.intents.map i.doneIf).filter (fun x => x.st == 1) = [] := by
    simpa using fun x hx => Intent.none_issued hone hx
  set e := (s.dieAnswers c t).blockErased c t b with he
  have hfreed : (e.intentDone i (JRec.erase 4 i (s.blockErases c t b))).diesFreed [(c, t, b)] = [(c, t)] := by
    have hintents : (e.intentDone i (JRec.erase 4 i (s.blockErases c t b))).stk.intents = s.stk.intents.map i.doneIf := rfl
    simp [State.diesFreed, hintents, hnone]
  have hwait : ∀ x ∈ [(c, t, b)], ((e.intentDone i (JRec.erase 4 i (s.blockErases c t b))).die x.1 x.2.1).queued = [] := by
    intro x hx
    rw [List.mem_singleton.1 hx]
    exact hquiet
  have hidle : u = (e.intentDone i (JRec.erase 4 i (s.blockErases c t b))).setDie c t DieErase.idle := by
    rw [hu]
    exact (State.freeDies_of_quiet hwait).trans (by rw [hfreed]; rfl)
  have hsame : u.blk c t b = e.blk c t b := by rw [hidle]; rfl
  have hblk := hsame.trans ((s.dieAnswers c t).blk_blockErased c t b)
  have hparts : keepsBut [.stk] s e := keepsBut_setBlk (keepsBut_stk (keepsBut_refl _ s) (by decide)) (by decide)
  refine ⟨?_, congrArg Blk.st hblk, (congrArg Blk.erases hblk).trans rfl, congrArg Blk.reads hblk, ?_, ?_, ?_⟩
  · rw [hidle]
    exact State.die_setDie_self ..
  · rw [hidle]
    rfl
  · rw [hidle]
    exact hleft
  · rw [hidle]
    exact keepsBut_setDie (keepsBut_journal (keepsBut_stk hparts (by decide)) (by decide)) (by decide)

/-- What the end of a lode's erase shows (R225, R226, R241). -/
theorem State.lodeDone_shows {g n : Nat} (hint : s.intentOf (.lode g n) = some i)
    (hquiet : ∀ x ∈ s.lodeSlots g n, (s.die x.1 x.2.1).queued = [])
    {u : State} (hu : u = ((s.lodeErased g n []).intentDone i (JRec.erase 2 i 0)).freeDies (s.lodeSlots g n)) :
    ((u.lode g n).erases = (s.lode g n).erases ∧ ((u.lode g n).st = lodeFree ∨ (u.lode g n).st = lodeReclaim) ∧
      u.stk.jpend.contains (JRec.erase 2 i 0) = true ∧ u.stk.intents.any (fun x => x == i) = false) ∧
      keepsBut [.regs, .tick, .slb, .haul, .stk, .saves, .flt, .clg, .free] s u := by
  obtain ⟨hst, -, -, -⟩ := State.intentOf_lode hint
  have hstep := s.lodeReported_stockStep g n
  rw [State.lodeErased_nil] at hu
  set l : Lode := { Lode.fresh with
    erases := (s.lode g n).erases
    st := if (s.blocksReported g n).lodeWhole g n then lodeFree else lodeReclaim } with hl
  set d := ((s.lodeReported g n).setLode g n l).intentDone i (JRec.erase 2 i 0) with hd
  have hdie (c t : Nat) : d.die c t = s.die c t := congrArg (SMap.get DieErase.idle (dieKey c t)) hstep.dies
  have hidle : u = d.idleDies (d.diesFreed (s.lodeSlots g n)) :=
    hu.trans (State.freeDies_of_quiet fun x hx => (congrArg DieErase.queued (hdie ..)).trans (hquiet x hx))
  have hstk : u.stk = { d.stk with dies := u.stk.dies } := by rw [hidle]; exact State.idleDies_stk ..
  have hlode : u.lode g n = l := by
    rw [State.lode, hstk]
    exact State.lode_setLode_self (s.lodeReported g n) g n l
  have hjpend : u.stk.jpend = d.stk.jpend := by rw [hstk]
  have hintents : u.stk.intents = s.stk.intents.map i.doneIf := by
    rw [hstk]
    exact congrArg (List.map i.doneIf) hstep.intents
  refine ⟨⟨by rw [hlode, hl], ?_, ?_, ?_⟩, ?_⟩
  · rw [hlode, hl]
    dsimp only
    split
    · exact .inl rfl
    · exact .inr rfl
  · rw [hjpend, hd, State.intentDone, State.journal]
    simp
  · rw [hintents]
    simpa using fun x _ => Intent.doneIf_ne hst x
  · have hcleared : keepsBut [.regs, .tick, .slb, .haul, .stk, .saves, .flt, .clg, .free] s (s.clearLode g n) :=
      keepsBut_mono (s.clearLode_keepsBut g n) (by decide)
    have hreported := keepsBut_trans hcleared (keepsBut_mono hstep.parts (by decide))
    have hdone : keepsBut [.regs, .tick, .slb, .haul, .stk, .saves, .flt, .clg, .free] s d :=
      keepsBut_journal (keepsBut_stk (keepsBut_setLode hreported (by decide)) (by decide)) (by decide)
    rw [hidle]
    exact keepsBut_trans hdone (keepsBut_mono (State.idleDies_keepsBut _ _) (by decide))

end

/-! ### Patrol reads and suspends after RESUME_MIN (R165, R241, R247, R248) -/

/-- A signed field reads back a value in its range. -/
theorem State.rdInt_wrInt (s : State) {f : Fld} (hfit : f.lo + f.width ≤ 32) (hw : 0 < f.width) {v : Int}
    (hlo : -2 ^ (f.width - 1) ≤ v) (hhi : v < 2 ^ (f.width - 1)) : (s.wrInt f v).rdInt f = v := by
  obtain ⟨k, hk⟩ : ∃ k, f.width = k + 1 := ⟨f.width - 1, by omega⟩
  have hread : (s.wrInt f v).rd f = (v % 2 ^ f.width).toNat := by
    refine State.rd_wr_self s hfit ?_
    have hlt := Int.emod_lt_of_pos v (b := 2 ^ f.width) (by positivity)
    have hnn := Int.emod_nonneg v (b := 2 ^ f.width) (by positivity)
    zify
    rw [Int.toNat_of_nonneg hnn]
    exact hlt
  unfold State.rdInt
  rw [hread]
  simp only [hk, Nat.add_sub_cancel, pow_succ] at hlo hhi ⊢
  have hp : (0 : Int) < 2 ^ k := by positivity
  have hcast : ((2 ^ k : Nat) : Int) = 2 ^ k := by push_cast; rfl
  generalize (2 : Int) ^ k = p at *
  generalize 2 ^ k = q at *
  rcases Int.lt_or_le v 0 with hneg | hnn
  · have hmod : v % (p * 2) = v + p * 2 := by
      rw [← Int.add_emod_right, Int.emod_eq_of_lt (by omega) (by omega)]
    rw [hmod]
    split <;> omega
  · rw [Int.emod_eq_of_lt hnn (by omega)]
    split <;> omega

/-- What a signed field reads lies below half of its range. -/
theorem State.rdInt_lt (s : State) {f : Fld} (hw : 0 < f.width) : s.rdInt f < 2 ^ (f.width - 1) := by
  obtain ⟨k, hk⟩ : ∃ k, f.width = k + 1 := ⟨f.width - 1, by omega⟩
  have hlt := s.rd_lt f
  have hcast : ((2 ^ k : Nat) : Int) = 2 ^ k := by push_cast; rfl
  unfold State.rdInt
  simp only [hk, Nat.add_sub_cancel, pow_succ] at hlt ⊢
  have hp : (0 : Int) < 2 ^ k := by positivity
  generalize (2 : Int) ^ k = p at *
  generalize 2 ^ k = q at *
  split <;> omega

theorem State.rdInt_of_regs {s t : State} (h : t.regs = s.regs) (f : Fld) : t.rdInt f = s.rdInt f := by
  rw [State.rdInt, State.rdInt, State.rd_of_regs h]

/-- A signed field that shares no bit with the one written reads as before. -/
theorem State.rdInt_wr_apart (s : State) {f g : Fld} (hf : f.lo + f.width ≤ 32) (h : f.apart g) (v : Nat) : (s.wr f v).rdInt g = s.rdInt g := by
  simp only [State.rdInt, State.rd_wr_apart s hf h v]

section
variable {s : State} {k n : Nat}

/-- The payment that a bucket's debt of one second of heat bounds (R165). -/
def State.paid (s : State) (k n : Nat) : Int :=
  if s.rdInt (ADM_CLS.BUCKET k) - (n * classCost k : Nat) < -(s.heatFull : Int) then -(s.heatFull : Int)
  else s.rdInt (ADM_CLS.BUCKET k) - (n * classCost k : Nat)

/-- A payment that is covered leaves what it leaves in the bucket (R165). -/
theorem State.rdInt_pay (hcan : s.canPay k n false = true) : (s.pay k n).rdInt (ADM_CLS.BUCKET k) = s.paid k n := by
  have hcover : ((n * classCost k : Nat) : Int) ≤ s.rdInt (ADM_CLS.BUCKET k) := by simpa [State.canPay] using hcan
  have hlt := s.rdInt_lt (f := ADM_CLS.BUCKET k) (by simp [ADM_CLS.BUCKET])
  have hwidth : (ADM_CLS.BUCKET k).width = 16 := rfl
  have hfit : (ADM_CLS.BUCKET k).lo + (ADM_CLS.BUCKET k).width ≤ 32 := by simp [ADM_CLS.BUCKET]
  have hpaid : s.paid k n = s.rdInt (ADM_CLS.BUCKET k) - (n * classCost k : Nat) := if_neg (by omega)
  have hword : ADM_STATUS.OVERDRAW.apart (ADM_CLS.BUCKET k) := .inl (by simp only [ADM_STATUS.OVERDRAW, ADM_CLS.BUCKET]; omega)
  rw [hwidth] at hlt
  refine (State.rdInt_wr_apart _ (by decide) hword _).trans (State.rdInt_wrInt s (v := s.paid k n) hfit (by omega) ?_ ?_) <;>
    rw [hpaid, hwidth] <;> omega

/-- A payment is written in the bucket and in OVERDRAW. -/
theorem State.pay_onlyWords (s : State) (k n : Nat) : onlyWords [(ADM_CLS.BUCKET k).addr, ADM_STATUS.OVERDRAW.addr] s (s.pay k n) :=
  ⟨keepsBut_wrB (keepsBut_wrInt (keepsBut_refl _ s) (by decide)) (by decide),
    keepsWords_wrB (keepsWords_wr (keepsWords_refl _ s) (List.mem_cons_self ..)) (by simp)⟩

end

/-- A patrol read is noted: its period, its block and its hold on the lode (R247, R248). -/
def State.patrolNoted (s : State) (n t b : Nat) : State :=
  { s.pay 7 1 with stk := { s.stk with
      patrolWin := s.tick / s.patrolTicks
      patrolled := blkKey n t b :: (if s.stk.patrolWin = s.tick / s.patrolTicks then s.stk.patrolled else [])
      patrolRead := s.stk.patrolRead ++ [(n, t, b)] } }

theorem State.regs_patrolNoted (s : State) (n t b : Nat) : (s.patrolNoted n t b).regs = (s.pay 7 1).regs := rfl

theorem State.doPatrol_of_due {s : State} {n t b page : Nat} (hhub : s.hubOn = true) (hn : n < 72) (hsealed : s.blockState n t b = 2)
    (hserves : s.blockServes n t b = true)
    (hpage : page < if s.blkPslc n t b then s.sv NAND.WORDLINES else 3 * s.sv NAND.WORDLINES) (hdue : s.patrolDue n t b = true)
    (hpay : s.canPay 7 1 false = true) : s.doPatrol n t b page = s.patrolNoted n t b := by
  unfold State.doPatrol
  simp only [hhub, hn, hsealed, hserves, hpage, hdue, hpay, decide_true, beq_self_eq_true, Bool.and_self, if_true]
  rfl

/-- RESUME_MIN has passed and a demand read waits: the erase is suspended again (R241). -/
theorem State.doResumeMin_of_due {s : State} {n t : Nat} (hbusy : (s.die n t).busy = true) (hrun : (s.die n t).suspended = false)
    (hdemand : (s.die n t).queued.any (fun r => r.1.demand) = true) (hmay : s.maySuspend n (s.die n t) = true)
    (hover : s.resumeOver n (s.die n t) = true) : s.doResumeMin n t = s.suspend n t := by
  unfold State.doResumeMin
  simp only [hbusy, hrun, hdemand, hmay, hover, Bool.not_false, Bool.and_self, if_true]

/-! ### Where the next Stockpile stripe goes (R211, R215, R227, R249 to R252)

Setts are read, encrypted and paid for before the stripe of their move takes its place, and their source turns RECLAIM. None of it
changes which place that is. -/

/-- A write at a key leaves what a filter that takes nothing at that key finds in a map. -/
theorem filter_put {V : Type} [DecidableEq V] (d : V) {k : Nat} {p : Nat × V → Bool} (hp : ∀ v, p (k, v) = false) (v : V) (m : SMap V) :
    (SMap.put d k v m).filter p = m.filter p := by
  have herase (m : SMap V) : (SMap.erase k m).filter p = m.filter p := by
    induction m with
    | nil => rfl
    | cons x m ih =>
      obtain ⟨a, w⟩ := x
      rw [SMap.erase]
      split
      next h => rw [ih, h, List.filter_cons_of_neg (by simp [hp])]
      next => rw [List.filter_cons, List.filter_cons, ih]
  have hinsert (m : SMap V) : (SMap.insert k v m).filter p = m.filter p := by
    induction m with
    | nil => simp [SMap.insert, hp]
    | cons x m ih =>
      obtain ⟨a, w⟩ := x
      rw [SMap.insert]
      split
      next => rw [List.filter_cons_of_neg (by simp [hp])]
      next => rw [List.filter_cons, List.filter_cons, ih]
  unfold SMap.put
  split
  · exact herase m
  · exact (hinsert _).trans (herase m)

/-- A register word outside the sectors of a channel is none of them (R233). -/
theorem State.wpSectors_setWord (s : State) {n a : Nat} (ha : a < 0x300800 + 0x2000 * n ∨ 0x301000 + 0x2000 * n ≤ a) (w : Word) :
    (s.setWord a w).wpSectors n = s.wpSectors n := by
  unfold State.wpSectors
  refine congrArg (List.map _) (filter_put _ (fun v => ?_) _ _)
  have hout : ¬(0x300000 + 0x2000 * n + 0x800 ≤ a ∧ a < 0x300000 + 0x2000 * n + 0x800 + 0x800) := by omega
  simp only [← Bool.decide_and, decide_eq_false hout, Bool.false_and]

/-- What the choice of the next stripe's place reads of a lode: the stripes taken, its erases, and whether it is FREE. -/
def Lode.outline (l : Lode) : Nat × Nat × Bool := (l.used, l.erases, l.st == lodeFree)

/-- Stripes find their places in `t` as in `s`. -/
structure State.StockLike (s t : State) : Prop where
  map : State.SameMap s t
  blks : t.stk.blks = s.stk.blks
  degraded : t.stk.degraded = s.stk.degraded
  openLode : t.stk.openLode = s.stk.openLode
  intents : t.stk.intents = s.stk.intents
  lodes : ∀ g n, (t.lode g n).outline = (s.lode g n).outline
  words : ∀ a, 0x300000 ≤ a → t.word a = s.word a
  sectors : ∀ n < 72, t.wpSectors n = s.wpSectors n

/-- What turning DEGRADED does to a group that was not (R252). -/
def State.degradeNow (s : State) (g : Nat) : State :=
  let s := { s with stk := { s.stk with degraded := withBit g true s.stk.degraded } }
  ((((s.wr STK_STATUS.DEGRADED s.stk.degraded).wr (STK_GRPA.STATE g) 1).raise 699).sealGroup g).closeGroup g

theorem State.degrade_eq (s : State) (g : Nat) : s.degrade g = if bitAt g s.stk.degraded then s else s.degradeNow g := rfl

namespace State.StockLike

variable {s t u : State}

theorem refl (s : State) : State.StockLike s s := ⟨⟨rfl, rfl, rfl⟩, rfl, rfl, rfl, rfl, fun _ _ => rfl, fun _ _ => rfl, fun _ _ => rfl⟩

theorem symm (h : State.StockLike s t) : State.StockLike t s where
  map := ⟨h.map.svy.symm, h.map.remaps.symm, h.map.broken.symm⟩
  blks := h.blks.symm
  degraded := h.degraded.symm
  openLode := h.openLode.symm
  intents := h.intents.symm
  lodes g n := (h.lodes g n).symm
  words a ha := (h.words a ha).symm
  sectors n hn := (h.sectors n hn).symm

theorem trans (h : State.StockLike s t) (h' : State.StockLike t u) : State.StockLike s u where
  map := ⟨h'.map.svy.trans h.map.svy, h'.map.remaps.trans h.map.remaps, h'.map.broken.trans h.map.broken⟩
  blks := h'.blks.trans h.blks
  degraded := h'.degraded.trans h.degraded
  openLode := h'.openLode.trans h.openLode
  intents := h'.intents.trans h.intents
  lodes g n := (h'.lodes g n).trans (h.lodes g n)
  words a ha := (h'.words a ha).trans (h.words a ha)
  sectors n hn := (h'.sectors n hn).trans (h.sectors n hn)

/-- Work that places no stripe, done in both. -/
theorem both {f : State → State} (h : State.StockLike s t) (hf : ∀ s, State.StockLike s (f s)) : State.StockLike (f s) (f t) :=
  ((hf s).symm.trans h).trans (hf t)

theorem forEach_both {A : Type} {as : List A} {f : State → A → State} (h : State.StockLike s t)
    (hf : ∀ s t a, State.StockLike s t → State.StockLike (f s a) (f t a)) : State.StockLike (s.forEach as f) (t.forEach as f) := by
  unfold State.forEach
  induction as generalizing s t with
  | nil => exact h
  | cons a as ih => exact ih (hf s t a h)

/-! Work that places no stripe -/

theorem ite {c : Prop} [Decidable c] (ht : State.StockLike s t) (hu : State.StockLike s u) : State.StockLike s (if c then t else u) := by
  split
  · exact ht
  · exact hu

theorem forEach {A : Type} {as : List A} {f : State → A → State} (h : State.StockLike s t)
    (hf : ∀ t a, State.StockLike s t → State.StockLike s (f t a)) : State.StockLike s (t.forEach as f) := by
  unfold State.forEach
  induction as generalizing t with
  | nil => exact h
  | cons a as ih => exact ih (hf t a h)

theorem wr {f : Fld} {v : Nat} (h : State.StockLike s t) (hf : f.addr < 0x300000) : State.StockLike s (t.wr f v) :=
  ⟨⟨h.map.svy, h.map.remaps, h.map.broken⟩, h.blks, h.degraded, h.openLode, h.intents, h.lodes,
    fun a ha => (State.word_wr_ne t f v (by omega)).trans (h.words a ha),
    fun n hn => (State.wpSectors_setWord t (.inl (by omega)) _).trans (h.sectors n hn)⟩

theorem raise {src : Nat} (h : State.StockLike s t) (hs : 504 ≤ src) : State.StockLike s (t.raise src) := by
  have hbit : (evsBit src).1.addr < 0x300000 := by
    unfold evsBit
    repeat' split
    all_goals simp only [DCH_EVS.STATUS, NCH_EVS.STATUS, HPT_EVS.STATUS, GAL_EVS.STATUS, CIP_EVS.STATUS, LGR_EVS.STATUS,
      SEQ_EVS0.STATUS, SEQ_EVS1.STATUS, SEQ_EVS2.STATUS, TWB_EVS.STATUS, CLK_EVS.STATUS, FLT_EVS.STATUS]
    all_goals omega
  have hw : State.StockLike s (t.setBit (evsBit src).1 (evsBit src).2 true) := h.wr hbit
  exact ⟨⟨hw.map.svy, hw.map.remaps, hw.map.broken⟩, hw.blks, hw.degraded, hw.openLode, hw.intents, hw.lodes, hw.words, hw.sectors⟩

theorem haul {x : HaulSt} (h : State.StockLike s t) : State.StockLike s { t with haul := x } :=
  ⟨⟨h.map.svy, h.map.remaps, h.map.broken⟩, h.blks, h.degraded, h.openLode, h.intents, h.lodes, h.words, h.sectors⟩

theorem cip {x : CipSt} (h : State.StockLike s t) : State.StockLike s { t with cip := x } :=
  ⟨⟨h.map.svy, h.map.remaps, h.map.broken⟩, h.blks, h.degraded, h.openLode, h.intents, h.lodes, h.words, h.sectors⟩

theorem dropHaul {k : Nat} (h : State.StockLike s t) : State.StockLike s (t.dropHaul k) :=
  ⟨⟨h.map.svy, h.map.remaps, h.map.broken⟩, h.blks, h.degraded, h.openLode, h.intents, h.lodes, h.words, h.sectors⟩

theorem abortHaul {k : Nat} (h : State.StockLike s t) : State.StockLike s (t.abortHaul k) :=
  haul (dropHaul (wr h (by simp [HAUL_CNT_ABORT.COUNT])))

theorem dropStripe {x : Stripe} (h : State.StockLike s t) : State.StockLike s (t.dropStripe x) :=
  ite (forEach (haul h) fun _ _ h => ite (abortHaul h) h) (haul h)

theorem mapLodes {f : Nat × Lode → Nat × Lode} (h : State.StockLike s t) (hkey : ∀ p, (f p).1 = p.1)
    (hf : ∀ p, (f p).2.outline = p.2.outline) : State.StockLike s { t with stk := { t.stk with lodes := t.stk.lodes.map f } } :=
  ⟨⟨h.map.svy, h.map.remaps, h.map.broken⟩, h.blks, h.degraded, h.openLode, h.intents,
    fun g n => (get_map_reading _ Lode.outline hkey hf _ _).trans (h.lodes g n), h.words, h.sectors⟩

theorem sealGroup {g : Nat} (h : State.StockLike s t) : State.StockLike s (t.sealGroup g) :=
  mapLodes h (fun p => by split <;> rfl) (fun p => by split <;> rfl)

theorem reclaim {w : Word} (h : State.StockLike s t) : State.StockLike s (t.reclaim w) := by
  unfold State.reclaim State.when
  extract_lets q
  split
  next hsealed =>
    refine ⟨⟨h.map.svy, h.map.remaps, h.map.broken⟩, h.blks, h.degraded, h.openLode, h.intents, fun g n => ?_, h.words, h.sectors⟩
    rw [State.lode_setLode]
    split
    next hk =>
      have hsame : t.lode g n = t.lode q.1 q.2 := by rw [State.lode, State.lode, hk]
      rw [← h.lodes, hsame]
      simp only [Lode.outline, eq_of_beq hsealed]
      rfl
    next => exact h.lodes g n
  next => exact h

/-! Work on spare blocks and groups, done in both -/

theorem sv (h : State.StockLike s t) (f : SFld) : t.sv f = s.sv f := h.map.sv f

theorem blk (h : State.StockLike s t) (n d b : Nat) : t.blk n d b = s.blk n d b := by rw [State.blk, State.blk, h.blks]

theorem erases (h : State.StockLike s t) (g n : Nat) : (t.lode g n).erases = (s.lode g n).erases :=
  congrArg (fun x => x.2.1) (h.lodes g n)

theorem used (h : State.StockLike s t) (g n : Nat) : (t.lode g n).used = (s.lode g n).used := congrArg Prod.fst (h.lodes g n)

theorem rd (h : State.StockLike s t) {f : Fld} (hf : 0x300000 ≤ f.addr) : t.rd f = s.rd f := by
  rw [State.rd, State.rd, h.words _ hf]

theorem blockErases (h : State.StockLike s t) (n d b : Nat) : t.blockErases n d b = s.blockErases n d b := by
  have hb := h.blk n d b
  have hslot := congrArg Blk.slot hb
  have hlode := congrArg Blk.slotLode hb
  unfold State.blockErases
  dsimp only
  rw [h.map.blockServes hslot hlode, (h.map.blockPlace hslot hlode).2, h.erases, hb]

theorem dieBlocks (h : State.StockLike s t) : t.dieBlocks = s.dieBlocks := by rw [State.dieBlocks, State.dieBlocks, h.sv, h.sv]

theorem spareFree (h : State.StockLike s t) (n d b : Nat) : t.spareFree n d b = s.spareFree n d b := by
  rw [State.spareFree, State.spareFree, h.map.inSparePool, h.blk]

theorem spares (h : State.StockLike s t) (n p : Nat) : t.spares n p = s.spares n p := by
  have hfree : t.spareFree n = s.spareFree n := funext fun d => funext fun b => h.spareFree n d b
  unfold State.spares
  rw [h.map.targets, h.dieBlocks, h.sv, hfree]

theorem fallowLeft (h : State.StockLike s t) (g : Nat) : t.fallowLeft g = s.fallowLeft g := by
  rw [State.fallowLeft, State.fallowLeft, h.map.fallowBase, h.map.broken, h.sv]

theorem spareCount (h : State.StockLike s t) (n : Nat) : t.spareCount n = s.spareCount n := by
  have hpool : t.inSparePool n = s.inSparePool n := funext fun d => funext fun b => h.map.inSparePool n d b
  unfold State.spareCount
  rw [h.map.targets, h.map.sumpBase, h.sv, h.blks, h.map.broken, hpool]

theorem spareShort (h : State.StockLike s t) (g : Nat) : t.spareShort g = s.spareShort g := by
  have hstate (n : Nat) : t.rd (NCH_STATUS.STATE n) = s.rd (NCH_STATUS.STATE n) :=
    h.rd (by simp only [NCH_STATUS.STATE]; omega)
  unfold State.spareShort
  simp only [hstate, h.spareCount, h.sv]

theorem stk {x y : StkSt} (h : State.StockLike s t) (hremaps : y.remaps = x.remaps) (hbroken : y.broken = x.broken)
    (hblks : y.blks = x.blks) (hdegraded : y.degraded = x.degraded) (hopen : y.openLode = x.openLode)
    (hx : x.intents = s.stk.intents ∧ x.lodes = s.stk.lodes := by exact ⟨rfl, rfl⟩)
    (hy : y.intents = t.stk.intents ∧ y.lodes = t.stk.lodes := by exact ⟨rfl, rfl⟩) :
    State.StockLike { s with stk := x } { t with stk := y } where
  map := ⟨h.map.svy, hremaps, hbroken⟩
  blks := hblks
  degraded := hdegraded
  openLode := hopen
  intents := (hy.1.trans h.intents).trans hx.1.symm
  lodes g n := by rw [State.lode, State.lode, hx.2, hy.2]; exact h.lodes g n
  words := h.words
  sectors := h.sectors

theorem setBlk (h : State.StockLike s t) (n d b : Nat) {e f : Blk} (he : f = e) : State.StockLike (s.setBlk n d b e) (t.setBlk n d b f) :=
  h.stk h.map.remaps h.map.broken (by rw [h.blks, he]) h.degraded h.openLode

theorem wr_both (h : State.StockLike s t) {f : Fld} {v w : Nat} (hv : w = v) (hf : 0x390000 ≤ f.addr) :
    State.StockLike (s.wr f v) (t.wr f w) where
  map := ⟨h.map.svy, h.map.remaps, h.map.broken⟩
  blks := h.blks
  degraded := h.degraded
  openLode := h.openLode
  intents := h.intents
  lodes := h.lodes
  words a ha := by
    subst hv
    by_cases hne : a = f.addr
    · rw [hne, State.wr, State.wr, State.word_setWord_self, State.word_setWord_self, h.words _ (by omega)]
    · rw [State.word_wr_ne _ _ _ hne, State.word_wr_ne _ _ _ hne, h.words a ha]
  sectors n hn :=
    ((State.wpSectors_setWord t (.inr (by omega)) _).trans (h.sectors n hn)).trans (State.wpSectors_setWord s (.inr (by omega)) _).symm

theorem leaveSlot (h : State.StockLike s t) (n lode d p : Nat) : State.StockLike (s.leaveSlot n lode d p) (t.leaveSlot n lode d p) := by
  unfold State.leaveSlot
  dsimp only
  rw [h.map.slotBlock]
  exact h.setBlk _ _ _ (by rw [h.blk, h.blockErases])

theorem useSpare (h : State.StockLike s t) (n lode d p d' b : Nat) :
    State.StockLike (s.useSpare n lode d p d' b) (t.useSpare n lode d p d' b) := by
  have hleft := h.leaveSlot n lode d p
  have htaken := hleft.setBlk n d' b
    (e := { (s.leaveSlot n lode d p).blk n d' b with
      slot := slotNum n d p + 1, slotLode := lode, slotBase := ((s.leaveSlot n lode d p).lode (chanGroup n) lode).erases })
    (f := { (t.leaveSlot n lode d p).blk n d' b with
      slot := slotNum n d p + 1, slotLode := lode, slotBase := ((t.leaveSlot n lode d p).lode (chanGroup n) lode).erases })
    (by rw [hleft.blk, hleft.erases])
  exact htaken.stk (by rw [htaken.map.remaps]) htaken.map.broken htaken.blks htaken.degraded htaken.openLode

theorem breakOne (h : State.StockLike s t) (g : Nat) : State.StockLike (s.breakOne g) (t.breakOne g) :=
  h.stk h.map.remaps (by rw [h.map.broken]) h.blks h.degraded h.openLode

theorem breakUp (h : State.StockLike s t) (g n : Nat) : State.StockLike (s.breakUp g n) (t.breakUp g n) := by
  induction n generalizing s t with
  | zero => exact h
  | succ n ih =>
    rw [State.breakUp, State.breakUp, h.fallowLeft, h.spareShort]
    split
    · exact ih (h.breakOne g)
    · exact h

theorem keepSpares (h : State.StockLike s t) (g : Nat) : State.StockLike (s.keepSpares g) (t.keepSpares g) := by
  rw [State.keepSpares, State.keepSpares, h.sv]
  exact h.breakUp g _

/-- A group that is closed has no open lode; SEALED lodes and stripes that end change no place (R252). -/
theorem closeGroup_step (s : State) (g : Nat) :
    State.StockLike { s with stk := { s.stk with openLode := SMap.put 0 g 0 s.stk.openLode } } (s.closeGroup g) :=
  forEach (mapLodes (.refl _) (fun p => by dsimp only; split <;> rfl) fun p => by
    dsimp only
    split
    next h => simp [Lode.outline, h.2.2, lodeFree, lodeOpen, lodeSealed]
    next => rfl) fun _ _ => dropStripe

theorem closeGroup (h : State.StockLike s t) (g : Nat) : State.StockLike (s.closeGroup g) (t.closeGroup g) := by
  have hopen : State.StockLike { s with stk := { s.stk with openLode := SMap.put 0 g 0 s.stk.openLode } }
      { t with stk := { t.stk with openLode := SMap.put 0 g 0 t.stk.openLode } } :=
    h.stk h.map.remaps h.map.broken h.blks h.degraded (by rw [h.openLode])
  exact ((closeGroup_step s g).symm.trans hopen).trans (closeGroup_step t g)

/-- A group that was not DEGRADED turns so. -/
theorem degradeNow (h : State.StockLike s t) (g : Nat) : State.StockLike (s.degradeNow g) (t.degradeNow g) := by
  have hbit : State.StockLike { s with stk := { s.stk with degraded := withBit g true s.stk.degraded } }
      { t with stk := { t.stk with degraded := withBit g true t.stk.degraded } } :=
    h.stk h.map.remaps h.map.broken h.blks (by rw [h.degraded]) h.openLode
  have hshown := (hbit.wr_both (f := STK_STATUS.DEGRADED) hbit.degraded (by simp [STK_STATUS.DEGRADED])).wr_both
    (f := STK_GRPA.STATE g) (v := 1) rfl (by simp only [STK_GRPA.STATE]; omega)
  exact ((hshown.both (f := fun s => s.raise 699) fun s => .raise (.refl s) (by decide)).both
    (f := fun s => s.sealGroup g) fun s => .sealGroup (.refl s)).closeGroup g

theorem degrade (h : State.StockLike s t) (g : Nat) : State.StockLike (s.degrade g) (t.degrade g) := by
  rw [State.degrade_eq, State.degrade_eq, h.degraded]
  split
  · exact h
  · exact h.degradeNow g

theorem remapSlot (h : State.StockLike s t) (n lode d p : Nat) : State.StockLike (s.remapSlot n lode d p) (t.remapSlot n lode d p) := by
  have hspare : State.StockLike (if (s.spares n p).isEmpty ∧ s.fallowLeft (chanGroup n) then s.breakOne (chanGroup n) else s)
      (if (t.spares n p).isEmpty ∧ t.fallowLeft (chanGroup n) then t.breakOne (chanGroup n) else t) := by
    rw [h.spares, h.fallowLeft]
    split
    · exact h.breakOne _
    · exact h
  unfold State.remapSlot
  dsimp only
  rw [hspare.spares]
  split
  · exact hspare.degrade _
  · exact (hspare.useSpare ..).keepSpares _

theorem slotsOf (h : State.StockLike s t) (g : Nat) : t.slotsOf g = s.slotsOf g := by
  have htargets : t.targets = s.targets := funext h.map.targets
  rw [State.slotsOf, State.slotsOf, htargets, h.sv]

theorem remapBad (h : State.StockLike s t) (g n : Nat) : State.StockLike (s.remapBad g n) (t.remapBad g n) := by
  unfold State.remapBad
  rw [h.slotsOf]
  refine h.forEach_both fun s t x h => ?_
  dsimp only
  rw [h.map.slotBlock, h.blk]
  unfold State.when
  split
  · exact h.remapSlot ..
  · exact h

/-! The place itself -/

theorem lodeReady (h : State.StockLike s t) (g n : Nat) : t.lodeReady g n = s.lodeReady g n := by
  have hfree : t.lodeErasedNow g n = s.lodeErasedNow g n := congrArg (fun x => x.2.2) (h.lodes g n)
  rw [State.lodeReady, State.lodeReady, hfree, h.intents]

theorem freeLodes (h : State.StockLike s t) (g : Nat) : t.freeLodes g = s.freeLodes g := by
  have hready : t.lodeReady g = s.lodeReady g := funext (h.lodeReady g)
  rw [State.freeLodes, State.freeLodes, State.stockLodes, State.stockLodes, h.sv, h.map.stockBase, hready]

theorem lodeTotal (h : State.StockLike s t) (g n : Nat) : t.lodeTotal g n = s.lodeTotal g n := by
  simp only [State.lodeTotal, State.lodeSlots, h.slotsOf, h.map.slotBlock, h.blockErases]

theorem stockLode (h : State.StockLike s t) (g : Nat) : t.stockLode g = s.stockLode g := by
  have htotal : (fun n => (t.lodeTotal g n, n)) = fun n => (s.lodeTotal g n, n) := funext fun n => by rw [h.lodeTotal]
  rw [State.stockLode, State.stockLode, h.openLode, State.bestFree, State.bestFree, h.freeLodes, htotal]

theorem stockS (h : State.StockLike s t) (g : Nat) : t.stockS g = s.stockS g := by
  rw [State.stockS, State.stockS, State.sumpS, State.sumpS, State.groupT, State.groupT, h.sv, h.sv, h.map.targets]

theorem stripeLode (h : State.StockLike s t) (g num : Nat) : t.stripeLode g num false = s.stripeLode g num false := by
  simp only [State.stripeLode, Bool.false_eq_true, if_false, h.map.stockBase, h.stockS]

theorem groupTakes (h : State.StockLike s t) (g : Nat) : t.groupTakes g = s.groupTakes g := by
  have hon : t.groupOn g = s.groupOn g := by
    rw [State.groupOn, State.groupOn, State.hasSec, State.hasSec, State.svOn, State.svOn, h.sv, h.map.svy]
  rw [State.groupTakes, State.groupTakes, hon, h.degraded]

theorem stripeBlocks (h : State.StockLike s t) (g num : Nat) : t.stripeBlocks g num false = s.stripeBlocks g num false := by
  have hstep : t.groupStep g = s.groupStep g := by rw [State.groupStep, State.groupStep, State.hasSec, State.hasSec, h.sv, h.map.svy]
  have hplace (j : Nat) (tlc : Bool) : t.stripePlace g j tlc = s.stripePlace g j tlc := by
    rw [State.stripePlace, State.stripePlace, State.groupT, State.groupT, h.sv, h.map.targets]
  simp only [State.stripeBlocks, State.stripeChan, hstep, hplace, h.stripeLode, h.map.slotBlock]

theorem mayProgram (h : State.StockLike s t) {n : Nat} (hn : n < 72) (d b : Nat) (boot : Bool) :
    t.mayProgram n d b boot = s.mayProgram n d b boot := by
  have hhi (w : Nat) {f : Fld} (hf : f.addr = 0x300804 + n * 0x2000 + w * 8) : t.rd f = s.rd f := h.rd (by omega)
  have hlo (w : Nat) {f : Fld} (hf : f.addr = 0x300800 + n * 0x2000 + w * 8) : t.rd f = s.rd f := h.rd (by omega)
  have hmode : t.wpMode n d b = s.wpMode n d b := by
    unfold State.wpMode State.on
    rw [h.sectors n hn]
    simp only [hhi _ (f := NCH_WPHI.VALID n _) rfl, hhi _ (f := NCH_WPHI.TARGET n _) rfl, hhi _ (f := NCH_WPHI.MODE n _) rfl,
      hlo _ (f := NCH_WPLO.FIRST n _) rfl, hlo _ (f := NCH_WPLO.LAST n _) rfl]
  rw [State.mayProgram, State.mayProgram, hmode]

end State.StockLike

/-- The blocks of a group's stripe lie on its nine channels (R212). -/
theorem State.chan_of_mem_stripeBlocks {s : State} {g num : Nat} {sump : Bool} {x : Nat × Nat × Nat}
    (hx : x ∈ s.stripeBlocks g num sump) : x.1 / 9 = g := by
  simp only [State.stripeBlocks, List.mem_map] at hx
  obtain ⟨d, -, rfl⟩ := hx
  simp only [State.stripeChan]
  split <;> omega

namespace State.StockLike

variable {s t : State}

theorem setLode (h : State.StockLike s t) (g n : Nat) {l m : Lode} (hl : m.outline = l.outline) :
    State.StockLike (s.setLode g n l) (t.setLode g n m) where
  map := ⟨h.map.svy, h.map.remaps, h.map.broken⟩
  blks := h.blks
  degraded := h.degraded
  openLode := h.openLode
  intents := h.intents
  lodes g' n' := by
    rw [State.lode_setLode, State.lode_setLode]
    split
    · exact hl
    · exact h.lodes g' n'
  words := h.words
  sectors := h.sectors

/-- The number and the place of the next stripe of a lode (R211, R218, R222). -/
theorem takeIn (h : State.StockLike s t) (g n : Nat) :
    (t.takeIn g n).1 = (s.takeIn g n).1 ∧ State.StockLike (s.takeIn g n).2 (t.takeIn g n).2 := by
  have hmended : State.StockLike (s.when ((s.lode g n).used == 0) fun s => s.remapBad g n)
      (t.when ((t.lode g n).used == 0) fun s => s.remapBad g n) := by
    rw [h.used]
    unfold State.when
    split
    · exact h.remapBad g n
    · exact h
  have hlode : State.StockLike (s.lodeTake g n 1 false 0) (t.lodeTake g n 1 false 0) := by
    refine State.StockLike.stk (hmended.setLode g n ?_) hmended.map.remaps hmended.map.broken hmended.blks hmended.degraded hmended.openLode
    have hsame := hmended.lodes g n
    simp only [Lode.outline, Prod.mk.injEq] at hsame
    obtain ⟨hused, herases, hfree⟩ := hsame
    simp only [Lode.outline, Lode.take, hused, herases]
    refine congrArg _ (congrArg _ ?_)
    split <;> split <;> simp_all
  refine ⟨?_, ?_⟩
  · simp only [State.takeIn, h.used, h.stockS, h.map.stockBase]
  · unfold State.takeIn
    dsimp only
    rw [h.used, h.stockS]
    exact hlode.stk hlode.map.remaps hlode.map.broken hlode.blks hlode.degraded (by rw [hlode.openLode])

/-- The sectors allow a stripe's programs in both, or in neither (R233). -/
theorem programs (h : State.StockLike s t) {g : Nat} (hg : g < 8) (num : Nat) :
    (t.stripeBlocks g num false).all (fun x => t.mayProgram x.1 x.2.1 x.2.2 false) =
      (s.stripeBlocks g num false).all (fun x => s.mayProgram x.1 x.2.1 x.2.2 false) := by
  rw [h.stripeBlocks, Bool.eq_iff_iff, List.all_eq_true, List.all_eq_true]
  refine forall₂_congr fun x hx => ?_
  have := State.chan_of_mem_stripeBlocks hx
  rw [h.mayProgram (by omega)]

/-- So whether the next stripe is refused (R233, R252). -/
theorem mayIssue (h : State.StockLike s t) {g : Nat} (hg : g < 8) : t.mayIssue g false = s.mayIssue g false := by
  simp only [State.mayIssue, Bool.false_eq_true, if_false, State.takeStock, h.stockLode]
  cases s.stockLode g with
  | none => rfl
  | some n =>
    have hopen : State.StockLike { s with stk := { s.stk with openLode := SMap.put 0 g (n + 1) s.stk.openLode } }
        { t with stk := { t.stk with openLode := SMap.put 0 g (n + 1) t.stk.openLode } } :=
      h.stk h.map.remaps h.map.broken h.blks h.degraded (by rw [h.openLode])
    obtain ⟨hnum, htaken⟩ := hopen.takeIn g n
    dsimp only
    rw [hnum, htaken.groupTakes, htaken.programs hg]

end State.StockLike

/-! ### Moves (R165, R184, R222, R225, R246) -/

/-- The parts of the state that a move of setts reaches. -/
abbrev moveParts : List Part := [.regs, .slb, .adm, .haul, .stk, .cip, .seq, .flt]

/-- Setts are readied for a move from `s` to `t`: nothing outside of what a move reaches has changed, nor the map, nor the place that
the next stripe finds. -/
structure State.Readied (s t : State) : Prop where
  parts : keepsBut moveParts s t
  lmap : t.slb.lmap = s.slb.lmap
  place : State.StockLike s t

namespace State.Readied

variable {s t : State}

theorem refl (s : State) : State.Readied s s := ⟨keepsBut_refl _ s, rfl, .refl s⟩

theorem ite {u : State} {c : Prop} [Decidable c] (ht : State.Readied s t) (hu : State.Readied s u) : State.Readied s (if c then t else u) := by
  split
  · exact ht
  · exact hu

theorem when {b : Bool} {f : State → State} (h : State.Readied s t) (hf : ∀ t, State.Readied s t → State.Readied s (f t)) :
    State.Readied s (t.when b f) := ite (hf t h) h

theorem forEach {A : Type} {as : List A} {f : State → A → State} (h : State.Readied s t)
    (hf : ∀ t a, State.Readied s t → State.Readied s (f t a)) : State.Readied s (t.forEach as f) := by
  unfold State.forEach
  induction as generalizing t with
  | nil => exact h
  | cons a as ih => exact ih (hf t a h)

theorem wr {f : Fld} {v : Nat} (h : State.Readied s t) (hf : f.addr < 0x300000) : State.Readied s (t.wr f v) :=
  ⟨keepsBut_wr h.parts (by decide), h.lmap, h.place.wr hf⟩

theorem raise {src : Nat} (h : State.Readied s t) (hs : 504 ≤ src) : State.Readied s (t.raise src) :=
  ⟨keepsBut_raise h.parts (by decide) (by decide), h.lmap, h.place.raise hs⟩

theorem haul {x : HaulSt} (h : State.Readied s t) : State.Readied s { t with haul := x } :=
  ⟨keepsBut_haul h.parts (by decide), h.lmap, h.place.haul⟩

theorem cip {x : CipSt} (h : State.Readied s t) : State.Readied s { t with cip := x } :=
  ⟨keepsBut_cip h.parts (by decide), h.lmap, h.place.cip⟩

theorem reclaim {w : Word} (h : State.Readied s t) : State.Readied s (t.reclaim w) := by
  have hother : keepsBut moveParts s (t.reclaim w) ∧ (t.reclaim w).slb.lmap = s.slb.lmap := by
    unfold State.reclaim State.when
    extract_lets q
    split
    · exact ⟨keepsBut_setLode h.parts (by decide), h.lmap⟩
    · exact ⟨h.parts, h.lmap⟩
  exact ⟨hother.1, hother.2, h.place.reclaim⟩

theorem pay {k n : Nat} (h : State.Readied s t) (hk : k < 8) : State.Readied s (t.pay k n) :=
  wr (wr h (by simp only [ADM_CLS.BUCKET]; omega)) (by simp [ADM_STATUS.OVERDRAW])

theorem countPage {k pair : Nat} (h : State.Readied s t) (hk : k < 64) : State.Readied s (t.countPage k pair) := by
  have hcounted : State.Readied s (t.wr48 (CIP_SLCT_LO.COUNTER k) (CIP_SLCT_HI.COUNTER k) (t.slotCtr k + 1)) :=
    wr (wr h (by simp only [CIP_SLCT_LO.COUNTER]; omega)) (by simp only [CIP_SLCT_HI.COUNTER]; omega)
  refine when (when hcounted fun _ h => raise (wr h ?_) ?_) fun _ h => wr h ?_
  · simp only [CIP_SLST.WARN]; omega
  · omega
  · simp only [CIP_SLST.LIMIT]; omega

theorem nextPair (h : State.Readied s t) : State.Readied s t.nextPair.2 := by
  have hlt : (((List.range 12).map (fun i => (t.cip.next + i) % 12)).find? t.pairServes).getD 0 < 12 := by
    cases hfound : ((List.range 12).map (fun i => (t.cip.next + i) % 12)).find? t.pairServes with
    | none => decide
    | some p =>
      have hmem := List.mem_of_find?_eq_some hfound
      simp only [List.mem_map] at hmem
      obtain ⟨i, -, rfl⟩ := hmem
      exact Nat.mod_lt _ (by decide)
  exact cip (ite (wr h (by simp only [CLK_ISL.STATE]; omega)) h)

theorem encPages {k n : Nat} (h : State.Readied s t) (hk : k < 64) : State.Readied s (t.encPages k n).2 := by
  unfold State.encPages
  generalize hx : (([] : List (Nat × Nat)), t) = x
  have h' : State.Readied s x.2 := hx ▸ h
  clear hx
  induction List.range n generalizing x with
  | nil => exact h'
  | cons i l ih => exact ih _ (countPage (nextPair h') hk)

theorem settRec {typ k slot : Nat} (h : State.Readied s t) (hk : slot < 64) : State.Readied s (t.settRec typ k slot).2 := h.encPages hk

end State.Readied

/-- The active slot of a pair is one of its two (R397). -/
theorem State.activeSlot_lt {s : State} {pair k : Nat} (h : s.activeSlot pair = some k) : k < 2 * pair + 2 := by
  have hmem := List.mem_of_find?_eq_some h
  simp only [List.mem_cons, List.not_mem_nil, or_false] at hmem
  omega

theorem State.metaSlot_lt {s : State} {k : Nat} (h : s.metaSlot = some k) : k < 64 := State.activeSlot_lt h

theorem State.settSlot_lt {s : State} {j k : Nat} (h : s.settSlot j = some k) : k < 64 := by
  unfold State.settSlot at h
  extract_lets f at h
  split at h
  · have hpair : s.sv (FACES.KEY_PAIR f) < 2 ^ 5 := Nat.mod_lt _ (Nat.two_pow_pos 5)
    have := State.activeSlot_lt h
    omega
  · cases h

theorem State.Readied.padRec {s t : State} (h : State.Readied s t) : State.Readied s t.padRec.2 := by
  unfold State.padRec
  split
  · exact h
  next hk => exact h.encPages (State.metaSlot_lt hk)

/-! ### The stripe of a move (R165, R184, R222, R246) -/

/-- A stripe has been issued that moves sett `k` from `w` as record `r`, under its own sequence number. -/
def State.ShowsMove (t : State) (kind k : Nat) (w : Word) (r : Rec) : Prop :=
  t.haul.stripes.any (fun x =>
    x.a == some k && x.kind == kind && x.oldA == w && x.recA.map (fun y => { y with pseq := r.pseq }) == some r) = true

/-- Such a stripe stands among those issued, its record aside. -/
theorem State.ShowsMove.any {t : State} {kind k : Nat} {w : Word} {r : Rec} (h : t.ShowsMove kind k w r) :
    t.haul.stripes.any (fun x => x.a == some k && x.kind == kind && x.oldA == w) = true := by
  obtain ⟨x, hx, hmoves⟩ := List.any_eq_true.1 h
  exact List.any_eq_true.2 ⟨x, hx, (Bool.and_eq_true _ _ ▸ hmoves).1⟩

theorem State.charge_keepsBut (s : State) (cls : Nat) (sump : Bool) : keepsBut [.regs, .adm] s (s.charge cls sump) :=
  keepsBut_when (keepsBut_wr (keepsBut_wr (keepsBut_adm (keepsBut_refl _ s) (by decide)) (by decide)) (by decide))
    fun _ h => keepsBut_wr h (by decide)

section
variable {s : State} {g num cls kind k : Nat} {b : Option Nat} {w w' : Word} {r : Rec} {r' : Option Rec}

/-- The wear of a stripe is charged once it is issued (R169, R171). -/
theorem State.ShowsMove.charge {u : State} (h : u.ShowsMove kind k w r) (hparts : keepsBut [.regs, .adm, .haul, .stk] s u)
    (hslb : u.slb = s.slb) (cls : Nat) (sump : Bool) :
    (u.charge cls sump).ShowsMove kind k w r ∧ keepsBut [.regs, .adm, .haul, .stk] s (u.charge cls sump) ∧
      (u.charge cls sump).slb = s.slb := by
  have hcharge := u.charge_keepsBut cls sump
  have hhaul : (u.charge cls sump).haul = u.haul := hcharge .haul (by decide)
  have hslb' : (u.charge cls sump).slb = u.slb := hcharge .slb (by decide)
  refine ⟨?_, keepsBut_trans hparts (keepsBut_mono hcharge (by decide)), hslb'.trans hslb⟩
  rw [State.ShowsMove, hhaul]
  exact h

/-- A stripe whose programs the sectors allow is issued (R184, R233). -/
theorem State.issueAt_shows {u : State} (hg : g < 8)
    (hmay : (s.stripeBlocks g num false).all (fun x => s.mayProgram x.1 x.2.1 x.2.2 false) = true)
    (hu : s.issueAt num g false cls kind (some k) b w w' (some r) r' = u) :
    u.ShowsMove kind k w r ∧ keepsBut [.regs, .adm, .haul, .stk] s u ∧ u.slb = s.slb := by
  unfold State.issueAt at hu
  extract_lets q id x t n st y v p at hu
  have ht : keepsBut [.regs, .adm, .haul, .stk] s t := keepsBut_haul (keepsBut_refl _ s) (by decide)
  have hplace : State.StockLike s t := .haul (.refl s)
  have hall := (hplace.programs hg num).trans hmay
  split at hu
  next z l hrefused =>
    have hz : z ∈ (t.stripeBlocks g num false).filter fun x => !t.mayProgram x.1 x.2.1 x.2.2 false := hrefused ▸ List.mem_cons_self ..
    rw [List.mem_filter] at hz
    obtain ⟨hmem, hnot⟩ := hz
    simp [List.all_eq_true.1 hall z hmem] at hnot
  next =>
    subst hu
    have hp : keepsBut [.regs, .adm, .haul, .stk] s p := keepsBut_stk (keepsBut_haul ht (by decide)) (by decide)
    refine State.ShowsMove.charge ?_ hp (hp .slb (by decide)) cls false
    have hstripes : p.haul.stripes = s.haul.stripes ++ [st] := rfl
    rw [State.ShowsMove, hstripes, List.any_append]
    simp [st]

/-- The place of the next stripe is taken (R211, R215). -/
theorem State.takeStock_shows {t : State} (h : s.takeStock g = some (num, t)) :
    keepsBut [.regs, .slb, .haul, .stk, .flt] s t ∧ t.slb.lmap = s.slb.lmap := by
  unfold State.takeStock at h
  split at h
  · cases h
  next n _ =>
    obtain rfl : _ = t := congrArg Prod.snd (Option.some.inj h)
    have hmended : State.StockStep s (({ s with stk := { s.stk with openLode := SMap.put 0 g (n + 1) s.stk.openLode } }).when
        ((({ s with stk := { s.stk with openLode := SMap.put 0 g (n + 1) s.stk.openLode } }).lode g n).used == 0)
        fun s => s.remapBad g n) :=
      .when (.stk (.refl s)) fun _ => .remapBad
    exact ⟨keepsBut_stk (keepsBut_stk (keepsBut_setLode hmended.parts (by decide)) (by decide)) (by decide), hmended.lmap⟩

/-- A stripe that is not refused is issued (R184, R218, R252). -/
theorem State.issue_shows (hg : g < 8) (hmay : s.mayIssue g false = true) :
    let t := s.issue g false cls kind (some k) b w w' (some r) r'
    t.ShowsMove kind k w r ∧ keepsBut moveParts s t ∧ t.slb.lmap = s.slb.lmap := by
  simp only [State.mayIssue, State.issue, Bool.false_eq_true, if_false] at hmay ⊢
  cases htake : s.takeStock g with
  | none => simp [htake] at hmay
  | some p =>
    simp only [htake, Bool.and_eq_true] at hmay ⊢
    obtain ⟨htakes, hplace⟩ := hmay
    obtain ⟨hparts, hlmap⟩ := State.takeStock_shows htake
    obtain ⟨hshows, hissued, hslb⟩ := State.issueAt_shows (cls := cls) (kind := kind) (k := k) (b := b) (w := w) (w' := w') (r := r)
      (r' := r') hg hplace rfl
    rw [if_pos htakes]
    exact ⟨hshows, keepsBut_trans (keepsBut_mono hparts (by decide)) (keepsBut_mono hissued (by decide)), hslb ▸ hlmap⟩

end

theorem State.loc_of_lmap {s t : State} (h : t.slb.lmap = s.slb.lmap) (k : Nat) : t.loc k = s.loc k := by
  rw [State.loc, State.loc, h]

/-- Once setts are readied, the stripe of their move is issued, and their map entries stay until it ends (R184, R222). -/
theorem State.Readied.issueMove {s t : State} {g cls kind k : Nat} {r : Rec} {j : Option (Nat × Rec)} (h : State.Readied s t) (hg : g < 8)
    (hcls : cls < 8) (hmay : s.mayIssue g false = true) :
    let u := t.issueMove g cls kind k r j
    u.ShowsMove kind k (s.loc k) r ∧ (kind = 1 → u.stk.reworking = true) ∧ u.loc k = s.loc k ∧ keepsBut moveParts s u := by
  unfold State.issueMove
  extract_lets ks v pad u
  have hv : State.Readied s v := h.when fun _ h => h.forEach fun _ _ h => h.reclaim
  have hpad : State.Readied s pad.2 := by
    cases j with
    | some x => exact hv
    | none => exact hv.padRec
  have hpaid : State.Readied s (pad.2.pay cls ks.length) := hpad.pay hcls
  obtain ⟨hshows, hparts, hlmap⟩ := State.issue_shows (cls := cls) (kind := kind) (k := k) (b := j.map (fun x => x.1)) (w := v.loc k)
    (w' := (j.map (fun x => v.loc x.1)).getD 0) (r := r) (r' := pad.1) hg ((hpaid.place.mayIssue hg).trans hmay)
  have hmoved : u.ShowsMove kind k (v.loc k) r := hshows
  rw [State.loc_of_lmap hv.lmap] at hmoved
  refine ⟨hmoved, ?_, State.loc_of_lmap (hlmap.trans hpaid.lmap) k, keepsBut_stk (keepsBut_trans hpaid.parts hparts) (by decide)⟩
  rintro rfl
  obtain ⟨x, hx, hmoves⟩ := List.any_eq_true.1 hmoved.any
  simp only [Bool.and_eq_true] at hmoves
  exact List.any_eq_true.2 ⟨x, hx, hmoves.1.2⟩

/-! ### Which lodes and groups moves use (R184, R243 to R246) -/

theorem State.nextGroup_lt {s : State} {sump : Bool} {g : Nat} (h : s.nextGroup sump = some g) : g < 8 := by
  have hmem := List.mem_of_find?_eq_some h
  simp only [List.mem_map] at hmem
  obtain ⟨i, -, rfl⟩ := hmem
  exact Nat.mod_lt _ (by decide)

theorem locGroup_lt (w : Word) : locGroup w < 8 := Nat.mod_lt _ (by decide)

theorem State.moveGroup_lt {s : State} {q g : Nat} (hq : q < 8) (h : s.moveGroup q = some g) : g < 8 := by
  unfold State.moveGroup at h
  split at h
  · cases h
    exact hq
  · split at h
    · exact State.nextGroup_lt h
    · cases h

theorem State.reworkClass_lt {s : State} {g c : Nat} (h : s.reworkClass g = some c) : c < 8 := by
  unfold State.reworkClass at h
  extract_lets at h
  split at h
  · cases h
    decide
  · split at h <;> cases h
    decide

/-- Class 1 or class 6 pays for the lodes under rework (R165, R245). -/
theorem State.reworkNow_lt {s : State} {g n c : Nat} (h : (n, c) ∈ s.reworkNow g) : c < 8 := by
  unfold State.reworkNow at h
  rcases List.mem_append.1 h with hfirst | hwear
  · split at hfirst
    next hclass =>
      simp only [Option.mem_toList, Option.map_eq_some_iff, Prod.mk.injEq] at hfirst
      obtain ⟨-, -, -, rfl⟩ := hfirst
      exact State.reworkClass_lt hclass
    next => cases hfirst
  · simp only [List.mem_map, Prod.mk.injEq] at hwear
    obtain ⟨-, -, -, rfl⟩ := hwear
    decide

/-! ### Rework, fold and rewrap (R222, R225, R246) -/

/-- What a move of a sett leaves: its stripe among those issued, and its map entry until that ends. -/
def State.MovesSett (s : State) (kind k : Nat) (u : State) : Prop :=
  u.haul.stripes.any (fun x => x.a == some k && x.kind == kind && x.oldA == s.loc k) = true ∧ u.loc k = s.loc k ∧ keepsBut moveParts s u

/-- A sett of a lode under rework moves (R225, R245). -/
theorem State.doRework_shows {s : State} {k n c g : Nat} {r : Rec} (hrun : s.movesRun = true) (hstock : locKind (s.loc k) = 1)
    (hstill : s.moving k = false)
    (hsource : (s.reworkNow (locGroup (s.loc k))).find? (fun x => x.1 == (s.locLode (s.loc k)).2) = some (n, c))
    (hrec : s.recAt (s.loc k) = some r) (hgroup : s.moveGroup (locGroup (s.loc k)) = some g) (hmay : s.mayIssue g false = true)
    (hpay : s.canPay c 1 (decide (c = 1) && s.overRate) = true) :
    (s.doRework k).ShowsMove 1 k (s.loc k) r ∧ (s.doRework k).stk.reworking = true ∧ (s.doRework k).loc k = s.loc k ∧
      keepsBut moveParts s (s.doRework k) := by
  have hlode : (s.locLode (s.loc k)).1 = locGroup (s.loc k) := rfl
  have he : ∃ j, s.doRework k = s.issueMove g c 1 k r j := by
    unfold State.doRework
    simp only [hrun, hstock, hstill, hlode, hsource, hrec, hgroup, hpay, beq_self_eq_true, Bool.not_false, Bool.and_self, if_true]
    exact ⟨_, rfl⟩
  obtain ⟨j, he⟩ := he
  rw [he]
  obtain ⟨hshows, hreworking, hloc, hparts⟩ := (State.Readied.refl s).issueMove (kind := 1) (k := k) (r := r) (j := j)
    (State.moveGroup_lt (locGroup_lt _) hgroup) (State.reworkNow_lt (List.mem_of_find?_eq_some hsource)) hmay
  exact ⟨hshows, hreworking rfl, hloc, hparts⟩

/-- A sett is encrypted anew and moves, alone or with a partner (R222, R246). -/
theorem State.moveDram_shows {s : State} {cls kind k slot g : Nat} {ok : Nat → Bool} (hcls : cls < 8) (hslot : s.settSlot k = some slot)
    (hgroup : s.nextGroup false = some g) (hkey : s.mayEncrypt slot false = true) (hpairs : s.pairsIn ≠ 0)
    (hmay : s.mayIssue g false = true) (hpay : s.canPay cls 1 (decide (cls = 1) && s.overRate) = true) :
    s.MovesSett kind k (s.moveDram cls kind k ok) := by
  have hk := State.settSlot_lt hslot
  have hg := State.nextGroup_lt hgroup
  have hrecs (t : State) (ht : State.Readied s t) (r : Rec) (j : Option (Nat × Rec)) : s.MovesSett kind k (t.issueMove g cls kind k r j) := by
    obtain ⟨hshows, -, hloc, hparts⟩ := ht.issueMove (kind := kind) (k := k) (r := r) (j := j) hg hcls hmay
    exact ⟨hshows.any, hloc, hparts⟩
  unfold State.moveDram
  simp only [hslot, hgroup, hkey, hpay, Bool.and_self, true_and]
  rw [if_pos hpairs]
  split
  · exact hrecs _ (.settRec (.haul (.refl s)) hk) _ _
  · exact hrecs _ (.settRec (.settRec (.haul (.refl s)) hk) hk) _ _

theorem State.doFold_shows {s : State} {k slot g : Nat} (hrun : s.movesRun = true) (hfold : s.foldable k = true)
    (hslot : s.settSlot k = some slot) (hgroup : s.nextGroup false = some g) (hkey : s.mayEncrypt slot false = true) (hpairs : s.pairsIn ≠ 0)
    (hmay : s.mayIssue g false = true)
    (hpay : s.canPay (if s.on LGR_STATUS.SUMP_BOUND then 1 else 5) 1 (s.on LGR_STATUS.SUMP_BOUND && s.overRate) = true) :
    s.MovesSett 2 k (s.doFold k) := by
  have hbound : decide ((if s.on LGR_STATUS.SUMP_BOUND then 1 else 5) = 1) = s.on LGR_STATUS.SUMP_BOUND := by
    cases s.on LGR_STATUS.SUMP_BOUND <;> rfl
  unfold State.doFold
  rw [hrun, hfold, Bool.and_self, if_pos rfl]
  exact State.moveDram_shows (by split <;> decide) hslot hgroup hkey hpairs hmay (by rw [hbound]; exact hpay)

theorem State.doRewrap_shows {s : State} {k slot g : Nat} (hrun : s.movesRun = true) (hwrap : s.wrappable k = true)
    (hslot : s.settSlot k = some slot) (hgroup : s.nextGroup false = some g) (hkey : s.mayEncrypt slot false = true) (hpairs : s.pairsIn ≠ 0)
    (hmay : s.mayIssue g false = true) (hpay : s.canPay 6 1 false = true) : s.MovesSett 3 k (s.doRewrap k) := by
  unfold State.doRewrap
  rw [hrun, hwrap, Bool.and_self, if_pos rfl]
  exact State.moveDram_shows (by decide) hslot hgroup hkey hpairs hmay hpay

/-- Settles O27: an erase that ends is noted in the journal and leaves its block or lode erased; a die that three times in a row gives no
answer is retired; patrol pays for its read; rework, fold and rewrap issue the stripe of their move and leave the map to the end of it. -/
theorem nandChannelSecond : Obligations.NandChannelSecond := by
  unfold Obligations.NandChannelSecond
  refine ⟨?_, ?_, ?_, ?_, ?_, ?_, ?_, ?_, ?_⟩
  · rintro - - c t b i s hoff hhub rfl rfl hint hrun hquiet hissued hgood hmay
    exact State.does_of_eq hoff (exec_eraseDone ..) (State.doEraseDone_of_block hhub hint hrun)
      (State.blockDone_shows hquiet hissued hgood hmay rfl)
  · rintro - - g n i s hoff hhub rfl _ rfl hint hdies
    exact State.does_of_eq hoff (exec_eraseDone ..) (State.doEraseDone_of_lode hhub hint (fun x hx => (hdies x hx).1) [])
      (State.lodeDone_shows hint (fun x hx => (hdies x hx).2) rfl)
  · intro channel target n s hoff hhub hn ht hsilent hnot
    have hthird : (SMap.get 0 (dieKey channel target) s.stk.silent + 1 == 3) = false := by simp [hsilent, hnot]
    have he := State.doDieSilent_of_fitted hhub hn ht
    rw [hthird] at he
    exact State.does_of_eq hoff (exec_dieNoAnswerTimeout ..) he
      ⟨(SMap.get_put_self ..).trans (congrArg (· + 1) hsilent), keepsBut_stk (keepsBut_refl _ s) (by decide)⟩
  · intro channel target s hoff hhub hn htarget ht hsilent
    have hthird : (SMap.get 0 (dieKey channel target) s.stk.silent + 1 == 3) = true := by simp [hsilent]
    have he := State.doDieSilent_of_fitted hhub hn ht
    rw [hthird] at he
    exact State.does_of_eq hoff (exec_dieNoAnswerTimeout ..) he ⟨State.bitAt_retireDie _ hn htarget,
      keepsBut_trans (keepsBut_stk (keepsBut_refl _ s) (by decide)) (keepsBut_mono (State.retireDie_keepsBut _ _ _) (by decide))⟩
  · intro channel target block page s hoff hhub hn hsealed hserves hpage hdue hpay
    obtain ⟨hparts, hwords⟩ := s.pay_onlyWords 7 1
    exact State.does_of_eq hoff (exec_nandPatrolRead ..) (State.doPatrol_of_due hhub hn hsealed hserves hpage hdue hpay)
      ⟨(State.rdInt_of_regs (s.regs_patrolNoted ..) _).trans (State.rdInt_pay hpay), rfl, by simp [State.patrolNoted],
        keepsBut_stk (keepsBut_mono hparts (by decide)) (by decide), keepsWords_of_regs hwords (s.regs_patrolNoted ..)⟩
  · intro sett n c r g s hoff hrun hstock hstill hsource hrec hgroup hmay hpay
    exact State.does_of_eq hoff (exec_reworkMove ..) rfl
      (State.doRework_shows hrun hstock hstill hsource hrec hgroup hmay hpay)
  · intro sett k g s hoff hrun hfold hslot hgroup hkey hpairs hmay hpay
    exact State.does_of_eq hoff (exec_sumpFold ..) rfl (State.doFold_shows hrun hfold hslot hgroup hkey hpairs hmay hpay)
  · intro sett k g s hoff hrun hwrap hslot hgroup hkey hpairs hmay hpay
    exact State.does_of_eq hoff (exec_rewrap ..) rfl (State.doRewrap_shows hrun hwrap hslot hgroup hkey hpairs hmay hpay)
  · intro channel target s hoff hbusy hrun hdemand hmay hover _
    exact State.does_of_eq hoff (exec_resumeMinExpiry ..) (State.doResumeMin_of_due hbusy hrun hdemand hmay hover)
      ⟨State.die_suspend .., State.rd_suspend_suspended .., State.suspend_keepsBut _ _ _⟩

end Sys2Proof.Machine
end
